-- ==== Sys2Proof/Word.lean ====
section
/-!
DEFINITION. The word types: a byte, a 32-bit register word, and byte strings (little-endian integers in them are read in
Machine/Bits.lean).
-/

namespace Sys2Proof

abbrev Byte := BitVec 8
abbrev Word := BitVec 32

/-- A byte string: a frame, a token, a section of the layout image. -/
abbrev Bytes := List Byte

end Sys2Proof
end

