-- ==== Sys2Proof/Syntax.lean ====
section
/-!
DEFINITION. The commands of the block: one constructor per row of the opcode table, in the table's order, with the
operands the model gives it (the table gives none; log entry 1), and the types of those operands.
-/

namespace Sys2Proof

/-- The privilege mode of an access from the application cluster (R30). -/
inductive BusMode where
  | machine | supervisor | user
  deriving DecidableEq, Repr

/-- The width of an access: 1, 2, 4 or 8 bytes (R27). -/
inductive BusSize where
  | b1 | b2 | b4 | b8
  deriving DecidableEq, Repr


/-- One output of the decimation chain (R210, R211): the output of FIR2 of every channel, which the phase stage takes, which
channels' bitstreams held transitions, and the readings of I²C temperature sensors completed since the last one, 0.01 °C. -/
structure Decim where
  d : List (BitVec 32)
  trans : BitVec 16
  i2c : List (Fin 8 × Int)
  deriving DecidableEq, Repr


/-- The proposal of an association request: logical-name referencing, authentication, ciphering, and its largest APDU (0: none
named). -/
structure Aarq where
  ln : Bool
  auth : Bool
  cipher : Bool
  pdu : Nat
  deriving DecidableEq, Repr

/-- What an HDLC frame on the optical port is: connect, disconnect, association request, release request, receive ready, a request
for the next block of a reply, or another frame. -/
inductive HdlcKind where
  | snrm | disc | aarq (a : Aarq) | rlrq | rr | next | other
  deriving DecidableEq, Repr

/-- A received HDLC frame: whether FCS and format hold, upper and lower server address, client address, its information
length. -/
structure HdlcRx where
  ok : Bool
  upper : Nat
  lower : Nat
  client : Nat
  info : Nat
  kind : HdlcKind
  deriving DecidableEq, Repr

/-- Pilot states A to F, in the order of their codes (R298). -/
inductive Pilot where
  | a | b | c | d | e | f
  deriving DecidableEq, Repr

/-- Whether a request or a mailbox command is the firmware's write, or its evaluation by the controller that owns it. -/
inductive Phase where
  | write | run
  deriving DecidableEq, Repr

/-- What a read of the Board configuration memory meets (R106). -/
inductive Ecc where
  | clean | corrected | uncorrectable
  deriving DecidableEq, Repr

/-- What the matrix port receives in one exchange (R161): the returned test words, the drivers' readback words and the
serialisers' words, device 0 first. -/
structure MxRx where
  testDoc : BitVec 16
  testDof : BitVec 16
  readback : List (BitVec 16)
  serial : List (BitVec 16)
  deriving DecidableEq, Repr

/-- Which of a safety output's two switches a dark test pulses (R183). -/
inductive Side where
  | high | low
  deriving DecidableEq, Repr


/-- A Lead port. -/
inductive LPort where
  | lu | ld
  deriving DecidableEq, Repr

/-- A received Lead frame: whether its destination address and Ethertype are the Lead ones, whether its FCS holds, and its
Ethernet payload, header and body. -/
structure LeadRx where
  addr : Bool
  fcs : Bool
  bytes : Bytes
  deriving DecidableEq, Repr

/-- What a cut-through frame ends on the outgoing port (R336). -/
inductive Preempt where
  | nothing | express | other
  deriving DecidableEq, Repr

/-- A yard-line window as it comes in: the samples at full scale, the matched filter's energy at the four pulse positions of each of
the 128 symbol slots, and the 24 data bytes of the codeword nearest to the symbols (R355–R357). -/
structure YardRx where
  full : Nat
  sym : List (List Nat)
  bytes : Bytes
  deriving DecidableEq, Repr


/-- The timers of the SLAC engine (R308, R309), in the order of their codes from 1. -/
inductive SlacTimer where
  | init | seq | resp | join
  deriving DecidableEq, Repr

/-- A card in the field as an activation meets it: Type B or A, halted, UID or PUPI, ATQA and SAK, whether its frames are
valid, the slots it draws in the rounds of Type B, ATS or ATQB, frame size, FWI, and its bit rates: bit r of `ds` and `dr`
for 106 × 2^r kbit/s, and whether both directions must be equal. -/
structure HfCard where
  b : Bool
  halted : Bool
  uid : Bytes
  atqa : Nat
  sak : Nat
  ok : Bool
  slots : List Nat
  ats : Bytes
  layer4 : Bool
  fsc : Nat
  fwi : Nat
  ds : Nat
  dr : Nat
  same : Bool
  deriving DecidableEq, Repr

/-- A frame a card sends in an exchange: data, with more blocks to follow or not; an acknowledgement of a chained block; the
answer to S(DESELECT); a corrupted frame. -/
inductive HfBlock where
  | info (data : Bytes) (more : Bool) | ack | deselected | bad
  deriving DecidableEq, Repr

/-- The clock sources of CLOCK_SOURCE_VALID: XO, REC recovered on LU, the RTC crystal (R488). -/
inductive ClkSrc where
  | xo | lu | rtc
  deriving DecidableEq, Repr

/-- What the analog-power die reports in a tempo (R10): the states of the safety outputs and of the load channels. -/
structure Report where
  so : BitVec 4
  lc : BitVec 16
  deriving DecidableEq, Repr

/-- The write of a mailbox command that reads the FRAM, or its evaluation, with whether the FRAM answers the read without error
(R252). -/
inductive ReadPhase where
  | write
  | run (ok : Bool)
  deriving DecidableEq, Repr

/-- What a GET names: interface class and OBIS code (R291). -/
structure CosemAttr where
  cls : Nat
  obis : List Nat
  deriving DecidableEq, Repr

/-- The commands: what software, the links, the pins, the clocks and the block's own engines do to it. -/
inductive Instr where
  /-- TEMPO_EDGE (R55): the bits a fault flips in the program-flow signature register -/
  | tempoEdge (upset : BitVec 16)
  /-- FREEZE (R55): the finish cycle, the report of the analog-power die (R10), and that the excitation current lies in its window -/
  | freeze (fin : Nat) (rep : Report) (exc : Bool)
  /-- MOVE_TRUE (R104): the finish cycle, what the reads meet, and the elements of squares a fault inverts -/
  | moveTrue (fin : Nat) (ecc : Ecc) (flips : List (Fin 64 × Fin 21))
  /-- MOVE_COMP (R104): as MOVE_TRUE -/
  | moveComp (fin : Nat) (ecc : Ecc) (flips : List (Fin 64 × Fin 21))
  /-- COMPARE (R105): the finish cycle -/
  | compare (fin : Nat)
  /-- SEQ (R117) -/
  | seq (fin : Nat)
  /-- MATRIX (R143) -/
  | matrix (fin : Nat)
  /-- MXPORT (R163) -/
  | mxport (fin : Nat) (rx : MxRx)
  /-- SCRUB (R107): what the reads meet, and bytes of the configuration memory that have changed -/
  | scrub (fin : Nat) (ecc : Ecc) (upset : List (Nat × Byte))
  /-- INTEGRATE (R233) -/
  | integrate (fin : Nat)
  /-- BOOK (R285) -/
  | book (fin : Nat)
  /-- BOARD_TIMER_EXPIRY (R99): the square, and which of its timers -/
  | boardTimerExpiry (k : Fin 64) (t1 : Bool)
  /-- BOARD_COUNTER_TERMINAL (R100) -/
  | boardCounterTerminal (k : Fin 64)
  /-- COMPARATOR_STALE (R101) -/
  | comparatorStale (k : Fin 64)
  /-- WRITE_REGISTER (R31): address, value, width and privilege mode of a write -/
  | writeRegister (addr : BitVec 36) (v : BitVec 64) (size : BusSize) (mode : BusMode)
  /-- W1C_CLEAR (R38): the register, the ones written, the flags hardware sets in the same cycle -/
  | w1cClear (addr : BitVec 36) (mask hw : Word) (mode : BusMode)
  /-- EVCNT_CLR (R41): the counter, and whether an event occurs in the same cycle -/
  | evcntClr (addr : BitVec 36) (event : Bool) (mode : BusMode)
  /-- SEAL (R34) -/
  | seal (mode : BusMode)
  /-- READ_LO_SHADOW (R51): any read -/
  | readLoShadow (addr : BitVec 36) (size : BusSize) (mode : BusMode)
  /-- WRITE_HI_COMMIT (R52) -/
  | writeHiCommit (addr : BitVec 36) (v : Word) (mode : BusMode)
  /-- INTERDIE_TRANSFER (R9): the CRC of the transfer and of its repeat; the stream values it carries -/
  | interdieTransfer (ok1 ok2 : Bool) (vals : List (Fin 64 × Int))
  /-- PERSIST_REQUEST (R11) -/
  | persistRequest
  /-- PERSIST_COMMIT_ACK (R11) -/
  | persistCommitAck
  /-- TIME_SOURCE_LOST (R69): `absent`: the coordinator's time source is absent, or has come back -/
  | timeSourceLost (absent : Bool)
  /-- PTP_OFFSET_TIMEOUT (R365) -/
  | ptpOffsetTimeout
  /-- PTP_OFFSET_WRITE (R365): ns -/
  | ptpOffsetWrite (ofs : Int)
  /-- SYNC_TIME_RX (R332): `ns`: receipt after the most recent edge; `res`: residence, ns -/
  | syncTimeRx (p : LPort) (rx : LeadRx) (ns : Nat) (res : Nat)
  /-- DREQ_SEND (R332): send time after the most recent edge, ns -/
  | dreqSend (ns : Nat)
  /-- DREQ_RX (R332) -/
  | dreqRx (p : LPort) (rx : LeadRx) (ns : Nat)
  /-- SYNC_LOSS (R75): `recLost`: the recovered clock lies outside the monitor window -/
  | syncLoss (recLost : Bool)
  /-- STEP_TO_SYNC (R78) -/
  | stepToSync
  /-- LAYOUT_LOAD (R91) -/
  | layoutLoad
  /-- LOCKSTEP_FAULT (R172) -/
  | lockstepFault
  /-- SAFE_SRAM_ERROR (R172) -/
  | safeSramError (double : Bool)
  /-- SAFE_SRAM_SCRUB (R172): the errors the pass finds -/
  | safeSramScrub (single : Bool) (double : Bool)
  /-- SAFE_ROM_PARITY (R172) -/
  | safeRomParity
  /-- TEMPO_WD (R172): time since the previous edge as the IRC watchdog measures it -/
  | tempoWd (ns : Nat)
  /-- SUPPLY_FAULT (R172): `inWindow`: the rail has returned to its window -/
  | supplyFault (rail : BitVec 8) (inWindow : Bool)
  /-- DIE_TEMP_SAMPLE (R172): 0.01 °C -/
  | dieTempSample (die : Fin 2) (t : Int)
  /-- TEMPSENSE (R172): disagreement in 0.01 K and how long it has lasted -/
  | tempsense (die : Fin 2) (diff : Nat) (ms : Nat)
  /-- CHECK_TIMEOUT (R169) -/
  | checkTimeout (coil : Fin 64)
  /-- SAFEBIST_COMPLETE (R201) -/
  | safebistComplete (pass : Bool)
  /-- SAFETY_INPUT_ACCEPT (R176): the levels at both comparators, held for `us` -/
  | safetyInputAccept (n : Fin 24) (mvA : Int) (mvB : Int) (us : Nat)
  /-- INPUT_DISCREPANCY (R176) -/
  | inputDiscrepancy (n : Fin 24) (us : Nat)
  /-- INPUT_AGREEMENT_RESTORED (R176) -/
  | inputAgreementRestored (n : Fin 24) (us : Nat)
  /-- TEST_PULSE (R178) -/
  | testPulse (k : Fin 8)
  /-- TEST_PULSE_CHECK (R179): inputs reading 0 on both comparators at the pulse's end, and reading 1 again within 20 µs -/
  | testPulseCheck (k : Fin 8) (low : BitVec 24) (back : BitVec 24)
  /-- SO_OVERCURRENT (R182) -/
  | soOvercurrent (x : Fin 4) (ma : Nat) (us : Nat)
  /-- DARK_TEST (R183): the readback of the pulsed land and VS_LOAD, mV -/
  | darkTest (x : Fin 4) (side : Side) (mv : Int) (vs : Int)
  /-- GUARD_DISCREPANT (R185) -/
  | guardDiscrepant
  /-- GUARD_PROOF_EXPIRY (R188) -/
  | guardProofExpiry
  /-- GUARD_DUE (R189) -/
  | guardDue
  /-- ISO_CYCLE_START (R190) -/
  | isoCycleStart (n : Fin 4)
  /-- ISO_TAU_FIT (R191): the fitted time constant, µs -/
  | isoTauFit (n : Fin 4) (tau : Nat)
  /-- ISO_PHASE_P_END (R190): for an extrapolated final value, the fitted U+ at the start of the settling, mV, and e^(−t/τ) at the
  end of the phase in 2⁻³² (R191) -/
  | isoPhasePEnd (n : Fin 4) (start : Int) (decay : Nat)
  /-- ISO_PHASE_N_END (R192): for an extrapolated final value, the fitted U+ at the start of the settling, mV, and e^(−t/τ) at the
  end of the phase in 2⁻³² (R191) -/
  | isoPhaseNEnd (n : Fin 4) (start : Int) (decay : Nat)
  /-- RC_TRIP (R195) -/
  | rcTrip (tier : Fin 3)
  /-- FLUXGATE_TEST (R198): the end of the 100 ms drive, and that the excitation current lay in its window -/
  | fluxgateTest (n : Fin 4) (exc : Bool)
  /-- SAF_FLAGCLR (R32) -/
  | safFlagclr (ph : Phase) (len : Nat) (payload : Bytes)
  /-- SAF_IENSET (R79) -/
  | safIenset (ph : Phase) (len : Nat) (payload : Bytes)
  /-- WEARRST (R164) -/
  | wearrst (ph : Phase) (len : Nat) (payload : Bytes)
  /-- CHECKACK (R170) -/
  | checkack (ph : Phase) (len : Nat) (payload : Bytes)
  /-- SAFERESET (R200) -/
  | safereset (ph : Phase) (len : Nat) (payload : Bytes)
  /-- CHALLENGE_REFRESH (R200) -/
  | challengeRefresh
  /-- SAF_EVQ_READ (R205) -/
  | safEvqRead
  /-- REQ_CABLE_CHECK (R122) -/
  | reqCableCheck (n : Fin 4) (ph : Phase)
  /-- REQ_PRECHARGE (R126) -/
  | reqPrecharge (n : Fin 4) (ph : Phase)
  /-- REQ_ENERGY (R126) -/
  | reqEnergy (n : Fin 4) (ph : Phase)
  /-- REQ_STOP (R128) -/
  | reqStop (n : Fin 4) (ph : Phase)
  /-- REQ_OOS (R135) -/
  | reqOos (n : Fin 4) (ph : Phase)
  /-- REQ_SERVICE (R135) -/
  | reqService (n : Fin 4) (ph : Phase)
  /-- REQ_ACK (R117) -/
  | reqAck (n : Fin 4) (ph : Phase)
  /-- REQ_REARM (R119) -/
  | reqRearm (n : Fin 4) (ph : Phase)
  /-- AUTH_REQUEST (R115) -/
  | authRequest (n : Fin 4)
  /-- DEAUTH (R116) -/
  | deauth (n : Fin 4)
  /-- EVOPEN (R133) -/
  | evopen (n : Fin 4)
  /-- DIR_CHANGE (R137): the DIR value written -/
  | dirChange (n : Fin 4) (dir : Bool)
  /-- OUT_LIMIT_WRITE (R128) -/
  | outLimitWrite (n : Fin 4) (v : Word)
  /-- T_LOCK_EXPIRY (R117) -/
  | tLockExpiry (n : Fin 4)
  /-- T_AUTH_EXPIRY (R117) -/
  | tAuthExpiry (n : Fin 4)
  /-- T_NEG_EXPIRY (R117) -/
  | tNegExpiry (n : Fin 4)
  /-- T_CC_EXPIRY (R117) -/
  | tCcExpiry (n : Fin 4)
  /-- T_PC_EXPIRY (R117) -/
  | tPcExpiry (n : Fin 4)
  /-- T_FWWD_EXPIRY (R128) -/
  | tFwwdExpiry (n : Fin 4)
  /-- ZERO_CURRENT_CONFIRMED (R128) -/
  | zeroCurrentConfirmed (n : Fin 4)
  /-- T_RD_EXPIRY (R128) -/
  | tRdExpiry (n : Fin 4)
  /-- T_ZC_EXPIRY (R130) -/
  | tZcExpiry (n : Fin 4)
  /-- FB_MISMATCH (R123) -/
  | fbMismatch (n : Fin 4)
  /-- T_EVOPEN_EXPIRY (R133) -/
  | tEvopenExpiry (n : Fin 4)
  /-- T_WELD_EXPIRY (R133) -/
  | tWeldExpiry (n : Fin 4)
  /-- T_ACRESP_EXPIRY (R139) -/
  | tAcrespExpiry (n : Fin 4)
  /-- BUS_LOST (R129) -/
  | busLost (n : Fin 4)
  /-- BUSREQ_SEND (R343) -/
  | busreqSend
  /-- PILOT_DECISION (R297, R298): the samples of the period that ends, one every 1 µs, mV: those of its first half and of its second -/
  | pilotDecision (p : Fin 4) (fst snd : List Int)
  /-- PILOT_STATE_CONFIRMED (R119) -/
  | pilotStateConfirmed (n : Fin 4)
  /-- PROXIMITY_RESULT (R301, R302): the 100 samples of the window, µV -/
  | proximityResult (p : Fin 4) (samples : List Nat)
  /-- PLUG_DETECT (R304): the level at VnCP_SNS and how long it has lasted -/
  | plugDetect (p : Fin 4) (mv : Int) (us : Nat)
  /-- PILOT_BREAK (R305) -/
  | pilotBreak (p : Fin 4)
  /-- PILOT_BREAK_END (R305) -/
  | pilotBreakEnd (p : Fin 4)
  /-- XP_WELD (R145) -/
  | xpWeld (g : Fin 16)
  /-- T_VMATCH_EXPIRY (R155) -/
  | tVmatchExpiry (g : Fin 16)
  /-- T_XZC_EXPIRY (R154) -/
  | tXzcExpiry (g : Fin 16)
  /-- XP_FB_MISMATCH (R146) -/
  | xpFbMismatch (x : Fin 48)
  /-- MIGRATION_ABORT (R155) -/
  | migrationAbort (g : Fin 16)
  /-- PG_COMMAND_SEND (R156) -/
  | pgCommandSend (bus : Fin 2)
  /-- PG_STATUS_RX (R158) -/
  | pgStatusRx (bus : Fin 2) (id : Nat) (data : Bytes)
  /-- GROUP_LOST (R159) -/
  | groupLost (g : Fin 16)
  /-- BALANCE_UPDATE (R152) -/
  | balanceUpdate
  /-- BALANCE_SATURATED (R152) -/
  | balanceSaturated (g : Fin 16)
  /-- GRANT_SEND (R150) -/
  | grantSend
  /-- WEAR_PERSIST (R164) -/
  | wearPersist (coil : Fin 64)
  /-- DECIMATOR_OUTPUT (R211) -/
  | decimatorOutput (o : Decim)
  /-- CHANNEL_DEAD (R208): bits without a transition, and readback mismatches of its MCLK in one tempo -/
  | channelDead (c : Fin 16) (equal : Nat) (mis : Nat)
  /-- CHANNEL_RECOVERED (R208) -/
  | channelRecovered (c : Fin 16)
  /-- TEMP_TABLE_UPDATE (R218) -/
  | tempTableUpdate
  /-- TSTALE (R217) -/
  | tstale (c : Fin 16)
  /-- TRANGE_CLEAR (R216) -/
  | trangeClear (c : Fin 16)
  /-- PILOT_SEQUENCE_DRAW (R221) -/
  | pilotSequenceDraw
  /-- PILOT_BLOCK (R222) -/
  | pilotBlock
  /-- RMS_UPDATE (R239) -/
  | rmsUpdate
  /-- ZERO_CROSSING (R240): chain time of the newest decimator output, ns -/
  | zeroCrossing (t : Nat)
  /-- FREQ_UPDATE (R240) -/
  | freqUpdate
  /-- PHASE_SEQUENCE_DECIDED (R241): VB after VA and VC after VB in degrees, cycle by cycle -/
  | phaseSequenceDecided (cycles : List (Int × Int))
  /-- MISSING_NEUTRAL (R242): the energy point -/
  | missingNeutral (ep : Fin 8)
  /-- MISSING_NEUTRAL_CLEAR (R242): the energy point -/
  | missingNeutralClear (ep : Fin 8)
  /-- SUMERR (R245) -/
  | sumerr
  /-- SUMERR_CLEAR (R245) -/
  | sumerrClear
  /-- PULSE_OUTPUT (R246) -/
  | pulseOutput
  /-- PULSE_INPUT (R247): time at each level, µs -/
  | pulseInput (k : Fin 4) (hi : Nat) (lo : Nat)
  /-- PICNT_WRITE (R247): a pulse accepted in the same cycle -/
  | picntWrite (k : Fin 4) (v : Word) (pulse : Bool)
  /-- JOURNAL_WRITE_COMPLETE (R278): the write verified -/
  | journalWriteComplete (ok : Bool)
  /-- TIMESLEW (R256) -/
  | timeslew (ph : Phase) (len : Nat) (payload : Bytes)
  /-- TIMESTEP (R258) -/
  | timestep (ph : Phase) (len : Nat) (payload : Bytes)
  /-- CALLOAD (R264) -/
  | calload (ph : Phase) (len : Nat) (payload : Bytes)
  /-- CALCOMMIT (R264) -/
  | calcommit (ph : Phase) (len : Nat) (payload : Bytes)
  /-- CALCANCEL (R264) -/
  | calcancel (ph : Phase) (len : Nat) (payload : Bytes)
  /-- RECREAD (R293) -/
  | recread (ph : ReadPhase) (len : Nat) (payload : Bytes)
  /-- REGREAD (R293) -/
  | regread (ph : ReadPhase) (len : Nat) (payload : Bytes)
  /-- SHOWCHECK (R292) -/
  | showcheck (ph : Phase) (len : Nat) (payload : Bytes)
  /-- BIL_FLAGCLR (R32) -/
  | bilFlagclr (ph : Phase) (len : Nat) (payload : Bytes)
  /-- BIL_IENSET (R293) -/
  | bilIenset (ph : Phase) (len : Nat) (payload : Bytes)
  /-- BIL_EVQ_READ (R294) -/
  | bilEvqRead
  /-- FINAL_ENTRY (R283) -/
  | finalEntry
  /-- OPT_SIGNON (R289) -/
  | optSignon (chars : Bytes) (parityOk : Bool)
  /-- OPT_BAUD_ACK (R289) -/
  | optBaudAck (chars : Bytes)
  /-- OPT_IDLE_TIMEOUT (R289): time since the last character, or since the acknowledgement -/
  | optIdleTimeout (ms : Nat)
  /-- OPT_HDLC_FRAME (R290) -/
  | optHdlcFrame (f : HdlcRx)
  /-- DLMS_GET (R291): class and OBIS code, and the first and last row that a selective access to a profile names -/
  | dlmsGet (a : CosemAttr) (sel : Option (Nat × Nat))
  /-- DLMS_SET (R290) -/
  | dlmsSet (obis : List Nat)
  /-- DLMS_ACTION (R292) -/
  | dlmsAction (obis : List Nat) (script : Nat)
  /-- OPT_INACTIVITY_TIMEOUT (R290) -/
  | optInactivityTimeout
  /-- SERVICE_BUTTON (R292): how long it has been held -/
  | serviceButton (ms : Nat)
  /-- CHECK_SCREEN_ADVANCE (R292) -/
  | checkScreenAdvance
  /-- LEGAL_FIELD_ROTATE (R460) -/
  | legalFieldRotate
  /-- SLAC_PARM_REQ_RX (R308) -/
  | slacParmReqRx (p : Fin 4) (runId : Bytes) (mac : Bytes)
  /-- START_ATTEN_CHAR_RX (R308) -/
  | startAttenCharRx (p : Fin 4) (runId : Bytes)
  /-- MNBC_SOUND_RX (R308): heard on port `p`; the attenuation of the 58 carrier groups, dB -/
  | mnbcSoundRx (p : Fin 4) (runId : Bytes) (att : List Nat)
  /-- MNBC_WINDOW_EXPIRY (R308) -/
  | mnbcWindowExpiry (p : Fin 4)
  /-- ATTEN_CHAR_IND_TX (R309) -/
  | attenCharIndTx (p : Fin 4) (runId : Bytes)
  /-- ATTEN_CHAR_RSP_RX (R309) -/
  | attenCharRspRx (p : Fin 4) (runId : Bytes)
  /-- SLAC_MATCH_REQ_RX (R308) -/
  | slacMatchReqRx (p : Fin 4) (runId : Bytes)
  /-- SLAC_MATCH_CNF_TX (R308) -/
  | slacMatchCnfTx (p : Fin 4) (runId : Bytes)
  /-- EV_JOIN (R308) -/
  | evJoin (p : Fin 4)
  /-- EV_LEAVE (R308) -/
  | evLeave (p : Fin 4)
  /-- SLAC_TIMER_EXPIRY (R308) -/
  | slacTimerExpiry (p : Fin 4) (t : SlacTimer)
  /-- SLACRST (R308) -/
  | slacrst (p : Fin 4)
  /-- HPCFG_EN_WRITE (R312) -/
  | hpcfgEnWrite (p : Fin 4) (en : Bool)
  /-- MTIM_START (R313) -/
  | mtimStart (n : Fin 4) (k : Fin 2)
  /-- MTIM_STOP (R313) -/
  | mtimStop (n : Fin 4) (k : Fin 2)
  /-- MTIM_EXPIRY (R314) -/
  | mtimExpiry (n : Fin 4) (k : Fin 2)
  /-- TX_DESCRIPTOR (R316): V0–V3, M0, M1, the switch's internal port; the frame's end after the tempo's start, whether it is a SLAC message with the session's RunID, and the collisions met -/
  | txDescriptor (p : Fin 7) (ns : Nat) (own : Bool) (coll : Nat)
  /-- RX_FRAME (R317): V0–V3, M0, M1; the frame's start after the tempo's start, and whether it is a SLAC message with the session's RunID -/
  | rxFrame (p : Fin 6) (ns : Nat) (own : Bool) (frame : Bytes)
  /-- T1S_QUIET (R319) -/
  | t1sQuiet (m : Fin 2)
  /-- CAN_BUS_OFF (R320) -/
  | canBusOff (k : Fin 4)
  /-- CAN_BUS_OFF_RECOVERY (R320) -/
  | canBusOffRecovery (k : Fin 4)
  /-- CAN_SLOT_TX (R322) -/
  | canSlotTx (k : Fin 4) (n : Fin 16)
  /-- CAN_SLOT_SWAP (R322) -/
  | canSlotSwap (k : Fin 4) (n : Fin 16)
  /-- CAN_RX_FRAME (R323): `hdr`: ID, IDE, FD and BRS as the slot header -/
  | canRxFrame (k : Fin 4) (hdr : Word) (data : Bytes)
  /-- CAN_RX_TIMEOUT (R323) -/
  | canRxTimeout (k : Fin 4) (f : Fin 32)
  /-- CAN_TX_PUSH (R324) -/
  | canTxPush (k : Fin 4)
  /-- CAN_RX_HEAD_REMOVE (R323) -/
  | canRxHeadRemove (k : Fin 4)
  /-- BUDGET_RX (R342) -/
  | budgetRx (p : LPort) (rx : LeadRx) (ns : Nat) (res : Nat)
  /-- BUDGET_REGISTER_WRITE (R333): `a` 0: LEA_BSITE; else LEA_BSHAREa -/
  | budgetRegisterWrite (a : Fin 64) (v : Word)
  /-- BUDGET_STALE (R342) -/
  | budgetStale
  /-- STOP_RX (R345) -/
  | stopRx (p : LPort) (rx : LeadRx) (pre : Preempt)
  /-- ENUM_OFFER_SEND (R338) -/
  | enumOfferSend
  /-- ENUM_COMMAND (R338) -/
  | enumCommand
  /-- ENUM_OFFER_RX (R338) -/
  | enumOfferRx (p : LPort) (rx : LeadRx)
  /-- ENUM_ANSWER_RX (R340) -/
  | enumAnswerRx (p : LPort) (rx : LeadRx)
  /-- ENUM_END_RX (R340) -/
  | enumEndRx (p : LPort) (rx : LeadRx)
  /-- LEAD_LINK_CHANGE (R338) -/
  | leadLinkChange (p : LPort) (up : Bool)
  /-- SEGMENT_HEAD (R341) -/
  | segmentHead
  /-- STATUS_SEND (R346) -/
  | statusSend
  /-- STATUS_RX (R347) -/
  | statusRx (p : LPort) (rx : LeadRx)
  /-- EPOCH_MISMATCH (R348) -/
  | epochMismatch
  /-- EPOCH_AGREE (R348) -/
  | epochAgree
  /-- BUSREQ_RX (R343) -/
  | busreqRx (p : LPort) (rx : LeadRx)
  /-- GRANT_RX (R343) -/
  | grantRx (p : LPort) (rx : LeadRx)
  /-- USER_RX (R351) -/
  | userRx (p : LPort) (rx : LeadRx)
  /-- LEAD_USER_PUSH (R351) -/
  | leadUserPush (dst : BitVec 8) (len : Nat) (data : Bytes)
  /-- LEAD_USER_HEAD_REMOVE (R351) -/
  | leadUserHeadRemove
  /-- XFER_START (R349) -/
  | xferStart
  /-- XFER_CANCEL (R349) -/
  | xferCancel
  /-- XFERSTART_RX (R349) -/
  | xferstartRx (p : LPort) (rx : LeadRx)
  /-- DATA_RX (R349) -/
  | dataRx (p : LPort) (rx : LeadRx)
  /-- NAK_RX (R350) -/
  | nakRx (p : LPort) (rx : LeadRx)
  /-- WAKE_RX (R329) -/
  | wakeRx (p : LPort) (rx : LeadRx)
  /-- REPEATER_FORWARD (R329) -/
  | repeaterForward (p : LPort) (bytes : Bytes)
  /-- YARD_WINDOW (R354): chain time about which the window's centre lies, ns, and the quiet energy Nq -/
  | yardWindow (centre : Nat) (nq : Nat)
  /-- YARD_BEACON_RX (R358): `centre`: own chain time of the window's centre, ns -/
  | yardBeaconRx (rx : YardRx) (centre : Nat)
  /-- YARD_FRAME_RX (R357) -/
  | yardFrameRx (rx : YardRx)
  /-- YL_LOST (R358) -/
  | ylLost
  /-- YARD_POLL (R359) -/
  | yardPoll (serial : Word)
  /-- YARD_MSG_PUSH (R359) -/
  | yardMsgPush (dst : BitVec 8) (len : Nat) (data : Bytes)
  /-- YARD_MSG_HEAD_REMOVE (R359) -/
  | yardMsgHeadRemove
  /-- NET_FRAME_INGRESS (R363): the frame without FCS; `fcs`: its FCS was right; `ns`: the start-of-frame delimiter after the tempo's start -/
  | netFrameIngress (port : Fin 2) (bytes : Bytes) (fcs : Bool) (ns : Nat)
  /-- UART_RX_CHAR (R366) -/
  | uartRxChar (u : Fin 2) (c : BitVec 8) (perr : Bool) (ferr : Bool)
  /-- UART_RX_POP (R366) -/
  | uartRxPop (u : Fin 2)
  /-- UART_TX_WRITE (R366) -/
  | uartTxWrite (u : Fin 2) (c : BitVec 8)
  /-- UART_IDLE_TIMEOUT (R366): character times without a character -/
  | uartIdleTimeout (u : Fin 2) (chars : Nat)
  /-- BOOT_SEQUENCE (R371): the QSPI flash answers; the DRAM trains -/
  | bootSequence (flash dram : Bool)
  /-- BOOTOK (R498) -/
  | bootok
  /-- FWU_PROGRAM (R376): ARG, the class -/
  | fwuProgram (c : BitVec 4)
  /-- FWU_PROGRAM_COMPLETE (R376): every block has read back right -/
  | fwuProgramComplete (flash : Bool)
  /-- FWU_ACTIVATE (R378) -/
  | fwuActivate
  /-- FWU_CANCEL (R380) -/
  | fwuCancel
  /-- FWU_CONFIRM (R381) -/
  | fwuConfirm (c : BitVec 4)
  /-- FWU_EXTEND (R374) -/
  | fwuExtend
  /-- FWU_REVOKE (R369) -/
  | fwuRevoke (r : BitVec 4)
  /-- ACTIVATE_RX (R378) -/
  | activateRx (p : LPort) (rx : LeadRx)
  /-- ACTIVATION_REPEAT (R378) -/
  | activationRepeat
  /-- ACTIVATION_GO (R378) -/
  | activationGo
  /-- GO_RX (R379) -/
  | goRx (p : LPort) (rx : LeadRx)
  /-- ACTIVATION_RESTART (R379) -/
  | activationRestart
  /-- ACTIVATION_LATEST_EXPIRY (R380) -/
  | activationLatestExpiry
  /-- CANCEL_RX (R380) -/
  | cancelRx (p : LPort) (rx : LeadRx)
  /-- ACTIVATION_MEMBER_TIMEOUT (R380) -/
  | activationMemberTimeout
  /-- RECOVERY_DISPLAY_CYCLE (R386) -/
  | recoveryDisplayCycle
  /-- RECOVERY_USB_DOWNLOAD (R387): the alternate setting and the bytes downloaded -/
  | recoveryUsbDownload (alt : Fin 3) (data : Bytes)
  /-- RECOVERY_RESET (R388) -/
  | recoveryReset
  /-- JTAG_UNLOCK (R390) -/
  | jtagUnlock (token : Bytes)
  /-- KEY_WRITE (R394) -/
  | keyWrite (slot : BitVec 6) (typ : BitVec 4) (pol : BitVec 5) (len : BitVec 7)
  /-- KEY_NARROW (R395) -/
  | keyNarrow (slot : BitVec 6) (pol : BitVec 5)
  /-- KEY_ERASE (R395) -/
  | keyErase (slot : BitVec 6)
  /-- KEY_SLOTCMD_DONE (R394) -/
  | keySlotcmdDone
  /-- KEY_SWEEP (R398) -/
  | keySweep
  /-- JOB_HASH (R407) -/
  | jobHash
  /-- JOB_HMAC (R407) -/
  | jobHmac
  /-- JOB_ENC (R407) -/
  | jobEnc
  /-- JOB_DEC (R407) -/
  | jobDec
  /-- JOB_SIGN (R411) -/
  | jobSign
  /-- JOB_VERIFY (R407) -/
  | jobVerify
  /-- JOB_DERIVE (R400) -/
  | jobDerive
  /-- JOB_AGREE (R408) -/
  | jobAgree
  /-- JOB_WRAP (R409) -/
  | jobWrap
  /-- JOB_UNWRAP (R408) -/
  | jobUnwrap
  /-- JOB_QUOTE (R406) -/
  | jobQuote
  /-- JOB_RANDOM (R413) -/
  | jobRandom
  /-- JOB_COMPLETE (R407) -/
  | jobComplete
  /-- KEY_RNG_READ (R412) -/
  | keyRngRead
  /-- RNG_RESEED (R412) -/
  | rngReseed
  /-- ENTROPY_SOURCE_FAIL (R413) -/
  | entropySourceFail (k : Fin 2)
  /-- FIELD_ON (R416): the step the search ends at, the phase error there, and the antenna currents -/
  | fieldOn (best : BitVec 8) (phase : BitVec 8) (iset : BitVec 16) (iant : BitVec 16)
  /-- FIELD_OFF (R421): whether the first bit of a running exchange has left the antenna -/
  | fieldOff (sent : Bool)
  /-- HF_SETTLED (R421) -/
  | hfSettled
  /-- HF_ACTIVATE (R422): the cards in the field -/
  | hfActivate (typ : BitVec 2) (wup : Bool) (l4 : Bool) (cards : List HfCard)
  /-- EXCHANGE (R429): how long its first frame takes -/
  | exchange (l4 : Bool) (nocrc : Bool) (txbits : BitVec 3) (txlen : BitVec 10) (us : Nat)
  /-- RELEASE (R421) -/
  | release
  /-- ORIGIN (R432): how long its first frame takes -/
  | origin (us : Nat)
  /-- TUNE (R416) -/
  | tune (arg : BitVec 8)
  /-- LPCD (R418) -/
  | lpcd
  /-- LPCD_BURST (R418): the antenna amplitude -/
  | lpcdBurst (amp : Nat)
  /-- HF_CARD_FRAME_RX (R429): valid bits of a raw answer's last byte, 0 for 8 -/
  | hfCardFrameRx (blk : HfBlock) (rxbits : BitVec 3)
  /-- HF_WTX_REQUEST (R426) -/
  | hfWtxRequest (wtxm : BitVec 6)
  /-- HF_FWT_EXPIRY (R426) -/
  | hfFwtExpiry
  /-- WAIT_CAP_EXPIRY (R427) -/
  | waitCapExpiry
  /-- FIELD_LOST (R417): the measured antenna current, for how long, and whether the first bit of a running exchange has left -/
  | fieldLost (ma : Nat) (us : Nat) (sent : Bool)
  /-- FIELD_RESET_END (R421) -/
  | fieldResetEnd
  /-- HF_DRIVER_FAULT (R415): whether the first bit of a running exchange has left the antenna -/
  | hfDriverFault (sent : Bool)
  /-- AUTOTUNE_STEP (R416): the phase error in degrees, the direction that lowers it, and the measured current -/
  | autotuneStep (phase : BitVec 8) (up : Bool) (iant : BitVec 16)
  /-- LCH_ENABLE (R435): the EN value written -/
  | lchEnable (n : Fin 16) (en : Bool)
  /-- LCH_LATCH_CLEAR (R442): the junction temperature, °C -/
  | lchLatchClear (n : Fin 16) (tj : Int)
  /-- LCH_INRUSH_END (R435) -/
  | lchInrushEnd (n : Fin 16)
  /-- LCH_LIMIT_ENTRY (R437) -/
  | lchLimitEntry (n : Fin 16)
  /-- LCH_TOC_EXPIRY (R438) -/
  | lchTocExpiry (n : Fin 16)
  /-- LCH_RETRY (R438) -/
  | lchRetry (n : Fin 16)
  /-- LCH_THERMAL_LATCH (R440): junction and group temperature, °C -/
  | lchThermalLatch (n : Fin 16) (tj : Int) (gt : Int)
  /-- LCH_WINDOW_CUT (R443): group temperature, °C -/
  | lchWindowCut (n : Fin 16) (gt : Int)
  /-- BANK_ENFORCE (R444) -/
  | bankEnforce
  /-- BANK_RELEASE (R444) -/
  | bankRelease
  /-- VS_LOAD_UNDERVOLTAGE (R446) -/
  | vsLoadUndervoltage (mv : Nat)
  /-- VS_LOAD_RECOVERED (R446): the level and how long it has been held -/
  | vsLoadRecovered (mv : Nat) (us : Nat)
  /-- LCH_STAGGERED_RESTART (R446) -/
  | lchStaggeredRestart (n : Fin 16)
  /-- FREEWHEEL_CHECK_END (R447): the lowest output level of the 200 µs -/
  | freewheelCheckEnd (n : Fin 16) (mv : Int)
  /-- CLAMP_ENERGY_CHECK (R448) -/
  | clampEnergyCheck (n : Fin 16) (uj : Nat)
  /-- LCH_OPEN_LOAD (R449): the load current and how long it has been so -/
  | lchOpenLoad (n : Fin 16) (ma : Nat) (ms : Nat)
  /-- LCH_OFF_DIAG (R450): the output after 1 ms without and with the diagnostic current -/
  | lchOffDiag (n : Fin 16) (mv0 : Int) (mv1 : Int)
  /-- LCD_SEG_WRITE (R458) -/
  | lcdSegWrite (k : Fin 16) (v : Word)
  /-- CRACK_MEASURE (R462) -/
  | crackMeasure (ohm : Nat)
  /-- REQ_S1 (R465) -/
  | reqS1
  /-- REQ_S2 (R465) -/
  | reqS2
  /-- REQ_S3 (R466) -/
  | reqS3
  /-- REQ_S4 (R469) -/
  | reqS4
  /-- S3_ENTRY_COMPLETE (R467) -/
  | s3EntryComplete
  /-- S4_ENTRY (R469) -/
  | s4Entry
  /-- WAKE (R470): the bit of the source -/
  | wake (k : Fin 16)
  /-- WAKE_STEP_READY (R472) -/
  | wakeStepReady
  /-- WAKE_STEP_TIMEOUT (R472) -/
  | wakeStepTimeout
  /-- RESUME (R473): the CRC-32 over system SRAM holds -/
  | resume (crcOk : Bool)
  /-- PFW (R475): VIN_MAIN -/
  | pfw (mv : Nat)
  /-- PFW_CLEAR (R475): VIN_MAIN and how long it has been there -/
  | pfwClear (mv : Nat) (us : Nat)
  /-- POWER_FAIL_SHUTDOWN (R476) -/
  | powerFailShutdown
  /-- AON_LOSS (R478) -/
  | aonLoss
  /-- RESIDENCY_CLEAR (R480) -/
  | residencyClear
  /-- PLEVEL_REQUEST (R481) -/
  | plevelRequest (req : BitVec 2)
  /-- PLEVEL_CHANGE_COMPLETE (R482) -/
  | plevelChangeComplete
  /-- AVS_UPDATE (R483): the trim the monitors ask for, 5 mV units, and that the margin is too little with it -/
  | avsUpdate (trim : Int) (low : Bool)
  /-- GOVERNOR_TICK (R484) -/
  | governorTick
  /-- REFSEL_WRITE (R486) -/
  | refselWrite (sel : Bool)
  /-- REF_SWITCH_DONE (R487) -/
  | refSwitchDone
  /-- XO_DEAD (R488): the measured error, 0.01 % -/
  | xoDead (err : Int)
  /-- REC_DEAD (R488): the measured error, ppm -/
  | recDead (err : Int)
  /-- RTC_ERROR (R488) -/
  | rtcError (ppm : Int)
  /-- CLOCK_SOURCE_VALID (R488): the source, its error, how long it has passed its test -/
  | clockSourceValid (src : ClkSrc) (err : Int) (ms : Nat)
  /-- REF_BACK_FROM_IRC (R490) -/
  | refBackFromIrc
  /-- CLOCK_RETURN (R492) -/
  | clockReturn
  /-- HOLD_CLEAR (R492) -/
  | holdClear
  /-- POWER_ON_RESET (R494) -/
  | powerOnReset
  /-- RESET_PIN (R495): the level from outside and how long it has stood -/
  | resetPin (low : Bool) (ns : Nat)
  /-- SOFTWARE_RESET (R494) -/
  | softwareReset (key : BitVec 8)
  /-- RESET_STRETCH_END (R496) -/
  | resetStretchEnd
  /-- OPTION_BYTE_LOAD (R496) -/
  | optionByteLoad
  /-- BOOT_TIMEOUT (R498) -/
  | bootTimeout
  /-- WDOG_ENABLE (R500) -/
  | wdogEnable (timeout : BitVec 16)
  /-- WDOG_KICK (R500) -/
  | wdogKick (key : BitVec 8)
  /-- WDOG_WARN (R500) -/
  | wdogWarn
  /-- WATCHDOG_EXPIRY (R500) -/
  | watchdogExpiry
  /-- PPS_EDGE (R68): chain time of the edge less the nearest whole second, ns -/
  | ppsEdge (ns : Int)
  /-- LCH_LIMITING_END (R437) -/
  | lchLimitingEnd (n : Fin 16)
  /-- OPEN_LOAD_CLEAR (R449): the load current and how long it has been so -/
  | openLoadClear (n : Fin 16) (ma : Nat) (ms : Nat)
  /-- SG_LINK_CHANGE (R363) -/
  | sgLinkChange (port : Fin 2) (up : Bool) (fdx : Bool) (speed : BitVec 2)
  /-- VLCD_LEFT_WINDOW (R455): VLCD is within its window again -/
  | vlcdLeftWindow (inside : Bool)
  /-- CORES_EXECUTE_WFI (R465) -/
  | coresExecuteWfi
  deriving DecidableEq, Repr

end Sys2Proof
end

