-- ==== Sys2Proof/Decode.lean ====
section
/-! DEFINITION. Commands by the table's bits: opcode_table.json gives no row any bits, so no word spells a command. -/

namespace Sys2Proof

/-- The command a word of `nbits` bits spells. -/
def decodeTableWord (nbits w : Nat) : Option Instr :=
  match nbits, w with
  | _, _ => none

end Sys2Proof
end

