-- ==== Sys2Proof/Config.lean ====
section
/-!
DEFINITION. What the spec leaves open or takes from standards outside it: constants without a body, so that no proof can
see what they are. Cryptographic functions are the external standards' (SM2, SM3, SM4, SHA-2, AES, ECDSA, Ed448).
-/

namespace Sys2Proof.Config

/-- Values the spec leaves open: random draws and unstated results, one per use of the counter (log entry 4). -/
opaque freeValue : Nat → Nat

/-- SM3 of a byte string, 32 bytes. -/
opaque sm3 : Bytes → Bytes

/-- SM2 signature check: public key (x then y), message, signature (r then s), with the default user identity. -/
opaque sm2Verify : Bytes → Bytes → Bytes → Bool

/-- Whether 64 bytes are a point on the SM2 curve. -/
opaque sm2OnCurve : Bytes → Bool

/-- SM2 signature with a private key over a message; the draw stands for the random part of the hedged nonce. -/
opaque sm2Sign : Bytes → Bytes → Nat → Bytes

/-- The tariff roots and the calibration roots held in the legal firmware image with the given digest. -/
opaque tariffRoots : Bytes → List Bytes
opaque calRoots : Bytes → List Bytes

/-- The version string of the legal firmware image with the given digest. -/
opaque legalVersion : Bytes → Bytes

/-- The hash of a job (R407): 0 SM3, 1 SHA-256, 2 SHA-384, 3 SHA-512; and its HMAC with a key. -/
opaque hash : Nat → Bytes → Bytes
opaque hmac : Nat → Bytes → Bytes → Bytes

/-- Encryption and decryption of a job: algorithm (0 SM4-GCM, 1 AES-GCM, 2 SM4-CBC, 3 AES-CBC), key, IV, AAD, text; a GCM
ciphertext ends in its 16-byte tag, and decryption answers none where the tag fails. -/
opaque encrypt : Nat → Bytes → Bytes → Bytes → Bytes → Bytes
opaque decrypt : Nat → Bytes → Bytes → Bytes → Bytes → Option Bytes

/-- Signatures by slot type of the private key: key, message, draw of the hedged nonce. -/
opaque sign : Nat → Bytes → Bytes → Nat → Bytes

/-- The check of a signature by slot type of the public key: key, message, signature; and of an input that carries its own
public key, by algorithm. -/
opaque verify : Nat → Bytes → Bytes → Bytes → Bool
opaque verifyOwn : Nat → Bytes → Bool

/-- Agreement by slot type: private key, peer public key; none where the peer is no point of the curve. -/
opaque ecdh : Nat → Bytes → Bytes → Option Bytes

/-- One-step KDF with SHA-256: secret, other info, output length. -/
opaque kdf : Bytes → Bytes → Nat → Bytes

/-- The public key of an SM2 private key; whether bytes are a scalar in 1 … n − 1, or a point, by slot type. -/
opaque publicKey : Bytes → Bytes
opaque scalarOk : Nat → Bytes → Bool
opaque pointOk : Nat → Bytes → Bool

/-- A private scalar of a slot type from derived bytes: (out mod (n − 1)) + 1 (R400). -/
opaque scalarOf : Nat → Bytes → Bytes

/-- RESULT codes of a job that 13 names without a number: SIG, BUFERR, and the refusal without a random number generator. -/
opaque jobSig : Nat
opaque jobBuferr : Nat
opaque jobRng : Nat

/-- The land of a land index, as its group of R517 (0 to 26 in the order of the table) and its place among the lands that the
group's contents name; the spec gives the land groups and no map from index to land (log entry 33). -/
opaque landName : Nat → Nat × Nat

/-- Whether another section of a layout (its sections by type) uses the function of a land, where R519 names no case. -/
opaque landInUse : Nat → List Bytes → Bool

/-- The digital model of the decimation chain up to its phase stage on the chips of a pilot, newest first, in 2⁻³⁰ (R222): the taps
of FIR1 and FIR2 are not in the spec (log entry 183). -/
opaque chainModel : List Int → Int

/-- The demodulation of the residual-current channel in step with the FGX excitation, µA, from its corrected values, newest
first (R213); the spec gives no demodulator (log entry 183). -/
opaque demodulate : List Int → Int

/-- The fundamental filter of R240 on the values of VA, newest first, and its known delay, ns. -/
opaque fundamental : List Int → Int
opaque fundDelay : Nat

/-- SM3 over the boot ROM (0) and over the safety controller ROM (1), as measured at boot (R374). -/
opaque romDigest : Nat → Bytes

/-- The nominal cluster supply of a performance level, 5 mV units (PWR_AVS.VOUT); the spec gives no voltages. -/
opaque levelVolts : Nat → Nat

/-- The contents of the boot ROM by address; the spec gives none. -/
opaque bootRom : Nat → Byte

end Sys2Proof.Config
end

