-- ==== Sys2Proof/Machine/Bits.lean ====
section
/-!
DEFINITION. Byte strings read and written as little-endian integers (R80), the digest register order of R53, the CRC-32
of R107, the CRC-8 of the power-group profile (R156), and the small arithmetic the meanings share.
-/

namespace Sys2Proof.Machine

/-! ### Reading fields of byte strings: a byte beyond the end reads 0 -/

def u8 (b : Bytes) (i : Nat) : Nat := (b.getD i 0).toNat
def u16 (b : Bytes) (i : Nat) : Nat := u8 b i + 256 * u8 b (i + 1)
def u32 (b : Bytes) (i : Nat) : Nat := u16 b i + 65536 * u16 b (i + 2)
def u64 (b : Bytes) (i : Nat) : Nat := u32 b i + 4294967296 * u32 b (i + 4)

/-- The two's complement value of the low `w` bits of `v`. -/
def toSigned (w v : Nat) : Int :=
  if v % 2 ^ w < 2 ^ (w - 1) then ((v % 2 ^ w : Nat) : Int) else ((v % 2 ^ w : Nat) : Int) - (2 ^ w : Nat)

/-- The `w`-bit two's complement image of `x`. -/
def ofSigned (w : Nat) (x : Int) : Nat := (x % ((2 ^ w : Nat) : Int)).toNat

def i16 (b : Bytes) (i : Nat) : Int := toSigned 16 (u16 b i)
def i32 (b : Bytes) (i : Nat) : Int := toSigned 32 (u32 b i)

/-- `n` bytes from offset `i`; bytes beyond the end read 0. -/
def slice (b : Bytes) (i n : Nat) : Bytes := (List.range n).map (fun k => b.getD (i + k) 0)

/-- The low `n` bytes of `v`, least significant first (R80). -/
def leBytes : Nat → Nat → Bytes
  | 0, _ => []
  | n + 1, v => BitVec.ofNat 8 v :: leBytes n (v / 256)

/-- The value of a byte string read least significant byte first. -/
def leVal : Bytes → Nat
  | [] => 0
  | x :: t => x.toNat + 256 * leVal t

/-- Whether every byte is zero (R524). -/
def allZero (b : Bytes) : Bool := b.all (· == 0)

/-- Register `k` of a value longer than 64 bits: bytes 4k to 4k + 3 with the first in bits 31:24 (R53). -/
def digestWord (b : Bytes) (k : Nat) : Nat :=
  u8 b (4 * k) * 16777216 + u8 b (4 * k + 1) * 65536 + u8 b (4 * k + 2) * 256 + u8 b (4 * k + 3)

/-- The four bytes of a register under R53, first byte from bits 31:24. -/
def digestBytes (w : Nat) : Bytes :=
  [BitVec.ofNat 8 (w / 16777216), BitVec.ofNat 8 (w / 65536), BitVec.ofNat 8 (w / 256), BitVec.ofNat 8 w]

/-! ### Checksums -/

def crc32Bit (c : Nat) : Nat := if c % 2 = 1 then (c / 2) ^^^ 0xEDB88320 else c / 2

def crc32Byte (c : Nat) (x : Byte) : Nat :=
  let c0 := c ^^^ x.toNat
  crc32Bit (crc32Bit (crc32Bit (crc32Bit (crc32Bit (crc32Bit (crc32Bit (crc32Bit c0)))))))

/-- The CRC-32 of R107: reflected polynomial 0xEDB88320, initial value and final inversion all ones. -/
def crc32 (b : Bytes) : Nat := (b.foldl crc32Byte 0xFFFFFFFF) ^^^ 0xFFFFFFFF

def crc8Bit (c : Nat) : Nat := if c ≥ 128 then ((2 * c) % 256) ^^^ 0x2F else 2 * c

def crc8Byte (c : Nat) (x : Byte) : Nat :=
  let c0 := c ^^^ x.toNat
  crc8Bit (crc8Bit (crc8Bit (crc8Bit (crc8Bit (crc8Bit (crc8Bit (crc8Bit c0)))))))

/-- The CRC-8 of R156: polynomial 0x2F, initial value 0xFF, no final inversion. -/
def crc8 (b : Bytes) : Nat := b.foldl crc8Byte 0xFF

/-! ### Arithmetic -/

/-- Bit `i` of `n` as a number. -/
def bitAt (n i : Nat) : Nat := if n.testBit i then 1 else 0

/-- `n` with bit `i` set to `b`. -/
def setBit (n i : Nat) (b : Bool) : Nat :=
  if b then n ||| (2 ^ i) else if n.testBit i then n - 2 ^ i else n

/-- The low `w` bits from bit `lo` of `n`. -/
def field (n lo w : Nat) : Nat := (n / 2 ^ lo) % 2 ^ w

def b2n (b : Bool) : Nat := if b then 1 else 0

def clampI (lo hi x : Int) : Int := max lo (min hi x)

/-- Count up to a bound and stop there. -/
def satAdd (top n k : Nat) : Nat := min top (n + k)

/-- Division rounded up. -/
def ceilDiv (a b : Nat) : Nat := (a + b - 1) / b

/-- The number whose bit `i` is `f i`, for `i < n`. -/
def bitsOf (n : Nat) (f : Nat → Bool) : Nat := (List.range n).foldl (fun a i => a + (if f i then 2 ^ i else 0)) 0

/-- The integer square root, rounded down. -/
def isqrtGo : Nat → Nat → Nat → Nat
  | 0, _, r => r
  | k + 1, n, r => isqrtGo k n (if (r + 2 ^ k) * (r + 2 ^ k) ≤ n then r + 2 ^ k else r)

def isqrt (n : Nat) : Nat := isqrtGo 40 n 0

/-! ### Fixed rows of like things, indexed totally -/

/-- Entry `i` of a row, the row's default beyond it. -/
def Tab.get {α : Type} {n : Nat} (d : α) (v : Vector α n) (i : Nat) : α := if h : i < n then v[i] else d

/-- The row with entry `i` replaced; unchanged where `i` lies beyond it. -/
def Tab.upd {α : Type} {n : Nat} (v : Vector α n) (i : Nat) (f : α → α) : Vector α n :=
  if h : i < n then v.set i (f v[i]) else v

/-- The row with `f` applied at every index. -/
def Tab.mapIdx {α : Type} {n : Nat} (v : Vector α n) (f : Nat → α → α) : Vector α n :=
  Vector.ofFn (fun i => f i.val v[i])

end Sys2Proof.Machine
end

