-- ==== Sys2Proof/Machine/Calendar.lean ====
section
/-!
DEFINITION. Tariff calendars (09): the fields of a calendar block, its checks (R261), civil time (R262), the tariff in force
(R263), demand-interval ends (R268) and billing-period closes (R270).
-/

namespace Sys2Proof.Machine

/-! ### Fields -/

def calLen : Nat := 3520
def calId (b : Bytes) : Nat := u32 b 8
def calPriceId (b : Bytes) : Nat := u32 b 0xC
def calActTime (b : Bytes) : Nat := u64 b 0x10
def calTaiUtc (b : Bytes) : Nat := u16 b 0x18
def calDemand (b : Bytes) : Nat := u8 b 0x1A
def calBpMode (b : Bytes) : Nat := u8 b 0x1B
def calBpDay (b : Bytes) : Nat := u8 b 0x1C
def calBpTod (b : Bytes) : Nat := 3600 * u8 b 0x1D + 60 * u8 b 0x1E
def calNSeason (b : Bytes) : Nat := u8 b 0x1F
def calNWeek (b : Bytes) : Nat := u8 b 0x20
def calNDay (b : Bytes) : Nat := u8 b 0x21
def calNSpecial (b : Bytes) : Nat := u8 b 0x22
def calNOffset (b : Bytes) : Nat := u8 b 0x23
def calCurrency (b : Bytes) : Nat := u16 b 0x24
def calFrom (b : Bytes) (i : Nat) : Nat := u64 b (0x40 + 12 * i)
def calOffMin (b : Bytes) (i : Nat) : Int := i16 b (0x40 + 12 * i + 8)
def calPrices (b : Bytes) : Bytes := slice b 0xC70 64
def calFees (b : Bytes) : Bytes := slice b 0xCB0 16
def calTimeKey (b : Bytes) : Bytes := slice b 0xCC0 64
/-- Byte k of switching point p of day profile d. -/
def calPoint (b : Bytes) (d p k : Nat) : Nat := u8 b (0x270 + 64 * d + 4 * p + k)

/-! ### Checks (R261) -/

/-- Entries of a table: the used ones pass `ok`, the others are zero. -/
def tableOk (b : Bytes) (base size n used : Nat) (ok : Nat → Bool) : Bool :=
  (List.range n).all (fun i => if i < used then ok i else allZero (slice b (base + size * i) size))

/-- A strictly ascending key over the used entries. -/
def ascending (n : Nat) (key : Nat → Int) : Bool := (List.range (n - 1)).all (fun i => decide (key i < key (i + 1)))

def calHeaderOk (b : Bytes) : Bool :=
  let day := calBpDay b
  decide (b.take 4 = [0x43, 0x41, 0x4C, 0x4B]) && decide (u16 b 4 = 1) && decide (u16 b 6 = 3520) && decide (calId b ≠ 0)
    && decide (calTaiUtc b ≤ 255) && decide (calDemand b ∈ [1, 2, 3, 4, 5, 6, 10, 12, 15, 20, 30, 60])
    && decide (calBpMode b ≤ 3)
    && (if calBpMode b = 0 then decide (1 ≤ day) && decide (day ≤ 28) else if calBpMode b = 1 then decide (day ≤ 6) else day == 0)
    && decide (u8 b 0x1D ≤ 23) && decide (u8 b 0x1E ≤ 59)
    && decide (1 ≤ calNSeason b) && decide (calNSeason b ≤ 12) && decide (1 ≤ calNWeek b) && decide (calNWeek b ≤ 16)
    && decide (1 ≤ calNDay b) && decide (calNDay b ≤ 32) && decide (calNSpecial b ≤ 64)
    && decide (1 ≤ calNOffset b) && decide (calNOffset b ≤ 32) && decide (u8 b 0x26 ≤ 4) && allZero (slice b 0x27 25)

def monthDayOk (m d : Nat) : Bool := decide (1 ≤ m) && decide (m ≤ 12) && decide (1 ≤ d) && decide (d ≤ 31)

def calOffsetsOk (b : Bytes) : Bool :=
  tableOk b 0x40 12 32 (calNOffset b) (fun i =>
      decide (-840 ≤ calOffMin b i) && decide (calOffMin b i ≤ 840) && u16 b (0x40 + 12 * i + 10) == 0)
    && ascending (calNOffset b) (fun i => (calFrom b i : Int))

def calSeasonsOk (b : Bytes) : Bool :=
  tableOk b 0x1C0 4 12 (calNSeason b) (fun i =>
      monthDayOk (u8 b (0x1C0 + 4 * i)) (u8 b (0x1C0 + 4 * i + 1)) && decide (u8 b (0x1C0 + 4 * i + 2) < calNWeek b)
        && u8 b (0x1C0 + 4 * i + 3) == 0)
    && ascending (calNSeason b) (fun i => ((32 * u8 b (0x1C0 + 4 * i) + u8 b (0x1C0 + 4 * i + 1) : Nat) : Int))

def calWeeksOk (b : Bytes) : Bool :=
  tableOk b 0x1F0 8 16 (calNWeek b) (fun i =>
    (List.range 7).all (fun k => decide (u8 b (0x1F0 + 8 * i + k) < calNDay b)) && u8 b (0x1F0 + 8 * i + 7) == 0)

/-- Used points of day profile d. -/
def dayPoints (b : Bytes) (d : Nat) : Nat := ((List.range 16).filter (fun p => (calPoint b d p 3).testBit 0)).length

def calDaysOk (b : Bytes) : Bool :=
  tableOk b 0x270 64 32 (calNDay b) (fun d =>
    let n := dayPoints b d
    tableOk b (0x270 + 64 * d) 4 16 n (fun p =>
        decide (calPoint b d p 0 ≤ 23) && decide (calPoint b d p 1 ≤ 59) && decide (1 ≤ calPoint b d p 2)
          && decide (calPoint b d p 2 ≤ 8) && calPoint b d p 3 == 1)
      && decide (1 ≤ n) && calPoint b d 0 0 == 0 && calPoint b d 0 1 == 0
      && ascending n (fun p => ((60 * calPoint b d p 0 + calPoint b d p 1 : Nat) : Int)))

def calSpecialsOk (b : Bytes) : Bool :=
  tableOk b 0xA70 8 64 (calNSpecial b) (fun i =>
    monthDayOk (u8 b (0xA70 + 8 * i + 2)) (u8 b (0xA70 + 8 * i + 3)) && decide (u8 b (0xA70 + 8 * i + 4) < calNDay b)
      && allZero (slice b (0xA70 + 8 * i + 5) 3))

/-- The two signatures, under the tariff roots of the legal image. -/
def calSigsOk (roots : List Bytes) (b : Bytes) : Bool :=
  roots.any (fun r => Config.sm2Verify r (slice b 0xD00 64) (slice b 0xD40 64))
    && Config.sm2Verify (slice b 0xD00 64) (slice b 0 0xD80) (slice b 0xD80 64)

def calOk (roots : List Bytes) (b : Bytes) : Bool :=
  calHeaderOk b && calOffsetsOk b && calSeasonsOk b && calWeeksOk b && calDaysOk b && calSpecialsOk b
    && allZero (slice b 0xCBA 6) && calSigsOk roots b

/-! ### Civil time (R262) -/

/-- UTC seconds since 2000-01-01 of a legal instant in ns. -/
def utcSec (b : Bytes) (l : Nat) : Int := (l / 1000000000 : Nat) - (calTaiUtc b : Int)

/-- The civil offset in force, minutes: that of the last entry whose FROM has come, else entry 0. -/
def offMinAt (b : Bytes) (l : Nat) : Int :=
  let used := (List.range (calNOffset b)).filter (fun i => decide (calFrom b i ≤ l))
  calOffMin b (used.getLastD 0)

/-- Civil seconds since 2000-01-01 00:00:00 civil. -/
def civilSec (b : Bytes) (l : Nat) : Int := utcSec b l + 60 * offMinAt b l

/-- Year, month and day of a day number counted from 2000-01-01, on the Gregorian calendar. -/
def civilDate (day : Int) : Int × Nat × Nat :=
  let z := day + 730425
  let era := z / 146097
  let doe := (z - era * 146097).toNat
  let yoe := (doe - doe / 1460 + doe / 36524 - doe / 146096) / 365
  let doy := doe - (365 * yoe + yoe / 4 - yoe / 100)
  let mp := (5 * doy + 2) / 153
  let d := doy - (153 * mp + 2) / 5 + 1
  let m := if mp < 10 then mp + 3 else mp - 9
  ((yoe : Int) + era * 400 + (if m ≤ 2 then 1 else 0), m, d)

/-- Monday = 0. -/
def weekday (day : Int) : Nat := ((day + 5) % 7).toNat

/-! ### The tariff in force (R263) -/

/-- The day profile of a civil day. -/
def dayProfile (b : Bytes) (day : Int) : Nat :=
  let dt := civilDate day
  let hit := (List.range (calNSpecial b)).find? (fun i =>
    let o := 0xA70 + 8 * i
    (u16 b o == 0 || decide ((u16 b o : Int) = dt.1)) && u8 b (o + 2) == dt.2.1 && u8 b (o + 3) == dt.2.2)
  match hit with
  | some i => u8 b (0xA70 + 8 * i + 4)
  | none =>
    let started := (List.range (calNSeason b)).filter (fun i =>
      decide (32 * u8 b (0x1C0 + 4 * i) + u8 b (0x1C0 + 4 * i + 1) ≤ 32 * dt.2.1 + dt.2.2))
    let season := started.getLastD (calNSeason b - 1)
    u8 b (0x1F0 + 8 * u8 b (0x1C0 + 4 * season + 2) + weekday day)

/-- The tariff at a legal instant. -/
def tariffAt (b : Bytes) (l : Nat) : Nat :=
  let c := civilSec b l
  let day := c / 86400
  let tod := (c % 86400).toNat
  let d := dayProfile b day
  let past := (List.range (dayPoints b d)).filter (fun p => decide (3600 * calPoint b d p 0 + 60 * calPoint b d p 1 ≤ tod))
  calPoint b d (past.getLastD 0) 2

/-! ### Demand intervals and billing periods (R268, R270) -/

/-- A demand interval ends at a legal instant. -/
def demandEnd (b : Bytes) (l : Nat) : Bool :=
  l % 1000000000 == 0 && decide (utcSec b l % (60 * (calDemand b : Int)) = 0)

/-- How many billing-period closes lie at or before a civil time: a close is due where this number first rises (log entry
42 on repeated and skipped hours). -/
def bpIndex (b : Bytes) (c : Int) : Int :=
  let day := c / 86400
  let tod := c % 86400
  let early := decide (tod < (calBpTod b : Int))
  if calBpMode b = 0 then
    let dt := civilDate day
    let before := decide (dt.2.2 < calBpDay b) || (dt.2.2 == calBpDay b && early)
    12 * dt.1 + (dt.2.1 : Int) - (if before then 1 else 0)
  else if calBpMode b = 1 then (day + 5 - (calBpDay b : Int) - (if early then 1 else 0)) / 7
  else if calBpMode b = 2 then day - (if early then 1 else 0)
  else 0

/-- The next instant at or after `t` at which anything of a calendar can change: a whole UTC minute, or the FROM of an
offset entry. -/
def calNext (b : Bytes) (t : Nat) : Nat :=
  let shift := (calTaiUtc b % 60) * 1000000000
  let minute := (t + 60000000000 - shift - 1) / 60000000000 * 60000000000 + shift
  let m0 := if t ≤ shift then shift else minute
  ((List.range (calNOffset b)).map (calFrom b)).foldl (fun a f => if t ≤ f then min a f else a) m0

end Sys2Proof.Machine
end

