-- ==== Sys2Proof/Machine/Regs.lean ====
section
/-!
DEFINITION. The register map of the block, field by field, as the register tables of spec/ give it: the named fields
(`F.<REGISTER>_<FIELD>`), and the table the bus uses to find a register at an address (R26) with each field's access
type (R31) and reset value. A reset entry of the tables that is not a number (layout, FRAM, fused, AON, random, per
reset) stands as 0 here; log entry 3 says what each of these holds after reset. Bits no field covers are RSV.
-/

namespace Sys2Proof.Machine

/-- The access types of R31 (RSV bits carry no field). -/
inductive Acc where
  | ro | rw | wo | w1c | w1s | rwl
  deriving DecidableEq, Repr

/-- A register field: the address of its register, its lowest bit, its width, and its reset value. -/
structure Fld where
  addr : Nat
  lo : Nat
  width : Nat
  rst : Nat
  deriving DecidableEq, Repr

/-- A field inside a row of the register table. -/
structure FldRow where
  lo : Nat
  width : Nat
  acc : Acc
  rst : Nat
  deriving DecidableEq, Repr

/-- A row of the register table: `count` registers of one layout, `stride` bytes apart from `base`. -/
structure RegRow where
  base : Nat
  count : Nat
  stride : Nat
  fields : List FldRow
  deriving DecidableEq, Repr

/-! ### SYS -/

def F.SYS_ID_PART : Fld := ⟨0x10000000, 16, 16, 0x4810⟩
def F.SYS_ID_STEP : Fld := ⟨0x10000000, 8, 8, 0xb1⟩
def F.SYS_ID_ROMREV : Fld := ⟨0x10000000, 0, 8, 3⟩
def F.SYS_SERIALLO_SERIAL : Fld := ⟨0x10000004, 0, 32, 0⟩
def F.SYS_SERIALHI_SERIAL : Fld := ⟨0x10000008, 0, 32, 0⟩
def F.SYS_OPT_FACTDEF : Fld := ⟨0x10000010, 7, 1, 0⟩
def F.SYS_OPT_DBG : Fld := ⟨0x10000010, 4, 2, 0⟩
def F.SYS_OPT_FAILTHR : Fld := ⟨0x10000010, 1, 3, 0⟩
def F.SYS_OPT_ORDER : Fld := ⟨0x10000010, 0, 1, 0⟩
def F.SYS_SEAL_BYBOOTOK : Fld := ⟨0x10000020, 1, 1, 0⟩
def F.SYS_SEAL_SEAL : Fld := ⟨0x10000020, 0, 1, 0⟩
def F.SYS_STATUS_EPOCHMM : Fld := ⟨0x10000024, 12, 1, 0⟩
def F.SYS_STATUS_LAYSRC : Fld := ⟨0x10000024, 9, 2, 0⟩
def F.SYS_STATUS_LAYOUT : Fld := ⟨0x10000024, 8, 1, 0⟩
def F.SYS_STATUS_ALIGNERR : Fld := ⟨0x10000024, 2, 1, 0⟩
def F.SYS_STATUS_PRIVVIO : Fld := ⟨0x10000024, 1, 1, 0⟩
def F.SYS_STATUS_LOCKVIO : Fld := ⟨0x10000024, 0, 1, 0⟩
def F.SYS_EVCNT_CLR : Fld := ⟨0x10000028, 31, 1, 0⟩
def F.SYS_EVCNT_COUNT : Fld := ⟨0x10000028, 0, 8, 0⟩
def F.SYS_IEN_EN : Fld := ⟨0x1000002C, 0, 3, 0⟩
def F.SYS_NMICAUSE_PFW : Fld := ⟨0x10000030, 2, 1, 0⟩
def F.SYS_NMICAUSE_CLKRET : Fld := ⟨0x10000030, 1, 1, 0⟩
def F.SYS_NMICAUSE_CLKSW : Fld := ⟨0x10000030, 0, 1, 0⟩
def F.SYS_EPOCH_DIGEST (i : Nat) : Fld := ⟨0x10000040 + 4 * i, 0, 32, 0⟩
def F.SYS_EPOCHEXP_DIGEST (i : Nat) : Fld := ⟨0x10000060 + 4 * i, 0, 32, 0⟩

def regRowsSYS0 : List RegRow := [
  ⟨0x10000000, 1, 4, [⟨16, 16, .ro, 0x4810⟩, ⟨8, 8, .ro, 0xb1⟩, ⟨0, 8, .ro, 3⟩]⟩,
  ⟨0x10000004, 1, 4, [⟨0, 32, .ro, 0⟩]⟩,
  ⟨0x10000008, 1, 4, [⟨0, 32, .ro, 0⟩]⟩,
  ⟨0x10000010, 1, 4, [⟨7, 1, .ro, 0⟩, ⟨4, 2, .ro, 0⟩, ⟨1, 3, .ro, 0⟩, ⟨0, 1, .ro, 0⟩]⟩,
  ⟨0x10000020, 1, 4, [⟨1, 1, .ro, 0⟩, ⟨0, 1, .w1s, 0⟩]⟩,
  ⟨0x10000024, 1, 4, [⟨12, 1, .ro, 0⟩, ⟨9, 2, .ro, 0⟩, ⟨8, 1, .ro, 0⟩, ⟨2, 1, .w1c, 0⟩, ⟨1, 1, .w1c, 0⟩, ⟨0, 1, .w1c, 0⟩]⟩,
  ⟨0x10000028, 1, 4, [⟨31, 1, .wo, 0⟩, ⟨0, 8, .ro, 0⟩]⟩,
  ⟨0x1000002C, 1, 4, [⟨0, 3, .rw, 0⟩]⟩,
  ⟨0x10000030, 1, 4, [⟨2, 1, .w1c, 0⟩, ⟨1, 1, .w1c, 0⟩, ⟨0, 1, .w1c, 0⟩]⟩,
  ⟨0x10000040, 8, 4, [⟨0, 32, .ro, 0⟩]⟩,
  ⟨0x10000060, 8, 4, [⟨0, 32, .ro, 0⟩]⟩]

/-- The registers of the SYS block. -/
def regRowsSYS : List RegRow := regRowsSYS0

/-! ### RST -/

def F.RST_CAUSE_PRIMARY : Fld := ⟨0x10010000, 16, 4, 0⟩
def F.RST_CAUSE_SEEN : Fld := ⟨0x10010000, 0, 9, 0⟩
def F.RST_FAILCNT_THR : Fld := ⟨0x10010004, 8, 4, 0⟩
def F.RST_FAILCNT_COUNT : Fld := ⟨0x10010004, 0, 4, 0⟩
def F.RST_BOOTOK_OK : Fld := ⟨0x10010008, 31, 1, 0⟩
def F.RST_BOOTOK_MS : Fld := ⟨0x10010008, 0, 14, 0⟩
def F.RST_CTRL_KEY : Fld := ⟨0x1001000C, 24, 8, 0⟩
def F.RST_CTRL_SWRST : Fld := ⟨0x1001000C, 0, 1, 0⟩
def F.RST_WDOG_KEY : Fld := ⟨0x10010010, 24, 8, 0⟩
def F.RST_WDOG_KICK : Fld := ⟨0x10010010, 23, 1, 0⟩
def F.RST_WDOG_EN : Fld := ⟨0x10010010, 22, 1, 0⟩
def F.RST_WDOG_TIMEOUT : Fld := ⟨0x10010010, 0, 16, 0x3e8⟩
def F.RST_FLAGS_WDWARN : Fld := ⟨0x10010014, 0, 1, 0⟩
def F.RST_IEN_EN : Fld := ⟨0x1001001C, 0, 1, 0⟩
def F.RST_EVCNT_CLR : Fld := ⟨0x10010018, 31, 1, 0⟩
def F.RST_EVCNT_COUNT : Fld := ⟨0x10010018, 0, 8, 0⟩

def regRowsRST0 : List RegRow := [
  ⟨0x10010000, 1, 4, [⟨16, 4, .ro, 0⟩, ⟨0, 9, .ro, 0⟩]⟩,
  ⟨0x10010004, 1, 4, [⟨8, 4, .ro, 0⟩, ⟨0, 4, .ro, 0⟩]⟩,
  ⟨0x10010008, 1, 4, [⟨31, 1, .w1s, 0⟩, ⟨0, 14, .ro, 0⟩]⟩,
  ⟨0x1001000C, 1, 4, [⟨24, 8, .wo, 0⟩, ⟨0, 1, .wo, 0⟩]⟩,
  ⟨0x10010010, 1, 4, [⟨24, 8, .wo, 0⟩, ⟨23, 1, .wo, 0⟩, ⟨22, 1, .w1s, 0⟩, ⟨0, 16, .rw, 0x3e8⟩]⟩,
  ⟨0x10010014, 1, 4, [⟨0, 1, .w1c, 0⟩]⟩,
  ⟨0x1001001C, 1, 4, [⟨0, 1, .rw, 0⟩]⟩,
  ⟨0x10010018, 1, 4, [⟨31, 1, .wo, 0⟩, ⟨0, 8, .ro, 0⟩]⟩]

/-- The registers of the RST block. -/
def regRowsRST : List RegRow := regRowsRST0

/-! ### PWR -/

def F.PWR_STATE_REFUSE : Fld := ⟨0x10020000, 12, 4, 0⟩
def F.PWR_STATE_ENTRY : Fld := ⟨0x10020000, 11, 1, 0⟩
def F.PWR_STATE_PREV : Fld := ⟨0x10020000, 8, 3, 0⟩
def F.PWR_STATE_STATE : Fld := ⟨0x10020000, 0, 3, 0⟩
def F.PWR_REQ_RESCLR : Fld := ⟨0x10020004, 31, 1, 0⟩
def F.PWR_REQ_TARGET : Fld := ⟨0x10020004, 0, 3, 0⟩
def F.PWR_PLEVEL_LIMIT : Fld := ⟨0x10020008, 12, 2, 0⟩
def F.PWR_PLEVEL_GOVCAP : Fld := ⟨0x10020008, 10, 2, 0⟩
def F.PWR_PLEVEL_ACT : Fld := ⟨0x10020008, 8, 2, 2⟩
def F.PWR_PLEVEL_CHANGING : Fld := ⟨0x10020008, 7, 1, 0⟩
def F.PWR_PLEVEL_REQ : Fld := ⟨0x10020008, 0, 2, 2⟩
def F.PWR_WAKESRC_TSRC : Fld := ⟨0x1002000C, 24, 1, 0⟩
def F.PWR_WAKESRC_FIRST : Fld := ⟨0x1002000C, 20, 4, 0⟩
def F.PWR_WAKESRC_SEEN : Fld := ⟨0x1002000C, 0, 16, 0⟩
def F.PWR_WAKEEN_EN : Fld := ⟨0x10020018, 0, 16, 0⟩
def F.PWR_WAKETIMELO_TIME : Fld := ⟨0x10020010, 0, 32, 0⟩
def F.PWR_WAKETIMEHI_TIME : Fld := ⟨0x10020014, 0, 32, 0⟩
def F.PWR_FLAGS_PFWCLR : Fld := ⟨0x1002001C, 6, 1, 0⟩
def F.PWR_FLAGS_AVSLIM : Fld := ⟨0x1002001C, 5, 1, 0⟩
def F.PWR_FLAGS_GOVP3 : Fld := ⟨0x1002001C, 4, 1, 0⟩
def F.PWR_FLAGS_GOVSTEP : Fld := ⟨0x1002001C, 3, 1, 0⟩
def F.PWR_FLAGS_ABORT : Fld := ⟨0x1002001C, 2, 1, 0⟩
def F.PWR_FLAGS_REFUSED : Fld := ⟨0x1002001C, 1, 1, 0⟩
def F.PWR_FLAGS_WAKE : Fld := ⟨0x1002001C, 0, 1, 0⟩
def F.PWR_IEN_EN : Fld := ⟨0x10020024, 0, 7, 0⟩
def F.PWR_AVS_LIM : Fld := ⟨0x10020028, 16, 1, 0⟩
def F.PWR_AVS_VOUT : Fld := ⟨0x10020028, 8, 8, 0⟩
def F.PWR_AVS_TRIM : Fld := ⟨0x10020028, 0, 8, 0⟩
def F.PWR_RESUMELO_ADDR : Fld := ⟨0x1002002C, 0, 32, 0⟩
def F.PWR_RESUMEHI_ADDR : Fld := ⟨0x10020030, 0, 32, 0⟩
def F.PWR_RTCLO_TICKS : Fld := ⟨0x10020034, 0, 32, 0⟩
def F.PWR_RTCHI_TICKS : Fld := ⟨0x10020038, 0, 32, 0⟩
def F.PWR_ALARMLO_TICKS : Fld := ⟨0x1002003C, 0, 32, 0⟩
def F.PWR_ALARMHI_TICKS : Fld := ⟨0x10020040, 0, 32, 0⟩
def F.PWR_RESLO_TICKS (i : Nat) : Fld := ⟨0x10020080 + 8 * i, 0, 32, 0⟩
def F.PWR_RESHI_TICKS (i : Nat) : Fld := ⟨0x10020084 + 8 * i, 0, 32, 0⟩
def F.PWR_EVCNT_CLR : Fld := ⟨0x10020020, 31, 1, 0⟩
def F.PWR_EVCNT_COUNT : Fld := ⟨0x10020020, 0, 8, 0⟩

def regRowsPWR0 : List RegRow := [
  ⟨0x10020000, 1, 4, [⟨12, 4, .ro, 0⟩, ⟨11, 1, .ro, 0⟩, ⟨8, 3, .ro, 0⟩, ⟨0, 3, .ro, 0⟩]⟩,
  ⟨0x10020004, 1, 4, [⟨31, 1, .wo, 0⟩, ⟨0, 3, .wo, 0⟩]⟩,
  ⟨0x10020008, 1, 4, [⟨12, 2, .ro, 0⟩, ⟨10, 2, .ro, 0⟩, ⟨8, 2, .ro, 2⟩, ⟨7, 1, .ro, 0⟩, ⟨0, 2, .rw, 2⟩]⟩,
  ⟨0x1002000C, 1, 4, [⟨24, 1, .ro, 0⟩, ⟨20, 4, .ro, 0⟩, ⟨0, 16, .ro, 0⟩]⟩,
  ⟨0x10020018, 1, 4, [⟨0, 16, .rw, 0⟩]⟩,
  ⟨0x10020010, 1, 4, [⟨0, 32, .ro, 0⟩]⟩,
  ⟨0x10020014, 1, 4, [⟨0, 32, .ro, 0⟩]⟩,
  ⟨0x1002001C, 1, 4, [⟨6, 1, .w1c, 0⟩, ⟨5, 1, .w1c, 0⟩, ⟨4, 1, .w1c, 0⟩, ⟨3, 1, .w1c, 0⟩, ⟨2, 1, .w1c, 0⟩, ⟨1, 1, .w1c, 0⟩, ⟨0, 1, .w1c, 0⟩]⟩,
  ⟨0x10020024, 1, 4, [⟨0, 7, .rw, 0⟩]⟩,
  ⟨0x10020028, 1, 4, [⟨16, 1, .ro, 0⟩, ⟨8, 8, .ro, 0⟩, ⟨0, 8, .ro, 0⟩]⟩,
  ⟨0x1002002C, 1, 4, [⟨0, 32, .rw, 0⟩]⟩,
  ⟨0x10020030, 1, 4, [⟨0, 32, .rw, 0⟩]⟩,
  ⟨0x10020034, 1, 4, [⟨0, 32, .ro, 0⟩]⟩,
  ⟨0x10020038, 1, 4, [⟨0, 32, .ro, 0⟩]⟩,
  ⟨0x1002003C, 1, 4, [⟨0, 32, .rw, 0⟩]⟩,
  ⟨0x10020040, 1, 4, [⟨0, 32, .rw, 0⟩]⟩,
  ⟨0x10020080, 9, 8, [⟨0, 32, .ro, 0⟩]⟩,
  ⟨0x10020084, 9, 8, [⟨0, 32, .ro, 0⟩]⟩,
  ⟨0x10020020, 1, 4, [⟨31, 1, .wo, 0⟩, ⟨0, 8, .ro, 0⟩]⟩]

/-- The registers of the PWR block. -/
def regRowsPWR : List RegRow := regRowsPWR0

/-! ### CLK -/

def F.CLK_REFSEL_ACT : Fld := ⟨0x10030000, 4, 2, 1⟩
def F.CLK_REFSEL_BUSY : Fld := ⟨0x10030000, 3, 1, 0⟩
def F.CLK_REFSEL_SEL : Fld := ⟨0x10030000, 0, 1, 0⟩
def F.CLK_FAILMODE_HOLDCLR : Fld := ⟨0x10030004, 2, 1, 0⟩
def F.CLK_FAILMODE_HOLD : Fld := ⟨0x10030004, 1, 1, 0⟩
def F.CLK_FAILMODE_MODE : Fld := ⟨0x10030004, 0, 1, 0⟩
def F.CLK_STATUS_HOLD : Fld := ⟨0x10030008, 6, 1, 0⟩
def F.CLK_STATUS_MAINLOCK : Fld := ⟨0x10030008, 5, 1, 0⟩
def F.CLK_STATUS_RTCOK : Fld := ⟨0x10030008, 4, 1, 0⟩
def F.CLK_STATUS_IRCOK : Fld := ⟨0x10030008, 3, 1, 0⟩
def F.CLK_STATUS_RECOK : Fld := ⟨0x10030008, 2, 1, 0⟩
def F.CLK_STATUS_XOOK : Fld := ⟨0x10030008, 1, 1, 0⟩
def F.CLK_STATUS_ONIRC : Fld := ⟨0x10030008, 0, 1, 0⟩
def F.CLK_FLAGS_HOLDOUT : Fld := ⟨0x1003000C, 7, 1, 0⟩
def F.CLK_FLAGS_HOLDIN : Fld := ⟨0x1003000C, 6, 1, 0⟩
def F.CLK_FLAGS_REFBACK : Fld := ⟨0x1003000C, 5, 1, 0⟩
def F.CLK_FLAGS_SWDONE : Fld := ⟨0x1003000C, 4, 1, 0⟩
def F.CLK_FLAGS_FORCED : Fld := ⟨0x1003000C, 3, 1, 0⟩
def F.CLK_FLAGS_RTCERR : Fld := ⟨0x1003000C, 2, 1, 0⟩
def F.CLK_FLAGS_RECDEAD : Fld := ⟨0x1003000C, 1, 1, 0⟩
def F.CLK_FLAGS_XODEAD : Fld := ⟨0x1003000C, 0, 1, 0⟩
def F.CLK_IEN_EN : Fld := ⟨0x10030014, 0, 8, 0⟩
def F.CLK_MONXO_ERR : Fld := ⟨0x10030018, 0, 32, 0⟩
def F.CLK_MONREC_ERR : Fld := ⟨0x1003001C, 0, 32, 0⟩
def F.CLK_MONRTC_ERR : Fld := ⟨0x10030020, 0, 32, 0⟩
def F.CLK_EVCNT_CLR : Fld := ⟨0x10030010, 31, 1, 0⟩
def F.CLK_EVCNT_COUNT : Fld := ⟨0x10030010, 0, 8, 0⟩

def regRowsCLK0 : List RegRow := [
  ⟨0x10030000, 1, 4, [⟨4, 2, .ro, 1⟩, ⟨3, 1, .ro, 0⟩, ⟨0, 1, .rw, 0⟩]⟩,
  ⟨0x10030004, 1, 4, [⟨2, 1, .wo, 0⟩, ⟨1, 1, .ro, 0⟩, ⟨0, 1, .ro, 0⟩]⟩,
  ⟨0x10030008, 1, 4, [⟨6, 1, .ro, 0⟩, ⟨5, 1, .ro, 0⟩, ⟨4, 1, .ro, 0⟩, ⟨3, 1, .ro, 0⟩, ⟨2, 1, .ro, 0⟩, ⟨1, 1, .ro, 0⟩, ⟨0, 1, .ro, 0⟩]⟩,
  ⟨0x1003000C, 1, 4, [⟨7, 1, .w1c, 0⟩, ⟨6, 1, .w1c, 0⟩, ⟨5, 1, .w1c, 0⟩, ⟨4, 1, .w1c, 0⟩, ⟨3, 1, .w1c, 0⟩, ⟨2, 1, .w1c, 0⟩, ⟨1, 1, .w1c, 0⟩, ⟨0, 1, .w1c, 0⟩]⟩,
  ⟨0x10030014, 1, 4, [⟨0, 8, .rw, 0⟩]⟩,
  ⟨0x10030018, 1, 4, [⟨0, 32, .ro, 0⟩]⟩,
  ⟨0x1003001C, 1, 4, [⟨0, 32, .ro, 0⟩]⟩,
  ⟨0x10030020, 1, 4, [⟨0, 32, .ro, 0⟩]⟩,
  ⟨0x10030010, 1, 4, [⟨31, 1, .wo, 0⟩, ⟨0, 8, .ro, 0⟩]⟩]

/-- The registers of the CLK block. -/
def regRowsCLK : List RegRow := regRowsCLK0

/-! ### TMP -/

def F.TMP_COUNTLO_CHAIN : Fld := ⟨0x10040000, 0, 32, 0⟩
def F.TMP_COUNTHI_CHAIN : Fld := ⟨0x10040004, 0, 32, 0⟩
def F.TMP_PHASE_CYCLE : Fld := ⟨0x10040008, 0, 14, 0⟩
def F.TMP_INCR_INCR : Fld := ⟨0x1004000C, 0, 32, 0xc3500000⟩
def F.TMP_STATUS_IRC : Fld := ⟨0x10040010, 5, 1, 0⟩
def F.TMP_STATUS_SRCLOST : Fld := ⟨0x10040010, 4, 1, 0⟩
def F.TMP_STATUS_MODE : Fld := ⟨0x10040010, 0, 3, 0⟩
def F.TMP_FLAGS_STEP : Fld := ⟨0x10040014, 4, 1, 0⟩
def F.TMP_FLAGS_SYNCBACK : Fld := ⟨0x10040014, 3, 1, 0⟩
def F.TMP_FLAGS_SYNCLOSS : Fld := ⟨0x10040014, 2, 1, 0⟩
def F.TMP_FLAGS_LATE : Fld := ⟨0x10040014, 1, 1, 0⟩
def F.TMP_FLAGS_OVERRUN : Fld := ⟨0x10040014, 0, 1, 0⟩
def F.TMP_EVCNT_CLR : Fld := ⟨0x10040018, 31, 1, 0⟩
def F.TMP_EVCNT_COUNT : Fld := ⟨0x10040018, 0, 8, 0⟩
def F.TMP_IEN_EN : Fld := ⟨0x1004001C, 0, 5, 0⟩
def F.TMP_OVERRUN_LASTSLOT : Fld := ⟨0x10040020, 28, 4, 0⟩
def F.TMP_OVERRUN_CONSEC : Fld := ⟨0x10040020, 24, 2, 0⟩
def F.TMP_OVERRUN_COUNT : Fld := ⟨0x10040020, 0, 16, 0⟩
def F.TMP_PHERR_ERR : Fld := ⟨0x10040024, 0, 32, 0⟩
def F.TMP_LINKDLY_DELAY : Fld := ⟨0x10040028, 0, 16, 0⟩
def F.TMP_CFG_COORD : Fld := ⟨0x1004002C, 2, 1, 0⟩
def F.TMP_CFG_TIMESRC : Fld := ⟨0x1004002C, 0, 2, 0⟩
def F.TMP_SLOT_DUTY (i : Nat) : Fld := ⟨0x10040040 + 4 * i, 28, 4, 0⟩
def F.TMP_SLOT_START (i : Nat) : Fld := ⟨0x10040040 + 4 * i, 14, 14, 0⟩
def F.TMP_SLOT_DEADLINE (i : Nat) : Fld := ⟨0x10040040 + 4 * i, 0, 14, 0⟩
def F.TMP_PEAK_FINISH (i : Nat) : Fld := ⟨0x10040080 + 4 * i, 0, 14, 0⟩

def regRowsTMP0 : List RegRow := [
  ⟨0x10040000, 1, 4, [⟨0, 32, .ro, 0⟩]⟩,
  ⟨0x10040004, 1, 4, [⟨0, 32, .ro, 0⟩]⟩,
  ⟨0x10040008, 1, 4, [⟨0, 14, .ro, 0⟩]⟩,
  ⟨0x1004000C, 1, 4, [⟨0, 32, .ro, 0xc3500000⟩]⟩,
  ⟨0x10040010, 1, 4, [⟨5, 1, .ro, 0⟩, ⟨4, 1, .ro, 0⟩, ⟨0, 3, .ro, 0⟩]⟩,
  ⟨0x10040014, 1, 4, [⟨4, 1, .w1c, 0⟩, ⟨3, 1, .w1c, 0⟩, ⟨2, 1, .w1c, 0⟩, ⟨1, 1, .w1c, 0⟩, ⟨0, 1, .w1c, 0⟩]⟩,
  ⟨0x10040018, 1, 4, [⟨31, 1, .wo, 0⟩, ⟨0, 8, .ro, 0⟩]⟩,
  ⟨0x1004001C, 1, 4, [⟨0, 5, .rw, 0⟩]⟩,
  ⟨0x10040020, 1, 4, [⟨28, 4, .ro, 0⟩, ⟨24, 2, .ro, 0⟩, ⟨0, 16, .ro, 0⟩]⟩,
  ⟨0x10040024, 1, 4, [⟨0, 32, .ro, 0⟩]⟩,
  ⟨0x10040028, 1, 4, [⟨0, 16, .ro, 0⟩]⟩,
  ⟨0x1004002C, 1, 4, [⟨2, 1, .ro, 0⟩, ⟨0, 2, .ro, 0⟩]⟩,
  ⟨0x10040040, 16, 4, [⟨28, 4, .ro, 0⟩, ⟨14, 14, .ro, 0⟩, ⟨0, 14, .ro, 0⟩]⟩,
  ⟨0x10040080, 16, 4, [⟨0, 14, .ro, 0⟩]⟩]

/-- The registers of the TMP block. -/
def regRowsTMP : List RegRow := regRowsTMP0

/-! ### BRD -/

def F.BRD_STATUS_FORCED : Fld := ⟨0x10050000, 8, 1, 1⟩
def F.BRD_STATUS_USED : Fld := ⟨0x10050000, 0, 7, 0⟩
def F.BRD_FLAGS_SCRABT : Fld := ⟨0x10050004, 7, 1, 0⟩
def F.BRD_FLAGS_TRIPMATE : Fld := ⟨0x10050004, 6, 1, 0⟩
def F.BRD_FLAGS_TRIPCHK : Fld := ⟨0x10050004, 5, 1, 0⟩
def F.BRD_FLAGS_STALE : Fld := ⟨0x10050004, 4, 1, 0⟩
def F.BRD_FLAGS_ECCCOR : Fld := ⟨0x10050004, 3, 1, 0⟩
def F.BRD_FLAGS_ECCUNC : Fld := ⟨0x10050004, 2, 1, 0⟩
def F.BRD_FLAGS_CRCERR : Fld := ⟨0x10050004, 1, 1, 0⟩
def F.BRD_FLAGS_MISMATCH : Fld := ⟨0x10050004, 0, 1, 0⟩
def F.BRD_EVCNT_CLR : Fld := ⟨0x10050008, 31, 1, 0⟩
def F.BRD_EVCNT_COUNT : Fld := ⟨0x10050008, 0, 8, 0⟩
def F.BRD_IEN_EN : Fld := ⟨0x1005000C, 0, 8, 0⟩
def F.BRD_CRCREF_CRC : Fld := ⟨0x10050010, 0, 32, 0⟩
def F.BRD_CRCLAST_CRC : Fld := ⟨0x10050014, 0, 32, 0⟩
def F.BRD_ECCCNT_COR : Fld := ⟨0x10050018, 0, 16, 0⟩
def F.BRD_MISMATCH_SQUARE : Fld := ⟨0x1005001C, 10, 6, 0⟩
def F.BRD_MISMATCH_ELEM : Fld := ⟨0x1005001C, 0, 5, 0⟩
def F.BRD_OUT_TARGET (i : Nat) : Fld := ⟨0x10050020 + 4 * i, 0, 32, 0⟩
def F.BRD_STALE_STALE (i : Nat) : Fld := ⟨0x10050030 + 4 * i, 0, 32, 0⟩
def F.BRD_SAFEDIG_DIGEST (i : Nat) : Fld := ⟨0x10050040 + 4 * i, 0, 32, 0⟩
def F.BRD_SQ_CSTALE (i : Nat) : Fld := ⟨0x10050100 + 4 * i, 21, 1, 0⟩
def F.BRD_SQ_CABOVE (i : Nat) : Fld := ⟨0x10050100 + 4 * i, 20, 1, 0⟩
def F.BRD_SQ_CIN (i : Nat) : Fld := ⟨0x10050100 + 4 * i, 19, 1, 0⟩
def F.BRD_SQ_TC (i : Nat) : Fld := ⟨0x10050100 + 4 * i, 18, 1, 0⟩
def F.BRD_SQ_TDONE (i : Nat) : Fld := ⟨0x10050100 + 4 * i, 16, 2, 0⟩
def F.BRD_SQ_Q (i : Nat) : Fld := ⟨0x10050100 + 4 * i, 8, 8, 0⟩
def F.BRD_SQ_C (i : Nat) : Fld := ⟨0x10050100 + 4 * i, 0, 8, 0⟩

def regRowsBRD0 : List RegRow := [
  ⟨0x10050000, 1, 4, [⟨8, 1, .ro, 1⟩, ⟨0, 7, .ro, 0⟩]⟩,
  ⟨0x10050004, 1, 4, [⟨7, 1, .w1c, 0⟩, ⟨6, 1, .w1c, 0⟩, ⟨5, 1, .w1c, 0⟩, ⟨4, 1, .w1c, 0⟩, ⟨3, 1, .w1c, 0⟩, ⟨2, 1, .w1c, 0⟩, ⟨1, 1, .w1c, 0⟩, ⟨0, 1, .w1c, 0⟩]⟩,
  ⟨0x10050008, 1, 4, [⟨31, 1, .wo, 0⟩, ⟨0, 8, .ro, 0⟩]⟩,
  ⟨0x1005000C, 1, 4, [⟨0, 8, .rw, 0⟩]⟩,
  ⟨0x10050010, 1, 4, [⟨0, 32, .ro, 0⟩]⟩,
  ⟨0x10050014, 1, 4, [⟨0, 32, .ro, 0⟩]⟩,
  ⟨0x10050018, 1, 4, [⟨0, 16, .ro, 0⟩]⟩,
  ⟨0x1005001C, 1, 4, [⟨10, 6, .ro, 0⟩, ⟨0, 5, .ro, 0⟩]⟩,
  ⟨0x10050020, 4, 4, [⟨0, 32, .ro, 0⟩]⟩,
  ⟨0x10050030, 2, 4, [⟨0, 32, .ro, 0⟩]⟩,
  ⟨0x10050040, 8, 4, [⟨0, 32, .ro, 0⟩]⟩,
  ⟨0x10050100, 64, 4, [⟨21, 1, .ro, 0⟩, ⟨20, 1, .ro, 0⟩, ⟨19, 1, .ro, 0⟩, ⟨18, 1, .ro, 0⟩, ⟨16, 2, .ro, 0⟩, ⟨8, 8, .ro, 0⟩, ⟨0, 8, .ro, 0⟩]⟩]

/-- The registers of the BRD block. -/
def regRowsBRD : List RegRow := regRowsBRD0

/-! ### SAF -/

def F.SAF_STATE_DWELL : Fld := ⟨0x10060000, 16, 16, 0⟩
def F.SAF_STATE_BISTOK : Fld := ⟨0x10060000, 4, 1, 0⟩
def F.SAF_STATE_KEPT : Fld := ⟨0x10060000, 3, 1, 0⟩
def F.SAF_STATE_HOLD : Fld := ⟨0x10060000, 2, 1, 0⟩
def F.SAF_STATE_STATE : Fld := ⟨0x10060000, 0, 2, 2⟩
def F.SAF_CAUSE_FIRST : Fld := ⟨0x10060004, 24, 8, 0⟩
def F.SAF_CAUSE_LAST : Fld := ⟨0x10060004, 16, 8, 0⟩
def F.SAF_CAUSE_COUNT : Fld := ⟨0x10060004, 8, 8, 0⟩
def F.SAF_CAUSE_DATA : Fld := ⟨0x10060004, 0, 8, 0⟩
def F.SAF_FLAGS_SRESET : Fld := ⟨0x10060008, 12, 1, 0⟩
def F.SAF_FLAGS_MBREJ : Fld := ⟨0x10060008, 11, 1, 0⟩
def F.SAF_FLAGS_MBFULL : Fld := ⟨0x10060008, 10, 1, 0⟩
def F.SAF_FLAGS_SRAMCOR : Fld := ⟨0x10060008, 9, 1, 0⟩
def F.SAF_FLAGS_RCSENS : Fld := ⟨0x10060008, 8, 1, 0⟩
def F.SAF_FLAGS_RCTRIP : Fld := ⟨0x10060008, 7, 1, 0⟩
def F.SAF_FLAGS_ISOINV : Fld := ⟨0x10060008, 6, 1, 0⟩
def F.SAF_FLAGS_ISOFAULT : Fld := ⟨0x10060008, 5, 1, 0⟩
def F.SAF_FLAGS_ISOWARN : Fld := ⟨0x10060008, 4, 1, 0⟩
def F.SAF_FLAGS_GUARDLOST : Fld := ⟨0x10060008, 3, 1, 0⟩
def F.SAF_FLAGS_GUARDDUE : Fld := ⟨0x10060008, 2, 1, 0⟩
def F.SAF_FLAGS_GUARDPROOF : Fld := ⟨0x10060008, 1, 1, 0⟩
def F.SAF_FLAGS_STCHG : Fld := ⟨0x10060008, 0, 1, 0⟩
def F.SAF_EVCNT_CLR : Fld := ⟨0x1006000C, 31, 1, 0⟩
def F.SAF_EVCNT_COUNT : Fld := ⟨0x1006000C, 0, 8, 0⟩
def F.SAF_IEN_EN : Fld := ⟨0x10060010, 0, 13, 0⟩
def F.SAF_GUARD_SEQ : Fld := ⟨0x10060014, 16, 16, 0⟩
def F.SAF_GUARD_AGE : Fld := ⟨0x10060014, 7, 9, 0⟩
def F.SAF_GUARD_DUE : Fld := ⟨0x10060014, 6, 1, 0⟩
def F.SAF_GUARD_DIGOK : Fld := ⟨0x10060014, 5, 1, 0⟩
def F.SAF_GUARD_OK : Fld := ⟨0x10060014, 4, 1, 0⟩
def F.SAF_GUARD_STEP : Fld := ⟨0x10060014, 2, 2, 0⟩
def F.SAF_GUARD_PAIR : Fld := ⟨0x10060014, 0, 2, 0⟩
def F.SAF_PROOFLO_TIME : Fld := ⟨0x10060018, 0, 32, 0⟩
def F.SAF_PROOFHI_TIME : Fld := ⟨0x1006001C, 0, 32, 0⟩
def F.SAF_RC_IDC : Fld := ⟨0x10060020, 16, 16, 0⟩
def F.SAF_RC_TIER : Fld := ⟨0x10060020, 14, 2, 0⟩
def F.SAF_RC_TRIP : Fld := ⟨0x10060020, 13, 1, 0⟩
def F.SAF_RC_SENS : Fld := ⟨0x10060020, 12, 1, 0⟩
def F.SAF_LENERR_CLR : Fld := ⟨0x10060024, 31, 1, 0⟩
def F.SAF_LENERR_COUNT : Fld := ⟨0x10060024, 0, 16, 0⟩
def F.SAF_EVQOVF_CLR : Fld := ⟨0x10060028, 31, 1, 0⟩
def F.SAF_EVQOVF_COUNT : Fld := ⟨0x10060028, 0, 16, 0⟩
def F.SAF_MBSTAT_RESULT : Fld := ⟨0x1006002C, 16, 8, 0⟩
def F.SAF_MBSTAT_LASTOP : Fld := ⟨0x1006002C, 8, 8, 0⟩
def F.SAF_MBSTAT_LEVEL : Fld := ⟨0x1006002C, 0, 4, 0⟩
def F.SAF_MBCMD_OPCODE : Fld := ⟨0x10060030, 24, 8, 0⟩
def F.SAF_MBCMD_LEN : Fld := ⟨0x10060030, 0, 8, 0⟩
def F.SAF_CHAL_CHAL (i : Nat) : Fld := ⟨0x10060040 + 4 * i, 0, 32, 0⟩
def F.SAF_ISO_OHMV (i : Nat) : Fld := ⟨0x10060050 + 4 * i, 16, 16, 0⟩
def F.SAF_ISO_TAU (i : Nat) : Fld := ⟨0x10060050 + 4 * i, 8, 8, 0⟩
def F.SAF_ISO_EXTRAP (i : Nat) : Fld := ⟨0x10060050 + 4 * i, 3, 1, 0⟩
def F.SAF_ISO_INVALID (i : Nat) : Fld := ⟨0x10060050 + 4 * i, 2, 1, 0⟩
def F.SAF_ISO_WARN (i : Nat) : Fld := ⟨0x10060050 + 4 * i, 1, 1, 0⟩
def F.SAF_ISO_FAULT (i : Nat) : Fld := ⟨0x10060050 + 4 * i, 0, 1, 0⟩
def F.SAF_EVQ0_TIMELO : Fld := ⟨0x10060060, 0, 32, 0⟩
def F.SAF_EVQ1_TIMEHI : Fld := ⟨0x10060064, 0, 32, 0⟩
def F.SAF_EVQ2_DATA01 : Fld := ⟨0x10060068, 16, 16, 0⟩
def F.SAF_EVQ2_CODE : Fld := ⟨0x10060068, 8, 8, 0⟩
def F.SAF_EVQ2_SOURCE : Fld := ⟨0x10060068, 0, 8, 0xff⟩
def F.SAF_EVQ3_DATA25 : Fld := ⟨0x1006006C, 0, 32, 0⟩
def F.SAF_MBDATA_DATA (i : Nat) : Fld := ⟨0x10060080 + 4 * i, 0, 32, 0⟩

def regRowsSAF0 : List RegRow := [
  ⟨0x10060000, 1, 4, [⟨16, 16, .ro, 0⟩, ⟨4, 1, .ro, 0⟩, ⟨3, 1, .ro, 0⟩, ⟨2, 1, .ro, 0⟩, ⟨0, 2, .ro, 2⟩]⟩,
  ⟨0x10060004, 1, 4, [⟨24, 8, .ro, 0⟩, ⟨16, 8, .ro, 0⟩, ⟨8, 8, .ro, 0⟩, ⟨0, 8, .ro, 0⟩]⟩,
  ⟨0x10060008, 1, 4, [⟨12, 1, .w1c, 0⟩, ⟨11, 1, .w1c, 0⟩, ⟨10, 1, .w1c, 0⟩, ⟨9, 1, .w1c, 0⟩, ⟨8, 1, .w1c, 0⟩, ⟨7, 1, .w1c, 0⟩, ⟨6, 1, .w1c, 0⟩, ⟨5, 1, .w1c, 0⟩, ⟨4, 1, .w1c, 0⟩, ⟨3, 1, .w1c, 0⟩, ⟨2, 1, .w1c, 0⟩, ⟨1, 1, .w1c, 0⟩, ⟨0, 1, .w1c, 0⟩]⟩,
  ⟨0x1006000C, 1, 4, [⟨31, 1, .wo, 0⟩, ⟨0, 8, .ro, 0⟩]⟩,
  ⟨0x10060010, 1, 4, [⟨0, 13, .rw, 0⟩]⟩,
  ⟨0x10060014, 1, 4, [⟨16, 16, .ro, 0⟩, ⟨7, 9, .ro, 0⟩, ⟨6, 1, .ro, 0⟩, ⟨5, 1, .ro, 0⟩, ⟨4, 1, .ro, 0⟩, ⟨2, 2, .ro, 0⟩, ⟨0, 2, .ro, 0⟩]⟩,
  ⟨0x10060018, 1, 4, [⟨0, 32, .ro, 0⟩]⟩,
  ⟨0x1006001C, 1, 4, [⟨0, 32, .ro, 0⟩]⟩,
  ⟨0x10060020, 1, 4, [⟨16, 16, .ro, 0⟩, ⟨14, 2, .ro, 0⟩, ⟨13, 1, .ro, 0⟩, ⟨12, 1, .ro, 0⟩]⟩,
  ⟨0x10060024, 1, 4, [⟨31, 1, .wo, 0⟩, ⟨0, 16, .ro, 0⟩]⟩,
  ⟨0x10060028, 1, 4, [⟨31, 1, .wo, 0⟩, ⟨0, 16, .ro, 0⟩]⟩,
  ⟨0x1006002C, 1, 4, [⟨16, 8, .ro, 0⟩, ⟨8, 8, .ro, 0⟩, ⟨0, 4, .ro, 0⟩]⟩,
  ⟨0x10060030, 1, 4, [⟨24, 8, .wo, 0⟩, ⟨0, 8, .wo, 0⟩]⟩,
  ⟨0x10060040, 4, 4, [⟨0, 32, .ro, 0⟩]⟩,
  ⟨0x10060050, 4, 4, [⟨16, 16, .ro, 0⟩, ⟨8, 8, .ro, 0⟩, ⟨3, 1, .ro, 0⟩, ⟨2, 1, .ro, 0⟩, ⟨1, 1, .ro, 0⟩, ⟨0, 1, .ro, 0⟩]⟩,
  ⟨0x10060060, 1, 4, [⟨0, 32, .ro, 0⟩]⟩,
  ⟨0x10060064, 1, 4, [⟨0, 32, .ro, 0⟩]⟩,
  ⟨0x10060068, 1, 4, [⟨16, 16, .ro, 0⟩, ⟨8, 8, .ro, 0⟩, ⟨0, 8, .ro, 0xff⟩]⟩,
  ⟨0x1006006C, 1, 4, [⟨0, 32, .ro, 0⟩]⟩,
  ⟨0x10060080, 32, 4, [⟨0, 32, .rw, 0⟩]⟩]

/-- The registers of the SAF block. -/
def regRowsSAF : List RegRow := regRowsSAF0

/-! ### OUT -/

def F.OUT_CTRL_EVOPEN (i : Nat) : Fld := ⟨0x10070000 + 256 * i, 23, 1, 0⟩
def F.OUT_CTRL_DIR (i : Nat) : Fld := ⟨0x10070000 + 256 * i, 22, 1, 0⟩
def F.OUT_CTRL_BIDIR (i : Nat) : Fld := ⟨0x10070000 + 256 * i, 21, 1, 0⟩
def F.OUT_CTRL_AUTH (i : Nat) : Fld := ⟨0x10070000 + 256 * i, 20, 1, 0⟩
def F.OUT_CTRL_REQ (i : Nat) : Fld := ⟨0x10070000 + 256 * i, 0, 4, 0⟩
def F.OUT_STATE_DIRACT (i : Nat) : Fld := ⟨0x10070004 + 256 * i, 25, 1, 0⟩
def F.OUT_STATE_EMERG (i : Nat) : Fld := ⟨0x10070004 + 256 * i, 24, 1, 0⟩
def F.OUT_STATE_PAUSE (i : Nat) : Fld := ⟨0x10070004 + 256 * i, 23, 1, 0⟩
def F.OUT_STATE_LATCH (i : Nat) : Fld := ⟨0x10070004 + 256 * i, 22, 1, 0⟩
def F.OUT_STATE_PCMATCH (i : Nat) : Fld := ⟨0x10070004 + 256 * i, 21, 1, 0⟩
def F.OUT_STATE_CCDONE (i : Nat) : Fld := ⟨0x10070004 + 256 * i, 20, 1, 0⟩
def F.OUT_STATE_PERM (i : Nat) : Fld := ⟨0x10070004 + 256 * i, 16, 4, 0⟩
def F.OUT_STATE_STATUS (i : Nat) : Fld := ⟨0x10070004 + 256 * i, 8, 8, 0⟩
def F.OUT_STATE_PILOT (i : Nat) : Fld := ⟨0x10070004 + 256 * i, 4, 3, 0⟩
def F.OUT_STATE_STATE (i : Nat) : Fld := ⟨0x10070004 + 256 * i, 0, 4, 0⟩
def F.OUT_LIMIT_VMAX (i : Nat) : Fld := ⟨0x10070008 + 256 * i, 16, 16, 0⟩
def F.OUT_LIMIT_IMAX (i : Nat) : Fld := ⟨0x10070008 + 256 * i, 0, 16, 0⟩
def F.OUT_VTARGET_VT (i : Nat) : Fld := ⟨0x1007000C + 256 * i, 0, 16, 0⟩
def F.OUT_FLAGS_BUDGET (i : Nat) : Fld := ⟨0x10070010 + 256 * i, 9, 1, 0⟩
def F.OUT_FLAGS_EVSLOW (i : Nat) : Fld := ⟨0x10070010 + 256 * i, 8, 1, 0⟩
def F.OUT_FLAGS_HARDBRK (i : Nat) : Fld := ⟨0x10070010 + 256 * i, 7, 1, 0⟩
def F.OUT_FLAGS_PCMATCH (i : Nat) : Fld := ⟨0x10070010 + 256 * i, 6, 1, 0⟩
def F.OUT_FLAGS_CCDONE (i : Nat) : Fld := ⟨0x10070010 + 256 * i, 5, 1, 0⟩
def F.OUT_FLAGS_CAUSE (i : Nat) : Fld := ⟨0x10070010 + 256 * i, 4, 1, 0⟩
def F.OUT_FLAGS_AUTHREF (i : Nat) : Fld := ⟨0x10070010 + 256 * i, 3, 1, 0⟩
def F.OUT_FLAGS_REQOVW (i : Nat) : Fld := ⟨0x10070010 + 256 * i, 2, 1, 0⟩
def F.OUT_FLAGS_REQREJ (i : Nat) : Fld := ⟨0x10070010 + 256 * i, 1, 1, 0⟩
def F.OUT_FLAGS_STCHG (i : Nat) : Fld := ⟨0x10070010 + 256 * i, 0, 1, 0⟩
def F.OUT_CAUSE_REJ (i : Nat) : Fld := ⟨0x10070014 + 256 * i, 12, 4, 0⟩
def F.OUT_CAUSE_INSTATE (i : Nat) : Fld := ⟨0x10070014 + 256 * i, 8, 4, 0⟩
def F.OUT_CAUSE_CODE (i : Nat) : Fld := ⟨0x10070014 + 256 * i, 0, 8, 0⟩
def F.OUT_EVCNT_CLR (i : Nat) : Fld := ⟨0x10070018 + 256 * i, 31, 1, 0⟩
def F.OUT_EVCNT_COUNT (i : Nat) : Fld := ⟨0x10070018 + 256 * i, 0, 8, 0⟩
def F.OUT_IEN_EN (i : Nat) : Fld := ⟨0x1007001C + 256 * i, 0, 10, 0⟩
def F.OUT_APPLIED_BIND (i : Nat) : Fld := ⟨0x10070020 + 256 * i, 16, 3, 0⟩
def F.OUT_APPLIED_IAPP (i : Nat) : Fld := ⟨0x10070020 + 256 * i, 0, 16, 0⟩
def F.OUT_MEAS_I (i : Nat) : Fld := ⟨0x10070024 + 256 * i, 16, 16, 0⟩
def F.OUT_MEAS_V (i : Nat) : Fld := ⟨0x10070024 + 256 * i, 0, 16, 0⟩
def F.OUT_GRANT_SHARE (i : Nat) : Fld := ⟨0x10070028 + 256 * i, 16, 16, 0⟩
def F.OUT_GRANT_GRANT (i : Nat) : Fld := ⟨0x10070028 + 256 * i, 0, 16, 0⟩
def F.OUT_TIMER_TEMPOS (i : Nat) : Fld := ⟨0x1007002C + 256 * i, 0, 32, 0⟩
def F.OUT_DUTY_DUTY (i : Nat) : Fld := ⟨0x10070030 + 256 * i, 0, 10, 0⟩

def regRowsOUT0 : List RegRow := [
  ⟨0x10070000, 4, 256, [⟨23, 1, .wo, 0⟩, ⟨22, 1, .rw, 0⟩, ⟨21, 1, .rw, 0⟩, ⟨20, 1, .rw, 0⟩, ⟨0, 4, .wo, 0⟩]⟩,
  ⟨0x10070004, 4, 256, [⟨25, 1, .ro, 0⟩, ⟨24, 1, .ro, 0⟩, ⟨23, 1, .ro, 0⟩, ⟨22, 1, .ro, 0⟩, ⟨21, 1, .ro, 0⟩, ⟨20, 1, .ro, 0⟩, ⟨16, 4, .ro, 0⟩, ⟨8, 8, .ro, 0⟩, ⟨4, 3, .ro, 0⟩, ⟨0, 4, .ro, 0⟩]⟩,
  ⟨0x10070008, 4, 256, [⟨16, 16, .rw, 0⟩, ⟨0, 16, .rw, 0⟩]⟩,
  ⟨0x1007000C, 4, 256, [⟨0, 16, .rw, 0⟩]⟩,
  ⟨0x10070010, 4, 256, [⟨9, 1, .w1c, 0⟩, ⟨8, 1, .w1c, 0⟩, ⟨7, 1, .w1c, 0⟩, ⟨6, 1, .w1c, 0⟩, ⟨5, 1, .w1c, 0⟩, ⟨4, 1, .w1c, 0⟩, ⟨3, 1, .w1c, 0⟩, ⟨2, 1, .w1c, 0⟩, ⟨1, 1, .w1c, 0⟩, ⟨0, 1, .w1c, 0⟩]⟩,
  ⟨0x10070014, 4, 256, [⟨12, 4, .ro, 0⟩, ⟨8, 4, .ro, 0⟩, ⟨0, 8, .ro, 0⟩]⟩,
  ⟨0x10070018, 4, 256, [⟨31, 1, .wo, 0⟩, ⟨0, 8, .ro, 0⟩]⟩,
  ⟨0x1007001C, 4, 256, [⟨0, 10, .rw, 0⟩]⟩,
  ⟨0x10070020, 4, 256, [⟨16, 3, .ro, 0⟩, ⟨0, 16, .ro, 0⟩]⟩,
  ⟨0x10070024, 4, 256, [⟨16, 16, .ro, 0⟩, ⟨0, 16, .ro, 0⟩]⟩,
  ⟨0x10070028, 4, 256, [⟨16, 16, .ro, 0⟩, ⟨0, 16, .ro, 0⟩]⟩,
  ⟨0x1007002C, 4, 256, [⟨0, 32, .ro, 0⟩]⟩,
  ⟨0x10070030, 4, 256, [⟨0, 10, .ro, 0⟩]⟩]

/-- The registers of the OUT block. -/
def regRowsOUT : List RegRow := regRowsOUT0

/-! ### MTX -/

def F.MTX_ALLOC_AVAIL : Fld := ⟨0x10080000, 16, 16, 0⟩
def F.MTX_ALLOC_CONN : Fld := ⟨0x10080000, 0, 16, 0⟩
def F.MTX_MIG_STEP : Fld := ⟨0x10080004, 28, 4, 0⟩
def F.MTX_MIG_GROUP : Fld := ⟨0x10080004, 24, 4, 0⟩
def F.MTX_MIG_SRC : Fld := ⟨0x10080004, 20, 3, 0⟩
def F.MTX_MIG_DST : Fld := ⟨0x10080004, 16, 3, 0⟩
def F.MTX_MIG_DONE : Fld := ⟨0x10080004, 0, 16, 0⟩
def F.MTX_FLAGS_HARDBRK : Fld := ⟨0x10080008, 11, 1, 0⟩
def F.MTX_FLAGS_BUDGETCAP : Fld := ⟨0x10080008, 10, 1, 0⟩
def F.MTX_FLAGS_CANERR : Fld := ⟨0x10080008, 9, 1, 0⟩
def F.MTX_FLAGS_WEAR : Fld := ⟨0x10080008, 8, 1, 0⟩
def F.MTX_FLAGS_BALSAT : Fld := ⟨0x10080008, 7, 1, 0⟩
def F.MTX_FLAGS_FBMISMATCH : Fld := ⟨0x10080008, 6, 1, 0⟩
def F.MTX_FLAGS_XPWELD : Fld := ⟨0x10080008, 5, 1, 0⟩
def F.MTX_FLAGS_PORTERR : Fld := ⟨0x10080008, 4, 1, 0⟩
def F.MTX_FLAGS_GRPBACK : Fld := ⟨0x10080008, 3, 1, 0⟩
def F.MTX_FLAGS_GRPLOST : Fld := ⟨0x10080008, 2, 1, 0⟩
def F.MTX_FLAGS_MIGABORT : Fld := ⟨0x10080008, 1, 1, 0⟩
def F.MTX_FLAGS_MIGDONE : Fld := ⟨0x10080008, 0, 1, 0⟩
def F.MTX_EVCNT_CLR : Fld := ⟨0x1008000C, 31, 1, 0⟩
def F.MTX_EVCNT_COUNT : Fld := ⟨0x1008000C, 0, 8, 0⟩
def F.MTX_IEN_EN : Fld := ⟨0x10080010, 0, 12, 0⟩
def F.MTX_GBUS_BUS (i : Nat) : Fld := ⟨0x10080014 + 4 * i, 0, 32, 0xffffffff⟩
def F.MTX_XP_CLOSED (i : Nat) : Fld := ⟨0x1008001C + 4 * i, 0, 32, 0⟩
def F.MTX_XPWELD_WELD (i : Nat) : Fld := ⟨0x10080024 + 4 * i, 0, 32, 0⟩
def F.MTX_PORT_CONSEC : Fld := ⟨0x1008002C, 24, 2, 0⟩
def F.MTX_PORT_DRVFLT : Fld := ⟨0x1008002C, 16, 8, 0⟩
def F.MTX_PORT_ERRCNT : Fld := ⟨0x1008002C, 0, 16, 0⟩
def F.MTX_CANERR_CLR : Fld := ⟨0x10080030, 31, 1, 0⟩
def F.MTX_CANERR_COUNT : Fld := ⟨0x10080030, 0, 16, 0⟩
def F.MTX_LENERR_CLR : Fld := ⟨0x10080034, 31, 1, 0⟩
def F.MTX_LENERR_COUNT : Fld := ⟨0x10080034, 0, 16, 0⟩
def F.MTX_BUDGET_SITE : Fld := ⟨0x10080038, 16, 16, 0⟩
def F.MTX_BUDGET_GRANTED : Fld := ⟨0x10080038, 0, 16, 0⟩
def F.MTX_BUS_KIND (i : Nat) : Fld := ⟨0x10080040 + 4 * i, 29, 3, 5⟩
def F.MTX_BUS_NGRP (i : Nat) : Fld := ⟨0x10080040 + 4 * i, 24, 5, 0⟩
def F.MTX_BUS_NEED (i : Nat) : Fld := ⟨0x10080040 + 4 * i, 16, 8, 0⟩
def F.MTX_BUS_GRANT (i : Nat) : Fld := ⟨0x10080040 + 4 * i, 0, 16, 0⟩
def F.MTX_BUSV_IREQ (i : Nat) : Fld := ⟨0x10080060 + 4 * i, 16, 16, 0⟩
def F.MTX_BUSV_V (i : Nat) : Fld := ⟨0x10080060 + 4 * i, 0, 16, 0⟩
def F.MTX_GRP_AGE (i : Nat) : Fld := ⟨0x10080100 + 8 * i, 24, 8, 0xff⟩
def F.MTX_GRP_STATE (i : Nat) : Fld := ⟨0x10080100 + 8 * i, 20, 4, 0xf⟩
def F.MTX_GRP_FCLASS (i : Nat) : Fld := ⟨0x10080100 + 8 * i, 16, 4, 0⟩
def F.MTX_GRP_PAVAIL (i : Nat) : Fld := ⟨0x10080100 + 8 * i, 8, 8, 0⟩
def F.MTX_GRP_TRIM (i : Nat) : Fld := ⟨0x10080100 + 8 * i, 0, 8, 0⟩
def F.MTX_GRPIV_IOUT (i : Nat) : Fld := ⟨0x10080104 + 8 * i, 16, 16, 0⟩
def F.MTX_GRPIV_VOUT (i : Nat) : Fld := ⟨0x10080104 + 8 * i, 0, 16, 0⟩
def F.MTX_SWCNT_COUNT (i : Nat) : Fld := ⟨0x10080400 + 4 * i, 0, 32, 0⟩
def F.MTX_I2TLO_I2T (i : Nat) : Fld := ⟨0x10080600 + 8 * i, 0, 32, 0⟩
def F.MTX_I2THI_I2T (i : Nat) : Fld := ⟨0x10080604 + 8 * i, 0, 32, 0⟩

def regRowsMTX0 : List RegRow := [
  ⟨0x10080000, 1, 4, [⟨16, 16, .ro, 0⟩, ⟨0, 16, .ro, 0⟩]⟩,
  ⟨0x10080004, 1, 4, [⟨28, 4, .ro, 0⟩, ⟨24, 4, .ro, 0⟩, ⟨20, 3, .ro, 0⟩, ⟨16, 3, .ro, 0⟩, ⟨0, 16, .ro, 0⟩]⟩,
  ⟨0x10080008, 1, 4, [⟨11, 1, .w1c, 0⟩, ⟨10, 1, .w1c, 0⟩, ⟨9, 1, .w1c, 0⟩, ⟨8, 1, .w1c, 0⟩, ⟨7, 1, .w1c, 0⟩, ⟨6, 1, .w1c, 0⟩, ⟨5, 1, .w1c, 0⟩, ⟨4, 1, .w1c, 0⟩, ⟨3, 1, .w1c, 0⟩, ⟨2, 1, .w1c, 0⟩, ⟨1, 1, .w1c, 0⟩, ⟨0, 1, .w1c, 0⟩]⟩,
  ⟨0x1008000C, 1, 4, [⟨31, 1, .wo, 0⟩, ⟨0, 8, .ro, 0⟩]⟩,
  ⟨0x10080010, 1, 4, [⟨0, 12, .rw, 0⟩]⟩,
  ⟨0x10080014, 2, 4, [⟨0, 32, .ro, 0xffffffff⟩]⟩,
  ⟨0x1008001C, 2, 4, [⟨0, 32, .ro, 0⟩]⟩,
  ⟨0x10080024, 2, 4, [⟨0, 32, .ro, 0⟩]⟩,
  ⟨0x1008002C, 1, 4, [⟨24, 2, .ro, 0⟩, ⟨16, 8, .ro, 0⟩, ⟨0, 16, .ro, 0⟩]⟩,
  ⟨0x10080030, 1, 4, [⟨31, 1, .wo, 0⟩, ⟨0, 16, .ro, 0⟩]⟩,
  ⟨0x10080034, 1, 4, [⟨31, 1, .wo, 0⟩, ⟨0, 16, .ro, 0⟩]⟩,
  ⟨0x10080038, 1, 4, [⟨16, 16, .ro, 0⟩, ⟨0, 16, .ro, 0⟩]⟩,
  ⟨0x10080040, 8, 4, [⟨29, 3, .ro, 5⟩, ⟨24, 5, .ro, 0⟩, ⟨16, 8, .ro, 0⟩, ⟨0, 16, .ro, 0⟩]⟩,
  ⟨0x10080060, 8, 4, [⟨16, 16, .ro, 0⟩, ⟨0, 16, .ro, 0⟩]⟩,
  ⟨0x10080100, 16, 8, [⟨24, 8, .ro, 0xff⟩, ⟨20, 4, .ro, 0xf⟩, ⟨16, 4, .ro, 0⟩, ⟨8, 8, .ro, 0⟩, ⟨0, 8, .ro, 0⟩]⟩,
  ⟨0x10080104, 16, 8, [⟨16, 16, .ro, 0⟩, ⟨0, 16, .ro, 0⟩]⟩,
  ⟨0x10080400, 64, 4, [⟨0, 32, .ro, 0⟩]⟩,
  ⟨0x10080600, 64, 8, [⟨0, 32, .ro, 0⟩]⟩,
  ⟨0x10080604, 64, 8, [⟨0, 32, .ro, 0⟩]⟩]

/-- The registers of the MTX block. -/
def regRowsMTX : List RegRow := regRowsMTX0

/-! ### MTR -/

def F.MTR_STATUS_EPREADY : Fld := ⟨0x10090000, 16, 8, 0⟩
def F.MTR_STATUS_EPFAULT : Fld := ⟨0x10090000, 8, 8, 0⟩
def F.MTR_STATUS_CLKDEG : Fld := ⟨0x10090000, 7, 1, 0⟩
def F.MTR_STATUS_MISSN : Fld := ⟨0x10090000, 3, 1, 0⟩
def F.MTR_STATUS_SEQ : Fld := ⟨0x10090000, 1, 2, 0⟩
def F.MTR_STATUS_CALOK : Fld := ⟨0x10090000, 0, 1, 0⟩
def F.MTR_FLAGS_TRANGE : Fld := ⟨0x10090004, 11, 1, 0⟩
def F.MTR_FLAGS_POBACKLOG : Fld := ⟨0x10090004, 10, 1, 0⟩
def F.MTR_FLAGS_CAPLOSS : Fld := ⟨0x10090004, 9, 1, 0⟩
def F.MTR_FLAGS_CLKDEG : Fld := ⟨0x10090004, 8, 1, 0⟩
def F.MTR_FLAGS_SEQREV : Fld := ⟨0x10090004, 7, 1, 0⟩
def F.MTR_FLAGS_MISSN : Fld := ⟨0x10090004, 6, 1, 0⟩
def F.MTR_FLAGS_GRIDEV : Fld := ⟨0x10090004, 5, 1, 0⟩
def F.MTR_FLAGS_PILOUT : Fld := ⟨0x10090004, 4, 1, 0⟩
def F.MTR_FLAGS_DEAD : Fld := ⟨0x10090004, 3, 1, 0⟩
def F.MTR_FLAGS_OVR : Fld := ⟨0x10090004, 2, 1, 0⟩
def F.MTR_FLAGS_MCLEAR : Fld := ⟨0x10090004, 1, 1, 0⟩
def F.MTR_FLAGS_MFAULT : Fld := ⟨0x10090004, 0, 1, 0⟩
def F.MTR_EVCNT_CLR : Fld := ⟨0x10090008, 31, 1, 0⟩
def F.MTR_EVCNT_COUNT : Fld := ⟨0x10090008, 0, 8, 0⟩
def F.MTR_IEN_EN : Fld := ⟨0x1009000C, 0, 12, 0⟩
def F.MTR_CAPLOSS_CLR : Fld := ⟨0x10090010, 31, 1, 0⟩
def F.MTR_CAPLOSS_COUNT : Fld := ⟨0x10090010, 0, 31, 0⟩
def F.MTR_CAPSEQ_VALUE : Fld := ⟨0x10090014, 0, 32, 0⟩
def F.MTR_CAPIDX_VALUE : Fld := ⟨0x10090018, 0, 32, 0⟩
def F.MTR_FREQ_VALID : Fld := ⟨0x10090020, 16, 1, 0⟩
def F.MTR_FREQ_FREQ : Fld := ⟨0x10090020, 0, 16, 0⟩
def F.MTR_ZCLO_TIME : Fld := ⟨0x10090024, 0, 32, 0⟩
def F.MTR_ZCHI_TIME : Fld := ⟨0x10090028, 0, 32, 0⟩
def F.MTR_VRMS_RMS (i : Nat) : Fld := ⟨0x10090030 + 4 * i, 0, 32, 0⟩
def F.MTR_IRMS_RMS (i : Nat) : Fld := ⟨0x1009003C + 4 * i, 0, 32, 0⟩
def F.MTR_GRIDEV0_TYPE : Fld := ⟨0x10090050, 28, 4, 0⟩
def F.MTR_GRIDEV0_PHASE : Fld := ⟨0x10090050, 26, 2, 0⟩
def F.MTR_GRIDEV0_EXTREME : Fld := ⟨0x10090050, 0, 16, 0⟩
def F.MTR_GRIDEV1_STARTLO : Fld := ⟨0x10090054, 0, 32, 0⟩
def F.MTR_GRIDEV2_STARTHI : Fld := ⟨0x10090058, 0, 32, 0⟩
def F.MTR_GRIDEV3_DUR : Fld := ⟨0x1009005C, 0, 32, 0⟩
def F.MTR_CHSTAT_USE (i : Nat) : Fld := ⟨0x10090100 + 16 * i, 28, 4, 0⟩
def F.MTR_CHSTAT_DEAD (i : Nat) : Fld := ⟨0x10090100 + 16 * i, 27, 1, 0⟩
def F.MTR_CHSTAT_OVR (i : Nat) : Fld := ⟨0x10090100 + 16 * i, 26, 1, 0⟩
def F.MTR_CHSTAT_ACQ (i : Nat) : Fld := ⟨0x10090100 + 16 * i, 25, 1, 0⟩
def F.MTR_CHSTAT_BOUND (i : Nat) : Fld := ⟨0x10090100 + 16 * i, 24, 1, 0⟩
def F.MTR_CHSTAT_LOST (i : Nat) : Fld := ⟨0x10090100 + 16 * i, 23, 1, 0⟩
def F.MTR_CHSTAT_NOISY (i : Nat) : Fld := ⟨0x10090100 + 16 * i, 22, 1, 0⟩
def F.MTR_CHSTAT_TSTALE (i : Nat) : Fld := ⟨0x10090100 + 16 * i, 21, 1, 0⟩
def F.MTR_CHSTAT_TRANGE (i : Nat) : Fld := ⟨0x10090100 + 16 * i, 20, 1, 0⟩
def F.MTR_CHSTAT_BLOCKS (i : Nat) : Fld := ⟨0x10090100 + 16 * i, 8, 6, 0⟩
def F.MTR_CHSTAT_DISCARD (i : Nat) : Fld := ⟨0x10090100 + 16 * i, 0, 8, 0⟩
def F.MTR_VAL_VALUE (i : Nat) : Fld := ⟨0x10090104 + 16 * i, 0, 32, 0⟩
def F.MTR_PIL_CORR (i : Nat) : Fld := ⟨0x10090108 + 16 * i, 8, 24, 0⟩
def F.MTR_PIL_SD (i : Nat) : Fld := ⟨0x10090108 + 16 * i, 0, 8, 0⟩
def F.MTR_TEMP_TEMP (i : Nat) : Fld := ⟨0x1009010C + 16 * i, 16, 16, 0⟩
def F.MTR_TEMP_DT (i : Nat) : Fld := ⟨0x1009010C + 16 * i, 0, 16, 0⟩
def F.MTR_EPIMPLO_E (i : Nat) : Fld := ⟨0x10090200 + 64 * i, 0, 32, 0⟩
def F.MTR_EPIMPHI_E (i : Nat) : Fld := ⟨0x10090204 + 64 * i, 0, 32, 0⟩
def F.MTR_EPEXPLO_E (i : Nat) : Fld := ⟨0x10090208 + 64 * i, 0, 32, 0⟩
def F.MTR_EPEXPHI_E (i : Nat) : Fld := ⟨0x1009020C + 64 * i, 0, 32, 0⟩
def F.MTR_EPDIMPLO_E (i : Nat) : Fld := ⟨0x10090210 + 64 * i, 0, 32, 0⟩
def F.MTR_EPDIMPHI_E (i : Nat) : Fld := ⟨0x10090214 + 64 * i, 0, 32, 0⟩
def F.MTR_EPDEXPLO_E (i : Nat) : Fld := ⟨0x10090218 + 64 * i, 0, 32, 0⟩
def F.MTR_EPDEXPHI_E (i : Nat) : Fld := ⟨0x1009021C + 64 * i, 0, 32, 0⟩
def F.MTR_EPPOWER_P (i : Nat) : Fld := ⟨0x10090220 + 64 * i, 0, 32, 0⟩
def F.MTR_EPDEAD_TEMPOS (i : Nat) : Fld := ⟨0x10090224 + 64 * i, 0, 32, 0⟩
def F.MTR_EPSTAT_READY (i : Nat) : Fld := ⟨0x10090228 + 64 * i, 7, 1, 0⟩
def F.MTR_EPSTAT_MFAULT (i : Nat) : Fld := ⟨0x10090228 + 64 * i, 6, 1, 0⟩
def F.MTR_EPSTAT_CREEP (i : Nat) : Fld := ⟨0x10090228 + 64 * i, 5, 1, 0⟩
def F.MTR_EPSTAT_CLKDEG (i : Nat) : Fld := ⟨0x10090228 + 64 * i, 4, 1, 0⟩
def F.MTR_EPSTAT_KIND (i : Nat) : Fld := ⟨0x10090228 + 64 * i, 2, 2, 0⟩

def regRowsMTR0 : List RegRow := [
  ⟨0x10090000, 1, 4, [⟨16, 8, .ro, 0⟩, ⟨8, 8, .ro, 0⟩, ⟨7, 1, .ro, 0⟩, ⟨3, 1, .ro, 0⟩, ⟨1, 2, .ro, 0⟩, ⟨0, 1, .ro, 0⟩]⟩,
  ⟨0x10090004, 1, 4, [⟨11, 1, .w1c, 0⟩, ⟨10, 1, .w1c, 0⟩, ⟨9, 1, .w1c, 0⟩, ⟨8, 1, .w1c, 0⟩, ⟨7, 1, .w1c, 0⟩, ⟨6, 1, .w1c, 0⟩, ⟨5, 1, .w1c, 0⟩, ⟨4, 1, .w1c, 0⟩, ⟨3, 1, .w1c, 0⟩, ⟨2, 1, .w1c, 0⟩, ⟨1, 1, .w1c, 0⟩, ⟨0, 1, .w1c, 0⟩]⟩,
  ⟨0x10090008, 1, 4, [⟨31, 1, .wo, 0⟩, ⟨0, 8, .ro, 0⟩]⟩,
  ⟨0x1009000C, 1, 4, [⟨0, 12, .rw, 0⟩]⟩,
  ⟨0x10090010, 1, 4, [⟨31, 1, .wo, 0⟩, ⟨0, 31, .ro, 0⟩]⟩,
  ⟨0x10090014, 1, 4, [⟨0, 32, .ro, 0⟩]⟩,
  ⟨0x10090018, 1, 4, [⟨0, 32, .ro, 0⟩]⟩,
  ⟨0x10090020, 1, 4, [⟨16, 1, .ro, 0⟩, ⟨0, 16, .ro, 0⟩]⟩,
  ⟨0x10090024, 1, 4, [⟨0, 32, .ro, 0⟩]⟩,
  ⟨0x10090028, 1, 4, [⟨0, 32, .ro, 0⟩]⟩,
  ⟨0x10090030, 3, 4, [⟨0, 32, .ro, 0⟩]⟩,
  ⟨0x1009003C, 4, 4, [⟨0, 32, .ro, 0⟩]⟩,
  ⟨0x10090050, 1, 4, [⟨28, 4, .ro, 0⟩, ⟨26, 2, .ro, 0⟩, ⟨0, 16, .ro, 0⟩]⟩,
  ⟨0x10090054, 1, 4, [⟨0, 32, .ro, 0⟩]⟩,
  ⟨0x10090058, 1, 4, [⟨0, 32, .ro, 0⟩]⟩,
  ⟨0x1009005C, 1, 4, [⟨0, 32, .ro, 0⟩]⟩,
  ⟨0x10090100, 16, 16, [⟨28, 4, .ro, 0⟩, ⟨27, 1, .ro, 0⟩, ⟨26, 1, .ro, 0⟩, ⟨25, 1, .ro, 0⟩, ⟨24, 1, .ro, 0⟩, ⟨23, 1, .ro, 0⟩, ⟨22, 1, .ro, 0⟩, ⟨21, 1, .ro, 0⟩, ⟨20, 1, .ro, 0⟩, ⟨8, 6, .ro, 0⟩, ⟨0, 8, .ro, 0⟩]⟩,
  ⟨0x10090104, 16, 16, [⟨0, 32, .ro, 0⟩]⟩,
  ⟨0x10090108, 16, 16, [⟨8, 24, .ro, 0⟩, ⟨0, 8, .ro, 0⟩]⟩,
  ⟨0x1009010C, 16, 16, [⟨16, 16, .ro, 0⟩, ⟨0, 16, .ro, 0⟩]⟩,
  ⟨0x10090200, 8, 64, [⟨0, 32, .ro, 0⟩]⟩,
  ⟨0x10090204, 8, 64, [⟨0, 32, .ro, 0⟩]⟩,
  ⟨0x10090208, 8, 64, [⟨0, 32, .ro, 0⟩]⟩,
  ⟨0x1009020C, 8, 64, [⟨0, 32, .ro, 0⟩]⟩]

def regRowsMTR1 : List RegRow := [
  ⟨0x10090210, 8, 64, [⟨0, 32, .ro, 0⟩]⟩,
  ⟨0x10090214, 8, 64, [⟨0, 32, .ro, 0⟩]⟩,
  ⟨0x10090218, 8, 64, [⟨0, 32, .ro, 0⟩]⟩,
  ⟨0x1009021C, 8, 64, [⟨0, 32, .ro, 0⟩]⟩,
  ⟨0x10090220, 8, 64, [⟨0, 32, .ro, 0⟩]⟩,
  ⟨0x10090224, 8, 64, [⟨0, 32, .ro, 0⟩]⟩,
  ⟨0x10090228, 8, 64, [⟨7, 1, .ro, 0⟩, ⟨6, 1, .ro, 0⟩, ⟨5, 1, .ro, 0⟩, ⟨4, 1, .ro, 0⟩, ⟨2, 2, .ro, 0⟩]⟩]

/-- The registers of the MTR block. -/
def regRowsMTR : List RegRow := regRowsMTR0 ++ regRowsMTR1

/-! ### BIL -/

def F.BIL_STATUS_TARIFF : Fld := ⟨0x100A0000, 28, 4, 0⟩
def F.BIL_STATUS_OPEN : Fld := ⟨0x100A0000, 24, 4, 0⟩
def F.BIL_STATUS_LOSS : Fld := ⟨0x100A0000, 11, 1, 0⟩
def F.BIL_STATUS_CHKSHOW : Fld := ⟨0x100A0000, 10, 1, 0⟩
def F.BIL_STATUS_SLEWING : Fld := ⟨0x100A0000, 9, 1, 0⟩
def F.BIL_STATUS_BEHIND : Fld := ⟨0x100A0000, 8, 1, 0⟩
def F.BIL_STATUS_PFWDONE : Fld := ⟨0x100A0000, 7, 1, 0⟩
def F.BIL_STATUS_FRAMOK : Fld := ⟨0x100A0000, 6, 1, 0⟩
def F.BIL_STATUS_CALPAS : Fld := ⟨0x100A0000, 5, 1, 0⟩
def F.BIL_STATUS_CALACT : Fld := ⟨0x100A0000, 4, 1, 0⟩
def F.BIL_STATUS_LTVALID : Fld := ⟨0x100A0000, 3, 1, 0⟩
def F.BIL_STATUS_CALIB : Fld := ⟨0x100A0000, 2, 1, 0⟩
def F.BIL_STATUS_READY : Fld := ⟨0x100A0000, 0, 1, 0⟩
def F.BIL_FLAGS_CHECKSHOW : Fld := ⟨0x100A0004, 12, 1, 0⟩
def F.BIL_FLAGS_FRAMERR : Fld := ⟨0x100A0004, 11, 1, 0⟩
def F.BIL_FLAGS_LATE : Fld := ⟨0x100A0004, 10, 1, 0⟩
def F.BIL_FLAGS_MBFULL : Fld := ⟨0x100A0004, 9, 1, 0⟩
def F.BIL_FLAGS_CMDREJ : Fld := ⟨0x100A0004, 8, 1, 0⟩
def F.BIL_FLAGS_TSTEP : Fld := ⟨0x100A0004, 7, 1, 0⟩
def F.BIL_FLAGS_CALACT : Fld := ⟨0x100A0004, 6, 1, 0⟩
def F.BIL_FLAGS_BPCLOSE : Fld := ⟨0x100A0004, 5, 1, 0⟩
def F.BIL_FLAGS_TSWITCH : Fld := ⟨0x100A0004, 4, 1, 0⟩
def F.BIL_FLAGS_DICLOSE : Fld := ⟨0x100A0004, 3, 1, 0⟩
def F.BIL_FLAGS_SESCLOSE : Fld := ⟨0x100A0004, 2, 1, 0⟩
def F.BIL_FLAGS_SESOPEN : Fld := ⟨0x100A0004, 1, 1, 0⟩
def F.BIL_FLAGS_RECORD : Fld := ⟨0x100A0004, 0, 1, 0⟩
def F.BIL_EVCNT_CLR : Fld := ⟨0x100A0008, 31, 1, 0⟩
def F.BIL_EVCNT_COUNT : Fld := ⟨0x100A0008, 0, 8, 0⟩
def F.BIL_IEN_EN : Fld := ⟨0x100A000C, 0, 13, 0⟩
def F.BIL_LTLO_LT : Fld := ⟨0x100A0010, 0, 32, 0⟩
def F.BIL_LTHI_LT : Fld := ⟨0x100A0014, 0, 32, 0⟩
def F.BIL_HWMLO_HWM : Fld := ⟨0x100A0018, 0, 32, 0⟩
def F.BIL_HWMHI_HWM : Fld := ⟨0x100A001C, 0, 32, 0⟩
def F.BIL_OFFLO_OFF : Fld := ⟨0x100A0020, 0, 32, 0⟩
def F.BIL_OFFHI_OFF : Fld := ⟨0x100A0024, 0, 32, 0⟩
def F.BIL_SLEW_VALUE : Fld := ⟨0x100A0028, 0, 32, 0⟩
def F.BIL_QUOTA_VALUE : Fld := ⟨0x100A002C, 0, 32, 0⟩
def F.BIL_CALID_ID : Fld := ⟨0x100A0030, 0, 32, 0⟩
def F.BIL_PCALID_ID : Fld := ⟨0x100A0034, 0, 32, 0⟩
def F.BIL_PACTLO_ACT : Fld := ⟨0x100A0038, 0, 32, 0⟩
def F.BIL_PACTHI_ACT : Fld := ⟨0x100A003C, 0, 32, 0⟩
def F.BIL_RECSEQ_SEQ : Fld := ⟨0x100A0040, 0, 32, 0⟩
def F.BIL_STEPSEQ_SEQ : Fld := ⟨0x100A0044, 0, 32, 0⟩
def F.BIL_JRNL_SEQ : Fld := ⟨0x100A0048, 0, 32, 0⟩
def F.BIL_PERIOD_SEQ : Fld := ⟨0x100A004C, 0, 32, 0⟩
def F.BIL_MBSTAT_RESULT : Fld := ⟨0x100A0050, 16, 8, 0⟩
def F.BIL_MBSTAT_LASTOP : Fld := ⟨0x100A0050, 8, 8, 0⟩
def F.BIL_MBSTAT_LEVEL : Fld := ⟨0x100A0050, 0, 4, 0⟩
def F.BIL_MBCMD_OPCODE : Fld := ⟨0x100A0054, 24, 8, 0⟩
def F.BIL_MBCMD_LEN : Fld := ⟨0x100A0054, 0, 8, 0⟩
def F.BIL_LENERR_CLR : Fld := ⟨0x100A0058, 31, 1, 0⟩
def F.BIL_LENERR_COUNT : Fld := ⟨0x100A0058, 0, 16, 0⟩
def F.BIL_EVQOVF_CLR : Fld := ⟨0x100A005C, 31, 1, 0⟩
def F.BIL_EVQOVF_COUNT : Fld := ⟨0x100A005C, 0, 16, 0⟩
def F.BIL_MBDATA_DATA (i : Nat) : Fld := ⟨0x100A0080 + 4 * i, 0, 32, 0⟩
def F.BIL_RECBUF_DATA (i : Nat) : Fld := ⟨0x100A0100 + 4 * i, 0, 32, 0⟩
def F.BIL_RECPUB_KEY (i : Nat) : Fld := ⟨0x100A0200 + 4 * i, 0, 32, 0⟩
def F.BIL_CHECK_CHECK (i : Nat) : Fld := ⟨0x100A0240 + 4 * i, 0, 32, 0⟩
def F.BIL_EVQ0_TIMELO : Fld := ⟨0x100A0060, 0, 32, 0⟩
def F.BIL_EVQ1_TIMEHI : Fld := ⟨0x100A0064, 0, 32, 0⟩
def F.BIL_EVQ2_DATA01 : Fld := ⟨0x100A0068, 16, 16, 0⟩
def F.BIL_EVQ2_CODE : Fld := ⟨0x100A0068, 8, 8, 0⟩
def F.BIL_EVQ2_SOURCE : Fld := ⟨0x100A0068, 0, 8, 0xff⟩
def F.BIL_EVQ3_DATA25 : Fld := ⟨0x100A006C, 0, 32, 0⟩

def regRowsBIL0 : List RegRow := [
  ⟨0x100A0000, 1, 4, [⟨28, 4, .ro, 0⟩, ⟨24, 4, .ro, 0⟩, ⟨11, 1, .ro, 0⟩, ⟨10, 1, .ro, 0⟩, ⟨9, 1, .ro, 0⟩, ⟨8, 1, .ro, 0⟩, ⟨7, 1, .ro, 0⟩, ⟨6, 1, .ro, 0⟩, ⟨5, 1, .ro, 0⟩, ⟨4, 1, .ro, 0⟩, ⟨3, 1, .ro, 0⟩, ⟨2, 1, .ro, 0⟩, ⟨0, 1, .ro, 0⟩]⟩,
  ⟨0x100A0004, 1, 4, [⟨12, 1, .w1c, 0⟩, ⟨11, 1, .w1c, 0⟩, ⟨10, 1, .w1c, 0⟩, ⟨9, 1, .w1c, 0⟩, ⟨8, 1, .w1c, 0⟩, ⟨7, 1, .w1c, 0⟩, ⟨6, 1, .w1c, 0⟩, ⟨5, 1, .w1c, 0⟩, ⟨4, 1, .w1c, 0⟩, ⟨3, 1, .w1c, 0⟩, ⟨2, 1, .w1c, 0⟩, ⟨1, 1, .w1c, 0⟩, ⟨0, 1, .w1c, 0⟩]⟩,
  ⟨0x100A0008, 1, 4, [⟨31, 1, .wo, 0⟩, ⟨0, 8, .ro, 0⟩]⟩,
  ⟨0x100A000C, 1, 4, [⟨0, 13, .rw, 0⟩]⟩,
  ⟨0x100A0010, 1, 4, [⟨0, 32, .ro, 0⟩]⟩,
  ⟨0x100A0014, 1, 4, [⟨0, 32, .ro, 0⟩]⟩,
  ⟨0x100A0018, 1, 4, [⟨0, 32, .ro, 0⟩]⟩,
  ⟨0x100A001C, 1, 4, [⟨0, 32, .ro, 0⟩]⟩,
  ⟨0x100A0020, 1, 4, [⟨0, 32, .ro, 0⟩]⟩,
  ⟨0x100A0024, 1, 4, [⟨0, 32, .ro, 0⟩]⟩,
  ⟨0x100A0028, 1, 4, [⟨0, 32, .ro, 0⟩]⟩,
  ⟨0x100A002C, 1, 4, [⟨0, 32, .ro, 0⟩]⟩,
  ⟨0x100A0030, 1, 4, [⟨0, 32, .ro, 0⟩]⟩,
  ⟨0x100A0034, 1, 4, [⟨0, 32, .ro, 0⟩]⟩,
  ⟨0x100A0038, 1, 4, [⟨0, 32, .ro, 0⟩]⟩,
  ⟨0x100A003C, 1, 4, [⟨0, 32, .ro, 0⟩]⟩,
  ⟨0x100A0040, 1, 4, [⟨0, 32, .ro, 0⟩]⟩,
  ⟨0x100A0044, 1, 4, [⟨0, 32, .ro, 0⟩]⟩,
  ⟨0x100A0048, 1, 4, [⟨0, 32, .ro, 0⟩]⟩,
  ⟨0x100A004C, 1, 4, [⟨0, 32, .ro, 0⟩]⟩,
  ⟨0x100A0050, 1, 4, [⟨16, 8, .ro, 0⟩, ⟨8, 8, .ro, 0⟩, ⟨0, 4, .ro, 0⟩]⟩,
  ⟨0x100A0054, 1, 4, [⟨24, 8, .wo, 0⟩, ⟨0, 8, .wo, 0⟩]⟩,
  ⟨0x100A0058, 1, 4, [⟨31, 1, .wo, 0⟩, ⟨0, 16, .ro, 0⟩]⟩,
  ⟨0x100A005C, 1, 4, [⟨31, 1, .wo, 0⟩, ⟨0, 16, .ro, 0⟩]⟩]

def regRowsBIL1 : List RegRow := [
  ⟨0x100A0080, 32, 4, [⟨0, 32, .rw, 0⟩]⟩,
  ⟨0x100A0100, 64, 4, [⟨0, 32, .ro, 0⟩]⟩,
  ⟨0x100A0200, 16, 4, [⟨0, 32, .ro, 0⟩]⟩,
  ⟨0x100A0240, 8, 4, [⟨0, 32, .ro, 0⟩]⟩,
  ⟨0x100A0060, 1, 4, [⟨0, 32, .ro, 0⟩]⟩,
  ⟨0x100A0064, 1, 4, [⟨0, 32, .ro, 0⟩]⟩,
  ⟨0x100A0068, 1, 4, [⟨16, 16, .ro, 0⟩, ⟨8, 8, .ro, 0⟩, ⟨0, 8, .ro, 0xff⟩]⟩,
  ⟨0x100A006C, 1, 4, [⟨0, 32, .ro, 0⟩]⟩]

/-- The registers of the BIL block. -/
def regRowsBIL : List RegRow := regRowsBIL0 ++ regRowsBIL1

/-! ### VEH -/

def F.VEH_PCTL_BREAKMS (i : Nat) : Fld := ⟨0x100B0000 + 256 * i, 20, 12, 0x3e8⟩
def F.VEH_PCTL_SLACRST (i : Nat) : Fld := ⟨0x100B0000 + 256 * i, 2, 1, 0⟩
def F.VEH_PCTL_BREAK (i : Nat) : Fld := ⟨0x100B0000 + 256 * i, 1, 1, 0⟩
def F.VEH_PCTL_SLACEN (i : Nat) : Fld := ⟨0x100B0000 + 256 * i, 0, 1, 0⟩
def F.VEH_PSTAT_BREAKING (i : Nat) : Fld := ⟨0x100B0004 + 256 * i, 7, 1, 0⟩
def F.VEH_PSTAT_DIODEOK (i : Nat) : Fld := ⟨0x100B0004 + 256 * i, 6, 1, 0⟩
def F.VEH_PSTAT_RAW (i : Nat) : Fld := ⟨0x100B0004 + 256 * i, 0, 3, 0⟩
def F.VEH_PLVL_HIGH (i : Nat) : Fld := ⟨0x100B0008 + 256 * i, 16, 16, 0⟩
def F.VEH_PLVL_LOW (i : Nat) : Fld := ⟨0x100B0008 + 256 * i, 0, 16, 0⟩
def F.VEH_PROX_CAP (i : Nat) : Fld := ⟨0x100B000C + 256 * i, 24, 8, 0⟩
def F.VEH_PROX_OK (i : Nat) : Fld := ⟨0x100B000C + 256 * i, 16, 1, 0⟩
def F.VEH_PROX_RES (i : Nat) : Fld := ⟨0x100B000C + 256 * i, 0, 16, 0xffff⟩
def F.VEH_FLAGS_LINKDOWN (i : Nat) : Fld := ⟨0x100B0010 + 256 * i, 14, 1, 0⟩
def F.VEH_FLAGS_RXDROP (i : Nat) : Fld := ⟨0x100B0010 + 256 * i, 13, 1, 0⟩
def F.VEH_FLAGS_BUFERR (i : Nat) : Fld := ⟨0x100B0010 + 256 * i, 12, 1, 0⟩
def F.VEH_FLAGS_RXDONE (i : Nat) : Fld := ⟨0x100B0010 + 256 * i, 11, 1, 0⟩
def F.VEH_FLAGS_TXDONE (i : Nat) : Fld := ⟨0x100B0010 + 256 * i, 10, 1, 0⟩
def F.VEH_FLAGS_MTEXP1 (i : Nat) : Fld := ⟨0x100B0010 + 256 * i, 9, 1, 0⟩
def F.VEH_FLAGS_MTEXP0 (i : Nat) : Fld := ⟨0x100B0010 + 256 * i, 8, 1, 0⟩
def F.VEH_FLAGS_RUNID (i : Nat) : Fld := ⟨0x100B0010 + 256 * i, 7, 1, 0⟩
def F.VEH_FLAGS_SLACTO (i : Nat) : Fld := ⟨0x100B0010 + 256 * i, 6, 1, 0⟩
def F.VEH_FLAGS_JOINED (i : Nat) : Fld := ⟨0x100B0010 + 256 * i, 5, 1, 0⟩
def F.VEH_FLAGS_MATCH (i : Nat) : Fld := ⟨0x100B0010 + 256 * i, 4, 1, 0⟩
def F.VEH_FLAGS_ATTEN (i : Nat) : Fld := ⟨0x100B0010 + 256 * i, 3, 1, 0⟩
def F.VEH_FLAGS_PARM (i : Nat) : Fld := ⟨0x100B0010 + 256 * i, 2, 1, 0⟩
def F.VEH_FLAGS_PROXCHG (i : Nat) : Fld := ⟨0x100B0010 + 256 * i, 1, 1, 0⟩
def F.VEH_FLAGS_DIODE (i : Nat) : Fld := ⟨0x100B0010 + 256 * i, 0, 1, 0⟩
def F.VEH_HPCFG_PSD (i : Nat) : Fld := ⟨0x100B001C + 256 * i, 4, 5, 0xa⟩
def F.VEH_HPCFG_EN (i : Nat) : Fld := ⟨0x100B001C + 256 * i, 0, 1, 0⟩
def F.VEH_SLACT0_INIT (i : Nat) : Fld := ⟨0x100B0020 + 256 * i, 24, 8, 0x32⟩
def F.VEH_SLACT0_JOIN (i : Nat) : Fld := ⟨0x100B0020 + 256 * i, 16, 8, 0xc⟩
def F.VEH_SLACT0_MNBC (i : Nat) : Fld := ⟨0x100B0020 + 256 * i, 0, 16, 0x258⟩
def F.VEH_SLACT1_SEQ (i : Nat) : Fld := ⟨0x100B0024 + 256 * i, 16, 16, 0x190⟩
def F.VEH_SLACT1_RESP (i : Nat) : Fld := ⟨0x100B0024 + 256 * i, 0, 16, 0xc8⟩
def F.VEH_SLACS_NSOUND (i : Nat) : Fld := ⟨0x100B0028 + 256 * i, 8, 8, 0⟩
def F.VEH_SLACS_TMR (i : Nat) : Fld := ⟨0x100B0028 + 256 * i, 4, 4, 0⟩
def F.VEH_SLACS_STATE (i : Nat) : Fld := ⟨0x100B0028 + 256 * i, 0, 3, 0⟩
def F.VEH_XATT_ATT (i : Nat) : Fld := ⟨0x100B002C + 256 * i, 0, 32, 0xffffffff⟩
def F.VEH_RUNID0_RUNID (i : Nat) : Fld := ⟨0x100B0030 + 256 * i, 0, 32, 0⟩
def F.VEH_RUNID1_RUNID (i : Nat) : Fld := ⟨0x100B0034 + 256 * i, 0, 32, 0⟩
def F.VEH_EVMAC0_MAC (i : Nat) : Fld := ⟨0x100B0038 + 256 * i, 0, 32, 0⟩
def F.VEH_EVMAC1_MAC (i : Nat) : Fld := ⟨0x100B003C + 256 * i, 0, 32, 0⟩
def F.VEH_ATTEN0_ATT (i : Nat) : Fld := ⟨0x100B0040 + 256 * i, 0, 32, 0⟩
def F.VEH_ATTEN1_ATT (i : Nat) : Fld := ⟨0x100B0044 + 256 * i, 0, 32, 0⟩
def F.VEH_ATTEN2_ATT (i : Nat) : Fld := ⟨0x100B0048 + 256 * i, 0, 32, 0⟩
def F.VEH_ATTEN3_ATT (i : Nat) : Fld := ⟨0x100B004C + 256 * i, 0, 32, 0⟩
def F.VEH_ATTEN4_ATT (i : Nat) : Fld := ⟨0x100B0050 + 256 * i, 0, 32, 0⟩
def F.VEH_ATTEN5_ATT (i : Nat) : Fld := ⟨0x100B0054 + 256 * i, 0, 32, 0⟩
def F.VEH_ATTEN6_ATT (i : Nat) : Fld := ⟨0x100B0058 + 256 * i, 0, 32, 0⟩
def F.VEH_ATTEN7_ATT (i : Nat) : Fld := ⟨0x100B005C + 256 * i, 0, 32, 0⟩
def F.VEH_ATTEN8_ATT (i : Nat) : Fld := ⟨0x100B0060 + 256 * i, 0, 32, 0⟩
def F.VEH_ATTEN9_ATT (i : Nat) : Fld := ⟨0x100B0064 + 256 * i, 0, 32, 0⟩
def F.VEH_ATTEN10_ATT (i : Nat) : Fld := ⟨0x100B0068 + 256 * i, 0, 32, 0⟩
def F.VEH_ATTEN11_ATT (i : Nat) : Fld := ⟨0x100B006C + 256 * i, 0, 32, 0⟩
def F.VEH_ATTEN12_ATT (i : Nat) : Fld := ⟨0x100B0070 + 256 * i, 0, 32, 0⟩
def F.VEH_ATTEN13_ATT (i : Nat) : Fld := ⟨0x100B0074 + 256 * i, 0, 32, 0⟩
def F.VEH_ATTEN14_ATT (i : Nat) : Fld := ⟨0x100B0078 + 256 * i, 0, 32, 0⟩
def F.VEH_MTIM0_START (i : Nat) : Fld := ⟨0x100B0080 + 256 * i, 31, 1, 0⟩
def F.VEH_MTIM0_STOP (i : Nat) : Fld := ⟨0x100B0080 + 256 * i, 30, 1, 0⟩
def F.VEH_MTIM0_ACT (i : Nat) : Fld := ⟨0x100B0080 + 256 * i, 29, 1, 0⟩
def F.VEH_MTIM0_RUN (i : Nat) : Fld := ⟨0x100B0080 + 256 * i, 28, 1, 0⟩
def F.VEH_MTIM0_PRESET (i : Nat) : Fld := ⟨0x100B0080 + 256 * i, 0, 16, 0⟩
def F.VEH_MTIM1_START (i : Nat) : Fld := ⟨0x100B0084 + 256 * i, 31, 1, 0⟩
def F.VEH_MTIM1_STOP (i : Nat) : Fld := ⟨0x100B0084 + 256 * i, 30, 1, 0⟩
def F.VEH_MTIM1_ACT (i : Nat) : Fld := ⟨0x100B0084 + 256 * i, 29, 1, 0⟩
def F.VEH_MTIM1_RUN (i : Nat) : Fld := ⟨0x100B0084 + 256 * i, 28, 1, 0⟩
def F.VEH_MTIM1_PRESET (i : Nat) : Fld := ⟨0x100B0084 + 256 * i, 0, 16, 0⟩
def F.VEH_HPMAC0_MAC (i : Nat) : Fld := ⟨0x100B0088 + 256 * i, 0, 32, 0⟩
def F.VEH_HPMAC1_MAC (i : Nat) : Fld := ⟨0x100B008C + 256 * i, 0, 32, 0⟩
def F.VEH_NMK0_NMK (i : Nat) : Fld := ⟨0x100B0090 + 256 * i, 0, 32, 0⟩
def F.VEH_NMK1_NMK (i : Nat) : Fld := ⟨0x100B0094 + 256 * i, 0, 32, 0⟩
def F.VEH_NMK2_NMK (i : Nat) : Fld := ⟨0x100B0098 + 256 * i, 0, 32, 0⟩
def F.VEH_NMK3_NMK (i : Nat) : Fld := ⟨0x100B009C + 256 * i, 0, 32, 0⟩
def F.VEH_NID0_NID (i : Nat) : Fld := ⟨0x100B00A0 + 256 * i, 0, 32, 0⟩
def F.VEH_NID1_NID (i : Nat) : Fld := ⟨0x100B00A4 + 256 * i, 0, 32, 0⟩
def F.VEH_RXDROP_CLR (i : Nat) : Fld := ⟨0x100B00E0 + 256 * i, 31, 1, 0⟩
def F.VEH_RXDROP_COUNT (i : Nat) : Fld := ⟨0x100B00E0 + 256 * i, 0, 16, 0⟩
def F.VEH_T1CFG_EN (i : Nat) : Fld := ⟨0x100B0400 + 256 * i, 31, 1, 0⟩
def F.VEH_T1CFG_PLCAEN (i : Nat) : Fld := ⟨0x100B0400 + 256 * i, 30, 1, 1⟩
def F.VEH_T1CFG_NCNT (i : Nat) : Fld := ⟨0x100B0400 + 256 * i, 27, 3, 2⟩
def F.VEH_T1CFG_NCNT8 (i : Nat) : Fld := ⟨0x100B0400 + 256 * i, 26, 1, 0⟩
def F.VEH_T1CFG_MAXBC (i : Nat) : Fld := ⟨0x100B0400 + 256 * i, 22, 4, 0⟩
def F.VEH_T1CFG_TOTMR (i : Nat) : Fld := ⟨0x100B0400 + 256 * i, 14, 8, 0x20⟩
def F.VEH_T1CFG_BURSTTMR (i : Nat) : Fld := ⟨0x100B0400 + 256 * i, 6, 8, 0x80⟩
def F.VEH_T1CFG_LINKTO (i : Nat) : Fld := ⟨0x100B0400 + 256 * i, 0, 6, 0xa⟩
def F.VEH_T1STAT_TXOPP (i : Nat) : Fld := ⟨0x100B0404 + 256 * i, 8, 8, 0⟩
def F.VEH_T1STAT_COLL (i : Nat) : Fld := ⟨0x100B0404 + 256 * i, 0, 8, 0⟩
def F.VEH_FLAGS4_M1 : Fld := ⟨0x100B0600, 5, 5, 0⟩
def F.VEH_FLAGS4_QUIET0 : Fld := ⟨0x100B0600, 4, 1, 0⟩
def F.VEH_FLAGS4_RXDROP0 : Fld := ⟨0x100B0600, 3, 1, 0⟩
def F.VEH_FLAGS4_BUFERR0 : Fld := ⟨0x100B0600, 2, 1, 0⟩
def F.VEH_FLAGS4_RXDONE0 : Fld := ⟨0x100B0600, 1, 1, 0⟩
def F.VEH_FLAGS4_TXDONE0 : Fld := ⟨0x100B0600, 0, 1, 0⟩
def F.VEH_CANCFG_EN (i : Nat) : Fld := ⟨0x100B0800 + 256 * i, 31, 1, 0⟩
def F.VEH_CANCFG_FD (i : Nat) : Fld := ⟨0x100B0800 + 256 * i, 30, 1, 0⟩
def F.VEH_CANCFG_BRS (i : Nat) : Fld := ⟨0x100B0800 + 256 * i, 29, 1, 0⟩
def F.VEH_CANCFG_AUTOREC (i : Nat) : Fld := ⟨0x100B0800 + 256 * i, 28, 1, 1⟩
def F.VEH_CANBT_NPRE (i : Nat) : Fld := ⟨0x100B0804 + 256 * i, 24, 8, 0⟩
def F.VEH_CANBT_NSEG1 (i : Nat) : Fld := ⟨0x100B0804 + 256 * i, 16, 8, 0⟩
def F.VEH_CANBT_NSEG2 (i : Nat) : Fld := ⟨0x100B0804 + 256 * i, 12, 4, 0⟩
def F.VEH_CANBT_DPRE (i : Nat) : Fld := ⟨0x100B0804 + 256 * i, 8, 4, 0⟩
def F.VEH_CANBT_DSEG1 (i : Nat) : Fld := ⟨0x100B0804 + 256 * i, 3, 5, 0⟩
def F.VEH_CANBT_DSEG2 (i : Nat) : Fld := ⟨0x100B0804 + 256 * i, 0, 3, 0⟩
def F.VEH_CANST_TEC (i : Nat) : Fld := ⟨0x100B0808 + 256 * i, 24, 8, 0⟩
def F.VEH_CANST_REC (i : Nat) : Fld := ⟨0x100B0808 + 256 * i, 16, 8, 0⟩
def F.VEH_CANST_RXLVL (i : Nat) : Fld := ⟨0x100B0808 + 256 * i, 8, 8, 0⟩
def F.VEH_CANST_TXLVL (i : Nat) : Fld := ⟨0x100B0808 + 256 * i, 2, 6, 0⟩
def F.VEH_CANST_ERRST (i : Nat) : Fld := ⟨0x100B0808 + 256 * i, 0, 2, 0⟩
def F.VEH_CANRXTO_FILT (i : Nat) : Fld := ⟨0x100B080C + 256 * i, 0, 32, 0⟩
def F.VEH_FLAGS5_CANk : Fld := ⟨0x100B0C00, 0, 20, 0⟩
def F.VEH_IEN5_EN : Fld := ⟨0x100B0C08, 0, 20, 0⟩
def F.VEH_EVCNT4_CLR : Fld := ⟨0x100B0604, 31, 1, 0⟩
def F.VEH_EVCNT4_COUNT : Fld := ⟨0x100B0604, 0, 8, 0⟩
def F.VEH_EVCNT5_CLR : Fld := ⟨0x100B0C04, 31, 1, 0⟩
def F.VEH_EVCNT5_COUNT : Fld := ⟨0x100B0C04, 0, 8, 0⟩
def F.VEH_EVCNT_CLR (i : Nat) : Fld := ⟨0x100B0014 + 256 * i, 31, 1, 0⟩
def F.VEH_EVCNT_COUNT (i : Nat) : Fld := ⟨0x100B0014 + 256 * i, 0, 8, 0⟩
def F.VEH_LENERR_CLR : Fld := ⟨0x100B0F00, 31, 1, 0⟩
def F.VEH_LENERR_COUNT : Fld := ⟨0x100B0F00, 0, 16, 0⟩
def F.VEH_IEN_EN (i : Nat) : Fld := ⟨0x100B0018 + 256 * i, 0, 15, 0⟩
def F.VEH_IEN4_EN : Fld := ⟨0x100B0608, 0, 10, 0⟩
def F.VEH_TXR_BASE_BASE (i : Nat) : Fld := ⟨0x100B00C0 + 256 * i, 0, 32, 0⟩
def F.VEH_TXR_CTL_EN (i : Nat) : Fld := ⟨0x100B00C4 + 256 * i, 31, 1, 0⟩
def F.VEH_TXR_CTL_SIZE (i : Nat) : Fld := ⟨0x100B00C4 + 256 * i, 0, 4, 0⟩
def F.VEH_TXR_IDX_IDX (i : Nat) : Fld := ⟨0x100B00C8 + 256 * i, 0, 10, 0⟩
def F.VEH_RXR_BASE_BASE (i : Nat) : Fld := ⟨0x100B00D0 + 256 * i, 0, 32, 0⟩
def F.VEH_RXR_CTL_EN (i : Nat) : Fld := ⟨0x100B00D4 + 256 * i, 31, 1, 0⟩
def F.VEH_RXR_CTL_SIZE (i : Nat) : Fld := ⟨0x100B00D4 + 256 * i, 0, 4, 0⟩
def F.VEH_RXR_IDX_IDX (i : Nat) : Fld := ⟨0x100B00D8 + 256 * i, 0, 10, 0⟩
def F.CAN0_SLOTID_BRS (i : Nat) : Fld := ⟨0x100B8000 + 128 * i, 31, 1, 0⟩
def F.CAN0_SLOTID_FD (i : Nat) : Fld := ⟨0x100B8000 + 128 * i, 30, 1, 0⟩
def F.CAN0_SLOTID_IDE (i : Nat) : Fld := ⟨0x100B8000 + 128 * i, 29, 1, 0⟩
def F.CAN0_SLOTID_ID (i : Nat) : Fld := ⟨0x100B8000 + 128 * i, 0, 29, 0⟩
def F.CAN0_SLOTTIM_PERIOD (i : Nat) : Fld := ⟨0x100B8004 + 128 * i, 16, 16, 0⟩
def F.CAN0_SLOTTIM_PHASE (i : Nat) : Fld := ⟨0x100B8004 + 128 * i, 0, 16, 0⟩
def F.CAN0_SLOTHDR_USED (i : Nat) : Fld := ⟨0x100B8008 + 128 * i, 31, 1, 0⟩
def F.CAN0_SLOTHDR_SWAP (i : Nat) : Fld := ⟨0x100B8008 + 128 * i, 30, 1, 0⟩
def F.CAN0_SLOTHDR_LEN (i : Nat) : Fld := ⟨0x100B8008 + 128 * i, 0, 7, 0⟩
def F.CAN0_SLOTDAT0_DATA (i : Nat) : Fld := ⟨0x100B8010 + 128 * i, 0, 32, 0⟩
def F.CAN0_SLOTDAT1_DATA (i : Nat) : Fld := ⟨0x100B8014 + 128 * i, 0, 32, 0⟩
def F.CAN0_SLOTDAT2_DATA (i : Nat) : Fld := ⟨0x100B8018 + 128 * i, 0, 32, 0⟩
def F.CAN0_SLOTDAT3_DATA (i : Nat) : Fld := ⟨0x100B801C + 128 * i, 0, 32, 0⟩
def F.CAN0_SLOTDAT4_DATA (i : Nat) : Fld := ⟨0x100B8020 + 128 * i, 0, 32, 0⟩
def F.CAN0_SLOTDAT5_DATA (i : Nat) : Fld := ⟨0x100B8024 + 128 * i, 0, 32, 0⟩
def F.CAN0_SLOTDAT6_DATA (i : Nat) : Fld := ⟨0x100B8028 + 128 * i, 0, 32, 0⟩
def F.CAN0_SLOTDAT7_DATA (i : Nat) : Fld := ⟨0x100B802C + 128 * i, 0, 32, 0⟩
def F.CAN0_SLOTDAT8_DATA (i : Nat) : Fld := ⟨0x100B8030 + 128 * i, 0, 32, 0⟩
def F.CAN0_SLOTDAT9_DATA (i : Nat) : Fld := ⟨0x100B8034 + 128 * i, 0, 32, 0⟩
def F.CAN0_SLOTDAT10_DATA (i : Nat) : Fld := ⟨0x100B8038 + 128 * i, 0, 32, 0⟩
def F.CAN0_SLOTDAT11_DATA (i : Nat) : Fld := ⟨0x100B803C + 128 * i, 0, 32, 0⟩
def F.CAN0_SLOTDAT12_DATA (i : Nat) : Fld := ⟨0x100B8040 + 128 * i, 0, 32, 0⟩
def F.CAN0_SLOTDAT13_DATA (i : Nat) : Fld := ⟨0x100B8044 + 128 * i, 0, 32, 0⟩
def F.CAN0_SLOTDAT14_DATA (i : Nat) : Fld := ⟨0x100B8048 + 128 * i, 0, 32, 0⟩
def F.CAN0_SLOTDAT15_DATA (i : Nat) : Fld := ⟨0x100B804C + 128 * i, 0, 32, 0⟩
def F.CAN0_FILTID_USED (i : Nat) : Fld := ⟨0x100BA000 + 8 * i, 31, 1, 0⟩
def F.CAN0_FILTID_IDE (i : Nat) : Fld := ⟨0x100BA000 + 8 * i, 29, 1, 0⟩
def F.CAN0_FILTID_ID (i : Nat) : Fld := ⟨0x100BA000 + 8 * i, 0, 29, 0⟩
def F.CAN0_FILTMASK_WDEN (i : Nat) : Fld := ⟨0x100BA004 + 8 * i, 31, 1, 0⟩
def F.CAN0_FILTMASK_MASK (i : Nat) : Fld := ⟨0x100BA004 + 8 * i, 0, 29, 0⟩
def F.CAN0_CANWD_TIMEOUT (i : Nat) : Fld := ⟨0x100BA800 + 4 * i, 0, 16, 0⟩
def F.CAN0_RXID_BRS : Fld := ⟨0x100BC000, 31, 1, 0⟩
def F.CAN0_RXID_FD : Fld := ⟨0x100BC000, 30, 1, 0⟩
def F.CAN0_RXID_IDE : Fld := ⟨0x100BC000, 29, 1, 0⟩
def F.CAN0_RXID_ID : Fld := ⟨0x100BC000, 0, 29, 0⟩
def F.CAN0_RXLEN_FILT : Fld := ⟨0x100BC004, 8, 5, 0⟩
def F.CAN0_RXLEN_LEN : Fld := ⟨0x100BC004, 0, 7, 0⟩
def F.CAN0_RXTIME_TIME : Fld := ⟨0x100BC008, 0, 32, 0⟩
def F.CAN0_RXGO_GO : Fld := ⟨0x100BC00C, 0, 1, 0⟩
def F.CAN0_RXDAT_DATA (i : Nat) : Fld := ⟨0x100BC010 + 4 * i, 0, 32, 0⟩
def F.CAN0_TXID_BRS : Fld := ⟨0x100BD000, 31, 1, 0⟩
def F.CAN0_TXID_FD : Fld := ⟨0x100BD000, 30, 1, 0⟩
def F.CAN0_TXID_IDE : Fld := ⟨0x100BD000, 29, 1, 0⟩
def F.CAN0_TXID_ID : Fld := ⟨0x100BD000, 0, 29, 0⟩
def F.CAN0_TXLEN_LEN : Fld := ⟨0x100BD004, 0, 7, 0⟩
def F.CAN0_TXGO_GO : Fld := ⟨0x100BD00C, 0, 1, 0⟩
def F.CAN0_TXDAT_DATA (i : Nat) : Fld := ⟨0x100BD010 + 4 * i, 0, 32, 0⟩
def F.CAN1_SLOTID_BRS (i : Nat) : Fld := ⟨0x100B8800 + 128 * i, 31, 1, 0⟩
def F.CAN1_SLOTID_FD (i : Nat) : Fld := ⟨0x100B8800 + 128 * i, 30, 1, 0⟩
def F.CAN1_SLOTID_IDE (i : Nat) : Fld := ⟨0x100B8800 + 128 * i, 29, 1, 0⟩
def F.CAN1_SLOTID_ID (i : Nat) : Fld := ⟨0x100B8800 + 128 * i, 0, 29, 0⟩
def F.CAN1_SLOTTIM_PERIOD (i : Nat) : Fld := ⟨0x100B8804 + 128 * i, 16, 16, 0⟩
def F.CAN1_SLOTTIM_PHASE (i : Nat) : Fld := ⟨0x100B8804 + 128 * i, 0, 16, 0⟩
def F.CAN1_SLOTHDR_USED (i : Nat) : Fld := ⟨0x100B8808 + 128 * i, 31, 1, 0⟩
def F.CAN1_SLOTHDR_SWAP (i : Nat) : Fld := ⟨0x100B8808 + 128 * i, 30, 1, 0⟩
def F.CAN1_SLOTHDR_LEN (i : Nat) : Fld := ⟨0x100B8808 + 128 * i, 0, 7, 0⟩
def F.CAN1_SLOTDAT0_DATA (i : Nat) : Fld := ⟨0x100B8810 + 128 * i, 0, 32, 0⟩
def F.CAN1_SLOTDAT1_DATA (i : Nat) : Fld := ⟨0x100B8814 + 128 * i, 0, 32, 0⟩
def F.CAN1_SLOTDAT2_DATA (i : Nat) : Fld := ⟨0x100B8818 + 128 * i, 0, 32, 0⟩
def F.CAN1_SLOTDAT3_DATA (i : Nat) : Fld := ⟨0x100B881C + 128 * i, 0, 32, 0⟩
def F.CAN1_SLOTDAT4_DATA (i : Nat) : Fld := ⟨0x100B8820 + 128 * i, 0, 32, 0⟩
def F.CAN1_SLOTDAT5_DATA (i : Nat) : Fld := ⟨0x100B8824 + 128 * i, 0, 32, 0⟩
def F.CAN1_SLOTDAT6_DATA (i : Nat) : Fld := ⟨0x100B8828 + 128 * i, 0, 32, 0⟩
def F.CAN1_SLOTDAT7_DATA (i : Nat) : Fld := ⟨0x100B882C + 128 * i, 0, 32, 0⟩
def F.CAN1_SLOTDAT8_DATA (i : Nat) : Fld := ⟨0x100B8830 + 128 * i, 0, 32, 0⟩
def F.CAN1_SLOTDAT9_DATA (i : Nat) : Fld := ⟨0x100B8834 + 128 * i, 0, 32, 0⟩
def F.CAN1_SLOTDAT10_DATA (i : Nat) : Fld := ⟨0x100B8838 + 128 * i, 0, 32, 0⟩
def F.CAN1_SLOTDAT11_DATA (i : Nat) : Fld := ⟨0x100B883C + 128 * i, 0, 32, 0⟩
def F.CAN1_SLOTDAT12_DATA (i : Nat) : Fld := ⟨0x100B8840 + 128 * i, 0, 32, 0⟩
def F.CAN1_SLOTDAT13_DATA (i : Nat) : Fld := ⟨0x100B8844 + 128 * i, 0, 32, 0⟩
def F.CAN1_SLOTDAT14_DATA (i : Nat) : Fld := ⟨0x100B8848 + 128 * i, 0, 32, 0⟩
def F.CAN1_SLOTDAT15_DATA (i : Nat) : Fld := ⟨0x100B884C + 128 * i, 0, 32, 0⟩
def F.CAN1_FILTID_USED (i : Nat) : Fld := ⟨0x100BA100 + 8 * i, 31, 1, 0⟩
def F.CAN1_FILTID_IDE (i : Nat) : Fld := ⟨0x100BA100 + 8 * i, 29, 1, 0⟩
def F.CAN1_FILTID_ID (i : Nat) : Fld := ⟨0x100BA100 + 8 * i, 0, 29, 0⟩
def F.CAN1_FILTMASK_WDEN (i : Nat) : Fld := ⟨0x100BA104 + 8 * i, 31, 1, 0⟩
def F.CAN1_FILTMASK_MASK (i : Nat) : Fld := ⟨0x100BA104 + 8 * i, 0, 29, 0⟩
def F.CAN1_CANWD_TIMEOUT (i : Nat) : Fld := ⟨0x100BA900 + 4 * i, 0, 16, 0⟩
def F.CAN1_RXID_BRS : Fld := ⟨0x100BC100, 31, 1, 0⟩
def F.CAN1_RXID_FD : Fld := ⟨0x100BC100, 30, 1, 0⟩
def F.CAN1_RXID_IDE : Fld := ⟨0x100BC100, 29, 1, 0⟩
def F.CAN1_RXID_ID : Fld := ⟨0x100BC100, 0, 29, 0⟩
def F.CAN1_RXLEN_FILT : Fld := ⟨0x100BC104, 8, 5, 0⟩
def F.CAN1_RXLEN_LEN : Fld := ⟨0x100BC104, 0, 7, 0⟩
def F.CAN1_RXTIME_TIME : Fld := ⟨0x100BC108, 0, 32, 0⟩
def F.CAN1_RXGO_GO : Fld := ⟨0x100BC10C, 0, 1, 0⟩
def F.CAN1_RXDAT_DATA (i : Nat) : Fld := ⟨0x100BC110 + 4 * i, 0, 32, 0⟩
def F.CAN1_TXID_BRS : Fld := ⟨0x100BD100, 31, 1, 0⟩
def F.CAN1_TXID_FD : Fld := ⟨0x100BD100, 30, 1, 0⟩
def F.CAN1_TXID_IDE : Fld := ⟨0x100BD100, 29, 1, 0⟩
def F.CAN1_TXID_ID : Fld := ⟨0x100BD100, 0, 29, 0⟩
def F.CAN1_TXLEN_LEN : Fld := ⟨0x100BD104, 0, 7, 0⟩
def F.CAN1_TXGO_GO : Fld := ⟨0x100BD10C, 0, 1, 0⟩
def F.CAN1_TXDAT_DATA (i : Nat) : Fld := ⟨0x100BD110 + 4 * i, 0, 32, 0⟩
def F.CAN2_SLOTID_BRS (i : Nat) : Fld := ⟨0x100B9000 + 128 * i, 31, 1, 0⟩
def F.CAN2_SLOTID_FD (i : Nat) : Fld := ⟨0x100B9000 + 128 * i, 30, 1, 0⟩
def F.CAN2_SLOTID_IDE (i : Nat) : Fld := ⟨0x100B9000 + 128 * i, 29, 1, 0⟩
def F.CAN2_SLOTID_ID (i : Nat) : Fld := ⟨0x100B9000 + 128 * i, 0, 29, 0⟩
def F.CAN2_SLOTTIM_PERIOD (i : Nat) : Fld := ⟨0x100B9004 + 128 * i, 16, 16, 0⟩
def F.CAN2_SLOTTIM_PHASE (i : Nat) : Fld := ⟨0x100B9004 + 128 * i, 0, 16, 0⟩
def F.CAN2_SLOTHDR_USED (i : Nat) : Fld := ⟨0x100B9008 + 128 * i, 31, 1, 0⟩
def F.CAN2_SLOTHDR_SWAP (i : Nat) : Fld := ⟨0x100B9008 + 128 * i, 30, 1, 0⟩
def F.CAN2_SLOTHDR_LEN (i : Nat) : Fld := ⟨0x100B9008 + 128 * i, 0, 7, 0⟩
def F.CAN2_SLOTDAT0_DATA (i : Nat) : Fld := ⟨0x100B9010 + 128 * i, 0, 32, 0⟩
def F.CAN2_SLOTDAT1_DATA (i : Nat) : Fld := ⟨0x100B9014 + 128 * i, 0, 32, 0⟩
def F.CAN2_SLOTDAT2_DATA (i : Nat) : Fld := ⟨0x100B9018 + 128 * i, 0, 32, 0⟩
def F.CAN2_SLOTDAT3_DATA (i : Nat) : Fld := ⟨0x100B901C + 128 * i, 0, 32, 0⟩
def F.CAN2_SLOTDAT4_DATA (i : Nat) : Fld := ⟨0x100B9020 + 128 * i, 0, 32, 0⟩
def F.CAN2_SLOTDAT5_DATA (i : Nat) : Fld := ⟨0x100B9024 + 128 * i, 0, 32, 0⟩
def F.CAN2_SLOTDAT6_DATA (i : Nat) : Fld := ⟨0x100B9028 + 128 * i, 0, 32, 0⟩
def F.CAN2_SLOTDAT7_DATA (i : Nat) : Fld := ⟨0x100B902C + 128 * i, 0, 32, 0⟩
def F.CAN2_SLOTDAT8_DATA (i : Nat) : Fld := ⟨0x100B9030 + 128 * i, 0, 32, 0⟩
def F.CAN2_SLOTDAT9_DATA (i : Nat) : Fld := ⟨0x100B9034 + 128 * i, 0, 32, 0⟩
def F.CAN2_SLOTDAT10_DATA (i : Nat) : Fld := ⟨0x100B9038 + 128 * i, 0, 32, 0⟩
def F.CAN2_SLOTDAT11_DATA (i : Nat) : Fld := ⟨0x100B903C + 128 * i, 0, 32, 0⟩
def F.CAN2_SLOTDAT12_DATA (i : Nat) : Fld := ⟨0x100B9040 + 128 * i, 0, 32, 0⟩
def F.CAN2_SLOTDAT13_DATA (i : Nat) : Fld := ⟨0x100B9044 + 128 * i, 0, 32, 0⟩
def F.CAN2_SLOTDAT14_DATA (i : Nat) : Fld := ⟨0x100B9048 + 128 * i, 0, 32, 0⟩
def F.CAN2_SLOTDAT15_DATA (i : Nat) : Fld := ⟨0x100B904C + 128 * i, 0, 32, 0⟩
def F.CAN2_FILTID_USED (i : Nat) : Fld := ⟨0x100BA200 + 8 * i, 31, 1, 0⟩
def F.CAN2_FILTID_IDE (i : Nat) : Fld := ⟨0x100BA200 + 8 * i, 29, 1, 0⟩
def F.CAN2_FILTID_ID (i : Nat) : Fld := ⟨0x100BA200 + 8 * i, 0, 29, 0⟩
def F.CAN2_FILTMASK_WDEN (i : Nat) : Fld := ⟨0x100BA204 + 8 * i, 31, 1, 0⟩
def F.CAN2_FILTMASK_MASK (i : Nat) : Fld := ⟨0x100BA204 + 8 * i, 0, 29, 0⟩
def F.CAN2_CANWD_TIMEOUT (i : Nat) : Fld := ⟨0x100BAA00 + 4 * i, 0, 16, 0⟩
def F.CAN2_RXID_BRS : Fld := ⟨0x100BC200, 31, 1, 0⟩
def F.CAN2_RXID_FD : Fld := ⟨0x100BC200, 30, 1, 0⟩
def F.CAN2_RXID_IDE : Fld := ⟨0x100BC200, 29, 1, 0⟩
def F.CAN2_RXID_ID : Fld := ⟨0x100BC200, 0, 29, 0⟩
def F.CAN2_RXLEN_FILT : Fld := ⟨0x100BC204, 8, 5, 0⟩
def F.CAN2_RXLEN_LEN : Fld := ⟨0x100BC204, 0, 7, 0⟩
def F.CAN2_RXTIME_TIME : Fld := ⟨0x100BC208, 0, 32, 0⟩
def F.CAN2_RXGO_GO : Fld := ⟨0x100BC20C, 0, 1, 0⟩
def F.CAN2_RXDAT_DATA (i : Nat) : Fld := ⟨0x100BC210 + 4 * i, 0, 32, 0⟩
def F.CAN2_TXID_BRS : Fld := ⟨0x100BD200, 31, 1, 0⟩
def F.CAN2_TXID_FD : Fld := ⟨0x100BD200, 30, 1, 0⟩
def F.CAN2_TXID_IDE : Fld := ⟨0x100BD200, 29, 1, 0⟩
def F.CAN2_TXID_ID : Fld := ⟨0x100BD200, 0, 29, 0⟩
def F.CAN2_TXLEN_LEN : Fld := ⟨0x100BD204, 0, 7, 0⟩
def F.CAN2_TXGO_GO : Fld := ⟨0x100BD20C, 0, 1, 0⟩
def F.CAN2_TXDAT_DATA (i : Nat) : Fld := ⟨0x100BD210 + 4 * i, 0, 32, 0⟩
def F.CAN3_SLOTID_BRS (i : Nat) : Fld := ⟨0x100B9800 + 128 * i, 31, 1, 0⟩
def F.CAN3_SLOTID_FD (i : Nat) : Fld := ⟨0x100B9800 + 128 * i, 30, 1, 0⟩
def F.CAN3_SLOTID_IDE (i : Nat) : Fld := ⟨0x100B9800 + 128 * i, 29, 1, 0⟩
def F.CAN3_SLOTID_ID (i : Nat) : Fld := ⟨0x100B9800 + 128 * i, 0, 29, 0⟩
def F.CAN3_SLOTTIM_PERIOD (i : Nat) : Fld := ⟨0x100B9804 + 128 * i, 16, 16, 0⟩
def F.CAN3_SLOTTIM_PHASE (i : Nat) : Fld := ⟨0x100B9804 + 128 * i, 0, 16, 0⟩
def F.CAN3_SLOTHDR_USED (i : Nat) : Fld := ⟨0x100B9808 + 128 * i, 31, 1, 0⟩
def F.CAN3_SLOTHDR_SWAP (i : Nat) : Fld := ⟨0x100B9808 + 128 * i, 30, 1, 0⟩
def F.CAN3_SLOTHDR_LEN (i : Nat) : Fld := ⟨0x100B9808 + 128 * i, 0, 7, 0⟩
def F.CAN3_SLOTDAT0_DATA (i : Nat) : Fld := ⟨0x100B9810 + 128 * i, 0, 32, 0⟩
def F.CAN3_SLOTDAT1_DATA (i : Nat) : Fld := ⟨0x100B9814 + 128 * i, 0, 32, 0⟩
def F.CAN3_SLOTDAT2_DATA (i : Nat) : Fld := ⟨0x100B9818 + 128 * i, 0, 32, 0⟩
def F.CAN3_SLOTDAT3_DATA (i : Nat) : Fld := ⟨0x100B981C + 128 * i, 0, 32, 0⟩
def F.CAN3_SLOTDAT4_DATA (i : Nat) : Fld := ⟨0x100B9820 + 128 * i, 0, 32, 0⟩
def F.CAN3_SLOTDAT5_DATA (i : Nat) : Fld := ⟨0x100B9824 + 128 * i, 0, 32, 0⟩
def F.CAN3_SLOTDAT6_DATA (i : Nat) : Fld := ⟨0x100B9828 + 128 * i, 0, 32, 0⟩
def F.CAN3_SLOTDAT7_DATA (i : Nat) : Fld := ⟨0x100B982C + 128 * i, 0, 32, 0⟩
def F.CAN3_SLOTDAT8_DATA (i : Nat) : Fld := ⟨0x100B9830 + 128 * i, 0, 32, 0⟩
def F.CAN3_SLOTDAT9_DATA (i : Nat) : Fld := ⟨0x100B9834 + 128 * i, 0, 32, 0⟩
def F.CAN3_SLOTDAT10_DATA (i : Nat) : Fld := ⟨0x100B9838 + 128 * i, 0, 32, 0⟩
def F.CAN3_SLOTDAT11_DATA (i : Nat) : Fld := ⟨0x100B983C + 128 * i, 0, 32, 0⟩
def F.CAN3_SLOTDAT12_DATA (i : Nat) : Fld := ⟨0x100B9840 + 128 * i, 0, 32, 0⟩
def F.CAN3_SLOTDAT13_DATA (i : Nat) : Fld := ⟨0x100B9844 + 128 * i, 0, 32, 0⟩
def F.CAN3_SLOTDAT14_DATA (i : Nat) : Fld := ⟨0x100B9848 + 128 * i, 0, 32, 0⟩
def F.CAN3_SLOTDAT15_DATA (i : Nat) : Fld := ⟨0x100B984C + 128 * i, 0, 32, 0⟩
def F.CAN3_FILTID_USED (i : Nat) : Fld := ⟨0x100BA300 + 8 * i, 31, 1, 0⟩
def F.CAN3_FILTID_IDE (i : Nat) : Fld := ⟨0x100BA300 + 8 * i, 29, 1, 0⟩
def F.CAN3_FILTID_ID (i : Nat) : Fld := ⟨0x100BA300 + 8 * i, 0, 29, 0⟩
def F.CAN3_FILTMASK_WDEN (i : Nat) : Fld := ⟨0x100BA304 + 8 * i, 31, 1, 0⟩
def F.CAN3_FILTMASK_MASK (i : Nat) : Fld := ⟨0x100BA304 + 8 * i, 0, 29, 0⟩
def F.CAN3_CANWD_TIMEOUT (i : Nat) : Fld := ⟨0x100BAB00 + 4 * i, 0, 16, 0⟩
def F.CAN3_RXID_BRS : Fld := ⟨0x100BC300, 31, 1, 0⟩
def F.CAN3_RXID_FD : Fld := ⟨0x100BC300, 30, 1, 0⟩
def F.CAN3_RXID_IDE : Fld := ⟨0x100BC300, 29, 1, 0⟩
def F.CAN3_RXID_ID : Fld := ⟨0x100BC300, 0, 29, 0⟩
def F.CAN3_RXLEN_FILT : Fld := ⟨0x100BC304, 8, 5, 0⟩
def F.CAN3_RXLEN_LEN : Fld := ⟨0x100BC304, 0, 7, 0⟩
def F.CAN3_RXTIME_TIME : Fld := ⟨0x100BC308, 0, 32, 0⟩
def F.CAN3_RXGO_GO : Fld := ⟨0x100BC30C, 0, 1, 0⟩
def F.CAN3_RXDAT_DATA (i : Nat) : Fld := ⟨0x100BC310 + 4 * i, 0, 32, 0⟩
def F.CAN3_TXID_BRS : Fld := ⟨0x100BD300, 31, 1, 0⟩
def F.CAN3_TXID_FD : Fld := ⟨0x100BD300, 30, 1, 0⟩
def F.CAN3_TXID_IDE : Fld := ⟨0x100BD300, 29, 1, 0⟩
def F.CAN3_TXID_ID : Fld := ⟨0x100BD300, 0, 29, 0⟩
def F.CAN3_TXLEN_LEN : Fld := ⟨0x100BD304, 0, 7, 0⟩
def F.CAN3_TXGO_GO : Fld := ⟨0x100BD30C, 0, 1, 0⟩
def F.CAN3_TXDAT_DATA (i : Nat) : Fld := ⟨0x100BD310 + 4 * i, 0, 32, 0⟩

def regRowsVEH0 : List RegRow := [
  ⟨0x100B0000, 4, 256, [⟨20, 12, .rw, 0x3e8⟩, ⟨2, 1, .wo, 0⟩, ⟨1, 1, .wo, 0⟩, ⟨0, 1, .rw, 0⟩]⟩,
  ⟨0x100B0004, 4, 256, [⟨7, 1, .ro, 0⟩, ⟨6, 1, .ro, 0⟩, ⟨0, 3, .ro, 0⟩]⟩,
  ⟨0x100B0008, 4, 256, [⟨16, 16, .ro, 0⟩, ⟨0, 16, .ro, 0⟩]⟩,
  ⟨0x100B000C, 4, 256, [⟨24, 8, .ro, 0⟩, ⟨16, 1, .ro, 0⟩, ⟨0, 16, .ro, 0xffff⟩]⟩,
  ⟨0x100B0010, 4, 256, [⟨14, 1, .w1c, 0⟩, ⟨13, 1, .w1c, 0⟩, ⟨12, 1, .w1c, 0⟩, ⟨11, 1, .w1c, 0⟩, ⟨10, 1, .w1c, 0⟩, ⟨9, 1, .w1c, 0⟩, ⟨8, 1, .w1c, 0⟩, ⟨7, 1, .w1c, 0⟩, ⟨6, 1, .w1c, 0⟩, ⟨5, 1, .w1c, 0⟩, ⟨4, 1, .w1c, 0⟩, ⟨3, 1, .w1c, 0⟩, ⟨2, 1, .w1c, 0⟩, ⟨1, 1, .w1c, 0⟩, ⟨0, 1, .w1c, 0⟩]⟩,
  ⟨0x100B001C, 4, 256, [⟨4, 5, .rw, 0xa⟩, ⟨0, 1, .rw, 0⟩]⟩,
  ⟨0x100B0020, 4, 256, [⟨24, 8, .rw, 0x32⟩, ⟨16, 8, .rw, 0xc⟩, ⟨0, 16, .rw, 0x258⟩]⟩,
  ⟨0x100B0024, 4, 256, [⟨16, 16, .rw, 0x190⟩, ⟨0, 16, .rw, 0xc8⟩]⟩,
  ⟨0x100B0028, 4, 256, [⟨8, 8, .ro, 0⟩, ⟨4, 4, .ro, 0⟩, ⟨0, 3, .ro, 0⟩]⟩,
  ⟨0x100B002C, 4, 256, [⟨0, 32, .ro, 0xffffffff⟩]⟩,
  ⟨0x100B0030, 4, 256, [⟨0, 32, .ro, 0⟩]⟩,
  ⟨0x100B0034, 4, 256, [⟨0, 32, .ro, 0⟩]⟩,
  ⟨0x100B0038, 4, 256, [⟨0, 32, .ro, 0⟩]⟩,
  ⟨0x100B003C, 4, 256, [⟨0, 32, .ro, 0⟩]⟩,
  ⟨0x100B0040, 4, 256, [⟨0, 32, .ro, 0⟩]⟩,
  ⟨0x100B0044, 4, 256, [⟨0, 32, .ro, 0⟩]⟩,
  ⟨0x100B0048, 4, 256, [⟨0, 32, .ro, 0⟩]⟩,
  ⟨0x100B004C, 4, 256, [⟨0, 32, .ro, 0⟩]⟩,
  ⟨0x100B0050, 4, 256, [⟨0, 32, .ro, 0⟩]⟩,
  ⟨0x100B0054, 4, 256, [⟨0, 32, .ro, 0⟩]⟩,
  ⟨0x100B0058, 4, 256, [⟨0, 32, .ro, 0⟩]⟩,
  ⟨0x100B005C, 4, 256, [⟨0, 32, .ro, 0⟩]⟩,
  ⟨0x100B0060, 4, 256, [⟨0, 32, .ro, 0⟩]⟩,
  ⟨0x100B0064, 4, 256, [⟨0, 32, .ro, 0⟩]⟩]

def regRowsVEH1 : List RegRow := [
  ⟨0x100B0068, 4, 256, [⟨0, 32, .ro, 0⟩]⟩,
  ⟨0x100B006C, 4, 256, [⟨0, 32, .ro, 0⟩]⟩,
  ⟨0x100B0070, 4, 256, [⟨0, 32, .ro, 0⟩]⟩,
  ⟨0x100B0074, 4, 256, [⟨0, 32, .ro, 0⟩]⟩,
  ⟨0x100B0078, 4, 256, [⟨0, 32, .ro, 0⟩]⟩,
  ⟨0x100B0080, 4, 256, [⟨31, 1, .wo, 0⟩, ⟨30, 1, .wo, 0⟩, ⟨29, 1, .rw, 0⟩, ⟨28, 1, .ro, 0⟩, ⟨0, 16, .rw, 0⟩]⟩,
  ⟨0x100B0084, 4, 256, [⟨31, 1, .wo, 0⟩, ⟨30, 1, .wo, 0⟩, ⟨29, 1, .rw, 0⟩, ⟨28, 1, .ro, 0⟩, ⟨0, 16, .rw, 0⟩]⟩,
  ⟨0x100B0088, 4, 256, [⟨0, 32, .rw, 0⟩]⟩,
  ⟨0x100B008C, 4, 256, [⟨0, 32, .rw, 0⟩]⟩,
  ⟨0x100B0090, 4, 256, [⟨0, 32, .wo, 0⟩]⟩,
  ⟨0x100B0094, 4, 256, [⟨0, 32, .wo, 0⟩]⟩,
  ⟨0x100B0098, 4, 256, [⟨0, 32, .wo, 0⟩]⟩,
  ⟨0x100B009C, 4, 256, [⟨0, 32, .wo, 0⟩]⟩,
  ⟨0x100B00A0, 4, 256, [⟨0, 32, .rw, 0⟩]⟩,
  ⟨0x100B00A4, 4, 256, [⟨0, 32, .rw, 0⟩]⟩,
  ⟨0x100B00E0, 6, 256, [⟨31, 1, .wo, 0⟩, ⟨0, 16, .ro, 0⟩]⟩,
  ⟨0x100B0400, 2, 256, [⟨31, 1, .rw, 0⟩, ⟨30, 1, .rw, 1⟩, ⟨27, 3, .rw, 2⟩, ⟨26, 1, .rw, 0⟩, ⟨22, 4, .rw, 0⟩, ⟨14, 8, .rw, 0x20⟩, ⟨6, 8, .rw, 0x80⟩, ⟨0, 6, .rw, 0xa⟩]⟩,
  ⟨0x100B0404, 2, 256, [⟨8, 8, .ro, 0⟩, ⟨0, 8, .ro, 0⟩]⟩,
  ⟨0x100B0600, 1, 4, [⟨5, 5, .w1c, 0⟩, ⟨4, 1, .w1c, 0⟩, ⟨3, 1, .w1c, 0⟩, ⟨2, 1, .w1c, 0⟩, ⟨1, 1, .w1c, 0⟩, ⟨0, 1, .w1c, 0⟩]⟩,
  ⟨0x100B0800, 4, 256, [⟨31, 1, .rw, 0⟩, ⟨30, 1, .rw, 0⟩, ⟨29, 1, .rw, 0⟩, ⟨28, 1, .rw, 1⟩]⟩,
  ⟨0x100B0804, 4, 256, [⟨24, 8, .rw, 0⟩, ⟨16, 8, .rw, 0⟩, ⟨12, 4, .rw, 0⟩, ⟨8, 4, .rw, 0⟩, ⟨3, 5, .rw, 0⟩, ⟨0, 3, .rw, 0⟩]⟩,
  ⟨0x100B0808, 4, 256, [⟨24, 8, .ro, 0⟩, ⟨16, 8, .ro, 0⟩, ⟨8, 8, .ro, 0⟩, ⟨2, 6, .ro, 0⟩, ⟨0, 2, .ro, 0⟩]⟩,
  ⟨0x100B080C, 4, 256, [⟨0, 32, .ro, 0⟩]⟩,
  ⟨0x100B0C00, 1, 4, [⟨0, 20, .w1c, 0⟩]⟩]

def regRowsVEH2 : List RegRow := [
  ⟨0x100B0C08, 1, 4, [⟨0, 20, .rw, 0⟩]⟩,
  ⟨0x100B0604, 1, 4, [⟨31, 1, .wo, 0⟩, ⟨0, 8, .ro, 0⟩]⟩,
  ⟨0x100B0C04, 1, 4, [⟨31, 1, .wo, 0⟩, ⟨0, 8, .ro, 0⟩]⟩,
  ⟨0x100B0014, 4, 256, [⟨31, 1, .wo, 0⟩, ⟨0, 8, .ro, 0⟩]⟩,
  ⟨0x100B0F00, 1, 4, [⟨31, 1, .wo, 0⟩, ⟨0, 16, .ro, 0⟩]⟩,
  ⟨0x100B0018, 4, 256, [⟨0, 15, .rw, 0⟩]⟩,
  ⟨0x100B0608, 1, 4, [⟨0, 10, .rw, 0⟩]⟩,
  ⟨0x100B00C0, 6, 256, [⟨0, 32, .rw, 0⟩]⟩,
  ⟨0x100B00C4, 6, 256, [⟨31, 1, .rw, 0⟩, ⟨0, 4, .rw, 0⟩]⟩,
  ⟨0x100B00C8, 6, 256, [⟨0, 10, .ro, 0⟩]⟩,
  ⟨0x100B00D0, 6, 256, [⟨0, 32, .rw, 0⟩]⟩,
  ⟨0x100B00D4, 6, 256, [⟨31, 1, .rw, 0⟩, ⟨0, 4, .rw, 0⟩]⟩,
  ⟨0x100B00D8, 6, 256, [⟨0, 10, .ro, 0⟩]⟩,
  ⟨0x100B8000, 16, 128, [⟨31, 1, .rw, 0⟩, ⟨30, 1, .rw, 0⟩, ⟨29, 1, .rw, 0⟩, ⟨0, 29, .rw, 0⟩]⟩,
  ⟨0x100B8004, 16, 128, [⟨16, 16, .rw, 0⟩, ⟨0, 16, .rw, 0⟩]⟩,
  ⟨0x100B8008, 16, 128, [⟨31, 1, .rw, 0⟩, ⟨30, 1, .wo, 0⟩, ⟨0, 7, .rw, 0⟩]⟩,
  ⟨0x100B8010, 16, 128, [⟨0, 32, .rw, 0⟩]⟩,
  ⟨0x100B8014, 16, 128, [⟨0, 32, .rw, 0⟩]⟩,
  ⟨0x100B8018, 16, 128, [⟨0, 32, .rw, 0⟩]⟩,
  ⟨0x100B801C, 16, 128, [⟨0, 32, .rw, 0⟩]⟩,
  ⟨0x100B8020, 16, 128, [⟨0, 32, .rw, 0⟩]⟩,
  ⟨0x100B8024, 16, 128, [⟨0, 32, .rw, 0⟩]⟩,
  ⟨0x100B8028, 16, 128, [⟨0, 32, .rw, 0⟩]⟩,
  ⟨0x100B802C, 16, 128, [⟨0, 32, .rw, 0⟩]⟩]

def regRowsVEH3 : List RegRow := [
  ⟨0x100B8030, 16, 128, [⟨0, 32, .rw, 0⟩]⟩,
  ⟨0x100B8034, 16, 128, [⟨0, 32, .rw, 0⟩]⟩,
  ⟨0x100B8038, 16, 128, [⟨0, 32, .rw, 0⟩]⟩,
  ⟨0x100B803C, 16, 128, [⟨0, 32, .rw, 0⟩]⟩,
  ⟨0x100B8040, 16, 128, [⟨0, 32, .rw, 0⟩]⟩,
  ⟨0x100B8044, 16, 128, [⟨0, 32, .rw, 0⟩]⟩,
  ⟨0x100B8048, 16, 128, [⟨0, 32, .rw, 0⟩]⟩,
  ⟨0x100B804C, 16, 128, [⟨0, 32, .rw, 0⟩]⟩,
  ⟨0x100BA000, 32, 8, [⟨31, 1, .rw, 0⟩, ⟨29, 1, .rw, 0⟩, ⟨0, 29, .rw, 0⟩]⟩,
  ⟨0x100BA004, 32, 8, [⟨31, 1, .rw, 0⟩, ⟨0, 29, .rw, 0⟩]⟩,
  ⟨0x100BA800, 32, 4, [⟨0, 16, .rw, 0⟩]⟩,
  ⟨0x100BC000, 1, 4, [⟨31, 1, .ro, 0⟩, ⟨30, 1, .ro, 0⟩, ⟨29, 1, .ro, 0⟩, ⟨0, 29, .ro, 0⟩]⟩,
  ⟨0x100BC004, 1, 4, [⟨8, 5, .ro, 0⟩, ⟨0, 7, .ro, 0⟩]⟩,
  ⟨0x100BC008, 1, 4, [⟨0, 32, .ro, 0⟩]⟩,
  ⟨0x100BC00C, 1, 4, [⟨0, 1, .wo, 0⟩]⟩,
  ⟨0x100BC010, 16, 4, [⟨0, 32, .ro, 0⟩]⟩,
  ⟨0x100BD000, 1, 4, [⟨31, 1, .rw, 0⟩, ⟨30, 1, .rw, 0⟩, ⟨29, 1, .rw, 0⟩, ⟨0, 29, .rw, 0⟩]⟩,
  ⟨0x100BD004, 1, 4, [⟨0, 7, .rw, 0⟩]⟩,
  ⟨0x100BD00C, 1, 4, [⟨0, 1, .wo, 0⟩]⟩,
  ⟨0x100BD010, 16, 4, [⟨0, 32, .rw, 0⟩]⟩,
  ⟨0x100B8800, 16, 128, [⟨31, 1, .rw, 0⟩, ⟨30, 1, .rw, 0⟩, ⟨29, 1, .rw, 0⟩, ⟨0, 29, .rw, 0⟩]⟩,
  ⟨0x100B8804, 16, 128, [⟨16, 16, .rw, 0⟩, ⟨0, 16, .rw, 0⟩]⟩,
  ⟨0x100B8808, 16, 128, [⟨31, 1, .rw, 0⟩, ⟨30, 1, .wo, 0⟩, ⟨0, 7, .rw, 0⟩]⟩,
  ⟨0x100B8810, 16, 128, [⟨0, 32, .rw, 0⟩]⟩]

def regRowsVEH4 : List RegRow := [
  ⟨0x100B8814, 16, 128, [⟨0, 32, .rw, 0⟩]⟩,
  ⟨0x100B8818, 16, 128, [⟨0, 32, .rw, 0⟩]⟩,
  ⟨0x100B881C, 16, 128, [⟨0, 32, .rw, 0⟩]⟩,
  ⟨0x100B8820, 16, 128, [⟨0, 32, .rw, 0⟩]⟩,
  ⟨0x100B8824, 16, 128, [⟨0, 32, .rw, 0⟩]⟩,
  ⟨0x100B8828, 16, 128, [⟨0, 32, .rw, 0⟩]⟩,
  ⟨0x100B882C, 16, 128, [⟨0, 32, .rw, 0⟩]⟩,
  ⟨0x100B8830, 16, 128, [⟨0, 32, .rw, 0⟩]⟩,
  ⟨0x100B8834, 16, 128, [⟨0, 32, .rw, 0⟩]⟩,
  ⟨0x100B8838, 16, 128, [⟨0, 32, .rw, 0⟩]⟩,
  ⟨0x100B883C, 16, 128, [⟨0, 32, .rw, 0⟩]⟩,
  ⟨0x100B8840, 16, 128, [⟨0, 32, .rw, 0⟩]⟩,
  ⟨0x100B8844, 16, 128, [⟨0, 32, .rw, 0⟩]⟩,
  ⟨0x100B8848, 16, 128, [⟨0, 32, .rw, 0⟩]⟩,
  ⟨0x100B884C, 16, 128, [⟨0, 32, .rw, 0⟩]⟩,
  ⟨0x100BA100, 32, 8, [⟨31, 1, .rw, 0⟩, ⟨29, 1, .rw, 0⟩, ⟨0, 29, .rw, 0⟩]⟩,
  ⟨0x100BA104, 32, 8, [⟨31, 1, .rw, 0⟩, ⟨0, 29, .rw, 0⟩]⟩,
  ⟨0x100BA900, 32, 4, [⟨0, 16, .rw, 0⟩]⟩,
  ⟨0x100BC100, 1, 4, [⟨31, 1, .ro, 0⟩, ⟨30, 1, .ro, 0⟩, ⟨29, 1, .ro, 0⟩, ⟨0, 29, .ro, 0⟩]⟩,
  ⟨0x100BC104, 1, 4, [⟨8, 5, .ro, 0⟩, ⟨0, 7, .ro, 0⟩]⟩,
  ⟨0x100BC108, 1, 4, [⟨0, 32, .ro, 0⟩]⟩,
  ⟨0x100BC10C, 1, 4, [⟨0, 1, .wo, 0⟩]⟩,
  ⟨0x100BC110, 16, 4, [⟨0, 32, .ro, 0⟩]⟩,
  ⟨0x100BD100, 1, 4, [⟨31, 1, .rw, 0⟩, ⟨30, 1, .rw, 0⟩, ⟨29, 1, .rw, 0⟩, ⟨0, 29, .rw, 0⟩]⟩]

def regRowsVEH5 : List RegRow := [
  ⟨0x100BD104, 1, 4, [⟨0, 7, .rw, 0⟩]⟩,
  ⟨0x100BD10C, 1, 4, [⟨0, 1, .wo, 0⟩]⟩,
  ⟨0x100BD110, 16, 4, [⟨0, 32, .rw, 0⟩]⟩,
  ⟨0x100B9000, 16, 128, [⟨31, 1, .rw, 0⟩, ⟨30, 1, .rw, 0⟩, ⟨29, 1, .rw, 0⟩, ⟨0, 29, .rw, 0⟩]⟩,
  ⟨0x100B9004, 16, 128, [⟨16, 16, .rw, 0⟩, ⟨0, 16, .rw, 0⟩]⟩,
  ⟨0x100B9008, 16, 128, [⟨31, 1, .rw, 0⟩, ⟨30, 1, .wo, 0⟩, ⟨0, 7, .rw, 0⟩]⟩,
  ⟨0x100B9010, 16, 128, [⟨0, 32, .rw, 0⟩]⟩,
  ⟨0x100B9014, 16, 128, [⟨0, 32, .rw, 0⟩]⟩,
  ⟨0x100B9018, 16, 128, [⟨0, 32, .rw, 0⟩]⟩,
  ⟨0x100B901C, 16, 128, [⟨0, 32, .rw, 0⟩]⟩,
  ⟨0x100B9020, 16, 128, [⟨0, 32, .rw, 0⟩]⟩,
  ⟨0x100B9024, 16, 128, [⟨0, 32, .rw, 0⟩]⟩,
  ⟨0x100B9028, 16, 128, [⟨0, 32, .rw, 0⟩]⟩,
  ⟨0x100B902C, 16, 128, [⟨0, 32, .rw, 0⟩]⟩,
  ⟨0x100B9030, 16, 128, [⟨0, 32, .rw, 0⟩]⟩,
  ⟨0x100B9034, 16, 128, [⟨0, 32, .rw, 0⟩]⟩,
  ⟨0x100B9038, 16, 128, [⟨0, 32, .rw, 0⟩]⟩,
  ⟨0x100B903C, 16, 128, [⟨0, 32, .rw, 0⟩]⟩,
  ⟨0x100B9040, 16, 128, [⟨0, 32, .rw, 0⟩]⟩,
  ⟨0x100B9044, 16, 128, [⟨0, 32, .rw, 0⟩]⟩,
  ⟨0x100B9048, 16, 128, [⟨0, 32, .rw, 0⟩]⟩,
  ⟨0x100B904C, 16, 128, [⟨0, 32, .rw, 0⟩]⟩,
  ⟨0x100BA200, 32, 8, [⟨31, 1, .rw, 0⟩, ⟨29, 1, .rw, 0⟩, ⟨0, 29, .rw, 0⟩]⟩,
  ⟨0x100BA204, 32, 8, [⟨31, 1, .rw, 0⟩, ⟨0, 29, .rw, 0⟩]⟩]

def regRowsVEH6 : List RegRow := [
  ⟨0x100BAA00, 32, 4, [⟨0, 16, .rw, 0⟩]⟩,
  ⟨0x100BC200, 1, 4, [⟨31, 1, .ro, 0⟩, ⟨30, 1, .ro, 0⟩, ⟨29, 1, .ro, 0⟩, ⟨0, 29, .ro, 0⟩]⟩,
  ⟨0x100BC204, 1, 4, [⟨8, 5, .ro, 0⟩, ⟨0, 7, .ro, 0⟩]⟩,
  ⟨0x100BC208, 1, 4, [⟨0, 32, .ro, 0⟩]⟩,
  ⟨0x100BC20C, 1, 4, [⟨0, 1, .wo, 0⟩]⟩,
  ⟨0x100BC210, 16, 4, [⟨0, 32, .ro, 0⟩]⟩,
  ⟨0x100BD200, 1, 4, [⟨31, 1, .rw, 0⟩, ⟨30, 1, .rw, 0⟩, ⟨29, 1, .rw, 0⟩, ⟨0, 29, .rw, 0⟩]⟩,
  ⟨0x100BD204, 1, 4, [⟨0, 7, .rw, 0⟩]⟩,
  ⟨0x100BD20C, 1, 4, [⟨0, 1, .wo, 0⟩]⟩,
  ⟨0x100BD210, 16, 4, [⟨0, 32, .rw, 0⟩]⟩,
  ⟨0x100B9800, 16, 128, [⟨31, 1, .rw, 0⟩, ⟨30, 1, .rw, 0⟩, ⟨29, 1, .rw, 0⟩, ⟨0, 29, .rw, 0⟩]⟩,
  ⟨0x100B9804, 16, 128, [⟨16, 16, .rw, 0⟩, ⟨0, 16, .rw, 0⟩]⟩,
  ⟨0x100B9808, 16, 128, [⟨31, 1, .rw, 0⟩, ⟨30, 1, .wo, 0⟩, ⟨0, 7, .rw, 0⟩]⟩,
  ⟨0x100B9810, 16, 128, [⟨0, 32, .rw, 0⟩]⟩,
  ⟨0x100B9814, 16, 128, [⟨0, 32, .rw, 0⟩]⟩,
  ⟨0x100B9818, 16, 128, [⟨0, 32, .rw, 0⟩]⟩,
  ⟨0x100B981C, 16, 128, [⟨0, 32, .rw, 0⟩]⟩,
  ⟨0x100B9820, 16, 128, [⟨0, 32, .rw, 0⟩]⟩,
  ⟨0x100B9824, 16, 128, [⟨0, 32, .rw, 0⟩]⟩,
  ⟨0x100B9828, 16, 128, [⟨0, 32, .rw, 0⟩]⟩,
  ⟨0x100B982C, 16, 128, [⟨0, 32, .rw, 0⟩]⟩,
  ⟨0x100B9830, 16, 128, [⟨0, 32, .rw, 0⟩]⟩,
  ⟨0x100B9834, 16, 128, [⟨0, 32, .rw, 0⟩]⟩,
  ⟨0x100B9838, 16, 128, [⟨0, 32, .rw, 0⟩]⟩]

def regRowsVEH7 : List RegRow := [
  ⟨0x100B983C, 16, 128, [⟨0, 32, .rw, 0⟩]⟩,
  ⟨0x100B9840, 16, 128, [⟨0, 32, .rw, 0⟩]⟩,
  ⟨0x100B9844, 16, 128, [⟨0, 32, .rw, 0⟩]⟩,
  ⟨0x100B9848, 16, 128, [⟨0, 32, .rw, 0⟩]⟩,
  ⟨0x100B984C, 16, 128, [⟨0, 32, .rw, 0⟩]⟩,
  ⟨0x100BA300, 32, 8, [⟨31, 1, .rw, 0⟩, ⟨29, 1, .rw, 0⟩, ⟨0, 29, .rw, 0⟩]⟩,
  ⟨0x100BA304, 32, 8, [⟨31, 1, .rw, 0⟩, ⟨0, 29, .rw, 0⟩]⟩,
  ⟨0x100BAB00, 32, 4, [⟨0, 16, .rw, 0⟩]⟩,
  ⟨0x100BC300, 1, 4, [⟨31, 1, .ro, 0⟩, ⟨30, 1, .ro, 0⟩, ⟨29, 1, .ro, 0⟩, ⟨0, 29, .ro, 0⟩]⟩,
  ⟨0x100BC304, 1, 4, [⟨8, 5, .ro, 0⟩, ⟨0, 7, .ro, 0⟩]⟩,
  ⟨0x100BC308, 1, 4, [⟨0, 32, .ro, 0⟩]⟩,
  ⟨0x100BC30C, 1, 4, [⟨0, 1, .wo, 0⟩]⟩,
  ⟨0x100BC310, 16, 4, [⟨0, 32, .ro, 0⟩]⟩,
  ⟨0x100BD300, 1, 4, [⟨31, 1, .rw, 0⟩, ⟨30, 1, .rw, 0⟩, ⟨29, 1, .rw, 0⟩, ⟨0, 29, .rw, 0⟩]⟩,
  ⟨0x100BD304, 1, 4, [⟨0, 7, .rw, 0⟩]⟩,
  ⟨0x100BD30C, 1, 4, [⟨0, 1, .wo, 0⟩]⟩,
  ⟨0x100BD310, 16, 4, [⟨0, 32, .rw, 0⟩]⟩]

/-- The registers of the VEH block. -/
def regRowsVEH : List RegRow := regRowsVEH0 ++ regRowsVEH1 ++ regRowsVEH2 ++ regRowsVEH3 ++ regRowsVEH4 ++ regRowsVEH5 ++ regRowsVEH6 ++ regRowsVEH7

/-! ### NET -/

def F.NET_CFG_AGE : Fld := ⟨0x100C0000, 16, 16, 0x12c⟩
def F.NET_CFG_LEARN : Fld := ⟨0x100C0000, 3, 1, 1⟩
def F.NET_CFG_EN : Fld := ⟨0x100C0000, 0, 3, 0⟩
def F.NET_PSTAT_SPEED (i : Nat) : Fld := ⟨0x100C0004 + 4 * i, 2, 2, 0⟩
def F.NET_PSTAT_FDX (i : Nat) : Fld := ⟨0x100C0004 + 4 * i, 1, 1, 0⟩
def F.NET_PSTAT_LINK (i : Nat) : Fld := ⟨0x100C0004 + 4 * i, 0, 1, 0⟩
def F.NET_FLAGS_BUFERR : Fld := ⟨0x100C000C, 5, 1, 0⟩
def F.NET_FLAGS_DROP : Fld := ⟨0x100C000C, 4, 1, 0⟩
def F.NET_FLAGS_TXTS : Fld := ⟨0x100C000C, 3, 1, 0⟩
def F.NET_FLAGS_RXDONE : Fld := ⟨0x100C000C, 2, 1, 0⟩
def F.NET_FLAGS_TXDONE : Fld := ⟨0x100C000C, 1, 1, 0⟩
def F.NET_FLAGS_LINKCHG : Fld := ⟨0x100C000C, 0, 1, 0⟩
def F.NET_IEN_EN : Fld := ⟨0x100C0014, 0, 6, 0⟩
def F.NET_PTPOFSLO_OFS : Fld := ⟨0x100C0018, 0, 32, 0⟩
def F.NET_PTPOFSHI_OFS : Fld := ⟨0x100C001C, 0, 32, 0⟩
def F.NET_TXTSLO_TS : Fld := ⟨0x100C0020, 0, 32, 0⟩
def F.NET_TXTSHI_TS : Fld := ⟨0x100C0024, 0, 32, 0⟩
def F.NET_EVCNT_CLR : Fld := ⟨0x100C0010, 31, 1, 0⟩
def F.NET_EVCNT_COUNT : Fld := ⟨0x100C0010, 0, 8, 0⟩
def F.NET_LENERR_CLR : Fld := ⟨0x100C0028, 31, 1, 0⟩
def F.NET_LENERR_COUNT : Fld := ⟨0x100C0028, 0, 16, 0⟩
def F.NET_DROP_CLR : Fld := ⟨0x100C002C, 31, 1, 0⟩
def F.NET_DROP_COUNT : Fld := ⟨0x100C002C, 0, 16, 0⟩
def F.NET_TXR_BASE_BASE : Fld := ⟨0x100C0040, 0, 32, 0⟩
def F.NET_TXR_CTL_EN : Fld := ⟨0x100C0044, 31, 1, 0⟩
def F.NET_TXR_CTL_SIZE : Fld := ⟨0x100C0044, 0, 4, 0⟩
def F.NET_TXR_IDX_IDX : Fld := ⟨0x100C0048, 0, 10, 0⟩
def F.NET_RXR_BASE_BASE : Fld := ⟨0x100C0050, 0, 32, 0⟩
def F.NET_RXR_CTL_EN : Fld := ⟨0x100C0054, 31, 1, 0⟩
def F.NET_RXR_CTL_SIZE : Fld := ⟨0x100C0054, 0, 4, 0⟩
def F.NET_RXR_IDX_IDX : Fld := ⟨0x100C0058, 0, 10, 0⟩

def regRowsNET0 : List RegRow := [
  ⟨0x100C0000, 1, 4, [⟨16, 16, .rw, 0x12c⟩, ⟨3, 1, .rw, 1⟩, ⟨0, 3, .rw, 0⟩]⟩,
  ⟨0x100C0004, 2, 4, [⟨2, 2, .ro, 0⟩, ⟨1, 1, .ro, 0⟩, ⟨0, 1, .ro, 0⟩]⟩,
  ⟨0x100C000C, 1, 4, [⟨5, 1, .w1c, 0⟩, ⟨4, 1, .w1c, 0⟩, ⟨3, 1, .w1c, 0⟩, ⟨2, 1, .w1c, 0⟩, ⟨1, 1, .w1c, 0⟩, ⟨0, 1, .w1c, 0⟩]⟩,
  ⟨0x100C0014, 1, 4, [⟨0, 6, .rw, 0⟩]⟩,
  ⟨0x100C0018, 1, 4, [⟨0, 32, .rw, 0⟩]⟩,
  ⟨0x100C001C, 1, 4, [⟨0, 32, .rw, 0⟩]⟩,
  ⟨0x100C0020, 1, 4, [⟨0, 32, .ro, 0⟩]⟩,
  ⟨0x100C0024, 1, 4, [⟨0, 32, .ro, 0⟩]⟩,
  ⟨0x100C0010, 1, 4, [⟨31, 1, .wo, 0⟩, ⟨0, 8, .ro, 0⟩]⟩,
  ⟨0x100C0028, 1, 4, [⟨31, 1, .wo, 0⟩, ⟨0, 16, .ro, 0⟩]⟩,
  ⟨0x100C002C, 1, 4, [⟨31, 1, .wo, 0⟩, ⟨0, 16, .ro, 0⟩]⟩,
  ⟨0x100C0040, 1, 4, [⟨0, 32, .rw, 0⟩]⟩,
  ⟨0x100C0044, 1, 4, [⟨31, 1, .rw, 0⟩, ⟨0, 4, .rw, 0⟩]⟩,
  ⟨0x100C0048, 1, 4, [⟨0, 10, .ro, 0⟩]⟩,
  ⟨0x100C0050, 1, 4, [⟨0, 32, .rw, 0⟩]⟩,
  ⟨0x100C0054, 1, 4, [⟨31, 1, .rw, 0⟩, ⟨0, 4, .rw, 0⟩]⟩,
  ⟨0x100C0058, 1, 4, [⟨0, 10, .ro, 0⟩]⟩]

/-- The registers of the NET block. -/
def regRowsNET : List RegRow := regRowsNET0

/-! ### LEA -/

def F.LEA_STATUS_NADDR : Fld := ⟨0x100D0000, 18, 6, 0⟩
def F.LEA_STATUS_SEGHEAD : Fld := ⟨0x100D0000, 17, 1, 0⟩
def F.LEA_STATUS_ADDRHELD : Fld := ⟨0x100D0000, 16, 1, 0⟩
def F.LEA_STATUS_LUUP : Fld := ⟨0x100D0000, 15, 1, 0⟩
def F.LEA_STATUS_LDUP : Fld := ⟨0x100D0000, 14, 1, 0⟩
def F.LEA_STATUS_BYP : Fld := ⟨0x100D0000, 13, 1, 0⟩
def F.LEA_STATUS_BUDOK : Fld := ⟨0x100D0000, 12, 1, 0⟩
def F.LEA_STATUS_ADDR : Fld := ⟨0x100D0000, 0, 6, 0⟩
def F.LEA_FLAGS_TXFULL : Fld := ⟨0x100D0004, 13, 1, 0⟩
def F.LEA_FLAGS_CMDDROP : Fld := ⟨0x100D0004, 12, 1, 0⟩
def F.LEA_FLAGS_RXCMD : Fld := ⟨0x100D0004, 11, 1, 0⟩
def F.LEA_FLAGS_XFERFAIL : Fld := ⟨0x100D0004, 10, 1, 0⟩
def F.LEA_FLAGS_XFERDONE : Fld := ⟨0x100D0004, 9, 1, 0⟩
def F.LEA_FLAGS_BUDSTALE : Fld := ⟨0x100D0004, 8, 1, 0⟩
def F.LEA_FLAGS_EPOCHCHG : Fld := ⟨0x100D0004, 7, 1, 0⟩
def F.LEA_FLAGS_STOPRX : Fld := ⟨0x100D0004, 6, 1, 0⟩
def F.LEA_FLAGS_STOPTX : Fld := ⟨0x100D0004, 5, 1, 0⟩
def F.LEA_FLAGS_OVERFLOW : Fld := ⟨0x100D0004, 4, 1, 0⟩
def F.LEA_FLAGS_ADDRDUP : Fld := ⟨0x100D0004, 3, 1, 0⟩
def F.LEA_FLAGS_ADDRCHG : Fld := ⟨0x100D0004, 2, 1, 0⟩
def F.LEA_FLAGS_LINKCHG : Fld := ⟨0x100D0004, 1, 1, 0⟩
def F.LEA_FLAGS_ENUMDONE : Fld := ⟨0x100D0004, 0, 1, 0⟩
def F.LEA_CTRL_XCANCEL : Fld := ⟨0x100D0010, 3, 1, 0⟩
def F.LEA_CTRL_XSTART : Fld := ⟨0x100D0010, 2, 1, 0⟩
def F.LEA_CTRL_ENUM : Fld := ⟨0x100D0010, 1, 1, 0⟩
def F.LEA_CTRL_STOP : Fld := ⟨0x100D0010, 0, 1, 0⟩
def F.LEA_BSITE_IMP : Fld := ⟨0x100D0014, 16, 16, 0⟩
def F.LEA_BSITE_EXP : Fld := ⟨0x100D0014, 0, 16, 0⟩
def F.LEA_SHARE_IMP : Fld := ⟨0x100D0018, 16, 16, 0⟩
def F.LEA_SHARE_EXP : Fld := ⟨0x100D0018, 0, 16, 0⟩
def F.LEA_EXPCTL_EXPSEQ : Fld := ⟨0x100D001C, 8, 24, 0⟩
def F.LEA_EXPCTL_MODE : Fld := ⟨0x100D001C, 0, 1, 0⟩
def F.LEA_EXPDIG_DIGEST (i : Nat) : Fld := ⟨0x100D0020 + 4 * i, 0, 32, 0⟩
def F.LEA_MMAP_MAP (i : Nat) : Fld := ⟨0x100D0040 + 4 * i, 0, 32, 0⟩
def F.LEA_IDLEMAP_MAP (i : Nat) : Fld := ⟨0x100D0048 + 4 * i, 0, 32, 0⟩
def F.LEA_SEENMAP_MAP (i : Nat) : Fld := ⟨0x100D0050 + 4 * i, 0, 32, 0⟩
def F.LEA_XFERCFG_XFERID : Fld := ⟨0x100D0058, 16, 16, 0⟩
def F.LEA_XFERCFG_MANLEN : Fld := ⟨0x100D0058, 0, 16, 0⟩
def F.LEA_XFERLEN_CLASS : Fld := ⟨0x100D005C, 30, 2, 0⟩
def F.LEA_XFERLEN_IMGLEN : Fld := ⟨0x100D005C, 0, 26, 0⟩
def F.LEA_XFER_XFERID : Fld := ⟨0x100D0060, 16, 16, 0⟩
def F.LEA_XFER_BLOCKS : Fld := ⟨0x100D0060, 0, 16, 0⟩
def F.LEA_BSHARE_IMP (i : Nat) : Fld := ⟨0x100D0100 + 4 * i, 16, 16, 0⟩
def F.LEA_BSHARE_EXP (i : Nat) : Fld := ⟨0x100D0100 + 4 * i, 0, 16, 0⟩
def F.LEA_NODELO_SERIAL (i : Nat) : Fld := ⟨0x100D0400 + 8 * i, 0, 32, 0⟩
def F.LEA_NODEHI_SERIAL (i : Nat) : Fld := ⟨0x100D0404 + 8 * i, 0, 32, 0⟩
def F.LEA_EVCNT_CLR : Fld := ⟨0x100D0008, 31, 1, 0⟩
def F.LEA_EVCNT_COUNT : Fld := ⟨0x100D0008, 0, 8, 0⟩
def F.LEA_LENERR_CLR : Fld := ⟨0x100D0064, 31, 1, 0⟩
def F.LEA_LENERR_COUNT : Fld := ⟨0x100D0064, 0, 16, 0⟩
def F.LEA_CMDDROP_CLR : Fld := ⟨0x100D0068, 31, 1, 0⟩
def F.LEA_CMDDROP_COUNT : Fld := ⟨0x100D0068, 0, 16, 0⟩
def F.LEA_BADFRM_CLR : Fld := ⟨0x100D006C, 31, 1, 0⟩
def F.LEA_BADFRM_COUNT : Fld := ⟨0x100D006C, 0, 16, 0⟩
def F.LEA_ABORT_CLR : Fld := ⟨0x100D0070, 31, 1, 0⟩
def F.LEA_ABORT_COUNT : Fld := ⟨0x100D0070, 0, 16, 0⟩
def F.LEA_IEN_EN : Fld := ⟨0x100D000C, 0, 14, 0⟩
def F.LEA_TXHDR_ADDR : Fld := ⟨0x100D0800, 24, 8, 0⟩
def F.LEA_TXHDR_LEN : Fld := ⟨0x100D0800, 0, 9, 0⟩
def F.LEA_TXGO_GO : Fld := ⟨0x100D080C, 0, 1, 0⟩
def F.LEA_TXDAT_DATA (i : Nat) : Fld := ⟨0x100D0810 + 4 * i, 0, 32, 0⟩
def F.LEA_RXHDR_ADDR : Fld := ⟨0x100D0A00, 24, 8, 0⟩
def F.LEA_RXHDR_LEN : Fld := ⟨0x100D0A00, 0, 9, 0⟩
def F.LEA_RXTIME_TIME : Fld := ⟨0x100D0A04, 0, 32, 0⟩
def F.LEA_RXGO_GO : Fld := ⟨0x100D0A0C, 0, 1, 0⟩
def F.LEA_RXDAT_DATA (i : Nat) : Fld := ⟨0x100D0A10 + 4 * i, 0, 32, 0⟩

def regRowsLEA0 : List RegRow := [
  ⟨0x100D0000, 1, 4, [⟨18, 6, .ro, 0⟩, ⟨17, 1, .ro, 0⟩, ⟨16, 1, .ro, 0⟩, ⟨15, 1, .ro, 0⟩, ⟨14, 1, .ro, 0⟩, ⟨13, 1, .ro, 0⟩, ⟨12, 1, .ro, 0⟩, ⟨0, 6, .ro, 0⟩]⟩,
  ⟨0x100D0004, 1, 4, [⟨13, 1, .w1c, 0⟩, ⟨12, 1, .w1c, 0⟩, ⟨11, 1, .w1c, 0⟩, ⟨10, 1, .w1c, 0⟩, ⟨9, 1, .w1c, 0⟩, ⟨8, 1, .w1c, 0⟩, ⟨7, 1, .w1c, 0⟩, ⟨6, 1, .w1c, 0⟩, ⟨5, 1, .w1c, 0⟩, ⟨4, 1, .w1c, 0⟩, ⟨3, 1, .w1c, 0⟩, ⟨2, 1, .w1c, 0⟩, ⟨1, 1, .w1c, 0⟩, ⟨0, 1, .w1c, 0⟩]⟩,
  ⟨0x100D0010, 1, 4, [⟨3, 1, .wo, 0⟩, ⟨2, 1, .wo, 0⟩, ⟨1, 1, .wo, 0⟩, ⟨0, 1, .wo, 0⟩]⟩,
  ⟨0x100D0014, 1, 4, [⟨16, 16, .rw, 0⟩, ⟨0, 16, .rw, 0⟩]⟩,
  ⟨0x100D0018, 1, 4, [⟨16, 16, .ro, 0⟩, ⟨0, 16, .ro, 0⟩]⟩,
  ⟨0x100D001C, 1, 4, [⟨8, 24, .ro, 0⟩, ⟨0, 1, .rw, 0⟩]⟩,
  ⟨0x100D0020, 8, 4, [⟨0, 32, .rw, 0⟩]⟩,
  ⟨0x100D0040, 2, 4, [⟨0, 32, .ro, 0⟩]⟩,
  ⟨0x100D0048, 2, 4, [⟨0, 32, .ro, 0⟩]⟩,
  ⟨0x100D0050, 2, 4, [⟨0, 32, .ro, 0⟩]⟩,
  ⟨0x100D0058, 1, 4, [⟨16, 16, .rw, 0⟩, ⟨0, 16, .rw, 0⟩]⟩,
  ⟨0x100D005C, 1, 4, [⟨30, 2, .rw, 0⟩, ⟨0, 26, .rw, 0⟩]⟩,
  ⟨0x100D0060, 1, 4, [⟨16, 16, .ro, 0⟩, ⟨0, 16, .ro, 0⟩]⟩,
  ⟨0x100D0100, 63, 4, [⟨16, 16, .rw, 0⟩, ⟨0, 16, .rw, 0⟩]⟩,
  ⟨0x100D0400, 64, 8, [⟨0, 32, .ro, 0⟩]⟩,
  ⟨0x100D0404, 64, 8, [⟨0, 32, .ro, 0⟩]⟩,
  ⟨0x100D0008, 1, 4, [⟨31, 1, .wo, 0⟩, ⟨0, 8, .ro, 0⟩]⟩,
  ⟨0x100D0064, 1, 4, [⟨31, 1, .wo, 0⟩, ⟨0, 16, .ro, 0⟩]⟩,
  ⟨0x100D0068, 1, 4, [⟨31, 1, .wo, 0⟩, ⟨0, 16, .ro, 0⟩]⟩,
  ⟨0x100D006C, 1, 4, [⟨31, 1, .wo, 0⟩, ⟨0, 16, .ro, 0⟩]⟩,
  ⟨0x100D0070, 1, 4, [⟨31, 1, .wo, 0⟩, ⟨0, 16, .ro, 0⟩]⟩,
  ⟨0x100D000C, 1, 4, [⟨0, 14, .rw, 0⟩]⟩,
  ⟨0x100D0800, 1, 4, [⟨24, 8, .rw, 0⟩, ⟨0, 9, .rw, 0⟩]⟩,
  ⟨0x100D080C, 1, 4, [⟨0, 1, .wo, 0⟩]⟩]

def regRowsLEA1 : List RegRow := [
  ⟨0x100D0810, 120, 4, [⟨0, 32, .rw, 0⟩]⟩,
  ⟨0x100D0A00, 1, 4, [⟨24, 8, .ro, 0⟩, ⟨0, 9, .ro, 0⟩]⟩,
  ⟨0x100D0A04, 1, 4, [⟨0, 32, .ro, 0⟩]⟩,
  ⟨0x100D0A0C, 1, 4, [⟨0, 1, .wo, 0⟩]⟩,
  ⟨0x100D0A10, 120, 4, [⟨0, 32, .ro, 0⟩]⟩]

/-- The registers of the LEA block. -/
def regRowsLEA : List RegRow := regRowsLEA0 ++ regRowsLEA1

/-! ### YRD -/

def F.YRD_STATUS_NADDR : Fld := ⟨0x100E0000, 24, 8, 0⟩
def F.YRD_STATUS_WIN : Fld := ⟨0x100E0000, 18, 6, 0⟩
def F.YRD_STATUS_LOST : Fld := ⟨0x100E0000, 17, 1, 0⟩
def F.YRD_STATUS_ACQ : Fld := ⟨0x100E0000, 16, 1, 0⟩
def F.YRD_STATUS_NOZC : Fld := ⟨0x100E0000, 15, 1, 0⟩
def F.YRD_FLAGS_TXFULL : Fld := ⟨0x100E0004, 9, 1, 0⟩
def F.YRD_FLAGS_POLLRX : Fld := ⟨0x100E0004, 8, 1, 0⟩
def F.YRD_FLAGS_STOPRX : Fld := ⟨0x100E0004, 7, 1, 0⟩
def F.YRD_FLAGS_RESEND : Fld := ⟨0x100E0004, 6, 1, 0⟩
def F.YRD_FLAGS_TXDONE : Fld := ⟨0x100E0004, 5, 1, 0⟩
def F.YRD_FLAGS_SAT : Fld := ⟨0x100E0004, 4, 1, 0⟩
def F.YRD_FLAGS_RXDISC : Fld := ⟨0x100E0004, 3, 1, 0⟩
def F.YRD_FLAGS_RXMSG : Fld := ⟨0x100E0004, 2, 1, 0⟩
def F.YRD_FLAGS_BMISS : Fld := ⟨0x100E0004, 1, 1, 0⟩
def F.YRD_FLAGS_BEACON : Fld := ⟨0x100E0004, 0, 1, 0⟩
def F.YRD_NOISE_THR : Fld := ⟨0x100E0010, 16, 16, 0⟩
def F.YRD_NOISE_FLOOR : Fld := ⟨0x100E0010, 0, 16, 0⟩
def F.YRD_WINCNT_DECODED : Fld := ⟨0x100E0014, 16, 16, 0⟩
def F.YRD_WINCNT_DISC : Fld := ⟨0x100E0014, 0, 16, 0⟩
def F.YRD_CORR_ERRS : Fld := ⟨0x100E0018, 16, 16, 0⟩
def F.YRD_CORR_ERAS : Fld := ⟨0x100E0018, 0, 16, 0⟩
def F.YRD_POLL_SERIAL : Fld := ⟨0x100E001C, 0, 32, 0⟩
def F.YRD_EVCNT_CLR : Fld := ⟨0x100E0008, 31, 1, 0⟩
def F.YRD_EVCNT_COUNT : Fld := ⟨0x100E0008, 0, 8, 0⟩
def F.YRD_LENERR_CLR : Fld := ⟨0x100E0020, 31, 1, 0⟩
def F.YRD_LENERR_COUNT : Fld := ⟨0x100E0020, 0, 16, 0⟩
def F.YRD_IEN_EN : Fld := ⟨0x100E000C, 0, 10, 0⟩
def F.YRD_TXHDR_ADDR : Fld := ⟨0x100E0040, 24, 8, 0⟩
def F.YRD_TXHDR_LEN : Fld := ⟨0x100E0040, 0, 4, 0⟩
def F.YRD_TXDAT_DATA (i : Nat) : Fld := ⟨0x100E0044 + 4 * i, 0, 32, 0⟩
def F.YRD_TXDAT2_DATA : Fld := ⟨0x100E004C, 0, 16, 0⟩
def F.YRD_TXGO_GO : Fld := ⟨0x100E0050, 0, 1, 0⟩
def F.YRD_RXHDR_ADDR : Fld := ⟨0x100E0060, 24, 8, 0⟩
def F.YRD_RXHDR_TYPE : Fld := ⟨0x100E0060, 20, 4, 0⟩
def F.YRD_RXHDR_LEN : Fld := ⟨0x100E0060, 0, 4, 0⟩
def F.YRD_RXDAT_DATA (i : Nat) : Fld := ⟨0x100E0064 + 4 * i, 0, 32, 0⟩
def F.YRD_RXDAT2_DATA : Fld := ⟨0x100E006C, 0, 16, 0⟩
def F.YRD_RXGO_GO : Fld := ⟨0x100E0070, 0, 1, 0⟩

def regRowsYRD0 : List RegRow := [
  ⟨0x100E0000, 1, 4, [⟨24, 8, .ro, 0⟩, ⟨18, 6, .ro, 0⟩, ⟨17, 1, .ro, 0⟩, ⟨16, 1, .ro, 0⟩, ⟨15, 1, .ro, 0⟩]⟩,
  ⟨0x100E0004, 1, 4, [⟨9, 1, .w1c, 0⟩, ⟨8, 1, .w1c, 0⟩, ⟨7, 1, .w1c, 0⟩, ⟨6, 1, .w1c, 0⟩, ⟨5, 1, .w1c, 0⟩, ⟨4, 1, .w1c, 0⟩, ⟨3, 1, .w1c, 0⟩, ⟨2, 1, .w1c, 0⟩, ⟨1, 1, .w1c, 0⟩, ⟨0, 1, .w1c, 0⟩]⟩,
  ⟨0x100E0010, 1, 4, [⟨16, 16, .ro, 0⟩, ⟨0, 16, .ro, 0⟩]⟩,
  ⟨0x100E0014, 1, 4, [⟨16, 16, .ro, 0⟩, ⟨0, 16, .ro, 0⟩]⟩,
  ⟨0x100E0018, 1, 4, [⟨16, 16, .ro, 0⟩, ⟨0, 16, .ro, 0⟩]⟩,
  ⟨0x100E001C, 1, 4, [⟨0, 32, .rw, 0⟩]⟩,
  ⟨0x100E0008, 1, 4, [⟨31, 1, .wo, 0⟩, ⟨0, 8, .ro, 0⟩]⟩,
  ⟨0x100E0020, 1, 4, [⟨31, 1, .wo, 0⟩, ⟨0, 16, .ro, 0⟩]⟩,
  ⟨0x100E000C, 1, 4, [⟨0, 10, .rw, 0⟩]⟩,
  ⟨0x100E0040, 1, 4, [⟨24, 8, .rw, 0⟩, ⟨0, 4, .rw, 0⟩]⟩,
  ⟨0x100E0044, 2, 4, [⟨0, 32, .rw, 0⟩]⟩,
  ⟨0x100E004C, 1, 4, [⟨0, 16, .rw, 0⟩]⟩,
  ⟨0x100E0050, 1, 4, [⟨0, 1, .wo, 0⟩]⟩,
  ⟨0x100E0060, 1, 4, [⟨24, 8, .ro, 0⟩, ⟨20, 4, .ro, 0⟩, ⟨0, 4, .ro, 0⟩]⟩,
  ⟨0x100E0064, 2, 4, [⟨0, 32, .ro, 0⟩]⟩,
  ⟨0x100E006C, 1, 4, [⟨0, 16, .ro, 0⟩]⟩,
  ⟨0x100E0070, 1, 4, [⟨0, 1, .wo, 0⟩]⟩]

/-- The registers of the YRD block. -/
def regRowsYRD : List RegRow := regRowsYRD0

/-! ### OPT -/

def F.OPT_STATUS_LIGHT : Fld := ⟨0x100F0000, 8, 1, 0⟩
def F.OPT_STATUS_BAUD : Fld := ⟨0x100F0000, 4, 3, 0⟩
def F.OPT_STATUS_STATE : Fld := ⟨0x100F0000, 0, 3, 0⟩
def F.OPT_FLAGS_SHOWREQ : Fld := ⟨0x100F0004, 5, 1, 0⟩
def F.OPT_FLAGS_TIMEOUT : Fld := ⟨0x100F0004, 4, 1, 0⟩
def F.OPT_FLAGS_FRMERR : Fld := ⟨0x100F0004, 3, 1, 0⟩
def F.OPT_FLAGS_RELEASE : Fld := ⟨0x100F0004, 2, 1, 0⟩
def F.OPT_FLAGS_ASSOC : Fld := ⟨0x100F0004, 1, 1, 0⟩
def F.OPT_FLAGS_SIGNON : Fld := ⟨0x100F0004, 0, 1, 0⟩
def F.OPT_EVCNT_CLR : Fld := ⟨0x100F0008, 31, 1, 0⟩
def F.OPT_EVCNT_COUNT : Fld := ⟨0x100F0008, 0, 8, 0⟩
def F.OPT_IEN_EN : Fld := ⟨0x100F000C, 0, 6, 0⟩
def F.OPT_FRMERR_CLR : Fld := ⟨0x100F0010, 31, 1, 0⟩
def F.OPT_FRMERR_COUNT : Fld := ⟨0x100F0010, 0, 16, 0⟩
def F.OPT_LENERR_CLR : Fld := ⟨0x100F0014, 31, 1, 0⟩
def F.OPT_LENERR_COUNT : Fld := ⟨0x100F0014, 0, 16, 0⟩
def F.OPT_SESSIONS_ASSOC : Fld := ⟨0x100F0018, 16, 16, 0⟩
def F.OPT_SESSIONS_SIGNON : Fld := ⟨0x100F0018, 0, 16, 0⟩

def regRowsOPT0 : List RegRow := [
  ⟨0x100F0000, 1, 4, [⟨8, 1, .ro, 0⟩, ⟨4, 3, .ro, 0⟩, ⟨0, 3, .ro, 0⟩]⟩,
  ⟨0x100F0004, 1, 4, [⟨5, 1, .w1c, 0⟩, ⟨4, 1, .w1c, 0⟩, ⟨3, 1, .w1c, 0⟩, ⟨2, 1, .w1c, 0⟩, ⟨1, 1, .w1c, 0⟩, ⟨0, 1, .w1c, 0⟩]⟩,
  ⟨0x100F0008, 1, 4, [⟨31, 1, .wo, 0⟩, ⟨0, 8, .ro, 0⟩]⟩,
  ⟨0x100F000C, 1, 4, [⟨0, 6, .rw, 0⟩]⟩,
  ⟨0x100F0010, 1, 4, [⟨31, 1, .wo, 0⟩, ⟨0, 16, .ro, 0⟩]⟩,
  ⟨0x100F0014, 1, 4, [⟨31, 1, .wo, 0⟩, ⟨0, 16, .ro, 0⟩]⟩,
  ⟨0x100F0018, 1, 4, [⟨16, 16, .ro, 0⟩, ⟨0, 16, .ro, 0⟩]⟩]

/-- The registers of the OPT block. -/
def regRowsOPT : List RegRow := regRowsOPT0

/-! ### HFR -/

def F.HFR_CFG_AFI : Fld := ⟨0x10100000, 24, 8, 0⟩
def F.HFR_CFG_CAP : Fld := ⟨0x10100000, 18, 6, 0xa⟩
def F.HFR_CFG_MAXRATE : Fld := ⟨0x10100000, 16, 2, 3⟩
def F.HFR_CFG_SLOTS : Fld := ⟨0x10100000, 13, 3, 2⟩
def F.HFR_CFG_MODB : Fld := ⟨0x10100000, 9, 4, 0xa⟩
def F.HFR_CFG_AUTOTUNE : Fld := ⟨0x10100000, 8, 1, 1⟩
def F.HFR_CFG_TXPWR : Fld := ⟨0x10100000, 0, 8, 0x3c⟩
def F.HFR_CMD_OPCODE : Fld := ⟨0x10100004, 28, 4, 0⟩
def F.HFR_CMD_TYPE : Fld := ⟨0x10100004, 26, 2, 0⟩
def F.HFR_CMD_WUP : Fld := ⟨0x10100004, 25, 1, 0⟩
def F.HFR_CMD_L4 : Fld := ⟨0x10100004, 24, 1, 0⟩
def F.HFR_CMD_NOCRC : Fld := ⟨0x10100004, 23, 1, 0⟩
def F.HFR_CMD_TXBITS : Fld := ⟨0x10100004, 20, 3, 0⟩
def F.HFR_CMD_ARG : Fld := ⟨0x10100004, 10, 8, 0⟩
def F.HFR_CMD_TXLEN : Fld := ⟨0x10100004, 0, 10, 0⟩
def F.HFR_CMDSTAT_BUSY : Fld := ⟨0x10100008, 31, 1, 0⟩
def F.HFR_CMDSTAT_LASTOP : Fld := ⟨0x10100008, 27, 4, 0⟩
def F.HFR_CMDSTAT_OUTCOME : Fld := ⟨0x10100008, 24, 3, 0⟩
def F.HFR_CMDSTAT_RESULT : Fld := ⟨0x10100008, 16, 8, 0⟩
def F.HFR_CMDSTAT_RXBITS : Fld := ⟨0x10100008, 13, 3, 0⟩
def F.HFR_CMDSTAT_RXLEN : Fld := ⟨0x10100008, 0, 10, 0⟩
def F.HFR_STATUS_FWI : Fld := ⟨0x1010000C, 12, 4, 0⟩
def F.HFR_STATUS_DR : Fld := ⟨0x1010000C, 10, 2, 0⟩
def F.HFR_STATUS_DS : Fld := ⟨0x1010000C, 8, 2, 0⟩
def F.HFR_STATUS_TUNELIM : Fld := ⟨0x1010000C, 7, 1, 0⟩
def F.HFR_STATUS_MORE : Fld := ⟨0x1010000C, 6, 1, 0⟩
def F.HFR_STATUS_CTYPE : Fld := ⟨0x1010000C, 4, 2, 0⟩
def F.HFR_STATUS_FIELD : Fld := ⟨0x1010000C, 3, 1, 0⟩
def F.HFR_STATUS_STATE : Fld := ⟨0x1010000C, 0, 3, 0⟩
def F.HFR_FLAGS_DRVFLT : Fld := ⟨0x10100010, 8, 1, 0⟩
def F.HFR_FLAGS_ORIGDONE : Fld := ⟨0x10100010, 7, 1, 0⟩
def F.HFR_FLAGS_WTX : Fld := ⟨0x10100010, 6, 1, 0⟩
def F.HFR_FLAGS_TUNELIM : Fld := ⟨0x10100010, 5, 1, 0⟩
def F.HFR_FLAGS_MORE : Fld := ⟨0x10100010, 4, 1, 0⟩
def F.HFR_FLAGS_CARDNEAR : Fld := ⟨0x10100010, 3, 1, 0⟩
def F.HFR_FLAGS_FIELDLOST : Fld := ⟨0x10100010, 2, 1, 0⟩
def F.HFR_FLAGS_CMDREJ : Fld := ⟨0x10100010, 1, 1, 0⟩
def F.HFR_FLAGS_CMDDONE : Fld := ⟨0x10100010, 0, 1, 0⟩
def F.HFR_CARD_ATQA : Fld := ⟨0x1010001C, 16, 16, 0⟩
def F.HFR_CARD_SAK : Fld := ⟨0x1010001C, 8, 8, 0⟩
def F.HFR_CARD_UIDLEN : Fld := ⟨0x1010001C, 4, 4, 0⟩
def F.HFR_UID_UID (i : Nat) : Fld := ⟨0x10100020 + 4 * i, 0, 32, 0⟩
def F.HFR_ORIG_RESULT : Fld := ⟨0x1010002C, 28, 4, 0⟩
def F.HFR_ORIG_PROFILE : Fld := ⟨0x1010002C, 24, 4, 0⟩
def F.HFR_TUNE_PHASE : Fld := ⟨0x10100030, 8, 8, 0⟩
def F.HFR_TUNE_CTUNE : Fld := ⟨0x10100030, 0, 8, 0x80⟩
def F.HFR_ANT_IANT : Fld := ⟨0x10100034, 16, 16, 0⟩
def F.HFR_ANT_ISET : Fld := ⟨0x10100034, 0, 16, 0⟩
def F.HFR_LPCD_THRESH : Fld := ⟨0x10100038, 16, 8, 0x14⟩
def F.HFR_LPCD_PERIOD : Fld := ⟨0x10100038, 0, 16, 0x12c⟩
def F.HFR_EVCNT_CLR : Fld := ⟨0x10100014, 31, 1, 0⟩
def F.HFR_EVCNT_COUNT : Fld := ⟨0x10100014, 0, 8, 0⟩
def F.HFR_LENERR_CLR : Fld := ⟨0x1010003C, 31, 1, 0⟩
def F.HFR_LENERR_COUNT : Fld := ⟨0x1010003C, 0, 16, 0⟩
def F.HFR_IEN_EN : Fld := ⟨0x10100018, 0, 9, 0⟩
def F.HFR_TXBUF_DATA (i : Nat) : Fld := ⟨0x10100400 + 4 * i, 0, 32, 0⟩
def F.HFR_RXBUF_DATA (i : Nat) : Fld := ⟨0x10100600 + 4 * i, 0, 32, 0⟩
def F.HFR_PROF0_EN (i : Nat) : Fld := ⟨0x10101000 + 256 * i, 31, 1, 0⟩
def F.HFR_PROF0_TYPE (i : Nat) : Fld := ⟨0x10101000 + 256 * i, 29, 2, 0⟩
def F.HFR_PROF0_L4 (i : Nat) : Fld := ⟨0x10101000 + 256 * i, 28, 1, 0⟩
def F.HFR_PROF0_UIDLEN (i : Nat) : Fld := ⟨0x10101000 + 256 * i, 24, 4, 0⟩
def F.HFR_PROF0_SAKVAL (i : Nat) : Fld := ⟨0x10101000 + 256 * i, 16, 8, 0⟩
def F.HFR_PROF0_SAKMASK (i : Nat) : Fld := ⟨0x10101000 + 256 * i, 8, 8, 0⟩
def F.HFR_PROF1_U0VAL (i : Nat) : Fld := ⟨0x10101004 + 256 * i, 24, 8, 0⟩
def F.HFR_PROF1_U0MASK (i : Nat) : Fld := ⟨0x10101004 + 256 * i, 16, 8, 0⟩
def F.HFR_PROF1_SIGOFS (i : Nat) : Fld := ⟨0x10101004 + 256 * i, 8, 8, 0⟩
def F.HFR_PROF1_CMDLEN (i : Nat) : Fld := ⟨0x10101004 + 256 * i, 0, 5, 0⟩
def F.HFR_PROFCMD0_CMD (i : Nat) : Fld := ⟨0x10101008 + 256 * i, 0, 32, 0⟩
def F.HFR_PROFCMD1_CMD (i : Nat) : Fld := ⟨0x1010100C + 256 * i, 0, 32, 0⟩
def F.HFR_PROFCMD2_CMD (i : Nat) : Fld := ⟨0x10101010 + 256 * i, 0, 32, 0⟩
def F.HFR_PROFCMD3_CMD (i : Nat) : Fld := ⟨0x10101014 + 256 * i, 0, 32, 0⟩
def F.HFR_PROFKEY0_KEY (i : Nat) : Fld := ⟨0x10101040 + 256 * i, 0, 32, 0⟩
def F.HFR_PROFKEY1_KEY (i : Nat) : Fld := ⟨0x10101044 + 256 * i, 0, 32, 0⟩
def F.HFR_PROFKEY2_KEY (i : Nat) : Fld := ⟨0x10101048 + 256 * i, 0, 32, 0⟩
def F.HFR_PROFKEY3_KEY (i : Nat) : Fld := ⟨0x1010104C + 256 * i, 0, 32, 0⟩
def F.HFR_PROFKEY4_KEY (i : Nat) : Fld := ⟨0x10101050 + 256 * i, 0, 32, 0⟩
def F.HFR_PROFKEY5_KEY (i : Nat) : Fld := ⟨0x10101054 + 256 * i, 0, 32, 0⟩
def F.HFR_PROFKEY6_KEY (i : Nat) : Fld := ⟨0x10101058 + 256 * i, 0, 32, 0⟩
def F.HFR_PROFKEY7_KEY (i : Nat) : Fld := ⟨0x1010105C + 256 * i, 0, 32, 0⟩
def F.HFR_PROFKEY8_KEY (i : Nat) : Fld := ⟨0x10101060 + 256 * i, 0, 32, 0⟩
def F.HFR_PROFKEY9_KEY (i : Nat) : Fld := ⟨0x10101064 + 256 * i, 0, 32, 0⟩
def F.HFR_PROFKEY10_KEY (i : Nat) : Fld := ⟨0x10101068 + 256 * i, 0, 32, 0⟩
def F.HFR_PROFKEY11_KEY (i : Nat) : Fld := ⟨0x1010106C + 256 * i, 0, 32, 0⟩
def F.HFR_PROFKEY12_KEY (i : Nat) : Fld := ⟨0x10101070 + 256 * i, 0, 32, 0⟩
def F.HFR_PROFKEY13_KEY (i : Nat) : Fld := ⟨0x10101074 + 256 * i, 0, 32, 0⟩
def F.HFR_PROFKEY14_KEY (i : Nat) : Fld := ⟨0x10101078 + 256 * i, 0, 32, 0⟩
def F.HFR_PROFKEY15_KEY (i : Nat) : Fld := ⟨0x1010107C + 256 * i, 0, 32, 0⟩

def regRowsHFR0 : List RegRow := [
  ⟨0x10100000, 1, 4, [⟨24, 8, .rw, 0⟩, ⟨18, 6, .rw, 0xa⟩, ⟨16, 2, .rw, 3⟩, ⟨13, 3, .rw, 2⟩, ⟨9, 4, .rw, 0xa⟩, ⟨8, 1, .rw, 1⟩, ⟨0, 8, .rw, 0x3c⟩]⟩,
  ⟨0x10100004, 1, 4, [⟨28, 4, .wo, 0⟩, ⟨26, 2, .wo, 0⟩, ⟨25, 1, .wo, 0⟩, ⟨24, 1, .wo, 0⟩, ⟨23, 1, .wo, 0⟩, ⟨20, 3, .wo, 0⟩, ⟨10, 8, .wo, 0⟩, ⟨0, 10, .wo, 0⟩]⟩,
  ⟨0x10100008, 1, 4, [⟨31, 1, .ro, 0⟩, ⟨27, 4, .ro, 0⟩, ⟨24, 3, .ro, 0⟩, ⟨16, 8, .ro, 0⟩, ⟨13, 3, .ro, 0⟩, ⟨0, 10, .ro, 0⟩]⟩,
  ⟨0x1010000C, 1, 4, [⟨12, 4, .ro, 0⟩, ⟨10, 2, .ro, 0⟩, ⟨8, 2, .ro, 0⟩, ⟨7, 1, .ro, 0⟩, ⟨6, 1, .ro, 0⟩, ⟨4, 2, .ro, 0⟩, ⟨3, 1, .ro, 0⟩, ⟨0, 3, .ro, 0⟩]⟩,
  ⟨0x10100010, 1, 4, [⟨8, 1, .w1c, 0⟩, ⟨7, 1, .w1c, 0⟩, ⟨6, 1, .w1c, 0⟩, ⟨5, 1, .w1c, 0⟩, ⟨4, 1, .w1c, 0⟩, ⟨3, 1, .w1c, 0⟩, ⟨2, 1, .w1c, 0⟩, ⟨1, 1, .w1c, 0⟩, ⟨0, 1, .w1c, 0⟩]⟩,
  ⟨0x1010001C, 1, 4, [⟨16, 16, .ro, 0⟩, ⟨8, 8, .ro, 0⟩, ⟨4, 4, .ro, 0⟩]⟩,
  ⟨0x10100020, 3, 4, [⟨0, 32, .ro, 0⟩]⟩,
  ⟨0x1010002C, 1, 4, [⟨28, 4, .ro, 0⟩, ⟨24, 4, .ro, 0⟩]⟩,
  ⟨0x10100030, 1, 4, [⟨8, 8, .ro, 0⟩, ⟨0, 8, .ro, 0x80⟩]⟩,
  ⟨0x10100034, 1, 4, [⟨16, 16, .ro, 0⟩, ⟨0, 16, .ro, 0⟩]⟩,
  ⟨0x10100038, 1, 4, [⟨16, 8, .rw, 0x14⟩, ⟨0, 16, .rw, 0x12c⟩]⟩,
  ⟨0x10100014, 1, 4, [⟨31, 1, .wo, 0⟩, ⟨0, 8, .ro, 0⟩]⟩,
  ⟨0x1010003C, 1, 4, [⟨31, 1, .wo, 0⟩, ⟨0, 16, .ro, 0⟩]⟩,
  ⟨0x10100018, 1, 4, [⟨0, 9, .rw, 0⟩]⟩,
  ⟨0x10100400, 128, 4, [⟨0, 32, .rw, 0⟩]⟩,
  ⟨0x10100600, 128, 4, [⟨0, 32, .ro, 0⟩]⟩,
  ⟨0x10101000, 16, 256, [⟨31, 1, .rwl, 0⟩, ⟨29, 2, .rwl, 0⟩, ⟨28, 1, .rwl, 0⟩, ⟨24, 4, .rwl, 0⟩, ⟨16, 8, .rwl, 0⟩, ⟨8, 8, .rwl, 0⟩]⟩,
  ⟨0x10101004, 16, 256, [⟨24, 8, .rwl, 0⟩, ⟨16, 8, .rwl, 0⟩, ⟨8, 8, .rwl, 0⟩, ⟨0, 5, .rwl, 0⟩]⟩,
  ⟨0x10101008, 16, 256, [⟨0, 32, .rwl, 0⟩]⟩,
  ⟨0x1010100C, 16, 256, [⟨0, 32, .rwl, 0⟩]⟩,
  ⟨0x10101010, 16, 256, [⟨0, 32, .rwl, 0⟩]⟩,
  ⟨0x10101014, 16, 256, [⟨0, 32, .rwl, 0⟩]⟩,
  ⟨0x10101040, 16, 256, [⟨0, 32, .rwl, 0⟩]⟩,
  ⟨0x10101044, 16, 256, [⟨0, 32, .rwl, 0⟩]⟩]

def regRowsHFR1 : List RegRow := [
  ⟨0x10101048, 16, 256, [⟨0, 32, .rwl, 0⟩]⟩,
  ⟨0x1010104C, 16, 256, [⟨0, 32, .rwl, 0⟩]⟩,
  ⟨0x10101050, 16, 256, [⟨0, 32, .rwl, 0⟩]⟩,
  ⟨0x10101054, 16, 256, [⟨0, 32, .rwl, 0⟩]⟩,
  ⟨0x10101058, 16, 256, [⟨0, 32, .rwl, 0⟩]⟩,
  ⟨0x1010105C, 16, 256, [⟨0, 32, .rwl, 0⟩]⟩,
  ⟨0x10101060, 16, 256, [⟨0, 32, .rwl, 0⟩]⟩,
  ⟨0x10101064, 16, 256, [⟨0, 32, .rwl, 0⟩]⟩,
  ⟨0x10101068, 16, 256, [⟨0, 32, .rwl, 0⟩]⟩,
  ⟨0x1010106C, 16, 256, [⟨0, 32, .rwl, 0⟩]⟩,
  ⟨0x10101070, 16, 256, [⟨0, 32, .rwl, 0⟩]⟩,
  ⟨0x10101074, 16, 256, [⟨0, 32, .rwl, 0⟩]⟩,
  ⟨0x10101078, 16, 256, [⟨0, 32, .rwl, 0⟩]⟩,
  ⟨0x1010107C, 16, 256, [⟨0, 32, .rwl, 0⟩]⟩]

/-- The registers of the HFR block. -/
def regRowsHFR : List RegRow := regRowsHFR0 ++ regRowsHFR1

/-! ### LCD -/

def F.LCD_STATUS_CHKSHOW : Fld := ⟨0x10110000, 4, 1, 0⟩
def F.LCD_STATUS_CRACK : Fld := ⟨0x10110000, 3, 1, 0⟩
def F.LCD_STATUS_BAND : Fld := ⟨0x10110000, 2, 1, 0⟩
def F.LCD_STATUS_PUMPOK : Fld := ⟨0x10110000, 1, 1, 0⟩
def F.LCD_STATUS_PRESENT : Fld := ⟨0x10110000, 0, 1, 0⟩
def F.LCD_FLAGS_PUMPERR : Fld := ⟨0x10110004, 3, 1, 0⟩
def F.LCD_FLAGS_LEGALWR : Fld := ⟨0x10110004, 2, 1, 0⟩
def F.LCD_FLAGS_CRACK : Fld := ⟨0x10110004, 1, 1, 0⟩
def F.LCD_FLAGS_MEAS : Fld := ⟨0x10110004, 0, 1, 0⟩
def F.LCD_CFG_VLCD : Fld := ⟨0x10110010, 24, 8, 0⟩
def F.LCD_CFG_FRATE : Fld := ⟨0x10110010, 16, 8, 0⟩
def F.LCD_CFG_INVERT : Fld := ⟨0x10110010, 14, 2, 0⟩
def F.LCD_CFG_BIAS : Fld := ⟨0x10110010, 13, 1, 0⟩
def F.LCD_CFG_BILLMASK : Fld := ⟨0x10110010, 4, 4, 0⟩
def F.LCD_CRACK_RES : Fld := ⟨0x10110014, 0, 17, 0x1ffff⟩
def F.LCD_BANDCTL_EN : Fld := ⟨0x10110018, 0, 1, 0⟩
def F.LCD_SEG_SEG (i : Nat) : Fld := ⟨0x10110040 + 4 * i, 0, 32, 0⟩
def F.LCD_LMASK_MASK (i : Nat) : Fld := ⟨0x10110080 + 4 * i, 0, 32, 0⟩
def F.LCD_BAND_SEG (i : Nat) : Fld := ⟨0x101100C0 + 4 * i, 0, 32, 0⟩
def F.LCD_EVCNT_CLR : Fld := ⟨0x10110008, 31, 1, 0⟩
def F.LCD_EVCNT_COUNT : Fld := ⟨0x10110008, 0, 8, 0⟩
def F.LCD_IEN_EN : Fld := ⟨0x1011000C, 0, 4, 0⟩

def regRowsLCD0 : List RegRow := [
  ⟨0x10110000, 1, 4, [⟨4, 1, .ro, 0⟩, ⟨3, 1, .ro, 0⟩, ⟨2, 1, .ro, 0⟩, ⟨1, 1, .ro, 0⟩, ⟨0, 1, .ro, 0⟩]⟩,
  ⟨0x10110004, 1, 4, [⟨3, 1, .w1c, 0⟩, ⟨2, 1, .w1c, 0⟩, ⟨1, 1, .w1c, 0⟩, ⟨0, 1, .w1c, 0⟩]⟩,
  ⟨0x10110010, 1, 4, [⟨24, 8, .ro, 0⟩, ⟨16, 8, .ro, 0⟩, ⟨14, 2, .ro, 0⟩, ⟨13, 1, .ro, 0⟩, ⟨4, 4, .ro, 0⟩]⟩,
  ⟨0x10110014, 1, 4, [⟨0, 17, .ro, 0x1ffff⟩]⟩,
  ⟨0x10110018, 1, 4, [⟨0, 1, .rw, 0⟩]⟩,
  ⟨0x10110040, 16, 4, [⟨0, 32, .rw, 0⟩]⟩,
  ⟨0x10110080, 16, 4, [⟨0, 32, .ro, 0⟩]⟩,
  ⟨0x101100C0, 4, 4, [⟨0, 32, .rw, 0⟩]⟩,
  ⟨0x10110008, 1, 4, [⟨31, 1, .wo, 0⟩, ⟨0, 8, .ro, 0⟩]⟩,
  ⟨0x1011000C, 1, 4, [⟨0, 4, .rw, 0⟩]⟩]

/-- The registers of the LCD block. -/
def regRowsLCD : List RegRow := regRowsLCD0

/-! ### LCH -/

def F.LCH_STATUS_VSLOAD : Fld := ⟨0x10120000, 16, 16, 0⟩
def F.LCH_STATUS_BANKENF : Fld := ⟨0x10120000, 3, 1, 0⟩
def F.LCH_STATUS_BANKCAP : Fld := ⟨0x10120000, 2, 1, 0⟩
def F.LCH_STATUS_UV : Fld := ⟨0x10120000, 1, 1, 0⟩
def F.LCH_STATUS_PRESENT : Fld := ⟨0x10120000, 0, 1, 0⟩
def F.LCH_FLAGS_OWNREJ : Fld := ⟨0x10120004, 27, 1, 0⟩
def F.LCH_FLAGS_CLRREF : Fld := ⟨0x10120004, 26, 1, 0⟩
def F.LCH_FLAGS_WINCUT : Fld := ⟨0x10120004, 25, 1, 0⟩
def F.LCH_FLAGS_BANKENF : Fld := ⟨0x10120004, 24, 1, 0⟩
def F.LCH_FLAGS_UVBACK : Fld := ⟨0x10120004, 23, 1, 0⟩
def F.LCH_FLAGS_UV : Fld := ⟨0x10120004, 22, 1, 0⟩
def F.LCH_FLAGS_SHORTVS : Fld := ⟨0x10120004, 21, 1, 0⟩
def F.LCH_FLAGS_OPENLD : Fld := ⟨0x10120004, 20, 1, 0⟩
def F.LCH_FLAGS_RETRYEX : Fld := ⟨0x10120004, 19, 1, 0⟩
def F.LCH_FLAGS_CLAMPE : Fld := ⟨0x10120004, 18, 1, 0⟩
def F.LCH_FLAGS_FWMISS : Fld := ⟨0x10120004, 17, 1, 0⟩
def F.LCH_FLAGS_THERM : Fld := ⟨0x10120004, 16, 1, 0⟩
def F.LCH_FLAGS_OC : Fld := ⟨0x10120004, 0, 16, 0⟩
def F.LCH_EVCNT_CLR : Fld := ⟨0x10120008, 31, 1, 0⟩
def F.LCH_EVCNT_COUNT : Fld := ⟨0x10120008, 0, 8, 0⟩
def F.LCH_IEN_EN : Fld := ⟨0x1012000C, 0, 28, 0⟩
def F.LCH_BANK_ISUM : Fld := ⟨0x10120010, 16, 16, 0⟩
def F.LCH_BANK_TIMER : Fld := ⟨0x10120010, 0, 16, 0⟩
def F.LCH_SNSSEL_EN : Fld := ⟨0x10120014, 4, 1, 0⟩
def F.LCH_SNSSEL_CH : Fld := ⟨0x10120014, 0, 4, 0⟩
def F.LCH_GTEMP_GROUP : Fld := ⟨0x10120018, 0, 32, 0⟩
def F.LCH_CTRL_LCLR (i : Nat) : Fld := ⟨0x10120100 + 16 * i, 1, 1, 0⟩
def F.LCH_CTRL_EN (i : Nat) : Fld := ⟨0x10120100 + 16 * i, 0, 1, 0⟩
def F.LCH_SENSE_CODE (i : Nat) : Fld := ⟨0x10120104 + 16 * i, 0, 12, 0xfff⟩
def F.LCH_STAT_TJ (i : Nat) : Fld := ⟨0x10120108 + 16 * i, 24, 8, 0⟩
def F.LCH_STAT_DT (i : Nat) : Fld := ⟨0x10120108 + 16 * i, 16, 8, 0⟩
def F.LCH_STAT_RETRY (i : Nat) : Fld := ⟨0x10120108 + 16 * i, 12, 4, 0⟩
def F.LCH_STAT_RETRYEX (i : Nat) : Fld := ⟨0x10120108 + 16 * i, 11, 1, 0⟩
def F.LCH_STAT_LATCH (i : Nat) : Fld := ⟨0x10120108 + 16 * i, 10, 1, 0⟩
def F.LCH_STAT_INRUSH (i : Nat) : Fld := ⟨0x10120108 + 16 * i, 9, 1, 0⟩
def F.LCH_STAT_LIMIT (i : Nat) : Fld := ⟨0x10120108 + 16 * i, 8, 1, 0⟩
def F.LCH_STAT_BANKLIM (i : Nat) : Fld := ⟨0x10120108 + 16 * i, 7, 1, 0⟩
def F.LCH_STAT_WINCUT (i : Nat) : Fld := ⟨0x10120108 + 16 * i, 6, 1, 0⟩
def F.LCH_STAT_OWNER (i : Nat) : Fld := ⟨0x10120108 + 16 * i, 5, 1, 0⟩
def F.LCH_STAT_ON (i : Nat) : Fld := ⟨0x10120108 + 16 * i, 4, 1, 0⟩
def F.LCH_STAT_LCODE (i : Nat) : Fld := ⟨0x10120108 + 16 * i, 0, 4, 0⟩
def F.LCH_CFG_TINR (i : Nat) : Fld := ⟨0x1012010C + 16 * i, 23, 9, 0⟩
def F.LCH_CFG_IINR (i : Nat) : Fld := ⟨0x1012010C + 16 * i, 13, 10, 0⟩
def F.LCH_CFG_ILIM (i : Nat) : Fld := ⟨0x1012010C + 16 * i, 4, 9, 0⟩
def F.LCH_CFG_RETRYMAX (i : Nat) : Fld := ⟨0x1012010C + 16 * i, 0, 4, 0⟩

def regRowsLCH0 : List RegRow := [
  ⟨0x10120000, 1, 4, [⟨16, 16, .ro, 0⟩, ⟨3, 1, .ro, 0⟩, ⟨2, 1, .ro, 0⟩, ⟨1, 1, .ro, 0⟩, ⟨0, 1, .ro, 0⟩]⟩,
  ⟨0x10120004, 1, 4, [⟨27, 1, .w1c, 0⟩, ⟨26, 1, .w1c, 0⟩, ⟨25, 1, .w1c, 0⟩, ⟨24, 1, .w1c, 0⟩, ⟨23, 1, .w1c, 0⟩, ⟨22, 1, .w1c, 0⟩, ⟨21, 1, .w1c, 0⟩, ⟨20, 1, .w1c, 0⟩, ⟨19, 1, .w1c, 0⟩, ⟨18, 1, .w1c, 0⟩, ⟨17, 1, .w1c, 0⟩, ⟨16, 1, .w1c, 0⟩, ⟨0, 16, .w1c, 0⟩]⟩,
  ⟨0x10120008, 1, 4, [⟨31, 1, .wo, 0⟩, ⟨0, 8, .ro, 0⟩]⟩,
  ⟨0x1012000C, 1, 4, [⟨0, 28, .rw, 0⟩]⟩,
  ⟨0x10120010, 1, 4, [⟨16, 16, .ro, 0⟩, ⟨0, 16, .ro, 0⟩]⟩,
  ⟨0x10120014, 1, 4, [⟨4, 1, .rw, 0⟩, ⟨0, 4, .rw, 0⟩]⟩,
  ⟨0x10120018, 1, 4, [⟨0, 32, .ro, 0⟩]⟩,
  ⟨0x10120100, 16, 16, [⟨1, 1, .wo, 0⟩, ⟨0, 1, .rw, 0⟩]⟩,
  ⟨0x10120104, 16, 16, [⟨0, 12, .ro, 0xfff⟩]⟩,
  ⟨0x10120108, 16, 16, [⟨24, 8, .ro, 0⟩, ⟨16, 8, .ro, 0⟩, ⟨12, 4, .ro, 0⟩, ⟨11, 1, .ro, 0⟩, ⟨10, 1, .ro, 0⟩, ⟨9, 1, .ro, 0⟩, ⟨8, 1, .ro, 0⟩, ⟨7, 1, .ro, 0⟩, ⟨6, 1, .ro, 0⟩, ⟨5, 1, .ro, 0⟩, ⟨4, 1, .ro, 0⟩, ⟨0, 4, .ro, 0⟩]⟩,
  ⟨0x1012010C, 16, 16, [⟨23, 9, .ro, 0⟩, ⟨13, 10, .ro, 0⟩, ⟨4, 9, .ro, 0⟩, ⟨0, 4, .ro, 0⟩]⟩]

/-- The registers of the LCH block. -/
def regRowsLCH : List RegRow := regRowsLCH0

/-! ### KEY -/

def F.KEY_STATUS_MFGKEY : Fld := ⟨0x10130000, 24, 8, 0⟩
def F.KEY_STATUS_JOBLVL : Fld := ⟨0x10130000, 4, 4, 0⟩
def F.KEY_STATUS_HWKEYS : Fld := ⟨0x10130000, 3, 1, 0⟩
def F.KEY_STATUS_DBGREF : Fld := ⟨0x10130000, 2, 1, 0⟩
def F.KEY_STATUS_RNGFAIL : Fld := ⟨0x10130000, 1, 1, 0⟩
def F.KEY_STATUS_RNGOK : Fld := ⟨0x10130000, 0, 1, 0⟩
def F.KEY_FLAGS_RNGFAIL : Fld := ⟨0x10130004, 5, 1, 0⟩
def F.KEY_FLAGS_RNGSRC : Fld := ⟨0x10130004, 4, 1, 0⟩
def F.KEY_FLAGS_SLOTDONE : Fld := ⟨0x10130004, 3, 1, 0⟩
def F.KEY_FLAGS_POLICY : Fld := ⟨0x10130004, 2, 1, 0⟩
def F.KEY_FLAGS_JOBERR : Fld := ⟨0x10130004, 1, 1, 0⟩
def F.KEY_FLAGS_JOBDONE : Fld := ⟨0x10130004, 0, 1, 0⟩
def F.KEY_SLOTCMD_BUSY : Fld := ⟨0x10130020, 31, 1, 0⟩
def F.KEY_SLOTCMD_OP : Fld := ⟨0x10130020, 28, 3, 0⟩
def F.KEY_SLOTCMD_SLOT : Fld := ⟨0x10130020, 22, 6, 0⟩
def F.KEY_SLOTCMD_TYPE : Fld := ⟨0x10130020, 18, 4, 0⟩
def F.KEY_SLOTCMD_POLICY : Fld := ⟨0x10130020, 13, 5, 0⟩
def F.KEY_SLOTCMD_LEN : Fld := ⟨0x10130020, 6, 7, 0⟩
def F.KEY_SLOTCMD_RESULT : Fld := ⟨0x10130020, 0, 6, 0⟩
def F.KEY_RNG_RND : Fld := ⟨0x10130024, 0, 32, 0⟩
def F.KEY_SWEEP_PASSES : Fld := ⟨0x10130028, 0, 32, 0⟩
def F.KEY_SLOTDATA_DATA (i : Nat) : Fld := ⟨0x10130040 + 4 * i, 0, 32, 0⟩
def F.KEY_SLOTPOL_LEN (i : Nat) : Fld := ⟨0x10130100 + 4 * i, 9, 7, 0⟩
def F.KEY_SLOTPOL_HW (i : Nat) : Fld := ⟨0x10130100 + 4 * i, 8, 1, 0⟩
def F.KEY_SLOTPOL_TYPE (i : Nat) : Fld := ⟨0x10130100 + 4 * i, 4, 4, 0⟩
def F.KEY_IDPUB_KEY (i : Nat) : Fld := ⟨0x10130400 + 4 * i, 0, 32, 0⟩
def F.KEY_IDEND_SIG (i : Nat) : Fld := ⟨0x10130440 + 4 * i, 0, 32, 0⟩
def F.KEY_ATCERT_CERT (i : Nat) : Fld := ⟨0x10130500 + 4 * i, 0, 32, 0⟩
def F.KEY_BRCERT_CERT (i : Nat) : Fld := ⟨0x10130600 + 4 * i, 0, 32, 0⟩
def F.KEY_EVCNT_CLR : Fld := ⟨0x10130008, 31, 1, 0⟩
def F.KEY_EVCNT_COUNT : Fld := ⟨0x10130008, 0, 8, 0⟩
def F.KEY_LENERR_CLR : Fld := ⟨0x1013002C, 31, 1, 0⟩
def F.KEY_LENERR_COUNT : Fld := ⟨0x1013002C, 0, 16, 0⟩
def F.KEY_IEN_EN : Fld := ⟨0x1013000C, 0, 6, 0⟩
def F.KEY_RING_BASE_BASE : Fld := ⟨0x10130010, 0, 32, 0⟩
def F.KEY_RING_CTL_EN : Fld := ⟨0x10130014, 31, 1, 0⟩
def F.KEY_RING_CTL_SIZE : Fld := ⟨0x10130014, 0, 4, 0⟩
def F.KEY_RING_IDX_IDX : Fld := ⟨0x10130018, 0, 10, 0⟩
def F.KEY_SLOTPOLX_POLICY (i : Nat) : Fld := ⟨0x10130300 + 4 * i, 0, 5, 0⟩

def regRowsKEY0 : List RegRow := [
  ⟨0x10130000, 1, 4, [⟨24, 8, .ro, 0⟩, ⟨4, 4, .ro, 0⟩, ⟨3, 1, .ro, 0⟩, ⟨2, 1, .ro, 0⟩, ⟨1, 1, .ro, 0⟩, ⟨0, 1, .ro, 0⟩]⟩,
  ⟨0x10130004, 1, 4, [⟨5, 1, .w1c, 0⟩, ⟨4, 1, .w1c, 0⟩, ⟨3, 1, .w1c, 0⟩, ⟨2, 1, .w1c, 0⟩, ⟨1, 1, .w1c, 0⟩, ⟨0, 1, .w1c, 0⟩]⟩,
  ⟨0x10130020, 1, 4, [⟨31, 1, .ro, 0⟩, ⟨28, 3, .wo, 0⟩, ⟨22, 6, .wo, 0⟩, ⟨18, 4, .wo, 0⟩, ⟨13, 5, .wo, 0⟩, ⟨6, 7, .wo, 0⟩, ⟨0, 6, .ro, 0⟩]⟩,
  ⟨0x10130024, 1, 4, [⟨0, 32, .ro, 0⟩]⟩,
  ⟨0x10130028, 1, 4, [⟨0, 32, .ro, 0⟩]⟩,
  ⟨0x10130040, 16, 4, [⟨0, 32, .wo, 0⟩]⟩,
  ⟨0x10130100, 64, 4, [⟨9, 7, .ro, 0⟩, ⟨8, 1, .ro, 0⟩, ⟨4, 4, .ro, 0⟩]⟩,
  ⟨0x10130400, 16, 4, [⟨0, 32, .ro, 0⟩]⟩,
  ⟨0x10130440, 16, 4, [⟨0, 32, .ro, 0⟩]⟩,
  ⟨0x10130500, 44, 4, [⟨0, 32, .ro, 0⟩]⟩,
  ⟨0x10130600, 44, 4, [⟨0, 32, .ro, 0⟩]⟩,
  ⟨0x10130008, 1, 4, [⟨31, 1, .wo, 0⟩, ⟨0, 8, .ro, 0⟩]⟩,
  ⟨0x1013002C, 1, 4, [⟨31, 1, .wo, 0⟩, ⟨0, 16, .ro, 0⟩]⟩,
  ⟨0x1013000C, 1, 4, [⟨0, 6, .rw, 0⟩]⟩,
  ⟨0x10130010, 1, 4, [⟨0, 32, .rw, 0⟩]⟩,
  ⟨0x10130014, 1, 4, [⟨31, 1, .rw, 0⟩, ⟨0, 4, .rw, 0⟩]⟩,
  ⟨0x10130018, 1, 4, [⟨0, 10, .ro, 0⟩]⟩,
  ⟨0x10130300, 64, 4, [⟨0, 5, .ro, 0⟩]⟩]

/-- The registers of the KEY block. -/
def regRowsKEY : List RegRow := regRowsKEY0

/-! ### FWU -/

def F.FWU_STATUS_DBGON : Fld := ⟨0x10140000, 11, 1, 0⟩
def F.FWU_STATUS_STAGED : Fld := ⟨0x10140000, 8, 3, 0⟩
def F.FWU_STATUS_UNCONF : Fld := ⟨0x10140000, 5, 3, 0⟩
def F.FWU_STATUS_ACTIVE : Fld := ⟨0x10140000, 2, 3, 0⟩
def F.FWU_STATUS_ACT : Fld := ⟨0x10140000, 0, 2, 0⟩
def F.FWU_FLAGS_CMDDONE : Fld := ⟨0x10140004, 5, 1, 0⟩
def F.FWU_FLAGS_ACTMISS : Fld := ⟨0x10140004, 4, 1, 0⟩
def F.FWU_FLAGS_ACTCANCEL : Fld := ⟨0x10140004, 3, 1, 0⟩
def F.FWU_FLAGS_ACTGO : Fld := ⟨0x10140004, 2, 1, 0⟩
def F.FWU_FLAGS_TRIALOK : Fld := ⟨0x10140004, 1, 1, 0⟩
def F.FWU_FLAGS_FALLBACK : Fld := ⟨0x10140004, 0, 1, 0⟩
def F.FWU_EVCNT_CLR : Fld := ⟨0x10140008, 31, 1, 0⟩
def F.FWU_EVCNT_COUNT : Fld := ⟨0x10140008, 0, 8, 0⟩
def F.FWU_IEN_EN : Fld := ⟨0x1014000C, 0, 6, 0⟩
def F.FWU_CMD_OPCODE : Fld := ⟨0x10140010, 28, 4, 0⟩
def F.FWU_CMD_ARG : Fld := ⟨0x10140010, 0, 4, 0⟩
def F.FWU_CMDSTAT_BUSY : Fld := ⟨0x10140014, 16, 1, 0⟩
def F.FWU_CMDSTAT_RESULT : Fld := ⟨0x10140014, 8, 8, 0⟩
def F.FWU_CMDSTAT_LASTOP : Fld := ⟨0x10140014, 0, 4, 0⟩
def F.FWU_SVCNT_LAY : Fld := ⟨0x10140018, 16, 6, 0⟩
def F.FWU_SVCNT_LEG : Fld := ⟨0x10140018, 8, 6, 0⟩
def F.FWU_SVCNT_APP : Fld := ⟨0x10140018, 0, 7, 0⟩
def F.FWU_SVRUN_LAY : Fld := ⟨0x1014001C, 16, 6, 0⟩
def F.FWU_SVRUN_LEG : Fld := ⟨0x1014001C, 8, 6, 0⟩
def F.FWU_SVRUN_APP : Fld := ⟨0x1014001C, 0, 7, 0⟩
def F.FWU_PROG_DONE : Fld := ⟨0x10140020, 16, 16, 0⟩
def F.FWU_PROG_TOTAL : Fld := ⟨0x10140020, 0, 16, 0⟩
def F.FWU_ROOT_MASK : Fld := ⟨0x10140028, 4, 12, 0⟩
def F.FWU_ROOT_REV : Fld := ⟨0x10140028, 0, 4, 0⟩
def F.FWU_ACTCFG_ACTID : Fld := ⟨0x10140030, 16, 16, 0⟩
def F.FWU_ACTCFG_CLASSMASK : Fld := ⟨0x10140030, 0, 3, 0⟩
def F.FWU_ACTEARLO_EARLIEST : Fld := ⟨0x10140034, 0, 32, 0⟩
def F.FWU_ACTEARHI_EARLIEST : Fld := ⟨0x10140038, 0, 32, 0⟩
def F.FWU_ACTLATELO_LATEST : Fld := ⟨0x1014003C, 0, 32, 0⟩
def F.FWU_ACTLATEHI_LATEST : Fld := ⟨0x10140040, 0, 32, 0⟩
def F.FWU_ACTRSTLO_RESTART : Fld := ⟨0x10140044, 0, 32, 0⟩
def F.FWU_ACTRSTHI_RESTART : Fld := ⟨0x10140048, 0, 32, 0⟩
def F.FWU_ACTMEM_MEMBERS (i : Nat) : Fld := ⟨0x10140050 + 4 * i, 0, 32, 0⟩
def F.FWU_DBG_ROOT : Fld := ⟨0x10140058, 0, 2, 1⟩
def F.FWU_DBGCHAL_CHAL (i : Nat) : Fld := ⟨0x10140060 + 4 * i, 0, 32, 0⟩
def F.FWU_DATA_DATA (i : Nat) : Fld := ⟨0x10140080 + 4 * i, 0, 32, 0⟩
def F.FWU_MEAS_DIGEST (i : Nat) : Fld := ⟨0x10140100 + 4 * i, 0, 32, 0⟩
def F.FWU_LENERR_CLR : Fld := ⟨0x10140024, 31, 1, 0⟩
def F.FWU_LENERR_COUNT : Fld := ⟨0x10140024, 0, 16, 0⟩

def regRowsFWU0 : List RegRow := [
  ⟨0x10140000, 1, 4, [⟨11, 1, .ro, 0⟩, ⟨8, 3, .ro, 0⟩, ⟨5, 3, .ro, 0⟩, ⟨2, 3, .ro, 0⟩, ⟨0, 2, .ro, 0⟩]⟩,
  ⟨0x10140004, 1, 4, [⟨5, 1, .w1c, 0⟩, ⟨4, 1, .w1c, 0⟩, ⟨3, 1, .w1c, 0⟩, ⟨2, 1, .w1c, 0⟩, ⟨1, 1, .w1c, 0⟩, ⟨0, 1, .w1c, 0⟩]⟩,
  ⟨0x10140008, 1, 4, [⟨31, 1, .wo, 0⟩, ⟨0, 8, .ro, 0⟩]⟩,
  ⟨0x1014000C, 1, 4, [⟨0, 6, .rw, 0⟩]⟩,
  ⟨0x10140010, 1, 4, [⟨28, 4, .wo, 0⟩, ⟨0, 4, .wo, 0⟩]⟩,
  ⟨0x10140014, 1, 4, [⟨16, 1, .ro, 0⟩, ⟨8, 8, .ro, 0⟩, ⟨0, 4, .ro, 0⟩]⟩,
  ⟨0x10140018, 1, 4, [⟨16, 6, .ro, 0⟩, ⟨8, 6, .ro, 0⟩, ⟨0, 7, .ro, 0⟩]⟩,
  ⟨0x1014001C, 1, 4, [⟨16, 6, .ro, 0⟩, ⟨8, 6, .ro, 0⟩, ⟨0, 7, .ro, 0⟩]⟩,
  ⟨0x10140020, 1, 4, [⟨16, 16, .ro, 0⟩, ⟨0, 16, .ro, 0⟩]⟩,
  ⟨0x10140028, 1, 4, [⟨4, 12, .ro, 0⟩, ⟨0, 4, .ro, 0⟩]⟩,
  ⟨0x10140030, 1, 4, [⟨16, 16, .rw, 0⟩, ⟨0, 3, .rw, 0⟩]⟩,
  ⟨0x10140034, 1, 4, [⟨0, 32, .rw, 0⟩]⟩,
  ⟨0x10140038, 1, 4, [⟨0, 32, .rw, 0⟩]⟩,
  ⟨0x1014003C, 1, 4, [⟨0, 32, .rw, 0⟩]⟩,
  ⟨0x10140040, 1, 4, [⟨0, 32, .rw, 0⟩]⟩,
  ⟨0x10140044, 1, 4, [⟨0, 32, .ro, 0⟩]⟩,
  ⟨0x10140048, 1, 4, [⟨0, 32, .ro, 0⟩]⟩,
  ⟨0x10140050, 2, 4, [⟨0, 32, .rw, 0⟩]⟩,
  ⟨0x10140058, 1, 4, [⟨0, 2, .rwl, 1⟩]⟩,
  ⟨0x10140060, 4, 4, [⟨0, 32, .ro, 0⟩]⟩,
  ⟨0x10140080, 8, 4, [⟨0, 32, .rw, 0⟩]⟩,
  ⟨0x10140100, 64, 4, [⟨0, 32, .ro, 0⟩]⟩,
  ⟨0x10140024, 1, 4, [⟨31, 1, .wo, 0⟩, ⟨0, 16, .ro, 0⟩]⟩]

/-- The registers of the FWU block. -/
def regRowsFWU : List RegRow := regRowsFWU0

/-! ### SIO -/

def F.SIO_IN_STATE : Fld := ⟨0x10150000, 0, 24, 0⟩
def F.SIO_TEST_TESTOK : Fld := ⟨0x10150004, 0, 24, 0⟩
def F.SIO_DISC_DISC : Fld := ⟨0x10150008, 0, 24, 0⟩
def F.SIO_OUT_OUT : Fld := ⟨0x1015000C, 0, 16, 0⟩
def F.SIO_FLAGS_GUARDDISC : Fld := ⟨0x10150010, 4, 1, 0⟩
def F.SIO_FLAGS_SOOC : Fld := ⟨0x10150010, 3, 1, 0⟩
def F.SIO_FLAGS_SOFAULT : Fld := ⟨0x10150010, 2, 1, 0⟩
def F.SIO_FLAGS_INDIS : Fld := ⟨0x10150010, 1, 1, 0⟩
def F.SIO_FLAGS_TPFAIL : Fld := ⟨0x10150010, 0, 1, 0⟩
def F.SIO_EVCNT_CLR : Fld := ⟨0x10150014, 31, 1, 0⟩
def F.SIO_EVCNT_COUNT : Fld := ⟨0x10150014, 0, 8, 0⟩
def F.SIO_IEN_EN : Fld := ⟨0x10150018, 0, 5, 0⟩

def regRowsSIO0 : List RegRow := [
  ⟨0x10150000, 1, 4, [⟨0, 24, .ro, 0⟩]⟩,
  ⟨0x10150004, 1, 4, [⟨0, 24, .ro, 0⟩]⟩,
  ⟨0x10150008, 1, 4, [⟨0, 24, .ro, 0⟩]⟩,
  ⟨0x1015000C, 1, 4, [⟨0, 16, .ro, 0⟩]⟩,
  ⟨0x10150010, 1, 4, [⟨4, 1, .w1c, 0⟩, ⟨3, 1, .w1c, 0⟩, ⟨2, 1, .w1c, 0⟩, ⟨1, 1, .w1c, 0⟩, ⟨0, 1, .w1c, 0⟩]⟩,
  ⟨0x10150014, 1, 4, [⟨31, 1, .wo, 0⟩, ⟨0, 8, .ro, 0⟩]⟩,
  ⟨0x10150018, 1, 4, [⟨0, 5, .rw, 0⟩]⟩]

/-- The registers of the SIO block. -/
def regRowsSIO : List RegRow := regRowsSIO0

/-! ### PER -/

def F.PER_POSTAT_EP : Fld := ⟨0x1016F000, 8, 8, 0⟩
def F.PER_POSTAT_POL : Fld := ⟨0x1016F000, 1, 1, 0⟩
def F.PER_POSTAT_DIR : Fld := ⟨0x1016F000, 0, 1, 0⟩
def F.PER_POK_K : Fld := ⟨0x1016F004, 0, 17, 0⟩
def F.PER_POCNT_COUNT : Fld := ⟨0x1016F008, 0, 32, 0⟩
def F.PER_POBACK_COUNT : Fld := ⟨0x1016F00C, 0, 32, 0⟩
def F.PER_PICFG_EN (i : Nat) : Fld := ⟨0x1016F010 + 4 * i, 9, 1, 0⟩
def F.PER_PICFG_ACT (i : Nat) : Fld := ⟨0x1016F010 + 4 * i, 8, 1, 1⟩
def F.PER_PICFG_MINW (i : Nat) : Fld := ⟨0x1016F010 + 4 * i, 0, 8, 0x28⟩
def F.PER_PICNT_COUNT (i : Nat) : Fld := ⟨0x1016F020 + 4 * i, 0, 32, 0⟩
def F.PER_EVCNT_CLR : Fld := ⟨0x10160804, 31, 1, 0⟩
def F.PER_EVCNT_COUNT : Fld := ⟨0x10160804, 0, 8, 0⟩
def F.PER_IEN_EN : Fld := ⟨0x10160808, 0, 8, 0⟩
def F.PER_FLAGS_IDLE1 : Fld := ⟨0x10160800, 7, 1, 0⟩
def F.PER_FLAGS_RXERR1 : Fld := ⟨0x10160800, 6, 1, 0⟩
def F.PER_FLAGS_TXEMPTY1 : Fld := ⟨0x10160800, 5, 1, 0⟩
def F.PER_FLAGS_RXAVAIL1 : Fld := ⟨0x10160800, 4, 1, 0⟩
def F.PER_FLAGS_IDLE0 : Fld := ⟨0x10160800, 3, 1, 0⟩
def F.PER_FLAGS_RXERR0 : Fld := ⟨0x10160800, 2, 1, 0⟩
def F.PER_FLAGS_TXEMPTY0 : Fld := ⟨0x10160800, 1, 1, 0⟩
def F.PER_FLAGS_RXAVAIL0 : Fld := ⟨0x10160800, 0, 1, 0⟩
def F.UA_CFG_EN (i : Nat) : Fld := ⟨0x10160000 + 256 * i, 31, 1, 0⟩
def F.UA_CFG_IDLE (i : Nat) : Fld := ⟨0x10160000 + 256 * i, 16, 8, 4⟩
def F.UA_CFG_DELAY (i : Nat) : Fld := ⟨0x10160000 + 256 * i, 12, 4, 1⟩
def F.UA_CFG_GUARD (i : Nat) : Fld := ⟨0x10160000 + 256 * i, 8, 4, 1⟩
def F.UA_CFG_BITS (i : Nat) : Fld := ⟨0x10160000 + 256 * i, 6, 2, 3⟩
def F.UA_CFG_PAR (i : Nat) : Fld := ⟨0x10160000 + 256 * i, 4, 2, 0⟩
def F.UA_CFG_STOP2 (i : Nat) : Fld := ⟨0x10160000 + 256 * i, 3, 1, 0⟩
def F.UA_BAUD_DIV (i : Nat) : Fld := ⟨0x10160004 + 256 * i, 0, 32, 0⟩
def F.UA_STAT_RXLVL (i : Nat) : Fld := ⟨0x10160008 + 256 * i, 24, 8, 0⟩
def F.UA_STAT_TXLVL (i : Nat) : Fld := ⟨0x10160008 + 256 * i, 16, 8, 0⟩
def F.UA_STAT_ERRCNT (i : Nat) : Fld := ⟨0x10160008 + 256 * i, 0, 16, 0⟩
def F.UA_DATA_FERR (i : Nat) : Fld := ⟨0x1016000C + 256 * i, 9, 1, 0⟩
def F.UA_DATA_PERR (i : Nat) : Fld := ⟨0x1016000C + 256 * i, 8, 1, 0⟩
def F.UA_DATA_DATA (i : Nat) : Fld := ⟨0x1016000C + 256 * i, 0, 8, 0⟩

def regRowsPER0 : List RegRow := [
  ⟨0x1016F000, 1, 4, [⟨8, 8, .ro, 0⟩, ⟨1, 1, .ro, 0⟩, ⟨0, 1, .ro, 0⟩]⟩,
  ⟨0x1016F004, 1, 4, [⟨0, 17, .ro, 0⟩]⟩,
  ⟨0x1016F008, 1, 4, [⟨0, 32, .ro, 0⟩]⟩,
  ⟨0x1016F00C, 1, 4, [⟨0, 32, .ro, 0⟩]⟩,
  ⟨0x1016F010, 4, 4, [⟨9, 1, .rw, 0⟩, ⟨8, 1, .rw, 1⟩, ⟨0, 8, .rw, 0x28⟩]⟩,
  ⟨0x1016F020, 4, 4, [⟨0, 32, .rw, 0⟩]⟩,
  ⟨0x10160804, 1, 4, [⟨31, 1, .wo, 0⟩, ⟨0, 8, .ro, 0⟩]⟩,
  ⟨0x10160808, 1, 4, [⟨0, 8, .rw, 0⟩]⟩,
  ⟨0x10160800, 1, 4, [⟨7, 1, .w1c, 0⟩, ⟨6, 1, .w1c, 0⟩, ⟨5, 1, .w1c, 0⟩, ⟨4, 1, .w1c, 0⟩, ⟨3, 1, .w1c, 0⟩, ⟨2, 1, .w1c, 0⟩, ⟨1, 1, .w1c, 0⟩, ⟨0, 1, .w1c, 0⟩]⟩,
  ⟨0x10160000, 2, 256, [⟨31, 1, .rw, 0⟩, ⟨16, 8, .rw, 4⟩, ⟨12, 4, .rw, 1⟩, ⟨8, 4, .rw, 1⟩, ⟨6, 2, .rw, 3⟩, ⟨4, 2, .rw, 0⟩, ⟨3, 1, .rw, 0⟩]⟩,
  ⟨0x10160004, 2, 256, [⟨0, 32, .rw, 0⟩]⟩,
  ⟨0x10160008, 2, 256, [⟨24, 8, .ro, 0⟩, ⟨16, 8, .ro, 0⟩, ⟨0, 16, .ro, 0⟩]⟩,
  ⟨0x1016000C, 2, 256, [⟨9, 1, .ro, 0⟩, ⟨8, 1, .ro, 0⟩, ⟨0, 8, .rw, 0⟩]⟩]

/-- The registers of the PER block. -/
def regRowsPER : List RegRow := regRowsPER0

/-- The registers of the block with the index of R29. -/
def regRowsOf (block : Nat) : List RegRow :=
  match block with
  | 0 => regRowsSYS
  | 1 => regRowsRST
  | 2 => regRowsPWR
  | 3 => regRowsCLK
  | 4 => regRowsTMP
  | 5 => regRowsBRD
  | 6 => regRowsSAF
  | 7 => regRowsOUT
  | 8 => regRowsMTX
  | 9 => regRowsMTR
  | 10 => regRowsBIL
  | 11 => regRowsVEH
  | 12 => regRowsNET
  | 13 => regRowsLEA
  | 14 => regRowsYRD
  | 15 => regRowsOPT
  | 16 => regRowsHFR
  | 17 => regRowsLCD
  | 18 => regRowsLCH
  | 19 => regRowsKEY
  | 20 => regRowsFWU
  | 21 => regRowsSIO
  | 22 => regRowsPER
  | _ => []

/-- Whether the row holds the register at `a`. -/
def RegRow.has (r : RegRow) (a : Nat) : Bool :=
  decide (r.base ≤ a) && decide ((a - r.base) % r.stride = 0) && decide ((a - r.base) / r.stride < r.count)

/-- The fields of the register documented at address `a`; `none` where no register is documented (R26). -/
def regFields (a : Nat) : Option (List FldRow) :=
  ((regRowsOf ((a - 0x10000000) / 0x10000)).find? (fun r => r.has a)).map (·.fields)

/-- The field of a row, placed at the register's address. -/
def FldRow.at (f : FldRow) (a : Nat) : Fld := ⟨a, f.lo, f.width, f.rst⟩

end Sys2Proof.Machine
end

