-- ==== Sys2Proof/Machine/Tbl.lean ====
section
/-!
DEFINITION. Sparse tables by key in one canonical form: keys strictly rising, and no entry equal to what an unlisted
key reads as. The register file, DRAM and the boot flash are held so, and equal contents are equal lists.
-/

namespace Sys2Proof.Machine

/-- A sparse table. -/
abbrev Tbl (α : Type) := List (Nat × α)

/-- What key `k` holds; `d` where it is not listed. -/
def Tbl.get {α : Type} : Tbl α → Nat → α → α
  | [], _, d => d
  | (j, v) :: t, k, d => if j = k then v else Tbl.get t k d

/-- The table with key `k` set to `v`, in key order. -/
def Tbl.insert {α : Type} : Tbl α → Nat → α → Tbl α
  | [], k, v => [(k, v)]
  | (j, x) :: t, k, v =>
    if k < j then (k, v) :: (j, x) :: t
    else if k = j then (k, v) :: t
    else (j, x) :: Tbl.insert t k v

/-- The table without key `k`. -/
def Tbl.erase {α : Type} : Tbl α → Nat → Tbl α
  | [], _ => []
  | (j, x) :: t, k => if j = k then Tbl.erase t k else (j, x) :: Tbl.erase t k

/-- The write: the entry is removed where `v` is what an unlisted key reads as. -/
def Tbl.put {α : Type} [DecidableEq α] (m : Tbl α) (k : Nat) (v d : α) : Tbl α :=
  if v = d then Tbl.erase m k else Tbl.insert m k v

/-- Keys strictly rising, every one above `lo` where a bound is given. -/
def Tbl.risingFrom {α : Type} : Option Nat → Tbl α → Bool
  | _, [] => true
  | none, (k, _) :: t => Tbl.risingFrom (some k) t
  | some lo, (k, _) :: t => decide (lo < k) && Tbl.risingFrom (some k) t

/-- Keys strictly rising. -/
def Tbl.rising {α : Type} (m : Tbl α) : Bool := Tbl.risingFrom none m

/-- No entry equal to the default. -/
def Tbl.tight {α : Type} [DecidableEq α] (d : α) (m : Tbl α) : Bool := m.all (fun p => decide (p.2 ≠ d))

/-! ### Byte memories -/

/-- A byte memory: address and byte pairs in the canonical form. -/
abbrev Mem := Tbl Byte

/-- What an unlisted DRAM byte reads as (DESIGN CHOICE, log entry 2: the spec states no contents after power-on). -/
def dramBlank : Byte := 0

/-- What an unlisted byte of the boot flash reads as: an erased NOR flash (PRESUMED, log entry 2). -/
def flashBlank : Byte := 0xFF

/-- The canonical form of a byte memory whose unlisted bytes read `d`. -/
def Mem.wf (d : Byte) (m : Mem) : Bool := Tbl.rising m && Tbl.tight d m

/-- `n` bytes from address `a`. -/
def Mem.read (d : Byte) (m : Mem) (a n : Nat) : Bytes := (List.range n).map (fun k => Tbl.get m (a + k) d)

/-- The memory with the bytes `b` stored from address `a`. -/
def Mem.write (d : Byte) : Mem → Nat → Bytes → Mem
  | m, _, [] => m
  | m, a, x :: t => Mem.write d (Tbl.put m a x d) (a + 1) t

end Sys2Proof.Machine
end

