-- ==== Sys2Proof/Machine/State.lean ====
section
/-!
DEFINITION. The state of the block as plain data: every register, queue, buffer, counter, mode and pin spec/ gives it,
the commands waiting, and the state right after reset. A register field whose home is a register stands in `regs`
(Machine/Regs.lean names the fields); state the spec gives a meaning of its own stands in the structures below, and the
bus computes the register that shows it (Machine/Bus.lean).
-/

namespace Sys2Proof.Machine

/-- Why the block stops with a fault: it has no constructor, because no command of the spec leaves the block without a
next state (a fault of the spec is a flag, a cause or an error response, which are state). -/
inductive Fault where
  deriving DecidableEq, Repr

/-- Why the block refuses a command. -/
inductive Refusal where
  /-- A command without a meaning in this model, by its mnemonic. Raised by the dispatch alone. Safe. -/
  | notModelled (mnemonic : String)
  /-- An access to the interrupt controller and core-local timers at 0x0C00_0000, whose registers the spec does not
  give. Raised by the bus. Safe: the hardware goes on. -/
  | interruptController
  deriving DecidableEq, Repr

/-! ### Tempo and chain time (03) -/

/-- TMP_STATUS.MODE. -/
inductive TmpMode where
  | free | coord | locked | slew | holdover
  deriving DecidableEq, Repr

/-- The tempo unit: the tempo count, chain time with its carried fraction (R67), which duties completed in the running
tempo (R61), and the SYNC bookkeeping of R73–R78 and R332. -/
structure TmpState where
  /-- tempos since the last reset; the matrix port's tempo count -/
  now : Nat
  /-- tempos run, that is the layout is loaded, SAFE is powered and clock HOLD is not in force -/
  running : Bool
  /-- the edge that begins the first tempo after the layout load has come (R54, R91) -/
  begun : Bool
  /-- the first tempo after the layout load (Board source FIRST) -/
  first : Bool
  /-- chain time at the most recent edge, ns -/
  chain : Nat
  /-- the part of chain time below 1 ns, carried from tempo to tempo (R67), in units of 2⁻¹⁶ ÷ 10,000 ns -/
  frac : Nat
  /-- cycles of the running tempo: 10,000 but for realignment (R54) -/
  len : Nat
  /-- SAFE cycles from the layout load to the most recent edge -/
  cyc : Nat
  /-- duty codes completed in the running tempo, and the cycle at which the last one on SAFE and on METER finished (R58) -/
  ran : List Nat
  finS : Nat
  finM : Nat
  mode : TmpMode
  /-- SYNC frames missed in a row (R75) -/
  missed : Nat
  /-- a TIME or BUDGET frame arrived in the running tempo -/
  gotTime : Bool
  /-- the first SYNC since reset has been adopted (R73) -/
  adopted : Bool
  /-- a measured link delay has replaced CABLEDLY (R73) -/
  measured : Bool
  /-- the chain time the coordinator's SYNC gives, kept while a step waits for idle outlets (R78) -/
  stepTo : Option Int
  /-- that step is taken at the next edge -/
  stepDue : Bool
  /-- the realignment under way ends a HOLDOVER (R77) -/
  back : Bool
  /-- own DREQ: sequence and send time (R332) -/
  dreqSeq : Nat
  dreqT1 : Nat
  /-- last DREQ received on LD: its sequence and arrival time (R332) -/
  ldDreqSeq : Nat
  ldDreqAt : Nat
  /-- tempo of the last NET_PTPOFS write (R365) -/
  ptpAt : Option Nat
  /-- the part of the phase error, ns, that realignment has still to remove after the running tempo (R71, R76, R77) -/
  perr : Int
  /-- chain time and RTC count from which the coordinator follows the RTC (R68) -/
  rtcRef : Option (Nat × Nat)
  /-- the step of chain time taken in the running tempo by the adoption of the first SYNC, ns (R73, R255) -/
  adoptStep : Int
  deriving DecidableEq, Repr

/-! ### The Board (04) -/

/-- One square timer: the trigger of the previous move, the done output, and the tempo in which timing started with the
SAFE cycle count at that tempo's edge (R99). -/
structure BTimer where
  trig : Bool
  done : Bool
  start : Option (Nat × Nat)
  deriving DecidableEq, Repr

/-- The dynamic state of one square: cells and flip-flops, timers, counter and comparator (R97–R101). -/
structure Square where
  c : Nat
  q : Nat
  t0 : BTimer
  t1 : BTimer
  cnt : Nat
  up : Bool
  down : Bool
  tc : Bool
  cin : Bool
  cabove : Bool
  cstale : Bool
  deriving DecidableEq, Repr

/-- What a move computes: the squares it read and the next states, in the encoding of the move, and the output map. -/
structure Move where
  sq : List Square
  /-- one bit per target of R102 -/
  map : Nat
  deriving DecidableEq, Repr

/-- The Board: square states, targets in effect, the moves of the running tempo, and the scrub and mismatch marks that the
edge acts on (R105, R107, R108). -/
structure BrdState where
  sq : Vector Square 64
  tgt : Nat
  mv : Option Move
  mvc : Option Move
  /-- COMPARE agreed: the targets of this tempo, still to take effect -/
  agreed : Option Nat
  mismatch : Bool
  /-- the previous tempo's moves disagreed (R105) -/
  mismatchPrev : Bool
  /-- SCRUB found a CRC or ECC error in this tempo (R107) -/
  scrubBad : Bool
  /-- the cycle at which MOVE_TRUE began in the running tempo (R58, R99) -/
  start : Nat
  deriving DecidableEq, Repr

/-! ### Measurement streams (04) -/

/-- One measurement stream: its value and the tempo of its last update. -/
structure Stream where
  val : Int
  stamp : Option Nat
  deriving DecidableEq, Repr

/-! ### Coils and the matrix port (06) -/

/-- One coil: the command staged for the next edge, the command in effect since the last one, the drive in effect since a tempo,
the tempo of an opening commanded in CHECK (R169), and its wear counters (R164). -/
structure Coil where
  cmd : Bool
  eff : Bool
  /-- the opening under way counts as a hard break whatever the current (R128, R139, R196) -/
  hard : Bool
  drive : Bool
  since : Nat
  checkOpen : Option Nat
  sw : Nat
  /-- I²t at break in mA²·ms, shown in A²·ms (R164) -/
  i2t : Nat
  /-- the counters changed since they were last handed to the sealed core -/
  dirty : Bool
  deriving DecidableEq, Repr

/-! ### Outlets (05) -/

/-- The states of R117, in the order of their codes. -/
inductive OutSt where
  | idle | plugged | authWait | negotiate | cableCheck | precharge | energy | rampDown | weldCheck | unlock | faulted | oos
  deriving DecidableEq, Repr

/-- Bus request kinds (R110), in the order of their codes. -/
inductive ReqKind where
  | release | test | precharge | energy | hold
  deriving DecidableEq, Repr

/-- The steps of the weld check (R133). -/
inductive WeldStep where
  | off | settle | evWait | discharge | passed | failed
  deriving DecidableEq, Repr

/-- What the lock actuator is driven to. -/
inductive LockCmd where
  | none | lock | unlock
  deriving DecidableEq, Repr

/-- A session event for the sealed core (R140). -/
inductive SessEv where
  | opened | started | ended | closed
  deriving DecidableEq, Repr

/-- One outlet sequencer (R109): its state and timers, the request and authorisation latches with their frozen copies, the
pilot confirmation, and its outputs. Currents are in 1/20 of 0.1 A, so that a ramp of RAMP × 0.1 A/ms moves RAMP units
per tempo. -/
structure Outlet where
  st : OutSt
  /-- tempo of the last state change -/
  since : Nat
  latch : Bool
  emerg : Bool
  /-- tempo from which T_ZC counts -/
  emergAt : Nat
  pause : Bool
  pauseAt : Nat
  pcmatch : Bool
  ccdone : Bool
  diract : Bool
  /-- accepted AUTH state (R115), and whether EPOCH_OK was 1 when it was set (R103) -/
  auth : Bool
  authEpoch : Bool
  /-- AUTH of the last OUTn_CTRL write of this tempo; a revocation counted at the last edge -/
  authW : Option Bool
  revoked : Bool
  reqLatch : Nat
  reqFrz : Nat
  /-- EVOPEN as frozen, held for the session once it counts; written since the last edge (R55, R56) -/
  evopen : Bool
  evopenW : Bool
  /-- IMAX, VMAX, VTARGET, DIR and BIDIR as frozen (R55, R109), BIDIR as it stood when REQ ENERGY was accepted (R136), and the
  tempo of the last OUTn_LIMIT write -/
  imaxF : Nat
  vmaxF : Nat
  vtF : Nat
  dirF : Bool
  bidirF : Bool
  bidirOk : Bool
  wdAt : Nat
  armed : Bool
  /-- confirmed pilot state as frozen and as confirmed last (R109), the last decision and how often it came in a row -/
  pilot : Pilot
  pilotN : Pilot
  pLast : Pilot
  pRun : Nat
  /-- PROX_OK as frozen and as decided last -/
  proxOk : Bool
  proxN : Bool
  /-- pilot state C has been confirmed, and the applied limit has reached 6.0 A, in this ENERGY -/
  sawC : Bool
  six : Bool
  applied : Nat
  bind : Nat
  budgetBound : Bool
  duty : Nat
  lock : LockCmd
  lockAt : Option Nat
  aux : Bool
  /-- ISO_OK(n); a failed measurement or trip holds it at 0 until IDLE (R125, R196) -/
  isoOk : Bool
  isoHeld : Bool
  /-- the fluxgate test of this session has passed (R198); a residual-current trip holds until IDLE (R196) -/
  rcTested : Bool
  rcTrip : Bool
  /-- tempo since which the current magnitude has been below 2 A -/
  lowSince : Option Nat
  weld : WeldStep
  weldAt : Nat
  /-- KP or KN had been closed in this session -/
  hadClosed : Bool
  /-- a PFW has come since the emergency path began: T_ZC is 10 ms (R130) -/
  zc10 : Bool
  /-- tempo of the last sample of the outlet voltage above 60 V (R133; log entry 171) -/
  hvAt : Option Nat
  session : Bool
  /-- the bus request last computed -/
  rkind : ReqKind
  rvolt : Nat
  rcur : Nat
  holdV : Nat
  perm : Nat
  /-- OUTn_CAUSE.CODE and INSTATE, and whether the cause belongs to an earlier session (R132) -/
  cause : Nat
  inState : Nat
  causeOld : Bool
  /-- what the evaluation of this tempo leaves for the edge: flags of OUTn_FLAGS by bit, a REJ reason, a bus request to send at
  once, the start and the stop of the insulation cycle, the end of a session, and session events (R57, R140) -/
  pend : Nat
  rejP : Option Nat
  reqNow : Bool
  isoStart : Bool
  isoStop : Bool
  ended : Bool
  sev : List SessEv
  /-- TEST is sent, FKP and FKN having confirmed (R124) -/
  ccTest : Bool
  /-- energy has started in this session (R140) -/
  energised : Bool
  /-- tempo of the last evaluation (R109) -/
  seqAt : Option Nat
  deriving DecidableEq, Repr

/-! ### The power-sharing matrix (06) -/

/-- The operation a power group is in: the steps of R148 and the migration table; each with the tempo its step began. -/
inductive GStep where
  | none | rampDown | open_ | weldChk | vmatch | close | rampUp | checkOpen | pinned
  deriving DecidableEq, Repr

/-- One power group as the controller knows it: its operation, its last status and its share. -/
structure Group where
  /-- crosspoint commanded or confirmed closed -/
  xp : Option Nat
  step : GStep
  stepAt : Nat
  src : Nat
  dst : Option Nat
  mig : Bool
  /-- commanded limit, 0.1 A, and the tempo since which it is 0 -/
  limit : Nat
  zeroSince : Option Nat
  lowSince : Option Nat
  mode : Nat
  vset : Nat
  share : Nat
  /-- balancing trim and integrator, 0.1 A (R152), and how long the trim has been at its bound -/
  trim : Rat
  integ : Rat
  satSince : Option Nat
  satFlag : Bool
  /-- last accepted status -/
  stamp : Option Nat
  gstate : Nat
  fclass : Nat
  pavail : Nat
  vout : Nat
  iout : Int
  ownCnt : Option Nat
  lost : Bool
  goodRun : Nat
  barUntil : Nat
  deriving DecidableEq, Repr

/-- One bus: the last request of its POST and the allocator's figures. -/
structure BusSt where
  kind : Option ReqKind
  stamp : Nat
  volt : Nat
  cur : Nat
  exporting : Bool
  prevCur : Nat
  need : Nat
  excess : Nat
  holdN : Nat
  grant : Nat
  deriving DecidableEq, Repr

/-- A command frame as sent on a power-group CAN bus: identifier, CAN FD, bit-rate switching, data (R156). -/
structure PgFrame where
  id : Nat
  fd : Bool
  brs : Bool
  data : Bytes
  deriving DecidableEq, Repr

/-- The matrix controller and the matrix port. -/
structure MtxState where
  coil : Vector Coil 64
  fb : Nat
  grp : Vector Group 16
  /-- the groups as they stood at the last edge (R62) -/
  grpF : Vector Group 16
  bus : Vector BusSt 8
  xpWeld : Nat
  /-- command frames sent per CAN bus, modulo 16 above 16 (R156), the last frame sent on each, and its tempo -/
  alive : Vector Nat 2
  lastCmd : Vector (Option PgFrame) 2
  sentAt : Vector (Option Nat) 2
  /-- the words sent on MX_DOC and on MX_DOF in the last exchange, the first one first (R161) -/
  doc : List Nat
  dof : List Nat
  /-- tempo of the last 1 ms division of the bus currents -/
  msAt : Option Nat
  migDone : Nat
  consec : Nat
  /-- MX_STB is withheld at the next edge (R163) -/
  withhold : Bool
  /-- commands applied at the preceding edge, for the readback check -/
  applied : Nat
  /-- edges in a row without a strobe (R163) -/
  noStrobe : Nat
  serNew : Option Nat
  deriving DecidableEq, Repr

/-! ### Safety (07) -/

/-- A record for the persist channel (R11): the bytes of one complete record, its CRC last, by the area it names. -/
inductive PersistRec where
  | proof (b : Bytes)
  | wear (b : Bytes)
  deriving DecidableEq, Repr


/-- The safety states of R167, in the order of their codes. -/
inductive SafSt where
  | run | check | mate
  deriving DecidableEq, Repr

/-- The guard pair (R185). -/
inductive GuardPair where
  | closed | open_ | discrepant
  deriving DecidableEq, Repr

/-- One safety input: the accepted state, the state kept during its own test pulse, disagreement, and its test count. -/
structure SIn where
  acc : Bool
  /-- accepted state before the running pulse of its own source, until 20 µs after it (R177) -/
  kept : Option Bool
  disc : Bool
  testOk : Bool
  passes : Nat
  deriving DecidableEq, Repr

/-- One safety output (R181–R184): latched off, off for overcurrent, and its dark tests. -/
structure SOut where
  act : Bool
  /-- what was commanded in the previous tempo (R10) -/
  prev : Bool
  latch : Bool
  oc : Bool
  /-- the target has been 0 since the overcurrent -/
  ocSeen0 : Bool
  /-- tempo from which the output has been energised, and the tempos of its last dark-test pulses since then (R183) -/
  onAt : Nat
  darkHi : Option Nat
  darkLo : Option Nat
  deriving DecidableEq, Repr

/-- An entry of an event queue (R205, R294). -/
structure Ev where
  time : Nat
  source : Nat
  code : Nat
  data : Nat
  deriving DecidableEq, Repr

/-- A command waiting in a mailbox: opcode and payload. -/
structure MbCmd where
  op : Nat
  len : Nat
  payload : Bytes
  deriving DecidableEq, Repr

/-- Insulation monitor phases (R190). -/
inductive IsoPhase where
  | off | idle | p | n
  deriving DecidableEq, Repr

/-- One insulation monitor (R190–R194). -/
structure IsoMon where
  run : Bool
  phase : IsoPhase
  /-- tempo of the phase relay's confirmed closing -/
  confAt : Option Nat
  dwellP : Nat
  dwellN : Nat
  nextP : Nat
  nextN : Nat
  /-- fitted time constant of the phase, µs -/
  tau : Nat
  extrap : Bool
  /-- the running phase takes its final value by extrapolation (R191) -/
  phx : Bool
  bad : Bool
  /-- U+ and U− at the end of phase P, mV -/
  pPos : Int
  pNeg : Int
  invRun : Nat
  /-- a result waiting for the next edge: `none` inside when invalid -/
  result : Option (Option Nat)
  deriving DecidableEq, Repr

/-- The safety controller. -/
structure SafState where
  st : SafSt
  /-- tempo of entry into the present state -/
  since : Nat
  /-- MATE as held in AON (R168), and whether it was carried over a reset -/
  held : Bool
  kept : Bool
  hold : Bool
  bistOk : Bool
  /-- conditions (code, data) present in this tempo and in the previous one (R173) -/
  cur : List (Nat × Nat)
  prev : List (Nat × Nat)
  /-- what the causes of this tempo demand at the edge: the cause that takes the module to CHECK or MATE -/
  toCheck : Option Nat
  toMate : Option Nat
  /-- CHECKACK or a safety reset takes the module to RUN at the edge -/
  toRun : Bool
  resetPulse : Bool
  resetPulseNext : Bool
  evq : List Ev
  /-- records waiting for the persist channel (R11) -/
  outbox : List PersistRec
  mbox : List MbCmd
  mbRan : Bool
  /-- tempo of the previous SAFERESET attempt and of the last challenge change -/
  lastTry : Option Nat
  chalAt : Nat
  /-- a verified token waiting for the self-test: its ACTION bits -/
  tokenWait : Option Nat
  /-- an acknowledgement accepted in this tempo, to take effect at the edge unless a new cause comes (R171): whether it is
  CHECKACK, and the ACTION bits of the token -/
  ack : Option (Bool × Nat)
  /-- the program-flow signature register, one checkpoint per completed duty -/
  flow : Nat
  pair : GuardPair
  /-- tempo since which the guard inputs read equal -/
  eqSince : Option Nat
  gStep : Nat
  gOpenAt : Nat
  /-- the proof records as delivered by the sealed core: SEQ, TIME and digest match -/
  proofSeq : Nat
  /-- SEQ of the last proof record and of the last wear copy formed (R164, R187) -/
  proofMade : Nat
  wearMade : Nat
  proofTime : Nat
  proofDig : Option Bytes
  guardOk : Bool
  due : Bool
  /-- residual current: recent 1 ms average, and per tier the tempos since the average reached it and fell below 90 % -/
  rcSum : Int
  rcCnt : Nat
  rcAvg : Nat
  /-- the load channels whose reported state differed from their command (R10) -/
  lcDiff : Nat
  /-- the tempo from which land FGT drives the test winding for an outlet (R198) -/
  fgt : Vector (Option Nat) 4
  /-- the width in µs of a pulse that runs on TPk (R178) -/
  tpLow : Vector (Option Nat) 8
  rcUp : Vector (Option Nat) 3
  rcLow : Vector (Option Nat) 3
  iso : Vector IsoMon 4
  sin : Vector SIn 24
  sout : Vector SOut 4
  /-- die temperatures, 0.01 °C -/
  dieT : Vector Int 2
  /-- rails outside their window -/
  railsBad : List Nat
  /-- an OVERTEMP cause has come since RUN -/
  overT : Bool
  deriving DecidableEq, Repr

/-- The values frozen at the edge for the tempo that runs (R55). -/
structure Frozen where
  si : Nat
  test : Nat
  strm : Vector Stream 64
  site : Nat
  shareImp : Nat
  shareExp : Nat
  /-- a STOP frozen as a TRIP_CHECK demand (R345): 0x40 + ORIGIN -/
  stop : Option Nat
  deriving DecidableEq, Repr
/-! ### Lead links, the string, the yard line, networking (11) -/

/-- A Lead frame waiting on a port: its type, whether it is being forwarded, and its bytes, header and body (R335). -/
structure LeadFrame where
  typ : Nat
  fwd : Bool
  bytes : Bytes
  deriving DecidableEq, Repr

/-- One bus's grant as received (R343). -/
structure Grant where
  kw : Nat
  volt : Nat
  groups : Nat
  stamp : Option Nat
  deriving DecidableEq, Repr

/-- What the coordinator keeps of one address (R346). -/
structure Node where
  serial : Option Nat
  seen : Option Nat
  state : Nat
  staged : Nat
  xfer : Nat
  deriving DecidableEq, Repr

/-- What one port still has to send of a transfer: manifest bytes sent, block and offset next to send, and the block and
offset of a block sent again (R349, R350). -/
structure Pump where
  man : Nat
  block : Nat
  off : Nat
  resend : Option (Nat × Nat)
  deriving DecidableEq, Repr

/-- A transfer of image blocks (R349, R350). -/
structure Xfer where
  id : Nat
  cls : Nat
  manLen : Nat
  imgLen : Nat
  manDig : Bytes
  /-- manifest bytes received, and whether the whole manifest matched its SM3 -/
  manGot : Nat
  manOk : Bool
  /-- bytes of the next block received, verified blocks, and NAKs of that block -/
  got : Nat
  /-- the block has been asked for again and has not begun -/
  wait : Bool
  done : Nat
  naks : Nat
  failed : Bool
  complete : Bool
  /-- the local module is the origin -/
  origin : Bool
  lu : Option Pump
  ld : Option Pump
  deriving DecidableEq, Repr

/-- A USER frame in a queue: source or destination, receipt time, data (R351). -/
structure UserMsg where
  addr : Nat
  time : Nat
  data : Bytes
  deriving DecidableEq, Repr

/-- The Lead links. -/
structure LeaState where
  luUp : Bool
  ldUp : Bool
  byp : Bool
  naddr : Nat
  segHead : Bool
  addrHeld : Bool
  /-- own address, held in AON (R339); 0 unaddressed -/
  addr : Nat
  /-- next SEQ per frame type (0x1–0x7) -/
  seq : Vector Nat 8
  luTx : List LeadFrame
  ldTx : List LeadFrame
  /-- tempo of the last accepted BUDGET, its values, and those waiting for the next edge (R342) -/
  budAt : Option Nat
  site : Nat
  siteExp : Nat
  shareImp : Nat
  shareExp : Nat
  budNext : Option (Nat × Nat × Nat × Nat)
  /-- BUDSTALE has been set for the present absence -/
  budStale : Bool
  bseq : Nat
  /-- tempos in which the coordinator still sends BUDGET for a register write (R333) -/
  budRepeat : Nat
  grant : Vector Grant 8
  /-- a bus request or grant that must leave in the next tempo (R110, R150) -/
  busReqNow : Bool
  grantNow : Bool
  /-- the tempo of the last bus requests, and of the last grants (R343) -/
  reqAt : Option Nat
  grantAt : Option Nat
  /-- last STOPSEQ acted on, per origin (R345); own STOPSEQ; a received STOP waiting for the edge -/
  stopSeen : Tbl Nat
  stopSeq : Nat
  stopIn : Option Nat
  stopWrite : Bool
  mateStop : Bool
  /-- epoch agreement (R346–R348) -/
  expSeq : Nat
  expTaken : Option Nat
  expGot : Bool
  beaconAt : Option Nat
  mmRun : Nat
  ylDiff : Nat
  mismatch : Bool
  /-- tempos without TIME or BUDGET on LU (R341) -/
  luSilent : Nat
  nodes : Vector Node 64
  enumAt : Nat
  /-- highest address answered since the last OFFER -/
  enumHigh : Nat
  /-- the last express or cut-through frame sent on each port -/
  luCut : Option Bytes
  ldCut : Option Bytes
  /-- the FCS sent with them (R337) -/
  luFcs : Nat
  ldFcs : Nat
  /-- the DATA frame of the last tempo on each port -/
  luData : Option Bytes
  ldData : Option Bytes
  statAt : Nat
  xfer : Option Xfer
  lastXfer : Nat
  lastBlocks : Nat
  userRx : List UserMsg
  deriving DecidableEq, Repr

/-- A yard-line message waiting or received. -/
structure YrdMsg where
  addr : Nat
  typ : Nat
  data : Bytes
  deriving DecidableEq, Repr

/-- The yard line (R352–R360). -/
structure YrdState where
  naddr : Nat
  win : Nat
  /-- cycle number k, and whether a beacon with POLL clear has given it since window timing was acquired (R354) -/
  cyc : Nat
  acq : Bool
  sawCyc : Bool
  lost : Bool
  nozc : Bool
  /-- the beacon of this cycle has been decoded; beacons missed in a row -/
  seen0 : Bool
  miss : Nat
  /-- coordinator: a serial waiting to be polled; this cycle's beacon carries POLL; the module itself is polled (R359) -/
  poll : Option Nat
  pollCyc : Bool
  pollMe : Bool
  seq : Nat
  nak : Nat
  /-- last frame sent, and that it must be sent again (R357) -/
  last : Option Bytes
  resend : Bool
  /-- STOP bodies to send, with the windows left for each (R360) -/
  stops : List (Bytes × Nat)
  txq : List YrdMsg
  rxq : List YrdMsg
  /-- quiet energies of the last 16 windows (R356) -/
  quiet : List Nat
  /-- an expected-digest prefix has been received by beacon -/
  gotBeacon : Bool
  /-- the codeword sent in the present window (R355) -/
  sent : Option Bytes
  deriving DecidableEq, Repr

/-- A switch address-table entry (R363): address, VLAN, port, and the tempo it was last seen. -/
structure SwEntry where
  mac : Nat
  vlan : Nat
  port : Nat
  at_ : Nat
  deriving DecidableEq, Repr

/-- A frame held in packet memory: egress port and priority queue, its bytes without FCS, ingress port and chain time,
whether it is an IEEE 1588 event message, and whether its transmit timestamp is asked for (R364). -/
structure SwFrame where
  port : Nat
  prio : Nat
  bytes : Bytes
  src : Nat
  at_ : Nat
  event : Bool
  stamp : Bool
  deriving DecidableEq, Repr

/-- The switch (R363–R365): address table, packet memory, ring indices of the internal port, last frame sent on SG0, SG1. -/
structure NetState where
  table : List SwEntry
  queue : List SwFrame
  txIdx : Nat
  rxIdx : Nat
  sent : Vector Bytes 2
  deriving DecidableEq, Repr

/-- One UART (R366): FIFOs of (character, parity error, framing error) and plain characters, the driver enable, and what
the transmitter still has to wait, in 2⁻⁸ cycles of 200 MHz, with whether the guard time has begun. -/
structure Uart where
  rx : List (Nat × Bool × Bool)
  tx : List Nat
  de : Bool
  wait : Nat
  guard_ : Bool
  /-- the bits of the last character put on the line, first bit first: start, data, parity, stop -/
  line : List Bool
  deriving DecidableEq, Repr
/-! ### Metering (08) -/

/-- The pilot tracking of one channel: tracked gain and accepted blocks (R224), G_P as computed and as applied (R218), the
run lengths behind LOST, NOISY and BOUND (R223–R226), and the running sums of the block (R222). -/
structure PilTrack where
  g : Rat
  k : Nat
  gNew : Rat
  gP : Rat
  discard : Nat
  lost : Bool
  bound : Bool
  noisy : Bool
  /-- accepted blocks in a row above, and at or below, MAXSD; and inside ±19,000 ppm -/
  hi : Nat
  lo : Nat
  inside : Nat
  /-- predicted deviation, ppm -/
  sd : Nat
  /-- the block holds an OVR or DEAD output, an IRC tempo, or a tempo without an output -/
  bad : Bool
  n : Nat
  sy : Rat
  sr : Rat
  sky : Rat
  skr : Rat
  syy : Rat
  syr : Rat
  srr : Rat
  deriving DecidableEq, Repr

/-- One pilot line PILk (R219, R221): the chips of the running second still to come by value, the outputs that the chip on the land
still lasts, the chip on the land (released for 0), the chips of the last outputs and what the chain model makes of them,
newest first. -/
structure PilLine where
  plus : Nat
  minus : Nat
  zero : Nat
  hold : Nat
  cur : Int
  hist : List Int
  mdl : List Int
  deriving DecidableEq, Repr

/-- The neutral sum of one energy point (R245): the running second, the last whole second, SUMERR, and the tempo since which the
sum is at or below its limit. -/
structure SumSt where
  sq : Nat
  n : Nat
  ms : Nat
  err : Bool
  ok : Option Nat
  deriving DecidableEq, Repr

/-- One metering channel. -/
structure Chan where
  dead : Bool
  /-- decimator outputs in a row that each contained transitions (R208) -/
  run : Nat
  ovr : Bool
  /-- outputs of FIR2, newest first, before the phase stage (R210) -/
  fir : List Int
  /-- the corrected value y, in the channel unit, and as MTR_VALc holds it -/
  y : Rat
  val : Int
  /-- G_T and D_T in 2⁻⁸ ppm and 2⁻⁸ ns -/
  gT : Int
  dT : Int
  /-- last temperature reading, its arrival, and the temperature in use, 0.01 °C -/
  temp : Int
  tempAt : Option Nat
  tempUse : Int
  tstale : Bool
  trange : Bool
  /-- tempo since which the temperature has been back in range -/
  back : Option Nat
  /-- recent values of an AC channel, newest first, and the mean square over the last mains cycle, in 2⁻⁸ units -/
  hist : List Int
  ms : Nat
  pil : PilTrack
  deriving DecidableEq, Repr

/-- An energy increment: chain time of the edges that begin and end its output's tempo, energy point, export, clock-degraded, µWh
(R63, R233). -/
structure Inc where
  at_ : Nat
  edge : Nat
  ep : Nat
  exp : Bool
  deg : Bool
  uwh : Nat
  deriving DecidableEq, Repr

/-- A grid event under way: type and extreme value in 0.1 % of UNOM, start in chain time (R243). -/
structure GridEv where
  typ : Nat
  start : Nat
  ext : Nat
  deriving DecidableEq, Repr

/-- The metering engine. -/
structure MtrState where
  chan : Vector Chan 16
  /-- readings of the I²C temperature sensors (R22) -/
  i2c : Vector Stream 8
  /-- the sensors read in the running chain-time second -/
  i2cMask : Nat
  /-- outputs completed in the running tempo, channels that delivered one, and whether the clock ran from IRC in it -/
  outs : Nat
  got : Nat
  irc : Bool
  pend : List Inc
  /-- carried fractions per energy point and direction, 2⁻³² µWh (R229) -/
  frac : Vector Nat 16
  power : Vector Int 8
  creep : Vector Bool 8
  deg : Vector Bool 8
  deadT : Vector Nat 8
  /-- energy points on which a metering fault was seen since the last BOOK (R238), and the fault code last raised -/
  faultSeen : Nat
  faultCode : Nat
  /-- chain-time second in which G_T and G_P were last applied, and in which the last pilot blocks ended (R218, R222) -/
  tabSec : Option Nat
  blkSec : Option Nat
  /-- the running tempo is the first of a chain-time second (R218) -/
  secNew : Bool
  /-- the chain-time second for which chips were drawn last, and the pilot lines (R219, R221) -/
  drawSec : Option Nat
  pil : Vector PilLine 4
  /-- capture records written -/
  capN : Nat
  /-- last positive crossings of VA in chain time, newest first (R240), and the tempo of the last frequency -/
  zc : List Nat
  freqAt : Option Nat
  /-- the neutral sum by energy point (R245) -/
  sum : Vector SumSt 8
  /-- tempo since which both conditions of R242 hold, and since which one has failed; start of the missing neutral in chain time;
  tempo since which all phases exceed half of UNOM (R241) -/
  missAt : Option Nat
  missOff : Option Nat
  missStart : Nat
  seqFrom : Option Nat
  /-- grid events by phase; entry 3 is one on all phases -/
  grid : Vector (Option GridEv) 4
  /-- PO0: energy × K below one pulse, pulses due, the high time at the rate of the last tempo in µs, the tempo of the last pulse,
  and how long its pulse still lasts in µs (R246) -/
  poAcc : Nat
  poDue : Nat
  poHigh : Nat
  poAt : Option Nat
  poRem : Nat
  deriving DecidableEq, Repr

/-! ### Billing (09) -/

/-- The legal registers of one energy point and direction (R267): Wh, fractions in µWh, maxima as (W, s). -/
structure LReg where
  t : Vector Nat 8
  deg : Nat
  fr : Nat
  degFr : Nat
  max : Vector (Nat × Nat) 8
  rmax : Nat × Nat
  dem : Nat
  deriving DecidableEq, Repr

/-- An open session (R271, R272): legal start time in ns, flags of the Biper record, start totals, whole Wh per tariff, and
the price table fixed at OPEN: PRICEID, CURRENCY, prices, fees. -/
structure Sess where
  id : Nat
  start : Nat
  flags : Nat
  imp0 : Nat
  exp0 : Nat
  impT : Vector Nat 8
  expT : Vector Nat 8
  degImp : Nat
  degExp : Nat
  priceId : Nat
  currency : Nat
  prices : Bytes
  fees : Bytes
  energised : Bool
  /-- chain time of ENERGY_END -/
  endAt : Option Nat
  deriving DecidableEq, Repr

/-- The dynamic state that every journal entry carries (R278). -/
structure Legal where
  reg : Vector LReg 16
  sess : Vector (Option Sess) 4
  /-- the counter of SESSIONIDs (R271) -/
  ctr : Nat
  off : Int
  slew : Int
  hwm : Nat
  stepSeq : Nat
  /-- active calendar slot, and whether an active and a passive calendar are present -/
  cal : Nat
  act : Bool
  pas : Bool
  tariff : Nat
  recSeq : Nat
  period : Nat
  perStart : Nat
  /-- index of the last billing-period close passed -/
  bpIdx : Option Int
  /-- the running demand interval is partial (R269), or a replay (R288) -/
  cut : Bool
  replay : Bool
  deriving DecidableEq, Repr

/-- A journal entry (R278): type, SEQ, legal time, dynamic state, and its log entries (grid log, else legal log). -/
structure JEntry where
  typ : Nat
  seq : Nat
  lt : Nat
  st : Legal
  logs : List (Bool × Bytes)
  deriving DecidableEq, Repr

/-- A history snapshot (R270). -/
structure Hist where
  seq : Nat
  start : Nat
  stop : Nat
  reg : Vector LReg 16
  deriving DecidableEq, Repr

/-- The sealed core. -/
structure BilState where
  ready : Bool
  calib : Bool
  /-- the last journal write verified, and the last read was answered without error (R252) -/
  framOk : Bool
  rdOk : Bool
  /-- the state has been restored from the journal (R254) -/
  restored : Bool
  legalValid : Bool
  /-- legal time lies behind the mark by more than 86,400 s, so that only a signed step validates it -/
  ltBad : Bool
  /-- legal time at the most recent edge, ns -/
  legal : Nat
  dyn : Legal
  /-- bit n: the energy point of outlet n is ready (R237) -/
  epReady : Nat
  /-- session events with the chain time of their edge (R140) -/
  evIn : List (Nat × SessEv × Nat)
  /-- increments handed over, by the chain time of the edge that ends the tempo of the handover (R233) -/
  inbox : List (Nat × List Inc)
  /-- the offset a signed step or a slew puts in force at the next edge -/
  offNext : Option Int
  /-- a signed step waits for the edge: its new offset -/
  stepTok : Option Int
  /-- legal time has jumped forward, and the boundaries passed are still to process; `true`: they are LATE (R284, R287) -/
  jump : Option Bool
  /-- tempos booked, newest first: chain time of the start and the tariff in force in it (R63) -/
  tarHist : List (Nat × Nat)
  calBuf : Bytes
  quota : List (Nat × Nat)
  mbox : List MbCmd
  mbRan : Bool
  evq : List Ev
  /-- log entries of this tempo, and the journal entries waiting and being written -/
  logs : List (Bool × Bytes)
  jq : List JEntry
  jw : Option JEntry
  /-- types of entries that fall due in this tempo -/
  due : List Nat
  comSec : Option Nat
  pfwSeen : Bool
  pfwDone : Bool
  loss : Bool
  /-- grid event records handed over: type, phase, extreme, start, duration -/
  gridIn : List (Nat × Nat × Nat × Nat × Nat)
  /-- check-value screens: screen 1 or 2, and the tempo it began (R292) -/
  chk : Option (Nat × Nat)
  /-- the outlet whose total is shown, and since when (R460) -/
  shown : Nat
  shownAt : Nat
  deriving DecidableEq, Repr

/-- A journal slot (R278): the entry whose header and payload stand in it, its LEN, and that its CRC and its marker hold. -/
structure JSlot where
  ent : JEntry
  len : Nat
  crc : Bool
  chk : Bool
  deriving DecidableEq, Repr

/-- The FRAM, by area (R277): the ring at 0x00000, the journal at 0x80000, the calendar slots at 0xC0000, the proof records at
0xC2000, the wear copies at 0xC2100, the history at 0xC3000, the grid event log at 0xD0000, the legal event log at 0xE0000. A proof
record, a wear copy and a calendar slot are held as their bytes, CRC included. -/
structure FramState where
  /-- the two proof records of 64 bytes (R187), and the two wear copies of 776 bytes (R164); empty where none was written -/
  proof : Vector Bytes 2
  wear : Vector Bytes 2
  jrn : Vector (Option JSlot) 64
  /-- record ring, 2,048 slots of 256 bytes -/
  ring : Tbl Bytes
  cal : Vector Bytes 2
  hist : Vector (Option Hist) 13
  gridLog : List Bytes
  legalLog : List Bytes
  deriving DecidableEq, Repr

/-! ### The optical port (09) -/

/-- OPT_STATUS.STATE. -/
inductive OptSt where
  | idle | ident | hdlc | assoc
  deriving DecidableEq, Repr

/-- The optical port: its state and baud code, the tempo of the last character or frame, and what it last sent. -/
structure OptState where
  st : OptSt
  baud : Nat
  /-- the acknowledgement has switched the port to HDLC framing -/
  acked : Bool
  light : Bool
  lastAt : Nat
  /-- last reply: bytes sent, or the result and data of a DLMS service (0 success, 3 read-write-denied, 4 undefined) -/
  tx : Bytes
  res : Nat
  /-- of a reply: the rest of the block under way, sent 128 bytes a frame, the blocks after it, and the largest APDU (R290) -/
  seg : Bytes
  blk : Bytes
  pdu : Nat
  deriving DecidableEq, Repr

/-! ### Tack room and crypto engine (13) -/

/-- One key slot: type and policy bits, and its two shares (R397). -/
structure KSlot where
  typ : Nat
  pol : Nat
  len : Nat
  share : Bytes
  mask : Bytes
  deriving DecidableEq, Repr

/-- The fields of a job descriptor (R407), its input as read so far, and its key as copied at the start (R396). -/
structure Job where
  slot : Nat
  dslot : Nat
  alg : Nat
  len : Nat
  src : Nat
  dst : Nat
  aux : Nat
  inp : Bytes
  typ : Nat
  pol : Nat
  key : Bytes
  deriving DecidableEq, Repr

/-- A job taken from the ring: descriptor index and operation, its result, its output and what it puts into a slot. A bulk job with
chunks still to come keeps its running state, and is paused while a higher-ranked port waits (R410). -/
structure KJob where
  idx : Nat
  op : Nat
  result : Nat
  dst : Nat
  out : Bytes
  put : List (Nat × KSlot)
  more : Option Job
  paused : Bool
  deriving DecidableEq, Repr

/-- A job of a private port (R410): the signature of a record of an outlet's session, or the check of a signature that a mailbox
command carries, by its opcode. -/
inductive PortJob where
  | sign (n seq : Nat) (body : Bytes)
  | check (op : Nat)
  deriving DecidableEq, Repr

/-- A slot command: OP, SLOT, TYPE, POLICY, LEN and the key bytes of KEY_SLOTDATA (R394). -/
structure KCmd where
  op : Nat
  slot : Nat
  typ : Nat
  pol : Nat
  len : Nat
  data : Bytes
  deriving DecidableEq, Repr

/-- The tack room. -/
structure KeyState where
  slot : Vector KSlot 64
  /-- the slot command running -/
  cmd : Option KCmd
  sweep : Nat
  passes : Nat
  job : Option KJob
  /-- the private ports of the sealed core (0) and the safety controller (1), four entries each (R410) -/
  port : Vector (List PortJob) 2
  /-- ring consumer index -/
  head : Nat
  /-- boot measurements MEAS0–MEAS7 -/
  meas : Vector Bytes 8
  /-- entropy sources that still serve -/
  src : Vector Bool 2
  rngFail : Bool
  rngOk : Bool
  deriving DecidableEq, Repr

/-- What the fuses hold. -/
structure FuseState where
  serial : Nat
  /-- the option byte as SYS_OPT shows it -/
  opt : Nat
  /-- root slots: digest of the root key, class mask, revoked; and the debug key each names -/
  root : Vector (Bytes × Nat × Bool) 4
  dbgKey : Vector Bytes 4
  /-- security-version counters of application, legal, layout -/
  svcnt : Vector Nat 3
  /-- the device-unique key (R399), the identity endorsement and the manufacturing key that signed it (R403) -/
  duk : Bytes
  idEnd : Bytes
  mfgKey : Nat
  deriving DecidableEq, Repr
/-! ### Vehicle ports (10) -/

/-- The states of the SLAC engine, in the order of their codes (R308). -/
inductive SlacSt where
  | off | waitParm | waitStart | sounding | waitMatch | waitJoin | joined | failed
  deriving DecidableEq, Repr

/-- One V port: pilot drive, break, proximity run, SLAC engine with its timers as the tempo of their start, the sounds of
the open window, and the message timers of its outlet. -/
structure VPort where
  /-- duty driven in the present period (R296), and the end of a pilot break -/
  drive : Nat
  brk : Option Nat
  diodeOk : Bool
  raw : Pilot
  high : Int
  low : Int
  res : Nat
  pxLast : Bool
  pxRun : Nat
  slac : SlacSt
  runId : Bytes
  init : Option Nat
  seqT : Option Nat
  resp : Option Nat
  join : Option Nat
  win : Option Nat
  nsound : Nat
  /-- sums of the attenuations of the 58 groups, and per port the sum of all groups and the sounds heard (R311) -/
  att : List Nat
  xsum : Vector (Nat × Nat) 4
  tmr : Nat
  /-- message timers: the chain-time millisecond of their start; one has expired with ACT in ENERGY (R314) -/
  mt : Vector (Option Nat) 2
  stopReq : Bool
  /-- frames waiting in the receive FIFO, each with the chain time of its start (R317), and the last frame sent -/
  fifo : List (Nat × Bytes)
  sent : Bytes
  txIdx : Nat
  rxIdx : Nat
  deriving DecidableEq, Repr

/-- One M port: tempo of the last frame (R319), receive FIFO, last frame sent, ring indices. -/
structure MPort where
  heard : Nat
  fifo : List (Nat × Bytes)
  sent : Bytes
  txIdx : Nat
  rxIdx : Nat
  deriving DecidableEq, Repr

/-- A CAN message: header word (ID, IDE, FD, BRS), data, filter index, start time in ns. -/
structure CanMsg where
  hdr : Nat
  data : Bytes
  filt : Nat
  time : Nat
  deriving DecidableEq, Repr

/-- One CAN FD controller: the current data buffer of each slot (R322; the shadows stand in the registers), the tempo each
filter's watchdog was last armed (R323), the FIFOs, and the last frame sent. -/
structure CanCtl where
  cur : Vector Bytes 16
  seen : Vector Nat 32
  rx : List CanMsg
  tx : List CanMsg
  sent : Option CanMsg
  deriving DecidableEq, Repr

/-- The vehicle ports. -/
structure VehState where
  v : Vector VPort 4
  m : Vector MPort 2
  can : Vector CanCtl 4
  deriving DecidableEq, Repr

/-! ### Authorisation reader (14) -/

/-- The reader states of R421, in the order of their codes. -/
inductive HfSt where
  | off | settling | ready | activeL3 | activeL4 | lpcd | resetting
  deriving DecidableEq, Repr

/-- What the reader waits for inside a command: a raw answer, a layer-4 block, or the answer to S(DESELECT). -/
inductive HfWait where
  | none | raw | block | deselect | verify
  deriving DecidableEq, Repr

/-- The authorisation reader. -/
structure HfrState where
  st : HfSt
  /-- tempo of the last change of state -/
  since : Nat
  field : Bool
  /-- opcode of the command running, and what it waits for since when, µs allowed -/
  cmd : Option Nat
  wait : HfWait
  waitAt : Nat
  waitUs : Nat
  /-- the first bit of the exchange has left the antenna; the tempo in which its first frame ended (R427) -/
  sent : Bool
  capAt : Nat
  retries : Nat
  /-- result and outcome to report once a deselect is settled (R426) -/
  pend : Option (Nat × Nat)
  /-- layer 4: what is still to send, and the response so far -/
  out : Bytes
  inp : Bytes
  /-- ORIGIN under way: its profile -/
  orig : Option Nat
  /-- the active card: type, identifier, SAK, frame size, FWI, rates; a collision in the last activation -/
  ctype : Nat
  uid : Bytes
  sak : Nat
  fsc : Nat
  fwi : Nat
  ds : Nat
  dr : Nat
  more : Bool
  tuneLim : Bool
  step : Nat
  stepAt : Nat
  phase : Int
  iant : Nat
  iset : Nat
  /-- LPCD: the last bursts without a detection, newest first, and the tempo of the last burst -/
  ref : List Nat
  burstAt : Nat
  deriving DecidableEq, Repr

/-! ### Load channels (15) -/

/-- One load channel: times in tempos. -/
structure LChan where
  en : Bool
  on : Bool
  /-- inrush window open since -/
  inr : Option Nat
  winCut : Bool
  /-- limiting since -/
  lim : Option Nat
  retry : Nat
  retryEx : Bool
  /-- waiting out RETRYDLY until -/
  retryAt : Option Nat
  /-- latch cause 2, 5, 6, and code 0xF01 in force -/
  latch : Option Nat
  oc : Bool
  openLd : Bool
  shortVs : Bool
  /-- effective limit set by the bank limiter, mA -/
  bank : Option Nat
  /-- place in the staggered restart: due tempo -/
  restart : Option Nat
  /-- end of the last turn-off of more than 20 mJ -/
  clampAt : Option Nat
  /-- tempo of the turn-off whose output is being watched (R447, R448), and of the last off-state test (R450) -/
  offAt : Option Nat
  diagAt : Nat
  tj : Int
  dt : Nat
  deriving DecidableEq, Repr

/-- The load channels: group temperatures, bank timer in tempos, enforcement, cap, and undervoltage. -/
structure LchState where
  ch : Vector LChan 16
  /-- the channels commanded on in the previous tempo (R10) -/
  prev : Nat
  gt : Vector Int 4
  timer : Nat
  enf : Bool
  cap : Bool
  uv : Bool
  deriving DecidableEq, Repr
/-! ### Boot and firmware update (12) -/

/-- Firmware update and activation. -/
structure FwuState where
  /-- manifest headers of the running images by class, empty where none runs -/
  run : Vector Bytes 3
  /-- the first GO edge has passed: new authorisations are refused (R379) -/
  go : Bool
  /-- 0 none, 1 activation pending, 2 GO received -/
  act : Nat
  actId : Nat
  mask : Nat
  digs : Bytes
  latest : Nat
  restart : Nat
  /-- coordinator: an activation of its own is running, its data, and the frame it repeats with the tempo of its last
  sending and the tempo after which it stops -/
  lead : Bool
  early : Nat
  members : Nat
  rep : Option Bytes
  repAt : Nat
  repEnd : Option Nat
  /-- command running: opcode and ARG -/
  busy : Option (Nat × Nat)
  /-- last unlock attempt, tempo -/
  dbgTry : Option Nat
  /-- Stalemate mode: recovery code, item shown, and the tick of the last programming -/
  recCode : Nat
  recItem : Nat
  /-- RTC time at which the shown item appeared (R386), and at which an image was last programmed (R388) -/
  recShown : Nat
  recAt : Nat
  deriving DecidableEq, Repr
/-! ### Power, clocks, reset (17) -/

/-- Where a start is: the reset stretch, the option-byte loader, the boot ROM, running, or Stalemate mode. -/
inductive BootSt where
  | stretch | optLoad | rom | running | stalemate
  deriving DecidableEq, Repr

/-- The states of R464, in the order of their codes. -/
inductive PwrSt where
  | s0 | s1 | s2 | s3 | s4
  deriving DecidableEq, Repr

/-- An entry or wake in progress: waiting for WFI, waiting for consent at an edge, domains off on the way into S3 or S4, the
SHUTDOWN entry before S4, and a wake. -/
inductive PwrEntry where
  | none
  | idle (t : PwrSt)
  | consent (t : PwrSt)
  | quiet (t : PwrSt)
  | dormant
  | waking
  deriving DecidableEq, Repr

/-- Power management. -/
structure PwrState where
  boot : BootSt
  sys : PwrSt
  prev : PwrSt
  entry : PwrEntry
  appOn : Bool
  netOn : Bool
  vehOn : Bool
  fieldOn : Bool
  dramOn : Bool
  /-- SAFE and METER, which are powered together -/
  safeOn : Bool
  /-- every running core of the cluster executes WFI -/
  wfi : Bool
  /-- NMIs raised on the running application cores since reset (R49) -/
  nmi : Nat
  /-- PFW is asserted (R475), since which tempo, and the FINAL entry has been started -/
  pfw : Bool
  pfwAt : Nat
  pfwFinal : Bool
  /-- the SAFE comparator declares VS_LOAD absent (R504) -/
  vsAbsent : Bool
  /-- the step of R472 the wake is in: four for each of DRAM, NET with VEH, APP, FIELD; and that it has been repeated -/
  wakeStep : Nat
  wakeRetry : Bool
  /-- PWR_RTC, and the nine residency counters -/
  rtc : Nat
  resid : Vector Nat 9
  /-- RST_FAILCNT.COUNT, whether RST_BOOTOK has been written since the reset, the boot timer and the watchdog -/
  failCnt : Nat
  bootOk : Bool
  bootOn : Bool
  bootAt : Nat
  wdAt : Nat
  wdWarned : Bool
  /-- RESET_N is held low from outside -/
  pinLow : Bool
  /-- governor: last reading, and its 10 ms points in a row below 105 °C since the last change of its cap -/
  govLast : Int
  govCool : Nat
  /-- the tempos of the last 10 ms point of the governor and of the last reading of the voltage loop (R483, R484) -/
  govAt : Option Nat
  avsAt : Option Nat
  /-- the governor's own cap; the cap lowered by the adaptive voltage loop; the level a change is going to; the trim kept for
  each level -/
  govCap : Nat
  avsLow : Bool
  plTo : Nat
  avsTrim : Vector Int 4
  /-- the AON real-time clock that S4 entry loads with the legal time (R469), in 2⁻⁷ ns -/
  aonClock : Nat
  /-- the reference a waiting switch goes to, the tick from which XO has been valid, the tick of the start of HOLD, and that
  the clock has returned from it -/
  clkTo : Nat
  xoAt : Nat
  holdAt : Nat
  clkRet : Bool
  /-- outlets with KP or KN closed when HOLD came (R492) -/
  holdClosed : Nat
  /-- the AON supply stands (R478); core 0 has resumed in the wake under way (R473) -/
  aonOn : Bool
  resumed : Bool
  deriving DecidableEq, Repr
/-! ### The whole machine -/

/-- The drive of the glass: the AON tick up to which every line holds the mid level, and the tempo of the last measurement of the crack
loop (R457, R462). -/
structure LcdState where
  midTo : Nat
  crackAt : Option Nat
  deriving DecidableEq, Repr

/-- The last bus access: an error response, and the data of a read. -/
structure BusResp where
  err : Bool
  data : Nat
  deriving DecidableEq, Repr

structure State where
  /-- commands waiting, first in, first out -/
  pending : List Instr
  /-- the register fields whose home is a register (Machine/Regs.lean), by key address × 32 + lowest bit -/
  regs : Tbl Nat
  resp : BusResp
  shadow : Tbl Nat
  stage : Tbl Nat
  mem : Mem
  flash : Mem
  /-- the loaded layout sections by type 0x01–0x0B, and whether a layout is loaded (SYS_STATUS.LAYOUT) -/
  sec : Vector Bytes 12
  loaded : Bool
  freeCtr : Nat
  tmp : TmpState
  brd : BrdState
  strm : Vector Stream 64
  fz : Frozen
  /-- the outlets as the running tempo computes them, and as they are in effect since the last edge (R57) -/
  outs : Vector Outlet 4
  outsF : Vector Outlet 4
  mtx : MtxState
  saf : SafState
  lea : LeaState
  yrd : YrdState
  net : NetState
  ua : Vector Uart 2
  bil : BilState
  /-- the record on the persist channel, whose contents are being written, and its slot (R11, R280) -/
  persist : Option (PersistRec × Nat)
  pwr : PwrState
  fwu : FwuState
  fram : FramState
  fuse : FuseState
  mtr : MtrState
  opt : OptState
  key : KeyState
  /-- segments of the legal field as driven, bit 48c + s (R458) -/
  legalSeg : Nat
  lcd : LcdState
  veh : VehState
  hfr : HfrState
  lch : LchState
  /-- the layout digest (R85) -/
  layDig : Bytes
  deriving DecidableEq, Repr
/-! ### After reset -/

def BTimer.reset : BTimer := ⟨false, false, none⟩

def Square.reset : Square :=
  { c := 0, q := 0, t0 := BTimer.reset, t1 := BTimer.reset, cnt := 0, up := false, down := false, tc := false,
    cin := false, cabove := false, cstale := false }

def BrdState.reset : BrdState :=
  { sq := Vector.replicate 64 Square.reset, tgt := 0, mv := none, mvc := none, agreed := none, mismatch := false,
    mismatchPrev := false, scrubBad := false, start := 0 }

def Stream.reset : Stream := ⟨0, none⟩

def TmpState.reset : TmpState :=
  { now := 0, running := false, begun := false, first := false, chain := 0, frac := 0, len := 10000, cyc := 0, ran := [], mode := .free,
    missed := 0, gotTime := false, adopted := false, measured := false, stepTo := none, stepDue := false, back := false, dreqSeq := 0, dreqT1 := 0,
    ldDreqSeq := 0, ldDreqAt := 0, ptpAt := none, finS := 0, finM := 0, perr := 0, rtcRef := none, adoptStep := 0 }

def Coil.reset : Coil := ⟨false, false, false, false, 0, none, 0, 0, false⟩

def Group.reset : Group :=
  { xp := none, step := .none, stepAt := 0, src := 0, dst := none, mig := false, limit := 0, zeroSince := none,
    lowSince := none, mode := 0, vset := 0, share := 0, trim := 0, integ := 0, satSince := none, satFlag := false, stamp := none,
    gstate := 0xF, fclass := 0, pavail := 0, vout := 0, iout := 0, ownCnt := none, lost := false, goodRun := 0,
    barUntil := 0 }

def BusSt.reset : BusSt :=
  { kind := none, stamp := 0, volt := 0, cur := 0, exporting := false, prevCur := 0, need := 0, excess := 0, holdN := 0,
    grant := 0 }

def MtxState.reset : MtxState :=
  { coil := Vector.replicate 64 Coil.reset, fb := 0, grp := Vector.replicate 16 Group.reset, grpF := Vector.replicate 16 Group.reset,
    bus := Vector.replicate 8 BusSt.reset, xpWeld := 0, alive := Vector.replicate 2 0, lastCmd := Vector.replicate 2 none,
    sentAt := Vector.replicate 2 none, doc := [], dof := [], msAt := none, migDone := 0, consec := 0, withhold := false,
    applied := 0, noStrobe := 0, serNew := none }

/-- Every outlet is armed, in IDLE, at reset (R117, R119). -/
def Outlet.reset : Outlet :=
  { st := .idle, since := 0, latch := false, emerg := false, emergAt := 0, pause := false, pauseAt := 0, pcmatch := false,
    ccdone := false, diract := false, auth := false, authEpoch := false, authW := none, revoked := false,
    reqLatch := 0, reqFrz := 0, evopen := false, evopenW := false, imaxF := 0, vmaxF := 0, vtF := 0, dirF := false,
    bidirF := false, bidirOk := false, wdAt := 0, armed := true, pilot := .a, pilotN := .a,
    pLast := .a, pRun := 0, proxOk := false, proxN := false, zc10 := false, hvAt := none, cause := 0, inState := 0, pend := 0,
    rejP := none, reqNow := false, isoStart := false, isoStop := false, ended := false, sev := [], sawC := false, applied := 0, bind := 0, budgetBound := false, duty := 0,
    lock := .none, lockAt := none, aux := false, isoOk := false, isoHeld := false, rcTested := false, rcTrip := false, six := false,
    lowSince := none, weld := .off, weldAt := 0, hadClosed := false, session := false, rkind := .release, rvolt := 0,
    rcur := 0, holdV := 0, perm := 0, causeOld := false,
    ccTest := false, energised := false, seqAt := none }

def IsoMon.reset : IsoMon :=
  { run := false, phase := .off, confAt := none, dwellP := 450, dwellN := 450, nextP := 450, nextN := 450, tau := 0, extrap := false, phx := false, bad := false,
    pPos := 0, pNeg := 0, invRun := 0, result := none }

def SIn.reset : SIn := ⟨false, none, false, false, 0⟩

def SOut.reset : SOut := ⟨false, false, false, false, false, 0, none, none⟩

/-- SAF_STATE.STATE resets to MATE. -/
def SafState.reset : SafState :=
  { st := .mate, since := 0, held := false, kept := false, hold := false, bistOk := false, cur := [], prev := [], toCheck := none,
    toMate := none, toRun := false, resetPulse := false, resetPulseNext := false, evq := [], outbox := [], mbox := [], mbRan := false,
    lastTry := none, chalAt := 0, tokenWait := none, ack := none, flow := 0, pair := .closed, eqSince := none, gStep := 0,
    gOpenAt := 0, proofSeq := 0, proofMade := 0, wearMade := 0, proofTime := 0, proofDig := none, guardOk := false,
    due := false, rcSum := 0, rcCnt := 0, rcAvg := 0, lcDiff := 0, fgt := Vector.replicate 4 none, tpLow := Vector.replicate 8 none, rcUp := Vector.replicate 3 none, rcLow := Vector.replicate 3 none,
    iso := Vector.replicate 4 IsoMon.reset, sin := Vector.replicate 24 SIn.reset, sout := Vector.replicate 4 SOut.reset,
    dieT := Vector.replicate 2 0, railsBad := [], overT := false }

def Frozen.reset : Frozen := ⟨0, 0, Vector.replicate 64 Stream.reset, 0, 0, 0, none⟩

def Node.reset : Node := ⟨none, none, 0, 0, 0⟩

def Grant.reset : Grant := ⟨0, 0, 0, none⟩

def LeaState.reset : LeaState :=
  { luUp := false, ldUp := false, byp := false, naddr := 0, segHead := false, addrHeld := false, addr := 0,
    seq := Vector.replicate 8 0, luTx := [], ldTx := [], budAt := none, site := 0, siteExp := 0, shareImp := 0,
    shareExp := 0, budNext := none, budStale := false, bseq := 0, budRepeat := 0, grant := Vector.replicate 8 Grant.reset,
    busReqNow := false, grantNow := false, reqAt := none, grantAt := none, stopSeen := [], stopSeq := 0, stopIn := none, stopWrite := false,
    mateStop := false, expSeq := 0, expTaken := none, expGot := false, beaconAt := none, mmRun := 0,
    ylDiff := 0, mismatch := false, luSilent := 0, nodes := Vector.replicate 64 Node.reset, enumAt := 0, enumHigh := 0, luCut := none,
    ldCut := none, luFcs := 0, ldFcs := 0, luData := none, ldData := none, statAt := 0, xfer := none,
    lastXfer := 0, lastBlocks := 0, userRx := [] }

def YrdState.reset : YrdState :=
  { naddr := 0, win := 0, cyc := 0, acq := false, sawCyc := false, lost := false, nozc := false, seen0 := false, miss := 0,
    poll := none, pollCyc := false, pollMe := false, seq := 0, nak := 0, last := none, resend := false, stops := [],
    txq := [], rxq := [], quiet := [], gotBeacon := false, sent := none }

def NetState.reset : NetState := ⟨[], [], 0, 0, Vector.replicate 2 []⟩

def Uart.reset : Uart := ⟨[], [], false, 0, false, []⟩

def PilTrack.reset : PilTrack :=
  { g := 1, k := 0, gNew := 0, gP := 0, discard := 0, lost := false, bound := false, noisy := false, hi := 0, lo := 0,
    inside := 0, sd := 0, bad := false, n := 0, sy := 0, sr := 0, sky := 0, skr := 0, syy := 0, syr := 0, srr := 0 }

def PilLine.reset : PilLine := ⟨0, 0, 0, 0, 0, [], []⟩

def SumSt.reset : SumSt := ⟨0, 0, 0, false, none⟩

def Chan.reset : Chan :=
  { dead := false, run := 0, ovr := false, fir := [], y := 0, val := 0, gT := 0, dT := 0, temp := 2500, tempAt := none, tempUse := 0,
    tstale := false, trange := false, back := none, hist := [], ms := 0, pil := PilTrack.reset }

def MtrState.reset : MtrState :=
  { chan := Vector.replicate 16 Chan.reset, i2c := Vector.replicate 8 Stream.reset, i2cMask := 0, outs := 0, got := 0, irc := false,
    pend := [], frac := Vector.replicate 16 0, power := Vector.replicate 8 0, creep := Vector.replicate 8 false,
    deg := Vector.replicate 8 false, deadT := Vector.replicate 8 0, faultSeen := 0, faultCode := 0, tabSec := none,
    blkSec := none, secNew := false, drawSec := none, pil := Vector.replicate 4 PilLine.reset, capN := 0, zc := [],
    freqAt := none, sum := Vector.replicate 8 SumSt.reset, missAt := none, missOff := none, missStart := 0, seqFrom := none,
    grid := Vector.replicate 4 none, poAcc := 0, poDue := 0, poHigh := 0, poAt := none, poRem := 0 }

def LReg.reset : LReg :=
  { t := Vector.replicate 8 0, deg := 0, fr := 0, degFr := 0, max := Vector.replicate 8 (0, 0), rmax := (0, 0), dem := 0 }

/-- The legal state of an FRAM that holds no journal entry. -/
def Legal.reset : Legal :=
  { reg := Vector.replicate 16 LReg.reset, sess := Vector.replicate 4 none, ctr := 0, off := 0, slew := 0, hwm := 0,
    stepSeq := 0, cal := 0, act := false, pas := false, tariff := 0, recSeq := 0, period := 0, perStart := 0, bpIdx := none,
    cut := true, replay := false }

def BilState.reset : BilState :=
  { ready := false, calib := false, framOk := false, rdOk := true, restored := false, legalValid := false, ltBad := false, legal := 0,
    dyn := Legal.reset, epReady := 0, evIn := [], inbox := [], offNext := none, stepTok := none, jump := none, tarHist := [],
    calBuf := [], quota := [], mbox := [], mbRan := false, evq := [], logs := [], jq := [], jw := none, due := [],
    comSec := none, pfwSeen := false, pfwDone := false, loss := false, gridIn := [],
    chk := none, shown := 0, shownAt := 0 }

def FramState.reset : FramState :=
  { proof := Vector.replicate 2 [], wear := Vector.replicate 2 [], jrn := Vector.replicate 64 none, ring := [],
    cal := Vector.replicate 2 [], hist := Vector.replicate 13 none, gridLog := [], legalLog := [] }

def OptState.reset : OptState := { st := .idle, baud := 0, acked := false, light := false, lastAt := 0, tx := [], res := 0, seg := [], blk := [], pdu := 1024 }

def KSlot.reset : KSlot := ⟨0, 0, 0, [], []⟩

def KeyState.reset : KeyState :=
  { slot := Vector.replicate 64 KSlot.reset, cmd := none, sweep := 0, passes := 0, job := none, port := Vector.replicate 2 [], head := 0,
    meas := Vector.replicate 8 (List.replicate 32 0), src := Vector.replicate 2 true, rngFail := false, rngOk := false }

def VPort.reset : VPort :=
  { drive := 1000, brk := none, diodeOk := false, raw := .a, high := 0, low := 0, res := 65535, pxLast := false, pxRun := 0, slac := .off, runId := [], init := none, seqT := none, resp := none, join := none, win := none,
    nsound := 0, att := [], xsum := Vector.replicate 4 (0, 0), tmr := 0, mt := Vector.replicate 2 none, stopReq := false, fifo := [],
    sent := [], txIdx := 0,
    rxIdx := 0 }

def CanCtl.reset : CanCtl := ⟨Vector.replicate 16 [], Vector.replicate 32 0, [], [], none⟩

def VehState.reset : VehState :=
  ⟨Vector.replicate 4 VPort.reset, Vector.replicate 2 ⟨0, [], [], 0, 0⟩, Vector.replicate 4 CanCtl.reset⟩

def HfrState.reset : HfrState :=
  { st := .off, since := 0, field := false, cmd := none, wait := .none, waitAt := 0, waitUs := 0, sent := false, capAt := 0,
    retries := 0, pend := none, out := [], inp := [], orig := none, ctype := 0, uid := [], sak := 0, fsc := 0, fwi := 0,
    ds := 0, dr := 0, more := false, tuneLim := false, step := 128, stepAt := 0, phase := 0, iant := 0, iset := 0, ref := [],
    burstAt := 0 }

def LChan.reset : LChan :=
  { en := false, on := false, inr := none, winCut := false, lim := none, retry := 0, retryEx := false, retryAt := none,
    latch := none, oc := false, openLd := false, shortVs := false, bank := none, restart := none, clampAt := none, offAt := none,
    diagAt := 0, tj := -64, dt := 0 }

def LchState.reset : LchState := ⟨Vector.replicate 16 LChan.reset, 0, Vector.replicate 4 (-64), 0, false, false, false⟩

def FwuState.reset : FwuState :=
  { run := Vector.replicate 3 [], go := false, act := 0, actId := 0, mask := 0, digs := [], latest := 0, restart := 0,
    lead := false, early := 0, members := 0, rep := none, repAt := 0, repEnd := none, busy := none, dbgTry := none,
    recCode := 0, recItem := 0, recShown := 0, recAt := 0 }

/-- In the reset stretch every domain is powered and in reset (R464: S0). -/
def PwrState.reset : PwrState :=
  { boot := .stretch, sys := .s0, prev := .s0, entry := .none, appOn := true, netOn := true, vehOn := true,
    fieldOn := true, dramOn := true, safeOn := true, wfi := false, nmi := 0, pfw := false, pfwAt := 0, pfwFinal := false,
    vsAbsent := false, wakeStep := 0, wakeRetry := false, rtc := 0, resid := Vector.replicate 9 0, failCnt := 0,
    bootOk := false, bootOn := false, bootAt := 0, wdAt := 0, wdWarned := false, pinLow := false, govLast := 0,
    govCool := 0, govAt := none, avsAt := none, govCap := 0, avsLow := false, plTo := 2, avsTrim := Vector.replicate 4 0, aonClock := 0, clkTo := 1, xoAt := 0,
    holdAt := 0, clkRet := false, holdClosed := 0, aonOn := true, resumed := false }

def FuseState.reset : FuseState :=
  { serial := 0, opt := 0, root := Vector.replicate 4 ([], 0, false), dbgKey := Vector.replicate 4 [],
    svcnt := Vector.replicate 3 0, duk := [], idEnd := [], mfgKey := 0 }

/-- The machine right after an AON power-on reset, in the reset stretch: every register field at its reset value
(nothing listed in `regs`), memory with nothing listed, no layout loaded, and no command waiting. -/
def State.reset : State :=
  { pending := [], regs := [], resp := ⟨false, 0⟩, shadow := [], stage := [], mem := [], flash := [],
    sec := Vector.replicate 12 [], loaded := false, freeCtr := 0, tmp := TmpState.reset, brd := BrdState.reset,
    strm := Vector.replicate 64 Stream.reset, fz := Frozen.reset, outs := Vector.replicate 4 Outlet.reset,
    outsF := Vector.replicate 4 Outlet.reset,
    mtx := MtxState.reset, saf := SafState.reset, lea := LeaState.reset, yrd := YrdState.reset, net := NetState.reset,
    ua := Vector.replicate 2 Uart.reset, bil := BilState.reset, persist := none, pwr := PwrState.reset,
    fwu := FwuState.reset,
    fram := FramState.reset, fuse := FuseState.reset, mtr := MtrState.reset, opt := OptState.reset,
    key := KeyState.reset, legalSeg := 0, lcd := ⟨0, none⟩, veh := VehState.reset, hfr := HfrState.reset, lch := LchState.reset,
    layDig := [] }

end Sys2Proof.Machine
end

