-- ==== Sys2Proof/Machine/Ops.lean ====
section
/-!
DEFINITION. The named operations over the state: register fields, memory, free values, the rows of outlets, coils,
groups and safety I/O, and the event queue.
-/

namespace Sys2Proof.Machine

/-! ### Register fields -/

/-- The key of a register field in the register file. -/
def fkey (f : Fld) : Nat := f.addr * 32 + f.lo

/-- The value of a register field: its reset value until something else is written. -/
def rget (s : State) (f : Fld) : Nat := Tbl.get s.regs (fkey f) f.rst

/-- A register field set, cut to its width. -/
def rput (f : Fld) (v : Nat) (s : State) : State :=
  { s with regs := Tbl.put s.regs (fkey f) (v % 2 ^ f.width) f.rst }

def rbit (s : State) (f : Fld) : Bool := rget s f == 1

def rputB (f : Fld) (b : Bool) (s : State) : State := rput f (b2n b) s

/-- A counter field advanced by `k`, saturating at all ones. -/
def rsat (f : Fld) (k : Nat) (s : State) : State := rput f (min (2 ^ f.width - 1) (rget s f + k)) s

/-- One bit of a field that holds a row of bits. -/
def rputAt (f : Fld) (i : Nat) (b : Bool) (s : State) : State := rput f (setBit (rget s f) i b) s

/-! ### Free values and memory -/

/-- The next free value, and the state with the counter advanced. -/
def freeNat (s : State) : Nat × State := (Config.freeValue s.freeCtr, { s with freeCtr := s.freeCtr + 1 })

/-- `n` bytes of physical memory from `a`. -/
def memRead (s : State) (a n : Nat) : Bytes := Mem.read dramBlank s.mem a n

/-- Bytes stored to physical memory from `a`. -/
def memWrite (a : Nat) (b : Bytes) (s : State) : State := { s with mem := Mem.write dramBlank s.mem a b }

/-- `n` bytes of the boot flash from `a`. -/
def flashRead (s : State) (a n : Nat) : Bytes := Mem.read flashBlank s.flash a n

/-- Bytes programmed into the boot flash from `a`. -/
def flashWrite (a : Nat) (b : Bytes) (s : State) : State := { s with flash := Mem.write flashBlank s.flash a b }

/-! ### Rows of like things -/

def outlet (s : State) (n : Nat) : Outlet := Tab.get Outlet.reset s.outs n

/-- An outlet as it is in effect since the last edge (R57). -/
def outShown (s : State) (n : Nat) : Outlet := Tab.get Outlet.reset s.outsF n

def onOutlet (n : Nat) (f : Outlet → Outlet) (s : State) : State := { s with outs := Tab.upd s.outs n f }

def coil (s : State) (c : Nat) : Coil := Tab.get Coil.reset s.mtx.coil c

def onCoil (c : Nat) (f : Coil → Coil) (s : State) : State := { s with mtx.coil := Tab.upd s.mtx.coil c f }

def group (s : State) (g : Nat) : Group := Tab.get Group.reset s.mtx.grp g

def onGroup (g : Nat) (f : Group → Group) (s : State) : State := { s with mtx.grp := Tab.upd s.mtx.grp g f }

def busSt (s : State) (b : Nat) : BusSt := Tab.get BusSt.reset s.mtx.bus b

def onBus (b : Nat) (f : BusSt → BusSt) (s : State) : State := { s with mtx.bus := Tab.upd s.mtx.bus b f }

def isoMon (s : State) (n : Nat) : IsoMon := Tab.get IsoMon.reset s.saf.iso n

def onIso (n : Nat) (f : IsoMon → IsoMon) (s : State) : State := { s with saf.iso := Tab.upd s.saf.iso n f }

def sIn (s : State) (i : Nat) : SIn := Tab.get SIn.reset s.saf.sin i

def onSIn (i : Nat) (f : SIn → SIn) (s : State) : State := { s with saf.sin := Tab.upd s.saf.sin i f }

def sOut (s : State) (x : Nat) : SOut := Tab.get SOut.reset s.saf.sout x

def onSOut (x : Nat) (f : SOut → SOut) (s : State) : State := { s with saf.sout := Tab.upd s.saf.sout x f }

/-- A stream as frozen for the running tempo (R55). -/
def fzVal (s : State) (k : Nat) : Int := (Tab.get Stream.reset s.fz.strm k).val

/-- A new value of a measurement stream, in the running tempo. -/
def strmPut (k : Nat) (v : Int) (s : State) : State :=
  { s with strm := Tab.upd s.strm k (fun _ => ⟨v, some s.tmp.now⟩) }

/-- Each of the indices below `n`, in order. -/
def eachUpTo (n : Nat) (f : Nat → State → State) (s : State) : State := (List.range n).foldl (fun t i => f i t) s

/-- Tempos since `t`. -/
def sinceT (s : State) (t : Nat) : Nat := s.tmp.now - t

/-! ### Time -/

/-- The length of the running tempo in units of 2⁻¹⁶ ÷ 10,000 ns (R67). -/
def tempoSpan (s : State) : Nat := rget s F.TMP_INCR_INCR * s.tmp.len

/-- Chain time at the edge that will end the running tempo, ns. -/
def nextEdge (s : State) : Nat :=
  if !s.tmp.begun then s.tmp.chain else s.tmp.chain + (s.tmp.frac + tempoSpan s) / 655360000

/-- Whether a chain-time multiple of `p` ns, plus `o`, falls in the running tempo. -/
def crossesAt (s : State) (p o : Nat) : Bool :=
  decide (p ≠ 0) && decide ((s.tmp.chain + p - o % p - 1) / p ≠ (nextEdge s + p - o % p - 1) / p)

/-! ### The SAF event queue -/

/-- An entry posted to the SAF event queue; a full queue drops it and advances SAF_EVQOVF (R25, R205). DATA bytes 1 to 5,
which R205 does not give, are free (log entry 4). -/
def safPostAt (t source code data : Nat) (s : State) : State :=
  if s.saf.evq.length < 256 then
    let v := freeNat s
    { v.2 with saf.evq := v.2.saf.evq ++ [⟨t, source, code, data % 256 + 256 * (v.1 % 2 ^ 40)⟩] }
  else rsat F.SAF_EVQOVF_COUNT 1 s

/-- An entry posted during a tempo carries the chain time of the edge that ends it. -/
def safPost (source code data : Nat) (s : State) : State := safPostAt (nextEdge s) source code data s

end Sys2Proof.Machine
end

