-- ==== Sys2Proof/Machine/Flags.lean ====
section
/-!
DEFINITION. Flag groups: setting W1C flags with their event counter (R38–R41) and, for MTX_FLAGS, SAF_FLAGS and
SIO_FLAGS, the SAF event queue (R205); length errors (R44, R45).
-/

namespace Sys2Proof.Machine

/-- The event source of R205 of a flag register, where it has one. -/
def flagSource (addr : Nat) : Option Nat :=
  if addr = 0x10080008 then some 0x06 else if addr = 0x10060008 then some 0x07
  else if addr = 0x10150010 then some 0x08 else none

/-- One flag set, with its event-queue entry where R205 names one; `data` is the entry's DATA0. -/
def flagSet (data : Nat) (f : Fld) (s : State) : State :=
  let s1 := rput f 1 s
  match flagSource f.addr with
  | some src => safPost src f.lo data s1
  | none => s1

/-- Hardware sets flags of one group in one cycle: the flags, one step of the group's event counter (R39), and the SAF
event-queue entries (R205). -/
def raiseData (data : Nat) (cnt : Fld) (fl : List Fld) (s : State) : State :=
  rsat cnt 1 (fl.foldl (fun t f => flagSet data f t) s)

def raise (cnt : Fld) (fl : List Fld) (s : State) : State := raiseData 0 cnt fl s

def raiseIf (b : Bool) (cnt : Fld) (fl : List Fld) (s : State) : State := if b then raise cnt fl s else s

/-- A flag of SAF_FLAGS set. -/
def raiseSaf (f : Fld) (s : State) : State := raise F.SAF_EVCNT_COUNT [f] s

/-- A flag of MTX_FLAGS set. -/
def raiseMtx (f : Fld) (s : State) : State := raise F.MTX_EVCNT_COUNT [f] s

/-- A flag of SIO_FLAGS set, for an input or output. -/
def raiseSio (f : Fld) (ch : Nat) (s : State) : State := raiseData ch F.SIO_EVCNT_COUNT [f] s

/-- A flag of OUTn_FLAGS set. -/
def raiseOut (n : Nat) (f : Nat → Fld) (s : State) : State := raise (F.OUT_EVCNT_COUNT n) [f n] s

/-- A flag of LEA_FLAGS set. -/
def raiseLea (f : Fld) (s : State) : State := raise F.LEA_EVCNT_COUNT [f] s

/-- The event counters of every flag group. -/
def evCounters : List Fld :=
  [F.SYS_EVCNT_COUNT, F.RST_EVCNT_COUNT, F.PWR_EVCNT_COUNT, F.CLK_EVCNT_COUNT, F.TMP_EVCNT_COUNT, F.BRD_EVCNT_COUNT, F.SAF_EVCNT_COUNT,
   F.MTX_EVCNT_COUNT, F.MTR_EVCNT_COUNT, F.BIL_EVCNT_COUNT, F.VEH_EVCNT4_COUNT, F.VEH_EVCNT5_COUNT, F.NET_EVCNT_COUNT, F.LEA_EVCNT_COUNT,
   F.YRD_EVCNT_COUNT, F.OPT_EVCNT_COUNT, F.HFR_EVCNT_COUNT, F.LCD_EVCNT_COUNT, F.LCH_EVCNT_COUNT, F.KEY_EVCNT_COUNT, F.FWU_EVCNT_COUNT,
   F.SIO_EVCNT_COUNT, F.PER_EVCNT_COUNT]
  ++ (List.range 4).map (fun n => F.OUT_EVCNT_COUNT n) ++ (List.range 4).map (fun p => F.VEH_EVCNT_COUNT p)

/-- What `f` does happens in one cycle: a group of which it sets several flags counts once (R39). -/
def oneCycle (f : State → State) (s : State) : State :=
  let t := f s
  evCounters.foldl (fun u c => if rget s c < rget t c then rput c (rget s c + 1) u else u) t

/-! ### Clearing by mask (R32, R37, R41) -/

/-- A field's old value with the bits cleared that `x` has. -/
def clearBits (old x : Nat) : Nat := old - (old &&& x)

/-- Whether a register is a counter with CLR: COUNT from bit 0, read-only, and CLR at bit 31 (R41, R45). -/
def hasClr (fl : List FldRow) : Bool :=
  fl.any (fun f => f.acc == .wo && f.lo == 31) && fl.any (fun f => f.acc == .ro && f.lo == 0)

/-- The W1C flags of the register at `a` cleared where `mask` has a 1, and COUNT of a counter register cleared by a 1 at
its CLR, bit 31. -/
def clearFlags (a : Nat) (fl : List FldRow) (mask : Nat) (s : State) : State :=
  let s1 := fl.foldl (fun t f =>
    if f.acc == .w1c then rput (f.at a) (clearBits (rget t (f.at a)) (field mask f.lo f.width)) t else t) s
  if hasClr fl && mask.testBit 31 then rput ⟨a, 0, 16, 0⟩ 0 s1 else s1

/-- Whether a register holds W1C flags, or is a counter with CLR. -/
def clearable (fl : List FldRow) : Bool := fl.any (fun f => f.acc == .w1c) || hasClr fl

/-- FLAGCLR: block index, offset and mask, for the blocks a mailbox reaches; `none` where the argument names none of
their registers. -/
def flagClr (blocks : List Nat) (p : Bytes) (s : State) : Option State :=
  let b := u32 p 0
  let a := 0x10000000 + 0x10000 * b + u32 p 4
  match regFields a with
  | some fl => if b ∈ blocks ∧ u32 p 4 < 0x10000 ∧ clearable fl then some (clearFlags a fl (u32 p 8) s) else none
  | none => none

/-- IENSET: block index, offset and value, for the enable registers a mailbox reaches (R79). -/
def ienSet (iens : List Fld) (p : Bytes) (s : State) : Option State :=
  match iens.find? (fun f => f.addr == 0x10000000 + 0x10000 * u32 p 0 + u32 p 4 && decide (u32 p 4 < 0x10000)) with
  | some f => some (rput f (u32 p 8) s)
  | none => none

end Sys2Proof.Machine
end

