-- ==== Sys2Proof/Machine/Operands.lean ====
section
/-!
DEFINITION. What the layout sections in force say: every field of ROLE, SCHEDULE, BOARD, SAFETY, OUTLETS, MATRIX and
NETWORK read from the section's bytes at the offset its table gives (R80). A section that is absent reads as zeros.
-/

namespace Sys2Proof.Machine

/-- The bytes of the section of the given type. -/
def sec (s : State) (t : Nat) : Bytes := Tab.get [] s.sec t

/-! ### ROLE (section 0x01) -/

def isPost (s : State) : Bool := s.loaded && u8 (sec s 1) 0 == 1
def isCabinet (s : State) : Bool := s.loaded && u8 (sec s 1) 0 == 0
def isCoord (s : State) : Bool := s.loaded && u8 (sec s 1) 1 == 1
def clkHoldMode (s : State) : Bool := u8 (sec s 1) 2 == 1
def timeSrc (s : State) : Nat := u8 (sec s 1) 3
def siteId (s : State) : Nat := u32 (sec s 1) 4

/-! ### SCHEDULE (section 0x0B) -/

def slotDuty (s : State) (k : Nat) : Nat := rget s (F.TMP_SLOT_DUTY k)
def slotDeadline (s : State) (k : Nat) : Nat := rget s (F.TMP_SLOT_DEADLINE k)

/-- The slots whose duty is not NONE (R87). -/
def usedSlots (s : State) : List Nat := (List.range 16).filter (fun k => slotDuty s k != 0xF)

/-- The slot that names a duty. -/
def slotOf (s : State) (d : Nat) : Option Nat := (usedSlots s).find? (fun k => slotDuty s k == d)

/-! ### OUTLETS (section 0x05): record n at 128 × n -/

def oU8 (s : State) (n off : Nat) : Nat := u8 (sec s 5) (128 * n + off)
def oU16 (s : State) (n off : Nat) : Nat := u16 (sec s 5) (128 * n + off)

def oType (s : State) (n : Nat) : Nat := oU8 s n 0
def oComm (s : State) (n : Nat) : Nat := oU8 s n 1
def oVport (s : State) (n : Nat) : Nat := oU8 s n 2
def oBidir (s : State) (n : Nat) : Bool := (oU8 s n 3).testBit 0
def oLock (s : State) (n : Nat) : Bool := (oU8 s n 3).testBit 1
def oAux (s : State) (n : Nat) : Bool := (oU8 s n 3).testBit 2
def oIrated (s : State) (n : Nat) : Nat := oU16 s n 4
def oVrated (s : State) (n : Nat) : Nat := oU16 s n 6
def oBuses (s : State) (n : Nat) : Nat := oU8 s n 8
def oMv (s : State) (n : Nat) : Nat := oU8 s n 9
def oMi (s : State) (n : Nat) : Nat := oU8 s n 0xA
def oLockLc (s : State) (n : Nat) : Nat := oU8 s n 0xB
def oLockFb (s : State) (n : Nat) : Nat := oU8 s n 0xC
def oAuxLc (s : State) (n : Nat) : Nat := oU8 s n 0xD
/-- Coil KP, KN, BRP, BRN, DIS for k = 0 to 4; 0x40 where absent. -/
def oCoil (s : State) (n k : Nat) : Nat := oU8 s n (0x10 + k)
/-- Mirror contact of coil k; 0x40 where absent. -/
def oFb (s : State) (n k : Nat) : Nat := oU8 s n (0x18 + k)
def oNconfirm (s : State) (n : Nat) : Nat := oU8 s n 0x20
/-- A timer in tempos, from a field in milliseconds. -/
def oMs (s : State) (n off : Nat) : Nat := 20 * oU16 s n off
/-- A timer in tempos, from a field in seconds. -/
def oSec (s : State) (n off : Nat) : Nat := 20000 * oU16 s n off
def oTlock (s : State) (n : Nat) : Nat := oMs s n 0x22
def oTauth (s : State) (n : Nat) : Nat := oSec s n 0x24
def oTneg (s : State) (n : Nat) : Nat := oSec s n 0x26
def oTcc (s : State) (n : Nat) : Nat := oSec s n 0x28
def oTpc (s : State) (n : Nat) : Nat := oSec s n 0x2A
def oTfwwd (s : State) (n : Nat) : Nat := oMs s n 0x2C
def oTrd (s : State) (n : Nat) : Nat := oMs s n 0x2E
def oTzc (s : State) (n : Nat) : Nat := oMs s n 0x30
def oTevopen (s : State) (n : Nat) : Nat := oMs s n 0x32
def oTweld (s : State) (n : Nat) : Nat := oMs s n 0x34
def oRamp (s : State) (n : Nat) : Nat := oU16 s n 0x36
def oIcc (s : State) (n : Nat) : Nat := oU16 s n 0x38
def oIpc (s : State) (n : Nat) : Nat := oU16 s n 0x3A
def oPcTol (s : State) (n : Nat) : Nat := oU16 s n 0x3C
def oProxLo (s : State) (n : Nat) : Nat := oU16 s n 0x3E
def oProxHi (s : State) (n : Nat) : Nat := oU16 s n 0x40
def oTacresp (s : State) (n : Nat) : Nat := oMs s n 0x42

/-- Outlet types of R112. -/
def tyNone : Nat := 0
def tyGbt : Nat := 3
def tyAc3 : Nat := 4
def tyCcs : Nat := 2

/-! ### MATRIX (section 0x06) -/

def mNgroup (s : State) : Nat := u8 (sec s 6) 0
def mNbus (s : State) : Nat := u8 (sec s 6) 1
def mNxp (s : State) : Nat := u8 (sec s 6) 2
def mNdrv (s : State) : Nat := u8 (sec s 6) 3
def mNser (s : State) : Nat := u8 (sec s 6) 4
def mMaxpar (s : State) : Nat := u8 (sec s 6) 6
def mGuar (s : State) : Nat := u8 (sec s 6) 7
def mTsettle (s : State) : Nat := 20 * u16 (sec s 6) 8
def mTxzc (s : State) : Nat := 20 * u16 (sec s 6) 0xA
def mTvmatch (s : State) : Nat := 20 * u16 (sec s 6) 0xC
def mGrpRamp (s : State) : Nat := u16 (sec s 6) 0xE
def mVmatchTol (s : State) : Nat := u16 (sec s 6) 0x10
def mArc (s : State) : Nat := u16 (sec s 6) 0x12
def mWearMax (s : State) : Nat := u32 (sec s 6) 0x14
def mCanmap (s : State) : Nat := u16 (sec s 6) 0x18
def mCoilUsed (s : State) (c : Nat) : Bool := (u8 (sec s 6) (0x20 + 4 * c)).testBit 0
def mCoilFb (s : State) (c : Nat) : Nat := u8 (sec s 6) (0x20 + 4 * c + 1)
/-- A coil's settling time in tempos: its own where OWNSET, else T_SETTLE. -/
def mSettle (s : State) (c : Nat) : Nat :=
  if (u8 (sec s 6) (0x20 + 4 * c)).testBit 1 then 20 * u16 (sec s 6) (0x20 + 4 * c + 2) else mTsettle s
def mXpGroup (s : State) (x : Nat) : Nat := u8 (sec s 6) (0x120 + 4 * x)
def mXpBus (s : State) (x : Nat) : Nat := u8 (sec s 6) (0x120 + 4 * x + 1)
def mXpCoil (s : State) (x : Nat) : Nat := u8 (sec s 6) (0x120 + 4 * x + 2)
def mGirated (s : State) (g : Nat) : Nat := u16 (sec s 6) (0x1E0 + 8 * g + 2)
def mGvmax (s : State) (g : Nat) : Nat := u16 (sec s 6) (0x1E0 + 8 * g + 4)
def mGbidir (s : State) (g : Nat) : Bool := (u8 (sec s 6) (0x1E0 + 8 * g + 6)).testBit 0
def mGhome (s : State) (g : Nat) : Nat := u8 (sec s 6) (0x1E0 + 8 * g + 7)
def mVch (s : State) (b : Nat) : Nat := u8 (sec s 6) (0x260 + 8 * b)
def mPrio (s : State) (b : Nat) : Nat := u8 (sec s 6) (0x260 + 8 * b + 1)
def mPost (s : State) (b : Nat) : Nat := u8 (sec s 6) (0x260 + 8 * b + 2)

/-! ### SAFETY (section 0x04) -/

def sGuardA (s : State) : Nat := u8 (sec s 4) 1
def sGuardB (s : State) : Nat := u8 (sec s 4) 2
def sDueDays (s : State) : Nat := u8 (sec s 4) 3
def sProofDays (s : State) : Nat := u16 (sec s 4) 4
def sGuardDisc (s : State) : Nat := 20 * u16 (sec s 4) 6
def sMinOpen (s : State) : Nat := 2000 * u16 (sec s 4) 8
def sMaxOpen (s : State) : Nat := 1200000 * u16 (sec s 4) 0xA
/-- TP_PERIOD in ns. -/
def sTpPeriod (s : State) : Nat := 1000000 * u16 (sec s 4) 0xC
/-- TP_PW in µs. -/
def sTpPw (s : State) : Nat := u8 (sec s 4) 0xE
def sRcMask (s : State) (n : Nat) : Bool := (u8 (sec s 4) 0xF).testBit n
def sRcAny (s : State) : Bool := u8 (sec s 4) 0xF != 0
def sRcCh (s : State) : Nat := u8 (sec s 4) 0x10
def sIsoWarn (s : State) : Nat := u16 (sec s 4) 0x12
def sIsoFault (s : State) : Nat := u16 (sec s 4) 0x14
/-- SO_TESTPER in tempos. -/
def sSoTestPer (s : State) : Nat := 20000 * u16 (sec s 4) 0x16
def sInUsed (s : State) (i : Nat) : Bool := (u8 (sec s 4) (0x20 + 4 * i)).testBit 0
def sInType3 (s : State) (i : Nat) : Bool := (u8 (sec s 4) (0x20 + 4 * i)).testBit 1
def sInSrc (s : State) (i : Nat) : Nat := u8 (sec s 4) (0x20 + 4 * i + 1)
def sInFilter (s : State) (i : Nat) : Nat := u8 (sec s 4) (0x20 + 4 * i + 2)
def sIsoMiso (s : State) (n : Nat) : Nat := u8 (sec s 4) (0x80 + 8 * n)
def sIsoUsed (s : State) (n : Nat) : Bool := (u8 (sec s 4) (0x80 + 8 * n + 1)).testBit 0
def sIsoRb (s : State) (n : Nat) : Nat := u16 (sec s 4) (0x80 + 8 * n + 2)
def sIsoRm (s : State) (n : Nat) : Nat := u16 (sec s 4) (0x80 + 8 * n + 4)
def sResetKey (s : State) : Bytes := slice (sec s 4) 0xB0 64

/-! ### NETWORK (section 0x0A) -/

def nCabAddr (s : State) : Nat := u8 (sec s 10) 1
def nStopEv (s : State) : Nat := u8 (sec s 10) 2
def nStopRx (s : State) : Bool := (u8 (sec s 10) 3).testBit 0
def nStopMate (s : State) : Bool := (u8 (sec s 10) 3).testBit 1
def nYlen (s : State) : Bool := (u8 (sec s 10) 3).testBit 2
def nLden (s : State) : Bool := (u8 (sec s 10) 3).testBit 3
def nRepeater (s : State) : Bool := (u8 (sec s 10) 3).testBit 4
def nYlTk (s : State) : Nat := u8 (sec s 10) 7
def nSgMode (s : State) (k : Nat) : Nat := u8 (sec s 10) (8 + k)
def nCableDly (s : State) : Nat := u16 (sec s 10) 0xA

/-! ### METER (section 0x07, R248): the use of a channel -/

def tU8 (s : State) (i : Nat) : Nat := u8 (sec s 7) i
/-- Offset of channel record c. -/
def cOff (c : Nat) : Nat := 0x40 + 256 * c
def cUse (s : State) (c : Nat) : Nat := tU8 s (cOff c)
/-- The channel of USE RC (R214, R527). -/
def rcChannel (s : State) : Option Nat := (List.range 16).find? (fun c => cUse s c == 6)

/-! ### Outlet measurements and the state shared by the sequencer's conditions -/

/-- Outlet voltage in mV, as frozen (stream of channel MV). -/
def oVmv (s : State) (n : Nat) : Int := fzVal s (oMv s n)

/-- Outlet voltage in 0.1 V, magnitude. -/
def oV (s : State) (n : Nat) : Nat := (oVmv s n).natAbs / 100

/-- Outlet current in mA, signed, positive for import (stream of channel MI). -/
def oIma (s : State) (n : Nat) : Int := fzVal s (oMi s n)

/-- HV_PRESENT: more than 60 V at the outlet (R95); for an alternating voltage, in a sample of the last 25 ms (DESIGN CHOICE, log
entry 171). -/
def hvPresent (s : State) (n : Nat) : Bool :=
  if oType s n = tyAc3 then match (outlet s n).hvAt with | some t => decide (sinceT s t ≤ 500) | none => false
  else decide (60000 < (oVmv s n).natAbs)

/-- A feedback input as held since the last strobe; an absent input reads open. -/
def fbIn (s : State) (i : Nat) : Bool := decide (i < 64) && s.mtx.fb.testBit i

/-- CAN0 and CAN1 belong to the matrix controller in cabinet role, which configures them with AUTOREC = 1 (R321). -/
def matrixCan (s : State) (k : Nat) : Bool := isCabinet s && decide (k < 2)

/-- The controller is on: by its EN bit, or as the matrix controller's (R321). -/
def canEn (s : State) (k : Nat) : Bool := matrixCan s k || rbit s (F.VEH_CANCFG_EN k)

/-- The controller runs, and is not in bus-off. -/
def canRuns (s : State) (k : Nat) : Bool := s.pwr.vehOn && canEn s k && rget s (F.VEH_CANST_ERRST k) != 2

/-- Whether an outlet record is in use in this role. -/
def oActive (s : State) (n : Nat) : Bool := isPost s && oType s n != tyNone

end Sys2Proof.Machine
end

