-- ==== Sys2Proof/Machine/Image.lean ====
section
/-!
DEFINITION. Images in the flash and in the staging area (12): slots, the boot record, manifests and their block digests.
-/

namespace Sys2Proof.Machine

/-! ### Flash map (R367) -/

/-- Class 0 application, 1 legal, 2 layout; slot 0 A, 1 B. -/
def slotBase (c slot : Nat) : Nat :=
  if c = 0 then (if slot = 0 then 0x01000000 else 0x04100000)
  else if c = 1 then (if slot = 0 then 0x00100000 else 0x00200000)
  else (if slot = 0 then 0x00400000 else 0x00900000)

/-- The image region of a class, and the largest IMGLEN its manifest may give (R367, R369). -/
def classRegion (c : Nat) : Nat := if c = 0 then 0x3000000 else if c = 1 then 0x80000 else 0x400000

def classMax (c : Nat) : Nat := if c = 1 then 196608 else classRegion c

def stagedMan : Nat := 0x9F0000000
def stagedImg : Nat := 0x9F0010000

/-! ### The boot record (R368) -/

def recBytes (s : State) (k : Nat) : Bytes := flashRead s (0x10000 * k) 64

def recValid (b : Bytes) : Bool :=
  decide (b.take 4 = [0x42, 0x52, 0x4B, 0x4F]) && decide (u32 b 0x3C = crc32 (b.take 0x3C))

/-- The copy in force: the valid one of higher SEQ, by its index. -/
def recIndex (s : State) : Option Nat :=
  let a := recBytes s 0
  let b := recBytes s 1
  if recValid a then (if recValid b ∧ u32 a 4 < u32 b 4 then some 1 else some 0)
  else if recValid b then some 1 else none

/-- The record in force; where neither copy is valid, slot A for every class and no trial. -/
def bootRec (s : State) : Bytes :=
  match recIndex s with
  | some k => recBytes s k
  | none => List.replicate 64 0

def recActive (s : State) : Nat := u8 (bootRec s) 8 % 8
def recTry (s : State) : Nat := u8 (bootRec s) 9 % 8
def recTrial (s : State) : Nat := u8 (bootRec s) 0xA
def recUnconf (s : State) : Nat := u8 (bootRec s) 0xB % 8

def activeSlot (s : State) (c : Nat) : Nat := bitAt (recActive s) c

/-- A new record written into the other copy, contents first and CRC last (R368). -/
def recWrite (active try_ trial unconf actId : Nat) (s : State) : State :=
  let seq := u32 (bootRec s) 4 + 1
  let k := match recIndex s with | some 0 => 1 | _ => 0
  let body := ([0x42, 0x52, 0x4B, 0x4F] : Bytes) ++ leBytes 4 seq ++ leBytes 1 active ++ leBytes 1 try_ ++ leBytes 1 trial
    ++ leBytes 1 unconf ++ leBytes 2 actId ++ List.replicate 46 0
  flashWrite (0x10000 * k) (body ++ leBytes 4 (crc32 body)) s

/-! ### Manifests (R369) -/

def manCls (m : Bytes) : Nat := u8 m 8
def manSecver (m : Bytes) : Nat := u16 m 0xA
def manNblock (m : Bytes) : Nat := u32 m 0xC
def manImglen (m : Bytes) : Nat := u32 m 0x10
def manManlen (m : Bytes) : Nat := u32 m 0x14
def manVersion (m : Bytes) : Bytes := slice m 0x18 8
def manImgdig (m : Bytes) : Bytes := slice m 0x20 32
def manBlkdig (m : Bytes) (k : Nat) : Bytes := slice m (0x80 + 32 * k) 32

/-- Sizes and structure of a manifest for class c: R44's limits first, then the fixed fields of R369. -/
def manSizesOk (m : Bytes) (c : Nat) : Bool :=
  decide (manImglen m ≤ classMax c) && decide (manManlen m ≤ 65536)

def manFormOk (m : Bytes) (c : Nat) : Bool :=
  decide (m.take 4 = [0x4D, 0x46, 0x4B, 0x4F]) && decide (u16 m 4 = 1) && decide (u16 m 6 = 128) && decide (manCls m = c)
    && decide (u16 m 0x54 = 0x4810) && decide (u8 m 0x56 = 0xB1)
    && decide (manNblock m = ceilDiv (manImglen m) 65536) && decide (manManlen m = 448 + 32 * manNblock m)

/-- Length of block k of an image. -/
def blockLen (imgLen k : Nat) : Nat := min 65536 (imgLen - 65536 * k)

/-- Every block and the whole image against their digests, read through `rd`. -/
def digestsOk (rd : Nat → Nat → Bytes) (m : Bytes) : Bool :=
  (List.range (manNblock m)).all (fun k =>
      decide (Config.sm3 (rd (65536 * k) (blockLen (manImglen m) k)) = manBlkdig m k))
    && decide (Config.sm3 (rd 0 (manImglen m)) = manImgdig m)

/-- The manifest in a slot of the flash, and the image region read. -/
def slotMan (s : State) (c slot : Nat) : Bytes := flashRead s (slotBase c slot) 65536

def slotRead (s : State) (c slot off n : Nat) : Bytes := flashRead s (slotBase c slot + 0x10000 + off) n

/-- STAGED of R377: the inactive slot holds a complete image; while an activation is pending, the one it names (log
entry 30). -/
def stagedBit (s : State) (c : Nat) : Bool :=
  let slot := 1 - activeSlot s c
  let m := slotMan s c slot
  manFormOk m c && manSizesOk m c && digestsOk (slotRead s c slot) m
    && (s.fwu.act = 0 || !s.fwu.mask.testBit c || decide ((manImgdig m).take 16 = slice s.fwu.digs (16 * c) 16))
    && (match s.fwu.busy with | some (1, a) => a != c | _ => true)

def stagedBits (s : State) : Nat := bitsOf 3 (stagedBit s)

/-! ### Digests held in registers (R53) -/

/-- Eight registers as 32 bytes. -/
def digestOf (s : State) (f : Nat → Fld) : Bytes := (List.range 8).flatMap (fun k => digestBytes (rget s (f k)))

def digestPut (f : Nat → Fld) (b : Bytes) (s : State) : State := eachUpTo 8 (fun k t => rput (f k) (digestWord b k) t) s

/-- The serial number as the 8 bytes of R526. -/
def serialBytes (s : State) : Bytes := leBytes 8 s.fuse.serial

end Sys2Proof.Machine
end

