-- ==== Sys2Proof/Machine/Reset.lean ====
section
/-!
DEFINITION. A reset and a wake source (17): what a reset clears and what AON keeps (R494–R499), and what a wake source does
in each state (R468, R470–R474).
-/

namespace Sys2Proof.Machine

/-! ### Reset -/

/-- The causes of R494 by their bit. -/
def rcPor : Nat := 0
def rcPin : Nat := 1
def rcWakefail : Nat := 2
def rcWdog : Nat := 3
def rcBootto : Nat := 4
def rcSwrst : Nat := 5
def rcActivate : Nat := 6
def rcRecovery : Nat := 7
def rcS4wake : Nat := 8

/-- The register fields AON keeps over every reset but POR (R497). -/
def aonFields : List Fld :=
  [F.PWR_WAKESRC_TSRC, F.PWR_WAKESRC_FIRST, F.PWR_WAKESRC_SEEN, F.PWR_WAKEEN_EN, F.PWR_WAKETIMELO_TIME, F.PWR_WAKETIMEHI_TIME,
   F.PWR_ALARMLO_TICKS, F.PWR_ALARMHI_TICKS, F.LCD_BAND_SEG 0, F.LCD_BAND_SEG 1, F.LCD_BAND_SEG 2, F.LCD_BAND_SEG 3]

/-- The lowest set bit of a 9-bit cause mask. -/
def lowestCause (m : Nat) : Nat := ((List.range 9).find? (fun b => m.testBit b)).getD 0

/-- A start before the option bytes are read: a further cause joins the same stretch (R496). -/
def inStretch (s : State) : Bool := s.pwr.boot == .stretch || s.pwr.boot == .optLoad

/-- What every reset leaves of the machine: the FRAM, the flash, the fuses and the commands waiting; DRAM contents are
undefined after it (R497; log entry 2). -/
def resetBase (s : State) : State :=
  { State.reset with pending := s.pending, flash := s.flash, freeCtr := s.freeCtr, fram := s.fram, fuse := s.fuse }

/-- What AON keeps over a reset other than POR (R497): MATE, addresses, the failed starts, residency, wake records, the
RTC, and clock HOLD. -/
def resetAon (s t : State) : State :=
  let t1 := aonFields.foldl (fun u f => rput f (rget s f) u) t
  { t1 with saf.held := s.saf.held, saf.kept := s.saf.held, saf.hold := s.saf.hold, lea.addr := s.lea.addr,
            pwr.failCnt := s.pwr.failCnt, pwr.resid := s.pwr.resid, pwr.rtc := s.pwr.rtc, pwr.pinLow := s.pwr.pinLow,
            pwr.pfw := s.pwr.pfw, pwr.aonClock := s.pwr.aonClock, pwr.clkRet := s.pwr.clkRet, pwr.holdAt := s.pwr.rtc }

/-- A reset with its cause: the stretch begins, SEEN and PRIMARY record it, and a start that never reached RST_BOOTOK
counts as failed (R494, R499). -/
def doReset (cause : Nat) (s : State) : State :=
  let seen := if inStretch s then setBit (rget s F.RST_CAUSE_SEEN) cause true else 2 ^ cause
  let t := if cause = rcPor then resetBase s else resetAon s (resetBase s)
  let fails :=
    if cause = rcPor then 0
    else if inStretch s ∨ cause = rcRecovery ∨ s.pwr.bootOk then s.pwr.failCnt
    else min 15 (s.pwr.failCnt + 1)
  { t with pwr.failCnt := fails } |> rput F.RST_CAUSE_SEEN seen |> rput F.RST_CAUSE_PRIMARY (lowestCause seen)

/-! ### Power states (R464) -/

/-- A block of the NET domain runs. -/
def netOn (s : State) : Bool := s.pwr.netOn && (s.pwr.boot == .running || s.pwr.boot == .stalemate)

def appOn (s : State) : Bool := s.pwr.appOn && s.pwr.boot == .running
def vehOn (s : State) : Bool := s.pwr.vehOn && s.pwr.boot == .running
def dramOn (s : State) : Bool := s.pwr.dramOn && (s.pwr.boot == .running || s.pwr.boot == .stalemate)

def PwrSt.code : PwrSt → Nat
  | .s0 => 0 | .s1 => 1 | .s2 => 2 | .s3 => 3 | .s4 => 4

/-- The module is in a state, the previous one recorded (PWR_STATE). -/
def pwrGo (st : PwrSt) (s : State) : State :=
  { s with pwr.prev := if s.pwr.sys = st then s.pwr.prev else s.pwr.sys, pwr.sys := st }

def raisePwr (f : Fld) (s : State) : State := raise F.PWR_EVCNT_COUNT [f] s

/-- A refused or aborted request with its reason (PWR_STATE.REFUSE). -/
def pwrRefuse (code : Nat) (f : Fld) (s : State) : State := raisePwr f (rput F.PWR_STATE_REFUSE code s)

/-- A switch of the reference multiplexer between two running sources begins (R487). -/
def refSwitch (to_ : Nat) (s : State) : State :=
  if rget s F.CLK_REFSEL_ACT = to_ then s else rput F.CLK_REFSEL_BUSY 1 { s with pwr.clkTo := to_ }

/-! ### Wake sources (R470) -/

/-- The states in which a source acts. -/
def wakeStates (k : Nat) : List PwrSt :=
  if k ≤ 3 ∨ k = 4 ∨ k = 6 ∨ k = 7 then [.s2, .s3, .s4]
  else if k = 5 then [.s3, .s4]
  else if k = 8 ∨ k = 13 ∨ k = 14 then [.s2]
  else if k = 9 ∨ k = 10 ∨ k = 11 then [.s2, .s3]
  else if k = 12 then [.s4]
  else if k = 15 then [.s1]
  else []

/-- The state an entry in progress is bound for (R468). -/
def entryState (s : State) : PwrSt :=
  match s.pwr.entry with
  | .idle t | .quiet t => if t = .s4 then .s3 else t
  | .dormant => .s3
  | _ => s.pwr.sys

/-- A source is enabled and acts in the state the module is in or is entering; after the power-fail path only VINRET does
(R470, R477). -/
def wakeActs (s : State) (k : Nat) : Bool :=
  let en := (rget s F.PWR_WAKEEN_EN).testBit k || k == 11 || k == 12 || k == 15
  en && (wakeStates k).contains (entryState s) && (!s.pwr.pfwFinal || k == 12)

/-- The start of a wake: the first source and the time (R471). -/
def wakeStart (k : Nat) (s : State) : State :=
  let t := if s.pwr.sys = .s4 then s.pwr.rtc else s.bil.legal
  s |> rput F.PWR_WAKESRC_TSRC (b2n (s.pwr.sys == .s4)) |> rput F.PWR_WAKESRC_FIRST k |> rput F.PWR_WAKESRC_SEEN (2 ^ k)
    |> rput F.PWR_WAKETIMELO_TIME (t % 4294967296) |> rput F.PWR_WAKETIMEHI_TIME (t / 4294967296)

/-- A wake source fires: it joins a wake in progress, aborts an entry, or wakes the module (R468–R474). A request for S1 that the
cores have not completed stays (R465). -/
def wakeFire (k : Nat) (s : State) : State :=
  if !s.pwr.aonOn ∨ (s.pwr.boot != .running ∧ s.pwr.sys ≠ .s4) then s
  else if s.pwr.entry = .waking then
    if (rget s F.PWR_WAKEEN_EN).testBit k ∨ k = 11 ∨ k = 15 then
      rput F.PWR_WAKESRC_SEEN (setBit (rget s F.PWR_WAKESRC_SEEN) k true) s
    else s
  else if !wakeActs s k then s
  else
    let s1 := wakeStart k s
    match s.pwr.entry with
    | .idle .s1 => s
    | .idle .s2 => { s1 with pwr.entry := .none } |> pwrRefuse 8 F.PWR_FLAGS_ABORT
    | .quiet _ | .dormant => { s1 with pwr.entry := .waking, pwr.wakeStep := 0, pwr.wakeRetry := false, pwr.resumed := false } |> pwrRefuse 8 F.PWR_FLAGS_ABORT
    | _ =>
      match s.pwr.sys with
      | .s1 => raisePwr F.PWR_FLAGS_WAKE (pwrGo .s0 { s1 with pwr.entry := .none, pwr.wfi := false })
      | .s4 => doReset rcS4wake { s1 with pwr.pfw := false, pwr.pfwFinal := false }
      | _ => { s1 with pwr.entry := .waking, pwr.wakeStep := 0, pwr.wakeRetry := false, pwr.resumed := false }

/-- An application core runs, in the boot ROM or your firmware. -/
def coresRun (s : State) : Bool := s.pwr.appOn && (s.pwr.boot == .rom || s.pwr.boot == .running || s.pwr.boot == .stalemate)

/-- A cause of R49 sets: one NMI on every application core that runs, which also ends S1 (R465; log entry 179). -/
def nmi (f : Fld) (s : State) : State :=
  wakeFire 15 (rput f 1 (if coresRun s && rget s f == 0 then { s with pwr.nmi := s.pwr.nmi + 1 } else s))

end Sys2Proof.Machine
end

