-- ==== Sys2Proof/Machine/Meter.lean ====
section
/-!
DEFINITION. The metering engine (08): the METER section, decimator outputs and their correction, temperatures, pilot-tone
gain tracking, power and energy, metering faults and readiness, the AC intake with its grid events, pulse I/O, and the
capture ring.
-/

namespace Sys2Proof.Machine

/-! ### METER section (section 0x07, R248) -/

def tFnom (s : State) : Nat := tU8 s 1
/-- UNOM in mV. -/
def tUnom (s : State) : Nat := 100 * u16 (sec s 7) 4
def tSag (s : State) : Nat := tU8 s 6
def tSwell (s : State) : Nat := tU8 s 7
def tIntr (s : State) : Nat := tU8 s 8
def tHyst (s : State) : Nat := tU8 s 9
def tSumPct (s : State) : Nat := tU8 s 0xA
def tPoEp (s : State) : Nat := tU8 s 0xB
def tPoK (s : State) : Nat := u32 (sec s 7) 0xC
def tPoDir (s : State) : Bool := tU8 s 0x10 == 1
def cPil (s : State) (c : Nat) : Nat := tU8 s (cOff c + 2)
def cTsrc (s : State) (c : Nat) : Nat := tU8 s (cOff c + 3)
def cFs (s : State) (c : Nat) : Nat := u32 (sec s 7) (cOff c + 4)
def cOffset (s : State) (c : Nat) : Int := i32 (sec s 7) (cOff c + 8)
def cPilAmp (s : State) (c : Nat) : Nat := u16 (sec s 7) (cOff c + 0xC)
def cChip (s : State) (c : Nat) : Nat := tU8 s (cOff c + 0xE)
def cMaxSd (s : State) (c : Nat) : Nat := tU8 s (cOff c + 0xF)
/-- G_T of point j, ppm, and D_T, ns. -/
def cGt (s : State) (c j : Nat) : Int :=
  let o := cOff c + 0x18 + 6 * j
  toSigned 24 (tU8 s o + 256 * tU8 s (o + 1) + 65536 * tU8 s (o + 2))
def cDt (s : State) (c j : Nat) : Int := i16 (sec s 7) (cOff c + 0x18 + 6 * j + 3)
/-- The channel is a DCI channel with a pilot. -/
def cPilot (s : State) (c : Nat) : Bool := cUse s c == 2 && decide (cPil s c < 4)
def cLegal (s : State) (c : Nat) : Bool := decide (1 ≤ cUse s c) && decide (cUse s c ≤ 4)
/-- Offset of energy point record n. -/
def eOff (n : Nat) : Nat := 0x1040 + 16 * n
def eKind (s : State) (n : Nat) : Nat := tU8 s (eOff n)
def eOutlet (s : State) (n : Nat) : Nat := tU8 s (eOff n + 1)
def eCh (s : State) (n k : Nat) : Nat := tU8 s (eOff n + 2 + k)
/-- ICONF, 0.1 A. -/
def eIconf (s : State) (n : Nat) : Nat := u32 (sec s 7) (eOff n + 0xC)
def eChans (s : State) (n : Nat) : List Nat :=
  (List.range (if eKind s n = 2 then 7 else if eKind s n = 0 then 0 else 2)).map (eCh s n)
/-- The energy point of an outlet. -/
def epOf (s : State) (o : Nat) : Option Nat := (List.range 8).find? (fun n => eKind s n != 0 && eOutlet s n == o)
/-- The energy point of the site intake, and the one whose phases MTR_VRMS and MTR_IRMS show. -/
def epIntake (s : State) : Option Nat := (List.range 8).find? (fun n => eKind s n != 0 && eOutlet s n == 0xFF)
def epAc (s : State) : Option Nat :=
  ((List.range 8).find? (fun n => decide (2 ≤ eKind s n) && eOutlet s n == 0xFF)) <|>
    ((List.range 8).find? (fun n => decide (2 ≤ eKind s n)))

/-- The METER domain runs with a layout. -/
def mtrOn (s : State) : Bool := s.loaded && s.pwr.safeOn

def chan (s : State) (c : Nat) : Chan := Tab.get Chan.reset s.mtr.chan c

def onChan (c : Nat) (f : Chan → Chan) (s : State) : State := { s with mtr.chan := Tab.upd s.mtr.chan c f }

def onPil (c : Nat) (f : PilTrack → PilTrack) (s : State) : State := onChan c (fun k => { k with pil := f k.pil }) s

def raiseMtr (f : Fld) (s : State) : State := raise F.MTR_EVCNT_COUNT [f] s

/-! ### Rounding -/

/-- To the nearest integer, halves upwards (DESIGN CHOICE, log entry 40). -/
def nearest (q : Rat) : Int := (q + 1 / 2).floor

/-- Limited to a signed 32-bit value. -/
def sat32 (x : Int) : Int := clampI (-2147483648) 2147483647 x

/-! ### Metering faults (R236, R237) -/

def sumSt (s : State) (n : Nat) : SumSt := Tab.get SumSt.reset s.mtr.sum n

/-- A point of kind AC4W whose neutral channel is `c` has SUMERR (R245). -/
def sumErrOf (s : State) (c : Nat) : Bool :=
  (List.range 8).any (fun n => eKind s n == 2 && eCh s n 6 == c && (sumSt s n).err)

/-- The metering faults of a channel, by their place in the table of R236. -/
def chanFaults (s : State) (c : Nat) : List Nat :=
  let k := chan s c
  let legal := cLegal s c
  (if k.dead && decide (1 ≤ cUse s c) then [0] else []) ++ (if k.ovr && legal then [1] else [])
    ++ (if k.pil.lost then [2] else []) ++ (if k.pil.bound then [3] else []) ++ (if k.pil.noisy then [4] else [])
    ++ (if k.tstale && legal then [5] else []) ++ (if k.trange && legal then [6] else [])
    ++ (if cUse s c == 5 && sumErrOf s c then [7] else [])

/-- Pilot acquisition: until block 32 has been accepted (R224). -/
def chanAcq (s : State) (c : Nat) : Bool := cPilot s c && decide ((chan s c).pil.k < 32)

def epFault (s : State) (n : Nat) : Bool := (eChans s n).any (fun c => !(chanFaults s c).isEmpty)

def epDead (s : State) (n : Nat) : Bool := (eChans s n).any (fun c => (chan s c).dead)

/-- An energy point is ready (R237). -/
def epIsReady (s : State) (n : Nat) : Bool :=
  eKind s n != 0 && s.bil.calib && !epFault s n && !(eChans s n).any (chanAcq s)

/-- Bit n: the energy point of outlet n is ready; an outlet without one counts as ready. -/
def outletsReady (s : State) : Nat :=
  bitsOf 4 (fun o => match epOf s o with | some n => epIsReady s n | none => true)

/-- A change of the metering faults of a channel: MFAULT for a fault raised and MCLEAR for one cleared, a fault on an energy
point kept for the sealed core (R236, R238). -/
def withFaults (c : Nat) (f : State → State) (s : State) : State :=
  let t := f s
  let a := chanFaults s c
  let b := chanFaults t c
  let up := b.filter (fun x => !a.contains x)
  let down := a.any (fun x => !b.contains x)
  let t1 := if up.isEmpty then t else
    { raiseMtr F.MTR_FLAGS_MFAULT t with
        mtr.faultCode := up.headD 0
        mtr.faultSeen := t.mtr.faultSeen ||| bitsOf 8 (fun n => (eChans t n).contains c) }
  if down then raiseMtr F.MTR_FLAGS_MCLEAR t1 else t1

/-! ### DEAD channels (R208) -/

def chanDead (c : Nat) (s : State) : State :=
  if cUse s c = 0 ∨ (chan s c).dead then s
  else raiseMtr F.MTR_FLAGS_DEAD
    (withFaults c (onChan c (fun k => { k with dead := true, run := 0, pil := { k.pil with bad := true } })) s)

/-- A channel falls silent: `equal` bits without a transition, or `mis` readback mismatches of its MCLK in one tempo, which
take every channel of the group (R208). -/
def execChannelDead (c : Fin 16) (equal mis : Nat) (s : State) : Host.Outcome State Fault Refusal :=
  .next (
    if !mtrOn s then s
    else if 8 ≤ mis then (List.range 4).foldl (fun t i => chanDead (4 * (c.val / 4) + i) t) s
    else if 1000 ≤ equal then chanDead c.val s else s)

/-- 20 decimator outputs in a row with transitions return a channel to service (R208). -/
def execChannelRecovered (c : Fin 16) (s : State) : Host.Outcome State Fault Refusal :=
  .next (
    if mtrOn s ∧ (chan s c.val).dead ∧ 20 ≤ (chan s c.val).run then
      withFaults c.val (onChan c.val (fun k => { k with dead := false })) s
    else s)

/-! ### Temperatures (R216–R218) -/

/-- The reading of a channel's temperature source as frozen at the preceding edge, with its arrival. -/
def tempReading (s : State) (c : Nat) : Option (Int × Nat) :=
  let src := cTsrc s c
  let st : Stream :=
    if src < 8 then Tab.get Stream.reset s.fz.strm (28 + src)
    else if 0x10 ≤ src ∧ src < 0x18 then Tab.get Stream.reset s.mtr.i2c (src - 0x10)
    else Stream.reset
  match st.stamp with
  | some t => if t < s.tmp.now then some (st.val, t) else none
  | none => none

def tempInRange (t : Int) : Bool := decide (-4000 ≤ t) && decide (t ≤ 12000)

/-- A new reading is taken: it ends TSTALE, and one outside the table raises TRANGE at once (R216, R217). -/
def tempTake (c : Nat) (s : State) : State :=
  match tempReading s c with
  | none => s
  | some (t, a) =>
    if (chan s c).tempAt = some a then s
    else
      let s1 := withFaults c (onChan c (fun k =>
        { k with temp := t, tempAt := some a, tstale := false, trange := k.trange || !tempInRange t,
                 back := if tempInRange t then k.back <|> some s.tmp.now else none })) s
      if (chan s1 c).trange && !(chan s c).trange then raiseMtr F.MTR_FLAGS_TRANGE s1 else s1

/-- Interpolation in a table of 33 points, kept to 2⁻⁸ (R216). -/
def interp (p : Nat → Int) (t : Int) : Int :=
  if t < -4000 then 256 * p 0
  else if 12000 ≤ t then 256 * p 32
  else
    let i := ((t + 4000) / 500).toNat
    let r := t + 4000 - 500 * (i : Int)
    nearest (((256 * (p i * 500 + r * (p (i + 1) - p i)) : Int) : Rat) / 500)

/-- G_T and D_T from the temperature in use; a channel without a source, or whose source has delivered nothing yet, uses
point 13 (R217, R218). -/
def tempApply (c : Nat) (s : State) : State :=
  onChan c (fun k =>
    let t := if cTsrc s c = 0xFF ∨ k.tempAt.isNone then 2500 else k.temp
    { k with gT := interp (cGt s c) t, dT := interp (cDt s c) t, tempUse := t, pil := { k.pil with gP := k.pil.gNew } }) s

def secondOf (s : State) : Nat := s.tmp.chain / 1000000000

/-- The running tempo is the first of a chain-time second. -/
def secTempo (s : State) : Bool := s.mtr.secNew

/-- The new G_T and then the new G_P, at the first tempo of a chain-time second and in the first tempo after the layout
load, once (R218). -/
def tempUpdate (s : State) : State :=
  if s.mtr.tabSec = some (secondOf s) ∨ !(secTempo s || s.tmp.first) then s
  else eachUpTo 16 (fun c t => if cUse t c = 0 then t else tempApply c (tempTake c t)) { s with mtr.tabSec := some (secondOf s) }

/-- The table update (R218). -/
def execTempTableUpdate (s : State) : Host.Outcome State Fault Refusal :=
  .next (if mtrOn s && s.tmp.running then tempUpdate s else s)

/-- No new reading for 10 s (R217). -/
def execTstale (c : Fin 16) (s : State) : Host.Outcome State Fault Refusal :=
  .next (
    let k := chan s c.val
    if mtrOn s ∧ cUse s c.val ≠ 0 ∧ cTsrc s c.val ≠ 0xFF ∧ 200000 ≤ s.tmp.now - k.tempAt.getD 0 then
      withFaults c.val (onChan c.val (fun k => { k with tstale := true })) s
    else s)

/-- The temperature has been back in range for 10 s (R216). -/
def execTrangeClear (c : Fin 16) (s : State) : Host.Outcome State Fault Refusal :=
  .next (
    let k := chan s c.val
    let due : Bool := match k.back with | some t => k.trange && decide (200000 ≤ sinceT s t) | none => false
    if mtrOn s && due then withFaults c.val (onChan c.val (fun k => { k with trange := false })) s else s)

/-! ### Pilot tracking (R221–R227) -/

/-- The channel of a pilot line, and the outputs that one of its chips lasts (R219). -/
def pilChan (s : State) (k : Nat) : Option Nat := (List.range 16).find? (fun c => cPilot s c && cPil s c == k)
def pilChip (s : State) (k : Nat) : Nat := match pilChan s k with | some c => max 1 (cChip s c) | none => 1

def pilLine (s : State) (k : Nat) : PilLine := Tab.get PilLine.reset s.mtr.pil k

def onLine (k : Nat) (f : PilLine → PilLine) (s : State) : State := { s with mtr.pil := Tab.upd s.mtr.pil k f }

/-- A quarter of the chips of a second, NC ÷ 4 (R221). -/
def quarterNc (chip : Nat) : Nat := 20000 / (4 * chip)

/-- The chips of the second that begins, for every pilot and once a second: a quarter +1, a quarter −1, half 0 (R221), and none
once both entropy sources have failed (R413). Their order is drawn chip by chip as they go out, so none can be known before
its second (log entry 184). -/
def execPilotSequenceDraw (s : State) : Host.Outcome State Fault Refusal :=
  .next (
    if !mtrOn s ∨ s.mtr.drawSec = some (secondOf s) then s
    else eachUpTo 4 (fun k t =>
      if (pilChan t k).isNone then t
      else
        let q := if t.key.rngFail then 0 else quarterNc (pilChip t k)
        onLine k (fun p => { p with plus := q, minus := q, zero := 2 * q, hold := 0 }) t)
      { s with mtr.drawSec := some (secondOf s) })

/-- One of the chips still to come, each as likely as the next, by a draw of the generator. -/
def chipDraw (v : Nat) (p : PilLine) : PilLine :=
  let x := v % (p.plus + p.minus + p.zero)
  if x < p.plus then { p with plus := p.plus - 1, cur := 1 }
  else if x < p.plus + p.minus then { p with minus := p.minus - 1, cur := -1 }
  else { p with zero := p.zero - 1, cur := 0 }

/-- A decimator output on pilot line k: the chip on the land goes on, or the next one of the second goes out, or the land is
released; the chain model takes the chip (R219, R221, R222). -/
def pilStep (k : Nat) (s : State) : State :=
  if (pilChan s k).isNone then s
  else
    let p := pilLine s k
    let s1 :=
      if 0 < p.hold then onLine k (fun p => { p with hold := p.hold - 1 }) s
      else if p.plus + p.minus + p.zero = 0 then onLine k (fun p => { p with cur := 0 }) s
      else
        let v := freeNat s
        onLine k (fun p => { chipDraw v.1 p with hold := pilChip s k - 1 }) v.2
    onLine k (fun p =>
      let h := (p.cur :: p.hist).take 64
      { p with hist := h, mdl := (Config.chainModel h :: p.mdl).take 6 }) s1

/-- The level of land PILk: high, low, or released (R219). -/
inductive Tern where
  | low | released | high
  deriving DecidableEq, Repr

def pilLevel (s : State) (k : Nat) : Tern :=
  if !mtrOn s ∨ (pilLine s k).cur = 0 then .released else if (pilLine s k).cur = 1 then .high else .low

/-- MCLKg is driven at 20 MHz: its group has a used channel; else it is held low (R206). -/
def mclkOn (s : State) (g : Nat) : Bool := mtrOn s && (List.range 4).any (fun i => cUse s (4 * g + i) != 0)

/-- The running sums of the block with output y_t and reference r. -/
def pilSum (y r : Rat) (p : PilTrack) : PilTrack :=
  let k : Rat := p.n
  { p with n := p.n + 1, sy := p.sy + y, sr := p.sr + r, sky := p.sky + k * y, skr := p.skr + k * r,
           syy := p.syy + y * y, syr := p.syr + y * r, srr := p.srr + r * r }

/-- Σ u′v′ after removing the least-squares mean and trend from both, from the sums over k = 0 … n − 1 (R222). -/
def detrended (n : Nat) (su sv sku skv suv : Rat) : Rat :=
  let m : Rat := n
  let sk := m * (m - 1) / 2
  let skk := m * (m - 1) * (2 * m - 1) / 6
  let vk := skk - sk * sk / m
  suv - su * sv / m - (sku - sk * su / m) * (skv - sk * sv / m) / vk

/-- A Rat drawn as a free value where the spec states no result. -/
def freeRat (s : State) : Rat × State :=
  let v := freeNat s
  ((v.1 : Rat) / 65536, v.2)

/-- g_raw and the square of sd_raw (R222), free where the reference has no energy. -/
def pilEstimate (c : Nat) (s : State) : (Rat × Rat) × State :=
  let p := (chan s c).pil
  let a : Rat := cPilAmp s c
  let rr := detrended p.n p.sr p.sr p.skr p.skr p.srr
  let yr := detrended p.n p.sy p.sr p.sky p.skr p.syr
  let yy := detrended p.n p.sy p.sy p.sky p.sky p.syy
  if rr = 0 ∨ a = 0 then
    let v := freeRat s
    let w := freeRat v.2
    ((v.1, w.1), w.2)
  else
    let g := yr / (a * rr)
    ((g, (yy - 2 * g * a * yr + g * g * a * a * rr) / (20000 - 3) / (a * a * rr)), s)

/-- The factor alpha of block k (R224). -/
def pilAlpha (k : Nat) : Rat := if k ≤ 16 then 1 / (k : Rat) else 1 / 16

/-- G_P before its bound, ppm; free where g is 0. -/
def pilCorr (g : Rat) (s : State) : Rat × State :=
  if g = 0 then freeRat s else ((1 / g - 1) * 1000000, s)

/-- An accepted block (R224–R226). -/
def pilAccept (c : Nat) (graw var : Rat) (s : State) : State :=
  let p := (chan s c).pil
  let k := p.k + 1
  let al := pilAlpha k
  let g := if k = 1 then graw else p.g + al * (graw - p.g)
  let gp := pilCorr g s
  let sd2 := var * (al / (2 - al)) * 1000000000000
  let sd := isqrt sd2.floor.toNat
  let hi := decide (((cMaxSd s c * cMaxSd s c : Nat) : Rat) < sd2)
  let out := decide (gp.1 < -20000) || decide (20000 < gp.1)
  let inside := decide (-19000 ≤ gp.1) && decide (gp.1 ≤ 19000)
  withFaults c (onPil c (fun p =>
    let nhi := if hi then p.hi + 1 else 0
    let nlo := if hi then 0 else p.lo + 1
    let nin := if inside then p.inside + 1 else 0
    { p with g := g, k := k, gNew := max (-20000) (min 20000 gp.1), discard := 0, lost := false, hi := nhi, lo := nlo,
             inside := nin, sd := sd, noisy := decide (60 ≤ nhi) || (p.noisy && decide (nlo < 60)),
             bound := out || (p.bound && decide (nin < 60)) })) gp.2

/-- A block discarded: for the outlier reason it counts (R223). -/
def pilDiscard (c : Nat) (outlier : Bool) (s : State) : State :=
  if outlier then
    raiseMtr F.MTR_FLAGS_PILOUT
      (withFaults c (onPil c (fun p => { p with discard := p.discard + 1, lost := p.lost || decide (5 ≤ p.discard + 1) })) s)
  else s

/-- The sums of a channel cleared for the next block. -/
def pilClear (c : Nat) (s : State) : State :=
  onPil c (fun p => { p with bad := (chan s c).dead, n := 0, sy := 0, sr := 0, sky := 0, skr := 0, syy := 0, syr := 0, srr := 0 }) s

/-- The end of a block of 20,000 outputs on one channel (R222–R224). -/
def pilBlock (c : Nat) (s : State) : State :=
  let p := (chan s c).pil
  pilClear c (
    if s.key.rngFail then pilDiscard c true s
    else if p.bad || p.n != 20000 then pilDiscard c false s
    else
      let e := pilEstimate c s
      let dif := if e.1.1 < p.g then p.g - e.1.1 else e.1.1 - p.g
      let lim := (if p.g < 0 then -p.g else p.g) / 200
      if p.k ≠ 0 ∧ lim < dif then pilDiscard c true e.2 else pilAccept c e.1.1 e.1.2 e.2)

/-- The blocks of every pilot channel end with the chain-time second: in the first tempo of the next one, before its output, and
once (R222). -/
def execPilotBlock (s : State) : Host.Outcome State Fault Refusal :=
  .next (
    if mtrOn s ∧ secTempo s ∧ s.mtr.outs = 0 ∧ s.mtr.blkSec ≠ some (secondOf s) then
      eachUpTo 16 (fun c t => if cPilot t c then pilBlock c t else t) { s with mtr.blkSec := some (secondOf s) }
    else s)

/-! ### The phase stage (R210, R215) -/

/-- Coefficient k of the 6-tap Lagrange fractional delay of `d` outputs. -/
def lagrange (d : Rat) (k : Nat) : Rat :=
  (List.range 6).foldl (fun a j => if j = k then a else a * (d - j) / ((k : Rat) - j)) 1

/-- The phase stage, a delay of 40,000 ns − D_T, on the newest values of its input; D_T in 2⁻⁸ ns. -/
def phaseStage (dT : Int) (x : List Int) : Int :=
  let d : Rat := (40000 - (dT : Rat) / 256) / 50000
  sat32 (nearest ((List.range 6).foldl (fun a k => a + lagrange d k * ((x.getD k 0 : Int) : Rat)) 0))

/-! ### One decimator output (R209–R215, R228–R234) -/

/-- The correction chain: y_t and y (R215); `ref` in units of 2⁻³⁰. -/
def correct (s : State) (c : Nat) (d ref : Int) : Rat × Rat :=
  let k := chan s c
  let raw : Rat := ((d * cFs s c : Int) : Rat) / 1073741824
  let yt := (raw - (cOffset s c : Rat) / 256) * (1 + (k.gT : Rat) / 256000000)
  if cPilot s c then
    (yt, yt * (1 + k.pil.gP / 1000000) - (cPilAmp s c : Rat) * ((ref : Rat) / 1073741824))
  else (yt, yt)

def acUse (u : Nat) : Bool := u == 3 || u == 4 || u == 5

/-- How many corrected values a channel keeps: for its RMS, or for the demodulation of the residual current. -/
def keepVals (u : Nat) : Nat := if acUse u then 1024 else if u = 6 then 64 else 0

/-- One channel's output: D from the phase stage, OVR at 0.92 of full scale (R209), the corrected value to its stream, MTR_VALc and
the sums; the reference of a pilot passes the same phase stage, so that it has the channel's timing (R222). -/
def chanOutput (o : Decim) (c : Nat) (s : State) : State :=
  if cUse s c = 0 then s
  else
    let trans := o.trans.getLsbD c
    let s0 := onChan c (fun k =>
      { k with run := if trans then k.run + 1 else 0, fir := (toSigned 32 (o.d.getD c 0).toNat :: k.fir).take 6 }) s
    let d := phaseStage (chan s0 c).dT (chan s0 c).fir
    if (chan s0 c).dead then s0
    else
      let ref := if cPilot s c then phaseStage (chan s0 c).dT (pilLine s (cPil s c)).mdl else 0
      let y := correct s0 c d ref
      let ovr := decide (92 * 1073741824 ≤ 100 * d.natAbs)
      let v := sat32 (nearest (y.2 * 256))
      let s1 := onChan c (fun k =>
        { k with y := y.2, val := v, hist := (v :: k.hist).take (keepVals (cUse s c)),
                 pil := if cPilot s c then { pilSum y.1 ((ref : Rat) / 1073741824) k.pil with bad := k.pil.bad || ovr } else k.pil }) s0
      let s2 := { strmPut c (nearest y.2) s1 with mtr.got := setBit s1.mtr.got c true }
      if ovr then raiseMtr F.MTR_FLAGS_OVR (withFaults c (onChan c (fun k => { k with ovr := true })) s2) else s2

/-- The starting limit: a current in mA below 0.05 % of ICONF (R231). -/
def belowStart (s : State) (n : Nat) (ma : Rat) : Bool := decide (20 * ma < (eIconf s n : Rat))

def absR (q : Rat) : Rat := if q < 0 then -q else q

/-- RMS of an AC channel over the last mains cycle, in its unit. -/
def chanRms (s : State) (c : Nat) : Rat := (isqrt ((chan s c).ms) : Rat) / 256

/-- v × i in W from mV and mA. -/
def watts (s : State) (v i : Nat) : Rat := (chan s v).y * (chan s i).y / 1000000

/-- The power of an energy point, and whether it, or every phase of it, lies below the starting limit (R228, R231). -/
def epPower (s : State) (n : Nat) : Rat × Bool :=
  let ch := eCh s n
  if eKind s n = 1 then
    if belowStart s n (absR (chan s (ch 1)).y) then (0, true) else (watts s (ch 0) (ch 1), false)
  else
    let phases := if eKind s n = 2 then [(ch 0, ch 3), (ch 1, ch 4), (ch 2, ch 5)] else [(ch 0, ch 1)]
    let live := phases.filter (fun p => !belowStart s n (chanRms s p.2))
    (live.foldl (fun a p => a + watts s p.1 p.2) 0, live.isEmpty)

/-- The energy of an output booked into its accumulator: 32 fraction bits, the fraction carried per energy point and
direction (R229, R230). -/
def accumulate (n : Nat) (p : Rat) (s : State) : State :=
  let exp := decide (p < 0)
  let j := 2 * n + b2n exp
  let e := (absR p * 4294967296 / 72 + 1 / 2).floor.toNat + Tab.get 0 s.mtr.frac j
  let s1 := { s with mtr.frac := Tab.upd s.mtr.frac j (fun _ => e % 4294967296) }
  if p = 0 ∨ e / 4294967296 = 0 then s1
  else { s1 with mtr.pend := s1.mtr.pend ++ [⟨s.tmp.chain, nextEdge s, n, exp, s.mtr.irc, e / 4294967296⟩] }

/-- Power and energy of one energy point from the output (R228–R234, R236). -/
def epOutput (n : Nat) (s : State) : State :=
  if eKind s n = 0 then s
  else if epDead s n then
    { s with mtr.power := Tab.upd s.mtr.power n (fun _ => 0), mtr.deg := Tab.upd s.mtr.deg n (fun _ => s.mtr.irc) }
  else
    let p := epPower s n
    let w := nearest p.1
    let s1 := { s with mtr.power := Tab.upd s.mtr.power n (fun _ => w), mtr.creep := Tab.upd s.mtr.creep n (fun _ => p.2),
                       mtr.deg := Tab.upd s.mtr.deg n (fun _ => s.mtr.irc) }
    let s2 := if eOutlet s n < 4 then strmPut (58 + eOutlet s n) w s1 else s1
    accumulate n p.1 s2

/-- The sum limit of an energy point in 2⁻⁸ mA squared (R245). -/
def sumLimit (s : State) (n : Nat) : Nat := (eIconf s n * tSumPct s * 256) * (eIconf s n * tSumPct s * 256)

/-- The neutral sum of an AC4W point over the running second, in 2⁻⁸ mA squared (R245). -/
def sumOutput (n : Nat) (s : State) : State :=
  if eKind s n != 2 then s
  else
    let v := [3, 4, 5, 6].foldl (fun a k => a + (chan s (eCh s n k)).val) 0
    { s with mtr.sum := Tab.upd s.mtr.sum n (fun x =>
        let q := x.sq + v.natAbs * v.natAbs
        if x.n + 1 < 20000 then { x with sq := q, n := x.n + 1 }
        else { x with sq := 0, n := 0, ms := q / 20000,
                      ok := if sumLimit s n < q / 20000 then none else x.ok <|> some s.tmp.now }) }

/-- The readings of the I²C sensors that came with the output: each sensor once in a chain-time second (R22). -/
def i2cTake (l : List (Fin 8 × Int)) (s : State) : State :=
  l.foldl (fun t p =>
    if t.mtr.i2cMask.testBit p.1.val then t
    else { t with mtr.i2c := Tab.upd t.mtr.i2c p.1.val (fun _ => ⟨p.2, some t.tmp.now⟩),
                  mtr.i2cMask := setBit t.mtr.i2cMask p.1.val true }) s

/-- The residual current demodulated from the RC channel's values to stream 52 (R213). -/
def rcOutput (s : State) : State :=
  match rcChannel s with
  | some c => if (chan s c).dead then s else strmPut 52 (Config.demodulate (chan s c).hist) s
  | none => s

/-- One output of the decimation chain: every used channel corrected, then power and energy of every energy point, the
neutral sums, the residual-current stream and the next chips. -/
def decimOutput (o : Decim) (s : State) : State :=
  let s0 := i2cTake o.i2c s
  let s1 := eachUpTo 16 (fun c t => if cUse t c = 0 then t else tempTake c t) s0
  let s2 := eachUpTo 16 (chanOutput o) { s1 with mtr.outs := s1.mtr.outs + 1 }
  let s3 := eachUpTo 8 epOutput s2
  let s4 := eachUpTo 8 sumOutput s3
  let s5 := if s4.mtr.irc then raiseMtr F.MTR_FLAGS_CLKDEG s4 else s4
  eachUpTo 4 pilStep (rcOutput s5)

/-- The outputs that can complete in the running tempo: one in 10,000 cycles, and two in a realigning tempo (R211, R212). -/
def outputsMax (s : State) : Nat := if s.tmp.len = 10000 then 1 else 2

/-- A decimator output completes (R211). -/
def execDecimatorOutput (o : Decim) (s : State) : Host.Outcome State Fault Refusal :=
  .next (if mtrOn s ∧ s.mtr.outs < outputsMax s then decimOutput o s else s)

/-- The SAFE clock goes to IRC within the tempo: the outputs of this tempo are clock-degraded, those completed before as well
(R232). -/
def ircMark (s : State) : State :=
  let mark := fun (i : Inc) => if i.edge = nextEdge s then { i with deg := true } else i
  { s with mtr.irc := true, mtr.pend := s.mtr.pend.map mark, bil.inbox := s.bil.inbox.map (fun b => (b.1, b.2.map mark)),
           mtr.deg := if s.mtr.outs = 0 then s.mtr.deg else Tab.mapIdx s.mtr.deg (fun n d => d || eKind s n != 0) }

/-! ### INTEGRATE (R233) -/

/-- Increments by the edge that ended their tempo, the oldest first. -/
def incGroups (l : List Inc) : List (Nat × List Inc) :=
  l.foldr (fun i a => match a with
    | (e, g) :: t => if e = i.edge then (e, i :: g) :: t else (i.edge, [i]) :: a
    | [] => [(i.edge, [i])]) []

/-- The pending increments handed to the sealed core, each tempo's under the edge that ends it, so that the increments of an aborted
INTEGRATE keep their own time (R63, R233). -/
def integrate (s : State) : State :=
  let now := nextEdge s
  { s with bil.inbox := s.bil.inbox ++ incGroups (s.mtr.pend.filter (fun i => i.edge != now))
             ++ [(now, s.mtr.pend.filter (fun i => i.edge == now))],
           mtr.pend := [] }

/-! ### AC intake (R239–R245) -/

/-- Whole outputs in one mains cycle. -/
def cycleLen (s : State) : Nat :=
  let f := if rget s F.MTR_FREQ_FREQ = 0 then 1000 * tFnom s else rget s F.MTR_FREQ_FREQ
  max 1 ((20000000 + f / 2) / f)

/-- The mean square of the newest `n` values. -/
def meanSq (l : List Int) (n : Nat) : Nat := ((l.take n).foldl (fun a v => a + v.natAbs * v.natAbs) 0) / n

def rmsPut (s : State) : State :=
  match epAc s with
  | none => s
  | some n =>
    let v := if eKind s n = 2 then [0, 1, 2] else [0]
    let i := if eKind s n = 2 then [3, 4, 5, 6] else [1]
    let s1 := (v.zip (List.range 3)).foldl (fun t p =>
      rput (F.MTR_VRMS_RMS p.2) (isqrt ((chan t (eCh t n p.1)).ms / 6553600)) t) s
    (i.zip (List.range 4)).foldl (fun t p => rput (F.MTR_IRMS_RMS p.2) (isqrt ((chan t (eCh t n p.1)).ms / 655360000)) t) s1

/-- The RMS of phase k lies above, or below, `pm` ‰ of UNOM; tested by the squares. -/
def phaseAbove (s : State) (k pm : Nat) : Bool :=
  match epAc s with
  | some n => decide (pm * pm * tUnom s * tUnom s * 65536 < (chan s (eCh s n k)).ms * 1000000)
  | none => false
def phaseBelow (s : State) (k pm : Nat) : Bool :=
  match epAc s with
  | some n => decide ((chan s (eCh s n k)).ms * 1000000 < pm * pm * tUnom s * tUnom s * 65536)
  | none => false

/-- Phase voltage RMS in 0.1 % of UNOM, as a record shows it. -/
def phasePm (s : State) (k : Nat) : Nat :=
  match epAc s with
  | some n => isqrt ((chan s (eCh s n k)).ms / 65536) * 1000 / max 1 (tUnom s)
  | none => 0

def gridShow (typ ph start ext dur : Nat) (s : State) : State :=
  s |> rput F.MTR_GRIDEV0_TYPE typ |> rput F.MTR_GRIDEV0_PHASE ph |> rput F.MTR_GRIDEV0_EXTREME ext
    |> rput F.MTR_GRIDEV1_STARTLO (start % 4294967296) |> rput F.MTR_GRIDEV2_STARTHI (start / 4294967296)
    |> rput F.MTR_GRIDEV3_DUR dur

/-- A grid event record handed to the sealed core (R244). -/
def gridHand (typ ph start ext dur : Nat) (s : State) : State :=
  { s with bil.gridIn := s.bil.gridIn ++ [(typ, ph, ext, start, dur)] }

/-- The type of event a phase lies in: interruption before sag (R243). -/
def gridType (s : State) (k : Nat) : Nat :=
  if phaseBelow s k (10 * tIntr s) then 3 else if phaseBelow s k (10 * tSag s) then 1
  else if phaseAbove s k (10 * tSwell s) then 2 else 0

/-- A phase is back past the level of an event's type by HYSTPCT. -/
def gridBack (s : State) (typ k : Nat) : Bool :=
  if typ = 3 then !phaseBelow s k (10 * (tIntr s + tHyst s))
  else if typ = 1 then !phaseBelow s k (10 * (tSag s + tHyst s))
  else !phaseAbove s k (10 * (tSwell s - tHyst s))

def gridExt (typ a b : Nat) : Nat := if typ = 2 then max a b else min a b

def gridAt (s : State) (k : Nat) : Option GridEv := Tab.get none s.mtr.grid k

def gridPut (k : Nat) (e : Option GridEv) (s : State) : State := { s with mtr.grid := Tab.upd s.mtr.grid k (fun _ => e) }

def gridStart (k typ pm : Nat) (s : State) : State :=
  gridShow typ k s.tmp.chain pm 0 (gridPut k (some ⟨typ, s.tmp.chain, pm⟩) s)

/-- An event that goes on, with its type and extreme as they have become; the registers follow where they show it (R244). -/
def gridRenew (k : Nat) (e : GridEv) (s : State) : State :=
  let s1 := gridPut k (some e) s
  if rget s F.MTR_GRIDEV0_PHASE = k ∧ rget s F.MTR_GRIDEV3_DUR = 0
      ∧ rget s F.MTR_GRIDEV1_STARTLO + 4294967296 * rget s F.MTR_GRIDEV2_STARTHI = e.start % 2 ^ 64 then
    gridShow e.typ k e.start e.ext 0 s1
  else s1

/-- The end of an event completes its record (R244). -/
def gridEnd (k : Nat) (e : GridEv) (s : State) : State :=
  let dur := (s.tmp.chain - e.start) / 1000000
  raiseMtr F.MTR_FLAGS_GRIDEV (gridHand e.typ k e.start e.ext dur (gridShow e.typ k e.start e.ext dur (gridPut k none s)))

/-- One phase in a half cycle: an event starts, deepens into an interruption, goes on, or ends. -/
def gridPhase (k pm : Nat) (s : State) : State :=
  match gridAt s k with
  | none => if gridType s k = 0 then s else gridStart k (gridType s k) pm s
  | some e =>
    if e.typ = 1 ∧ gridType s k = 3 then gridRenew k { e with typ := 3, ext := gridExt 3 e.ext pm } s
    else if gridBack s e.typ k then
      let s1 := gridEnd k e s
      if gridType s k = 0 then s1 else gridStart k (gridType s k) pm s1
    else gridRenew k { e with ext := gridExt e.typ e.ext pm } s

/-- A record on all phases of which some have become interruptions goes on as one record a phase (R243; log entry 185). -/
def gridSplit (e : GridEv) (s : State) : State :=
  (List.range 3).foldl (fun t k => gridPut k (some { e with typ := if gridType s k = 3 then 3 else e.typ }) t) (gridPut 3 none s)

/-- The three phases in a half cycle; the same event starting on all of them is one record, which deepens into an interruption on
all of them, or on each where not on all (R243). -/
def gridEval (s : State) : State :=
  let pm := [phasePm s 0, phasePm s 1, phasePm s 2]
  let p := fun k => pm.getD k 0
  let all := fun (f : Nat → Bool) => (List.range 3).all f
  match epAc s with
  | none => s
  | some n =>
    if tUnom s = 0 then s
    else if eKind s n != 2 then gridPhase 0 (p 0) s
    else match gridAt s 3 with
      | some e =>
        if e.typ = 1 ∧ all (fun k => gridType s k == 3) then gridRenew 3 { e with typ := 3, ext := pm.foldl (gridExt 3) e.ext } s
        else if e.typ = 1 ∧ !all (fun k => gridType s k != 3) then
          (List.range 3).foldl (fun u k => gridPhase k (p k) u) (gridSplit e s)
        else if all (gridBack s e.typ) then gridEnd 3 e s
        else gridRenew 3 { e with ext := pm.foldl (gridExt e.typ) e.ext } s
      | none =>
        let t := gridType s 0
        if t ≠ 0 ∧ all (fun k => gridType s k == t) ∧ all (fun k => (gridAt s k).isNone) then
          gridStart 3 t (pm.foldl (gridExt t) (p 0)) s
        else (List.range 3).foldl (fun u k => gridPhase k (p k) u) s

/-- The RMS of one line-to-line voltage in 0.1 % of UNOM, from the values of its two phases. -/
def lineMs (s : State) (j k : Nat) : Nat :=
  match epAc s with
  | some n => meanSq (List.zipWith (fun a b => a - b) (chan s (eCh s n j)).hist (chan s (eCh s n k)).hist) (cycleLen s)
  | none => 0

/-- The two conditions of R242, tested by the squares. -/
def missCond1 (s : State) : Bool :=
  (List.range 3).any (fun k => phaseAbove s k 1150) && (List.range 3).any (fun k => phaseBelow s k 850)

def missCond2 (s : State) : Bool :=
  let u := 3 * tUnom s * tUnom s * 65536
  [(0, 1), (1, 2), (2, 0)].all (fun p =>
    let v := lineMs s p.1 p.2 * 1000000
    decide (900 * 900 * u ≤ v) && decide (v ≤ 1100 * 1100 * u))

/-- The intake of MTR_VRMS is an AC4W point. -/
def acThree (s : State) : Bool := match epAc s with | some n => eKind s n == 2 | none => false

/-- What a refresh of the RMS shows over time: the conditions of R242 and of R241, and the crossings that end with VA below
0.2 × UNOM (R240). -/
def rmsWatch (s : State) : State :=
  let miss := acThree s && missCond1 s && missCond2 s
  let live := (List.range 3).all (fun k => phaseAbove s k 500)
  { s with mtr.missAt := if miss then s.mtr.missAt <|> some s.tmp.now else none
           mtr.missOff := if miss then none else s.mtr.missOff <|> some s.tmp.now
           mtr.seqFrom := if live then s.mtr.seqFrom <|> some s.tmp.now else none
           mtr.zc := if phaseBelow s 0 200 then [] else s.mtr.zc }

/-- RMS over the last mains cycle of every AC channel, every half cycle (R239), and the grid events it shows (R243). -/
def rmsUpdate (s : State) : State :=
  let n := cycleLen s
  let s1 := eachUpTo 16 (fun c t => if acUse (cUse t c) then onChan c (fun k => { k with ms := meanSq k.hist n }) t else t) s
  rmsWatch (gridEval (rmsPut s1))

/-- The RMS refresh (R239). -/
def execRmsUpdate (s : State) : Host.Outcome State Fault Refusal :=
  .next (if mtrOn s && (epAc s).isSome then rmsUpdate s else s)

/-- The channel of VA. -/
def vaChan (s : State) : Option Nat := (epAc s).map (fun n => eCh s n 0)

/-- The chain time of a positive crossing between the last two values of the fundamental of VA, of which the newest completed at
`t`: linear between them, less the delay of the chain and of the filter, in steps of 10 ns (R211, R240; log entry 186). -/
def crossingAt (t : Nat) (h : List Int) : Option Nat :=
  let b := Config.fundamental h
  let a := Config.fundamental (h.drop 1)
  if a < 0 ∧ 0 ≤ b then
    let x : Int := (t : Int) - 50000 * b / (b - a) - 718050 - Config.fundDelay
    some ((x + 5) / 10 * 10).toNat
  else none

/-- A positive crossing of VA, reported from 0.2 × UNOM on (R240). -/
def execZeroCrossing (t : Nat) (s : State) : Host.Outcome State Fault Refusal :=
  .next (
    match vaChan s with
    | some c =>
      if mtrOn s ∧ !phaseBelow s 0 200 then
        match crossingAt t (chan s c).hist with
        | some x =>
          { s with mtr.zc := (x :: s.mtr.zc).take 11 }
            |> rput F.MTR_ZCLO_TIME (x % 4294967296) |> rput F.MTR_ZCHI_TIME (x / 4294967296)
        | none => s
      else s
    | none => s)

/-- 10 ms have passed since the last frequency (R240). -/
def freqDue (s : State) : Bool := match s.mtr.freqAt with | some t => decide (200 ≤ sinceT s t) | none => true

/-- Frequency over the last 10 whole cycles, to stream 62 and MTR_FREQ, every 10 ms; not while VA is below 0.2 × UNOM (R240). -/
def execFreqUpdate (s : State) : Host.Outcome State Fault Refusal :=
  .next (
    match s.mtr.zc[0]?, s.mtr.zc[10]? with
    | some a, some b =>
      if mtrOn s ∧ !phaseBelow s 0 200 ∧ b < a ∧ freqDue s then
        let f := (10000000000000 + (a - b) / 2) / (a - b)
        { strmPut 62 f s with mtr.freqAt := some s.tmp.now } |> rput F.MTR_FREQ_FREQ f
      else s
    | _, _ => s)

/-- A grid event with no end of its own level is shown and handed over at its start (R244); the spec states no extreme value
for it, so that is free. -/
def gridAlert (typ : Nat) (s : State) : State :=
  let v := freeNat s
  gridHand typ 3 s.tmp.chain (v.1 % 65536) 0 (gridShow typ 3 s.tmp.chain (v.1 % 65536) 0 v.2)

/-- The phase sequence from the angles of VB after VA and VC after VB, in degrees, in 5 consecutive cycles, within 100 ms of all
phases exceeding half of UNOM; without such a decision in time it is UNKNOWN (R241). -/
def execPhaseSequenceDecided (cycles : List (Int × Int)) (s : State) : Host.Outcome State Fault Refusal :=
  .next (
    let near := fun (a b : Int) => decide (b - 30 ≤ a) && decide (a ≤ b + 30)
    let five : Bool := decide (cycles.length = 5) && (match s.mtr.seqFrom with | some t => decide (sinceT s t ≤ 2000) | none => false)
    let q := if five && cycles.all (fun p => near p.1 120 && near p.2 120) then 1
      else if five && cycles.all (fun p => near p.1 240 && near p.2 240) then 2 else 0
    if mtrOn s ∧ s.mtr.seqFrom.isSome then
      let s1 := rput F.MTR_STATUS_SEQ q s
      if q = 2 then raiseMtr F.MTR_FLAGS_SEQREV (gridAlert 5 s1) else s1
    else s)

/-- A time has run since a tempo. -/
def ranFor (s : State) (t : Option Nat) (n : Nat) : Bool := match t with | some a => decide (n ≤ sinceT s a) | none => false

/-- Both conditions have held for more than 200 ms: missing neutral at the energy point of the intake (R242). -/
def execMissingNeutral (ep : Fin 8) (s : State) : Host.Outcome State Fault Refusal :=
  .next (
    if mtrOn s && epAc s == some ep.val && ranFor s s.mtr.missAt 4001 && !rbit s F.MTR_STATUS_MISSN then
      raiseMtr F.MTR_FLAGS_MISSN (gridAlert 4 { rput F.MTR_STATUS_MISSN 1 s with mtr.missStart := s.tmp.chain })
    else s)

/-- The record of a missing neutral that ends shows its duration, where the registers still show it (R244). -/
def missEnd (s : State) : State :=
  if rget s F.MTR_GRIDEV0_TYPE = 4 ∧ rget s F.MTR_GRIDEV3_DUR = 0 then
    rput F.MTR_GRIDEV3_DUR ((s.tmp.chain - s.mtr.missStart) / 1000000) s
  else s

/-- A condition has failed for 200 ms (R242). -/
def execMissingNeutralClear (ep : Fin 8) (s : State) : Host.Outcome State Fault Refusal :=
  .next (
    if mtrOn s ∧ epAc s = some ep.val ∧ ranFor s s.mtr.missOff 4000 ∧ rbit s F.MTR_STATUS_MISSN then missEnd (rput F.MTR_STATUS_MISSN 0 s) else s)

/-- SUMERR of energy point n becomes `b`, as a fault of its neutral channel. -/
def sumErrPut (n : Nat) (b : Bool) (s : State) : State :=
  withFaults (eCh s n 6) (fun t => { t with mtr.sum := Tab.upd t.mtr.sum n (fun x => { x with err := b }) }) s

/-- The RMS over 1 s of a point's sum exceeds SUMPCT of ICONF (R245). -/
def execSumerr (s : State) : Host.Outcome State Fault Refusal :=
  .next (
    if mtrOn s then eachUpTo 8 (fun n t =>
      if eKind t n = 2 ∧ sumLimit t n < (sumSt t n).ms then sumErrPut n true t else t) s
    else s)

/-- 10 s at or below the limit (R245). -/
def execSumerrClear (s : State) : Host.Outcome State Fault Refusal :=
  .next (
    if mtrOn s then eachUpTo 8 (fun n t =>
      if eKind t n = 2 ∧ (sumSt t n).err ∧ ranFor t (sumSt t n).ok 200000 then sumErrPut n false t else t) s
    else s)

/-! ### Pulse I/O (R246, R247) -/

/-- PO0 takes a normal increment of its accumulator: the pulses due, the backlog, and the high time at this tempo's rate. -/
def poTake (uwh : Nat) (s : State) : State :=
  let e := s.mtr.poAcc + uwh * tPoK s
  let n := e / 1000000000
  let rate := 20000 * (uwh * tPoK s)
  let high := if rate ≤ 500 * 1000000000 then 1000 else 500000 * 1000000000 / rate
  let s1 := { s with mtr.poAcc := e % 1000000000, mtr.poDue := s.mtr.poDue + n, mtr.poHigh := high }
  if 1 < s1.mtr.poDue then raiseMtr F.MTR_FLAGS_POBACKLOG (rput F.PER_POBACK_COUNT (s1.mtr.poDue - 1) s1) else s1

/-- The level of PO0: at the active level PO_POL while a pulse lasts (R246). -/
def po0Level (s : State) : Bool := decide (0 < s.mtr.poRem) == (tU8 s 0x11 == 1)

/-- A pulse leaves PO0, at most one in 50 µs, for the high time of the most recent tempo's rate (R246). -/
def execPulseOutput (s : State) : Host.Outcome State Fault Refusal :=
  .next (
    if mtrOn s ∧ 0 < s.mtr.poDue ∧ s.mtr.poAt ≠ some s.tmp.now then
      { s with mtr.poDue := s.mtr.poDue - 1, mtr.poAt := some s.tmp.now, mtr.poRem := s.mtr.poHigh }
        |> rput F.PER_POCNT_COUNT (rget s F.PER_POCNT_COUNT + 1) |> rput F.PER_POBACK_COUNT (s.mtr.poDue - 2)
    else s)

/-- A pulse on PIk held its high level for `hi` µs and its low level for `lo` µs (R247). -/
def execPulseInput (k : Fin 4) (hi lo : Nat) (s : State) : Host.Outcome State Fault Refusal :=
  .next (
    let w := max 10 (rget s (F.PER_PICFG_MINW k.val))
    if s.pwr.safeOn ∧ rbit s (F.PER_PICFG_EN k.val) ∧ w ≤ hi ∧ w ≤ lo then
      rput (F.PER_PICNT_COUNT k.val) (rget s (F.PER_PICNT_COUNT k.val) + 1) s
    else s)

/-- A write sets the count, and a pulse accepted in the same cycle is added after it (R247). -/
def execPicntWrite (k : Fin 4) (v : Word) (pulse : Bool) (s : State) : Host.Outcome State Fault Refusal :=
  .next (rput (F.PER_PICNT_COUNT k.val) (v.toNat + b2n pulse) s)

/-! ### The edge -/

/-- The 16-byte header of a capture record (R249). -/
def capHeader (s : State) (seq : Nat) : Bytes :=
  let outs := s.mtr.outs
  leBytes 8 s.tmp.chain ++ leBytes 4 seq ++ leBytes 2 s.mtr.got
    ++ leBytes 1 (b2n s.mtr.irc + 2 * b2n (outs == 0) + 4 * b2n (decide (2 ≤ outs))) ++ [0]

def capRecord (s : State) (seq : Nat) : Bytes :=
  capHeader s seq ++ (List.range 16).flatMap (fun c => leBytes 4 (ofSigned 32 (chan s c).val))

/-- The base of the capture ring. -/
def capBase : Nat := 0x9E0000000

/-- The capture record of the tempo that ended, at the new edge; without DRAM the tempo counts as a loss (R23, R24, R249). -/
def capWrite (s : State) : State :=
  let seq := (rget s F.MTR_CAPSEQ_VALUE + 1) % 4294967296
  if dramOn s then
    let i := s.mtr.capN % 838860
    { memWrite (capBase + 80 * i) (capRecord s seq) s with mtr.capN := s.mtr.capN + 1 }
      |> rput F.MTR_CAPSEQ_VALUE seq |> rput F.MTR_CAPIDX_VALUE i
  else
    s |> rput F.MTR_CAPSEQ_VALUE seq |> rsat F.MTR_CAPLOSS_COUNT 1 |> raiseMtr F.MTR_FLAGS_CAPLOSS

/-- The metering engine at an edge: DEADTIME, a second's OVR marks, a block spoilt by a tempo without an output or on IRC,
the readiness frozen (R212, R223, R232, R236, R237). `sec`: a chain-time second ended. -/
def edgeMeter (sec : Bool) (s : State) : State :=
  if !mtrOn s then s
  else
    let none_ := s.mtr.outs == 0
    let s1 := eachUpTo 8 (fun n t =>
      if eKind t n ≠ 0 ∧ epDead t n then { t with mtr.deadT := Tab.upd t.mtr.deadT n (satAdd 0xFFFFFFFF · 1) } else t) s
    let s2 := eachUpTo 16 (fun c t =>
      let t1 := if cPilot t c && (none_ || t.mtr.irc) then onPil c (fun p => { p with bad := true }) t else t
      if sec && (chan t1 c).ovr then withFaults c (onChan c (fun k => { k with ovr := false })) t1 else t1) s1
    let s3 := rputB F.MTR_STATUS_CLKDEG s2.mtr.irc s2
    let s4 := capWrite s3
    { s4 with bil.epReady := outletsReady s4, mtr.outs := 0, mtr.got := 0, mtr.irc := rbit s4 F.CLK_STATUS_ONIRC, mtr.secNew := sec,
              mtr.i2cMask := if sec then 0 else s4.mtr.i2cMask, mtr.poRem := s4.mtr.poRem - 50 }

end Sys2Proof.Machine
end

