-- ==== Sys2Proof/Machine/Port.lean ====
section
/-!
DEFINITION. The engine's operation boundaries (R410): the private ports of the sealed core and the safety controller, ranked before
the ring, and the chunks of a bulk job.
-/

namespace Sys2Proof.Machine

/-- An operation is in progress; it is never interrupted. -/
def engineBusy (s : State) : Bool := match s.key.job with | some k => !k.paused | none => false

def portJobs (s : State) (i : Nat) : List PortJob := Tab.get [] s.key.port i

def onPort (i : Nat) (f : List PortJob → List PortJob) (s : State) : State := { s with key.port := Tab.upd s.key.port i f }

def portsFree (s : State) : Bool := (portJobs s 0).isEmpty && (portJobs s 1).isEmpty

/-- What a master of rank `i` waits for: the operation in progress, and the jobs of the port ranked before it. -/
def portWaits (i : Nat) (s : State) : Bool := engineBusy s || (i == 1 && !(portJobs s 0).isEmpty)

/-! ### The reader's verification (R432) -/

def raiseHfr (fl : List Fld) (s : State) : State := raise F.HFR_EVCNT_COUNT fl s

def onHfr (f : HfrState → HfrState) (s : State) : State := { s with hfr := f s.hfr }

/-- A reader command ends: RESULT, OUTCOME, LASTOP, CMDDONE (R421). -/
def hfrDone (op result outcome : Nat) (s : State) : State :=
  s |> onHfr (fun h => { h with cmd := none, wait := .none, pend := none, orig := none, out := [], inp := [], sent := false })
    |> rput F.HFR_CMDSTAT_RESULT result |> rput F.HFR_CMDSTAT_OUTCOME outcome |> rput F.HFR_CMDSTAT_LASTOP op
    |> raiseHfr [F.HFR_FLAGS_CMDDONE]

/-- The profile key, 64 bytes, of profile `k` (R431). -/
def profKey (s : State) (k : Nat) : Bytes := (List.range 16).flatMap (fun w => digestBytes (rget s ⟨0x10101040 + 256 * k + 4 * w, 0, 32, 0⟩))

/-- ORIGIN completes after the card's answer: OK, ACKED, and the result of the check. -/
def originEnd (res k : Nat) (s : State) : State :=
  s |> hfrDone 6 0 3 |> rput F.HFR_ORIG_RESULT res |> rput F.HFR_ORIG_PROFILE k |> raiseHfr [F.HFR_FLAGS_ORIGDONE]

/-- The signature in an answer, over the identifier, with the profile key. -/
def originVerdict (k : Nat) (resp : Bytes) (s : State) : Nat :=
  if Config.sm2Verify (profKey s k) s.hfr.uid (slice resp (rget s (F.HFR_PROF1_SIGOFS k)) 64) then 1 else 2

/-- The engine is free for a job of the ring: none runs, and no private port waits. -/
def ringTurn (s : State) : Bool := s.key.job.isNone && portsFree s

/-- The reader's verification, a job of the ring, runs once the engine is free for one (R410, R432). -/
def originTurn (s : State) : State :=
  match s.hfr.wait, s.hfr.orig with
  | .verify, some k => if ringTurn s then originEnd (originVerdict k s.hfr.inp s) k s else s
  | _, _ => s

/-- Bytes of a chunk of a bulk job. -/
def chunkLen : Nat := 65536

/-- A paused job reads its next chunk, once no higher-ranked port waits. -/
def chunkNext (s : State) : State :=
  match s.key.job with
  | some k =>
    match k.more with
    | some j =>
      if k.paused && portsFree s then
        let n := j.inp.length
        { s with key.job := some { k with paused := false,
                                          more := some { j with inp := j.inp ++ memRead s (j.src + n) (min chunkLen (j.len - n)) } } }
      else s
    | none => s
  | none => s

/-- A mailbox command whose turn has come and whose signature the engine checks: it stands in its master's port until the boundary,
then runs (R410; log entry 188). -/
def portCheck (i op : Nat) (turn : Bool) (f : State → State) (s : State) : State :=
  if !turn then f s
  else if portWaits i s then
    if (portJobs s i).contains (.check op) || decide (4 ≤ (portJobs s i).length) then s else onPort i (· ++ [.check op]) s
  else originTurn (chunkNext (onPort i (·.filter (· != .check op)) (f s)))

end Sys2Proof.Machine
end

