-- ==== Sys2Proof/Machine/Legal.lean ====
section
/-!
DEFINITION. The sealed core (09): the legal registers, sessions and Biper records, boundaries, the FRAM journal, legal time
with its slews and steps, restart, and the duty BOOK.
-/

namespace Sys2Proof.Machine

/-! ### The dynamic state -/

def onDyn (f : Legal → Legal) (s : State) : State := { s with bil.dyn := f s.bil.dyn }

def lreg (s : State) (j : Nat) : LReg := Tab.get LReg.reset s.bil.dyn.reg j

def onLreg (j : Nat) (f : LReg → LReg) (s : State) : State := { s with bil.dyn.reg := Tab.upd s.bil.dyn.reg j f }

def sess (s : State) (n : Nat) : Option Sess := Tab.get none s.bil.dyn.sess n

def onSess (n : Nat) (f : Sess → Sess) (s : State) : State :=
  { s with bil.dyn.sess := Tab.upd s.bil.dyn.sess n (fun x => x.map f) }

def LReg.total (r : LReg) : Nat := r.t.toList.foldl (· + ·) 0

/-- The active and the passive calendar. -/
def calActive (s : State) : Bytes := Tab.get [] s.fram.cal s.bil.dyn.cal
def calPassive (s : State) : Bytes := Tab.get [] s.fram.cal (1 - s.bil.dyn.cal)

def raiseBil (f : Fld) (s : State) : State := raise F.BIL_EVCNT_COUNT [f] s

/-- The key held in a slot of the tack room (R397). -/
def slotKey (s : State) (k : Nat) : Bytes :=
  let x := Tab.get KSlot.reset s.key.slot k
  slice (List.zipWith (· ^^^ ·) (slice x.share 0 64) (slice x.mask 0 64)) 0 x.len

def debugOn (s : State) : Bool := rbit s F.FWU_STATUS_DBGON

/-- BIL_STATUS.FRAMOK: the last journal write verified, and the FRAM answered its last read without error (R252). -/
def framGood (s : State) : Bool := s.bil.framOk && s.bil.rdOk

/-- BILL_READY (R252); never while debug is available (R405). -/
def billReady (s : State) : Bool :=
  s.bil.calib && s.bil.legalValid && s.bil.dyn.act && framGood s && !debugOn s

def billUpdate (s : State) : State := { s with bil.ready := billReady s }

/-! ### Event queue and logs (R294, R291) -/

/-- An entry of the BIL event queue stamped `t`, with `n` defined DATA bytes; the others are free (log entry 4). -/
def bilPostAt (t source code n data : Nat) (s : State) : State :=
  if s.bil.evq.length < 64 then
    let v := freeNat s
    { v.2 with bil.evq := v.2.bil.evq ++ [⟨t, source, code, data % 256 ^ n + 256 ^ n * (v.1 % 256 ^ (6 - n))⟩] }
  else rsat F.BIL_EVQOVF_COUNT 1 s

/-- An entry posted within a tempo carries the chain time of the edge that ends it. -/
def bilPost (source code n data : Nat) (s : State) : State := bilPostAt (nextEdge s) source code n data s

/-- A legal log entry, 32 bytes. -/
def legalLogBytes (lt typ detail : Nat) (arg0 arg1 : Int) : Bytes :=
  let b := leBytes 8 lt ++ leBytes 1 typ ++ leBytes 1 detail ++ [0, 0] ++ leBytes 8 (ofSigned 64 arg0) ++ leBytes 8 (ofSigned 64 arg1)
  b ++ leBytes 4 (crc32 b)

def logLegal (lt typ detail : Nat) (arg0 arg1 : Int) (s : State) : State :=
  { s with bil.logs := s.bil.logs ++ [(false, legalLogBytes lt typ detail arg0 arg1)] }

/-- A legal log entry whose ARG0 the spec gives no content: it is free. -/
def logLegalFree (lt typ detail : Nat) (arg1 : Int) (s : State) : State :=
  let v := freeNat s
  logLegal lt typ detail (v.1 : Int) arg1 v.2

def gridLogBytes (typ ph ext start dur : Nat) : Bytes :=
  let b := leBytes 8 start ++ leBytes 1 typ ++ leBytes 1 ph ++ leBytes 2 ext ++ leBytes 8 dur ++ List.replicate 8 0
  b ++ leBytes 4 (crc32 b)

/-- An entry of its own type falls due in this tempo (R281). -/
def jDue (typ : Nat) (s : State) : State :=
  if s.bil.due.contains typ then s else { s with bil.due := s.bil.due ++ [typ] }

/-! ### The FRAM journal (R278–R283) -/

/-- SEQ of the next entry: after those waiting, being written, or committed. -/
def jNextSeq (s : State) : Nat :=
  match s.bil.jq.getLast?, s.bil.jw with
  | some e, _ => e.seq + 1
  | none, some e => e.seq + 1
  | none, none => rget s F.BIL_JRNL_SEQ + 1

/-- LEN of an entry: the state of 3,440 bytes and its log entries (R278). -/
def jLen (e : JEntry) : Nat := 3440 + 32 * e.logs.length

/-- A slot in which the header and payload of an entry stand, without its CRC and its marker. -/
def jPayload (e : JEntry) : JSlot := ⟨e, jLen e, false, false⟩

def onSlot (seq : Nat) (f : Option JSlot → Option JSlot) (s : State) : State :=
  { s with fram.jrn := Tab.upd s.fram.jrn (seq % 64) f }

/-- The interface begins the next waiting entry with its first step, the header and payload: its slot holds no entry until the
CRC and the marker are written (R278). -/
def jStart (s : State) : State :=
  match s.bil.jw, s.bil.jq with
  | none, e :: q => onSlot e.seq (fun _ => some (jPayload e)) { s with bil.jw := some e, bil.jq := q }
  | _, _ => s

/-- The second step of a write, the CRC, and the third, the marker (R278). -/
def jCrc (e : JEntry) (s : State) : State := onSlot e.seq (fun x => x.map (fun y => { y with crc := true })) s
def jMark (e : JEntry) (s : State) : State := onSlot e.seq (fun x => x.map (fun y => { y with chk := true })) s

/-- An entry of a type, with the dynamic state as it stands and up to 20 log entries (R278). -/
def jPut (typ : Nat) (logs : List (Bool × Bytes)) (s : State) : State :=
  jStart { s with bil.jq := s.bil.jq ++ [⟨typ, jNextSeq s, s.bil.legal, s.bil.dyn, logs⟩] }

/-- Entries of the given types; the log entries of the tempo go with the first, and EVENT entries carry what does not fit. -/
def jPutAll (types : List Nat) (s : State) : State :=
  let logs := s.bil.logs
  let s1 := { s with bil.logs := [], bil.due := [] }
  match types with
  | [] => s
  | t :: rest =>
    let s2 := rest.foldl (fun u x => jPut x [] u) (jPut t (logs.take 20) s1)
    (List.range (ceilDiv (logs.length - 20) 20)).foldl (fun u k => jPut 0xA ((logs.drop (20 + 20 * k)).take 20) u) s2

/-- One log entry copied to its ring of 2,048 (R280); a grid event is reported stored (R294). -/
def logCopy (l : Bool × Bytes) (s : State) : State :=
  if l.1 then
    bilPost 0x06 (u8 l.2 8) 1 (u8 l.2 9) { s with fram.gridLog := (s.fram.gridLog ++ [l.2]).drop (s.fram.gridLog.length + 1 - 2048) }
  else { s with fram.legalLog := (s.fram.legalLog ++ [l.2]).drop (s.fram.legalLog.length + 1 - 2048) }

/-- A committed entry takes force: BIL_JRNL, PFWDONE, the record it names, and its log entries. -/
def jCommit (e : JEntry) (s : State) : State :=
  let s1 := { s with bil.framOk := true, bil.pfwDone := s.bil.pfwDone || e.typ == 6 } |> rput F.BIL_JRNL_SEQ e.seq
  let s2 := if e.st.recSeq = rget s F.BIL_RECSEQ_SEQ then s1 else raiseBil F.BIL_FLAGS_RECORD (rput F.BIL_RECSEQ_SEQ e.st.recSeq s1)
  e.logs.foldl (fun t l => logCopy l t) s2

/-- FRAMERR sets when FRAMOK falls (R252). -/
def framFell (before s : State) : State := if framGood before && !framGood s then raiseBil F.BIL_FLAGS_FRAMERR s else s

/-- The write of an entry ends with its CRC and its marker, and the entry is committed; or it did not verify, its slot stays
without them, and FRAMOK falls (R252, R278). -/
def jComplete (ok : Bool) (s : State) : State :=
  match s.bil.jw with
  | none => s
  | some e =>
    let s1 := { s with bil.jw := none }
    let s2 := if ok then jCommit e (jMark e (jCrc e s1)) else framFell s { s1 with bil.framOk := false }
    billUpdate (jStart s2)

/-- The marker of a journal entry is written (R278). -/
def execJournalWriteComplete (ok : Bool) (s : State) : Host.Outcome State Fault Refusal := .next (jComplete ok s)

/-- The FINAL entry, 12 ms after PFW (R283). -/
def finalEntry (s : State) : State :=
  if s.pwr.pfw ∧ !s.pwr.pfwFinal ∧ 240 ≤ sinceT s s.pwr.pfwAt then
    jPutAll [7] { s with pwr.pfwFinal := true }
  else s

/-- The FINAL entry falls due (R283). -/
def execFinalEntry (s : State) : Host.Outcome State Fault Refusal := .next (finalEntry s)

/-! ### The epoch digest (R89, R90) -/

def checkValue (s : State) : Bytes := digestOf s F.BIL_CHECK_CHECK

def epochUpdate (s : State) : State :=
  let d := s.bil.dyn
  let m := s.layDig ++ slice (manVersion (Tab.get [] s.fwu.run 0)) 0 8 ++ checkValue s
    ++ leBytes 4 (if d.act then calId (calActive s) else 0) ++ leBytes 4 (if d.pas then calId (calPassive s) else 0)
  digestPut F.SYS_EPOCH_DIGEST (Config.sm3 m) s

/-! ### Booking (R266, R272) -/

/-- The outlet with an open session whose energy point an increment belongs to. -/
def sessOf (s : State) (ep : Nat) : Option Nat :=
  if eOutlet s ep < 4 && (sess s (eOutlet s ep)).isSome then some (eOutlet s ep) else none

def addAt (v : Vector Nat 8) (t n : Nat) : Vector Nat 8 := Tab.upd v t (· + n)

/-- One increment booked under a tariff; with no tariff in force the energy waits in the fraction (log entry 43). -/
def bookInc (tariff : Nat) (i : Inc) (s : State) : State :=
  let j := 2 * i.ep + b2n i.exp
  let r := lreg s j
  if i.deg then
    let f := r.degFr + i.uwh
    let w := f / 1000000
    let s1 := onLreg j (fun r => { r with degFr := f % 1000000, deg := r.deg + w }) s
    match sessOf s i.ep with
    | some n => onSess n (fun x =>
        { x with flags := setBit x.flags 1 true, degImp := if i.exp then x.degImp else x.degImp + w,
                 degExp := if i.exp then x.degExp + w else x.degExp }) s1
    | none => s1
  else
    let f := r.fr + i.uwh
    let w := if tariff = 0 then 0 else f / 1000000
    let s1 := onLreg j (fun r =>
      { r with fr := f - 1000000 * w, t := addAt r.t (tariff - 1) w, dem := r.dem + i.uwh }) s
    let s2 := match sessOf s i.ep with
      | some n => onSess n (fun x =>
          { x with impT := if i.exp then x.impT else addAt x.impT (tariff - 1) w,
                   expT := if i.exp then addAt x.expT (tariff - 1) w else x.expT }) s1
      | none => s1
    if tPoEp s = i.ep ∧ tPoDir s = i.exp then poTake i.uwh s2 else s2

/-- The tariff an increment belongs to: that of the tempo in which it should have been booked (R63). -/
def incTariff (s : State) (i : Inc) : Nat :=
  match (s.bil.tarHist.filter (fun h => decide (i.at_ < h.1))).getLast? with
  | some h => h.2
  | none => s.bil.dyn.tariff

/-! ### Boundaries (R260, R285) -/

/-- How a boundary is processed: in its own tempo, passed over by a step, or passed while the module was down. -/
def lateLog (late : Bool) (b kind : Nat) (s : State) : State := if late then logLegalFree b 0xB kind 0 s else s

/-- Demand of an interval, W (R268). -/
def demandOf (e mins : Nat) : Nat := e * 3600 / (1000000 * 60 * mins)

/-- The demand interval of one energy point and direction closes (R268, R269, R288). -/
def demandReg (b : Nat) (zero : Bool) (j : Nat) (s : State) : State :=
  let d := s.bil.dyn
  let r := lreg s j
  let p := demandOf r.dem (max 1 (calDemand (calActive s)))
  let sec := b / 1000000000
  let s1 := if d.cut then logLegalFree b 0xA 1 p s
    else if d.replay then onLreg j (fun r => { r with rmax := if r.rmax.1 < p then (p, sec) else r.rmax }) s
    else if zero ∨ d.tariff = 0 then s
    else onLreg j (fun r => { r with max := Tab.upd r.max (d.tariff - 1) (fun m => if m.1 < p then (p, sec) else m) }) s
  onLreg j (fun r => { r with dem := 0 }) s1

def usedRegs (s : State) : List Nat := (List.range 16).filter (fun j => eKind s (j / 2) != 0)

/-- Every demand interval closes; a replay ends with the first interval end after the mark is passed (R288). -/
def demandClose (b : Nat) (zero late : Bool) (s : State) : State :=
  let s1 := (usedRegs s).foldl (fun t j => demandReg b zero j t) s
  let s2 := onDyn (fun d => { d with cut := false, replay := d.replay && decide (b < d.hwm) }) s1
  lateLog late b 1 (jDue 2 (bilPost 0x02 1 0 0 (raiseBil F.BIL_FLAGS_DICLOSE s2)))

/-- New energy goes to another tariff register (R263). -/
def tariffSwitch (b : Nat) (late : Bool) (s : State) : State :=
  let t := tariffAt (calActive s) b
  if t = s.bil.dyn.tariff then s
  else lateLog late b 2 (jDue 2 (bilPost 0x02 2 1 t (raiseBil F.BIL_FLAGS_TSWITCH (onDyn (fun d => { d with tariff := t }) s))))

/-- A billing period closes: the snapshot, the maxima cleared (R270). -/
def periodClose (b : Nat) (late : Bool) (s : State) : State :=
  let d := s.bil.dyn
  let i := bpIndex (calActive s) (civilSec (calActive s) b)
  match d.bpIdx with
  | none => onDyn (fun d => { d with bpIdx := some i }) s
  | some old =>
    if i ≤ old then s
    else
      let h : Hist := ⟨d.period, d.perStart, b, d.reg⟩
      let s1 := { s with fram.hist := Tab.upd s.fram.hist (d.period % 13) (fun _ => some h) }
      let s2 := onDyn (fun d =>
        { d with bpIdx := some i, period := d.period + 1, perStart := b,
                 reg := Vector.map (fun r => { r with max := Vector.replicate 8 (0, 0), rmax := (0, 0) }) d.reg }) s1
      let s3 := logLegal b 9 0 d.period 0 (bilPost 0x02 3 4 d.period (raiseBil F.BIL_FLAGS_BPCLOSE s2))
      lateLog late b 3 (jDue 2 s3)

/-- The passive calendar becomes active, and its tariff takes force from the next tempo (R265, R285). -/
def calActivate (b : Nat) (late : Bool) (s : State) : State :=
  if s.bil.dyn.pas && decide (calActTime (calPassive s) ≤ b) then
    let s1 := onDyn (fun d => { d with cal := 1 - d.cal, act := true, pas := false }) s
    let c := calActive s1
    let s2 := onDyn (fun d => { d with bpIdx := some (bpIndex c (civilSec c b)) }) s1
    let s3 := logLegal b 6 0 (calId c) (calActTime c) (bilPost 0x02 4 4 (calId c) (raiseBil F.BIL_FLAGS_CALACT (epochUpdate s2)))
    tariffSwitch b false (lateLog late b 4 (jDue 2 s3))
  else s

/-- Everything due at one instant, in the order of R285; below the mark only a replayed interval ends. -/
def boundAt (zero late : Bool) (b : Nat) (s : State) : State :=
  let c := calActive s
  let live := decide (s.bil.dyn.hwm ≤ b)
  let s1 := if s.bil.dyn.act && demandEnd c b && (live || s.bil.dyn.replay) then demandClose b zero late s else s
  if live then
    let s2 := if s1.bil.dyn.act then periodClose b late (tariffSwitch b late s1) else s1
    calActivate b late s2
  else s1

/-- The next instant at or after `t` at which a boundary can lie. -/
def boundNext (s : State) (t : Nat) : Nat :=
  let d := s.bil.dyn
  let a := if d.act then calNext (calActive s) t else 2 ^ 80
  if d.pas then min a (max t (max d.hwm (calActTime (calPassive s)))) else a

/-- Every boundary from `lo` below `hi`, in time order. -/
def boundLoop (zero late : Bool) : Nat → Nat → Nat → State → State
  | 0, _, _, s => s
  | n + 1, lo, hi, s =>
    let t := boundNext s lo
    if hi ≤ t then s else boundLoop zero late n (t + 1) hi (boundAt zero late t s)

def boundaries (zero late : Bool) (lo hi : Nat) (s : State) : State :=
  boundLoop zero late ((hi - lo) / 60000000000 + 72) lo hi s

/-- The mark after everything below `hi` has been processed (R260). -/
def markTo (hi : Nat) (s : State) : State := onDyn (fun d => { d with hwm := max d.hwm hi }) s

/-! ### Sessions (R271–R276) -/

def totals (s : State) (ep : Option Nat) : Nat × Nat :=
  match ep with
  | some n => ((lreg s (2 * n)).total, (lreg s (2 * n + 1)).total)
  | none => (0, 0)

/-- A session opens (R271). -/
def sessOpen (n at_ : Nat) (s : State) : State :=
  let c := (s.bil.dyn.ctr + 1) % 2 ^ 40
  let t := totals s (epOf s n)
  let cal := if s.bil.dyn.act then calActive s else []
  let x : Sess :=
    { id := s.fuse.serial % 2 ^ 24 * 2 ^ 40 + c, start := ((at_ : Int) + s.bil.dyn.off).toNat, flags := 0, imp0 := t.1, exp0 := t.2,
      impT := Vector.replicate 8 0, expT := Vector.replicate 8 0, degImp := 0, degExp := 0, priceId := calPriceId cal,
      currency := calCurrency cal, prices := calPrices cal, fees := calFees cal, energised := false, endAt := none }
  { s with bil.dyn.sess := Tab.upd s.bil.dyn.sess n (fun _ => some x), bil.dyn.ctr := c }
    |> raiseBil F.BIL_FLAGS_SESOPEN |> bilPost 0x00 n 5 c |> jDue 3

/-- The amount in minor units, rounded once, half away from zero (R273). -/
def sessAmount (x : Sess) (idle : Nat) : Int :=
  let e : Int := (List.range 8).foldl (fun a t =>
    a + ((Tab.get 0 x.impT t * u32 x.prices (8 * t) : Nat) : Int) - ((Tab.get 0 x.expT t * u32 x.prices (8 * t + 4) : Nat) : Int)) 0
  let fee : Int := if x.energised then (u32 x.fees 0 + u32 x.fees 4 * (idle - u16 x.fees 8) : Nat) else 0
  let v := e + 1000000 * fee
  if 0 ≤ v then (2 * v + 1000000) / 2000000 else -((-2 * v + 1000000) / 2000000)

/-- Whole minutes from ENERGY_END to CLOSE (R273). -/
def idleMin (x : Sess) (closeAt : Nat) : Nat :=
  match x.endAt with | some e => min 65535 ((closeAt - e) / 60000000000) | none => 0

/-- The first 192 bytes of a Biper record (R274). -/
def recordBody (s : State) (n : Nat) (x : Sess) (closeAt closeLt seq : Nat) : Bytes :=
  let t := totals s (epOf s n)
  let idle := idleMin x closeAt
  leBytes 1 1 ++ leBytes 1 n ++ leBytes 2 x.flags ++ leBytes 4 seq ++ serialBytes s ++ leBytes 8 x.id
    ++ leBytes 4 (x.start / 1000000000) ++ leBytes 4 (closeLt / 1000000000)
    ++ leBytes 6 x.imp0 ++ leBytes 6 t.1 ++ leBytes 6 x.exp0 ++ leBytes 6 t.2
    ++ x.impT.toList.flatMap (leBytes 4) ++ x.expT.toList.flatMap (leBytes 4) ++ leBytes 4 x.degImp ++ leBytes 4 x.degExp
    ++ leBytes 4 x.priceId ++ leBytes 2 x.currency ++ leBytes 2 idle ++ leBytes 8 (ofSigned 64 (sessAmount x idle))
    ++ slice s.layDig 0 16 ++ checkValue s

/-- The signature under the record-signing key; zero bytes while debug is available (R275, R405). -/
def recordSign (b : Bytes) (s : State) : Bytes × State :=
  if debugOn s then (b ++ List.replicate 64 0, s)
  else
    let v := freeNat s
    (b ++ slice (Config.sm2Sign (slotKey s 2) b v.1) 0 64, v.2)

/-- A record stands in its ring slot, before the journal names it: its session is closed (R274–R276, R294). -/
def recordStore (n q : Nat) (b : Bytes) (s : State) : State :=
  { s with fram.ring := Tbl.put s.fram.ring (q % 2048) b [], bil.dyn.recSeq := q,
           bil.dyn.sess := Tab.upd s.bil.dyn.sess n (fun x => if x.map (·.id) = some (u64 b 0x10) then none else x) }
    |> raiseBil F.BIL_FLAGS_SESCLOSE |> bilPost 0x01 n 6 (q % 2 ^ 32 + 2 ^ 32 * u16 b 2) |> jDue 3

/-- The operations of the sealed core that wait in its port, at a boundary: each signs a record and stores it (R410). -/
def portServe (s : State) : State :=
  (portJobs s 0).foldl (fun t x =>
    match x with
    | .sign n q body => let r := recordSign body t; recordStore n q r.1 r.2
    | .check _ => t) (onPort 0 (·.filter (fun x => match x with | .sign _ _ _ => false | .check _ => true)) s)

/-- The records that wait for their signature. -/
def signsWaiting (s : State) : Nat := ((portJobs s 0).filter (fun x => match x with | .sign _ _ _ => true | .check _ => false)).length

/-- A session closes: its record is formed, and signed at the engine's next boundary (R272–R276, R410). -/
def sessClose (n closeAt closeLt : Nat) (s : State) : State :=
  match sess s n with
  | none => s
  | some x =>
    let q := s.bil.dyn.recSeq + signsWaiting s + 1
    let s1 := onPort 0 (· ++ [.sign n q (recordBody s n x closeAt closeLt q)]) s
    if engineBusy s then s1 else portServe s1

/-- One session event of the sequencer (R140). -/
def sessEvent (e : Nat × SessEv × Nat) (s : State) : State :=
  match e.2.1 with
  | .opened => sessOpen e.1 e.2.2 s
  | .started => onSess e.1 (fun x => { x with energised := true }) s
  | .ended => onSess e.1 (fun x => { x with endAt := some e.2.2 }) s
  | .closed => sessClose e.1 e.2.2 ((e.2.2 : Int) + s.bil.dyn.off).toNat s

/-- Legal time at the edge that ends the running tempo is behind the high-water mark (R260). -/
def ltBehind (s : State) : Bool :=
  decide ((nextEdge s : Int) + s.bil.offNext.getD s.bil.dyn.off < (s.bil.dyn.hwm : Int))

/-- The flags that the state of a tempo sets in every open session (R238, R274, R462). -/
def sessFlags (s : State) : State :=
  eachUpTo 4 (fun n t =>
    let pil : Bool := match epOf t n with | some e => t.mtr.faultSeen.testBit e || epFault t e | none => false
    let behind := ltBehind t
    let f := 4 * b2n pil + 8 * b2n (rbit t F.LCD_STATUS_CRACK) + 32 * b2n behind + 64 * b2n t.lea.mismatch
    onSess n (fun x => { x with flags := x.flags ||| f }) t) s

/-! ### Legal time (R253–R259, R286–R288) -/

/-- Δ of a time event, in signed whole seconds (R294). -/
def wholeSec (d : Int) : Nat := ofSigned 48 (d / 1000000000)

/-- A change of the validity of legal time at chain time `t`, with the Δ that moved legal time there, 0 where none did (R294). -/
def validTo (t : Nat) (d : Int) (v : Bool) (s : State) : State :=
  if s.bil.legalValid = v then s else bilPostAt t 0x03 4 6 (wholeSec d) { s with bil.legalValid := v }

def locked (s : State) : Bool := s.tmp.mode == .locked || s.tmp.mode == .coord

/-- Legal time becomes valid once the state is restored and MODE reads LOCKED or COORD, unless it lies more than 86,400 s
behind the mark (R254). -/
def ltCheck (s : State) : State :=
  if s.bil.legalValid || !s.bil.restored || !locked s || s.bil.ltBad then s
  else if s.bil.dyn.hwm ≤ s.bil.legal + 86400000000000 then
    let s1 := validTo (nextEdge s) 0 true s
    if s.bil.legal < s.bil.dyn.hwm then onDyn (fun d => { d with replay := true }) s1 else s1
  else { s with bil.ltBad := true }

/-- Legal time has moved by Δ at an edge: open sessions are marked; a forward step cuts the interval and leaves boundaries
to pass over, a backward one closes the interval as partial and starts the replay (R269, R287, R288). -/
def legalMoved (delta : Int) (code : Nat) (s : State) : State :=
  let s1 := eachUpTo 4 (fun n t => onSess n (fun x => { x with flags := setBit x.flags 0 true }) t) s
  let s2 := raiseBil F.BIL_FLAGS_TSTEP (bilPostAt s1.tmp.chain 0x03 code 6 (wholeSec delta) s1)
  if 0 < delta then { onDyn (fun d => { d with cut := true }) s2 with bil.jump := s2.bil.jump <|> some false }
  else
    let s3 := if s2.bil.dyn.act then
        (usedRegs s2).foldl (fun t j => demandReg s2.bil.legal false j t) (onDyn (fun d => { d with cut := true }) s2)
      else s2
    onDyn (fun d => { d with cut := false, replay := true }) (if s3.bil.logs = s2.bil.logs then s3 else jDue 0xA s3)

/-- The offset and legal time at an edge: the slew's or the signed step's offset takes force, and a step of chain time by
`cstep` moves legal time with it (R253, R255, R256, R259). -/
def edgeLegal (cstep : Int) (s : State) : State :=
  let off := match s.bil.stepTok with | some o => o | none => s.bil.offNext.getD s.bil.dyn.off
  let s1 := onDyn (fun d => { d with off := off })
    { s with bil.offNext := none, bil.stepTok := none, bil.legal := ((s.tmp.chain : Int) + off).toNat }
  let s2 := match s.bil.stepTok with
    | some o => if o = s.bil.dyn.off then s1 else { legalMoved (o - s.bil.dyn.off) 2 s1 with bil.ltBad := false }
    | none => s1
  if cstep = 0 then s2
  else
    let s3 := jDue 0xA (logLegal s2.bil.legal 3 0 cstep off (legalMoved cstep 3 s2))
    if cstep < -86400000000000 then validTo s3.tmp.chain cstep false { s3 with bil.ltBad := true } else s3

/-! ### BOOK (R285) -/

/-- Boundaries passed over by a step or while the module was down, each of zero duration (R284, R287). -/
def bookJump (s : State) : State :=
  match s.bil.jump with
  | none => s
  | some late =>
    if !s.bil.legalValid then s
    else
      let s1 := boundaries true late s.bil.dyn.hwm s.bil.legal { s with bil.jump := none }
      markTo s.bil.legal (onDyn (fun d => { d with cut := true }) s1)

/-- The batches handed over: an older one belongs to a tempo whose BOOK was aborted, and that tempo's boundaries follow it, unless
a step over them is still to be processed (R63, R285). -/
def bookBatch (newOff : Int) (b : Nat × List Inc) (s : State) : State :=
  let s1 := b.2.foldl (fun t i => bookInc (incTariff t i) i t) s
  if b.1 < nextEdge s && s.bil.legalValid && s.bil.jump.isNone then
    let hi := ((b.1 : Int) + newOff).toNat
    markTo hi (boundaries false false (if s.bil.legal < s.bil.dyn.hwm then hi else s.bil.dyn.hwm) hi s1)
  else s1

/-- The slew's progress: 50 ns towards the target per tempo (R256). -/
def slewStep (s : State) : State :=
  let k := clampI (-50) 50 s.bil.dyn.slew
  if k = 0 then s
  else { onDyn (fun d => { d with slew := d.slew - k }) s with bil.offNext := some (s.bil.dyn.off + k) }

/-- Grid events and an intake fault recorded (R238, R244). -/
def bookEvents (s : State) : State :=
  let s1 := s.bil.gridIn.foldl (fun t g =>
    jDue 9 { t with bil.logs := t.bil.logs ++ [(true, gridLogBytes g.1 g.2.1 g.2.2.1 g.2.2.2.1 g.2.2.2.2)] }) s
  let fault : Bool := match epIntake s with | some n => s.mtr.faultSeen.testBit n | none => false
  let s2 := if fault then jDue 0xA (logLegalFree s.bil.legal 8 s.mtr.faultCode 0 s1) else s1
  { s2 with bil.gridIn := [], mtr.faultSeen := 0 }

/-- What the tempo commits: the PFW entry, else the entries due, and the COMMIT of a new chain-time second (R281–R283). -/
def bookCommit (s : State) : State :=
  let sec := secondOf s
  let types := s.bil.due ++ (if s.bil.comSec = some sec then [] else [1])
  if s.bil.pfwSeen ∨ s.pwr.entry = .dormant then s
  else { jPutAll types s with bil.comSec := some sec }

def pfwEntry (s : State) : State :=
  if s.pwr.pfw && !s.bil.pfwSeen then jPutAll [6] { s with bil.pfwSeen := true, bil.pfwDone := false }
  else if !s.pwr.pfw then { s with bil.pfwSeen := false } else s

/-- The work of one tempo, in the order of R285. -/
def book (s : State) : State :=
  let s0 := ltCheck s
  let tariff0 := s0.bil.dyn.tariff
  let s1 := if s0.bil.stepTok.isNone then slewStep s0 else s0
  let off := s1.bil.offNext.getD s1.bil.dyn.off
  let s2 := bookJump (s1.bil.inbox.foldl (fun t b => bookBatch off b t) { s1 with bil.inbox := [] })
  let hi := ((nextEdge s2 : Int) + off).toNat
  let s3 := if s2.bil.legalValid then
      markTo hi (boundaries false false (if s2.bil.legal < s2.bil.dyn.hwm then s2.bil.legal else s2.bil.dyn.hwm) hi s2)
    else s2
  let s4 := pfwEntry s3
  let now := s4.bil.evIn.filter (fun e => decide (e.2.2 ≤ s4.tmp.chain))
  let s5 := now.foldl (fun t e => sessEvent e t) (sessFlags { s4 with bil.evIn := s4.bil.evIn.filter (fun e => !decide (e.2.2 ≤ s4.tmp.chain)) })
  let s6 := bookCommit (bookEvents s5)
  billUpdate { s6 with bil.tarHist := ((s6.tmp.chain, tariff0) :: s6.bil.tarHist).take 4 }

/-! ### Restart (R279, R284) -/

/-- The entry of a slot whose marker, CRC and LEN hold (R279). -/
def JSlot.entry (x : JSlot) : Option JEntry := if x.chk && x.crc && decide (x.len ≤ 4080) then some x.ent else none

/-- The newest of two entries. -/
def newerEntry (a b : Option JEntry) : Option JEntry :=
  match a, b with
  | some e, some f => if e.seq < f.seq then some f else some e
  | none, y => y
  | x, none => x

/-- The newest entry whose marker, CRC and LEN hold. -/
def jNewest (s : State) : Option JEntry :=
  s.fram.jrn.toList.foldl (fun a x => newerEntry a (x.bind JSlot.entry)) none

/-- The slots whose LEN exceeds 4,080: BIL_LENERR advances for each (R44, R279). -/
def jLenErrs (s : State) : Nat :=
  (s.fram.jrn.toList.filter (fun x => match x with | some y => decide (4080 < y.len) | none => false)).length

/-- The log entries of an entry whose copy is missing from its ring are copied again (R280). -/
def logsAgain (e : JEntry) (s : State) : State :=
  e.logs.foldl (fun t l => if (if l.1 then t.fram.gridLog else t.fram.legalLog).contains l.2 then t else logCopy l t) s

/-- The restart class: 1 clean, 2 after PFW, 3 holdup failed (R284, R294). -/
def restartClass (typ : Nat) : Nat := if typ = 7 ∨ typ = 8 then 1 else if typ = 6 then 2 else 3

/-- Every session left open is closed with the committed totals, LATE, and LOSS after an unclean stop. -/
def restartSessions (e : JEntry) (s : State) : State :=
  eachUpTo 4 (fun n t =>
    let f := 16 + (if restartClass e.typ = 1 then 0 else 128)
    sessClose n ((e.lt : Int) - e.st.off).toNat e.lt (onSess n (fun x => { x with flags := x.flags ||| f }) t)) s

/-- Committed records with a zero SIG are signed, oldest first (R405). -/
def restartSign (s : State) : State :=
  if debugOn s then s
  else s.fram.ring.foldl (fun t p =>
    if p.2 ≠ [] ∧ allZero (slice p.2 192 64) then
      let r := recordSign (p.2.take 192) t
      { r.2 with fram.ring := Tbl.put r.2.fram.ring p.1 r.1 [] }
    else t) s

/-- The sealed core restores its state from the journal; an FRAM without an entry starts from an empty legal state. -/
def bilRestart (s : State) : State :=
  let s0 := rsat F.BIL_LENERR_COUNT (jLenErrs s)
    { s with bil.restored := true, bil.framOk := true, bil.legal := s.tmp.chain,
             bil.comSec := if s.tmp.chain % 1000000000 < 50000 then none else some (s.tmp.chain / 1000000000) }
  match jNewest s with
  | none => epochUpdate (ltCheck s0)
  | some e =>
    let open_ := ((List.range 4).filter (fun n => (Tab.get none e.st.sess n).isSome)).length
    let cls := restartClass e.typ
    let s1 := { s0 with bil.dyn := { e.st with cut := true }, bil.legal := ((s.tmp.chain : Int) + e.st.off).toNat, bil.loss := cls == 3, bil.jump := some true }
      |> rput F.BIL_JRNL_SEQ e.seq |> rput F.BIL_RECSEQ_SEQ e.st.recSeq
    let s2 := restartSign (restartSessions e (logsAgain e s1))
    let s3 := logLegalFree e.lt 7 cls 0 (bilPost 0x05 cls 1 open_ (raiseBil F.BIL_FLAGS_LATE s2))
    epochUpdate (ltCheck (jDue 0xA s3))

end Sys2Proof.Machine
end

