-- ==== Sys2Proof/Machine/Lcd.lean ====
section
/-!
DEFINITION. The legal display (16): the DISPLAY section, writes of segments with the legal field kept, the crack loop, and
what the sealed core draws in the legal field (R458–R462, R292).
-/

namespace Sys2Proof.Machine

/-! ### DISPLAY section (section 0x09, R463) -/

def dBillMask (s : State) : Nat := u8 (sec s 9) 5
def dSvcBtn (s : State) : Nat := u8 (sec s 9) 6
/-- LMASK, bit 48c + s. -/
def dLmask (s : State) : Nat := leVal (slice (sec s 9) 0x10 48)
/-- The segment of digit d (1–9), element j (0–6 a–g, 7 point). -/
def dDigit (s : State) (d j : Nat) : Nat := u16 (sec s 9) (0x40 + 16 * (d - 1) + 2 * j)

def raiseLcd (fl : List Fld) (s : State) : State := raise F.LCD_EVCNT_COUNT fl s

/-- The FIELD domain runs. -/
def lcdOn (s : State) : Bool := s.pwr.fieldOn && s.pwr.boot == .running

/-- The part of a segment set that LCD_SEGk shows. -/
def segReg (m k : Nat) : Nat := if k % 2 = 0 then field m (48 * (k / 2)) 32 else field m (48 * (k / 2) + 32) 16

/-! ### Writes and reads of segments (R458) -/

/-- A write of LCD_SEGk leaves the legal bits; it sets LEGALWR where the register holds any. -/
def segWrite (k v : Nat) (s : State) : State :=
  let m := segReg (dLmask s) k
  let w := if k % 2 = 0 then v else v % 65536
  let s1 := rput (F.LCD_SEG_SEG k) (w ^^^ (w &&& m)) s
  if m = 0 then s1 else raiseLcd [F.LCD_FLAGS_LEGALWR] s1

/-- The segments as driven. -/
def segRead (s : State) (k : Nat) : Nat :=
  let m := segReg (dLmask s) k
  let v := rget s (F.LCD_SEG_SEG k)
  (v - (v &&& m)) + (segReg s.legalSeg k &&& m)

/-- The application cluster writes LCD_SEGk (R458). -/
def execLcdSegWrite (k : Fin 16) (v : Word) (s : State) : Host.Outcome State Fault Refusal :=
  .next (if lcdOn s then segWrite k.val v.toNat s else s)

/-! ### The drive of the glass (R455–R457, R461) -/

/-- Ticks of 32.768 kHz in a frame of the main drive; of the band drive, 32 Hz. -/
def mainFrame (s : State) : Nat := let f := max 1 (rget s F.LCD_CFG_FRATE); (32768 + f - 1) / f
def bandFrame : Nat := 1024

/-- The lines return to the mid level and hold it for a frame of the drive that ran (R457; log entry 194). -/
def lcdMid (frame : Nat) (s : State) : State := { s with lcd.midTo := s.pwr.rtc + frame }

/-- What drives the lines: the switches that join them without the AON supply, the mid level, the main drive, the band. -/
inductive LcdDrive where
  | joined | mid | main | band
  deriving DecidableEq, Repr

def lcdDrive (s : State) : LcdDrive :=
  if !s.pwr.aonOn then .joined
  else if s.pwr.rtc < s.lcd.midTo then .mid
  else if rbit s F.LCD_STATUS_BAND then .band
  else if s.pwr.fieldOn && ((s.pwr.boot == .running && rbit s F.LCD_STATUS_PRESENT) || s.pwr.boot == .stalemate) then .main
  else .mid

/-- The segments of COMc that are lit: the main drive's, the band pattern on COM0 and COM1 alone, or none (R458, R461). -/
def lcdLit (s : State) (c : Nat) : Nat :=
  match lcdDrive s with
  | .main => segRead s (2 * c) + 4294967296 * segRead s (2 * c + 1)
  | .band => if c < 2 then rget s (F.LCD_BAND_SEG (2 * c)) + 4294967296 * (rget s (F.LCD_BAND_SEG (2 * c + 1)) % 65536) else 0
  | .mid | .joined => 0

/-- How a drive drives: 1/duty, 1/bias, frames a second, mV, and at which of frame, line and dot the polarity is inverted. -/
structure LcdForm where
  duty : Nat
  bias : Nat
  hz : Nat
  mv : Nat
  invert : Nat
  deriving DecidableEq, Repr

/-- The form of the drive in force (R455, R456). -/
def lcdForm (s : State) : Option LcdForm :=
  match lcdDrive s with
  | .main => some ⟨8, if rbit s F.LCD_CFG_BIAS then 3 else 4, rget s F.LCD_CFG_FRATE, 100 * rget s F.LCD_CFG_VLCD, rget s F.LCD_CFG_INVERT⟩
  | .band => some ⟨2, 2, 32, 3000, rget s F.LCD_CFG_INVERT⟩
  | .mid | .joined => none

/-! ### The crack loop and the charge pump (R462, R455) -/

/-- A time of `n` tempos since the last point of a periodic duty has passed, or there was none. -/
def periodDue (s : State) (last : Option Nat) (n : Nat) : Bool :=
  match last with
  | some t => decide (t + n ≤ s.tmp.now)
  | none => true

/-- A measurement of the loop in Ω, every 250 ms in S0–S2: above 20 kΩ it is a crack, which holds until the next reset (R462). -/
def execCrackMeasure (ohm : Nat) (s : State) : Host.Outcome State Fault Refusal :=
  .next (
    if lcdOn s ∧ s.pwr.sys ≠ .s3 ∧ s.pwr.sys ≠ .s4 ∧ periodDue s s.lcd.crackAt 5000 then
      let s1 := rput F.LCD_CRACK_RES (if 100000 < ohm then 0x1FFFF else ohm) { s with lcd.crackAt := some s.tmp.now }
      if 20000 < ohm then
        if rbit s F.LCD_STATUS_CRACK then raiseLcd [F.LCD_FLAGS_MEAS] s1
        else raiseLcd [F.LCD_FLAGS_MEAS, F.LCD_FLAGS_CRACK] (rput F.LCD_STATUS_CRACK 1 s1)
      else raiseLcd [F.LCD_FLAGS_MEAS] s1
    else s)

/-- VLCD has left its window, or is within it again (R455, LCD_STATUS.PUMPOK). -/
def execVlcdLeftWindow (inside : Bool) (s : State) : Host.Outcome State Fault Refusal :=
  .next (
    if !lcdOn s then s
    else if inside then rput F.LCD_STATUS_PUMPOK 1 s
    else
      let s1 := rput F.LCD_STATUS_PUMPOK 0 s
      if rbit s F.LCD_STATUS_PUMPOK then raiseLcd [F.LCD_FLAGS_PUMPERR] s1 else s1)

/-! ### The legal field (R292, R460) -/

/-- Elements a to g of a hexadecimal digit on a seven-segment display (PRESUMED, log entry 44). -/
def glyph (d : Nat) : Nat :=
  [0x3F, 0x06, 0x5B, 0x4F, 0x66, 0x6D, 0x7D, 0x07, 0x7F, 0x6F, 0x77, 0x7C, 0x39, 0x5E, 0x79, 0x71].getD d 0

/-- The outlets whose total the field shows in turn: those with an open session, else those in BILLMASK. -/
def legalOutlets (s : State) : List Nat :=
  let o := (List.range 4).filter (fun n => (sess s n).isSome && (epOf s n).isSome)
  if o.isEmpty then (List.range 4).filter (fun n => (dBillMask s).testBit n) else o

def legalShown (s : State) : Option Nat :=
  if (legalOutlets s).contains s.bil.shown then some s.bil.shown else (legalOutlets s).head?

/-- The patterns of digits 1 to 9. -/
def legalDigits (s : State) : List Nat :=
  match s.bil.chk with
  | some (n, _) =>
    let b := slice (checkValue s) (4 * (n - 1)) 4
    (List.range 8).map (fun k => glyph (if k % 2 = 0 then u8 b (k / 2) / 16 else u8 b (k / 2) % 16)) ++ [glyph n]
  | none =>
    let ep := if isCabinet s then epIntake s else (legalShown s).bind (epOf s)
    match ep with
    | none => List.replicate 9 0
    | some e =>
      let v := (lreg s (2 * e)).total % 100000000
      (List.range 8).map (fun k => glyph (v / 10 ^ (7 - k) % 10) + (if k = 4 then 128 else 0))
        ++ [match (if isCabinet s then none else legalShown s) with | some o => glyph o | none => 0]

/-- The legal field as the sealed core draws it. -/
def legalDraw (s : State) : State :=
  if sec s 9 = [] then { s with legalSeg := 0 }
  else
    { s with legalSeg := (legalDigits s).zipIdx.foldl (fun a p =>
        (List.range 8).foldl (fun b j => if p.1.testBit j then b ||| 2 ^ dDigit s (p.2 + 1) j else b) a) 0 }

/-- The next outlet after 5 s (R460). -/
def execLegalFieldRotate (s : State) : Host.Outcome State Fault Refusal :=
  .next (
    let l := legalOutlets s
    if mtrOn s ∧ 100000 ≤ sinceT s s.bil.shownAt then
      let nxt := (l.find? (fun n => decide (s.bil.shown < n))).getD (l.headD s.bil.shown)
      legalDraw { s with bil.shown := nxt, bil.shownAt := s.tmp.now }
    else s)

/-- The check value is shown from digits 1–8; a request during the display restarts it (R292). -/
def showCheck (s : State) : State :=
  raiseBil F.BIL_FLAGS_CHECKSHOW (legalDraw { s with bil.chk := some (1, s.tmp.now) })

/-- The second screen after 10 s, and the normal field after 10 s more (R292). -/
def execCheckScreenAdvance (s : State) : Host.Outcome State Fault Refusal :=
  .next (
    match s.bil.chk with
    | some (n, t) =>
      if 200000 ≤ sinceT s t then
        legalDraw { s with bil.chk := if n = 1 then some (2, s.tmp.now) else none }
      else s
    | none => s)

/-- The service button has been held for `ms` (R292). -/
def execServiceButton (ms : Nat) (s : State) : Host.Outcome State Fault Refusal :=
  .next (
    if mtrOn s ∧ sec s 9 ≠ [] ∧ dSvcBtn s < 24 ∧ 1000 ≤ ms ∧ s.fz.si.testBit (dSvcBtn s) then showCheck s else s)

end Sys2Proof.Machine
end

