-- ==== Sys2Proof/Machine/BilCmd.lean ====
section
/-!
DEFINITION. The BIL mailbox and event queue (R293, R294): the time commands (R256–R259), calendars (R264), reads of records
and registers, and the check value.
-/

namespace Sys2Proof.Machine

/-! ### Submission and results (R293) -/

/-- A result written to BIL_MBSTAT: CMDREJ for every result but OK. -/
def bilResult (op code : Nat) (s : State) : State :=
  let s1 := s |> rput F.BIL_MBSTAT_RESULT code |> rput F.BIL_MBSTAT_LASTOP op
  if code = 0 then s1 else raiseBil F.BIL_FLAGS_CMDREJ s1

def bilDataPut (p : Bytes) (s : State) : State :=
  eachUpTo 32 (fun k t => if 4 * k < p.length then rput (F.BIL_MBDATA_DATA k) (u32 p (4 * k)) t else t) s

def bilData (s : State) (n : Nat) : Bytes :=
  ((List.range 32).flatMap (fun k => leBytes 4 (rget s (F.BIL_MBDATA_DATA k)))).take n

/-- A write of BIL_MBCMD: a length error, a refusal by a full queue, or a command that waits with its payload. -/
def bilSubmit (op len : Nat) (s : State) : State :=
  if 128 < len then s |> rsat F.BIL_LENERR_COUNT 1 |> bilResult op 9
  else if 8 ≤ s.bil.mbox.length then raiseBil F.BIL_FLAGS_MBFULL s
  else { s with bil.mbox := s.bil.mbox ++ [⟨op, len, bilData s len⟩] }

/-- The head, where it is the given opcode and its turn has come: one command per tempo. -/
def bilTurn (s : State) (op : Nat) : Option MbCmd :=
  match s.bil.mbox with
  | c :: _ => if c.op = op ∧ mtrOn s ∧ s.tmp.running ∧ !s.bil.mbRan then some c else none
  | [] => none

def bilPop (s : State) : State := { s with bil.mbox := s.bil.mbox.drop 1, bil.mbRan := true }

/-- A mailbox command: submitted at the write, or executed in its turn; a LEN outside its entry is BADARG. -/
def bilCommand (op : Nat) (lenOk : Nat → Bool) (f : Bytes → State → State) (ph : Phase) (len : Nat) (payload : Bytes)
    (s : State) : State :=
  match ph with
  | .write => bilSubmit op len (bilDataPut payload s)
  | .run =>
    match bilTurn s op with
    | none => s
    | some c => if lenOk c.len then f c.payload (bilPop s) else bilResult op 2 (bilPop s)

/-- A command whose signature the engine checks for the sealed core (R410). -/
def bilChecked (op : Nat) (f : State → State) (ph : Phase) (s : State) : State :=
  portCheck 0 op (ph == .run && (bilTurn s op).isSome) f s

/-- An opcode outside the table is BADOP. -/
def bilUnknown (s : State) : State :=
  match s.bil.mbox with
  | c :: _ => if mtrOn s && s.tmp.running && !s.bil.mbRan && decide (c.op = 0 ∨ 10 < c.op) then bilResult c.op 1 (bilPop s) else s
  | [] => s

/-! ### Flags and enables (R32) -/

def bilBlocks : List Nat := [9, 10, 15]

def bilIens : List Fld := [F.MTR_IEN_EN, F.OPT_IEN_EN, F.BIL_IEN_EN]

def bilOrBadArg (op : Nat) (f : Bytes → State → Option State) (p : Bytes) (s : State) : State :=
  match f p s with
  | some t => bilResult op 0 t
  | none => bilResult op 2 s

/-- MTR_CAPLOSS.COUNT is 31 bits wide, and its CLR clears it whole. -/
def capClr (p : Bytes) (s : State) : State :=
  if u32 p 0 = 9 ∧ u32 p 4 = 0x10 ∧ (u32 p 8).testBit 31 then rput F.MTR_CAPLOSS_COUNT 0 s else s

/-- FLAGCLR on MTR, OPT or BIL (R32). -/
def execBilFlagclr (ph : Phase) (len : Nat) (payload : Bytes) (s : State) : Host.Outcome State Fault Refusal :=
  .next (bilCommand 1 (· == 12) (bilOrBadArg 1 (fun p t => (flagClr bilBlocks p t).map (capClr p))) ph len payload s)

/-- IENSET on MTR, OPT or BIL (R293). -/
def execBilIenset (ph : Phase) (len : Nat) (payload : Bytes) (s : State) : Host.Outcome State Fault Refusal :=
  .next (bilCommand 2 (· == 12) (bilOrBadArg 2 (ienSet bilIens)) ph len payload s)

/-! ### Time (R256–R259) -/

/-- |Δ| accepted in the preceding 86,400 s of chain time (R257). -/
def quotaUsed (s : State) : Nat :=
  (s.bil.quota.filter (fun q => decide (s.tmp.chain < q.1 + 86400000000000))).foldl (fun a q => a + q.2) 0

def timeSlew (p : Bytes) (s : State) : State :=
  let d := toSigned 64 (u64 p 0)
  if 2000000000 < d.natAbs then bilResult 3 6 s
  else if !s.bil.legalValid then bilResult 3 8 s
  else if 2000000000 < quotaUsed s + d.natAbs then bilResult 3 7 s
  else
    { onDyn (fun l => { l with slew := d }) s with bil.quota := s.bil.quota ++ [(s.tmp.chain, d.natAbs)] }
      |> bilPost 0x03 1 6 (ofSigned 48 (d / 1000000000)) |> logLegal s.bil.legal 1 0 d (s.bil.dyn.off + d) |> jDue 4 |> bilResult 3 0

/-- TIMESLEW (R256, R257). -/
def execTimeslew (ph : Phase) (len : Nat) (payload : Bytes) (s : State) : Host.Outcome State Fault Refusal :=
  .next (bilCommand 3 (· == 8) timeSlew ph len payload s)

/-- The result code of a TIMESTEP token, in the order of R258 and R259; 0 where it is accepted. -/
def stepVerdict (p : Bytes) (s : State) : Nat :=
  let off := toSigned 64 (u64 p 0x20)
  let d := off - s.bil.dyn.off
  if p.take 4 ≠ [0x4C, 0x54, 0x53, 0x54] ∨ u32 p 0xC ≠ 0 ∨ u64 p 0x28 ≠ 0 then 2
  else if u32 p 4 ≠ siteId s then 0xD
  else if u32 p 8 ≤ s.bil.dyn.stepSeq then 4
  else if s.tmp.chain < u64 p 0x10 ∨ u64 p 0x18 < s.tmp.chain then 5
  else if !s.bil.dyn.act then 0xC
  else if !Config.sm2Verify (calTimeKey (calActive s)) (slice p 0 0x30) (slice p 0x30 64) then 3
  else if d < -86400000000000 ∨ 31622400000000000 < d then 6
  else if !s.bil.legalValid ∧ (s.tmp.chain : Int) + off < (s.bil.dyn.hwm : Int) - 86400000000000 then 6
  else 0

/-- An accepted token cancels a slew, takes its sequence number, is journaled in this tempo with its offset, and sets the
offset at the edge (R259). -/
def timeStep (p : Bytes) (s : State) : State :=
  let v := stepVerdict p s
  if v ≠ 0 then bilResult 4 v s
  else
    let off := toSigned 64 (u64 p 0x20)
    let s1 := onDyn (fun l => { l with slew := 0, stepSeq := u32 p 8 }) s
    let s2 := { s1 with bil.stepTok := some off, bil.offNext := none }
      |> logLegal s.bil.legal 2 0 (off - s.bil.dyn.off) off
    let e := jPutAll [4] (onDyn (fun l => { l with off := off }) s2)
    bilResult 4 0 (onDyn (fun l => { l with off := s.bil.dyn.off }) e)

/-- TIMESTEP (R258, R259). -/
def execTimestep (ph : Phase) (len : Nat) (payload : Bytes) (s : State) : Host.Outcome State Fault Refusal :=
  .next (bilChecked 4 (bilCommand 4 (· == 112) timeStep ph len payload) ph s)

/-! ### Calendars (R264) -/

/-- Bytes written into the staging buffer at an offset. -/
def calStage (off : Nat) (d : Bytes) (b : Bytes) : Bytes :=
  let full := slice b 0 calLen
  full.take off ++ d ++ full.drop (off + d.length)

def calLoad (p : Bytes) (s : State) : State :=
  let off := u16 p 0
  if u16 p 2 ≠ 0 ∨ calLen < off + (p.length - 4) then bilResult 5 2 s
  else bilResult 5 0 { s with bil.calBuf := calStage off (p.drop 4) s.bil.calBuf }

/-- CALLOAD (R264). -/
def execCalload (ph : Phase) (len : Nat) (payload : Bytes) (s : State) : Host.Outcome State Fault Refusal :=
  .next (bilCommand 5 (fun n => decide (5 ≤ n) && decide (n ≤ 124)) calLoad ph len payload s)

/-- A calendar as its FRAM slot holds it: 4,096 bytes, the CRC-32 over what precedes it last (R277, R280). -/
def calSlot (b : Bytes) : Bytes := let c := slice b 0 0xFFC; c ++ leBytes 4 (crc32 c)

def calCommit (s : State) : State :=
  let b := slice s.bil.calBuf 0 calLen
  if !calOk (Config.tariffRoots (checkValue s)) b then bilResult 6 0xA s
  else if !s.bil.legalValid then bilResult 6 8 s
  else if calActTime b < s.bil.legal + 60000000000 then bilResult 6 0xB s
  else
    { onDyn (fun l => { l with pas := true }) s with fram.cal := Tab.upd s.fram.cal (1 - s.bil.dyn.cal) (fun _ => calSlot b) }
      |> logLegal s.bil.legal 4 0 (calId b) (calActTime b) |> bilPost 0x04 1 4 (calId b) |> epochUpdate |> jDue 5 |> bilResult 6 0

/-- CALCOMMIT (R264). -/
def execCalcommit (ph : Phase) (len : Nat) (payload : Bytes) (s : State) : Host.Outcome State Fault Refusal :=
  .next (bilChecked 6 (bilCommand 6 (· == 0) (fun _ => calCommit) ph len payload) ph s)

def calCancel (s : State) : State :=
  if s.bil.dyn.pas then
    let c := calPassive s
    onDyn (fun l => { l with pas := false }) s
      |> logLegal s.bil.legal 5 0 (calId c) (calActTime c) |> bilPost 0x04 2 4 (calId c) |> jDue 5 |> bilResult 7 0
  else bilResult 7 0 s

/-- CALCANCEL (R264). -/
def execCalcancel (ph : Phase) (len : Nat) (payload : Bytes) (s : State) : Host.Outcome State Fault Refusal :=
  .next (bilCommand 7 (· == 0) (fun _ => calCancel) ph len payload s)

/-! ### Reads (R293) -/

/-- A command that reads the FRAM: a read answered with an error clears FRAMOK, and the command is refused (R252; log entry 187). -/
def framRead (op : Nat) (rd : Bool) (f : State → State) (s : State) : State :=
  if rd then billUpdate (f { s with bil.rdOk := true }) else bilResult op 2 (billUpdate (framFell s { s with bil.rdOk := false }))

/-- A result of 256 bytes in BIL_RECBUF0–63. -/
def recBufPut (b : Bytes) (s : State) : State := eachUpTo 64 (fun k t => rput (F.BIL_RECBUF_DATA k) (u32 b (4 * k)) t) s

/-- The record of a slot of the ring, for a sequence number it holds. -/
def recFound (q : Nat) (s : State) : State :=
  let r := Tbl.get s.fram.ring (q % 2048) []
  if u32 r 4 = q ∧ r ≠ [] then bilResult 8 0 (recBufPut r s) else bilResult 8 2 s

def recRead (rd : Bool) (p : Bytes) (s : State) : State :=
  let q := u32 p 0
  let last := rget s F.BIL_RECSEQ_SEQ
  if 1 ≤ q ∧ q ≤ last ∧ last < q + 2048 then framRead 8 rd (recFound q) s else bilResult 8 2 s

/-- The firmware's write or the evaluation of a command that reads the FRAM. -/
def bilRead (op : Nat) (good : Nat → Bool) (f : Bool → Bytes → State → State) (ph : ReadPhase) (len : Nat) (payload : Bytes) (s : State) :
    State :=
  match ph with
  | .write => bilCommand op good (f true) .write len payload s
  | .run ok => bilCommand op good (f ok) .run len payload s

/-- RECREAD: one of the last 2,048 committed records. -/
def execRecread (ph : ReadPhase) (len : Nat) (payload : Bytes) (s : State) : Host.Outcome State Fault Refusal :=
  .next (bilRead 8 (· == 4) recRead ph len payload s)

/-- The register block of REGREAD. -/
def regBlock (ep dir per seq start stop : Nat) (r : LReg) : Bytes :=
  leBytes 1 ep ++ leBytes 1 dir ++ leBytes 1 per ++ [0] ++ leBytes 4 seq ++ leBytes 4 (start / 1000000000) ++ leBytes 4 (stop / 1000000000)
    ++ leBytes 8 r.total ++ r.t.toList.flatMap (leBytes 8) ++ leBytes 8 r.deg
    ++ r.max.toList.flatMap (fun m => leBytes 4 m.1 ++ leBytes 4 m.2) ++ leBytes 4 r.rmax.1 ++ leBytes 4 r.rmax.2
    ++ List.replicate 88 0

/-- The snapshot `n` periods back. -/
def histBack (s : State) (n : Nat) : Option Hist :=
  if s.bil.dyn.period < n then none
  else match Tab.get none s.fram.hist ((s.bil.dyn.period - n) % 13) with
    | some h => if h.seq = s.bil.dyn.period - n then some h else none
    | none => none

/-- The block of a snapshot `per` periods back. -/
def regBack (ep dir per : Nat) (s : State) : State :=
  match histBack s per with
  | some h => bilResult 9 0 (recBufPut (regBlock ep dir per h.seq h.start h.stop (Tab.get LReg.reset h.reg (2 * ep + dir))) s)
  | none => bilResult 9 2 s

def regRead (rd : Bool) (p : Bytes) (s : State) : State :=
  let ep := u8 p 0
  let dir := u8 p 1
  let per := u8 p 2
  let j := 2 * ep + dir
  if 8 ≤ ep ∨ 2 ≤ dir ∨ 13 < per ∨ u8 p 3 ≠ 0 then bilResult 9 2 s
  else if per = 0 then
    bilResult 9 0 (recBufPut (regBlock ep dir 0 s.bil.dyn.period s.bil.dyn.perStart 0 (lreg s j)) s)
  else framRead 9 rd (regBack ep dir per) s

/-- REGREAD: the registers of an energy point and direction, now or up to 13 periods back. -/
def execRegread (ph : ReadPhase) (len : Nat) (payload : Bytes) (s : State) : Host.Outcome State Fault Refusal :=
  .next (bilRead 9 (· == 4) regRead ph len payload s)

/-- SHOWCHECK (R292). -/
def execShowcheck (ph : Phase) (len : Nat) (payload : Bytes) (s : State) : Host.Outcome State Fault Refusal :=
  .next (bilCommand 10 (· == 0) (fun _ t => bilResult 10 0 (showCheck t)) ph len payload s)

/-! ### The event queue (R294) -/

def bilHead (s : State) : Ev := s.bil.evq.headD ⟨0, 0xFF, 0, 0⟩

/-- A read of BIL_EVQ3 removes the head. -/
def bilEvqRead (s : State) : State := { s with bil.evq := s.bil.evq.drop 1, resp := ⟨false, (bilHead s).data / 65536⟩ }

/-- The read of BIL_EVQ3 (R294). -/
def execBilEvqRead (s : State) : Host.Outcome State Fault Refusal := .next (bilEvqRead s)

/-! ### The edge -/

/-- The sealed core at an edge: legal time, the readiness, an unknown opcode at the head, and the legal field. -/
def edgeBill (cstep : Int) (s : State) : State :=
  if mtrOn s then { legalDraw (billUpdate (edgeLegal cstep (bilUnknown s))) with bil.mbRan := false } else s

end Sys2Proof.Machine
end

