-- ==== Sys2Proof/Machine/Key.lean ====
section
/-!
DEFINITION. The tack room and the crypto engine (13): slot commands, the sweep, derivation from the device-unique key, the
hardware slots and their certificates, the jobs of the ring, and the random number generator.
-/

namespace Sys2Proof.Machine

def raiseKey (f : Fld) (s : State) : State := raise F.KEY_EVCNT_COUNT [f] s

/-- The METER domain, with the tack room in it, is powered. -/
def keyOn (s : State) : Bool := s.pwr.safeOn && s.pwr.boot != .stretch

def kslot (s : State) (k : Nat) : KSlot := Tab.get KSlot.reset s.key.slot k

def setSlot (k : Nat) (x : KSlot) (s : State) : State := { s with key.slot := Tab.upd s.key.slot k (fun _ => x) }

/-- `n` random bytes. -/
def freeBytes (n : Nat) (s : State) : Bytes × State := let v := freeNat s; (leBytes n v.1, v.2)

/-! ### Slots (R392–R397) -/

def tySm2 : Nat := 1
def tyP521 : Nat := 6
def tySm4 : Nat := 8
def tySecret : Nat := 0xB

def polSign : Nat := 0
def polVerify : Nat := 1
def polEncrypt : Nat := 2
def polDerive : Nat := 3
def polNoexp : Nat := 4

/-- Key bytes of a type; a SECRET's length stands with the slot. -/
def typLen (t : Nat) : Nat :=
  match t with
  | 1 => 32 | 2 => 64 | 3 => 32 | 4 => 64 | 5 => 48 | 6 => 66 | 7 => 57 | 8 => 16 | 9 => 16 | 0xA => 32 | _ => 64

/-- Policy bits a type allows. -/
def typPolicy (t : Nat) : Nat :=
  match t with
  | 1 | 3 | 5 | 6 => 0x19
  | 2 | 4 => 0x02
  | 7 => 0x11
  | 8 | 9 | 0xA => 0x14
  | 0xB => 0x18
  | _ => 0

def typPriv (t : Nat) : Bool := t == 1 || t == 3 || t == 5 || t == 6 || t == 7
def typPub (t : Nat) : Bool := t == 2 || t == 4

def polOk (t p : Nat) : Bool := decide (p &&& typPolicy t = p)

/-- The odd slot of a P-521 pair. -/
def pairHalf (s : State) (k : Nat) : Bool := decide (k % 2 = 1) && (kslot s k).typ == tyP521

/-- The key of a slot: a P-521 key lies in an even slot and the next. -/
def keyBytes (s : State) (k : Nat) : Bytes :=
  if (kslot s k).typ = tyP521 then slotKey s k ++ slotKey s (k + 1) else slotKey s k

/-- Two shares of `b` under a fresh mask (R397). -/
def masked (typ pol : Nat) (b : Bytes) (s : State) : KSlot × State :=
  let m := freeBytes 64 s
  (⟨typ, pol, b.length, List.zipWith (· ^^^ ·) (slice b 0 64) m.1, m.1⟩, m.2)

/-- What a key puts into its slots: one, or the pair of P-521. -/
def slotPuts (k typ pol : Nat) (b : Bytes) (s : State) : List (Nat × KSlot) × State :=
  if typ = tyP521 then
    let x := masked typ pol (slice b 0 64) s
    let y := masked typ pol (slice b 64 2) x.2
    ([(k, x.1), (k + 1, y.1)], y.2)
  else
    let x := masked typ pol b s
    ([(k, x.1)], x.2)

/-- A slot emptied; either slot of a pair empties both (R395). -/
def slotErase (k : Nat) (s : State) : State :=
  if (kslot s k).typ = tyP521 then setSlot (k - k % 2 + 1) KSlot.reset (setSlot (k - k % 2) KSlot.reset s)
  else setSlot k KSlot.reset s

/-- Slots filled, what they held before being erased. -/
def slotFill (l : List (Nat × KSlot)) (s : State) : State :=
  l.foldl (fun t x => setSlot x.1 x.2 t) (l.foldl (fun t x => slotErase x.1 t) s)

/-! ### Slot commands (R394, R395) -/

/-- A slot command taken, its key bytes with it; a write while BUSY is discarded. -/
def slotCmd (op slot typ pol len : Nat) (s : State) : State :=
  if s.key.cmd.isSome ∨ !keyOn s then s
  else
    let b := (List.range 16).flatMap (fun k => digestBytes (rget s (F.KEY_SLOTDATA_DATA k)))
    { s with key.cmd := some ⟨op, slot, typ, pol, len, b⟩ } |> rput F.KEY_SLOTCMD_BUSY 1

/-- KEY_WRITE: OP WRITE written to KEY_SLOTCMD. -/
def execKeyWrite (slot : BitVec 6) (typ : BitVec 4) (pol : BitVec 5) (len : BitVec 7) (s : State) :
    Host.Outcome State Fault Refusal := .next (slotCmd 1 slot.toNat typ.toNat pol.toNat len.toNat s)

/-- KEY_NARROW: OP NARROW. -/
def execKeyNarrow (slot : BitVec 6) (pol : BitVec 5) (s : State) : Host.Outcome State Fault Refusal :=
  .next (slotCmd 2 slot.toNat 0 pol.toNat 0 s)

/-- KEY_ERASE: OP ERASE. -/
def execKeyErase (slot : BitVec 6) (s : State) : Host.Outcome State Fault Refusal := .next (slotCmd 3 slot.toNat 0 0 0 s)

/-- The key of a WRITE and what follows it; P-521's last two bytes lie beyond KEY_SLOTDATA and are free (log entry 60). -/
def writeKey (c : KCmd) (s : State) : Bytes × Bytes × State :=
  if c.typ = tyP521 then
    let v := freeBytes 2 s
    (c.data ++ v.1, [], v.2)
  else
    let n := if c.typ = tySecret then c.len else typLen c.typ
    (c.data.take n, c.data.drop n, s)

/-- The BADKEY cases of R394. -/
def badKey (c : KCmd) (key rest : Bytes) : Bool :=
  (typPriv c.typ && !Config.scalarOk c.typ key) || (typPub c.typ && !Config.pointOk c.typ key)
    || !allZero rest || !polOk c.typ c.pol || (c.typ == tyP521 && c.slot % 2 == 1)

/-- A WRITE: its result code and the state. -/
def slotWrite (c : KCmd) (s : State) : Nat × State :=
  if 64 < c.len ∧ c.typ = tySecret then (4, rsat F.KEY_LENERR_COUNT 1 s)
  else if c.slot < 4 ∨ pairHalf s c.slot then (3, s)
  else if c.typ = 0 ∨ 0xB < c.typ ∨ (c.typ = tySecret ∧ c.len = 0) then (1, s)
  else
    let w := writeKey c s
    if badKey c w.1 w.2.1 then (2, w.2.2)
    else
      let p := slotPuts c.slot c.typ c.pol w.1 w.2.2
      (0, slotFill p.1 p.2)

/-- NARROW: policy bits are cleared, NOEXP may be set; both slots of a pair follow. -/
def slotNarrow (k pol : Nat) (s : State) : State :=
  let f (x : KSlot) : KSlot := { x with pol := (x.pol &&& pol) ||| (x.pol &&& 16) ||| (if x.typ = 0 then 0 else pol &&& 16) }
  let s1 := setSlot k (f (kslot s k)) s
  if (kslot s k).typ = tyP521 then
    let j := if k % 2 = 0 then k + 1 else k - 1
    setSlot j (f (kslot s j)) s1
  else s1

/-- KEY_SLOTCMD_DONE: the command's effect, RESULT, SLOTDONE; KEY_SLOTDATA is zeroed after every WRITE. -/
def execKeySlotcmdDone (s : State) : Host.Outcome State Fault Refusal :=
  match s.key.cmd with
  | none => .next s
  | some c =>
    let r :=
      if c.op = 1 then slotWrite c s
      else if c.op = 2 then (if c.slot < 4 then (3, s) else (0, slotNarrow c.slot c.pol s))
      else if c.op = 3 then (if c.slot < 4 then (3, s) else (0, slotErase c.slot s))
      else (1, s)
    let s1 := { r.2 with key.cmd := none }
    let s2 := if c.op = 1 then eachUpTo 16 (fun k t => rput (F.KEY_SLOTDATA_DATA k) 0 t) s1 else s1
    .next (s2 |> rput F.KEY_SLOTCMD_BUSY 0 |> rput F.KEY_SLOTCMD_RESULT r.1 |> raiseKey F.KEY_FLAGS_SLOTDONE)

/-- The slot a running WRITE is filling. -/
def filling (s : State) (k : Nat) : Bool :=
  match s.key.cmd with
  | some c => c.op == 1 && (c.slot == k || (c.typ == tyP521 && c.slot + 1 == k))
  | none => false

/-- KEY_SWEEP: one slot takes a fresh mask, in index order (R398); stopped without entropy (R413). -/
def execKeySweep (s : State) : Host.Outcome State Fault Refusal :=
  if !keyOn s || s.key.rngFail then .next s
  else
    let k := s.key.sweep
    let s1 :=
      if filling s k then s
      else
        let m := freeBytes 64 s
        let x := kslot s k
        setSlot k { x with share := List.zipWith (· ^^^ ·) (List.zipWith (· ^^^ ·) (slice x.share 0 64) (slice x.mask 0 64)) m.1,
                           mask := m.1 } m.2
    .next (if k < 63 then { s1 with key.sweep := k + 1 }
      else { s1 with key.sweep := 0, key.passes := (s1.key.passes + 1) % 4294967296 })

/-! ### Derivation (R400–R404) -/

/-- A label of ASCII characters, zero-padded to 16 bytes. -/
def label (l : Bytes) : Bytes := slice l 0 16
def lbIdentity : Bytes := label [0x53, 0x52, 0x48, 0x4E, 0x2D, 0x49, 0x44, 0x45, 0x4E, 0x54, 0x49, 0x54, 0x59]
def lbAttest : Bytes := label [0x53, 0x52, 0x48, 0x4E, 0x2D, 0x41, 0x54, 0x54, 0x45, 0x53, 0x54]
def lbBiper : Bytes := label [0x53, 0x52, 0x48, 0x4E, 0x2D, 0x42, 0x49, 0x50, 0x45, 0x52]
def lbWrap : Bytes := label [0x53, 0x52, 0x48, 0x4E, 0x2D, 0x57, 0x52, 0x41, 0x50]

/-- The selected measurements, in ascending order. -/
def measOf (s : State) (mask : Nat) : Bytes :=
  (List.range 8).flatMap (fun k => if mask.testBit k then Tab.get [] s.key.meas k else [])

/-- t_1 ‖ t_2 ‖ t_3 of R400 under a key. -/
def deriveOut (s : State) (key lab : Bytes) (mask : Nat) : Bytes :=
  let msg := lab ++ leBytes 1 mask ++ measOf s mask
  Config.hmac 0 key (msg ++ [1]) ++ Config.hmac 0 key (msg ++ [2]) ++ Config.hmac 0 key (msg ++ [3])

/-- Derived bytes as a key of a type. -/
def keyOf (typ : Nat) (out : Bytes) : Bytes :=
  if typPriv typ then Config.scalarOf typ (if typ = tyP521 then slice out 0 96 else slice out 0 64)
  else slice out 0 (typLen typ)

/-- A key certificate (R404). -/
def keyCert (s : State) (kind mask : Nat) (pub : Bytes) (idKey : Bytes) : Bytes × State :=
  let b := ([0x4B, 0x43, 0x52, 0x54] : Bytes) ++ leBytes 1 kind ++ leBytes 1 mask ++ [0, 0] ++ serialBytes s
    ++ slice (Config.sm3 (measOf s mask)) 0 32 ++ slice pub 0 64
  let v := freeNat s
  (b ++ slice (Config.sm2Sign idKey b v.1) 0 64, v.2)

/-- Stage 8 of the boot: slots 0–2 are derived, the identity key signs the two certificates (R402–R404). -/
def hwKeys (s : State) : State :=
  let k0 := keyOf tySm2 (deriveOut s s.fuse.duk lbIdentity 0x01)
  let k1 := keyOf tySm2 (deriveOut s s.fuse.duk lbAttest 0x01)
  let k2 := keyOf tySm2 (deriveOut s s.fuse.duk lbBiper 0x05)
  let p0 := masked tySm2 0x11 k0 s
  let p1 := masked tySm2 0x11 k1 p0.2
  let p2 := masked tySm2 0x11 k2 p1.2
  let s1 := p2.2 |> setSlot 0 p0.1 |> setSlot 1 p1.1 |> setSlot 2 p2.1
  let c1 := keyCert s1 1 0x01 (Config.publicKey k1) k0
  let c2 := keyCert c1.2 2 0x05 (Config.publicKey k2) k0
  c2.2 |> eachUpTo 16 (fun k t => rput (F.KEY_IDPUB_KEY k) (digestWord (Config.publicKey k0) k) t)
    |> eachUpTo 16 (fun k t => rput (F.KEY_IDEND_SIG k) (digestWord s.fuse.idEnd k) t)
    |> eachUpTo 44 (fun k t => rput (F.KEY_ATCERT_CERT k) (digestWord c1.1 k) t)
    |> eachUpTo 44 (fun k t => rput (F.KEY_BRCERT_CERT k) (digestWord c2.1 k) t)
    |> eachUpTo 16 (fun k t => rput (F.BIL_RECPUB_KEY k) (digestWord (Config.publicKey k2) k) t)
    |> rput F.KEY_STATUS_HWKEYS 1

/-! ### The ring (R407, R409) -/

/-- Your firmware's DRAM range, or the staging area. -/
def jobMem (a n : Nat) : Bool :=
  (decide (0x800000000 ≤ a) && decide (a + n ≤ 0x9E0000000)) || (decide (0x9F0000000 ≤ a) && decide (a + n ≤ 0xA00000000))

/-- The ring's base and size, where it is active and lies in your firmware's range. -/
def keyRing (s : State) : Option (Nat × Nat) :=
  let a := 16 * rget s F.KEY_RING_BASE_BASE
  let n := 2 ^ (rget s F.KEY_RING_CTL_SIZE + 4)
  if rbit s F.KEY_RING_CTL_EN ∧ rget s F.KEY_RING_CTL_SIZE ≤ 6 ∧ 0x800000000 ≤ a ∧ a + 32 * n ≤ 0x9E0000000 then some (a, n)
  else none

/-- The descriptor the engine takes next: its address, where OWN is set, no job runs and neither a private port nor the
reader's verification waits (R410, R432). -/
def jobNext (s : State) : Option Nat :=
  match keyRing s with
  | some (a, n) =>
    let d := a + 32 * (s.key.head % n)
    if keyOn s ∧ s.key.job.isNone ∧ portsFree s ∧ s.hfr.wait ≠ .verify ∧ (u16 (memRead s d 32) 0x1C).testBit 15 then some d else none
  | none => none

/-- HASH, HMAC, ENC and DEC run in chunks; RANDOM has at most one (R409, R410). -/
def bulkOp (op : Nat) : Bool := decide (1 ≤ op) && decide (op ≤ 4)

/-- The job of a descriptor: its fields, its input or the first chunk of a bulk job's, and its key as copied at the start (R396, R407,
R410). -/
def jobOf (s : State) (d : Bytes) : Job :=
  let k := u8 d 1
  let half := pairHalf s k
  let len := u32 d 4
  { slot := k, dslot := u8 d 2, alg := u8 d 3, len := len, src := u64 d 8, dst := u64 d 0x10, aux := u32 d 0x18,
    inp := if jobMem (u64 d 8) len then memRead s (u64 d 8) (if bulkOp (u8 d 0) then min chunkLen len else len) else [],
    typ := if half ∨ 64 ≤ k then 0 else (kslot s k).typ, pol := if half ∨ 64 ≤ k then 0 else (kslot s k).pol,
    key := keyBytes s k }

/-- What a job comes to: its result code, output, and the slots it fills. -/
structure JobEnd where
  result : Nat
  out : Bytes
  put : List (Nat × KSlot)
  deriving DecidableEq, Repr

/-- Job results: the codes KEY_SLOTCMD.RESULT gives the same names, and Config's for the others (log entry 61). -/
def jOk : Nat := 0
def jBadarg : Nat := 1
def jBadkey : Nat := 2
def jPolicy : Nat := 3
def jLenerr : Nat := 4

def jobFail (code : Nat) (s : State) : JobEnd × State := (⟨code, [], []⟩, s)
def jobOut (b : Bytes) (s : State) : JobEnd × State := (⟨jOk, b, []⟩, s)

/-- The slot allows the operation: policy bit set, and while debug is available no key that is never exportable (R391). -/
def mayUse (s : State) (j : Job) (bit : Nat) : Bool :=
  j.typ != 0 && j.pol.testBit bit && !(debugOn s && j.pol.testBit polNoexp)

/-- A slot a job may fill with a key of a type: a user slot, no half of a pair, an even one for P-521 (R408). -/
def mayFill (s : State) (k typ : Nat) : Bool :=
  decide (4 ≤ k) && decide (k < 64) && !pairHalf s k && (typ != tyP521 || k % 2 == 0)

/-- A key put into DSTSLOT. -/
def jobPut (k typ pol : Nat) (b : Bytes) (s : State) : JobEnd × State :=
  let p := slotPuts k typ pol b s
  (⟨jOk, [], p.1⟩, p.2)

def hashLen (alg : Nat) : Nat := if alg = 2 then 48 else if alg = 3 then 64 else 32

/-- HASH (0x01). -/
def jobHash (j : Job) (s : State) : JobEnd × State :=
  if 3 < j.alg then jobFail jBadarg s else jobOut (slice (Config.hash j.alg j.inp) 0 (hashLen j.alg)) s

/-- HMAC (0x02). -/
def jobHmac (j : Job) (s : State) : JobEnd × State :=
  if 3 < j.alg then jobFail jBadarg s
  else if j.typ ≠ tySecret ∨ !mayUse s j polDerive then jobFail jPolicy s
  else jobOut (slice (Config.hmac j.alg j.key j.inp) 0 (hashLen j.alg)) s

/-- IV bytes of an algorithm; whether it is GCM; whether a slot type serves it. -/
def ivLen (alg : Nat) : Nat := if alg < 2 then 12 else 16
def isGcm (alg : Nat) : Bool := decide (alg < 2)
def aadLen (j : Job) : Nat := if isGcm j.alg then j.aux else 0
def cipherTyp (j : Job) : Bool := if j.alg % 2 = 0 then j.typ == 8 else j.typ == 9 || j.typ == 0xA

/-- ENC (0x03). -/
def jobEnc (j : Job) (s : State) : JobEnd × State :=
  if 3 < j.alg then jobFail jBadarg s
  else if !cipherTyp j ∨ !mayUse s j polEncrypt then jobFail jPolicy s
  else
    let n := j.len - ivLen j.alg - aadLen j
    let c := Config.encrypt j.alg j.key (j.inp.take (ivLen j.alg)) (slice j.inp (ivLen j.alg) (min j.len (aadLen j)))
      (slice j.inp (ivLen j.alg + aadLen j) n)
    jobOut (slice c 0 (n + if isGcm j.alg then 16 else 0)) s

/-- DEC (0x04): the plaintext is written only if the tag holds. -/
def jobDec (j : Job) (s : State) : JobEnd × State :=
  if 3 < j.alg then jobFail jBadarg s
  else if !cipherTyp j ∨ !mayUse s j polEncrypt then jobFail jPolicy s
  else
    let n := j.len - ivLen j.alg - aadLen j
    match Config.decrypt j.alg j.key (j.inp.take (ivLen j.alg)) (slice j.inp (ivLen j.alg) (min j.len (aadLen j)))
        (slice j.inp (ivLen j.alg + aadLen j) n) with
    | some p => jobOut (slice p 0 (n - if isGcm j.alg then 16 else 0)) s
    | none => if isGcm j.alg then jobFail Config.jobSig s else jobOut [] s

/-- Whether a private slot type serves a signature algorithm, and the length of its signatures. -/
def signTyp (alg typ : Nat) : Bool :=
  if alg = 0 then typ == 1 else if alg = 1 then typ == 3 || typ == 5 || typ == 6 else typ == 7

def sigLen (typ : Nat) : Nat := if typ = 5 then 96 else if typ = 6 then 132 else if typ = 7 then 114 else 64

/-- SIGN (0x05), with a hedged nonce; the hardware slots sign for their own users alone (R402). -/
def jobSign (j : Job) (s : State) : JobEnd × State :=
  if 2 < j.alg then jobFail jBadarg s
  else if !signTyp j.alg j.typ ∨ !mayUse s j polSign ∨ j.slot < 4 then jobFail jPolicy s
  else
    let v := freeNat s
    jobOut (slice (if j.typ = tySm2 then Config.sm2Sign j.key j.inp v.1 else Config.sign j.typ j.key j.inp v.1) 0
      (sigLen j.typ)) v.2

/-- VERIFY (0x06): with a public-key slot, message and 64-byte signature; without a slot the input carries the key. -/
def jobVerify (j : Job) (s : State) : JobEnd × State :=
  if 2 < j.alg then jobFail jBadarg s
  else if 64 ≤ j.slot then
    (if Config.verifyOwn j.alg j.inp then jobOut [] s else jobFail Config.jobSig s)
  else if (if j.alg = 0 then j.typ ≠ 2 else if j.alg = 1 then j.typ ≠ 4 else True) ∨ !mayUse s j polVerify then jobFail jPolicy s
  else
    let m := j.inp.take (j.len - 64)
    let sg := j.inp.drop (j.len - 64)
    let ok := if j.typ = 2 then Config.sm2Verify j.key m sg else Config.verify j.typ j.key m sg
    if ok then jobOut [] s else jobFail Config.jobSig s

/-- New TYPE and policy of AUX. -/
def auxTyp (j : Job) : Nat := field j.aux 8 4
def auxPol (j : Job) : Nat := field j.aux 16 5

/-- NOEXP of a source carried to what is made from it (R408). -/
def heir (j : Job) : Nat := auxPol j ||| (if j.pol.testBit polNoexp then 16 else 0)

/-- A type a derivation can make: a private scalar, a symmetric key or a SECRET. -/
def derivable (t : Nat) : Bool := decide (1 ≤ t) && decide (t ≤ 0xB) && !typPub t

/-- DERIVE (0x07): from the DUK (SLOT 0xFF) or a SECRET; bit 6 of MASK is set, and the labels of the hardware slots are
refused (R401). -/
def jobDerive (j : Job) (s : State) : JobEnd × State :=
  if 1 < j.alg ∨ !derivable (auxTyp j) ∨ (j.slot = 0xFF ∧ j.alg = 1) then jobFail jBadarg s
  else if j.slot ≠ 0xFF ∧ (j.typ ≠ tySecret ∨ !mayUse s j polDerive) then jobFail jPolicy s
  else if !polOk (auxTyp j) (heir j) ∨ !mayFill s j.dslot (auxTyp j) then jobFail jPolicy s
  else if j.alg = 0 ∧ j.inp.take 4 = [0x53, 0x52, 0x48, 0x4E] then jobFail jPolicy s
  else
    let key := if j.slot = 0xFF then s.fuse.duk else j.key
    let out :=
      if j.alg = 0 then deriveOut s key (slice j.inp 0 16) (setBit (j.aux % 256) 6 true) else slice (Config.kdf key j.inp 96) 0 96
    jobPut j.dslot (auxTyp j) (heir j) (keyOf (auxTyp j) out) s

/-- Bytes of a peer public key, and of the shared x, which fills a SECRET of at most 64 bytes (log entry 60). -/
def peerLen (typ : Nat) : Nat := if typ = 5 then 96 else if typ = 6 then 132 else 64
def sharedLen (typ : Nat) : Nat := if typ = 5 then 48 else if typ = 6 then 64 else 32

/-- AGREE (0x08). -/
def jobAgree (j : Job) (s : State) : JobEnd × State :=
  if j.alg ≠ 0 then jobFail jBadarg s
  else if !(typPriv j.typ && j.typ != 7) ∨ !mayUse s j polDerive then jobFail jPolicy s
  else if !polOk tySecret (heir j) ∨ !mayFill s j.dslot tySecret then jobFail jPolicy s
  else match Config.ecdh j.typ j.key (slice j.inp 0 (peerLen j.typ)) with
    | some x => jobPut j.dslot tySecret (heir j) (slice x 0 (sharedLen j.typ)) s
    | none => jobFail jBadkey s

/-- The wrapping key of a MASK (R409). -/
def wrapKey (s : State) (mask : Nat) : Bytes := keyOf tySm4 (deriveOut s s.fuse.duk lbWrap mask)

/-- WRAP (0x09): the 128-byte blob. -/
def jobWrap (j : Job) (s : State) : JobEnd × State :=
  if s.key.rngFail then jobFail Config.jobRng s
  else if j.typ = 0 ∨ j.pol.testBit polNoexp then jobFail jPolicy s
  else
    let mask := setBit (j.aux % 256) 6 true
    let nonce := freeBytes 12 s
    let hd := ([0x4B, 0x57, 0x52, 0x50] : Bytes) ++ leBytes 1 j.typ ++ leBytes 1 j.pol ++ leBytes 1 mask
      ++ leBytes 1 j.key.length ++ nonce.1 ++ List.replicate 12 0
    let c := slice (Config.encrypt 0 (wrapKey s mask) nonce.1 hd (slice j.key 0 80)) 0 96
    jobOut (hd ++ c) nonce.2

/-- UNWRAP (0x0A): the sealed type and policy, AUX ignored (R408). -/
def jobUnwrap (j : Job) (s : State) : JobEnd × State :=
  let typ := u8 j.inp 4
  if !mayFill s j.dslot typ then jobFail jPolicy s
  else if j.inp.take 4 ≠ [0x4B, 0x57, 0x52, 0x50] then jobFail Config.jobSig s
  else match Config.decrypt 0 (wrapKey s (setBit (u8 j.inp 6) 6 true)) (slice j.inp 8 12) (slice j.inp 0 0x20)
      (slice j.inp 0x20 96) with
    | some p => jobPut j.dslot typ (u8 j.inp 5) (slice p 0 (u8 j.inp 7)) s
    | none => jobFail Config.jobSig s

/-- QUOTE (0x0B) of R406. -/
def jobQuote (j : Job) (s : State) : JobEnd × State :=
  if debugOn s ∨ rget s F.KEY_STATUS_HWKEYS = 0 then jobFail jPolicy s
  else
    let b := ([0x51, 0x55, 0x4F, 0x54, 0x01] : Bytes) ++ leBytes 1 (field s.fuse.opt 4 2) ++ [0, 0] ++ serialBytes s
      ++ leBytes 8 s.tmp.chain ++ slice j.inp 0 32 ++ (List.range 8).flatMap (fun k => slice (Tab.get [] s.key.meas k) 0 32)
      ++ leBytes 1 (Tab.get 0 s.fuse.svcnt 0) ++ leBytes 1 (Tab.get 0 s.fuse.svcnt 1) ++ leBytes 1 (Tab.get 0 s.fuse.svcnt 2)
      ++ [0] ++ digestOf s F.SYS_EPOCH_DIGEST ++ [0, 0, 0, 0]
    let v := freeNat s
    jobOut (b ++ slice (Config.sm2Sign (slotKey s 1) b v.1) 0 64) v.2

/-- RANDOM (0x0C). -/
def jobRandom (j : Job) (s : State) : JobEnd × State :=
  if s.key.rngFail then jobFail Config.jobRng s
  else
    let v := freeBytes j.len s
    jobOut v.1 v.2

/-- The fixed part of a job's input, and R409's length cases. -/
def jobLenBad (op : Nat) (j : Job) : Bool :=
  match op with
  | 3 => j.len != 0 && decide (j.len < ivLen j.alg + aadLen j)
  | 4 => j.len != 0 && decide (j.len < ivLen j.alg + aadLen j + if isGcm j.alg then 16 else 0)
  | 6 => decide (j.len < if j.slot < 64 then 64 else if j.alg = 2 then 171 else 128)
  | 7 => j.alg == 0 && decide (j.len < 16)
  | 8 => decide (j.len < peerLen j.typ)
  | 0xA => decide (j.len < 128)
  | 0xB => decide (j.len < 32)
  | 0xC => decide (65536 < j.len)
  | _ => false

/-- What a job with all its input comes to: R44's length cases, BUFERR for its input, its meaning, and BUFERR for its output
(R409). -/
def jobEnd (op : Nat) (f : Job → State → JobEnd × State) (j : Job) (s : State) : JobEnd × State :=
  if jobLenBad op j then jobFail jLenerr (rsat F.KEY_LENERR_COUNT 1 s)
  else if j.len ≠ 0 ∧ op ≠ 0xC ∧ op ≠ 9 ∧ !jobMem j.src j.len then jobFail Config.jobBuferr s
  else
    let r := f j s
    if r.1.out ≠ [] ∧ !jobMem j.dst r.1.out.length then jobFail Config.jobBuferr r.2 else r

/-- A bulk job has chunks of its input still to read. -/
def chunksLeft (op : Nat) (j : Job) : Bool :=
  bulkOp op && !jobLenBad op j && jobMem j.src j.len && decide (j.inp.length < j.len)

/-- The first operation of a job of the ring: the job itself, or its first chunk with its running state kept (R410). -/
def jobRun (op : Nat) (f : Job → State → JobEnd × State) (s : State) : State :=
  match jobNext s with
  | none => s
  | some d =>
    let b := memRead s d 32
    if u8 b 0 ≠ op then s
    else
      let j := jobOf s b
      if chunksLeft op j then { s with key.job := some ⟨s.key.head, op, jOk, j.dst, [], [], some j, false⟩ }
      else
        let r := jobEnd op f j s
        { r.2 with key.job := some ⟨s.key.head, op, r.1.result % 256, j.dst, r.1.out, r.1.put, none, false⟩ }

def execJobHash (s : State) : Host.Outcome State Fault Refusal := .next (jobRun 1 jobHash s)
def execJobHmac (s : State) : Host.Outcome State Fault Refusal := .next (jobRun 2 jobHmac s)
def execJobEnc (s : State) : Host.Outcome State Fault Refusal := .next (jobRun 3 jobEnc s)
def execJobDec (s : State) : Host.Outcome State Fault Refusal := .next (jobRun 4 jobDec s)
def execJobSign (s : State) : Host.Outcome State Fault Refusal := .next (jobRun 5 jobSign s)
def execJobVerify (s : State) : Host.Outcome State Fault Refusal := .next (jobRun 6 jobVerify s)
def execJobDerive (s : State) : Host.Outcome State Fault Refusal := .next (jobRun 7 jobDerive s)
def execJobAgree (s : State) : Host.Outcome State Fault Refusal := .next (jobRun 8 jobAgree s)
def execJobWrap (s : State) : Host.Outcome State Fault Refusal := .next (jobRun 9 jobWrap s)
def execJobUnwrap (s : State) : Host.Outcome State Fault Refusal := .next (jobRun 0xA jobUnwrap s)
def execJobQuote (s : State) : Host.Outcome State Fault Refusal := .next (jobRun 0xB jobQuote s)
def execJobRandom (s : State) : Host.Outcome State Fault Refusal := .next (jobRun 0xC jobRandom s)

/-- An operation code that names no job ends in BADARG. -/
def jobUnknown (s : State) : State :=
  match jobNext s with
  | some d =>
    let op := u8 (memRead s d 32) 0
    if op = 0 ∨ 0xC < op then { s with key.job := some ⟨s.key.head, op, jBadarg, 0, [], [], none, false⟩ } else s
  | none => s

/-- The meaning of a bulk job. -/
def bulkFn (op : Nat) : Job → State → JobEnd × State :=
  if op = 1 then jobHash else if op = 2 then jobHmac else if op = 3 then jobEnc else jobDec

/-- The end of an operation that is not its job's last: the boundary, at which the private ports are served before the next chunk. -/
def chunkEnd (k : KJob) (s : State) : State := chunkNext (portServe { s with key.job := some { k with paused := true } })

/-- The flags of a completed job: JOBDONE, with JOBERR and POLICY where they apply. -/
def jobFlags (result : Nat) : List Fld :=
  F.KEY_FLAGS_JOBDONE :: ((if result ≠ jOk then [F.KEY_FLAGS_JOBERR] else []) ++
    (if result = jPolicy then [F.KEY_FLAGS_POLICY] else []))

/-- A job is complete: output and slots are written, RESULT goes into the descriptor, OWN clears (R407); the engine is at a
boundary. -/
def jobWrite (k : KJob) (a n : Nat) (s : State) : State :=
  let s1 := slotFill k.put (memWrite k.dst k.out { s with key.job := none, key.head := (k.idx + 1) % n })
  originTurn (portServe (raise F.KEY_EVCNT_COUNT (jobFlags k.result) (memWrite (a + 32 * (k.idx % n) + 0x1C) (leBytes 2 k.result) s1)))

/-- The operation in progress ends: a chunk, the last chunk with the job's result, or a whole job. -/
def jobDone (k : KJob) (a n : Nat) (s : State) : State :=
  match k.more with
  | some j =>
    if k.paused then chunkNext s
    else if chunksLeft k.op j then chunkEnd k s
    else
      let r := jobEnd k.op (bulkFn k.op) j s
      jobWrite { k with result := r.1.result % 256, out := r.1.out, put := r.1.put, more := none } a n r.2
  | none => jobWrite k a n s

/-- JOB_COMPLETE (R407, R410); a job whose ring is gone ends without a trace. -/
def execJobComplete (s0 : State) : Host.Outcome State Fault Refusal :=
  let s := jobUnknown s0
  match s.key.job, keyRing s with
  | some k, some (a, n) => .next (jobDone k a n s)
  | _, _ => .next (originTurn (portServe { s with key.job := none }))

/-! ### Random numbers (R412, R413) -/

/-- A read of KEY_RNG: fresh 32 random bits, 0 once both sources have failed. -/
def rngRead (s : State) : State :=
  if s.key.rngFail then { s with resp := ⟨false, 0⟩ }
  else
    let v := freeNat s
    { v.2 with resp := ⟨false, v.1 % 4294967296⟩ }

/-- KEY_RNG_READ (R412). -/
def execKeyRngRead (s : State) : Host.Outcome State Fault Refusal := .next (rngRead s)

/-- RNG_RESEED: the generators take new seeds while a source serves; what they give is free either way. -/
def execRngReseed (s : State) : Host.Outcome State Fault Refusal :=
  if s.key.rngFail then .next s else .next { (freeNat s).2 with key.rngOk := true }

/-- ENTROPY_SOURCE_FAIL: the source is dropped, RNGSRC sets; with both gone, RNGFAIL sets until the next reset. -/
def execEntropySourceFail (k : Fin 2) (s : State) : Host.Outcome State Fault Refusal :=
  let s1 := { s with key.src := Tab.upd s.key.src k (fun _ => false) }
  if Tab.get false s1.key.src 0 || Tab.get false s1.key.src 1 then .next (raiseKey F.KEY_FLAGS_RNGSRC s1)
  else .next (raise F.KEY_EVCNT_COUNT [F.KEY_FLAGS_RNGSRC, F.KEY_FLAGS_RNGFAIL] { s1 with key.rngFail := true, key.rngOk := false })

end Sys2Proof.Machine
end

