-- ==== Sys2Proof/Machine/Lands.lean ====
section
/-!
DEFINITION. The lands (18): the groups of R517, what each land offers (R519), its function, drive and pull, and whether the
module drives it (R508, R509, R520).
-/

namespace Sys2Proof.Machine

/-- The land groups, in the order of the table of R517. -/
inductive LandGroup where
  | gnd | vinMain | vsLoad | vhold | vio33 | lch | sio | v | m | can | sg | lead | yl | opt | hf | lcd | mx | mod | pulse | ua
  | usb | qspi | spih | i2cPps | jtag | clkRst | nc
  deriving DecidableEq, Repr

def landGroups : List LandGroup :=
  [.gnd, .vinMain, .vsLoad, .vhold, .vio33, .lch, .sio, .v, .m, .can, .sg, .lead, .yl, .opt, .hf, .lcd, .mx, .mod, .pulse, .ua,
   .usb, .qspi, .spih, .i2cPps, .jtag, .clkRst, .nc]

def landGroup (a : Nat) : LandGroup := landGroups.getD (Config.landName a).1 .nc

/-- The place of a land among those its group's contents name. -/
def landPos (a : Nat) : Nat := (Config.landName a).2

/-! ### What a land offers (R508, R509, R519) -/

/-- RESET_N, the last land of the group Clock and reset. -/
def isResetN (a : Nat) : Bool := landGroup a == .clkRst && landPos a == 4

/-- The LVCMOS lands of R508. -/
def lvcmos (a : Nat) : Bool :=
  [LandGroup.m, .can, .lead, .opt, .mx, .mod, .pulse, .ua, .qspi, .spih, .i2cPps, .jtag].contains (landGroup a) || isResetN a

/-- I2C_SCL, I2C_SDA and RESET_N (R509). -/
def openDrain (a : Nat) : Bool := (landGroup a == .i2cPps && decide (landPos a ≤ 1)) || isResetN a

/-- The lands that offer PARKED. -/
def parkable (a : Nat) : Bool :=
  !([LandGroup.gnd, .vinMain, .vsLoad, .vhold, .vio33, .nc, .clkRst, .jtag, .qspi, .usb, .lead].contains (landGroup a))

/-- The row of the alternate functions a land stands in: the SPIH lands, or UA0_DE and UA1_DE. -/
def altRow (a : Nat) : Option Nat :=
  if landGroup a = .spih then some 0 else if landGroup a = .ua ∧ landPos a % 3 = 2 then some 1 else none

/-- Whether a land offers a function code. -/
def landOffers (a code : Nat) : Bool :=
  let f := code % 256
  let pull := code / 1024 % 4
  (f == 0 || (f == 1 && parkable a) || (f == 2 && (altRow a).isSome)) && (code / 256 % 16 == 0 || lvcmos a)
    && (!openDrain a || decide (pull ≤ 1))

/-! ### The PINS section (R86) -/

def pinCount (s : State) : Nat := (sec s 2).length / 4
def pinLand (s : State) (k : Nat) : Nat := u16 (sec s 2) (4 * k)
def pinCode (s : State) (k : Nat) : Nat := u16 (sec s 2) (4 * k + 2)

/-- The function code of a land: 0 before the layout load and without an entry. -/
def landCode (s : State) (a : Nat) : Nat :=
  if s.loaded then
    match (List.range (pinCount s)).find? (fun k => pinLand s k == a) with
    | some k => pinCode s k
    | none => 0
  else 0

/-- FUNC of a land: 0 DEFAULT, 1 PARKED, 2 ALT. -/
def landFunc (s : State) (a : Nat) : Nat := landCode s a % 256

/-- The drive current of a land, mA. -/
def landDrive (s : State) (a : Nat) : Nat :=
  let d := landCode s a / 256 % 4
  if d = 1 then 4 else if d = 3 then 12 else 8

/-! ### Pulls and drive (R509, R520) -/

/-- The pull of a land. -/
inductive Pull where
  | none | up | down
  deriving DecidableEq, Repr

/-- The reset pull of a land. -/
def resetPull (a : Nat) : Pull :=
  let g := landGroup a
  let i := landPos a
  if !lvcmos a then .none
  else if isResetN a || (g == .qspi && (i == 1 || i == 6)) || (g == .spih && i == 1) || (g == .jtag && (i == 1 || i == 2))
      || (g == .ua && i % 3 == 1) || (g == .can && i % 2 == 1) then .up
  else if g == .i2cPps && decide (i ≤ 1) then .none
  else .down

/-- The land belongs to a port of LU or LD, which the AON Lead repeater keeps driven while it works (R329). -/
def repeated (s : State) (a : Nat) : Bool :=
  landGroup a == .lead && decide (landPos a < 28) && s.loaded && nRepeater s && s.lea.byp

/-- The domain of a land's function is on; the band drives COM0, COM1 and the SEG lines from AON (R461). -/
def landOn (s : State) (a : Nat) : Bool :=
  match landGroup a with
  | .lch | .hf => s.pwr.fieldOn
  | .lcd => s.pwr.fieldOn
      || (rbit s F.LCD_STATUS_BAND && (decide (landPos a ≤ 1) || (decide (8 ≤ landPos a) && decide (landPos a ≤ 55))))
  | .sio | .mx | .opt | .mod | .pulse => s.pwr.safeOn
  | .v | .m | .can => s.pwr.vehOn
  | .sg | .yl | .lead => s.pwr.netOn
  | .ua | .usb | .qspi | .spih | .jtag => s.pwr.appOn
  | .i2cPps => if landPos a = 2 then s.pwr.safeOn else s.pwr.appOn || s.pwr.safeOn
  | _ => true

/-- The function of a land is enabled: with the layout, and before it for those the boot ROM and the recovery loader need
(R519, R520; log entry 180). -/
def landEnabled (s : State) (a : Nat) : Bool :=
  s.loaded || [LandGroup.lead, .qspi, .usb, .jtag, .clkRst].contains (landGroup a)

/-- The land is high-impedance whatever its function: its domain is off, it is parked, or its function is not yet enabled. -/
def landHiZ (s : State) (a : Nat) : Bool :=
  (!landOn s a && !repeated s a) || landFunc s a == 1 || !landEnabled s a

/-- The pull of a land: the reset pull with the domain off, else what its entry asks for. -/
def landPull (s : State) (a : Nat) : Pull :=
  if !landOn s a && !repeated s a then resetPull a
  else
    let p := landCode s a / 1024 % 4
    if p = 1 then .none else if p = 2 then .up else if p = 3 then .down else resetPull a

/-- VIO33_OUT, mV: on in S0 to S3 and off in S4 (R508). -/
def vio33Out (s : State) : Nat := if s.pwr.sys = .s4 then 0 else 3300

/-- LD_REFCLK, 25 MHz: from the main PLL with LD up to run, LURXCLK passed on by the working repeater, or low (R327, R329, R362). -/
inductive LdRefclk where
  | low | mainPll | lurxclk
  deriving DecidableEq, Repr

def ldRefclk (s : State) : LdRefclk :=
  if s.pwr.netOn then (if !s.loaded || nLden s then .mainPll else .low)
  else if s.loaded && nRepeater s && s.lea.byp then .lurxclk
  else .low

end Sys2Proof.Machine
end

