-- ==== Sys2Proof/Machine/Cause.lean ====
section
/-!
DEFINITION. Causes and safety states: outlet causes and their classes (R132), an outlet's change of state (R118), the
safety causes of the fault table with their recording (R172, R173), and entry into CHECK, MATE and RUN (R165–R171).
-/

namespace Sys2Proof.Machine

/-! ### Outlet causes and states -/

/-- The code of a state in OUTn_STATE.STATE (R117). -/
def OutSt.code : OutSt → Nat
  | .idle => 0 | .plugged => 1 | .authWait => 2 | .negotiate => 3 | .cableCheck => 4 | .precharge => 5
  | .energy => 6 | .rampDown => 7 | .weldCheck => 8 | .unlock => 9 | .faulted => 0xA | .oos => 0xB

/-- The class of an outlet cause: 0 none, 1 END, 2 RECOVER, 3 LATCH (R132). -/
def causeClass (c : Nat) : Nat :=
  if c = 0 then 0
  else if c ∈ [0x01, 0x02, 0x03, 0x04, 0x05, 0x0A, 0x0C, 0x0D] then 1
  else if c ∈ [0x10, 0x11, 0x12] then 3
  else 2

/-- A flag of OUTn_FLAGS that the evaluation of this tempo sets: it takes effect at the edge (R57). -/
def outPend (n : Nat) (f : Nat → Fld) (s : State) : State := onOutlet n (fun o => { o with pend := o.pend ||| 2 ^ (f n).lo }) s

/-- An outlet cause recorded: within a session only a higher class replaces an earlier cause (R132); a LATCH cause is
held (R135). -/
def outCause (n code : Nat) (s : State) : State :=
  onOutlet n (fun o =>
    let h := o.latch || causeClass code == 3
    if o.cause = 0 ∨ o.causeOld ∨ causeClass code = 3 ∨ causeClass o.cause < causeClass code then
      { o with latch := h, cause := code, inState := o.st.code, causeOld := false,
               pend := if o.cause = code then o.pend else o.pend ||| 2 ^ (F.OUT_FLAGS_CAUSE n).lo }
    else { o with latch := h }) s

/-- A change of outlet state: STCHG with its event-queue entry at the edge, and the state's timer restarted (R118). The state
is held from the next tempo on. -/
def outGo (n : Nat) (st : OutSt) (s : State) : State :=
  outPend n F.OUT_FLAGS_STCHG (onOutlet n (fun o => { o with st := st, since := s.tmp.now + 1 }) s)

/-- A session event for the sealed core, which it gets with the chain time of the edge (R140). -/
def sessionEvent (n : Nat) (e : SessEv) (s : State) : State := onOutlet n (fun o => { o with sev := o.sev ++ [e] }) s

/-- A request discarded with its reason (R114). -/
def outReject (n reason : Nat) (s : State) : State :=
  outPend n F.OUT_FLAGS_REQREJ (onOutlet n (fun o => { o with rejP := some reason }) s)

/-! ### Safety causes -/

/-- The code of a safety state in SAF_STATE.STATE (R167). -/
def SafSt.code : SafSt → Nat
  | .run => 0 | .check => 1 | .mate => 2

/-- One recording of a cause: LAST and DATA, COUNT, and FIRST where it is the first since RUN (R173). -/
def safRecord (code data : Nat) (s : State) : State :=
  let s1 := if rget s F.SAF_CAUSE_COUNT = 0 then rput F.SAF_CAUSE_FIRST code s else s
  s1 |> rput F.SAF_CAUSE_LAST code |> rput F.SAF_CAUSE_DATA data |> rsat F.SAF_CAUSE_COUNT 1

/-- A condition of the fault table is present in this tempo: recorded at its onset, and once more where the same
condition takes the module from CHECK into MATE (R173); its reaction falls due at the edge (R166, R171). -/
def safCause (code data : Nat) (mate : Bool) (s : State) : State :=
  let known := s.saf.cur.contains (code, data) || s.saf.prev.contains (code, data)
  let again := known && mate && s.saf.st == .check && s.saf.toMate.isNone
  let s1 := if !known || again then safRecord code data s else s
  { s1 with
    saf.cur := if s.saf.cur.contains (code, data) then s.saf.cur else (code, data) :: s.saf.cur
    saf.toCheck := if mate then s1.saf.toCheck else s1.saf.toCheck <|> some code
    saf.toMate := if mate then s1.saf.toMate <|> some code else s1.saf.toMate }

/-- The Board target computed in this tempo demands CHECK (R102). -/
def tripCheck (s : State) : Bool := s.saf.st != .mate && (s.brd.agreed.getD 0).testBit 0x64

/-- CHECK is in force, or its cause has come in this tempo (R129, R167). -/
def inCheck (s : State) : Bool := s.saf.st == .check || s.saf.toCheck.isSome || tripCheck s

/-! ### Coils -/

/-- The command of a coil staged for the next edge; an absent coil (0x40) takes none. A coil commanded open during CHECK
is put under the test of R169. -/
def coilCmd (c : Nat) (b : Bool) (s : State) : State :=
  if c < 64 then
    onCoil c (fun k =>
      { k with
        cmd := b
        hard := k.hard && !b
        checkOpen := if b then none else if k.cmd && inCheck s then some s.tmp.now else k.checkOpen }) s
  else s

/-- The feedback of a coil disagrees with its drive beyond its settling time (R123, R146). -/
def coilMismatch (s : State) (c fb : Nat) : Bool :=
  decide (c < 64) && decide (fb < 64) && (coil s c).drive != fbIn s fb && decide (mSettle s c < sinceT s (coil s c).since)

/-- A coil whose feedback disagrees beyond its settling time: MTX_FLAGS.FBMISMATCH at its first tempo and a CHECK cause,
for a crosspoint and for an outlet's coil alike (R146, R172; DEDUCED, log entry 161). -/
def coilFault (c : Nat) (s : State) : State :=
  let fresh := !(s.saf.cur.contains (0x0C, c) || s.saf.prev.contains (0x0C, c))
  safCause 0x0C c false (if fresh then raiseMtx F.MTX_FLAGS_FBMISMATCH s else s)

/-- The outlet whose KP or KN coil `c` is, in post role. -/
def outletOfCoil (s : State) (c : Nat) : Option Nat :=
  if isPost s then (List.range 4).find? (fun n => oType s n != tyNone && (List.range 5).any (fun k => oCoil s n k == c))
  else none

/-- The crosspoint whose coil `c` is, in cabinet role. -/
def xpOfCoil (s : State) (c : Nat) : Option Nat :=
  if isCabinet s then (List.range (mNxp s)).find? (fun x => mXpCoil s x == c) else none

/-- The current a coil breaks, in mA: the outlet's measured current or the group's reported current (R164). -/
def coilCurrent (s : State) (c : Nat) : Nat :=
  match outletOfCoil s c with
  | some n => (oIma s n).natAbs
  | none =>
    match xpOfCoil s c with
    | some x => 100 * (group s (mXpGroup s x)).iout.natAbs
    | none => 0

/-- A break at 2 A or more of KP, KN or a crosspoint counts as a hard break, and one that a rule names so at any current (R128,
R130, R139, R146, R196). -/
def hardBreak (c : Nat) (s : State) : State :=
  if coilCurrent s c < 2000 ∧ (coil s c).hard = false then s
  else match outletOfCoil s c with
    | some n => if oCoil s n 0 = c ∨ oCoil s n 1 = c then raiseOut n F.OUT_FLAGS_HARDBRK s else s
    | none => if (xpOfCoil s c).isSome then raiseMtx F.MTX_FLAGS_HARDBRK s else s

/-- The drive of a coil put into effect: an opening advances the switching count and the I²t at break (R164; in
mA²·ms here), whatever commands it. -/
def coilDrive (c : Nat) (b : Bool) (s : State) : State :=
  let k := coil s c
  if k.drive = b then s
  else if b then onCoil c (fun k => { k with drive := true, since := s.tmp.now + 1 }) s
  else
    let i := coilCurrent s c
    let s1 := hardBreak c s
    let s2 := onCoil c (fun k =>
      { k with drive := false, hard := false, since := s.tmp.now + 1, sw := min 0xFFFFFFFF (k.sw + 1), i2t := k.i2t + i * i * mArc s,
               dirty := true }) s1
    if (coil s2 c).sw = mWearMax s2 then raiseMtx F.MTX_FLAGS_WEAR s2 else s2

/-- Every coil drive off at once. -/
def coilsOff (s : State) : State :=
  eachUpTo 64 (fun c t => coilDrive c false (onCoil c (fun k => { k with eff := false }) (coilCmd c false t))) s

/-- Coil KP, KN, BRP, BRN or DIS of an outlet commanded. -/
def outCoil (n k : Nat) (b : Bool) (s : State) : State := coilCmd (oCoil s n k) b s

/-! ### What an evaluation leaves for the edge (R57) -/

/-- The flags of OUTn_FLAGS. -/
def outFlagFlds : List (Nat → Fld) :=
  [F.OUT_FLAGS_STCHG, F.OUT_FLAGS_REQREJ, F.OUT_FLAGS_REQOVW, F.OUT_FLAGS_AUTHREF, F.OUT_FLAGS_CAUSE, F.OUT_FLAGS_CCDONE,
   F.OUT_FLAGS_PCMATCH, F.OUT_FLAGS_HARDBRK, F.OUT_FLAGS_EVSLOW, F.OUT_FLAGS_BUDGET]

/-- The insulation cycle of outlet n stops, and both bridge relays open (R190). -/
def isoHalt (n : Nat) (s : State) : State :=
  onIso n (fun m => { m with run := false, phase := .off, confAt := none }) (outCoil n 3 false (outCoil n 2 false s))

/-- The insulation monitor of outlet n takes over the bridge relays: its cycles start (R124, R190, R191). -/
def isoBegin (n : Nat) (s : State) : State :=
  onIso n (fun m => { m with run := true, phase := .idle, dwellP := 450, dwellN := 450, nextP := 450, nextN := 450, invRun := 0,
                             result := none, confAt := none, bad := false, extrap := false }) s

/-- What the evaluation left for the edge takes effect: the flags in one cycle, the reason of a discard, the event-queue entry of a
change of state, a bus request to send at once, the insulation cycle, the session events, and at a session's end the fault
mark of SAF_ISOn and DIR back to import (R57, R110, R114, R118, R136, R140; log entry 172). -/
def outFlush (n : Nat) (s : State) : State :=
  let o := outlet s n
  let fl := (outFlagFlds.map (fun f => f n)).filter (fun f => o.pend.testBit f.lo)
  let s1 := if fl.isEmpty then s else raise (F.OUT_EVCNT_COUNT n) fl s
  let s2 := match o.rejP with | some r => rput (F.OUT_CAUSE_REJ n) r s1 | none => s1
  let s3 := if o.pend.testBit (F.OUT_FLAGS_STCHG n).lo then safPost (2 + n) o.st.code o.cause s2 else s2
  let s4 := if o.reqNow then { s3 with lea.busReqNow := true } else s3
  let s5 := if o.isoStop then isoHalt n s4 else s4
  let s6 := if o.isoStart then isoBegin n s5 else s5
  let s7 := if o.ended then s6 |> rput (F.SAF_ISO_FAULT n) 0 |> rput (F.OUT_CTRL_DIR n) 0 else s6
  onOutlet n (fun o => { o with pend := 0, rejP := none, reqNow := false, isoStop := false, isoStart := false, ended := false, sev := [] })
    { s7 with bil.evIn := s7.bil.evIn ++ o.sev.map (fun e => (n, e, nextEdge s)) }

/-- Every outlet as it stands is in effect. -/
def outsTake (s : State) : State :=
  let t := eachUpTo 4 outFlush s
  { t with outsF := t.outs }

/-! ### VS_LOAD in the SAFE domain (R504) -/

/-- VS_LOAD becomes absent: no test pulse can be energised, and TESTOK falls at every tested input as by a failed test
(R179, R504; TPFAIL DEDUCED, log entry 162). -/
def vsLost (s : State) : State :=
  if s.pwr.vsAbsent then s
  else
    eachUpTo 24 (fun i t =>
      if sInUsed t i && decide (sInSrc t i < 8) then
        let u := onSIn i (fun x => { x with kept := none, passes := 0, testOk := false }) t
        if (sIn t i).testOk then raiseSio F.SIO_FLAGS_TPFAIL i u else u
      else t) { s with pwr.vsAbsent := true }

/-! ### Safety states -/

/-- The module takes a safety state: STCHG and the event-queue entry (R167, R205). -/
def safGo (st : SafSt) (code : Nat) (s : State) : State :=
  { s with saf.st := st, saf.since := s.tmp.now + 1 } |> raiseSaf F.SAF_FLAGS_STCHG |> safPost 0x00 st.code code

/-- An outlet in MATE: FAULTED with cause MATE, its energy ended, its coils off, and no weld check but the mirror contacts of an
outlet that had them closed (R131). An outlet that is held OUT_OF_SERVICE by its record or by the role stays there, and one
already FAULTED with its energy ended is in that state. -/
def outMate (n : Nat) (s : State) : State :=
  if !oActive s n then s
  else
    let o := outlet s n
    let s1 := outCause n 0x14 s
    let s2 := if o.energised then sessionEvent n .ended s1 else s1
    let s3 := onOutlet n (fun o =>
      { o with applied := 0, bind := 5, pause := false, energised := false, isoStop := true,
               weld := if o.hadClosed then .settle else .off, weldAt := s.tmp.now + 1,
               diract := false, rkind := .release, rvolt := 0, rcur := 0, duty := 1000, perm := 0, seqAt := none }) s2
    if o.st = .faulted then s3 else outGo n .faulted s3

/-- Every outlet in MATE, in effect at once. -/
def outsMate (s : State) : State := outsTake (eachUpTo 4 outMate s)

/-- The outlets that a MATE already in force has still to put into FAULTED (R131, R167, R168). -/
def outsMateLate (s : State) : State :=
  if (List.range 4).any (fun n => oActive s n && (outlet s n).st != .faulted) then
    outsTake (eachUpTo 4 (fun n t => if (outlet t n).st = .faulted then t else outMate n t) s)
  else s

/-- Entry into MATE: every Board target, safety output and coil drive off, every outlet FAULTED, every group OFF; held in
AON (R167, R168). Where STOPMATE is set it originates a STOP (R344). -/
def enterMate (code : Nat) (s : State) : State :=
  let s0 := { s with brd.tgt := 0, saf.toCheck := none, saf.toMate := none, saf.toRun := false,
                     saf.held := true, lea.mateStop := nStopMate s }
  let s1 := eachUpTo 4 (fun x t => onSOut x (fun o => { o with act := false }) t) s0
  let s2 := outsMate s1
  let s3 := coilsOff s2
  let s4 := eachUpTo 16 (fun g t => onGroup g (fun k =>
    { k with xp := none, mode := 0, limit := 0, share := 0, step := if k.step = .pinned then .pinned else .none, mig := false,
             dst := none }) t) s3
  s4 |> rput F.BRD_STATUS_FORCED 1 |> safGo .mate code

/-- The shutdown line: safety outputs and coils off without waiting for an edge, and MATE latched (R165, R166). -/
def shutdownLine (code data : Nat) : State → State := oneCycle fun s =>
  let s1 := safCause code data true s
  if s1.saf.st = .mate then
    coilsOff (outsMateLate { s1 with saf.toMate := none, saf.held := true })
  else enterMate code s1

/-- Entry into CHECK: coils already commanded open are not under test (R169). -/
def enterCheck (code : Nat) (s : State) : State :=
  safGo .check code { s with saf.toCheck := none }

/-- Entry into RUN: causes are counted anew (R173), the held MATE mark is cleared (R201). -/
def enterRun (s : State) : State :=
  let s1 := { s with saf.toRun := false, saf.kept := false, saf.held := false, saf.overT := false, saf.toCheck := none }
  eachUpTo 64 (fun c t => onCoil c (fun k => { k with checkOpen := none }) t) s1
    |> rput F.SAF_CAUSE_FIRST 0 |> rput F.SAF_CAUSE_COUNT 0 |> safGo .run 0

end Sys2Proof.Machine
end

