-- ==== Sys2Proof/Machine/Board.lean ====
section
/-!
DEFINITION. The Board (04): its sources and local signals, one square and one whole move in either encoding, the
comparison of the two moves, the scrub, and what takes effect at the edge (R95–R108).
-/

namespace Sys2Proof.Machine

/-! ### Reading the configuration memory: square record k at 192 × k -/

def bU8 (s : State) (k off : Nat) : Nat := u8 (sec s 3) (192 * k + off)
def bU16 (s : State) (k off : Nat) : Nat := u16 (sec s 3) (192 * k + off)
def bTT (s : State) (k c : Nat) : Nat := u64 (sec s 3) (192 * k + 8 * c)
def bSel (s : State) (k c j : Nat) : Nat := bU8 s k (0x40 + 6 * c + j) % 64
def bRin (s : State) (k i : Nat) : Nat := bU16 s k (0x70 + 2 * i) % 1024
def bExport (s : State) (k : Nat) : Nat := bU8 s k 0x90
def bFfinit (s : State) (k : Nat) : Nat := bU8 s k 0x91

/-- A record of all zero bytes is an unused square. -/
def bUsed (s : State) (k : Nat) : Bool := !allZero (slice (sec s 3) (192 * k) 192)

/-- Targets of the Board as SEQ sees them: those computed in this tempo, else those in effect (R109, R62). -/
def targets (s : State) : Nat := if s.saf.st = .mate then 0 else s.brd.agreed.getD s.brd.tgt

def target (s : State) (t : Nat) : Bool := (targets s).testBit t

/-! ### Sources (R95) -/

/-- EPOCH_OK: an expected digest has been received and there is no EPOCH_MISMATCH (R348). -/
def epochOk (s : State) : Bool := s.lea.expGot && !s.lea.mismatch

/-- Whether an outlet's record keeps it out of service. -/
def outPlugged (o : Outlet) : Bool := decide (1 ≤ o.st.code) && decide (o.st.code ≤ 9)

/-- LOCKED of an outlet record: the lock feedback, or for an outlet without a lock 1 from PLUGGED onwards, that is in every state
but IDLE and OUT_OF_SERVICE (R120). -/
def outLocked (s : State) (n : Nat) (o : Outlet) : Bool :=
  if oLock s n then fbIn s (oLockFb s n) else !(o.st == .idle || o.st == .oos)

/-- ISO_OK(n) of an outlet record: set by the insulation monitor; for an AC3 outlet, 1 while the residual-current function has not
tripped and its fluxgate test has passed (R124, R198). -/
def isoOkOf (s : State) (n : Nat) (o : Outlet) : Bool :=
  if oType s n = tyAc3 then !o.isoHeld && (!sRcMask s n || o.rcTested) else o.isoOk && !o.isoHeld

def isoOk (s : State) (n : Nat) : Bool := isoOkOf s n (outlet s n)

/-- PILOT_FAULT: the confirmed pilot state is E or F (R119). -/
def pilotFault (o : Outlet) : Bool := o.pilot == .e || o.pilot == .f

/-- Outlet status bits b0–b7, of the outlet as it is in effect (R57, R95). -/
def statusBits (s : State) (n : Nat) : Nat :=
  let o := outShown s n
  if !oActive s n then 0
  else b2n (outPlugged o) + 2 * b2n o.auth + 4 * b2n (isoOkOf s n o) + 8 * b2n o.proxOk + 16 * b2n (outLocked s n o)
    + 32 * b2n (o.st == .energy) + 64 * b2n (pilotFault o) + 128 * b2n (hvPresent s n)

/-- A source that is not a square output, in true encoding. The inputs, their test results and the streams are those frozen at the
edge; the outlet status bits are those in effect since the edge, with confirmations as frozen; the feedback inputs and the
marks from 0x290 on are read as they stand when the move runs (DESIGN CHOICE, log entry 182). -/
def fixedSource (s : State) (code : Nat) : Bool :=
  if code < 0x218 then s.fz.si.testBit (code - 0x200)
  else if code < 0x230 then s.fz.test.testBit (code - 0x218)
  else if code < 0x270 then fbIn s (code - 0x230)
  else if code < 0x290 then (statusBits s ((code - 0x270) / 8)).testBit ((code - 0x270) % 8)
  else if code = 0x290 then s.saf.guardOk
  else if code = 0x291 then epochOk s
  else if code = 0x292 then s.saf.st == .check
  else if code = 0x293 then s.pwr.pfw
  else if code = 0x294 then s.bil.ready
  else if code = 0x295 then s.tmp.mode == .holdover
  else if code = 0x296 then s.yrd.lost
  else if code = 0x297 then s.saf.resetPulse
  else if code = 0x298 then s.tmp.first
  else if code = 0x299 then rbit s F.TMP_STATUS_IRC
  else if code = 0x29A then rbit s F.LCD_STATUS_CRACK
  else code == 0x3FF

/-- The squares of the previous tempo. -/
def squareAt (s : State) (k : Nat) : Square := Tab.get Square.reset s.brd.sq k

/-- A source as a routed input of square `at_` reads it, in encoding `e` (inverted where true): the current move for
cells of lower squares, already in the encoding; the end of the previous tempo otherwise, and for every Q (R98). -/
def source (s : State) (e : Bool) (done : List Square) (at_ code : Nat) : Bool :=
  if code < 0x200 then
    let k := code / 8
    let c := code % 8
    if (bExport s k).testBit c then (squareAt s k).q.testBit c != e
    else if k < at_ then (done.getD k Square.reset).c.testBit c
    else (squareAt s k).c.testBit c != e
  else fixedSource s code != e

/-! ### One square -/

/-- The comparator's next state from the frozen stream: R100, with the staleness of R101; in the first tempo after a load
IN is 0 and ABOVE is 1. -/
def cmpNext (s : State) (k : Nat) (old : Square) : Bool × Bool × Bool :=
  let st := Tab.get Stream.reset s.fz.strm (bU8 s k 0xAC % 64)
  let maxAge := bU16 s k 0xB8
  let stale := match st.stamp with
    | none => true
    | some t => decide (maxAge < s.tmp.now - (t + 1))
  if stale then (false, true, true)
  else if s.tmp.first then (false, true, false)
  else
    let hyst : Int := bU16 s k 0xAE
    let low := i32 (sec s 3) (192 * k + 0xB0)
    let high := i32 (sec s 3) (192 * k + 0xB4)
    let v := st.val
    let cin := if low + hyst ≤ v ∧ v ≤ high - hyst then true else if v < low ∨ v > high then false else old.cin
    let above := if v > high then true else if v ≤ high - hyst then false else old.cabove
    (cin, above, false)

/-- A local signal of a square as cell `upto` reads it, in encoding `e` (R96, R98): cells below `upto` from the current
move `c`. -/
def localSig (s : State) (e : Bool) (done : List Square) (k : Nat) (old : Square) (cmp : Bool × Bool × Bool) (c upto sel : Nat) :
    Bool :=
  if sel < 0x10 then source s e done k (bRin s k sel)
  else if sel < 0x18 then (if sel - 0x10 < upto then c.testBit (sel - 0x10) else old.c.testBit (sel - 0x10) != e)
  else if sel < 0x20 then old.q.testBit (sel - 0x18) != e
  else if sel = 0x20 then old.t0.done != e
  else if sel = 0x21 then old.t1.done != e
  else if sel = 0x22 then old.tc != e
  else if sel = 0x23 then cmp.1 != e
  else if sel = 0x24 then cmp.2.1 != e
  else if sel = 0x25 then cmp.2.2 != e
  else (sel == 0x3F) != e

/-- A cell: six inputs, inverted at the address decoder and the result inverted in the complemented move (R97, R104). -/
def cellEval (s : State) (e : Bool) (done : List Square) (k : Nat) (old : Square) (cmp : Bool × Bool × Bool) (c cell : Nat) : Bool :=
  let inp := fun j => b2n (localSig s e done k old cmp c cell (bSel s k cell j) != e)
  (bTT s k cell).testBit (32 * inp 5 + 16 * inp 4 + 8 * inp 3 + 4 * inp 2 + 2 * inp 1 + inp 0) != e

/-- The cycle of MOVE_TRUE at which a square's timers are compared (R98, R99). -/
def timerCycle (s : State) (k : Nat) : Nat := s.brd.start + 15 * (k + 1)

/-- A timer's next state in true encoding from the trigger of this move (R99); record at `off` of the square. A trigger that rises
in the very move in which the running pulse expires starts no new one (DESIGN CHOICE, log entry 182). -/
def timerNext (s : State) (k off : Nat) (trig : Bool) (t : BTimer) : BTimer :=
  let preset := bU8 s k off + 256 * bU8 s k (off + 1) + 65536 * bU8 s k (off + 2)
  let mode := bU8 s k (off + 4)
  let isUs := bU8 s k (off + 5) == 1
  let here : Option (Nat × Nat) := some (s.tmp.now, s.tmp.cyc)
  let elapsed := fun (p : Nat × Nat) =>
    if isUs then (s.tmp.cyc - p.2 + timerCycle s k) / 200 else s.tmp.now - p.1
  let reached : Option (Nat × Nat) → Bool := fun st => match st with | some p => decide (preset ≤ elapsed p) | none => false
  if preset = 0 then ⟨trig, trig, none⟩
  else if mode = 0 then
    let st := if trig then (if t.trig && t.start.isSome then t.start else here) else none
    ⟨trig, trig && reached st, st⟩
  else if mode = 1 then
    if trig then ⟨true, true, none⟩
    else
      let st := if t.trig then here else t.start
      ⟨false, st.isSome && !reached st, if reached st then none else st⟩
  else
    let st := if trig && !t.trig && t.start.isNone then here else t.start
    ⟨trig, st.isSome && !reached st, if reached st then none else st⟩

/-- The counter's next state in true encoding: count, and the UP and DOWN signals it saw (R100). -/
def counterNext (old : Square) (preset : Nat) (up down load : Bool) : Nat × Bool :=
  let n := if load then 0
    else if (up && !old.up) && (down && !old.down) then old.cnt
    else if up && !old.up then min 0xFFFF (old.cnt + 1)
    else if down && !old.down then old.cnt - 1
    else old.cnt
  (n, decide (preset ≤ n))

/-- One square in encoding `e`: the comparator first, the cells in order, then timers and counter (R98). The cells, the
flip-flops' next states, done, TC and the comparator are carried in the encoding. -/
def squareEval (s : State) (e : Bool) (done : List Square) (k : Nat) : Square :=
  let old := squareAt s k
  if !bUsed s k then
    { old with c := if e then 0xFF else 0, q := if e then 0xFF else 0, cnt := if e then 0xFFFF - old.cnt else old.cnt,
               tc := old.tc != e, cin := old.cin != e,
               cabove := old.cabove != e, cstale := old.cstale != e,
               t0 := { old.t0 with done := old.t0.done != e }, t1 := { old.t1 with done := old.t1.done != e } }
  else
    let cmp := cmpNext s k old
    let c := (List.range 8).foldl (fun c i => setBit c i (cellEval s e done k old cmp c i)) 0
    let sig := fun sel => localSig s e done k old cmp c 8 (sel % 64) != e
    let t0 := timerNext s k 0x94 (sig (bU8 s k 0x9A)) old.t0
    let t1 := timerNext s k 0x9C (sig (bU8 s k 0xA2)) old.t1
    let up := sig (bU8 s k 0xA6)
    let down := sig (bU8 s k 0xA7)
    let cn := counterNext old (bU16 s k 0xA4) up down (sig (bU8 s k 0xA8))
    { c := c, q := c, t0 := { t0 with done := t0.done != e }, t1 := { t1 with done := t1.done != e },
      cnt := if e then 0xFFFF - cn.1 else cn.1, up := up != e, down := down != e, tc := cn.2 != e,
      cin := cmp.1 != e, cabove := cmp.2.1 != e, cstale := cmp.2.2 != e }

/-! ### A move -/

/-- All squares in index order. -/
def squaresEval (s : State) (e : Bool) : List Square :=
  (List.range 64).foldl (fun done k => done ++ [squareEval s e done k]) []

/-- The output map: a disabled target holds its safe value 0 (R102). -/
def mapEval (s : State) (e : Bool) (done : List Square) : Nat :=
  bitsOf 0x66 (fun t =>
    let en := u16 (sec s 3) (12288 + 2 * t)
    if en ≥ 0x8000 then source s e done 64 (en % 1024) else e)

/-- A hardware fault inverts one element of a square in a move's result. -/
def flipElem (q : Square) (el : Nat) : Square :=
  if el < 8 then { q with c := setBit q.c el (!q.c.testBit el) }
  else if el < 0x10 then { q with q := setBit q.q (el - 8) (!q.q.testBit (el - 8)) }
  else if el = 0x10 then { q with t0 := { q.t0 with done := !q.t0.done } }
  else if el = 0x11 then { q with t1 := { q.t1 with done := !q.t1.done } }
  else if el = 0x12 then { q with cnt := if q.cnt = 0 then 1 else q.cnt - 1 }
  else if el = 0x13 then { q with cin := !q.cin }
  else q

def moveEval (s : State) (e : Bool) (flips : List (Nat × Nat)) : Move :=
  let sq := squaresEval s e
  let sq1 := flips.foldl (fun l p => l.modify p.1 (fun q => flipElem q p.2)) sq
  let map := mapEval s e sq
  ⟨sq1, if flips.any (fun p => p.2 == 0x14) then setBit map 0 (!map.testBit 0) else map⟩

/-- The first element of a square whose two moves are not exact complements (R104). -/
def squareDiff (a b : Square) : Option Nat :=
  (List.range 0x14).find? (fun el =>
    if el < 8 then a.c.testBit el == b.c.testBit el
    else if el < 0x10 then a.q.testBit (el - 8) == b.q.testBit (el - 8)
    else if el = 0x10 then a.t0.done == b.t0.done || a.t0.start != b.t0.start
    else if el = 0x11 then a.t1.done == b.t1.done || a.t1.start != b.t1.start
    else if el = 0x12 then a.cnt + b.cnt != 0xFFFF || a.tc == b.tc
    else a.cin == b.cin || a.cabove == b.cabove || a.cstale == b.cstale)

/-- The first differing element of two moves: square and element, 0x14 for the output map. -/
def moveDiff (a b : Move) : Option (Nat × Nat) :=
  match (List.range 64).find? (fun k => (squareDiff (a.sq.getD k Square.reset) (b.sq.getD k Square.reset)).isSome) with
  | some k => some (k, (squareDiff (a.sq.getD k Square.reset) (b.sq.getD k Square.reset)).getD 0)
  | none => if (List.range 0x66).any (fun t => a.map.testBit t == b.map.testBit t) then some (0, 0x14) else none

/-- A read of the configuration memory: a single-bit error is corrected and counted, an uncorrectable one withholds the
tempo's outputs and enters MATE (R106, R107). -/
def boardEcc (ecc : Ecc) (s : State) : State :=
  match ecc with
  | .clean => s
  | .corrected => s |> rsat F.BRD_ECCCNT_COR 1 |> raise F.BRD_EVCNT_COUNT [F.BRD_FLAGS_ECCCOR]
  | .uncorrectable =>
    { s with brd.scrubBad := true } |> raise F.BRD_EVCNT_COUNT [F.BRD_FLAGS_ECCUNC] |> safCause 0x08 0 true

/-- Streams a used square's comparator finds stale. -/
def staleStreams (s : State) (m : Move) : Nat :=
  (List.range 64).foldl (fun a k =>
    if bUsed s k && (m.sq.getD k Square.reset).cstale then setBit a (bU8 s k 0xAC % 64) true else a) 0

/-! ### The duties -/

def moveTrue (ecc : Ecc) (flips : List (Nat × Nat)) (s : State) : State :=
  let m := moveEval s false flips
  let s1 := { s with brd.mv := some m } |> boardEcc ecc
  let st := staleStreams s m
  let old := rget s (F.BRD_STALE_STALE 0) + 4294967296 * rget s (F.BRD_STALE_STALE 1)
  let rising := (List.range 64).any (fun k => st.testBit k && !old.testBit k)
  s1 |> rput (F.BRD_STALE_STALE 0) (st % 4294967296) |> rput (F.BRD_STALE_STALE 1) (st / 4294967296)
    |> raiseIf rising F.BRD_EVCNT_COUNT [F.BRD_FLAGS_STALE]

def moveComp (ecc : Ecc) (flips : List (Nat × Nat)) (s : State) : State :=
  boardEcc ecc { s with brd.mvc := some (moveEval s true flips) }


/-- COMPARE: agreement gives the tempo its targets; a mismatch gives safe targets and CHECK, and MATE where the previous
tempo had one too (R104, R105). A tempo in which a move did not complete compares nothing. -/
def boardCompare (s : State) : State :=
  match s.brd.mv, s.brd.mvc with
  | some a, some b =>
    match moveDiff a b with
    | none => { s with brd.agreed := some a.map }
    | some (k, el) =>
      { s with brd.agreed := some 0, brd.mismatch := true }
        |> rput F.BRD_MISMATCH_SQUARE k |> rput F.BRD_MISMATCH_ELEM el
        |> raise F.BRD_EVCNT_COUNT [F.BRD_FLAGS_MISMATCH]
        |> safCause 0x07 k s.brd.mismatchPrev
  | _, _ => s

/-- The corruptions a scrub reads, over the configuration memory. -/
def upsetMem (b : Bytes) (u : List (Nat × Byte)) : Bytes := u.foldl (fun m p => m.modify p.1 (· ^^^ p.2)) b

/-- SCRUB: CRC-32 over the configuration memory against BRD_CRCREF (R107). -/
def boardScrub (ecc : Ecc) (upset : List (Nat × Byte)) (s : State) : State :=
  let c := crc32 (upsetMem (sec s 3) upset)
  let s1 := s |> rput F.BRD_CRCLAST_CRC c |> boardEcc ecc
  if c = rget s F.BRD_CRCREF_CRC then s1
  else { s1 with brd.scrubBad := true } |> raise F.BRD_EVCNT_COUNT [F.BRD_FLAGS_CRCERR] |> safCause 0x08 1 true

/-! ### The edge -/

/-- Decoded from either encoding: the squares as MOVE_TRUE computed them take effect. -/
def commitSquares (m : Move) (s : State) : State :=
  { s with brd.sq := Tab.mapIdx s.brd.sq (fun k old => m.sq.getD k old) }

/-- Rising Board events post to the SAF event queue (R102, R205). -/
def boardEvents (old new : Nat) (s : State) : State :=
  eachUpTo 16 (fun i t => if new.testBit (0x54 + i) && !old.testBit (0x54 + i) then safPost 0x01 i 0 t else t) s

/-- SCRUB has completed, or the schedule has none: the Board outputs of the tempo may take effect (R108). -/
def scrubRan (s : State) : Bool := s.tmp.ran.contains 7 || (slotOf s 7).isNone

/-- The moves of the tempo take effect: they agreed, and neither the scrub nor its abort withholds them (R105, R107, R108). -/
def boardTakes (s : State) : Option (Move × Nat) :=
  match s.brd.agreed, s.brd.mv with
  | some t, some m => if !s.brd.scrubBad && !s.brd.mismatch && scrubRan s then some (m, t) else none
  | _, _ => none

/-- The demands of the targets TRIP_CHECK and TRIP_MATE that take effect at this edge (R102, R108, R172). -/
def edgeTrips (s : State) : State :=
  match boardTakes s with
  | none => s
  | some (_, t) =>
    let chk := s.saf.st != .mate && t.testBit 0x64
    let mate := s.saf.st != .mate && t.testBit 0x65
    let s1 := raiseIf (chk || mate) F.BRD_EVCNT_COUNT
      ((if chk then [F.BRD_FLAGS_TRIPCHK] else []) ++ (if mate then [F.BRD_FLAGS_TRIPMATE] else [])) s
    let s2 := if chk then safCause 0x0F 0 false s1 else s1
    if mate then safCause 0x10 0 true s2 else s2

/-- The Board at the edge: safe values in MATE and after a mismatch or a scrub error, the computed targets where both moves
agreed and the scrub completed, and otherwise the previous outputs. The squares take their next states wherever the moves
take effect, in MATE too (R57, R62, R98, R105, R107, R108). -/
def edgeBoard (s : State) : State :=
  let old := s.brd.tgt
  let s0 := raiseIf (!scrubRan s) F.BRD_EVCNT_COUNT [F.BRD_FLAGS_SCRABT] s
  let safe := s.saf.st == .mate || s.brd.scrubBad || s.brd.mismatch
  let s1 := match boardTakes s with
    | some (m, t) =>
      let s2 := commitSquares m s0
      if safe then { s2 with brd.tgt := 0 } else boardEvents old t { s2 with brd.tgt := t }
    | none => if safe then { s0 with brd.tgt := 0 } else s0
  let s3 := rputB F.BRD_STATUS_FORCED safe s1
  { s3 with brd.mv := none, brd.mvc := none, brd.agreed := none, brd.mismatchPrev := s.brd.mismatch,
            brd.mismatch := false, brd.scrubBad := false }

/-- The move of the running tempo with one square changed; its end-of-tempo state takes effect at the edge (R98). -/
def onMove (k : Nat) (f : Square → Square) (s : State) : State :=
  { s with brd.mv := s.brd.mv.map (fun m => { m with sq := m.sq.modify k f }) }

/-- A timer of the move, from the trigger that the move saw (R99). -/
def boardTimer (k : Nat) (t1 : Bool) (s : State) : State :=
  let old := squareAt s k
  onMove k (fun q =>
    if t1 then { q with t1 := timerNext s k 0x9C q.t1.trig old.t1 } else { q with t0 := timerNext s k 0x94 q.t0.trig old.t0 }) s

/-- TC of a counter of the move, from its count (R100). -/
def boardCounter (k : Nat) (s : State) : State := onMove k (fun q => { q with tc := decide (bU16 s k 0xA4 ≤ q.cnt) }) s

/-- A comparator from the frozen stream: one found stale sets its bit of BRD_STALE, and STALE at its onset (R101). -/
def boardComparator (k : Nat) (s : State) : State :=
  let n := cmpNext s k (squareAt s k)
  let st := bU8 s k 0xAC % 64
  let f := F.BRD_STALE_STALE (st / 32)
  let s1 := onMove k (fun q => { q with cin := n.1, cabove := n.2.1, cstale := n.2.2 }) s
  if n.2.2 && !(rget s f).testBit (st % 32) then raise F.BRD_EVCNT_COUNT [F.BRD_FLAGS_STALE] (rputAt f (st % 32) true s1) else s1

end Sys2Proof.Machine
end

