-- ==== Sys2Proof/Machine/Outlet.lean ====
section
/-!
DEFINITION. The outlet sequencers (05): the conditions of one tempo, the state table of R117 with its emergency path,
weld check and unlock, the outputs a state holds, and the meanings of the outlet commands. Every expiry of a sequencer
timer is an evaluation of the one state table.
-/

namespace Sys2Proof.Machine

/-! ### Conditions of a tempo -/

/-- Outlet n is fed by bus b. -/
def oOnBus (s : State) (n b : Nat) : Bool := (oBuses s n).testBit b

def grantOf (s : State) (b : Nat) : Grant := Tab.get Grant.reset s.lea.grant b

/-- The power granted on the outlet's buses, kW: the sum over its buses (R111). -/
def oGrantKw (s : State) (n : Nat) : Nat :=
  (List.range 8).foldl (fun a b => if oOnBus s n b then a + (grantOf s b).kw else a) 0

/-- The bus voltage of the most recent grants, 0.1 V: the highest over the outlet's buses (R122). -/
def oBusVolt (s : State) (n : Nat) : Nat :=
  (List.range 8).foldl (fun a b => if oOnBus s n b then max a (grantOf s b).volt else a) 0

/-- No grant from the cabinet for any of the outlet's buses for 100 tempos (R129). -/
def busLost (s : State) (n : Nat) : Bool :=
  oBuses s n != 0 && (List.range 8).all (fun b => !oOnBus s n b ||
    match (grantOf s b).stamp with | none => true | some t => decide (100 ≤ sinceT s t))

/-- Power of an outlet, W, as frozen (streams 58–61). -/
def oPower (s : State) (n : Nat) : Int := fzVal s (58 + n)

/-- The outlet's share of the site budget, kW: the module's share less the power of its other outlets, never below 0
(R342); the export share is formed in the same way. The difference is rounded down to the kW of OUTn_GRANT.SHARE before it
enters R17 (DESIGN CHOICE, log entry 173). -/
def oShare (s : State) (n : Nat) (exporting : Bool) : Nat :=
  let module : Nat := if exporting then s.fz.shareExp else s.fz.shareImp
  let others : Int := (List.range 4).foldl (fun a m =>
    if m ≠ n ∧ oActive s m then a + max 0 (if exporting then - oPower s m else oPower s m) else a) 0
  (((module : Int) * 1000 - others).toNat) / 1000

/-- SESSION_EPOCH(n): EPOCH_OK, or AUTH was set while EPOCH_OK was 1 in this session (R103). -/
def sessionEpoch (s : State) (n : Nat) : Bool := epochOk s || (outlet s n).authEpoch

/-- A permissive after the fixed gates of R103: k = 0 PERM_HV, 1 PERM_CLOSE, 2 PERM_ENERGY, 3 PERM_UNLOCK. `auth` is the
AUTH(n) term. In SWITCH mode PERM_ENERGY is withdrawn while the clock runs from IRC (R172). -/
def permOf (s : State) (n k : Nat) (auth : Bool) : Bool :=
  let t := target s (0x44 + 4 * n + k)
  if k = 2 then t && s.saf.guardOk && isoOk s n && auth && s.bil.ready && sessionEpoch s n && !rbit s F.TMP_STATUS_IRC
  else if k = 3 then t
  else t && s.saf.guardOk

def permBits (s : State) (n : Nat) : Nat :=
  let a := (outlet s n).auth
  b2n (permOf s n 0 a) + 2 * b2n (permOf s n 1 a) + 4 * b2n (permOf s n 2 a) + 8 * b2n (permOf s n 3 a)

/-- A coil of the outlet is commanded closed while its Board enable is 0 (R131). -/
def enableLost (s : State) (n : Nat) : Bool :=
  (List.range 5).any (fun k =>
    let c := oCoil s n k
    decide (c < 64) && (coil s c).cmd && !target s (4 + c))

/-- The first coil of the outlet whose mirror contact disagrees beyond its settling time (R123). -/
def fbMismatch (s : State) (n : Nat) : Option Nat :=
  ((List.range 5).find? (fun k => coilMismatch s (oCoil s n k) (oFb s n k))).map (fun k => oCoil s n k)

/-- The confirmed pilot state as the sequencer's conditions take it: D is B (R299). -/
def seqPilot (o : Outlet) : Pilot := if o.pilot = .d then .b else o.pilot

/-- The pilot state that stands for B in the sequencer's conditions: C for GB/T (R120). -/
def pilotB (s : State) (n : Nat) : Pilot := if oType s n = tyGbt then .c else .b

/-- The emergency trigger of this tempo, the highest in the order of R132 and R129. -/
def emergency (s : State) (n : Nat) : Option Nat :=
  let o := outlet s n
  let energy := o.st == .energy
  let permLost := if energy then !permOf s n 2 o.auth && !(o.revoked && permOf s n 2 true) else !permOf s n 0 o.auth
  let evStop := energy && (oType s n == tyCcs || oType s n == tyAc3) && o.sawC && !o.pause && seqPilot o == .b
  if inCheck s then some 0x13
  else if enableLost s n then some 0x0A
  else if s.pwr.pfw then some 0x0E
  else if permLost || (o.rcTrip && oType s n != tyAc3) then some 0x0A
  else if o.pilot == .a || !o.proxOk then some 0x0C
  else if pilotFault o then some 0x0B
  else if evStop then some 0x0D
  else if busLost s n then some 0x15
  else if (fbMismatch s n).isSome then some 0x10
  else none

/-- The current magnitude is below 2 A (R128). -/
def lowCurrent (s : State) (n : Nat) : Bool := decide ((oIma s n).natAbs < 2000)

/-- It has been below 2 A for 20 consecutive tempos, this one included. -/
def zeroConfirmed (s : State) (n : Nat) : Bool :=
  match (outlet s n).lowSince with
  | some t => decide (20 ≤ sinceT s t) && lowCurrent s n
  | none => false

def elapsed (s : State) (n : Nat) : Nat := sinceT s (outlet s n).since

/-! ### Limits (R17, R127) -/

/-- A power term over the outlet voltage, in 1/20 of 0.1 A, rounded down; 0 below 60 V (R127). The divisor is the voltage in the
0.1 V of OUTn_MEAS (DESIGN CHOICE, log entry 173). -/
def powerTerm (s : State) (n kw : Nat) : Nat := if oV s n < 600 then 0 else kw * 2000000 / oV s n

/-- The four terms of R17 in the order of their BIND codes; an AC3 outlet has no bus and so no grant term. -/
def limitTerms (s : State) (n : Nat) : List (Nat × Nat) :=
  let o := outlet s n
  [(0, 20 * oIrated s n), (1, 20 * o.imaxF)]
    ++ (if oType s n = tyAc3 then [] else [(2, powerTerm s n (oGrantKw s n))])
    ++ [(3, powerTerm s n (oShare s n o.diract))]

/-- The smallest term, the lowest code where terms are equal. -/
def smallestTerm (l : List (Nat × Nat)) : Nat × Nat :=
  l.foldl (fun a p => if p.2 < a.2 then p else a) (0, 0xFFFFFFFF)

/-- BIND on entry into ENERGY at 0 A: RAMP where the target lies above, and otherwise the smallest term (R127). -/
def entryBind (s : State) (n : Nat) : Nat :=
  let m := smallestTerm (limitTerms s n)
  if 0 < m.2 then 4 else m.1

/-- The applied limit of a tempo in ENERGY: up at RAMP, down at once, and to 0 at RAMP while a change of direction is
under way (R127, R137). -/
def energyLimit (n : Nat) (s : State) : State :=
  let o := outlet s n
  let dirWant := o.dirF && o.bidirOk
  let ramp := oRamp s n
  let s0 :=
    if dirWant != o.diract && o.applied == 0 && zeroConfirmed s n then
      onOutlet n (fun o => { o with diract := dirWant }) s
    else s
  let m := smallestTerm (limitTerms s0 n)
  let turning := dirWant != (outlet s0 n).diract
  let new := if turning then min m.2 (o.applied - ramp) else if m.2 ≤ o.applied then m.2 else min m.2 (o.applied + ramp)
  let bind := if turning || new < m.2 then 4 else m.1
  let bud := (limitTerms s0 n).all (fun p => powerTerm s n (oShare s n (outlet s0 n).diract) ≤ p.2)
  let s1 := onOutlet n (fun o => { o with applied := new, bind := bind, budgetBound := bud }) s0
  if bud && !o.budgetBound then outPend n F.OUT_FLAGS_BUDGET s1 else s1

/-! ### Coil groups of an outlet -/

/-- KP and KN commanded closed (R123). -/
def closeKpKn (n : Nat) (s : State) : State :=
  onOutlet n (fun o => { o with hadClosed := true }) (outCoil n 1 true (outCoil n 0 true s))

/-- KP and KN commanded open: the insulation cycle stops and its relays open in the same tempo (R190), and the session's
energy ends (R140). -/
def openKpKn (n : Nat) (s : State) : State :=
  let s1 := outCoil n 1 false (outCoil n 0 false s)
  let s2 := if (outlet s n).energised then sessionEvent n .ended s1 else s1
  onOutlet n (fun o => { o with energised := false, isoStart := false, isoStop := true }) s2

/-- The opening of KP and KN that is under way counts as a hard break whatever the current (R128, R139, R196). -/
def hardOpen (n : Nat) (s : State) : State :=
  [0, 1].foldl (fun t k => onCoil (oCoil s n k) (fun c => { c with hard := true }) t) s

def allOpen (n : Nat) (s : State) : State := outCoil n 4 false (openKpKn n s)

/-- Both mirror contacts of KP and KN, where present, read the given state. -/
def mirrors (s : State) (n : Nat) (b : Bool) : Bool :=
  (oFb s n 0 ≥ 64 || fbIn s (oFb s n 0) == b) && (oFb s n 1 ≥ 64 || fbIn s (oFb s n 1) == b)

/-! ### Transitions -/

/-- An outlet off energy: no pause, no limit applied, direction import. EMERG is held until UNLOCK, and EMERG and PCMATCH at
the latest until the session's end (DEDUCED, log entry 160). -/
def calm (o : Outlet) : Outlet :=
  { o with pause := false, applied := 0, bind := 5, diract := false, sawC := false }

/-- The session's end: CLOSE reported where a session was open, and the marks of the session cleared; AUTH falls with it
(DEDUCED, log entry 12). -/
def endSession (n : Nat) (s : State) : State :=
  let s1 := if (outlet s n).session then sessionEvent n .closed s else s
  onOutlet n (fun o =>
    { calm o with emerg := false, pcmatch := false, session := false, auth := false, authEpoch := false, ccdone := false,
                  isoOk := false, isoHeld := false, rcTested := false, rcTrip := false, hadClosed := false, evopen := false,
                  bidirOk := false, weld := .off, causeOld := true, ccTest := false, lockAt := none, energised := false,
                  ended := true }) s1

/-- Entry into IDLE: unarmed until A is confirmed or REARM is written (R119). -/
def toIdle (n : Nat) (s : State) : State :=
  outGo n .idle (onOutlet n (fun o => { o with armed := false }) (endSession n s))

def toOos (n : Nat) (s : State) : State := outGo n .oos (endSession n s)

def toUnlock (n : Nat) (s : State) : State := 
  outGo n .unlock (onOutlet n (fun o => { calm o with emerg := false, lockAt := none, weld := .off }) (outCoil n 4 false s))

/-- Entry into FAULTED; the weld check of R133 starts where KP or KN had been closed and none has completed, and holds the bus
at its voltage at the entry into WELD_CHECK or FAULTED, whichever came first (R110). -/
def toFaulted (n : Nat) (s : State) : State :=
  let s1 := outCoil n 4 false s
  outGo n .faulted (onOutlet n (fun o =>
    { calm o with weld := if o.weld == .passed || o.weld == .failed || !o.hadClosed then .off else .settle,
                  weldAt := s.tmp.now + 1, holdV := if o.st == .weldCheck then o.holdV else oBusVolt s n }) s1)

/-- The emergency path: 0 A at once and RAMP_DOWN with EMERG (R130). -/
def emergencyPath (n code : Nat) (s : State) : State :=
  let s1 := outCause n code s
  let s2 := onOutlet n (fun o => { o with applied := 0, bind := 5, emerg := true, emergAt := s.tmp.now + 1, zc10 := s.pwr.pfw }) s1
  if (outlet s n).st = .rampDown then s2 else outGo n .rampDown s2

/-- The ramped path with its cause; from CABLE_CHECK and PRECHARGE the limit is 0 A at once (R116). -/
def rampedPath (n code : Nat) (s : State) : State :=
  let cut := (outlet s n).st != .energy
  outCause n code s
    |> onOutlet n (fun o => { o with applied := if cut then 0 else o.applied, bind := 5, emerg := false })
    |> outGo n .rampDown

/-- KP and KN open, and WELD_CHECK begins; the bus is held at its voltage (R110, R133). -/
def toWeldCheck (n : Nat) (s : State) : State :=
  openKpKn n s
    |> onOutlet n (fun o => { o with applied := 0, bind := 5, weld := .settle, weldAt := s.tmp.now + 1,
                                     holdV := oBusVolt s n, pause := false })
    |> outGo n .weldCheck

/-- A request in the latch that this tempo's trigger outranks is discarded (R132). -/
def dropRequest (n : Nat) (s : State) : State :=
  if (outlet s n).reqFrz = 0 then s
  else outReject n 0x1 (onOutlet n (fun o => { o with reqFrz := 0 }) s)

/-- A request discarded in the present state with its reason. -/
def refuse (n reason : Nat) (s : State) : State :=
  outReject n reason (onOutlet n (fun o => { o with reqFrz := 0 }) s)

/-- The request is taken. -/
def taken (n : Nat) (s : State) : State := onOutlet n (fun o => { o with reqFrz := 0 }) s

/-- Where no exit took a request, it is not valid in the present state (R114). -/
def leftover (n : Nat) (s : State) : State := dropRequest n s

/-- Another outlet holds the contactors of a shared bus (R121). -/
def busBusy (s : State) (n : Nat) : Bool :=
  (List.range 4).any (fun m =>
    m ≠ n && oActive s m && decide ((oBuses s m &&& oBuses s n) ≠ 0)
      && (outlet s m).st ∈ [OutSt.cableCheck, .precharge, .energy, .rampDown, .weldCheck])

/-! ### The states -/

def seqIdle (n : Nat) (s : State) : State :=
  let o := outlet s n
  if o.reqFrz = 5 then toOos n (taken n s)
  else if hvPresent s n then toFaulted n (outCause n 0x16 (dropRequest n s))
  else if (o.armed || o.pilot == .a) && seqPilot o == pilotB s n && o.proxOk then
    outGo n .plugged (onOutlet n (fun o => { o with armed := false }) (dropRequest n s))
  else
    let s1 := onOutlet n (fun o => { o with armed := o.armed || o.pilot == .a || o.reqFrz == 8 }) s
    if o.reqFrz = 8 then taken n s1 else leftover n s1

def seqPlugged (n : Nat) (s : State) : State :=
  let o := outlet s n
  if o.pilot == .a then
    let s1 := outCause n 0x03 (dropRequest n s)
    if oLock s n then toUnlock n s1 else toIdle n s1
  else if oTlock s n ≤ elapsed s n then toFaulted n (outCause n 0x18 (dropRequest n s))
  else if outLocked s n o then outGo n .authWait (dropRequest n s)
  else leftover n s

/-- Pilot state A, or proximity lost, before the contactors have closed. -/
def unplugged (o : Outlet) : Bool := o.pilot == .a || !o.proxOk

def seqAuthWait (n : Nat) (s : State) : State :=
  let o := outlet s n
  if unplugged o then toUnlock n (outCause n 0x03 (dropRequest n s))
  else if oTauth s n ≤ elapsed s n then toUnlock n (outCause n 0x04 (dropRequest n s))
  else if o.auth then
    let s1 := dropRequest n s
    let s2 := if (outlet s1 n).cause = 0 then s1
      else outPend n F.OUT_FLAGS_CAUSE (onOutlet n (fun o => { o with cause := 0 }) s1)
    outGo n .negotiate (sessionEvent n .opened (onOutlet n (fun o => { o with session := true, evopen := false }) s2))
  else leftover n s

/-- REQ CABLE_CHECK in NEGOTIATE (R121, R122): the reason it is refused, if any. The order of the tests, and NO_PERMISSIVE for a
condition that names no reason, are the model's (DESIGN CHOICE, log entry 174). -/
def cableCheckRefusal (s : State) (n : Nat) : Option Nat :=
  let vt := (outlet s n).vtF
  let a := (outlet s n).auth
  if !permOf s n 0 a || !permOf s n 1 a then
    some (if target s (0x44 + 4 * n) && target s (0x45 + 4 * n) then 0x7 else 0x2)
  else if vt < 600 ∨ oVrated s n < vt then some 0x9
  else if busBusy s n then some 0x3
  else if hvPresent s n then some 0x2
  else if 600 ≤ oBusVolt s n then some 0x2
  else none

def seqNegotiate (n : Nat) (s : State) : State :=
  let o := outlet s n
  if unplugged o then toUnlock n (outCause n 0x03 (dropRequest n s))
  else if !o.auth then toUnlock n (outCause n 0x02 (dropRequest n s))
  else if oTneg s n ≤ elapsed s n then toUnlock n (outCause n 0x05 (dropRequest n s))
  else if oType s n = tyAc3 then
    if o.reqFrz = 3 then
      if permOf s n 2 o.auth then
        taken n s |> onOutlet n (fun o =>
            { o with wdAt := s.tmp.now, applied := 0, bind := entryBind s n, sawC := false, six := false, bidirOk := o.bidirF,
                     energised := true })
          |> sessionEvent n .started |> outGo n .energy
      else refuse n 0x2 s
    else leftover n s
  else if o.reqFrz = 1 then
    match cableCheckRefusal s n with
    | some r => refuse n r s
    | none =>
      taken n s |> closeKpKn n
        |> onOutlet n (fun o => { o with ccdone := false, isoOk := false, ccTest := false })
        |> outGo n .cableCheck
  else leftover n s

/-- The steps of CABLE_CHECK: TEST once the mirror contacts confirm, and the insulation monitor once the outlet is at the
target within PC_TOL (R124). -/
def cableCheckSteps (n : Nat) (s : State) : State :=
  let o := outlet s n
  let s1 := if !o.ccTest && mirrors s n true then onOutlet n (fun o => { o with ccTest := true }) s else s
  let vt := o.vtF
  if o.ccTest && !(isoMon s n).run && oV s n ≤ vt + oPcTol s n && vt ≤ oV s n + oPcTol s n && sIsoUsed s n then
    onOutlet n (fun o => { o with isoStart := true }) s1
  else s1

def seqCableCheck (n : Nat) (s : State) : State :=
  let o := outlet s n
  match emergency s n with
  | some c => emergencyPath n c (dropRequest n s)
  | none =>
    if o.isoHeld then emergencyPath n 0x07 (dropRequest n s)
    else if oTcc s n ≤ elapsed s n then emergencyPath n 0x06 (dropRequest n s)
    else if !o.auth then rampedPath n 0x02 (dropRequest n s)
    else if o.reqFrz = 4 then rampedPath n 0x01 (taken n s)
    else if o.reqFrz = 2 then
      if o.ccdone then outGo n .precharge (taken n s) else refuse n 0x2 s
    else leftover n (cableCheckSteps n s)

/-- PCMATCH in PRECHARGE: the outlet voltage is within PC_TOL of the target (R126). -/
def pcMatch (n : Nat) (s : State) : State :=
  let vt := (outlet s n).vtF
  let m := decide (oV s n ≤ vt + oPcTol s n) && decide (vt ≤ oV s n + oPcTol s n)
  let s1 := onOutlet n (fun o => { o with pcmatch := m }) s
  if m && !(outlet s n).pcmatch then outPend n F.OUT_FLAGS_PCMATCH s1 else s1

def seqPrecharge (n : Nat) (s0 : State) : State :=
  let s := pcMatch n s0
  let o := outlet s n
  match emergency s n with
  | some c => emergencyPath n c (dropRequest n s)
  | none =>
    if oTpc s n ≤ elapsed s n then emergencyPath n 0x08 (dropRequest n s)
    else if !o.auth then rampedPath n 0x02 (dropRequest n s)
    else if o.reqFrz = 4 then rampedPath n 0x01 (taken n s)
    else if o.reqFrz = 3 then
      if o.pcmatch && permOf s n 2 o.auth then
        taken n s |> onOutlet n (fun o =>
            { o with wdAt := s.tmp.now, applied := 0, bind := entryBind s n, sawC := o.pilot == .c, bidirOk := o.bidirF,
                     energised := true })
          |> sessionEvent n .started |> outGo n .energy
      else refuse n 0x2 s
    else leftover n s

/-- AC Mode 3 in ENERGY: KP closes in the first tempo with state C, a limit that falls below 6.0 A pauses, and KP opens when the
vehicle leaves state C (R139). A limit that has not yet reached 6.0 A has not fallen below it (DEDUCED, log entry 175). -/
def ac3Energy (n : Nat) (s : State) : State :=
  let o := outlet s n
  let low := decide (o.applied < 1200)
  let pause := low && o.six
  let s1 := onOutlet n (fun o =>
    { o with pause := pause, pauseAt := if pause && !o.pause then s.tmp.now else o.pauseAt, six := o.six || !low,
             sawC := o.sawC || o.pilot == .c }) s
  if o.pilot == .c then (if pause then s1 else closeKpKn n s1)
  else outCoil n 0 false s1

/-- The vehicle has stayed in state C for T_ACRESP after a pause or a stop (R139). -/
def acNoResponse (s : State) (n : Nat) : Bool :=
  let o := outlet s n
  oType s n == tyAc3 && o.pilot == .c
    && ((o.st == .energy && o.pause && decide (oTacresp s n ≤ sinceT s o.pauseAt))
      || (o.st == .rampDown && decide (oTacresp s n ≤ elapsed s n)))

def seqEnergy (n : Nat) (s0 : State) : State :=
  let s := onOutlet n (fun o => { o with sawC := o.sawC || o.pilot == .c }) s0
  let o := outlet s n
  match emergency s n with
  | some c => emergencyPath n c (dropRequest n s)
  | none =>
    if acNoResponse s n then toWeldCheck n (hardOpen n (outCause n 0x17 (dropRequest n s)))
    else if oTfwwd s n ≤ sinceT s o.wdAt then rampedPath n 0x09 (dropRequest n s)
    else if !o.auth then rampedPath n 0x02 (dropRequest n s)
    else if o.reqFrz = 4 then rampedPath n 0x01 (taken n s)
    else
      let s1 := energyLimit n (leftover n s)
      if oType s n = tyAc3 then ac3Energy n s1 else s1

/-- RAMP_DOWN: on the emergency path KP and KN open below 2 A or when T_ZC runs out; otherwise the limit ramps down and
they open after 20 tempos below 2 A or when T_RD runs out (R128, R130). CHECK, a lost coil enable, a PFW and a mirror
contact that disagrees turn a normal ramp into the emergency path (R167, R131, R476, R123). -/
def seqRampDown (n : Nat) (s0 : State) : State :=
  let s :=
    if (outlet s0 n).emerg then s0
    else if inCheck s0 then emergencyPath n 0x13 s0
    else if enableLost s0 n then emergencyPath n 0x0A s0
    else if s0.pwr.pfw then emergencyPath n 0x0E s0
    else if (fbMismatch s0 n).isSome then emergencyPath n 0x10 s0
    else s0
  let o := outlet s n
  let zc10 := o.zc10 || s.pwr.pfw
  let opened := (List.range 2).all (fun k => !(decide (oCoil s n k < 64) && (coil s (oCoil s n k)).cmd))
  let tzc1 := if inCheck s then min 2000 (oTzc s n) else oTzc s n
  let tzc := if zc10 then min 200 tzc1 else tzc1
  if opened then toWeldCheck n s
  else if acNoResponse s n then toWeldCheck n (hardOpen n (outCause n 0x17 s))
  else if o.emerg then
    if lowCurrent s n then toWeldCheck n s
    else if tzc ≤ sinceT s o.emergAt then toWeldCheck n (hardOpen n (outCause n 0x0F s))
    else onOutlet n (fun o => { o with zc10 := zc10 }) s
  else if zeroConfirmed s n then toWeldCheck n s
  else if oTrd s n ≤ elapsed s n then toWeldCheck n (hardOpen n (outCause n 0x0F s))
  else onOutlet n (fun o => { o with applied := o.applied - oRamp s n }) s

/-- The settling time of coil `k` of the outlet, 0 where it is absent. -/
def outSettle (s : State) (n k : Nat) : Nat := if oCoil s n k < 64 then mSettle s (oCoil s n k) else 0

/-- Step 2 of R133: the first of KP and KN whose mirror contact still reads closed after that coil's own settling time. -/
def weldBad (s : State) (n : Nat) : Option Nat :=
  ([0, 1].find? (fun k => decide (oCoil s n k < 64) && decide (oFb s n k < 64) && fbIn s (oFb s n k)
    && decide (outSettle s n k ≤ sinceT s (outlet s n).weldAt))).map (fun k => oCoil s n k)

/-- Both settling times have passed. -/
def weldSettled (s : State) (n : Nat) : Bool := [0, 1].all (fun k => decide (outSettle s n k ≤ sinceT s (outlet s n).weldAt))

/-- What the check takes as a dead outlet: below 60 V, and for AC3 HV_PRESENT = 0 (R133). -/
def outDead (s : State) (n : Nat) : Bool := if oType s n = tyAc3 then !hvPresent s n else decide ((oVmv s n).natAbs < 60000)

/-- One tempo of the weld check (R133): settling, the wait for the vehicle, the discharge. For AC3 the wait is skipped
and the discharge is the check that no mains voltage is left; in MATE the mirror contacts alone are checked (R131). -/
def weldStep (n : Nat) (s : State) : State :=
  let o := outlet s n
  let at_ := fun (w : WeldStep) => onOutlet n (fun o => { o with weld := w, weldAt := s.tmp.now + 1 })
  match o.weld with
  | .settle =>
    let next : WeldStep := if s.saf.st = .mate then .off else if oType s n = tyAc3 then .discharge else .evWait
    match weldBad s n with
    | some c => at_ next (coilFault c (outCause n 0x10 s))
    | none => if weldSettled s n then at_ next s else s
  | .evWait =>
    let go := o.evopen || (oType s n != tyGbt && o.pilot != .c)
    if go then at_ .discharge (outCoil n 4 true s)
    else if oTevopen s n ≤ sinceT s o.weldAt then
      at_ .discharge (outCoil n 4 true (outPend n F.OUT_FLAGS_EVSLOW s))
    else s
  | .discharge =>
    if outDead s n then at_ .passed (outCoil n 4 false s)
    else if oTweld s n ≤ sinceT s o.weldAt then at_ .failed (outCoil n 4 false (outCause n 0x11 s))
    else s
  | _ => s

def seqWeldCheck (n : Nat) (s0 : State) : State :=
  let s := weldStep n (dropRequest n s0)
  let o := outlet s n
  let cls := causeClass o.cause
  if o.weld == .failed then toFaulted n s
  else if (outlet s0 n).weld == .settle && (weldBad s0 n).isSome then toFaulted n s
  else if o.weld == .passed then
    if cls ≤ 1 then toUnlock n s else toFaulted n s
  else s

/-- UNLOCK: the lock is released once HV_PRESENT is 0 and PERM_UNLOCK is 1, and T_LOCK counts from there (R134). An outlet with
LOCK = 0 has nothing to release, and its lock counts as open at once (DESIGN CHOICE, log entry 176). -/
def seqUnlock (n : Nat) (s0 : State) : State :=
  let s1 := dropRequest n s0
  let release := !hvPresent s1 n && target s1 (0x47 + 4 * n)
  let s := if (outlet s1 n).lockAt.isNone && release then
    onOutlet n (fun o => { o with lockAt := some s1.tmp.now, lock := .unlock }) s1 else s1
  let o := outlet s n
  let lockOpen := !oLock s n || ((outlet s1 n).lockAt.isSome && !fbIn s (oLockFb s n))
  if lockOpen then (if o.latch then toOos n s else toIdle n s)
  else match o.lockAt with
    | some t => if oTlock s n ≤ sinceT s (t + 1) then toFaulted n (outCause n 0x12 s) else s
    | none => s

def seqFaulted (n : Nat) (s0 : State) : State :=
  let s := weldStep n s0
  let o := outlet s n
  let code := o.cause
  let hv := hvPresent s n
  if s.saf.st = .mate then leftover n s
  else if code = 0x12 then toOos n (dropRequest n s)
  else if causeClass code = 3 && !hv then toUnlock n (dropRequest n s)
  else if o.reqFrz = 7 then
    if causeClass code = 2 && s.saf.st == .run && !hv then
      let s1 := taken n s
      let lockOpen := !oLock s n || !fbIn s (oLockFb s n)
      if lockOpen then toIdle n s1 else toUnlock n s1
    else refuse n 0x2 s
  else leftover n s

def seqOos (n : Nat) (s : State) : State :=
  let o := outlet s n
  if o.reqFrz = 6 then
    if !oActive s n then refuse n 0x1 s
    else if o.latch then refuse n 0x2 s
    else outGo n .idle (onOutlet n (fun o => { o with armed := false, causeOld := true }) (taken n s))
  else leftover n s

/-! ### The outputs a state holds (R109, R110, R120) -/

/-- The pilot duty of R138 from an applied limit in 1/20 of 0.1 A, in 0.1 %; steady +12 V below 6.0 A. -/
def ac3Duty (a : Nat) : Nat :=
  if a < 1200 then 1000 else if a ≤ 10200 then a / 12 else if a ≤ 16000 then a / 50 + 640 else 960

/-- The duty of an AC3 outlet without HPGP in NEGOTIATE and ENERGY: that of R138 for the applied limit, and until the limit first
reaches 6.0 A that of 6.0 A, the least the rule gives (R120; DESIGN CHOICE, log entry 175). -/
def ac3Pwm (o : Outlet) : Nat := if o.st == .negotiate || !o.six then ac3Duty (max 1200 o.applied) else ac3Duty o.applied

def stateDuty (s : State) (n : Nat) : Nat :=
  let o := outlet s n
  if oType s n = tyGbt then 1000
  else if o.st == .oos then 0
  else if o.st ∈ [OutSt.idle, .unlock, .faulted] || o.pause then 1000
  else if oType s n = tyAc3 ∧ oComm s n = 0 then
    (if o.st ∈ [OutSt.negotiate, .energy] then ac3Pwm o else 1000)
  else 50

def stateLock (s : State) (n : Nat) (o : Outlet) : LockCmd :=
  if !oLock s n then .none
  else match o.st with
    | .plugged | .authWait | .negotiate | .cableCheck | .precharge | .energy | .rampDown | .weldCheck => .lock
    | .unlock => if o.lockAt.isSome then .unlock else o.lock
    | .faulted => if o.cause = 0x12 then .none else o.lock
    | .idle | .oos => .none

def stateAux (s : State) (n : Nat) (o : Outlet) : Bool :=
  oAux s n && match o.st with
    | .authWait | .negotiate | .cableCheck | .precharge | .energy | .rampDown | .weldCheck => true
    | .faulted => o.aux
    | _ => false

/-- Kind, voltage and current of the bus request a state holds (R110). -/
def stateRequest (s : State) (n : Nat) (o : Outlet) : ReqKind × Nat × Nat :=
  let vt := o.vtF
  let hold := (ReqKind.hold, o.holdV, 0)
  if oType s n = tyAc3 then (.release, 0, 0)
  else match o.st with
    | .cableCheck => if o.ccTest then (.test, vt, oIcc s n) else (.release, 0, 0)
    | .precharge => (.precharge, vt, oIpc s n)
    | .energy | .rampDown => (.energy, min o.vmaxF (oVrated s n), o.applied / 20)
    | .weldCheck => hold
    | .faulted => if s.saf.st != .mate && o.weld ∈ [WeldStep.settle, .evWait, .discharge] then hold else (.release, 0, 0)
    | _ => (.release, 0, 0)

/-- The state limit outside ENERGY and RAMP_DOWN (R109). -/
def stateLimit (s : State) (n : Nat) (o : Outlet) : Outlet :=
  match o.st with
  | .cableCheck => { o with applied := 20 * oIcc s n, bind := 5 }
  | .precharge => { o with applied := 20 * oIpc s n, bind := 5 }
  | .energy => o
  | .rampDown => { o with bind := 5 }
  | _ => { o with applied := 0, bind := 5 }

/-- The outputs of the state the outlet is in. A request that falls to 0 A or changes to HOLD or RELEASE leaves at once
(R110). -/
def seqOutputs (n : Nat) (s : State) : State :=
  let s0 := if (outlet s n).st ∈ [OutSt.idle, .oos] then allOpen n s else s
  let o0 := outlet s0 n
  let o := stateLimit s0 n o0
  let q := stateRequest s0 n o
  let now := (decide (0 < o0.rcur) && q.2.2 == 0) || (q.1 != o0.rkind && (q.1 == .hold || q.1 == .release))
  let lk := stateLock s0 n o
  let aux := stateAux s0 n o
  let s1 := onOutlet n (fun _ =>
    { o with lock := lk, aux := aux, rkind := q.1, rvolt := q.2.1, rcur := q.2.2, perm := permBits s0 n,
             budgetBound := o.budgetBound && o.st == .energy, reqNow := o.reqNow || now }) s0
  onOutlet n (fun o => { o with duty := stateDuty s1 n }) s1

/-- Tempo since which the current has been below 2 A. -/
def trackLow (n : Nat) (s : State) : State :=
  onOutlet n (fun o => { o with lowSince := if lowCurrent s n then (o.lowSince <|> some s.tmp.now) else none }) s

/-- The FB_MISMATCH condition of an outlet coil enters CHECK (R146, R172). -/
def outletMismatch (n : Nat) (s : State) : State :=
  match fbMismatch s n with
  | some c => coilFault c s
  | none => s

/-- One evaluation of a sequencer: the first exit of its state that holds, then the outputs (R117), and last what a mirror contact
that disagrees means for the module, so that the outlet's own cause is FB_MISMATCH (R123, R172). An outlet that its
record or the role keeps out of service does nothing but discard requests. -/
def seqOutlet (n : Nat) (s : State) : State :=
  if !oActive s n then leftover n (onOutlet n (fun o => { o with duty := 0, bind := 5 }) s)
  else
    let s1 := trackLow n s
    let s2 := match (outlet s1 n).st with
      | .idle => seqIdle n s1
      | .plugged => seqPlugged n s1
      | .authWait => seqAuthWait n s1
      | .negotiate => seqNegotiate n s1
      | .cableCheck => seqCableCheck n s1
      | .precharge => seqPrecharge n s1
      | .energy => seqEnergy n s1
      | .rampDown => seqRampDown n (dropRequest n s1)
      | .weldCheck => seqWeldCheck n s1
      | .unlock => seqUnlock n s1
      | .faulted => seqFaulted n s1
      | .oos => seqOos n s1
    seqOutputs n s2 |> onOutlet n (fun o => { o with seqAt := some s.tmp.now }) |> outletMismatch n

/-- The evaluation of one sequencer in a tempo in which it has not been evaluated (R109). -/
def seqOnce (n : Nat) (s : State) : State :=
  if s.tmp.running && (outlet s n).seqAt != some s.tmp.now then seqOutlet n s else s

/-- The evaluation that a request or a timer row names: the sequencer sees the Board targets of this tempo, so COMPARE has
completed (R18, R109). -/
def seqDue (n : Nat) (s : State) : State := if s.tmp.ran.contains 3 then seqOnce n s else s

/-- Duty SEQ: every sequencer once. -/
def seqAll (s : State) : State := eachUpTo 4 seqOnce s

/-! ### SEQ at the edge (R57, R62) -/

/-- An outlet whose evaluation does not take effect: the record in effect, with what came in from outside during the tempo. -/
def Outlet.keepIn (f o : Outlet) : Outlet :=
  { f with authW := o.authW, reqLatch := o.reqLatch, evopenW := o.evopenW, wdAt := o.wdAt, pilotN := o.pilotN, pLast := o.pLast,
           pRun := o.pRun, proxN := o.proxN, isoHeld := f.isoHeld || o.isoHeld, rcTrip := f.rcTrip || o.rcTrip,
           rcTested := f.rcTested || o.rcTested, seqAt := none }

/-- The outputs of an aborted SEQ keep the values they had during the tempo that ends: the outlet's record, and its commands of
KP, KN and DIS (R62). -/
def seqRestore (n : Nat) (s : State) : State :=
  if (outlet s n).seqAt = some s.tmp.now then
    [0, 1, 4].foldl (fun t k => onCoil (oCoil s n k) (fun c => { c with cmd := c.eff }) t)
      (onOutlet n (fun o => (outShown s n).keepIn o) s)
  else s

/-- SEQ at the edge: what a completed SEQ computed takes effect, an aborted one changes nothing (R57, R62). -/
def edgeSeq (s : State) : State := outsTake (if s.tmp.ran.contains 4 then s else eachUpTo 4 seqRestore s)

/-! ### The request latch and authorisation -/

/-- A request code written to OUTn_CTRL.REQ: one code deep, a code still waiting is replaced (R113). -/
def reqWrite (n code : Nat) (s : State) : State :=
  if code = 0 then s
  else
    let s1 := onOutlet n (fun o => { o with reqLatch := code }) s
    if (outlet s n).reqLatch ≠ 0 then raiseOut n F.OUT_FLAGS_REQOVW s1 else s1

/-- The latch frozen at an edge (R113). -/
def reqFreeze (n : Nat) (s : State) : State :=
  onOutlet n (fun o => { o with reqFrz := o.reqLatch, reqLatch := 0 }) s

/-- The reason an authorisation request is refused, the first that applies (R115). -/
def authRefusal (s : State) (n : Nat) : Option Nat :=
  let o := outlet s n
  if !(o.st == .plugged || o.st == .authWait) || s.fwu.go then some 0x1
  else if !s.saf.guardOk then some 0x7
  else if !epochOk s then some 0x4
  else if !s.bil.ready || !s.bil.epReady.testBit n then some 0x6
  else if (rget s F.LCD_CFG_BILLMASK).testBit n && rbit s F.LCD_STATUS_CRACK then some 0x5
  else none

/-- A counted AUTH value: equal to the accepted state it is no request; 1 asks for authorisation, 0 revokes (R115,
R116). -/
def authCount (n : Nat) (v : Bool) (s : State) : State :=
  let o := outlet s n
  if v = o.auth then s
  else if v then
    match authRefusal s n with
    | some r => s |> rput (F.OUT_CAUSE_REJ n) r |> raiseOut n F.OUT_FLAGS_AUTHREF
    | none => onOutlet n (fun o => { o with auth := true, authEpoch := epochOk s }) s
  else onOutlet n (fun o => { o with auth := false, revoked := true }) s

/-- A write of OUTn_LIMIT: the limit seen from the next edge on, and the watchdog restarted (R56, R128). -/
def limitWrite (n : Nat) (v : Nat) (s : State) : State :=
  s |> rput (F.OUT_LIMIT_IMAX n) v |> rput (F.OUT_LIMIT_VMAX n) (v / 65536)
    |> onOutlet n (fun o => { o with wdAt := s.tmp.now })

/-- Export is permitted: the record has BIDIR, and CTRL.BIDIR was set before REQ ENERGY (R136). -/
def exportOk (s : State) (n : Nat) : Bool :=
  let o := outShown s n
  oBidir s n && (if o.energised then o.bidirOk else rbit s (F.OUT_CTRL_BIDIR n))

/-- A DIR value written: 1 is refused where the session does not permit export (R136). -/
def dirWrite (n : Nat) (d : Bool) (s : State) : State :=
  if d && !exportOk s n then raiseOut n F.OUT_FLAGS_REQREJ (rput (F.OUT_CAUSE_REJ n) 0x8 s) else rputB (F.OUT_CTRL_DIR n) d s

/-- EVOPEN written: seen from the next edge on (R56). -/
def evopenWrite (n : Nat) (s : State) : State := onOutlet n (fun o => { o with evopenW := true }) s

/-- The outlet's side of a freeze: the request latch, OUTn_CTRL, OUTn_LIMIT and OUTn_VTARGET as written before the edge, and the pilot
and proximity decisions (R55, R56, R109). EVOPEN counts from RAMP_DOWN on (DEDUCED, log entry 13). -/
def outFreeze (n : Nat) (s : State) : State :=
  reqFreeze n (onOutlet n (fun o =>
    { o with revoked := false, imaxF := rget s (F.OUT_LIMIT_IMAX n), vmaxF := rget s (F.OUT_LIMIT_VMAX n),
             vtF := rget s (F.OUT_VTARGET_VT n), dirF := rbit s (F.OUT_CTRL_DIR n), bidirF := rbit s (F.OUT_CTRL_BIDIR n),
             evopen := o.evopen || (o.evopenW && o.st ∈ [OutSt.rampDown, .weldCheck, .faulted]), evopenW := false,
             pilot := o.pilotN, proxOk := o.proxN, hvAt := if 60000 < (oVmv s n).natAbs then some s.tmp.now else o.hvAt }) s)

/-- The AUTH value of the tempo that ends, counted at its edge (R115). -/
def outAuth (n : Nat) (s : State) : State :=
  match (outlet s n).authW with
  | some v => authCount n v (onOutlet n (fun o => { o with authW := none }) s)
  | none => s

/-! ### Meanings -/

/-- A request's two sides: the firmware's write of its code, and the sequencer's evaluation of that code once frozen. -/
def request (n code : Nat) (ph : Phase) (s : State) : State :=
  match ph with
  | .write => reqWrite n code s
  | .run => if (outlet s n).reqFrz = code then seqDue n s else s

/-- An AUTH value written: the last one before the edge counts there (R56, R115). -/
def authWrite (n : Nat) (v : Bool) (s : State) : State := onOutlet n (fun o => { o with authW := some v }) s

/-- AUTH = 1 written (R115). -/
def execAuthRequest (n : Fin 4) (s : State) : Host.Outcome State Fault Refusal := .next (authWrite n true s)

/-- AUTH = 0 written (R116). -/
def execDeauth (n : Fin 4) (s : State) : Host.Outcome State Fault Refusal := .next (authWrite n false s)

/-- REQ CABLE_CHECK (R121, R122). -/
def execReqCableCheck (n : Fin 4) (ph : Phase) (s : State) : Host.Outcome State Fault Refusal := .next (request n 1 ph s)

/-- REQ PRECHARGE (R126). -/
def execReqPrecharge (n : Fin 4) (ph : Phase) (s : State) : Host.Outcome State Fault Refusal := .next (request n 2 ph s)

/-- REQ ENERGY (R126, R139). -/
def execReqEnergy (n : Fin 4) (ph : Phase) (s : State) : Host.Outcome State Fault Refusal := .next (request n 3 ph s)

/-- REQ STOP (R116, R128). -/
def execReqStop (n : Fin 4) (ph : Phase) (s : State) : Host.Outcome State Fault Refusal := .next (request n 4 ph s)

/-- REQ OOS (R135). -/
def execReqOos (n : Fin 4) (ph : Phase) (s : State) : Host.Outcome State Fault Refusal := .next (request n 5 ph s)

/-- REQ SERVICE (R135). -/
def execReqService (n : Fin 4) (ph : Phase) (s : State) : Host.Outcome State Fault Refusal := .next (request n 6 ph s)

/-- REQ ACK (R117). -/
def execReqAck (n : Fin 4) (ph : Phase) (s : State) : Host.Outcome State Fault Refusal := .next (request n 7 ph s)

/-- REQ REARM (R119). -/
def execReqRearm (n : Fin 4) (ph : Phase) (s : State) : Host.Outcome State Fault Refusal := .next (request n 8 ph s)

/-- The vehicle contactors are reported open (R133). -/
def execEvopen (n : Fin 4) (s : State) : Host.Outcome State Fault Refusal :=
  .next (evopenWrite n s)

/-- A DIR write (R136, R137). -/
def execDirChange (n : Fin 4) (dir : Bool) (s : State) : Host.Outcome State Fault Refusal := .next (dirWrite n dir s)

/-- A write of OUTn_LIMIT (R128). -/
def execOutLimitWrite (n : Fin 4) (v : Word) (s : State) : Host.Outcome State Fault Refusal :=
  .next (limitWrite n v.toNat s)

/-- A sequencer timer runs out: where it has, in a state that tests it, the state table is evaluated. -/
def expiry (n : Nat) (due : Bool) (s : State) : State := if due then seqDue n s else s

/-- T_LOCK in PLUGGED, or after the release in UNLOCK (R117, R134). -/
def execTLockExpiry (n : Fin 4) (s : State) : Host.Outcome State Fault Refusal :=
  let o := outlet s n
  .next (expiry n ((o.st == .plugged && decide (oTlock s n ≤ elapsed s n))
    || (o.st == .unlock && match o.lockAt with | some t => decide (oTlock s n ≤ sinceT s (t + 1)) | none => false)) s)

/-- T_AUTH in AUTH_WAIT (R117). -/
def execTAuthExpiry (n : Fin 4) (s : State) : Host.Outcome State Fault Refusal :=
  .next (expiry n ((outlet s n).st == .authWait && decide (oTauth s n ≤ elapsed s n)) s)

/-- T_NEG in NEGOTIATE (R117). -/
def execTNegExpiry (n : Fin 4) (s : State) : Host.Outcome State Fault Refusal :=
  .next (expiry n ((outlet s n).st == .negotiate && decide (oTneg s n ≤ elapsed s n)) s)

/-- T_CC in CABLE_CHECK (R117). -/
def execTCcExpiry (n : Fin 4) (s : State) : Host.Outcome State Fault Refusal :=
  .next (expiry n ((outlet s n).st == .cableCheck && decide (oTcc s n ≤ elapsed s n)) s)

/-- T_PC in PRECHARGE (R117). -/
def execTPcExpiry (n : Fin 4) (s : State) : Host.Outcome State Fault Refusal :=
  .next (expiry n ((outlet s n).st == .precharge && decide (oTpc s n ≤ elapsed s n)) s)

/-- The firmware watchdog in ENERGY (R128). -/
def execTFwwdExpiry (n : Fin 4) (s : State) : Host.Outcome State Fault Refusal :=
  .next (expiry n ((outlet s n).st == .energy && decide (oTfwwd s n ≤ sinceT s (outlet s n).wdAt)) s)

/-- 20 tempos below 2 A in RAMP_DOWN (R128). -/
def execZeroCurrentConfirmed (n : Fin 4) (s : State) : Host.Outcome State Fault Refusal :=
  .next (expiry n ((outlet s n).st == .rampDown && zeroConfirmed s n) s)

/-- T_RD in RAMP_DOWN (R128). -/
def execTRdExpiry (n : Fin 4) (s : State) : Host.Outcome State Fault Refusal :=
  .next (expiry n ((outlet s n).st == .rampDown && !(outlet s n).emerg && decide (oTrd s n ≤ elapsed s n)) s)

/-- T_ZC on the emergency path (R130). -/
def execTZcExpiry (n : Fin 4) (s : State) : Host.Outcome State Fault Refusal :=
  .next (expiry n ((outlet s n).st == .rampDown && (outlet s n).emerg
    && decide ((if (outlet s n).zc10 || s.pwr.pfw then min 200 (oTzc s n) else oTzc s n) ≤ sinceT s (outlet s n).emergAt)) s)

/-- A mirror contact of the outlet disagrees beyond its settling time (R123). -/
def execFbMismatch (n : Fin 4) (s : State) : Host.Outcome State Fault Refusal :=
  .next (expiry n (fbMismatch s n).isSome s)

/-- T_EVOPEN in the weld check (R133). -/
def execTEvopenExpiry (n : Fin 4) (s : State) : Host.Outcome State Fault Refusal :=
  .next (expiry n ((outlet s n).weld == .evWait && decide (oTevopen s n ≤ sinceT s (outlet s n).weldAt)) s)

/-- T_WELD in the weld check (R133). -/
def execTWeldExpiry (n : Fin 4) (s : State) : Host.Outcome State Fault Refusal :=
  .next (expiry n ((outlet s n).weld == .discharge && decide (oTweld s n ≤ sinceT s (outlet s n).weldAt)) s)

/-- T_ACRESP after a pause or stop (R139). -/
def execTAcrespExpiry (n : Fin 4) (s : State) : Host.Outcome State Fault Refusal :=
  .next (expiry n (acNoResponse s n) s)

/-- No grant for 100 tempos (R129). -/
def execBusLost (n : Fin 4) (s : State) : Host.Outcome State Fault Refusal :=
  .next (expiry n (busLost s n) s)

end Sys2Proof.Machine
end

