-- ==== Sys2Proof/Machine/LoadCh.lean ====
section
/-!
DEFINITION. The load channels (15): ownership and switching, inrush windows, overcurrent and retries, latches, the bank
limiter, VS_LOAD undervoltage, the turn-off checks, open load and short to VS, and the sense code.
-/

namespace Sys2Proof.Machine

def lchan (s : State) (n : Nat) : LChan := Tab.get LChan.reset s.lch.ch n

def onLch (n : Nat) (f : LChan → LChan) (s : State) : State := { s with lch.ch := Tab.upd s.lch.ch n f }

def raiseLch (f : Fld) (s : State) : State := raise F.LCH_EVCNT_COUNT [f] s

/-! ### The LCH section (R454): record n at 0x20 + 16 × n -/

def lPresent (s : State) : Bool := s.loaded && !(sec s 8).isEmpty
def lU8 (s : State) (n off : Nat) : Nat := u8 (sec s 8) (0x20 + 16 * n + off)
def lU16 (s : State) (n off : Nat) : Nat := u16 (sec s 8) (0x20 + 16 * n + off)
def lUsed (s : State) (n : Nat) : Bool := s.loaded && (lU8 s n 0).testBit 0
def lProtect (s : State) (n : Nat) : Bool := (lU8 s n 0).testBit 1
def lFwdecl (s : State) (n : Nat) : Bool := (lU8 s n 0).testBit 2
def lOdiag (s : State) (n : Nat) : Bool := (lU8 s n 0).testBit 3
def lOwner (s : State) (n : Nat) : Bool := s.loaded && (lU8 s n 0).testBit 4
def lRetryMax (s : State) (n : Nat) : Nat := lU8 s n 1
/-- Limits in mA, times in tempos. -/
def lIlim (s : State) (n : Nat) : Nat := 10 * lU16 s n 2
def lIinr (s : State) (n : Nat) : Nat := 10 * lU16 s n 4
def lTinr (s : State) (n : Nat) : Nat := 20 * lU16 s n 6
def lToc (s : State) (n : Nat) : Nat := 2 * lU16 s n 8
def lRetryDly (s : State) (n : Nat) : Nat := 20 * lU16 s n 0xA
def lIol (s : State) (n : Nat) : Nat := 5 * lU8 s n 0xC

/-- The channels work: FIELD powered and running, not in Stalemate mode (R385, R453). -/
def lchOn (s : State) : Bool := s.pwr.fieldOn && s.pwr.boot == .running

/-- The measured current of a channel, mA: its stream, 0 when off (R451). -/
def lMa (s : State) (n : Nat) : Nat := if (lchan s n).on then (Tab.get Stream.reset s.strm (36 + n)).val.toNat else 0

/-! ### Switching (R434–R436) -/

/-- A channel may be on: used, powered, no undervoltage, neither latched nor exhausted. -/
def lMay (s : State) (n : Nat) : Bool :=
  lchOn s && lUsed s n && !s.lch.uv && !s.pwr.vsAbsent && (lchan s n).latch.isNone && !(lchan s n).retryEx

/-- Switched on: a new inrush window opens, and the off-state codes clear (R435, R436, R450). -/
def lOn (n : Nat) (s : State) : State :=
  onLch n (fun c =>
    { c with on := true, inr := if lTinr s n = 0 then none else some s.tmp.now, winCut := false, lim := none, oc := false,
             openLd := false, shortVs := false, retryAt := none, restart := none, offAt := none }) s

/-- Switched off: the window ends, and the turn-off is watched (R436, R447, R448). -/
def lOff (n : Nat) (s : State) : State :=
  onLch n (fun c => { c with on := false, inr := none, winCut := false, lim := none, openLd := false, bank := none,
                             offAt := if c.on then some s.tmp.now else c.offAt }) s

/-- A channel's command: the firmware's EN, or the sequencer's at an edge. Off clears the retry count, RETRYEX and code
0xF01 (R439); a channel waiting out RETRYDLY or its place in the restart goes on waiting. -/
def lCommand (n : Nat) (en : Bool) (s : State) : State :=
  let c := lchan s n
  let s1 := onLch n (fun c => { c with en := en }) s
  if en then (if !c.on && c.retryAt.isNone && c.restart.isNone && lMay s n then lOn n s1 else s1)
  else onLch n (fun c => { c with retry := 0, retryEx := false, oc := false, retryAt := none, restart := none }) (lOff n s1)

/-- LCH_ENABLE: a write of EN; ignored with OWNREJ for a sequencer-owned channel (R434). -/
def execLchEnable (n : Fin 16) (en : Bool) (s : State) : Host.Outcome State Fault Refusal :=
  .next (if !lchOn s then s else if lOwner s n then raiseLch F.LCH_FLAGS_OWNREJ s else lCommand n en s)

/-- LCH_INRUSH_END: TINR has run. -/
def execLchInrushEnd (n : Fin 16) (s : State) : Host.Outcome State Fault Refusal :=
  match (lchan s n).inr with
  | some t => .next (if t + lTinr s n ≤ s.tmp.now then onLch n (fun c => { c with inr := none, lim := none }) s else s)
  | none => .next s

/-! ### Limiting and retries (R437–R439) -/

/-- LCH_LIMIT_ENTRY: the channel regulates at its active limit; outside its window OCn sets and the code is 0xF01. A limit
the bank limiter imposes raises nothing (R438, R445). -/
def execLchLimitEntry (n : Fin 16) (s : State) : Host.Outcome State Fault Refusal :=
  let c := lchan s n
  if !c.on || c.lim.isSome || c.bank.isSome then .next s
  else if c.inr.isSome then .next (onLch n (fun c => { c with lim := some s.tmp.now }) s)
  else .next (rsat F.LCH_EVCNT_COUNT 1 (rputAt F.LCH_FLAGS_OC n true
    (onLch n (fun c => { c with lim := some s.tmp.now, oc := true }) s)))

/-- LCH_LIMITING_END: the current is below the active limit again. -/
def execLchLimitingEnd (n : Fin 16) (s : State) : Host.Outcome State Fault Refusal :=
  .next (if (lchan s n).on then onLch n (fun c => { c with lim := none, oc := false }) s else s)

/-- LCH_TOC_EXPIRY: limiting for TOC outside the window switches the channel off with 0xF01; it waits RETRYDLY, or stays off
with RETRYEX. -/
def execLchTocExpiry (n : Fin 16) (s : State) : Host.Outcome State Fault Refusal :=
  let c := lchan s n
  match c.lim with
  | none => .next s
  | some t =>
    if c.on ∧ c.inr = none ∧ c.bank = none ∧ t + lToc s n ≤ s.tmp.now then
      let s1 := onLch n (fun c => { c with oc := true }) (lOff n s)
      if c.retry < lRetryMax s n then .next (onLch n (fun c => { c with retryAt := some (s.tmp.now + lRetryDly s n) }) s1)
      else .next (raiseLch F.LCH_FLAGS_RETRYEX (onLch n (fun c => { c with retryEx := true }) s1))
    else .next s

/-- LCH_RETRY: after RETRYDLY, and after its place in a staggered restart, the count advances and the channel is on again. -/
def execLchRetry (n : Fin 16) (s : State) : Host.Outcome State Fault Refusal :=
  let c := lchan s n
  match c.retryAt with
  | none => .next s
  | some t =>
    let turn : Bool := match c.restart with | some r => decide (r ≤ s.tmp.now) | none => true
    if decide (t ≤ s.tmp.now) && c.en && lMay s n && turn then
      .next (onLch n (fun c => { c with retry := min 15 (c.retry + 1) }) (lOn n s))
    else .next s

/-! ### Latches (R440–R443, R447, R448) -/

/-- The latch takes the channel off and ends every wait; of several causes the first of R451 stands. -/
def lLatch (n code : Nat) (f : Fld) (s : State) : State :=
  raiseLch f (onLch n (fun c =>
    { c with latch := some (match c.latch with | some k => min k code | none => code), retryAt := none, restart := none,
             oc := c.oc && code != 2 })
    (lOff n s))

/-- LCH_THERMAL_LATCH: a junction above 170 °C or ΔT above 60 K. -/
def execLchThermalLatch (n : Fin 16) (tj gt : Int) (s : State) : Host.Outcome State Fault Refusal :=
  let s1 := { onLch n (fun c => { c with tj := tj, dt := (tj - gt).toNat }) s with
    lch.gt := Tab.upd s.lch.gt (n / 4) (fun _ => gt) }
  .next (if lchOn s && lUsed s n && (decide (170 < tj) || decide (60 < tj - gt)) then lLatch n 2 F.LCH_FLAGS_THERM s1 else s1)

/-- LCH_LATCH_CLEAR: LCLR below 120 °C; a cleared channel with EN = 1 is on at once, the count as it was (R442). -/
def execLchLatchClear (n : Fin 16) (tj : Int) (s : State) : Host.Outcome State Fault Refusal :=
  let s1 := onLch n (fun c => { c with tj := tj }) s
  if !lchOn s || (lchan s n).latch.isNone then .next s1
  else if tj < 120 then
    let s2 := onLch n (fun c => { c with latch := none }) s1
    .next (if (lchan s n).en && lMay s2 n then lOn n s2 else s2)
  else .next (raiseLch F.LCH_FLAGS_CLRREF s1)

/-- LCH_WINDOW_CUT: a group above 150 °C ends the window (R443). -/
def execLchWindowCut (n : Fin 16) (gt : Int) (s : State) : Host.Outcome State Fault Refusal :=
  let s1 := { s with lch.gt := Tab.upd s.lch.gt (n / 4) (fun _ => gt) }
  .next (if (lchan s n).inr.isSome && decide (150 < gt) then
    raiseLch F.LCH_FLAGS_WINCUT (onLch n (fun c => { c with inr := none, winCut := true, lim := none }) s1) else s1)

/-- The watch over a turn-off ends. -/
def offSeen (n : Nat) (s : State) : State := onLch n (fun c => { c with offAt := none }) s

/-- FREEWHEEL_CHECK_END: an output below −2 V in the 200 µs after a turn-off with FWDECL. -/
def execFreewheelCheckEnd (n : Fin 16) (mv : Int) (s : State) : Host.Outcome State Fault Refusal :=
  match (lchan s n).offAt with
  | some t =>
    if lchOn s && lUsed s n && lFwdecl s n && !(lchan s n).on && decide (t + 4 ≤ s.tmp.now) then
      .next (if mv < -2000 then lLatch n 5 F.LCH_FLAGS_FWMISS (offSeen n s) else offSeen n s)
    else .next s
  | none => .next s

/-- CLAMP_ENERGY_CHECK: above 50 mJ, or above 20 mJ within 1 s of the previous turn-off above 20 mJ, at each turn-off
without FWDECL. -/
def execClampEnergyCheck (n : Fin 16) (uj : Nat) (s : State) : Host.Outcome State Fault Refusal :=
  let c := lchan s n
  if lchOn s && lUsed s n && !lFwdecl s n && !c.on && c.offAt.isSome then
    let soon : Bool := match c.clampAt with | some t => decide (s.tmp.now < t + 20000) | none => false
    let s1 := onLch n (fun c => { c with offAt := none, clampAt := if 20000 < uj then some s.tmp.now else c.clampAt }) s
    .next (if 50000 < uj ∨ (20000 < uj ∧ soon) then lLatch n 6 F.LCH_FLAGS_CLAMPE s1 else s1)
  else .next s

/-! ### Bank limiter (R444, R445) -/

/-- Σ of the measured currents, mA. -/
def bankSum (s : State) : Nat := ((List.range 16).map (lMa s)).sum

def bankEnforce (s : State) : State :=
  if s.lch.timer = 40000 ∧ s.lch.enf = false then raiseLch F.LCH_FLAGS_BANKENF { s with lch.enf := true } else s

def bankRelease (s : State) : State := if s.lch.timer = 0 ∧ s.lch.enf then { s with lch.enf := false } else s

/-- BANK_ENFORCE: the timer has reached 2,000 ms. -/
def execBankEnforce (s : State) : Host.Outcome State Fault Refusal := .next (bankEnforce s)

/-- BANK_RELEASE: the timer has counted back to 0. -/
def execBankRelease (s : State) : Host.Outcome State Fault Refusal := .next (bankRelease s)

/-- The bank timer for the tempo that ends (R444). -/
def bankTimer (s : State) : State :=
  let t := s.lch.timer
  bankRelease (bankEnforce { s with
    lch.timer := if 16000 < bankSum s then min 40000 (t + 1) else t - 1
    lch.cap := decide (24000 < bankSum s) })

def lProtected (s : State) (n : Nat) : Bool := lProtect s n || lOwner s n

/-- The limit of a channel without the bank limiter, mA. -/
def lActive (s : State) (n : Nat) : Nat := if (lchan s n).inr.isSome then lIinr s n else lIlim s n

/-- The effective limits of a bank limit B: Ik × (B − Σp) ÷ Σu, rounded down, where that lies below the active limit. -/
def bankLimit (b : Nat) (s : State) : State :=
  let sp := ((List.range 16).map (fun k => if lProtected s k then lMa s k else 0)).sum
  let su := bankSum s - sp
  eachUpTo 16 (fun n t =>
    if (lchan s n).on && !lProtected s n then
      let lim := if b ≤ sp then 0 else if su = 0 then lActive s n else min (lActive s n) (lMa s n * (b - sp) / su)
      onLch n (fun c => { c with bank := if lim < lActive s n then some lim else none }) t
    else t) s

def bankFree (s : State) : State := eachUpTo 16 (fun n t => onLch n (fun c => { c with bank := none }) t) s

/-! ### VS_LOAD (R446) -/

/-- VS_LOAD_UNDERVOLTAGE: below 7.0 V VS_LOAD is absent for the SAFE domain (R504), and every channel is off. -/
def execVsLoadUndervoltage (mv : Nat) (s0 : State) : Host.Outcome State Fault Refusal :=
  let s := if mv < 7000 then vsLost s0 else s0
  let s1 := rput F.LCH_STATUS_VSLOAD mv s
  if !lchOn s then .next s
  else if mv < 7000 ∧ s.lch.uv = false then
    .next (raiseLch F.LCH_FLAGS_UV { eachUpTo 16 (fun n t => onLch n (fun c => { c with restart := none }) (lOff n t)) s1 with
      lch.uv := true })
  else .next s1

/-- The channels of the staggered restart, in order: EN, neither latched nor exhausted. -/
def restartOrder (s : State) : List Nat :=
  (List.range 16).filter (fun n => lUsed s n && (lchan s n).en && (lchan s n).latch.isNone && !(lchan s n).retryEx)

/-- VS_LOAD_RECOVERED: above 8.0 V for 10 ms VS_LOAD is present again (R504); each eligible channel gets its place, 1 ms
apart. -/
def execVsLoadRecovered (mv us : Nat) (s0 : State) : Host.Outcome State Fault Refusal :=
  let s := if 8000 < mv ∧ 10000 ≤ us then { s0 with pwr.vsAbsent := false } else s0
  let s1 := rput F.LCH_STATUS_VSLOAD mv s
  if !lchOn s then .next s
  else if s.lch.uv = true ∧ 8000 < mv ∧ 10000 ≤ us then
    let l := restartOrder s
    .next (raiseLch F.LCH_FLAGS_UVBACK
      ((List.range l.length).foldl (fun t k =>
        onLch (l.getD k 0) (fun c => { c with restart := some (s.tmp.now + 20 * k) }) t) { s1 with lch.uv := false }))
  else .next s1

/-- LCH_STAGGERED_RESTART: a channel's place has come; one that waits out RETRYDLY restarts as a retry instead. -/
def execLchStaggeredRestart (n : Fin 16) (s : State) : Host.Outcome State Fault Refusal :=
  match (lchan s n).restart with
  | none => .next s
  | some t =>
    if t ≤ s.tmp.now ∧ (lchan s n).retryAt = none then
      .next (if (lchan s n).en && lMay s n then lOn n s else onLch n (fun c => { c with restart := none }) s)
    else .next s

/-! ### Open load and short to VS (R449, R450) -/

/-- LCH_OPEN_LOAD: on, outside its window, below IOL for 100 ms. -/
def execLchOpenLoad (n : Fin 16) (ma ms : Nat) (s : State) : Host.Outcome State Fault Refusal :=
  let c := lchan s n
  .next (if lchOn s && c.on && c.inr.isNone && !c.openLd && decide (ma < lIol s n) && decide (100 ≤ ms) then
    raiseLch F.LCH_FLAGS_OPENLD (onLch n (fun c => { c with openLd := true }) s) else s)

/-- OPEN_LOAD_CLEAR: 100 ms at or above IOL + 5 mA. -/
def execOpenLoadClear (n : Fin 16) (ma ms : Nat) (s : State) : Host.Outcome State Fault Refusal :=
  .next (if (lchan s n).on && decide (lIol s n + 5 ≤ ma) && decide (100 ≤ ms) then
    onLch n (fun c => { c with openLd := false }) s else s)

/-- ODPER, in tempos. -/
def lOdper (s : State) : Nat := 20 * u16 (sec s 8) 2

/-- LCH_OFF_DIAG: with ODIAG and EN = 0, every ODPER; a short to VS, else open load, else the code clears. -/
def execLchOffDiag (n : Fin 16) (mv0 mv1 : Int) (s : State) : Host.Outcome State Fault Refusal :=
  let put (short opn : Bool) : State := onLch n (fun c => { c with shortVs := short, openLd := opn, diagAt := s.tmp.now }) s
  if !(lchOn s && lUsed s n && lOdiag s n && !(lchan s n).en && !(lchan s n).on && decide ((lchan s n).diagAt + lOdper s ≤ s.tmp.now))
  then .next s
  else if 4000 < mv0 then .next (raiseLch F.LCH_FLAGS_SHORTVS (put true false))
  else if 4000 < mv1 then .next (raiseLch F.LCH_FLAGS_OPENLD (put false true))
  else .next (put false false)

/-! ### Sense code and the SNS land (R451, R452) -/

/-- LCHn_SENSE: the first fault in the order of R451, else the current at 1.5 mA per LSB. -/
def senseCode (s : State) (n : Nat) : Nat :=
  let c := lchan s n
  if !lchOn s || s.lch.uv || !lUsed s n then 0xFFF
  else if c.latch = some 2 then 0xF02
  else if c.latch = some 5 then 0xF05
  else if c.latch = some 6 then 0xF06
  else if c.oc then 0xF01
  else if c.shortVs then 0xF04
  else if c.openLd then 0xF03
  else min 0xEFF (2 * lMa s n / 3)

/-- The level of the SNS land in mV; for a fault code, the 3.1 V it is at least. -/
def snsLand (s : State) : Nat :=
  let n := rget s F.LCH_SNSSEL_CH
  let k := senseCode s n
  if rget s F.LCH_SNSSEL_EN = 0 ∨ k = 0xFFF then 0
  else if 0xF00 ≤ k then 3100
  else min 2500 (lMa s n / 2)

/-! ### At the edge -/

/-- A sequencer-owned channel takes its outlet's command: the lock actuator while the lock is commanded (log entry 53), the
auxiliary supply while it is on (R434, R57). -/
def edgeOwned (n : Nat) (s : State) : State :=
  let lk := (List.range 4).any (fun k => oActive s k && oLock s k && oLockLc s k == n && (outShown s k).lock == .lock)
  let ax := (List.range 4).any (fun k => oActive s k && oAux s k && oAuxLc s k == n && (outShown s k).aux)
  if lOwner s n && (lk || ax) != (lchan s n).en then lCommand n (lk || ax) s else s

/-- The channels commanded on. -/
def lchMask (s : State) : Nat := bitsOf 16 (fun n => (lchan s n).on)

/-- The analog-power die's report of the load channels against what was commanded in the previous tempo (R10); the spec names no
reaction to a difference, so it is kept alone (log entry 122). -/
def compareLoads (lc : BitVec 16) (s : State) : State :=
  { s with saf.lcDiff := if lchOn s then lc.toNat ^^^ s.lch.prev else 0 }

/-- The load channels at a tempo edge: what the ending tempo commanded, owned channels, the bank timer, the effective limits. -/
def edgeLch (s0 : State) : State :=
  let s := { s0 with lch.prev := lchMask s0 }
  if !lchOn s || !lPresent s then s
  else
    let s1 := bankTimer (eachUpTo 16 edgeOwned s)
    if s1.lch.enf then bankLimit 16000 s1 else if s1.lch.cap then bankLimit 24000 s1 else bankFree s1

end Sys2Proof.Machine
end

