-- ==== Sys2Proof/Machine/LayCheck.lean ====
section
/-!
DEFINITION. The checks of a layout image: header and section table (R80–R83), and the content of every section as its own
chapter binds it (R86, R87, R95, R96, R112, R142, R203, R214, R248, R361, R454, R459, R463, R524).
-/

namespace Sys2Proof.Machine

def inR (lo x hi : Nat) : Bool := decide (lo ≤ x) && decide (x ≤ hi)

/-- The bytes of `b` from `i`, `n` of them, are all zero. -/
def zeros (b : Bytes) (i n : Nat) : Bool := allZero (slice b i n)

/-- No value stands twice in the list. -/
def distinct (l : List Nat) : Bool := decide (l.eraseDups.length = l.length)

def below (n : Nat) (p : Nat → Bool) : Bool := (List.range n).all p

/-! ### Header and section table (R80–R83) -/

/-- A section-table entry. -/
structure LaySec where
  typ : Nat
  attr : Nat
  off : Nat
  len : Nat
  dig : Bytes

/-- The 832 bytes of header and section table. -/
def layHead (rd : Nat → Nat → Bytes) : Bytes := rd 0 832

def layEntry (h : Bytes) (k : Nat) : LaySec :=
  let o := 0x40 + 48 * k
  ⟨u8 h o, u8 h (o + 1), u32 h (o + 4), u32 h (o + 8), slice h (o + 16) 32⟩

def layImglen (h : Bytes) : Nat := u32 h 8
def layNsect (h : Bytes) : Nat := u16 h 0xC
def laySecver (h : Bytes) : Nat := u16 h 0x10

def layUsed (h : Bytes) : List LaySec := ((List.range 16).map (layEntry h)).filter (fun e => e.typ != 0)

/-- ATTR of a section type, and its maximum length (R83). -/
def secAttr (t : Nat) : Nat := if t ∈ [1, 3, 4, 5, 6, 11] then 1 else if t = 7 then 2 else 0

def secMax (t : Nat) : Nat :=
  if t = 1 then 16 else if t = 2 then 4096 else if t = 3 then 12544 else if t = 4 then 8192 else if t = 5 then 4096
  else if t = 6 then 16384 else if t = 7 then 65536 else if t = 8 then 2048 else if t = 9 then 8192
  else if t = 10 then 65536 else 64

/-- A length larger than what lies behind it (R44): the image beyond its maximum or its manifest, the table beyond its
entries, a section beyond the image or its block's memory. -/
def layLenBad (h : Bytes) (have_ : Nat) : Bool :=
  decide (4194304 < layImglen h) || decide (have_ < layImglen h) || decide (16 < layNsect h)
    || (layUsed h).any (fun e => decide (layImglen h < e.off + e.len) || (inR 1 e.typ 11 && decide (secMax e.typ < e.len)))

/-- Two sections overlap: each begins before the other ends. A section of length 0 strictly inside another overlaps it
(DESIGN CHOICE, log entry 181). -/
def layOverlap (a b : LaySec) : Bool := decide (a.off < b.off + b.len) && decide (b.off < a.off + a.len)

def pairsOk (p : LaySec → LaySec → Bool) : List LaySec → Bool
  | [] => true
  | a :: t => t.all (p a) && pairsOk p t

/-- Header and table: the fixed header fields, used entries first, known types once each with their ATTR, aligned, apart, and
clear of the trailer, and an entry for PINS, which both roles require and whose length may be 0 (R83). An OFFSET inside header
or table is not looked at (DESIGN CHOICE, log entry 181). -/
def layTableOk (h : Bytes) : Bool :=
  decide (h.take 4 = [0x4C, 0x4B, 0x4D, 0x4F]) && decide (u16 h 6 = 64) && decide (u16 h 0x12 = 0x4810)
    && decide (u8 h 0x14 = 0xB1) && inR 1 (layNsect h) 16
    && below 16 (fun k => ((layEntry h k).typ != 0) == decide (k < layNsect h))
    && distinct ((layUsed h).map (·.typ))
    && (layUsed h).all (fun e => inR 1 e.typ 11 && e.attr == secAttr e.typ && decide (e.off % 64 = 0)
          && decide (e.off + e.len + 128 ≤ layImglen h))
    && pairsOk (fun a b => !layOverlap a b) (layUsed h) && (layUsed h).any (fun e => e.typ == 2)

/-- The sections by type; an absent one is empty. -/
def laySections (rd : Nat → Nat → Bytes) (h : Bytes) : Vector Bytes 12 :=
  Vector.ofFn (fun t =>
    match (layUsed h).find? (fun e => e.typ == t.val) with
    | some e => rd e.off e.len
    | none => [])

/-- Every section matches its DIGEST. -/
def layDigestsOk (rd : Nat → Nat → Bytes) (h : Bytes) : Bool :=
  (layUsed h).all (fun e => decide (Config.sm3 (rd e.off e.len) = e.dig))

/-! ### Content, section by section; the state holds the candidate's sections -/

/-- ROLE (R83): a section shorter than its 16 bytes reads as padded with zeros, and bytes 8 to 15 are not looked at (DESIGN
CHOICE, log entry 181). -/
def roleOk (s : State) : Bool :=
  let b := sec s 1
  !b.isEmpty && decide (u8 b 0 ≤ 1) && decide (u8 b 1 ≤ 1) && decide (u8 b 2 ≤ 1) && decide (u8 b 3 ≤ 3)

/-- Every section the role requires is present (R83); layTableOk demands the entry of PINS, which may be of length 0. -/
def requiredOk (s : State) : Bool :=
  [3, 4, 6, 7, 10, 11].all (fun t => !(sec s t).isEmpty) && (isCabinet s || !(sec s 5).isEmpty)

/-! PINS (R86, R519). -/

/-- All lands of one row of the alternate functions carry the same FUNC (R519). -/
def rowSame (s : State) (r : Nat) : Bool :=
  let l := (List.range 1369).filter (fun a => altRow a == some r)
  l.all (fun a => landFunc s a == landFunc s (l.headD 0))

/-- An outlet uses the link that COMM code `c` names. -/
def commUsed (s : State) (c : Nat) : Bool := (List.range 4).any (fun n => oType s n != tyNone && oComm s n == c)

/-- Whether another section of the layout uses the function of a land (R519). -/
def landInUse (s : State) (a : Nat) : Bool :=
  let i := landPos a
  match landGroup a with
  | .lch => if i < 48 then lUsed s (i / 3) else lPresent s && decide (u8 (sec s 8) 1 ≤ 15)
  | .sio =>
    if i < 24 then sInUsed s i
    else if i < 32 then (List.range 24).any (fun k => sInUsed s k && sInSrc s k == i - 24)
    else if i < 48 then Config.landInUse a s.sec.toList
    else (rcChannel s).isSome
  | .v => (List.range 4).any (fun n => oType s n != tyNone && oVport s n == i / 7)
  | .m => decide (i < 30) && commUsed s (2 + i / 15)
  | .can => commUsed s (4 + i / 2) || (isCabinet s && decide (i < 4) && (List.range (mNgroup s)).any (fun g => (mCanmap s).testBit g == (i / 2 == 1)))
  | .yl => nYlen s
  | .lcd => !(sec s 9).isEmpty
  | .mx => (List.range 16).any (fun k => u32 (sec s 11) (4 * k) / 268435456 == 6)
  | .mod =>
    if i < 16 then cUse s i != 0
    else if i < 20 then (List.range 4).any (fun k => cUse s (4 * (i - 16) + k) != 0)
    else (List.range 16).any (fun c => cPilot s c && cPil s c == i - 20)
  | .pulse => if i = 4 then tPoEp s ≠ 0xFF else Config.landInUse a s.sec.toList
  | _ => Config.landInUse a s.sec.toList

def pinsOk (s : State) : Bool :=
  decide ((sec s 2).length % 4 = 0)
    && distinct ((List.range (pinCount s)).map (pinLand s))
    && below (pinCount s) (fun k =>
        decide (pinLand s k ≤ 1368) && decide (pinCode s k % 256 ≤ 2) && decide (pinCode s k < 4096)
          && landOffers (pinLand s k) (pinCode s k) && (pinCode s k % 256 != 1 || !landInUse s (pinLand s k)))
    && rowSame s 0 && rowSame s 1

/-! BOARD (R95, R96, R102) -/

def selOk (x : Nat) : Bool := decide (x ≤ 0x25) || x == 0x3E || x == 0x3F
def srcOk (x : Nat) : Bool := decide (x ≤ 0x29A) || x == 0x3FE || x == 0x3FF

def bTimerOk (s : State) (k off : Nat) : Bool :=
  bU8 s k (off + 3) == 0 && decide (bU8 s k (off + 4) ≤ 2) && decide (bU8 s k (off + 5) ≤ 1) && selOk (bU8 s k (off + 6))
    && bU8 s k (off + 7) == 0

def squareOk (s : State) (k : Nat) : Bool :=
  !bUsed s k ||
    (below 48 (fun j => selOk (bU8 s k (0x40 + j))) && below 16 (fun i => srcOk (bU16 s k (0x70 + 2 * i)))
      && bU16 s k 0x92 == 0 && bTimerOk s k 0x94 && bTimerOk s k 0x9C
      && selOk (bU8 s k 0xA6) && selOk (bU8 s k 0xA7) && selOk (bU8 s k 0xA8) && bU8 s k 0xA9 == 0 && bU16 s k 0xAA == 0
      && decide (bU8 s k 0xAC ≤ 63) && bU8 s k 0xAD == 0 && bU16 s k 0xBA == 0 && bU16 s k 0xBC == 0 && bU16 s k 0xBE == 0)

def mapEntry (s : State) (t : Nat) : Nat := u16 (sec s 3) (12288 + 2 * t)
def mapOn (s : State) (t : Nat) : Bool := (mapEntry s t).testBit 15

/-- Squares and output map in range, and PERM_ENERGY mapped for every outlet in use. -/
def boardOk (s : State) : Bool :=
  decide ((sec s 3).length = 12544) && below 64 (squareOk s)
    && below 128 (fun t => field (mapEntry s t) 10 5 == 0
        && (!mapOn s t || (decide (t < 0x66) && srcOk (mapEntry s t % 1024))))
    && below 4 (fun n => !oActive s n || mapOn s (0x46 + 4 * n))

/-! SCHEDULE (R87) -/

def schedWord (s : State) (k : Nat) : Nat := u32 (sec s 11) (4 * k)
def schedDuty (s : State) (k : Nat) : Nat := schedWord s k / 268435456
def schedStart (s : State) (k : Nat) : Nat := field (schedWord s k) 14 14
def schedDeadline (s : State) (k : Nat) : Nat := schedWord s k % 16384
def schedUsed (s : State) : List Nat := (List.range 16).filter (fun k => schedDuty s k != 0xF)

def scheduleOk (s : State) : Bool :=
  decide ((sec s 11).length = 64)
    && (schedUsed s).all (fun k => decide (schedDuty s k ≤ 9) && decide (schedDeadline s k ≤ 8000)
        && decide (schedStart s k ≤ schedDeadline s k))
    && distinct ((schedUsed s).map (schedDuty s))
    && [0, 1, 2, 3, 7].all (fun d => ((schedUsed s).map (schedDuty s)).contains d)

/-! MATRIX (R142) -/

def coilOk (s : State) (c : Nat) : Bool :=
  let o := 0x20 + 4 * c
  let b := sec s 6
  if mCoilUsed s c then
    decide (u8 b o < 4) && decide (c < 8 * mNdrv s) && decide (mCoilFb s c < 8 * mNser s) && decide (mCoilFb s c < 64)
      && (if (u8 b o).testBit 1 then inR 20 (u16 b (o + 2)) 500 else u16 b (o + 2) == 0)
  else zeros b o 4

def xpOk (s : State) (x : Nat) : Bool :=
  if x < mNxp s then
    decide (mXpGroup s x < mNgroup s) && decide (mXpBus s x < mNbus s) && decide (mXpCoil s x < 64)
      && mCoilUsed s (mXpCoil s x) && u8 (sec s 6) (0x120 + 4 * x + 3) == 0
  else zeros (sec s 6) (0x120 + 4 * x) 4

def groupRecOk (s : State) (g : Nat) : Bool :=
  if g < mNgroup s then decide (u8 (sec s 6) (0x1E0 + 8 * g + 6) ≤ 1)
  else zeros (sec s 6) (0x1E0 + 8 * g) 8

def busRecOk (s : State) (b : Nat) : Bool :=
  if b < mNbus s then decide (mVch s b < 16) && decide (mPrio s b ≤ 7) && zeros (sec s 6) (0x260 + 8 * b + 3) 5
  else zeros (sec s 6) (0x260 + 8 * b) 8

def canCount (s : State) (bus : Nat) : Nat :=
  ((List.range (mNgroup s)).filter (fun g => bitAt (mCanmap s) g == bus)).length

def matrixOk (s : State) : Bool :=
  let b := sec s 6
  decide (b.length = 672) && decide (mNgroup s ≤ 16) && decide (mNbus s ≤ 8) && decide (mNxp s ≤ 48) && inR 1 (mNdrv s) 8
    && inR 1 (mNser s) 8 && decide (u8 b 5 ≤ 15) && inR 1 (mMaxpar s) 4 && decide (mGuar s ≤ 6) && inR 20 (u16 b 8) 500
    && inR 20 (u16 b 0xA) 500 && inR 50 (u16 b 0xC) 2000 && inR 10 (mGrpRamp s) 2000 && inR 20 (mVmatchTol s) 200
    && inR 1 (mArc s) 100 && inR 1 (mWearMax s) 1000000000 && decide (mCanmap s < 2 ^ mNgroup s) && zeros b 0x1A 6
    && decide (canCount s 0 ≤ 8) && decide (canCount s 1 ≤ 8)
    && below 64 (coilOk s) && below 48 (xpOk s) && below 16 (groupRecOk s) && below 8 (busRecOk s)
    && (isCabinet s || (mNgroup s == 0 && mNbus s == 0 && mNxp s == 0))

/-! OUTLETS (R112) -/

/-- A coil field and its feedback field: absent, or a USED coil with that coil's own feedback. -/
def outCoilOk (s : State) (n k : Nat) : Bool :=
  if oCoil s n k = 0x40 then oFb s n k == 0x40
  else decide (oCoil s n k < 64) && mCoilUsed s (oCoil s n k) && oFb s n k == mCoilFb s (oCoil s n k)

def outletRecOk (s : State) (n : Nat) : Bool :=
  let r := slice (sec s 5) (128 * n) 128
  if u8 r 0 = 0 then allZero r
  else
    decide (u8 r 0 ≤ 4) && decide (u8 r 1 ≤ 7) && (u8 r 1 != 0 || u8 r 0 == 4) && decide (u8 r 2 ≤ 3) && decide (u8 r 3 ≤ 7)
      && inR 1 (u16 r 4) 30000 && inR 1 (u16 r 6) 15000
      && (let k := ((List.range 8).filter (fun b => (u8 r 8).testBit b)).length
          if u8 r 0 = 4 then k == 0 else k == 1 || k == 2)
      && decide (u8 r 9 ≤ 15) && decide (u8 r 0xA ≤ 15)
      && decide (u8 r 0xB ≤ 15) && decide (u8 r 0xC ≤ 63) && (!oLock s n || decide (u8 r 0xC < 8 * mNser s))
      && decide (u8 r 0xD ≤ 15)
      && zeros r 0xE 2 && below 5 (outCoilOk s n) && zeros r 0x15 3 && zeros r 0x1D 3
      && inR 1 (u8 r 0x20) 10 && u8 r 0x21 == 0 && inR 100 (u16 r 0x22) 5000 && inR 10 (u16 r 0x24) 3600
      && inR 5 (u16 r 0x26) 600 && inR 5 (u16 r 0x28) 120 && inR 1 (u16 r 0x2A) 30 && inR 20 (u16 r 0x2C) 1000
      && inR 100 (u16 r 0x2E) 10000 && inR 10 (u16 r 0x30) 100 && inR 500 (u16 r 0x32) 10000 && inR 200 (u16 r 0x34) 2000
      && inR 1 (u16 r 0x36) 1000 && inR 1 (u16 r 0x38) 20 && inR 1 (u16 r 0x3A) 20 && inR 20 (u16 r 0x3C) 200
      && decide (u16 r 0x3E ≤ u16 r 0x40) && inR 1000 (u16 r 0x42) 10000 && zeros r 0x44 60

/-- What an outlet in use names: its coils, its lock channel, its metering channels. -/
def outNames (s : State) (n : Nat) : List Nat :=
  ((List.range 5).map (oCoil s n)).filter (· != 0x40)
    ++ (if oLock s n then [100 + oLockLc s n] else []) ++ [200 + oMv s n, 200 + oMi s n]

def outletsOk (s : State) : Bool :=
  (sec s 5).isEmpty ||
    (decide ((sec s 5).length = 512) && below 4 (outletRecOk s)
      && below 4 (fun n => below n (fun m => oType s n == 0 || oType s m == 0
            || !(outNames s n).any (fun x => (outNames s m).contains x))))

/-! SAFETY (R203, R180) -/

def sInRecOk (s : State) (i : Nat) : Bool :=
  let o := 0x20 + 4 * i
  if sInUsed s i then decide (u8 (sec s 4) o ≤ 3) && decide (sInSrc s i ≤ 8) && inR 1 (sInFilter s i) 10 && u8 (sec s 4) (o + 3) == 0
  else zeros (sec s 4) o 4

def sIsoRecOk (s : State) (n : Nat) : Bool :=
  let o := 0x80 + 8 * n
  if sIsoUsed s n then
    decide (u8 (sec s 4) o ≤ 15) && decide (u8 (sec s 4) (o + 1) ≤ 1) && inR 10 (sIsoRb s n) 1000 && inR 100 (sIsoRm s n) 10000
      && zeros (sec s 4) (o + 6) 2
  else zeros (sec s 4) o 8


/-- Channels that a function other than the insulation records names: outlets' MV and MI, bus voltages, RC, energy points. -/
def chanNamed (s : State) : List Nat :=
  ((List.range 4).filter (fun n => oType s n != 0)).flatMap (fun n => [oMv s n, oMi s n])
    ++ (List.range (mNbus s)).map (mVch s) ++ (if sRcAny s then [sRcCh s] else [])
    ++ (List.range 8).flatMap (eChans s)

def safetyOk (s : State) : Bool :=
  let b := sec s 4
  decide (b.length = 256) && u8 b 0 == 1 && decide (sGuardA s ≤ 23) && decide (sGuardB s ≤ 23) && sGuardA s != sGuardB s
    && sInUsed s (sGuardA s) && sInUsed s (sGuardB s) && decide (sDueDays s ≤ 30) && inR 1 (sProofDays s) 365
    && inR 10 (u16 b 6) 1000 && inR 5 (u16 b 8) 600 && inR 1 (u16 b 0xA) 1440 && inR 10 (u16 b 0xC) 1000
    && inR 10 (u8 b 0xE) 50 && decide (u8 b 0xF < 16) && u8 b 0x11 == 0 && inR 100 (sIsoWarn s) 2000
    && inR 50 (sIsoFault s) (sIsoWarn s) && inR 1 (u16 b 0x16) 60 && zeros b 0x18 8 && zeros b 0xF0 16
    && below 24 (sInRecOk s) && below 4 (sIsoRecOk s)
    && distinct (((List.range 4).filter (sIsoUsed s)).map (sIsoMiso s))
    && below 4 (fun n => !sIsoUsed s n || !(chanNamed s).contains (sIsoMiso s n))
    && (if allZero (sResetKey s) then zeros b 0xA0 16
        else Config.sm2OnCurve (sResetKey s) && decide (slice b 0xA0 16 = (Config.sm3 (sResetKey s)).take 16))

/-! METER (R214, R220, R248) -/

def chanRecOk (s : State) (c : Nat) : Bool :=
  let r := slice (sec s 7) (cOff c) 256
  if u8 r 0 = 0 then allZero r
  else
    decide (u8 r 0 ≤ 7) && decide (u8 r 1 ≤ 1) && (u8 r 2 == 0xFF || (decide (u8 r 2 ≤ 3) && u8 r 0 == 2))
      && (decide (u8 r 3 ≤ 7) || inR 0x10 (u8 r 3) 0x17 || u8 r 3 == 0xFF) && decide (1 ≤ u32 r 4)
      && (!cPilot s c || (decide (u32 r 4 ≤ 2000 * u16 r 0xC) && decide (200 * u16 r 0xC ≤ u32 r 4)
            && inR 1 (u8 r 0xE) 8 && inR 20 (u8 r 0xF) 250))
      && zeros r 0x10 8 && below 33 (fun j => u8 r (0x18 + 6 * j + 5) == 0) && zeros r 0xDE 34

/-- How many channels a KIND names, and the USE each must have. -/
def kindUses (k : Nat) : List Nat := if k = 1 then [1, 2] else if k = 2 then [3, 3, 3, 4, 4, 4, 5] else if k = 3 then [3, 4] else []

def epRecOk (s : State) (n : Nat) : Bool :=
  let r := slice (sec s 7) (eOff n) 16
  if u8 r 0 = 0 then allZero r
  else
    let us := kindUses (u8 r 0)
    decide (u8 r 0 ≤ 3) && (decide (u8 r 1 ≤ 3) || u8 r 1 == 0xFF) && u8 r 0xB == 0 && inR 1 (u32 r 0xC) 1000000
      && below us.length (fun k => decide (u8 r (2 + k) < 16) && cUse s (u8 r (2 + k)) == us.getD k 0)
      && below (9 - us.length) (fun k => u8 r (2 + us.length + k) == 0xFF)

/-- R214: what outlets, energy points, bus voltages, insulation monitors and the fluxgate name of each other. -/
def epLinksOk (s : State) : Bool :=
  let rcs := (List.range 16).filter (fun c => cUse s c == 6)
  below 8 (fun n => below n (fun m => !(eChans s n).any (fun c => (eChans s m).contains c)))
    && below 8 (fun n =>
        let o := eOutlet s n
        !(eKind s n == 1 || eKind s n == 3) || !decide (o < 4) || (oMv s o == eCh s n 0 && oMi s o == eCh s n 1))
    && below 4 (fun o => !inR 1 (oType s o) 3 || (List.range 8).any (fun n => eKind s n == 1 && eOutlet s n == o))
    && below (mNbus s) (fun b => cUse s (mVch s b) == 7 || cUse s (mVch s b) == 1)
    && below 4 (fun n => !sIsoUsed s n || cUse s (sIsoMiso s n) == 7 || cUse s (sIsoMiso s n) == 1)
    && decide (rcs.length ≤ 1) && (!sRcAny s || (decide (sRcCh s < 16) && cUse s (sRcCh s) == 6))
    && rcs.all (fun c => c == sRcCh s)

def meterOk (s : State) : Bool :=
  let b := sec s 7
  decide (b.length = 4496) && u8 b 0 == 1 && (tFnom s == 50 || tFnom s == 60) && inR 80 (tSag s) 95 && inR 105 (tSwell s) 120
    && inR 1 (tIntr s) 10 && inR 1 (tHyst s) 5 && inR 1 (tSumPct s) 20 && (decide (tPoEp s ≤ 7) || tPoEp s == 0xFF)
    && inR 1 (tPoK s) 100000 && decide (u8 b 0x10 ≤ 1) && decide (u8 b 0x11 ≤ 1) && zeros b 0x12 46
    && below 16 (chanRecOk s) && below 16 (fun c => (u16 b 2).testBit c == (cUse s c != 0))
    && distinct (((List.range 16).filter (cPilot s)).map (cPil s))
    && below 8 (epRecOk s) && epLinksOk s

/-! NETWORK (R361) -/

def networkOk (s : State) : Bool :=
  let b := sec s 10
  decide (b.length = 128) && u8 b 0 == 1 && inR 1 (u8 b 1) 63 && (decide (u8 b 2 ≤ 15) || u8 b 2 == 0xFF)
    && decide (u8 b 3 < 32) && decide (u8 b 4 ≤ 31) && decide (u8 b 5 ≤ 31) && inR 4 (u8 b 6) 10 && inR 2 (u8 b 7) 15
    && decide (u8 b 8 ≤ 2) && decide (u8 b 9 ≤ 2) && decide (u16 b 0xA ≤ 5000) && zeros b 0x12 110

/-! LCH (R454) -/

def lchRecOk (s : State) (n : Nat) : Bool :=
  let r := slice (sec s 8) (0x20 + 16 * n) 16
  if (u8 r 0).testBit 0 then
    decide (u8 r 0 < 32) && decide (u8 r 1 ≤ 15) && inR 50 (u16 r 2) 450 && inR (u16 r 2) (u16 r 4) 900 && decide (u16 r 6 ≤ 500)
      && inR 1 (u16 r 8) 1000 && inR 10 (u16 r 0xA) 10000 && inR 1 (u8 r 0xC) 20 && u8 r 0xD == 0
  else allZero r

/-- The load channels an outlet owns: its lock actuator and its auxiliary supply. -/
def outOwns (s : State) (n : Nat) : List Nat :=
  if oActive s n then (if oLock s n then [oLockLc s n] else []) ++ (if oAux s n then [oAuxLc s n] else []) else []

def lchOk (s : State) : Bool :=
  let owned := (List.range 4).flatMap (outOwns s)
  let b := sec s 8
  if b.isEmpty then owned.isEmpty
  else
    decide (b.length = 288) && u8 b 0 == 1 && (decide (u8 b 1 ≤ 15) || u8 b 1 == 0xFF) && inR 10 (u16 b 2) 1000 && zeros b 4 28
      && below 16 (lchRecOk s) && below 16 (fun n => !lOwner s n || owned.contains n)
      && owned.all (fun n => lUsed s n && lOwner s n)

/-! DISPLAY (R459, R463) -/

def hasEp (s : State) (n : Nat) : Bool := (epOf s n).isSome

def displayOk (s : State) : Bool :=
  let b := sec s 9
  let digits := (List.range 9).flatMap (fun d => (List.range 8).map (fun j => dDigit s (d + 1) j))
  if b.isEmpty then isCabinet s || below 4 (fun n => !hasEp s n)
  else
    decide (b.length = 208) && u8 b 0 == 1 && decide (u8 b 1 ≤ 1) && inR 64 (u8 b 2) 128 && decide (u8 b 3 ≤ 2)
      && inR 28 (u8 b 4) 55 && decide (u8 b 5 < 16) && (decide (u8 b 6 ≤ 23) || u8 b 6 == 0xFF) && decide (u8 b 7 ≤ 1)
      && zeros b 8 8 && decide (dLmask s % 2 ^ 96 = 0)
      && digits.all (fun i => decide (i ≤ 383) && (dLmask s).testBit i) && distinct digits
      && (if isPost s then below 4 (fun n => (u8 b 5).testBit n == hasEp s n) else u8 b 5 == 0)

/-- Every section of the candidate holds what its chapter demands. -/
def layContentOk (s : State) : Bool :=
  roleOk s && requiredOk s && pinsOk s && boardOk s && scheduleOk s && matrixOk s && outletsOk s && safetyOk s && meterOk s
    && networkOk s && lchOk s && displayOk s

end Sys2Proof.Machine
end

