-- ==== Sys2Proof/Machine/SafetyCtl.lean ====
section
/-!
DEFINITION. The safety controller (07): detectors of the fault table, safety inputs and test pulses, safety outputs and
dark tests, the guard test and its proof, insulation and residual-current monitoring, and what the safety part of an
edge does.
-/

namespace Sys2Proof.Machine

/-! ### Detectors (R165, R172) -/

/-- The lockstep comparator disagrees. -/
def execLockstepFault (s : State) : Host.Outcome State Fault Refusal := .next (shutdownLine 0x01 0 s)

/-- An ECC error on a read of the controller's SRAM: a single bit is corrected, a double bit fires the line. -/
def sramError (double : Bool) (s : State) : State :=
  if double then shutdownLine 0x02 0 s else raiseSaf F.SAF_FLAGS_SRAMCOR s

/-- SAFE_SRAM on a read (R172). -/
def execSafeSramError (double : Bool) (s : State) : Host.Outcome State Fault Refusal := .next (sramError double s)

/-- One pass of the background scrub: the errors it finds are handled as on a read (R172). -/
def execSafeSramScrub (single double : Bool) (s : State) : Host.Outcome State Fault Refusal :=
  let s1 := if single then sramError false s else s
  .next (if double then sramError true s1 else s1)

/-- A fault of the ROM: a parity error on a fetch, or the CRC-32 over the ROM that does not hold at start (R172). -/
def execSafeRomParity (s : State) : Host.Outcome State Fault Refusal := .next (shutdownLine 0x03 0 s)

/-- The tempo watchdog: an edge outside 45–60 µs after the previous one; suspended in clock HOLD (R172). -/
def execTempoWd (ns : Nat) (s : State) : Host.Outcome State Fault Refusal :=
  .next (if s.saf.hold ∨ (45000 ≤ ns ∧ ns ≤ 60000) then s else shutdownLine 0x05 0 s)

/-- A rail outside its window fires the line; a rail back in its window is no longer a condition (R172, R201). -/
def execSupplyFault (rail : BitVec 8) (inWindow : Bool) (s : State) : Host.Outcome State Fault Refusal :=
  let rest := s.saf.railsBad.filter (· != rail.toNat)
  .next (if inWindow then { s with saf.railsBad := rest }
    else shutdownLine 0x13 rail.toNat { s with saf.railsBad := rail.toNat :: rest })

/-- The die-temperature conditions: CHECK at 130 °C, MATE at 135 °C (R172). -/
def tempConditions (s : State) : State :=
  eachUpTo 2 (fun d t =>
    let v := Tab.get 0 t.saf.dieT d
    if 13500 ≤ v then safCause 0x11 d true { t with saf.overT := true }
    else if 13000 ≤ v then safCause 0x11 d false { t with saf.overT := true }
    else t) s

/-- A die temperature update (R172, streams 56 and 57). -/
def execDieTempSample (die : Fin 2) (t : Int) (s : State) : Host.Outcome State Fault Refusal :=
  .next (tempConditions (strmPut (56 + die) t { s with saf.dieT := Tab.upd s.saf.dieT die (fun _ => t) }))

/-- Two sensors of a die disagree by more than 8 K for 10 ms (R172). -/
def execTempsense (die : Fin 2) (diff ms : Nat) (s : State) : Host.Outcome State Fault Refusal :=
  .next (if 800 < diff ∧ 10 ≤ ms then safCause 0x12 die false s else s)

/-- A coil commanded open in CHECK confirms, or its time runs out and the module enters MATE (R169). -/
def checkCoil (c : Nat) (s : State) : State :=
  match (coil s c).checkOpen with
  | none => s
  | some t =>
    if !fbIn s (mCoilFb s c) then onCoil c (fun k => { k with checkOpen := none }) s
    else if s.saf.st == .check && decide (2000 + mSettle s c < sinceT s t) then safCause 0x15 c true s
    else s

/-- A coil's opening in CHECK (R169). -/
def execCheckTimeout (c : Fin 64) (s : State) : Host.Outcome State Fault Refusal := .next (checkCoil c s)

/-! ### Safety inputs and test pulses (R175–R179) -/

/-- A comparator's output against the input's type, with the hysteresis of R175. -/
def inputLevel (type3 prev : Bool) (mv : Int) : Bool :=
  if prev then decide ((if type3 then 7000 else 9000) ≤ mv) else decide ((if type3 then 10000 else 13500) ≤ mv)

/-- A state held for FILTER µs on both comparators is accepted (R176). -/
def execSafetyInputAccept (i : Fin 24) (mvA mvB : Int) (us : Nat) (s : State) : Host.Outcome State Fault Refusal :=
  let old := (sIn s i).acc
  let a := inputLevel (sInType3 s i) old mvA
  let b := inputLevel (sInType3 s i) old mvB
  .next (if sInUsed s i && a == b && decide (sInFilter s i ≤ us) then onSIn i (fun x => { x with acc := a }) s else s)

/-- The comparators disagree for more than 20 µs: the input reads 0 (R176). -/
def execInputDiscrepancy (i : Fin 24) (us : Nat) (s : State) : Host.Outcome State Fault Refusal :=
  .next (if sInUsed s i ∧ 20 < us then
    s |> onSIn i (fun x => { x with disc := true }) |> rputAt F.SIO_DISC_DISC i true |> raiseSio F.SIO_FLAGS_INDIS i
  else s)

/-- 1 ms of agreement: the input reads normally again (R176). -/
def execInputAgreementRestored (i : Fin 24) (us : Nat) (s : State) : Host.Outcome State Fault Refusal :=
  .next (if 1000 ≤ us then s |> onSIn i (fun x => { x with disc := false }) |> rputAt F.SIO_DISC_DISC i false else s)

/-- A pulse of TPk starts at its place in the period: the land goes low for TP_PW, and each input it feeds keeps the state it had
(R177, R178). Without VS_LOAD there is no pulse (R504). -/
def execTestPulse (k : Fin 8) (s : State) : Host.Outcome State Fault Refusal :=
  .next (if s.tmp.running && !s.pwr.vsAbsent && crossesAt s (sTpPeriod s) (k * sTpPeriod s / 8) then
    eachUpTo 24 (fun i t => if sInUsed t i && sInSrc t i == k.val then
      onSIn i (fun x => { x with kept := some x.acc }) t else t)
      { s with saf.tpLow := Tab.upd s.saf.tpLow k (fun _ => some (sTpPw s)) }
  else s)

/-- Land TPk carries 24 V: a layout is loaded, VS_LOAD is present and no pulse of it runs (R178, R504). -/
def tpHigh (s : State) (k : Nat) : Bool := s.loaded && !s.pwr.vsAbsent && (Tab.get none s.saf.tpLow k).isNone

/-- The test of one input at the end of its source's pulse (R179). -/
def testInput (i : Nat) (low back : Bool) (s : State) : State :=
  match (sIn s i).kept with
  | none => s
  | some false => onSIn i (fun x => { x with kept := none }) s
  | some true =>
    if low && back then
      onSIn i (fun x => { x with kept := none, passes := min 2 (x.passes + 1), testOk := x.testOk || decide (1 ≤ x.passes) }) s
    else
      s |> onSIn i (fun x => { x with kept := none, passes := 0, testOk := false }) |> raiseSio F.SIO_FLAGS_TPFAIL i

/-- The end of a pulse of TPk: the land carries 24 V again, and its inputs are judged (R178, R179). -/
def execTestPulseCheck (k : Fin 8) (low back : BitVec 24) (s : State) : Host.Outcome State Fault Refusal :=
  .next (eachUpTo 24 (fun i t => if sInUsed t i && sInSrc t i == k.val then
    testInput i (low.getLsbD i) (back.getLsbD i) t else t)
    { s with saf.tpLow := Tab.upd s.saf.tpLow k (fun _ => none) })

/-! ### Safety outputs (R181–R184) -/

/-- An output latched off: OUTSTATE or SO_TEST (R184). -/
def soFault (code x : Nat) (s : State) : State :=
  s |> onSOut x (fun o => { o with latch := true, act := false }) |> raiseSio F.SIO_FLAGS_SOFAULT x |> safCause code x false

/-- More than 0.75 A for 10 µs switches the output off (R182). -/
def execSoOvercurrent (x : Fin 4) (ma us : Nat) (s : State) : Host.Outcome State Fault Refusal :=
  .next (if (sOut s x).act ∧ s.pwr.vsAbsent = false ∧ 750 < ma ∧ 10 ≤ us then
    s |> onSOut x (fun o => { o with act := false, oc := true, ocSeen0 := false }) |> raiseSio F.SIO_FLAGS_SOOC x
  else s)

/-- The readback a dark-test pulse must show: SOx_H below 2 V, or SOx_L within 2 V of VS_LOAD (R183). -/
def darkPass (side : Side) (mv vs : Int) : Bool :=
  match side with
  | .high => decide (mv < 2000)
  | .low => decide ((vs - mv).natAbs ≤ 2000)

/-- Whether a dark-test pulse of the side is due: the high side every SO_TESTPER of the time the output has been energised, the low
side half a period after the high (R183; the first pulse one period after the output is energised, DESIGN CHOICE, log
entry 177). -/
def darkDue (s : State) (x : Nat) (side : Side) : Bool :=
  let o := sOut s x
  o.act && !s.pwr.vsAbsent && match side, o.darkHi with
    | .high, none => decide (sSoTestPer s ≤ sinceT s o.onAt)
    | .high, some t => decide (sSoTestPer s ≤ sinceT s t)
    | .low, none => false
    | .low, some t => decide (sSoTestPer s / 2 ≤ sinceT s t) && (match o.darkLo with | none => true | some l => decide (l < t))

/-- A dark-test pulse of one switch (R183). -/
def execDarkTest (x : Fin 4) (side : Side) (mv vs : Int) (s : State) : Host.Outcome State Fault Refusal :=
  .next (if darkDue s x side then
    let s1 := onSOut x (fun o => match side with
      | .high => { o with darkHi := some s.tmp.now }
      | .low => { o with darkLo := some s.tmp.now }) s
    if darkPass side mv vs then s1 else soFault 0x0B x s1
  else s)

/-- A dark-test pulse of the output fell in the tempo that the report is of, or in this one (R172, R183). -/
def inTestWindow (s : State) (x : Nat) : Bool :=
  let near := fun (t : Option Nat) => match t with | some a => decide (sinceT s a ≤ 1) | none => false
  near (sOut s x).darkHi || near (sOut s x).darkLo

/-- The analog-power die's report of the safety outputs against what was commanded in the previous tempo (R10); an output off for
overcurrent or latched is commanded off, an output in its test window is not compared (R172), and the compare is
suspended while VS_LOAD is absent (R504). -/
def compareOutputs (so : BitVec 4) (s : State) : State :=
  if s.pwr.vsAbsent then s
  else eachUpTo 4 (fun x t => if so.getLsbD x != (sOut t x).prev && !inTestWindow t x then soFault 0x0A x t else t) s

/-! ### Residual direct current (R195–R198) -/

/-- A trip: ISO_OK falls for each of the outlets until IDLE; KP of an AC3 outlet opens at the edge, as a hard break; a DC outlet
takes the emergency path (R196). -/
def rcTripOutlets (all : Bool) (s : State) : State :=
  let s1 := eachUpTo 4 (fun n t =>
    let closed := decide (oCoil t n 0 < 64) && (coil t (oCoil t n 0)).cmd
    if oActive t n && sRcMask t n && (all || closed) then
      let t1 := onOutlet n (fun o => { o with isoOk := false, isoHeld := true, rcTrip := true }) t
      if oType t n = tyAc3 then onCoil (oCoil t n 0) (fun k => { k with hard := k.drive }) (outCoil n 0 false t1) else t1
    else t) s
  s1 |> rput F.SAF_RC_TRIP 1 |> raiseSaf F.SAF_FLAGS_RCTRIP

def rcThreshold (tier : Nat) : Nat := if tier = 0 then 6000 else if tier = 1 then 60000 else 200000

/-- The time of a tier, in tempos. -/
def rcTime (tier : Nat) : Nat := if tier = 0 then 100000 else if tier = 1 then 3000 else 800

/-- One tier against its time, the average still at its threshold: the trip of R195. -/
def rcCheck (tier : Nat) (s : State) : State :=
  match Tab.get none s.saf.rcUp tier with
  | some t =>
    if sRcAny s ∧ rcTime tier ≤ sinceT s t ∧ rcThreshold tier ≤ s.saf.rcAvg ∧ !rbit s F.SAF_RC_TRIP then rcTripOutlets false s else s
  | none => s

/-- A tier's time runs out (R195). -/
def execRcTrip (tier : Fin 3) (s : State) : Host.Outcome State Fault Refusal := .next (rcCheck tier s)

/-- A tier's onset and its restart after 100 ms below 90 % (R195). -/
def rcTier (avg tier : Nat) (s : State) : State :=
  let up := Tab.get none s.saf.rcUp tier
  let low := Tab.get none s.saf.rcLow tier
  let low' := if 10 * avg < 9 * rcThreshold tier then (low <|> some s.tmp.now) else none
  let expired := match low' with | some t => decide (2000 ≤ sinceT s t) | none => false
  let up' := if expired then none else if rcThreshold tier ≤ avg then (up <|> some s.tmp.now) else up
  { s with saf.rcUp := Tab.upd s.saf.rcUp tier (fun _ => up'), saf.rcLow := Tab.upd s.saf.rcLow tier (fun _ => low') }

/-- The residual-current function works: RC_MASK names an outlet, or a channel has USE RC (R527). -/
def rcOn (s : State) : Bool := sRcAny s || (rcChannel s).isSome

/-- Lands FGX_P and FGX_N carry the excitation; otherwise they are held at 0 V (R198, R527). -/
def fgxOn (s : State) : Bool := s.loaded && s.pwr.safeOn && !s.saf.hold && rcOn s

/-- Land FGT drives the test winding (R198). -/
def fgtOn (s : State) : Bool := fgxOn s && s.saf.fgt.toList.any Option.isSome

/-- The test winding is driven for 100 ms from the entry of a masked outlet into NEGOTIATE (R198). -/
def edgeFgt (n : Nat) (s : State) : State :=
  let o := outlet s n
  let v := if sRcMask s n && oActive s n && o.st == .negotiate then
      (if o.since = s.tmp.now then some s.tmp.now
       else match Tab.get none s.saf.fgt n with | some t => if 2000 < sinceT s t then none else some t | none => none)
    else none
  { s with saf.fgt := Tab.upd s.saf.fgt n (fun _ => v) }

/-- The residual-current function in one tempo: the 1 ms average of stream 52, the tiers, and the end of a trip once the
masked outlets are in IDLE (R195, SAF_RC). -/
def edgeRc (s : State) : State :=
  if !rcOn s then s
  else
    let sum := s.saf.rcSum + fzVal s 52
    let s1 :=
      if s.saf.rcCnt + 1 < 20 then { s with saf.rcSum := sum, saf.rcCnt := s.saf.rcCnt + 1 }
      else
        let avg := sum / 20
        let m := avg.natAbs
        let tier := if 200000 ≤ m then 3 else if 60000 ≤ m then 2 else if 6000 ≤ m then 1 else 0
        { s with saf.rcSum := 0, saf.rcCnt := 0, saf.rcAvg := m }
          |> rput F.SAF_RC_IDC (ofSigned 16 (avg / 100)) |> rput F.SAF_RC_TIER tier
          |> rcTier m 0 |> rcTier m 1 |> rcTier m 2
    let s2 := eachUpTo 3 rcCheck s1
    let idle := (List.range 4).all (fun n => !sRcMask s2 n || !oActive s2 n || (outlet s2 n).st ∈ [OutSt.idle, .oos])
    if rbit s2 F.SAF_RC_TRIP && idle then rput F.SAF_RC_TRIP 0 s2 else s2

/-- A failed fluxgate check counts as a trip for every masked outlet; with RC_MASK 0 none trips (R198, R527). -/
def rcSensorFault (s : State) : State :=
  let s1 := s |> rput F.SAF_RC_SENS 1 |> raiseSaf F.SAF_FLAGS_RCSENS
  if sRcAny s then rcTripOutlets true s1 else s1

/-- The end of the test of a masked outlet, 100 ms after its entry into NEGOTIATE: stream 52 must read 8–12 mA, and the excitation
current must have stayed in its window (R198). -/
def execFluxgateTest (n : Fin 4) (exc : Bool) (s : State) : Host.Outcome State Fault Refusal :=
  let ua := fzVal s 52
  .next (match Tab.get none s.saf.fgt n with
    | some t =>
      if 2000 ≤ sinceT s t then
        let s1 := { s with saf.fgt := Tab.upd s.saf.fgt n (fun _ => none) }
        if exc ∧ 8000 ≤ ua ∧ ua ≤ 12000 then onOutlet n (fun o => { o with rcTested := true }) s1 else rcSensorFault s1
      else s
    | none => s)

/-! ### Insulation monitoring (R190–R194) -/

/-- The relay of the phase in hand, at an edge. It closes once the other relay's feedback reads open, so that BRP and BRN
are never closed together (DEDUCED, log entry 159), and the dwell counts from the tempo in which it confirms closed (R190). -/
def isoConfirm (n : Nat) (s : State) : State :=
  let m := isoMon s n
  let own := if m.phase == .p then 2 else 3
  let other := if m.phase == .p then 3 else 2
  if (m.phase == .p || m.phase == .n) && m.run && m.confAt.isNone then
    if (coil s (oCoil s n own)).cmd then
      if fbIn s (oFb s n own) then onIso n (fun m => { m with confAt := some s.tmp.now }) s else s
    else if fbIn s (oFb s n other) then s
    else outCoil n own true s
  else s

/-- A cycle starts at a chain-time second with phase P: BRP closes, or, where FBRN still reads closed, once it confirms open
(R190). -/
def execIsoCycleStart (n : Fin 4) (s : State) : Host.Outcome State Fault Refusal :=
  let m := isoMon s n
  .next (if m.run && m.phase == .idle && crossesAt s 1000000000 0 then
    s |> outCoil n 2 (!fbIn s (oFb s n 3)) |> outCoil n 3 false
      |> onIso n (fun m => { m with phase := .p, confAt := none, bad := false, extrap := false, phx := false })
  else s)

/-- The dwell of R191 from a time constant in µs: 5τ rounded up to 1 ms, bounded to 50–450 ms. -/
def isoDwell (tau : Nat) : Nat := max 50 (min 450 (ceilDiv (5 * tau) 1000))

/-- The fit of the settling time constant 20 ms into a phase sets the dwell of the next phase of the same kind (R191). -/
def execIsoTauFit (n : Fin 4) (tau : Nat) (s : State) : Host.Outcome State Fault Refusal :=
  let m := isoMon s n
  let ready := match m.confAt with | some t => decide (400 ≤ sinceT s t) | none => false
  let d := if m.phase == .p then m.dwellP else m.dwellN
  .next (if ready && (m.phase == .p || m.phase == .n) then
    s |> onIso n (fun m =>
        { m with tau := tau, extrap := m.extrap || decide (1000 * d < 5 * tau), phx := decide (1000 * d < 5 * tau), bad := m.bad || decide (450000 < tau),
                 nextP := if m.phase == .p then isoDwell tau else m.nextP,
                 nextN := if m.phase == .n then isoDwell tau else m.nextN })
      |> rput (F.SAF_ISO_TAU n) (min 0xFF (tau / 2000))
  else s)

/-- The final value of an exponential settling that began at `u0` and stands at `u` when e^(−t/τ) has come down to `decay` × 2⁻³². -/
def extrapolate (u0 u : Int) (decay : Nat) : Int := (4294967296 * u - decay * u0) / (4294967296 - decay)

/-- U+ at the end of a phase: the frozen MISO sample, or, where the phase takes its final value by extrapolation, the value that
sample is settling to (R190–R192; log entry 178). -/
def isoPos (s : State) (n : Nat) (extrapolated : Bool) (start : Int) (decay : Nat) : Int :=
  let u := fzVal s (sIsoMiso s n)
  if extrapolated then extrapolate start u decay else u

/-- The end of phase P: BRP opens and BRN closes, at once where FBRP reads open and else at the edge at which it confirms open
(R190; log entry 159). -/
def execIsoPhasePEnd (n : Fin 4) (start : Int) (decay : Nat) (s : State) : Host.Outcome State Fault Refusal :=
  let m := isoMon s n
  let out := oVmv s n
  let pos := isoPos s n m.phx start decay
  let due := match m.confAt with | some t => decide (20 * m.dwellP ≤ sinceT s t) | none => false
  .next (if m.phase == .p && due then
    s |> outCoil n 2 false |> outCoil n 3 (!fbIn s (oFb s n 2))
      |> onIso n (fun m => { m with phase := .n, confAt := none, phx := false, pPos := pos, pNeg := out - pos, dwellP := m.nextP,
                                    bad := m.bad || decide (out < 50000) })
  else s)

/-- Ω/V from the two phases (R192): RB and RM in kΩ, VRATED in 0.1 V; `none` where the result is invalid. A U− of zero or
less leaves a ratio without a value and the result invalid (DEDUCED, log entry 14). -/
def isoOhmv (pPos pNeg nPos nNeg : Int) (rb rm vrated : Nat) : Option Nat :=
  if pNeg ≤ 0 ∨ nNeg ≤ 0 then none
  else
    let kP : Rat := pPos / pNeg
    let kN : Rat := nPos / nNeg
    if kN - kP ≤ 0 then none
    else
      let gB : Rat := 1 / rb
      let gM : Rat := 1 / rm
      let a := gB * (1 + kP) / (kN - kP)
      let c := kP * (a + gB)
      let value := fun (g : Rat) => (1 / g) * 10000 / vrated
      let r : Option Rat :=
        if a - gM ≤ 0 then (if c - gM ≤ 0 then none else some (value (c - gM)))
        else if c - gM ≤ 0 then some (value (a - gM))
        else some (min (value (a - gM)) (value (c - gM)))
      match r with
      | none => some 65535
      | some x => some (min 65535 x.floor.toNat)

/-- Tempos left to the next chain-time second. -/
def toSecond (s : State) : Nat := (1000000000 - s.tmp.chain % 1000000000) / 50000

/-- The end of phase N: the result takes effect at the next edge (R190, R192). -/
def execIsoPhaseNEnd (n : Fin 4) (start : Int) (decay : Nat) (s : State) : Host.Outcome State Fault Refusal :=
  let m := isoMon s n
  let out := oVmv s n
  let held := match m.confAt with | some t => sinceT s t | none => 0
  let full := m.confAt.isSome && decide (20 * m.dwellN ≤ held)
  let cut := decide (toSecond s ≤ 400)
  let pos := isoPos s n (m.phx || !full) start decay
  .next (if m.phase == .n && (full || cut) then
    let bad := m.bad || decide (out < 50000) || (!full && decide (held < 400))
    let r := if bad then none else isoOhmv m.pPos m.pNeg pos (out - pos) (sIsoRb s n) (sIsoRm s n) (oVrated s n)
    s |> outCoil n 3 false
      |> onIso n (fun m => { m with phase := .idle, confAt := none, dwellN := m.nextN, extrap := m.extrap || !full,
                                    result := some r })
  else s)

/-- An insulation fault holds ISO_OK(n) at 0 until IDLE (R125, R193). -/
def isoFault (n : Nat) (s : State) : State :=
  s |> onOutlet n (fun o => { o with isoOk := false, isoHeld := true })
    |> rput (F.SAF_ISO_FAULT n) 1 |> raiseSaf F.SAF_FLAGS_ISOFAULT

/-- A passed measurement: in CABLE_CHECK the first one sets ISO_OK and CCDONE (R124). -/
def isoPass (n : Nat) (s : State) : State :=
  let o := outlet s n
  if o.isoHeld then s
  else
    let s1 := onOutlet n (fun o => { o with isoOk := true, ccdone := o.ccdone || o.st == .cableCheck }) s
    if o.st == .cableCheck && !o.ccdone then raiseOut n F.OUT_FLAGS_CCDONE s1 else s1

/-- A result taking effect: stream 16 + n, SAF_ISOn, the warning and the fault (R192, R193). -/
def isoApply (n : Nat) (s : State) : State :=
  match (isoMon s n).result with
  | none => s
  | some r =>
    let s0 := onIso n (fun m => { m with result := none }) s
      |> rputB (F.SAF_ISO_EXTRAP n) (isoMon s n).extrap |> rputB (F.SAF_ISO_INVALID n) r.isNone
    match r with
    | none =>
      let s1 := onIso n (fun m => { m with invRun := m.invRun + 1 }) s0 |> raiseSaf F.SAF_FLAGS_ISOINV
      if 2 ≤ (isoMon s1 n).invRun then isoFault n (onIso n (fun m => { m with invRun := 0 }) s1) else s1
    | some v =>
      let s1 := onIso n (fun m => { m with invRun := 0 }) s0 |> strmPut (16 + n) v |> rput (F.SAF_ISO_OHMV n) v
      let s2 :=
        if v < sIsoWarn s then raiseSaf F.SAF_FLAGS_ISOWARN (rput (F.SAF_ISO_WARN n) 1 s1)
        else if 11 * sIsoWarn s ≤ 10 * v then rput (F.SAF_ISO_WARN n) 0 s1 else s1
      if v < sIsoFault s then isoFault n s2 else isoPass n s2

/-! ### The guard (R185–R189) -/

/-- The safety-section digest in force, as bytes. -/
def safeDigest (s : State) : Bytes := (List.range 8).flatMap (fun k => digestBytes (rget s (F.BRD_SAFEDIG_DIGEST k)))

def dayNs : Nat := 86400000000000

/-- The proof names the current digest (R188). -/
def proofNames (s : State) : Bool := s.loaded && s.saf.proofDig == some (safeDigest s)

/-- GUARD_OK and DUE from the proof in force and the high-water mark (R188, R189). -/
def guardEval (s : State) : State :=
  let dig := proofNames s
  let ok := dig && decide (s.bil.dyn.hwm < s.saf.proofTime + sProofDays s * dayNs)
  let due := s.loaded && (!dig || decide (s.saf.proofTime + (sProofDays s - sDueDays s) * dayNs ≤ s.bil.dyn.hwm))
  let s1 := { s with saf.guardOk := ok, saf.due := due }
  let s2 := if s.saf.guardOk && !ok then raiseSaf F.SAF_FLAGS_GUARDLOST s1 else s1
  if due && !s.saf.due then raiseSaf F.SAF_FLAGS_GUARDDUE s2 else s2

/-- The high-water mark passes the proof's expiry (R188). -/
def execGuardProofExpiry (s : State) : Host.Outcome State Fault Refusal := .next (guardEval s)

/-- DUE rises (R189). -/
def execGuardDue (s : State) : Host.Outcome State Fault Refusal := .next (guardEval s)

/-- The pair from the frozen guard inputs (R185). -/
def pairNext (s : State) : GuardPair :=
  let a := s.fz.si.testBit (sGuardA s)
  let b := s.fz.si.testBit (sGuardB s)
  if a && !b then .closed else if !a && b then .open_
  else match s.saf.eqSince with
    | some t => if sGuardDisc s < sinceT s t then .discrepant else s.saf.pair
    | none => s.saf.pair

/-- A proof record of 64 bytes: MAGIC, SEQ, TIME, the safety-section digest, the time the pair was OPEN, the guard inputs, and the
CRC over them (R187). -/
def proofBytes (seq time : Nat) (dig : Bytes) (dur ga gb : Nat) : Bytes :=
  let b := [0x47, 0x50, 0x52, 0x46] ++ leBytes 4 seq ++ leBytes 8 time ++ slice dig 0 32 ++ leBytes 2 dur ++ leBytes 1 ga ++ leBytes 1 gb
    ++ List.replicate 8 0
  b ++ leBytes 4 (crc32 b)

/-- The SEQ of a proof record, where its MAGIC and its CRC hold. -/
def proofSeqOf (b : Bytes) : Option Nat :=
  if b.length = 64 ∧ b.take 4 = [0x47, 0x50, 0x52, 0x46] ∧ u32 b 0x3C = crc32 (b.take 0x3C) then some (u32 b 4) else none

/-- A completed guard test: its proof record is formed for the persist channel, with the SEQ after the last record formed or in
force and the legal time of this edge (R187). -/
def guardComplete (s : State) : State :=
  let q := (max s.saf.proofSeq s.saf.proofMade + 1) % 2 ^ 32
  { s with saf.gStep := 0, saf.proofMade := q,
           saf.outbox := s.saf.outbox ++ [.proof (proofBytes q s.bil.legal (safeDigest s)
             (min 0xFFFF (sinceT s s.saf.gOpenAt / 2000)) (sGuardA s) (sGuardB s))] }

/-- One tempo of the guard test: CLOSED, OPEN for at least GUARD_MINOPEN, CLOSED again within GUARD_MAXOPEN, with both
TESTOK and legal time valid throughout (R186). -/
def guardTest (old : GuardPair) (s : State) : State :=
  let new := s.saf.pair
  let good := s.fz.test.testBit (sGuardA s) && s.fz.test.testBit (sGuardB s) && s.bil.legalValid && new != .discrepant
  let held := sinceT s s.saf.gOpenAt
  if !good then { s with saf.gStep := 0 }
  else if old == .closed && new == .open_ then { s with saf.gStep := 1, saf.gOpenAt := s.tmp.now }
  else if s.saf.gStep = 1 ∧ new == .open_ ∧ sMinOpen s ≤ held then { s with saf.gStep := 2 }
  else if old == .open_ && new == .closed then
    if s.saf.gStep ≠ 0 ∧ sMinOpen s ≤ held ∧ held ≤ sMaxOpen s then guardComplete s else { s with saf.gStep := 0 }
  else s

/-- The guard pair decided for one tempo, and the test advanced (R185, R186). -/
def edgeGuard (s : State) : State :=
  if !s.loaded then guardEval s
  else
    let eq := s.fz.si.testBit (sGuardA s) == s.fz.si.testBit (sGuardB s)
    let s0 := { s with saf.eqSince := if eq then (s.saf.eqSince <|> some s.tmp.now) else none }
    let old := s.saf.pair
    let new := pairNext s0
    let s1 := { s0 with saf.pair := new }
    let s2 := if new == .discrepant && old != .discrepant then raiseSio F.SIO_FLAGS_GUARDDISC 0 s1 else s1
    guardEval (guardTest old s2)

/-- The guard inputs have read equal for longer than GUARD_DISC (R185). -/
def execGuardDiscrepant (s : State) : Host.Outcome State Fault Refusal := .next (edgeGuard s)

/-! ### The safety part of an edge -/

/-- The conditions that the edge itself tests: die temperatures, rails, coils commanded open in CHECK (R169, R172). -/
def edgeConditions (s : State) : State :=
  let s1 := tempConditions s
  let s2 := s1.saf.railsBad.foldl (fun t r => safCause 0x13 r true t) s1
  eachUpTo 64 checkCoil s2

/-- The state transition of an edge: MATE wins over CHECK, and either over a return to RUN (R167, R171). -/
def edgeState (s : State) : State :=
  match s.saf.toMate, s.saf.toCheck with
  | some c, _ =>
    if s.saf.st = .mate then
      outsMateLate { s with saf.toMate := none, saf.toCheck := none, saf.toRun := false, saf.held := true }
    else enterMate c s
  | none, some c => if s.saf.st = .run then enterCheck c { s with saf.toRun := false } else { s with saf.toCheck := none, saf.toRun := false }
  | none, none => if s.saf.toRun then enterRun s else s

/-- Safety outputs at the edge: the Board targets, less latches and overcurrent cut-offs (R181, R182, R184). An output that
is on without VS_LOAD carries nothing and is not compared (R504). -/
def edgeSo (s : State) : State :=
  eachUpTo 4 (fun x t =>
    let want := t.brd.tgt.testBit x && t.saf.st != .mate
    onSOut x (fun o =>
      let oc := o.oc && !(want && o.ocSeen0)
      let act := want && !o.latch && !oc
      let on := act && !o.act
      { o with prev := o.act && !t.pwr.vsAbsent, oc := oc, ocSeen0 := o.ocSeen0 || !want, act := act,
               onAt := if on then t.tmp.now + 1 else o.onAt, darkHi := if on then none else o.darkHi,
               darkLo := if on then none else o.darkLo }) t) s

/-- Coils at the edge: with a strobe each coil takes its command while its Board enable is 1 (R57, R102, R162). Without a
strobe the drivers keep their states, and after two edges without one their watchdog switches them off (R62, R163). -/
def edgeCoils (s : State) : State :=
  let strobe := s.tmp.ran.contains 6 && !s.mtx.withhold
  let s0 := eachUpTo 64 (fun c t => onCoil c (fun k => { k with eff := k.cmd }) t) s
  if strobe then
    let s1 := eachUpTo 64 (fun c t =>
      coilDrive c ((coil t c).cmd && t.brd.tgt.testBit (4 + c) && t.saf.st != .mate) t) s0
    { s1 with mtx.fb := s.mtx.serNew.getD s.mtx.fb, mtx.serNew := none, mtx.noStrobe := 0, mtx.withhold := false,
              mtx.applied := bitsOf 64 (fun c => (coil s1 c).drive) }
  else
    let s1 := { s0 with mtx.noStrobe := min 2 (s.mtx.noStrobe + 1), mtx.withhold := false, mtx.serNew := none }
    if 2 ≤ s1.mtx.noStrobe then
      { eachUpTo 64 (fun c t => coilDrive c false t) s1 with mtx.applied := 0 }
    else s1

/-- Inputs frozen at the edge (R55, R176, R177). -/
def frozenInputs (s : State) : Nat :=
  bitsOf 24 (fun i => let x := sIn s i; sInUsed s i && !x.disc && x.kept.getD x.acc)

def frozenTests (s : State) : Nat := bitsOf 24 (fun i => s.loaded && sInUsed s i && (sIn s i).testOk)

/-- The end of the cause bookkeeping of a tempo (R173). -/
def edgeCauses (s : State) : State := { s with saf.prev := s.saf.cur, saf.cur := [] }

end Sys2Proof.Machine
end

