-- ==== Sys2Proof/Machine/Matrix.lean ====
section
/-!
DEFINITION. The power-sharing matrix (06): the operations of each power group, the allocator and the grants, current
sharing and balancing, the power-group frames, the matrix port, and the wear counters handed to the sealed core. A group
joins or leaves a bus only through the steps of one group machine; timer expiries are evaluations of it.
-/

namespace Sys2Proof.Machine

/-! ### What the controller knows of a group and a bus -/

/-- The crosspoint that joins group g to bus b. -/
def xpOf (s : State) (g b : Nat) : Option Nat :=
  (List.range (mNxp s)).find? (fun x => mXpGroup s x == g && mXpBus s x == b)

def xpFb (s : State) (x : Nat) : Bool := fbIn s (mCoilFb s (mXpCoil s x))

def xpCmd (s : State) (x : Nat) : Bool := (coil s (mXpCoil s x)).cmd

/-- The bus a group is connected to: that of the crosspoint whose feedback confirms closed, until it confirms open (R143). -/
def groupBus (s : State) (g : Nat) : Option Nat :=
  ((List.range (mNxp s)).find? (fun x => mXpGroup s x == g && xpFb s x)).map (mXpBus s)

/-- Every crosspoint feedback of the group confirms open (R143). -/
def groupFree (s : State) (g : Nat) : Bool :=
  (group s g).xp.isNone && (List.range (mNxp s)).all (fun x => mXpGroup s x != g || !xpFb s x)

def groupsOn (s : State) (b : Nat) : List Nat := (List.range (mNgroup s)).filter (fun g => groupBus s g == some b)

/-- PAVAIL as it counts, kW: 0 for a lost group, FAULT and INHIBIT (R158, R159). -/
def gPav (s : State) (g : Nat) : Nat :=
  let k := group s g
  if k.lost ∨ k.stamp.isNone ∨ k.gstate = 4 ∨ k.gstate = 5 then 0 else 2 * k.pavail

def gAvailable (s : State) (g : Nat) : Bool := decide (0 < gPav s g) && (group s g).step != .pinned

/-- Bus voltage on VCH, 0.1 V. -/
def busV (s : State) (b : Nat) : Nat := (fzVal s (mVch s b)).natAbs / 100

/-- The request in force on a bus; none once none has come for 5 ms (R147). -/
def busKind (s : State) (b : Nat) : Option ReqKind :=
  let k := busSt s b
  if sinceT s k.stamp < 100 then k.kind else none

def groupLow (s : State) (g : Nat) : Bool := decide ((group s g).iout.natAbs < 20)

/-- The opening condition of R144: 0 A commanded for 1 ms, and reported below 2 A for 20 tempos; a lost group reports nothing
(R159). -/
def canOpen (s : State) (g : Nat) : Bool :=
  let k := group s g
  match k.zeroSince, k.lowSince with
  | some z, some l => decide (20 ≤ sinceT s z) && decide (20 ≤ sinceT s l) && groupLow s g && !k.lost
  | _, _ => false

/-- The VSET of a group that is to meet bus b: 0 V for a bus below 60 V (R144). -/
def matchV (s : State) (b : Nat) : Nat := if busV s b < 600 then 0 else busV s b

/-- The closing condition of R144. -/
def canClose (s : State) (g b : Nat) : Bool :=
  let k := group s g
  k.gstate == 1 && k.mode == 1 && k.limit == 0 && decide (busV s b < 600 → k.vset = 0)
    && decide (k.vout ≤ busV s b + mVmatchTol s) && decide (busV s b ≤ k.vout + mVmatchTol s)
    && (List.range (mNxp s)).all (fun x => mXpGroup s x != g || !xpCmd s x)

/-- The voltage the weld check drives to (R145). -/
def weldV (s : State) (src : Nat) (dst : Option Nat) : Nat :=
  let v := busV s src
  let other := if v < 2000 then v + 1000 else v - 500
  match dst with
  | some d => let t := matchV s d; if t + 500 ≤ v ∨ v + 500 ≤ t then t else other
  | none => other

/-! ### The steps of a group -/

def stepTo (g : Nat) (st : GStep) (s : State) : State := onGroup g (fun k => { k with step := st, stepAt := s.tmp.now }) s

/-- The group's crosspoint commanded open. -/
def xpOpen (g : Nat) (s : State) : State :=
  match (group s g).xp with
  | some x => coilCmd (mXpCoil s x) false s
  | none => s

/-- A group left free: no bus, output off. -/
def groupOff (g : Nat) (s : State) : State :=
  onGroup g (fun k => { k with xp := none, step := .none, mig := false, dst := none, mode := 0, vset := 0, limit := 0,
                               share := 0, trim := 0, integ := 0, satSince := none, satFlag := false }) s

/-- An operation given up: a group still connected stays with its grant, one past its opening is left free or finishes
its weld check as a released group; not chosen again for 1 s (R155). -/
def groupAbort (g : Nat) (s : State) : State :=
  let k := group s g
  let s2 := raiseIf k.mig F.MTX_EVCNT_COUNT [F.MTX_FLAGS_MIGABORT] s
  let s3 := onGroup g (fun k => { k with mig := false, dst := none, barUntil := s.tmp.now + 20000 }) s2
  match k.step with
  | .rampDown | .rampUp => stepTo g .none s3
  | .open_ | .weldChk => s3
  | _ => groupOff g (xpOpen g s3)

/-- A step is decided at the earliest in the tempo after it began. -/
def stepReady (s : State) (g : Nat) : Bool := decide ((group s g).stepAt < s.tmp.now)

def stepAge (s : State) (g : Nat) : Nat := sinceT s (group s g).stepAt

/-- The crosspoint's opening is commanded (R144, R154, R159). -/
def beginOpen (g : Nat) (s : State) : State :=
  xpOpen g s |> onGroup g (fun k => { k with limit := 0 }) |> stepTo g .open_

/-- T_XZC counts from the tempo in which the limit reached 0 (DEDUCED, log entry 20). -/
def xzcExpired (s : State) (g : Nat) : Bool :=
  match (group s g).zeroSince with | some z => decide (mTxzc s ≤ sinceT s z) | none => false

/-- A welded crosspoint: MTX_XPWELD, CHECK, and the group pinned (R145); a migration ends with it (R155). -/
def xpWelded (g : Nat) (s : State) : State :=
  let k := group s g
  let x := (xpOf s g k.src).getD 0
  { groupOff g s with mtx.xpWeld := setBit s.mtx.xpWeld x true }
    |> onGroup g (fun k => { k with step := .pinned, barUntil := s.tmp.now + 20000 })
    |> raise F.MTX_EVCNT_COUNT (if k.mig then [F.MTX_FLAGS_XPWELD, F.MTX_FLAGS_MIGABORT] else [F.MTX_FLAGS_XPWELD])
    |> safCause 0x0D g false

/-- One tempo of the weld check. -/
def stepWeld (g : Nat) (s : State) : State :=
  let k := group s g
  let v := busV s k.src
  if k.vout + 300 ≤ v ∨ v + 300 ≤ k.vout then
    match k.dst with
    | some d => onGroup g (fun k => { k with mode := 1, vset := matchV s d }) s |> stepTo g .vmatch
    | none => groupOff g s
  else if mTvmatch s ≤ stepAge s g then xpWelded g s
  else onGroup g (fun k => { k with mode := 1, vset := weldV s k.src k.dst, limit := 0 }) s

/-- One tempo of the voltage match. -/
def stepMatch (g : Nat) (s : State) : State :=
  let k := group s g
  match k.dst with
  | none => groupOff g s
  | some d =>
    if canClose s g d && (xpOf s g d).isSome && target s (4 + mXpCoil s ((xpOf s g d).getD 0)) then
      let x := (xpOf s g d).getD 0
      coilCmd (mXpCoil s x) true s |> onGroup g (fun k => { k with xp := some x }) |> stepTo g .close
    else if mTvmatch s ≤ stepAge s g then groupAbort g s
    else onGroup g (fun k => { k with mode := 1, vset := matchV s d, limit := 0 }) s

/-- A completed operation. -/
def opDone (g : Nat) (s : State) : State :=
  let k := group s g
  let s1 := onGroup g (fun k => { k with step := .none, mig := false, dst := none }) s
  if k.mig then
    { s1 with mtx.migDone := min 0xFFFF (s1.mtx.migDone + 1) } |> raiseMtx F.MTX_FLAGS_MIGDONE
  else s1

/-- The ramp-up ends once the share is reached; on a bus that asks for no energy the group follows the request at once
(DEDUCED from the example under R155, log entry 21). -/
def rampedUp (s : State) (g : Nat) : Bool :=
  let k := group s g
  match groupBus s g with
  | some b => if busKind s b = some .energy then decide (s.mtx.msAt = some s.tmp.now ∧ k.share ≤ k.limit) else true
  | none => false

/-- The migration table and R154, R159 for one group in one tempo. -/
def stepGroup (g : Nat) (s : State) : State :=
  let k := group s g
  match k.step with
  | .none | .pinned => s
  | .rampDown => if canOpen s g then beginOpen g s else if xzcExpired s g then groupAbort g s else s
  | .checkOpen => if canOpen s g || xzcExpired s g then beginOpen g s else s
  | .open_ =>
    if groupFree { s with mtx.grp := (onGroup g (fun k => { k with xp := none }) s).mtx.grp } g then
      onGroup g (fun k => { k with xp := none, mode := 1, vset := weldV s k.src k.dst, limit := 0 }) s |> stepTo g .weldChk
    else s
  | .weldChk => stepWeld g s
  | .vmatch => stepMatch g s
  | .close =>
    if (groupBus s g).isSome then
      onGroup g (fun k => { k with share := 0, trim := 0, integ := 0 }) s |> stepTo g .rampUp
        |> fun t => if rampedUp t g then opDone g t else t
    else s
  | .rampUp => if rampedUp s g then opDone g s else s

/-- Zero limit and low current tracked (R144). -/
def trackGroup (g : Nat) (s : State) : State :=
  onGroup g (fun k =>
    { k with zeroSince := if k.limit = 0 then (k.zeroSince <|> some s.tmp.now) else none,
             lowSince := if k.iout.natAbs < 20 then (k.lowSince <|> some s.tmp.now) else none }) s

/-- A group without an accepted status for 100 tempos is lost (R159). -/
def groupLostCheck (g : Nat) (s : State) : State :=
  let k := group s g
  let silent := match k.stamp with | some t => decide (100 ≤ sinceT s t) | none => decide (100 ≤ s.tmp.now)
  if silent && !k.lost then
    raiseMtx F.MTX_FLAGS_GRPLOST (onGroup g (fun k => { k with lost := true, goodRun := 0 }) s)
  else s

/-- What ends an operation or opens a crosspoint from outside the steps: CHECK (R154, R155), a destination that turns to
RELEASE before step 5 (R155), a Board coil enable at 0 (R146), and a lost group whose bus asks for nothing or which reports
again below 2 A (R159). -/
def groupOutside (g : Nat) (s : State) : State :=
  let k := group s g
  let src := match k.xp with | some x => mXpBus s x | none => k.src
  let ceOff := match k.xp with | some x => xpCmd s x && !target s (4 + mXpCoil s x) | none => false
  let released := match k.dst with | some d => busKind s d == some .release | none => false
  let opens := match groupBus s g with
    | some b => k.lost && (busKind s b ∈ [some .hold, some .release]
        || (match k.stamp with | some t => decide (sinceT s t < 100) && groupLow s g | none => false))
    | none => false
  let idle := k.step == .none || k.step == .rampDown || k.step == .rampUp || k.step == .close
  if ceOff then
    onGroup g (fun k => { k with src := src }) (groupAbort g s)
      |> onGroup g (fun j => { j with xp := k.xp, src := src }) |> beginOpen g
  else if inCheck s && k.step != .pinned then
    let s1 := if k.mig || k.step == .vmatch then groupAbort g s else s
    if k.xp.isSome && idle then
      onGroup g (fun j => { j with xp := k.xp, src := src, mig := false, dst := none }) s1 |> stepTo g .checkOpen
    else s1
  else if released && k.mig && (k.step ∈ [GStep.rampDown, .open_, .weldChk, .vmatch]) then groupAbort g s
  else if released && k.step == .vmatch then groupOff g s
  else if opens && idle then onGroup g (fun k => { k with src := src }) s |> beginOpen g
  else s

/-- One evaluation of a group. -/
def groupOnce (g : Nat) (s : State) : State :=
  if s.saf.st = .mate ∨ mNgroup s ≤ g then s
  else
    let s1 := groupOutside g (trackGroup g (groupLostCheck g s))
    if stepReady s1 g then stepGroup g s1 else s1

/-- A crosspoint feedback against its coil (R146). -/
def xpMismatch (x : Nat) (s : State) : State :=
  let c := mXpCoil s x
  if isCabinet s && decide (x < mNxp s) && coilMismatch s c (mCoilFb s c) then coilFault c s else s

/-! ### The allocator (R147, R148) -/

def insertDesc (x : Nat) : List Nat → List Nat
  | [] => [x]
  | y :: t => if y < x then x :: y :: t else y :: insertDesc x t

def sortDesc (l : List Nat) : List Nat := l.foldr insertDesc []

/-- PAVAIL of the available groups that can reach a bus, largest first. -/
def reachPav (s : State) (b : Nat) : List Nat :=
  sortDesc (((List.range (mNgroup s)).filter (fun g => gAvailable s g && (xpOf s g b).isSome)).map (gPav s))

/-- The smallest n whose n largest values reach the power, in W; all of them where none does. -/
def countFor : List Nat → Nat → Nat
  | [], _ => 0
  | p :: t, w => if w = 0 then 0 else 1 + countFor t (w - 1000 * p)

/-- need[b] before the cap (R147). -/
def needRaw (s : State) (b : Nat) : Nat :=
  let k := busSt s b
  match busKind s b with
  | none | some .release => 0
  | some .test | some .precharge => 1
  | some .hold => k.holdN
  | some .energy =>
    let l := reachPav s b
    let n := countFor l (ceilDiv (11 * busV s b * k.cur) 1000)
    min l.length (n + b2n (decide (k.prevCur < k.cur)))

def pneed (s : State) (b n : Nat) : Nat := ((reachPav s b).take n).foldl (· + ·) 0

/-- Buses in lowering order: lowest PRIO, that is the highest number, first, and highest index first. -/
def lowerOrder (s : State) : List Nat :=
  let l := (List.range (mNbus s)).reverse
  (List.range 8).reverse.flatMap (fun p => l.filter (fun b => mPrio s b == p))

/-- The cap of R147, one lowering at a time. -/
def capNeed (s : State) : Nat → List Nat → List Nat
  | 0, l => l
  | fuel + 1, l =>
    let total := (List.range (mNbus s)).foldl (fun a b => a + pneed s b (l.getD b 0)) 0
    match (lowerOrder s).find? (fun b =>
        decide ((if busKind s b ∈ [some .test, some .precharge] then 1 else 0) < l.getD b 0)) with
    | none => l
    | some b =>
      let n := l.getD b 0
      let least := ((reachPav s b).take n).getLastD 0
      if s.fz.site ≤ total - least then capNeed s fuel (l.set b (n - 1)) else l

def needs (s : State) : List Nat := capNeed s 128 ((List.range (mNbus s)).map (needRaw s))

/-- Groups connected to a bus that are not on their way off it, and those on their way to it. -/
def staying (s : State) (b : Nat) : List Nat :=
  (groupsOn s b).filter (fun g => (group s g).step ∈ [GStep.none, .rampUp, .close])

def coming (s : State) (b : Nat) : List Nat :=
  (List.range (mNgroup s)).filter (fun g => (group s g).dst == some b && groupBus s g != some b)

def inProgress (s : State) : Nat :=
  ((List.range (mNgroup s)).filter (fun g => (group s g).step ∉ [GStep.none, .pinned])).length

def migrating (s : State) : Bool := (List.range (mNgroup s)).any (fun g => (group s g).mig)

/-- A group's ramp-down begins: a release, or a migration with its destination. -/
def startLeave (g src : Nat) (dst : Option Nat) (s : State) : State :=
  onGroup g (fun k => { k with src := src, dst := dst, mig := dst.isSome }) s |> stepTo g .rampDown

/-- A connect begins with the voltage match. -/
def startConnect (g b : Nat) (s : State) : State :=
  onGroup g (fun k => { k with dst := some b, mig := false, mode := 1, vset := matchV s b, limit := 0 }) s |> stepTo g .vmatch

/-- The release part of R148 for one bus; neither a lost group nor, for 1 s, an aborted one is chosen (R155, R159). -/
def allocRelease (b : Nat) (s : State) : State :=
  let k := busSt s b
  let st := staying s b
  let ex := if k.need < st.length then min 5 (k.excess + 1) else 0
  let s1 := onBus b (fun k => { k with excess := ex }) s
  if ex < 5 then s1
  else
    let order := (st.filter (fun g => mGhome s g != b)).reverse ++ (st.filter (fun g => mGhome s g == b)).reverse
    match order.find? (fun g =>
        let k := group s g
        k.step == .none && !k.lost && decide (k.barUntil ≤ s.tmp.now)) with
    | some g => startLeave g b none s1
    | none => s1

/-- The first bus that lacks a group, in the order of R148. -/
def needyBus (s : State) : Option Nat :=
  let want := fun b => decide ((staying s b).length + (coming s b).length < (busSt s b).need)
  let key := fun b =>
    let tp := busKind s b ∈ [some ReqKind.test, some .precharge]
    let guar := decide ((staying s b).length < mGuar s)
    (if tp then 0 else 1) * 1000 + (if guar then 0 else 1) * 100 + mPrio s b * 10 + b
  (List.range (mNbus s)).foldl (fun a b =>
    if !want b then a else match a with | none => some b | some c => if key b < key c then some b else a) none

/-- A group of a list that reaches r: r's home group first, then the lowest index. -/
def pickGroup (s : State) (r : Nat) (l : List Nat) : Option Nat :=
  let ok := l.filter (fun g => (xpOf s g r).isSome)
  (ok.find? (fun g => mGhome s g == r)) <|> ok.head?

def chosable (s : State) (g : Nat) : Bool :=
  gAvailable s g && (group s g).step == .none && decide ((group s g).barUntil ≤ s.tmp.now)

/-- The bus a migration takes from (R148). -/
def donorBus (s : State) (r : Nat) : Option Nat :=
  (List.range (mNbus s)).foldl (fun a d =>
    let n := (staying s d).length
    if d ≠ r ∧ mGuar s < n ∧ (pickGroup s r ((staying s d).filter (chosable s))).isSome then
      match a with | none => some d | some c => if (staying s c).length < n then some d else a
    else a) none

/-- The starting loop of R148; the bound is MAXPAR and one look more. -/
def allocStart : Nat → State → State
  | 0, s => s
  | fuel + 1, s =>
    if mMaxpar s ≤ inProgress s then s
    else match needyBus s with
      | none => s
      | some r =>
        match pickGroup s r ((List.range (mNgroup s)).filter (fun g => chosable s g && groupFree s g)) with
        | some g => allocStart fuel (startConnect g r s)
        | none =>
          if migrating s then s
          else match donorBus s r with
            | none => s
            | some d =>
              match pickGroup s r ((staying s d).filter (chosable s)) with
              | some g => startLeave g d (some r) s
              | none => s

/-- One run of the allocator. -/
def allocRun (s : State) : State :=
  let l := needs s
  let s1 := eachUpTo (mNbus s) (fun b t => onBus b (fun k => { k with need := l.getD b 0, prevCur := k.cur }) t) s
  if inCheck s1 then s1 else allocStart 5 (eachUpTo (mNbus s) allocRelease s1)

/-! ### Grants (R150) -/

def grantRaw (s : State) (b : Nat) : Nat :=
  ((groupsOn s b).filter (fun g => (group s g).step ∉ [GStep.rampDown, .checkOpen, .open_])).foldl (fun a g => a + gPav s g) 0

/-- Grants after the budget cap, with the buses the cap lowered. -/
def grantsCapped (s : State) : List Nat × List Nat :=
  let raw := (List.range (mNbus s)).map (grantRaw s)
  (lowerOrder s).foldl (fun (p : List Nat × List Nat) b =>
    let total := p.1.foldl (· + ·) 0
    if total ≤ s.fz.site ∨ busKind s b ∈ [some .test, some .precharge, some .hold] then p
    else
      let old := p.1.getD b 0
      let new := old - (total - s.fz.site)
      (p.1.set b new, if new < old then b :: p.2 else p.2)) (raw, [])

/-- The grants of a tempo; one that falls is sent in this tempo, and one the budget lowers sets BUDGETCAP. -/
def grantUpdate (s : State) : State :=
  let g := grantsCapped s
  let fell := (List.range (mNbus s)).any (fun b => decide (g.1.getD b 0 < (busSt s b).grant))
  let cut := g.2.any (fun b => decide (g.1.getD b 0 < (busSt s b).grant))
  let s1 := eachUpTo (mNbus s) (fun b t => onBus b (fun k => { k with grant := g.1.getD b 0 }) t) s
  let s2 := { s1 with lea.grantNow := s1.lea.grantNow || fell }
  if cut then raiseMtx F.MTX_FLAGS_BUDGETCAP s2 else s2

/-! ### Current sharing and balancing (R151, R152) -/

/-- The current target of a bus, 0.1 A: the request's; for ENERGY within a grant that the site budget has lowered (R151,
R153). -/
def busTarget (s : State) (b : Nat) : Nat :=
  let k := busSt s b
  match busKind s b with
  | some .energy => if busV s b = 0 ∨ grantRaw s b ≤ k.grant then k.cur else min k.cur (100000 * k.grant / busV s b)
  | some .test | some .precharge => k.cur
  | _ => 0

/-- The bound of a share: IRATED and PAVAIL ÷ Vbus. -/
def shareCap (s : State) (g b : Nat) : Nat :=
  if busV s b = 0 then mGirated s g else min (mGirated s g) (100000 * gPav s g / busV s b)

/-- A share of `i` in proportion to PAVAIL, within its bound. -/
def fairShare (s : State) (b i : Nat) (l : List Nat) (g : Nat) : Nat :=
  let p := l.foldl (fun a j => a + gPav s j) 0
  if p = 0 then 0 else min (shareCap s g b) (i * gPav s g / p)

/-- The division of one bus: ramped groups take their ramped values, the others the rest (R151). -/
def shareBus (b : Nat) (s : State) : State :=
  let on := (groupsOn s b).filter (fun g => (group s g).step ∈ [GStep.none, .rampUp, .rampDown, .checkOpen])
  let i := busTarget s b
  let down := on.filter (fun g => (group s g).step == .rampDown)
  let up := on.filter (fun g => (group s g).step == .rampUp)
  let steady := on.filter (fun g => (group s g).step == .none)
  let s1 := down.foldl (fun t g => onGroup g (fun k =>
    { k with limit := if k.stepAt < s.tmp.now then k.limit - mGrpRamp s else k.limit }) t) s
  let rest1 := i - down.foldl (fun a g => a + (group s1 g).limit) 0
  let s2 := up.foldl (fun t g => onGroup g (fun k =>
    let sh := fairShare s b rest1 (up ++ steady) g
    { k with share := sh, limit := min sh (k.limit + mGrpRamp s) }) t) s1
  let rest2 := rest1 - up.foldl (fun a g => a + (group s2 g).limit) 0
  let v := (busSt s b).volt
  let mode := match busKind s b with
    | some .hold | some .release | none => 1
    | _ => if (busSt s b).exporting then 3 else 2
  let s3 := steady.foldl (fun t g => onGroup g (fun k =>
    let sh := fairShare s b rest2 steady g
    { k with share := sh, limit := sh }) t) s2
  on.foldl (fun t g => onGroup g (fun k =>
    { k with vset := v, mode := if mode = 3 && !mGbidir s g then 2 else mode }) t) s3

/-- The largest common factor, at most 1, that keeps every deviation within 5 % of its share (R152). -/
def trimScale : List (Rat × Nat) → Rat → Rat
  | [], f => f
  | (d, sh) :: t, f =>
    let a := if d < 0 then -d else d
    trimScale t (if a = 0 then f else min f ((sh : Rat) / 20 / a))

/-- The groups of a bus that the balancing loop trims: those in no operation that have a share, which bounds the trim (R152). -/
def balanced (s : State) (b : Nat) : List Nat :=
  (groupsOn s b).filter (fun g => (group s g).step == .none && decide (0 < (group s g).share))

/-- The balancing loop of one bus: integrators stepped, their mean removed so that the trims sum to zero, and all scaled
into the bound; a group in an operation or without a share has no trim (R152; the form is the model's, log entry 22). -/
def balanceBus (b : Nat) (s : State) : State :=
  let l := balanced s b
  let s0 := ((groupsOn s b).filter (fun g => !l.contains g)).foldl (fun t g => onGroup g (fun k =>
    { k with trim := 0, integ := 0, satSince := none, satFlag := false }) t) s
  let s1 := l.foldl (fun t g => onGroup g (fun k =>
    { k with integ := k.integ + ((k.share : Rat) - (k.iout : Rat)) / 20 }) t) s0
  if l.isEmpty then s1
  else
    let mean := (l.foldl (fun a g => a + (group s1 g).integ) (0 : Rat)) / l.length
    let f := trimScale (l.map (fun g => ((group s1 g).integ - mean, (group s1 g).share))) 1
    l.foldl (fun t g => onGroup g (fun k =>
      let tr := (k.integ - mean) * f
      let bound : Rat := (k.share : Rat) / 20
      let at_ := decide (0 < k.share) && decide (tr = bound ∨ tr = -bound)
      { k with trim := tr, satSince := if at_ then (k.satSince <|> some s.tmp.now) else none,
               satFlag := k.satFlag && at_ }) t) s1

/-- A trim at its bound for 1 s (R152). -/
def balanceSat (g : Nat) (s : State) : State :=
  let k := group s g
  match k.satSince with
  | some t =>
    if 20000 ≤ sinceT s t ∧ !k.satFlag then raiseMtx F.MTX_FLAGS_BALSAT (onGroup g (fun k => { k with satFlag := true }) s) else s
  | none => s

/-- The 1 ms division and balance, once in a tempo whose chain time is a multiple of 1 ms; in CHECK every group goes to
0 A (R151, R152, R154). -/
def msUpdate (s : State) : State :=
  if isCabinet s && s.tmp.running && crossesAt s 1000000 0 && s.mtx.msAt != some s.tmp.now && s.saf.st != .mate then
    let s1 := eachUpTo (mNbus s) (fun b t => balanceBus b (shareBus b t)) { s with mtx.msAt := some s.tmp.now }
    let s2 := eachUpTo (mNgroup s) balanceSat s1
    if inCheck s then eachUpTo (mNgroup s) (fun g t => onGroup g (fun k => { k with limit := 0, trim := 0 }) t) s2 else s2
  else s

/-- What reports and tests from outside the duty have brought a group in the running tempo, kept where the duty is aborted. -/
def Group.keepIn (f k : Group) : Group :=
  { f with stamp := k.stamp, gstate := k.gstate, fclass := k.fclass, pavail := k.pavail, vout := k.vout, iout := k.iout,
           ownCnt := k.ownCnt, lost := k.lost, goodRun := k.goodRun }

/-- MATRIX at the edge: an aborted duty leaves the groups and the commands of the crosspoints as they were (R62). -/
def edgeMatrix (s : State) : State :=
  if isCabinet s && (slotOf s 5).isSome && !s.tmp.ran.contains 5 && s.saf.st != .mate then
    let s1 := eachUpTo (mNxp s) (fun x t => onCoil (mXpCoil s x) (fun k => { k with cmd := k.eff }) t) s
    eachUpTo 16 (fun g t => onGroup g (fun k => (Tab.get Group.reset s.mtx.grpF g).keepIn k) t) s1
  else s

/-- The groups as they stand are in effect. -/
def groupsTake (s : State) : State := { s with mtx.grpF := s.mtx.grp }

/-- Duty MATRIX: in post role the allocator and the profile are off. -/
def matrixDuty (s : State) : State :=
  if !isCabinet s then s
  else
    let s1 := eachUpTo (mNxp s) xpMismatch s
    let s2 := eachUpTo (mNgroup s) groupOnce s1
    let s3 := if crossesAt s 10000000 0 && s2.saf.st != .mate then allocRun s2 else s2
    msUpdate (grantUpdate s3)

/-! ### Commands on one group or crosspoint -/

/-- One evaluation of a group where the cabinet's controller runs. -/
def groupEval (g : Nat) (s : State) : State := if isCabinet s && s.tmp.running then groupOnce g s else s

/-- The weld check of a group runs out (R145). -/
def execXpWeld (g : Fin 16) (s : State) : Host.Outcome State Fault Refusal := .next (groupEval g s)

/-- T_VMATCH runs out (R145, migration table). -/
def execTVmatchExpiry (g : Fin 16) (s : State) : Host.Outcome State Fault Refusal := .next (groupEval g s)

/-- T_XZC runs out (R154, migration table). -/
def execTXzcExpiry (g : Fin 16) (s : State) : Host.Outcome State Fault Refusal := .next (groupEval g s)

/-- A crosspoint feedback disagrees beyond its settling time (R146). -/
def execXpFbMismatch (x : Fin 48) (s : State) : Host.Outcome State Fault Refusal := .next (xpMismatch x s)

/-- A migration is aborted where R155 says so. -/
def execMigrationAbort (g : Fin 16) (s : State) : Host.Outcome State Fault Refusal := .next (groupEval g s)

/-- A group is lost (R159). -/
def execGroupLost (g : Fin 16) (s : State) : Host.Outcome State Fault Refusal :=
  .next (if isCabinet s ∧ g.val < mNgroup s then groupLostCheck g s else s)

/-- The 1 ms division and the balancing loop (R151, R152). -/
def execBalanceUpdate (s : State) : Host.Outcome State Fault Refusal := .next (msUpdate s)

/-- A trim has been at its bound for 1 s (R152). -/
def execBalanceSaturated (g : Fin 16) (s : State) : Host.Outcome State Fault Refusal := .next (balanceSat g s)

/-! ### The power-group profile (R156–R158) -/

/-- The groups of a CAN bus, in ascending index. -/
def canGroups (s : State) (bus : Nat) : List Nat :=
  (List.range (mNgroup s)).filter (fun g => (mCanmap s).testBit g == (bus == 1))

/-- ISET of a group, 0.1 A: its limit, and with its trim where it is in no operation; a group in one is sent its ramped value
(R144, R151, R152). -/
def gIset (k : Group) : Nat := if k.step = .none then ((k.limit : Rat) + k.trim).floor.toNat else k.limit

/-- One command entry (R156). -/
def cmdEntry (s : State) (alive g : Nat) : Bytes :=
  let k := group s g
  let xp := match groupBus s g with | some b => 8 + b | none => 0
  let b := leBytes 1 k.mode ++ leBytes 1 (alive % 16 + 16 * g) ++ leBytes 2 k.vset ++ leBytes 2 (gIset k) ++ leBytes 1 xp
  b ++ leBytes 1 (crc8 b)

/-- A command frame of 64 bytes (R156). -/
def cmdFrame (s : State) (bus : Nat) : Bytes :=
  let n := Tab.get 0 s.mtx.alive bus
  let e := ((canGroups s bus).take 8).flatMap (cmdEntry s n)
  e ++ List.replicate (64 - e.length) 0

/-- A command frame on one CAN bus in a 1 ms tempo, one in each: CAN FD with bit-rate switching, identifier 0x080 (R156). A
controller in bus-off sends nothing (R320). -/
def execPgCommandSend (bus : Fin 2) (s : State) : Host.Outcome State Fault Refusal :=
  .next (if isCabinet s ∧ canRuns s bus ∧ s.tmp.running ∧ crossesAt s 1000000 0 ∧ !(canGroups s bus).isEmpty
      ∧ Tab.get none s.mtx.sentAt bus ≠ some s.tmp.now then
    { s with mtx.lastCmd := Tab.upd s.mtx.lastCmd bus (fun _ => some ⟨0x080, true, true, cmdFrame s bus⟩),
             mtx.sentAt := Tab.upd s.mtx.sentAt bus (fun _ => some s.tmp.now),
             mtx.alive := Tab.upd s.mtx.alive bus (fun n => if n < 31 then n + 1 else 16) }
  else s)

/-- Whether an echoed counter is one of the last three command counters sent on the bus. -/
def echoOk (s : State) (bus e : Nat) : Bool :=
  let n := Tab.get 0 s.mtx.alive bus
  [1, 2, 3].any (fun k => decide (k ≤ n) && decide ((n - k) % 16 = e))

/-- Whether a status frame is accepted (R158). -/
def statusOk (s : State) (bus id : Nat) (d : Bytes) : Bool :=
  let g := id - 0x180
  decide (0x180 ≤ id) && (canGroups s bus).contains g && decide (d.length = 8)
    && decide (crc8 (leBytes 1 g ++ d.take 7) = u8 d 7)
    && (group s g).ownCnt != some (u8 d 1 / 16) && echoOk s bus (u8 d 1 % 16)

/-- An accepted status; the twentieth in a row without FAULT makes a lost group available again (R158, R159). -/
def statusTake (g : Nat) (d : Bytes) (s : State) : State :=
  let st := u8 d 0 % 16
  let s1 := onGroup g (fun k =>
    { k with stamp := some s.tmp.now, gstate := st, fclass := u8 d 0 / 16, vout := u16 d 2, iout := i16 d 4, pavail := u8 d 6,
             ownCnt := some (u8 d 1 / 16), goodRun := if st = 4 then 0 else min 20 (k.goodRun + 1) }) s
  if (group s g).lost ∧ (group s1 g).goodRun = 20 then
    raiseMtx F.MTX_FLAGS_GRPBACK (onGroup g (fun k => { k with lost := false }) s1)
  else s1

/-- A power-group frame on CAN0 or CAN1 in cabinet role: accepted, or discarded and counted (R158); none arrives in bus-off
(R320). -/
def execPgStatusRx (bus : Fin 2) (id : Nat) (data : Bytes) (s : State) : Host.Outcome State Fault Refusal :=
  .next (if !isCabinet s || !canRuns s bus then s
    else if statusOk s bus id data then statusTake (id - 0x180) data s
    else
      let s1 := raiseMtx F.MTX_FLAGS_CANERR (rsat F.MTX_CANERR_COUNT 1 s)
      if 8 < data.length then rsat F.MTX_LENERR_COUNT 1 s1 else s1)

/-! ### The matrix port (R161–R163) -/

/-- The command word of driver d: coils 8d to 8d + 7, and the complements of its two coil nibbles (R161). A coil is commanded
closed while its Board enable is 1 and the module is not in MATE (R102, R167). -/
def mxCommand (s : State) (d : Nat) : Nat :=
  let v := bitsOf 8 (fun i => (coil s (8 * d + i)).cmd && target s (4 + 8 * d + i) && s.saf.st != .mate)
  256 * v + 16 * (15 - v / 16) + (15 - v % 16)

/-- The words that the module sends on MX_DOC: the test word, then a command word for each driver, the last driver first; the data
end with the exchange, so a shorter chain is led by zero words (R161). -/
def mxDoc (s : State) : List Nat :=
  List.replicate (mNser s - mNdrv s) 0 ++ [s.tmp.now % 65536] ++ ((List.range (mNdrv s)).map (mxCommand s)).reverse

/-- The words on MX_DOF: the complement of the test word, then zeros (R161). -/
def mxDof (s : State) : List Nat :=
  List.replicate (mNdrv s - mNser s) 0 ++ [65535 - s.tmp.now % 65536] ++ List.replicate (mNser s) 0

/-- Pattern nibbles and test words of an exchange. -/
def mxPattern (s : State) (rx : MxRx) : Bool :=
  decide (rx.testDoc.toNat = s.tmp.now % 65536) && decide (rx.testDof.toNat = 65535 - s.tmp.now % 65536)
    && (List.range (mNdrv s)).all (fun d => (rx.readback.getD d 0).toNat % 16 == 0xA)
    && (List.range (mNser s)).all (fun d => (rx.serial.getD d 0).toNat % 16 == 0x5)

/-- Driver readback against the commands applied at the preceding edge. -/
def mxReadback (s : State) (rx : MxRx) : Bool :=
  (List.range (mNdrv s)).all (fun d => (rx.readback.getD d 0).toNat / 256 == field s.mtx.applied (8 * d) 8)

/-- Drivers that report a fault bit. -/
def mxFaults (s : State) (rx : MxRx) : Nat :=
  bitsOf 8 (fun d => decide (d < mNdrv s) && decide ((rx.readback.getD d 0).toNat / 16 % 16 ≠ 0))

/-- The inputs of an exchange. -/
def mxInputs (s : State) (rx : MxRx) : Nat :=
  bitsOf 64 (fun i => decide (i / 8 < mNser s) && (rx.serial.getD (i / 8) 0).toNat.testBit (8 + i % 8))

/-- One exchange: the words sent (R161), and the check of what came back (R163). -/
def mxCheck (rx : MxRx) (s0 : State) : State :=
  let s := { s0 with mtx.doc := mxDoc s0, mtx.dof := mxDof s0 }
  let pat := mxPattern s rx
  let rb := mxReadback s rx
  let flt := mxFaults s rx
  let sf := rput F.MTX_PORT_DRVFLT flt s
  let bad := !pat || !rb || flt != 0
  let s1 := if bad then raiseMtx F.MTX_FLAGS_PORTERR (rsat F.MTX_PORT_ERRCNT 1 sf) else sf
  let s2 := if !rb || flt != 0 then safCause 0x0E 0 false s1 else s1
  if pat then { s2 with mtx.consec := 0, mtx.serNew := some (mxInputs s rx) }
  else
    let s3 := { s2 with mtx.withhold := true, mtx.consec := min 2 (s2.mtx.consec + 1), mtx.serNew := none }
    if 1 ≤ s.mtx.consec then safCause 0x0E 0 true s3 else s3

/-! ### Wear counters (R164) -/

/-- A wear copy with sequence number `q`: count and I²t of every coil, SEQ, and the CRC over them (R164, R277). -/
def wearBytes (s : State) (q : Nat) : Bytes :=
  let b := (List.range 64).flatMap (fun c => leBytes 4 (coil s c).sw ++ leBytes 8 ((coil s c).i2t / 1000000)) ++ leBytes 4 q
  b ++ leBytes 4 (crc32 b)

/-- The SEQ of a wear copy, where its CRC holds. -/
def wearSeq (b : Bytes) : Option Nat :=
  if b.length = 776 ∧ u32 b 772 = crc32 (b.take 772) then some (u32 b 768) else none

/-- The counters after a change of coil c handed to the persist channel, as one complete copy of them all (R11, R164). -/
def wearHand (c : Nat) (s : State) : State :=
  if (coil s c).dirty then
    let q := (s.saf.wearMade + 1) % 2 ^ 32
    eachUpTo 64 (fun c t => onCoil c (fun k => { k with dirty := false }) t)
      { s with saf.wearMade := q, saf.outbox := s.saf.outbox ++ [.wear (wearBytes s q)] }
  else s

/-- Within 1 s of a change and at PFW (R164). -/
def execWearPersist (coil : Fin 64) (s : State) : Host.Outcome State Fault Refusal := .next (wearHand coil s)

/-! ### The persist channel (R11, R187, R280) -/

/-- The older of two copies by their sequence numbers; one that does not hold is older than any that does (R280). -/
def olderCopy (a b : Option Nat) : Nat :=
  match a, b with
  | none, _ => 0
  | some _, none => 1
  | some x, some y => if x ≤ y then 0 else 1

/-- The slot of the proof area, or of the wear area, that the next record goes to (R187, R280). -/
def olderProofSlot (s : State) : Nat := olderCopy (proofSeqOf (Tab.get [] s.fram.proof 0)) (proofSeqOf (Tab.get [] s.fram.proof 1))
def olderWearSlot (s : State) : Nat := olderCopy (wearSeq (Tab.get [] s.fram.wear 0)) (wearSeq (Tab.get [] s.fram.wear 1))

/-- A record whose contents have been written and whose CRC word still is what the slot held (R280). -/
def unCommitted (new old : Bytes) : Bytes :=
  let n := new.length - 4
  new.take n ++ (old.drop n ++ List.replicate 4 0).take 4

/-- One record is handed to the sealed core, with the CRC over it, and its contents go to the older copy; the channel carries one at
a time (R11, R280). -/
def persistRequest (s : State) : State :=
  match s.persist, s.saf.outbox with
  | none, .proof b :: rest =>
    let k := olderProofSlot s
    { s with persist := some (.proof b, k), saf.outbox := rest, fram.proof := Tab.upd s.fram.proof k (unCommitted b) }
  | none, .wear b :: rest =>
    let k := olderWearSlot s
    { s with persist := some (.wear b, k), saf.outbox := rest, fram.wear := Tab.upd s.fram.wear k (unCommitted b) }
  | _, _ => s

/-- The safety controller requests the commit of a record (R11). -/
def execPersistRequest (s : State) : Host.Outcome State Fault Refusal := .next (persistRequest s)

/-- The proof in force: that of a record as it stands in the FRAM (R187, R188). -/
def proofTake (b : Bytes) (s : State) : State :=
  { s with saf.proofSeq := u32 b 4, saf.proofTime := u64 b 8, saf.proofDig := some (slice b 0x10 32) }

/-- The CRC of the record is written, and the record is acknowledged: a proof counts from the next edge and sets GUARDPROOF (R11,
R187, R188). -/
def persistCommit (s : State) : State :=
  match s.persist with
  | none => s
  | some (.proof b, k) =>
    raiseSaf F.SAF_FLAGS_GUARDPROOF
      (proofTake b { s with persist := none, fram.proof := Tab.upd s.fram.proof k (fun _ => b) })
  | some (.wear b, k) => { s with persist := none, fram.wear := Tab.upd s.fram.wear k (fun _ => b) }

/-- The commit acknowledgement (R11). -/
def execPersistCommitAck (s : State) : Host.Outcome State Fault Refusal := .next (persistCommit s)

end Sys2Proof.Machine
end

