-- ==== Sys2Proof/Machine/Lead.lean ====
section
/-!
DEFINITION. The Lead links (11): frames, routing and the transmit queues, chain time from SYNC with its losses and
returns (03), BUDGET, STOP, enumeration, STATUS and the epoch digest, bus requests and grants, and USER frames.
-/

namespace Sys2Proof.Machine

/-! ### Frames -/

def hTyp (b : Bytes) : Nat := u8 b 0 % 16
def hSrc (b : Bytes) : Nat := u8 b 2
def hDst (b : Bytes) : Nat := u8 b 3
def hLen (b : Bytes) : Nat := u16 b 6
def fBody (b : Bytes) : Bytes := slice b 8 (hLen b)
/-- The opcode of a CMD frame. -/
def fOp (b : Bytes) : Nat := u8 b 8
/-- The data of a CMD frame, after OPCODE and a zero byte. -/
def fData (b : Bytes) : Bytes := slice b 10 (hLen b - 2)

def tySync : Nat := 1
def tyBudget : Nat := 2
def tyStop : Nat := 3
def tyEnum : Nat := 4
def tyStatus : Nat := 5
def tyCmd : Nat := 6
def tyData : Nat := 7

/-- A frame of this module: the header with its next SEQ for the type, then the body. -/
def mkFrame (typ dst flags : Nat) (body : Bytes) (s : State) : Bytes × State :=
  let q := Tab.get 0 s.lea.seq typ
  (leBytes 1 (0x10 + typ) ++ leBytes 1 flags ++ leBytes 1 s.lea.addr ++ leBytes 1 dst ++ leBytes 2 q ++ leBytes 2 body.length ++ body,
   { s with lea.seq := Tab.upd s.lea.seq typ (fun n => (n + 1) % 65536) })

/-- The LD port runs (R362); a module without a layout runs both ports. -/
def ldRuns (s : State) : Bool := !s.loaded || nLden s

/-- A port that can send and receive. -/
def portOn (s : State) (p : LPort) : Bool :=
  netOn s && match p with | .lu => s.lea.luUp | .ld => s.lea.ldUp && ldRuns s

def otherPort : LPort → LPort | .lu => .ld | .ld => .lu

/-- A frame put into a port's transmit queue (R335). -/
def leadQueue (p : LPort) (fwd : Bool) (b : Bytes) (s : State) : State :=
  if !portOn s p then s
  else
    let f : LeadFrame := ⟨hTyp b, fwd, b⟩
    match p with
    | .lu => { s with lea.luTx := s.lea.luTx ++ [f] }
    | .ld => { s with lea.ldTx := s.lea.ldTx ++ [f] }

/-- An Ethernet frame of this module around a Lead header and body: the group address, the source address of the serial number, the
Ethertype, and the payload padded to 46 bytes (log entry 190). -/
def etherFrame (s : State) (b : Bytes) : Bytes :=
  ([0x03, 0x4C, 0x45, 0x41, 0x44, 0x00, 0x02] : Bytes) ++ (leBytes 5 s.fuse.serial).reverse ++ [0x88, 0xB5] ++ b
    ++ List.replicate (46 - b.length) 0

/-- The FCS of a frame sent, inverted where the frame is to be discarded (R337). -/
def leadFcs (good : Bool) (b : Bytes) (s : State) : Nat :=
  let c := crc32 (etherFrame s b)
  if good then c else c ^^^ 0xFFFFFFFF

/-- A frame sent on a port at once, with its FCS or an inverted one (R336, R337). -/
def leadPut (good : Bool) (p : LPort) (b : Bytes) (s : State) : State :=
  if !portOn s p then s
  else match p with
    | .lu => { s with lea.luCut := some b, lea.luFcs := leadFcs good b s }
    | .ld => { s with lea.ldCut := some b, lea.ldFcs := leadFcs good b s }

/-- An express or cut-through frame sent on a port; its FCS is formed anew (R337). -/
def leadCut (p : LPort) (b : Bytes) (s : State) : State := leadPut true p b s

/-- A frame of this module to an address: both ports for 0xFF, otherwise towards it (R331); an unaddressed module sends
towards the coordinator. -/
def leadSend (typ dst flags : Nat) (body : Bytes) (s : State) : State :=
  let m := mkFrame typ dst flags body s
  if dst = 0xFF then leadQueue .ld false m.1 (leadQueue .lu false m.1 m.2)
  else if s.lea.addr = 0 ∨ dst < s.lea.addr then leadQueue .lu false m.1 m.2
  else leadQueue .ld false m.1 m.2

def cmdBody (op : Nat) (data : Bytes) : Bytes := leBytes 1 op ++ [0] ++ data

/-! ### Reception and routing (R330, R331, R340) -/

/-- A frame with no fault but its FCS: the forwarder that cuts it through has begun to send it (R337). -/
def onlyFcsBad (rx : LeadRx) : Bool :=
  let b := rx.bytes
  rx.addr && !rx.fcs && decide (8 ≤ b.length) && u8 b 0 / 16 == 1 && hTyp b != 0 && decide (hTyp b ≤ 7)

/-- What R330 finds: 0 accepted, 1 discarded, 2 a length error. -/
def leadFault (rx : LeadRx) : Nat :=
  let b := rx.bytes
  if !rx.addr ∨ !rx.fcs ∨ b.length < 8 ∨ u8 b 0 / 16 ≠ 1 ∨ hTyp b = 0 ∨ 7 < hTyp b then 1
  else if 488 < hLen b ∨ b.length < hLen b + 8 then 2
  else 0

/-- Whether the module consumes the frame, and the port it is forwarded on. -/
def leadRoute (s : State) (p : LPort) (dst : Nat) : Bool × Option LPort :=
  let a := s.lea.addr
  if dst = 0 then (true, none)
  else if dst = 0xFF then (true, some (otherPort p))
  else if a = 0 then (false, some (otherPort p))
  else if dst = a then (true, none)
  else if a < dst then (false, some .ld)
  else (false, some .lu)

/-- What a coordinator consumes and counts on its LU: SYNC, BUDGET and OFFER (R340). -/
def coordTurns (s : State) (p : LPort) (b : Bytes) : Bool :=
  isCoord s && p == .lu && (hTyp b == tySync || hTyp b == tyBudget || (hTyp b == tyEnum && u8 b 8 == 1))

/-- A received frame of the type `want` holds for: discarded and counted, or passed on and given to `take` where it is
consumed (R330, R331). A frame that `want` does not hold for is another event's and changes nothing. -/
def leadRecv (want : Bytes → Bool) (take : State → State) (p : LPort) (rx : LeadRx) (s : State) : State :=
  if !portOn s p then s
  else if leadFault rx = 1 then rsat F.LEA_BADFRM_COUNT 1 s
  else if leadFault rx = 2 then rsat F.LEA_LENERR_COUNT 1 s
  else if !want rx.bytes then s
  else if coordTurns s p rx.bytes then rsat F.LEA_BADFRM_COUNT 1 s
  else
    let r := leadRoute s p (hDst rx.bytes)
    let s1 := match r.2 with | some q => leadQueue q true rx.bytes s | none => s
    if r.1 then take s1 else s1

/-- As `leadRecv`, for a frame that is cut through (R336): forwarding is `take`'s, and that of a frame whose FCS fails at its end is
`spoil`'s (R337). -/
def leadRecvCut (want : Bytes → Bool) (take spoil : State → State) (p : LPort) (rx : LeadRx) (s : State) : State :=
  if !portOn s p then s
  else if leadFault rx = 1 then
    rsat F.LEA_BADFRM_COUNT 1 (if onlyFcsBad rx && want rx.bytes && !coordTurns s p rx.bytes then spoil s else s)
  else if leadFault rx = 2 then rsat F.LEA_LENERR_COUNT 1 s
  else if !want rx.bytes then s
  else if coordTurns s p rx.bytes then rsat F.LEA_BADFRM_COUNT 1 s
  else take s

/-! ### Sharing a link within a tempo (R334, R335) -/

/-- The rank of a frame. -/
def leadRank (f : LeadFrame) : Nat :=
  if f.typ = tyCmd then (if fOp f.bytes = 1 ∨ fOp f.bytes = 2 then 1 else 4)
  else if f.typ = tyStatus then 2
  else if f.typ = tyEnum then 3
  else 5

/-- Byte times of a frame on the wire: header, FCS, preamble and gap, 84 at least. -/
def wireBytes (payload : Nat) : Nat := max 64 (payload + 18) + 20

/-- The frames in sending order: by rank, forwarded ones first within a rank. -/
def leadOrder (l : List LeadFrame) : List LeadFrame :=
  [1, 2, 3, 4, 5].flatMap (fun r =>
    let m := l.filter (fun f => leadRank f == r)
    m.filter (·.fwd) ++ m.filter (fun f => !f.fwd))

/-- The frames that wait for the next tempo, and the byte times left: once a frame of a rank does not fit, that rank
waits. -/
def leadDrain : List LeadFrame → Nat → Nat → List LeadFrame × Nat
  | [], room, _ => ([], room)
  | f :: t, room, blocked =>
    let w := wireBytes f.bytes.length
    if leadRank f = blocked ∨ room < w then
      let r := leadDrain t room (leadRank f)
      (f :: r.1, r.2)
    else leadDrain t (room - w) blocked

/-- Byte times of a tempo left beside the express frame and the microsecond kept free before it. -/
def portRoom (s : State) (p : LPort) : Nat :=
  match p with
  | .lu => if crossesAt s 1000000000 500000000 then 625 - 13 - 84 else 625
  | .ld => match s.lea.ldCut with | some b => 625 - 13 - wireBytes b.length | none => 625

/-! ### Chain time from SYNC (R71–R78, R332) -/

def raiseTmp (f : Fld) (s : State) : State := raise F.TMP_EVCNT_COUNT [f] s

/-- Chain time `ns` after the most recent edge. -/
def chainAt (s : State) (ns : Nat) : Nat := s.tmp.chain + ns

/-- The link delay of a TIME frame received at `t4`, and whether it is measured: from the DREQ it answers, else the last
measured one, else CABLEDLY (R332). -/
def linkDelay (s : State) (b : Bytes) (t4 : Nat) : Int × Bool :=
  let txt := u64 b 0x14
  let drxt := u64 b 0x1C
  if drxt ≠ 0 ∧ u16 b 0x24 = s.tmp.dreqSeq ∧ s.tmp.dreqT1 ≠ 0 then
    ((((t4 : Int) - s.tmp.dreqT1) - ((txt : Int) - drxt)) / 2, true)
  else if s.tmp.measured then (rget s F.TMP_LINKDLY_DELAY, false)
  else (nCableDly s, false)

/-- CORR in ns, rounded down. -/
def corrNs (b : Bytes) : Int := toSigned 64 (u64 b 0xC) / 65536

/-- The forwarded body: HOPS one more, CORR with the link delay and residence, and this module's own delimiter times. -/
def timeForward (s : State) (b : Bytes) (d : Int) (t4 res : Nat) : Bytes :=
  let corr := toSigned 64 (u64 b 0xC) + (d + res) * 65536
  b.take 1 ++ leBytes 1 (u8 b 1 + 1) ++ slice b 2 10 ++ leBytes 8 (ofSigned 64 corr) ++ leBytes 8 (t4 + res)
    ++ leBytes 8 s.tmp.ldDreqAt ++ leBytes 2 s.tmp.ldDreqSeq ++ b.drop 0x26

/-- The phase error against corrected SYNC time: positive where the local edge is late (TMP_PHERR). -/
def phaseError (b : Bytes) (d : Int) (t4 : Nat) : Int := (u64 b 4 : Int) + corrNs b + d - t4

/-- A measured phase error that realignment has to remove: what the running tempo already removes, 5 ns a cycle short of or
beyond 10,000, is taken off (R71, R77; log entry 170). -/
def realign (e : Int) (s : State) : State := { s with tmp.perr := e - 5 * (10000 - (s.tmp.len : Int)) }

/-- Adoption of the first SYNC: the chain time of the coordinator's edge that came last before the arrival, `late` ns (CORR
and link delay) after the edge at which the frame was sent (R73; log entry 170). -/
def timeAdopt (b : Bytes) (late : Int) (s : State) : State :=
  let c := u64 b 4 + 50000 * (late.toNat / 50000)
  { s with tmp.adopted := true, tmp.chain := c, tmp.frac := 0, tmp.mode := .slew, tmp.perr := 0,
           tmp.adoptStep := s.tmp.adoptStep + ((c : Int) - s.tmp.chain) }
    |> rput F.TMP_PHERR_ERR 0 |> raiseTmp F.TMP_FLAGS_STEP

/-- The mode a phase error leads to: adoption of the first SYNC, realignment after HOLDOVER, and LOCKED within ±3 ns once
the link delay is measured (R73, R77, R78). -/
def timeMode (b : Bytes) (late e : Int) (s : State) : State :=
  if !s.tmp.adopted then timeAdopt b late s
  else
    let s0 := rput F.TMP_PHERR_ERR (ofSigned 32 e) s
    match s.tmp.mode with
    | .holdover =>
      if rbit s F.CLK_REFSEL_SEL then s0
      else if e.natAbs ≤ 25000 then
        refSwitch 0 (realign e { s0 with tmp.mode := .slew, tmp.back := true, tmp.stepTo := none })
      else { s0 with tmp.stepTo := some e }
    | .slew =>
      if e.natAbs ≤ 3 ∧ s.tmp.measured then
        let s1 := { s0 with tmp.mode := .locked, tmp.back := false, tmp.perr := 0 }
        if s.tmp.back then raiseTmp F.TMP_FLAGS_SYNCBACK s1 else s1
      else realign e s0
    | .locked => realign e s0
    | _ => s0

/-- A TIME frame, or the time part of a BUDGET frame, from LU (R332). -/
def timeTake (rxBytes : Bytes) (ns res : Nat) (s : State) : State :=
  let b := fBody rxBytes
  let t4 := chainAt s ns
  let d := linkDelay s b t4
  let s1 := { s with tmp.gotTime := true, tmp.missed := 0, tmp.measured := s.tmp.measured || d.2,
                     lea.luSilent := 0, lea.segHead := false }
  let s2 := if d.2 then rput F.TMP_LINKDLY_DELAY (min 0xFFFF d.1.toNat) s1 else s1
  let s3 := rputB F.TMP_STATUS_SRCLOST ((u8 b 2).testBit 1) s2
  let s4 := timeMode b (corrNs b + d.1) (phaseError b d.1 t4) s3
  leadCut .ld (rxBytes.take 8 ++ timeForward s b d.1 t4 res) s4

/-- A TIME or BUDGET frame whose FCS fails, completed on LD with an inverted FCS (R337). -/
def timeSpoil (rxBytes : Bytes) (ns res : Nat) (s : State) : State :=
  let b := fBody rxBytes
  let t4 := chainAt s ns
  leadPut false .ld (rxBytes.take 8 ++ timeForward s b (linkDelay s b t4).1 t4 res) s

/-- A TIME frame received (R332). -/
def execSyncTimeRx (p : LPort) (rx : LeadRx) (ns res : Nat) (s : State) : Host.Outcome State Fault Refusal :=
  .next (leadRecvCut (fun b => hTyp b == tySync && u8 b 8 == 0)
    (fun t => if p = .lu then timeTake rx.bytes ns res t else t)
    (fun t => if p = .lu then timeSpoil rx.bytes ns res t else t) p rx s)

/-- The DREQ of the present tempo has been sent. -/
def dreqDone (s : State) : Bool := decide (0 < s.tmp.dreqT1) && decide (s.tmp.chain ≤ s.tmp.dreqT1) && decide (s.tmp.dreqT1 < s.tmp.chain + 50000)

/-- The DREQ of a chain-time second, on LU, once (R332). -/
def execDreqSend (ns : Nat) (s : State) : Host.Outcome State Fault Refusal :=
  .next (if s.tmp.running && !isCoord s && crossesAt s 1000000000 500000000 && portOn s .lu && !dreqDone s then
    let q := (s.tmp.dreqSeq + 1) % 65536
    let m := mkFrame tySync 0 0 (leBytes 1 1 ++ List.replicate 35 0 ++ leBytes 2 q) s
    leadCut .lu m.1 { m.2 with tmp.dreqSeq := q, tmp.dreqT1 := chainAt s ns }
  else s)

/-- A DREQ received on LD: its sequence and time go into the next TIME frame (R332). -/
def execDreqRx (p : LPort) (rx : LeadRx) (ns : Nat) (s : State) : Host.Outcome State Fault Refusal :=
  .next (leadRecvCut (fun b => hTyp b == tySync && u8 b 8 == 1)
    (fun t => if p = .ld then { t with tmp.ldDreqSeq := u16 (fBody rx.bytes) 0x24, tmp.ldDreqAt := chainAt t ns } else t) id p rx s)

/-- HOLDOVER: the reference moves to XO (R75). -/
def toHoldover (s : State) : State :=
  { s with tmp.mode := .holdover, tmp.back := false, tmp.perr := 0 }
    |> (fun t => if rget t F.CLK_REFSEL_ACT = 0 then refSwitch 1 t else t)
    |> raiseTmp F.TMP_FLAGS_SYNCLOSS

/-- Eight missing SYNC frames in a row, or a recovered clock outside its window (R75). -/
def syncLoss (recLost : Bool) (s : State) : State :=
  if (s.tmp.mode == .locked || s.tmp.mode == .slew) && (recLost || decide (8 ≤ s.tmp.missed)) then toHoldover s else s

/-- SYNC is lost (R75). -/
def execSyncLoss (recLost : Bool) (s : State) : Host.Outcome State Fault Refusal := .next (syncLoss recLost s)

/-- Every outlet is in IDLE or OUT_OF_SERVICE. -/
def outletsIdle (s : State) : Bool :=
  (List.range 4).all (fun n => !oActive s n || (outShown s n).st ∈ [OutSt.idle, .oos])

/-- The step to SYNC time falls due at the next edge once every outlet is idle (R78). -/
def execStepToSync (s : State) : Host.Outcome State Fault Refusal :=
  .next (if s.tmp.stepTo.isSome && s.tmp.mode == .holdover && outletsIdle s then { s with tmp.stepDue := true } else s)

/-- The step of R78, taken at an edge. -/
def edgeStep (s : State) : State :=
  match s.tmp.stepTo with
  | some e =>
    if s.tmp.stepDue then
      { s with tmp.chain := ((s.tmp.chain : Int) + e).toNat, tmp.stepTo := none, tmp.stepDue := false, tmp.mode := .slew,
               tmp.back := true, tmp.perr := 0 }
        |> rput F.TMP_PHERR_ERR 0 |> refSwitch 0 |> raiseTmp F.TMP_FLAGS_STEP
    else s
  | none => { s with tmp.stepDue := false }

/-! ### The coordinator's time source (R68, R69, R365) -/

/-- TMP_INCR trimmed against an offset, within ±100 ppm of 50,000 ns: the correction that removes the offset over one
second (DESIGN CHOICE, log entry 31). -/
def trimIncr (ofs : Int) (s : State) : State :=
  if isCoord s then
    rput F.TMP_INCR_INCR (clampI 0xC34B0000 0xC3550000 ((0xC3500000 : Int) - ofs * 65536 / 20000)).toNat s
  else s

/-- Chain time follows the RTC: at each whole second of the RTC, the offset of chain time from the RTC since the reference the
coordinator took (R68; log entry 31). -/
def rtcTrim (s : State) : State :=
  if isCoord s && timeSrc s == 0 && s.tmp.running && s.pwr.rtc % 32768 == 0 then
    match s.tmp.rtcRef with
    | none => { s with tmp.rtcRef := some (s.tmp.chain, s.pwr.rtc) }
    | some p => trimIncr ((s.tmp.chain : Int) - (p.1 + (s.pwr.rtc - p.2) / 32768 * 1000000000 : Nat)) s
  else s

/-- The coordinator's time source is absent, or back (R69). -/
def execTimeSourceLost (absent : Bool) (s : State) : Host.Outcome State Fault Refusal :=
  .next (if isCoord s then rputB F.TMP_STATUS_SRCLOST absent s else s)

/-- The firmware's offset of chain time from the grandmaster (R365). -/
def ptpWrite (ofs : Int) (s : State) : State :=
  let s1 := { s with tmp.ptpAt := some s.tmp.now }
    |> rput F.NET_PTPOFSLO_OFS (ofSigned 64 ofs % 4294967296) |> rput F.NET_PTPOFSHI_OFS (ofSigned 64 ofs / 4294967296)
  if isCoord s ∧ 2 ≤ timeSrc s then rput F.TMP_STATUS_SRCLOST 0 (trimIncr ofs s1) else s1

/-- A write of NET_PTPOFS (R365). -/
def execPtpOffsetWrite (ofs : Int) (s : State) : Host.Outcome State Fault Refusal := .next (ptpWrite ofs s)

/-- No write of NET_PTPOFS for 8 s: the source is absent (R365). -/
def ptpTimeout (s : State) : State :=
  let late : Bool := match s.tmp.ptpAt with | some t => decide (160000 ≤ sinceT s t) | none => decide (160000 ≤ s.tmp.now)
  if isCoord s ∧ 2 ≤ timeSrc s ∧ late then rput F.TMP_STATUS_SRCLOST 1 s else s

/-- The 8 s of R365 have passed. -/
def execPtpOffsetTimeout (s : State) : Host.Outcome State Fault Refusal := .next (ptpTimeout s)

/-- An edge on the PPS land: the offset of chain time from the whole second (R68). -/
def execPpsEdge (ns : Int) (s : State) : Host.Outcome State Fault Refusal :=
  .next (if isCoord s ∧ timeSrc s = 1 then rput F.TMP_STATUS_SRCLOST 0 (trimIncr ns s) else s)

/-! ### BUDGET (R333, R342) -/

/-- The highest address with a share entry that is not zero. -/
def nShare (s : State) : Nat :=
  (List.range 63).foldl (fun m i =>
    if rget s (F.LEA_BSHARE_IMP i) ≠ 0 ∨ rget s (F.LEA_BSHARE_EXP i) ≠ 0 then i + 1 else m) 0

/-- The budget part of the coordinator's BUDGET body. -/
def budgetPart (s : State) : Bytes :=
  let n := nShare s
  leBytes 2 s.lea.bseq ++ leBytes 2 (rget s F.LEA_BSITE_IMP) ++ leBytes 2 (rget s F.LEA_BSITE_EXP) ++ leBytes 1 n ++ [0]
    ++ (List.range n).flatMap (fun i => leBytes 2 (rget s (F.LEA_BSHARE_IMP i)) ++ leBytes 2 (rget s (F.LEA_BSHARE_EXP i)))

/-- The budget of a frame waits for the next edge (R342). -/
def budgetTake (rxBytes : Bytes) (s : State) : State :=
  let b := fBody rxBytes
  let a := s.lea.addr
  let i := 0x2E + 4 * (a - 1)
  let has := decide (0 < a) && decide (a ≤ u8 b 0x2C)
  { s with lea.budNext := some (u16 b 0x28, u16 b 0x2A, if has then u16 b i else 0, if has then u16 b (i + 2) else 0) }

/-- A BUDGET frame: a TIME frame for time, and the budget of the next edge (R333, R342). -/
def execBudgetRx (p : LPort) (rx : LeadRx) (ns res : Nat) (s : State) : Host.Outcome State Fault Refusal :=
  .next (leadRecvCut (fun b => hTyp b == tyBudget)
    (fun t => if p = .lu then budgetTake rx.bytes (timeTake rx.bytes ns res t) else t)
    (fun t => if p = .lu then timeSpoil rx.bytes ns res t else t) p rx s)

/-- A write of LEA_BSITE or LEA_BSHAREa, which act in the coordinator alone; BSEQ counts the changes (R333). -/
def budgetWrite (a v : Nat) (s : State) : State :=
  if !isCoord s then s
  else
    let f := if a = 0 then (F.LEA_BSITE_IMP, F.LEA_BSITE_EXP) else (F.LEA_BSHARE_IMP (a - 1), F.LEA_BSHARE_EXP (a - 1))
    let new := rget s f.1 != v / 65536 % 65536 || rget s f.2 != v % 65536
    { s with lea.budRepeat := 3, lea.bseq := if new then (s.lea.bseq + 1) % 65536 else s.lea.bseq }
      |> rput f.1 (v / 65536) |> rput f.2 (v % 65536)

/-- A budget register written (R333). -/
def execBudgetRegisterWrite (a : Fin 64) (v : Word) (s : State) : Host.Outcome State Fault Refusal :=
  .next (budgetWrite a v.toNat s)

/-- BUDGET is absent: none for 400 tempos, or none at all (R342); the coordinator has its own registers. -/
def budgetAbsent (s : State) : Bool :=
  !isCoord s && match s.lea.budAt with | some t => decide (400 ≤ sinceT s t) | none => true

/-- The budget falls to 0 (R342). -/
def budgetStale (s : State) : State :=
  if budgetAbsent s then
    let s1 := { s with lea.site := 0, lea.siteExp := 0, lea.shareImp := 0, lea.shareExp := 0, lea.budStale := true }
    if s.lea.budStale then s1 else raiseLea F.LEA_FLAGS_BUDSTALE s1
  else s

/-- 20 ms without a BUDGET (R342). -/
def execBudgetStale (s : State) : Host.Outcome State Fault Refusal := .next (if s.loaded then budgetStale s else s)

/-- The budget applied at an edge (R342). -/
def edgeBudget (s : State) : State :=
  if isCoord s then
    { s with lea.site := rget s F.LEA_BSITE_IMP, lea.siteExp := rget s F.LEA_BSITE_EXP,
             lea.shareImp := rget s (F.LEA_BSHARE_IMP (s.lea.addr - 1)), lea.shareExp := rget s (F.LEA_BSHARE_EXP (s.lea.addr - 1)),
             lea.budStale := false }
  else match s.lea.budNext with
    | some (si, se, hi, he) =>
      { s with lea.site := si, lea.siteExp := se, lea.shareImp := hi, lea.shareExp := he, lea.budNext := none,
               lea.budAt := some s.tmp.now, lea.budStale := false }
    | none => budgetStale s

/-! ### The coordinator's and a segment head's express frame (R332, R333, R341) -/

/-- The TIME body of an originator at its edge. -/
def timeBody (s : State) : Bytes :=
  let fl := b2n s.lea.segHead + 2 * rget s F.TMP_STATUS_SRCLOST + 4 * b2n (s.tmp.mode == .holdover)
  [0, 0] ++ leBytes 1 fl ++ [0] ++ leBytes 8 s.tmp.chain ++ leBytes 8 (1000 * 65536) ++ leBytes 8 (s.tmp.chain + 1000)
    ++ leBytes 8 s.tmp.ldDreqAt ++ leBytes 2 s.tmp.ldDreqSeq

/-- The express frame at an edge: BUDGET in place of TIME every 2 ms and after a budget write, in the coordinator. -/
def edgeExpress (s : State) : State :=
  if isCoord s then
    if crossesAt s 2000000 0 ∨ 0 < s.lea.budRepeat then
      let m := mkFrame tyBudget 0xFF 0 (timeBody s ++ budgetPart s) { s with lea.budRepeat := s.lea.budRepeat - 1 }
      leadCut .ld m.1 m.2
    else
      let m := mkFrame tySync 0xFF 0 (timeBody s) s
      leadCut .ld m.1 m.2
  else if s.lea.segHead then
    let m := mkFrame tySync 0xFF 0 (timeBody s) s
    leadCut .ld m.1 m.2
  else { s with lea.ldCut := none }

/-- 8 tempos without TIME or BUDGET on LU make a segment head (R341). -/
def segmentHead (s : State) : State :=
  if s.loaded && !isCoord s && decide (8 ≤ s.lea.luSilent) then { s with lea.segHead := true } else s

/-- The module becomes a segment head (R341). -/
def execSegmentHead (s : State) : Host.Outcome State Fault Refusal := .next (segmentHead s)

/-! ### STOP (R344, R345) -/

/-- A STOP acted on for the first time is sent by yard line in the next two own windows (R360). -/
def yardStop (body : Bytes) (s : State) : State := { s with yrd.stops := s.yrd.stops ++ [(body.take 10, 2)] }

/-- A (ORIGIN, STOPSEQ) pair acted on once, by either path (R345). -/
def stopNew (s : State) (origin q : Nat) : Bool := Tbl.get s.lea.stopSeen origin 0x10000 != q

/-- A STOP taken: recorded, and demanded at the next edge where STOPRX is set. -/
def stopTake (body : Bytes) (s : State) : State :=
  let o := u8 body 0
  let s1 := { s with lea.stopSeen := Tbl.put s.lea.stopSeen o (u16 body 2) 0x10000,
                     lea.stopIn := if nStopRx s then some o else s.lea.stopIn }
  raiseLea F.LEA_FLAGS_STOPRX (yardStop body s1)

/-- A STOP received by Lead: cut through on the opposite port, ending what is being sent there (R336, R345). -/
def execStopRx (p : LPort) (rx : LeadRx) (pre : Preempt) (s : State) : Host.Outcome State Fault Refusal :=
  .next (leadRecvCut (fun b => hTyp b == tyStop)
    (fun t =>
      let body := fBody rx.bytes
      if !stopNew t (u8 body 0) (u16 body 2) then t
      else
        let t1 := leadCut (otherPort p) rx.bytes t
        let t2 := if pre = .other ∧ portOn t (otherPort p) then rsat F.LEA_ABORT_COUNT 1 t1 else t1
        stopTake body t2)
    (fun t => if stopNew t (u8 rx.bytes 8) (u16 rx.bytes 10) then leadPut false (otherPort p) rx.bytes t else t) p rx s)

/-- A STOP originated at an edge, with the lowest of the reasons that fall in the tempo (R344). -/
def stopOriginate (reason : Nat) (s : State) : State :=
  let q := (s.lea.stopSeq + 1) % 65536
  let body := leBytes 1 s.lea.addr ++ leBytes 1 reason ++ leBytes 2 q ++ leBytes 8 s.tmp.chain ++ leBytes 2 0
  let m := mkFrame tyStop 0xFF 0 body s
  { m.2 with lea.stopSeq := q, lea.stopSeen := Tbl.put s.lea.stopSeen s.lea.addr q 0x10000 }
    |> leadCut .lu m.1 |> leadCut .ld m.1 |> yardStop body |> raiseLea F.LEA_FLAGS_STOPTX

/-- The STOP of an edge: `ev` is the rising Board event named by STOPEV. -/
def edgeStop (ev : Bool) (s : State) : State :=
  let s1 := { s with lea.mateStop := false, lea.stopWrite := false }
  if ev then stopOriginate 1 s1
  else if s.lea.mateStop then stopOriginate 2 s1
  else if s.lea.stopWrite then stopOriginate 3 s1
  else s1

/-! ### Enumeration (R338–R340) -/

def enumBody (s : State) (kind a flags : Nat) : Bytes :=
  leBytes 1 kind ++ leBytes 1 a ++ leBytes 1 (flags + b2n (isPost s) + 2 * b2n (isCoord s)) ++ [0] ++ serialBytes s

/-- The coordinator's OFFER of address 2 on LD. -/
def enumOffer (s : State) : State :=
  if isCoord s then
    let m := mkFrame tyEnum 0 0 (enumBody s 1 2 0) { s with lea.enumAt := s.tmp.now, lea.enumHigh := 1 }
    leadQueue .ld false m.1 m.2
  else s

/-- The OFFER of every second (R338). -/
def execEnumOfferSend (s : State) : Host.Outcome State Fault Refusal :=
  .next (if s.tmp.running ∧ 20000 ≤ sinceT s s.lea.enumAt then enumOffer s else s)

/-- LEA_CTRL.ENUM (R338). -/
def execEnumCommand (s : State) : Host.Outcome State Fault Refusal := .next (enumOffer s)

/-- The address a module takes from an OFFER with ADDR a, and whether it keeps one it holds (R338). -/
def offerTake (s : State) (a : Nat) : Nat × Bool :=
  let h := s.lea.addr
  if h = 0 then (a, false)
  else if a ≤ h then (h, true)
  else if outletsIdle s then (a, false)
  else (h, true)

/-- An OFFER on LU (R338). -/
def offerRx (a : Nat) (s : State) : State :=
  if s.lea.addr = 0 ∧ 63 < a then
    leadSend tyEnum 1 0 (enumBody s 2 0 8) (raiseLea F.LEA_FLAGS_OVERFLOW s)
  else if 63 < a ∧ (offerTake s a).1 = a then s
  else
    let t := offerTake s a
    let s1 := { s with lea.addr := t.1, lea.addrHeld := t.2 && decide (s.lea.addr < a) }
    let s2 := if t.1 ≠ s.lea.addr then raiseLea F.LEA_FLAGS_ADDRCHG s1 else s1
    let s3 := leadSend tyEnum 1 0 (enumBody s2 2 t.1 (4 * b2n t.2)) s2
    if portOn s3 .ld then
      let m := mkFrame tyEnum 0 0 (enumBody s3 1 (t.1 + 1) 0) s3
      leadQueue .ld false m.1 m.2
    else leadSend tyEnum 1 0 (enumBody s3 3 t.1 0) s3

/-- An OFFER received (R338). -/
def execEnumOfferRx (p : LPort) (rx : LeadRx) (s : State) : Host.Outcome State Fault Refusal :=
  .next (leadRecv (fun b => hTyp b == tyEnum && u8 b 8 == 1)
    (fun t => if p = .lu then offerRx (u8 (fBody rx.bytes) 1) t else t) p rx s)

/-- A node row of the coordinator. -/
def node (s : State) (a : Nat) : Node := Tab.get Node.reset s.lea.nodes a

def onNode (a : Nat) (f : Node → Node) (s : State) : State := { s with lea.nodes := Tab.upd s.lea.nodes a f }

/-- An ANSWER in the coordinator: the serial recorded, a second serial for one address a duplicate (R340). -/
def answerTake (b : Bytes) (s : State) : State :=
  if !isCoord s then s
  else
    let a := u8 b 1
    let ser := u64 b 4
    let old := (node s a).serial
    let s0 := if (u8 b 2).testBit 3 then raiseLea F.LEA_FLAGS_OVERFLOW s else s
    if a = 0 ∨ 63 < a then s0
    else
      let dup := match old with | some x => x != ser | none => false
      let s1 := onNode a (fun n => { n with serial := some ser }) s0
      let s2 := { s1 with lea.enumHigh := max s1.lea.enumHigh a, lea.naddr := max s1.lea.naddr a }
      if dup then raiseLea F.LEA_FLAGS_ADDRDUP s2 else s2

/-- An ANSWER received (R340). -/
def execEnumAnswerRx (p : LPort) (rx : LeadRx) (s : State) : Host.Outcome State Fault Refusal :=
  .next (leadRecv (fun b => hTyp b == tyEnum && u8 b 8 == 2) (answerTake (fBody rx.bytes)) p rx s)

/-- An END received: the enumeration is complete (R338, R340). -/
def execEnumEndRx (p : LPort) (rx : LeadRx) (s : State) : Host.Outcome State Fault Refusal :=
  .next (leadRecv (fun b => hTyp b == tyEnum && u8 b 8 == 3)
    (fun t => if isCoord t then raiseLea F.LEA_FLAGS_ENUMDONE { t with lea.naddr := t.lea.enumHigh } else t) p rx s)

/-- A Lead link goes up or down; a coordinator offers addresses at each LD link-up, and the change is a wake source in S3
and S4 (R338, R470). -/
def linkChange (p : LPort) (up : Bool) (s : State) : State :=
  let old := match p with | .lu => s.lea.luUp | .ld => s.lea.ldUp
  if old = up then s
  else
    let s1 := match p with
      | .lu => { s with lea.luUp := up, lea.luTx := if up then s.lea.luTx else [] }
      | .ld => { s with lea.ldUp := up, lea.ldTx := if up then s.lea.ldTx else [] }
    let s2 := wakeFire 5 (if netOn s then raiseLea F.LEA_FLAGS_LINKCHG s1 else s1)
    if p = .ld ∧ up then enumOffer s2 else s2

/-- LU or LD changes its link state. -/
def execLeadLinkChange (p : LPort) (up : Bool) (s : State) : Host.Outcome State Fault Refusal := .next (linkChange p up s)

/-! ### STATUS and the epoch digest (R346–R348) -/

def ownEpoch (s : State) : Bytes := digestOf s F.SYS_EPOCH_DIGEST

/-- The expected digest of the coordinator: its own, or LEA_EXPDIG (R347). -/
def expDigest (s : State) : Bytes := if rbit s F.LEA_EXPCTL_MODE then digestOf s F.LEA_EXPDIG_DIGEST else ownEpoch s

/-- STATE of the STATUS body. -/
def statusState (s : State) : Nat :=
  s.saf.st.code + 4 * b2n s.lea.mismatch + 8 * b2n (s.tmp.mode == .holdover) + 16 * b2n s.yrd.lost
    + 32 * b2n (outletsIdle s) + 64 * b2n s.lea.segHead + 128 * b2n (s.pwr.boot == .stalemate)

def statusBody (s : State) : Bytes :=
  let outs := (List.range 4).foldl (fun a n => a + (outShown s n).st.code * 16 ^ n) 0
  serialBytes s ++ ownEpoch s ++ (if isCoord s then expDigest s else List.replicate 32 0)
    ++ leBytes 4 (if isCoord s then s.lea.expSeq else 0) ++ leBytes 1 (statusState s)
    ++ leBytes 1 (b2n (isPost s) + 2 * b2n (isCoord s)) ++ leBytes 2 outs ++ leBytes 2 s.lea.lastXfer
    ++ leBytes 2 s.lea.lastBlocks ++ leBytes 1 (stagedBits s) ++ leBytes 3 0 ++ slice (Tab.get [] s.fwu.run 0) 0x18 8

/-- What the coordinator keeps of a STATUS (R346). -/
def nodeTake (a : Nat) (b : Bytes) (s : State) : State :=
  onNode a (fun n => { n with seen := some s.tmp.now, state := u8 b 0x4C, staged := u8 b 0x54, xfer := u16 b 0x50 }) s

/-- STATUS every 40 tempos: to address 1, or as the Lead beacon (R346); in Stalemate mode no tempo counts them (R387). -/
def execStatusSend (s : State) : Host.Outcome State Fault Refusal :=
  .next (if netOn s ∧ (40 ≤ sinceT s s.lea.statAt ∨ s.pwr.boot = .stalemate) then
    let s1 := { s with lea.statAt := s.tmp.now }
    if isCoord s then
      let m := mkFrame tyStatus 0xFF 0 (statusBody s1) s1
      nodeTake s.lea.addr (statusBody s1) (leadQueue .ld false m.1 m.2)
    else leadSend tyStatus 1 0 (statusBody s1) s1
  else s)

/-- A Lead beacon: the expected digest copied where EXPSEQ differs from the last one taken (R347). -/
def beaconTake (b : Bytes) (s : State) : State :=
  let q := u32 b 0x48
  let s1 := { s with lea.beaconAt := some s.tmp.now }
  if s.lea.expTaken = some q then s1
  else
    { s1 with lea.expTaken := some q, lea.expGot := true, lea.expSeq := q } |> digestPut F.SYS_EPOCHEXP_DIGEST (slice b 0x28 32)

/-- A STATUS consumed: shown by the coordinator; the coordinator's own is the Lead beacon (R346, R347). -/
def statusTake_ (rxBytes : Bytes) (s : State) : State :=
  let b := fBody rxBytes
  if isCoord s then nodeTake (hSrc rxBytes) b s
  else if (u8 b 0x4D).testBit 1 then beaconTake b s else s

/-- A STATUS received (R346). -/
def execStatusRx (p : LPort) (rx : LeadRx) (s : State) : Host.Outcome State Fault Refusal :=
  .next (leadRecv (fun b => hTyp b == tyStatus) (statusTake_ rx.bytes) p rx s)

/-- A Lead beacon within 20 ms. -/
def beaconFresh (s : State) : Bool := match s.lea.beaconAt with | some t => decide (sinceT s t < 400) | none => false

/-- Own and expected digest differ; the coordinator compares with its own expectation. -/
def epochDiffers (s : State) : Bool :=
  if isCoord s then ownEpoch s != expDigest s else ownEpoch s != digestOf s F.SYS_EPOCHEXP_DIGEST

/-- EPOCH_MISMATCH entered after 200 tempos of difference, or on two yard-line beacons without a Lead beacon; left at the
first agreement on the path that is current (R348). -/
def epochCheck (s : State) : State :=
  let lead := isCoord s || beaconFresh s
  let bad := decide (200 ≤ s.lea.mmRun) || (!lead && decide (2 ≤ s.lea.ylDiff))
  let good := if lead then !epochDiffers s else s.yrd.gotBeacon && decide (s.lea.ylDiff = 0)
  if bad && !s.lea.mismatch then raiseLea F.LEA_FLAGS_EPOCHCHG (rput F.SYS_STATUS_EPOCHMM 1 { s with lea.mismatch := true })
  else if good && s.lea.mismatch then raiseLea F.LEA_FLAGS_EPOCHCHG (rput F.SYS_STATUS_EPOCHMM 0 { s with lea.mismatch := false })
  else s

/-- The comparison of one tempo (R348). -/
def edgeEpoch (s : State) : State :=
  let d := s.lea.expGot && epochDiffers s
  let s1 := { s with lea.mmRun := if d then min 200 (s.lea.mmRun + 1) else 0 }
  epochCheck s1

/-- EPOCHSEQ and the coordinator's expectation at an edge: EXPSEQ advances at each change of the expected digest (R347). -/
def edgeExpected (s : State) : State :=
  if !isCoord s then s
  else
    let e := expDigest s
    if s.lea.expGot && digestOf s F.SYS_EPOCHEXP_DIGEST == e then s
    else { s with lea.expGot := true, lea.expSeq := (s.lea.expSeq + 1) % 4294967296 } |> digestPut F.SYS_EPOCHEXP_DIGEST e

/-- EPOCH_MISMATCH is entered (R348). -/
def execEpochMismatch (s : State) : Host.Outcome State Fault Refusal := .next (epochCheck s)

/-- The digests agree again (R348). -/
def execEpochAgree (s : State) : Host.Outcome State Fault Refusal := .next (epochCheck s)

/-! ### Bus requests and grants (R110, R343) -/

def ReqKind.code : ReqKind → Nat
  | .release => 0 | .test => 1 | .precharge => 2 | .energy => 3 | .hold => 4

def reqKindOf (c : Nat) : Option ReqKind :=
  match c with
  | 0 => some .release | 1 => some .test | 2 => some .precharge | 3 => some .energy | 4 => some .hold | _ => none

/-- One BUSREQ entry. -/
def busReqEntry (s : State) (n : Nat) : Bytes :=
  let o := outShown s n
  if oType s n = tyNone then List.replicate 8 0
  else leBytes 1 (0x80 + 16 * o.rkind.code + n) ++ leBytes 1 (oBuses s n) ++ leBytes 2 o.rvolt ++ leBytes 2 o.rcur
    ++ leBytes 1 (b2n o.diract) ++ [0]

/-- A BUSREQ once every 20 tempos, and in any tempo that demands one at once (R110, R343). -/
def execBusreqSend (s : State) : Host.Outcome State Fault Refusal :=
  .next (if isPost s ∧ s.tmp.running ∧ (s.tmp.now % 20 = 0 ∧ s.lea.reqAt ≠ some s.tmp.now ∨ s.lea.busReqNow) then
    leadSend tyCmd (nCabAddr s) 0 (cmdBody 1 ((List.range 4).flatMap (busReqEntry s)))
      { s with lea.busReqNow := false, lea.reqAt := some s.tmp.now }
  else s)

/-- Buses of a mask. -/
def maskCount (m : Nat) : Nat := (List.range 8).foldl (fun a b => a + bitAt m b) 0

/-- One entry in the cabinet, for the buses whose POST is the frame's source; an outlet on two buses gives each half its
current. HOLD remembers the groups connected at its entry (R147, R343). -/
def busReqTake (src : Nat) (e : Bytes) (s : State) : State :=
  match u8 e 0 / 128, reqKindOf (u8 e 0 / 16 % 8) with
  | 1, some k =>
    let mask := u8 e 1
    eachUpTo (mNbus s) (fun b t =>
      if mask.testBit b && mPost t b == src then
        onBus b (fun q =>
          { q with kind := some k, stamp := t.tmp.now, volt := u16 e 2, cur := u16 e 4 / max 1 (maskCount mask),
                   exporting := (u8 e 6).testBit 0,
                   holdN := if k = .hold ∧ q.kind ≠ some .hold then (groupsOn t b).length else q.holdN }) t
      else t) s
  | _, _ => s

/-- A BUSREQ received (R343). -/
def execBusreqRx (p : LPort) (rx : LeadRx) (s : State) : Host.Outcome State Fault Refusal :=
  .next (leadRecv (fun b => hTyp b == tyCmd && fOp b == 1)
    (fun t => if isCabinet t then
      eachUpTo 4 (fun k u => busReqTake (hSrc rx.bytes) (slice (fData rx.bytes) (8 * k) 8) u) t else t) p rx s)

/-- The GRANT to one POST: an entry for each of its buses. -/
def grantBody (s : State) (post : Nat) : Bytes :=
  let e := (List.range (mNbus s)).flatMap (fun b =>
    if mPost s b = post then
      leBytes 1 (0x80 + b) ++ leBytes 1 (groupsOn s b).length ++ leBytes 2 (busSt s b).grant ++ leBytes 2 (busV s b) ++ leBytes 2 0
    else [])
  e ++ List.replicate (64 - e.length) 0

/-- The POST addresses of the MATRIX section, each once. -/
def posts (s : State) : List Nat := ((List.range (mNbus s)).map (mPost s)).eraseDups

/-- GRANTs once every 20 tempos, and in any tempo in which a grant falls (R150, R343). -/
def execGrantSend (s : State) : Host.Outcome State Fault Refusal :=
  .next (if isCabinet s ∧ s.tmp.running ∧ (s.tmp.now % 20 = 0 ∧ s.lea.grantAt ≠ some s.tmp.now ∨ s.lea.grantNow) then
    (posts s).foldl (fun t a => leadSend tyCmd a 0 (cmdBody 2 (grantBody s a)) t)
      { s with lea.grantNow := false, lea.grantAt := some s.tmp.now }
  else s)

/-- One GRANT entry in a post. -/
def grantTake (e : Bytes) (s : State) : State :=
  if u8 e 0 < 0x80 then s
  else { s with lea.grant := Tab.upd s.lea.grant (u8 e 0 % 8) (fun _ => ⟨u16 e 2, u16 e 4, u8 e 1, some s.tmp.now⟩) }

/-- A GRANT received; a post accepts one from CABADDR alone (R343). -/
def execGrantRx (p : LPort) (rx : LeadRx) (s : State) : Host.Outcome State Fault Refusal :=
  .next (leadRecv (fun b => hTyp b == tyCmd && fOp b == 2)
    (fun t => if isPost t ∧ hSrc rx.bytes = nCabAddr t then
      eachUpTo 8 (fun k u => grantTake (slice (fData rx.bytes) (8 * k) 8) u) t else t) p rx s)

/-! ### USER frames (R351) -/

/-- A USER frame: one of more data than the receive window holds is rejected whole (R44), and 32 wait at most. -/
def execUserRx (p : LPort) (rx : LeadRx) (s : State) : Host.Outcome State Fault Refusal :=
  .next (leadRecv (fun b => hTyp b == tyCmd && fOp b == 3)
    (fun t =>
      if 476 < (fData rx.bytes).length then rsat F.LEA_LENERR_COUNT 1 t
      else if 32 ≤ t.lea.userRx.length then raiseLea F.LEA_FLAGS_CMDDROP (rsat F.LEA_CMDDROP_COUNT 1 t)
      else raiseLea F.LEA_FLAGS_RXCMD
        { t with lea.userRx := t.lea.userRx ++ [⟨hSrc rx.bytes, t.tmp.chain % 4294967296, fData rx.bytes⟩] }) p rx s)

/-- USER frames of this module waiting to be sent; one bound for both ports counts once. -/
def userWaiting (s : State) : Nat :=
  let mine := fun (f : LeadFrame) => f.typ == tyCmd && fOp f.bytes == 3 && !f.fwd
  (s.lea.luTx.filter mine).length + (s.lea.ldTx.filter (fun f => mine f && !(s.lea.luTx.contains f))).length

/-- A push of the transmit window (R351). -/
def userPush (dst len : Nat) (data : Bytes) (s : State) : State :=
  if 476 < len then rsat F.LEA_LENERR_COUNT 1 s
  else if 8 ≤ userWaiting s then raiseLea F.LEA_FLAGS_TXFULL s
  else leadSend tyCmd dst 0 (cmdBody 3 (data.take len)) s

/-- The transmit window's data registers. -/
def userWindow (s : State) : Bytes := (List.range 120).flatMap (fun k => leBytes 4 (rget s (F.LEA_TXDAT_DATA k)))

/-- The firmware fills the transmit window and pushes it. -/
def execLeadUserPush (dst : BitVec 8) (len : Nat) (data : Bytes) (s : State) : Host.Outcome State Fault Refusal :=
  .next (
    let s1 := eachUpTo 120 (fun k t => if 4 * k < data.length then rput (F.LEA_TXDAT_DATA k) (u32 data (4 * k)) t else t) s
    let s2 := s1 |> rput F.LEA_TXHDR_ADDR dst.toNat |> rput F.LEA_TXHDR_LEN len
    userPush dst.toNat (len % 512) (userWindow s2) s2)

/-- The head of the receive queue is removed. -/
def execLeadUserHeadRemove (s : State) : Host.Outcome State Fault Refusal :=
  .next { s with lea.userRx := s.lea.userRx.drop 1 }

end Sys2Proof.Machine
end

