-- ==== Sys2Proof/Machine/Mailbox.lean ====
section
/-!
DEFINITION. The SAF mailbox and event queue (R199–R205, R528): refusal at the write, one command per tempo, the
acknowledgement of CHECK, the safety reset token, and the challenge.
-/

namespace Sys2Proof.Machine

/-! ### Submission and results (R204) -/

/-- A result written to SAF_MBSTAT: MBREJ for every result but OK. -/
def safResult (op code : Nat) (s : State) : State :=
  let s1 := s |> rput F.SAF_MBSTAT_RESULT code |> rput F.SAF_MBSTAT_LASTOP op
  if code = 0 then s1 else raiseSaf F.SAF_FLAGS_MBREJ s1

/-- Payload bytes written into SAF_MBDATA0–31, byte 4k of the payload in bits 7:0 of register k. -/
def safDataPut (p : Bytes) (s : State) : State :=
  eachUpTo 32 (fun k t => if 4 * k < p.length then rput (F.SAF_MBDATA_DATA k) (u32 p (4 * k)) t else t) s

def safData (s : State) (n : Nat) : Bytes :=
  ((List.range 32).flatMap (fun k => leBytes 4 (rget s (F.SAF_MBDATA_DATA k)))).take n

/-- A write of SAF_MBCMD (R204): a LEN above 128 is a length error, a full queue refuses, and otherwise the command waits
with its payload. -/
def safSubmit (op len : Nat) (s : State) : State :=
  if 128 < len then s |> rsat F.SAF_LENERR_COUNT 1 |> safResult op 9
  else if 8 ≤ s.saf.mbox.length then raiseSaf F.SAF_FLAGS_MBFULL s
  else { s with saf.mbox := s.saf.mbox ++ [⟨op, len, safData s len⟩] }

/-- Whether the head of the queue is the given opcode and its turn has come: one command per tempo, none while a token
waits for its self-test. -/
def safTurn (s : State) (op : Nat) : Option MbCmd :=
  match s.saf.mbox with
  | c :: _ => if c.op = op ∧ s.tmp.running ∧ !s.saf.mbRan ∧ s.saf.tokenWait.isNone then some c else none
  | [] => none

/-- The head leaves the queue. -/
def safPop (s : State) : State := { s with saf.mbox := s.saf.mbox.drop 1, saf.mbRan := true }

/-- A mailbox command: submitted at the write, or executed by the safety controller when its turn has come; a LEN other
than the table's is BADARG. -/
def safCommand (op want : Nat) (f : Bytes → State → State) (ph : Phase) (len : Nat) (payload : Bytes) (s : State) : State :=
  match ph with
  | .write => safSubmit op len (safDataPut payload s)
  | .run =>
    match safTurn s op with
    | none => s
    | some c => if c.len = want then f c.payload (safPop s) else safResult op 2 (safPop s)

/-- An opcode outside the table is BADOP (R204). -/
def safUnknown (s : State) : State :=
  match s.saf.mbox with
  | c :: _ =>
    if s.tmp.running && !s.saf.mbRan && s.saf.tokenWait.isNone && decide (c.op = 0 ∨ 5 < c.op) then
      safResult c.op 1 (safPop s)
    else s
  | [] => s

/-! ### Flags and enables -/

/-- Blocks TMP, BRD, SAF, MTX and SIO (R32). -/
def safBlocks : List Nat := [4, 5, 6, 8, 21]

def safIens : List Fld := [F.TMP_IEN_EN, F.BRD_IEN_EN, F.SAF_IEN_EN, F.MTX_IEN_EN, F.SIO_IEN_EN]

def orBadArg (op : Nat) (f : Bytes → State → Option State) (p : Bytes) (s : State) : State :=
  match f p s with
  | some t => safResult op 0 t
  | none => safResult op 2 s

/-- FLAGCLR on a SAFE block (R32). -/
def execSafFlagclr (ph : Phase) (len : Nat) (payload : Bytes) (s : State) : Host.Outcome State Fault Refusal :=
  .next (safCommand 1 12 (orBadArg 1 (flagClr safBlocks)) ph len payload s)

/-- IENSET on a SAFE block (R79). -/
def execSafIenset (ph : Phase) (len : Nat) (payload : Bytes) (s : State) : Host.Outcome State Fault Refusal :=
  .next (safCommand 2 12 (orBadArg 2 (ienSet safIens)) ph len payload s)

/-- WEARRST: the counters of one coil cleared (R164). -/
def wearReset (p : Bytes) (s : State) : State :=
  if u32 p 0 < 64 then safResult 3 0 (onCoil (u32 p 0) (fun k => { k with sw := 0, i2t := 0, dirty := true }) s)
  else safResult 3 2 s

/-- The WEARRST command (R164). -/
def execWearrst (ph : Phase) (len : Nat) (payload : Bytes) (s : State) : Host.Outcome State Fault Refusal :=
  .next (safCommand 3 4 wearReset ph len payload s)

/-! ### Leaving CHECK and MATE -/

/-- A cause is new in this tempo (R171). -/
def newCause (s : State) : Bool := s.saf.cur.any (fun c => !s.saf.prev.contains c)

/-- Every coil of the module is commanded open and reads open. -/
def coilsConfirmed (s : State) : Bool :=
  (List.range 64).all (fun c => !mCoilUsed s c || (!(coil s c).drive && !fbIn s (mCoilFb s c)))

/-- Both dies are below 120 °C. -/
def diesCool (s : State) : Bool := (List.range 2).all (fun d => decide (Tab.get 0 s.saf.dieT d < 12000))

/-- The conditions of R170 but for the 1 s; an OVERTEMP CHECK needs both dies below 120 °C (07, under R198). -/
def ackConditions (s : State) : Bool :=
  s.saf.cur.isEmpty && !s.saf.hold && coilsConfirmed s && (!s.saf.overT || diesCool s)
    && (List.range 4).all (fun n => !oActive s n || (outShown s n).st ∈ [OutSt.idle, .unlock, .faulted, .oos])

/-- CHECKACK: accepted under R170; the module enters RUN at the edge. Outside CHECK it is rejected. -/
def checkAck (s : State) : State :=
  if s.saf.st == .check && decide (20000 ≤ sinceT s s.saf.since) && ackConditions s then
    { s with saf.ack := some (true, 0) }
  else safResult 4 7 s

/-- The CHECKACK command (R170). -/
def execCheckack (ph : Phase) (len : Nat) (payload : Bytes) (s : State) : Host.Outcome State Fault Refusal :=
  .next (safCommand 4 0 (fun _ => checkAck) ph len payload s)

/-- A new challenge (R200). -/
def newChallenge (s : State) : State :=
  eachUpTo 4 (fun k t => let v := freeNat t; rput (F.SAF_CHAL_CHAL k) v.1 v.2) { s with saf.chalAt := s.tmp.now }

/-- The challenge in force, 16 bytes (R53). -/
def challenge (s : State) : Bytes := (List.range 4).flatMap (fun k => digestBytes (rget s (F.SAF_CHAL_CHAL k)))

/-- The result of a token's check (R200). A reset key of zero bytes lets no token verify and gives SIG; of several
failures the order is the model's (DESIGN CHOICE, log entry 15). With both entropy sources failed every attempt ends in CHAL
(R413). -/
def tokenVerdict (p : Bytes) (s : State) : Nat :=
  if s.key.rngFail then 4
  else if allZero (sResetKey s) then 3
  else if slice p 0 4 ≠ [0x53, 0x52, 0x53, 0x54] ∨ 16 ≤ u32 p 4 ∨ !allZero (slice p 0x28 8) then 2
  else if u64 p 8 ≠ s.fuse.serial then 5
  else if slice p 0x10 16 ≠ challenge s then 4
  else if u64 p 0x20 < s.tmp.chain then 6
  else if Config.sm2Verify (sResetKey s) (slice p 0 0x30) (slice p 0x30 64) then 0
  else 3

/-- An accepted token: with LEAVE in MATE it waits for the self-test; in CHECK it needs the conditions of R528; otherwise
its bits execute (R201, R202, R528). -/
def tokenAccept (action : Nat) (s : State) : State :=
  let leave := action.testBit 0
  if leave ∧ s.saf.st = .mate then { s with saf.tokenWait := some action }
  else if leave ∧ s.saf.st = .check ∧ !ackConditions s then safResult 5 7 s
  else { s with saf.ack := some (false, action) }

/-- SAFERESET (R200): an attempt within 10 s of the previous one is no attempt; every attempt replaces the challenge. -/
def safeReset (p : Bytes) (s : State) : State :=
  let early := match s.saf.lastTry with | some t => decide (sinceT s t < 200000) | none => false
  if early then safResult 5 8 s
  else
    let v := tokenVerdict p s
    let s1 := newChallenge { s with saf.lastTry := some s.tmp.now }
    if v ≠ 0 then safResult 5 v s1 else tokenAccept (u32 p 4) s1

/-- The SAFERESET command (R199, R200); the engine checks the token's signature (R410). -/
def execSafereset (ph : Phase) (len : Nat) (payload : Bytes) (s : State) : Host.Outcome State Fault Refusal :=
  .next (portCheck 1 5 (ph == .run && (safTurn s 5).isSome) (safCommand 5 112 safeReset ph len payload) s)

/-- The ACTION bits of an accepted token: LEAVE in CHECK or MATE takes the module to RUN at this edge (R199, R201, R202, R528). -/
def tokenActions (action : Nat) (s : State) : State :=
  let s1 := if action.testBit 1 then eachUpTo 4 (fun n t => onOutlet n (fun o => { o with latch := false }) t) s else s
  let s2 := if action.testBit 2 then
      eachUpTo 16 (fun g t => onGroup g (fun k => if k.step == .pinned then { k with step := .none } else k) t)
        { s1 with mtx.xpWeld := 0 }
    else s1
  let s3 := if action.testBit 3 then eachUpTo 4 (fun x t => onSOut x (fun o => { o with latch := false }) t) s2 else s2
  let s4 := { s3 with saf.resetPulseNext := true }
  let leave := action.testBit 0 && s.saf.st != .run
  raiseSaf F.SAF_FLAGS_SRESET
    (if leave then { s4 with saf.toRun := true, saf.toCheck := none, saf.toMate := none } else s4)

/-- An acknowledgement of this tempo fails at its edge: a new cause came in the same tempo, or a condition of a CHECK-class or
MATE-class row is present in it and the module would leave CHECK (R170, R171, R528). -/
def ackFails (isAck : Bool) (action : Nat) (s : State) : Bool :=
  newCause s || ((isAck || (action.testBit 0 && s.saf.st == .check)) && !s.saf.cur.isEmpty)

/-- What an acknowledgement of this tempo comes to at the edge: rejected with COND or executed (R170, R171, R202, R528). -/
def edgeAck (s : State) : State :=
  match s.saf.ack with
  | none => s
  | some (isAck, action) =>
    let s1 := { s with saf.ack := none }
    let op := if isAck then 4 else 5
    if ackFails isAck action s then safResult op 7 s1
    else if isAck then safResult op 0 { s1 with saf.toRun := true }
    else tokenActions action (safResult op 0 s1)

/-- The conditions of R201, in the tempo in which the self-test completes. -/
def leaveMateConditions (s : State) : Bool :=
  diesCool s && s.saf.railsBad.isEmpty && !s.saf.hold
    && (List.range 64).all (fun c => !mCoilUsed s c || !fbIn s (mCoilFb s c))
    && (List.range 4).all (fun n => !oActive s n || !hvPresent s n)

/-- The self-test completes: a failure is cause SAFEBIST; a pass decides a token that waits for it, and at the start takes the
module to RUN at the next edge once the layout is loaded, unless AON holds MATE (R167, R168, R172, R201). -/
def bistDone (pass : Bool) (s : State) : State :=
  let s1 := { s with saf.bistOk := pass, saf.tokenWait := none }
  let s2 := if pass then s1 else safCause 0x16 0 true s1
  match s.saf.tokenWait with
  | none => if pass && s.loaded && s.saf.st == .mate && !s.saf.held then { s2 with saf.toRun := true } else s2
  | some action =>
    if pass && leaveMateConditions s2 then { s2 with saf.ack := some (false, action) } else safResult 5 7 s2

/-- SAFEBIST completes (R201). -/
def execSafebistComplete (pass : Bool) (s : State) : Host.Outcome State Fault Refusal := .next (bistDone pass s)

/-- The challenge is replaced every 600 s (R200). -/
def execChallengeRefresh (s : State) : Host.Outcome State Fault Refusal :=
  .next (if 12000000 ≤ sinceT s s.saf.chalAt then newChallenge s else s)

/-! ### The event queue (R205) -/

/-- The head entry, or the empty entry with source 0xFF. -/
def safHead (s : State) : Ev := s.saf.evq.headD ⟨0, 0xFF, 0, 0⟩

/-- A read of SAF_EVQ3 removes the head entry. -/
def evqRead (s : State) : State := { s with saf.evq := s.saf.evq.drop 1, resp := ⟨false, (safHead s).data / 65536⟩ }

/-- Reading SAF_EVQ3 (R205). -/
def execSafEvqRead (s : State) : Host.Outcome State Fault Refusal := .next (evqRead s)

end Sys2Proof.Machine
end

