-- ==== Sys2Proof/Machine/Layout.lean ====
section
/-!
DEFINITION. Loading the layout (R91–R93): the sections in force, the layout fields of the registers, the digests, the
factory default layout (R525), and the start of the first tempo.
-/

namespace Sys2Proof.Machine

/-! ### The factory default layout (R525) -/

/-- Bytes stored over a byte string at an offset. -/
def patch (off : Nat) (x b : Bytes) : Bytes := b.take off ++ x ++ b.drop (off + x.length)

def patchAll (l : List (Nat × Bytes)) (b : Bytes) : Bytes := l.foldl (fun a p => patch p.1 p.2 a) b

def zeroBytes (n : Nat) : Bytes := List.replicate n 0

/-- SAFETY at the defaults of R203, no input in use. -/
def factSafety : Bytes :=
  patchAll [(0, [1]), (3, [7]), (4, leBytes 2 31), (6, leBytes 2 200), (8, leBytes 2 10), (0xA, leBytes 2 1440),
    (0xC, leBytes 2 100), (0xE, [30]), (0x12, leBytes 2 500), (0x14, leBytes 2 100), (0x16, leBytes 2 10)] (zeroBytes 256)

def factMatrix : Bytes :=
  patchAll [(3, [1]), (4, [1]), (6, [2]), (7, [2]), (8, leBytes 2 60), (0xA, leBytes 2 100), (0xC, leBytes 2 500),
    (0xE, leBytes 2 500), (0x10, leBytes 2 100), (0x12, leBytes 2 10), (0x14, leBytes 4 100000)] (zeroBytes 672)

def factMeter : Bytes :=
  patchAll [(0, [1]), (1, [50]), (6, [90]), (7, [110]), (8, [5]), (9, [2]), (0xA, [2]), (0xB, [0xFF]), (0xC, leBytes 4 1),
    (0x11, [1])] (zeroBytes 4496)

/-- NETWORK at the defaults of R361; the serial part of the MAC address stands most significant byte first (log entry 34). -/
def factNetwork (serial : Nat) : Bytes :=
  patchAll [(0, [1]), (1, [1]), (2, [0xFF]), (3, [0x0F]), (5, [1]), (6, [10]), (7, [4]), (8, [1]), (0xA, leBytes 2 500),
    (0xC, 2 :: (leBytes 5 serial).reverse)] (zeroBytes 128)

def schedBytes (l : List (Nat × Nat × Nat)) : Bytes :=
  l.flatMap (fun p => leBytes 4 (p.1 * 268435456 + p.2.1 * 16384 + p.2.2))

def factSchedule : Bytes :=
  schedBytes ([(0, 0, 200), (1, 200, 1200), (2, 1200, 2200), (3, 2200, 2300), (4, 2300, 2900), (7, 2900, 3700), (8, 0, 1500),
    (9, 1500, 4500)] ++ List.replicate 8 (0xF, 0, 0))

/-- The sections of the factory default layout by type. -/
def factSections (serial : Nat) : Vector Bytes 12 :=
  Vector.ofFn (fun t => ([[], patchAll [(0, [1]), (2, [1])] (zeroBytes 16), [], zeroBytes 12544, factSafety, zeroBytes 512,
    factMatrix, factMeter, [], [], factNetwork serial, factSchedule]).getD t.val [])

/-- SAFE sections in the order of the factory section table, taken by type (log entry 34). -/
def factSafeDigest (serial : Nat) : Bytes :=
  Config.sm3 ([1, 3, 4, 5, 6, 11].flatMap (fun t => Config.sm3 (Tab.get [] (factSections serial) t)))

/-! ### Taking a layout -/

/-- The calibration of the METER section chains to a root of the running legal image (R91 step 5, R248); a calibration block of
zero bytes fails (R525). -/
def calibOk (s : State) : Bool :=
  let b := sec s 7
  let key := slice b 0x10D0 64
  !allZero (b.drop 0x10C0) && Config.sm2Verify key (b.take 0x1150) (slice b 0x1150 64)
    && (Config.calRoots (manImgdig (Tab.get [] s.fwu.run 1))).any (fun r =>
          Config.sm2Verify r (slice b 0x10C0 80) (slice b 0x1110 64))

/-- Load-channel and display fields of the registers that the layout gives (R454, R463). -/
def layoutField (s : State) : State :=
  let n8 := !(sec s 8).isEmpty
  let d := sec s 9
  let s1 := rputB F.LCH_STATUS_PRESENT n8 s |> eachUpTo 16 (fun n t =>
    t |> rputB (F.LCH_STAT_OWNER n) (n8 && lOwner t n) |> rput (F.LCH_CFG_TINR n) (lU16 t n 6)
      |> rput (F.LCH_CFG_IINR n) (lU16 t n 4) |> rput (F.LCH_CFG_ILIM n) (lU16 t n 2)
      |> rput (F.LCH_CFG_RETRYMAX n) (lRetryMax t n))
  let s2 := if n8 ∧ u8 (sec s 8) 1 ≤ 15 then s1 |> rput F.LCH_SNSSEL_EN 1 |> rput F.LCH_SNSSEL_CH (u8 (sec s 8) 1) else s1
  s2 |> rputB F.LCD_STATUS_PRESENT (!d.isEmpty) |> rput F.LCD_CFG_VLCD (u8 d 4) |> rput F.LCD_CFG_FRATE (u8 d 2)
    |> rput F.LCD_CFG_INVERT (u8 d 3) |> rput F.LCD_CFG_BIAS (u8 d 1) |> rput F.LCD_CFG_BILLMASK (u8 d 5)
    |> rput F.LCD_BANDCTL_EN (u8 d 7)

/-- The other register fields that the layout gives. -/
def layoutRegs (s : State) : State :=
  s |> rputB F.TMP_CFG_COORD (isCoord s) |> rput F.TMP_CFG_TIMESRC (timeSrc s)
    |> eachUpTo 16 (fun k t => t |> rput (F.TMP_SLOT_DUTY k) (schedDuty t k) |> rput (F.TMP_SLOT_START k) (schedStart t k)
        |> rput (F.TMP_SLOT_DEADLINE k) (schedDeadline t k))
    |> rput F.BRD_STATUS_USED (((List.range 64).filter (bUsed s)).length)
    |> rput F.BRD_CRCREF_CRC (crc32 (sec s 3))
    |> rputB F.CLK_FAILMODE_MODE (clkHoldMode s)
    |> eachUpTo 16 (fun c t => rput (F.MTR_CHSTAT_USE c) (cUse t c) t)
    |> eachUpTo 8 (fun n t => rput (F.MTR_EPSTAT_KIND n) (eKind t n) t)
    |> rput F.PER_POSTAT_EP (tPoEp s) |> rput F.PER_POSTAT_POL (tU8 s 0x11) |> rputB F.PER_POSTAT_DIR (tPoDir s)
    |> rput F.PER_POK_K (tPoK s)
    |> layoutField

/-- The flip-flops of a square start at FFINIT. -/
def layoutSquares (s : State) : State :=
  { s with brd.sq := Vector.ofFn (fun k => { Square.reset with q := bFfinit s k.val }) }

/-- The start of the safety controller's rule once the layout is loaded: RUN where the self-test has passed, and MATE where
AON holds it (R167, R168). -/
def startSafety (s : State) : State :=
  if s.saf.held then outsMate { s with saf.kept := true }
  else if s.saf.bistOk then enterRun s else s

/-- The layout takes effect, with its source code for LAYSRC, its digest and its safety-section digest: the first tempo starts
with every outlet in IDLE, or OUT_OF_SERVICE where its record or the role keeps it there, TESTOK 1 for the used inputs without
a test-pulse source, and a guard pair without two inputs in use DISCREPANT, since it never reads CLOSED (R91, R112, R117,
R118, R179, R525; log entry 166). -/
def layoutStart (src : Nat) (v : Vector Bytes 12) (dig safe : Bytes) (s : State) : State :=
  let s1 := { s with sec := v, loaded := true, layDig := dig }
  let coord := isCoord s1
  let s2 := { s1 with
    bil.calib := calibOk s1,
    yrd.lost := !nYlen s1 || s1.yrd.lost,
    saf.sin := Tab.mapIdx s1.saf.sin (fun i x => { x with testOk := sInUsed s1 i && decide (8 ≤ sInSrc s1 i) }),
    saf.pair := if sInUsed s1 (sGuardA s1) && sInUsed s1 (sGuardB s1) then s1.saf.pair else .discrepant,
    tmp.running := s1.pwr.safeOn && (!s1.saf.hold || s1.pwr.clkRet), tmp.first := true, tmp.cyc := 0, tmp.mode := if coord then .coord else .free,
    lea.addr := if coord then 1 else s1.lea.addr }
  let s3 := layoutSquares s2 |> layoutRegs |> rput F.SYS_STATUS_LAYOUT 1 |> rput F.SYS_STATUS_LAYSRC src
    |> digestPut F.BRD_SAFEDIG_DIGEST safe
  let s4 := eachUpTo 4 (fun n t =>
    if oActive t n then onOutlet n (fun o => { o with st := .idle }) t
    else if (outlet t n).st = .oos then t else outGo n .oos t) s3
  epochUpdate (guardEval (startSafety (enumOffer (billUpdate (outsTake s4)))))

/-- The factory default layout (R93, R525). -/
def layoutFactory (s : State) : State :=
  layoutStart 3 (factSections s.fuse.serial) (zeroBytes 32) (factSafeDigest s.fuse.serial) s

/-- Header, table, digests and content of the layout image that `rd` reads hold, its trailer names and is signed by `key`, and
its SECVER is the manifest's (R81–R84, R369, R370). The 48 zero bytes at the end of the trailer are not looked at (DESIGN CHOICE,
log entry 181). -/
def layoutImageOk (rd : Nat → Nat → Bytes) (key man : Bytes) (s : State) : Bool :=
  let h := layHead rd
  let tr := rd (layImglen h - 128) 128
  layTableOk h && layDigestsOk rd h && decide (laySecver h = manSecver man)
    && decide (tr.take 16 = (Config.sm3 key).take 16) && Config.sm2Verify key h (slice tr 16 64)
    && layContentOk { s with sec := laySections rd h, loaded := true }

/-- The layout of a slot takes effect. -/
def layoutSlot (slot : Nat) (s : State) : State :=
  let rd := slotRead s 2 slot
  let h := layHead rd
  let safe := Config.sm3 (((layUsed h).filter (fun e => e.attr.testBit 0)).flatMap (·.dig))
  layoutStart (1 + slot) (laySections rd h) (Config.sm3 h) safe s

/-! ### Acceptance of an image (R370) -/

/-- What the check of an image comes to: accepted, rejected, or rejected for a length under R44. -/
inductive ImgVerdict where
  | ok | bad | len
  deriving DecidableEq, Repr

/-- The 320-byte trailer of a manifest. -/
def manTrailer (m : Bytes) : Bytes := slice m (128 + 32 * manNblock m) 320
def manSignKey (m : Bytes) : Bytes := slice (manTrailer m) 0x50 64
def manEntry (m : Bytes) : Nat := u64 m 0x40
def manLoad (m : Bytes) : Nat := u64 m 0x48

/-- The signature chain of a manifest to a fused root for class c (R369, R370). -/
def chainOk (m : Bytes) (c : Nat) (s : State) : Bool :=
  let t := manTrailer m
  let root := Tab.get ([], 0, true) s.fuse.root (u8 t 0)
  decide (u8 t 0 < 4) && decide (Config.sm3 (slice t 0x10 64) = root.1) && !root.2.2 && root.2.1.testBit c && (u8 t 1).testBit c
    && Config.sm2Verify (slice t 0x10 64) (slice t 0 0x90) (slice t 0x90 64)
    && Config.sm2Verify (manSignKey m) (slice m 0 (128 + 32 * manNblock m)) (slice t 0xD0 64)

/-- The placement of an application image in your firmware's DRAM range. -/
def placeOk (m : Bytes) : Bool :=
  decide (0x800000000 ≤ manLoad m) && decide (manLoad m + manImglen m ≤ 0x9E0000000) && decide (manLoad m ≤ manEntry m)
    && decide (manEntry m < manLoad m + manImglen m)

/-- R370 for class c, the image read through `rd`. -/
def imageVerdict (rd : Nat → Nat → Bytes) (m : Bytes) (c : Nat) (s : State) : ImgVerdict :=
  if !manSizesOk m c then .len
  else if !manFormOk m c || !chainOk m c s || decide (manSecver m < Tab.get 0 s.fuse.svcnt c) || !digestsOk rd m then .bad
  else if c = 2 then
    if layLenBad (layHead rd) (manImglen m) then .len
    else if layoutImageOk rd (manSignKey m) m s then .ok else .bad
  else if c = 0 ∧ !placeOk m then .bad
  else .ok

/-- R370 for the image in a slot. -/
def slotVerdict (s : State) (c slot : Nat) : ImgVerdict := imageVerdict (slotRead s c slot) (slotMan s c slot) c s

end Sys2Proof.Machine
end

