-- ==== Sys2Proof/Machine/Fwu.lean ====
section
/-!
DEFINITION. Boot and firmware update (12): the boot stages with trials and Stalemate mode, the measurements, the FWU
commands, activation across the string, recovery, and the JTAG unlock.
-/

namespace Sys2Proof.Machine

def raiseFwu (f : Fld) (s : State) : State := raise F.FWU_EVCNT_COUNT [f] s

/-! ### Measurements (R374) -/

/-- MEASk extended with a value. -/
def measExtend (k : Nat) (v : Bytes) (s : State) : State :=
  { s with key.meas := Tab.upd s.key.meas k (fun m => Config.sm3 (m ++ v)) }

/-- What MEAS1 is extended with: SYS_ID, SYS_OPT, the fused counters, the root digests and their revocation bits. -/
def fuseBytes (s : State) : Bytes :=
  leBytes 4 (rget s F.SYS_ID_PART * 65536 + rget s F.SYS_ID_STEP * 256 + rget s F.SYS_ID_ROMREV) ++ leBytes 4 s.fuse.opt
    ++ s.fuse.svcnt.toList.flatMap (leBytes 1) ++ s.fuse.root.toList.flatMap (fun r => r.1)
    ++ s.fuse.root.toList.flatMap (fun r => leBytes 1 (b2n r.2.2))

/-- Stage 2: MEAS0–MEAS7 from zero, the ROM, the fuses and the debug state measured. -/
def measStart (s : State) : State :=
  { s with key.meas := Vector.replicate 8 (zeroBytes 32) }
    |> measExtend 0 (Config.romDigest 0) |> measExtend 1 (fuseBytes s) |> measExtend 6 (leBytes 1 (rget s F.SYS_OPT_DBG))

/-! ### Stalemate mode (R384, R385) -/

/-- Stalemate mode with its recovery code: the safety controller does not start, and the boot timer stops. -/
def stalemate (code : Nat) (s : State) : State :=
  coilsOff { s with pwr.boot := .stalemate, pwr.bootOn := false, fwu.recCode := code, fwu.recItem := 0, fwu.recShown := s.pwr.rtc,
                    fwu.recAt := s.pwr.rtc,
                    tmp.running := false, lea.byp := true }

/-! ### Slots and trials (R372, R373) -/

def lenErr (v : ImgVerdict) (s : State) : State := if v = .len then rsat F.FWU_LENERR_COUNT 1 s else s

/-- The first slot of the list that passes R370, each rejection for a length counted. -/
def tryList (c : Nat) : List Nat → State → Option Nat × State
  | [], s => (none, s)
  | k :: t, s =>
    let v := slotVerdict s c k
    if v = .ok then (some k, s) else tryList c t (lenErr v s)

/-- A trial under way in this boot: TRIAL is BOOTING and TRY names classes. -/
def onTrial (s : State) (c : Nat) : Bool := recTrial s == 2 && (recTry s).testBit c

/-- The trial is reverted: TRY cleared, TRIAL NONE, FALLBACK (R373). -/
def trialRevert (s : State) : State :=
  raiseFwu F.FWU_FLAGS_FALLBACK (recWrite (recActive s) 0 0 (recUnconf s) (u16 (bootRec s) 0xC) s)

/-- A trial at its start: PENDING becomes BOOTING, and every tried image must pass; otherwise, or where BOOTING is found, it
reverts (R373). -/
def trialStart (s : State) : State :=
  if recTrial s = 2 then trialRevert s
  else if recTrial s = 1 then
    let s1 := recWrite (recActive s) (recTry s) 2 (recUnconf s) (u16 (bootRec s) 0xC) s
    let bad := (List.range 3).filter (fun c => (recTry s).testBit c && slotVerdict s1 c (1 - activeSlot s c) != .ok)
    if bad.isEmpty then s1
    else trialRevert (bad.foldl (fun t c => lenErr (slotVerdict s1 c (1 - activeSlot s c)) t) s1)
  else s

/-- The slot class c boots from: on trial the one ACTIVE does not name, otherwise the ACTIVE slot and then the other. -/
def bootSlot (c : Nat) (s : State) : Option Nat × State :=
  let a := activeSlot s c
  if onTrial s c then (some (1 - a), s) else tryList c [a, 1 - a] s

/-- Class c runs the image of a slot: its manifest header kept, SVRUN, and its measurement. -/
def runImage (c slot : Nat) (s : State) : State :=
  let m := slotMan s c slot
  let s1 := { s with fwu.run := Tab.upd s.fwu.run c (fun _ => m.take 128) }
  if c = 0 then rput F.FWU_SVRUN_APP (manSecver m) (measExtend 4 (manImgdig m) s1)
  else if c = 1 then rput F.FWU_SVRUN_LEG (manSecver m) (measExtend 2 (manImgdig m) s1)
  else rput F.FWU_SVRUN_LAY (manSecver m) s1

/-! ### Boot stages (R371) -/

/-- Stage 3: the legal image, where none runs yet. -/
def bootLegal (s : State) : Option Nat × State :=
  if (Tab.get [] s.fwu.run 1).isEmpty then
    let r := bootSlot 1 s
    match r.1 with
    | some k => (some k, digestPut F.BIL_CHECK_CHECK (manImgdig (slotMan s 1 k)) (runImage 1 k r.2))
    | none => (none, r.2)
  else (some 0, s)

/-- The newer of two copies that hold. -/
def newerCopy (seq : Bytes → Option Nat) (a b : Bytes) : Option Bytes :=
  match seq a, seq b with
  | some x, some y => some (if x < y then b else a)
  | some _, none => some a
  | none, some _ => some b
  | none, none => none

/-- What the sealed core delivers to the SAFE domain at start-up: the proof and the wear copy with the highest sequence number whose
CRC holds (R11, R164, R172, R187). -/
def framStart (s : State) : State :=
  let s1 := match newerCopy proofSeqOf (Tab.get [] s.fram.proof 0) (Tab.get [] s.fram.proof 1) with
    | some b => proofTake b s
    | none => s
  match newerCopy wearSeq (Tab.get [] s1.fram.wear 0) (Tab.get [] s1.fram.wear 1) with
  | some b =>
    { s1 with saf.wearMade := u32 b 768,
              mtx.coil := Tab.mapIdx s1.mtx.coil (fun c k => { k with sw := u32 b (12 * c), i2t := 1000000 * u64 b (12 * c + 4) }) }
  | none => s1

/-- Random registers drawn at the start: the SAF and unlock challenges. -/
def drawChallenges (s : State) : State :=
  eachUpTo 4 (fun k t => let v := freeNat t; rput (F.FWU_DBGCHAL_CHAL k) v.1 v.2) (newChallenge s)

/-- The start of the safety controller and the sealed core, then the layout in force (R91 steps 4 to 6, R371 stage 7). -/
def bootStart (slot : Option Nat) (s : State) : State :=
  let s1 := framStart (drawChallenges (measExtend 5 (Config.romDigest 1) s))
  match slot with
  | some k => measExtend 3 (Config.sm3 (layHead (slotRead s 2 k))) (layoutSlot k (runImage 2 k s1))
  | none => measExtend 3 (zeroBytes 32) (layoutFactory s1)

/-- The layout slot of this boot: a user slot, the factory default, or none (R93, R372). -/
def bootLayout (s : State) : Option (Option Nat) × State :=
  let r := bootSlot 2 s
  match r.1 with
  | some k => (some (some k), r.2)
  | none => if rbit s F.SYS_OPT_FACTDEF then (some none, r.2) else (none, r.2)

/-- LAYOUT_LOAD: the stages up to 4 alone, while the boot ROM runs and no layout is loaded (R91). -/
def layoutLoad (s : State) : State :=
  if s.pwr.boot != .rom ∨ s.loaded then s
  else if rget s F.RST_FAILCNT_THR ≤ s.pwr.failCnt then stalemate 1 s
  else
    let l := bootLegal (trialStart (measStart s))
    match l.1 with
    | none => stalemate 2 l.2
    | some _ =>
      let r := bootLayout l.2
      match r.1 with
      | none => stalemate 3 r.2
      | some k => bootStart k r.2

/-- The boot ROM loads the layout (R91). -/
def execLayoutLoad (s : State) : Host.Outcome State Fault Refusal := .next (layoutLoad s)

/-- Stage 8: the hardware keys, the sealed core's restart, and the jump to ENTRY. The application image stands at LOADADDR. -/
def bootRun (k : Nat) (s : State) : State :=
  let m := slotMan s 0 k
  let s1 := memWrite (manLoad m) (slotRead s 0 k 0 (manImglen m)) (runImage 0 k s)
  let s2 := bilRestart (hwKeys s1)
  epochUpdate { s2 with pwr.boot := .running, lea.byp := true }

/-- The boot sequence: stages 1 to 8, each failure under the slot rules. `flash`: the QSPI flash answers; `dram`: the DRAM
trains. -/
def bootSequence (flash dram : Bool) (s : State) : State :=
  if s.pwr.boot != .rom then s
  else if rget s F.RST_FAILCNT_THR ≤ s.pwr.failCnt then stalemate 1 s
  else if !flash then stalemate 5 s
  else
    let s2 := if s.loaded then s else trialStart (measStart s)
    let l := bootLegal s2
    match l.1 with
    | none => stalemate 2 l.2
    | some _ =>
      let r := if s.loaded then (some none, l.2) else bootLayout l.2
      match r.1 with
      | none => stalemate 3 r.2
      | some lay =>
        if !dram then stalemate 6 r.2
        else
          let a := bootSlot 0 r.2
          match a.1 with
          | none => stalemate 4 a.2
          | some k => bootRun k (if s.loaded then a.2 else bootStart lay a.2)

/-- The boot ROM runs (R371). -/
def execBootSequence (flash dram : Bool) (s : State) : Host.Outcome State Fault Refusal := .next (bootSequence flash dram s)

/-! ### RST_BOOTOK (R373, R498) -/

/-- A trial completes: the tried slots become active and unconfirmed (R373). -/
def trialDone (s : State) : State :=
  if recTrial s = 2 then
    raiseFwu F.FWU_FLAGS_TRIALOK
      (recWrite (recActive s ^^^ recTry s) 0 0 (recUnconf s ||| recTry s) (u16 (bootRec s) 0xC) s)
  else s

/-- The first write of 1 to RST_BOOTOK.OK: the boot timer stops at 10 ms units, FAILCNT clears, a trial completes, and the seal
sets if it is still clear. -/
def bootOkWrite (s : State) : State :=
  if s.pwr.boot != .running ∨ s.pwr.bootOk then s
  else
    let ms := (s.pwr.rtc - s.pwr.bootAt) * 100 / 32768
    let s1 := { s with pwr.bootOk := true, pwr.bootOn := false, pwr.failCnt := 0 } |> rput F.RST_BOOTOK_OK 1 |> rput F.RST_BOOTOK_MS ms
    let s2 := trialDone s1
    if rbit s2 F.SYS_SEAL_SEAL then s2 else s2 |> rput F.SYS_SEAL_SEAL 1 |> rput F.SYS_SEAL_BYBOOTOK 1

/-- RST_BOOTOK is written (R498). -/
def execBootok (s : State) : Host.Outcome State Fault Refusal := .next (if appOn s then bootOkWrite s else s)

/-! ### FWU commands -/

/-- A command's result (FWU_CMDSTAT); CMDDONE. -/
def fwuResult (op code : Nat) (s : State) : State :=
  s |> rput F.FWU_CMDSTAT_LASTOP op |> rput F.FWU_CMDSTAT_RESULT code |> raiseFwu F.FWU_FLAGS_CMDDONE

/-- A write of FWU_CMD: refused with BUSY while a command runs. -/
def fwuCommand (f : State → State) (s : State) : State :=
  if !appOn s then s
  else if s.fwu.busy.isSome then rput F.FWU_CMDSTAT_RESULT 1 s
  else f s

/-- The slot's region of the flash erased. -/
def flashErase (c slot : Nat) (s : State) : State :=
  let lo := slotBase c slot
  let hi := lo + 0x10000 + classRegion c
  { s with flash := s.flash.filter (fun p => decide (p.1 < lo) || decide (hi ≤ p.1)) }

/-- PROGRAM: the staged image is checked, and the slot that ACTIVE does not name is erased (R376). -/
def fwuProgram (c : Nat) (s : State) : State :=
  let m := memRead s stagedMan 65536
  if 2 < c then fwuResult 1 2 s
  else if (recUnconf s).testBit c then fwuResult 1 5 s
  else if !manSizesOk m c then fwuResult 1 8 (rsat F.FWU_LENERR_COUNT 1 s)
  else if !manFormOk m c then fwuResult 1 3 s
  else if !digestsOk (fun off n => memRead s (stagedImg + off) n) m then fwuResult 1 4 s
  else
    { flashErase c (1 - activeSlot s c) s with fwu.busy := some (1, c) }
      |> rput F.FWU_CMDSTAT_BUSY 1 |> rput F.FWU_PROG_TOTAL (manNblock m) |> rput F.FWU_PROG_DONE 0

/-- FWU_CMD PROGRAM (R376). -/
def execFwuProgram (c : BitVec 4) (s : State) : Host.Outcome State Fault Refusal := .next (fwuCommand (fwuProgram c.toNat) s)

/-- The staged manifest and image written to a slot. -/
def imageWrite (c slot : Nat) (man img : Bytes) (s : State) : State :=
  flashWrite (slotBase c slot + 0x10000) img (flashWrite (slotBase c slot) man s)

/-- PROGRAM completes: manifest and image stand in the slot, which is read back, each block and the image against its digest; a flash
that fails or does not hold them leaves the slot invalid (R376). -/
def execFwuProgramComplete (flash : Bool) (s : State) : Host.Outcome State Fault Refusal :=
  .next (match s.fwu.busy with
    | some (1, c) =>
      let m := memRead s stagedMan 65536
      let s1 := { s with fwu.busy := none } |> rput F.FWU_CMDSTAT_BUSY 0
      let s2 := imageWrite c (1 - activeSlot s c) (m.take (manManlen m)) (memRead s stagedImg (manImglen m)) s1
      if !flash then fwuResult 1 9 s1
      else if digestsOk (slotRead s2 c (1 - activeSlot s c)) m then fwuResult 1 0 (rput F.FWU_PROG_DONE (manNblock m) s2)
      else fwuResult 1 9 s2
    | _ => s)

/-- CONFIRM: the fused counter is raised to the running SECVER and UNCONF cleared (R381). -/
def fwuConfirm (c : Nat) (s : State) : State :=
  if 2 < c then fwuResult 4 2 s
  else if !(recUnconf s).testBit c ∨ !s.pwr.bootOk then fwuResult 4 7 s
  else
    let sv := min (if c = 0 then 127 else 63) (manSecver (Tab.get [] s.fwu.run c))
    let s1 := { s with fuse.svcnt := Tab.upd s.fuse.svcnt c (fun n => max n sv) }
    fwuResult 4 0 (recWrite (recActive s1) (recTry s1) (recTrial s1) (setBit (recUnconf s1) c false) (u16 (bootRec s1) 0xC) s1)

/-- FWU_CMD CONFIRM (R381). -/
def execFwuConfirm (c : BitVec 4) (s : State) : Host.Outcome State Fault Refusal := .next (fwuCommand (fwuConfirm c.toNat) s)

/-- FWU_CMD EXTEND: MEAS7 is extended with FWU_DATA0–7 (R374). -/
def execFwuExtend (s : State) : Host.Outcome State Fault Refusal :=
  .next (fwuCommand (fun s => fwuResult 5 0 (measExtend 7 (digestOf s F.FWU_DATA_DATA) s)) s)

/-- A class keeps a fused root that is not revoked, with slot r taken away. -/
def classKept (s : State) (r c : Nat) : Bool :=
  (List.range 4).any (fun k => k != r && (let t := Tab.get ([], 0, true) s.fuse.root k; !t.2.2 && t.2.1.testBit c && !t.1.isEmpty))

/-- REVOKE: one root slot 1–3, one-way. -/
def fwuRevoke (r : Nat) (s : State) : State :=
  if r = 0 ∨ 3 < r then fwuResult 6 2 s
  else if (List.range 3).all (classKept s r) then
    fwuResult 6 0 { s with fuse.root := Tab.upd s.fuse.root r (fun t => (t.1, t.2.1, true)) }
  else fwuResult 6 7 s

/-- FWU_CMD REVOKE. -/
def execFwuRevoke (r : BitVec 4) (s : State) : Host.Outcome State Fault Refusal := .next (fwuCommand (fwuRevoke r.toNat) s)

/-! ### Activation (R378–R380) -/

/-- The activation is dropped. -/
def actDrop (s : State) : State := { s with fwu.act := 0, fwu.go := false, fwu.mask := 0, fwu.digs := [] }

/-- Whether activation `a` is later than `b`: ahead of it by less than half the number range (log entry 36). -/
def actLater (a b : Nat) : Bool := a != b && decide ((a + 65536 - b) % 65536 < 32768)

/-- An ACTIVATE that names the module's address; a later ACTID replaces a pending activation (R378). -/
def actTake (d : Bytes) (s : State) : State :=
  let id := u16 d 0
  if !(u64 d 20).testBit s.lea.addr ∨ s.lea.addr = 0 ∨ (s.fwu.act ≠ 0 ∧ !actLater id s.fwu.actId) then s
  else
    { s with fwu.act := 1, fwu.go := false, fwu.actId := id, fwu.mask := u8 d 2 % 8, fwu.latest := u64 d 12, fwu.digs := slice d 28 48,
             fwu.restart := 0 }
      |> rput F.FWU_ACTCFG_ACTID id

/-- A GO of the pending activation; one that arrives after RESTART is ignored (R379, R380). -/
def goTake (d : Bytes) (s : State) : State :=
  if s.fwu.act ≠ 1 ∨ u16 d 0 ≠ s.fwu.actId ∨ u64 d 8 < s.tmp.chain then s
  else
    { s with fwu.act := 2, fwu.restart := u64 d 8 } |> rput F.FWU_ACTRSTLO_RESTART (u64 d 8 % 4294967296)
      |> rput F.FWU_ACTRSTHI_RESTART (u64 d 8 / 4294967296) |> raiseFwu F.FWU_FLAGS_ACTGO

/-- A CANCEL of the activation taken (R380). -/
def cancelTake (d : Bytes) (s : State) : State :=
  if s.fwu.act ≠ 0 ∧ u16 d 0 = s.fwu.actId then raiseFwu F.FWU_FLAGS_ACTCANCEL (actDrop s) else s

/-- ACTIVATE received (R378). -/
def execActivateRx (p : LPort) (rx : LeadRx) (s : State) : Host.Outcome State Fault Refusal :=
  .next (leadRecv (fun b => hTyp b == tyCmd && fOp b == 6) (actTake (fData rx.bytes)) p rx s)

/-- GO received (R379). -/
def execGoRx (p : LPort) (rx : LeadRx) (s : State) : Host.Outcome State Fault Refusal :=
  .next (leadRecv (fun b => hTyp b == tyCmd && fOp b == 7) (goTake (fData rx.bytes)) p rx s)

/-- CANCEL received (R380). -/
def execCancelRx (p : LPort) (rx : LeadRx) (s : State) : Host.Outcome State Fault Refusal :=
  .next (leadRecv (fun b => hTyp b == tyCmd && fOp b == 8) (cancelTake (fData rx.bytes)) p rx s)

/-- An activation frame of the coordinator sent, and repeated until the next; `last`: for 1 s more (R378). -/
def actSend (op : Nat) (d : Bytes) (last : Bool) (s : State) : State :=
  leadSend tyCmd 0xFF 0 (cmdBody op d)
    { s with fwu.rep := some (cmdBody op d), fwu.repAt := s.tmp.now, fwu.repEnd := if last then some (s.tmp.now + 20000) else none }

/-- The digests an ACTIVATE carries: of the classes in the mask, from the coordinator's own slots. -/
def actDigs (s : State) (mask : Nat) : Bytes :=
  (List.range 3).flatMap (fun c =>
    if mask.testBit c then (manImgdig (slotMan s c (1 - activeSlot s c))).take 16 else zeroBytes 16)

/-- ACTIVATE in the coordinator: its registers form the frame (R378). -/
def fwuActivate (s : State) : State :=
  if !isCoord s then fwuResult 2 6 s
  else
    let id := rget s F.FWU_ACTCFG_ACTID
    let mask := rget s F.FWU_ACTCFG_CLASSMASK
    let early := rget s F.FWU_ACTEARLO_EARLIEST + 4294967296 * rget s F.FWU_ACTEARHI_EARLIEST
    let late := rget s F.FWU_ACTLATELO_LATEST + 4294967296 * rget s F.FWU_ACTLATEHI_LATEST
    let mem := rget s (F.FWU_ACTMEM_MEMBERS 0) + 4294967296 * rget s (F.FWU_ACTMEM_MEMBERS 1)
    let d := leBytes 2 id ++ leBytes 1 mask ++ [0] ++ leBytes 8 early ++ leBytes 8 late ++ leBytes 8 mem ++ actDigs s mask
    let s1 := { s with fwu.lead := true, fwu.early := early, fwu.members := mem, fwu.latest := late, fwu.actId := id, fwu.mask := mask }
    fwuResult 2 0 (actSend 6 d false (actTake d { s1 with fwu.act := 0 }))

/-- FWU_CMD ACTIVATE (R378). -/
def execFwuActivate (s : State) : Host.Outcome State Fault Refusal := .next (fwuCommand fwuActivate s)

/-- The coordinator cancels with a reason; it drops the activation itself (R380). -/
def actCancel (reason : Nat) (s : State) : State :=
  let d := leBytes 2 s.fwu.actId ++ leBytes 1 reason ++ zeroBytes 5
  cancelTake d (actSend 8 d true { s with fwu.lead := false })

/-- CANCEL: in the coordinator, of a pending activation. -/
def fwuCancel (s : State) : State :=
  if !isCoord s then fwuResult 3 6 s
  else if !s.fwu.lead then fwuResult 3 7 s
  else fwuResult 3 0 (actCancel 3 s)

/-- FWU_CMD CANCEL (R380). -/
def execFwuCancel (s : State) : Host.Outcome State Fault Refusal := .next (fwuCommand fwuCancel s)

/-- The repetition of the current activation frame every 100 ms, for 1 s after GO or CANCEL (R378). -/
def execActivationRepeat (s : State) : Host.Outcome State Fault Refusal :=
  .next (match s.fwu.rep with
    | none => s
    | some b =>
      let over_ := match s.fwu.repEnd with | some t => decide (t < s.tmp.now) | none => false
      if over_ then { s with fwu.rep := none, fwu.repEnd := none }
      else if sinceT s s.fwu.repAt < 2000 ∨ !isCoord s then s
      else leadSend tyCmd 0xFF 0 b { s with fwu.repAt := s.tmp.now })

/-- Member a is seen: a STATUS of it within 20 ms (R346). -/
def memberSeen (s : State) (a : Nat) : Bool := match (node s a).seen with | some t => decide (sinceT s t < 400) | none => false

def memberIdle (s : State) (a : Nat) : Bool := memberSeen s a && (node s a).state.testBit 5

def memberStaged (s : State) (a : Nat) : Bool := (node s a).staged &&& s.fwu.mask == s.fwu.mask

/-- The addresses that the activation names. -/
def members (s : State) : List Nat := (List.range 64).filter (fun a => s.fwu.members.testBit a)

/-- GO at the first tempo at or after EARLIEST in which every member is seen, idle and staged (R378). -/
def actGo (s : State) : State :=
  if isCoord s ∧ s.fwu.lead ∧ s.fwu.early ≤ s.tmp.chain ∧ (members s).all (fun a => memberIdle s a && memberStaged s a) then
    let d := leBytes 2 s.fwu.actId ++ zeroBytes 6 ++ leBytes 8 (s.tmp.chain + 20000000)
    goTake d (actSend 7 d true { s with fwu.lead := false })
  else s

/-- The coordinator sends GO (R378). -/
def execActivationGo (s : State) : Host.Outcome State Fault Refusal := .next (if netOn s then actGo s else s)

/-- LATEST has passed without GO: CANCEL, with reason 2 where a member is not staged or not seen, else 1 (R380). -/
def execActivationLatestExpiry (s : State) : Host.Outcome State Fault Refusal :=
  .next (if isCoord s ∧ s.fwu.lead ∧ s.fwu.latest < s.tmp.chain then
      actCancel (if (members s).all (fun a => memberSeen s a && memberStaged s a) then 1 else 2) s
    else s)

/-- A member without GO by LATEST + 1 s drops the activation (R380). -/
def execActivationMemberTimeout (s : State) : Host.Outcome State Fault Refusal :=
  .next (if s.fwu.act = 1 ∧ s.fwu.latest + 1000000000 ≤ s.tmp.chain then raiseFwu F.FWU_FLAGS_ACTCANCEL (actDrop s) else s)

/-- At RESTART a member with idle outlets and every class staged writes a trial record and resets; another drops the
activation (R379). -/
def actRestart (s : State) : State :=
  if s.fwu.act ≠ 2 ∨ s.tmp.chain < s.fwu.restart then s
  else if (List.range 4).all (fun n => (outShown s n).st ∈ [OutSt.idle, .plugged, .authWait, .oos])
      ∧ stagedBits s &&& s.fwu.mask = s.fwu.mask then
    doReset rcActivate (recWrite (recActive s) s.fwu.mask 1 (recUnconf s) s.fwu.actId s)
  else raiseFwu F.FWU_FLAGS_ACTMISS (actDrop s)

/-- The edge at RESTART (R379). -/
def execActivationRestart (s : State) : Host.Outcome State Fault Refusal := .next (actRestart s)

/-- From the edge that follows GO, authorisations are refused (R379). -/
def edgeFwu (s : State) : State := if s.fwu.act = 2 then { s with fwu.go := true } else s

/-! ### Recovery (R386–R388) -/

/-- The items shown in turn: the code, then each energy point 0–3 with a record in the newest entry (log entry 35). -/
def recoveryItems (s : State) : Nat := if (jNewest s).isSome then 5 else 1

/-- The next item once the shown one has stood for 5 s; which segments it drives without a DISPLAY section is not given, and is a free value. -/
def execRecoveryDisplayCycle (s : State) : Host.Outcome State Fault Refusal :=
  .next (if s.pwr.boot = .stalemate ∧ s.fwu.recShown + 5 * 32768 ≤ s.pwr.rtc then
      let v := freeNat s
      { v.2 with fwu.recItem := (s.fwu.recItem + 1) % recoveryItems s, fwu.recShown := s.pwr.rtc, legalSeg := v.1 % 2 ^ 384 }
    else s)

/-- The loader takes a complete image of class c read through `rd`: R370 in full, the slot that fails it or that ACTIVE does
not name, and a boot record that makes it active (R387). -/
def recoveryTake (c : Nat) (man : Bytes) (rd : Nat → Nat → Bytes) (s : State) : State :=
  let v := imageVerdict rd man c s
  if v ≠ .ok then lenErr v s
  else
    let a := activeSlot s c
    let slot := if slotVerdict s c a != .ok then a else 1 - a
    let s1 := imageWrite c slot (man.take (manManlen man)) (rd 0 (manImglen man)) (flashErase c slot s)
    { recWrite (setBit (recActive s1) c (slot == 1)) 0 0 (setBit (recUnconf s1) c false) (u16 (bootRec s1) 0xC) s1 with
      fwu.recAt := s.pwr.rtc, pwr.failCnt := 0 }

/-- A DFU download of the class of an alternate setting: the manifest followed by the image (R387). -/
def execRecoveryUsbDownload (alt : Fin 3) (data : Bytes) (s : State) : Host.Outcome State Fault Refusal :=
  .next (if s.pwr.boot = .stalemate then
      let n := manManlen data
      if data.length < n + manImglen data then s
      else recoveryTake alt.val (data.take n) (fun off k => slice data (n + off) k) s
    else s)

/-- A transfer staged over Lead in Stalemate mode is taken once it is complete (R387). -/
def recoveryLead (s : State) : State :=
  if s.pwr.boot != .stalemate then s
  else match s.lea.xfer with
    | some x =>
      if x.complete then
        { recoveryTake x.cls (memRead s stagedMan 65536) (fun off k => memRead s (stagedImg + off) k) s with lea.xfer := none }
      else s
    | none => s

/-- The loader resets the module once every class is bootable, no transfer is in progress, and 1 s has passed since it last
programmed an image (R388). -/
def execRecoveryReset (s : State) : Host.Outcome State Fault Refusal :=
  .next (if s.pwr.boot = .stalemate ∧ (List.range 3).all (fun c => slotVerdict s c 0 == .ok || slotVerdict s c 1 == .ok)
      ∧ s.lea.xfer = none ∧ s.fwu.recAt + 32768 ≤ s.pwr.rtc then doReset rcRecovery s
    else s)

/-! ### JTAG unlock (R390, R391) -/

def dbgChallenge (s : State) : Bytes := (List.range 4).flatMap (fun k => digestBytes (rget s (F.FWU_DBGCHAL_CHAL k)))

/-- The token's checks: the SAFERESET layout with its own TAG, a zero ACTION, and the debug key of the selected root. -/
def unlockOk (t : Bytes) (s : State) : Bool :=
  let r := max 1 (rget s F.FWU_DBG_ROOT)
  decide (slice t 0 4 = [0x44, 0x42, 0x55, 0x4C]) && u32 t 4 == 0 && u64 t 8 == s.fuse.serial
    && decide (slice t 0x10 16 = dbgChallenge s) && decide (s.tmp.chain ≤ u64 t 0x20) && allZero (slice t 0x28 8)
    && !(Tab.get ([], 0, true) s.fuse.root r).2.2
    && Config.sm2Verify (Tab.get [] s.fuse.dbgKey r) (slice t 0 0x30) (slice t 0x30 64)

/-- An unlock attempt: under policy AUTH, one per 10 s; each replaces the challenge, and an accepted one extends MEAS6 and
makes debug available. Without entropy every attempt is refused (R413). -/
def jtagUnlock (t : Bytes) (s : State) : State :=
  let early : Bool := match s.fwu.dbgTry with | some a => decide (sinceT s a < 200000) | none => false
  if s.pwr.boot != .running ∨ rget s F.SYS_OPT_DBG ≠ 1 ∨ early ∨ s.key.rngFail then s
  else
    let s1 := eachUpTo 4 (fun k u => let v := freeNat u; rput (F.FWU_DBGCHAL_CHAL k) v.1 v.2) { s with fwu.dbgTry := some s.tmp.now }
    if unlockOk t s then billUpdate (rput F.FWU_STATUS_DBGON 1 (measExtend 6 (t.take 112) s1)) else s1

/-- A token shifted through DBGUNLOCK (R390). -/
def execJtagUnlock (token : Bytes) (s : State) : Host.Outcome State Fault Refusal := .next (jtagUnlock token s)

end Sys2Proof.Machine
end

