-- ==== Sys2Proof/Machine/Vehicle.lean ====
section
/-!
DEFINITION. The vehicle ports (10): pilot decisions and their confirmation, proximity, the SLAC engine, message timers, the
descriptor rings of the modems and the 10BASE-T1S ports, and the CAN FD controllers.
-/

namespace Sys2Proof.Machine

def vport (s : State) (p : Nat) : VPort := Tab.get VPort.reset s.veh.v p

def onV (p : Nat) (f : VPort → VPort) (s : State) : State := { s with veh.v := Tab.upd s.veh.v p f }

def raiseV (p : Nat) (f : Nat → Fld) (s : State) : State := raise (F.VEH_EVCNT_COUNT p) [f p] s

/-- The outlet that uses V port `p` (OUTLETS field VPORT). -/
def outletOfV (s : State) (p : Nat) : Option Nat := (List.range 4).find? (fun n => oActive s n && oVport s n == p)

/-- The state of the outlet that uses port `p` lies in a list. -/
def vIn (s : State) (p : Nat) (l : List OutSt) : Bool :=
  match outletOfV s p with
  | some n => l.contains (outShown s n).st
  | none => false

/-! ### Pilot (R296–R300, R305) -/

/-- The duty the sequencer commands on port `p`, in 0.1 %: steady +12 V during a break and on an unused port. -/
def dutyNow (s : State) (p : Nat) : Nat :=
  if (vport s p).brk.isSome then 1000 else match outletOfV s p with
    | some n => (outShown s n).duty
    | none => 1000

/-- Whether a drive is PWM, neither steady −12 V (0) nor steady +12 V (1,000). -/
def isPwm (drive : Nat) : Bool := decide (0 < drive) && decide (drive < 1000)

/-- The drive code at which AON holds VnCP_DRV at 0 V (R304). -/
def drive0V : Nat := 1001

/-- The samples of a period, one every 1 µs, from `a` up to before `b`, in µs after its start. -/
def window (l : List Int) (a b : Nat) : List Int := (l.drop a).take (b - a)

/-- The mean of samples, rounded down to 1 mV (log entry 189). -/
def meanI (l : List Int) : Int := l.sum / (l.length : Int)

/-- H of a period: from 10 µs after the rising edge to 5 µs before the falling edge, or 10–990 µs with a steady drive (R297). -/
def pilotHigh (drive : Nat) (l : List Int) : Int := meanI (if isPwm drive then window l 10 (drive - 5) else window l 10 990)

/-- Lw of a period: from 10 µs after the falling edge to 5 µs before the next rising edge; it is formed under PWM alone (R297). -/
def pilotLow (drive : Nat) (l : List Int) : Int := if isPwm drive then meanI (window l (drive + 10) 995) else 0

/-- The decision bands of R298, without the diode check. -/
def pilotBand (drive : Nat) (h : Int) : Pilot :=
  if 10500 ≤ h then .a
  else if 7500 ≤ h then .b
  else if 4500 ≤ h then .c
  else if 1500 ≤ h then .d
  else if h ≤ -10500 ∧ drive = 0 then .f
  else .e

/-- The bands of a GBT outlet (R300). -/
def gbtBand (h : Int) : Pilot :=
  if 10800 ≤ h then .a
  else if 5200 ≤ h ∧ h ≤ 6800 then .b
  else if 3200 ≤ h ∧ h ≤ 4800 then .c
  else .e

/-- The diode check applies: PWM, a level of B, C or D, no GBT outlet (R298, R300). -/
def diodeChecked (drive : Nat) (gbt : Bool) (h : Int) : Bool :=
  !gbt && isPwm drive && (pilotBand drive h == .b || pilotBand drive h == .c || pilotBand drive h == .d)

/-- The decision of one period, from the drive, H and Lw (R298, R300). -/
def pilotDecide (drive : Nat) (gbt : Bool) (h low : Int) : Pilot :=
  if gbt then gbtBand h
  else if diodeChecked drive gbt h ∧ -10500 < low then .e
  else pilotBand drive h

/-- PROX_OK set, with PROXCHG where it changes (R300, R302); the sequencer sees it from the next edge (R55). -/
def proxSet (n : Nat) (b : Bool) (s : State) : State :=
  if (outlet s n).proxN = b then s
  else onOutlet n (fun o => { o with proxN := b }) s |> raiseV (oVport s n) F.VEH_FLAGS_PROXCHG

/-- N_CONFIRM equal decisions confirm a pilot state (R119); a confirmed C of a GBT outlet sets PROX_OK, a confirmed A or B
clears it (R300). The sequencer sees the state from the next edge (R55). -/
def pilotConfirm (n : Nat) (s : State) : State :=
  let o := outlet s n
  if o.pRun = 0 ∨ o.pRun < oNconfirm s n then s
  else
    let s1 := onOutlet n (fun o => { o with pilotN := o.pLast }) s
    if oType s n ≠ tyGbt then s1
    else match o.pLast with
      | .c => proxSet n true s1
      | .a | .b => proxSet n false s1
      | _ => s1

/-- One decision counted for an outlet (R119). -/
def pilotCount (n : Nat) (dc : Pilot) (s : State) : State :=
  onOutlet n (fun o => { o with pLast := dc, pRun := if o.pRun ≠ 0 ∧ o.pLast = dc then min 255 (o.pRun + 1) else 1 }) s

/-- The port serves an outlet of type GBT. -/
def gbtPort (s : State) (p : Nat) : Bool := match outletOfV s p with | some n => oType s n == tyGbt | none => false

/-- The V ports work: VEH is on, and the module is a post, whose ports alone are enabled. -/
def vOn (s : State) : Bool := s.pwr.vehOn && isPost s

/-- The decision of a period on a port, from H and Lw: the stream, VEH_PLVL, VEH_PSTAT and the diode check (R297, R298). -/
def pilotPeriod (p : Nat) (high low : Int) (s : State) : State :=
  let drive := (vport s p).drive
  let gbt := gbtPort s p
  let checked := diodeChecked drive gbt high
  let bad := checked && decide (-10500 < low)
  let s1 := strmPut (20 + p) high (onV p (fun v =>
    { v with raw := pilotDecide drive gbt high low, high := high, low := low, diodeOk := if checked then !bad else v.diodeOk }) s)
  if bad then raiseV p F.VEH_FLAGS_DIODE s1 else s1

/-- PILOT_DECISION: the decision of the period, and for the outlet of the port the count of equal decisions. -/
def execPilotDecision (p : Fin 4) (fst snd : List Int) (s : State) : Host.Outcome State Fault Refusal :=
  if !vOn s then .next s
  else
    let samples := fst ++ snd
    let s1 := pilotPeriod p (pilotHigh (vport s p).drive samples) (pilotLow (vport s p).drive samples) s
    match outletOfV s p with
    | none => .next s1
    | some n => .next (pilotConfirm n (pilotCount n (vport s1 p).raw s1))

/-- PILOT_STATE_CONFIRMED. -/
def execPilotStateConfirmed (n : Fin 4) (s : State) : Host.Outcome State Fault Refusal :=
  .next (if oActive s n then pilotConfirm n s else s)

/-- PILOT_BREAK: accepted in PLUGGED, AUTH_WAIT and NEGOTIATE alone; BREAKMS taken as the nearer bound (R305). -/
def execPilotBreak (p : Fin 4) (s : State) : Host.Outcome State Fault Refusal :=
  if vIn s p [.plugged, .authWait, .negotiate] then
    .next (onV p (fun v => { v with brk := some (s.tmp.now + 20 * max 100 (min 4000 (rget s (F.VEH_PCTL_BREAKMS p)))) }) s)
  else .next s

/-- PILOT_BREAK_END: BREAKMS has run; the 5.0 % PWM resumes from the next period (R296). -/
def execPilotBreakEnd (p : Fin 4) (s : State) : Host.Outcome State Fault Refusal :=
  match (vport s p).brk with
  | some t => .next (if t ≤ s.tmp.now then onV p (fun v => { v with brk := none }) s else s)
  | none => .next s

/-! ### Proximity (R301–R303) -/

/-- R in ohms from U in µV: rounded to nearest, bounded to 65,535 (R301; log entry 50). -/
def proxRes (uv : Nat) : Nat :=
  if 4950000 ≤ uv then 65535 else min 65535 ((2 * 1000 * uv + (5000000 - uv)) / (2 * (5000000 - uv)))

/-- The AC3 coded capacity in amperes, 0 outside the bands. -/
def proxCap (r : Nat) : Nat :=
  if 80 ≤ r ∧ r ≤ 140 then 63 else if 164 ≤ r ∧ r ≤ 308 then 32 else if 400 ≤ r ∧ r ≤ 936 then 20
  else if 1100 ≤ r ∧ r ≤ 2000 then 13 else 0

/-- A result agrees on 1 (R302). -/
def proxAgrees (s : State) (n r : Nat) : Bool :=
  decide (oProxLo s n ≤ r) && decide (r ≤ oProxHi s n) && (oType s n != tyAc3 || proxCap r != 0)

/-- U of a window of samples, in µV (R301). -/
def proxMean (l : List Nat) : Nat := l.sum / l.length

/-- PROXIMITY_RESULT: the resistance to the stream and the register; three agreeing results change PROX_OK. -/
def execProximityResult (p : Fin 4) (samples : List Nat) (s : State) : Host.Outcome State Fault Refusal :=
  let r := proxRes (proxMean samples)
  if !vOn s then .next s else
  let s1 := strmPut (24 + p) (r : Int) (onV p (fun v => { v with res := r }) s)
  match outletOfV s p with
  | none => .next s1
  | some n =>
    if oType s n = tyGbt then .next s1
    else
      let a := proxAgrees s n r
      let v := vport s p
      let run := if v.pxRun ≠ 0 ∧ v.pxLast = a then min 3 (v.pxRun + 1) else 1
      let s2 := onV p (fun v => { v with pxLast := a, pxRun := run }) s1
      .next (if 3 ≤ run then proxSet n a s2 else s2)

/-- PLUG_DETECT: in S3 or S4 with VIN_MAIN above the threshold, a level below 10.5 V for 1 ms wakes the module; the waking
decision counts as the first of N_CONFIRM (R304, R141). -/
def execPlugDetect (p : Fin 4) (mv : Int) (us : Nat) (s : State) : Host.Outcome State Fault Refusal :=
  if (s.pwr.sys = .s3 ∨ s.pwr.sys = .s4) ∧ s.pwr.pfw = false ∧ mv < 10500 ∧ 1000 ≤ us then
    match outletOfV s p with
    | some n =>
      let dc := pilotDecide 1000 (oType s n == tyGbt) mv 0
      .next (wakeFire p (if s.pwr.sys = .s3 then onOutlet n (fun o => { o with pLast := dc, pRun := 1 }) s else s))
    | none => .next s
  else .next s

/-! ### SLAC engine (R308–R311) -/

/-- A timer value in tempos, the nearer bound for a value outside its range. -/
def slacLimit (s : State) (p : Nat) : SlacTimer → Nat
  | .init => 20000 * max 1 (rget s (F.VEH_SLACT0_INIT p))
  | .join => 20000 * max 1 (rget s (F.VEH_SLACT0_JOIN p))
  | .seq => 20 * max 10 (min 10000 (rget s (F.VEH_SLACT1_SEQ p)))
  | .resp => 20 * max 10 (min 10000 (rget s (F.VEH_SLACT1_RESP p)))

def mnbc (s : State) (p : Nat) : Nat := 20 * max 100 (min 2000 (rget s (F.VEH_SLACT0_MNBC p)))

def slacTimer (v : VPort) : SlacTimer → Option Nat
  | .init => v.init
  | .seq => v.seqT
  | .resp => v.resp
  | .join => v.join

/-- The code of a timer in VEH_SLACS.TMR. -/
def slacCode : SlacTimer → Nat
  | .init => 1 | .seq => 2 | .resp => 3 | .join => 4

/-- The modem is on. -/
def hpOn (s : State) (p : Nat) : Bool := s.pwr.vehOn && isPost s && rbit s (F.VEH_HPCFG_EN p)

/-- The registers of a byte string from `a` on, laid out as in R53. -/
def putDigest (a n : Nat) (b : Bytes) (s : State) : State :=
  eachUpTo n (fun k t => rput ⟨a + 4 * k, 0, 32, 0⟩ (digestWord b k) t) s

def vBase (p : Nat) : Nat := 0x100B0000 + 0x100 * p

/-- The captures cleared: RunID, MAC, attenuations, sounds, and the cross-port bytes. -/
def slacClear (p : Nat) (s : State) : State :=
  s |> onV p (fun v => { v with runId := [], win := none, nsound := 0, att := [], xsum := Vector.replicate 4 (0, 0) })
    |> putDigest (vBase p + 0x30) 19 [] |> rput (F.VEH_SLACS_NSOUND p) 0 |> rput (F.VEH_XATT_ATT p) 0xFFFFFFFF

/-- All SLAC timers stopped. -/
def slacStop (p : Nat) (s : State) : State :=
  onV p (fun v => { v with init := none, seqT := none, resp := none, join := none }) s

def slacStart (p : Nat) (s : State) : State :=
  s |> slacStop p |> slacClear p |> onV p (fun v => { v with slac := .waitParm, init := some s.tmp.now })

/-- The SEQ timer restarts, outside SOUNDING and before WAIT_JOIN (R309). -/
def seqRestart (p : Nat) (s : State) : State :=
  onV p (fun v => if v.slac ∈ [SlacSt.waitStart, .waitMatch] then { v with seqT := some s.tmp.now } else v) s

/-- The session taken up from a CM_SLAC_PARM.REQ. -/
def slacCapture (p : Nat) (runId mac : Bytes) (s : State) : State :=
  s |> slacStop p |> slacClear p
    |> onV p (fun v => { v with slac := .waitStart, runId := slice runId 0 8, seqT := some s.tmp.now })
    |> putDigest (vBase p + 0x30) 2 (slice runId 0 8) |> putDigest (vBase p + 0x38) 2 (slice mac 0 6 ++ [0, 0])

/-- Whether a RunID is the session's. -/
def ownRun (s : State) (p : Nat) (runId : Bytes) : Bool := (vport s p).runId == slice runId 0 8

/-- SLAC_PARM_REQ_RX: the session is captured, or replaced by a new RunID (R308, R310). -/
def execSlacParmReqRx (p : Fin 4) (runId mac : Bytes) (s : State) : Host.Outcome State Fault Refusal :=
  if hpOn s p = false then .next s
  else match (vport s p).slac with
    | .waitParm => .next (raiseV p F.VEH_FLAGS_PARM (slacCapture p runId mac s))
    | .waitStart | .sounding | .waitMatch =>
      if ownRun s p runId then .next (seqRestart p s)
      else .next (raise (F.VEH_EVCNT_COUNT p) [F.VEH_FLAGS_PARM p, F.VEH_FLAGS_RUNID p] (slacCapture p runId mac s))
    | .off | .waitJoin | .joined | .failed => .next s

/-- START_ATTEN_CHAR_RX: a sounding window opens in WAIT_START; the SEQ timer is suspended. -/
def execStartAttenCharRx (p : Fin 4) (runId : Bytes) (s : State) : Host.Outcome State Fault Refusal :=
  if hpOn s p && ownRun s p runId then
    if (vport s p).slac = .waitStart then
      .next (onV p (fun v => { v with slac := .sounding, seqT := none, win := some s.tmp.now, nsound := 0,
                                      att := List.replicate 58 0, xsum := Vector.replicate 4 (0, 0) }) s)
    else .next (seqRestart p s)
  else .next s

/-- A sound recorded on its own port: the groups' attenuations and the count. -/
def soundOwn (p : Nat) (att : List Nat) (s : State) : State :=
  onV p (fun v =>
    { v with nsound := min 255 (v.nsound + 1),
             att := (List.range 58).map (fun g => v.att.getD g 0 + att.getD g 0),
             xsum := Tab.upd v.xsum p (fun x => (x.1 + ((List.range 58).map (fun g => att.getD g 0)).sum, x.2 + 1)) }) s

/-- The same sound heard on port `q`, in OFF or WAIT_PARM, for the window of port `p` (R311). -/
def soundCross (q : Nat) (runId : Bytes) (att : List Nat) (p : Nat) (s : State) : State :=
  if p ≠ q ∧ (vport s p).slac = .sounding ∧ ownRun s p runId then
    onV p (fun v =>
      { v with xsum := Tab.upd v.xsum q (fun x => (x.1 + ((List.range 58).map (fun g => att.getD g 0)).sum, x.2 + 1)) }) s
  else s

/-- MNBC_SOUND_RX: a sound with the session's RunID is recorded in SOUNDING; a port in OFF or WAIT_PARM measures the sounds of
another port's window. -/
def execMnbcSoundRx (p : Fin 4) (runId : Bytes) (att : List Nat) (s : State) : Host.Outcome State Fault Refusal :=
  if hpOn s p = false then .next s
  else match (vport s p).slac with
    | .sounding => .next (if ownRun s p runId then soundOwn p att s else s)
    | .off | .waitParm => .next (eachUpTo 4 (soundCross p runId att) s)
    | .waitStart | .waitMatch | .waitJoin | .joined | .failed => .next s

/-- A mean in dB, rounded to nearest. -/
def meanDb (sum n : Nat) : Nat := (2 * sum + n) / (2 * n)

/-- A mean over sounds as its byte; 0xFF where none was heard (R311). -/
def xattByte (x : Nat × Nat) : Nat := if x.2 = 0 then 0xFF else min 255 (meanDb x.1 (58 * x.2))

/-- MNBC_WINDOW_EXPIRY: averages and count are written, ATTEN sets, the SEQ timer restarts. The averages of a window without
a sound are free (log entry 4). -/
def execMnbcWindowExpiry (p : Fin 4) (s : State) : Host.Outcome State Fault Refusal :=
  let v := vport s p
  match v.win with
  | none => .next s
  | some t0 =>
    if v.slac = .sounding ∧ t0 + mnbc s p ≤ s.tmp.now then
      let fr := freeNat s
      let avg : Bytes := (List.range 58).map (fun g =>
        BitVec.ofNat 8 (if v.nsound = 0 then fr.1 / 256 ^ g else meanDb (v.att.getD g 0) v.nsound))
      let x := (List.range 4).foldl (fun a q => a + 256 ^ q * xattByte (Tab.get (0, 0) v.xsum q)) 0
      .next ((if v.nsound = 0 then fr.2 else s)
        |> onV p (fun v => { v with slac := .waitMatch, win := none, seqT := some s.tmp.now })
        |> putDigest (vBase p + 0x40) 15 avg |> rput (F.VEH_SLACS_NSOUND p) v.nsound |> rput (F.VEH_XATT_ATT p) x
        |> raiseV p F.VEH_FLAGS_ATTEN)
    else .next s

/-- The engine follows a session: from CM_SLAC_PARM.REQ until a timer expires or the session is left (R308). -/
def inSession (s : State) (p : Nat) (runId : Bytes) : Bool :=
  hpOn s p && !([SlacSt.off, .waitParm, .failed].contains (vport s p).slac) && ownRun s p runId

/-- ATTEN_CHAR_IND_TX: the RESP timer starts, the SEQ timer restarts (R309). -/
def execAttenCharIndTx (p : Fin 4) (runId : Bytes) (s : State) : Host.Outcome State Fault Refusal :=
  if inSession s p runId then .next (seqRestart p (onV p (fun v => { v with resp := some s.tmp.now }) s)) else .next s

/-- ATTEN_CHAR_RSP_RX: the RESP timer stops, the SEQ timer restarts. -/
def execAttenCharRspRx (p : Fin 4) (runId : Bytes) (s : State) : Host.Outcome State Fault Refusal :=
  if inSession s p runId then .next (seqRestart p (onV p (fun v => { v with resp := none }) s)) else .next s

/-- SLAC_MATCH_REQ_RX: MATCH sets in WAIT_MATCH. -/
def execSlacMatchReqRx (p : Fin 4) (runId : Bytes) (s : State) : Host.Outcome State Fault Refusal :=
  if hpOn s p && (vport s p).slac == .waitMatch && ownRun s p runId then
    .next (raiseV p F.VEH_FLAGS_MATCH (seqRestart p s))
  else .next s

/-- SLAC_MATCH_CNF_TX: WAIT_JOIN, the JOIN timer starts and the SEQ timer stops (R308, R309). -/
def execSlacMatchCnfTx (p : Fin 4) (runId : Bytes) (s : State) : Host.Outcome State Fault Refusal :=
  if hpOn s p && (vport s p).slac == .waitMatch && ownRun s p runId then
    .next (onV p (fun v => { v with slac := .waitJoin, seqT := none, join := some s.tmp.now }) s)
  else .next s

/-- EV_JOIN: the JOIN timer stops and JOINED sets. -/
def execEvJoin (p : Fin 4) (s : State) : Host.Outcome State Fault Refusal :=
  if (vport s p).slac = .waitJoin then
    .next (raiseV p F.VEH_FLAGS_JOINED (onV p (fun v => { v with slac := .joined, join := none }) s))
  else .next s

/-- EV_LEAVE: LINKDOWN sets and the engine fails. -/
def execEvLeave (p : Fin 4) (s : State) : Host.Outcome State Fault Refusal :=
  if (vport s p).slac = .joined then
    .next (raiseV p F.VEH_FLAGS_LINKDOWN (onV p (fun v => { v with slac := .failed }) s))
  else .next s

/-- SLAC_TIMER_EXPIRY: a timer that has run out stops, SLACTO sets, TMR records it, and the engine fails. -/
def execSlacTimerExpiry (p : Fin 4) (t : SlacTimer) (s : State) : Host.Outcome State Fault Refusal :=
  match slacTimer (vport s p) t with
  | none => .next s
  | some t0 =>
    if (vport s p).slac ≠ .off ∧ t0 + slacLimit s p t ≤ s.tmp.now then
      .next (onV p (fun v => match t with
          | .init => { v with slac := .failed, tmr := slacCode t, init := none }
          | .seq => { v with slac := .failed, tmr := slacCode t, seqT := none }
          | .resp => { v with slac := .failed, tmr := slacCode t, resp := none }
          | .join => { v with slac := .failed, tmr := slacCode t, join := none }) s
        |> raiseV p F.VEH_FLAGS_SLACTO)
    else .next s

/-- SLACRST written, in any state but OFF. -/
def execSlacrst (p : Fin 4) (s : State) : Host.Outcome State Fault Refusal :=
  .next (if (vport s p).slac = .off then s else slacStart p s)

/-- HPCFG_EN_WRITE: EN = 0 is ignored while the outlet of the port is in PLUGGED to WELD_CHECK (R312). -/
def execHpcfgEnWrite (p : Fin 4) (en : Bool) (s : State) : Host.Outcome State Fault Refusal :=
  if !en && vIn s p [.plugged, .authWait, .negotiate, .cableCheck, .precharge, .energy, .rampDown, .weldCheck] then .next s
  else .next (rputB (F.VEH_HPCFG_EN p) en s)

/-! ### Message timers (R313, R314) -/

/-- The chain-time millisecond of the running tempo. -/
def chainMs (s : State) : Nat := s.tmp.chain / 1000000

def mtimStart (n k : Nat) (s : State) : State :=
  onV n (fun v => { v with mt := Tab.upd v.mt k (fun _ => some (chainMs s)) }) s

def mtimStop (n k : Nat) (s : State) : State := onV n (fun v => { v with mt := Tab.upd v.mt k (fun _ => none) }) s

/-- PRESET and ACT of timer `k` of outlet `n`. -/
def mtimPreset (s : State) (n k : Nat) : Nat := rget s (if k = 0 then F.VEH_MTIM0_PRESET n else F.VEH_MTIM1_PRESET n)
def mtimAct (s : State) (n k : Nat) : Bool := rbit s (if k = 0 then F.VEH_MTIM0_ACT n else F.VEH_MTIM1_ACT n)

/-- MTIM_START: a write of START. -/
def execMtimStart (n : Fin 4) (k : Fin 2) (s : State) : Host.Outcome State Fault Refusal := .next (mtimStart n k s)

/-- MTIM_STOP: a write of STOP. -/
def execMtimStop (n : Fin 4) (k : Fin 2) (s : State) : Host.Outcome State Fault Refusal := .next (mtimStop n k s)

/-- MTIM_EXPIRY: PRESET milliseconds have passed, at least one boundary; MTEXP sets, and with ACT in ENERGY a REQ STOP is due
at the next edge. -/
def execMtimExpiry (n : Fin 4) (k : Fin 2) (s : State) : Host.Outcome State Fault Refusal :=
  match Tab.get none (vport s n).mt k with
  | none => .next s
  | some m =>
    if m + max 1 (mtimPreset s n k) ≤ chainMs s then
      let s1 := mtimStop n k s |> raiseV n (if k.val = 0 then F.VEH_FLAGS_MTEXP0 else F.VEH_FLAGS_MTEXP1)
      .next (if mtimAct s n k && (outShown s n).st == .energy then onV n (fun v => { v with stopReq := true }) s1 else s1)
    else .next s

/-! ### Frame descriptors (R315–R319): ports 0–3 are V0–V3, 4 and 5 are M0 and M1 -/

/-- The bit of a flag of port `p`: 0 TXDONE, 1 RXDONE, 2 BUFERR, 3 RXDROP. -/
def raisePort (p k : Nat) (s : State) : State :=
  if p < 4 then
    raiseV p (match k with
      | 0 => F.VEH_FLAGS_TXDONE | 1 => F.VEH_FLAGS_RXDONE | 2 => F.VEH_FLAGS_BUFERR | _ => F.VEH_FLAGS_RXDROP) s
  else if p = 4 then
    raise F.VEH_EVCNT4_COUNT [⟨0x100B0600, k, 1, 0⟩] s
  else rsat F.VEH_EVCNT4_COUNT 1 (rputAt F.VEH_FLAGS4_M1 k true s)

/-- The port runs: the VEH domain is on, the role is post, and the modem or the T1S port is on. -/
def ethOn (s : State) (p : Nat) : Bool :=
  s.pwr.vehOn && isPost s && (if p < 4 then rbit s (F.VEH_HPCFG_EN p) else rbit s (F.VEH_T1CFG_EN (p - 4)))

def vehLo : Nat := 0x9E8000000
def vehHi : Nat := 0x9EA000000

/-- A ring's first address and number of descriptors, where EN is 1, SIZE is legal and the ring lies in the buffer range. -/
def ringOf (s : State) (base en size : Fld) : Option (Nat × Nat) :=
  let a := 16 * rget s base
  let n := 2 ^ (rget s size + 4)
  if rbit s en ∧ rget s size ≤ 6 ∧ vehLo ≤ a ∧ a + 16 * n ≤ vehHi then some (a, n) else none

def txRing (s : State) (p : Nat) : Option (Nat × Nat) :=
  ringOf s (F.VEH_TXR_BASE_BASE p) (F.VEH_TXR_CTL_EN p) (F.VEH_TXR_CTL_SIZE p)

def rxRing (s : State) (p : Nat) : Option (Nat × Nat) :=
  ringOf s (F.VEH_RXR_BASE_BASE p) (F.VEH_RXR_CTL_EN p) (F.VEH_RXR_CTL_SIZE p)

def mport (s : State) (m : Nat) : MPort := Tab.get ⟨0, [], [], 0, 0⟩ s.veh.m m

def onM (m : Nat) (f : MPort → MPort) (s : State) : State := { s with veh.m := Tab.upd s.veh.m m f }

def txIdx (s : State) (p : Nat) : Nat := if p < 4 then (vport s p).txIdx else (mport s (p - 4)).txIdx
def rxIdx (s : State) (p : Nat) : Nat := if p < 4 then (vport s p).rxIdx else (mport s (p - 4)).rxIdx
def portFifo (s : State) (p : Nat) : List (Nat × Bytes) := if p < 4 then (vport s p).fifo else (mport s (p - 4)).fifo

def setTxIdx (p i : Nat) (s : State) : State :=
  if p < 4 then onV p (fun v => { v with txIdx := i }) s else onM (p - 4) (fun m => { m with txIdx := i }) s

def setRxIdx (p i : Nat) (s : State) : State :=
  if p < 4 then onV p (fun v => { v with rxIdx := i }) s else onM (p - 4) (fun m => { m with rxIdx := i }) s

def setFifo (p : Nat) (l : List (Nat × Bytes)) (s : State) : State :=
  if p < 4 then onV p (fun v => { v with fifo := l }) s else onM (p - 4) (fun m => { m with fifo := l }) s

def setSent (p : Nat) (b : Bytes) (s : State) : State :=
  if p < 4 then onV p (fun v => { v with sent := b }) s else onM (p - 4) (fun m => { m with sent := b }) s

/-- The whole buffer lies in the vehicle-port range. -/
def vehBuf (a n : Nat) : Bool := decide (vehLo ≤ a) && decide (a + n ≤ vehHi)

/-- A descriptor handed back: LEN and FLAGS with OWN cleared, and the time stamp. -/
def descBack (a len flags ts : Nat) (s : State) : State :=
  memWrite (a + 8) (leBytes 2 len ++ leBytes 2 (flags % 32768) ++ leBytes 4 ts) s

/-- The outlet whose COMM field names port `p`. -/
def outletOfPort (s : State) (p : Nat) : Option Nat :=
  (List.range 4).find? (fun n => oActive s n &&
    (if p < 4 then oComm s n == 1 && oVport s n == p else oComm s n == p - 2))

/-- The message timers a descriptor starts (R313). -/
def mtFlags (s0 : State) (p flags : Nat) (s : State) : State :=
  match outletOfPort s0 p with
  | none => s
  | some n =>
    let s1 := if flags.testBit 0 then mtimStart n 0 s else s
    if flags.testBit 1 then mtimStart n 1 s1 else s1

/-- The next transmit descriptor taken, in the address and index given. -/
def txOne (p ns : Nat) (own : Bool) (coll a n : Nat) (s : State) : State :=
  let d := memRead s a 16
  let len := u16 d 8
  let flags := u16 d 0xA
  let addr := u64 d 0
  let ts := (s.tmp.chain + ns) % 4294967296
  let s1 := setTxIdx p ((txIdx s p + 1) % n) s
  if flags.testBit 15 = false then s
  else if len = 0 then raisePort p 0 (descBack a len flags ts s1)
  else if 1514 < len then
    raisePort p 2 (rsat F.VEH_LENERR_COUNT 1 (descBack a len (setBit flags 14 true) (u32 d 0xC) s1))
  else if len < 14 ∨ vehBuf addr len = false then raisePort p 2 (descBack a len (setBit flags 14 true) (u32 d 0xC) s1)
  else
    let s2 := s1 |> setSent p (memRead s addr len) |> mtFlags s p flags |> descBack a len flags ts
    let s3 := if p < 4 ∧ own then seqRestart p s2 else s2
    let s4 := if 4 ≤ p then rsat (F.VEH_T1STAT_COLL (p - 4)) coll s3 else s3
    raisePort p 0 s4

/-- FLAGS bits of a received frame: MME for Ethertype 0x88E1, SLAC for the MMTYPE bases of R307 (PRESUMED, log entry 51:
MMTYPE follows the management message version). -/
def mmFlags (p : Nat) (f : Bytes) : Nat :=
  if p < 4 ∧ u8 f 12 = 0x88 ∧ u8 f 13 = 0xE1 then
    2 + 4 * b2n (decide (u16 f 15 / 4 * 4 ∈ [0x6064, 0x6068, 0x606C, 0x6074, 0x607C]))
  else 0

/-- One receive descriptor worked off: `none` where no frame waits or hardware owns no descriptor. -/
def rxOne (p a n : Nat) (s : State) : Option State :=
  match portFifo s p with
  | [] => none
  | (t, f) :: rest =>
    let da := a + 16 * (rxIdx s p % n)
    let d := memRead s da 16
    let flags := u16 d 0xA
    if flags.testBit 15 = false then none
    else if u16 d 8 < f.length then some (rsat F.VEH_LENERR_COUNT 1 (setFifo p rest s))
    else if vehBuf (u64 d 0) (u16 d 8) = false then
      some (raisePort p 2 (descBack da (u16 d 8) (setBit flags 14 true) (u32 d 0xC) (setRxIdx p ((rxIdx s p + 1) % n) s)))
    else
      some (setFifo p rest (setRxIdx p ((rxIdx s p + 1) % n) s)
        |> memWrite (u64 d 0) f |> descBack da f.length (mmFlags p f) (t % 4294967296) |> raisePort p 1)

/-- Waiting frames put into descriptors while hardware owns one (R317). -/
def rxDrain : Nat → Nat → State → State
  | 0, _, s => s
  | k + 1, p, s =>
    match rxRing s p with
    | none => s
    | some (a, n) => match rxOne p a n s with
      | some t => rxDrain k p t
      | none => s

/-- The receive FIFO: 16 KB of frame bytes (R306). -/
def fifoFits (s : State) (p len : Nat) : Bool :=
  decide (((portFifo s p).map (fun x => x.2.length)).sum + len ≤ 16384)

/-- A frame that does not fit is dropped and counted (R317). -/
def rxDropped (p : Nat) (s : State) : State := raisePort p 3 (rsat (F.VEH_RXDROP_COUNT p) 1 s)

/-- RX_FRAME: written to the next receive descriptor, rejected for its length, held in the FIFO, or dropped. -/
def execRxFrame (p : Fin 6) (ns : Nat) (own : Bool) (frame : Bytes) (s : State) : Host.Outcome State Fault Refusal :=
  if ethOn s p = false then .next s
  else
    let s1 := if p.val < 4 then (if own && !(u16 frame 15 / 4 * 4 == 0x6074) then seqRestart p s else s)
      else onM (p - 4) (fun m => { m with heard := s.tmp.now }) s
    if fifoFits s p frame.length then
      .next (rxDrain 1100 p (setFifo p (portFifo s p ++ [(s.tmp.chain + ns, frame)]) s1))
    else .next (rxDropped p s1)

/-- T1S_QUIET: no frame for LINKTO; the flag sets again after each further LINKTO (R319). -/
def execT1sQuiet (m : Fin 2) (s : State) : Host.Outcome State Fault Refusal :=
  if ethOn s (4 + m) && decide ((mport s m).heard + 200 * max 1 (rget s (F.VEH_T1CFG_LINKTO m)) ≤ s.tmp.now) then
    .next (raisePort (4 + m) 4 (onM m (fun x => { x with heard := s.tmp.now }) s))
  else .next s

/-! ### CAN FD controllers (R320–R324) -/

def canCtl (s : State) (k : Nat) : CanCtl := Tab.get CanCtl.reset s.veh.can k

def onCan (k : Nat) (f : CanCtl → CanCtl) (s : State) : State := { s with veh.can := Tab.upd s.veh.can k f }

/-- A flag of controller `k`: 0 RXAVAIL, 1 RXOVF, 2 RXTO, 3 TXFULL, 4 BUSOFF. -/
def raiseCan (k i : Nat) (s : State) : State := rsat F.VEH_EVCNT5_COUNT 1 (rputAt F.VEH_FLAGS5_CANk (5 * k + i) true s)


def canSlotF (k i off lo w : Nat) : Fld := ⟨0x100B8000 + 0x800 * k + 0x80 * i + off, lo, w, 0⟩
def canFiltF (k f off lo w : Nat) : Fld := ⟨0x100BA000 + 0x100 * k + 8 * f + off, lo, w, 0⟩
def canWdF (k f : Nat) : Fld := ⟨0x100BA800 + 0x100 * k + 4 * f, 0, 16, 0⟩
def canPushF (k off lo w : Nat) : Fld := ⟨0x100BD000 + 0x100 * k + off, lo, w, 0⟩

/-- The header word of ID, IDE, FD and BRS kept as four fields of the register at `f`. -/
def canHdr (s : State) (f : Nat → Nat → Fld) : Nat :=
  rget s (f 0 29) + 2 ^ 29 * rget s (f 29 1) + 2 ^ 30 * rget s (f 30 1) + 2 ^ 31 * rget s (f 31 1)

/-- The 64 data bytes of a window, in address order. -/
def canData (s : State) (f : Nat → Fld) : Bytes := (List.range 16).flatMap (fun w => leBytes 4 (rget s (f w)))

/-- The lengths a CAN FD data length code encodes. -/
def canLens : List Nat := [0, 1, 2, 3, 4, 5, 6, 7, 8, 12, 16, 20, 24, 32, 48, 64]

/-- A message padded with zero bytes to the next encodable length. -/
def canPad (b : Bytes) : Bytes :=
  match canLens.find? (fun n => decide (b.length ≤ n)) with
  | some n => b ++ List.replicate (n - b.length) 0
  | none => b

/-- CAN_BUS_OFF. The error counters it leaves are the standard's, and free here (log entry 4). -/
def execCanBusOff (k : Fin 4) (s : State) : Host.Outcome State Fault Refusal :=
  if canRuns s k then
    let v := freeNat s
    .next (v.2 |> rput (F.VEH_CANST_ERRST k) 2 |> rput (F.VEH_CANST_TEC k) v.1 |> rput (F.VEH_CANST_REC k) (v.1 / 256)
      |> raiseCan k 4)
  else .next s

/-- CAN_BUS_OFF_RECOVERY: with AUTOREC, error active again, the counters at 0. -/
def execCanBusOffRecovery (k : Fin 4) (s : State) : Host.Outcome State Fault Refusal :=
  if rget s (F.VEH_CANST_ERRST k) = 2 ∧ (matrixCan s k || rbit s (F.VEH_CANCFG_AUTOREC k)) then
    .next (s |> rput (F.VEH_CANST_ERRST k) 0 |> rput (F.VEH_CANST_TEC k) 0 |> rput (F.VEH_CANST_REC k) 0)
  else .next s

/-- CAN_SLOT_TX: a used slot sends at each chain-time multiple of PERIOD ms plus PHASE ms, from its current buffer. -/
def execCanSlotTx (k : Fin 4) (i : Fin 16) (s : State) : Host.Outcome State Fault Refusal :=
  let per := rget s (canSlotF k i 4 16 16)
  let ph := rget s (canSlotF k i 4 0 16)
  if canRuns s k && rbit s (canSlotF k i 8 31 1) && crossesAt s (1000000 * per) (1000000 * ph) then
    let b := slice (Tab.get [] (canCtl s k).cur i) 0 (min 64 (rget s (canSlotF k i 8 0 7)))
    .next (onCan k (fun c => { c with sent := some ⟨canHdr s (canSlotF k i 0), canPad b, 0, s.tmp.chain⟩ }) s)
  else .next s

/-- CAN_SLOT_SWAP: the shadow becomes current from the next transmission; a write to the matrix controller's slots is discarded
(R321, R322). -/
def execCanSlotSwap (k : Fin 4) (i : Fin 16) (s : State) : Host.Outcome State Fault Refusal :=
  if matrixCan s k then .next s else .next (onCan k (fun c => { c with cur := Tab.upd c.cur i (fun _ => canData s (fun w => canSlotF k i (0x10 + 4 * w) 0 32)) }) s)

/-- Whether a header matches filter `f`: used, the same IDE, and ID equal where MASK has a 1. -/
def canMatches (s : State) (k hdr f : Nat) : Bool :=
  let m := rget s (canFiltF k f 4 0 29)
  rbit s (canFiltF k f 0 31 1) && (rget s (canFiltF k f 0 29 1) == field hdr 29 1)
    && ((field hdr 0 29 &&& m) == (rget s (canFiltF k f 0 0 29) &&& m))

/-- CAN_RX_FRAME: a match rearms the watchdogs of its filters and clears their bits; the message goes into the FIFO with the
lowest matching index, or is dropped with RXOVF; without a match it is discarded. -/
def execCanRxFrame (k : Fin 4) (hdr : Word) (data : Bytes) (s : State) : Host.Outcome State Fault Refusal :=
  let fs := (List.range 32).filter (canMatches s k hdr.toNat)
  match canRuns s k, fs with
  | true, f :: _ =>
    let s1 := fs.foldl (fun t g =>
      rputAt (F.VEH_CANRXTO_FILT k) g false (onCan k (fun c => { c with seen := Tab.upd c.seen g (fun _ => s.tmp.now) }) t)) s
    if (canCtl s k).rx.length < 64 then
      .next (wakeFire 14 (raiseCan k 0 (onCan k (fun c =>
        { c with rx := c.rx ++ [⟨hdr.toNat, slice data 0 (min 64 data.length), f, s.tmp.chain⟩] }) s1)))
    else .next (raiseCan k 1 s1)
  | _, _ => .next s

/-- CAN_RX_TIMEOUT: a watchdog runs TIMEOUT without a match; RXTO and its bit set. -/
def execCanRxTimeout (k : Fin 4) (f : Fin 32) (s : State) : Host.Outcome State Fault Refusal :=
  let lim := 20 * max 1 (rget s (canWdF k f))
  if canEn s k && rbit s (canFiltF k f 0 31 1) && rbit s (canFiltF k f 4 31 1)
      && !(rget s (F.VEH_CANRXTO_FILT k)).testBit f && decide (Tab.get 0 (canCtl s k).seen f + lim ≤ s.tmp.now) then
    .next (raiseCan k 2 (rputAt (F.VEH_CANRXTO_FILT k) f true s))
  else .next s

/-- A message length that the controller rejects: above 64, or above 8 in a classical frame. -/
def canLenBad (fd : Bool) (len : Nat) : Bool := decide (64 < len) || (!fd && decide (8 < len))

/-- CAN_TX_PUSH: the message of the push window is queued, refused with TXFULL, or rejected for its length (R44, R324); a push to
the matrix controller's window is discarded (R321). -/
def execCanTxPush (k : Fin 4) (s : State) : Host.Outcome State Fault Refusal :=
  if matrixCan s k then .next s
  else if canLenBad (rbit s (canPushF k 0 30 1)) (rget s (canPushF k 4 0 7)) then .next (rsat F.VEH_LENERR_COUNT 1 s)
  else if (canCtl s k).tx.length < 32 then
    let b := slice (canData s (fun w => canPushF k (0x10 + 4 * w) 0 32)) 0 (min 64 (rget s (canPushF k 4 0 7)))
    .next (onCan k (fun c => { c with tx := c.tx ++ [⟨canHdr s (canPushF k 0), canPad b, 0, s.tmp.chain⟩] }) s)
  else .next (raiseCan k 3 s)

/-- CAN_RX_HEAD_REMOVE. -/
def execCanRxHeadRemove (k : Fin 4) (s : State) : Host.Outcome State Fault Refusal :=
  .next (onCan k (fun c => { c with rx := c.rx.tail }) s)

/-! ### At the edge -/

/-- A REQ STOP due from a message timer is placed in the latch (R314). -/
def edgeMtim (s : State) : State :=
  eachUpTo 4 (fun n t =>
    if (vport t n).stopReq then onV n (fun v => { v with stopReq := false }) (reqWrite n 4 t) else t) s

/-- A break ends where the sequencer has left its states, a new period takes the commanded duty, and the SLAC engine follows
its outlet (R296, R305, R308). -/
def edgePort (ms : Bool) (p : Nat) (s : State) : State :=
  let s1 := if vIn s p [.plugged, .authWait, .negotiate] then s else onV p (fun v => { v with brk := none }) s
  let s2 := if ms then onV p (fun v => { v with drive := dutyNow s1 p }) s1 else s1
  match outletOfV s2 p with
  | none => s2
  | some n =>
    let o := outShown s2 n
    if o.st ∈ [OutSt.unlock, .idle, .oos] then
      (if (vport s2 p).slac = .off then s2 else onV p (fun v => { v with slac := .off }) (slacClear p (slacStop p s2)))
    else if o.st = .plugged ∧ o.since = s2.tmp.now ∧ (vport s2 p).slac = .off ∧ rbit s2 (F.VEH_PCTL_SLACEN p) ∧ oComm s2 n = 1
    then slacStart p s2
    else s2

/-- The queued messages of a controller leave one at each edge (DESIGN CHOICE, log entry 52). -/
def edgeCan (k : Nat) (s : State) : State :=
  match (canCtl s k).tx with
  | m :: rest => if canRuns s k then onCan k (fun c => { c with tx := rest, sent := some { m with time := s.tmp.chain } }) s else s
  | [] => s

/-- The vehicle ports at a tempo edge; `ms`: a chain-time millisecond began. -/
def edgeVeh (ms : Bool) (s : State) : State :=
  if s.pwr.vehOn then
    s |> eachUpTo 4 (edgePort ms) |> eachUpTo 6 (fun p t => if ethOn t p then rxDrain 1100 p t else t) |> eachUpTo 4 edgeCan
  else s

end Sys2Proof.Machine
end

