-- ==== Sys2Proof/Machine/Net.lean ====
section
/-!
DEFINITION. The switch (11, R363–R365): ingress, learning and forwarding, packet memory, IEEE 1588 timestamps, the rings of
its internal port, and the transmit descriptor row, which every ring shares.
-/

namespace Sys2Proof.Machine

def raiseNet (f : Fld) (s : State) : State := raise F.NET_EVCNT_COUNT [f] s

/-- Port 0 or 1 (SG0, SG1) or 2 (internal) runs: its EN bit, and for a serial port its SGMODE and a living XO (R485). -/
def swOn (s : State) (p : Nat) : Bool :=
  netOn s && (rget s F.NET_CFG_EN).testBit p && (p == 2 || (nSgMode s p != 0 && rbit s F.CLK_STATUS_XOOK))

/-- A frame can be sent or received on port `p` now. -/
def swUp (s : State) (p : Nat) : Bool := swOn s p && (p == 2 || rbit s (F.NET_PSTAT_LINK p))

/-- A 6-byte address as a number. -/
def macAt (b : Bytes) (i : Nat) : Nat := leVal (slice b i 6)

/-- IEEE 802.1Q: VLAN and priority of a frame, 0 untagged. -/
def frameTagged (b : Bytes) : Bool := u8 b 12 == 0x81 && u8 b 13 == 0
def frameVlan (b : Bytes) : Nat := if frameTagged b then (u8 b 14 % 16) * 256 + u8 b 15 else 0
def framePcp (b : Bytes) : Nat := if frameTagged b then u8 b 14 / 32 else 0

/-- A big-endian integer of `n` bytes. -/
def beVal (b : Bytes) : Nat := leVal b.reverse

/-- Where a frame's payload begins, after the Ethernet header and tag, and its Ethertype. -/
def frameHead (b : Bytes) : Nat := if frameTagged b then 18 else 14
def frameType (b : Bytes) : Nat := beVal (slice b (frameHead b - 2) 2)

/-- Where the IEEE 1588 message begins: after the Ethernet header and tag, or after IPv4 or IPv6 and UDP (R364). -/
def ptpAt (b : Bytes) : Nat :=
  let h := frameHead b
  if frameType b = 0x0800 then h + 4 * (u8 b h % 16) + 8 else if frameType b = 0x86DD then h + 48 else h

/-- An IEEE 1588 event message: Ethertype 0x88F7 with one of the standard's four event types, or UDP port 319 over IPv4 or IPv6
(R364; PRESUMED, log entry 193). -/
def ptpEvent (b : Bytes) : Bool :=
  let h := frameHead b
  let port := beVal (slice b (ptpAt b - 6) 2)
  if frameType b = 0x88F7 then decide (u8 b h % 16 < 4)
  else if frameType b = 0x0800 then u8 b (h + 9) == 17 && port == 319
  else frameType b == 0x86DD && u8 b (h + 6) == 17 && port == 319

/-- A group address. -/
def isGroup (b : Bytes) (i : Nat) : Bool := u8 b i % 2 == 1

/-- An address-table entry is still fresh: AGE seconds, 0 taken as 1. -/
def swFresh (s : State) (e : SwEntry) : Bool := decide (s.tmp.now < e.at_ + 20000 * max 1 (rget s F.NET_CFG_AGE))

/-- The source learnt: up to 1,024 entries. -/
def swLearn (p : Nat) (b : Bytes) (s : State) : State :=
  if rbit s F.NET_CFG_LEARN && !isGroup b 6 then
    let e : SwEntry := ⟨macAt b 6, frameVlan b, p, s.tmp.now⟩
    let t := (s.net.table.filter (swFresh s)).filter (fun x => !(x.mac == e.mac && x.vlan == e.vlan))
    if t.length < 1024 then { s with net.table := t ++ [e] } else { s with net.table := t }
  else s

/-- The ports a frame goes to: the learnt one, else every other running port. -/
def swPorts (s : State) (p : Nat) (b : Bytes) : List Nat :=
  let others := [0, 1, 2].filter (fun q => q != p && swOn s q)
  if isGroup b 0 then others
  else match (s.net.table.filter (swFresh s)).find? (fun e => e.mac == macAt b 0 && e.vlan == frameVlan b) with
    | some e => others.filter (· == e.port)
    | none => others

/-- Packet memory: 512 KB (R25). -/
def swRoom (s : State) (n : Nat) : Bool := decide ((s.net.queue.map (fun f => f.bytes.length)).sum + n ≤ 524288)

/-- A frame put into the queue of its egress port, or dropped there (R363). A frame for the internal port is a wake source. -/
def swQueue (f : SwFrame) (s : State) : State :=
  if swRoom s f.bytes.length then
    let s1 := { s with net.queue := s.net.queue ++ [f] }
    if f.port = 2 then wakeFire 13 s1 else s1
  else raiseNet F.NET_FLAGS_DROP (rsat F.NET_DROP_COUNT 1 s)

/-- A frame at ingress: length with the 4 bytes of FCS, learning, and one copy to each egress port. -/
def swIngress (p : Nat) (b : Bytes) (event stamp : Bool) (t : Nat) (s : State) : State :=
  if 1522 < b.length + 4 then rsat F.NET_LENERR_COUNT 1 s
  else
    let s1 := swLearn p b s
    (swPorts s1 p b).foldl (fun u q => swQueue ⟨q, framePcp b / 2, b, p, t, event, stamp⟩ u) s1

/-- NET_FRAME_INGRESS on SG0 or SG1; a frame under 64 bytes or with a wrong FCS is no frame of the switch and is dropped. -/
def execNetFrameIngress (port : Fin 2) (bytes : Bytes) (fcs : Bool) (ns : Nat) (s : State) :
    Host.Outcome State Fault Refusal :=
  .next (if swUp s port ∧ fcs ∧ 60 ≤ bytes.length then swIngress port bytes (ptpEvent bytes) false (s.tmp.chain + ns) s else s)

/-- SG_LINK_CHANGE: NET_PSTAT and LINKCHG. -/
def execSgLinkChange (port : Fin 2) (up : Bool) (fdx : Bool) (speed : BitVec 2) (s : State) :
    Host.Outcome State Fault Refusal :=
  if netOn s = false ∨ nSgMode s port = 0 ∨ rbit s (F.NET_PSTAT_LINK port) = up then .next s
  else .next (s |> rputB (F.NET_PSTAT_LINK port) up |> rputB (F.NET_PSTAT_FDX port) fdx
    |> rput (F.NET_PSTAT_SPEED port) speed.toNat |> raiseNet F.NET_FLAGS_LINKCHG)

/-! ### Egress -/

def beBytes (n v : Nat) : Bytes := (leBytes n v).reverse

/-- Residence time, ns, added to correctionField, whose unit is 2⁻¹⁶ ns. -/
def addResidence (b : Bytes) (ns : Nat) : Bytes :=
  let i := ptpAt b + 8
  if i + 8 ≤ b.length then b.take i ++ beBytes 8 ((beVal (slice b i 8) + 65536 * ns) % 2 ^ 64) ++ b.drop (i + 8) else b

/-- A timestamp in 8 ns steps (R364). -/
def ptpStamp (t : Nat) : Nat := t - t % 8

/-- A frame leaves on SG0 or SG1: the transparent clock's correction between them, and the timestamp asked for. -/
def swSend (f : SwFrame) (s : State) : State :=
  let b := if f.event ∧ f.src < 2 then addResidence f.bytes (ptpStamp s.tmp.chain - ptpStamp f.at_) else f.bytes
  let s1 := { s with net.sent := Tab.upd s.net.sent f.port (fun _ => b) }
  if f.stamp then
    let t := ptpStamp s.tmp.chain
    s1 |> rput F.NET_TXTSLO_TS (t % 4294967296) |> rput F.NET_TXTSHI_TS (t / 4294967296) |> raiseNet F.NET_FLAGS_TXTS
  else s1

/-- The frame a port sends next: strict priority, the oldest of its queue. -/
def swNext (l : List SwFrame) (p : Nat) : Option SwFrame :=
  [3, 2, 1, 0].findSome? (fun q => l.find? (fun f => f.port == p && f.prio == q))

/-- Bytes a port carries in a tempo at its speed. -/
def swRate (s : State) (p : Nat) : Nat :=
  match rget s (F.NET_PSTAT_SPEED p) with
  | 0 => 62 | 1 => 625 | _ => 6250

/-- A serial port sends while bytes of the tempo remain (log entry 52). -/
def swEgress : Nat → Nat → Nat → State → State
  | 0, _, _, s => s
  | k + 1, p, left, s =>
    match swNext s.net.queue p with
    | none => s
    | some f =>
      if left = 0 then s
      else swEgress k p (left - f.bytes.length) (swSend f { s with net.queue := s.net.queue.erase f })

def netLo : Nat := 0x9E4000000
def netHi : Nat := 0x9E8000000

/-- A ring of the internal port. -/
def netRing (s : State) (base en size : Fld) : Option (Nat × Nat) :=
  let a := 16 * rget s base
  let n := 2 ^ (rget s size + 4)
  if rbit s en ∧ rget s size ≤ 6 ∧ netLo ≤ a ∧ a + 16 * n ≤ netHi then some (a, n) else none

def netTxRing (s : State) : Option (Nat × Nat) := netRing s F.NET_TXR_BASE_BASE F.NET_TXR_CTL_EN F.NET_TXR_CTL_SIZE
def netRxRing (s : State) : Option (Nat × Nat) := netRing s F.NET_RXR_BASE_BASE F.NET_RXR_CTL_EN F.NET_RXR_CTL_SIZE

def netBuf (a n : Nat) : Bool := decide (netLo ≤ a) && decide (a + n ≤ netHi)

/-- One receive descriptor of the internal port worked off (R315, R317); event messages carry their receive timestamp. -/
def netRxOne (s : State) : Option State :=
  match netRxRing s, swNext s.net.queue 2 with
  | some (a, n), some f =>
    let da := a + 16 * (s.net.rxIdx % n)
    let d := memRead s da 16
    let flags := u16 d 0xA
    let s1 := { s with net.queue := s.net.queue.erase f }
    if flags.testBit 15 = false then none
    else if u16 d 8 < f.bytes.length then some (rsat F.NET_LENERR_COUNT 1 s1)
    else if netBuf (u64 d 0) (u16 d 8) = false then
      some ({ s with net.rxIdx := (s.net.rxIdx + 1) % n }
        |> descBack da (u16 d 8) (setBit flags 14 true) (u32 d 0xC) |> raiseNet F.NET_FLAGS_BUFERR)
    else
      let t := if f.event then ptpStamp f.at_ else f.at_
      some ({ s1 with net.rxIdx := (s.net.rxIdx + 1) % n }
        |> memWrite (u64 d 0) f.bytes |> descBack da f.bytes.length 0 (t % 4294967296) |> raiseNet F.NET_FLAGS_RXDONE)
  | _, _ => none

def netDrain : Nat → State → State
  | 0, s => s
  | k + 1, s => match netRxOne s with
    | some t => netDrain k t
    | none => s

/-- The next transmit descriptor of the internal port (R316, R364). -/
def netTxOne (ns a n : Nat) (s : State) : State :=
  let d := memRead s a 16
  let len := u16 d 8
  let flags := u16 d 0xA
  let addr := u64 d 0
  let s1 := { s with net.txIdx := (s.net.txIdx + 1) % n }
  if flags.testBit 15 = false then s
  else if len = 0 then raiseNet F.NET_FLAGS_TXDONE (descBack a len flags ((s.tmp.chain + ns) % 4294967296) s1)
  else if 1514 < len then
    raiseNet F.NET_FLAGS_BUFERR (rsat F.NET_LENERR_COUNT 1 (descBack a len (setBit flags 14 true) (u32 d 0xC) s1))
  else if len < 14 ∨ netBuf addr len = false then
    raiseNet F.NET_FLAGS_BUFERR (descBack a len (setBit flags 14 true) (u32 d 0xC) s1)
  else
    s1 |> swIngress 2 (slice (memRead s addr len) 0 (max 60 len)) false (flags.testBit 0) (s.tmp.chain + ns)
      |> descBack a len flags ((s.tmp.chain + ns) % 4294967296) |> raiseNet F.NET_FLAGS_TXDONE

/-- TX_DESCRIPTOR: the next descriptor of an active ring, if hardware owns it; port 6 is the switch's internal port. -/
def execTxDescriptor (p : Fin 7) (ns : Nat) (own : Bool) (coll : Nat) (s : State) : Host.Outcome State Fault Refusal :=
  if p.val = 6 then
    match netTxRing s with
    | some (a, n) => .next (if swOn s 2 then netTxOne ns (a + 16 * (s.net.txIdx % n)) n s else s)
    | none => .next s
  else
    match txRing s p with
    | some (a, n) => .next (if ethOn s p then txOne p ns own coll (a + 16 * (txIdx s p % n)) n s else s)
    | none => .next s

/-- The switch at a tempo edge: each serial port sends, the internal port delivers, and old addresses age out. -/
def edgeNet (s : State) : State :=
  if netOn s then
    let s1 := { s with net.table := s.net.table.filter (swFresh s) }
    let s2 := eachUpTo 2 (fun p t => if swUp t p then swEgress t.net.queue.length p (swRate t p) t else t) s1
    if swOn s2 2 then netDrain (s2.net.queue.length + 1100) s2 else s2
  else s

end Sys2Proof.Machine
end

