-- ==== Sys2Proof/Machine/Reader.lean ====
section
/-!
DEFINITION. The authorisation reader (14): field, tuning and card detection, activation of a card, exchanges with their
outcomes, and the originality check.
-/

namespace Sys2Proof.Machine

/-- The FIELD domain runs (S0–S2). -/
def hfrOn (s : State) : Bool := s.pwr.fieldOn && (s.pwr.boot == .running || s.pwr.boot == .stalemate)

def hfrGo (st : HfSt) (s : State) : State := onHfr (fun h => { h with st := st, since := s.tmp.now }) s

/-- RESULT and OUTCOME codes. -/
def rOk : Nat := 0
def rBadarg : Nat := 1
def rNocard : Nat := 2
def rCollision : Nat := 3
def rSakcoll : Nat := 4
def rProterr : Nat := 5
def rCrcerr : Nat := 6
def rCaphit : Nat := 7
def rLenerr : Nat := 8
def rWrongState : Nat := 9
def rNofield : Nat := 0xA
def oNone : Nat := 0
def oNotSent : Nat := 1
def oNoResponse : Nat := 2
def oAcked : Nat := 3
def oFieldLost : Nat := 4

/-- The running command ends; ORIGIN with its result where it is the read that failed (R432). -/
def hfrEnd (result outcome : Nat) (s : State) : State :=
  let op := s.hfr.cmd.getD 0
  match s.hfr.orig with
  | some k =>
    hfrDone op result outcome (s |> rput F.HFR_ORIG_RESULT 4 |> rput F.HFR_ORIG_PROFILE k)
      |> raiseHfr [F.HFR_FLAGS_ORIGDONE]
  | none => hfrDone op result outcome s

/-- A command written: discarded with CMDREJ while another runs, refused in a state that does not allow it; in LPCD it ends
detection first (R418, R421). -/
def hfrCommand (op : Nat) (allowed : List HfSt) (f : State → State) (s : State) : State :=
  if !hfrOn s then s
  else if s.hfr.cmd.isSome then raiseHfr [F.HFR_FLAGS_CMDREJ] s
  else
    let s1 := if s.hfr.st = .lpcd then hfrGo .off s else s
    if s1.hfr.st ∈ allowed then f s1 else hfrDone op rWrongState oNotSent s1

/-- No card is active any more. -/
def cardGone (s : State) : State :=
  onHfr (fun h => { h with ctype := 0, fwi := 0, ds := 0, dr := 0, fsc := 0 }) s

/-- A field reset: off for 6 ms (R421). -/
def fieldReset (s : State) : State := hfrGo .resetting (onHfr (fun h => { h with field := false }) (cardGone s))

/-- An exchange ended by the loss of the field: NOT_SENT before its first bit, FIELD_LOST after it (R427, R429). -/
def lostOutcome (s : State) (sent : Bool) : Nat := if s.hfr.sent || sent then oFieldLost else oNotSent

/-- An exchange is in progress: a command runs, and the card has not yet given the final answer that is being verified. -/
def exchanging (s : State) : Bool := s.hfr.cmd.isSome && s.hfr.wait != .verify

/-- The running exchange, if any, ended by a field loss. -/
def endByLoss (sent : Bool) (s : State) : State := if exchanging s then hfrEnd rNofield (lostOutcome s sent) s else s

/-! ### Field, tuning and card detection (R415–R418) -/

/-- The setpoint and tuning of a FIELD_ON. -/
def fieldOn (best phase iset iant : Nat) (s : State) : State :=
  let auto := rbit s F.HFR_CFG_AUTOTUNE
  let lim := auto && (best == 0 || best == 255)
  let s1 := onHfr (fun h =>
    { h with field := true, step := if auto then best else h.step, tuneLim := if auto then lim else h.tuneLim,
             phase := toSigned 8 phase, iset := iset, iant := iant, stepAt := s.tmp.now }) s
  let s2 := hfrGo .settling (if lim then raiseHfr [F.HFR_FLAGS_TUNELIM] s1 else s1)
  hfrDone 1 rOk oNone s2

/-- FIELD_ON. -/
def execFieldOn (best phase : BitVec 8) (iset iant : BitVec 16) (s : State) : Host.Outcome State Fault Refusal :=
  .next (hfrCommand 1 [.off] (fieldOn best.toNat phase.toNat iset.toNat iant.toNat) s)

/-- FIELD_OFF also ends a running exchange, for which it is taken while BUSY (log entry 62). -/
def execFieldOff (sent : Bool) (s : State) : Host.Outcome State Fault Refusal :=
  let off (t : State) : State := hfrGo .off (onHfr (fun h => { h with field := false }) (cardGone t))
  if !hfrOn s then .next s
  else if exchanging s then
    let out := lostOutcome s sent
    .next (hfrDone 2 rOk out (off (endByLoss sent (raiseHfr [F.HFR_FLAGS_FIELDLOST] s))))
  else .next (hfrCommand 2 [.settling, .ready, .activeL3, .activeL4, .resetting] (fun t => hfrDone 2 rOk oNone (off t)) s)

/-- HF_SETTLED: 5 ms of carrier (R421). -/
def execHfSettled (s : State) : Host.Outcome State Fault Refusal :=
  .next (if hfrOn s ∧ s.hfr.st = .settling ∧ s.hfr.since + 100 ≤ s.tmp.now then hfrGo .ready s else s)

/-- FIELD_RESET_END: after 6 ms off the field is on again. -/
def execFieldResetEnd (s : State) : Host.Outcome State Fault Refusal :=
  .next (if hfrOn s ∧ s.hfr.st = .resetting ∧ s.hfr.since + 120 ≤ s.tmp.now then
    hfrGo .settling (onHfr (fun h => { h with field := true }) s) else s)

/-- A field loss: it ends every exchange, FIELDLOST sets, and a field reset starts (R417). -/
def fieldLoss (fl : List Fld) (sent : Bool) (s : State) : State := fieldReset (endByLoss sent (raiseHfr fl s))

/-- FIELD_LOST: current below 50 % of the setpoint for 10 µs. -/
def execFieldLost (ma us : Nat) (sent : Bool) (s : State) : Host.Outcome State Fault Refusal :=
  .next (if hfrOn s ∧ s.hfr.field = true ∧ 2 * ma < s.hfr.iset ∧ 10 ≤ us then
    fieldLoss [F.HFR_FLAGS_FIELDLOST] sent (onHfr (fun h => { h with iant := ma }) s) else s)

/-- HF_DRIVER_FAULT: the field goes off, DRVFLT sets, and it counts as a field loss (R415). -/
def execHfDriverFault (sent : Bool) (s : State) : Host.Outcome State Fault Refusal :=
  .next (if hfrOn s ∧ s.hfr.field = true then fieldLoss [F.HFR_FLAGS_FIELDLOST, F.HFR_FLAGS_DRVFLT] sent s else s)

/-- TUNE: ARG as bank step, with AUTOTUNE = 0 (log entry 62). -/
def execTune (arg : BitVec 8) (s : State) : Host.Outcome State Fault Refusal :=
  .next (hfrCommand 7 [.off] (fun t =>
    if rbit t F.HFR_CFG_AUTOTUNE then hfrDone 7 rBadarg oNone t
    else hfrDone 7 rOk oNone (onHfr (fun h => { h with step := arg.toNat }) t)) s)

/-- AUTOTUNE_STEP: between exchanges, every 10 ms, one step while the phase error exceeds ±5° (R416). -/
def execAutotuneStep (phase : BitVec 8) (up : Bool) (iant : BitVec 16) (s : State) : Host.Outcome State Fault Refusal :=
  if hfrOn s && s.hfr.field && rbit s F.HFR_CFG_AUTOTUNE && s.hfr.cmd.isNone && decide (s.hfr.stepAt + 200 ≤ s.tmp.now) then
    let p := toSigned 8 phase.toNat
    .next (onHfr (fun h =>
      { h with stepAt := s.tmp.now, phase := p, iant := iant.toNat,
               step := if 5 < p.natAbs then (if up then min 255 (h.step + 1) else h.step - 1) else h.step }) s)
  else .next s

/-- LPCD: low-power card detection starts. -/
def execLpcd (s : State) : Host.Outcome State Fault Refusal :=
  .next (hfrCommand 8 [.off] (fun t =>
    hfrDone 8 rOk oNone (hfrGo .lpcd (onHfr (fun h => { h with ref := [], burstAt := t.tmp.now }) t))) s)

/-- LPCD_BURST: a deviation of more than THRESH from REF detects a card; one of more than half of it stays out of REF. The
first burst makes the first REF. -/
def execLpcdBurst (amp : Nat) (s : State) : Host.Outcome State Fault Refusal :=
  let per := 20 * max 100 (min 1000 (rget s F.HFR_LPCD_PERIOD))
  if hfrOn s ∧ s.hfr.st = .lpcd ∧ s.hfr.burstAt + per ≤ s.tmp.now then
    let n := s.hfr.ref.length
    let sum := s.hfr.ref.sum
    let dev := ((amp * n : Nat) - (sum : Int)).natAbs * 1000
    let lim := max 1 (rget s F.HFR_LPCD_THRESH) * sum
    let s1 := onHfr (fun h => { h with burstAt := s.tmp.now }) s
    if n ≠ 0 ∧ lim < dev then .next (wakeFire 8 (raiseHfr [F.HFR_FLAGS_CARDNEAR] (hfrGo .off s1)))
    else if n ≠ 0 ∧ lim < 2 * dev then .next s1
    else .next (onHfr (fun h => { h with ref := (amp :: h.ref).take 16 }) s1)
  else .next s

/-! ### Activation (R420, R422–R425) -/

/-- The four bytes a card answers at a cascade level: a cascade tag where its identifier goes on. -/
def levelBytes (uid : Bytes) (lv : Nat) : Bytes :=
  let n := uid.length
  if n ≤ 4 then slice uid 0 4
  else if lv = 0 then 0x88 :: slice uid 0 3
  else if n ≤ 7 then slice uid 3 4
  else if lv = 1 then 0x88 :: slice uid 3 3
  else slice uid 6 4

/-- Bit `i` of a level in transmission order. -/
def levelBit (uid : Bytes) (lv i : Nat) : Bool := (u8 (levelBytes uid lv) (i / 8)).testBit (i % 8)

/-- One bit of anticollision: where the answers collide, the bit is taken as 1 (R423). -/
def antiBit (lv : Nat) (acc : List HfCard × Bool) (i : Nat) : List HfCard × Bool :=
  let ones := acc.1.filter (fun c => levelBit c.uid lv i)
  if ones.isEmpty ∨ ones.length = acc.1.length then acc else (ones, true)

/-- The cascade levels of the cards that answer. -/
def antiLevels (l : List HfCard) : List Nat := List.range (if l.any (fun c => 7 < c.uid.length) then 3
  else if l.any (fun c => 4 < c.uid.length) then 2 else 1)

/-- Anticollision over all levels: the cards selected together, and whether a collision was seen. -/
def anticollision (l : List HfCard) : List HfCard × Bool :=
  let start := (l, match l with | c :: t => t.any (fun x => x.atqa != c.atqa) | [] => false)
  (antiLevels l).foldl (fun acc lv => (List.range 32).foldl (antiBit lv) acc) start

/-- The highest rate both the card and MAXRATE allow. -/
def bestRate (set maxRate : Nat) : Nat :=
  ([3, 2, 1].find? (fun r => decide (r ≤ maxRate) && set.testBit r)).getD 0

def rates (c : HfCard) (m : Nat) : Nat × Nat :=
  if c.same then (bestRate (c.ds &&& c.dr) m, bestRate (c.ds &&& c.dr) m) else (bestRate c.ds m, bestRate c.dr m)

/-- Bytes put into HFR_RXBUF, byte 4k in bits 7:0, with RXLEN and RXBITS. -/
def rxPut (b : Bytes) (bits : Nat) (s : State) : State :=
  eachUpTo 128 (fun k t => if 4 * k < b.length then rput (F.HFR_RXBUF_DATA k) (u32 b (4 * k)) t else t) s
    |> rput F.HFR_CMDSTAT_RXLEN b.length |> rput F.HFR_CMDSTAT_RXBITS bits

/-- A card becomes active: registers of R422, rates of R420, and the answer in HFR_RXBUF. -/
def cardActive (c : HfCard) (l4 more : Bool) (s : State) : State :=
  let up := l4 && c.layer4
  let r := if up then rates c (rget s F.HFR_CFG_MAXRATE) else (0, 0)
  let uid := slice c.uid 0 (min 12 c.uid.length)
  let s1 := s |> onHfr (fun h =>
      { h with ctype := if c.b then 2 else 1, uid := uid, sak := if c.b then 0 else c.sak % 256, fsc := min 256 c.fsc,
               fwi := if up || c.b then (if c.fwi = 15 then 4 else c.fwi % 16) else 4, ds := r.1, dr := r.2, more := more })
    |> rput F.HFR_CARD_ATQA (if c.b then 0 else c.atqa) |> rput F.HFR_CARD_SAK (if c.b then 0 else c.sak)
    |> rput F.HFR_CARD_UIDLEN (if c.b then 4 else uid.length)
    |> eachUpTo 3 (fun k t => rput (F.HFR_UID_UID k) (digestWord (slice uid 0 12) k) t)
  let s2 := if c.b || up then rxPut (slice c.ats 0 (min 512 c.ats.length)) 0 s1 else rxPut [] 0 s1
  hfrDone 3 rOk oNone (hfrGo (if up then .activeL4 else .activeL3) s2)

/-- What one round of Type B slots shows: the first slot with one valid answer, and whether a slot collided. -/
def roundOf (l : List HfCard) (n r : Nat) : Option HfCard × Bool :=
  let at_ (k : Nat) : List HfCard := l.filter (fun c => c.slots.getD r 1 % (n + 1) == k)
  let slots := (List.range n).map (· + 1)
  (slots.findSome? (fun k => match at_ k with | [c] => if c.ok then some c else none | _ => none),
   slots.any (fun k => match at_ k with | [] => false | [c] => !c.ok | _ => true))

/-- Rounds of Type B (R425): the card, or the result, and whether any round collided. -/
def typeB : Nat → List HfCard → Nat → Nat → Bool → Option HfCard × Nat × Bool
  | 0, _, _, _, more => (none, rCollision, more)
  | k + 1, l, n, r, more =>
    match roundOf l n r with
    | (some c, coll) => (some c, rOk, more || coll)
    | (none, true) => typeB k l n (r + 1) true
    | (none, false) => (none, rNocard, more)

/-- A collision seen: STATUS.MORE as of this activation, and the flag (R423, R425). -/
def moreSeen (m : Bool) (s : State) : State :=
  let s1 := onHfr (fun h => { h with more := m }) s
  if m then raiseHfr [F.HFR_FLAGS_MORE] s1 else s1

/-- Activation for Type B. -/
def activateB (wup l4 : Bool) (cards : List HfCard) (s : State) : State :=
  let l := cards.filter (fun c => c.b && (wup || !c.halted))
  let n := 2 ^ min 4 (rget s F.HFR_CFG_SLOTS)
  match typeB 8 l n 0 false with
  | (some c, _, m) => cardActive c l4 m (moreSeen m s)
  | (none, r, m) => hfrDone 3 r oNone (moreSeen m s)

/-- Activation for Type A, then Type B where asked and no Type A card answers. -/
def activate (typ : Nat) (wup l4 : Bool) (cards : List HfCard) (s : State) : State :=
  let l := cards.filter (fun c => !c.b && (wup || !c.halted))
  if typ = 0 then hfrDone 3 rBadarg oNotSent s
  else if typ = 2 ∨ (typ = 3 ∧ l.isEmpty) then activateB wup l4 cards s
  else
    let a := anticollision l
    match a.1 with
    | [] => hfrDone 3 rNocard oNone (moreSeen false s)
    | c :: t =>
      let s1 := moreSeen a.2 s
      if t.any (fun x => x.sak != c.sak) then fieldReset (hfrDone 3 rSakcoll oNone (moreSeen true s))
      else if !c.ok then hfrDone 3 rProterr oNone s1
      else cardActive c l4 a.2 s1

/-- HF_ACTIVATE: anticollision and selection of one card; a failed activation leaves READY. -/
def execHfActivate (typ : BitVec 2) (wup l4 : Bool) (cards : List HfCard) (s : State) : Host.Outcome State Fault Refusal :=
  .next (hfrCommand 3 [.ready] (activate typ.toNat wup l4 cards) s)

/-! ### Exchanges (R426–R430) -/

/-- FWT = 302.06 µs × 2^FWI, in µs rounded up; 4.83 ms for a raw exchange. -/
def fwtUs (fwi : Nat) : Nat := (30206 * 2 ^ fwi + 99) / 100
def rawUs : Nat := 4833

/-- The reader waits for an answer, from now. -/
def awaitAnswer (w : HfWait) (us : Nat) (s : State) : State :=
  onHfr (fun h => { h with wait := w, waitAt := s.tmp.now, waitUs := us }) s

/-- An exchange begins: its bytes, its first frame's length in time. -/
def exchangeStart (op : Nat) (w : HfWait) (b : Bytes) (us : Nat) (s : State) : State :=
  s |> onHfr (fun h => { h with cmd := some op, sent := false, capAt := s.tmp.now + us / 50, retries := 0, out := b, inp := [] })
    |> rput F.HFR_CMDSTAT_RXLEN 0 |> awaitAnswer w (us + if w = .block then fwtUs s.hfr.fwi else rawUs)

/-- The data bytes of HFR_TXBUF. -/
def txBytes (s : State) (n : Nat) : Bytes :=
  slice ((List.range 128).flatMap (fun k => leBytes 4 (rget s (F.HFR_TXBUF_DATA k)))) 0 n

def exchange (l4 : Bool) (txlen us : Nat) (s : State) : State :=
  if 512 < txlen then hfrDone 4 rLenerr oNotSent (rsat F.HFR_LENERR_COUNT 1 s)
  else if l4 && s.hfr.st != .activeL4 then hfrDone 4 rWrongState oNotSent s
  else exchangeStart 4 (if l4 then .block else .raw) (txBytes s txlen) us s

/-- EXCHANGE: an APDU in ACTIVE_L4, or a raw frame, is sent and an answer awaited. NOCRC and TXBITS shape the frame on the
antenna and change nothing else here. -/
def execExchange (l4 : Bool) (_nocrc : Bool) (_txbits : BitVec 3) (txlen : BitVec 10) (us : Nat) (s : State) :
    Host.Outcome State Fault Refusal :=
  .next (hfrCommand 4 [.ready, .activeL3, .activeL4] (exchange l4 txlen.toNat us) s)

/-- RELEASE: HLTA or HLTB in layer 3; S(DESELECT) in layer 4. -/
def execRelease (s : State) : Host.Outcome State Fault Refusal :=
  .next (hfrCommand 5 [.ready, .activeL3, .activeL4] (fun t =>
    if t.hfr.st = .activeL4 then
      t |> onHfr (fun h => { h with cmd := some 5, pend := some (rOk, oNone) }) |> awaitAnswer .deselect (fwtUs t.hfr.fwi)
    else if t.hfr.st = .activeL3 then hfrDone 5 rOk oNone (hfrGo .ready (cardGone t))
    else hfrDone 5 rWrongState oNotSent t) s)

/-- An exchange of layer 4 fails: its result and outcome are kept while the reader deselects (R426). -/
def failDeselect (result : Nat) (s : State) : State :=
  s |> onHfr (fun h => { h with pend := some (result, oNoResponse) }) |> awaitAnswer .deselect (fwtUs s.hfr.fwi)

/-- A missing or corrupted block: at most two retries with R-blocks, then PROTERR and S(DESELECT). -/
def blockFail (s : State) : State :=
  if s.hfr.retries < 2 then
    s |> onHfr (fun h => { h with retries := h.retries + 1, sent := true }) |> awaitAnswer .block (fwtUs s.hfr.fwi)
  else failDeselect rProterr s

/-- The read command of profile `k`. -/
def profCmd (s : State) (k : Nat) : Bytes :=
  slice ((List.range 4).flatMap (fun w => leBytes 4 (rget s ⟨0x10101008 + 256 * k + 4 * w, 0, 32, 0⟩))) 0 (rget s (F.HFR_PROF1_CMDLEN k))

/-- ORIGIN with the card's answer: NOSIG where it is too short, else its verification, which waits for the engine (R432). -/
def originCheck (k : Nat) (resp : Bytes) (s : State) : State :=
  if resp.length < rget s (F.HFR_PROF1_SIGOFS k) + 64 then originEnd 4 k s
  else originTurn (onHfr (fun h => { h with wait := .verify, inp := resp }) s)

/-- The final response of an exchange has arrived valid. -/
def exchangeEnd (resp : Bytes) (bits : Nat) (s : State) : State :=
  match s.hfr.orig with
  | some k => originCheck k resp s
  | none =>
    if 512 < resp.length then
      hfrEnd rLenerr oAcked (rsat F.HFR_LENERR_COUNT 1 (rput F.HFR_CMDSTAT_RXLEN 0 s))
    else hfrEnd rOk oAcked (rxPut resp bits s)

/-- The information a layer-4 block carries at most: the card's frame without block byte and CRC. -/
def chunk (s : State) : Nat := max 1 (s.hfr.fsc - 3)

/-- A deselect is settled: answered, the card is gone and the reader is in READY; unanswered, the field is reset. -/
def deselected (answered : Bool) (s : State) : State :=
  let r := s.hfr.pend.getD (rProterr, oNoResponse)
  if answered then hfrEnd r.1 r.2 (hfrGo .ready (cardGone s))
  else fieldReset (hfrEnd (if s.hfr.cmd = some 5 then rProterr else r.1) r.2 s)

/-- HF_CARD_FRAME_RX: the answer completes or continues the exchange. -/
def execHfCardFrameRx (blk : HfBlock) (rxbits : BitVec 3) (s : State) : Host.Outcome State Fault Refusal :=
  match hfrOn s, s.hfr.wait, blk with
  | true, .raw, .info b _ => .next (exchangeEnd b rxbits.toNat s)
  | true, .raw, _ => .next (hfrEnd rCrcerr oNoResponse s)
  | true, .block, .info b more =>
    let inp := s.hfr.inp ++ b
    if more then
      .next (s |> onHfr (fun h => { h with inp := inp, retries := 0, sent := true }) |> awaitAnswer .block (fwtUs s.hfr.fwi))
    else .next (exchangeEnd inp 0 s)
  | true, .block, .ack =>
    if chunk s < s.hfr.out.length then
      .next (s |> onHfr (fun h => { h with out := h.out.drop (chunk s), retries := 0, sent := true })
        |> awaitAnswer .block (fwtUs s.hfr.fwi))
    else .next (blockFail s)
  | true, .block, _ => .next (blockFail s)
  | true, .deselect, .deselected => .next (deselected true s)
  | _, _, _ => .next s

/-- The wait cap has run out: CAP × 100 ms from the end of the exchange's first frame (R427). -/
def capOut (s : State) : Bool := decide (s.hfr.capAt + 2000 * max 1 (min 50 (rget s F.HFR_CFG_CAP)) ≤ s.tmp.now)

/-- HF_WTX_REQUEST: the request is answered, unless the cap has run out (R427), and extends the next wait, 60–63 taken as 59 and never above the wait of FWI 14;
0 is a protocol error (R426). -/
def execHfWtxRequest (wtxm : BitVec 6) (s : State) : Host.Outcome State Fault Refusal :=
  if hfrOn s && s.hfr.wait == .block && !capOut s then
    if wtxm = 0 then .next (failDeselect rProterr s)
    else
      .next (s |> onHfr (fun h => { h with sent := true })
        |> awaitAnswer .block (min 4949000 (fwtUs s.hfr.fwi * min 59 wtxm.toNat)) |> raiseHfr [F.HFR_FLAGS_WTX])
  else .next s

/-- HF_FWT_EXPIRY: no block in the frame waiting time. -/
def execHfFwtExpiry (s : State) : Host.Outcome State Fault Refusal :=
  if hfrOn s && decide (s.hfr.waitAt * 50 + s.hfr.waitUs ≤ s.tmp.now * 50) then
    match s.hfr.wait with
    | .raw => .next (hfrEnd rProterr oNoResponse s)
    | .block => .next (blockFail s)
    | .deselect => .next (deselected false s)
    | .none | .verify => .next s
  else .next s

/-- WAIT_CAP_EXPIRY: the reader deselects (R427). -/
def execWaitCapExpiry (s : State) : Host.Outcome State Fault Refusal :=
  if hfrOn s && capOut s then
    match s.hfr.wait with
    | .raw => .next (if s.hfr.st = .activeL4 then failDeselect rCaphit s else hfrEnd rCaphit oNoResponse s)
    | .block => .next (failDeselect rCaphit s)
    | .deselect | .none | .verify => .next s
  else .next s

/-! ### Originality (R431, R432) -/

/-- Whether profile `k` matches the active card. -/
def profMatches (s : State) (k : Nat) : Bool :=
  rbit s (F.HFR_PROF0_EN k) && (rget s (F.HFR_PROF0_TYPE k)).testBit (s.hfr.ctype - 1)
    && (rget s (F.HFR_PROF0_UIDLEN k) == 0 || rget s (F.HFR_PROF0_UIDLEN k) == s.hfr.uid.length)
    && (s.hfr.ctype == 2 || (s.hfr.sak &&& rget s (F.HFR_PROF0_SAKMASK k)) == (rget s (F.HFR_PROF0_SAKVAL k) &&& rget s (F.HFR_PROF0_SAKMASK k)))
    && (u8 s.hfr.uid 0 &&& rget s (F.HFR_PROF1_U0MASK k)) == (rget s (F.HFR_PROF1_U0VAL k) &&& rget s (F.HFR_PROF1_U0MASK k))

/-- ORIGIN ends before anything is sent. -/
def originStop (res k result : Nat) (s : State) : State :=
  s |> hfrDone 6 result oNotSent |> rput F.HFR_ORIG_RESULT res |> rput F.HFR_ORIG_PROFILE k |> raiseHfr [F.HFR_FLAGS_ORIGDONE]

def origin (us : Nat) (s : State) : State :=
  match (List.range 16).find? (profMatches s) with
  | none => originStop 3 0 rOk s
  | some k =>
    let n := rget s (F.HFR_PROF1_CMDLEN k)
    let l4 := rbit s (F.HFR_PROF0_L4 k)
    if n = 0 ∨ 16 < n ∨ 192 < rget s (F.HFR_PROF1_SIGOFS k) then originStop 4 k rOk s
    else if l4 ∧ s.hfr.st ≠ .activeL4 then originStop 4 k rWrongState s
    else onHfr (fun h => { h with orig := some k }) (exchangeStart 6 (if l4 then .block else .raw) (profCmd s k) us s)

/-- ORIGIN: the enabled profile of lowest index that matches reads the signature. -/
def execOrigin (us : Nat) (s : State) : Host.Outcome State Fault Refusal :=
  .next (hfrCommand 6 [.activeL3, .activeL4] (origin us) s)

end Sys2Proof.Machine
end

