-- ==== Sys2Proof/Machine/Xfer.lean ====
section
/-!
DEFINITION. Image blocks along the string (R349, R350), the WAKE command and the AON repeater (R329), and the Lead part of
an edge.
-/

namespace Sys2Proof.Machine

/-! ### Transfers -/

def xferBlocks (x : Xfer) : Nat := ceilDiv x.imgLen 65536

def Xfer.fresh (id cls manLen imgLen : Nat) (dig : Bytes) : Xfer :=
  { id := id, cls := cls, manLen := manLen, imgLen := imgLen, manDig := dig, manGot := 0, manOk := false, got := 0, wait := false,
    done := 0, naks := 0, failed := false, complete := false, origin := false, lu := none, ld := none }

def Pump.fresh : Pump := ⟨0, 0, 0, none⟩

def onXfer (f : Xfer → Xfer) (s : State) : State := { s with lea.xfer := s.lea.xfer.map f }

/-- The XFERSTART data. -/
def xferStartData (x : Xfer) : Bytes :=
  leBytes 2 x.id ++ leBytes 1 x.cls ++ [0] ++ leBytes 4 x.manLen ++ leBytes 4 x.imgLen ++ x.manDig

/-- LEA_CTRL.XSTART (R349): class 3 is rejected, and an image above its slot under R44. -/
def xferStart (s : State) : State :=
  let cls := rget s F.LEA_XFERLEN_CLASS
  let img := rget s F.LEA_XFERLEN_IMGLEN
  let man := rget s F.LEA_XFERCFG_MANLEN
  if cls = 3 then s
  else if classRegion cls < img then rsat F.LEA_LENERR_COUNT 1 s
  else
    let x := { Xfer.fresh (rget s F.LEA_XFERCFG_XFERID) cls man img (Config.sm3 (memRead s stagedMan man)) with
               origin := true, manOk := true, lu := some Pump.fresh, ld := some Pump.fresh }
    { s with lea.xfer := some x, lea.lastXfer := x.id, lea.lastBlocks := 0 }
      |> leadSend tyCmd 0xFF 0 (cmdBody 4 (xferStartData x))

/-- The firmware starts a transfer (R349). -/
def execXferStart (s : State) : Host.Outcome State Fault Refusal := .next (if netOn s then xferStart s else s)

/-- LEA_CTRL.XCANCEL: the local transfer is abandoned. -/
def execXferCancel (s : State) : Host.Outcome State Fault Refusal := .next { s with lea.xfer := none }

/-- A new transfer from an XFERSTART: it cancels the previous one, and its blocks go on to the other port, but in Stalemate
mode (R349, R387). -/
def xferTake (p : LPort) (d : Bytes) (s : State) : State :=
  let cls := u8 d 2
  if 3 ≤ cls ∨ s.lea.xfer.any (fun x => x.id == u16 d 0) then s
  else if classRegion cls < u32 d 8 ∨ 65536 < u32 d 4 then rsat F.LEA_LENERR_COUNT 1 s
  else
    let fwd := if s.pwr.boot = .stalemate then none else some Pump.fresh
    let x := { Xfer.fresh (u16 d 0) cls (u32 d 4) (u32 d 8) (slice d 12 32) with
               lu := if p = .ld then fwd else none, ld := if p = .lu then fwd else none }
    { s with lea.xfer := some x, lea.lastXfer := x.id, lea.lastBlocks := 0 }

/-- An XFERSTART received (R349). -/
def execXferstartRx (p : LPort) (rx : LeadRx) (s : State) : Host.Outcome State Fault Refusal :=
  .next (leadRecv (fun b => hTyp b == tyCmd && fOp b == 4) (xferTake p (fData rx.bytes)) p rx s)

/-- A NAK to the link partner; the eighth for one block fails the transfer (R350). -/
def xferNak (p : LPort) (blk : Nat) (s : State) : State :=
  match s.lea.xfer with
  | none => s
  | some x =>
    let m := mkFrame tyCmd 0 0 (cmdBody 5 (leBytes 2 x.id ++ leBytes 2 blk)) s
    let s1 := leadQueue p false m.1 m.2
    let s2 := onXfer (fun x => { x with got := 0, wait := true, naks := x.naks + 1, failed := decide (8 ≤ x.naks + 1) }) s1
    if 8 ≤ x.naks + 1 then raiseLea F.LEA_FLAGS_XFERFAIL s2 else s2

/-- A passed block (R349). -/
def blockPassed (x : Xfer) (s : State) : State :=
  let s1 := onXfer (fun x => { x with done := x.done + 1, got := 0, naks := 0, complete := decide (x.done + 1 = xferBlocks x) })
    { s with lea.lastBlocks := x.done + 1 }
  if x.done + 1 = xferBlocks x then raiseLea F.LEA_FLAGS_XFERDONE s1 else s1

/-- Manifest bytes: in order, and checked against the SM3 of XFERSTART when complete. -/
def manTake (p : LPort) (blk off : Nat) (d : Bytes) (x : Xfer) (s : State) : State :=
  if x.manOk then s
  else if off ≠ x.manGot then xferNak p blk s
  else if x.manLen < off + d.length then rsat F.LEA_LENERR_COUNT 1 s
  else
    let s1 := memWrite (stagedMan + off) d s
    let got := off + d.length
    if got < x.manLen then onXfer (fun x => { x with manGot := got }) s1
    else if Config.sm3 (memRead s1 stagedMan x.manLen) = x.manDig then onXfer (fun x => { x with manGot := got, manOk := true }) s1
    else onXfer (fun x => { x with manGot := 0 }) s1

/-- Bytes of a block: in order and into the staging area, and checked against BLKDIG when complete (R349, R350). -/
def blkTake (p : LPort) (blk off : Nat) (d : Bytes) (x : Xfer) (s : State) : State :=
  let len := blockLen x.imgLen blk
  if !x.manOk ∨ blk < x.done ∨ (x.wait ∧ (blk ≠ x.done ∨ off ≠ 0)) then s
  else if blk ≠ x.done ∨ off ≠ x.got then xferNak p x.done s
  else if len < off + d.length then rsat F.LEA_LENERR_COUNT 1 s
  else
    let s1 := onXfer (fun x => { x with got := off + d.length, wait := false }) (memWrite (stagedImg + 65536 * blk + off) d s)
    if off + d.length < len then s1
    else if Config.sm3 (memRead s1 (stagedImg + 65536 * blk) len) = manBlkdig (memRead s1 stagedMan x.manLen) blk then
      blockPassed x s1
    else xferNak p blk s1

/-- A DATA frame: only of the latest transfer's identifier (R349). -/
def dataTake (p : LPort) (b : Bytes) (s : State) : State :=
  let body := fBody b
  match s.lea.xfer with
  | none => s
  | some x =>
    if x.id ≠ u16 body 0 ∨ x.failed ∨ x.complete ∨ x.origin then s
    else if (u8 b 1).testBit 0 then manTake p (u16 body 2) (u16 body 4) (body.drop 8) x s
    else blkTake p (u16 body 2) (u16 body 4) (body.drop 8) x s

/-- A DATA frame received (R349); in Stalemate mode a transfer that it completes is taken by the loader (R387). -/
def execDataRx (p : LPort) (rx : LeadRx) (s : State) : Host.Outcome State Fault Refusal :=
  .next (leadRecvCut (fun b => hTyp b == tyData) (fun t => recoveryLead (dataTake p rx.bytes t)) id p rx s)

/-- A NAK from the link partner: the block is sent again after the block in progress (R350). -/
def nakTake (p : LPort) (d : Bytes) (s : State) : State :=
  onXfer (fun x =>
    let again := fun (q : Pump) => { q with resend := some (u16 d 2, 0) }
    if x.id = u16 d 0 then
      match p with
      | .lu => { x with lu := x.lu.map again }
      | .ld => { x with ld := x.ld.map again }
    else x) s

/-- A NAK received (R350). -/
def execNakRx (p : LPort) (rx : LeadRx) (s : State) : Host.Outcome State Fault Refusal :=
  .next (leadRecv (fun b => hTyp b == tyCmd && fOp b == 5) (nakTake p (fData rx.bytes)) p rx s)

/-! ### Filling the rest of a tempo with DATA (R334) -/

/-- Data bytes of a DATA frame that fits: at most 480, shortened in steps of 16 to no less than 64, and what is left of the
run where that is less. -/
def dataFit (room left : Nat) : Nat :=
  let most := min 480 left
  if wireBytes (16 + most) ≤ room then most
  else
    let n := (room - 54) / 16 * 16
    if 64 ≤ n then min n most else 0

def dataFrame (x : Xfer) (flags blk off n : Nat) (src : Nat) (s : State) : Bytes × State :=
  mkFrame tyData 0 flags (leBytes 2 x.id ++ leBytes 2 blk ++ leBytes 2 off ++ leBytes 2 0 ++ memRead s src n) s

/-- The next DATA frame of a port, and its pump after it. -/
def pumpNext (x : Xfer) (q : Pump) (room : Nat) (s : State) : Option ((Bytes × State) × Pump) :=
  let avail := if x.origin then xferBlocks x else x.done
  if x.failed ∨ !x.manOk then none
  else if q.man < x.manLen then
    let n := dataFit room (x.manLen - q.man)
    if n = 0 then none
    else some (dataFrame x 1 (q.man / 480) q.man n (stagedMan + q.man) s, { q with man := q.man + n })
  else match q.off, q.resend with
    | 0, some (b, o) =>
      let n := dataFit room (blockLen x.imgLen b - o)
      if n = 0 ∨ avail ≤ b then none
      else
        let done := decide (blockLen x.imgLen b ≤ o + n)
        some (dataFrame x 2 b o n (stagedImg + 65536 * b + o) s, { q with resend := if done then none else some (b, o + n) })
    | _, _ =>
      let n := dataFit room (blockLen x.imgLen q.block - q.off)
      if n = 0 ∨ avail ≤ q.block then none
      else
        let done := decide (blockLen x.imgLen q.block ≤ q.off + n)
        some (dataFrame x 0 q.block q.off n (stagedImg + 65536 * q.block + q.off) s,
              { q with block := if done then q.block + 1 else q.block, off := if done then 0 else q.off + n })

/-- One tempo's DATA frame on a port. -/
def pumpPort (p : LPort) (room : Nat) (s : State) : State :=
  match s.lea.xfer with
  | none => s
  | some x =>
    match (match p with | .lu => x.lu | .ld => x.ld) with
    | none => s
    | some q =>
      if !portOn s p then s
      else match pumpNext x q room s with
        | none => s
        | some (m, q1) =>
          onXfer (fun x => match p with | .lu => { x with lu := some q1 } | .ld => { x with ld := some q1 })
            { m.2 with lea.luData := if p = .lu then some m.1 else m.2.lea.luData,
                       lea.ldData := if p = .ld then some m.1 else m.2.lea.ldData }

/-! ### WAKE and the repeater (R329) -/

/-- A CMD WAKE addressed to the module wakes it; in S3 and S4 it is the repeater that consumes it (R329, R470). -/
def execWakeRx (p : LPort) (rx : LeadRx) (s : State) : Host.Outcome State Fault Refusal :=
  .next (
    if leadFault rx = 0 ∧ hTyp rx.bytes = tyCmd ∧ fOp rx.bytes = 9 ∧ s.lea.addr ≠ 0 ∧ hDst rx.bytes = s.lea.addr
        ∧ (netOn s ∨ (nRepeater s ∧ s.lea.byp)) then wakeFire 4 s
    else leadRecv (fun b => hTyp b == tyCmd && fOp b == 9) id p rx s)

/-- In S3 and S4 the AON repeater passes every frame on unchanged (R329). -/
def execRepeaterForward (p : LPort) (bytes : Bytes) (s : State) : Host.Outcome State Fault Refusal :=
  .next (if (s.pwr.sys = .s3 ∨ s.pwr.sys = .s4) ∧ nRepeater s ∧ s.lea.byp then
    match otherPort p with
    | .lu => { s with lea.luCut := some bytes }
    | .ld => { s with lea.ldCut := some bytes }
  else s)

/-! ### The edge -/

/-- The Lead bookkeeping of an edge: missed SYNC frames, the budget, the epoch digest, a segment head, the frames that left
in the tempo, and the express frame of the next. -/
def edgeLead (ev : Bool) (s : State) : State :=
  let s0 := { s with tmp.missed := if s.tmp.gotTime then 0 else min 8 (s.tmp.missed + 1),
                     lea.luSilent := if s.tmp.gotTime then 0 else min 8 (s.lea.luSilent + 1), tmp.gotTime := false }
  let lu := leadDrain (leadOrder s0.lea.luTx) (portRoom s0 .lu) 0
  let ld := leadDrain (leadOrder s0.lea.ldTx) (portRoom s0 .ld) 0
  let s1 := { s0 with lea.luTx := if portOn s0 .lu then lu.1 else [], lea.ldTx := if portOn s0 .ld then ld.1 else [],
                      lea.luCut := none, lea.luData := none, lea.ldData := none }
  s1 |> pumpPort .lu lu.2 |> pumpPort .ld ld.2 |> syncLoss false |> segmentHead |> edgeBudget |> edgeExpected |> edgeEpoch |> edgeExpress |> edgeStop ev

end Sys2Proof.Machine
end

