-- ==== Sys2Proof/Machine/Yard.lean ====
section
/-!
DEFINITION. The yard line (R352–R360): windows and their owners, what is sent in a window, what is received, the noise
floor, polls and resends; and the UARTs (R366).
-/

namespace Sys2Proof.Machine

def raiseYrd (f : Fld) (s : State) : State := raise F.YRD_EVCNT_COUNT [f] s

/-- The yard line runs (R362). -/
def yardOn (s : State) : Bool := netOn s && s.loaded && nYlen s

/-- The owner of a window of the present cycle, by the NADDR of its beacon (R354); window 0 is the coordinator's. -/
def windowOwner (s : State) (w : Nat) : Nat := if w = 0 then 1 else 1 + (49 * s.yrd.cyc + w - 1) % max 1 s.yrd.naddr

/-! ### The codeword RS(32,24) (R355) -/

/-- A product in GF(2⁸) with the field polynomial 0x11D. -/
def gfMul (a b : Nat) : Nat :=
  (List.range 8).foldl (fun r i =>
    let d := if r < 128 then 2 * r else (2 * r) ^^^ 0x11D
    if b.testBit (7 - i) then d ^^^ a else d) 0

/-- A polynomial times x + r, coefficients from the highest degree down. -/
def gfTimesRoot (r : Nat) (p : List Nat) : List Nat := List.zipWith (· ^^^ ·) (p ++ [0]) (0 :: p.map (gfMul r))

/-- The generator polynomial: roots α⁰ to α⁷. -/
def rsGen : List Nat := ((List.range 8).foldl (fun (x : List Nat × Nat) _ => (gfTimesRoot x.2 x.1, gfMul 2 x.2)) ([1], 1)).1

/-- The 8 parity bytes: the remainder of the data polynomial times x⁸. -/
def rsParity (d : Bytes) : Bytes :=
  let g := rsGen.tail
  (d.foldl (fun (r : List Nat) b =>
    let f := b.toNat ^^^ r.headD 0
    List.zipWith (· ^^^ ·) (r.tail ++ [0]) (g.map (gfMul f))) (List.replicate 8 0)).map (BitVec.ofNat 8)

/-- The codeword of 24 data bytes, systematic. -/
def rsWord (d : Bytes) : Bytes := d ++ rsParity d

/-! ### What a window carries (R353, R355) -/

/-- NOZC: the coordinator has no AC energy point, or VA is below 0.2 × UNOM (R353). -/
def yardNozc (s : State) : Bool := (vaChan s).isNone || phaseBelow s 0 200

/-- The window's centre, of those the coordinator counts, that lies nearest to `c`: a multiple of 1 ÷ (2 × FNOM) with NOZC, else a
crossing of VA, half a mains period apart (R353; log entry 192). -/
def yardCentre (s : State) (c : Nat) : Nat :=
  if yardNozc s then (4 * tFnom s * c + 1000000000) / 2000000000 * 1000000000 / (2 * tFnom s)
  else match s.mtr.zc with
    | [] => c
    | x :: t =>
      let p : Int := match t with | y :: _ => (x : Int) - y | [] => 1000000000 / (tFnom s : Int)
      ((x : Int) + (4 * ((c : Int) - x) + p) / (2 * p) * p / 2).toNat

def beaconBytes (centre : Nat) (s : State) : Bytes :=
  let poll := s.yrd.poll.isSome
  leBytes 1 (b2n poll + 2 * b2n s.yrd.nozc + 4 * rget s F.TMP_STATUS_SRCLOST) ++ leBytes 1 s.yrd.naddr ++ leBytes 2 (siteId s)
    ++ leBytes 8 centre ++ (expDigest s).take 8 ++ leBytes 4 (s.yrd.poll.getD s.yrd.cyc)

/-- The coordinator's beacon, with the string's NADDR and NOZC of its cycle (R353–R355). -/
def beaconSend (centre : Nat) (s : State) : State :=
  let s1 := { s with yrd.naddr := max 1 s.lea.naddr, yrd.nozc := yardNozc s }
  { s1 with yrd.sent := some (rsWord (beaconBytes (yardCentre s centre) s1)), yrd.pollCyc := s.yrd.poll.isSome, yrd.poll := none }

/-- A window frame; STATUS and STOP go to all, a POLLREPLY to the coordinator (DESIGN CHOICE, log entry 32). -/
def yardFrame (s : State) (typ dst : Nat) (payload : Bytes) : Bytes :=
  leBytes 1 s.lea.addr ++ leBytes 1 (16 * typ + s.yrd.seq) ++ leBytes 1 dst ++ leBytes 1 s.yrd.nak ++ (ownEpoch s).take 8
    ++ leBytes 1 (statusState s % 128) ++ leBytes 1 payload.length ++ payload ++ List.replicate (10 - payload.length) 0

/-- A new frame sent: its SEQ is used and its NAK has been named. -/
def yardSend (b : Bytes) (s : State) : State :=
  raiseYrd F.YRD_FLAGS_TXDONE
    { s with yrd.sent := some (rsWord b), yrd.last := some b, yrd.seq := (s.yrd.seq + 1) % 16, yrd.nak := 0 }

/-- The owner's frame: a resend first, then a STOP, a queued message, and STATUS (R354, R357, R360). -/
def ownFrame (s : State) : State :=
  match s.yrd.resend, s.yrd.last with
  | true, some b => raiseYrd F.YRD_FLAGS_RESEND { s with yrd.sent := some (rsWord b), yrd.resend := false }
  | _, _ =>
    match s.yrd.stops with
    | (b, n) :: t =>
      yardSend (yardFrame s 3 0xFF b) { s with yrd.stops := if n ≤ 1 then t else t ++ [(b, n - 1)] }
    | [] =>
      match s.yrd.txq with
      | m :: t => yardSend (yardFrame s 2 m.addr m.data) { s with yrd.txq := t }
      | [] => yardSend (yardFrame s 1 0xFF []) s

/-- What the module transmits in the window it has just entered (R354, R359). -/
def yardTransmit (centre : Nat) (s : State) : State :=
  let w := s.yrd.win
  if w = 0 then (if isCoord s then beaconSend centre s else s)
  else if w = 1 ∧ s.yrd.pollCyc then
    if s.yrd.pollMe then
      let s1 := yardSend (yardFrame s 4 1 (serialBytes s ++ leBytes 1 (b2n (isPost s) + 2 * b2n (isCoord s)) ++ [0])) s
      { s1 with yrd.pollMe := false, yrd.last := s.yrd.last }
    else s
  else if s.lea.addr ≠ 0 ∧ windowOwner s w = s.lea.addr ∧ (isCoord s ∨ (s.yrd.acq ∧ s.yrd.sawCyc)) then ownFrame s
  else s

/-! ### Noise and windows (R353, R354, R356) -/

/-- N, the largest quiet energy of the last 16 windows, and the threshold T. -/
def yardFloor (s : State) : Nat := s.yrd.quiet.foldl max 0
def yardThr (s : State) : Nat := nYlTk s * yardFloor s

def noiseTake (nq : Nat) (s : State) : State :=
  let s1 := { s with yrd.quiet := (nq :: s.yrd.quiet).take 16 }
  s1 |> rput F.YRD_NOISE_FLOOR (min 0xFFFF (yardFloor s1)) |> rput F.YRD_NOISE_THR (min 0xFFFF (yardThr s1))

/-- Three beacons missed in a row set YL_LOST (R358). -/
def yardLost (s : State) : State := if 3 ≤ s.yrd.miss ∧ !isCoord s then { s with yrd.lost := true } else s

/-- The next window: its number and cycle, a missed beacon counted once window 0 has passed without one. -/
def windowNext (s : State) : State :=
  if !s.yrd.acq then (if isCoord s then { s with yrd.acq := true, yrd.win := 0 } else s)
  else
    let w := (s.yrd.win + 1) % 50
    let s1 := { s with yrd.win := w, yrd.cyc := if w = 0 then (s.yrd.cyc + 1) % 4294967296 else s.yrd.cyc }
    if w = 0 then { s1 with yrd.seen0 := false, yrd.pollCyc := false, yrd.pollMe := false }
    else if w = 1 ∧ !isCoord s ∧ !s.yrd.seen0 then
      yardLost (raiseYrd F.YRD_FLAGS_BMISS { s1 with yrd.miss := min 3 (s1.yrd.miss + 1) })
    else s1

/-- A window opens (R353, R354). -/
def execYardWindow (centre nq : Nat) (s : State) : Host.Outcome State Fault Refusal :=
  .next (if yardOn s then yardTransmit centre (windowNext { noiseTake nq s with yrd.sent := none }) else s)

/-! ### Reception (R355–R358) -/

/-- The winning pulse position of a symbol: the one with the greatest energy, the first of equals (R356; log entry 192). -/
def symValue (e : List Nat) : Nat := [1, 2, 3].foldl (fun m k => if e.getD m 0 < e.getD k 0 then k else m) 0

/-- A symbol is an erasure: its winning energy is below T, or the sum over the other positions exceeds 4 × T (R356). -/
def symErased (thr : Nat) (e : List Nat) : Bool :=
  let w := e.getD (symValue e) 0
  decide (w < thr) || decide (4 * thr < e.sum - w)

/-- The bytes of a window from its symbols, four each, bits 7:6 first; `none` where a symbol is erased (R355, R356). -/
def rxBytes (thr : Nat) (sym : List (List Nat)) : List (Option Nat) :=
  (List.range 32).map (fun b =>
    let q := (sym.drop (4 * b)).take 4
    if q.any (symErased thr) then none else some (q.foldl (fun v e => 4 * v + symValue e) 0))

/-- Erased bytes, and wrong bytes against the codeword of the window's data. -/
def rsEras (s : State) (rx : YardRx) : Nat := (rxBytes (yardThr s) rx.sym).countP (·.isNone)
def rsErrs (s : State) (rx : YardRx) : Nat :=
  ((rsWord rx.bytes).zip (rxBytes (yardThr s) rx.sym)).countP (fun x => x.2.any (fun v => v != x.1.toNat))

/-- The receiver saturates: 8 samples at full scale in the window (R352). -/
def yardSat (rx : YardRx) : Bool := decide (8 ≤ rx.full)

/-- A codeword with e byte errors and s erasures decodes where 2e + s ≤ 8, in a window without saturation (R355, R357). -/
def rsDecodes (s : State) (rx : YardRx) : Bool := !yardSat rx && decide (2 * rsErrs s rx + rsEras s rx ≤ 8)

def windowDiscard (rx : YardRx) (owner : Nat) (s : State) : State :=
  let s1 := rsat F.YRD_WINCNT_DISC 1 s
  let s2 := raise F.YRD_EVCNT_COUNT ([F.YRD_FLAGS_RXDISC] ++ (if yardSat rx then [F.YRD_FLAGS_SAT] else [])) s1
  if owner = s.lea.addr then { s2 with yrd.resend := s.yrd.last.isSome } else { s2 with yrd.nak := owner }

def windowDecoded (rx : YardRx) (s : State) : State :=
  s |> rsat F.YRD_WINCNT_DECODED 1 |> rsat F.YRD_CORR_ERRS (rsErrs s rx) |> rsat F.YRD_CORR_ERAS (rsEras s rx)

/-- Time by yard line: the first chain time of a module without any, and the phase error in HOLDOVER (R76, R358). -/
def beaconTime (b : Bytes) (own : Nat) (s : State) : State :=
  let e := (u64 b 4 : Int) - own
  if s.tmp.mode = .free then { s with tmp.chain := ((s.tmp.chain : Int) + e).toNat }
  else if s.tmp.mode = .holdover ∧ s.tmp.stepTo.isNone then realign e (rput F.TMP_PHERR_ERR (ofSigned 32 e) s)
  else s

/-- A beacon of this site. -/
def beaconAccept (b : Bytes) (own : Nat) (s : State) : State :=
  let poll := (u8 b 0).testBit 0
  let diff := (ownEpoch s).take 8 != slice b 0xC 8
  let s1 := { s with
    yrd.naddr := u8 b 1, yrd.nozc := (u8 b 0).testBit 1, yrd.lost := false, yrd.miss := 0, yrd.seen0 := true, yrd.win := 0,
    yrd.acq := true, yrd.cyc := if poll then s.yrd.cyc else u32 b 0x14,
    yrd.sawCyc := if poll then s.yrd.sawCyc && s.yrd.acq else true,
    yrd.pollCyc := poll, yrd.pollMe := poll && decide (u32 b 0x14 = s.fuse.serial % 4294967296),
    yrd.gotBeacon := true, lea.ylDiff := if diff then min 2 (s.lea.ylDiff + 1) else 0 }
  raiseYrd F.YRD_FLAGS_BEACON (beaconTime b own s1)

/-- A window 0 received (R355, R357, R358). -/
def execYardBeaconRx (rx : YardRx) (centre : Nat) (s : State) : Host.Outcome State Fault Refusal :=
  .next (if !yardOn s ∨ isCoord s then s
    else if !rsDecodes s rx then windowDiscard rx 1 s
    else
      let s1 := windowDecoded rx s
      if u8 rx.bytes 0 / 16 = 0 ∧ u16 rx.bytes 2 = siteId s % 65536 then beaconAccept rx.bytes centre s1 else s1)

/-- Whether a window frame is for this module (R355). -/
def yardForMe (s : State) (b : Bytes) : Bool :=
  let d := u8 b 2
  (d == s.lea.addr && d != 0) || d == 0xFF || (d == 0xFE && u32 b 0xE == s.fuse.serial % 4294967296)

/-- A message put into the receive queue, 32 deep; a full queue drops it. -/
def yardQueue (b : Bytes) (s : State) : State :=
  if 32 ≤ s.yrd.rxq.length then s
  else raiseYrd F.YRD_FLAGS_RXMSG
    { s with yrd.rxq := s.yrd.rxq ++ [⟨u8 b 0, u8 b 1 / 16, slice b 0xE (min 10 (u8 b 0xD))⟩] }

/-- A decoded window frame by its TYPE: DATA and POLLREPLY are queued, a STOP is acted on once (R345, R355, R360). -/
def frameTake (b : Bytes) (s : State) : State :=
  let s0 := if u8 b 3 = s.lea.addr ∧ s.lea.addr ≠ 0 ∧ s.yrd.last.isSome then { s with yrd.resend := true } else s
  match u8 b 1 / 16 with
  | 2 => if yardForMe s b then yardQueue b s0 else s0
  | 3 =>
    let body := slice b 0xE 10
    let s1 := raiseYrd F.YRD_FLAGS_STOPRX s0
    if stopNew s (u8 body 0) (u16 body 2) then stopTake body s1 else s1
  | 4 => if isCoord s then yardQueue b (raiseYrd F.YRD_FLAGS_POLLRX s0) else s0
  | _ => s0

/-- A window of another module, or the module's own as it heard it (R357). -/
def execYardFrameRx (rx : YardRx) (s : State) : Host.Outcome State Fault Refusal :=
  .next (if !yardOn s then s
    else if !rsDecodes s rx then windowDiscard rx (windowOwner s s.yrd.win) s
    else if u8 rx.bytes 0 = s.lea.addr ∧ s.lea.addr ≠ 0 then windowDecoded rx s
    else frameTake rx.bytes (windowDecoded rx s))

/-- The third beacon in a row is missed (R358). -/
def execYlLost (s : State) : Host.Outcome State Fault Refusal := .next (if yardOn s then yardLost s else s)

/-- A serial to poll, in the coordinator (R359). -/
def yardPoll (v : Nat) (s : State) : State :=
  if isCoord s then { s with yrd.poll := some v } |> rput F.YRD_POLL_SERIAL v else s

/-- A write of YRD_POLL (R359). -/
def execYardPoll (serial : Word) (s : State) : Host.Outcome State Fault Refusal := .next (yardPoll serial.toNat s)

/-- A push of the transmit window, 16 messages deep. -/
def yardPush (dst len : Nat) (data : Bytes) (s : State) : State :=
  if 10 < len then rsat F.YRD_LENERR_COUNT 1 s
  else if 16 ≤ s.yrd.txq.length then raiseYrd F.YRD_FLAGS_TXFULL s
  else { s with yrd.txq := s.yrd.txq ++ [⟨dst, 2, data.take len⟩] }

/-- The transmit window's payload bytes. -/
def yardWindow (s : State) : Bytes :=
  leBytes 4 (rget s (F.YRD_TXDAT_DATA 0)) ++ leBytes 4 (rget s (F.YRD_TXDAT_DATA 1)) ++ leBytes 2 (rget s F.YRD_TXDAT2_DATA)

/-- The firmware fills the transmit window and pushes it. -/
def execYardMsgPush (dst : BitVec 8) (len : Nat) (data : Bytes) (s : State) : Host.Outcome State Fault Refusal :=
  .next (
    let s1 := s |> rput (F.YRD_TXDAT_DATA 0) (u32 data 0) |> rput (F.YRD_TXDAT_DATA 1) (u32 data 4)
      |> rput F.YRD_TXDAT2_DATA (u16 data 8) |> rput F.YRD_TXHDR_ADDR dst.toNat |> rput F.YRD_TXHDR_LEN len
    yardPush dst.toNat (len % 16) (yardWindow s1) s1)

/-- The head of the receive queue is removed. -/
def execYardMsgHeadRemove (s : State) : Host.Outcome State Fault Refusal :=
  .next { s with yrd.rxq := s.yrd.rxq.drop 1 }

/-! ### UARTs (R366) -/

def uart (s : State) (u : Nat) : Uart := Tab.get Uart.reset s.ua u

def onUart (u : Nat) (f : Uart → Uart) (s : State) : State := { s with ua := Tab.upd s.ua u f }

/-- Flag k of UART u: 0 RXAVAIL, 1 TXEMPTY, 2 RXERR, 3 IDLE. -/
def perFlag (u k : Nat) : Fld := ⟨F.PER_FLAGS_RXAVAIL0.addr, 4 * u + k, 1, 0⟩

def raisePer (l : List Fld) (s : State) : State := raise F.PER_EVCNT_COUNT l s

def uartOn (s : State) (u : Nat) : Bool := appOn s && rbit s (F.UA_CFG_EN u)

/-- A received character: ignored while the driver enable is raised; a full FIFO takes nothing. -/
def execUartRxChar (u : Fin 2) (c : BitVec 8) (perr ferr : Bool) (s : State) : Host.Outcome State Fault Refusal :=
  .next (if !uartOn s u ∨ (uart s u).de then s
    else
      let s1 := if perr || ferr then rsat (F.UA_STAT_ERRCNT u) 1 s else s
      let s2 := if (uart s u).rx.length < 64 then
          onUart u (fun q => { q with rx := q.rx ++ [(c.toNat % 2 ^ (5 + rget s (F.UA_CFG_BITS u)), perr, ferr)] }) s1
        else s1
      raisePer ([perFlag u 0] ++ (if perr || ferr then [perFlag u 2] else [])) s2)

/-- A read of UAn_DATA pops the receive FIFO. -/
def uartPop (u : Nat) (s : State) : State :=
  match (uart s u).rx with
  | (c, p, f) :: t => { onUart u (fun q => { q with rx := t }) s with resp := ⟨false, c + 256 * b2n p + 512 * b2n f⟩ }
  | [] => { s with resp := ⟨false, 0⟩ }

/-- The firmware reads UAn_DATA. -/
def execUartRxPop (u : Fin 2) (s : State) : Host.Outcome State Fault Refusal := .next (uartPop u s)

/-- A write of UAn_DATA: discarded when the FIFO is full. -/
def uartPush (u c : Nat) (s : State) : State :=
  if 64 ≤ (uart s u).tx.length then s else onUart u (fun q => { q with tx := q.tx ++ [c % 256] }) s

/-- The firmware writes UAn_DATA. -/
def execUartTxWrite (u : Fin 2) (c : BitVec 8) (s : State) : Host.Outcome State Fault Refusal :=
  .next (uartPush u c.toNat s)

/-- The receive idle timeout: IDLE character times, 0 taken as 1. -/
def execUartIdleTimeout (u : Fin 2) (chars : Nat) (s : State) : Host.Outcome State Fault Refusal :=
  .next (if uartOn s u ∧ max 1 (rget s (F.UA_CFG_IDLE u)) ≤ chars then raisePer [perFlag u 3] s else s)

/-- One bit time in 2⁻⁸ cycles. -/
def uartDiv (s : State) (u : Nat) : Nat := max 5120 (rget s (F.UA_BAUD_DIV u))

/-- The bits of a character on the line: start, data from bit 0 up, parity, stop (R366). -/
def uartFrame (s : State) (u c : Nat) : List Bool :=
  let d := (List.range (5 + rget s (F.UA_CFG_BITS u))).map (fun i => c.testBit i)
  let odd := d.foldl (· != ·) false
  let par := match rget s (F.UA_CFG_PAR u) with | 1 => [odd] | 2 => [!odd] | _ => []
  [false] ++ d ++ par ++ (if rbit s (F.UA_CFG_STOP2 u) then [true, true] else [true])

/-- The transmitter over `room` 2⁻⁸ cycles: driver-enable lead, characters, guard. -/
def uartGo (s : State) (u : Nat) : Nat → Nat → Uart → Uart × Bool
  | 0, _, q => (q, false)
  | fuel + 1, room, q =>
    if room < q.wait then ({ q with wait := q.wait - room }, false)
    else
      let left := room - q.wait
      match q.tx with
      | c :: t =>
        if !q.de then uartGo s u fuel left { q with de := true, guard_ := false, wait := rget s (F.UA_CFG_DELAY u) * uartDiv s u, tx := c :: t }
        else
          let r := uartGo s u fuel left { q with wait := (uartFrame s u c).length * uartDiv s u, tx := t, guard_ := false, line := uartFrame s u c }
          (r.1, r.2 || t.isEmpty)
      | [] =>
        if !q.de then ({ q with wait := 0 }, false)
        else if q.guard_ then ({ q with de := false, wait := 0, guard_ := false }, false)
        else uartGo s u fuel left { q with guard_ := true, wait := rget s (F.UA_CFG_GUARD u) * uartDiv s u }

/-- A tempo of transmission of one UART. -/
def edgeUart (u : Nat) (s : State) : State :=
  if uartOn s u then
    let r := uartGo s u 200 2560000 (uart s u)
    let s1 := onUart u (fun _ => r.1) s
    if r.2 then raisePer [perFlag u 1] s1 else s1
  else s

end Sys2Proof.Machine
end

