-- ==== Sys2Proof/Machine/Clock.lean ====
section
/-!
DEFINITION. The reference multiplexer, its monitors, and clock failure with its SWITCH and HOLD modes (17, R485–R493).
-/

namespace Sys2Proof.Machine

def raiseClk (fl : List Fld) (s : State) : State := raise F.CLK_EVCNT_COUNT fl s

def xoOk (s : State) : Bool := rbit s F.CLK_STATUS_XOOK

/-- REC may be the reference: a module other than the coordinator, SEL at AUTO, REC valid (R486, R489). -/
def recUsable (s : State) : Bool := !isCoord s && !rbit s F.CLK_REFSEL_SEL && rbit s F.CLK_STATUS_RECOK

/-- The monitor forces the multiplexer onto a source; a switch that was waiting completes with it (R487). -/
def refForce (to_ : Nat) (s : State) : State :=
  let waited := rbit s F.CLK_REFSEL_BUSY
  s |> rput F.CLK_REFSEL_ACT to_ |> rput F.CLK_REFSEL_BUSY 0
    |> raiseClk (if waited then [F.CLK_FLAGS_FORCED, F.CLK_FLAGS_SWDONE] else [F.CLK_FLAGS_FORCED])

/-! ### Clock failure (R489–R493) -/

/-- SWITCH mode: the clock moves to IRC ÷ 4; the running tempo counts as clock-degraded (R232, R490). -/
def clockSwitch (s : State) : State :=
  refForce 2 (ircMark s) |> rput F.CLK_STATUS_ONIRC 1 |> nmi F.SYS_NMICAUSE_CLKSW |> wakeFire 11

/-- Outlets with KP or KN driven closed. -/
def closedOutlets (s : State) : Nat :=
  bitsOf 4 (fun n => oActive s n && [0, 1].any (fun k => decide (oCoil s n k < 64) && (coil s (oCoil s n k)).drive))

/-- HOLD mode: the tempo that runs never ends; safety outputs and coils off, each opening a hard break, insulation cycles stopped,
pilots at steady +12 V, the SAFE and METER clocks stopped; AON counts the held time from here (R190, R491, R492). -/
def clockHold (s : State) : State :=
  let closed := closedOutlets s
  let s0 := eachUpTo 4 (fun n t => isoHalt n (if closed.testBit n then hardOpen n t else t)) (eachUpTo 4 seqRestore s)
  let s1 := { s0 with saf.hold := true, tmp.running := false, tmp.begun := false, pwr.holdAt := s.pwr.rtc, pwr.holdClosed := closed,
                      pwr.clkRet := false }
  let s2 := eachUpTo 4 (fun x t => onSOut x (fun o => { o with act := false }) t) s1
  let s3 := eachUpTo 4 (fun n t => onV n (fun v => { v with drive := 1000 }) (onOutlet n (fun o => { o with duty := 1000 }) t)) s2
  coilsOff (outsTake s3) |> rput F.CLK_REFSEL_ACT 3 |> rput F.CLK_REFSEL_BUSY 0 |> rput F.CLK_STATUS_HOLD 1 |> rput F.CLK_STATUS_MAINLOCK 0
    |> raiseClk [F.CLK_FLAGS_HOLDIN]

/-- A clock failure, in the mode of the layout (R489). -/
def clockFail (s : State) : State := if rbit s F.CLK_FAILMODE_MODE then clockHold s else clockSwitch s

/-- What a source declared dead does to the multiplexer: REC or XO where one of them still serves, else a clock failure. -/
def refLost (s : State) : State :=
  if recUsable s then refForce 0 s else if xoOk s then refForce 1 s else clockFail s

/-! ### Monitors (R488) -/

/-- Whether the reference in use, or the one a switch waits for, is the given one. -/
def refUses (s : State) (k : Nat) : Bool := rget s F.CLK_REFSEL_ACT == k

/-- A switch that waits for a source now dead does not take place. -/
def refCancel (k : Nat) (s : State) : State :=
  if rbit s F.CLK_REFSEL_BUSY ∧ s.pwr.clkTo = k then rput F.CLK_REFSEL_BUSY 0 s else s

/-- XO is declared dead: it is a clock failure where the main PLL has no valid REC; SG0 and SG1 go down (R485, R489). -/
def xoDead (err : Int) (s : State) : State :=
  let s1 := s |> rput F.CLK_STATUS_XOOK 0 |> rput F.CLK_MONXO_ERR (ofSigned 32 err) |> raiseClk [F.CLK_FLAGS_XODEAD] |> refCancel 1
  let s2 := eachUpTo 2 (fun p t => if rbit t (F.NET_PSTAT_LINK p) then raiseNet F.NET_FLAGS_LINKCHG (rput (F.NET_PSTAT_LINK p) 0 t)
    else t) s1
  if refUses s2 1 ∨ (refUses s2 0 ∧ !recUsable s2) then refLost s2 else s2

/-- XO stops or leaves ±6 % (R488); what its loss sets is set in one cycle (R39). -/
def execXoDead (err : Int) (s : State) : Host.Outcome State Fault Refusal :=
  .next (if xoOk s then oneCycle (xoDead err) s else s)

/-- REC is declared dead: the main PLL moves to XO and the module to HOLDOVER (R75, R488). -/
def recDead (err : Int) (s : State) : State :=
  let s1 := s |> rput F.CLK_STATUS_RECOK 0 |> rput F.CLK_MONREC_ERR (ofSigned 32 err) |> raiseClk [F.CLK_FLAGS_RECDEAD] |> refCancel 0
  syncLoss true (if refUses s1 0 then refLost s1 else s1)

/-- REC stops or leaves ±200 ppm (R488). -/
def execRecDead (err : Int) (s : State) : Host.Outcome State Fault Refusal :=
  .next (if rbit s F.CLK_STATUS_RECOK then oneCycle (recDead err) s else s)

/-- The RTC crystal against XO over 1 s: an error beyond ±500 ppm sets RTCERR (R488). -/
def execRtcError (ppm : Int) (s : State) : Host.Outcome State Fault Refusal :=
  let s1 := rput F.CLK_MONRTC_ERR (ofSigned 32 ppm) s
  .next (if 500 < ppm.natAbs then raiseClk [F.CLK_FLAGS_RTCERR] (rput F.CLK_STATUS_RTCOK 0 s1) else s1)

/-- A dead source has passed its test for 10 ms and is valid again; outside HOLDOVER a valid REC is taken (R486, R488). -/
def sourceValid (src : ClkSrc) (err : Int) (s : State) : State :=
  let e := ofSigned 32 err
  match src with
  | .xo => { s with pwr.xoAt := if xoOk s then s.pwr.xoAt else s.pwr.rtc } |> rput F.CLK_STATUS_XOOK 1 |> rput F.CLK_MONXO_ERR e
  | .lu =>
    let s1 := s |> rput F.CLK_STATUS_RECOK 1 |> rput F.CLK_MONREC_ERR e
    if recUsable s1 && refUses s1 1 && s1.tmp.mode != .holdover then refSwitch 0 s1 else s1
  | .rtc => s |> rput F.CLK_STATUS_RTCOK 1 |> rput F.CLK_MONRTC_ERR e

/-- A source is valid again (R488). -/
def execClockSourceValid (src : ClkSrc) (err : Int) (ms : Nat) (s : State) : Host.Outcome State Fault Refusal :=
  .next (if 10 ≤ ms then sourceValid src err s else s)

/-! ### The multiplexer (R486, R487) -/

/-- A write of CLK_REFSEL.SEL: XO puts a module other than the coordinator into HOLDOVER on XO (R486). -/
def refselWrite (sel : Bool) (s : State) : State :=
  let s1 := rputB F.CLK_REFSEL_SEL sel s
  if sel && !isCoord s && (s.tmp.mode == .locked || s.tmp.mode == .slew) then toHoldover s1
  else if sel && refUses s1 0 then refSwitch 1 s1
  else if !sel && recUsable s1 && refUses s1 1 && s1.tmp.mode == .free then refSwitch 0 s1
  else s1

/-- A write of CLK_REFSEL (R486). -/
def execRefselWrite (sel : Bool) (s : State) : Host.Outcome State Fault Refusal := .next (refselWrite sel s)

/-- A waiting switch completes (R487). -/
def execRefSwitchDone (s : State) : Host.Outcome State Fault Refusal :=
  .next (if rbit s F.CLK_REFSEL_BUSY then
    s |> rput F.CLK_REFSEL_ACT s.pwr.clkTo |> rput F.CLK_REFSEL_BUSY 0 |> raiseClk [F.CLK_FLAGS_SWDONE]
  else s)

/-- XO has been valid again for 1 s: the multiplexer leaves IRC ÷ 4 (R490). -/
def execRefBackFromIrc (s : State) : Host.Outcome State Fault Refusal :=
  .next (if refUses s 2 ∧ xoOk s ∧ s.pwr.xoAt + 32768 ≤ s.pwr.rtc then
    s |> rput F.CLK_REFSEL_ACT 1 |> rput F.CLK_STATUS_ONIRC 0 |> raiseClk [F.CLK_FLAGS_SWDONE, F.CLK_FLAGS_REFBACK]
  else s)

/-! ### The return from HOLD (R492) -/

/-- RTC ticks in ns, to the nearest ns. -/
def ticksNs (t : Nat) : Nat := (t * 1000000000 + 16384) / 32768

/-- An outlet that had KP or KN closed: FAULTED with cause CHECK (R492). -/
def holdOutlet (n : Nat) (s : State) : State :=
  if !s.pwr.holdClosed.testBit n then s
  else
    let s1 := if (outlet s n).energised then sessionEvent n .ended s else s
    toFaulted n (outCause n 0x13 (onOutlet n (fun o => { o with energised := false }) s1))

/-- Chain time moves on by the held duration; the sealed core takes the forward step, and CLKDEG is set in every open
session (R287, R492). -/
def holdStep (s : State) : State :=
  let d := ticksNs (s.pwr.rtc - s.pwr.holdAt)
  let s1 := edgeLegal d { s with tmp.chain := s.tmp.chain + d, tmp.running := s.loaded && s.pwr.safeOn }
  eachUpTo 4 (fun n t => onSess n (fun x => { x with flags := setBit x.flags 1 true }) t) (raiseTmp F.TMP_FLAGS_STEP s1)

/-- The clock has returned: PLL, CLKRET, CHECK 0x14, the step, and the outlets, in this order (R492). -/
def clockReturn (s : State) : State :=
  let s1 := { s with pwr.clkRet := true }
    |> rput F.CLK_REFSEL_ACT (if xoOk s then 1 else 0) |> rput F.CLK_STATUS_MAINLOCK 1 |> rput F.CLK_STATUS_HOLD 0
    |> raiseClk [F.CLK_FLAGS_HOLDOUT] |> nmi F.SYS_NMICAUSE_CLKRET |> wakeFire 11 |> safCause 0x14 0 false |> holdStep
  outsTake { eachUpTo 4 holdOutlet s1 with pwr.holdClosed := 0 }

/-- XO or REC has been valid for 10 ms while HOLD is in force (R492). -/
def execClockReturn (s : State) : Host.Outcome State Fault Refusal :=
  .next (if s.saf.hold ∧ !s.pwr.clkRet ∧ (xoOk s ∨ recUsable s) then clockReturn s else s)

/-- A write of HOLDCLR clears HOLD once CLKRET has set (R492). -/
def holdClear (s : State) : State :=
  if s.saf.hold ∧ s.pwr.clkRet then { s with saf.hold := false, pwr.clkRet := false } else s

/-- CLK_FAILMODE.HOLDCLR (R492). -/
def execHoldClear (s : State) : Host.Outcome State Fault Refusal := .next (holdClear s)

end Sys2Proof.Machine
end

