-- ==== Sys2Proof/Machine/Power.lean ====
section
/-!
DEFINITION. Power states, waking, the power-fail path, residency, performance levels, resets and the watchdog (17,
R464–R484, R494–R500), and the tick of the always-on domain.
-/

namespace Sys2Proof.Machine

/-! ### Performance levels (R481–R484) -/

def orderCap (s : State) : Nat := rget s F.SYS_OPT_ORDER

/-- The governor cap with the level that the voltage loop takes from it (R483, R484). -/
def govTotal (s : State) : Nat := min 3 (s.pwr.govCap + b2n s.pwr.avsLow)

/-- The level before a power failure forces P3, and the term that binds (R481). -/
def plevelFree (s : State) : Nat := max (rget s F.PWR_PLEVEL_REQ) (max (orderCap s) (govTotal s))

def plevelLimit (s : State) : Nat :=
  let w := plevelFree s
  if rget s F.PWR_PLEVEL_REQ = w then 0 else if orderCap s = w then 1 else if s.pwr.govCap = w then 2 else 3

/-- The level wanted: P3 in the power-fail path (R476, R481). -/
def plevelWant (s : State) : Nat := if s.pwr.pfw then 3 else plevelFree s

/-- The level sequencer takes up a change; one in progress completes first (R482). -/
def plevelUpdate (s : State) : State :=
  let s1 := s |> rput F.PWR_PLEVEL_LIMIT (plevelLimit s) |> rput F.PWR_PLEVEL_GOVCAP (govTotal s)
  if rbit s F.PWR_PLEVEL_CHANGING ∨ rget s F.PWR_PLEVEL_ACT = plevelWant s ∨ !s.pwr.appOn then s1
  else rput F.PWR_PLEVEL_CHANGING 1 { s1 with pwr.plTo := plevelWant s }

/-- A level in force with its kept trim (R482, R483). -/
def plevelSet (k : Nat) (s : State) : State :=
  let t := Tab.get 0 s.pwr.avsTrim k
  s |> rput F.PWR_PLEVEL_ACT k |> rput F.PWR_PLEVEL_CHANGING 0 |> rput F.PWR_AVS_TRIM (ofSigned 8 t)
    |> rput F.PWR_AVS_VOUT ((Config.levelVolts k : Int) + t).toNat

/-- A write of PWR_PLEVEL.REQ (R481). -/
def execPlevelRequest (req : BitVec 2) (s : State) : Host.Outcome State Fault Refusal :=
  .next (plevelUpdate (rput F.PWR_PLEVEL_REQ req.toNat s))

/-- The sequencer finishes a change and applies what has come meanwhile (R482). -/
def execPlevelChangeComplete (s : State) : Host.Outcome State Fault Refusal :=
  .next (if rbit s F.PWR_PLEVEL_CHANGING then plevelUpdate (plevelSet s.pwr.plTo s) else s)

/-- One step of the adaptive voltage loop (R483). -/
def avsUpdate (trim : Int) (low : Bool) (s : State) : State :=
  let t := clampI (-10) 10 trim
  let k := rget s F.PWR_PLEVEL_ACT
  let s1 := plevelSet k { s with pwr.avsTrim := Tab.upd s.pwr.avsTrim k (fun _ => t) }
  if t = 10 ∧ low then
    let s2 := plevelUpdate (rput F.PWR_AVS_LIM 1 { s1 with pwr.avsLow := true })
    if rbit s F.PWR_AVS_LIM then s2 else raisePwr F.PWR_FLAGS_AVSLIM s2
  else if t ≤ 8 then plevelUpdate (rput F.PWR_AVS_LIM 0 { s1 with pwr.avsLow := false })
  else s1

/-- Every 1 ms within a level (R483). -/
def execAvsUpdate (trim : Int) (low : Bool) (s : State) : Host.Outcome State Fault Refusal :=
  .next (if appOn s ∧ rget s F.PWR_PLEVEL_CHANGING = 0 ∧ periodDue s s.pwr.avsAt 20 then
    avsUpdate trim low { s with pwr.avsAt := some s.tmp.now } else s)

/-- A 10 ms point of the governor (R484). -/
def governor (s : State) : State :=
  let t := (Tab.get Stream.reset s.strm 56).val
  let s0 := { s with pwr.govLast := t, pwr.govCool := if t < 10500 then s.pwr.govCool + 1 else 0 }
  plevelUpdate (
    if 12000 ≤ t then
      if s.pwr.govCap = 3 ∧ 12000 ≤ s.pwr.govLast then s0
      else raisePwr F.PWR_FLAGS_GOVP3 { s0 with pwr.govCap := 3 }
    else if 11000 ≤ t ∧ s.pwr.govLast < t then
      if s.pwr.govCap = 3 then s0 else raisePwr F.PWR_FLAGS_GOVSTEP { s0 with pwr.govCap := s.pwr.govCap + 1 }
    else if 100 ≤ s0.pwr.govCool then { s0 with pwr.govCap := s.pwr.govCap - 1, pwr.govCool := 0 }
    else s0)

/-- GOVERNOR_TICK, every 10 ms (R484). -/
def execGovernorTick (s : State) : Host.Outcome State Fault Refusal :=
  .next (if s.pwr.safeOn && periodDue s s.pwr.govAt 200 then governor { s with pwr.govAt := some s.tmp.now } else s)

/-! ### Domains off and on (R464, R467, R472) -/

/-- The register fields of the blocks for which `p` holds return to their reset values, but for those in `keep`. -/
def resetBlocks (p : Nat → Bool) (keep : List Fld) (s : State) : State :=
  { s with regs := s.regs.filter (fun e => !p (e.1 / 32) || keep.any (fun f => fkey f == e.1)),
           shadow := s.shadow.filter (fun e => !p e.1), stage := s.stage.filter (fun e => !p e.1) }

def inBlocks (lo hi : Nat) (a : Nat) : Bool := decide (0x10000000 + 0x10000 * lo ≤ a) && decide (a < 0x10000000 + 0x10000 * (hi + 1))

/-- FIELD: reader, load channels, display; the band registers are AON's, the glass is at mid level (R29, R457, R464). -/
def fieldReset_ (s : State) : State :=
  let keep := [F.LCD_BAND_SEG 0, F.LCD_BAND_SEG 1, F.LCD_BAND_SEG 2, F.LCD_BAND_SEG 3, F.LCD_BANDCTL_EN, F.LCD_STATUS_CRACK,
    F.LCD_STATUS_BAND]
  rput F.LCD_BANDCTL_EN (rget s F.LCD_BANDCTL_EN)
    (layoutField { resetBlocks (inBlocks 0x10 0x12) keep s with
      hfr := HfrState.reset, lch := LchState.reset, legalSeg := 0, lcd := ⟨max s.lcd.midTo (s.pwr.rtc + mainFrame s), none⟩ })

/-- VEH: the V and M ports and the CAN controllers. -/
def vehReset (s : State) : State := { resetBlocks (inBlocks 0x0B 0x0B) [] s with veh := VehState.reset }

/-- NET: switch, Lead, yard line; the address is AON's, and the epoch agreement stands in the SYS registers. -/
def netReset (s : State) : State :=
  { resetBlocks (inBlocks 0x0C 0x0E) [] s with
    net := NetState.reset,
    lea := { LeaState.reset with addr := s.lea.addr, byp := s.lea.byp, naddr := s.lea.naddr, mismatch := s.lea.mismatch,
                                 mmRun := s.lea.mmRun, expSeq := s.lea.expSeq, expTaken := s.lea.expTaken, expGot := s.lea.expGot },
    yrd := { YrdState.reset with lost := s.yrd.lost } }

/-- APP: the blocks PER but for the pulse I/O, which is METER's, and FWU (R29): a pending activation and a running command end;
what names the running images and the debug policy stays (log entry 71). -/
def appReset (s : State) : State :=
  let keep := [F.FWU_SVRUN_APP, F.FWU_SVRUN_LEG, F.FWU_SVRUN_LAY, F.FWU_STATUS_DBGON, F.FWU_DBG_ROOT, F.FWU_DBGCHAL_CHAL 0,
    F.FWU_DBGCHAL_CHAL 1, F.FWU_DBGCHAL_CHAL 2, F.FWU_DBGCHAL_CHAL 3]
  { resetBlocks (fun a => (decide (0x10160000 ≤ a) && decide (a < 0x1016F000)) || inBlocks 0x14 0x14 a) keep s with
    ua := Vector.replicate 2 Uart.reset, fwu := { FwuState.reset with run := s.fwu.run, dbgTry := s.fwu.dbgTry } }

def fieldOff_ (s : State) : State := { fieldReset_ s with pwr.fieldOn := false }
/-- With VEH off AON holds VnCP_DRV of every port used by an outlet: at 0 V below the power-fail threshold, else at +12 V (R304). -/
def aonPilot (s : State) : State :=
  if s.pwr.vehOn then s
  else eachUpTo 4 (fun p t =>
    if (outletOfV t p).isSome then onV p (fun v => { v with drive := if t.pwr.pfw then drive0V else 1000 }) t else t) s

def vehOff (s : State) : State := aonPilot { vehReset s with pwr.vehOn := false }
def netOff (s : State) : State := { netReset s with pwr.netOn := false }
def appOff (s : State) : State := { appReset s with pwr.appOn := false, pwr.wfi := false }

/-- FIELD, VEH, NET, APP off and DRAM in self-refresh, in the order of R467. -/
def domainsOff (s : State) : State :=
  let s1 := appOff (netOff (vehOff (fieldOff_ s)))
  { s1 with pwr.dramOn := false }

/-! ### Requests (R465, R466, R469) -/

/-- A request of the firmware: in S0 with no entry or wake under way, otherwise BADTARGET. -/
def pwrRequest (e : PwrEntry) (s : State) : State :=
  if s.pwr.boot != .running then s
  else if s.pwr.sys ≠ .s0 ∨ s.pwr.entry ≠ .none then pwrRefuse 9 F.PWR_FLAGS_REFUSED s
  else { s with pwr.entry := e, pwr.wfi := false }

/-- S1 (R465). -/
def execReqS1 (s : State) : Host.Outcome State Fault Refusal := .next (pwrRequest (.idle .s1) s)
/-- S2 (R465). -/
def execReqS2 (s : State) : Host.Outcome State Fault Refusal := .next (pwrRequest (.idle .s2) s)
/-- S3: consent falls at an edge (R466). -/
def execReqS3 (s : State) : Host.Outcome State Fault Refusal := .next (pwrRequest (.consent .s3) s)
/-- S4: first S3 (R469). -/
def execReqS4 (s : State) : Host.Outcome State Fault Refusal := .next (pwrRequest (.consent .s4) s)

/-- The last running core executes WFI: a pending entry into S1 or S2 completes, S2 with APP off and DRAM in self-refresh
(R464, R465). -/
def coresWfi (s : State) : State :=
  if !appOn s then s
  else match s.pwr.entry with
    | .idle .s1 => pwrGo .s1 { s with pwr.entry := .none, pwr.wfi := true }
    | .idle .s2 =>
      let t := appOff s
      pwrGo .s2 { t with pwr.entry := .none, pwr.dramOn := false }
    | _ => { s with pwr.wfi := true }

/-- CORES_EXECUTE_WFI (R465). -/
def execCoresExecuteWfi (s : State) : Host.Outcome State Fault Refusal := .next (coresWfi s)

/-- The refusal code of S3, of the first failing row (R466); 0 is consent. -/
def s3Refusal (s4 : Bool) (s : State) : Nat :=
  if !outletsIdle s then 1
  else if s.saf.st != .run || s.saf.hold then 2
  else if isCabinet s && (List.range (mNxp s)).any (xpFb s) then 3
  else if isCoord s then 4
  else if s.fwu.act ≠ 0 then 5
  else if s4 && (List.range 8).any (fun n => eKind s n == 2) then 6
  else 0

/-- The safety controller's consent at an edge, and LEAD_BYP at 12 ms after PFW (R328, R466). -/
def edgePower (s : State) : State :=
  let s1 := if s.pwr.pfw ∧ 240 ≤ sinceT s s.pwr.pfwAt then { s with lea.byp := false } else s
  let s2 := rputB F.TMP_STATUS_IRC (rbit s1 F.CLK_STATUS_ONIRC) s1
  match s2.pwr.entry with
  | .consent t =>
    let r := s3Refusal (t == .s4) s2
    if r = 0 then
      let u := domainsOff s2
      { u with pwr.entry := .quiet t }
    else pwrRefuse r F.PWR_FLAGS_REFUSED { s2 with pwr.entry := .none }
  | _ => s2

/-- In S3 and S4 the band is driven, once the lines have held the mid level for a frame of the main drive (R457, R461). -/
def bandOn (s : State) : State := lcdMid (mainFrame s) (rput F.LCD_STATUS_BAND (rget s F.LCD_BANDCTL_EN) s)

/-- The entry into S3 completes; on the way to S4 the sealed core writes SHUTDOWN (R467, R469). -/
def s3Complete (s : State) : State :=
  match s.pwr.entry with
  | .quiet t =>
    let s1 := bandOn (pwrGo .s3 { s with lea.byp := s.lea.byp && nRepeater s })
    if t = .s4 then jPutAll [8] { s1 with pwr.entry := .dormant } else { s1 with pwr.entry := .none }
  | _ => s

/-- S3_ENTRY_COMPLETE (R467). -/
def execS3EntryComplete (s : State) : Host.Outcome State Fault Refusal := .next (s3Complete s)

/-- Every domain but AON off; every output is safe (R464). -/
def dormant (s : State) : State :=
  let s1 := eachUpTo 4 (fun x t => onSOut x (fun o => { o with act := false }) t) (coilsOff (domainsOff s))
  let s2 := if rbit s F.LCD_STATUS_BAND then s1 else bandOn s1
  pwrGo .s4 { s2 with pwr.safeOn := false, pwr.entry := .none, tmp.running := false, lea.byp := s.lea.byp && nRepeater s }

/-- The newest entry is committed and is of a type, and none is being written. -/
def jSettled (typ : Nat) (s : State) : Option JEntry :=
  if s.bil.jw.isSome ∨ s.bil.jq ≠ [] then none
  else match jNewest s with
    | some e => if e.typ = typ then some e else none
    | none => none

/-- SHUTDOWN has committed: the AON clock takes the legal time of the commit, and SAFE and METER go off (R469). -/
def s4Entry (s : State) : State :=
  if s.pwr.entry = .dormant then
    match jSettled 8 s with
    | some e => dormant { s with pwr.aonClock := 128 * e.lt }
    | none => s
  else s

/-- S4_ENTRY (R469). -/
def execS4Entry (s : State) : Host.Outcome State Fault Refusal := .next (s4Entry s)

/-! ### Waking (R470–R474) -/

/-- Whether the condition of a source that the module itself can see holds. -/
def wakeReal (k : Nat) (s : State) : Bool :=
  if k = 9 then !s.saf.evq.isEmpty
  else if k = 10 then !s.bil.evq.isEmpty
  else if k = 11 then rbit s F.SYS_NMICAUSE_CLKSW || rbit s F.SYS_NMICAUSE_CLKRET
  else if k = 12 then s.pwr.pfwFinal
  else if k = 13 then s.net.queue.any (fun f => f.port == 2)
  else if k = 14 then (List.range 4).any (fun c => !(canCtl s c).rx.isEmpty)
  else true

/-- A wake source fires (R470). -/
def execWake (k : Fin 16) (s : State) : Host.Outcome State Fault Refusal :=
  .next (if wakeReal k s then wakeFire k s else s)

/-- The domains of a group return in reset: DRAM, NET with VEH, APP, FIELD (R472). -/
def groupOn (g : Nat) (s : State) : State :=
  if g = 0 then { s with pwr.dramOn := true }
  else if g = 1 then
    let t := netReset (vehReset s)
    { t with pwr.netOn := true, pwr.vehOn := true }
  else if g = 2 then { s with pwr.appOn := true }
  else legalDraw { s with pwr.fieldOn := true }

def groupIsOn (s : State) (g : Nat) : Bool :=
  if g = 0 then s.pwr.dramOn else if g = 1 then s.pwr.netOn && s.pwr.vehOn else if g = 2 then s.pwr.appOn else s.pwr.fieldOn

/-- The next step that a group still off needs; 16 once every group is on. -/
def wakeNext (s : State) (k : Nat) : Nat :=
  if k % 4 ≠ 0 then k
  else match (List.range 4).find? (fun g => decide (k / 4 ≤ g) && !groupIsOn s g) with
    | some g => 4 * g
    | none => 16

/-- The wake is complete once every domain is back and core 0 has resumed (R472, R473). -/
def wakeDone (s : State) : State :=
  if s.pwr.entry = .waking ∧ wakeNext s s.pwr.wakeStep = 16 ∧ s.pwr.resumed then
    raisePwr F.PWR_FLAGS_WAKE { s with pwr.entry := .none, pwr.wakeStep := 0 }
  else s

/-- A ready signal comes: the next of the four steps, or the next group (R472). -/
def wakeReady (s : State) : State :=
  let k := wakeNext s s.pwr.wakeStep
  if s.pwr.entry ≠ .waking ∨ 16 ≤ k then s
  else
    let s1 := { s with pwr.wakeStep := k + 1, pwr.wakeRetry := false }
    wakeDone (if k % 4 = 3 then groupOn (k / 4) s1 else s1)

/-- WAKE_STEP_READY (R472). -/
def execWakeStepReady (s : State) : Host.Outcome State Fault Refusal := .next (wakeReady s)

/-- No ready signal within 2 ms: the step once more, then WAKEFAIL (R472). -/
def execWakeStepTimeout (s : State) : Host.Outcome State Fault Refusal :=
  .next (if s.pwr.entry ≠ .waking ∨ 16 ≤ wakeNext s s.pwr.wakeStep then s
    else if s.pwr.wakeRetry then doReset rcWakefail s
    else { s with pwr.wakeRetry := true })

/-- Back in S0 the main drive follows, once the lines have held the mid level for a frame of the band (R457). -/
def bandEnd (s : State) : State :=
  if rbit s F.LCD_STATUS_BAND then lcdMid bandFrame (rput F.LCD_STATUS_BAND 0 s) else s

/-- Core 0 starts in the boot ROM and jumps to PWR_RESUME: S0 at the level of R481, the watchdog from its full timeout; a
failed retention check resets (R473, R500). -/
def resume (crcOk : Bool) (s : State) : State :=
  if s.pwr.entry ≠ .waking ∨ !s.pwr.appOn ∨ s.pwr.resumed then s
  else if !crcOk then doReset rcWakefail s
  else
    let s1 := pwrGo .s0 { s with pwr.resumed := true, pwr.wfi := false, pwr.wdAt := s.pwr.rtc, pwr.wdWarned := false, lea.byp := true }
    wakeDone (plevelSet (plevelWant s1) (bandEnd s1))

/-- RESUME (R473). -/
def execResume (crcOk : Bool) (s : State) : Host.Outcome State Fault Refusal := .next (resume crcOk s)

/-! ### The power-fail path (R475–R478) -/

/-- The HF field goes off, which ends an exchange (R429, R476). -/
def pfwField (s : State) : State :=
  if hfrOn s ∧ s.hfr.field = true then
    hfrGo .off (onHfr (fun h => { h with field := false }) (cardGone (endByLoss false (raiseHfr [F.HFR_FLAGS_FIELDLOST] s))))
  else s

/-- PFW asserts (R475, R476). -/
def pfwStart (s : State) : State :=
  plevelUpdate (nmi F.SYS_NMICAUSE_PFW (pfwField (aonPilot { s with pwr.pfw := true, pwr.pfwAt := s.tmp.now })))

/-- VIN_MAIN below 10.0 V (R475). -/
def execPfw (mv : Nat) (s : State) : Host.Outcome State Fault Refusal :=
  .next (if mv < 10000 ∧ !s.pwr.pfw ∧ s.pwr.sys ≠ .s4 ∧ s.pwr.aonOn then pfwStart s else s)

/-- VIN_MAIN above 10.5 V for 1 ms before FINAL (R475). -/
def execPfwClear (mv us : Nat) (s : State) : Host.Outcome State Fault Refusal :=
  .next (if 10500 < mv ∧ 1000 ≤ us ∧ s.pwr.pfw ∧ !s.pwr.pfwFinal then
    plevelUpdate (raisePwr F.PWR_FLAGS_PFWCLR (aonPilot { s with pwr.pfw := false }))
  else s)

/-- FINAL has committed: the domains and DRAM off, SAFE and METER last (R476). -/
def execPowerFailShutdown (s : State) : Host.Outcome State Fault Refusal :=
  .next (if s.pwr.pfwFinal ∧ s.pwr.safeOn ∧ (jSettled 7 s).isSome then
    { dormant s with lea.byp := false }
  else s)

/-- VHOLD falls below the AON hold level: AON is lost with everything else, and only a power-on reset starts the module (R478). -/
def execAonLoss (s : State) : Host.Outcome State Fault Refusal :=
  .next (if s.pwr.pfw then
    { resetBase s with pwr.aonOn := false, pwr.sys := .s4, pwr.appOn := false, pwr.netOn := false, pwr.vehOn := false,
                       pwr.fieldOn := false, pwr.dramOn := false, pwr.safeOn := false }
  else s)

/-! ### Residency and the tick of AON (R480) -/

/-- RESCLR (R480). -/
def execResidencyClear (s : State) : Host.Outcome State Fault Refusal :=
  .next { s with pwr.resid := Vector.replicate 9 0 }

def countUp (k : Nat) (v : Vector Nat 9) : Vector Nat 9 := Tab.upd v k (fun n => min 18446744073709551615 (n + 1))

/-- The alarm value (PWR_ALARM). -/
def alarmAt (s : State) : Nat := rget s F.PWR_ALARMLO_TICKS + 4294967296 * rget s F.PWR_ALARMHI_TICKS

/-- One tick of 32.768 kHz: PWR_RTC, the residency counters, the AON clock, and ALARM (R470, R480); what the block does while
no command waits (DESIGN CHOICE, log entry 5). -/
def tick (s : State) : State :=
  if !s.pwr.aonOn then s
  else
    let r := countUp s.pwr.sys.code s.pwr.resid
    let run := decide (s.pwr.sys = .s0) && s.pwr.appOn && s.pwr.boot != .stretch && s.pwr.boot != .optLoad
    let s1 := rtcTrim { s with pwr.rtc := (s.pwr.rtc + 1) % 18446744073709551616, pwr.aonClock := s.pwr.aonClock + 3906250,
                               pwr.resid := if run then countUp (5 + rget s F.PWR_PLEVEL_ACT) r else r }
    if s1.pwr.rtc = alarmAt s1 ∧ alarmAt s1 ≠ 0 then wakeFire 7 s1 else s1

/-! ### Resets (R494–R499) -/

/-- The AON supply is established from none (R494). -/
def execPowerOnReset (s : State) : Host.Outcome State Fault Refusal := .next (doReset rcPor s)

/-- RESET_N from outside, past its 1 µs filter; during the stretch the module drives the land and ignores it (R495). -/
def resetPin (low : Bool) (ns : Nat) (s : State) : State :=
  if ns < 1000 ∨ !s.pwr.aonOn then s
  else
    let s1 := { s with pwr.pinLow := low }
    if low ∧ !s.pwr.pinLow ∧ s.pwr.boot != .stretch then doReset rcPin s1 else s1

/-- RESET_PIN (R495). -/
def execResetPin (low : Bool) (ns : Nat) (s : State) : Host.Outcome State Fault Refusal := .next (resetPin low ns s)

/-- RST_CTRL with its key (R494). -/
def execSoftwareReset (key : BitVec 8) (s : State) : Host.Outcome State Fault Refusal :=
  .next (if key = 0xA5 ∧ s.pwr.aonOn ∧ s.pwr.sys ≠ .s4 then doReset rcSwrst s else s)

/-- The stretch ends where the land is high: the loader starts and with it the boot timer; the clock sources run (R495, R496,
R498). -/
def stretchEnd (s : State) : State :=
  if s.pwr.boot != .stretch ∨ s.pwr.pinLow ∨ !s.pwr.aonOn then s
  else
    let s1 := { s with pwr.boot := .optLoad, pwr.bootOn := true, pwr.bootAt := s.pwr.rtc } |> rput F.CLK_STATUS_IRCOK 1
      |> rput F.CLK_STATUS_RTCOK 1
    if s.saf.hold ∧ !s.pwr.clkRet then s1 |> rput F.CLK_STATUS_HOLD 1 |> rput F.CLK_REFSEL_ACT 3
    else s1 |> rput F.CLK_STATUS_XOOK 1 |> rput F.CLK_STATUS_MAINLOCK 1

/-- RESET_STRETCH_END (R495). -/
def execResetStretchEnd (s : State) : Host.Outcome State Fault Refusal := .next (stretchEnd s)

/-- The option-byte loader has read the fuses: SYS_OPT, the serial, the threshold of failed starts; a FAILTHR of 0 or 1 reads
as 4 (R496, SYS_OPT). -/
def optionLoad (s : State) : State :=
  if s.pwr.boot != .optLoad then s
  else
    let o := s.fuse.opt
    let thr := if field o 1 3 ≤ 1 then 4 else field o 1 3
    let s1 := [F.SYS_OPT_ORDER, F.SYS_OPT_DBG, F.SYS_OPT_FACTDEF].foldl (fun t f => rput f (o / 2 ^ f.lo) t) s
    { s1 with pwr.boot := .rom } |> rput F.SYS_OPT_FAILTHR thr |> rput F.RST_FAILCNT_THR thr
      |> rput F.SYS_SERIALLO_SERIAL (s.fuse.serial % 4294967296) |> rput F.SYS_SERIALHI_SERIAL (s.fuse.serial / 4294967296)
      |> rputB F.FWU_STATUS_DBGON (rget s1 F.SYS_OPT_DBG == 0)

/-- OPTION_BYTE_LOAD (R496). -/
def execOptionByteLoad (s : State) : Host.Outcome State Fault Refusal := .next (optionLoad s)

/-- The boot timer reaches 10 s (R498). -/
def execBootTimeout (s : State) : Host.Outcome State Fault Refusal :=
  .next (if s.pwr.bootOn ∧ s.pwr.bootAt + 327680 ≤ s.pwr.rtc then doReset rcBootto s else s)

/-! ### The application watchdog (R500) -/

/-- EN = 1 starts it with TIMEOUT, which then stands until the next reset. -/
def wdogEnable (timeout : Nat) (s : State) : State :=
  if rbit s F.RST_WDOG_EN then s
  else { s with pwr.wdAt := s.pwr.rtc, pwr.wdWarned := false } |> rput F.RST_WDOG_TIMEOUT timeout |> rput F.RST_WDOG_EN 1

/-- WDOG_ENABLE (R500). -/
def execWdogEnable (timeout : BitVec 16) (s : State) : Host.Outcome State Fault Refusal :=
  .next (if appOn s then wdogEnable timeout.toNat s else s)

def wdogKick (key : Nat) (s : State) : State :=
  if rbit s F.RST_WDOG_EN ∧ key = 0xA5 then { s with pwr.wdAt := s.pwr.rtc, pwr.wdWarned := false } else s

/-- WDOG_KICK (R500). -/
def execWdogKick (key : BitVec 8) (s : State) : Host.Outcome State Fault Refusal :=
  .next (if appOn s then wdogKick key.toNat s else s)

/-- The watchdog runs: enabled, and not in S2 or S3. -/
def wdogRuns (s : State) : Bool := appOn s && rbit s F.RST_WDOG_EN && s.pwr.sys != .s2 && s.pwr.sys != .s3

/-- The timeout and the time run, in one unit of 1/32,768,000 s; values below 10 ms are taken as 10. -/
def wdogLimit (s : State) : Nat := 32768 * max 10 (rget s F.RST_WDOG_TIMEOUT)
def wdogCount (s : State) : Nat := 1000 * (s.pwr.rtc - s.pwr.wdAt)

/-- Half the timeout has passed (R500). -/
def execWdogWarn (s : State) : Host.Outcome State Fault Refusal :=
  .next (if wdogRuns s ∧ !s.pwr.wdWarned ∧ wdogLimit s ≤ 2 * wdogCount s then
    raise F.RST_EVCNT_COUNT [F.RST_FLAGS_WDWARN] { s with pwr.wdWarned := true }
  else s)

/-- The watchdog expires (R500). -/
def execWatchdogExpiry (s : State) : Host.Outcome State Fault Refusal :=
  .next (if wdogRuns s ∧ wdogLimit s ≤ wdogCount s then doReset rcWdog s else s)

end Sys2Proof.Machine
end

