-- ==== Sys2Proof/Machine/BusView.lean ====
section
/-!
DEFINITION. What a register shows where its home is a typed field of the state: one function per block, from an offset to
the computed fields (lowest bit, value). Every other field shows the register file (Machine/Ops.lean), and a WO field
reads 0 (R31).
-/

namespace Sys2Proof.Machine

/-- Computed fields of one register: lowest bit and value; a value is cut to the width of its field. -/
abbrev View := List (Nat × Nat)

def lo32 (v : Nat) : Nat := v % 4294967296
def hi32 (v : Nat) : Nat := v / 4294967296 % 4294967296

/-- The low word at a LO register and the high word at the HI register after it (R51). -/
def wordOf (hi : Bool) (v : Nat) : View := [(0, if hi then hi32 v else lo32 v)]

/-- Row `k` of registers `stride` apart from `base`, where offset `o` is one of `n` of them. -/
def rowAt (o base stride n : Nat) : Option Nat :=
  if base ≤ o ∧ (o - base) % stride = 0 ∧ (o - base) / stride < n then some ((o - base) / stride) else none

/-- The view of the row, none elsewhere. -/
def atRow (o base stride n : Nat) (f : Nat → View) : View :=
  match rowAt o base stride n with
  | some k => f k
  | none => []

/-! ### AON blocks -/

def viewRst (s : State) (o : Nat) : View := if o = 0x04 then [(0, s.pwr.failCnt)] else []

def viewPwr (s : State) (o : Nat) : View :=
  if o = 0x00 then [(0, s.pwr.sys.code), (8, s.pwr.prev.code), (11, b2n (s.pwr.entry != .none))]
  else if o = 0x34 ∨ o = 0x38 then wordOf (o == 0x38) s.pwr.rtc
  else atRow o 0x80 4 18 (fun k => wordOf (k % 2 == 1) (Tab.get 0 s.pwr.resid (k / 2)))

def viewClk (s : State) (o : Nat) : View := if o = 0x04 then [(1, b2n s.saf.hold)] else []

/-! ### SAFE blocks -/

def TmpMode.code : TmpMode → Nat
  | .free => 0 | .coord => 1 | .locked => 2 | .slew => 3 | .holdover => 4

def viewTmp (s : State) (o : Nat) : View :=
  if o = 0x00 ∨ o = 0x04 then wordOf (o == 4) s.tmp.chain
  else if o = 0x10 then [(0, s.tmp.mode.code)]
  else []

/-- BRD_OUT0–3 and BRD_SQ0–63; targets 0x66 to 0x7F read 0. -/
def viewBrd (s : State) (o : Nat) : View :=
  atRow o 0x20 4 4 (fun k => [(0, field (s.brd.tgt % 2 ^ 0x66) (32 * k) 32)])
    ++ atRow o 0x100 4 64 (fun k =>
        let q := squareAt s k
        [(0, q.c), (8, q.q), (16, b2n q.t0.done + 2 * b2n q.t1.done), (18, b2n q.tc), (19, b2n q.cin), (20, b2n q.cabove),
         (21, b2n q.cstale)])

def GuardPair.code : GuardPair → Nat
  | .closed => 0 | .open_ => 1 | .discrepant => 2

/-- The words of an event-queue head: time, then DATA, CODE and SOURCE (R205, R294). -/
def viewEv (e : Ev) (k : Nat) : View :=
  if k = 0 then [(0, lo32 e.time)] else if k = 1 then [(0, hi32 e.time)]
  else if k = 2 then [(0, e.source), (8, e.code), (16, e.data % 65536)]
  else [(0, e.data / 65536)]

def viewSaf (s : State) (o : Nat) : View :=
  if o = 0x00 then
    [(0, s.saf.st.code), (2, b2n s.saf.hold), (3, b2n s.saf.kept), (4, b2n s.saf.bistOk),
     (16, min 0xFFFF (sinceT s s.saf.since / 20))]
  else if o = 0x14 then
    [(0, s.saf.pair.code), (2, s.saf.gStep), (4, b2n s.saf.guardOk), (5, b2n (proofNames s)), (6, b2n s.saf.due),
     (7, if s.saf.proofDig.isNone then 0 else min 0x1FF ((s.bil.dyn.hwm - s.saf.proofTime) / dayNs)), (16, s.saf.proofSeq)]
  else if o = 0x18 ∨ o = 0x1C then wordOf (o == 0x1C) s.saf.proofTime
  else if o = 0x2C then [(0, s.saf.mbox.length)]
  else atRow o 0x60 4 4 (viewEv (safHead s))

def pilotCode : Pilot → Nat
  | .a => 0 | .b => 1 | .c => 2 | .d => 3 | .e => 4 | .f => 5

/-- OUTn registers; OUTn_DUTY shows 0x3E8 during a pilot break. -/
def viewOut (s : State) (o : Nat) : View :=
  let n := o / 0x100
  let k := outShown s n
  let r := o % 0x100
  if r = 0x00 then [(20, b2n k.auth)]
  else if r = 0x04 then
    [(0, k.st.code), (4, pilotCode k.pilot), (8, statusBits s n), (16, k.perm), (20, b2n k.ccdone), (21, b2n k.pcmatch),
     (22, b2n k.latch), (23, b2n k.pause), (24, b2n k.emerg), (25, b2n k.diract)]
  else if r = 0x14 then [(0, k.cause), (8, k.inState)]
  else if r = 0x20 then [(0, k.applied / 20), (16, k.bind)]
  else if r = 0x24 then
    if oActive s n then [(0, oV s n), (16, ofSigned 16 (oIma s n / 100))] else [(0, 0), (16, 0)]
  else if r = 0x28 then
    if oActive s n then [(0, oGrantKw s n), (16, oShare s n (rbit s (F.OUT_CTRL_DIR n)))] else [(0, 0), (16, 0)]
  else if r = 0x2C then [(0, min 0xFFFFFFFF (sinceT s k.since))]
  else if r = 0x30 then
    [(0, if oActive s n && decide (oVport s n < 4) then dutyNow s (oVport s n) else k.duty)]
  else []

def GStep.migCode : GStep → Nat
  | .rampDown => 1 | .open_ => 2 | .weldChk => 3 | .vmatch => 4 | .close => 5 | .rampUp => 6
  | .none => 0 | .checkOpen => 0 | .pinned => 0

/-- A trim in 0.1 % of its share, nearest. -/
def trimShow (k : Group) : Int := if k.share = 0 then 0 else nearest (k.trim * 1000 / k.share)

/-- MTX_MIG: the migrating group of lowest index. -/
def viewMig (s : State) : View :=
  let done := (0, s.mtx.migDone)
  match (List.range (mNgroup s)).find? (fun g => (group s g).mig) with
  | some g => [done, (16, (group s g).dst.getD 0), (20, (group s g).src), (24, g), (28, (group s g).step.migCode)]
  | none => [done]

def viewMtx (s : State) (o : Nat) : View :=
  if o = 0x00 then
    [(0, bitsOf 16 (fun g => (groupBus s g).isSome)), (16, bitsOf 16 (fun g => !(group s g).lost && decide (0 < gPav s g)))]
  else if o = 0x04 then viewMig s
  else if o = 0x2C then [(24, s.mtx.consec)]
  else if o = 0x38 then
    [(0, if isCabinet s then (List.range 8).foldl (fun a b => a + (busSt s b).grant) 0 else 0), (16, s.lea.site)]
  else
    atRow o 0x14 4 2 (fun k => [(0, (List.range 8).foldl (fun a j => a + (groupBus s (8 * k + j)).getD 15 * 16 ^ j) 0)])
    ++ atRow o 0x1C 4 2 (fun k => [(0, bitsOf 32 (fun x => decide (32 * k + x < mNxp s) && xpFb s (32 * k + x)))])
    ++ atRow o 0x24 4 2 (fun k => [(0, field s.mtx.xpWeld (32 * k) 32)])
    ++ atRow o 0x40 4 8 (fun b =>
        [(0, (busSt s b).grant), (16, (busSt s b).need), (24, (groupsOn s b).length),
         (29, match busKind s b with | some r => r.code | none => 5)])
    ++ atRow o 0x60 4 8 (fun b => [(0, if b < mNbus s then busV s b else 0), (16, (busSt s b).cur)])
    ++ atRow o 0x100 8 16 (fun g =>
        let k := group s g
        [(0, ofSigned 8 (trimShow k)), (8, k.pavail), (16, k.fclass), (20, if k.lost ∨ k.stamp = none then 0xF else k.gstate),
         (24, match k.stamp with | some t => min 0xFF (sinceT s t) | none => 0xFF)])
    ++ atRow o 0x104 8 16 (fun g => [(0, (group s g).vout), (16, ofSigned 16 (group s g).iout)])
    ++ atRow o 0x400 4 64 (fun c => [(0, (coil s c).sw)])
    ++ atRow o 0x600 4 128 (fun k => wordOf (k % 2 == 1) (min 0xFFFFFFFFFFFFFFFF ((coil s (k / 2)).i2t / 1000000)))

/-- SIO_OUT: commanded, reported energised, latched, overcurrent. -/
def viewSio (s : State) (o : Nat) : View :=
  if o = 0x00 then [(0, s.fz.si)]
  else if o = 0x04 then [(0, frozenTests s)]
  else if o = 0x08 then [(0, bitsOf 24 (fun i => (sIn s i).disc))]
  else if o = 0x0C then
    [(0, (List.range 4).foldl (fun a x =>
      let k := sOut s x
      a + (b2n (s.brd.tgt.testBit x && s.saf.st != .mate) + 2 * b2n (k.act && !s.pwr.vsAbsent) + 4 * b2n k.latch + 8 * b2n k.oc) * 16 ^ x) 0)]
  else []

/-! ### METER blocks -/

/-- A value in 2⁻⁸ units, nearest. -/
def nearest8 (x : Int) : Int := (x + 128) / 256

/-- The µWh of an energy point and direction (R233, R267). -/
def epTotal (r : LReg) : Nat := 1000000 * r.total + r.fr
def epDegraded (r : LReg) : Nat := 1000000 * r.deg + r.degFr

def viewChan (s : State) (c r : Nat) : View :=
  let k := chan s c
  if r = 0 then
    [(0, min 0xFF k.pil.discard), (8, min 32 k.pil.k), (20, b2n k.trange), (21, b2n k.tstale), (22, b2n k.pil.noisy),
     (23, b2n k.pil.lost), (24, b2n k.pil.bound), (25, b2n (chanAcq s c)), (26, b2n k.ovr), (27, b2n k.dead)]
  else if r = 4 then [(0, ofSigned 32 k.val)]
  else if r = 8 then [(0, min 0xFF k.pil.sd), (8, ofSigned 24 (nearest k.pil.gP))]
  else [(0, ofSigned 16 (nearest8 k.dT)), (16, ofSigned 16 k.tempUse)]

def viewEp (s : State) (n r : Nat) : View :=
  let im := lreg s (2 * n)
  let ex := lreg s (2 * n + 1)
  if r < 8 then wordOf (r == 4) (epTotal im)
  else if r < 0x10 then wordOf (r == 0xC) (epTotal ex)
  else if r < 0x18 then wordOf (r == 0x14) (epDegraded im)
  else if r < 0x20 then wordOf (r == 0x1C) (epDegraded ex)
  else if r = 0x20 then [(0, ofSigned 32 (Tab.get 0 s.mtr.power n))]
  else if r = 0x24 then [(0, min 0xFFFFFFFF (Tab.get 0 s.mtr.deadT n))]
  else [(4, b2n (Tab.get false s.mtr.deg n)), (5, b2n (Tab.get false s.mtr.creep n)), (6, b2n (epFault s n)),
        (7, b2n (epIsReady s n))]

def viewMtr (s : State) (o : Nat) : View :=
  if o = 0x00 then
    [(0, b2n s.bil.calib), (8, bitsOf 8 (epFault s)), (16, bitsOf 8 (epIsReady s))]
  else if o = 0x20 then [(16, match s.mtr.freqAt with | some t => b2n (decide (sinceT s t < 400)) | none => 0)]
  else if 0x100 ≤ o ∧ o < 0x200 then viewChan s ((o - 0x100) / 0x10) (o % 0x10)
  else if 0x200 ≤ o ∧ o < 0x400 then viewEp s ((o - 0x200) / 0x40) (o % 0x40)
  else []

def viewBil (s : State) (o : Nat) : View :=
  let d := s.bil.dyn
  if o = 0x00 then
    [(0, b2n s.bil.ready), (2, b2n s.bil.calib), (3, b2n s.bil.legalValid), (4, b2n d.act), (5, b2n d.pas),
     (6, b2n (framGood s)), (7, b2n s.bil.pfwDone), (8, b2n (ltBehind s)), (9, b2n (d.slew != 0)),
     (10, b2n s.bil.chk.isSome), (11, b2n s.bil.loss), (24, bitsOf 4 (fun n => (sess s n).isSome)), (28, d.tariff)]
  else if o = 0x10 ∨ o = 0x14 then wordOf (o == 0x14) s.bil.legal
  else if o = 0x18 ∨ o = 0x1C then wordOf (o == 0x1C) d.hwm
  else if o = 0x20 ∨ o = 0x24 then wordOf (o == 0x24) (ofSigned 64 d.off)
  else if o = 0x28 then [(0, ofSigned 32 d.slew)]
  else if o = 0x2C then [(0, quotaUsed s / 1000000)]
  else if o = 0x30 then [(0, if d.act then calId (calActive s) else 0)]
  else if o = 0x34 then [(0, if d.pas then calId (calPassive s) else 0)]
  else if o = 0x38 ∨ o = 0x3C then wordOf (o == 0x3C) (if d.pas then calActTime (calPassive s) else 0)
  else if o = 0x44 then [(0, d.stepSeq)]
  else if o = 0x4C then [(0, d.period)]
  else if o = 0x50 then [(0, s.bil.mbox.length)]
  else atRow o 0x60 4 4 (viewEv (bilHead s))

def OptSt.code : OptSt → Nat
  | .idle => 0 | .ident => 1 | .hdlc => 2 | .assoc => 3

def viewOpt (s : State) (o : Nat) : View := if o = 0 then [(0, s.opt.st.code), (4, s.opt.baud), (8, b2n s.opt.light)] else []

/-- KEY registers; slots 0 to 2 are the hardware slots (R402). -/
def viewKey (s : State) (o : Nat) : View :=
  if o = 0x00 then
    [(0, b2n s.key.rngOk), (1, b2n s.key.rngFail), (2, b2n (debugOn s)), (4, b2n s.key.job.isSome), (24, s.fuse.mfgKey)]
  else if o = 0x18 then [(0, s.key.head)]
  else if o = 0x28 then [(0, lo32 s.key.passes)]
  else atRow o 0x100 4 64 (fun k => [(4, (kslot s k).typ), (8, b2n (decide (k < 3))), (9, (kslot s k).len)])
    ++ atRow o 0x300 4 64 (fun k => [(0, (kslot s k).pol)])

/-! ### VEH -/

def SlacSt.code : SlacSt → Nat
  | .off => 0 | .waitParm => 1 | .waitStart => 2 | .sounding => 3 | .waitMatch => 4 | .waitJoin => 5 | .joined => 6
  | .failed => 7

def viewPort (s : State) (p r : Nat) : View :=
  let v := vport s p
  if r = 0x04 then [(0, pilotCode v.raw), (6, b2n v.diodeOk), (7, b2n v.brk.isSome)]
  else if r = 0x08 then [(0, ofSigned 16 v.low), (16, ofSigned 16 v.high)]
  else if r = 0x0C then
    [(0, v.res), (16, match outletOfV s p with | some n => b2n (outlet s n).proxN | none => 0),
     (24, match outletOfV s p with | some n => if oType s n = tyAc3 then proxCap v.res else 0 | none => 0)]
  else if r = 0x28 then [(0, v.slac.code), (4, v.tmr)]
  else if r = 0x80 then [(28, b2n (Tab.get none v.mt 0).isSome)]
  else if r = 0x84 then [(28, b2n (Tab.get none v.mt 1).isSome)]
  else []

/-- The receive head of controller `k`; an empty FIFO reads 0. -/
def viewCanHead (s : State) (k r : Nat) : View :=
  match (canCtl s k).rx with
  | [] => []
  | m :: _ =>
    if r = 0 then [(0, m.hdr % 2 ^ 29), (29, m.hdr / 2 ^ 29 % 2), (30, m.hdr / 2 ^ 30 % 2), (31, m.hdr / 2 ^ 31 % 2)]
    else if r = 4 then [(0, m.data.length), (8, m.filt)]
    else if r = 8 then [(0, lo32 m.time)]
    else [(0, u32 m.data (r - 0x10))]

/-- The VEH block; CANCFG of the matrix controller's CAN0 and CAN1 reads as it configured them: EN, FD, BRS, AUTOREC (R156, R321). -/
def viewVeh (s : State) (o : Nat) : View :=
  if o < 0x600 then
    (if o < 0x400 then viewPort s (o / 0x100) (o % 0x100) else [])
      ++ (if o % 0x100 = 0xC8 then [(0, txIdx s (o / 0x100))] else if o % 0x100 = 0xD8 then [(0, rxIdx s (o / 0x100))] else [])
  else if 0x800 ≤ o ∧ o < 0xC00 then
    (if o % 0x100 = 0 ∧ matrixCan s (o / 0x100 - 8) then [(31, 1), (30, 1), (29, 1), (28, 1)]
     else if o % 0x100 = 8 then [(2, (canCtl s (o / 0x100 - 8)).tx.length), (8, (canCtl s (o / 0x100 - 8)).rx.length)] else [])
  else if 0xC000 ≤ o ∧ o < 0xC400 then viewCanHead s (o / 0x100 - 0xC0) (o % 0x100)
  else []

/-! ### NET, LEA, YRD -/

def viewNet (s : State) (o : Nat) : View :=
  if o = 0x48 then [(0, s.net.txIdx)] else if o = 0x58 then [(0, s.net.rxIdx)] else []

/-- Bits of a map of addresses, register `k` of it. -/
def addrMap (k : Nat) (f : Nat → Bool) : View := [(0, bitsOf 32 (fun i => f (32 * k + i)))]

/-- The fields marked "coordinator", which read 0 elsewhere. -/
def viewLeaElsewhere (s : State) (o : Nat) : View :=
  if isCoord s then []
  else if o = 0x1C then [(0, 0)]
  else if o = 0x14 ∨ (0x100 ≤ o ∧ o < 0x1FC) then [(0, 0), (16, 0)]
  else if (0x20 ≤ o ∧ o < 0x40) ∨ (0x400 ≤ o ∧ o < 0x600) then [(0, 0)]
  else []

/-- BUDGET within 20 ms; the coordinator applies its own registers directly (R342; DEDUCED, log entry 191). -/
def budOk (s : State) : Bool := isCoord s || match s.lea.budAt with | some t => decide (sinceT s t < 400) | none => false

def viewLea (s : State) (o : Nat) : View :=
  viewLeaElsewhere s o ++ if o = 0x00 then
    [(0, s.lea.addr), (12, b2n (budOk s)),
     (13, b2n s.lea.byp), (14, b2n s.lea.ldUp), (15, b2n s.lea.luUp), (16, b2n s.lea.addrHeld), (17, b2n s.lea.segHead),
     (18, s.lea.naddr)]
  else if o = 0x18 then [(0, s.lea.shareExp), (16, s.lea.shareImp)]
  else if o = 0x1C then [(8, s.lea.expSeq)]
  else if o = 0x60 then [(0, s.lea.lastBlocks), (16, s.lea.lastXfer)]
  else
    atRow o 0x40 4 2 (fun k => addrMap k (fun a => memberSeen s a && (node s a).state.testBit 2))
    ++ atRow o 0x48 4 2 (fun k => addrMap k (memberIdle s))
    ++ atRow o 0x50 4 2 (fun k => addrMap k (memberSeen s))
    ++ atRow o 0x400 4 128 (fun k => wordOf (k % 2 == 1) ((node s (k / 2)).serial.getD 0))
    ++ (match s.lea.userRx with
        | [] => []
        | m :: _ =>
          if o = 0xA00 then [(0, m.data.length), (24, m.addr)] else if o = 0xA04 then [(0, m.time)]
          else atRow o 0xA10 4 120 (fun k => [(0, u32 m.data (4 * k))]))

def viewYrd (s : State) (o : Nat) : View :=
  if o = 0x1C ∧ !isCoord s then [(0, 0)]
  else if o = 0x00 then
    [(15, b2n s.yrd.nozc), (16, b2n s.yrd.acq), (17, b2n s.yrd.lost), (18, s.yrd.win), (24, s.yrd.naddr)]
  else match s.yrd.rxq with
    | [] => []
    | m :: _ =>
      if o = 0x60 then [(0, m.data.length), (20, m.typ), (24, m.addr)]
      else if o = 0x6C then [(0, u16 m.data 8)]
      else atRow o 0x64 4 2 (fun k => [(0, u32 m.data (4 * k))])

/-! ### FIELD blocks -/

def HfSt.code : HfSt → Nat
  | .off => 0 | .settling => 1 | .ready => 2 | .activeL3 => 3 | .activeL4 => 4 | .lpcd => 5 | .resetting => 6

def viewHfr (s : State) (o : Nat) : View :=
  let h := s.hfr
  if o = 0x08 then [(31, b2n h.cmd.isSome)]
  else if o = 0x0C then
    [(0, h.st.code), (3, b2n h.field), (4, h.ctype), (6, b2n h.more), (7, b2n h.tuneLim), (8, h.ds), (10, h.dr), (12, h.fwi)]
  else if o = 0x30 then [(0, h.step), (8, ofSigned 8 h.phase)]
  else if o = 0x34 then [(0, h.iset), (16, h.iant)]
  else []

/-- LCD_SEG shows the segments as driven (R458). -/
def viewLcd (s : State) (o : Nat) : View :=
  if o = 0x00 then [(4, b2n s.bil.chk.isSome)]
  else atRow o 0x40 4 16 (fun k => [(0, segRead s k)]) ++ atRow o 0x80 4 16 (fun k => [(0, segReg (dLmask s) k)])

def viewLchan (s : State) (n r : Nat) : View :=
  let c := lchan s n
  if r = 0 then [(0, b2n c.en)]
  else if r = 4 then [(0, senseCode s n)]
  else if r = 8 then
    [(0, c.latch.getD 0), (4, b2n c.on), (6, b2n c.winCut), (7, b2n c.bank.isSome), (8, b2n c.lim.isSome), (9, b2n c.inr.isSome),
     (10, b2n c.latch.isSome), (11, b2n c.retryEx), (12, c.retry), (16, min 0xFF c.dt), (24, ofSigned 8 (c.tj + 64))]
  else []

def viewLch (s : State) (o : Nat) : View :=
  if o = 0x00 then [(1, b2n s.lch.uv), (2, b2n s.lch.cap), (3, b2n s.lch.enf)]
  else if o = 0x10 then [(0, s.lch.timer / 20), (16, ((List.range 16).foldl (fun a n => a + lMa s n) 0) / 10)]
  else if o = 0x18 then [(0, (List.range 4).foldl (fun a g => a + ofSigned 8 (Tab.get (-64) s.lch.gt g + 64) * 256 ^ g) 0)]
  else if 0x100 ≤ o ∧ o < 0x200 then viewLchan s ((o - 0x100) / 0x10) (o % 0x10)
  else []

/-! ### APP blocks -/

/-- FWU registers: the boot record, the fused counters and roots, and the measurements. -/
def viewFwu (s : State) (o : Nat) : View :=
  if o = 0x00 then [(0, s.fwu.act), (2, recActive s), (5, recUnconf s), (8, stagedBits s)]
  else if o = 0x18 then [(0, Tab.get 0 s.fuse.svcnt 0), (8, Tab.get 0 s.fuse.svcnt 1), (16, Tab.get 0 s.fuse.svcnt 2)]
  else if o = 0x28 then
    let r (k : Nat) := Tab.get ([], 0, false) s.fuse.root k
    [(0, bitsOf 4 (fun k => (r k).2.2)), (4, (List.range 4).foldl (fun a k => a + (r k).2.1 % 8 * 8 ^ k) 0)]
  else atRow o 0x100 4 64 (fun k => [(0, digestWord (Tab.get [] s.key.meas (k / 8)) (k % 8))])

def viewPer (s : State) (o : Nat) : View :=
  if o < 0x200 then
    let u := uart s (o / 0x100)
    if o % 0x100 = 8 then [(16, u.tx.length), (24, u.rx.length)]
    else if o % 0x100 = 0xC then
      (match u.rx with
        | (c, pe, fe) :: _ => [(0, c), (8, b2n pe), (9, b2n fe)]
        | [] => [(0, 0), (8, 0), (9, 0)])
    else []
  else []

/-! ### A register word -/

/-- The computed fields of the register at `a`. -/
def viewOf (s : State) (a : Nat) : View :=
  let o := a % 0x10000
  match (a - 0x10000000) / 0x10000 with
  | 1 => viewRst s o | 2 => viewPwr s o | 3 => viewClk s o | 4 => viewTmp s o | 5 => viewBrd s o | 6 => viewSaf s o
  | 7 => viewOut s o | 8 => viewMtx s o | 9 => viewMtr s o | 10 => viewBil s o | 11 => viewVeh s o | 12 => viewNet s o
  | 13 => viewLea s o | 14 => viewYrd s o | 15 => viewOpt s o | 16 => viewHfr s o | 17 => viewLcd s o | 18 => viewLch s o
  | 19 => viewKey s o | 20 => viewFwu s o | 21 => viewSio s o | 22 => viewPer s o
  | _ => []

/-- The value of one field as a read gives it: 0 for WO, the computed value, or the register file. -/
def fieldRead (s : State) (a : Nat) (v : View) (f : FldRow) : Nat :=
  if f.acc = .wo then 0
  else match v.find? (fun x => x.1 == f.lo) with
    | some x => x.2 % 2 ^ f.width
    | none => rget s (f.at a)

/-- The word of the register at `a` with the fields `fl`; reserved bits read 0. -/
def regWord (s : State) (a : Nat) (fl : List FldRow) : Nat :=
  let v := viewOf s a
  fl.foldl (fun x f => x + fieldRead s a v f * 2 ^ f.lo) 0

end Sys2Proof.Machine
end

