-- ==== Sys2Proof/Machine/Irq.lean ====
section
/-!
DEFINITION. Flag groups and interrupt sources: the status, event-counter and enable registers of each group, and the
level of each source (R39, R40, R46–R48).
-/

namespace Sys2Proof.Machine

/-- A flag group: its source number, flag register, event counter and enable register. -/
structure FlagGroup where
  src : Nat
  flags : Nat
  cnt : Nat
  ien : Nat

/-- Group `g` of the block with index `b`, its registers at three offsets (R46). -/
def flagGroup (b g flags cnt ien : Nat) : FlagGroup :=
  let a := 0x10000000 + 0x10000 * b
  ⟨8 * (b + 1) + g, a + flags, a + cnt, a + ien⟩

/-- The flag groups of every block. -/
def flagGroups : List FlagGroup :=
  [flagGroup 0 0 0x24 0x28 0x2C, flagGroup 1 0 0x14 0x18 0x1C, flagGroup 2 0 0x1C 0x20 0x24, flagGroup 3 0 0x0C 0x10 0x14,
   flagGroup 4 0 0x14 0x18 0x1C, flagGroup 5 0 0x04 0x08 0x0C, flagGroup 6 0 0x08 0x0C 0x10]
  ++ (List.range 4).map (fun n => flagGroup 7 n (0x100 * n + 0x10) (0x100 * n + 0x18) (0x100 * n + 0x1C))
  ++ [flagGroup 8 0 0x08 0x0C 0x10, flagGroup 9 0 0x04 0x08 0x0C, flagGroup 10 0 0x04 0x08 0x0C]
  ++ (List.range 4).map (fun n => flagGroup 11 n (0x100 * n + 0x10) (0x100 * n + 0x14) (0x100 * n + 0x18))
  ++ [flagGroup 11 4 0x600 0x604 0x608, flagGroup 11 5 0xC00 0xC04 0xC08, flagGroup 12 0 0x0C 0x10 0x14,
      flagGroup 13 0 0x04 0x08 0x0C, flagGroup 14 0 0x04 0x08 0x0C, flagGroup 15 0 0x04 0x08 0x0C,
      flagGroup 16 0 0x10 0x14 0x18, flagGroup 17 0 0x04 0x08 0x0C, flagGroup 18 0 0x04 0x08 0x0C,
      flagGroup 19 0 0x04 0x08 0x0C, flagGroup 20 0 0x04 0x08 0x0C, flagGroup 21 0 0x10 0x14 0x18,
      flagGroup 22 0 0x800 0x804 0x808]

/-- The W1C flags of a register, as its bits. -/
def flagWord (s : State) (a : Nat) : Nat :=
  ((regFields a).getD []).foldl (fun x f => if f.acc == .w1c then x + rget s (f.at a) * 2 ^ f.lo else x) 0

/-- The enable bits of a group. -/
def ienWord (s : State) (a : Nat) : Nat :=
  ((regFields a).getD []).foldl (fun x f => x + rget s (f.at a) * 2 ^ f.lo) 0

/-- A source is asserted while an enabled flag of its group is set; those of SAF and BIL also while their event queue
holds an entry (R47, R48). -/
def groupIrq (s : State) (g : FlagGroup) : Bool :=
  (flagWord s g.flags &&& ienWord s g.ien) != 0 || (g.src == 56 && !s.saf.evq.isEmpty) || (g.src == 88 && !s.bil.evq.isEmpty)

/-- The level of interrupt source `n`; sources without a group are unused (R46). -/
def irqLevel (s : State) (n : Nat) : Bool := flagGroups.any (fun g => g.src == n && groupIrq s g)

/-- Hardware sets the flags `x` of the group whose flag register stands at `a`: the flags, and one step of the event
counter (R39). SYS_NMICAUSE, at 0x1000_0030, belongs to no group: a cause it gets is an NMI (R38, R49). -/
def groupEvent (a x : Nat) (s : State) : State :=
  match flagGroups.find? (fun g => g.flags == a), regFields a with
  | some g, some fl =>
    let hit := fl.filter (fun f => f.acc == .w1c && field x f.lo f.width != 0)
    if hit.isEmpty then s
    else rsat ⟨g.cnt, 0, 8, 0⟩ 1 (hit.foldl (fun t f => rput (f.at a) (rget t (f.at a) ||| field x f.lo f.width) t) s)
  | none, some fl =>
    if a = 0x10000030 then
      fl.foldl (fun t f => if f.acc == .w1c && field x f.lo f.width != 0 then nmi (f.at a) t else t) s
    else s
  | _, _ => s

end Sys2Proof.Machine
end

