-- ==== Sys2Proof/Machine/Bus.lean ====
section
/-!
DEFINITION. The bus of the application cluster (02): the address map, the checks of an access (R16, R26–R30, R33, R321),
reads with the 64-bit shadow (R51), writes by access type (R31) and by the register's own function, and the register bus
between the dies (R9).
-/

namespace Sys2Proof.Machine

/-! ### The address map -/

/-- The ranges of the address map, with the partition of DRAM (01). -/
inductive Region where
  | rom | sram | intc | reg | dram | capture | hole | reserved
  deriving DecidableEq, Repr

def inRange (lo hi a : Nat) : Bool := decide (lo ≤ a) && decide (a < hi)

/-- The range an address lies in. -/
def regionAt (a : Nat) : Region :=
  if a < 0x10000 then .rom
  else if inRange 0x08000000 0x08200000 a then .sram
  else if inRange 0x0C000000 0x0C400000 a then .intc
  else if inRange 0x10000000 0x10170000 a then .reg
  else if inRange 0x9E0000000 0x9E4000000 a then .capture
  else if inRange 0x9EC000000 0x9F0000000 a then .hole
  else if inRange 0x800000000 0xA00000000 a then .dram
  else .reserved

/-- The range of an access of `n` bytes; one that lies in two ranges is taken as reserved (DESIGN CHOICE, log entry 80). -/
def regionOf (a n : Nat) : Region := if regionAt a = regionAt (a + n - 1) then regionAt a else .reserved

def busBytes : Sys2Proof.BusSize → Nat
  | .b1 => 1 | .b2 => 2 | .b4 => 4 | .b8 => 8

/-- The block index of a register address (R29). -/
def blockOf (a : Nat) : Nat := (a - 0x10000000) / 0x10000

/-! ### Who may access what (R14–R16, R28–R30) -/

/-- The application cluster executes: its domain is on and running, and not in S1, where its cores wait. -/
def busOn (s : State) : Bool := appOn s && s.pwr.sys != .s1

/-- The power domain of the block at `a` is on; the band registers are AON's, the pulse I/O is METER's (R29). -/
def domainOn (s : State) (a : Nat) : Bool :=
  let b := blockOf a
  let o := a % 0x10000
  if b ≤ 3 then true
  else if b ≤ 10 ∨ b = 15 ∨ b = 19 ∨ b = 21 then s.pwr.safeOn
  else if b = 11 then s.pwr.vehOn
  else if b ≤ 14 then s.pwr.netOn
  else if b = 17 then s.pwr.fieldOn || o == 0x18 || inRange 0xC0 0xD0 o
  else if b ≤ 18 then s.pwr.fieldOn
  else if b = 22 ∧ 0xF000 ≤ o then s.pwr.safeOn
  else s.pwr.appOn

/-- Blocks whose writes need machine mode (R29). -/
def machineBlock (b : Nat) : Bool := b ∈ [0, 1, 2, 3, 19, 20]

/-- The mode allows the access (R30). -/
def modeAllows (wr : Bool) (a : Nat) (m : Sys2Proof.BusMode) : Bool :=
  m == .machine || !(if wr then machineBlock (blockOf a) else blockOf a == 19)

/-- The doors of R15: the registers the application cluster may write. -/
def doorOpen (a : Nat) : Bool :=
  let b := blockOf a
  let o := a % 0x10000
  if b ∈ [4, 5, 8, 9, 15, 21] then false
  else if b = 6 then o == 0x30 || inRange 0x80 0x100 o
  else if b = 10 then o == 0x54 || inRange 0x80 0x100 o
  else if b = 22 ∧ 0xF000 ≤ o then inRange 0xF010 0xF030 o
  else true

/-- CAN0 and CAN1 belong to the matrix controller in cabinet role: configuration, slots, filters, watchdogs and transmit
window (R321). -/
def cabinetCan (s : State) (a : Nat) : Bool :=
  let o := a % 0x10000
  isCabinet s && blockOf a == 11
    && (inRange 0x800 0xA00 o || inRange 0x8000 0x9000 o || inRange 0xA000 0xA200 o || inRange 0xA800 0xAA00 o
      || inRange 0xD000 0xD200 o)

/-- An access discarded with an error response (R16, R26–R30). -/
def busError (s : State) : State := { s with resp := ⟨true, 0⟩ }

def raiseSys (f : Fld) (s : State) : State := raise F.SYS_EVCNT_COUNT [f] s

/-- The access to a register is refused: the state with the flag its rule sets. Where several rules refuse one access, the
first of this order acts (DESIGN CHOICE, log entry 80). -/
def regDenied (wr : Bool) (a n : Nat) (m : Sys2Proof.BusMode) (s : State) : Option State :=
  if n ≠ 4 ∨ a % 4 ≠ 0 then some (raiseSys F.SYS_STATUS_ALIGNERR s)
  else if !domainOn s a then some s
  else if !modeAllows wr a m then some (raiseSys F.SYS_STATUS_PRIVVIO s)
  else if (regFields a).isNone then some s
  else if wr && (!doorOpen a || cabinetCan s a) then some s
  else none

/-! ### Reads -/

def respond (v : Nat) (s : State) : State := { s with resp := ⟨false, v⟩ }

/-- The LO registers of 64-bit values (R51); each has its HI register at the next offset. -/
def isLo (a : Nat) : Bool :=
  a ∈ [0x10000004, 0x10040000, 0x10060018, 0x10090024, 0x100A0010, 0x100A0018, 0x100A0020, 0x100A0038, 0x100C0018, 0x100C0020,
    0x10140034, 0x1014003C, 0x10140044, 0x10020010, 0x1002002C, 0x10020034, 0x1002003C, 0x10060060, 0x10090054, 0x100A0060]
  || (rowAt a 0x10080600 8 64).isSome || (rowAt a 0x100D0400 8 64).isSome || (rowAt a 0x10020080 8 9).isSome
  || (rowAt a 0x10090200 8 64).isSome && decide ((a - 0x10090200) % 0x40 < 0x20)

/-- The word of a register by its address. -/
def regShow (s : State) (a : Nat) : Nat := regWord s a ((regFields a).getD [])

/-- A read of the register at `a`: a LO register copies its HI into the shadow, and the HI register shows the shadow (R51); the
queue heads, the UART and the random number have an effect of their own. -/
def portRead (a : Nat) (s : State) : State :=
  if a = 0x10040008 then
    let v := freeNat s
    respond (v.1 % max 1 s.tmp.len) v.2
  else if a = 0x1006006C then evqRead s
  else if a = 0x100A006C then bilEvqRead s
  else if a = 0x10130024 then rngRead s
  else if a = 0x100B0404 ∨ a = 0x100B0504 then
    let v := freeNat s
    respond (regShow s a % 256 + 256 * (v.1 % 101)) v.2
  else if a = 0x1016000C then uartPop 0 s
  else if a = 0x1016010C then uartPop 1 s
  else if isLo a then { respond (regShow s a) s with shadow := Tbl.put s.shadow (a + 4) (regShow s (a + 4)) 0 }
  else if isLo (a - 4) then respond (Tbl.get s.shadow a 0) s
  else respond (regShow s a) s

/-- A read by the application cluster. The boot ROM shows contents the spec does not give. -/
def busRead (a n : Nat) (m : Sys2Proof.BusMode) (s : State) : Host.Outcome State Fault Refusal :=
  if !busOn s then .next s
  else match regionOf a n with
    | .rom => .next (respond (leVal ((List.range n).map (fun k => Config.bootRom (a + k)))) s)
    | .sram => .next (respond (leVal (memRead s a n)) s)
    | .intc => if m = .machine then .refused .interruptController else .next (busError s)
    | .dram | .capture => .next (if dramOn s then respond (leVal (memRead s a n)) s else busError s)
    | .hole => .next (if dramOn s then respond 0 s else busError s)
    | .reserved => .next (busError s)
    | .reg =>
      match regDenied false a n m s with
      | some t => .next (busError t)
      | none => .next (portRead a s)

/-! ### Writes by access type (R31, R33) -/

/-- The seal is set. -/
def isSealed (s : State) : Bool := rbit s F.SYS_SEAL_SEAL

/-- One field of a write. A WO field starts a function and is not kept, except the data registers of 32 bits, whose value the
function they belong to uses later (log entry 81). -/
def fieldWrite (a v : Nat) (t : State) (f : FldRow) : State :=
  let x := field v f.lo f.width
  match f.acc with
  | .rw => rput (f.at a) x t
  | .rwl => if isSealed t then t else rput (f.at a) x t
  | .w1c => rput (f.at a) (clearBits (rget t (f.at a)) x) t
  | .w1s => rput (f.at a) (rget t (f.at a) ||| x) t
  | .wo => if f.width = 32 then rput (f.at a) x t else t
  | .ro => t

/-- A write of a register without a function of its own. -/
def plainWrite (a v : Nat) (s : State) : State :=
  let fl := (regFields a).getD []
  let s1 := fl.foldl (fieldWrite a v) s
  if hasClr fl && v.testBit 31 then rput ⟨a, 0, 16, 0⟩ 0 s1 else s1

/-- A write that reaches a locked RWL field. -/
def lockHit (a : Nat) (s : State) : Bool := isSealed s && ((regFields a).getD []).any (fun f => f.acc == .rwl)

/-! ### 64-bit writes (R52) -/

/-- The LO registers of the 64-bit values that can be written. -/
def isWideLo (a : Nat) : Bool := a ∈ [0x1002002C, 0x1002003C, 0x100C0018, 0x10140034, 0x1014003C]

/-- LO written: the value waits for HI. -/
def loWrite (a v : Nat) (s : State) : State := { s with stage := Tbl.put s.stage a v 0 }

/-- HI written at `a`: the value with the last LO takes effect. -/
def hiWrite (a v : Nat) (s : State) : State :=
  let lo := Tbl.get s.stage (a - 4) 0
  if a = 0x100C001C then ptpWrite (toSigned 64 (lo + 4294967296 * v)) s
  else plainWrite a v (plainWrite (a - 4) lo s)

/-! ### Registers whose write has a function of its own -/

def writeRst (o v : Nat) (s : State) : Option State :=
  if o = 0x08 then some (if v.testBit 31 then bootOkWrite s else s)
  else if o = 0x0C then some (if v / 16777216 = 0xA5 ∧ v.testBit 0 then doReset rcSwrst s else s)
  else if o = 0x10 then
    let s1 := if v.testBit 22 then wdogEnable (v % 65536) s
      else if rbit s F.RST_WDOG_EN then s else rput F.RST_WDOG_TIMEOUT v s
    some (if v.testBit 23 then wdogKick (v / 16777216) s1 else s1)
  else none

/-- TARGET values other than S1 to S4 are refused with reason 9 (PWR_STATE.REFUSE). -/
def targetWrite (t : Nat) (s : State) : State :=
  if t = 1 then pwrRequest (.idle .s1) s
  else if t = 2 then pwrRequest (.idle .s2) s
  else if t = 3 then pwrRequest (.consent .s3) s
  else if t = 4 then pwrRequest (.consent .s4) s
  else pwrRefuse 9 F.PWR_FLAGS_REFUSED s

def writePwr (o v : Nat) (s : State) : Option State :=
  if o = 0x04 then
    let s1 := if v.testBit 31 then { s with pwr.resid := Vector.replicate 9 0 } else s
    some (targetWrite (v % 8) s1)
  else if o = 0x08 then some (plevelUpdate (rput F.PWR_PLEVEL_REQ v s))
  else none

def writeClk (o v : Nat) (s : State) : Option State :=
  if o = 0x00 then some (refselWrite (v.testBit 0) s)
  else if o = 0x04 then some (if v.testBit 2 then holdClear s else s)
  else none

/-- OUTn_CTRL: EVOPEN, the export permission before the direction, AUTH for the next edge, the request. -/
def outCtrlWrite (n v : Nat) (s : State) : State :=
  let s1 := if v.testBit 23 then evopenWrite n s else s
  s1 |> rput (F.OUT_CTRL_BIDIR n) (v / 2097152) |> dirWrite n (v.testBit 22)
    |> authWrite n (v.testBit 20) |> reqWrite n (v % 16)

def writeOut (o v : Nat) (s : State) : Option State :=
  if o % 0x100 = 0x00 then some (outCtrlWrite (o / 0x100) v s)
  else if o % 0x100 = 0x08 then some (limitWrite (o / 0x100) v s)
  else none

/-- The next state of a meaning that always answers one. -/
def nextOf (s : State) : Host.Outcome State Fault Refusal → State
  | .next t => t
  | .fault _ => s
  | .refused _ => s

/-- VEH_PCTL: the break length and SLACEN, then a break or a restart of SLAC. -/
def pctlWrite (p : Fin 4) (v : Nat) (s : State) : State :=
  let s1 := s |> rput (F.VEH_PCTL_BREAKMS p) (v / 1048576) |> rput (F.VEH_PCTL_SLACEN p) v
  let s2 := if v.testBit 1 then nextOf s1 (execPilotBreak p s1) else s1
  if v.testBit 2 then nextOf s2 (execSlacrst p s2) else s2

/-- VEH_MTIMk: PRESET and ACT, then STOP before START, so a coinciding start restarts the timer (R313). -/
def mtimWrite (n k v : Nat) (s : State) : State :=
  let s1 := s |> rput (if k = 0 then F.VEH_MTIM0_PRESET n else F.VEH_MTIM1_PRESET n) v
    |> rputB (if k = 0 then F.VEH_MTIM0_ACT n else F.VEH_MTIM1_ACT n) (v.testBit 29)
  let s2 := if v.testBit 30 then mtimStop n k s1 else s1
  if v.testBit 31 then mtimStart n k s2 else s2

/-- T1CFG: silence counts from EN, so a port that is turned on starts a LINKTO of its own (R319). -/
def t1cfgWrite (m a v : Nat) (s : State) : State :=
  plainWrite a v (if v.testBit 31 && !rbit s (F.VEH_T1CFG_EN m) then onM m (fun x => { x with heard := s.tmp.now }) s else s)

/-- CANCFG: a controller that is turned off leaves bus-off (R320; DEDUCED, log entry 149). -/
def canCfgWrite (k a v : Nat) (s : State) : State :=
  let s1 := plainWrite a v s
  if v.testBit 31 then s1
  else s1 |> rput (F.VEH_CANST_ERRST k) 0 |> rput (F.VEH_CANST_TEC k) 0 |> rput (F.VEH_CANST_REC k) 0

/-- A slot header: a length the controller rejects leaves it; SWAP makes the shadow buffer current (R322). -/
def slotHdrWrite (k : Fin 4) (i : Fin 16) (v : Nat) (s : State) : State :=
  if canLenBad (rbit s (canSlotF k i 0 30 1)) (v % 128) then rsat F.VEH_LENERR_COUNT 1 s
  else
    let s1 := s |> rput (canSlotF k i 8 31 1) (v / 2147483648) |> rput (canSlotF k i 8 0 7) v
    if v.testBit 30 then nextOf s1 (execCanSlotSwap k i s1) else s1

def writeCan (o a v : Nat) (s : State) : Option State :=
  if inRange 0x8000 0xA000 o then
    if o % 0x80 = 8 then some (slotHdrWrite (Fin.ofNat 4 ((o - 0x8000) / 0x800)) (Fin.ofNat 16 (o % 0x800 / 0x80)) v s) else none
  else if inRange 0xA000 0xA400 o ∧ o % 8 = 4 ∧ v.testBit 31 then
    some (onCan ((o - 0xA000) / 0x100) (fun c => { c with seen := Tab.upd c.seen (o % 0x100 / 8) (fun _ => s.tmp.now) })
      (plainWrite a v s))
  else if inRange 0xC000 0xC400 o ∧ o % 0x100 = 0xC then
    some (if v.testBit 0 then onCan ((o - 0xC000) / 0x100) (fun c => { c with rx := c.rx.tail }) s else s)
  else if inRange 0xD000 0xD400 o then
    let k := (o - 0xD000) / 0x100
    if o % 0x100 = 4 then some (if canLenBad (rbit s (canPushF k 0 30 1)) (v % 128) then rsat F.VEH_LENERR_COUNT 1 s else rput (canPushF k 4 0 7) v s)
    else if o % 0x100 = 0xC then some (if v.testBit 0 then nextOf s (execCanTxPush (Fin.ofNat 4 k) s) else s)
    else none
  else none

def writeVeh (o a v : Nat) (s : State) : Option State :=
  let p := o / 0x100
  let r := o % 0x100
  if o < 0x400 then
    if r = 0 then some (pctlWrite (Fin.ofNat 4 p) v s)
    else if r = 0x1C then
      let s1 := rput (F.VEH_HPCFG_PSD p) (v / 16) s
      some (nextOf s1 (execHpcfgEnWrite (Fin.ofNat 4 p) (v.testBit 0) s1))
    else if r = 0x80 then some (mtimWrite p 0 v s)
    else if r = 0x84 then some (mtimWrite p 1 v s)
    else none
  else if inRange 0x400 0x600 o ∧ r = 0 then some (t1cfgWrite (p - 4) a v s)
  else if inRange 0x800 0xC00 o ∧ r = 0 then some (canCfgWrite (p - 8) a v s)
  else writeCan o a v s

/-- LEA_CTRL: STOP goes out at the next edge; ENUM, XSTART, XCANCEL. -/
def leaCtrlWrite (v : Nat) (s : State) : State :=
  let s1 := if v.testBit 0 then { s with lea.stopWrite := true } else s
  let s2 := if v.testBit 1 then enumOffer s1 else s1
  let s3 := if v.testBit 2 then xferStart s2 else s2
  if v.testBit 3 then { s3 with lea.xfer := none } else s3

def writeLea (o v : Nat) (s : State) : Option State :=
  if o = 0x10 then some (leaCtrlWrite v s)
  else if o = 0x14 then some (budgetWrite 0 v s)
  else if inRange 0x100 0x1FC o then some (budgetWrite ((o - 0x100) / 4 + 1) v s)
  else if o = 0x80C then
    some (if v.testBit 0 then userPush (rget s F.LEA_TXHDR_ADDR) (rget s F.LEA_TXHDR_LEN) (userWindow s) s else s)
  else if o = 0xA0C then some (if v.testBit 0 then { s with lea.userRx := s.lea.userRx.drop 1 } else s)
  else none

def writeYrd (o v : Nat) (s : State) : Option State :=
  if o = 0x1C then some (yardPoll v s)
  else if o = 0x50 then
    some (if v.testBit 0 then yardPush (rget s F.YRD_TXHDR_ADDR) (rget s F.YRD_TXHDR_LEN) (yardWindow s) s else s)
  else if o = 0x70 then some (if v.testBit 0 then { s with yrd.rxq := s.yrd.rxq.drop 1 } else s)
  else none

/-- HFR_CMD by its OPCODE. What the antenna answers is not in the write: the readings of FIELD_ON and the time of a first frame
are free values, and no card answers an ACTIVATE (log entry 82); the rows of these commands carry both. -/
def hfrCmdWrite (v : Nat) (s : State) : State :=
  let op := v / 268435456
  let arg := BitVec.ofNat 8 (v / 1024)
  let f0 := freeNat s
  let f1 := freeNat f0.2
  if op = 1 then
    nextOf s (execFieldOn (BitVec.ofNat 8 f0.1) (BitVec.ofNat 8 (f0.1 / 256)) (BitVec.ofNat 16 f1.1) (BitVec.ofNat 16 (f1.1 / 65536)) f1.2)
  else if op = 2 then nextOf s (execFieldOff false s)
  else if op = 3 then nextOf s (execHfActivate (BitVec.ofNat 2 (v / 67108864)) (v.testBit 25) (v.testBit 24) [] s)
  else if op = 4 then
    nextOf s (execExchange (v.testBit 24) (v.testBit 23) (BitVec.ofNat 3 (v / 1048576)) (BitVec.ofNat 10 v) f0.1 f0.2)
  else if op = 5 then nextOf s (execRelease s)
  else if op = 6 then nextOf s (execOrigin f0.1 f0.2)
  else if op = 7 then nextOf s (execTune arg s)
  else if op = 8 then nextOf s (execLpcd s)
  else hfrCommand op [.off, .settling, .ready, .activeL3, .activeL4, .lpcd, .resetting] (hfrDone op rBadarg oNotSent) s

/-- LCHn_CTRL: a latch clear, decided on the junction temperature the channel holds, then EN. -/
def lchCtrlWrite (n : Fin 16) (v : Nat) (s : State) : State :=
  let s1 := if v.testBit 1 then nextOf s (execLchLatchClear n (lchan s n).tj s) else s
  nextOf s1 (execLchEnable n (v.testBit 0) s1)

/-- FWU_CMD by its OPCODE; another is a bad argument. -/
def fwuCmdWrite (v : Nat) (s : State) : State :=
  let op := v / 268435456
  let arg := v % 16
  fwuCommand (match op with
    | 1 => fwuProgram arg
    | 2 => fwuActivate
    | 3 => fwuCancel
    | 4 => fwuConfirm arg
    | 5 => fun t => fwuResult 5 0 (measExtend 7 (digestOf t F.FWU_DATA_DATA) t)
    | 6 => fwuRevoke arg
    | _ => fwuResult op 2) s

/-- The function of a register's write, `none` where it acts by its access types alone. -/
def functionWrite (a v : Nat) (s : State) : Option State :=
  let o := a % 0x10000
  match blockOf a with
  | 1 => writeRst o v s
  | 2 => writePwr o v s
  | 3 => writeClk o v s
  | 6 => if o = 0x30 then some (safSubmit (v / 16777216) (v % 256) s) else none
  | 7 => writeOut o v s
  | 10 => if o = 0x54 then some (bilSubmit (v / 16777216) (v % 256) s) else none
  | 11 => writeVeh o a v s
  | 13 => writeLea o v s
  | 14 => writeYrd o v s
  | 16 => if o = 0x04 then some (hfrCmdWrite v s) else none
  | 17 => (rowAt o 0x40 4 16).map (fun k => segWrite k v s)
  | 18 => (rowAt o 0x100 0x10 16).map (fun n => lchCtrlWrite (Fin.ofNat 16 n) v s)
  | 19 =>
    if o = 0x20 then some (slotCmd (field v 28 3) (field v 22 6) (field v 18 4) (field v 13 5) (field v 6 7) s) else none
  | 20 => if o = 0x10 then some (fwuCmdWrite v s) else none
  | 22 => if o = 0x0C then some (uartPush 0 v s) else if o = 0x10C then some (uartPush 1 v s) else none
  | _ => none

/-- An accepted write of a register; one that reaches a locked RWL field answers an error all the same (R33). -/
def regWrite (a v : Nat) (s : State) : State :=
  let t :=
    if isWideLo a then loWrite a v s
    else if isWideLo (a - 4) then hiWrite a v s
    else match functionWrite a v s with
      | some t => t
      | none => plainWrite a v s
  if lockHit a s then busError (raiseSys F.SYS_STATUS_LOCKVIO t) else respond 0 t

/-- A write by the application cluster. -/
def busWrite (a v n : Nat) (m : Sys2Proof.BusMode) (s : State) : Host.Outcome State Fault Refusal :=
  if !busOn s then .next s
  else match regionOf a n with
    | .rom | .reserved => .next (busError s)
    | .sram => .next (respond 0 (memWrite a (leBytes n v) s))
    | .intc => if m = .machine then .refused .interruptController else .next (busError s)
    | .dram => .next (if dramOn s then respond 0 (memWrite a (leBytes n v) s) else busError s)
    | .capture => .next (busError s)
    | .hole => .next (if dramOn s then respond 0 s else busError s)
    | .reg =>
      match regDenied true a n m s with
      | some t => .next (busError t)
      | none => .next (regWrite a (v % 4294967296) s)

/-! ### Meanings -/

/-- WRITE_REGISTER (R31). -/
def execWriteRegister (addr : BitVec 36) (v : BitVec 64) (size : Sys2Proof.BusSize) (mode : Sys2Proof.BusMode) (s : State) :
    Host.Outcome State Fault Refusal := busWrite addr.toNat v.toNat (busBytes size) mode s

/-- READ_LO_SHADOW (R51). -/
def execReadLoShadow (addr : BitVec 36) (size : Sys2Proof.BusSize) (mode : Sys2Proof.BusMode) (s : State) :
    Host.Outcome State Fault Refusal := busRead addr.toNat (busBytes size) mode s

/-- WRITE_HI_COMMIT (R52). -/
def execWriteHiCommit (addr : BitVec 36) (v : Word) (mode : Sys2Proof.BusMode) (s : State) : Host.Outcome State Fault Refusal :=
  busWrite addr.toNat v.toNat 4 mode s

/-- The outcome of a write, and what hardware does in the same cycle as an accepted one. -/
def sameCycle (f : State → State) : Host.Outcome State Fault Refusal → Host.Outcome State Fault Refusal
  | .next t => .next (if t.resp.err then t else f t)
  | .fault r => .fault r
  | .refused r => .refused r

/-- W1C_CLEAR: the ones written clear their flags; a flag that hardware sets in the same cycle stays set, and its event
counts (R31, R38, R39). -/
def execW1cClear (addr : BitVec 36) (mask hw : Word) (mode : Sys2Proof.BusMode) (s : State) : Host.Outcome State Fault Refusal :=
  if busOn s then sameCycle (groupEvent addr.toNat hw.toNat) (busWrite addr.toNat mask.toNat 4 mode s) else .next s

/-- EVCNT_CLR: a 1 at CLR sets COUNT to 0; with an event in the same cycle it is 1 afterwards (R41, R45). -/
def execEvcntClr (addr : BitVec 36) (event : Bool) (mode : Sys2Proof.BusMode) (s : State) : Host.Outcome State Fault Refusal :=
  if busOn s then
    sameCycle (fun t => if event && hasClr ((regFields addr.toNat).getD []) then rput ⟨addr.toNat, 0, 16, 0⟩ 1 t else t)
      (busWrite addr.toNat 0x80000000 4 mode s)
  else .next s

/-- SEAL: a machine-mode write of 1 to SYS_SEAL.SEAL (R34). -/
def execSeal (mode : Sys2Proof.BusMode) (s : State) : Host.Outcome State Fault Refusal := busWrite 0x10000020 1 4 mode s

/-- The streams the analog-power die measures: temperatures, load currents and supplies (01, 04). -/
def apStream (k : Nat) : Bool := inRange 28 52 k || inRange 53 56 k

/-- A value as it comes: the current of a load channel that is off is 0 (R451). -/
def apValue (s : State) (k : Nat) (v : Int) : Int := if inRange 36 52 k && !(lchan s (k - 36)).on then 0 else v

/-- A transfer on the register bus between the dies: with a good CRC, at first or repeated, its values arrive; a second failure
in a tempo is DIELINK, to MATE in the second tempo in a row (R9, fault table 0x09). -/
def execInterdieTransfer (ok1 ok2 : Bool) (vals : List (Fin 64 × Int)) (s : State) : Host.Outcome State Fault Refusal :=
  .next (
    if !s.tmp.running then s
    else if ok1 || ok2 then vals.foldl (fun t x => if apStream x.1 then strmPut x.1 (apValue s x.1 x.2) t else t) s
    else safCause 0x09 0 (s.saf.prev.contains (0x09, 0)) s)

end Sys2Proof.Machine
end

