-- ==== Sys2Proof/Machine/Opt.lean ====
section
/-!
DEFINITION. The optical port (R289–R292): sign-on, the baud acknowledgement, HDLC connection and association, and the objects
it serves. Service data stand as the object's content; their DLMS encoding is the external standard's (log entry 45).
-/

namespace Sys2Proof.Machine

def raiseOpt (f : Fld) (s : State) : State := raise F.OPT_EVCNT_COUNT [f] s

/-- Back to 300 baud idle; an association ends with it. -/
def optIdle (s : State) : State :=
  let s1 := { s with opt.st := .idle, opt.baud := 0, opt.acked := false }
  if s.opt.st = .assoc then bilPost 0x07 2 6 0 (raiseOpt F.OPT_FLAGS_RELEASE s1) else s1

def optTimeout (s : State) : State := raiseOpt F.OPT_FLAGS_TIMEOUT (optIdle s)

/-- A discarded frame (OPT_FRMERR). -/
def optBad (s : State) : State := raiseOpt F.OPT_FLAGS_FRMERR (rsat F.OPT_FRMERR_COUNT 1 s)

def hexDigit (n : Nat) : Byte := BitVec.ofNat 8 (if n < 10 then 48 + n else 55 + n)

/-- The serial number as 16 hexadecimal digits. -/
def serialHex (s : State) : Bytes := (List.range 16).map (fun k => hexDigit (s.fuse.serial / 16 ^ (15 - k) % 16))

/-- "/?!" CR LF, with or without the serial number. -/
def signOns (s : State) : List Bytes :=
  [[0x2F, 0x3F, 0x21, 0x0D, 0x0A], [0x2F, 0x3F] ++ serialHex s ++ [0x21, 0x0D, 0x0A]]

/-- "/DNS6\2OMK4810" CR LF. -/
def identReply : Bytes := [0x2F, 0x44, 0x4E, 0x53, 0x36, 0x5C, 0x32, 0x4F, 0x4D, 0x4B, 0x34, 0x38, 0x31, 0x30, 0x0D, 0x0A]

/-- A sign-on at 300 baud 7E1 in IDLE (R289). -/
def execOptSignon (chars : Bytes) (parityOk : Bool) (s : State) : Host.Outcome State Fault Refusal :=
  .next (
    if !mtrOn s ∨ s.opt.st ≠ .idle then s
    else if !parityOk then optBad s
    else if (signOns s).contains chars then
      { s with opt.st := .ident, opt.acked := false, opt.tx := identReply, opt.lastAt := s.tmp.now }
        |> rsat F.OPT_SESSIONS_SIGNON 1 |> raiseOpt F.OPT_FLAGS_SIGNON
    else s)

/-- The acknowledgement ACK "2" Z "2" CR LF switches the port to Z; any other returns it to idle (R289). -/
def execOptBaudAck (chars : Bytes) (s : State) : Host.Outcome State Fault Refusal :=
  .next (
    if !mtrOn s ∨ s.opt.st ≠ .ident ∨ s.opt.acked then s
    else
      let z := u8 chars 2
      if chars = [0x06, 0x32, BitVec.ofNat 8 z, 0x32, 0x0D, 0x0A] ∧ 0x30 ≤ z ∧ z ≤ 0x36 then
        { s with opt.acked := true, opt.baud := z - 0x30, opt.lastAt := s.tmp.now }
      else optTimeout s)

/-- A character gap above 1,500 ms, or no SNRM within 2 s (R289). -/
def execOptIdleTimeout (ms : Nat) (s : State) : Host.Outcome State Fault Refusal :=
  .next (
    if mtrOn s ∧ s.opt.st = .ident ∧ (if s.opt.acked then 2000 ≤ ms else 1500 < ms) then optTimeout s else s)

/-- The addresses the port answers: server upper 0x01 and lower 0x11, client 0x10 (R290). -/
def hdlcOurs (f : HdlcRx) : Bool := f.upper == 0x01 && f.lower == 0x11 && f.client == 0x10

/-- An association the port takes: logical names, no authentication, no ciphering (R290). -/
def aarqTaken (a : Aarq) : Bool := a.ln && !a.auth && !a.cipher

/-- The next frame of the block under way: 128 bytes of information (R290). -/
def optFrame (s : State) : State := { s with opt.tx := s.opt.seg.take 128, opt.seg := s.opt.seg.drop 128 }

/-- The next block of the reply: at most one APDU. -/
def optBlock (s : State) : State := optFrame { s with opt.seg := s.opt.blk.take s.opt.pdu, opt.blk := s.opt.blk.drop s.opt.pdu }

/-- A reply of result `res`: its first frame goes out, and with a window of 1 each further one after a receive-ready, each further
block on a request for it (R290; log entry 45). -/
def optReply (res : Nat) (b : Bytes) (s : State) : State :=
  optBlock { s with opt.res := res, opt.seg := [], opt.blk := b, opt.lastAt := s.tmp.now }

/-- An association opens, with APDUs of up to 1,024 bytes, and no more than the client names (R290, R294). -/
def optOpen (a : Aarq) (s : State) : State :=
  { s with opt.st := .assoc, opt.pdu := if a.pdu = 0 then 1024 else min 1024 a.pdu, opt.seg := [], opt.blk := [] }
    |> rsat F.OPT_SESSIONS_ASSOC 1 |> raiseOpt F.OPT_FLAGS_ASSOC |> bilPost 0x07 1 6 0

/-- An association ends. -/
def optRelease (s : State) : State := { bilPost 0x07 2 6 0 (raiseOpt F.OPT_FLAGS_RELEASE s) with opt.st := .hdlc }

/-- One HDLC frame (R290): errors and lengths first, other addresses ignored. -/
def hdlcFrame (f : HdlcRx) (s : State) : State :=
  let s1 := { s with opt.lastAt := s.tmp.now }
  if !f.ok then optBad s
  else if !hdlcOurs f then s
  else if 128 < f.info then rsat F.OPT_LENERR_COUNT 1 s
  else match f.kind, s.opt.st with
    | .snrm, .ident => if s.opt.acked then { s1 with opt.st := .hdlc } else s
    | .snrm, .hdlc => s1
    | .snrm, .assoc => optRelease s1
    | .disc, .hdlc => optIdle s1
    | .disc, .assoc => optIdle s1
    | .aarq a, .hdlc => if aarqTaken a then optOpen a s1 else s1
    | .rlrq, .assoc => optRelease s1
    | .rr, .assoc => if s.opt.seg = [] then s1 else optFrame s1
    | .next, .assoc => if s.opt.seg = [] ∧ s.opt.blk ≠ [] then optBlock s1 else s1
    | _, .hdlc => s1
    | _, .assoc => s1
    | _, _ => s

/-- An HDLC frame (R290). -/
def execOptHdlcFrame (f : HdlcRx) (s : State) : Host.Outcome State Fault Refusal :=
  .next (if mtrOn s then hdlcFrame f s else s)

/-- 120 s without a frame (R290). -/
def execOptInactivityTimeout (s : State) : Host.Outcome State Fault Refusal :=
  .next (
    if mtrOn s ∧ s.opt.st ∈ [OptSt.hdlc, .assoc] ∧ 2400000 ≤ sinceT s s.opt.lastAt then optTimeout s else s)

/-! ### Objects (R291) -/

/-- The objects of the port without a row index, by OBIS code. -/
def optValue (s : State) (o : List Nat) : Option Bytes :=
  let d := s.bil.dyn
  match o with
  | [0, 0, 41, 0, 0, 255] => some [1]
  | [0, 0, 42, 0, 0, 255] => some ([0x44, 0x4E, 0x53] ++ serialHex s)
  | [0, 0, 96, 1, 0, 255] => some (serialHex s)
  | [0, 0, 1, 0, 0, 255] =>
    some (leBytes 8 (ofSigned 64 (civilSec (calActive s) s.bil.legal)) ++ leBytes 2 (ofSigned 16 (offMinAt (calActive s) s.bil.legal)))
  | [1, 0, 0, 2, 0, 255] => some (Config.legalVersion (checkValue s))
  | [1, 0, 0, 2, 8, 255] => some (checkValue s)
  | [0, 0, 96, 14, 0, 255] => some (leBytes 1 d.tariff)
  | [0, 0, 0, 1, 0, 255] => some (leBytes 4 d.period)
  | [0, 0, 96, 128, 3, 255] => some (leBytes 4 (if d.act then calId (calActive s) else 0))
  | [0, 0, 96, 128, 4, 255] => some (leBytes 4 (if d.pas then calId (calPassive s) else 0))
  | [0, 0, 96, 128, 5, 255] => some (leBytes 4 (if d.act then calPriceId (calActive s) else 0))
  | [0, 0, 96, 128, 1, 255] => some ((List.range 16).flatMap (fun k => digestBytes (rget s (F.BIL_RECPUB_KEY k))))
  | [1, b, dir, 8, t, 255] =>
    if 1 ≤ b ∧ b ≤ 8 ∧ (dir = 1 ∨ dir = 2) then
      let r := lreg s (2 * (b - 1) + (dir - 1))
      if t = 0 then some (leBytes 8 r.total)
      else if t ≤ 8 then some (leBytes 8 (Tab.get 0 r.t (t - 1)))
      else if t = 128 then some (leBytes 8 r.deg) else none
    else none
  | [1, b, dir, 6, t, 255] =>
    if 1 ≤ b ∧ b ≤ 8 ∧ (dir = 1 ∨ dir = 2) then
      let r := lreg s (2 * (b - 1) + (dir - 1))
      let m := fun (p : Nat × Nat) => leBytes 4 p.1 ++ leBytes 4 p.2
      if 1 ≤ t ∧ t ≤ 8 then some (m (Tab.get (0, 0) r.max (t - 1)))
      else if t = 128 ∧ dir = 1 then some (m r.rmax) else none
    else none
  | _ => none

/-- The object list of the association: the codes of R291. -/
def optCodes : List (List Nat) :=
  [[0, 0, 40, 0, 0, 255], [0, 0, 41, 0, 0, 255], [0, 0, 42, 0, 0, 255], [0, 0, 96, 1, 0, 255], [0, 0, 1, 0, 0, 255],
   [1, 0, 0, 2, 0, 255], [1, 0, 0, 2, 8, 255], [0, 0, 96, 14, 0, 255], [0, 0, 0, 1, 0, 255], [0, 0, 96, 128, 3, 255],
   [0, 0, 96, 128, 4, 255], [0, 0, 96, 128, 5, 255], [0, 0, 96, 128, 1, 255], [1, 0, 98, 1, 0, 255], [0, 0, 99, 128, 0, 255],
   [0, 0, 99, 128, 1, 255], [0, 0, 99, 128, 2, 255], [0, 0, 10, 128, 0, 255]]
  ++ (List.range 8).flatMap (fun b => [1, 2].flatMap (fun dir =>
      ([0, 1, 2, 3, 4, 5, 6, 7, 8, 128] : List Nat).map (fun t => [1, b + 1, dir, 8, t, 255])
        ++ ((List.range 8).map (fun t => [1, b + 1, dir, 6, t + 1, 255])) ++ (if dir = 1 then [[1, b + 1, 1, 6, 128, 255]] else [])))

/-- The interface class of an object (R291). -/
def optClass (o : List Nat) : Nat :=
  match o with
  | [0, 0, 40, 0, 0, 255] => 15
  | [0, 0, 41, 0, 0, 255] => 17
  | [0, 0, 1, 0, 0, 255] => 8
  | [1, 0, 98, 1, 0, 255] => 7
  | [0, 0, 99, 128, _, 255] => 7
  | [0, 0, 10, 128, 0, 255] => 9
  | [1, 0, 0, 2, _, 255] => 1
  | [1, _, _, 8, _, 255] => 3
  | [1, _, _, 6, _, 255] => 4
  | _ => 1

/-- The rows of a profile, oldest first (R291). -/
def optRows (s : State) (o : List Nat) : Option (List Bytes) :=
  if o = [1, 0, 98, 1, 0, 255] then
    some ((List.range 13).filterMap (fun k => (histBack s (13 - k)).map (fun h => (List.range 16).flatMap (fun j =>
      regBlock (j / 2) (j % 2) (13 - k) h.seq h.start h.stop (Tab.get LReg.reset h.reg j)))))
  else if o = [0, 0, 99, 128, 0, 255] then
    let last := rget s F.BIL_RECSEQ_SEQ
    some ((List.range (min last 2048)).filterMap (fun k =>
      let q := last + 1 + k - min last 2048
      let r := Tbl.get s.fram.ring (q % 2048) []
      if u32 r 4 = q ∧ r ≠ [] then some r else none))
  else if o = [0, 0, 99, 128, 1, 255] then some s.fram.gridLog
  else if o = [0, 0, 99, 128, 2, 255] then some s.fram.legalLog
  else none

/-- Rows selected by entry: from `a`, counted from 1, to `b`, 0 for the last; an entry 0 or beyond the rows selects nothing. -/
def selectRows (rows : List Bytes) : Option (Nat × Nat) → Option Bytes
  | none => some rows.flatten
  | some (a, b) =>
    if a = 0 ∨ rows.length < a ∨ rows.length < b ∨ (b ≠ 0 ∧ b < a) then none
    else some ((rows.take (if b = 0 then rows.length else b)).drop (a - 1)).flatten

/-- The content of an object. -/
def optObject (s : State) (o : List Nat) (sel : Option (Nat × Nat)) : Option Bytes :=
  if o = [0, 0, 40, 0, 0, 255] then some (optCodes.flatMap (fun c => leBytes 2 (optClass c) ++ c.map (BitVec.ofNat 8)))
  else match optRows s o with
    | some rows => selectRows rows sel
    | none => optValue s o

/-- A GET over the association (R291): of a class that is not the object's, or of no object, undefined. -/
def execDlmsGet (a : CosemAttr) (sel : Option (Nat × Nat)) (s : State) : Host.Outcome State Fault Refusal :=
  .next (
    if !mtrOn s ∨ s.opt.st ≠ .assoc then s
    else match optObject s a.obis sel with
      | some b => if a.cls = optClass a.obis then optReply 0 b s else optReply 4 [] s
      | none => optReply 4 [] s)

/-- A SET is answered read-write-denied (R290). -/
def execDlmsSet (obis : List Nat) (s : State) : Host.Outcome State Fault Refusal :=
  .next (
    if !mtrOn s ∨ s.opt.st ≠ .assoc ∨ obis = [] then s
    else optReply 3 [] s)

/-- The check-value script (R291, R292); other actions are answered undefined. -/
def execDlmsAction (obis : List Nat) (script : Nat) (s : State) : Host.Outcome State Fault Refusal :=
  .next (
    if !mtrOn s ∨ s.opt.st ≠ .assoc then s
    else if obis = [0, 0, 10, 128, 0, 255] ∧ script = 1 then
      raiseOpt F.OPT_FLAGS_SHOWREQ (showCheck (optReply 0 [] s))
    else optReply 4 [] s)

end Sys2Proof.Machine
end

