-- ==== Sys2Proof/Machine/Tempo.lean ====
section
/-!
DEFINITION. The tempo (03): the duties of the schedule with their finish cycles, the tempo edge with overrun, program flow,
chain time and everything that takes effect at it (R54–R64, R67), and the Board's own events.
-/

namespace Sys2Proof.Machine

/-! ### Duties (R58–R61) -/

/-- The engine of a duty: INTEGRATE and BOOK on METER, every other on SAFE (R58). -/
def onMeter (d : Nat) : Bool := d == 8 || d == 9

/-- The slots that precede a slot on its engine: a lower start, or the same start and a lower slot (R58). -/
def dutiesBefore (s : State) (k : Nat) : List Nat :=
  (usedSlots s).filter (fun j =>
    onMeter (slotDuty s j) == onMeter (slotDuty s k)
      && (decide (rget s (F.TMP_SLOT_START j) < rget s (F.TMP_SLOT_START k))
          || (decide (rget s (F.TMP_SLOT_START j) = rget s (F.TMP_SLOT_START k)) && decide (j < k))))

/-- The cycle at which the duty completed last on the engine of duty `d` finished. -/
def engineFin (s : State) (d : Nat) : Nat := if onMeter d then s.tmp.finM else s.tmp.finS

/-- The cycle at which the duty of slot `k` starts: its start cycle, or where the duty before it on its engine completed,
whichever is later (R58). -/
def dutyStart (s : State) (k : Nat) : Nat := max (rget s (F.TMP_SLOT_START k)) (engineFin s (slotDuty s k))

/-- The slot in which a duty can complete at cycle `fin` of the running tempo: scheduled, not yet run, every duty before it on
its engine complete, and the cycle within the tempo and not before the duty's start. -/
def dutySlot (s : State) (d fin : Nat) : Option Nat :=
  match slotOf s d with
  | some k =>
    if s.tmp.running && s.tmp.begun && !s.tmp.ran.contains d && decide (dutyStart s k ≤ fin) && decide (fin < s.tmp.len)
        && (dutiesBefore s k).all (fun j => s.tmp.ran.contains (slotDuty s j)) then some k
    else none
  | none => none

/-- A completed duty: its checkpoint in the signature register, its peak, and LATE past its deadline (R60, R172). -/
def dutyDone (d k fin : Nat) (s : State) : State :=
  let s1 := { s with tmp.ran := s.tmp.ran ++ [d], saf.flow := s.saf.flow + 2 ^ d,
                     tmp.finS := if onMeter d then s.tmp.finS else fin, tmp.finM := if onMeter d then fin else s.tmp.finM }
  let s2 := if rget s (F.TMP_PEAK_FINISH k) < fin then rput (F.TMP_PEAK_FINISH k) fin s1 else s1
  if rget s (F.TMP_SLOT_DEADLINE k) < fin then raiseTmp F.TMP_FLAGS_LATE s2 else s2

/-- A duty runs and completes at cycle `fin`; where its turn has not come nothing happens. -/
def runDuty (d fin : Nat) (f : State → State) (s : State) : State :=
  match dutySlot s d fin with
  | some k => dutyDone d k fin (f s)
  | none => s

/-- FREEZE: the report of the output states compared (R10), and the excitation current of the fluxgate (R198, R527). -/
def freezeDuty (rep : Report) (exc : Bool) (s : State) : State :=
  let s1 := compareLoads rep.lc (compareOutputs rep.so s)
  if rcOn s && !exc then rcSensorFault s1 else s1

/-- FREEZE (R55). -/
def execFreeze (fin : Nat) (rep : Report) (exc : Bool) (s : State) : Host.Outcome State Fault Refusal :=
  .next (runDuty 0 fin (freezeDuty rep exc) s)

def flipList (l : List (Fin 64 × Fin 21)) : List (Nat × Nat) := l.map (fun p => (p.1.val, p.2.val))

/-- The start of MOVE_TRUE in the running tempo, from which the timers of the squares are compared (R58, R99). -/
def moveStart (s : State) : State :=
  match slotOf s 1 with
  | some k => { s with brd.start := dutyStart s k }
  | none => s

/-- MOVE_TRUE (R104). -/
def execMoveTrue (fin : Nat) (ecc : Ecc) (flips : List (Fin 64 × Fin 21)) (s : State) : Host.Outcome State Fault Refusal :=
  .next (runDuty 1 fin (fun t => moveTrue ecc (flipList flips) (moveStart t)) s)

/-- MOVE_COMP (R104). -/
def execMoveComp (fin : Nat) (ecc : Ecc) (flips : List (Fin 64 × Fin 21)) (s : State) : Host.Outcome State Fault Refusal :=
  .next (runDuty 2 fin (moveComp ecc (flipList flips)) s)

/-- COMPARE (R105). -/
def execCompare (fin : Nat) (s : State) : Host.Outcome State Fault Refusal := .next (runDuty 3 fin boardCompare s)

/-- SEQ (R117). -/
def execSeq (fin : Nat) (s : State) : Host.Outcome State Fault Refusal := .next (runDuty 4 fin seqAll s)

/-- MATRIX (R143). -/
def execMatrix (fin : Nat) (s : State) : Host.Outcome State Fault Refusal := .next (runDuty 5 fin matrixDuty s)

/-- MXPORT (R163). -/
def execMxport (fin : Nat) (rx : MxRx) (s : State) : Host.Outcome State Fault Refusal := .next (runDuty 6 fin (mxCheck rx) s)

/-- SCRUB (R107). -/
def execScrub (fin : Nat) (ecc : Ecc) (upset : List (Nat × Byte)) (s : State) : Host.Outcome State Fault Refusal :=
  .next (runDuty 7 fin (boardScrub ecc upset) s)

/-- INTEGRATE (R233). -/
def execIntegrate (fin : Nat) (s : State) : Host.Outcome State Fault Refusal := .next (runDuty 8 fin integrate s)

/-- BOOK (R285). -/
def execBook (fin : Nat) (s : State) : Host.Outcome State Fault Refusal := .next (runDuty 9 fin book s)

/-! ### Events of the Board -/

/-- A square timer reaches PRESET (R99). -/
def execBoardTimerExpiry (k : Fin 64) (t1 : Bool) (s : State) : Host.Outcome State Fault Refusal :=
  .next (if s.tmp.running ∧ bUsed s k then boardTimer k t1 s else s)

/-- A square counter reaches PRESET (R100). -/
def execBoardCounterTerminal (k : Fin 64) (s : State) : Host.Outcome State Fault Refusal :=
  .next (if s.tmp.running ∧ bUsed s k then boardCounter k s else s)

/-- A comparator's stream is older than MAXAGE (R101). -/
def execComparatorStale (k : Fin 64) (s : State) : Host.Outcome State Fault Refusal :=
  .next (if s.tmp.running ∧ bUsed s k then boardComparator k s else s)

/-! ### The edge -/

/-- The slots whose duty has not completed. -/
def abortedSlots (s : State) : List Nat := (usedSlots s).filter (fun k => !s.tmp.ran.contains (slotDuty s k))

/-- Overrun: the duties still running are aborted; CHECK, and MATE for a second tempo in a row (R61, R64). -/
def edgeOverrun (s : State) : State :=
  match abortedSlots s with
  | [] => rput F.TMP_OVERRUN_CONSEC 0 s
  | k :: _ =>
    let c := rget s F.TMP_OVERRUN_CONSEC
    let s1 := raiseTmp F.TMP_FLAGS_OVERRUN (rput F.TMP_OVERRUN_LASTSLOT k (rsat F.TMP_OVERRUN_COUNT 1 s))
    if c = 0 then safCause 0x06 k false (rput F.TMP_OVERRUN_CONSEC 1 s1)
    else if c = 1 then safCause 0x06 k true (rput F.TMP_OVERRUN_CONSEC 2 s1)
    else s1

/-- The signature of the checkpoints against that of the duties completed: a difference enters MATE (R172). -/
def edgeFlow (upset : Nat) (s : State) : State :=
  let want := s.tmp.ran.foldl (fun a d => a + 2 ^ d) 0
  let s1 := { s with saf.flow := 0 }
  if s.saf.flow ^^^ upset = want then s1 else safCause 0x04 0 true s1

/-- The module's Board event that STOPEV names has risen from targets `old` to the ones in effect (R344). -/
def stopEvent (old : Nat) (s : State) : Bool :=
  s.loaded && decide (nStopEv s < 16) && s.brd.tgt.testBit (0x54 + nStopEv s) && !old.testBit (0x54 + nStopEv s)

/-- What the tempo that ends puts into effect: causes and safety state, Board targets, safety outputs, coils (R57, R167). -/
def edgeEffects (upset : Nat) (s : State) : State :=
  s |> safUnknown |> edgeOverrun |> edgeFlow upset |> edgeSeq |> edgeTrips |> edgeConditions |> edgeAck |> edgeState |> edgeBoard
    |> edgeSo |> edgeCoils

/-- The cycles, 5 ns each, by which the next tempo is shortened against the phase error still to remove: to the nearest cycle,
up to 20, and none within ±3 ns or while the module runs free on XO (R54, R71, R76, R77; log entry 170). -/
def realignCycles (s : State) : Int :=
  let e := s.tmp.perr
  let on := s.tmp.mode == .slew || s.tmp.mode == .locked || (s.tmp.mode == .holdover && !s.yrd.lost)
  if on && decide (3 < e.natAbs) then clampI (-20) 20 ((e + 2) / 5) else 0

/-- The cycles of the next tempo. -/
def nextLen (s : State) : Nat := (10000 - realignCycles s).toNat

/-- Chain time moves on by TMP_INCR × n ÷ 10,000, the fraction carried (R67). -/
def edgeAdvance (s : State) : State :=
  let t := s.tmp.frac + tempoSpan s
  { s with tmp.chain := (s.tmp.chain + t / 655360000) % 2 ^ 64, tmp.frac := t % 655360000, tmp.now := s.tmp.now + 1,
           tmp.cyc := s.tmp.cyc + s.tmp.len, tmp.len := nextLen s, tmp.perr := s.tmp.perr - 5 * realignCycles s,
           tmp.first := false, tmp.ran := [], tmp.finS := 0, tmp.finM := 0 }

/-- The inputs frozen for the tempo that begins, with a STOP as its demand (R55, R345). -/
def edgeFreeze (s : State) : State :=
  let fz : Frozen := ⟨frozenInputs s, frozenTests s, s.strm, s.lea.site, s.lea.shareImp, s.lea.shareExp, s.lea.stopIn.map (0x40 + ·)⟩
  let s1 := eachUpTo 4 outFreeze (edgeMtim { s with fz := fz, lea.stopIn := none })
  match fz.stop with
  | some d => safCause 0x0F (d % 256) false s1
  | none => s1

/-- The units at a new edge; `sec` and `ms`: a chain-time second or millisecond ended, `cstep`: the step of chain time. -/
def edgeUnits (sec ms : Bool) (cstep : Int) (s : State) : State :=
  { s with saf.resetPulse := s.saf.resetPulseNext, saf.resetPulseNext := false, saf.mbRan := false }
    |> eachUpTo 4 isoConfirm |> edgeRc |> eachUpTo 4 edgeFgt |> edgeUart 0 |> edgeUart 1 |> edgeMeter sec |> edgeBill cstep |> edgeGuard
    |> edgeVeh ms |> edgeNet |> edgeLch |> edgeFwu |> edgePower

/-- The AUTH values of the tempo that ends count, with the readiness of this edge (R115, R237), and the outlets as they then stand
are in effect. -/
def edgeAuth (s : State) : State := outsTake (eachUpTo 4 outAuth s)

/-- The edge that begins a tempo without ending one: the first after a layout load, or after a hold of the clock (R54, R91,
R491). -/
def edgeFirst (s : State) : State :=
  edgeAuth (edgeFreeze (edgeBudget { s with tmp.begun := true, tmp.ran := [], tmp.finS := 0, tmp.finM := 0, saf.flow := 0 }))

/-- The edge that ends a tempo and begins the next (R55, R57). -/
def edgeNext (upset : Nat) (s : State) : State :=
  let t := edgeEffects upset s
  let ev := stopEvent s.brd.tgt t
  let u := edgeStep t
  let v := edgeAdvance u
  edgeAuth (edgeUnits (v.tmp.chain / 1000000000 != u.tmp.chain / 1000000000) (v.tmp.chain / 1000000 != u.tmp.chain / 1000000)
    ((u.tmp.chain : Int) - t.tmp.chain + t.tmp.adoptStep)
    { edgeFreeze (eachUpTo 4 isoApply (edgeLead ev (edgeCauses v))) with tmp.adoptStep := 0 })

/-- A tempo edge; every flag it sets is set in its one cycle (R39, R55, R57). -/
def tempoEdge (upset : Nat) (s : State) : State :=
  if !s.tmp.running then s else if !s.tmp.begun then oneCycle edgeFirst s else oneCycle (edgeNext upset) s

/-- TEMPO_EDGE (R55). -/
def execTempoEdge (upset : BitVec 16) (s : State) : Host.Outcome State Fault Refusal := .next (tempoEdge upset.toNat s)

end Sys2Proof.Machine
end

