-- ==== Sys2Proof/Machine/Dispatch.lean ====
section
/-! DEFINITION. The dispatch: one arm per command, each one direct call of its meaning. -/

namespace Sys2Proof.Machine

def exec (i : Instr) (s : State) : Host.Outcome State Fault Refusal :=
  match i with
  | .tempoEdge upset => Sys2Proof.Machine.execTempoEdge upset s
  | .freeze fin rep exc => Sys2Proof.Machine.execFreeze fin rep exc s
  | .moveTrue fin ecc flips => Sys2Proof.Machine.execMoveTrue fin ecc flips s
  | .moveComp fin ecc flips => Sys2Proof.Machine.execMoveComp fin ecc flips s
  | .compare fin => Sys2Proof.Machine.execCompare fin s
  | .seq fin => Sys2Proof.Machine.execSeq fin s
  | .matrix fin => Sys2Proof.Machine.execMatrix fin s
  | .mxport fin rx => Sys2Proof.Machine.execMxport fin rx s
  | .scrub fin ecc upset => Sys2Proof.Machine.execScrub fin ecc upset s
  | .integrate fin => Sys2Proof.Machine.execIntegrate fin s
  | .book fin => Sys2Proof.Machine.execBook fin s
  | .boardTimerExpiry k t1 => Sys2Proof.Machine.execBoardTimerExpiry k t1 s
  | .boardCounterTerminal k => Sys2Proof.Machine.execBoardCounterTerminal k s
  | .comparatorStale k => Sys2Proof.Machine.execComparatorStale k s
  | .writeRegister addr v size mode => Sys2Proof.Machine.execWriteRegister addr v size mode s
  | .w1cClear addr mask hw mode => Sys2Proof.Machine.execW1cClear addr mask hw mode s
  | .evcntClr addr event mode => Sys2Proof.Machine.execEvcntClr addr event mode s
  | .seal mode => Sys2Proof.Machine.execSeal mode s
  | .readLoShadow addr size mode => Sys2Proof.Machine.execReadLoShadow addr size mode s
  | .writeHiCommit addr v mode => Sys2Proof.Machine.execWriteHiCommit addr v mode s
  | .interdieTransfer ok1 ok2 vals => Sys2Proof.Machine.execInterdieTransfer ok1 ok2 vals s
  | .persistRequest => Sys2Proof.Machine.execPersistRequest s
  | .persistCommitAck => Sys2Proof.Machine.execPersistCommitAck s
  | .timeSourceLost absent => Sys2Proof.Machine.execTimeSourceLost absent s
  | .ptpOffsetTimeout => Sys2Proof.Machine.execPtpOffsetTimeout s
  | .ptpOffsetWrite ofs => Sys2Proof.Machine.execPtpOffsetWrite ofs s
  | .syncTimeRx p rx ns res => Sys2Proof.Machine.execSyncTimeRx p rx ns res s
  | .dreqSend ns => Sys2Proof.Machine.execDreqSend ns s
  | .dreqRx p rx ns => Sys2Proof.Machine.execDreqRx p rx ns s
  | .syncLoss recLost => Sys2Proof.Machine.execSyncLoss recLost s
  | .stepToSync => Sys2Proof.Machine.execStepToSync s
  | .layoutLoad => Sys2Proof.Machine.execLayoutLoad s
  | .lockstepFault => Sys2Proof.Machine.execLockstepFault s
  | .safeSramError double => Sys2Proof.Machine.execSafeSramError double s
  | .safeSramScrub single double => Sys2Proof.Machine.execSafeSramScrub single double s
  | .safeRomParity => Sys2Proof.Machine.execSafeRomParity s
  | .tempoWd ns => Sys2Proof.Machine.execTempoWd ns s
  | .supplyFault rail inWindow => Sys2Proof.Machine.execSupplyFault rail inWindow s
  | .dieTempSample die t => Sys2Proof.Machine.execDieTempSample die t s
  | .tempsense die diff ms => Sys2Proof.Machine.execTempsense die diff ms s
  | .checkTimeout coil => Sys2Proof.Machine.execCheckTimeout coil s
  | .safebistComplete pass => Sys2Proof.Machine.execSafebistComplete pass s
  | .safetyInputAccept n mvA mvB us => Sys2Proof.Machine.execSafetyInputAccept n mvA mvB us s
  | .inputDiscrepancy n us => Sys2Proof.Machine.execInputDiscrepancy n us s
  | .inputAgreementRestored n us => Sys2Proof.Machine.execInputAgreementRestored n us s
  | .testPulse k => Sys2Proof.Machine.execTestPulse k s
  | .testPulseCheck k low back => Sys2Proof.Machine.execTestPulseCheck k low back s
  | .soOvercurrent x ma us => Sys2Proof.Machine.execSoOvercurrent x ma us s
  | .darkTest x side mv vs => Sys2Proof.Machine.execDarkTest x side mv vs s
  | .guardDiscrepant => Sys2Proof.Machine.execGuardDiscrepant s
  | .guardProofExpiry => Sys2Proof.Machine.execGuardProofExpiry s
  | .guardDue => Sys2Proof.Machine.execGuardDue s
  | .isoCycleStart n => Sys2Proof.Machine.execIsoCycleStart n s
  | .isoTauFit n tau => Sys2Proof.Machine.execIsoTauFit n tau s
  | .isoPhasePEnd n start decay => Sys2Proof.Machine.execIsoPhasePEnd n start decay s
  | .isoPhaseNEnd n start decay => Sys2Proof.Machine.execIsoPhaseNEnd n start decay s
  | .rcTrip tier => Sys2Proof.Machine.execRcTrip tier s
  | .fluxgateTest n exc => Sys2Proof.Machine.execFluxgateTest n exc s
  | .safFlagclr ph len payload => Sys2Proof.Machine.execSafFlagclr ph len payload s
  | .safIenset ph len payload => Sys2Proof.Machine.execSafIenset ph len payload s
  | .wearrst ph len payload => Sys2Proof.Machine.execWearrst ph len payload s
  | .checkack ph len payload => Sys2Proof.Machine.execCheckack ph len payload s
  | .safereset ph len payload => Sys2Proof.Machine.execSafereset ph len payload s
  | .challengeRefresh => Sys2Proof.Machine.execChallengeRefresh s
  | .safEvqRead => Sys2Proof.Machine.execSafEvqRead s
  | .reqCableCheck n ph => Sys2Proof.Machine.execReqCableCheck n ph s
  | .reqPrecharge n ph => Sys2Proof.Machine.execReqPrecharge n ph s
  | .reqEnergy n ph => Sys2Proof.Machine.execReqEnergy n ph s
  | .reqStop n ph => Sys2Proof.Machine.execReqStop n ph s
  | .reqOos n ph => Sys2Proof.Machine.execReqOos n ph s
  | .reqService n ph => Sys2Proof.Machine.execReqService n ph s
  | .reqAck n ph => Sys2Proof.Machine.execReqAck n ph s
  | .reqRearm n ph => Sys2Proof.Machine.execReqRearm n ph s
  | .authRequest n => Sys2Proof.Machine.execAuthRequest n s
  | .deauth n => Sys2Proof.Machine.execDeauth n s
  | .evopen n => Sys2Proof.Machine.execEvopen n s
  | .dirChange n dir => Sys2Proof.Machine.execDirChange n dir s
  | .outLimitWrite n v => Sys2Proof.Machine.execOutLimitWrite n v s
  | .tLockExpiry n => Sys2Proof.Machine.execTLockExpiry n s
  | .tAuthExpiry n => Sys2Proof.Machine.execTAuthExpiry n s
  | .tNegExpiry n => Sys2Proof.Machine.execTNegExpiry n s
  | .tCcExpiry n => Sys2Proof.Machine.execTCcExpiry n s
  | .tPcExpiry n => Sys2Proof.Machine.execTPcExpiry n s
  | .tFwwdExpiry n => Sys2Proof.Machine.execTFwwdExpiry n s
  | .zeroCurrentConfirmed n => Sys2Proof.Machine.execZeroCurrentConfirmed n s
  | .tRdExpiry n => Sys2Proof.Machine.execTRdExpiry n s
  | .tZcExpiry n => Sys2Proof.Machine.execTZcExpiry n s
  | .fbMismatch n => Sys2Proof.Machine.execFbMismatch n s
  | .tEvopenExpiry n => Sys2Proof.Machine.execTEvopenExpiry n s
  | .tWeldExpiry n => Sys2Proof.Machine.execTWeldExpiry n s
  | .tAcrespExpiry n => Sys2Proof.Machine.execTAcrespExpiry n s
  | .busLost n => Sys2Proof.Machine.execBusLost n s
  | .busreqSend => Sys2Proof.Machine.execBusreqSend s
  | .pilotDecision p fst snd => Sys2Proof.Machine.execPilotDecision p fst snd s
  | .pilotStateConfirmed n => Sys2Proof.Machine.execPilotStateConfirmed n s
  | .proximityResult p samples => Sys2Proof.Machine.execProximityResult p samples s
  | .plugDetect p mv us => Sys2Proof.Machine.execPlugDetect p mv us s
  | .pilotBreak p => Sys2Proof.Machine.execPilotBreak p s
  | .pilotBreakEnd p => Sys2Proof.Machine.execPilotBreakEnd p s
  | .xpWeld g => Sys2Proof.Machine.execXpWeld g s
  | .tVmatchExpiry g => Sys2Proof.Machine.execTVmatchExpiry g s
  | .tXzcExpiry g => Sys2Proof.Machine.execTXzcExpiry g s
  | .xpFbMismatch x => Sys2Proof.Machine.execXpFbMismatch x s
  | .migrationAbort g => Sys2Proof.Machine.execMigrationAbort g s
  | .pgCommandSend bus => Sys2Proof.Machine.execPgCommandSend bus s
  | .pgStatusRx bus id data => Sys2Proof.Machine.execPgStatusRx bus id data s
  | .groupLost g => Sys2Proof.Machine.execGroupLost g s
  | .balanceUpdate => Sys2Proof.Machine.execBalanceUpdate s
  | .balanceSaturated g => Sys2Proof.Machine.execBalanceSaturated g s
  | .grantSend => Sys2Proof.Machine.execGrantSend s
  | .wearPersist coil => Sys2Proof.Machine.execWearPersist coil s
  | .decimatorOutput o => Sys2Proof.Machine.execDecimatorOutput o s
  | .channelDead c equal mis => Sys2Proof.Machine.execChannelDead c equal mis s
  | .channelRecovered c => Sys2Proof.Machine.execChannelRecovered c s
  | .tempTableUpdate => Sys2Proof.Machine.execTempTableUpdate s
  | .tstale c => Sys2Proof.Machine.execTstale c s
  | .trangeClear c => Sys2Proof.Machine.execTrangeClear c s
  | .pilotSequenceDraw => Sys2Proof.Machine.execPilotSequenceDraw s
  | .pilotBlock => Sys2Proof.Machine.execPilotBlock s
  | .rmsUpdate => Sys2Proof.Machine.execRmsUpdate s
  | .zeroCrossing t => Sys2Proof.Machine.execZeroCrossing t s
  | .freqUpdate => Sys2Proof.Machine.execFreqUpdate s
  | .phaseSequenceDecided cycles => Sys2Proof.Machine.execPhaseSequenceDecided cycles s
  | .missingNeutral ep => Sys2Proof.Machine.execMissingNeutral ep s
  | .missingNeutralClear ep => Sys2Proof.Machine.execMissingNeutralClear ep s
  | .sumerr => Sys2Proof.Machine.execSumerr s
  | .sumerrClear => Sys2Proof.Machine.execSumerrClear s
  | .pulseOutput => Sys2Proof.Machine.execPulseOutput s
  | .pulseInput k hi lo => Sys2Proof.Machine.execPulseInput k hi lo s
  | .picntWrite k v pulse => Sys2Proof.Machine.execPicntWrite k v pulse s
  | .journalWriteComplete ok => Sys2Proof.Machine.execJournalWriteComplete ok s
  | .timeslew ph len payload => Sys2Proof.Machine.execTimeslew ph len payload s
  | .timestep ph len payload => Sys2Proof.Machine.execTimestep ph len payload s
  | .calload ph len payload => Sys2Proof.Machine.execCalload ph len payload s
  | .calcommit ph len payload => Sys2Proof.Machine.execCalcommit ph len payload s
  | .calcancel ph len payload => Sys2Proof.Machine.execCalcancel ph len payload s
  | .recread ph len payload => Sys2Proof.Machine.execRecread ph len payload s
  | .regread ph len payload => Sys2Proof.Machine.execRegread ph len payload s
  | .showcheck ph len payload => Sys2Proof.Machine.execShowcheck ph len payload s
  | .bilFlagclr ph len payload => Sys2Proof.Machine.execBilFlagclr ph len payload s
  | .bilIenset ph len payload => Sys2Proof.Machine.execBilIenset ph len payload s
  | .bilEvqRead => Sys2Proof.Machine.execBilEvqRead s
  | .finalEntry => Sys2Proof.Machine.execFinalEntry s
  | .optSignon chars parityOk => Sys2Proof.Machine.execOptSignon chars parityOk s
  | .optBaudAck chars => Sys2Proof.Machine.execOptBaudAck chars s
  | .optIdleTimeout ms => Sys2Proof.Machine.execOptIdleTimeout ms s
  | .optHdlcFrame f => Sys2Proof.Machine.execOptHdlcFrame f s
  | .dlmsGet a sel => Sys2Proof.Machine.execDlmsGet a sel s
  | .dlmsSet obis => Sys2Proof.Machine.execDlmsSet obis s
  | .dlmsAction obis script => Sys2Proof.Machine.execDlmsAction obis script s
  | .optInactivityTimeout => Sys2Proof.Machine.execOptInactivityTimeout s
  | .serviceButton ms => Sys2Proof.Machine.execServiceButton ms s
  | .checkScreenAdvance => Sys2Proof.Machine.execCheckScreenAdvance s
  | .legalFieldRotate => Sys2Proof.Machine.execLegalFieldRotate s
  | .slacParmReqRx p runId mac => Sys2Proof.Machine.execSlacParmReqRx p runId mac s
  | .startAttenCharRx p runId => Sys2Proof.Machine.execStartAttenCharRx p runId s
  | .mnbcSoundRx p runId att => Sys2Proof.Machine.execMnbcSoundRx p runId att s
  | .mnbcWindowExpiry p => Sys2Proof.Machine.execMnbcWindowExpiry p s
  | .attenCharIndTx p runId => Sys2Proof.Machine.execAttenCharIndTx p runId s
  | .attenCharRspRx p runId => Sys2Proof.Machine.execAttenCharRspRx p runId s
  | .slacMatchReqRx p runId => Sys2Proof.Machine.execSlacMatchReqRx p runId s
  | .slacMatchCnfTx p runId => Sys2Proof.Machine.execSlacMatchCnfTx p runId s
  | .evJoin p => Sys2Proof.Machine.execEvJoin p s
  | .evLeave p => Sys2Proof.Machine.execEvLeave p s
  | .slacTimerExpiry p t => Sys2Proof.Machine.execSlacTimerExpiry p t s
  | .slacrst p => Sys2Proof.Machine.execSlacrst p s
  | .hpcfgEnWrite p en => Sys2Proof.Machine.execHpcfgEnWrite p en s
  | .mtimStart n k => Sys2Proof.Machine.execMtimStart n k s
  | .mtimStop n k => Sys2Proof.Machine.execMtimStop n k s
  | .mtimExpiry n k => Sys2Proof.Machine.execMtimExpiry n k s
  | .txDescriptor p ns own coll => Sys2Proof.Machine.execTxDescriptor p ns own coll s
  | .rxFrame p ns own frame => Sys2Proof.Machine.execRxFrame p ns own frame s
  | .t1sQuiet m => Sys2Proof.Machine.execT1sQuiet m s
  | .canBusOff k => Sys2Proof.Machine.execCanBusOff k s
  | .canBusOffRecovery k => Sys2Proof.Machine.execCanBusOffRecovery k s
  | .canSlotTx k n => Sys2Proof.Machine.execCanSlotTx k n s
  | .canSlotSwap k n => Sys2Proof.Machine.execCanSlotSwap k n s
  | .canRxFrame k hdr data => Sys2Proof.Machine.execCanRxFrame k hdr data s
  | .canRxTimeout k f => Sys2Proof.Machine.execCanRxTimeout k f s
  | .canTxPush k => Sys2Proof.Machine.execCanTxPush k s
  | .canRxHeadRemove k => Sys2Proof.Machine.execCanRxHeadRemove k s
  | .budgetRx p rx ns res => Sys2Proof.Machine.execBudgetRx p rx ns res s
  | .budgetRegisterWrite a v => Sys2Proof.Machine.execBudgetRegisterWrite a v s
  | .budgetStale => Sys2Proof.Machine.execBudgetStale s
  | .stopRx p rx pre => Sys2Proof.Machine.execStopRx p rx pre s
  | .enumOfferSend => Sys2Proof.Machine.execEnumOfferSend s
  | .enumCommand => Sys2Proof.Machine.execEnumCommand s
  | .enumOfferRx p rx => Sys2Proof.Machine.execEnumOfferRx p rx s
  | .enumAnswerRx p rx => Sys2Proof.Machine.execEnumAnswerRx p rx s
  | .enumEndRx p rx => Sys2Proof.Machine.execEnumEndRx p rx s
  | .leadLinkChange p up => Sys2Proof.Machine.execLeadLinkChange p up s
  | .segmentHead => Sys2Proof.Machine.execSegmentHead s
  | .statusSend => Sys2Proof.Machine.execStatusSend s
  | .statusRx p rx => Sys2Proof.Machine.execStatusRx p rx s
  | .epochMismatch => Sys2Proof.Machine.execEpochMismatch s
  | .epochAgree => Sys2Proof.Machine.execEpochAgree s
  | .busreqRx p rx => Sys2Proof.Machine.execBusreqRx p rx s
  | .grantRx p rx => Sys2Proof.Machine.execGrantRx p rx s
  | .userRx p rx => Sys2Proof.Machine.execUserRx p rx s
  | .leadUserPush dst len data => Sys2Proof.Machine.execLeadUserPush dst len data s
  | .leadUserHeadRemove => Sys2Proof.Machine.execLeadUserHeadRemove s
  | .xferStart => Sys2Proof.Machine.execXferStart s
  | .xferCancel => Sys2Proof.Machine.execXferCancel s
  | .xferstartRx p rx => Sys2Proof.Machine.execXferstartRx p rx s
  | .dataRx p rx => Sys2Proof.Machine.execDataRx p rx s
  | .nakRx p rx => Sys2Proof.Machine.execNakRx p rx s
  | .wakeRx p rx => Sys2Proof.Machine.execWakeRx p rx s
  | .repeaterForward p bytes => Sys2Proof.Machine.execRepeaterForward p bytes s
  | .yardWindow centre nq => Sys2Proof.Machine.execYardWindow centre nq s
  | .yardBeaconRx rx centre => Sys2Proof.Machine.execYardBeaconRx rx centre s
  | .yardFrameRx rx => Sys2Proof.Machine.execYardFrameRx rx s
  | .ylLost => Sys2Proof.Machine.execYlLost s
  | .yardPoll serial => Sys2Proof.Machine.execYardPoll serial s
  | .yardMsgPush dst len data => Sys2Proof.Machine.execYardMsgPush dst len data s
  | .yardMsgHeadRemove => Sys2Proof.Machine.execYardMsgHeadRemove s
  | .netFrameIngress port bytes event ns => Sys2Proof.Machine.execNetFrameIngress port bytes event ns s
  | .uartRxChar u c perr ferr => Sys2Proof.Machine.execUartRxChar u c perr ferr s
  | .uartRxPop u => Sys2Proof.Machine.execUartRxPop u s
  | .uartTxWrite u c => Sys2Proof.Machine.execUartTxWrite u c s
  | .uartIdleTimeout u chars => Sys2Proof.Machine.execUartIdleTimeout u chars s
  | .bootSequence flash dram => Sys2Proof.Machine.execBootSequence flash dram s
  | .bootok => Sys2Proof.Machine.execBootok s
  | .fwuProgram c => Sys2Proof.Machine.execFwuProgram c s
  | .fwuProgramComplete flash => Sys2Proof.Machine.execFwuProgramComplete flash s
  | .fwuActivate => Sys2Proof.Machine.execFwuActivate s
  | .fwuCancel => Sys2Proof.Machine.execFwuCancel s
  | .fwuConfirm c => Sys2Proof.Machine.execFwuConfirm c s
  | .fwuExtend => Sys2Proof.Machine.execFwuExtend s
  | .fwuRevoke r => Sys2Proof.Machine.execFwuRevoke r s
  | .activateRx p rx => Sys2Proof.Machine.execActivateRx p rx s
  | .activationRepeat => Sys2Proof.Machine.execActivationRepeat s
  | .activationGo => Sys2Proof.Machine.execActivationGo s
  | .goRx p rx => Sys2Proof.Machine.execGoRx p rx s
  | .activationRestart => Sys2Proof.Machine.execActivationRestart s
  | .activationLatestExpiry => Sys2Proof.Machine.execActivationLatestExpiry s
  | .cancelRx p rx => Sys2Proof.Machine.execCancelRx p rx s
  | .activationMemberTimeout => Sys2Proof.Machine.execActivationMemberTimeout s
  | .recoveryDisplayCycle => Sys2Proof.Machine.execRecoveryDisplayCycle s
  | .recoveryUsbDownload alt data => Sys2Proof.Machine.execRecoveryUsbDownload alt data s
  | .recoveryReset => Sys2Proof.Machine.execRecoveryReset s
  | .jtagUnlock token => Sys2Proof.Machine.execJtagUnlock token s
  | .keyWrite slot typ pol len => Sys2Proof.Machine.execKeyWrite slot typ pol len s
  | .keyNarrow slot pol => Sys2Proof.Machine.execKeyNarrow slot pol s
  | .keyErase slot => Sys2Proof.Machine.execKeyErase slot s
  | .keySlotcmdDone => Sys2Proof.Machine.execKeySlotcmdDone s
  | .keySweep => Sys2Proof.Machine.execKeySweep s
  | .jobHash => Sys2Proof.Machine.execJobHash s
  | .jobHmac => Sys2Proof.Machine.execJobHmac s
  | .jobEnc => Sys2Proof.Machine.execJobEnc s
  | .jobDec => Sys2Proof.Machine.execJobDec s
  | .jobSign => Sys2Proof.Machine.execJobSign s
  | .jobVerify => Sys2Proof.Machine.execJobVerify s
  | .jobDerive => Sys2Proof.Machine.execJobDerive s
  | .jobAgree => Sys2Proof.Machine.execJobAgree s
  | .jobWrap => Sys2Proof.Machine.execJobWrap s
  | .jobUnwrap => Sys2Proof.Machine.execJobUnwrap s
  | .jobQuote => Sys2Proof.Machine.execJobQuote s
  | .jobRandom => Sys2Proof.Machine.execJobRandom s
  | .jobComplete => Sys2Proof.Machine.execJobComplete s
  | .keyRngRead => Sys2Proof.Machine.execKeyRngRead s
  | .rngReseed => Sys2Proof.Machine.execRngReseed s
  | .entropySourceFail k => Sys2Proof.Machine.execEntropySourceFail k s
  | .fieldOn best phase iset iant => Sys2Proof.Machine.execFieldOn best phase iset iant s
  | .fieldOff sent => Sys2Proof.Machine.execFieldOff sent s
  | .hfSettled => Sys2Proof.Machine.execHfSettled s
  | .hfActivate typ wup l4 cards => Sys2Proof.Machine.execHfActivate typ wup l4 cards s
  | .exchange l4 nocrc txbits txlen us => Sys2Proof.Machine.execExchange l4 nocrc txbits txlen us s
  | .release => Sys2Proof.Machine.execRelease s
  | .origin us => Sys2Proof.Machine.execOrigin us s
  | .tune arg => Sys2Proof.Machine.execTune arg s
  | .lpcd => Sys2Proof.Machine.execLpcd s
  | .lpcdBurst amp => Sys2Proof.Machine.execLpcdBurst amp s
  | .hfCardFrameRx blk rxbits => Sys2Proof.Machine.execHfCardFrameRx blk rxbits s
  | .hfWtxRequest wtxm => Sys2Proof.Machine.execHfWtxRequest wtxm s
  | .hfFwtExpiry => Sys2Proof.Machine.execHfFwtExpiry s
  | .waitCapExpiry => Sys2Proof.Machine.execWaitCapExpiry s
  | .fieldLost ma us sent => Sys2Proof.Machine.execFieldLost ma us sent s
  | .fieldResetEnd => Sys2Proof.Machine.execFieldResetEnd s
  | .hfDriverFault sent => Sys2Proof.Machine.execHfDriverFault sent s
  | .autotuneStep phase up iant => Sys2Proof.Machine.execAutotuneStep phase up iant s
  | .lchEnable n en => Sys2Proof.Machine.execLchEnable n en s
  | .lchLatchClear n tj => Sys2Proof.Machine.execLchLatchClear n tj s
  | .lchInrushEnd n => Sys2Proof.Machine.execLchInrushEnd n s
  | .lchLimitEntry n => Sys2Proof.Machine.execLchLimitEntry n s
  | .lchTocExpiry n => Sys2Proof.Machine.execLchTocExpiry n s
  | .lchRetry n => Sys2Proof.Machine.execLchRetry n s
  | .lchThermalLatch n tj gt => Sys2Proof.Machine.execLchThermalLatch n tj gt s
  | .lchWindowCut n gt => Sys2Proof.Machine.execLchWindowCut n gt s
  | .bankEnforce => Sys2Proof.Machine.execBankEnforce s
  | .bankRelease => Sys2Proof.Machine.execBankRelease s
  | .vsLoadUndervoltage mv => Sys2Proof.Machine.execVsLoadUndervoltage mv s
  | .vsLoadRecovered mv us => Sys2Proof.Machine.execVsLoadRecovered mv us s
  | .lchStaggeredRestart n => Sys2Proof.Machine.execLchStaggeredRestart n s
  | .freewheelCheckEnd n mv => Sys2Proof.Machine.execFreewheelCheckEnd n mv s
  | .clampEnergyCheck n uj => Sys2Proof.Machine.execClampEnergyCheck n uj s
  | .lchOpenLoad n ma ms => Sys2Proof.Machine.execLchOpenLoad n ma ms s
  | .lchOffDiag n mv0 mv1 => Sys2Proof.Machine.execLchOffDiag n mv0 mv1 s
  | .lcdSegWrite k v => Sys2Proof.Machine.execLcdSegWrite k v s
  | .crackMeasure ohm => Sys2Proof.Machine.execCrackMeasure ohm s
  | .reqS1 => Sys2Proof.Machine.execReqS1 s
  | .reqS2 => Sys2Proof.Machine.execReqS2 s
  | .reqS3 => Sys2Proof.Machine.execReqS3 s
  | .reqS4 => Sys2Proof.Machine.execReqS4 s
  | .s3EntryComplete => Sys2Proof.Machine.execS3EntryComplete s
  | .s4Entry => Sys2Proof.Machine.execS4Entry s
  | .wake k => Sys2Proof.Machine.execWake k s
  | .wakeStepReady => Sys2Proof.Machine.execWakeStepReady s
  | .wakeStepTimeout => Sys2Proof.Machine.execWakeStepTimeout s
  | .resume crcOk => Sys2Proof.Machine.execResume crcOk s
  | .pfw mv => Sys2Proof.Machine.execPfw mv s
  | .pfwClear mv us => Sys2Proof.Machine.execPfwClear mv us s
  | .powerFailShutdown => Sys2Proof.Machine.execPowerFailShutdown s
  | .aonLoss => Sys2Proof.Machine.execAonLoss s
  | .residencyClear => Sys2Proof.Machine.execResidencyClear s
  | .plevelRequest req => Sys2Proof.Machine.execPlevelRequest req s
  | .plevelChangeComplete => Sys2Proof.Machine.execPlevelChangeComplete s
  | .avsUpdate trim low => Sys2Proof.Machine.execAvsUpdate trim low s
  | .governorTick => Sys2Proof.Machine.execGovernorTick s
  | .refselWrite sel => Sys2Proof.Machine.execRefselWrite sel s
  | .refSwitchDone => Sys2Proof.Machine.execRefSwitchDone s
  | .xoDead err => Sys2Proof.Machine.execXoDead err s
  | .recDead err => Sys2Proof.Machine.execRecDead err s
  | .rtcError ppm => Sys2Proof.Machine.execRtcError ppm s
  | .clockSourceValid src err ms => Sys2Proof.Machine.execClockSourceValid src err ms s
  | .refBackFromIrc => Sys2Proof.Machine.execRefBackFromIrc s
  | .clockReturn => Sys2Proof.Machine.execClockReturn s
  | .holdClear => Sys2Proof.Machine.execHoldClear s
  | .powerOnReset => Sys2Proof.Machine.execPowerOnReset s
  | .resetPin low ns => Sys2Proof.Machine.execResetPin low ns s
  | .softwareReset key => Sys2Proof.Machine.execSoftwareReset key s
  | .resetStretchEnd => Sys2Proof.Machine.execResetStretchEnd s
  | .optionByteLoad => Sys2Proof.Machine.execOptionByteLoad s
  | .bootTimeout => Sys2Proof.Machine.execBootTimeout s
  | .wdogEnable timeout => Sys2Proof.Machine.execWdogEnable timeout s
  | .wdogKick key => Sys2Proof.Machine.execWdogKick key s
  | .wdogWarn => Sys2Proof.Machine.execWdogWarn s
  | .watchdogExpiry => Sys2Proof.Machine.execWatchdogExpiry s
  | .ppsEdge ns => Sys2Proof.Machine.execPpsEdge ns s
  | .lchLimitingEnd n => Sys2Proof.Machine.execLchLimitingEnd n s
  | .openLoadClear n ma ms => Sys2Proof.Machine.execOpenLoadClear n ma ms s
  | .sgLinkChange port up fdx speed => Sys2Proof.Machine.execSgLinkChange port up fdx speed s
  | .vlcdLeftWindow inside => Sys2Proof.Machine.execVlcdLeftWindow inside s
  | .coresExecuteWfi => Sys2Proof.Machine.execCoresExecuteWfi s

end Sys2Proof.Machine
end

