-- ==== Sys2Proof/Safety.lean ====
section
/-!
DEFINITION. The terms in which statements about the block are written: what a command does, and what a safe state keeps.
-/

namespace Sys2Proof.Machine

/-- The command, executed in state `s`, answers a next state, and `P` holds of that state. -/
def Does (c : Instr) (s : State) (P : State → Prop) : Prop := ∃ t, exec c s = .next t ∧ P t

/-- The sequencer of outlet n is due: tempos run, COMPARE has completed, the outlet is in use and not yet evaluated in this tempo, and
no mirror contact of its coils disagrees (R18, R109, R123). -/
abbrev SeqDue (s : State) (n : Nat) : Prop :=
  s.tmp.running = true ∧ 3 ∈ s.tmp.ran ∧ oActive s n = true ∧ (outlet s n).seqAt ≠ some s.tmp.now ∧ fbMismatch s n = none

/-- Duty d, which completes at cycle fin in slot k, has left its checkpoint: it counts as completed in the tempo and in the signature
(R172), TMP_PEAK holds the latest finish of its slot, and a finish past the slot's deadline sets LATE (R60). -/
abbrev DutyRan (d k fin : Nat) (s t : State) : Prop :=
  t.tmp.ran = s.tmp.ran ++ [d] ∧ t.saf.flow = s.saf.flow + 2 ^ d
    ∧ rget t (F.TMP_PEAK_FINISH k) = max (rget s (F.TMP_PEAK_FINISH k)) fin
    ∧ (rget s (F.TMP_SLOT_DEADLINE k) < fin → rget t F.TMP_FLAGS_LATE = 1)

/-- The safety controller holds the condition (code, data) in this tempo, and MATE (`mate`) or CHECK falls due at its edge (R166, R172). -/
abbrev Demands (t : State) (code data : Nat) (mate : Bool) : Prop :=
  (code, data) ∈ t.saf.cur ∧ if mate then t.saf.toMate.isSome = true else t.saf.toCheck.isSome = true

/-- The matrix controller evaluates group g: the cabinet runs, the group is in its layout, not lost, and has reported within the last 100
tempos (R143, R159). -/
abbrev GroupDue (s : State) (g : Nat) : Prop :=
  isCabinet s = true ∧ s.tmp.running = true ∧ s.saf.st ≠ .mate ∧ g < mNgroup s ∧ (group s g).lost = false
    ∧ (group s g).stamp.isSome = true ∧ sinceT s ((group s g).stamp.getD 0) < 100

/-- A frame that a running port receives without fault and that is not one the coordinator's own frame returns as (R330, R340). -/
abbrev LeadHeard (s : State) (p : LPort) (rx : LeadRx) : Prop :=
  portOn s p = true ∧ leadFault rx = 0 ∧ coordTurns s p rx.bytes = false

/-- Such a frame, and the module consumes it (R331). -/
abbrev LeadMine (s : State) (p : LPort) (rx : LeadRx) : Prop :=
  LeadHeard s p rx ∧ (leadRoute s p (hDst rx.bytes)).1 = true

/-- The engine takes the descriptor at address d next: a job of an operation whose lengths are as R409 needs them. -/
abbrev JobDue (s : State) (d op : Nat) : Prop :=
  jobNext s = some d ∧ u8 (memRead s d 32) 0 = op ∧ jobLenBad op (jobOf s (memRead s d 32)) = false

/-- The job that runs, taken from the descriptor at the head of the ring. -/
abbrev JobIs (t s : State) (op result dst : Nat) (out : Bytes) : Prop := t.key.job = some ⟨s.key.head, op, result % 256, dst, out, [], none, false⟩

/-- The reader runs and no command of it is busy (R421). -/
abbrev ReaderFree (s : State) : Prop := hfrOn s = true ∧ s.hfr.cmd = none

/-- What a command of the reader reports: its opcode, RESULT, OUTCOME and CMDDONE (R421, R429). -/
abbrev Reports (t : State) (op result outcome : Nat) : Prop :=
  t.hfr.cmd = none ∧ rget t F.HFR_CMDSTAT_LASTOP = op ∧ rget t F.HFR_CMDSTAT_RESULT = result ∧ rget t F.HFR_CMDSTAT_OUTCOME = outcome
    ∧ rget t F.HFR_FLAGS_CMDDONE = 1

/-- A request for a power state refused with BADTARGET (R469). -/
abbrev BadTarget (s t : State) : Prop := t.pwr = s.pwr ∧ rget t F.PWR_STATE_REFUSE = 9 ∧ rget t F.PWR_FLAGS_REFUSED = 1

/-- An aligned word write at address a in mode m that the bus accepts, of a register that has no function of its own (R26–R31, R33). -/
abbrev PlainWrite (s : State) (a v : Nat) (m : Sys2Proof.BusMode) : Prop :=
  busOn s = true ∧ regionOf a 4 = .reg ∧ regDenied true a 4 m s = none ∧ lockHit a s = false ∧ isWideLo a = false
    ∧ isWideLo (a - 4) = false ∧ functionWrite a v s = none

/-- Commands whose effect reaches over the whole machine: a tempo edge, a bus write (which may start any function), and what can reset the
module, switch a domain or wake it. -/
def isWide : Instr → Bool
  | .tempoEdge .. | .writeRegister .. | .w1cClear .. | .evcntClr .. | .seal .. | .writeHiCommit .. | .plugDetect .. 
  | .txDescriptor .. | .canRxFrame .. | .leadLinkChange .. | .wakeRx .. | .netFrameIngress .. | .activationRestart .. 
  | .recoveryReset .. | .lpcdBurst .. | .s4Entry .. | .wake .. | .wakeStepReady .. | .wakeStepTimeout .. | .resume .. 
  | .pfw .. | .powerFailShutdown .. | .aonLoss .. | .xoDead .. | .recDead .. | .clockReturn .. | .powerOnReset .. 
  | .resetPin .. | .softwareReset .. | .bootTimeout .. | .watchdogExpiry .. | .coresExecuteWfi .. => true
  | _ => false

/-- The other commands that may store to physical memory: a received Ethernet frame and its descriptor (R318), a transfer block staged
(R349), the image of a boot (R371), and a job's output (R407). -/
def storesMem : Instr → Bool
  | .rxFrame .. | .dataRx .. | .bootSequence .. | .jobComplete .. => true
  | _ => false

/-- The other commands that may change the boot flash: a boot record or an image (R368, R376, R387). -/
def storesFlash : Instr → Bool
  | .layoutLoad .. | .dataRx .. | .bootSequence .. | .bootok .. | .fwuProgram .. | .fwuProgramComplete .. | .fwuConfirm .. 
  | .recoveryUsbDownload .. => true
  | _ => false

/-- The other commands that may change the FRAM (R187, R278). -/
def storesFram : Instr → Bool
  | .book .. | .persistRequest .. | .persistCommitAck .. | .jobComplete .. | .journalWriteComplete .. | .timestep .. | .calcommit .. | .finalEntry .. 
  | .bootSequence .. | .s3EntryComplete .. => true
  | _ => false

/-- The other commands that may blow a fuse (R369, R381). -/
def storesFuse : Instr → Bool
  | .fwuConfirm .. | .fwuRevoke .. => true
  | _ => false

/-- Commands of the authorisation reader (14). -/
def isReader : Instr → Bool
  | .fieldOn .. | .fieldOff .. | .hfSettled .. | .hfActivate .. | .exchange .. | .release .. | .origin .. | .tune .. 
  | .lpcd .. | .hfCardFrameRx .. | .hfWtxRequest .. | .hfFwtExpiry .. | .waitCapExpiry .. | .fieldLost .. 
  | .fieldResetEnd .. | .hfDriverFault .. | .autotuneStep .. => true
  | _ => false

/-- Commands of the load channels (15). -/
def isLoad : Instr → Bool
  | .lchEnable .. | .lchLatchClear .. | .lchInrushEnd .. | .lchLimitEntry .. | .lchTocExpiry .. | .lchRetry .. 
  | .lchThermalLatch .. | .lchWindowCut .. | .bankEnforce .. | .bankRelease .. | .vsLoadUndervoltage .. 
  | .vsLoadRecovered .. | .lchStaggeredRestart .. | .freewheelCheckEnd .. | .clampEnergyCheck .. | .lchOpenLoad .. 
  | .lchOffDiag .. | .lchLimitingEnd .. | .openLoadClear .. => true
  | _ => false

/-- Commands of the vehicle ports and the CAN controllers, and the end of a power fail, which lifts the pilots AON holds (10, R304). -/
def isVehicle : Instr → Bool
  | .pfwClear .. | .pilotDecision .. | .proximityResult .. | .pilotBreak .. | .pilotBreakEnd .. | .slacParmReqRx .. | .startAttenCharRx .. 
  | .mnbcSoundRx .. | .mnbcWindowExpiry .. | .attenCharIndTx .. | .attenCharRspRx .. | .slacMatchReqRx .. 
  | .slacMatchCnfTx .. | .evJoin .. | .evLeave .. | .slacTimerExpiry .. | .slacrst .. | .mtimStart .. | .mtimStop .. 
  | .mtimExpiry .. | .rxFrame .. | .t1sQuiet .. | .canSlotTx .. | .canSlotSwap .. | .canTxPush .. | .canRxHeadRemove .. => true
  | _ => false

/-- Commands of the UARTs, with the bus read that takes a character (R366). -/
def isUart : Instr → Bool
  | .readLoShadow .. | .uartRxChar .. | .uartRxPop .. | .uartTxWrite .. => true
  | _ => false

/-- Commands of the optical port (R272). -/
def isOptical : Instr → Bool
  | .optSignon .. | .optBaudAck .. | .optIdleTimeout .. | .optHdlcFrame .. | .dlmsGet .. | .dlmsSet .. | .dlmsAction .. 
  | .optInactivityTimeout .. => true
  | _ => false

/-- Commands of the tack room and the crypto engine, with those that measure, and those whose signatures the engine makes or checks (13, R374, R410). -/
def isKey : Instr → Bool
  | .layoutLoad .. | .bootSequence .. | .fwuExtend .. | .jtagUnlock .. | .keyWrite .. | .keyNarrow .. | .keyErase .. 
  | .keySlotcmdDone .. | .keySweep .. | .jobHash .. | .jobHmac .. | .jobEnc .. | .jobDec .. | .jobSign .. | .jobVerify .. 
  | .jobDerive .. | .jobAgree .. | .jobWrap .. | .jobUnwrap .. | .jobQuote .. | .jobRandom .. | .jobComplete .. 
  | .rngReseed .. | .entropySourceFail .. | .book .. | .timestep .. | .calcommit .. | .safereset .. => true
  | _ => false

/-- Commands of the yard line, with a STOP passed on to it (R354). -/
def isYard : Instr → Bool
  | .layoutLoad .. | .stopRx .. | .yardWindow .. | .yardBeaconRx .. | .yardFrameRx .. | .ylLost .. | .yardPoll .. 
  | .yardMsgPush .. | .yardMsgHeadRemove .. | .bootSequence .. => true
  | _ => false

/-- A machine-mode access of the running cluster to the interrupt controller, whose registers the spec does not give. -/
def hitsController (s : State) : Instr → Bool
  | .writeRegister a _ n m | .readLoShadow a n m => busOn s && m == .machine && regionOf a.toNat (busBytes n) == .intc
  | .w1cClear a _ _ m | .evcntClr a _ m | .writeHiCommit a _ m => busOn s && m == .machine && regionOf a.toNat 4 == .intc
  | _ => false

/-- Both byte memories are in their canonical form: addresses strictly rising, nothing listed that an unlisted address reads as. -/
def MemOk (s : State) : Prop := Mem.wf dramBlank s.mem = true ∧ Mem.wf flashBlank s.flash = true

/-- The block of a register field (R29): its base address ÷ 0x1_0000. -/
abbrev fieldBlock (f : Fld) : Nat := fkey f / 2097152

/-- Fuses only ever move one way from `a` to `b`: no counter falls, no revocation is taken back. -/
def FusesOneWay (a b : FuseState) : Prop :=
  (∀ c : Fin 3, Tab.get 0 a.svcnt c ≤ Tab.get 0 b.svcnt c)
    ∧ (∀ r : Fin 4, (Tab.get ([], 0, true) a.root r).2.2 = true → (Tab.get ([], 0, true) b.root r).2.2 = true)

end Sys2Proof.Machine
end

