-- ==== Sys2Proof/Certificates/Slice0/Obligations.lean ====
section
/-! DEFINITION. What the provers are asked to prove of this model: the statements of its commands, of a step, of reset, of what every
step keeps and of what a command leaves alone. `Does c s P` says that the command c completes in state s, with P of the state it leaves. -/

open Sys2Proof Sys2Proof.Machine

/-- Every duty that completes in its turn, at cycle `fin` of the tempo, records its finish in TMP_PEAK of its slot and sets LATE past its
deadline (R60), and has its effect. FREEZE compares the reported safety outputs and load channels with what was commanded (R10), and a
missing excitation current is a sensor fault (R198); each move holds its evaluation, and an uncorrectable word withholds the tempo's
outputs and demands MATE (R104, R107); COMPARE takes agreeing moves as the tempo's targets, and a mismatch is recorded, makes every target
safe and demands CHECK, or MATE after a mismatch in the tempo before (R105); SEQ evaluates every outlet (R117) and MATRIX the groups of a
cabinet (R143); MXPORT keeps the words it sent and takes the inputs of an exchange whose pattern and test words pass, or withholds the
strobe (R161, R163); SCRUB shows its CRC, and a difference from the reference demands MATE (R107); INTEGRATE hands every increment over
under the edge of its own tempo (R63, R233), and BOOK takes what was handed over. -/
def Obligations.DutiesComplete : Prop :=
  ∀ (s : State) (fin k : Nat), fin < 16384 →
    (∀ so lc exc, dutySlot s 0 fin = some k →
      Does (.freeze fin ⟨so, lc⟩ exc) s (fun t => DutyRan 0 k fin s t
        ∧ (exc = true ∨ rcOn s = false → (∀ x : Fin 4, so.getLsbD x = (sOut s x).prev) → t.saf.sout = s.saf.sout ∧ t.saf.cur = s.saf.cur)
        ∧ (∀ x : Fin 4, s.pwr.vsAbsent = false → so.getLsbD x ≠ (sOut s x).prev → inTestWindow s x = false →
            (sOut t x).latch = true ∧ (sOut t x).act = false ∧ (0x0A, x.val) ∈ t.saf.cur)
        ∧ t.saf.lcDiff = (if lchOn s then lc.toNat ^^^ s.lch.prev else 0)
        ∧ (exc = false → rcOn s = true → rget t F.SAF_RC_SENS = 1)))
    ∧ (∀ ecc flips, dutySlot s 1 fin = some k →
      Does (.moveTrue fin ecc flips) s (fun t => DutyRan 1 k fin s t ∧ t.brd.mv = some (moveEval (moveStart s) false (flipList flips))
        ∧ (ecc = .uncorrectable → t.brd.scrubBad = true ∧ Demands t 0x08 0 true)))
    ∧ (∀ ecc flips, dutySlot s 2 fin = some k →
      Does (.moveComp fin ecc flips) s (fun t => DutyRan 2 k fin s t ∧ t.brd.mvc = some (moveEval s true (flipList flips))
        ∧ (ecc = .uncorrectable → t.brd.scrubBad = true ∧ Demands t 0x08 0 true)))
    ∧ (∀ a b, dutySlot s 3 fin = some k → s.brd.mv = some a → s.brd.mvc = some b → moveDiff a b = none →
      Does (.compare fin) s (fun t => DutyRan 3 k fin s t ∧ t.brd.agreed = some a.map ∧ t.brd.mismatch = s.brd.mismatch))
    ∧ (∀ a b sq el, dutySlot s 3 fin = some k → s.brd.mv = some a → s.brd.mvc = some b → moveDiff a b = some (sq, el) →
      Does (.compare fin) s (fun t => DutyRan 3 k fin s t ∧ t.brd.agreed = some 0 ∧ t.brd.mismatch = true
        ∧ rget t F.BRD_MISMATCH_SQUARE = sq % 64 ∧ rget t F.BRD_MISMATCH_ELEM = el % 32 ∧ rget t F.BRD_FLAGS_MISMATCH = 1
        ∧ Demands t 0x07 sq s.brd.mismatchPrev))
    ∧ (dutySlot s 4 fin = some k → Does (.seq fin) s (fun t => DutyRan 4 k fin s t ∧ t.outs = (seqAll s).outs
        ∧ ∀ n : Fin 4, (∀ m : Fin 4, m ≠ n → oActive s m = false) → SeqDue s n → (outlet s n).reqFrz = 5 → (outlet s n).st = .idle →
            (outlet t n).st = .oos))
    ∧ (dutySlot s 5 fin = some k → Does (.matrix fin) s (fun t => DutyRan 5 k fin s t ∧ t.mtx = (matrixDuty s).mtx
        ∧ (isCabinet s = false → t.mtx = s.mtx)))
    ∧ (∀ rx, dutySlot s 6 fin = some k → mxPattern s rx = true →
      Does (.mxport fin rx) s (fun t => DutyRan 6 k fin s t ∧ t.mtx.doc = mxDoc s ∧ t.mtx.dof = mxDof s
        ∧ t.mtx.serNew = some (mxInputs s rx) ∧ t.mtx.consec = 0
        ∧ (mxReadback s rx = false ∨ mxFaults s rx ≠ 0 → rget t F.MTX_FLAGS_PORTERR = 1 ∧ Demands t 0x0E 0 false)))
    ∧ (∀ rx, dutySlot s 6 fin = some k → mxPattern s rx = false →
      Does (.mxport fin rx) s (fun t => DutyRan 6 k fin s t ∧ t.mtx.doc = mxDoc s ∧ t.mtx.dof = mxDof s ∧ t.mtx.withhold = true
        ∧ t.mtx.serNew = none ∧ rget t F.MTX_FLAGS_PORTERR = 1 ∧ (1 ≤ s.mtx.consec → Demands t 0x0E 0 true)))
    ∧ (∀ ecc upset, dutySlot s 7 fin = some k →
      Does (.scrub fin ecc upset) s (fun t => DutyRan 7 k fin s t
        ∧ rget t F.BRD_CRCLAST_CRC = crc32 (upsetMem (sec s 3) upset) % 4294967296
        ∧ (crc32 (upsetMem (sec s 3) upset) ≠ rget s F.BRD_CRCREF_CRC →
            t.brd.scrubBad = true ∧ rget t F.BRD_FLAGS_CRCERR = 1 ∧ Demands t 0x08 1 true)
        ∧ (ecc = .uncorrectable → t.brd.scrubBad = true ∧ Demands t 0x08 0 true)))
    ∧ (dutySlot s 8 fin = some k → Does (.integrate fin) s (fun t => DutyRan 8 k fin s t ∧ t.mtr.pend = []
        ∧ t.bil.inbox = s.bil.inbox ++ incGroups (s.mtr.pend.filter (fun i => i.edge != nextEdge s))
            ++ [(nextEdge s, s.mtr.pend.filter (fun i => i.edge == nextEdge s))]))
    ∧ (dutySlot s 9 fin = some k → Does (.book fin) s (fun t => DutyRan 9 k fin s t ∧ t.bil = (book s).bil ∧ t.bil.inbox = []))

/-- In a running tempo a timer, counter or comparator of a used square takes, in the move in progress, the value its rule gives from the
state at the tempo's start: a timer with PRESET 0 follows its trigger, an on-delay timer is done only while its trigger is 1 and an off-delay
timer is done as long as it is (R99); TC is 1 where the count has reached PRESET (R100); a comparator whose stream is older than
MAXAGE tempos is stale (R101). -/
def Obligations.BoardEvents : Prop :=
  ∀ (s : State) (k : Fin 64) (m : Move), s.tmp.running = true → bUsed s k = true → s.brd.mv = some m →
    Does (.boardTimerExpiry k false) s (fun t =>
      t.brd.mv = some { m with sq := m.sq.modify k (fun q => { q with t0 := timerNext s k 0x94 q.t0.trig (squareAt s k).t0 }) }
      ∧ ∀ trig, let x := timerNext s k 0x94 trig (squareAt s k).t0
          (bU8 s k 0x94 + 256 * bU8 s k 0x95 + 65536 * bU8 s k 0x96 = 0 → x.done = trig)
          ∧ (bU8 s k 0x98 = 0 → x.done = true → trig = true) ∧ (bU8 s k 0x98 = 1 → trig = true → x.done = true))
    ∧ Does (.boardTimerExpiry k true) s (fun t =>
      t.brd.mv = some { m with sq := m.sq.modify k (fun q => { q with t1 := timerNext s k 0x9C q.t1.trig (squareAt s k).t1 }) }
      ∧ ∀ trig, let x := timerNext s k 0x9C trig (squareAt s k).t1
          (bU8 s k 0x9C + 256 * bU8 s k 0x9D + 65536 * bU8 s k 0x9E = 0 → x.done = trig)
          ∧ (bU8 s k 0xA0 = 0 → x.done = true → trig = true) ∧ (bU8 s k 0xA0 = 1 → trig = true → x.done = true))
    ∧ Does (.boardCounterTerminal k) s (fun t => t.brd.mv =
      some { m with sq := m.sq.modify k (fun q => { q with tc := decide (bU16 s k 0xA4 ≤ q.cnt) }) })
    ∧ Does (.comparatorStale k) s (fun t => t.brd.mv =
      some { m with sq := m.sq.modify k (fun q =>
        { q with cin := (cmpNext s k (squareAt s k)).1, cabove := (cmpNext s k (squareAt s k)).2.1,
                 cstale := (cmpNext s k (squareAt s k)).2.2 }) }
      ∧ (∀ u, (Tab.get Stream.reset s.fz.strm (bU8 s k 0xAC % 64)).stamp = some u → bU16 s k 0xB8 < s.tmp.now - (u + 1) →
          cmpNext s k (squareAt s k) = (false, true, true)))

/-- A write handles each field of a register by its access type: RW takes the value, RWL takes it until the seal is set and is
kept afterwards, a 1 clears a W1C flag and a 0 leaves it, a 1 sets a W1S field, and RO and RSV fields discard the write (R31,
R33). -/
def Obligations.AccessTypesAtAWrite : Prop :=
  ∀ (a v : Nat) (s : State) (f : FldRow),
    (f.acc = .rw → rget (fieldWrite a v s f) (f.at a) = field v f.lo f.width % 2 ^ f.width)
    ∧ (f.acc = .rwl → isSealed s = false → rget (fieldWrite a v s f) (f.at a) = field v f.lo f.width % 2 ^ f.width)
    ∧ (f.acc = .rwl → isSealed s = true → fieldWrite a v s f = s)
    ∧ (f.acc = .w1c → f.width = 1 → v.testBit f.lo = true → rget s (f.at a) < 2 →
        rget (fieldWrite a v s f) (f.at a) = 0)
    ∧ (f.acc = .w1c → f.width = 1 → v.testBit f.lo = false → rget s (f.at a) < 2 →
        rget (fieldWrite a v s f) (f.at a) = rget s (f.at a))
    ∧ (f.acc = .w1s → f.width = 1 → v.testBit f.lo = true → rget (fieldWrite a v s f) (f.at a) = 1)
    ∧ (f.acc = .ro → fieldWrite a v s f = s)

/-- The seal: a machine-mode write of 1 sets it, and where it is still clear the first write of RST_BOOTOK does, with BYBOOTOK (R34). Once it
is set, a write of a register with an RWL field answers an error and sets SYS_STATUS.LOCKVIO, each RWL field keeps its value, and an
RW field of the same register takes its own (R33). -/
def Obligations.SealLocksRegisters : Prop :=
  ∀ s : State,
    (busOn s = true → Does (.seal .machine) s (fun t => t.resp = ⟨false, 0⟩ ∧ rget t F.SYS_SEAL_SEAL = 1
        ∧ rget t F.SYS_SEAL_BYBOOTOK = rget s F.SYS_SEAL_BYBOOTOK))
    ∧ (∀ m : BusMode, busOn s = true → m ≠ .machine → Does (.seal m) s (fun t => t.resp.err = true
        ∧ rget t F.SYS_SEAL_SEAL = rget s F.SYS_SEAL_SEAL))
    ∧ (s.pwr.appOn = true → s.pwr.boot = .running → s.pwr.bootOk = false → rbit s F.SYS_SEAL_SEAL = false →
        Does .bootok s (fun t => rget t F.SYS_SEAL_SEAL = 1 ∧ rget t F.SYS_SEAL_BYBOOTOK = 1))
    ∧ (∀ (addr : BitVec 36) (v : BitVec 64) (m : BusMode), busOn s = true → regionOf addr.toNat 4 = .reg →
        regDenied true addr.toNat 4 m s = none → lockHit addr.toNat s = true →
        Does (.writeRegister addr v .b4 m) s (fun t => t.resp.err = true ∧ rget t F.SYS_STATUS_LOCKVIO = 1
          ∧ (∀ f ∈ (regFields addr.toNat).getD [],
              (f.acc = .rwl → rget t (f.at addr.toNat) = rget s (f.at addr.toNat))
              ∧ (f.acc = .rw → rget t (f.at addr.toNat) = field v.toNat f.lo f.width % 2 ^ f.width))))

/-- The application cluster's bus: stores and loads of SRAM and DRAM at every address; a write of a register without a function of its own,
field by field (R31); LO read into the shadow and HI read from it, for every 64-bit value (R51); LO written to wait and HI written to take
effect with it (R52); a write of 1 to SYS_SEAL.SEAL (R34); a W1C flag of every flag register, cleared by a 1, kept by a 0, and still set where
hardware sets it in the same cycle, as an NMI cause is too (R31, R38, R49); and CLR of every counter, with and without an event in the same
cycle (R41, R45). -/
def Obligations.BusCommands : Prop :=
  ∀ (s : State) (addr : BitVec 36) (m : Sys2Proof.BusMode), busOn s = true →
    (∀ v size, regionOf addr.toNat (busBytes size) = .sram ∨ (regionOf addr.toNat (busBytes size) = .dram ∧ dramOn s = true) →
      Does (.writeRegister addr v size m) s (fun t => t.resp = ⟨false, 0⟩
        ∧ t.mem = Mem.write dramBlank s.mem addr.toNat (leBytes (busBytes size) v.toNat)))
    ∧ (∀ size, regionOf addr.toNat (busBytes size) = .sram ∨ (regionOf addr.toNat (busBytes size) = .dram ∧ dramOn s = true) →
      Does (.readLoShadow addr size m) s (fun t => t.mem = s.mem
        ∧ t.resp = ⟨false, leVal (Mem.read dramBlank s.mem addr.toNat (busBytes size))⟩))
    ∧ (∀ v : BitVec 64, PlainWrite s addr.toNat (v.toNat % 4294967296) m → hasClr ((regFields addr.toNat).getD []) = false →
      Does (.writeRegister addr v .b4 m) s (fun t => t.resp = ⟨false, 0⟩ ∧ ∀ f ∈ (regFields addr.toNat).getD [],
        (f.acc = .rw ∨ f.acc = .rwl → rget t (f.at addr.toNat) = field (v.toNat % 4294967296) f.lo f.width % 2 ^ f.width)
        ∧ (f.acc = .ro → rget t (f.at addr.toNat) = rget s (f.at addr.toNat))))
    ∧ (regionOf addr.toNat 4 = .reg → regDenied false addr.toNat 4 m s = none → isLo addr.toNat = true →
      Does (.readLoShadow addr .b4 m) s (fun t => t.resp = ⟨false, regShow s addr.toNat⟩
        ∧ Tbl.get t.shadow (addr.toNat + 4) 0 = regShow s (addr.toNat + 4)))
    ∧ (regionOf addr.toNat 4 = .reg → regDenied false addr.toNat 4 m s = none → isLo (addr.toNat - 4) = true →
      isLo addr.toNat = false → Does (.readLoShadow addr .b4 m) s (fun t => t.resp = ⟨false, Tbl.get s.shadow addr.toNat 0⟩))
    ∧ (∀ v : BitVec 64, regionOf addr.toNat 4 = .reg → regDenied true addr.toNat 4 m s = none → isWideLo addr.toNat = true →
      lockHit addr.toNat s = false → Does (.writeRegister addr v .b4 m) s (fun t =>
        t.regs = s.regs ∧ Tbl.get t.stage addr.toNat 0 = v.toNat % 4294967296))
    ∧ (∀ v, Does (.writeHiCommit 0x10020030 v .machine) s (fun t => t.resp = ⟨false, 0⟩
        ∧ rget t F.PWR_RESUMELO_ADDR = Tbl.get s.stage 0x1002002C 0 % 4294967296 ∧ rget t F.PWR_RESUMEHI_ADDR = v.toNat))
    ∧ (∀ v, regionOf addr.toNat 4 = .reg → regDenied true addr.toNat 4 m s = none → isWideLo (addr.toNat - 4) = true →
      isWideLo addr.toNat = false → lockHit addr.toNat s = false → addr ≠ 0x100C001C →
      Does (.writeHiCommit addr v m) s (fun t => t.resp = ⟨false, 0⟩
        ∧ t.regs = (plainWrite addr.toNat v.toNat (plainWrite (addr.toNat - 4) (Tbl.get s.stage (addr.toNat - 4) 0) s)).regs))
    ∧ Does (.seal .machine) s (fun t => t.resp = ⟨false, 0⟩ ∧ rget t F.SYS_SEAL_SEAL = 1)
    ∧ (∀ mask hw f, PlainWrite s addr.toNat mask.toNat m → hasClr ((regFields addr.toNat).getD []) = false →
      flagGroups.any (fun g => g.flags == addr.toNat) = true → f ∈ (regFields addr.toNat).getD [] → f.acc = .w1c → f.width = 1 →
      Does (.w1cClear addr mask hw m) s (fun t =>
        (hw.toNat.testBit f.lo = true → rget t (f.at addr.toNat) = 1)
        ∧ (hw.toNat.testBit f.lo = false → mask.toNat.testBit f.lo = true → rget t (f.at addr.toNat) = 0)
        ∧ (hw.toNat.testBit f.lo = false → mask.toNat.testBit f.lo = false → rget s (f.at addr.toNat) < 2 →
            rget t (f.at addr.toNat) = rget s (f.at addr.toNat))))
    ∧ (∀ mask : Word, mask.toNat.testBit F.SYS_NMICAUSE_PFW.lo = true →
      Does (.w1cClear 0x10000030 mask (BitVec.ofNat 32 (2 ^ F.SYS_NMICAUSE_PFW.lo)) .machine) s (fun t =>
        rget t F.SYS_NMICAUSE_PFW = 1 ∧ t.pwr.nmi = s.pwr.nmi + 1))
    ∧ (PlainWrite s addr.toNat 0x80000000 m → hasClr ((regFields addr.toNat).getD []) = true →
      Does (.evcntClr addr false m) s (fun t => rget t ⟨addr.toNat, 0, 16, 0⟩ = 0)
      ∧ Does (.evcntClr addr true m) s (fun t => rget t ⟨addr.toNat, 0, 16, 0⟩ = 1))

/-- The register bus between the dies: a transfer with a good CRC, at first or repeated, delivers every value of a stream that the
analog-power die measures, 0 for the current of a load channel that is off, and one that fails twice in a tempo is the condition DIELINK, to CHECK, or to MATE in the second tempo in a row
(R9). The persist channel carries one record at a time: its contents go to the older copy, and the commit writes its CRC, so that the copy
stands whole in the FRAM; a committed proof is in force (R11, R187, R280). -/
def Obligations.DieLinkAndPersistChannel : Prop :=
  ∀ (s : State),
    (∀ ok1 ok2 vals, s.tmp.running = true → (ok1 || ok2) = true → (vals.map (·.1)).Nodup →
      Does (.interdieTransfer ok1 ok2 vals) s (fun t => ∀ x ∈ vals, apStream x.1 = true →
        Tab.get Stream.reset t.strm x.1 = ⟨if inRange 36 52 x.1 && !(lchan s (x.1 - 36)).on then 0 else x.2, some s.tmp.now⟩))
    ∧ (∀ vals, s.tmp.running = true → Does (.interdieTransfer false false vals) s (fun t =>
        Demands t 0x09 0 (s.saf.prev.contains (0x09, 0)) ∧ t.strm = s.strm))
    ∧ (∀ b rest, s.persist = none → s.saf.outbox = .proof b :: rest →
      Does .persistRequest s (fun t => t.persist = some (.proof b, olderProofSlot s) ∧ t.saf.outbox = rest
        ∧ Tab.get [] t.fram.proof (olderProofSlot s) = unCommitted b (Tab.get [] s.fram.proof (olderProofSlot s))))
    ∧ (∀ b rest, s.persist = none → s.saf.outbox = .wear b :: rest →
      Does .persistRequest s (fun t => t.persist = some (.wear b, olderWearSlot s) ∧ t.saf.outbox = rest
        ∧ Tab.get [] t.fram.wear (olderWearSlot s) = unCommitted b (Tab.get [] s.fram.wear (olderWearSlot s))))
    ∧ (∀ b k, k < 2 → s.persist = some (.wear b, k) →
      Does .persistCommitAck s (fun t => t.persist = none ∧ Tab.get [] t.fram.wear k = b))
    ∧ (∀ b k, k < 2 → s.persist = some (.proof b, k) →
      Does .persistCommitAck s (fun t => t.persist = none ∧ Tab.get [] t.fram.proof k = b ∧ t.saf.proofSeq = u32 b 4
        ∧ t.saf.proofTime = u64 b 8 ∧ t.saf.proofDig = some (slice b 0x10 32) ∧ rget t F.SAF_FLAGS_GUARDPROOF = 1))

/-- The time of the chain. The first edge after a layout load begins a tempo and freezes its inputs (R55); every other edge advances chain
time by TMP_INCR × n ÷ 10,000 with the fraction carried (R67), and duties it aborts are an overrun (R61). A TIME frame from LU, read with
the link delay of R332: the first gives the module its chain time (R73), a later one its phase error, LOCKED within ±3 ns and the slew
or the wait for idle outlets after HOLDOVER (R71, R77, R78), and every one goes on at LD with its correction, its FCS inverted where its
own has failed (R332, R337). DREQ and its reception (R332); a lost SYNC puts the module in HOLDOVER (R75), and a step back to SYNC time waits
until the outlets are idle (R78). The coordinator's time source is lost or back (R69), and the PPS and the firmware's PTP offset trim
TMP_INCR within ±100 ppm (R68, R365; how the offset becomes a trim is the model's choice, log entry 31). -/
def Obligations.ChainTimeCommands : Prop :=
  ∀ (s : State),
    (∀ u, s.tmp.running = true → s.tmp.begun = false → Does (.tempoEdge u) s (fun t => t.tmp.begun = true ∧ t.fz.strm = s.strm))
    ∧ (∀ u, s.tmp.running = true → s.tmp.begun = true → s.pwr.entry = .none → Does (.tempoEdge u) s (fun t =>
        t.tmp.now = s.tmp.now + 1 ∧ t.tmp.ran = []
        ∧ (s.tmp.stepTo = none → t.tmp.chain = (s.tmp.chain + (s.tmp.frac + tempoSpan s) / 655360000) % 2 ^ 64
            ∧ t.tmp.frac = (s.tmp.frac + tempoSpan s) % 655360000)
        ∧ (abortedSlots s ≠ [] → rget t F.TMP_FLAGS_OVERRUN = 1)))
    ∧ (∀ rx ns res, portOn s .lu = true → leadFault rx = 0 → hTyp rx.bytes = tySync → u8 rx.bytes 8 = 0 → isCoord s = false →
        let b := fBody rx.bytes
        let d := linkDelay s b (chainAt s ns)
        let e := phaseError b d.1 (chainAt s ns)
        Does (.syncTimeRx .lu rx ns res) s (fun t => t.tmp.gotTime = true ∧ t.tmp.missed = 0
          ∧ (portOn s .ld = true → t.lea.ldCut = some (rx.bytes.take 8 ++ timeForward s b d.1 (chainAt s ns) res))
          ∧ (s.tmp.adopted = false → t.tmp.adopted = true ∧ t.tmp.mode = .slew ∧ rget t F.TMP_FLAGS_STEP = 1
              ∧ t.tmp.chain = u64 b 4 + 50000 * ((corrNs b + d.1).toNat / 50000))
          ∧ (s.tmp.adopted = true → rget t F.TMP_PHERR_ERR = ofSigned 32 e % 2 ^ 32 ∧ t.tmp.chain = s.tmp.chain)
          ∧ (s.tmp.adopted = true → s.tmp.mode = .slew → e.natAbs ≤ 3 → (s.tmp.measured || d.2) = true → t.tmp.mode = .locked)
          ∧ (s.tmp.adopted = true → s.tmp.mode = .holdover → rbit s F.CLK_REFSEL_SEL = false →
              (e.natAbs ≤ 25000 → t.tmp.mode = .slew) ∧ (25000 < e.natAbs → t.tmp.mode = .holdover ∧ t.tmp.stepTo = some e))))
    ∧ (∀ rx ns res, portOn s .lu = true → portOn s .ld = true → onlyFcsBad rx = true → hTyp rx.bytes = tySync → u8 rx.bytes 8 = 0 →
        isCoord s = false → rget s F.LEA_BADFRM_COUNT < 65535 →
        let b := fBody rx.bytes
        let f := rx.bytes.take 8 ++ timeForward s b (linkDelay s b (chainAt s ns)).1 (chainAt s ns) res
        Does (.syncTimeRx .lu rx ns res) s (fun t => t.tmp = s.tmp ∧ t.lea.ldCut = some f ∧ t.lea.ldFcs = leadFcs false f s
          ∧ rget t F.LEA_BADFRM_COUNT = rget s F.LEA_BADFRM_COUNT + 1))
    ∧ (∀ ns, s.tmp.running = true → isCoord s = false → crossesAt s 1000000000 500000000 = true → portOn s .lu = true → dreqDone s = false →
        Does (.dreqSend ns) s (fun t => t.tmp.dreqSeq = (s.tmp.dreqSeq + 1) % 65536 ∧ t.tmp.dreqT1 = s.tmp.chain + ns
          ∧ t.lea.luCut.isSome = true))
    ∧ (∀ rx ns, portOn s .ld = true → leadFault rx = 0 → hTyp rx.bytes = tySync → u8 rx.bytes 8 = 1 →
        Does (.dreqRx .ld rx ns) s (fun t => t.tmp.ldDreqSeq = u16 (fBody rx.bytes) 0x24 ∧ t.tmp.ldDreqAt = s.tmp.chain + ns))
    ∧ (∀ recLost, s.tmp.mode = .locked ∨ s.tmp.mode = .slew → recLost = true ∨ 8 ≤ s.tmp.missed →
        Does (.syncLoss recLost) s (fun t => t.tmp.mode = .holdover ∧ rget t F.TMP_FLAGS_SYNCLOSS = 1))
    ∧ (∀ e, s.tmp.stepTo = some e → s.tmp.mode = .holdover → outletsIdle s = true →
        Does .stepToSync s (fun t => t.tmp.stepDue = true))
    ∧ (∀ absent, isCoord s = true → Does (.timeSourceLost absent) s (fun t => rget t F.TMP_STATUS_SRCLOST = b2n absent
        ∧ rget t F.TMP_INCR_INCR = rget s F.TMP_INCR_INCR))
    ∧ (∀ ns, isCoord s = true → timeSrc s = 1 → Does (.ppsEdge ns) s (fun t => rget t F.TMP_STATUS_SRCLOST = 0
        ∧ rget t F.TMP_INCR_INCR = (clampI 0xC34B0000 0xC3550000 ((0xC3500000 : Int) - ns * 65536 / 20000)).toNat % 2 ^ 32))
    ∧ (∀ ofs, isCoord s = true → 2 ≤ timeSrc s → Does (.ptpOffsetWrite ofs) s (fun t => t.tmp.ptpAt = some s.tmp.now
        ∧ rget t F.TMP_STATUS_SRCLOST = 0
        ∧ rget t F.TMP_INCR_INCR = (clampI 0xC34B0000 0xC3550000 ((0xC3500000 : Int) - ofs * 65536 / 20000)).toNat % 2 ^ 32))
    ∧ (∀ at', isCoord s = true → 2 ≤ timeSrc s → s.tmp.ptpAt = some at' → 160000 ≤ sinceT s at' →
        Does .ptpOffsetTimeout s (fun t => rget t F.TMP_STATUS_SRCLOST = 1))

/-- LAYOUT_LOAD, while the boot ROM runs and before the failed starts reach their threshold: with a legal image and a layout (a
slot's, or the factory default) the layout is loaded (R91). -/
def Obligations.LayoutLoadLoads : Prop :=
  ∀ (s : State) (a : Nat) (k : Option Nat), s.pwr.boot = .rom → s.loaded = false → s.pwr.failCnt < rget s F.RST_FAILCNT_THR →
    (bootLegal (trialStart (measStart s))).1 = some a → (bootLayout (bootLegal (trialStart (measStart s))).2).1 = some k →
    Does .layoutLoad s (fun t => t.loaded = true)

/-- The detectors that fire the shutdown line take the module to MATE at once with every coil drive off: lockstep, a double-bit
error of the safety SRAM on a read or in the scrub, ROM parity, the tempo watchdog and a supply rail (R165, R172). -/
def Obligations.ShutdownLineLatchesMate : Prop :=
  ∀ (s : State),
    Does .lockstepFault s (fun t => t.saf.st = .mate ∧ t.saf.held = true ∧ ∀ c : Fin 64, (coil t c).drive = false)
    ∧ Does (.safeSramError true) s (fun t => t.saf.st = .mate ∧ t.saf.held = true ∧ ∀ c : Fin 64, (coil t c).drive = false)
    ∧ (∀ single, Does (.safeSramScrub single true) s (fun t =>
        t.saf.st = .mate ∧ t.saf.held = true ∧ ∀ c : Fin 64, (coil t c).drive = false))
    ∧ Does .safeRomParity s (fun t => t.saf.st = .mate ∧ t.saf.held = true ∧ ∀ c : Fin 64, (coil t c).drive = false)
    ∧ (∀ ns, s.saf.hold = false → ns < 45000 ∨ 60000 < ns → Does (.tempoWd ns) s (fun t =>
        t.saf.st = .mate ∧ t.saf.held = true ∧ ∀ c : Fin 64, (coil t c).drive = false))
    ∧ (∀ rail, Does (.supplyFault rail false) s (fun t =>
        t.saf.st = .mate ∧ t.saf.held = true ∧ (∀ c : Fin 64, (coil t c).drive = false) ∧ rail.toNat ∈ t.saf.railsBad))

/-- What the other detectors leave: a corrected SRAM error sets SRAMCOR, a rail back in its window is no condition, a die
temperature is written to its stream and demands CHECK at 130 °C and MATE at 135 °C, disagreeing sensors demand CHECK, a coil that
does not confirm open in CHECK demands MATE, and the self-test decides a waiting token (R169, R172, R201). -/
def Obligations.SafetyConditions : Prop :=
  ∀ (s : State),
    Does (.safeSramError false) s (fun t => rget t F.SAF_FLAGS_SRAMCOR = 1 ∧ t.saf.st = s.saf.st)
    ∧ Does (.safeSramScrub true false) s (fun t => rget t F.SAF_FLAGS_SRAMCOR = 1 ∧ t.saf.st = s.saf.st)
    ∧ (∀ rail, Does (.supplyFault rail true) s (fun t => rail.toNat ∉ t.saf.railsBad ∧ t.saf.st = s.saf.st))
    ∧ (∀ (d : Fin 2) v, 13500 ≤ v → Does (.dieTempSample d v) s (fun t =>
        (Tab.get Stream.reset t.strm (56 + d)).val = v ∧ (0x11, d.val) ∈ t.saf.cur ∧ t.saf.toMate.isSome = true))
    ∧ (∀ (d : Fin 2) v, 13000 ≤ v → v < 13500 → Does (.dieTempSample d v) s (fun t =>
        (Tab.get Stream.reset t.strm (56 + d)).val = v ∧ (0x11, d.val) ∈ t.saf.cur ∧ t.saf.toCheck.isSome = true))
    ∧ (∀ (d : Fin 2) diff ms, 800 < diff → 10 ≤ ms → Does (.tempsense d diff ms) s (fun t =>
        (0x12, d.val) ∈ t.saf.cur ∧ t.saf.toCheck.isSome = true))
    ∧ (∀ (c : Fin 64) t0, (coil s c).checkOpen = some t0 → fbIn s (mCoilFb s c) = true → s.saf.st = .check →
        2000 + mSettle s c < sinceT s t0 → Does (.checkTimeout c) s (fun t =>
          (0x15, c.val) ∈ t.saf.cur ∧ t.saf.toMate.isSome = true))
    ∧ (∀ a, s.saf.tokenWait = some a → leaveMateConditions s = true → Does (.safebistComplete true) s (fun t =>
        t.saf.bistOk = true ∧ t.saf.ack = some (false, a) ∧ t.saf.tokenWait = none))
    ∧ (s.saf.tokenWait = none → s.loaded = true → s.saf.st = .mate → s.saf.held = false →
        Does (.safebistComplete true) s (fun t => t.saf.bistOk = true ∧ t.saf.toRun = true))
    ∧ Does (.safebistComplete false) s (fun t => t.saf.bistOk = false ∧ t.saf.toMate.isSome = true)

/-- Safety inputs and test pulses. A state held for FILTER µs on both comparators is accepted, and comparators that disagree for more than
20 µs make the input read 0 until they have agreed for 1 ms (R176). A pulse of TPk starts at its place in the period, where the land goes
low for TP_PW, and every input it feeds keeps the state it had (R177, R178); at its end the land is high again and each such input that
had accepted 1 is tested: a passed test counts, the second in a row gives TESTOK 1, and a failed one clears TESTOK and sets TPFAIL (R179). -/
def Obligations.SafetyInputCommands : Prop :=
  ∀ (s : State) (i : Fin 24),
    (∀ a b us, sInUsed s i = true → inputLevel (sInType3 s i) (sIn s i).acc a = inputLevel (sInType3 s i) (sIn s i).acc b →
      sInFilter s i ≤ us → Does (.safetyInputAccept i a b us) s (fun t => (sIn t i).acc = inputLevel (sInType3 s i) (sIn s i).acc a))
    ∧ (∀ a b us, sInUsed s i = false ∨ inputLevel (sInType3 s i) (sIn s i).acc a ≠ inputLevel (sInType3 s i) (sIn s i).acc b
        ∨ us < sInFilter s i → Does (.safetyInputAccept i a b us) s (fun t => t = s))
    ∧ (∀ us, sInUsed s i = true → 20 < us → Does (.inputDiscrepancy i us) s (fun t =>
        (sIn t i).disc = true ∧ (frozenInputs t).testBit i = false ∧ rget t F.SIO_FLAGS_INDIS = 1))
    ∧ (∀ us, 1000 ≤ us → Does (.inputAgreementRestored i us) s (fun t => (sIn t i).disc = false ∧ (sIn t i).acc = (sIn s i).acc
        ∧ (sInUsed s i = true → (sIn s i).kept = none → (frozenInputs t).testBit i = (sIn s i).acc)))
    ∧ (∀ k : Fin 8, s.tmp.running = true → s.pwr.vsAbsent = false → crossesAt s (sTpPeriod s) (k * sTpPeriod s / 8) = true →
        Does (.testPulse k) s (fun t => Tab.get none t.saf.tpLow k = some (sTpPw s) ∧ tpHigh t k = false
          ∧ (sInUsed s i = true → sInSrc s i = k.val → (sIn t i).kept = some (sIn s i).acc)))
    ∧ (∀ (k : Fin 8) low back, Does (.testPulseCheck k low back) s (fun t =>
        Tab.get none t.saf.tpLow k = none
        ∧ (sInUsed s i = true → sInSrc s i = k.val → (sIn s i).kept = some true → low.getLsbD i = true → back.getLsbD i = true →
            (sIn t i).kept = none ∧ (sIn t i).passes = min 2 ((sIn s i).passes + 1) ∧ (1 ≤ (sIn s i).passes → (sIn t i).testOk = true))
        ∧ (sInUsed s i = true → sInSrc s i = k.val → (sIn s i).kept = some true → low.getLsbD i = false ∨ back.getLsbD i = false →
            (sIn t i).testOk = false ∧ (sIn t i).passes = 0 ∧ rget t F.SIO_FLAGS_TPFAIL = 1)
        ∧ (sInUsed s i = true → sInSrc s i = k.val → (sIn s i).kept = some false →
            (sIn t i).testOk = (sIn s i).testOk ∧ (sIn t i).passes = (sIn s i).passes)))

/-- Safety outputs and the guard: an output above 0.75 A for 10 µs goes off with SOOC (R182); a dark test that fails latches the
output off with SOFAULT and the cause SO_TEST (R183, R184); guard inputs equal for longer than GUARD_DISC make the pair
DISCREPANT (R185); GUARD_OK falls when the high-water mark passes the proof's expiry, and DUE sets before it (R188, R189). -/
def Obligations.SafetyOutputAndGuardCommands : Prop :=
  ∀ (s : State),
    (∀ (x : Fin 4) ma us, (sOut s x).act = true → s.pwr.vsAbsent = false → 750 < ma → 10 ≤ us →
      Does (.soOvercurrent x ma us) s (fun t => (sOut t x).act = false ∧ (sOut t x).oc = true ∧ rget t F.SIO_FLAGS_SOOC = 1))
    ∧ (∀ (x : Fin 4) side mv vs, darkDue s x side = true → darkPass side mv vs = true →
        Does (.darkTest x side mv vs) s (fun t => (sOut t x).act = (sOut s x).act ∧ (sOut t x).latch = (sOut s x).latch
          ∧ t.saf.cur = s.saf.cur))
    ∧ (∀ (x : Fin 4) side mv vs, darkDue s x side = true → darkPass side mv vs = false →
        Does (.darkTest x side mv vs) s (fun t => (sOut t x).act = false ∧ (sOut t x).latch = true
          ∧ (0x0B, x.val) ∈ t.saf.cur ∧ rget t F.SIO_FLAGS_SOFAULT = 1))
    ∧ (∀ at', s.loaded = true → s.fz.si.testBit (sGuardA s) = s.fz.si.testBit (sGuardB s) → s.saf.eqSince = some at' →
        sGuardDisc s < sinceT s at' → s.saf.pair ≠ .discrepant →
        Does .guardDiscrepant s (fun t => t.saf.pair = .discrepant ∧ rget t F.SIO_FLAGS_GUARDDISC = 1))
    ∧ (s.saf.guardOk = true → s.saf.proofTime + sProofDays s * dayNs ≤ s.bil.dyn.hwm →
        Does .guardProofExpiry s (fun t => t.saf.guardOk = false ∧ rget t F.SAF_FLAGS_GUARDLOST = 1))
    ∧ (s.loaded = true → s.saf.due = false → s.saf.proofTime + (sProofDays s - sDueDays s) * dayNs ≤ s.bil.dyn.hwm →
        Does .guardDue s (fun t => t.saf.due = true ∧ rget t F.SAF_FLAGS_GUARDDUE = 1))

/-- The insulation monitor and the residual-current tiers. A cycle starts at a chain-time second with phase P (R190); the fit sets TAU and the
dwell of the next phase of its kind, and EXTRAP where 5τ exceeds the dwell it was fitted in (R191); the end of phase P takes U+ from MISO and
opens BRP for BRN, and that of phase N gives the result of R192 or an invalid one, cut short 20 ms before the second where its dwell would
pass it (R190, R191, R192). A tier whose time runs out with the average still at its threshold trips, and ISO_OK falls at an outlet with KP
closed (R195, R196). The fluxgate's test of an outlet passes at 8 to 12 mA on stream 52 after 100 ms with the excitation current in its window, and is a
sensor fault otherwise (R198). A final value that is extrapolated is the one the frozen sample is settling to (log entry 178). -/
def Obligations.IsolationAndResidualCommands : Prop :=
  ∀ (s : State) (n : Fin 4),
    ((isoMon s n).run = true → (isoMon s n).phase = .idle → crossesAt s 1000000000 0 = true →
      Does (.isoCycleStart n) s (fun t => (isoMon t n).phase = .p ∧ (isoMon t n).confAt = none))
    ∧ (∀ t0 tau, (isoMon s n).phase = .p → (isoMon s n).confAt = some t0 → 400 ≤ sinceT s t0 →
        Does (.isoTauFit n tau) s (fun t => (isoMon t n).nextP = isoDwell tau ∧ (isoMon t n).nextN = (isoMon s n).nextN
          ∧ (isoMon t n).phx = decide (1000 * (isoMon s n).dwellP < 5 * tau) ∧ rget t (F.SAF_ISO_TAU n) = min 0xFF (tau / 2000)))
    ∧ (∀ t0 tau, (isoMon s n).phase = .n → (isoMon s n).confAt = some t0 → 400 ≤ sinceT s t0 →
        Does (.isoTauFit n tau) s (fun t => (isoMon t n).nextN = isoDwell tau ∧ (isoMon t n).nextP = (isoMon s n).nextP
          ∧ (isoMon t n).phx = decide (1000 * (isoMon s n).dwellN < 5 * tau) ∧ rget t (F.SAF_ISO_TAU n) = min 0xFF (tau / 2000)))
    ∧ (∀ t0 start (decay : Nat), (isoMon s n).phase = .p → (isoMon s n).confAt = some t0 → 20 * (isoMon s n).dwellP ≤ sinceT s t0 →
        let ext := (4294967296 * fzVal s (sIsoMiso s n) - (decay : Int) * start) / (4294967296 - (decay : Int))
        Does (.isoPhasePEnd n start decay) s (fun t => (isoMon t n).phase = .n ∧ (isoMon t n).confAt = none
          ∧ (isoMon t n).pPos = (if (isoMon s n).phx then ext else fzVal s (sIsoMiso s n))
          ∧ (isoMon t n).pNeg = oVmv s n - (isoMon t n).pPos ∧ (isoMon t n).dwellP = (isoMon s n).nextP
          ∧ (oCoil s n 2 < 64 → oCoil s n 2 ≠ oCoil s n 3 → (coil t (oCoil s n 2)).cmd = false)))
    ∧ (∀ t0 start (decay : Nat), (isoMon s n).phase = .n → (isoMon s n).confAt = some t0 → 20 * (isoMon s n).dwellN ≤ sinceT s t0 →
        (isoMon s n).bad = false → 50000 ≤ oVmv s n →
        let ext := (4294967296 * fzVal s (sIsoMiso s n) - (decay : Int) * start) / (4294967296 - (decay : Int))
        let u := if (isoMon s n).phx then ext else fzVal s (sIsoMiso s n)
        Does (.isoPhaseNEnd n start decay) s (fun t => (isoMon t n).phase = .idle ∧ (isoMon t n).dwellN = (isoMon s n).nextN
          ∧ (isoMon t n).result = some (isoOhmv (isoMon s n).pPos (isoMon s n).pNeg u (oVmv s n - u) (sIsoRb s n) (sIsoRm s n)
              (oVrated s n))))
    ∧ (∀ t0 start (decay : Nat), (isoMon s n).phase = .n → (isoMon s n).confAt = some t0 → sinceT s t0 < 20 * (isoMon s n).dwellN →
        toSecond s ≤ 400 → 400 ≤ sinceT s t0 → (isoMon s n).bad = false → 50000 ≤ oVmv s n →
        let ext := (4294967296 * fzVal s (sIsoMiso s n) - (decay : Int) * start) / (4294967296 - (decay : Int))
        Does (.isoPhaseNEnd n start decay) s (fun t => (isoMon t n).phase = .idle ∧ (isoMon t n).extrap = true
          ∧ (isoMon t n).result = some (isoOhmv (isoMon s n).pPos (isoMon s n).pNeg ext (oVmv s n - ext) (sIsoRb s n) (sIsoRm s n)
              (oVrated s n))))
    ∧ (∀ start decay, (isoMon s n).phase = .n → toSecond s ≤ 400 → (isoMon s n).bad = true ∨ oVmv s n < 50000 ∨ (isoMon s n).confAt = none →
        Does (.isoPhaseNEnd n start decay) s (fun t => (isoMon t n).phase = .idle ∧ (isoMon t n).result = some none))
    ∧ (∀ (k : Fin 3) t0, Tab.get none s.saf.rcUp k = some t0 → rcTime k ≤ sinceT s t0 → rcThreshold k ≤ s.saf.rcAvg →
        sRcAny s = true → rbit s F.SAF_RC_TRIP = false →
        Does (.rcTrip k) s (fun t => rget t F.SAF_RC_TRIP = 1 ∧ rget t F.SAF_FLAGS_RCTRIP = 1
          ∧ (oActive s n = true → sRcMask s n = true → oCoil s n 0 < 64 → (coil s (oCoil s n 0)).cmd = true →
              (∀ m : Fin 4, m ≠ n → oCoil s m 0 ≠ oCoil s n 0) → (outlet t n).isoOk = false)))
    ∧ (∀ t0, Tab.get none s.saf.fgt n = some t0 → 2000 ≤ sinceT s t0 → 8000 ≤ fzVal s 52 → fzVal s 52 ≤ 12000 →
        Does (.fluxgateTest n true) s (fun t => (outlet t n).rcTested = true ∧ Tab.get none t.saf.fgt n = none
          ∧ rget t F.SAF_RC_SENS = rget s F.SAF_RC_SENS))
    ∧ (∀ t0 exc, Tab.get none s.saf.fgt n = some t0 → 2000 ≤ sinceT s t0 → exc = false ∨ fzVal s 52 < 8000 ∨ 12000 < fzVal s 52 →
        Does (.fluxgateTest n exc) s (fun t => rget t F.SAF_RC_SENS = 1 ∧ rget t F.SAF_FLAGS_RCSENS = 1
          ∧ Tab.get none t.saf.fgt n = none))

/-- The SAF mailbox (R204): a write queues the command with its payload, and one with a LEN above 128 or a full queue is refused; at its
turn the safety controller executes the command and gives its result, BADARG where LEN is not the table's. FLAGCLR clears the W1C flags
of a register by a mask, and the COUNT of a counter (R32, R41); IENSET writes an enable register (R79); WEARRST clears a coil's wear (R164);
CHECKACK is taken where its conditions hold and rejected with COND otherwise (R170). SAFERESET within 10 s of the attempt before it is RATE
and no attempt; any other is an attempt that replaces the challenge, and an accepted token leaves its ACTION to the edge, or in MATE with
LEAVE waits for the self-test (R200, R201, R528); while the engine is busy for another it waits (R410). The challenge is replaced every
600 s (R200), and reading SAF_EVQ3 removes the head entry (R205). -/
def Obligations.SafMailboxCommands : Prop :=
  ∀ (s : State) (len : Nat) (p : Bytes),
    (len ≤ 128 → s.saf.mbox.length < 8 → let d := safData (safDataPut p s) len
      Does (.safFlagclr .write len p) s (fun t => t.saf.mbox = s.saf.mbox ++ [⟨1, len, d⟩])
      ∧ Does (.safIenset .write len p) s (fun t => t.saf.mbox = s.saf.mbox ++ [⟨2, len, d⟩])
      ∧ Does (.wearrst .write len p) s (fun t => t.saf.mbox = s.saf.mbox ++ [⟨3, len, d⟩])
      ∧ Does (.checkack .write len p) s (fun t => t.saf.mbox = s.saf.mbox ++ [⟨4, len, d⟩])
      ∧ Does (.safereset .write len p) s (fun t => t.saf.mbox = s.saf.mbox ++ [⟨5, len, d⟩]))
    ∧ (128 < len →
      Does (.safFlagclr .write len p) s (fun t => t.saf.mbox = s.saf.mbox ∧ rget t F.SAF_MBSTAT_RESULT = 9 ∧ rget t F.SAF_MBSTAT_LASTOP = 1)
      ∧ Does (.safIenset .write len p) s (fun t => t.saf.mbox = s.saf.mbox ∧ rget t F.SAF_MBSTAT_RESULT = 9 ∧ rget t F.SAF_MBSTAT_LASTOP = 2)
      ∧ Does (.wearrst .write len p) s (fun t => t.saf.mbox = s.saf.mbox ∧ rget t F.SAF_MBSTAT_RESULT = 9 ∧ rget t F.SAF_MBSTAT_LASTOP = 3)
      ∧ Does (.checkack .write len p) s (fun t => t.saf.mbox = s.saf.mbox ∧ rget t F.SAF_MBSTAT_RESULT = 9 ∧ rget t F.SAF_MBSTAT_LASTOP = 4)
      ∧ Does (.safereset .write len p) s (fun t => t.saf.mbox = s.saf.mbox ∧ rget t F.SAF_MBSTAT_RESULT = 9 ∧ rget t F.SAF_MBSTAT_LASTOP = 5))
    ∧ (len ≤ 128 → 8 ≤ s.saf.mbox.length →
      Does (.safFlagclr .write len p) s (fun t => t.saf.mbox = s.saf.mbox ∧ rget t F.SAF_FLAGS_MBFULL = 1)
      ∧ Does (.safIenset .write len p) s (fun t => t.saf.mbox = s.saf.mbox ∧ rget t F.SAF_FLAGS_MBFULL = 1)
      ∧ Does (.wearrst .write len p) s (fun t => t.saf.mbox = s.saf.mbox ∧ rget t F.SAF_FLAGS_MBFULL = 1)
      ∧ Does (.checkack .write len p) s (fun t => t.saf.mbox = s.saf.mbox ∧ rget t F.SAF_FLAGS_MBFULL = 1)
      ∧ Does (.safereset .write len p) s (fun t => t.saf.mbox = s.saf.mbox ∧ rget t F.SAF_FLAGS_MBFULL = 1))
    ∧ (∀ c, safTurn s 1 = some c → c.len ≠ 12 → Does (.safFlagclr .run len p) s (fun t => rget t F.SAF_MBSTAT_RESULT = 2
          ∧ rget t F.SAF_MBSTAT_LASTOP = 1 ∧ t.saf.mbox = s.saf.mbox.drop 1))
      ∧ (∀ c, safTurn s 2 = some c → c.len ≠ 12 → Does (.safIenset .run len p) s (fun t => rget t F.SAF_MBSTAT_RESULT = 2
          ∧ rget t F.SAF_MBSTAT_LASTOP = 2 ∧ t.saf.mbox = s.saf.mbox.drop 1))
      ∧ (∀ c, safTurn s 3 = some c → c.len ≠ 4 → Does (.wearrst .run len p) s (fun t => rget t F.SAF_MBSTAT_RESULT = 2
          ∧ rget t F.SAF_MBSTAT_LASTOP = 3 ∧ t.saf.mbox = s.saf.mbox.drop 1))
      ∧ (∀ c, safTurn s 4 = some c → c.len ≠ 0 → Does (.checkack .run len p) s (fun t => rget t F.SAF_MBSTAT_RESULT = 2
          ∧ rget t F.SAF_MBSTAT_LASTOP = 4 ∧ t.saf.mbox = s.saf.mbox.drop 1))
      ∧ (∀ c, safTurn s 5 = some c → c.len ≠ 112 → portWaits 1 s = false → Does (.safereset .run len p) s (fun t => rget t F.SAF_MBSTAT_RESULT = 2
          ∧ rget t F.SAF_MBSTAT_LASTOP = 5 ∧ t.saf.mbox = s.saf.mbox.drop 1))
    ∧ (∀ c fl, safTurn s 1 = some c → c.len = 12 → let a := 0x10000000 + 0x10000 * u32 c.payload 0 + u32 c.payload 4
        u32 c.payload 0 ∈ safBlocks → u32 c.payload 4 < 0x10000 → regFields a = some fl → clearable fl = true →
        Does (.safFlagclr .run len p) s (fun t => rget t F.SAF_MBSTAT_RESULT = 0 ∧ rget t F.SAF_MBSTAT_LASTOP = 1
          ∧ t.saf.mbox = s.saf.mbox.drop 1
          ∧ (hasClr fl = true → (u32 c.payload 8).testBit 31 = true → rget t ⟨a, 0, 16, 0⟩ = 0)
          ∧ (hasClr fl = false → ∀ f ∈ fl, f.acc = .w1c → f.width = 1 → rget s (f.at a) < 2 →
              rget t (f.at a) = if (u32 c.payload 8).testBit f.lo then 0 else rget s (f.at a))))
    ∧ (∀ c, safTurn s 1 = some c → c.len = 12 → u32 c.payload 0 ∉ safBlocks →
        Does (.safFlagclr .run len p) s (fun t => rget t F.SAF_MBSTAT_RESULT = 2 ∧ t.saf.mbox = s.saf.mbox.drop 1))
    ∧ (∀ c, ∀ f ∈ safIens, safTurn s 2 = some c → c.len = 12 → u32 c.payload 4 < 0x10000 →
        f.addr = 0x10000000 + 0x10000 * u32 c.payload 0 + u32 c.payload 4 →
        Does (.safIenset .run len p) s (fun t => rget t f = u32 c.payload 8 % 2 ^ f.width
          ∧ rget t F.SAF_MBSTAT_RESULT = 0 ∧ rget t F.SAF_MBSTAT_LASTOP = 2 ∧ t.saf.mbox = s.saf.mbox.drop 1))
    ∧ (∀ c, safTurn s 3 = some c → c.len = 4 → u32 c.payload 0 < 64 →
        Does (.wearrst .run len p) s (fun t => (coil t (u32 c.payload 0)).sw = 0 ∧ (coil t (u32 c.payload 0)).i2t = 0
          ∧ (coil t (u32 c.payload 0)).dirty = true ∧ rget t F.SAF_MBSTAT_RESULT = 0 ∧ t.saf.mbox = s.saf.mbox.drop 1))
    ∧ (∀ c, safTurn s 4 = some c → c.len = 0 → s.saf.st = .check → 20000 ≤ sinceT s s.saf.since → ackConditions s = true →
        Does (.checkack .run len p) s (fun t => t.saf.ack = some (true, 0) ∧ t.saf.mbox = s.saf.mbox.drop 1))
    ∧ (∀ c, safTurn s 4 = some c → c.len = 0 → s.saf.st ≠ .check ∨ sinceT s s.saf.since < 20000 ∨ ackConditions s = false →
        Does (.checkack .run len p) s (fun t => t.saf.ack = s.saf.ack ∧ rget t F.SAF_MBSTAT_RESULT = 7 ∧ t.saf.mbox = s.saf.mbox.drop 1))
    ∧ (∀ c a, safTurn s 5 = some c → c.len = 112 → portWaits 1 s = false → s.saf.lastTry = some a → sinceT s a < 200000 →
        Does (.safereset .run len p) s (fun t => t.saf.lastTry = some a ∧ t.saf.chalAt = s.saf.chalAt
          ∧ rget t F.SAF_MBSTAT_RESULT = 8 ∧ t.saf.mbox = s.saf.mbox.drop 1))
    ∧ (∀ c, safTurn s 5 = some c → c.len = 112 → portWaits 1 s = false → (∀ a, s.saf.lastTry = some a → 200000 ≤ sinceT s a) →
        let action := u32 c.payload 4
        Does (.safereset .run len p) s (fun t => t.saf.lastTry = some s.tmp.now ∧ t.saf.chalAt = s.tmp.now ∧ t.saf.mbox = s.saf.mbox.drop 1
          ∧ (tokenVerdict c.payload s ≠ 0 → rget t F.SAF_MBSTAT_RESULT = tokenVerdict c.payload s ∧ t.saf.ack = s.saf.ack)
          ∧ (tokenVerdict c.payload s = 0 → action.testBit 0 = true → s.saf.st = .mate → t.saf.tokenWait = some action)
          ∧ (tokenVerdict c.payload s = 0 → action.testBit 0 = false ∨ s.saf.st = .run → t.saf.ack = some (false, action))))
    ∧ (∀ c, safTurn s 5 = some c → portWaits 1 s = true → Does (.safereset .run len p) s (fun t => t.saf = s.saf))
    ∧ (12000000 ≤ sinceT s s.saf.chalAt → Does .challengeRefresh s (fun t => t.saf.chalAt = s.tmp.now ∧ t.freeCtr = s.freeCtr + 4))
    ∧ Does .safEvqRead s (fun t => t.saf.evq = s.saf.evq.drop 1 ∧ t.resp = ⟨false, (safHead s).data / 65536⟩)

/-- A request written to OUTn_CTRL.REQ waits in the latch, and one that finds the latch full replaces it with REQOVW (R113). Frozen, it is
evaluated once in its tempo, after COMPARE (R109). NEGOTIATE goes to CABLE_CHECK with KP and KN commanded closed unless a condition of
R121 and R122 refuses it, and an AC3 outlet to ENERGY (R139); CABLE_CHECK goes on to PRECHARGE after CCDONE; PRECHARGE to ENERGY with the
outlet voltage within PC_TOL of the target and PERM_ENERGY (R126); STOP takes CABLE_CHECK, PRECHARGE and ENERGY to RAMP_DOWN with cause
1, the limit 0 A at once but from ENERGY (R116, R128); IDLE and OUT_OF_SERVICE change over by OOS and SERVICE, which a LATCH cause refuses
(R135); ACK ends a RECOVER cause in FAULTED where nothing is at the outlet (R117); REARM arms IDLE (R119). A request a state does not take,
or whose condition fails, is discarded with its reason and the state stays (R114; NO_PERMISSIVE where the rule names none is the model's,
log entry 174). -/
def Obligations.OutletRequests : Prop :=
  ∀ (s : State) (n : Fin 4),
    (∀ p ∈ ([(.reqCableCheck n .write, 1), (.reqPrecharge n .write, 2), (.reqEnergy n .write, 3), (.reqStop n .write, 4),
          (.reqOos n .write, 5), (.reqService n .write, 6), (.reqAck n .write, 7), (.reqRearm n .write, 8)] : List (Instr × Nat)),
        Does p.1 s (fun t => (outlet t n).reqLatch = p.2 ∧ ((outlet s n).reqLatch ≠ 0 → rget t (F.OUT_FLAGS_REQOVW n) = 1)))
    ∧ (SeqDue s n → (outlet s n).reqFrz = 1 → (outlet s n).st = .negotiate → unplugged (outlet s n) = false → (outlet s n).auth = true →
        elapsed s n < oTneg s n → oType s n ≠ tyAc3 → Does (.reqCableCheck n .run) s (fun t =>
          (cableCheckRefusal s n = none → (outlet t n).st = .cableCheck ∧ (oCoil s n 0 < 64 → (coil t (oCoil s n 0)).cmd = true)
            ∧ (oCoil s n 1 < 64 → (coil t (oCoil s n 1)).cmd = true))
          ∧ (∀ r ∈ (cableCheckRefusal s n).toList, (outlet t n).st = .negotiate ∧ (outlet t n).rejP = some r)))
    ∧ (SeqDue s n → (outlet s n).reqFrz = 2 → (outlet s n).st = .cableCheck → emergency s n = none → (outlet s n).isoHeld = false →
        elapsed s n < oTcc s n → (outlet s n).auth = true → Does (.reqPrecharge n .run) s (fun t =>
          ((outlet s n).ccdone = true → (outlet t n).st = .precharge)
          ∧ ((outlet s n).ccdone = false → (outlet t n).st = .cableCheck ∧ (outlet t n).rejP = some 2)))
    ∧ (SeqDue s n → (outlet s n).reqFrz = 3 → (outlet s n).st = .precharge → emergency s n = none → elapsed s n < oTpc s n →
        (outlet s n).auth = true → Does (.reqEnergy n .run) s (fun t =>
          let near := oV s n ≤ (outlet s n).vtF + oPcTol s n ∧ (outlet s n).vtF ≤ oV s n + oPcTol s n
          (near ∧ permOf s n 2 true = true → (outlet t n).st = .energy ∧ (outlet t n).energised = true ∧ (outlet t n).pcmatch = true
            ∧ (outlet t n).applied = 0)
          ∧ (¬(near ∧ permOf s n 2 true = true) → (outlet t n).st = .precharge ∧ (outlet t n).rejP = some 2)))
    ∧ (SeqDue s n → (outlet s n).reqFrz = 3 → (outlet s n).st = .negotiate → oType s n = tyAc3 → unplugged (outlet s n) = false →
        (outlet s n).auth = true → elapsed s n < oTneg s n → Does (.reqEnergy n .run) s (fun t =>
          (permOf s n 2 true = true → (outlet t n).st = .energy ∧ (outlet t n).energised = true ∧ (outlet t n).applied = 0)
          ∧ (permOf s n 2 true = false → (outlet t n).st = .negotiate ∧ (outlet t n).rejP = some 2)))
    ∧ (SeqDue s n → (outlet s n).reqFrz = 4 → emergency s n = none → (outlet s n).auth = true →
        ((outlet s n).st = .cableCheck ∧ (outlet s n).isoHeld = false ∧ elapsed s n < oTcc s n)
          ∨ ((outlet s n).st = .precharge ∧ elapsed s n < oTpc s n)
          ∨ ((outlet s n).st = .energy ∧ acNoResponse s n = false ∧ sinceT s (outlet s n).wdAt < oTfwwd s n) →
        Does (.reqStop n .run) s (fun t => (outlet t n).st = .rampDown ∧ (outlet t n).emerg = false
          ∧ (outlet t n).applied = (if (outlet s n).st = .energy then (outlet s n).applied else 0)
          ∧ ((outlet s n).cause = 0 ∨ (outlet s n).causeOld = true → (outlet t n).cause = 1)))
    ∧ (SeqDue s n → (outlet s n).reqFrz = 5 → (outlet s n).st = .idle → Does (.reqOos n .run) s (fun t => (outlet t n).st = .oos))
    ∧ (SeqDue s n → (outlet s n).reqFrz = 6 → (outlet s n).st = .oos → Does (.reqService n .run) s (fun t =>
        ((outlet s n).latch = false → (outlet t n).st = .idle)
        ∧ ((outlet s n).latch = true → (outlet t n).st = .oos ∧ (outlet t n).rejP = some 2)))
    ∧ (SeqDue s n → (outlet s n).reqFrz = 7 → (outlet s n).st = .faulted → (outlet s n).weld = .off → s.saf.st = .run →
        causeClass (outlet s n).cause = 2 → Does (.reqAck n .run) s (fun t =>
          (hvPresent s n = false → (outlet t n).st = if oLock s n = true ∧ fbIn s (oLockFb s n) = true then .unlock else .idle)
          ∧ (hvPresent s n = true → (outlet t n).st = .faulted ∧ (outlet t n).rejP = some 2)))
    ∧ (SeqDue s n → (outlet s n).reqFrz = 8 → (outlet s n).st = .idle → hvPresent s n = false →
        (outlet s n).armed = false ∧ (outlet s n).pilot ≠ .a ∨ seqPilot (outlet s n) ≠ pilotB s n ∨ (outlet s n).proxOk = false →
        Does (.reqRearm n .run) s (fun t => (outlet t n).st = .idle ∧ (outlet t n).armed = true))
    ∧ (∀ x, x ∈ ([(.reqCableCheck n .run, 1), (.reqPrecharge n .run, 2), (.reqEnergy n .run, 3), (.reqStop n .run, 4),
          (.reqService n .run, 6), (.reqAck n .run, 7)] : List (Instr × Nat)) →
        SeqDue s n → (outlet s n).st ∈ [OutSt.idle, .plugged, .authWait, .rampDown, .weldCheck, .unlock] → (outlet s n).reqFrz = x.2 →
        Does x.1 s (fun t => (outlet t n).rejP = some 1
          ∧ (outlet t n).pend.testBit (F.OUT_FLAGS_REQREJ n).lo = true ∧ (outlet t n).reqFrz = 0))
    ∧ (s.tmp.running = false ∨ 3 ∉ s.tmp.ran ∨ (outlet s n).seqAt = some s.tmp.now →
        ∀ c ∈ [Instr.reqCableCheck n .run, .reqPrecharge n .run, .reqEnergy n .run, .reqStop n .run, .reqOos n .run, .reqService n .run,
          .reqAck n .run, .reqRearm n .run, .tLockExpiry n, .tAuthExpiry n, .tNegExpiry n, .tCcExpiry n, .tPcExpiry n, .tFwwdExpiry n,
          .zeroCurrentConfirmed n, .tRdExpiry n, .tZcExpiry n, .fbMismatch n, .tEvopenExpiry n, .tWeldExpiry n, .tAcrespExpiry n,
          .busLost n], Does c s (fun t => t = s))

/-- The firmware's writes to an outlet wait for the edge: AUTH, EVOPEN, DIR, whose value 1 is refused with REJ 8 where the record, or the
session, does not permit export (R136), and OUTn_LIMIT, which restarts the watchdog (R128). The edge that begins a tempo freezes the
request latch, OUTn_LIMIT, OUTn_VTARGET, DIR, BIDIR and the decisions of pilot and proximity (R55, R56), and counts the AUTH value: 1 is
accepted where nothing refuses it and otherwise sets AUTHREF (R115), 0 revokes (R116). A REQ STOP that a message timer owes is placed in the latch first (R314). EVOPEN counts from RAMP_DOWN on (R133; log entry
13). -/
def Obligations.OutletWrites : Prop :=
  ∀ (s : State) (n : Fin 4),
    (Does (.authRequest n) s (fun t => (outlet t n).authW = some true ∧ (outlet t n).auth = (outlet s n).auth))
    ∧ (Does (.deauth n) s (fun t => (outlet t n).authW = some false ∧ (outlet t n).auth = (outlet s n).auth))
    ∧ (Does (.evopen n) s (fun t => (outlet t n).evopenW = true ∧ (outlet t n).evopen = (outlet s n).evopen))
    ∧ (exportOk s n = true → Does (.dirChange n true) s (fun t => rget t (F.OUT_CTRL_DIR n) = 1))
    ∧ (exportOk s n = false → Does (.dirChange n true) s (fun t => rget t (F.OUT_CTRL_DIR n) = rget s (F.OUT_CTRL_DIR n)
        ∧ rget t (F.OUT_CAUSE_REJ n) = 8 ∧ rget t (F.OUT_FLAGS_REQREJ n) = 1))
    ∧ (Does (.dirChange n false) s (fun t => rget t (F.OUT_CTRL_DIR n) = 0))
    ∧ (∀ v : Word, Does (.outLimitWrite n v) s (fun t => rget t (F.OUT_LIMIT_IMAX n) = v.toNat % 65536
        ∧ rget t (F.OUT_LIMIT_VMAX n) = v.toNat / 65536 % 65536 ∧ (outlet t n).wdAt = s.tmp.now ∧ (outlet t n).imaxF = (outlet s n).imaxF))
    ∧ (∀ u, s.tmp.running = true → s.tmp.begun = false → Does (.tempoEdge u) s (fun t =>
        (outlet t n).reqFrz = (if (vport s n).stopReq = true then 4 else (outlet s n).reqLatch) ∧ (outlet t n).reqLatch = 0
        ∧ (outlet t n).imaxF = rget s (F.OUT_LIMIT_IMAX n) ∧ (outlet t n).vmaxF = rget s (F.OUT_LIMIT_VMAX n)
        ∧ (outlet t n).vtF = rget s (F.OUT_VTARGET_VT n) ∧ (outlet t n).dirF = rbit s (F.OUT_CTRL_DIR n)
        ∧ (outlet t n).bidirF = rbit s (F.OUT_CTRL_BIDIR n) ∧ (outlet t n).pilot = (outlet s n).pilotN
        ∧ (outlet t n).proxOk = (outlet s n).proxN ∧ (outlet t n).evopenW = false
        ∧ (outlet t n).evopen = ((outlet s n).evopen
            || ((outlet s n).evopenW && decide ((outlet s n).st ∈ [OutSt.rampDown, .weldCheck, .faulted])))))
    ∧ (∀ u, s.tmp.running = true → s.tmp.begun = false → Does (.tempoEdge u) s (fun t => (outlet t n).authW = none
        ∧ ((outlet s n).authW = some true → (outlet s n).auth = false → authRefusal s n = none → (outlet t n).auth = true)
        ∧ ((outlet s n).authW = some true → (outlet s n).auth = false → authRefusal s n ≠ none →
            (outlet t n).auth = false ∧ rget t (F.OUT_FLAGS_AUTHREF n) = 1)
        ∧ ((outlet s n).authW = some false → (outlet s n).auth = true → (outlet t n).auth = false ∧ (outlet t n).revoked = true)
        ∧ ((outlet s n).authW = none ∨ (outlet s n).authW = some (outlet s n).auth → (outlet t n).auth = (outlet s n).auth)))

/-- A sequencer timer that has run out is acted on at the evaluation of its tempo: T_LOCK in PLUGGED is LOCK_FAIL and after the release in
UNLOCK UNLOCK_FAIL, a LATCH cause (R117, R134); T_AUTH and T_NEG unlock, T_CC and T_PC take the emergency path (R117), the firmware
watchdog ramps down (R128); 20 tempos below 2 A, T_RD, T_ZC (10 ms after a PFW, R130) and T_ACRESP in RAMP_DOWN or a pause (R139) open KP
and KN, the last three as a hard break with their cause; T_EVOPEN closes DIS with EVSLOW, and T_WELD with the outlet still live is
WELD_FAIL, a LATCH cause (R133). An END or RECOVER cause is recorded where none stands, or a lower one (R132). -/
def Obligations.OutletTimers : Prop :=
  ∀ (s : State) (n : Fin 4), SeqDue s n → (outlet s n).reqFrz = 0 →
    ((outlet s n).st = .plugged → (outlet s n).pilot ≠ .a → oTlock s n ≤ elapsed s n → causeClass (outlet s n).cause ≤ 1 →
      Does (.tLockExpiry n) s (fun t => (outlet t n).st = .faulted ∧ (outlet t n).cause = 0x18))
    ∧ (∀ t0, (outlet s n).st = .unlock → (outlet s n).lockAt = some t0 → oLock s n = true → fbIn s (oLockFb s n) = true →
        oTlock s n ≤ sinceT s (t0 + 1) → Does (.tLockExpiry n) s (fun t => (outlet t n).st = .faulted ∧ (outlet t n).cause = 0x12
          ∧ (outlet t n).latch = true))
    ∧ ((outlet s n).st = .authWait → unplugged (outlet s n) = false → oTauth s n ≤ elapsed s n → causeClass (outlet s n).cause = 0 →
        Does (.tAuthExpiry n) s (fun t => (outlet t n).st = .unlock ∧ (outlet t n).cause = 0x04))
    ∧ ((outlet s n).st = .negotiate → unplugged (outlet s n) = false → (outlet s n).auth = true → oTneg s n ≤ elapsed s n →
        causeClass (outlet s n).cause = 0 → Does (.tNegExpiry n) s (fun t => (outlet t n).st = .unlock ∧ (outlet t n).cause = 0x05))
    ∧ ((outlet s n).st = .cableCheck → emergency s n = none → (outlet s n).isoHeld = false → oTcc s n ≤ elapsed s n →
        causeClass (outlet s n).cause ≤ 1 → Does (.tCcExpiry n) s (fun t =>
          (outlet t n).st = .rampDown ∧ (outlet t n).emerg = true ∧ (outlet t n).applied = 0 ∧ (outlet t n).cause = 0x06))
    ∧ ((outlet s n).st = .precharge → emergency s n = none → oTpc s n ≤ elapsed s n → causeClass (outlet s n).cause ≤ 1 →
        Does (.tPcExpiry n) s (fun t =>
          (outlet t n).st = .rampDown ∧ (outlet t n).emerg = true ∧ (outlet t n).applied = 0 ∧ (outlet t n).cause = 0x08))
    ∧ ((outlet s n).st = .energy → emergency s n = none → acNoResponse s n = false → oTfwwd s n ≤ sinceT s (outlet s n).wdAt →
        causeClass (outlet s n).cause ≤ 1 → Does (.tFwwdExpiry n) s (fun t =>
          (outlet t n).st = .rampDown ∧ (outlet t n).emerg = false ∧ (outlet t n).applied = (outlet s n).applied
          ∧ (outlet t n).cause = 0x09))
    ∧ ((outlet s n).st = .rampDown → (outlet s n).emerg = false → inCheck s = false → enableLost s n = false → s.pwr.pfw = false →
        acNoResponse s n = false → zeroConfirmed s n = true →
        Does (.zeroCurrentConfirmed n) s (fun t => (outlet t n).st = .weldCheck ∧ (outlet t n).applied = 0
          ∧ (oCoil s n 0 < 64 → (coil t (oCoil s n 0)).cmd = false)))
    ∧ ((outlet s n).st = .rampDown → (outlet s n).emerg = false → inCheck s = false → enableLost s n = false → s.pwr.pfw = false →
        acNoResponse s n = false → lowCurrent s n = false → oTrd s n ≤ elapsed s n → causeClass (outlet s n).cause ≤ 1 →
        oCoil s n 0 < 64 → (coil s (oCoil s n 0)).cmd = true →
        Does (.tRdExpiry n) s (fun t => (outlet t n).st = .weldCheck ∧ (outlet t n).cause = 0x0F
          ∧ (coil t (oCoil s n 0)).cmd = false ∧ (coil t (oCoil s n 0)).hard = true))
    ∧ ((outlet s n).st = .rampDown → (outlet s n).emerg = true → acNoResponse s n = false → lowCurrent s n = false →
        (if (outlet s n).zc10 = true ∨ s.pwr.pfw = true then min 200 (oTzc s n) else oTzc s n) ≤ sinceT s (outlet s n).emergAt →
        causeClass (outlet s n).cause ≤ 1 → oCoil s n 0 < 64 → (coil s (oCoil s n 0)).cmd = true →
        Does (.tZcExpiry n) s (fun t => (outlet t n).st = .weldCheck ∧ (outlet t n).cause = 0x0F
          ∧ (coil t (oCoil s n 0)).cmd = false ∧ (coil t (oCoil s n 0)).hard = true))
    ∧ ((outlet s n).st = .weldCheck → (outlet s n).weld = .evWait → (outlet s n).evopen = false →
        oType s n = tyGbt ∨ (outlet s n).pilot = .c → oTevopen s n ≤ sinceT s (outlet s n).weldAt →
        Does (.tEvopenExpiry n) s (fun t => (outlet t n).weld = .discharge
          ∧ (outlet t n).pend.testBit (F.OUT_FLAGS_EVSLOW n).lo = true ∧ (oCoil s n 4 < 64 → (coil t (oCoil s n 4)).cmd = true)))
    ∧ ((outlet s n).st = .weldCheck → (outlet s n).weld = .discharge → outDead s n = false → oTweld s n ≤ sinceT s (outlet s n).weldAt →
        Does (.tWeldExpiry n) s (fun t => (outlet t n).st = .faulted ∧ (outlet t n).cause = 0x11 ∧ (outlet t n).latch = true))
    ∧ (acNoResponse s n = true → causeClass (outlet s n).cause ≤ 1 → oCoil s n 0 < 64 → (coil s (oCoil s n 0)).cmd = true →
        ((outlet s n).st = .energy ∧ emergency s n = none)
          ∨ ((outlet s n).st = .rampDown ∧ ((outlet s n).emerg = true
              ∨ inCheck s = false ∧ enableLost s n = false ∧ s.pwr.pfw = false)) →
        Does (.tAcrespExpiry n) s (fun t => (outlet t n).st = .weldCheck ∧ (outlet t n).cause = 0x17
          ∧ (coil t (oCoil s n 0)).cmd = false ∧ (coil t (oCoil s n 0)).hard = true))

/-- An outlet loses its bus or a contact, at the evaluation of the tempo. No grant for 100 tempos takes CABLE_CHECK, PRECHARGE and ENERGY down
the emergency path with cause BUS_LOST (R129, R130). A mirror contact that disagrees demands CHECK of the module in any state, with
MTX_FLAGS.FBMISMATCH at its first tempo (R146, R172; for an outlet's coil DEDUCED, log entry 161), and gives the outlet the LATCH cause
FB_MISMATCH: by the emergency path from CABLE_CHECK, PRECHARGE and ENERGY and in RAMP_DOWN (R123), and into FAULTED where a contact still
reads closed in the weld check (R133). -/
def Obligations.OutletEmergencies : Prop :=
  ∀ (s : State) (n : Fin 4), s.tmp.running = true → 3 ∈ s.tmp.ran → oActive s n = true → (outlet s n).seqAt ≠ some s.tmp.now →
    (busLost s n = true → (outlet s n).st ∈ [OutSt.cableCheck, .precharge, .energy] → emergency s n = some 0x15 →
      Does (.busLost n) s (fun t => (outlet t n).st = .rampDown ∧ (outlet t n).emerg = true ∧ (outlet t n).applied = 0
        ∧ (causeClass (outlet s n).cause ≤ 1 → (outlet t n).cause = 0x15)))
    ∧ (∀ c, fbMismatch s n = some c → Does (.fbMismatch n) s (fun t => Demands t 0x0C c false
        ∧ ((0x0C, c) ∉ s.saf.cur → (0x0C, c) ∉ s.saf.prev → rget t F.MTX_FLAGS_FBMISMATCH = 1)))
    ∧ (fbMismatch s n ≠ none → (outlet s n).st ∈ [OutSt.cableCheck, .precharge, .energy] → emergency s n = some 0x10 →
        Does (.fbMismatch n) s (fun t => (outlet t n).st = .rampDown ∧ (outlet t n).emerg = true ∧ (outlet t n).applied = 0
          ∧ (outlet t n).cause = 0x10 ∧ (outlet t n).latch = true))
    ∧ (fbMismatch s n ≠ none → (outlet s n).st = .rampDown → (outlet s n).emerg = false → inCheck s = false → enableLost s n = false →
        s.pwr.pfw = false → Does (.fbMismatch n) s (fun t => (outlet t n).cause = 0x10 ∧ (outlet t n).latch = true))
    ∧ (fbMismatch s n ≠ none → (outlet s n).st = .weldCheck → (outlet s n).weld = .settle → weldBad s n ≠ none →
        Does (.fbMismatch n) s (fun t => (outlet t n).st = .faulted ∧ (outlet t n).cause = 0x10 ∧ (outlet t n).latch = true))

/-- Pilot and proximity of a V port, with VEH on and in a post, whichever outlet uses it or none. H and Lw of a period's samples decide by the bands
of R298, with the diode check, and of R300 for GBT; the period gives its stream and registers, and N_CONFIRM equal decisions confirm a
pilot state (R119). A proximity result is R of R301, and three that agree change PROX_OK (R302). What is confirmed is seen from the next
edge (R55). BREAK drives steady +12 V for BREAKMS in PLUGGED, AUTH_WAIT and NEGOTIATE alone (R305); a level below 10.5 V for 1 ms wakes a module
in S3, its decision the first of N_CONFIRM, and resets one in S4 (R304, R141, R473); and a post's BUSREQ leaves every 20 tempos or at once (R343). Means are rounded
down to 1 mV and 1 µV, the model's choice (log entries 50 and 189). -/
def Obligations.PilotCommands : Prop :=
  ∀ (s : State) (p n : Fin 4),
    (∀ a b : List Int, vOn s = true → outletOfV s p = some n.val →
      let l := a ++ b
      let drive := (vport s p).drive
      let high := (if 0 < drive ∧ drive < 1000 then window l 10 (drive - 5) else window l 10 990).sum / ((if 0 < drive ∧ drive < 1000 then window l 10 (drive - 5) else window l 10 990).length : Int)
      let low := if 0 < drive ∧ drive < 1000 then (window l (drive + 10) 995).sum / ((window l (drive + 10) 995).length : Int) else 0
      let bad := decide (oType s n ≠ tyGbt ∧ 0 < drive ∧ drive < 1000 ∧ 1500 ≤ high ∧ high < 10500 ∧ -10500 < low)
      Does (.pilotDecision p a b) s (fun t => (vport t p).high = high ∧ (vport t p).low = low ∧ (Tab.get ⟨0, none⟩ t.strm (20 + p)).val = high
        ∧ (oType s n = tyGbt → (vport t p).raw = if 10800 ≤ high then .a else if 5200 ≤ high ∧ high ≤ 6800 then .b
            else if 3200 ≤ high ∧ high ≤ 4800 then .c else .e)
        ∧ (oType s n ≠ tyGbt → bad = false → (vport t p).raw = if 10500 ≤ high then .a else if 7500 ≤ high then .b
            else if 4500 ≤ high then .c else if 1500 ≤ high then .d else if high ≤ -10500 ∧ drive = 0 then .f else .e)
        ∧ (bad = true → (vport t p).raw = .e ∧ (vport t p).diodeOk = false ∧ rget t (F.VEH_FLAGS_DIODE p) = 1)))
    ∧ (∀ a b : List Int, vOn s = true → outletOfV s p = some n.val →
      let l := a ++ b
      let dc := pilotDecide (vport s p).drive (oType s n == tyGbt) (pilotHigh (vport s p).drive l) (pilotLow (vport s p).drive l)
      Does (.pilotDecision p a b) s (fun t => (outlet t n).pLast = dc
        ∧ ((outlet s n).pLast = dc → 0 < (outlet s n).pRun → oNconfirm s n ≤ (outlet s n).pRun + 1 → oNconfirm s n ≤ 255 →
            (outlet t n).pilotN = dc ∧ (oType s n = tyGbt → dc = .c → (outlet t n).proxN = true)
              ∧ (oType s n = tyGbt → dc = .a ∨ dc = .b → (outlet t n).proxN = false))
        ∧ ((outlet s n).pLast ≠ dc → 1 < oNconfirm s n → (outlet t n).pilotN = (outlet s n).pilotN)))
    ∧ (∀ a b : List Int, vOn s = true → outletOfV s p = none → let l := a ++ b
        Does (.pilotDecision p a b) s (fun t => t.outs = s.outs
        ∧ (vport t p).high = pilotHigh (vport s p).drive l ∧ (Tab.get ⟨0, none⟩ t.strm (20 + p)).val = pilotHigh (vport s p).drive l
        ∧ (vport t p).raw = pilotDecide (vport s p).drive false (pilotHigh (vport s p).drive l) (pilotLow (vport s p).drive l)))
    ∧ (vOn s = false → ∀ c ∈ [Instr.pilotDecision p [] [], .proximityResult p []], Does c s (fun t => t = s))
    ∧ (oActive s n = true → 0 < (outlet s n).pRun → oNconfirm s n ≤ (outlet s n).pRun →
        Does (.pilotStateConfirmed n) s (fun t => (outlet t n).pilotN = (outlet s n).pLast
          ∧ (oType s n = tyGbt → (outlet s n).pLast = .c → (outlet t n).proxN = true)
          ∧ (oType s n = tyGbt → (outlet s n).pLast = .a ∨ (outlet s n).pLast = .b → (outlet t n).proxN = false)))
    ∧ (oActive s n = false ∨ (outlet s n).pRun = 0 ∨ (outlet s n).pRun < oNconfirm s n → Does (.pilotStateConfirmed n) s (fun t => t = s))
    ∧ (∀ l : List Nat, vOn s = true → outletOfV s p = some n.val → oType s n ≠ tyGbt →
        let u := l.sum / l.length
        let r := if 4950000 ≤ u then 65535 else min 65535 ((2000 * u + (5000000 - u)) / (2 * (5000000 - u)))
        let ok := decide (oProxLo s n ≤ r ∧ r ≤ oProxHi s n ∧ (oType s n = tyAc3 → 80 ≤ r ∧ r ≤ 140 ∨ 164 ≤ r ∧ r ≤ 308 ∨ 400 ≤ r ∧ r ≤ 936 ∨ 1100 ≤ r ∧ r ≤ 2000))
        Does (.proximityResult p l) s (fun t => (vport t p).res = r ∧ (Tab.get ⟨0, none⟩ t.strm (24 + p)).val = (r : Int)
          ∧ (2 ≤ (vport s p).pxRun → (vport s p).pxLast = ok → (outlet t n).proxN = ok)
          ∧ (2 ≤ (vport s p).pxRun → (vport s p).pxLast = ok → (outlet s n).proxN ≠ ok → rget t (F.VEH_FLAGS_PROXCHG p) = 1)
          ∧ ((vport s p).pxLast ≠ ok → (outlet t n).proxN = (outlet s n).proxN)))
    ∧ (∀ l : List Nat, vOn s = true → outletOfV s p = none ∨ (outletOfV s p = some n.val ∧ oType s n = tyGbt) →
        Does (.proximityResult p l) s (fun t => t.outs = s.outs ∧ (vport t p).res = proxRes (l.sum / l.length)
          ∧ (Tab.get ⟨0, none⟩ t.strm (24 + p)).val = (proxRes (l.sum / l.length) : Int)))
    ∧ (vIn s p [.plugged, .authWait, .negotiate] = true →
        Does (.pilotBreak p) s (fun t => (vport t p).brk = some (s.tmp.now + 20 * max 100 (min 4000 (rget s (F.VEH_PCTL_BREAKMS p))))
          ∧ dutyNow t p = 1000))
    ∧ (vIn s p [.plugged, .authWait, .negotiate] = false → Does (.pilotBreak p) s (fun t => t = s))
    ∧ (∀ b, (vport s p).brk = some b → Does (.pilotBreakEnd p) s (fun t =>
          (b ≤ s.tmp.now → (vport t p).brk = none ∧ (outletOfV s p = some n.val → dutyNow t p = (outShown s n).duty))
          ∧ (s.tmp.now < b → t = s)))
    ∧ (∀ (mv : Int) (us : Nat), outletOfV s p = some n.val → mv < 10500 → 1000 ≤ us → s.pwr.sys = .s3 → s.pwr.pfw = false →
        s.pwr.aonOn = true → s.pwr.boot = .running → s.pwr.entry = .none → wakeActs s p = true →
        Does (.plugDetect p mv us) s (fun t => t.pwr.entry = .waking ∧ rget t F.PWR_WAKESRC_FIRST = p ∧ (outlet t n).pRun = 1))
    ∧ (∀ (mv : Int) (us : Nat), outletOfV s p = some n.val → mv < 10500 → 1000 ≤ us → s.pwr.sys = .s4 → s.pwr.pfw = false →
        s.pwr.aonOn = true → s.pwr.entry = .none → wakeActs s p = true → Does (.plugDetect p mv us) s (fun t =>
          t.pwr.boot = .stretch ∧ (rget t F.RST_CAUSE_SEEN).testBit 8 = true ∧ rget t F.PWR_WAKESRC_FIRST = p))
    ∧ (∀ (mv : Int) (us : Nat), 10500 ≤ mv ∨ us < 1000 ∨ s.pwr.pfw = true ∨ (s.pwr.sys ≠ .s3 ∧ s.pwr.sys ≠ .s4) ∨ outletOfV s p = none →
        Does (.plugDetect p mv us) s (fun t => t = s))
    ∧ (isPost s = true → s.tmp.running = true → s.tmp.now % 20 = 0 ∧ s.lea.reqAt ≠ some s.tmp.now ∨ s.lea.busReqNow = true → nCabAddr s < 0xFF →
        portOn s (if s.lea.addr = 0 ∨ nCabAddr s < s.lea.addr then .lu else .ld) = true →
        let f := (mkFrame tyCmd (nCabAddr s) 0 (cmdBody 1 ((List.range 4).flatMap (busReqEntry s))) s).1
        Does .busreqSend s (fun t => t.lea.busReqNow = false ∧ t.lea.reqAt = some s.tmp.now
          ∧ (if s.lea.addr = 0 ∨ nCabAddr s < s.lea.addr then t.lea.luTx = s.lea.luTx ++ [⟨tyCmd, false, f⟩]
             else t.lea.ldTx = s.lea.ldTx ++ [⟨tyCmd, false, f⟩])))
    ∧ (isPost s = false ∨ s.tmp.running = false ∨ ((s.tmp.now % 20 ≠ 0 ∨ s.lea.reqAt = some s.tmp.now) ∧ s.lea.busReqNow = false) → Does .busreqSend s (fun t => t = s))

/-- The steps of a power group that end badly, each at an evaluation after the tempo that began the step: a weld check that never moves 30 V
from the bus pins the group, marks its crosspoint and demands CHECK (R145); a voltage match that runs out gives the operation up (R155);
T_XZC aborts a migration or a release, and forces the opening in CHECK (R154); a destination that turns to RELEASE before step 5 aborts the migration in any of its
steps (R155); a crosspoint whose feedback disagrees demands CHECK, with FBMISMATCH at its first tempo (R146); and a group silent for 100
tempos is lost (R159). A post evaluates no group. -/
def Obligations.MatrixSteps : Prop :=
  ∀ (s : State) (g : Fin 16),
    (GroupDue s g → inCheck s = false → (group s g).xp = none → (group s g).step = .weldChk →
        (∀ d ∈ (group s g).dst.toList, busKind s d ≠ some .release) →
        (group s g).stepAt < s.tmp.now → mTvmatch s ≤ stepAge s g → busV s (group s g).src < (group s g).vout + 300 →
        (group s g).vout < busV s (group s g).src + 300 →
        Does (.xpWeld g) s (fun t => (group t g).step = .pinned ∧ (group t g).xp = none ∧ (group t g).limit = 0
          ∧ rget t F.MTX_FLAGS_XPWELD = 1 ∧ ((group s g).mig = true → rget t F.MTX_FLAGS_MIGABORT = 1)
          ∧ t.mtx.xpWeld.testBit ((xpOf s g (group s g).src).getD 0) = true ∧ Demands t 0x0D g false))
    ∧ (∀ d, GroupDue s g → inCheck s = false → (group s g).xp = none → (group s g).dst = some d → (group s g).step = .vmatch →
        busKind s d ≠ some .release → canClose s g d = false → (group s g).stepAt < s.tmp.now → mTvmatch s ≤ stepAge s g →
        Does (.tVmatchExpiry g) s (fun t => (group t g).step = .none ∧ (group t g).dst = none ∧ (group t g).barUntil = s.tmp.now + 20000
          ∧ ((group s g).mig = true → rget t F.MTX_FLAGS_MIGABORT = 1)))
    ∧ (∀ x z, GroupDue s g → inCheck s = false → (group s g).xp = some x → target s (4 + mXpCoil s x) = true →
        (∀ d ∈ (group s g).dst.toList, busKind s d ≠ some .release) →
        (group s g).step = .rampDown → (group s g).stepAt < s.tmp.now → (group s g).limit = 0 →
        (group s g).zeroSince = some z → mTxzc s ≤ sinceT s z → 20 ≤ (group s g).iout.natAbs →
        Does (.tXzcExpiry g) s (fun t => (group t g).step = .none ∧ (group t g).xp = some x ∧ (group t g).dst = none
          ∧ (group t g).barUntil = s.tmp.now + 20000 ∧ ((group s g).mig = true → rget t F.MTX_FLAGS_MIGABORT = 1)))
    ∧ (∀ x z, GroupDue s g → inCheck s = true → (group s g).xp = some x → mXpCoil s x < 64 → (group s g).mig = false →
        (group s g).step = .checkOpen → (group s g).stepAt < s.tmp.now → (group s g).limit = 0 →
        (group s g).zeroSince = some z → mTxzc s ≤ sinceT s z →
        Does (.tXzcExpiry g) s (fun t => (group t g).step = .open_ ∧ (coil t (mXpCoil s x)).cmd = false))
    ∧ (∀ d, GroupDue s g → inCheck s = false → (∀ x ∈ (group s g).xp.toList, target s (4 + mXpCoil s x) = true) →
        (group s g).step ∈ [GStep.rampDown, .open_, .weldChk, .vmatch] → (group s g).mig = true → (group s g).dst = some d →
        busKind s d = some .release → Does (.migrationAbort g) s (fun t => (group t g).mig = false ∧ (group t g).dst = none
          ∧ (group t g).barUntil = s.tmp.now + 20000 ∧ rget t F.MTX_FLAGS_MIGABORT = 1
          ∧ ((group s g).step = .rampDown → (group t g).step = .none ∧ (group t g).xp = (group s g).xp)))
    ∧ (∀ x : Fin 48, isCabinet s = true → x.val < mNxp s → coilMismatch s (mXpCoil s x) (mCoilFb s (mXpCoil s x)) = true →
        Does (.xpFbMismatch x) s (fun t => Demands t 0x0C (mXpCoil s x) false
          ∧ ((0x0C, mXpCoil s x) ∉ s.saf.cur → (0x0C, mXpCoil s x) ∉ s.saf.prev → rget t F.MTX_FLAGS_FBMISMATCH = 1)))
    ∧ (isCabinet s = true → g.val < mNgroup s → (group s g).lost = false →
        (group s g).stamp = none ∧ 100 ≤ s.tmp.now ∨ 100 ≤ sinceT s ((group s g).stamp.getD s.tmp.now) →
        Does (.groupLost g) s (fun t => (group t g).lost = true ∧ gPav t g = 0 ∧ rget t F.MTX_FLAGS_GRPLOST = 1))
    ∧ (isCabinet s = false → ∀ c ∈ [Instr.xpWeld g, .tVmatchExpiry g, .tXzcExpiry g, .migrationAbort g, .groupLost g, .xpFbMismatch 0],
        Does c s (fun t => t = s))

/-- Frames, shares and wear of the matrix. A command frame leaves on each CAN bus once in a 1 ms tempo, an entry for each of its groups (R156);
a status frame is accepted, the twentieth good one of a lost group making it available again, or discarded and counted (R158, R159). The 1 ms
division, once in its tempo, gives every group of a bus with no operation its share of the target within its bound (R151), and the
trims of a bus sum to zero, each within 5 % of its share (R152; the form of the loop is the model's, log entry 22); a trim at its bound for 1 s sets BALSAT. A
GRANT goes to each POST every 20 tempos or at once (R150, R343), and changed wear counters are handed on as one complete record (R11, R164). -/
def Obligations.MatrixFramesAndShares : Prop :=
  ∀ (s : State) (bus : Fin 2),
    (isCabinet s = true → canRuns s bus = true → s.tmp.running = true → crossesAt s 1000000 0 = true → canGroups s bus ≠ [] →
        Tab.get none s.mtx.sentAt bus ≠ some s.tmp.now →
        Does (.pgCommandSend bus) s (fun t => ∀ f ∈ (Tab.get none t.mtx.lastCmd bus).toList, f.id = 0x080 ∧ f.fd = true ∧ f.brs = true
          ∧ f.data.length = 64 ∧ (∀ k ∈ List.range 8, ∀ g ∈ (canGroups s bus)[k]?.toList,
            let b := leBytes 1 (group s g).mode ++ leBytes 1 (Tab.get 0 s.mtx.alive bus % 16 + 16 * g) ++ leBytes 2 (group s g).vset
              ++ leBytes 2 (gIset (group s g)) ++ leBytes 1 (match groupBus s g with | some b => 8 + b | none => 0)
            slice f.data (8 * k) 8 = b ++ leBytes 1 (crc8 b))))
    ∧ (isCabinet s = true → canRuns s bus = true → s.tmp.running = true → crossesAt s 1000000 0 = true → canGroups s bus ≠ [] →
        Tab.get none s.mtx.sentAt bus ≠ some s.tmp.now → Tab.get 0 s.mtx.alive bus < 32 →
        Does (.pgCommandSend bus) s (fun t => (Tab.get none t.mtx.lastCmd bus).isSome = true
          ∧ Tab.get none t.mtx.sentAt bus = some s.tmp.now ∧ Tab.get 0 t.mtx.alive bus % 16 = (Tab.get 0 s.mtx.alive bus + 1) % 16))
    ∧ (isCabinet s = false ∨ canRuns s bus = false ∨ s.tmp.running = false ∨ crossesAt s 1000000 0 = false ∨ canGroups s bus = []
          ∨ Tab.get none s.mtx.sentAt bus = some s.tmp.now → Does (.pgCommandSend bus) s (fun t => t = s))
    ∧ (∀ (id : Nat) (d : Bytes), isCabinet s = true → canRuns s bus = true → id < 0x190 → statusOk s bus id d = true →
        Does (.pgStatusRx bus id d) s (fun t =>
          let k := group t (id - 0x180)
          k.stamp = some s.tmp.now ∧ k.gstate = u8 d 0 % 16 ∧ k.fclass = u8 d 0 / 16 ∧ k.vout = u16 d 2 ∧ k.iout = i16 d 4 ∧ k.pavail = u8 d 6
          ∧ ((group s (id - 0x180)).lost = true → 19 ≤ (group s (id - 0x180)).goodRun → u8 d 0 % 16 ≠ 4 →
              k.lost = false ∧ rget t F.MTX_FLAGS_GRPBACK = 1)))
    ∧ (∀ (id : Nat) (d : Bytes), isCabinet s = true → canRuns s bus = true → statusOk s bus id d = false →
        Does (.pgStatusRx bus id d) s (fun t => t.mtx.grp = s.mtx.grp ∧ rget t F.MTX_FLAGS_CANERR = 1
          ∧ (rget s F.MTX_CANERR_COUNT < 65535 → rget t F.MTX_CANERR_COUNT = rget s F.MTX_CANERR_COUNT + 1)
          ∧ (8 < d.length → rget s F.MTX_LENERR_COUNT < 65535 → rget t F.MTX_LENERR_COUNT = rget s F.MTX_LENERR_COUNT + 1)))
    ∧ (∀ (b : Fin 8) (g : Fin 16), isCabinet s = true → s.tmp.running = true → crossesAt s 1000000 0 = true → s.mtx.msAt ≠ some s.tmp.now →
        s.saf.st ≠ .mate → inCheck s = false → b.val < mNbus s → mNgroup s ≤ 16 → g.val ∈ groupsOn s b →
        Does .balanceUpdate s (fun t => t.mtx.msAt = some s.tmp.now ∧ ((groupsOn s b).map (fun j => (group t j).trim)).sum = 0
          ∧ 20 * (group t g).trim ≤ ((group t g).share : Rat) ∧ -20 * (group t g).trim ≤ ((group t g).share : Rat)
          ∧ ((groupsOn s b).all (fun j => (group s j).step == .none) = true → (group t g).vset = (busSt s b).volt
            ∧ (0 < (groupsOn s b).foldl (fun a j => a + gPav s j) 0 → (group t g).limit =
                min (shareCap s g b) (busTarget s b * gPav s g / (groupsOn s b).foldl (fun a j => a + gPav s j) 0)))))
    ∧ (∀ g : Fin 16, isCabinet s = true → s.tmp.running = true → crossesAt s 1000000 0 = true → s.mtx.msAt ≠ some s.tmp.now →
        s.saf.st ≠ .mate → inCheck s = true → g.val < mNgroup s →
        Does .balanceUpdate s (fun t => (group t g).limit = 0 ∧ (group t g).trim = 0))
    ∧ (isCabinet s = false ∨ s.tmp.running = false ∨ crossesAt s 1000000 0 = false ∨ s.mtx.msAt = some s.tmp.now ∨ s.saf.st = .mate →
        Does .balanceUpdate s (fun t => t = s))
    ∧ (∀ (g : Fin 16) (u : Nat), (group s g).satSince = some u → 20000 ≤ sinceT s u → (group s g).satFlag = false →
        Does (.balanceSaturated g) s (fun t => (group t g).satFlag = true ∧ rget t F.MTX_FLAGS_BALSAT = 1))
    ∧ (∀ post ∈ posts s, isCabinet s = true → s.tmp.running = true → s.tmp.now % 20 = 0 ∧ s.lea.grantAt ≠ some s.tmp.now ∨ s.lea.grantNow = true → post < 0xFF →
        portOn s .lu = true → portOn s .ld = true → Does .grantSend s (fun t => t.lea.grantNow = false ∧ t.lea.grantAt = some s.tmp.now
          ∧ ∃ f ∈ t.lea.luTx ++ t.lea.ldTx, hTyp f.bytes = tyCmd ∧ hDst f.bytes = post ∧ f.bytes.drop 8 = cmdBody 2 (grantBody s post)))
    ∧ (isCabinet s = false ∨ s.tmp.running = false ∨ ((s.tmp.now % 20 ≠ 0 ∨ s.lea.grantAt = some s.tmp.now) ∧ s.lea.grantNow = false) → Does .grantSend s (fun t => t = s))
    ∧ (∀ c : Fin 64, (coil s c).dirty = true → Does (.wearPersist c) s (fun t =>
          t.saf.outbox = s.saf.outbox ++ [.wear (wearBytes s ((s.saf.wearMade + 1) % 2 ^ 32))]
          ∧ t.saf.wearMade = (s.saf.wearMade + 1) % 2 ^ 32 ∧ (coil t c).dirty = false))
    ∧ (∀ c : Fin 64, (coil s c).dirty = false → Does (.wearPersist c) s (fun t => t = s))

/-- Metering channels and energy points. A decimator output, one in a tempo of 10,000 cycles (R211), gives every live channel its corrected
value from D of the phase stage: y_raw − OFFSET, times 1 + G_T, and for a pilot channel less the reference (R210, R215), to its stream
and MTR_VALc, with OVR from 0.92 of full scale (R209); every energy point without a DEAD channel its power, and the energy of 50 µs with the fraction carried
(R228–R230); the residual current to stream 52 (R213); and each pilot line its next chip, drawn among those the second still has to send
(R219, R221). Silence makes a channel DEAD, MCLK mismatches its whole group, and twenty outputs bring it back (R208). G_T, D_T and G_P
change once, in the first tempo of a second or after the layout load (R216, R218); TSTALE and TRANGE come and go (R216, R217). Sensors on I²C
count once a second (R22). The chips of a second are laid out once for every pilot, a quarter +1, a quarter −1 and half 0 (R221), or none
while the generator has failed (R413). In the first tempo of a second a block of 20,000 good outputs ends in its estimate: the first is
taken, a later one moves g by α within 0.5 % of it, and one beyond is discarded with PILOUT, as is any block while the generator fails; a
spoilt block is discarded without a count (R222–R224). Demodulation and rounding are the model's (log entries 40 and 183). -/
def Obligations.MeterChannels : Prop :=
  ∀ (s : State) (c : Fin 16), mtrOn s = true →
    (∀ o : Decim, s.mtr.outs < outputsMax s → cUse s c ≠ 0 → (chan s c).dead = false →
        let d := phaseStage (chan s c).dT (((toSigned 32 (o.d.getD c 0).toNat) :: (chan s c).fir).take 6)
        let r := if cPilot s c then phaseStage (chan s c).dT (pilLine s (cPil s c)).mdl else 0
        let yt : Rat := (((d * cFs s c : Int) : Rat) / 1073741824 - (cOffset s c : Rat) / 256) * (1 + ((chan s c).gT : Rat) / 256000000)
        let y : Rat := if cPilot s c then yt * (1 + (chan s c).pil.gP / 1000000) - (cPilAmp s c : Rat) * ((r : Rat) / 1073741824) else yt
        Does (.decimatorOutput o) s (fun t =>
          (chan t c).val = sat32 (nearest (y * 256)) ∧ (Tab.get ⟨0, none⟩ t.strm c).val = nearest y
          ∧ (92 * 1073741824 ≤ 100 * d.natAbs → (chan t c).ovr = true ∧ rget t F.MTR_FLAGS_OVR = 1)
          ∧ (cPilot s c = true → (chan t c).pil.n = (chan s c).pil.n + 1) ∧ t.mtr.outs = s.mtr.outs + 1))
    ∧ (∀ (o : Decim) (n : Fin 8), s.mtr.outs < outputsMax s → eKind s n ≠ 0 → Does (.decimatorOutput o) s (fun t =>
          (epDead s n = true → Tab.get 0 t.mtr.power n = 0 ∧ Tab.get 0 t.mtr.frac (2 * n) = Tab.get 0 s.mtr.frac (2 * n))
          ∧ (epDead s n = false →
            let p := (epPower t n).1
            let j := 2 * n.val + b2n (decide (p < 0))
            let e := ((if p < 0 then -p else p) * 4294967296 / 72 + 1 / 2).floor.toNat + Tab.get 0 s.mtr.frac j
            Tab.get 0 t.mtr.power n = nearest p ∧ Tab.get 0 t.mtr.frac j = e % 4294967296
              ∧ (e / 4294967296 ≠ 0 → p ≠ 0 → (⟨s.tmp.chain, nextEdge s, n, decide (p < 0), s.mtr.irc, e / 4294967296⟩ : Inc) ∈ t.mtr.pend))))
    ∧ (∀ (o : Decim) (k : Fin 4), s.mtr.outs < outputsMax s → pilChan s k ≠ none →
        let p := pilLine s k
        Does (.decimatorOutput o) s (fun t =>
          let q := pilLine t k
          (0 < p.hold → q.cur = p.cur ∧ q.hold = p.hold - 1 ∧ q.plus = p.plus ∧ q.minus = p.minus ∧ q.zero = p.zero)
          ∧ (p.hold = 0 → p.plus + p.minus + p.zero = 0 → q.cur = 0)
          ∧ (p.hold = 0 → 0 < p.plus + p.minus + p.zero → q.hold = pilChip s k - 1
            ∧ ((q.cur = 1 ∧ q.plus + 1 = p.plus ∧ q.minus = p.minus ∧ q.zero = p.zero)
              ∨ (q.cur = -1 ∧ q.plus = p.plus ∧ q.minus + 1 = p.minus ∧ q.zero = p.zero)
              ∨ (q.cur = 0 ∧ q.plus = p.plus ∧ q.minus = p.minus ∧ q.zero + 1 = p.zero)))))
    ∧ (∀ o : Decim, s.mtr.outs < outputsMax s → cUse s c ≠ 0 → (chan s c).dead = true → Does (.decimatorOutput o) s (fun t =>
          (chan t c).val = (chan s c).val ∧ (chan t c).dead = true
          ∧ (chan t c).run = if o.trans.getLsbD c then (chan s c).run + 1 else 0))
    ∧ (∀ o : Decim, s.mtr.outs < outputsMax s → rcChannel s = some c.val → (chan s c).dead = false →
        Does (.decimatorOutput o) s (fun t => (Tab.get ⟨0, none⟩ t.strm 52).val = Config.demodulate (chan t c).hist))
    ∧ (∀ (o : Decim) (k : Fin 8) (v : Int), s.mtr.outs < outputsMax s → o.i2c = [(k, v)] → Does (.decimatorOutput o) s (fun t =>
          (Tab.get ⟨0, none⟩ t.mtr.i2c k) = if s.mtr.i2cMask.testBit k then Tab.get ⟨0, none⟩ s.mtr.i2c k else ⟨v, some s.tmp.now⟩))
    ∧ (∀ o : Decim, outputsMax s ≤ s.mtr.outs → Does (.decimatorOutput o) s (fun t => t = s))
    ∧ (∀ equal mis : Nat, cUse s c ≠ 0 → 1000 ≤ equal ∨ 8 ≤ mis → Does (.channelDead c equal mis) s (fun t => (chan t c).dead = true
          ∧ ((chan s c).dead = false → rget t F.MTR_FLAGS_DEAD = 1)
          ∧ (8 ≤ mis → ∀ i ∈ List.range 4, cUse s (4 * (c.val / 4) + i) ≠ 0 → (chan t (4 * (c.val / 4) + i)).dead = true)))
    ∧ (∀ equal mis : Nat, equal < 1000 → mis < 8 → Does (.channelDead c equal mis) s (fun t => t = s))
    ∧ ((chan s c).dead = true → 20 ≤ (chan s c).run → Does (.channelRecovered c) s (fun t => (chan t c).dead = false))
    ∧ ((chan s c).dead = false ∨ (chan s c).run < 20 → Does (.channelRecovered c) s (fun t => t = s))
    ∧ (s.tmp.running = true → s.mtr.tabSec ≠ some (secondOf s) → secTempo s = true ∨ s.tmp.first = true → cUse s c ≠ 0 →
        Does .tempTableUpdate s (fun t => (chan t c).gT = interp (cGt s c) (chan t c).tempUse
          ∧ (chan t c).dT = interp (cDt s c) (chan t c).tempUse ∧ (chan t c).pil.gP = (chan s c).pil.gNew
          ∧ (chan t c).tempUse = if cTsrc s c = 0xFF ∨ (chan t c).tempAt = none then 2500 else (chan t c).temp))
    ∧ (s.tmp.running = false ∨ s.mtr.tabSec = some (secondOf s) ∨ (secTempo s = false ∧ s.tmp.first = false) →
        Does .tempTableUpdate s (fun t => t = s))
    ∧ (cUse s c ≠ 0 → cTsrc s c ≠ 0xFF → 200000 ≤ s.tmp.now - (chan s c).tempAt.getD 0 →
        Does (.tstale c) s (fun t => (chan t c).tstale = true ∧ (chan t c).temp = (chan s c).temp
          ∧ (cLegal s c = true → (chan s c).tstale = false → rget t F.MTR_FLAGS_MFAULT = 1)))
    ∧ (cUse s c = 0 ∨ cTsrc s c = 0xFF ∨ s.tmp.now - (chan s c).tempAt.getD 0 < 200000 → Does (.tstale c) s (fun t => t = s))
    ∧ (∀ u, (chan s c).trange = true → (chan s c).back = some u → 200000 ≤ sinceT s u →
        Does (.trangeClear c) s (fun t => (chan t c).trange = false))
    ∧ ((chan s c).trange = false ∨ (chan s c).back = none → Does (.trangeClear c) s (fun t => t = s))
    ∧ (∀ k : Fin 4, pilChan s k ≠ none → s.mtr.drawSec ≠ some (secondOf s) → Does .pilotSequenceDraw s (fun t =>
          let q := if s.key.rngFail then 0 else 20000 / (4 * pilChip s k)
          (pilLine t k).plus = q ∧ (pilLine t k).minus = q ∧ (pilLine t k).zero = 2 * q ∧ (pilLine t k).hold = 0
          ∧ t.mtr.drawSec = some (secondOf s)))
    ∧ (s.mtr.drawSec = some (secondOf s) → Does .pilotSequenceDraw s (fun t => t = s))
    ∧ (cPilot s c = true → secTempo s = true → s.mtr.outs = 0 → s.mtr.blkSec ≠ some (secondOf s) → s.key.rngFail = false →
        (chan s c).pil.bad = false → (chan s c).pil.n = 20000 → cPilAmp s c ≠ 0 →
        detrended 20000 (chan s c).pil.sr (chan s c).pil.sr (chan s c).pil.skr (chan s c).pil.skr (chan s c).pil.srr ≠ 0 →
        let p := (chan s c).pil
        let e := (pilEstimate c s).1.1
        Does .pilotBlock s (fun t => (chan t c).pil.n = 0
          ∧ (p.k = 0 → (chan t c).pil.g = e ∧ (chan t c).pil.k = 1)
          ∧ (p.k ≠ 0 → 200 * |e - p.g| ≤ |p.g| → (chan t c).pil.k = p.k + 1
            ∧ (chan t c).pil.g = p.g + (if p.k + 1 ≤ 16 then 1 / ((p.k + 1 : Nat) : Rat) else 1 / 16) * (e - p.g))
          ∧ (p.k ≠ 0 → |p.g| < 200 * |e - p.g| → (chan t c).pil.g = p.g ∧ (chan t c).pil.k = p.k
            ∧ (chan t c).pil.discard = p.discard + 1 ∧ rget t F.MTR_FLAGS_PILOUT = 1)))
    ∧ (cPilot s c = true → secTempo s = true → s.mtr.outs = 0 → s.mtr.blkSec ≠ some (secondOf s) →
        s.key.rngFail = true ∨ (chan s c).pil.bad = true ∨ (chan s c).pil.n ≠ 20000 → Does .pilotBlock s (fun t =>
          (chan t c).pil.g = (chan s c).pil.g ∧ (chan t c).pil.k = (chan s c).pil.k ∧ (chan t c).pil.n = 0
          ∧ (chan t c).pil.discard = (chan s c).pil.discard + b2n s.key.rngFail
          ∧ (s.key.rngFail = true → rget t F.MTR_FLAGS_PILOUT = 1)))
    ∧ (secTempo s = false ∨ 0 < s.mtr.outs ∨ s.mtr.blkSec = some (secondOf s) → Does .pilotBlock s (fun t => t = s))

/-- The AC intake and the pulses. RMS over a mains cycle and its register (R239); a sag, swell or interruption on a single-phase intake
that starts, and that ends with its record (R243, R244); a positive crossing of VA (R240; the filter is free, log entries 183 and 186) and the frequency over 10 cycles every 10 ms; the phase
sequence within 100 ms (R241); missing neutral after more than 200 ms and its end after 200 ms (R242); SUMERR of each point that has
four channels (R245); a pulse on PO0, at most one in a tempo (R246); and the pulse counters (R247). -/
def Obligations.MeterGridAndPulses : Prop :=
  ∀ s : State, mtrOn s = true →
    (∀ c : Fin 16, epAc s ≠ none → acUse (cUse s c) = true →
        Does .rmsUpdate s (fun t => (chan t c).ms = meanSq (chan s c).hist (cycleLen s)
          ∧ ∀ n ∈ (epAc s).toList, eCh s n 0 = c.val → rget t (F.MTR_VRMS_RMS 0) = isqrt ((chan t c).ms / 6553600) % 2 ^ 32))
    ∧ (epAc s = none → Does .rmsUpdate s (fun t => t = s))
    ∧ (∀ n, epAc s = some n → eKind s n ≠ 2 → tUnom s ≠ 0 →
        (∀ c ∈ List.range 16, acUse (cUse s c) = true → (chan s c).ms = meanSq (chan s c).hist (cycleLen s)) →
        Does .rmsUpdate s (fun t =>
          (gridAt s 0 = none → gridType s 0 ≠ 0 → gridAt t 0 = some ⟨gridType s 0, s.tmp.chain, phasePm s 0⟩
            ∧ rget t F.MTR_GRIDEV0_TYPE = gridType s 0 ∧ rget t F.MTR_GRIDEV3_DUR = 0)
          ∧ (∀ e ∈ (gridAt s 0).toList, gridType s 0 = 0 → gridBack s e.typ 0 = true → gridAt t 0 = none
            ∧ rget t F.MTR_FLAGS_GRIDEV = 1
            ∧ t.bil.gridIn = s.bil.gridIn ++ [(e.typ, 0, e.ext, e.start, (s.tmp.chain - e.start) / 1000000)])))
    ∧ (∀ (c t0 : Nat), vaChan s = some c → phaseBelow s 0 200 = false → Does (.zeroCrossing t0) s (fun t =>
          let b := Config.fundamental (chan s c).hist
          let a := Config.fundamental ((chan s c).hist.drop 1)
          let x := (((t0 : Int) - 50000 * b / (b - a) - 718050 - Config.fundDelay + 5) / 10 * 10).toNat
          (a < 0 → 0 ≤ b → t.mtr.zc = (x :: s.mtr.zc).take 11 ∧ rget t F.MTR_ZCLO_TIME = x % 2 ^ 32
            ∧ rget t F.MTR_ZCHI_TIME = x / 2 ^ 32 % 2 ^ 32)
          ∧ (0 ≤ a ∨ b < 0 → t = s)))
    ∧ (∀ t0 : Nat, vaChan s = none ∨ phaseBelow s 0 200 = true → Does (.zeroCrossing t0) s (fun t => t = s))
    ∧ (∀ a b, s.mtr.zc[0]? = some a → s.mtr.zc[10]? = some b → b < a → phaseBelow s 0 200 = false → freqDue s = true →
        Does .freqUpdate s (fun t => (Tab.get ⟨0, none⟩ t.strm 62).val = ((10000000000000 + (a - b) / 2) / (a - b) : Nat)
          ∧ rget t F.MTR_FREQ_FREQ = (10000000000000 + (a - b) / 2) / (a - b) % 2 ^ 16 ∧ t.mtr.freqAt = some s.tmp.now))
    ∧ (s.mtr.zc.length ≤ 10 ∨ phaseBelow s 0 200 = true ∨ freqDue s = false → Does .freqUpdate s (fun t => t = s))
    ∧ (∀ (cyc : List (Int × Int)) (u : Nat), s.mtr.seqFrom = some u → Does (.phaseSequenceDecided cyc) s (fun t =>
          let five := cyc.length = 5 ∧ sinceT s u ≤ 2000
          let fwd := five ∧ ∀ p ∈ cyc, 90 ≤ p.1 ∧ p.1 ≤ 150 ∧ 90 ≤ p.2 ∧ p.2 ≤ 150
          let rev := five ∧ ∀ p ∈ cyc, 210 ≤ p.1 ∧ p.1 ≤ 270 ∧ 210 ≤ p.2 ∧ p.2 ≤ 270
          (fwd → rget t F.MTR_STATUS_SEQ = 1)
          ∧ (rev → rget t F.MTR_STATUS_SEQ = 2 ∧ rget t F.MTR_FLAGS_SEQREV = 1 ∧ t.bil.gridIn.length = s.bil.gridIn.length + 1)
          ∧ (¬fwd ∧ ¬rev → rget t F.MTR_STATUS_SEQ = 0)))
    ∧ (∀ cyc : List (Int × Int), s.mtr.seqFrom = none → Does (.phaseSequenceDecided cyc) s (fun t => t = s))
    ∧ (∀ (ep : Fin 8) u, epAc s = some ep.val → s.mtr.missAt = some u → 4001 ≤ sinceT s u → rget s F.MTR_STATUS_MISSN = 0 →
        Does (.missingNeutral ep) s (fun t => rget t F.MTR_STATUS_MISSN = 1 ∧ rget t F.MTR_FLAGS_MISSN = 1
          ∧ t.bil.gridIn.length = s.bil.gridIn.length + 1 ∧ t.mtr.missStart = s.tmp.chain))
    ∧ (∀ (ep : Fin 8) u, epAc s ≠ some ep.val ∨ s.mtr.missAt = none ∨ (s.mtr.missAt = some u ∧ sinceT s u ≤ 4000) ∨ rget s F.MTR_STATUS_MISSN = 1 →
        Does (.missingNeutral ep) s (fun t => t = s))
    ∧ (∀ (ep : Fin 8) u, epAc s = some ep.val → s.mtr.missOff = some u → 4000 ≤ sinceT s u → rget s F.MTR_STATUS_MISSN = 1 →
        Does (.missingNeutralClear ep) s (fun t => rget t F.MTR_STATUS_MISSN = 0
          ∧ (rget s F.MTR_GRIDEV0_TYPE = 4 → rget s F.MTR_GRIDEV3_DUR = 0 →
              rget t F.MTR_GRIDEV3_DUR = (s.tmp.chain - s.mtr.missStart) / 1000000 % 2 ^ 32)))
    ∧ (∀ (ep : Fin 8) u, epAc s ≠ some ep.val ∨ s.mtr.missOff = none ∨ (s.mtr.missOff = some u ∧ sinceT s u < 4000) ∨ rget s F.MTR_STATUS_MISSN = 0 →
        Does (.missingNeutralClear ep) s (fun t => t = s))
    ∧ (∀ n : Fin 8, Does .sumerr s (fun t => (sumSt t n).err
          = ((sumSt s n).err || decide (eKind s n = 2 ∧ (eIconf s n * tSumPct s * 256) ^ 2 < (sumSt s n).ms))))
    ∧ (∀ n : Fin 8, Does .sumerrClear s (fun t => (sumSt t n).err
          = ((sumSt s n).err && !(decide (eKind s n = 2) && ranFor s (sumSt s n).ok 200000))))
    ∧ (0 < s.mtr.poDue → s.mtr.poAt ≠ some s.tmp.now →
        Does .pulseOutput s (fun t => t.mtr.poDue = s.mtr.poDue - 1 ∧ t.mtr.poRem = s.mtr.poHigh ∧ t.mtr.poAt = some s.tmp.now
          ∧ (0 < s.mtr.poHigh → po0Level t = (tU8 s 0x11 == 1)) ∧ rget t F.PER_POCNT_COUNT = (rget s F.PER_POCNT_COUNT + 1) % 2 ^ 32))
    ∧ (s.mtr.poDue = 0 ∨ s.mtr.poAt = some s.tmp.now → Does .pulseOutput s (fun t => t = s))
    ∧ (∀ (k : Fin 4) (hi lo : Nat), Does (.pulseInput k hi lo) s (fun t => rget t (F.PER_PICNT_COUNT k)
          = if rbit s (F.PER_PICFG_EN k) = true ∧ max 10 (rget s (F.PER_PICFG_MINW k)) ≤ min hi lo
            then (rget s (F.PER_PICNT_COUNT k) + 1) % 2 ^ 32 else rget s (F.PER_PICNT_COUNT k)))
    ∧ (∀ (k : Fin 4) (v : Word) (pulse : Bool),
        Does (.picntWrite k v pulse) s (fun t => rget t (F.PER_PICNT_COUNT k) = (v.toNat + b2n pulse) % 2 ^ 32))

/-- The journal and the BIL mailbox. A write queues a command with its payload, or is rejected for its length or a full queue; in its turn a
command has its effect and its result, and a LEN outside its entry is BADARG (R44, R293). FLAGCLR and IENSET act on MTR, OPT and BIL as R32
says; TIMESLEW, TIMESTEP, CALLOAD, CALCOMMIT and CALCANCEL as R256–R259 and R264, the two that need a signature checked once no operation
of the engine is in progress (R410; log entry 188); RECREAD and REGREAD fill BIL_RECBUF, and a read the FRAM answers with an error clears
FRAMOK (R252; BADARG is the model's, log entry 187); SHOWCHECK shows the check value (R292). CRC and marker commit a journal entry, and one
that does not verify clears FRAMOK (R252, R278); FINAL comes 12 ms after PFW (R283). What a signature is worth stays in the conclusions, because no state of the model
decides it. -/
def Obligations.BilMailboxCommands : Prop :=
  ∀ (s : State) (len : Nat) (p : Bytes) (rd : Bool),
    (∀ x ∈ ([(.bilFlagclr .write len p, 1), (.bilIenset .write len p, 2), (.timeslew .write len p, 3), (.timestep .write len p, 4),
          (.calload .write len p, 5), (.calcommit .write len p, 6), (.calcancel .write len p, 7), (.recread .write len p, 8),
          (.regread .write len p, 9), (.showcheck .write len p, 10)] : List (Instr × Nat)),
        Does x.1 s (fun t =>
          (len ≤ 128 → s.bil.mbox.length < 8 → t.bil.mbox = s.bil.mbox ++ [⟨x.2, len, bilData (bilDataPut p s) len⟩])
          ∧ (128 < len → t.bil.mbox = s.bil.mbox ∧ rget t F.BIL_MBSTAT_RESULT = 9 ∧ rget t F.BIL_MBSTAT_LASTOP = x.2)
          ∧ (len ≤ 128 → 8 ≤ s.bil.mbox.length → t.bil.mbox = s.bil.mbox ∧ rget t F.BIL_FLAGS_MBFULL = 1)))
    ∧ (∀ x, x ∈ ([(.bilFlagclr .run len p, 1), (.bilIenset .run len p, 2), (.timeslew .run len p, 3), (.timestep .run len p, 4),
          (.calload .run len p, 5), (.calcommit .run len p, 6), (.calcancel .run len p, 7), (.recread (.run rd) len p, 8),
          (.regread (.run rd) len p, 9), (.showcheck .run len p, 10)] : List (Instr × Nat)) →
        bilTurn s x.2 = none → Does x.1 s (fun t => t = s))
    ∧ (∀ x c, x ∈ ([(.bilFlagclr .run len p, 1), (.bilIenset .run len p, 2), (.timeslew .run len p, 3), (.timestep .run len p, 4),
          (.calload .run len p, 5), (.calcommit .run len p, 6), (.calcancel .run len p, 7), (.recread (.run rd) len p, 8),
          (.regread (.run rd) len p, 9), (.showcheck .run len p, 10)] : List (Instr × Nat)) →
        bilTurn s x.2 = some c →
        (if x.2 ∈ [1, 2] then c.len ≠ 12 else if x.2 = 3 then c.len ≠ 8 else if x.2 = 4 then c.len ≠ 112
          else if x.2 = 5 then c.len < 5 ∨ 124 < c.len else if x.2 ∈ [8, 9] then c.len ≠ 4 else c.len ≠ 0) →
        engineBusy s = false → Does x.1 s (fun t => rget t F.BIL_MBSTAT_RESULT = 2 ∧ rget t F.BIL_MBSTAT_LASTOP = x.2
          ∧ rget t F.BIL_FLAGS_CMDREJ = 1 ∧ t.bil.mbox = s.bil.mbox.drop 1))
    ∧ (∀ e x, s.bil.jw = some e → s.bil.jq = [] → Tab.get none s.fram.jrn (e.seq % 64) = some x →
        Does (.journalWriteComplete true) s (fun t => Tab.get none t.fram.jrn (e.seq % 64) = some { x with crc := true, chk := true }
          ∧ t.bil.framOk = true ∧ rget t F.BIL_JRNL_SEQ = e.seq % 2 ^ 32 ∧ t.bil.jw = none))
    ∧ (∀ e, s.bil.jw = some e → s.bil.jq = [] → Does (.journalWriteComplete false) s (fun t => t.bil.framOk = false ∧ t.bil.ready = false
          ∧ t.fram.jrn = s.fram.jrn ∧ t.bil.jw = none ∧ (s.bil.framOk = true → s.bil.rdOk = true → rget t F.BIL_FLAGS_FRAMERR = 1)))
    ∧ (s.bil.jw = none → ∀ ok ∈ [true, false], Does (.journalWriteComplete ok) s (fun t => t = s))
    ∧ (∀ c fl, bilTurn s 1 = some c → c.len = 12 → let a := 0x10000000 + 0x10000 * u32 c.payload 0 + u32 c.payload 4
        u32 c.payload 0 ∈ bilBlocks → u32 c.payload 4 < 0x10000 → regFields a = some fl → clearable fl = true →
        Does (.bilFlagclr .run len p) s (fun t => rget t F.BIL_MBSTAT_RESULT = 0 ∧ rget t F.BIL_MBSTAT_LASTOP = 1
          ∧ t.bil.mbox = s.bil.mbox.drop 1
          ∧ (hasClr fl = true → (u32 c.payload 8).testBit 31 = true → rget t ⟨a, 0, 16, 0⟩ = 0)
          ∧ (hasClr fl = false → ∀ f ∈ fl, f.acc = .w1c → f.width = 1 → rget s (f.at a) < 2 →
              rget t (f.at a) = if (u32 c.payload 8).testBit f.lo then 0 else rget s (f.at a))))
    ∧ (∀ c, bilTurn s 1 = some c → c.len = 12 → u32 c.payload 0 ∉ bilBlocks →
        Does (.bilFlagclr .run len p) s (fun t => rget t F.BIL_MBSTAT_RESULT = 2 ∧ t.bil.mbox = s.bil.mbox.drop 1))
    ∧ (∀ c, ∀ f ∈ bilIens, bilTurn s 2 = some c → c.len = 12 → u32 c.payload 4 < 0x10000 →
        f.addr = 0x10000000 + 0x10000 * u32 c.payload 0 + u32 c.payload 4 →
        Does (.bilIenset .run len p) s (fun t => rget t f = u32 c.payload 8 % 2 ^ f.width
          ∧ rget t F.BIL_MBSTAT_RESULT = 0 ∧ rget t F.BIL_MBSTAT_LASTOP = 2 ∧ t.bil.mbox = s.bil.mbox.drop 1))
    ∧ (∀ c, bilTurn s 3 = some c → c.len = 8 → let d := toSigned 64 (u64 c.payload 0)
        Does (.timeslew .run len p) s (fun t => t.bil.mbox = s.bil.mbox.drop 1
          ∧ rget t F.BIL_MBSTAT_RESULT = (if 2000000000 < d.natAbs then 6 else if s.bil.legalValid = false then 8
              else if 2000000000 < quotaUsed s + d.natAbs then 7 else 0)
          ∧ (rget t F.BIL_MBSTAT_RESULT = 0 → t.bil.dyn.slew = d ∧ t.bil.dyn.off = s.bil.dyn.off
              ∧ t.bil.quota = s.bil.quota ++ [(s.tmp.chain, d.natAbs)])
          ∧ (rget t F.BIL_MBSTAT_RESULT ≠ 0 → t.bil.dyn = s.bil.dyn ∧ t.bil.quota = s.bil.quota)))
    ∧ (∀ c, bilTurn s 4 = some c → c.len = 112 → engineBusy s = false →
        let off := toSigned 64 (u64 c.payload 0x20)
        Does (.timestep .run len p) s (fun t => t.bil.mbox = s.bil.mbox.drop 1
          ∧ rget t F.BIL_MBSTAT_RESULT = (if c.payload.take 4 ≠ [0x4C, 0x54, 0x53, 0x54] ∨ u32 c.payload 0xC ≠ 0 ∨ u64 c.payload 0x28 ≠ 0 then 2
              else if u32 c.payload 4 ≠ siteId s then 0xD else if u32 c.payload 8 ≤ s.bil.dyn.stepSeq then 4
              else if s.tmp.chain < u64 c.payload 0x10 ∨ u64 c.payload 0x18 < s.tmp.chain then 5 else if s.bil.dyn.act = false then 0xC
              else if Config.sm2Verify (calTimeKey (calActive s)) (slice c.payload 0 0x30) (slice c.payload 0x30 64) = false then 3
              else if off - s.bil.dyn.off < -86400000000000 ∨ 31622400000000000 < off - s.bil.dyn.off then 6
              else if s.bil.legalValid = false ∧ (s.tmp.chain : Int) + off < (s.bil.dyn.hwm : Int) - 86400000000000 then 6 else 0)
          ∧ (rget t F.BIL_MBSTAT_RESULT = 0 → t.bil.stepTok = some off ∧ t.bil.dyn.stepSeq = u32 c.payload 8 ∧ t.bil.dyn.slew = 0
            ∧ t.bil.dyn.off = s.bil.dyn.off ∧ ∃ e ∈ t.bil.jw.toList ++ t.bil.jq, e.typ = 4 ∧ e.st.off = off)
          ∧ (rget t F.BIL_MBSTAT_RESULT ≠ 0 → t.bil.dyn = s.bil.dyn ∧ t.bil.stepTok = s.bil.stepTok)))
    ∧ (∀ c, bilTurn s 5 = some c → 5 ≤ c.len → c.len ≤ 124 → Does (.calload .run len p) s (fun t => t.bil.mbox = s.bil.mbox.drop 1
          ∧ (u16 c.payload 2 = 0 → u16 c.payload 0 + (c.payload.length - 4) ≤ calLen → rget t F.BIL_MBSTAT_RESULT = 0
            ∧ t.bil.calBuf = (slice s.bil.calBuf 0 calLen).take (u16 c.payload 0) ++ c.payload.drop 4
                ++ (slice s.bil.calBuf 0 calLen).drop (u16 c.payload 0 + (c.payload.drop 4).length))
          ∧ (u16 c.payload 2 ≠ 0 ∨ calLen < u16 c.payload 0 + (c.payload.length - 4) →
              rget t F.BIL_MBSTAT_RESULT = 2 ∧ t.bil.calBuf = s.bil.calBuf)))
    ∧ (∀ c, bilTurn s 6 = some c → c.len = 0 → s.bil.dyn.cal < 2 → engineBusy s = false →
        let b := slice s.bil.calBuf 0 calLen
        Does (.calcommit .run len p) s (fun t => t.bil.mbox = s.bil.mbox.drop 1
          ∧ rget t F.BIL_MBSTAT_RESULT = (if calOk (Config.tariffRoots (checkValue s)) b = false then 0xA
              else if s.bil.legalValid = false then 8 else if calActTime b < s.bil.legal + 60000000000 then 0xB else 0)
          ∧ (rget t F.BIL_MBSTAT_RESULT = 0 → t.bil.dyn.pas = true ∧ t.bil.dyn.cal = s.bil.dyn.cal
              ∧ calPassive t = slice b 0 0xFFC ++ leBytes 4 (crc32 (slice b 0 0xFFC)))
          ∧ (rget t F.BIL_MBSTAT_RESULT ≠ 0 → t.fram.cal = s.fram.cal ∧ t.bil.dyn = s.bil.dyn)))
    ∧ (∀ op c, op = 4 ∨ op = 6 → bilTurn s op = some c → engineBusy s = true →
        Does (if op = 4 then .timestep .run len p else .calcommit .run len p) s (fun t => t.bil = s.bil ∧ t.fram = s.fram))
    ∧ (∀ c, bilTurn s 7 = some c → c.len = 0 → Does (.calcancel .run len p) s (fun t => t.bil.dyn.pas = false
          ∧ rget t F.BIL_MBSTAT_RESULT = 0 ∧ t.bil.mbox = s.bil.mbox.drop 1))
    ∧ (∀ c, bilTurn s 8 = some c → c.len = 4 → let q := u32 c.payload 0
        1 ≤ q → q ≤ rget s F.BIL_RECSEQ_SEQ → rget s F.BIL_RECSEQ_SEQ < q + 2048 →
        Does (.recread (.run rd) len p) s (fun t => t.bil.mbox = s.bil.mbox.drop 1
          ∧ (rd = true → u32 (Tbl.get s.fram.ring (q % 2048) []) 4 = q → t.bil.rdOk = true ∧ rget t F.BIL_MBSTAT_RESULT = 0
            ∧ ∀ k : Fin 64, rget t (F.BIL_RECBUF_DATA k) = u32 (Tbl.get s.fram.ring (q % 2048) []) (4 * k))
          ∧ (rd = false → t.bil.rdOk = false ∧ t.bil.ready = false ∧ rget t F.BIL_MBSTAT_RESULT = 2
            ∧ (s.bil.framOk = true → s.bil.rdOk = true → rget t F.BIL_FLAGS_FRAMERR = 1))))
    ∧ (∀ c, bilTurn s 8 = some c → c.len = 4 → u32 c.payload 0 = 0 ∨ rget s F.BIL_RECSEQ_SEQ < u32 c.payload 0
          ∨ u32 c.payload 0 + 2048 ≤ rget s F.BIL_RECSEQ_SEQ →
        Does (.recread (.run rd) len p) s (fun t => t.bil.mbox = s.bil.mbox.drop 1 ∧ rget t F.BIL_MBSTAT_RESULT = 2))
    ∧ (∀ c, bilTurn s 9 = some c → c.len = 4 → u8 c.payload 0 < 8 → u8 c.payload 1 < 2 → u8 c.payload 2 = 0 → u8 c.payload 3 = 0 →
        Does (.regread (.run rd) len p) s (fun t => rget t F.BIL_MBSTAT_RESULT = 0 ∧ t.bil.mbox = s.bil.mbox.drop 1 ∧ ∀ k : Fin 64,
          rget t (F.BIL_RECBUF_DATA k) = u32 (regBlock (u8 c.payload 0) (u8 c.payload 1) 0 s.bil.dyn.period s.bil.dyn.perStart 0
            (lreg s (2 * u8 c.payload 0 + u8 c.payload 1))) (4 * k)))
    ∧ (∀ c, bilTurn s 9 = some c → c.len = 4 → u8 c.payload 0 < 8 → u8 c.payload 1 < 2 → 1 ≤ u8 c.payload 2 → u8 c.payload 2 ≤ 13 →
        u8 c.payload 3 = 0 → Does (.regread (.run rd) len p) s (fun t => t.bil.mbox = s.bil.mbox.drop 1
          ∧ (rd = false → t.bil.rdOk = false ∧ t.bil.ready = false ∧ rget t F.BIL_MBSTAT_RESULT = 2)
          ∧ (rd = true → t.bil.rdOk = true ∧ (histBack s (u8 c.payload 2) = none → rget t F.BIL_MBSTAT_RESULT = 2)
            ∧ ∀ h ∈ (histBack s (u8 c.payload 2)).toList, rget t F.BIL_MBSTAT_RESULT = 0 ∧ ∀ k : Fin 64,
              rget t (F.BIL_RECBUF_DATA k) = u32 (regBlock (u8 c.payload 0) (u8 c.payload 1) (u8 c.payload 2) h.seq h.start h.stop
                (Tab.get LReg.reset h.reg (2 * u8 c.payload 0 + u8 c.payload 1))) (4 * k))))
    ∧ (∀ c, bilTurn s 9 = some c → c.len = 4 → 8 ≤ u8 c.payload 0 ∨ 2 ≤ u8 c.payload 1 ∨ 13 < u8 c.payload 2 ∨ u8 c.payload 3 ≠ 0 →
        Does (.regread (.run rd) len p) s (fun t => t.bil.mbox = s.bil.mbox.drop 1 ∧ rget t F.BIL_MBSTAT_RESULT = 2))
    ∧ (∀ c, bilTurn s 10 = some c → c.len = 0 →
        Does (.showcheck .run len p) s (fun t => t.bil.chk = some (1, s.tmp.now) ∧ rget t F.BIL_MBSTAT_RESULT = 0
          ∧ t.bil.mbox = s.bil.mbox.drop 1))
    ∧ (Does .bilEvqRead s (fun t => t.bil.evq = s.bil.evq.drop 1 ∧ t.resp = ⟨false, (bilHead s).data / 65536⟩))
    ∧ (s.pwr.pfw = true → s.pwr.pfwFinal = false → 240 ≤ sinceT s s.pwr.pfwAt →
        Does .finalEntry s (fun t => t.pwr.pfwFinal = true ∧ ∃ e ∈ t.bil.jw.toList ++ t.bil.jq, e.typ = 7 ∧ e.st = s.bil.dyn))
    ∧ (s.pwr.pfw = false ∨ s.pwr.pfwFinal = true ∨ sinceT s s.pwr.pfwAt < 240 → Does .finalEntry s (fun t => t = s))

/-- The optical port. A sign-on in IDLE is answered, one with a parity error discarded, and an acknowledgement sets the baud rate, while any other,
a late SNRM or a gap returns the port to idle (R289). An HDLC frame with an error is discarded, one for another address ignored, one with
more than 128 information bytes a length error; the others connect, disconnect, open and release the association, and ask for the next
frame of 128 bytes or the next block of a reply (R290). GET answers an object under its class and is undefined otherwise, SET is
answered read-write-denied, and the check-value script shows the check value (R290–R292); 120 s without a frame end the connection
(R290). The encoding of a service is the external standard's (log entry 45). -/
def Obligations.OpticalCommands : Prop :=
  ∀ s : State, mtrOn s = true →
    (∀ ch, ch ∈ signOns s → s.opt.st = .idle →
        Does (.optSignon ch true) s (fun t => t.opt.st = .ident ∧ t.opt.tx = identReply ∧ rget t F.OPT_FLAGS_SIGNON = 1))
    ∧ (∀ ch, s.opt.st = .idle → Does (.optSignon ch false) s (fun t => t.opt.st = .idle ∧ rget t F.OPT_FLAGS_FRMERR = 1))
    ∧ (∀ ch par, s.opt.st ≠ .idle ∨ (par = true ∧ ch ∉ signOns s) → Does (.optSignon ch par) s (fun t => t = s))
    ∧ (∀ z, z ≤ 6 → s.opt.st = .ident → s.opt.acked = false →
        Does (.optBaudAck [0x06, 0x32, BitVec.ofNat 8 (0x30 + z), 0x32, 0x0D, 0x0A]) s (fun t => t.opt.acked = true ∧ t.opt.baud = z
          ∧ t.opt.st = .ident))
    ∧ (∀ ch, s.opt.st = .ident → s.opt.acked = false → (∀ z ∈ List.range 7, ch ≠ [0x06, 0x32, BitVec.ofNat 8 (0x30 + z), 0x32, 0x0D, 0x0A]) →
        Does (.optBaudAck ch) s (fun t => t.opt.st = .idle ∧ t.opt.baud = 0 ∧ rget t F.OPT_FLAGS_TIMEOUT = 1))
    ∧ (∀ ch, s.opt.st ≠ .ident ∨ s.opt.acked = true → Does (.optBaudAck ch) s (fun t => t = s))
    ∧ (∀ ms, s.opt.st = .ident → (s.opt.acked = false ∧ 1500 < ms) ∨ (s.opt.acked = true ∧ 2000 ≤ ms) →
        Does (.optIdleTimeout ms) s (fun t => t.opt.st = .idle ∧ t.opt.baud = 0 ∧ rget t F.OPT_FLAGS_TIMEOUT = 1))
    ∧ (∀ ms, s.opt.st ≠ .ident ∨ (s.opt.acked = false ∧ ms ≤ 1500) ∨ (s.opt.acked = true ∧ ms < 2000) →
        Does (.optIdleTimeout ms) s (fun t => t = s))
    ∧ (∀ f : HdlcRx, f.ok = false → Does (.optHdlcFrame f) s (fun t => t.opt = s.opt ∧ rget t F.OPT_FLAGS_FRMERR = 1
          ∧ (rget s F.OPT_FRMERR_COUNT < 65535 → rget t F.OPT_FRMERR_COUNT = rget s F.OPT_FRMERR_COUNT + 1)))
    ∧ (∀ f : HdlcRx, f.ok = true → f.upper ≠ 0x01 ∨ f.lower ≠ 0x11 ∨ f.client ≠ 0x10 → Does (.optHdlcFrame f) s (fun t => t = s))
    ∧ (∀ n k, 128 < n → rget s F.OPT_LENERR_COUNT < 65535 → Does (.optHdlcFrame ⟨true, 0x01, 0x11, 0x10, n, k⟩) s (fun t => t.opt = s.opt
          ∧ rget t F.OPT_LENERR_COUNT = rget s F.OPT_LENERR_COUNT + 1))
    ∧ (∀ n, n ≤ 128 → s.opt.st = .ident → s.opt.acked = true →
        Does (.optHdlcFrame ⟨true, 0x01, 0x11, 0x10, n, .snrm⟩) s (fun t => t.opt.st = .hdlc ∧ t.opt.lastAt = s.tmp.now))
    ∧ (∀ n a, n ≤ 128 → s.opt.st = .hdlc → Does (.optHdlcFrame ⟨true, 0x01, 0x11, 0x10, n, .aarq a⟩) s (fun t =>
          (a.ln = true → a.auth = false → a.cipher = false → t.opt.st = .assoc ∧ rget t F.OPT_FLAGS_ASSOC = 1
            ∧ t.opt.pdu = if a.pdu = 0 then 1024 else min 1024 a.pdu)
          ∧ (a.ln = false ∨ a.auth = true ∨ a.cipher = true → t.opt.st = .hdlc ∧ t.opt.lastAt = s.tmp.now)))
    ∧ (∀ n, n ≤ 128 → s.opt.st = .hdlc ∨ s.opt.st = .assoc → Does (.optHdlcFrame ⟨true, 0x01, 0x11, 0x10, n, .disc⟩) s (fun t =>
          t.opt.st = .idle ∧ t.opt.baud = 0 ∧ (s.opt.st = .assoc → rget t F.OPT_FLAGS_RELEASE = 1)))
    ∧ (∀ n k, n ≤ 128 → s.opt.st = .assoc → k = .rlrq ∨ k = .snrm → Does (.optHdlcFrame ⟨true, 0x01, 0x11, 0x10, n, k⟩) s (fun t =>
          t.opt.st = .hdlc ∧ rget t F.OPT_FLAGS_RELEASE = 1))
    ∧ (∀ n, n ≤ 128 → s.opt.st = .assoc → s.opt.seg ≠ [] → Does (.optHdlcFrame ⟨true, 0x01, 0x11, 0x10, n, .rr⟩) s (fun t =>
          t.opt.tx = s.opt.seg.take 128 ∧ t.opt.seg = s.opt.seg.drop 128 ∧ t.opt.st = .assoc))
    ∧ (∀ n, n ≤ 128 → s.opt.st = .assoc → s.opt.seg = [] → s.opt.blk ≠ [] →
        Does (.optHdlcFrame ⟨true, 0x01, 0x11, 0x10, n, .next⟩) s (fun t => t.opt.tx = (s.opt.blk.take s.opt.pdu).take 128
          ∧ t.opt.seg = (s.opt.blk.take s.opt.pdu).drop 128 ∧ t.opt.blk = s.opt.blk.drop s.opt.pdu))
    ∧ (s.opt.st = .hdlc ∨ s.opt.st = .assoc → 2400000 ≤ sinceT s s.opt.lastAt →
        Does .optInactivityTimeout s (fun t => t.opt.st = .idle ∧ rget t F.OPT_FLAGS_TIMEOUT = 1))
    ∧ ((s.opt.st ≠ .hdlc ∧ s.opt.st ≠ .assoc) ∨ sinceT s s.opt.lastAt < 2400000 → Does .optInactivityTimeout s (fun t => t = s))
    ∧ (∀ cls obis sel, s.opt.st = .assoc → Does (.dlmsGet ⟨cls, obis⟩ sel) s (fun t => t.opt.lastAt = s.tmp.now
          ∧ (∀ b ∈ (optObject s obis sel).toList, cls = optClass obis → t.opt.res = 0 ∧ t.opt.tx = (b.take s.opt.pdu).take 128
            ∧ t.opt.seg = (b.take s.opt.pdu).drop 128 ∧ t.opt.blk = b.drop s.opt.pdu)
          ∧ (optObject s obis sel = none ∨ cls ≠ optClass obis → t.opt.res = 4 ∧ t.opt.tx = [])))
    ∧ (∀ b : Fin 8, s.opt.st = .assoc → 8 ≤ s.opt.pdu → Does (.dlmsGet ⟨3, [1, b.val + 1, 1, 8, 0, 255]⟩ none) s (fun t =>
          t.opt.res = 0 ∧ t.opt.tx = leBytes 8 (lreg s (2 * b)).total))
    ∧ (∀ obis, s.opt.st = .assoc → obis ≠ [] →
        Does (.dlmsSet obis) s (fun t => t.opt.res = 3 ∧ t.bil = s.bil ∧ t.regs = s.regs))
    ∧ (s.opt.st = .assoc → Does (.dlmsAction [0, 0, 10, 128, 0, 255] 1) s (fun t => t.bil.chk = some (1, s.tmp.now) ∧ t.opt.res = 0
          ∧ rget t F.OPT_FLAGS_SHOWREQ = 1 ∧ rget t F.BIL_FLAGS_CHECKSHOW = 1))
    ∧ (∀ obis k, s.opt.st = .assoc → obis ≠ [0, 0, 10, 128, 0, 255] ∨ k ≠ 1 → Does (.dlmsAction obis k) s (fun t => t.opt.res = 4
          ∧ t.bil = s.bil ∧ t.regs = s.regs))
    ∧ (∀ cls obis sel k, s.opt.st ≠ .assoc → ∀ c ∈ [Instr.dlmsGet ⟨cls, obis⟩ sel, .dlmsSet obis, .dlmsAction obis k], Does c s (fun t => t = s))

/-- The displays and the crack loop: the service button held for 1 s shows the check value, its two screens of 10 s each, and the billing
outlets in turn every 5 s (R292, R460); LCD_SEG keeps the legal segments, and LEGALWR sets where a register holds any (R458); VLCD sets
PUMPOK and PUMPERR (R455), and a loop above 20 kΩ, measured every 250 ms in S0–S2, is a crack until the next reset (R462). With the FIELD domain off a
write or a measurement has no effect. -/
def Obligations.DisplayCommands : Prop :=
  ∀ s : State,
    (∀ ms, mtrOn s = true → sec s 9 ≠ [] → dSvcBtn s < 24 → 1000 ≤ ms → s.fz.si.testBit (dSvcBtn s) = true →
        Does (.serviceButton ms) s (fun t => t.bil.chk = some (1, s.tmp.now) ∧ rget t F.BIL_FLAGS_CHECKSHOW = 1))
    ∧ (∀ ms, mtrOn s = false ∨ sec s 9 = [] ∨ 24 ≤ dSvcBtn s ∨ ms < 1000 ∨ s.fz.si.testBit (dSvcBtn s) = false →
        Does (.serviceButton ms) s (fun t => t = s))
    ∧ (∀ k u, s.bil.chk = some (k, u) → Does .checkScreenAdvance s (fun t =>
          (200000 ≤ sinceT s u → k = 1 → t.bil.chk = some (2, s.tmp.now)) ∧ (200000 ≤ sinceT s u → k = 2 → t.bil.chk = none)
          ∧ (sinceT s u < 200000 → t = s)))
    ∧ (s.bil.chk = none → Does .checkScreenAdvance s (fun t => t = s))
    ∧ (mtrOn s = true → 100000 ≤ sinceT s s.bil.shownAt → legalOutlets s ≠ [] →
        Does .legalFieldRotate s (fun t => t.bil.shownAt = s.tmp.now ∧ t.bil.shown ∈ legalOutlets s
          ∧ ((∃ n ∈ legalOutlets s, s.bil.shown < n) → s.bil.shown < t.bil.shown)))
    ∧ (mtrOn s = true → 100000 ≤ sinceT s s.bil.shownAt → legalOutlets s = [] →
        Does .legalFieldRotate s (fun t => t.bil.shown = s.bil.shown ∧ t.bil.shownAt = s.tmp.now))
    ∧ (mtrOn s = false ∨ sinceT s s.bil.shownAt < 100000 → Does .legalFieldRotate s (fun t => t = s))
    ∧ (∀ (k : Fin 16) (v : Word), lcdOn s = true →
        let m := segReg (dLmask s) k
        let w := if k.val % 2 = 0 then v.toNat else v.toNat % 65536
        Does (.lcdSegWrite k v) s (fun t => t.legalSeg = s.legalSeg ∧ rget t (F.LCD_SEG_SEG k) = (w ^^^ (w &&& m))
          ∧ (m ≠ 0 → rget t F.LCD_FLAGS_LEGALWR = 1)))
    ∧ (lcdOn s = true → Does (.vlcdLeftWindow true) s (fun t => rget t F.LCD_STATUS_PUMPOK = 1))
    ∧ (lcdOn s = true → Does (.vlcdLeftWindow false) s (fun t => rget t F.LCD_STATUS_PUMPOK = 0
          ∧ (rget s F.LCD_STATUS_PUMPOK = 1 → rget t F.LCD_FLAGS_PUMPERR = 1)))
    ∧ (∀ ohm, lcdOn s = true → s.pwr.sys ≠ .s3 → s.pwr.sys ≠ .s4 → (∀ k ∈ s.lcd.crackAt.toList, k + 5000 ≤ s.tmp.now) →
        Does (.crackMeasure ohm) s (fun t => rget t F.LCD_FLAGS_MEAS = 1 ∧ t.lcd.crackAt = some s.tmp.now
          ∧ rget t F.LCD_CRACK_RES = (if 100000 < ohm then 0x1FFFF else ohm)
          ∧ (20000 < ohm → rget t F.LCD_STATUS_CRACK = 1 ∧ (rget s F.LCD_STATUS_CRACK = 0 → rget t F.LCD_FLAGS_CRACK = 1))
          ∧ (ohm ≤ 20000 → rget t F.LCD_STATUS_CRACK = rget s F.LCD_STATUS_CRACK)))
    ∧ (∀ ohm, lcdOn s = false ∨ s.pwr.sys = .s3 ∨ s.pwr.sys = .s4 ∨ (∃ k ∈ s.lcd.crackAt.toList, s.tmp.now < k + 5000) →
        Does (.crackMeasure ohm) s (fun t => t = s))
    ∧ (∀ (k : Fin 16) (v : Word), lcdOn s = false → Does (.lcdSegWrite k v) s (fun t => t = s))
    ∧ (∀ b : Bool, lcdOn s = false → Does (.vlcdLeftWindow b) s (fun t => t = s))

/-- The SLAC engine of a V port and the message timers: each frame of R308 in its state, with the timers of R309, a new RunID (R310), the
sounds of the window on the port and on the ports that listen (R308, R311), the averages at its end, SLACRST, EN (R312), and the two message
timers of each outlet, with the REQ STOP that ACT places in ENERGY (R313, R314). A frame that the engine does not wait for, of another
RunID, or on a modem that is off, changes nothing, and a timer that has not run out does nothing. The averages of a window without sound are
free (log entry 4). -/
def Obligations.SlacAndMessageTimers : Prop :=
  ∀ (s : State) (p : Fin 4) (run mac : Bytes),
    (hpOn s p = true → (vport s p).slac = .waitParm →
        Does (.slacParmReqRx p run mac) s (fun t => (vport t p).slac = .waitStart ∧ (vport t p).runId = slice run 0 8
          ∧ (vport t p).init = none ∧ (vport t p).seqT = some s.tmp.now ∧ (vport t p).nsound = 0 ∧ (vport t p).att = []
          ∧ rget t (F.VEH_RUNID0_RUNID p) = digestWord (slice run 0 8) 0 ∧ rget t (F.VEH_RUNID1_RUNID p) = digestWord (slice run 0 8) 1
          ∧ rget t (F.VEH_FLAGS_PARM p) = 1))
    ∧ (hpOn s p = true → (vport s p).slac ∈ [SlacSt.waitStart, .sounding, .waitMatch] → ownRun s p run = false →
        Does (.slacParmReqRx p run mac) s (fun t => (vport t p).slac = .waitStart ∧ (vport t p).runId = slice run 0 8
          ∧ (vport t p).win = none ∧ (vport t p).resp = none ∧ (vport t p).nsound = 0 ∧ (vport t p).att = []
          ∧ (vport t p).seqT = some s.tmp.now ∧ rget t (F.VEH_FLAGS_RUNID p) = 1 ∧ rget t (F.VEH_FLAGS_PARM p) = 1))
    ∧ (hpOn s p = true → (vport s p).slac ∈ [SlacSt.waitStart, .waitMatch] → ownRun s p run = true →
        Does (.slacParmReqRx p run mac) s (fun t => (vport t p).slac = (vport s p).slac ∧ (vport t p).seqT = some s.tmp.now))
    ∧ (hpOn s p = false ∨ (vport s p).slac ∈ [SlacSt.off, .waitJoin, .joined, .failed] →
        Does (.slacParmReqRx p run mac) s (fun t => t = s))
    ∧ (hpOn s p = true → ownRun s p run = true → (vport s p).slac = .waitStart →
        Does (.startAttenCharRx p run) s (fun t => (vport t p).slac = .sounding ∧ (vport t p).win = some s.tmp.now
          ∧ (vport t p).seqT = none ∧ (vport t p).nsound = 0))
    ∧ (hpOn s p = true → ownRun s p run = true → (vport s p).slac = .waitMatch →
        Does (.startAttenCharRx p run) s (fun t => (vport t p).slac = .waitMatch ∧ (vport t p).seqT = some s.tmp.now))
    ∧ (hpOn s p = true → ownRun s p run = true → (vport s p).slac = .sounding →
        Does (.startAttenCharRx p run) s (fun t => (vport t p).win = (vport s p).win ∧ (vport t p).slac = .sounding
          ∧ (vport t p).nsound = (vport s p).nsound ∧ (vport t p).att = (vport s p).att))
    ∧ (hpOn s p = false ∨ ownRun s p run = false → Does (.startAttenCharRx p run) s (fun t => t = s))
    ∧ (∀ att : List Nat, hpOn s p = true → ownRun s p run = true → (vport s p).slac = .sounding →
        Does (.mnbcSoundRx p run att) s (fun t => (vport t p).nsound = min 255 ((vport s p).nsound + 1) ∧ (vport t p).slac = .sounding
          ∧ ∀ g : Fin 58, (vport t p).att.getD g 0 = (vport s p).att.getD g 0 + att.getD g 0))
    ∧ (∀ (att : List Nat) (q : Fin 4), hpOn s p = true → (vport s p).slac = .off ∨ (vport s p).slac = .waitParm → q ≠ p →
        (vport s q).slac = .sounding → ownRun s q run = true →
        Does (.mnbcSoundRx p run att) s (fun t => (Tab.get (0, 0) (vport t q).xsum p).2 = (Tab.get (0, 0) (vport s q).xsum p).2 + 1
          ∧ (vport t q).nsound = (vport s q).nsound ∧ (vport t p).slac = (vport s p).slac))
    ∧ (∀ att : List Nat, hpOn s p = false ∨ (vport s p).slac = .sounding ∧ ownRun s p run = false
          ∨ (vport s p).slac ∈ [SlacSt.waitStart, .waitMatch, .waitJoin, .joined, .failed] →
        Does (.mnbcSoundRx p run att) s (fun t => t = s))
    ∧ (∀ u, (vport s p).slac = .sounding → (vport s p).win = some u → u + mnbc s p ≤ s.tmp.now → (vport s p).nsound < 256 →
        Does (.mnbcWindowExpiry p) s (fun t => (vport t p).slac = .waitMatch ∧ (vport t p).seqT = some s.tmp.now
          ∧ (vport t p).win = none ∧ rget t (F.VEH_SLACS_NSOUND p) = (vport s p).nsound ∧ rget t (F.VEH_FLAGS_ATTEN p) = 1
          ∧ ((vport s p).nsound ≠ 0 → rget t (F.VEH_ATTEN0_ATT p) = digestWord ([0, 1, 2, 3].map (fun g =>
              BitVec.ofNat 8 ((2 * (vport s p).att.getD g 0 + (vport s p).nsound) / (2 * (vport s p).nsound)))) 0)
          ∧ ((∀ q : Fin 4, (Tab.get (0, 0) (vport s p).xsum q).2 = 0) → rget t (F.VEH_XATT_ATT p) = 0xFFFFFFFF)))
    ∧ ((vport s p).slac ≠ .sounding ∨ (vport s p).win = none ∨ (∀ u ∈ (vport s p).win.toList, s.tmp.now < u + mnbc s p) →
        Does (.mnbcWindowExpiry p) s (fun t => t = s))
    ∧ (hpOn s p = true → ownRun s p run = true → (vport s p).slac = .waitMatch →
        Does (.attenCharIndTx p run) s (fun t => (vport t p).seqT = some s.tmp.now)
        ∧ Does (.attenCharRspRx p run) s (fun t => (vport t p).seqT = some s.tmp.now)
        ∧ Does (.slacMatchReqRx p run) s (fun t => rget t (F.VEH_FLAGS_MATCH p) = 1 ∧ (vport t p).slac = .waitMatch
          ∧ (vport t p).seqT = some s.tmp.now)
        ∧ Does (.slacMatchCnfTx p run) s (fun t => (vport t p).slac = .waitJoin ∧ (vport t p).join = some s.tmp.now
          ∧ (vport t p).seqT = none))
    ∧ (hpOn s p = false ∨ ownRun s p run = false ∨ (vport s p).slac ≠ .waitMatch →
        Does (.slacMatchReqRx p run) s (fun t => t = s) ∧ Does (.slacMatchCnfTx p run) s (fun t => t = s))
    ∧ (hpOn s p = true → ownRun s p run = true → (vport s p).slac ∈ [SlacSt.waitStart, .sounding, .waitMatch, .waitJoin, .joined] →
        Does (.attenCharIndTx p run) s (fun t => (vport t p).resp = some s.tmp.now ∧ (vport t p).slac = (vport s p).slac)
        ∧ Does (.attenCharRspRx p run) s (fun t => (vport t p).resp = none ∧ (vport t p).slac = (vport s p).slac))
    ∧ (hpOn s p = false ∨ ownRun s p run = false ∨ (vport s p).slac ∈ [SlacSt.off, .waitParm, .failed] →
        Does (.attenCharIndTx p run) s (fun t => t = s) ∧ Does (.attenCharRspRx p run) s (fun t => t = s))
    ∧ ((vport s p).slac = .waitJoin →
        Does (.evJoin p) s (fun t => (vport t p).slac = .joined ∧ (vport t p).join = none ∧ rget t (F.VEH_FLAGS_JOINED p) = 1))
    ∧ ((vport s p).slac ≠ .waitJoin → Does (.evJoin p) s (fun t => t = s))
    ∧ ((vport s p).slac = .joined →
        Does (.evLeave p) s (fun t => (vport t p).slac = .failed ∧ rget t (F.VEH_FLAGS_LINKDOWN p) = 1))
    ∧ ((vport s p).slac ≠ .joined → Does (.evLeave p) s (fun t => t = s))
    ∧ (∀ (k : SlacTimer) (u : Nat), (vport s p).slac ≠ .off → slacTimer (vport s p) k = some u → u + slacLimit s p k ≤ s.tmp.now →
        Does (.slacTimerExpiry p k) s (fun t => (vport t p).slac = .failed ∧ (vport t p).tmr = slacCode k
          ∧ slacTimer (vport t p) k = none ∧ rget t (F.VEH_FLAGS_SLACTO p) = 1))
    ∧ (∀ k : SlacTimer, (vport s p).slac = .off ∨ (∀ u ∈ (slacTimer (vport s p) k).toList, s.tmp.now < u + slacLimit s p k) →
        Does (.slacTimerExpiry p k) s (fun t => t = s))
    ∧ ((vport s p).slac ≠ .off →
        Does (.slacrst p) s (fun t => (vport t p).slac = .waitParm ∧ (vport t p).init = some s.tmp.now ∧ (vport t p).runId = []
          ∧ (vport t p).seqT = none ∧ (vport t p).resp = none ∧ (vport t p).join = none ∧ (vport t p).win = none
          ∧ (vport t p).nsound = 0 ∧ (vport t p).att = [] ∧ rget t (F.VEH_SLACS_NSOUND p) = 0))
    ∧ ((vport s p).slac = .off → Does (.slacrst p) s (fun t => t = s))
    ∧ Does (.hpcfgEnWrite p true) s (fun t => rget t (F.VEH_HPCFG_EN p) = 1)
    ∧ (vIn s p [.plugged, .authWait, .negotiate, .cableCheck, .precharge, .energy, .rampDown, .weldCheck] = false →
        Does (.hpcfgEnWrite p false) s (fun t => rget t (F.VEH_HPCFG_EN p) = 0))
    ∧ (vIn s p [.plugged, .authWait, .negotiate, .cableCheck, .precharge, .energy, .rampDown, .weldCheck] = true →
        Does (.hpcfgEnWrite p false) s (fun t => t = s))
    ∧ (∀ k : Fin 2, Does (.mtimStart p k) s (fun t => Tab.get none (vport t p).mt k = some (s.tmp.chain / 1000000))
        ∧ Does (.mtimStop p k) s (fun t => Tab.get none (vport t p).mt k = none))
    ∧ (∀ (k : Fin 2) (m : Nat), Tab.get none (vport s p).mt k = some m → m + max 1 (mtimPreset s p k) ≤ s.tmp.chain / 1000000 →
        Does (.mtimExpiry p k) s (fun t => Tab.get none (vport t p).mt k = none
          ∧ rget t (if k.val = 0 then F.VEH_FLAGS_MTEXP0 p else F.VEH_FLAGS_MTEXP1 p) = 1
          ∧ (mtimAct s p k = true → (outShown s p).st = .energy → (vport t p).stopReq = true)
          ∧ (mtimAct s p k = false ∨ (outShown s p).st ≠ .energy → (vport t p).stopReq = (vport s p).stopReq)))
    ∧ (∀ (k : Fin 2), (∀ m ∈ (Tab.get none (vport s p).mt k).toList, s.tmp.chain / 1000000 < m + max 1 (mtimPreset s p k)) →
        Does (.mtimExpiry p k) s (fun t => t = s))

/-- Frames of the vehicle and switch ports. An owned transmit descriptor of a running ring is sent and handed back with its time, and its
MT0S and MT1S start the message timers of the outlet that names the port (R313, R316); LEN 0 completes without a frame, LEN above 1,514 is
rejected and counted (R44), LEN 1–13 or a buffer outside the range sets ERR and BUFERR (R316); a descriptor not owned is left alone (R315).
A received frame goes to the next receive descriptor; without one it waits in the FIFO; one longer than LEN is rejected and counted with
the descriptor kept; a descriptor whose buffer lies outside the range is handed back with BUFERR; a frame that does not fit is dropped and
counted (R317). A 10BASE-T1S port without a frame for LINKTO sets QUIET, and again after each further LINKTO (R319). A port that is off
takes nothing. -/
def Obligations.VehicleFrames : Prop :=
  ∀ (s : State) (ns : Nat) (own : Bool) (coll : Nat),
    (∀ (p : Fin 7) (a n : Nat), p.val < 6 → ethOn s p = true → txRing s p = some (a, n) →
        let da := a + 16 * (txIdx s p % n)
        let d := memRead s da 16
        (u16 d 0xA).testBit 15 = true → 14 ≤ u16 d 8 → u16 d 8 ≤ 1514 → vehBuf (u64 d 0) (u16 d 8) = true →
        Does (.txDescriptor p ns own coll) s (fun t =>
          memRead t (da + 8) 8 = leBytes 2 (u16 d 8) ++ leBytes 2 (u16 d 0xA % 32768) ++ leBytes 4 ((s.tmp.chain + ns) % 4294967296)
          ∧ txIdx t p = (txIdx s p + 1) % n
          ∧ (p.val < 4 → (vport t p).sent = memRead s (u64 d 0) (u16 d 8) ∧ rget t (F.VEH_FLAGS_TXDONE p) = 1)
          ∧ (4 ≤ p.val → (mport t (p - 4)).sent = memRead s (u64 d 0) (u16 d 8))
          ∧ ∀ m : Fin 4, outletOfPort s p = some m.val →
              ((u16 d 0xA).testBit 0 = true → Tab.get none (vport t m).mt 0 = some (s.tmp.chain / 1000000))
              ∧ ((u16 d 0xA).testBit 1 = true → Tab.get none (vport t m).mt 1 = some (s.tmp.chain / 1000000))))
    ∧ (∀ (p : Fin 7) (a n : Nat), p.val < 6 → ethOn s p = true → txRing s p = some (a, n) →
        let da := a + 16 * (txIdx s p % n)
        let d := memRead s da 16
        (u16 d 0xA).testBit 15 = true → u16 d 8 = 0 →
        Does (.txDescriptor p ns own coll) s (fun t => txIdx t p = (txIdx s p + 1) % n
          ∧ memRead t (da + 8) 8 = [0, 0] ++ leBytes 2 (u16 d 0xA % 32768) ++ leBytes 4 ((s.tmp.chain + ns) % 4294967296)
          ∧ (p.val < 4 → (vport t p).sent = (vport s p).sent ∧ rget t (F.VEH_FLAGS_TXDONE p) = 1)))
    ∧ (∀ (p : Fin 7) (a n : Nat), p.val < 6 → ethOn s p = true → txRing s p = some (a, n) →
        let da := a + 16 * (txIdx s p % n)
        let d := memRead s da 16
        (u16 d 0xA).testBit 15 = true → u16 d 8 ≠ 0 → u16 d 8 < 14 ∨ 1514 < u16 d 8 ∨ vehBuf (u64 d 0) (u16 d 8) = false →
        Does (.txDescriptor p ns own coll) s (fun t => txIdx t p = (txIdx s p + 1) % n
          ∧ memRead t (da + 8) 8 = leBytes 2 (u16 d 8) ++ leBytes 2 (setBit (u16 d 0xA) 14 true % 32768) ++ leBytes 4 (u32 d 0xC)
          ∧ (p.val < 4 → (vport t p).sent = (vport s p).sent ∧ rget t (F.VEH_FLAGS_BUFERR p) = 1)
          ∧ (1514 < u16 d 8 → rget t F.VEH_LENERR_COUNT = min 65535 (rget s F.VEH_LENERR_COUNT + 1))))
    ∧ (∀ p : Fin 7, p.val < 6 → ethOn s p = false ∨ txRing s p = none
          ∨ (∀ r ∈ (txRing s p).toList, (u16 (memRead s (r.1 + 16 * (txIdx s p % r.2)) 16) 0xA).testBit 15 = false) →
        Does (.txDescriptor p ns own coll) s (fun t => t = s))
    ∧ (∀ a n, swOn s 2 = true → netTxRing s = some (a, n) →
        let da := a + 16 * (s.net.txIdx % n)
        let d := memRead s da 16
        (u16 d 0xA).testBit 15 = true → 14 ≤ u16 d 8 → u16 d 8 ≤ 1514 → netBuf (u64 d 0) (u16 d 8) = true →
        Does (.txDescriptor 6 ns own coll) s (fun t =>
          memRead t (da + 8) 8 = leBytes 2 (u16 d 8) ++ leBytes 2 (u16 d 0xA % 32768) ++ leBytes 4 ((s.tmp.chain + ns) % 4294967296)
          ∧ t.net.txIdx = (s.net.txIdx + 1) % n ∧ rget t F.NET_FLAGS_TXDONE = 1))
    ∧ (∀ a n, swOn s 2 = true → netTxRing s = some (a, n) →
        let da := a + 16 * (s.net.txIdx % n)
        let d := memRead s da 16
        (u16 d 0xA).testBit 15 = true → u16 d 8 = 0 →
        Does (.txDescriptor 6 ns own coll) s (fun t => t.net.txIdx = (s.net.txIdx + 1) % n ∧ t.net.queue = s.net.queue
          ∧ memRead t (da + 8) 8 = [0, 0] ++ leBytes 2 (u16 d 0xA % 32768) ++ leBytes 4 ((s.tmp.chain + ns) % 4294967296)
          ∧ rget t F.NET_FLAGS_TXDONE = 1))
    ∧ (∀ a n, swOn s 2 = true → netTxRing s = some (a, n) →
        let da := a + 16 * (s.net.txIdx % n)
        let d := memRead s da 16
        (u16 d 0xA).testBit 15 = true → u16 d 8 ≠ 0 → u16 d 8 < 14 ∨ 1514 < u16 d 8 ∨ netBuf (u64 d 0) (u16 d 8) = false →
        Does (.txDescriptor 6 ns own coll) s (fun t => t.net.txIdx = (s.net.txIdx + 1) % n ∧ t.net.queue = s.net.queue
          ∧ memRead t (da + 8) 8 = leBytes 2 (u16 d 8) ++ leBytes 2 (setBit (u16 d 0xA) 14 true % 32768) ++ leBytes 4 (u32 d 0xC)
          ∧ rget t F.NET_FLAGS_BUFERR = 1
          ∧ (1514 < u16 d 8 → rget t F.NET_LENERR_COUNT = min 65535 (rget s F.NET_LENERR_COUNT + 1))))
    ∧ (swOn s 2 = false ∨ netTxRing s = none
          ∨ (∀ r ∈ (netTxRing s).toList, (u16 (memRead s (r.1 + 16 * (s.net.txIdx % r.2)) 16) 0xA).testBit 15 = false) →
        Does (.txDescriptor 6 ns own coll) s (fun t => t = s))
    ∧ (∀ (p : Fin 6) (f : Bytes) (a n : Nat), ethOn s p = true → rxRing s p = some (a, n) → portFifo s p = [] → f.length ≤ 16384 →
        let da := a + 16 * (rxIdx s p % n)
        let d := memRead s da 16
        (u16 d 0xA).testBit 15 = true → f.length ≤ u16 d 8 → vehBuf (u64 d 0) (u16 d 8) = true →
        u64 d 0 + u16 d 8 ≤ da ∨ da + 16 ≤ u64 d 0 →
        Does (.rxFrame p ns own f) s (fun t => memRead t (u64 d 0) f.length = f
          ∧ memRead t (da + 8) 8 = leBytes 2 f.length ++ leBytes 2 (mmFlags p f % 32768) ++ leBytes 4 ((s.tmp.chain + ns) % 4294967296)
          ∧ rxIdx t p = (rxIdx s p + 1) % n ∧ portFifo t p = [] ∧ (p.val < 4 → rget t (F.VEH_FLAGS_RXDONE p) = 1)
          ∧ (4 ≤ p.val → (mport t (p - 4)).heard = s.tmp.now)))
    ∧ (∀ (p : Fin 6) (f : Bytes), ethOn s p = true → fifoFits s p f.length = true →
        rxRing s p = none
          ∨ (∀ r ∈ (rxRing s p).toList, (u16 (memRead s (r.1 + 16 * (rxIdx s p % r.2)) 16) 0xA).testBit 15 = false) →
        Does (.rxFrame p ns own f) s (fun t => portFifo t p = portFifo s p ++ [(s.tmp.chain + ns, f)] ∧ t.mem = s.mem
          ∧ rxIdx t p = rxIdx s p))
    ∧ (∀ (p : Fin 6) (f : Bytes) (a n : Nat), ethOn s p = true → rxRing s p = some (a, n) → portFifo s p = [] → f.length ≤ 16384 →
        let d := memRead s (a + 16 * (rxIdx s p % n)) 16
        (u16 d 0xA).testBit 15 = true → u16 d 8 < f.length →
        Does (.rxFrame p ns own f) s (fun t => t.mem = s.mem ∧ rxIdx t p = rxIdx s p ∧ portFifo t p = []
          ∧ rget t F.VEH_LENERR_COUNT = min 65535 (rget s F.VEH_LENERR_COUNT + 1)))
    ∧ (∀ (p : Fin 6) (f : Bytes) (a n : Nat), ethOn s p = true → rxRing s p = some (a, n) → portFifo s p = [] → f.length ≤ 16384 →
        let d := memRead s (a + 16 * (rxIdx s p % n)) 16
        (u16 d 0xA).testBit 15 = true → f.length ≤ u16 d 8 → vehBuf (u64 d 0) (u16 d 8) = false →
        Does (.rxFrame p ns own f) s (fun t => p.val < 4 → rget t (F.VEH_FLAGS_BUFERR p) = 1))
    ∧ (∀ (p : Fin 6) (f : Bytes), ethOn s p = true → fifoFits s p f.length = false →
        Does (.rxFrame p ns own f) s (fun t => portFifo t p = portFifo s p ∧ t.mem = s.mem
          ∧ rget t (F.VEH_RXDROP_COUNT p) = min 65535 (rget s (F.VEH_RXDROP_COUNT p) + 1)
          ∧ (p.val < 4 → rget t (F.VEH_FLAGS_RXDROP p) = 1)))
    ∧ (∀ (p : Fin 6) (f : Bytes), ethOn s p = false → Does (.rxFrame p ns own f) s (fun t => t = s))
    ∧ (∀ m : Fin 2, ethOn s (4 + m) = true → (mport s m).heard + 200 * max 1 (rget s (F.VEH_T1CFG_LINKTO m)) ≤ s.tmp.now →
        Does (.t1sQuiet m) s (fun t => (mport t m).heard = s.tmp.now ∧ (m = 0 → rget t F.VEH_FLAGS4_QUIET0 = 1)
          ∧ (m = 1 → (rget t F.VEH_FLAGS4_M1).testBit 4 = true)))
    ∧ (∀ m : Fin 2, ethOn s (4 + m) = false ∨ s.tmp.now < (mport s m).heard + 200 * max 1 (rget s (F.VEH_T1CFG_LINKTO m)) →
        Does (.t1sQuiet m) s (fun t => t = s))

/-- The CAN FD controllers: bus-off and its automatic recovery (R320; the error counters bus-off leaves are free, log entry 4), the periodic
slots, which send at their instants only, and their shadow buffers (R322), reception by filter with the watchdogs of every filter that
matches, an overflow of the FIFO, and a frame without match, which is discarded (R323), and the transmit queue with its refusal when full
and its rejection of a bad length (R44, R324); a push or swap on the matrix controller's CAN0 and CAN1 is discarded (R321). -/
def Obligations.CanCommands : Prop :=
  ∀ (s : State) (k : Fin 4),
    (canRuns s k = true →
        Does (.canBusOff k) s (fun t => rget t (F.VEH_CANST_ERRST k) = 2 ∧ (rget t F.VEH_FLAGS5_CANk).testBit (5 * k + 4) = true))
    ∧ (canRuns s k = false → Does (.canBusOff k) s (fun t => t = s))
    ∧ (rget s (F.VEH_CANST_ERRST k) = 2 → rbit s (F.VEH_CANCFG_AUTOREC k) = true ∨ matrixCan s k = true →
        Does (.canBusOffRecovery k) s (fun t => rget t (F.VEH_CANST_ERRST k) = 0 ∧ rget t (F.VEH_CANST_TEC k) = 0
          ∧ rget t (F.VEH_CANST_REC k) = 0))
    ∧ (rget s (F.VEH_CANST_ERRST k) ≠ 2 ∨ rbit s (F.VEH_CANCFG_AUTOREC k) = false ∧ matrixCan s k = false →
        Does (.canBusOffRecovery k) s (fun t => t = s))
    ∧ (∀ i : Fin 16, canRuns s k = true → rbit s (canSlotF k i 8 31 1) = true →
        crossesAt s (1000000 * rget s (canSlotF k i 4 16 16)) (1000000 * rget s (canSlotF k i 4 0 16)) = true →
        Does (.canSlotTx k i) s (fun t => (canCtl t k).sent = some ⟨canHdr s (canSlotF k i 0),
          canPad (slice (Tab.get [] (canCtl s k).cur i) 0 (min 64 (rget s (canSlotF k i 8 0 7)))), 0, s.tmp.chain⟩))
    ∧ (∀ i : Fin 16, canRuns s k = false ∨ rbit s (canSlotF k i 8 31 1) = false
          ∨ crossesAt s (1000000 * rget s (canSlotF k i 4 16 16)) (1000000 * rget s (canSlotF k i 4 0 16)) = false →
        Does (.canSlotTx k i) s (fun t => t = s))
    ∧ (∀ i : Fin 16, matrixCan s k = false → Does (.canSlotSwap k i) s (fun t => (canCtl t k).sent = (canCtl s k).sent
        ∧ Tab.get [] (canCtl t k).cur i = (List.range 16).flatMap (fun w => leBytes 4 (rget s (canSlotF k i (0x10 + 4 * w) 0 32)))))
    ∧ (∀ (hdr : Word) (data : Bytes) (f : Nat) (fs : List Nat), canRuns s k = true →
        (List.range 32).filter (canMatches s k hdr.toNat) = f :: fs → (canCtl s k).rx.length < 64 →
        Does (.canRxFrame k hdr data) s (fun t => (canCtl t k).rx = (canCtl s k).rx ++ [⟨hdr.toNat, data.take 64, f, s.tmp.chain⟩]
          ∧ (rget t F.VEH_FLAGS5_CANk).testBit (5 * k) = true
          ∧ ∀ g : Fin 32, canMatches s k hdr.toNat g = true → Tab.get 0 (canCtl t k).seen g = s.tmp.now
              ∧ (rget t (F.VEH_CANRXTO_FILT k)).testBit g = false))
    ∧ (∀ (hdr : Word) (data : Bytes) (f : Nat) (fs : List Nat), canRuns s k = true →
        (List.range 32).filter (canMatches s k hdr.toNat) = f :: fs → 64 ≤ (canCtl s k).rx.length →
        Does (.canRxFrame k hdr data) s (fun t => (canCtl t k).rx = (canCtl s k).rx
          ∧ (rget t F.VEH_FLAGS5_CANk).testBit (5 * k + 1) = true ∧ Tab.get 0 (canCtl t k).seen f = s.tmp.now))
    ∧ (∀ (hdr : Word) (data : Bytes), canRuns s k = false ∨ (List.range 32).filter (canMatches s k hdr.toNat) = [] →
        Does (.canRxFrame k hdr data) s (fun t => t = s))
    ∧ (∀ f : Fin 32, canEn s k = true → rbit s (canFiltF k f 0 31 1) = true → rbit s (canFiltF k f 4 31 1) = true →
        (rget s (F.VEH_CANRXTO_FILT k)).testBit f = false → Tab.get 0 (canCtl s k).seen f + 20 * max 1 (rget s (canWdF k f)) ≤ s.tmp.now →
        Does (.canRxTimeout k f) s (fun t => (rget t (F.VEH_CANRXTO_FILT k)).testBit f = true
          ∧ (rget t F.VEH_FLAGS5_CANk).testBit (5 * k + 2) = true))
    ∧ (∀ f : Fin 32, canEn s k = false ∨ rbit s (canFiltF k f 0 31 1) = false ∨ rbit s (canFiltF k f 4 31 1) = false
          ∨ (rget s (F.VEH_CANRXTO_FILT k)).testBit f = true ∨ s.tmp.now < Tab.get 0 (canCtl s k).seen f + 20 * max 1 (rget s (canWdF k f)) →
        Does (.canRxTimeout k f) s (fun t => t = s))
    ∧ (matrixCan s k = false → canLenBad (rbit s (canPushF k 0 30 1)) (rget s (canPushF k 4 0 7)) = false → (canCtl s k).tx.length < 32 →
        Does (.canTxPush k) s (fun t => (canCtl t k).tx = (canCtl s k).tx ++ [⟨canHdr s (canPushF k 0),
          canPad (slice (canData s (fun w => canPushF k (0x10 + 4 * w) 0 32)) 0 (rget s (canPushF k 4 0 7))), 0, s.tmp.chain⟩]))
    ∧ (matrixCan s k = false → 64 < rget s (canPushF k 4 0 7) ∨ rbit s (canPushF k 0 30 1) = false ∧ 8 < rget s (canPushF k 4 0 7) →
        Does (.canTxPush k) s (fun t => (canCtl t k).tx = (canCtl s k).tx
          ∧ rget t F.VEH_LENERR_COUNT = min 65535 (rget s F.VEH_LENERR_COUNT + 1)))
    ∧ (matrixCan s k = false → canLenBad (rbit s (canPushF k 0 30 1)) (rget s (canPushF k 4 0 7)) = false → 32 ≤ (canCtl s k).tx.length →
        Does (.canTxPush k) s (fun t => (canCtl t k).tx = (canCtl s k).tx ∧ (rget t F.VEH_FLAGS5_CANk).testBit (5 * k + 3) = true))
    ∧ (matrixCan s k = true → Does (.canTxPush k) s (fun t => t = s) ∧ ∀ i : Fin 16, Does (.canSlotSwap k i) s (fun t => t = s))
    ∧ Does (.canRxHeadRemove k) s (fun t => (canCtl t k).rx = (canCtl s k).rx.tail)

/-- Budgets, STOP and the segment head. BUDGET gives the next edge its values, is a TIME frame for time, and goes on at LD with its
correction, its FCS inverted where its own has failed (R333, R337, R342). A budget register write makes the coordinator send three (R333)
and does nothing elsewhere; 400 tempos without a BUDGET take the budget away (R342). A STOP pair is acted on, forwarded and repeated on
the yard line once, an interrupted frame is counted (R336, R345, R360), and a STOP of failed FCS goes on with an inverted one (R337).
Eight silent tempos make a segment head (R341). -/
def Obligations.LeadBudgetAndStop : Prop :=
  ∀ (s : State) (p : LPort) (rx : LeadRx),
    (∀ ns res, LeadHeard s .lu rx → hTyp rx.bytes = tyBudget → let b := fBody rx.bytes
        let i := 0x2E + 4 * (s.lea.addr - 1)
        Does (.budgetRx .lu rx ns res) s (fun t => t.tmp.gotTime = true ∧ t.tmp.missed = 0 ∧ t.lea.budNext = some (u16 b 0x28, u16 b 0x2A,
          if 0 < s.lea.addr ∧ s.lea.addr ≤ u8 b 0x2C then u16 b i else 0,
          if 0 < s.lea.addr ∧ s.lea.addr ≤ u8 b 0x2C then u16 b (i + 2) else 0)
          ∧ (portOn s .ld = true → t.lea.ldCut = some (rx.bytes.take 8
              ++ timeForward s b (linkDelay s b (s.tmp.chain + ns)).1 (s.tmp.chain + ns) res))))
    ∧ (∀ ns res, portOn s .lu = true → portOn s .ld = true → onlyFcsBad rx = true → hTyp rx.bytes = tyBudget → isCoord s = false →
        let b := fBody rx.bytes
        let f := rx.bytes.take 8 ++ timeForward s b (linkDelay s b (s.tmp.chain + ns)).1 (s.tmp.chain + ns) res
        Does (.budgetRx .lu rx ns res) s (fun t => t.tmp = s.tmp ∧ t.lea.budNext = s.lea.budNext ∧ t.lea.ldCut = some f
          ∧ t.lea.ldFcs = leadFcs false f s ∧ rget t F.LEA_BADFRM_COUNT = min 65535 (rget s F.LEA_BADFRM_COUNT + 1)))
    ∧ (∀ v : Word, isCoord s = true → Does (.budgetRegisterWrite 0 v) s (fun t => t.lea.budRepeat = 3
          ∧ t.lea.bseq = (if rget s F.LEA_BSITE_IMP = v.toNat / 65536 ∧ rget s F.LEA_BSITE_EXP = v.toNat % 65536 then s.lea.bseq else (s.lea.bseq + 1) % 65536)
          ∧ rget t F.LEA_BSITE_IMP = v.toNat / 65536 ∧ rget t F.LEA_BSITE_EXP = v.toNat % 65536))
    ∧ (∀ (a : Fin 64) (v : Word), isCoord s = true → 0 < a.val → Does (.budgetRegisterWrite a v) s (fun t => t.lea.budRepeat = 3
          ∧ (rget s (F.LEA_BSHARE_IMP (a - 1)) ≠ v.toNat / 65536 → t.lea.bseq = (s.lea.bseq + 1) % 65536)
          ∧ rget t (F.LEA_BSHARE_IMP (a - 1)) = v.toNat / 65536 ∧ rget t (F.LEA_BSHARE_EXP (a - 1)) = v.toNat % 65536))
    ∧ (∀ (a : Fin 64) (v : Word), isCoord s = false → Does (.budgetRegisterWrite a v) s (fun t => t = s))
    ∧ (s.loaded = true → budgetAbsent s = true →
        Does .budgetStale s (fun t => t.lea.site = 0 ∧ t.lea.siteExp = 0 ∧ t.lea.shareImp = 0 ∧ t.lea.shareExp = 0
          ∧ t.lea.budStale = true ∧ (s.lea.budStale = false → rget t F.LEA_FLAGS_BUDSTALE = 1)))
    ∧ (s.loaded = false ∨ isCoord s = true ∨ (∀ u ∈ s.lea.budAt.toList, sinceT s u < 400) ∧ s.lea.budAt ≠ none →
        Does .budgetStale s (fun t => t = s))
    ∧ (∀ pre, LeadHeard s p rx → hTyp rx.bytes = tyStop → stopNew s (u8 (fBody rx.bytes) 0) (u16 (fBody rx.bytes) 2) = true →
        Does (.stopRx p rx pre) s (fun t => stopNew t (u8 (fBody rx.bytes) 0) (u16 (fBody rx.bytes) 2) = false
          ∧ rget t F.LEA_FLAGS_STOPRX = 1 ∧ (nStopRx s = true → t.lea.stopIn = some (u8 (fBody rx.bytes) 0))
          ∧ (nStopRx s = false → t.lea.stopIn = s.lea.stopIn) ∧ t.yrd.stops = s.yrd.stops ++ [((fBody rx.bytes).take 10, 2)]
          ∧ (p = .lu → portOn s .ld = true → t.lea.ldCut = some rx.bytes) ∧ (p = .ld → portOn s .lu = true → t.lea.luCut = some rx.bytes)
          ∧ (pre = .other → portOn s (otherPort p) = true →
              rget t F.LEA_ABORT_COUNT = min 65535 (rget s F.LEA_ABORT_COUNT + 1))))
    ∧ (∀ pre, LeadHeard s p rx → hTyp rx.bytes = tyStop → stopNew s (u8 (fBody rx.bytes) 0) (u16 (fBody rx.bytes) 2) = false →
        Does (.stopRx p rx pre) s (fun t => t = s))
    ∧ (∀ pre, portOn s p = true → portOn s (otherPort p) = true → onlyFcsBad rx = true → hTyp rx.bytes = tyStop →
        stopNew s (u8 rx.bytes 8) (u16 rx.bytes 10) = true →
        Does (.stopRx p rx pre) s (fun t => t.lea.stopSeen = s.lea.stopSeen ∧ t.lea.stopIn = s.lea.stopIn
          ∧ (p = .lu → t.lea.ldCut = some rx.bytes ∧ t.lea.ldFcs = leadFcs false rx.bytes s)
          ∧ (p = .ld → t.lea.luCut = some rx.bytes ∧ t.lea.luFcs = leadFcs false rx.bytes s)))
    ∧ (s.loaded = true → isCoord s = false → 8 ≤ s.lea.luSilent → Does .segmentHead s (fun t => t.lea.segHead = true))
    ∧ (s.loaded = false ∨ isCoord s = true ∨ s.lea.luSilent < 8 → Does .segmentHead s (fun t => t = s))

/-- Enumeration, STATUS, and the reception of the frames that are stored and forwarded. A frame on a port that is off does nothing, one that
R330 discards or rejects is counted, and one for another module is forwarded (R331). The coordinator's OFFER, the address a module takes,
keeps with HELD or refuses with OVERFLOW, ANSWER, END and link changes (R338, R340), and STATUS every 40 tempos, in Stalemate mode in any,
with what its receiver keeps and the expected digest of a beacon whose EXPSEQ is new (R346, R347, R387). -/
def Obligations.LeadEnumeration : Prop :=
  ∀ (s : State) (p : LPort) (rx : LeadRx),
    (portOn s p = false → Does (.enumOfferRx p rx) s (fun t => t = s) ∧ Does (.enumAnswerRx p rx) s (fun t => t = s)
        ∧ Does (.enumEndRx p rx) s (fun t => t = s) ∧ Does (.statusRx p rx) s (fun t => t = s))
    ∧ (portOn s p = true → leadFault rx = 1 → Does (.enumOfferRx p rx) s (fun t => t = rsat F.LEA_BADFRM_COUNT 1 s)
        ∧ Does (.enumAnswerRx p rx) s (fun t => t = rsat F.LEA_BADFRM_COUNT 1 s)
        ∧ Does (.enumEndRx p rx) s (fun t => t = rsat F.LEA_BADFRM_COUNT 1 s) ∧ Does (.statusRx p rx) s (fun t => t = rsat F.LEA_BADFRM_COUNT 1 s))
    ∧ (portOn s p = true → leadFault rx = 2 → Does (.enumOfferRx p rx) s (fun t => t = rsat F.LEA_LENERR_COUNT 1 s)
        ∧ Does (.enumAnswerRx p rx) s (fun t => t = rsat F.LEA_LENERR_COUNT 1 s)
        ∧ Does (.enumEndRx p rx) s (fun t => t = rsat F.LEA_LENERR_COUNT 1 s) ∧ Does (.statusRx p rx) s (fun t => t = rsat F.LEA_LENERR_COUNT 1 s))
    ∧ (∀ q, LeadHeard s p rx → leadRoute s p (hDst rx.bytes) = (false, some q) →
        (hTyp rx.bytes = tyStatus → Does (.statusRx p rx) s (fun t => t = leadQueue q true rx.bytes s))
        ∧ (hTyp rx.bytes = tyEnum → u8 rx.bytes 8 = 2 → Does (.enumAnswerRx p rx) s (fun t => t = leadQueue q true rx.bytes s))
        ∧ (hTyp rx.bytes = tyEnum → u8 rx.bytes 8 = 3 → Does (.enumEndRx p rx) s (fun t => t = leadQueue q true rx.bytes s)))
    ∧ (s.tmp.running = true → 20000 ≤ sinceT s s.lea.enumAt → isCoord s = true →
        Does .enumOfferSend s (fun t => t.lea.enumAt = s.tmp.now ∧ t.lea.enumHigh = 1
          ∧ (portOn s .ld = true → t.lea.ldTx = s.lea.ldTx ++ [⟨tyEnum, false, (mkFrame tyEnum 0 0 (enumBody s 1 2 0) s).1⟩])))
    ∧ (s.tmp.running = false ∨ sinceT s s.lea.enumAt < 20000 ∨ isCoord s = false → Does .enumOfferSend s (fun t => t = s))
    ∧ (isCoord s = true → Does .enumCommand s (fun t => t.lea.enumAt = s.tmp.now ∧ t.lea.enumHigh = 1
          ∧ (portOn s .ld = true → t.lea.ldTx = s.lea.ldTx ++ [⟨tyEnum, false, (mkFrame tyEnum 0 0 (enumBody s 1 2 0) s).1⟩])))
    ∧ (isCoord s = false → Does .enumCommand s (fun t => t = s))
    ∧ (LeadHeard s .lu rx → hTyp rx.bytes = tyEnum → u8 rx.bytes 8 = 1 → hDst rx.bytes = 0 →
        0 < u8 (fBody rx.bytes) 1 → u8 (fBody rx.bytes) 1 ≤ 63 →
        s.lea.addr = 0 ∨ s.lea.addr < u8 (fBody rx.bytes) 1 ∧ outletsIdle s = true →
        Does (.enumOfferRx .lu rx) s (fun t => t.lea.addr = u8 (fBody rx.bytes) 1 ∧ rget t F.LEA_FLAGS_ADDRCHG = 1 ∧ t.lea.addrHeld = false
          ∧ (portOn s .ld = true → t.lea.ldTx.length + t.lea.luTx.length = s.lea.ldTx.length + s.lea.luTx.length + 2)
          ∧ (portOn s .ld = false → 1 < u8 (fBody rx.bytes) 1 → t.lea.luTx.length = s.lea.luTx.length + 2)))
    ∧ (LeadHeard s .lu rx → hTyp rx.bytes = tyEnum → u8 rx.bytes 8 = 1 → hDst rx.bytes = 0 → s.lea.addr = 0 →
        63 < u8 (fBody rx.bytes) 1 →
        Does (.enumOfferRx .lu rx) s (fun t => t.lea.addr = 0 ∧ rget t F.LEA_FLAGS_OVERFLOW = 1 ∧ t.lea.ldTx = s.lea.ldTx
          ∧ t.lea.luTx.length = s.lea.luTx.length + 1))
    ∧ (LeadHeard s .lu rx → hTyp rx.bytes = tyEnum → u8 rx.bytes 8 = 1 → hDst rx.bytes = 0 → 1 < s.lea.addr →
        u8 (fBody rx.bytes) 1 ≤ s.lea.addr ∨ outletsIdle s = false → s.lea.addr ≤ 63 →
        Does (.enumOfferRx .lu rx) s (fun t => t.lea.addr = s.lea.addr
          ∧ t.lea.addrHeld = decide (s.lea.addr < u8 (fBody rx.bytes) 1)
          ∧ (u8 (t.lea.luTx.getD s.lea.luTx.length ⟨0, false, []⟩).bytes 10).testBit 2 = true))
    ∧ (LeadMine s p rx → hTyp rx.bytes = tyEnum → u8 rx.bytes 8 = 2 → isCoord s = true → 0 < u8 (fBody rx.bytes) 1 →
        u8 (fBody rx.bytes) 1 ≤ 63 →
        Does (.enumAnswerRx p rx) s (fun t => (node t (u8 (fBody rx.bytes) 1)).serial = some (u64 (fBody rx.bytes) 4)
          ∧ u8 (fBody rx.bytes) 1 ≤ t.lea.naddr ∧ t.lea.naddr = max s.lea.naddr (u8 (fBody rx.bytes) 1)
          ∧ (∀ x ∈ (node s (u8 (fBody rx.bytes) 1)).serial.toList, x ≠ u64 (fBody rx.bytes) 4 → rget t F.LEA_FLAGS_ADDRDUP = 1)))
    ∧ (LeadMine s p rx → hTyp rx.bytes = tyEnum → u8 rx.bytes 8 = 2 →
        isCoord s = false ∨ u8 (fBody rx.bytes) 1 = 0 ∨ 63 < u8 (fBody rx.bytes) 1 →
        Does (.enumAnswerRx p rx) s (fun t => t.lea.nodes = s.lea.nodes ∧ t.lea.naddr = s.lea.naddr
          ∧ (isCoord s = true → (u8 (fBody rx.bytes) 2).testBit 3 = true → rget t F.LEA_FLAGS_OVERFLOW = 1)))
    ∧ (LeadMine s p rx → hTyp rx.bytes = tyEnum → u8 rx.bytes 8 = 3 → isCoord s = true →
        Does (.enumEndRx p rx) s (fun t => rget t F.LEA_FLAGS_ENUMDONE = 1 ∧ t.lea.naddr = s.lea.enumHigh))
    ∧ (LeadMine s p rx → hTyp rx.bytes = tyEnum → u8 rx.bytes 8 = 3 → isCoord s = false →
        Does (.enumEndRx p rx) s (fun t => t.lea.naddr = s.lea.naddr ∧ t.regs = s.regs))
    ∧ (∀ up, s.lea.luUp ≠ up → s.pwr.sys ≠ .s4 →
        Does (.leadLinkChange .lu up) s (fun t => t.lea.luUp = up ∧ (up = false → t.lea.luTx = [])
          ∧ (netOn s = true → s.pwr.sys = .s0 → s.pwr.entry = .none → rget t F.LEA_FLAGS_LINKCHG = 1)))
    ∧ (∀ up, s.lea.ldUp ≠ up → s.pwr.sys ≠ .s4 →
        Does (.leadLinkChange .ld up) s (fun t => t.lea.ldUp = up ∧ (up = false → t.lea.ldTx = [])
          ∧ (up = true → isCoord s = true → t.lea.enumAt = s.tmp.now)
          ∧ (netOn s = true → s.pwr.sys = .s0 → s.pwr.entry = .none → rget t F.LEA_FLAGS_LINKCHG = 1)))
    ∧ (Does (.leadLinkChange .lu s.lea.luUp) s (fun t => t = s) ∧ Does (.leadLinkChange .ld s.lea.ldUp) s (fun t => t = s))
    ∧ (netOn s = true → 40 ≤ sinceT s s.lea.statAt ∨ s.pwr.boot = .stalemate → isCoord s = false → s.lea.addr ≠ 1 → portOn s .lu = true →
        Does .statusSend s (fun t => t.lea.statAt = s.tmp.now
          ∧ t.lea.luTx = s.lea.luTx ++ [⟨tyStatus, false, (mkFrame tyStatus 1 0 (statusBody s) s).1⟩]))
    ∧ (netOn s = true → 40 ≤ sinceT s s.lea.statAt ∨ s.pwr.boot = .stalemate → isCoord s = true → s.lea.addr < 64 →
        Does .statusSend s (fun t => t.lea.statAt = s.tmp.now ∧ (node t s.lea.addr).seen = some s.tmp.now ∧ t.lea.luTx = s.lea.luTx
          ∧ (portOn s .ld = true → t.lea.ldTx = s.lea.ldTx ++ [⟨tyStatus, false, (mkFrame tyStatus 0xFF 0 (statusBody s) s).1⟩])))
    ∧ (netOn s = false ∨ sinceT s s.lea.statAt < 40 ∧ s.pwr.boot ≠ .stalemate → Does .statusSend s (fun t => t = s))
    ∧ (LeadMine s p rx → hTyp rx.bytes = tyStatus → isCoord s = true → hSrc rx.bytes < 64 →
        Does (.statusRx p rx) s (fun t => (node t (hSrc rx.bytes)).seen = some s.tmp.now
          ∧ (node t (hSrc rx.bytes)).state = u8 (fBody rx.bytes) 0x4C ∧ (node t (hSrc rx.bytes)).staged = u8 (fBody rx.bytes) 0x54
          ∧ (node t (hSrc rx.bytes)).xfer = u16 (fBody rx.bytes) 0x50))
    ∧ (LeadMine s p rx → hTyp rx.bytes = tyStatus → isCoord s = false → (u8 (fBody rx.bytes) 0x4D).testBit 1 = true →
        s.lea.expTaken ≠ some (u32 (fBody rx.bytes) 0x48) →
        Does (.statusRx p rx) s (fun t => t.lea.beaconAt = some s.tmp.now ∧ t.lea.expTaken = some (u32 (fBody rx.bytes) 0x48)
          ∧ t.lea.expGot = true
          ∧ digestOf t F.SYS_EPOCHEXP_DIGEST = digestOf (digestPut F.SYS_EPOCHEXP_DIGEST (slice (fBody rx.bytes) 0x28 32) s) F.SYS_EPOCHEXP_DIGEST))
    ∧ (LeadMine s p rx → hTyp rx.bytes = tyStatus → isCoord s = false → (u8 (fBody rx.bytes) 0x4D).testBit 1 = true →
        s.lea.expTaken = some (u32 (fBody rx.bytes) 0x48) →
        Does (.statusRx p rx) s (fun t => t.lea.beaconAt = some s.tmp.now ∧ t.regs = s.regs))
    ∧ (LeadMine s p rx → hTyp rx.bytes = tyStatus → isCoord s = false → (u8 (fBody rx.bytes) 0x4D).testBit 1 = false →
        Does (.statusRx p rx) s (fun t => t.lea.beaconAt = s.lea.beaconAt ∧ t.lea.nodes = s.lea.nodes ∧ t.regs = s.regs))

/-- The epoch digest's mismatch and agreement on either path (R348); bus requests and grants as received, taken from their own sources only
(R343); USER frames, rejected whole above 476 bytes and dropped where 32 wait, and their push, refused where 8 wait (R44, R351); transfers
of image blocks: start, XFERSTART, manifest and block bytes in order, gaps answered by NAK and failed at the eighth, and resends (R349,
R350); and WAKE and the repeater (R329). A CMD frame on a port that is off does nothing, one that R330 discards or rejects is counted, and
one for another module is forwarded (R331). -/
def Obligations.LeadRequestsAndTransfers : Prop :=
  ∀ (s : State) (p : LPort) (rx : LeadRx), let d := fData rx.bytes
    (portOn s p = false → Does (.busreqRx p rx) s (fun t => t = s) ∧ Does (.grantRx p rx) s (fun t => t = s)
        ∧ Does (.userRx p rx) s (fun t => t = s) ∧ Does (.xferstartRx p rx) s (fun t => t = s) ∧ Does (.nakRx p rx) s (fun t => t = s)
        ∧ Does (.dataRx p rx) s (fun t => t = s))
    ∧ (portOn s p = true → leadFault rx = 1 → Does (.busreqRx p rx) s (fun t => t = rsat F.LEA_BADFRM_COUNT 1 s)
        ∧ Does (.grantRx p rx) s (fun t => t = rsat F.LEA_BADFRM_COUNT 1 s) ∧ Does (.userRx p rx) s (fun t => t = rsat F.LEA_BADFRM_COUNT 1 s)
        ∧ Does (.xferstartRx p rx) s (fun t => t = rsat F.LEA_BADFRM_COUNT 1 s) ∧ Does (.nakRx p rx) s (fun t => t = rsat F.LEA_BADFRM_COUNT 1 s)
        ∧ Does (.dataRx p rx) s (fun t => t = rsat F.LEA_BADFRM_COUNT 1 s))
    ∧ (portOn s p = true → leadFault rx = 2 → Does (.busreqRx p rx) s (fun t => t = rsat F.LEA_LENERR_COUNT 1 s)
        ∧ Does (.grantRx p rx) s (fun t => t = rsat F.LEA_LENERR_COUNT 1 s) ∧ Does (.userRx p rx) s (fun t => t = rsat F.LEA_LENERR_COUNT 1 s)
        ∧ Does (.xferstartRx p rx) s (fun t => t = rsat F.LEA_LENERR_COUNT 1 s) ∧ Does (.nakRx p rx) s (fun t => t = rsat F.LEA_LENERR_COUNT 1 s)
        ∧ Does (.dataRx p rx) s (fun t => t = rsat F.LEA_LENERR_COUNT 1 s))
    ∧ (∀ q, LeadHeard s p rx → leadRoute s p (hDst rx.bytes) = (false, some q) → hTyp rx.bytes = tyCmd →
        (fOp rx.bytes = 1 → Does (.busreqRx p rx) s (fun t => t = leadQueue q true rx.bytes s))
        ∧ (fOp rx.bytes = 2 → Does (.grantRx p rx) s (fun t => t = leadQueue q true rx.bytes s))
        ∧ (fOp rx.bytes = 3 → Does (.userRx p rx) s (fun t => t = leadQueue q true rx.bytes s))
        ∧ (fOp rx.bytes = 4 → Does (.xferstartRx p rx) s (fun t => t = leadQueue q true rx.bytes s))
        ∧ (fOp rx.bytes = 5 → Does (.nakRx p rx) s (fun t => t = leadQueue q true rx.bytes s)))
    ∧ (200 ≤ s.lea.mmRun ∨ isCoord s = false ∧ beaconFresh s = false ∧ 2 ≤ s.lea.ylDiff → s.lea.mismatch = false →
        Does .epochMismatch s (fun t => t.lea.mismatch = true ∧ rget t F.SYS_STATUS_EPOCHMM = 1 ∧ rget t F.LEA_FLAGS_EPOCHCHG = 1))
    ∧ (s.lea.mmRun < 200 → isCoord s = true ∨ beaconFresh s = true ∨ s.lea.ylDiff < 2 → s.lea.mismatch = false →
        Does .epochMismatch s (fun t => t = s))
    ∧ (s.lea.mismatch = true → isCoord s = true ∨ beaconFresh s = true → epochDiffers s = false →
        Does .epochAgree s (fun t => t.lea.mismatch = false ∧ rget t F.SYS_STATUS_EPOCHMM = 0 ∧ rget t F.LEA_FLAGS_EPOCHCHG = 1))
    ∧ (s.lea.mismatch = true → isCoord s = false → beaconFresh s = false → s.yrd.gotBeacon = true → s.lea.ylDiff = 0 →
        Does .epochAgree s (fun t => t.lea.mismatch = false ∧ rget t F.SYS_STATUS_EPOCHMM = 0 ∧ rget t F.LEA_FLAGS_EPOCHCHG = 1))
    ∧ (s.lea.mismatch = true → isCoord s = true ∨ beaconFresh s = true → epochDiffers s = true → Does .epochAgree s (fun t => t = s))
    ∧ (∀ (k : ReqKind) (b : Fin 8) (e : Fin 4), LeadMine s p rx → hTyp rx.bytes = tyCmd → fOp rx.bytes = 1 → isCabinet s = true →
        b.val < mNbus s → mPost s b = hSrc rx.bytes → 128 ≤ u8 d (8 * e) → reqKindOf (u8 d (8 * e) / 16 % 8) = some k →
        (u8 d (8 * e + 1)).testBit b = true →
        (∀ j : Fin 4, e < j → u8 d (8 * j) < 128 ∨ (u8 d (8 * j + 1)).testBit b = false) →
        Does (.busreqRx p rx) s (fun t => (busSt t b).kind = some k ∧ (busSt t b).stamp = s.tmp.now ∧ (busSt t b).volt = u16 d (8 * e + 2)
          ∧ (busSt t b).cur = u16 d (8 * e + 4) / max 1 (maskCount (u8 d (8 * e + 1)))
          ∧ (busSt t b).exporting = (u8 d (8 * e + 6)).testBit 0))
    ∧ (∀ b : Fin 8, LeadMine s p rx → hTyp rx.bytes = tyCmd → fOp rx.bytes = 1 → isCabinet s = false ∨ mPost s b ≠ hSrc rx.bytes →
        Does (.busreqRx p rx) s (fun t => busSt t b = busSt s b))
    ∧ (∀ e : Fin 8, LeadMine s p rx → hTyp rx.bytes = tyCmd → fOp rx.bytes = 2 → isPost s = true → hSrc rx.bytes = nCabAddr s →
        128 ≤ u8 d (8 * e) → (∀ j : Fin 8, e < j → u8 d (8 * j) < 128 ∨ u8 d (8 * j) % 8 ≠ u8 d (8 * e) % 8) →
        Does (.grantRx p rx) s (fun t => Tab.get Grant.reset t.lea.grant (u8 d (8 * e) % 8)
          = ⟨u16 d (8 * e + 2), u16 d (8 * e + 4), u8 d (8 * e + 1), some s.tmp.now⟩))
    ∧ (LeadMine s p rx → hTyp rx.bytes = tyCmd → fOp rx.bytes = 2 → isPost s = false ∨ hSrc rx.bytes ≠ nCabAddr s →
        Does (.grantRx p rx) s (fun t => t.lea.grant = s.lea.grant))
    ∧ (LeadMine s p rx → hTyp rx.bytes = tyCmd → fOp rx.bytes = 3 → d.length ≤ 476 → s.lea.userRx.length < 32 →
        Does (.userRx p rx) s (fun t => rget t F.LEA_FLAGS_RXCMD = 1
          ∧ t.lea.userRx = s.lea.userRx ++ [⟨hSrc rx.bytes, s.tmp.chain % 4294967296, d⟩]))
    ∧ (LeadMine s p rx → hTyp rx.bytes = tyCmd → fOp rx.bytes = 3 → 476 < d.length →
        Does (.userRx p rx) s (fun t => t.lea.userRx = s.lea.userRx
          ∧ rget t F.LEA_LENERR_COUNT = min 65535 (rget s F.LEA_LENERR_COUNT + 1)))
    ∧ (LeadMine s p rx → hTyp rx.bytes = tyCmd → fOp rx.bytes = 3 → d.length ≤ 476 → 32 ≤ s.lea.userRx.length →
        Does (.userRx p rx) s (fun t => t.lea.userRx = s.lea.userRx ∧ rget t F.LEA_FLAGS_CMDDROP = 1
          ∧ rget t F.LEA_CMDDROP_COUNT = min 65535 (rget s F.LEA_CMDDROP_COUNT + 1)))
    ∧ (∀ (dst : BitVec 8) (len : Nat) (data : Bytes), Does (.leadUserPush dst len data) s (fun t =>
        (∀ i : Fin 480, i < data.length → (userWindow t).getD i 0 = data.getD i 0)
        ∧ (len % 512 ≤ 476 → userWaiting s < 8 → s.lea.addr = 0 ∨ dst.toNat < s.lea.addr ∨ dst.toNat = 0xFF → portOn s .lu = true →
            t.lea.luTx = s.lea.luTx ++ [⟨tyCmd, false, (mkFrame tyCmd dst.toNat 0 (cmdBody 3 ((userWindow t).take (len % 512))) s).1⟩])
        ∧ (len % 512 ≤ 476 → userWaiting s < 8 → s.lea.addr ≠ 0 ∧ s.lea.addr ≤ dst.toNat ∨ dst.toNat = 0xFF → portOn s .ld = true →
            t.lea.ldTx = s.lea.ldTx ++ [⟨tyCmd, false, (mkFrame tyCmd dst.toNat 0 (cmdBody 3 ((userWindow t).take (len % 512))) s).1⟩])
        ∧ (len % 512 ≤ 476 → 8 ≤ userWaiting s → rget t F.LEA_FLAGS_TXFULL = 1 ∧ t.lea.luTx = s.lea.luTx ∧ t.lea.ldTx = s.lea.ldTx)
        ∧ (476 < len % 512 → t.lea.luTx = s.lea.luTx ∧ t.lea.ldTx = s.lea.ldTx
            ∧ rget t F.LEA_LENERR_COUNT = min 65535 (rget s F.LEA_LENERR_COUNT + 1))))
    ∧ Does .leadUserHeadRemove s (fun t => t.lea.userRx = s.lea.userRx.drop 1)
    ∧ (netOn s = true → rget s F.LEA_XFERLEN_CLASS ≠ 3 → rget s F.LEA_XFERLEN_IMGLEN ≤ classRegion (rget s F.LEA_XFERLEN_CLASS) →
        Does .xferStart s (fun t => t.lea.lastXfer = rget s F.LEA_XFERCFG_XFERID ∧ t.lea.lastBlocks = 0 ∧ ∃ x ∈ t.lea.xfer,
          x.id = rget s F.LEA_XFERCFG_XFERID ∧ x.origin = true ∧ x.imgLen = rget s F.LEA_XFERLEN_IMGLEN))
    ∧ (netOn s = false ∨ rget s F.LEA_XFERLEN_CLASS = 3 → Does .xferStart s (fun t => t = s))
    ∧ (netOn s = true → rget s F.LEA_XFERLEN_CLASS ≠ 3 → classRegion (rget s F.LEA_XFERLEN_CLASS) < rget s F.LEA_XFERLEN_IMGLEN →
        Does .xferStart s (fun t => t = rsat F.LEA_LENERR_COUNT 1 s))
    ∧ Does .xferCancel s (fun t => t.lea.xfer = none)
    ∧ (LeadMine s p rx → hTyp rx.bytes = tyCmd → fOp rx.bytes = 4 → u8 d 2 < 3 → (∀ y ∈ s.lea.xfer.toList, y.id ≠ u16 d 0) →
        u32 d 8 ≤ classRegion (u8 d 2) → u32 d 4 ≤ 65536 →
        Does (.xferstartRx p rx) s (fun t => t.lea.lastXfer = u16 d 0 ∧ t.lea.lastBlocks = 0
          ∧ ∃ x ∈ t.lea.xfer, x.id = u16 d 0 ∧ x.cls = u8 d 2 ∧ x.manLen = u32 d 4 ∧ x.imgLen = u32 d 8
          ∧ x.manDig = slice d 12 32 ∧ x.done = 0 ∧ x.manOk = false))
    ∧ (LeadMine s p rx → hTyp rx.bytes = tyCmd → fOp rx.bytes = 4 → 3 ≤ u8 d 2 ∨ (∃ y ∈ s.lea.xfer, y.id = u16 d 0) →
        Does (.xferstartRx p rx) s (fun t => t.lea.xfer = s.lea.xfer))
    ∧ (LeadMine s p rx → hTyp rx.bytes = tyCmd → fOp rx.bytes = 4 → u8 d 2 < 3 → (∀ y ∈ s.lea.xfer.toList, y.id ≠ u16 d 0) →
        classRegion (u8 d 2) < u32 d 8 ∨ 65536 < u32 d 4 →
        Does (.xferstartRx p rx) s (fun t => t.lea.xfer = s.lea.xfer
          ∧ rget t F.LEA_LENERR_COUNT = min 65535 (rget s F.LEA_LENERR_COUNT + 1)))
    ∧ (∀ x, LeadHeard s p rx → hTyp rx.bytes = tyData → s.pwr.boot = .running → s.lea.xfer = some x → let b := fBody rx.bytes
        x.id = u16 b 0 → x.failed = false → x.complete = false → x.origin = false → (u8 rx.bytes 1).testBit 0 = false → x.manOk = true →
        x.wait = false → u16 b 2 = x.done → u16 b 4 = x.got → x.got + (b.drop 8).length < blockLen x.imgLen x.done →
        Does (.dataRx p rx) s (fun t => memRead t (stagedImg + 65536 * x.done + x.got) (b.drop 8).length = b.drop 8
          ∧ t.lea.xfer = some { x with got := x.got + (b.drop 8).length, wait := false }))
    ∧ (∀ x, LeadHeard s p rx → hTyp rx.bytes = tyData → s.pwr.boot = .running → s.lea.xfer = some x → let b := fBody rx.bytes
        x.id = u16 b 0 → x.failed = false → x.complete = false → x.origin = false → (u8 rx.bytes 1).testBit 0 = false → x.manOk = true →
        x.wait = false → x.done ≤ u16 b 2 → u16 b 2 ≠ x.done ∨ u16 b 4 ≠ x.got →
        Does (.dataRx p rx) s (fun t => t.lea.xfer = some { x with got := 0, wait := true, naks := x.naks + 1, failed := decide (8 ≤ x.naks + 1) }
          ∧ (7 ≤ x.naks → rget t F.LEA_FLAGS_XFERFAIL = 1) ∧ t.mem = s.mem
          ∧ (p = .lu → t.lea.luTx = s.lea.luTx ++ [⟨tyCmd, false, (mkFrame tyCmd 0 0 (cmdBody 5 (leBytes 2 x.id ++ leBytes 2 x.done)) s).1⟩])
          ∧ (p = .ld → t.lea.ldTx = s.lea.ldTx ++ [⟨tyCmd, false, (mkFrame tyCmd 0 0 (cmdBody 5 (leBytes 2 x.id ++ leBytes 2 x.done)) s).1⟩])))
    ∧ (∀ x, LeadHeard s p rx → hTyp rx.bytes = tyData → s.pwr.boot = .running → s.lea.xfer = some x → let b := fBody rx.bytes
        x.id = u16 b 0 → x.failed = false → x.complete = false → x.origin = false → (u8 rx.bytes 1).testBit 0 = false → x.manOk = true →
        x.wait = false → u16 b 2 = x.done → u16 b 4 = x.got → x.got + (b.drop 8).length = blockLen x.imgLen x.done →
        Does (.dataRx p rx) s (fun t => t.mem = Mem.write dramBlank s.mem (stagedImg + 65536 * x.done + x.got) (b.drop 8)
          ∧ (Config.sm3 (memRead t (stagedImg + 65536 * x.done) (blockLen x.imgLen x.done)) = manBlkdig (memRead t stagedMan x.manLen) x.done →
              t.lea.lastBlocks = x.done + 1 ∧ t.lea.xfer = some { x with done := x.done + 1, got := 0, wait := false, naks := 0,
                                                                          complete := decide (x.done + 1 = xferBlocks x) }
              ∧ (x.done + 1 = xferBlocks x → rget t F.LEA_FLAGS_XFERDONE = 1))
          ∧ (Config.sm3 (memRead t (stagedImg + 65536 * x.done) (blockLen x.imgLen x.done)) ≠ manBlkdig (memRead t stagedMan x.manLen) x.done →
              t.lea.xfer = some { x with got := 0, wait := true, naks := x.naks + 1, failed := decide (8 ≤ x.naks + 1) })))
    ∧ (∀ x, LeadHeard s p rx → hTyp rx.bytes = tyData → s.pwr.boot = .running → s.lea.xfer = some x → let b := fBody rx.bytes
        x.id = u16 b 0 → x.failed = false → x.complete = false → x.origin = false → (u8 rx.bytes 1).testBit 0 = true → x.manOk = false →
        u16 b 4 = x.manGot → x.manGot + (b.drop 8).length < x.manLen →
        Does (.dataRx p rx) s (fun t => memRead t (stagedMan + x.manGot) (b.drop 8).length = b.drop 8
          ∧ t.lea.xfer = some { x with manGot := x.manGot + (b.drop 8).length }))
    ∧ (LeadHeard s p rx → hTyp rx.bytes = tyData → s.pwr.boot = .running →
        (∀ x ∈ s.lea.xfer.toList, x.id ≠ u16 (fBody rx.bytes) 0 ∨ x.failed = true ∨ x.complete = true ∨ x.origin = true) →
        Does (.dataRx p rx) s (fun t => t = s))
    ∧ (∀ x, LeadMine s p rx → hTyp rx.bytes = tyCmd → fOp rx.bytes = 5 → s.lea.xfer = some x → x.id = u16 d 0 →
        Does (.nakRx p rx) s (fun t =>
          (p = .ld → t.lea.xfer = some { x with ld := x.ld.map (fun q => { q with resend := some (u16 d 2, 0) }) })
          ∧ (p = .lu → t.lea.xfer = some { x with lu := x.lu.map (fun q => { q with resend := some (u16 d 2, 0) }) })))
    ∧ (LeadMine s p rx → hTyp rx.bytes = tyCmd → fOp rx.bytes = 5 → (∀ x ∈ s.lea.xfer.toList, x.id ≠ u16 d 0) →
        Does (.nakRx p rx) s (fun t => t.lea.xfer = s.lea.xfer))
    ∧ (leadFault rx = 0 → hTyp rx.bytes = tyCmd → fOp rx.bytes = 9 → s.lea.addr ≠ 0 → hDst rx.bytes = s.lea.addr → nRepeater s = true →
        s.lea.byp = true → s.pwr.sys = .s3 → s.pwr.entry = .none → s.pwr.aonOn = true → s.pwr.boot = .running → wakeActs s 4 = true →
        Does (.wakeRx p rx) s (fun t => t.pwr.entry = .waking ∧ rget t F.PWR_WAKESRC_FIRST = 4))
    ∧ (hDst rx.bytes ≠ s.lea.addr → Does (.wakeRx p rx) s (fun t => t.pwr = s.pwr))
    ∧ (∀ bytes : Bytes, s.pwr.sys = .s3 ∨ s.pwr.sys = .s4 → nRepeater s = true → s.lea.byp = true →
        Does (.repeaterForward .lu bytes) s (fun t => t.lea.ldCut = some bytes)
        ∧ Does (.repeaterForward .ld bytes) s (fun t => t.lea.luCut = some bytes))
    ∧ (∀ bytes : Bytes, s.pwr.sys ∉ [PwrSt.s3, .s4] ∨ nRepeater s = false ∨ s.lea.byp = false →
        Does (.repeaterForward p bytes) s (fun t => t = s))

/-- The yard line. A window opens with its noise floor and carries the beacon, a POLLREPLY, or of its owner alone a resend, a STOP, a message
or STATUS (R354, R356, R357, R359, R360), each as its RS codeword, the beacon with the coordinator's centre and NOZC (R353, R355); a module that acquires nothing and a window of another stay silent, and a beacon missed three
times is YL_LOST (R358). A beacon is taken where SITEID matches, a window that does not decode is discarded and named in the NAK, or sent
again where it was the module's own (R355, R357). A decoded window frame is queued, acted on or set aside by its type (R345, R355, R359,
R360). Polls belong to the coordinator (R359); messages wait 16 deep, and a length above 10 is rejected (R44). A line that is off
takes nothing. -/
def Obligations.YardCommands : Prop :=
  ∀ s : State,
    (∀ centre nq, yardOn s = true → isCoord s = true → s.yrd.acq = true → s.yrd.win = 49 →
        Does (.yardWindow centre nq) s (fun t => t.yrd.win = 0 ∧ t.yrd.cyc = (s.yrd.cyc + 1) % 4294967296
          ∧ t.yrd.sent.map (fun b => slice b 4 8) = some (leBytes 8 (yardCentre s centre))
          ∧ t.yrd.sent.map (fun b => (u8 b 0).testBit 1) = some (yardNozc s) ∧ t.yrd.sent.map (fun b => u8 b 1) = some (max 1 s.lea.naddr % 256)
          ∧ t.yrd.nozc = yardNozc s ∧ t.yrd.naddr = max 1 s.lea.naddr ∧ t.yrd.poll = none ∧ t.yrd.pollCyc = s.yrd.poll.isSome))
    ∧ (∀ centre nq, yardOn s = true → isCoord s = true ∨ s.yrd.sawCyc = true → s.yrd.acq = true → 1 ≤ s.yrd.win → s.yrd.win < 49 →
        s.lea.addr ≠ 0 → windowOwner s (s.yrd.win + 1) = s.lea.addr → s.yrd.resend = false ∨ s.yrd.last = none →
        Does (.yardWindow centre nq) s (fun t => t.yrd.win = s.yrd.win + 1 ∧ t.yrd.seq = (s.yrd.seq + 1) % 16 ∧ t.yrd.nak = 0
          ∧ t.yrd.sent = t.yrd.last.map rsWord ∧ rget t F.YRD_FLAGS_TXDONE = 1
          ∧ (∀ x ∈ s.yrd.stops.head?, t.yrd.sent = some (rsWord (yardFrame s 3 0xFF x.1))
              ∧ t.yrd.stops = if x.2 ≤ 1 then s.yrd.stops.tail else s.yrd.stops.tail ++ [(x.1, x.2 - 1)])
          ∧ (s.yrd.stops = [] → ∀ m ∈ s.yrd.txq.head?, t.yrd.sent = some (rsWord (yardFrame s 2 m.addr m.data)) ∧ t.yrd.txq = s.yrd.txq.tail)
          ∧ (s.yrd.stops = [] → s.yrd.txq = [] → t.yrd.sent = some (rsWord (yardFrame s 1 0xFF [])))))
    ∧ (∀ centre nq b, yardOn s = true → isCoord s = true ∨ s.yrd.sawCyc = true → s.yrd.acq = true → 1 ≤ s.yrd.win → s.yrd.win < 49 →
        s.lea.addr ≠ 0 → windowOwner s (s.yrd.win + 1) = s.lea.addr → s.yrd.resend = true → s.yrd.last = some b →
        Does (.yardWindow centre nq) s (fun t => t.yrd.sent = some (rsWord b) ∧ t.yrd.resend = false ∧ t.yrd.seq = s.yrd.seq
          ∧ t.yrd.txq = s.yrd.txq ∧ t.yrd.stops = s.yrd.stops ∧ rget t F.YRD_FLAGS_RESEND = 1))
    ∧ (∀ centre nq, yardOn s = true → isCoord s = false → s.yrd.acq = true → 1 ≤ s.yrd.win → s.yrd.win < 49 →
        windowOwner s (s.yrd.win + 1) ≠ s.lea.addr ∨ s.yrd.sawCyc = false →
        Does (.yardWindow centre nq) s (fun t => t.yrd.win = s.yrd.win + 1 ∧ t.yrd.sent = none ∧ t.yrd.txq = s.yrd.txq))
    ∧ (∀ centre nq, yardOn s = true → isCoord s = false → s.yrd.acq = true → s.yrd.win = 0 → s.yrd.seen0 = true →
        s.yrd.pollCyc = true → s.yrd.pollMe = true →
        Does (.yardWindow centre nq) s (fun t => t.yrd.win = 1 ∧ t.yrd.pollMe = false ∧ t.yrd.last = s.yrd.last
          ∧ t.yrd.sent = some (rsWord (yardFrame s 4 1 (serialBytes s ++ leBytes 1 (b2n (isPost s) + 2 * b2n (isCoord s)) ++ [0])))))
    ∧ (∀ centre nq, yardOn s = true → isCoord s = false → s.yrd.acq = true → s.yrd.win = 0 → s.yrd.seen0 = false →
        Does (.yardWindow centre nq) s (fun t => t.yrd.miss = min 3 (s.yrd.miss + 1) ∧ rget t F.YRD_FLAGS_BMISS = 1
          ∧ (2 ≤ s.yrd.miss → t.yrd.lost = true) ∧ (s.yrd.miss < 2 → t.yrd.lost = s.yrd.lost)))
    ∧ (∀ centre nq, yardOn s = true → s.yrd.acq = false → isCoord s = false → s.yrd.pollMe = false →
        Does (.yardWindow centre nq) s (fun t => t.yrd.acq = false ∧ t.yrd.win = s.yrd.win ∧ t.yrd.sent = none))
    ∧ (∀ centre nq, yardOn s = true → Does (.yardWindow centre nq) s (fun t => t.yrd.quiet = (nq :: s.yrd.quiet).take 16
        ∧ rget t F.YRD_NOISE_FLOOR = min 0xFFFF (((nq :: s.yrd.quiet).take 16).foldl max 0)
        ∧ rget t F.YRD_NOISE_THR = min 0xFFFF (nYlTk s * ((nq :: s.yrd.quiet).take 16).foldl max 0)))
    ∧ (∀ centre nq rx, yardOn s = false → Does (.yardWindow centre nq) s (fun t => t = s) ∧ Does (.yardBeaconRx rx centre) s (fun t => t = s)
        ∧ Does (.yardFrameRx rx) s (fun t => t = s) ∧ Does .ylLost s (fun t => t = s))
    ∧ (∀ rx centre, yardOn s = true → isCoord s = false → rsDecodes s rx = true → u8 rx.bytes 0 / 16 = 0 →
        u16 rx.bytes 2 = siteId s % 65536 →
        Does (.yardBeaconRx rx centre) s (fun t => t.yrd.lost = false ∧ t.yrd.miss = 0 ∧ t.yrd.win = 0 ∧ t.yrd.acq = true
          ∧ t.yrd.naddr = u8 rx.bytes 1 ∧ t.yrd.nozc = (u8 rx.bytes 0).testBit 1 ∧ rget t F.YRD_FLAGS_BEACON = 1
          ∧ ((u8 rx.bytes 0).testBit 0 = false → t.yrd.cyc = u32 rx.bytes 0x14 ∧ t.yrd.sawCyc = true)
          ∧ ((u8 rx.bytes 0).testBit 0 = true → t.yrd.cyc = s.yrd.cyc
              ∧ t.yrd.pollMe = decide (u32 rx.bytes 0x14 = s.fuse.serial % 4294967296))
          ∧ (s.tmp.mode = .free → t.tmp.chain = ((s.tmp.chain : Int) + ((u64 rx.bytes 4 : Int) - centre)).toNat)
          ∧ (s.tmp.mode = .holdover → s.tmp.stepTo = none →
              rget t F.TMP_PHERR_ERR = ofSigned 32 ((u64 rx.bytes 4 : Int) - centre) % 2 ^ 32 ∧ t.tmp.chain = s.tmp.chain)))
    ∧ (∀ rx centre, yardOn s = true → isCoord s = false → rsDecodes s rx = true →
        u8 rx.bytes 0 / 16 ≠ 0 ∨ u16 rx.bytes 2 ≠ siteId s % 65536 →
        Does (.yardBeaconRx rx centre) s (fun t => t.yrd = s.yrd ∧ t.tmp = s.tmp
          ∧ rget t F.YRD_WINCNT_DECODED = min 65535 (rget s F.YRD_WINCNT_DECODED + 1)))
    ∧ (∀ rx centre, yardOn s = true → isCoord s = false → rsDecodes s rx = false → s.lea.addr ≠ 1 →
        Does (.yardBeaconRx rx centre) s (fun t => t.yrd.nak = 1 ∧ t.yrd.seen0 = s.yrd.seen0 ∧ rget t F.YRD_FLAGS_RXDISC = 1
          ∧ rget t F.YRD_WINCNT_DISC = min 65535 (rget s F.YRD_WINCNT_DISC + 1)))
    ∧ (∀ rx centre, isCoord s = true → Does (.yardBeaconRx rx centre) s (fun t => t = s))
    ∧ (∀ rx, yardOn s = true → rsDecodes s rx = true → u8 rx.bytes 0 ≠ s.lea.addr ∨ s.lea.addr = 0 → u8 rx.bytes 1 / 16 = 2 →
        Does (.yardFrameRx rx) s (fun t =>
          (yardForMe s rx.bytes = true → s.yrd.rxq.length < 32 → rget t F.YRD_FLAGS_RXMSG = 1
            ∧ t.yrd.rxq = s.yrd.rxq ++ [⟨u8 rx.bytes 0, 2, slice rx.bytes 0xE (min 10 (u8 rx.bytes 0xD))⟩])
          ∧ (yardForMe s rx.bytes = false ∨ 32 ≤ s.yrd.rxq.length → t.yrd.rxq = s.yrd.rxq)
          ∧ rget t F.YRD_WINCNT_DECODED = min 65535 (rget s F.YRD_WINCNT_DECODED + 1)
          ∧ rget t F.YRD_CORR_ERRS = min 65535 (rget s F.YRD_CORR_ERRS + rsErrs s rx)
          ∧ (u8 rx.bytes 3 = s.lea.addr → s.lea.addr ≠ 0 → s.yrd.last ≠ none → t.yrd.resend = true)))
    ∧ (∀ rx, yardOn s = true → rsDecodes s rx = true → u8 rx.bytes 0 ≠ s.lea.addr ∨ s.lea.addr = 0 → u8 rx.bytes 1 / 16 = 3 →
        stopNew s (u8 rx.bytes 0xE) (u16 rx.bytes 0x10) = true →
        Does (.yardFrameRx rx) s (fun t => stopNew t (u8 rx.bytes 0xE) (u16 rx.bytes 0x10) = false ∧ rget t F.YRD_FLAGS_STOPRX = 1
          ∧ rget t F.LEA_FLAGS_STOPRX = 1 ∧ (nStopRx s = true → t.lea.stopIn = some (u8 rx.bytes 0xE))
          ∧ t.yrd.stops = s.yrd.stops ++ [(slice rx.bytes 0xE 10, 2)] ∧ t.lea.ldCut = s.lea.ldCut))
    ∧ (∀ rx, yardOn s = true → rsDecodes s rx = true → u8 rx.bytes 0 ≠ s.lea.addr ∨ s.lea.addr = 0 → u8 rx.bytes 1 / 16 = 3 →
        stopNew s (u8 rx.bytes 0xE) (u16 rx.bytes 0x10) = false →
        Does (.yardFrameRx rx) s (fun t => t.lea = s.lea ∧ t.yrd.stops = s.yrd.stops ∧ rget t F.YRD_FLAGS_STOPRX = 1))
    ∧ (∀ rx, yardOn s = true → rsDecodes s rx = true → u8 rx.bytes 0 ≠ s.lea.addr ∨ s.lea.addr = 0 → u8 rx.bytes 1 / 16 = 4 →
        isCoord s = true → s.yrd.rxq.length < 32 →
        Does (.yardFrameRx rx) s (fun t => rget t F.YRD_FLAGS_POLLRX = 1
          ∧ t.yrd.rxq = s.yrd.rxq ++ [⟨u8 rx.bytes 0, 4, slice rx.bytes 0xE (min 10 (u8 rx.bytes 0xD))⟩]))
    ∧ (∀ rx, yardOn s = true → rsDecodes s rx = true → u8 rx.bytes 0 = s.lea.addr → s.lea.addr ≠ 0 →
        Does (.yardFrameRx rx) s (fun t => t.yrd = s.yrd ∧ t.lea = s.lea
          ∧ rget t F.YRD_WINCNT_DECODED = min 65535 (rget s F.YRD_WINCNT_DECODED + 1)))
    ∧ (∀ rx, yardOn s = true → rsDecodes s rx = false → windowOwner s s.yrd.win ≠ s.lea.addr →
        Does (.yardFrameRx rx) s (fun t => t.yrd.nak = windowOwner s s.yrd.win ∧ rget t F.YRD_FLAGS_RXDISC = 1
          ∧ (yardSat rx = true → rget t F.YRD_FLAGS_SAT = 1)
          ∧ rget t F.YRD_WINCNT_DISC = min 65535 (rget s F.YRD_WINCNT_DISC + 1)))
    ∧ (∀ rx, yardOn s = true → rsDecodes s rx = false → windowOwner s s.yrd.win = s.lea.addr →
        Does (.yardFrameRx rx) s (fun t => t.yrd.resend = s.yrd.last.isSome ∧ t.yrd.nak = s.yrd.nak))
    ∧ (yardOn s = true → isCoord s = false → 3 ≤ s.yrd.miss → Does .ylLost s (fun t => t.yrd.lost = true))
    ∧ (isCoord s = true ∨ s.yrd.miss < 3 → Does .ylLost s (fun t => t = s))
    ∧ (∀ v : Word, isCoord s = true → Does (.yardPoll v) s (fun t => t.yrd.poll = some v.toNat ∧ rget t F.YRD_POLL_SERIAL = v.toNat))
    ∧ (∀ v : Word, isCoord s = false → Does (.yardPoll v) s (fun t => t = s))
    ∧ (∀ (dst : BitVec 8) (len : Nat) (data : Bytes), Does (.yardMsgPush dst len data) s (fun t =>
        (∀ i : Fin 10, (yardWindow t).getD i 0 = data.getD i 0)
        ∧ (len % 16 ≤ 10 → s.yrd.txq.length < 16 → t.yrd.txq = s.yrd.txq ++ [⟨dst.toNat, 2, (yardWindow t).take (len % 16)⟩])
        ∧ (len % 16 ≤ 10 → 16 ≤ s.yrd.txq.length → t.yrd.txq = s.yrd.txq ∧ rget t F.YRD_FLAGS_TXFULL = 1)
        ∧ (10 < len % 16 → t.yrd.txq = s.yrd.txq ∧ rget t F.YRD_LENERR_COUNT = min 65535 (rget s F.YRD_LENERR_COUNT + 1))))
    ∧ Does .yardMsgHeadRemove s (fun t => t.yrd.rxq = s.yrd.rxq.drop 1)

/-- The switch and the UARTs: a frame is learnt and queued for every egress port, dropped and counted where the packet memory has no room,
counted for its length, or no frame of the switch (R363); a serial port's link (R363); and each UART's receive and transmit FIFOs with
their flags, which take nothing when full, and its receiver, which is deaf while the driver enable is raised (R366). -/
def Obligations.NetworkCommands : Prop :=
  ∀ (s : State),
    (∀ (p : Fin 2) (b : Bytes) (ns : Nat), swUp s p = true → 60 ≤ b.length → b.length ≤ 1518 → swRoom s (2 * b.length) = true →
        Does (.netFrameIngress p b true ns) s (fun t =>
          t.net.queue = s.net.queue
            ++ (swPorts (swLearn p b s) p b).map (fun q => ⟨q, framePcp b / 2, b, p, s.tmp.chain + ns, ptpEvent b, false⟩)
          ∧ (rbit s F.NET_CFG_LEARN = true → isGroup b 6 = false → (s.net.table.filter (swFresh s)).length < 1024 →
              (⟨macAt b 6, frameVlan b, p, s.tmp.now⟩ : SwEntry) ∈ t.net.table)
          ∧ (rbit s F.NET_CFG_LEARN = false ∨ isGroup b 6 = true → t.net.table = s.net.table)))
    ∧ (∀ (p : Fin 2) (b : Bytes) (ns q : Nat), swUp s p = true → 60 ≤ b.length → b.length ≤ 1518 →
        swPorts (swLearn p b s) p b = [q] → swRoom s b.length = false →
        Does (.netFrameIngress p b true ns) s (fun t => t.net.queue = s.net.queue ∧ rget t F.NET_FLAGS_DROP = 1
          ∧ rget t F.NET_DROP_COUNT = min 65535 (rget s F.NET_DROP_COUNT + 1)))
    ∧ (∀ (p : Fin 2) (b : Bytes) (ns : Nat), swUp s p = true → 1518 < b.length →
        Does (.netFrameIngress p b true ns) s (fun t => t.net = s.net
          ∧ rget t F.NET_LENERR_COUNT = min 65535 (rget s F.NET_LENERR_COUNT + 1)))
    ∧ (∀ (p : Fin 2) (b : Bytes) (fcs : Bool) (ns : Nat), swUp s p = false ∨ fcs = false ∨ b.length < 60 →
        Does (.netFrameIngress p b fcs ns) s (fun t => t = s))
    ∧ (∀ (p : Fin 2) (up fdx : Bool) (speed : BitVec 2), netOn s = true → nSgMode s p ≠ 0 → rbit s (F.NET_PSTAT_LINK p) ≠ up →
        Does (.sgLinkChange p up fdx speed) s (fun t => rbit t (F.NET_PSTAT_LINK p) = up ∧ rget t (F.NET_PSTAT_SPEED p) = speed.toNat
          ∧ rbit t (F.NET_PSTAT_FDX p) = fdx ∧ rget t F.NET_FLAGS_LINKCHG = 1))
    ∧ (∀ (p : Fin 2) (up fdx : Bool) (speed : BitVec 2), netOn s = false ∨ nSgMode s p = 0 ∨ rbit s (F.NET_PSTAT_LINK p) = up →
        Does (.sgLinkChange p up fdx speed) s (fun t => t = s))
    ∧ (∀ (u : Fin 2) (c : BitVec 8) (perr ferr : Bool), uartOn s u = true → (uart s u).de = false →
        Does (.uartRxChar u c perr ferr) s (fun t =>
          ((uart s u).rx.length < 64 →
            (uart t u).rx = (uart s u).rx ++ [(c.toNat % 2 ^ (5 + rget s (F.UA_CFG_BITS u)), perr, ferr)])
          ∧ (64 ≤ (uart s u).rx.length → (uart t u).rx = (uart s u).rx)
          ∧ rget t (perFlag u 0) = 1 ∧ ((perr || ferr) = true → rget t (perFlag u 2) = 1
              ∧ rget t (F.UA_STAT_ERRCNT u) = min 65535 (rget s (F.UA_STAT_ERRCNT u) + 1))))
    ∧ (∀ (u : Fin 2) (c : BitVec 8) (perr ferr : Bool), uartOn s u = false ∨ (uart s u).de = true →
        Does (.uartRxChar u c perr ferr) s (fun t => t = s))
    ∧ (∀ (u : Fin 2) (c : Nat) (pe fe : Bool) (rest : List (Nat × Bool × Bool)), (uart s u).rx = (c, pe, fe) :: rest →
        Does (.uartRxPop u) s (fun t => (uart t u).rx = rest ∧ t.resp = ⟨false, c + 256 * b2n pe + 512 * b2n fe⟩))
    ∧ (∀ u : Fin 2, (uart s u).rx = [] → Does (.uartRxPop u) s (fun t => t.ua = s.ua ∧ t.resp = ⟨false, 0⟩))
    ∧ (∀ (u : Fin 2) (c : BitVec 8), (uart s u).tx.length < 64 →
        Does (.uartTxWrite u c) s (fun t => (uart t u).tx = (uart s u).tx ++ [c.toNat]))
    ∧ (∀ (u : Fin 2) (c : BitVec 8), 64 ≤ (uart s u).tx.length → Does (.uartTxWrite u c) s (fun t => t = s))
    ∧ (∀ (u : Fin 2) (chars : Nat), uartOn s u = true → max 1 (rget s (F.UA_CFG_IDLE u)) ≤ chars →
        Does (.uartIdleTimeout u chars) s (fun t => rget t (perFlag u 3) = 1))
    ∧ (∀ (u : Fin 2) (chars : Nat), uartOn s u = false ∨ chars < max 1 (rget s (F.UA_CFG_IDLE u)) →
        Does (.uartIdleTimeout u chars) s (fun t => t = s))

/-- The boot and your firmware's first write: with too many failed starts, or with a part that does not answer, the boot ends in Stalemate
mode with its recovery code (R371, R384, R386); otherwise the three images that pass run (R370, R372). A boot record with a trial is
handled first: PENDING becomes BOOTING where every tried image passes, and otherwise, or where BOOTING is found, the trial is reverted with
FALLBACK (R373). The first RST_BOOTOK stops the timer, clears FAILCNT, completes a trial and sets the seal (R371, R373, R498). Neither
command does anything where it has no part. -/
def Obligations.BootCommands : Prop :=
  ∀ (s : State) (flash dram : Bool),
    (s.pwr.boot = .rom → Does (.bootSequence flash dram) s (fun t =>
        (rget s F.RST_FAILCNT_THR ≤ s.pwr.failCnt → t.pwr.boot = .stalemate ∧ t.fwu.recCode = 1)
          ∧ (s.pwr.failCnt < rget s F.RST_FAILCNT_THR → flash = false → t.pwr.boot = .stalemate ∧ t.fwu.recCode = 5)
          ∧ (t.pwr.boot = .running → t.loaded = true ∧ t.lea.byp = true ∧ rget t F.KEY_STATUS_HWKEYS = 1)
          ∧ (t.pwr.boot ≠ .running → t.pwr.boot = .stalemate ∧ 1 ≤ t.fwu.recCode ∧ t.fwu.recCode ≤ 6)))
    ∧ (s.pwr.boot ≠ .rom → Does (.bootSequence flash dram) s (fun t => t = s))
    ∧ (s.pwr.boot = .rom → s.loaded = false → s.pwr.failCnt < rget s F.RST_FAILCNT_THR →
        let l := bootLegal (trialStart (measStart s))
        let r := bootLayout l.2
        let a := bootSlot 0 r.2
        Does (.bootSequence true dram) s (fun t =>
          (l.1.isSome = false → t.pwr.boot = .stalemate ∧ t.fwu.recCode = 2)
            ∧ (l.1.isSome = true → r.1.isSome = false → t.pwr.boot = .stalemate ∧ t.fwu.recCode = 3)
            ∧ (l.1.isSome = true → r.1.isSome = true → dram = false → t.pwr.boot = .stalemate ∧ t.fwu.recCode = 6)
            ∧ (l.1.isSome = true → r.1.isSome = true → dram = true → a.1.isSome = false → t.pwr.boot = .stalemate ∧ t.fwu.recCode = 4)
            ∧ (l.1.isSome = true → r.1.isSome = true → dram = true → a.1.isSome = true → t.pwr.boot = .running ∧ t.loaded = true
              ∧ Tab.get [] t.fwu.run 0 = (slotMan a.2 0 (a.1.getD 0)).take 128)))
    ∧ (s.pwr.boot = .rom → s.loaded = false → s.pwr.failCnt < rget s F.RST_FAILCNT_THR →
        let s1 := recWrite (recActive s) (recTry s) 2 (recUnconf s) (u16 (bootRec s) 0xC) (measStart s)
        let good := (List.range 3).all (fun c => !(recTry s).testBit c || slotVerdict s1 c (1 - activeSlot s c) == .ok)
        Does (.bootSequence true dram) s (fun t =>
          (recTrial s = 1 → good = true → t.flash = s1.flash)
            ∧ (recTrial s = 1 → good = false → rget t F.FWU_FLAGS_FALLBACK = 1)
            ∧ (recTrial s = 2 → rget t F.FWU_FLAGS_FALLBACK = 1
              ∧ t.flash = (recWrite (recActive s) 0 0 (recUnconf s) (u16 (bootRec s) 0xC) s).flash)
            ∧ (recTrial s ≠ 1 → recTrial s ≠ 2 → t.flash = s.flash)))
    ∧ (s.pwr.appOn = true → s.pwr.boot = .running → s.pwr.bootOk = false →
        Does .bootok s (fun t => t.pwr.bootOk = true ∧ t.pwr.bootOn = false ∧ t.pwr.failCnt = 0 ∧ rget t F.RST_BOOTOK_OK = 1
          ∧ rget t F.SYS_SEAL_SEAL = 1 ∧ (rbit s F.SYS_SEAL_SEAL = false → rget t F.SYS_SEAL_BYBOOTOK = 1)
          ∧ (recTrial s = 2 → rget t F.FWU_FLAGS_TRIALOK = 1
            ∧ t.flash = (recWrite (recActive s ^^^ recTry s) 0 0 (recUnconf s ||| recTry s) (u16 (bootRec s) 0xC) s).flash)
          ∧ (recTrial s ≠ 2 → t.flash = s.flash)))
    ∧ (s.pwr.appOn = false ∨ s.pwr.boot ≠ .running ∨ s.pwr.bootOk = true → Does .bootok s (fun t => t = s))

/-- The FWU commands: PROGRAM checks the staged image, each failure with its result, erases the slot that ACTIVE does not name and writes it
there, and is refused while that slot holds the fall-back image (R376); its completion, or a flash that fails; EXTEND extends MEAS7 (R374);
CONFIRM raises the fused counter and clears UNCONF, or is refused (R381); REVOKE revokes a root that no class needs; a command while one
runs is answered BUSY, and a domain that is off takes none. -/
def Obligations.UpdateCommands : Prop :=
  ∀ (s : State) (c : BitVec 4),
    (appOn s = true → s.fwu.busy = none → c.toNat ≤ 2 → (recUnconf s).testBit c.toNat = true →
        Does (.fwuProgram c) s (fun t => rget t F.FWU_CMDSTAT_RESULT = 5 ∧ t.fwu.busy = none ∧ t.flash = s.flash))
    ∧ (appOn s = true → s.fwu.busy = none → 2 < c.toNat →
        Does (.fwuProgram c) s (fun t => rget t F.FWU_CMDSTAT_RESULT = 2 ∧ t.fwu.busy = none ∧ t.flash = s.flash)
        ∧ Does (.fwuConfirm c) s (fun t => rget t F.FWU_CMDSTAT_RESULT = 2 ∧ t.fuse = s.fuse ∧ t.flash = s.flash))
    ∧ (appOn s = true → s.fwu.busy = none → c.toNat ≤ 2 → (recUnconf s).testBit c.toNat = false → let m := memRead s stagedMan 65536
        manSizesOk m c.toNat = true → manFormOk m c.toNat = true →
        Does (.fwuProgram c) s (fun t =>
          (digestsOk (fun off n => memRead s (stagedImg + off) n) m = true → t.fwu.busy = some (1, c.toNat) ∧ rget t F.FWU_CMDSTAT_BUSY = 1
            ∧ rget t F.FWU_PROG_DONE = 0 ∧ t.flash = (flashErase c.toNat (1 - activeSlot s c.toNat) s).flash)
          ∧ (digestsOk (fun off n => memRead s (stagedImg + off) n) m = false → t.fwu.busy = none ∧ rget t F.FWU_CMDSTAT_RESULT = 4
            ∧ t.flash = s.flash)))
    ∧ (appOn s = true → s.fwu.busy = none → c.toNat ≤ 2 → (recUnconf s).testBit c.toNat = false → let m := memRead s stagedMan 65536
        manSizesOk m c.toNat = true → manFormOk m c.toNat = false →
        Does (.fwuProgram c) s (fun t => rget t F.FWU_CMDSTAT_RESULT = 3 ∧ t.fwu.busy = none ∧ t.flash = s.flash))
    ∧ (appOn s = true → s.fwu.busy = none → c.toNat ≤ 2 → (recUnconf s).testBit c.toNat = false →
        manSizesOk (memRead s stagedMan 65536) c.toNat = false →
        Does (.fwuProgram c) s (fun t => rget t F.FWU_CMDSTAT_RESULT = 8
          ∧ rget t F.FWU_LENERR_COUNT = min 65535 (rget s F.FWU_LENERR_COUNT + 1) ∧ t.flash = s.flash))
    ∧ (∀ k, s.fwu.busy = some (1, k) → let m := memRead s stagedMan 65536
        Does (.fwuProgramComplete true) s (fun t => t.fwu.busy = none ∧ rget t F.FWU_CMDSTAT_BUSY = 0
          ∧ rget t F.FWU_CMDSTAT_RESULT = (if digestsOk (slotRead t k (1 - activeSlot s k)) m then 0 else 9) ∧ rget t F.FWU_FLAGS_CMDDONE = 1
          ∧ t.flash = (imageWrite k (1 - activeSlot s k) (m.take (manManlen m)) (memRead s stagedImg (manImglen m)) s).flash)
        ∧ Does (.fwuProgramComplete false) s (fun t => t.fwu.busy = none ∧ rget t F.FWU_CMDSTAT_BUSY = 0
          ∧ rget t F.FWU_CMDSTAT_RESULT = 9 ∧ rget t F.FWU_FLAGS_CMDDONE = 1 ∧ t.flash = s.flash))
    ∧ (∀ flash, s.fwu.busy = none → Does (.fwuProgramComplete flash) s (fun t => t = s))
    ∧ (appOn s = true → s.fwu.busy = none → Does .fwuExtend s (fun t => rget t F.FWU_CMDSTAT_RESULT = 0 ∧ rget t F.FWU_FLAGS_CMDDONE = 1
          ∧ Tab.get [] t.key.meas 7 = Config.sm3 (Tab.get [] s.key.meas 7 ++ digestOf s F.FWU_DATA_DATA)
          ∧ ∀ k : Fin 7, Tab.get [] t.key.meas k = Tab.get [] s.key.meas k))
    ∧ (appOn s = true → s.fwu.busy = none → c.toNat ≤ 2 → (recUnconf s).testBit c.toNat = true → s.pwr.bootOk = true →
        Does (.fwuConfirm c) s (fun t => rget t F.FWU_CMDSTAT_RESULT = 0
          ∧ Tab.get 0 t.fuse.svcnt c.toNat
            = max (Tab.get 0 s.fuse.svcnt c.toNat) (min (if c.toNat = 0 then 127 else 63) (manSecver (Tab.get [] s.fwu.run c.toNat)))
          ∧ t.flash = (recWrite (recActive s) (recTry s) (recTrial s) (setBit (recUnconf s) c.toNat false) (u16 (bootRec s) 0xC) s).flash))
    ∧ (appOn s = true → s.fwu.busy = none → c.toNat ≤ 2 → (recUnconf s).testBit c.toNat = false ∨ s.pwr.bootOk = false →
        Does (.fwuConfirm c) s (fun t => t.fuse = s.fuse ∧ rget t F.FWU_CMDSTAT_RESULT = 7 ∧ t.flash = s.flash))
    ∧ (appOn s = true → s.fwu.busy = none → 1 ≤ c.toNat → c.toNat ≤ 3 →
        Does (.fwuRevoke c) s (fun t =>
          ((List.range 3).all (classKept s c.toNat) = true → rget t F.FWU_CMDSTAT_RESULT = 0
            ∧ t.fuse = { s.fuse with root := Tab.upd s.fuse.root c.toNat (fun x => (x.1, x.2.1, true)) })
          ∧ ((List.range 3).all (classKept s c.toNat) = false → rget t F.FWU_CMDSTAT_RESULT = 7 ∧ t.fuse = s.fuse)))
    ∧ (appOn s = true → s.fwu.busy = none → c.toNat = 0 ∨ 3 < c.toNat →
        Does (.fwuRevoke c) s (fun t => rget t F.FWU_CMDSTAT_RESULT = 2 ∧ t.fuse = s.fuse))
    ∧ (appOn s = true → s.fwu.busy.isSome = true →
        Does (.fwuProgram c) s (fun t => t = rput F.FWU_CMDSTAT_RESULT 1 s) ∧ Does (.fwuConfirm c) s (fun t => t = rput F.FWU_CMDSTAT_RESULT 1 s)
        ∧ Does (.fwuRevoke c) s (fun t => t = rput F.FWU_CMDSTAT_RESULT 1 s) ∧ Does .fwuExtend s (fun t => t = rput F.FWU_CMDSTAT_RESULT 1 s)
        ∧ Does .fwuActivate s (fun t => t = rput F.FWU_CMDSTAT_RESULT 1 s) ∧ Does .fwuCancel s (fun t => t = rput F.FWU_CMDSTAT_RESULT 1 s))
    ∧ (appOn s = false → Does (.fwuProgram c) s (fun t => t = s) ∧ Does (.fwuConfirm c) s (fun t => t = s)
        ∧ Does (.fwuRevoke c) s (fun t => t = s) ∧ Does .fwuExtend s (fun t => t = s) ∧ Does .fwuActivate s (fun t => t = s)
        ∧ Does .fwuCancel s (fun t => t = s))

/-- Activation across the string: ACTIVATE and CANCEL as commands, refused outside the coordinator or without an activation, and as frames,
taken, replaced or ignored; their repetition; GO once every member is idle and staged, and as a frame; what a member does at RESTART; and
the two expiries (R378, R379, R380). A frame on a port that is off does nothing, one that R330 discards or rejects is counted, and one
for another module is forwarded (R331). A command whose moment has not come changes nothing. -/
def Obligations.ActivationCommands : Prop :=
  ∀ (s : State) (p : LPort) (rx : LeadRx), let d := fData rx.bytes
    (appOn s = true → s.fwu.busy = none → isCoord s = true →
        Does .fwuActivate s (fun t => t.fwu.lead = true ∧ rget t F.FWU_CMDSTAT_RESULT = 0 ∧ t.fwu.repAt = s.tmp.now ∧ t.fwu.repEnd = none
          ∧ t.fwu.rep.map (fun b => u8 b 0) = some 6 ∧ t.fwu.actId % 65536 = rget s F.FWU_ACTCFG_ACTID % 65536
          ∧ t.fwu.early = rget s F.FWU_ACTEARLO_EARLIEST + 4294967296 * rget s F.FWU_ACTEARHI_EARLIEST))
    ∧ (appOn s = true → s.fwu.busy = none → isCoord s = false →
        Does .fwuActivate s (fun t => t.fwu = s.fwu ∧ rget t F.FWU_CMDSTAT_RESULT = 6)
        ∧ Does .fwuCancel s (fun t => t.fwu = s.fwu ∧ rget t F.FWU_CMDSTAT_RESULT = 6))
    ∧ (appOn s = true → s.fwu.busy = none → isCoord s = true → s.fwu.lead = true → s.fwu.actId < 65536 →
        Does .fwuCancel s (fun t => t.fwu.lead = false ∧ rget t F.FWU_CMDSTAT_RESULT = 0 ∧ t.fwu.repEnd = some (s.tmp.now + 20000)
          ∧ t.fwu.rep.map (fun b => u8 b 0) = some 8 ∧ (s.fwu.act ≠ 0 → t.fwu.act = 0 ∧ rget t F.FWU_FLAGS_ACTCANCEL = 1)))
    ∧ (appOn s = true → s.fwu.busy = none → isCoord s = true → s.fwu.lead = false →
        Does .fwuCancel s (fun t => t.fwu = s.fwu ∧ rget t F.FWU_CMDSTAT_RESULT = 7))
    ∧ (portOn s p = false → Does (.activateRx p rx) s (fun t => t = s) ∧ Does (.goRx p rx) s (fun t => t = s)
        ∧ Does (.cancelRx p rx) s (fun t => t = s))
    ∧ (portOn s p = true → leadFault rx = 1 → Does (.activateRx p rx) s (fun t => t = rsat F.LEA_BADFRM_COUNT 1 s)
        ∧ Does (.goRx p rx) s (fun t => t = rsat F.LEA_BADFRM_COUNT 1 s) ∧ Does (.cancelRx p rx) s (fun t => t = rsat F.LEA_BADFRM_COUNT 1 s))
    ∧ (portOn s p = true → leadFault rx = 2 → Does (.activateRx p rx) s (fun t => t = rsat F.LEA_LENERR_COUNT 1 s)
        ∧ Does (.goRx p rx) s (fun t => t = rsat F.LEA_LENERR_COUNT 1 s) ∧ Does (.cancelRx p rx) s (fun t => t = rsat F.LEA_LENERR_COUNT 1 s))
    ∧ (∀ q, LeadHeard s p rx → leadRoute s p (hDst rx.bytes) = (false, some q) → hTyp rx.bytes = tyCmd →
        (fOp rx.bytes = 6 → Does (.activateRx p rx) s (fun t => t = leadQueue q true rx.bytes s))
        ∧ (fOp rx.bytes = 7 → Does (.goRx p rx) s (fun t => t = leadQueue q true rx.bytes s))
        ∧ (fOp rx.bytes = 8 → Does (.cancelRx p rx) s (fun t => t = leadQueue q true rx.bytes s)))
    ∧ (LeadMine s p rx → hTyp rx.bytes = tyCmd → fOp rx.bytes = 6 →
        (u64 d 20).testBit s.lea.addr = true → s.lea.addr ≠ 0 →
        s.fwu.act = 0 ∨ actLater (u16 d 0) s.fwu.actId = true →
        Does (.activateRx p rx) s (fun t => t.fwu.act = 1 ∧ t.fwu.actId = u16 d 0 ∧ t.fwu.mask = u8 d 2 % 8 ∧ t.fwu.latest = u64 d 12
          ∧ t.fwu.digs = slice d 28 48 ∧ t.fwu.go = false ∧ rget t F.FWU_ACTCFG_ACTID = u16 d 0))
    ∧ (LeadMine s p rx → hTyp rx.bytes = tyCmd → fOp rx.bytes = 6 →
        (u64 d 20).testBit s.lea.addr = false ∨ s.lea.addr = 0 ∨ s.fwu.act ≠ 0 ∧ actLater (u16 d 0) s.fwu.actId = false →
        Does (.activateRx p rx) s (fun t => t.fwu = s.fwu ∧ t.regs = s.regs))
    ∧ (∀ b, s.fwu.rep = some b → (∀ e ∈ s.fwu.repEnd.toList, s.tmp.now ≤ e) → 2000 ≤ sinceT s s.fwu.repAt → isCoord s = true →
        portOn s .ld = true →
        Does .activationRepeat s (fun t => t.fwu.repAt = s.tmp.now ∧ t.fwu.rep = some b
          ∧ t.lea.ldTx = s.lea.ldTx ++ [⟨tyCmd, false, (mkFrame tyCmd 0xFF 0 b s).1⟩]))
    ∧ (∀ b e, s.fwu.rep = some b → s.fwu.repEnd = some e → e < s.tmp.now → Does .activationRepeat s (fun t => t.fwu.rep = none ∧ t.lea = s.lea))
    ∧ (s.fwu.rep = none ∨ (∀ e ∈ s.fwu.repEnd.toList, s.tmp.now ≤ e) ∧ (sinceT s s.fwu.repAt < 2000 ∨ isCoord s = false) →
        Does .activationRepeat s (fun t => t = s))
    ∧ (netOn s = true → isCoord s = true → s.fwu.lead = true → s.fwu.early ≤ s.tmp.chain →
        (∀ a ∈ members s, memberIdle s a = true ∧ memberStaged s a = true) → s.fwu.actId < 65536 → s.tmp.chain + 20000000 < 2 ^ 64 →
        Does .activationGo s (fun t => t.fwu.lead = false ∧ t.fwu.rep.map (fun b => (u8 b 0, u64 b 10)) = some (7, s.tmp.chain + 20000000)
          ∧ (s.fwu.act = 1 → t.fwu.act = 2 ∧ t.fwu.restart = s.tmp.chain + 20000000)))
    ∧ (netOn s = false ∨ isCoord s = false ∨ s.fwu.lead = false ∨ s.tmp.chain < s.fwu.early
          ∨ (members s).all (fun a => memberIdle s a && memberStaged s a) = false →
        Does .activationGo s (fun t => t = s))
    ∧ (LeadMine s p rx → hTyp rx.bytes = tyCmd → fOp rx.bytes = 7 →
        s.fwu.act = 1 → u16 d 0 = s.fwu.actId → s.tmp.chain ≤ u64 d 8 →
        Does (.goRx p rx) s (fun t => t.fwu.act = 2 ∧ t.fwu.restart = u64 d 8 ∧ rget t F.FWU_FLAGS_ACTGO = 1))
    ∧ (LeadMine s p rx → hTyp rx.bytes = tyCmd → fOp rx.bytes = 7 →
        s.fwu.act ≠ 1 ∨ u16 d 0 ≠ s.fwu.actId ∨ u64 d 8 < s.tmp.chain →
        Does (.goRx p rx) s (fun t => t.fwu = s.fwu ∧ t.regs = s.regs))
    ∧ (s.fwu.act = 2 → s.fwu.restart ≤ s.tmp.chain →
        (∀ n : Fin 4, (outShown s n).st ∈ [OutSt.idle, .plugged, .authWait, .oos]) →
        Does .activationRestart s (fun t =>
          (stagedBits s &&& s.fwu.mask = s.fwu.mask → t.pwr.boot = .stretch ∧ (rget t F.RST_CAUSE_SEEN).testBit 6 = true
            ∧ t.flash = (recWrite (recActive s) s.fwu.mask 1 (recUnconf s) s.fwu.actId s).flash)
          ∧ (stagedBits s &&& s.fwu.mask ≠ s.fwu.mask → t.fwu.act = 0 ∧ rget t F.FWU_FLAGS_ACTMISS = 1 ∧ t.flash = s.flash)))
    ∧ (∀ n : Fin 4, s.fwu.act = 2 → s.fwu.restart ≤ s.tmp.chain → (outShown s n).st ∉ [OutSt.idle, .plugged, .authWait, .oos] →
        Does .activationRestart s (fun t => t.fwu.act = 0 ∧ rget t F.FWU_FLAGS_ACTMISS = 1 ∧ t.flash = s.flash))
    ∧ (s.fwu.act ≠ 2 ∨ s.tmp.chain < s.fwu.restart → Does .activationRestart s (fun t => t = s))
    ∧ (isCoord s = true → s.fwu.lead = true → s.fwu.latest < s.tmp.chain → s.fwu.actId < 65536 →
        Does .activationLatestExpiry s (fun t => t.fwu.lead = false ∧ t.fwu.rep.map (fun b => u8 b 0) = some 8
          ∧ (s.fwu.act ≠ 0 → t.fwu.act = 0 ∧ rget t F.FWU_FLAGS_ACTCANCEL = 1)))
    ∧ (isCoord s = false ∨ s.fwu.lead = false ∨ s.tmp.chain ≤ s.fwu.latest → Does .activationLatestExpiry s (fun t => t = s))
    ∧ (LeadMine s p rx → hTyp rx.bytes = tyCmd → fOp rx.bytes = 8 → s.fwu.act ≠ 0 → u16 d 0 = s.fwu.actId →
        Does (.cancelRx p rx) s (fun t => t.fwu.act = 0 ∧ t.fwu.go = false ∧ rget t F.FWU_FLAGS_ACTCANCEL = 1))
    ∧ (LeadMine s p rx → hTyp rx.bytes = tyCmd → fOp rx.bytes = 8 → s.fwu.act = 0 ∨ u16 d 0 ≠ s.fwu.actId →
        Does (.cancelRx p rx) s (fun t => t.fwu = s.fwu ∧ t.regs = s.regs))
    ∧ (s.fwu.act = 1 → s.fwu.latest + 1000000000 ≤ s.tmp.chain →
        Does .activationMemberTimeout s (fun t => t.fwu.act = 0 ∧ rget t F.FWU_FLAGS_ACTCANCEL = 1))
    ∧ (s.fwu.act ≠ 1 ∨ s.tmp.chain < s.fwu.latest + 1000000000 → Does .activationMemberTimeout s (fun t => t = s))

/-- Recovery and debug: the items shown in turn (R386), a downloaded image that passes R370 is written with its boot record to the slot that
fails R370 or that ACTIVE does not name, one that fails or is too short leaves the flash (R387), the loader's reset (R388), and an unlock
attempt, which replaces the challenge and is refused within 10 s of the last, under another debug policy or without entropy (R374, R390,
R413). Outside Stalemate mode the loader does nothing. -/
def Obligations.RecoveryAndUnlock : Prop :=
  ∀ s : State,
    (s.pwr.boot = .stalemate → s.fwu.recShown + 163840 ≤ s.pwr.rtc → Does .recoveryDisplayCycle s (fun t => t.fwu.recShown = s.pwr.rtc ∧ t.fwu.recItem = (s.fwu.recItem + 1) % recoveryItems s
          ∧ t.fram = s.fram))
    ∧ (∀ (alt : Fin 3) (data : Bytes), s.pwr.boot = .stalemate → let n := manManlen data
        let rd := fun off k => slice data (n + off) k
        let k := if slotVerdict s alt (activeSlot s alt) = .ok then 1 - activeSlot s alt else activeSlot s alt
        let s1 := imageWrite alt k ((data.take n).take (manManlen (data.take n))) (rd 0 (manImglen (data.take n))) (flashErase alt k s)
        n + manImglen data ≤ data.length →
        Does (.recoveryUsbDownload alt data) s (fun t =>
          (imageVerdict rd (data.take n) alt.val s = .ok → t.pwr.failCnt = 0 ∧ t.fwu.recAt = s.pwr.rtc
              ∧ t.flash = (recWrite (setBit (recActive s1) alt (k == 1)) 0 0 (setBit (recUnconf s1) alt false) (u16 (bootRec s1) 0xC) s1).flash)
            ∧ (imageVerdict rd (data.take n) alt.val s ≠ .ok → t.flash = s.flash ∧ t.pwr = s.pwr)))
    ∧ (∀ (alt : Fin 3) (data : Bytes), s.pwr.boot ≠ .stalemate ∨ data.length < manManlen data + manImglen data →
        Does (.recoveryUsbDownload alt data) s (fun t => t = s))
    ∧ (s.pwr.boot = .stalemate → s.pwr.rtc < s.fwu.recShown + 163840 → Does .recoveryDisplayCycle s (fun t => t = s))
    ∧ (s.pwr.boot ≠ .stalemate → Does .recoveryDisplayCycle s (fun t => t = s) ∧ Does .recoveryReset s (fun t => t = s))
    ∧ (s.pwr.boot = .stalemate → s.lea.xfer = none → s.fwu.recAt + 32768 ≤ s.pwr.rtc →
        let all := (List.range 3).all (fun c => slotVerdict s c 0 == .ok || slotVerdict s c 1 == .ok)
        Does .recoveryReset s (fun t => (all = true → t.pwr.boot = .stretch ∧ rget t F.RST_CAUSE_PRIMARY = 7 ∧ t.pwr.failCnt = s.pwr.failCnt)
          ∧ (all = false → t = s)))
    ∧ (s.pwr.boot = .stalemate → s.lea.xfer ≠ none ∨ s.pwr.rtc < s.fwu.recAt + 32768 → Does .recoveryReset s (fun t => t = s))
    ∧ (∀ (token : Bytes), s.pwr.boot = .running → rget s F.SYS_OPT_DBG = 1 → s.key.rngFail = false →
        (∀ a ∈ s.fwu.dbgTry.toList, 200000 ≤ sinceT s a) →
        Does (.jtagUnlock token) s (fun t => t.fwu.dbgTry = some s.tmp.now
          ∧ (∀ k : Fin 4, rget t (F.FWU_DBGCHAL_CHAL k) = Config.freeValue (s.freeCtr + k) % 2 ^ 32)
          ∧ (unlockOk token s = true → rget t F.FWU_STATUS_DBGON = 1
            ∧ Tab.get [] t.key.meas 6 = Config.sm3 (Tab.get [] s.key.meas 6 ++ token.take 112))
          ∧ (unlockOk token s = false → t.key.meas = s.key.meas ∧ rget t F.FWU_STATUS_DBGON = rget s F.FWU_STATUS_DBGON)))
    ∧ (∀ (token : Bytes), s.pwr.boot ≠ .running ∨ rget s F.SYS_OPT_DBG ≠ 1 ∨ s.key.rngFail = true
          ∨ (s.fwu.dbgTry ≠ none ∧ ∀ a ∈ s.fwu.dbgTry.toList, sinceT s a < 200000) →
        Does (.jtagUnlock token) s (fun t => t = s))

/-- Slot commands. WRITE, NARROW and ERASE are taken with their operands, a WRITE with its key bytes; while one runs, or without power, a
command changes nothing (R394, R395). Completing, BUSY clears and SLOTDONE sets. A WRITE fills its slot with the key under a fresh mask, a
pair of slots for P521, and zeroes the data registers; it ends in BADKEY for a scalar out of range, a point off its curve, a byte set after
the key, a policy the type does not allow and P521 in an odd slot, in POLICY for a hardware slot and for the second slot of a pair, in
BADARG for no type and a SECRET of no length, and in LENERR for one of more than 64 bytes (R44, R392 to R394, R397). NARROW clears policy
bits, but may set NOEXP; ERASE empties a slot, and both of a pair; a hardware slot refuses both (R395). The sweep gives one slot fresh
shares, leaves every key, and skips the slot a WRITE fills (R398). A read of KEY_RNG gives 32 free bits, 0 after both sources failed; the
generators reseed; a source that fails is dropped with RNGSRC, the second with RNGFAIL (R412, R413). Which result a hardware slot, the
second slot of a pair, no type and no command code give, and that the last two bytes of a P521 key are free, are the model's choices
(log entries 60 and 150). -/
def Obligations.KeyCommands : Prop :=
  ∀ (s : State),
    (∀ (slot : BitVec 6) (typ : BitVec 4) (pol : BitVec 5) (len : BitVec 7), keyOn s = true → s.key.cmd = none →
        Does (.keyWrite slot typ pol len) s (fun t => rget t F.KEY_SLOTCMD_BUSY = 1
          ∧ t.key.cmd = some ⟨1, slot.toNat, typ.toNat, pol.toNat, len.toNat,
              (List.range 16).flatMap (fun k => digestBytes (rget s (F.KEY_SLOTDATA_DATA k)))⟩))
    ∧ (∀ (slot : BitVec 6) (pol : BitVec 5), keyOn s = true → s.key.cmd = none →
        Does (.keyNarrow slot pol) s (fun t => rget t F.KEY_SLOTCMD_BUSY = 1
          ∧ t.key.cmd.map (fun c => (c.op, c.slot, c.pol)) = some (2, slot.toNat, pol.toNat)))
    ∧ (∀ (slot : BitVec 6), keyOn s = true → s.key.cmd = none →
        Does (.keyErase slot) s (fun t => rget t F.KEY_SLOTCMD_BUSY = 1
          ∧ t.key.cmd.map (fun c => (c.op, c.slot)) = some (3, slot.toNat)))
    ∧ (∀ (slot : BitVec 6) (typ : BitVec 4) (pol : BitVec 5) (len : BitVec 7), s.key.cmd.isSome = true ∨ keyOn s = false →
        ∀ x ∈ [Instr.keyWrite slot typ pol len, .keyNarrow slot pol, .keyErase slot], Does x s (fun t => t = s))
    ∧ (∀ c, s.key.cmd = some c → c.op = 1 → 1 ≤ c.typ → c.typ ≤ 0xB → c.typ ≠ tyP521 → (c.typ = tySecret → 1 ≤ c.len) →
        (c.typ = tySecret → c.len ≤ 64) → 4 ≤ c.slot → c.slot < 64 → pairHalf s c.slot = false →
        let n := if c.typ = tySecret then c.len else typLen c.typ
        let off := (typPriv c.typ && !Config.scalarOk c.typ (c.data.take n)) || (typPub c.typ && !Config.pointOk c.typ (c.data.take n))
        let bad := off || !allZero (c.data.drop n) || decide (c.pol &&& typPolicy c.typ ≠ c.pol)
        Does .keySlotcmdDone s (fun t => t.key.cmd = none ∧ rget t F.KEY_SLOTCMD_BUSY = 0 ∧ rget t F.KEY_FLAGS_SLOTDONE = 1
          ∧ (∀ k : Fin 16, rget t (F.KEY_SLOTDATA_DATA k) = 0)
          ∧ (bad = true → t.key.slot = s.key.slot ∧ rget t F.KEY_SLOTCMD_RESULT = 2)
          ∧ (bad = false → (kslot t c.slot).typ = c.typ ∧ (kslot t c.slot).pol = c.pol ∧ slotKey t c.slot = c.data.take n
              ∧ (kslot t c.slot).mask = leBytes 64 (freeNat s).1 ∧ rget t F.KEY_SLOTCMD_RESULT = 0
              ∧ ((kslot s c.slot).typ = tyP521 → kslot t (c.slot + 1) = KSlot.reset)
              ∧ (∀ i : Fin 64, i.val ≠ c.slot → (kslot s c.slot).typ ≠ tyP521 → kslot t i = kslot s i))))
    ∧ (∀ c, s.key.cmd = some c → c.op = 1 → c.typ = tyP521 → 4 ≤ c.slot → c.slot < 64 → c.slot % 2 = 0 → c.data.length = 64 →
        let v := leBytes 2 (freeNat s).1
        let bad := !Config.scalarOk tyP521 (c.data ++ v) || decide (c.pol &&& typPolicy tyP521 ≠ c.pol)
        Does .keySlotcmdDone s (fun t => t.key.cmd = none ∧ rget t F.KEY_SLOTCMD_BUSY = 0 ∧ rget t F.KEY_FLAGS_SLOTDONE = 1
          ∧ (∀ k : Fin 16, rget t (F.KEY_SLOTDATA_DATA k) = 0)
          ∧ (bad = true → t.key.slot = s.key.slot ∧ rget t F.KEY_SLOTCMD_RESULT = 2)
          ∧ (bad = false → ((kslot t c.slot).typ, (kslot t c.slot).pol, (kslot t (c.slot + 1)).typ, (kslot t (c.slot + 1)).pol)
              = (tyP521, c.pol, tyP521, c.pol) ∧ slotKey t c.slot = c.data ∧ slotKey t (c.slot + 1) = v
              ∧ rget t F.KEY_SLOTCMD_RESULT = 0
              ∧ (∀ i : Fin 64, i.val ≠ c.slot → i.val ≠ c.slot + 1 → (kslot s (c.slot + 1)).typ ≠ tyP521 → kslot t i = kslot s i))))
    ∧ (∀ c, s.key.cmd = some c → c.op = 1 → c.typ = tyP521 → 4 ≤ c.slot → c.slot < 64 → c.slot % 2 = 1 → pairHalf s c.slot = false →
        Does .keySlotcmdDone s (fun t => t.key.slot = s.key.slot ∧ rget t F.KEY_SLOTCMD_RESULT = 2 ∧ rget t F.KEY_FLAGS_SLOTDONE = 1
          ∧ t.key.cmd = none ∧ (∀ k : Fin 16, rget t (F.KEY_SLOTDATA_DATA k) = 0)))
    ∧ (∀ c, s.key.cmd = some c → c.op = 1 → (c.typ = tySecret → c.len ≤ 64) → c.slot < 4 ∨ pairHalf s c.slot = true →
        Does .keySlotcmdDone s (fun t => t.key.slot = s.key.slot ∧ rget t F.KEY_SLOTCMD_RESULT = 3 ∧ rget t F.KEY_FLAGS_SLOTDONE = 1
          ∧ t.key.cmd = none ∧ (∀ k : Fin 16, rget t (F.KEY_SLOTDATA_DATA k) = 0)))
    ∧ (∀ c, s.key.cmd = some c → c.op = 1 → 4 ≤ c.slot → pairHalf s c.slot = false → c.typ = 0 ∨ 0xB < c.typ ∨ c.typ = tySecret ∧ c.len = 0 →
        Does .keySlotcmdDone s (fun t => t.key.slot = s.key.slot ∧ rget t F.KEY_SLOTCMD_RESULT = 1 ∧ rget t F.KEY_FLAGS_SLOTDONE = 1
          ∧ t.key.cmd = none ∧ (∀ k : Fin 16, rget t (F.KEY_SLOTDATA_DATA k) = 0)))
    ∧ (∀ c, s.key.cmd = some c → c.op = 1 → c.typ = tySecret → 64 < c.len →
        Does .keySlotcmdDone s (fun t => t.key.slot = s.key.slot ∧ rget t F.KEY_SLOTCMD_RESULT = 4 ∧ rget t F.KEY_FLAGS_SLOTDONE = 1
          ∧ rget t F.KEY_LENERR_COUNT = min 65535 (rget s F.KEY_LENERR_COUNT + 1)
          ∧ t.key.cmd = none ∧ (∀ k : Fin 16, rget t (F.KEY_SLOTDATA_DATA k) = 0)))
    ∧ (∀ c, s.key.cmd = some c → c.op = 2 → 4 ≤ c.slot → c.slot < 64 →
        let p := ((kslot s c.slot).pol &&& c.pol) ||| ((kslot s c.slot).pol &&& 16) ||| (if (kslot s c.slot).typ = 0 then 0 else c.pol &&& 16)
        let k := c.slot - c.slot % 2 + (1 - c.slot % 2)
        Does .keySlotcmdDone s (fun t => kslot t c.slot = { kslot s c.slot with pol := p }
          ∧ ((kslot s c.slot).typ = tyP521 → (kslot s k).typ = tyP521 → kslot t k = { kslot s k with
              pol := ((kslot s k).pol &&& c.pol) ||| ((kslot s k).pol &&& 16) ||| (c.pol &&& 16) })
          ∧ (∀ i : Fin 64, i.val ≠ c.slot → i.val ≠ k ∨ (kslot s c.slot).typ ≠ tyP521 → kslot t i = kslot s i)
          ∧ rget t F.KEY_SLOTCMD_RESULT = 0 ∧ rget t F.KEY_SLOTCMD_BUSY = 0 ∧ rget t F.KEY_FLAGS_SLOTDONE = 1 ∧ t.key.cmd = none))
    ∧ (∀ c, s.key.cmd = some c → c.op = 3 → 4 ≤ c.slot → c.slot < 64 →
        let k := c.slot - c.slot % 2 + (1 - c.slot % 2)
        Does .keySlotcmdDone s (fun t => kslot t c.slot = KSlot.reset
          ∧ kslot t k = (if (kslot s c.slot).typ = tyP521 then KSlot.reset else kslot s k)
          ∧ (∀ i : Fin 64, i.val ≠ c.slot → i.val ≠ k → kslot t i = kslot s i)
          ∧ rget t F.KEY_SLOTCMD_RESULT = 0 ∧ rget t F.KEY_SLOTCMD_BUSY = 0 ∧ rget t F.KEY_FLAGS_SLOTDONE = 1 ∧ t.key.cmd = none))
    ∧ (∀ c, s.key.cmd = some c → c.op = 2 ∨ c.op = 3 → c.slot < 4 →
        Does .keySlotcmdDone s (fun t => t.key.slot = s.key.slot ∧ rget t F.KEY_SLOTCMD_RESULT = 3 ∧ rget t F.KEY_FLAGS_SLOTDONE = 1
          ∧ t.key.cmd = none))
    ∧ (∀ c, s.key.cmd = some c → c.op = 0 ∨ 3 < c.op →
        Does .keySlotcmdDone s (fun t => t.key.slot = s.key.slot ∧ rget t F.KEY_SLOTCMD_RESULT = 1 ∧ rget t F.KEY_FLAGS_SLOTDONE = 1
          ∧ t.key.cmd = none))
    ∧ (s.key.cmd = none → Does .keySlotcmdDone s (fun t => t = s))
    ∧ (keyOn s = true → s.key.rngFail = false → s.key.sweep < 64 → filling s s.key.sweep = false →
        Does .keySweep s (fun t => t.key.sweep = (s.key.sweep + 1) % 64 ∧ (kslot t s.key.sweep).mask = leBytes 64 (freeNat s).1
          ∧ (∀ k : Fin 64, slotKey t k = slotKey s k ∧ (kslot t k).typ = (kslot s k).typ ∧ (kslot t k).pol = (kslot s k).pol)
          ∧ t.key.passes = (if s.key.sweep = 63 then (s.key.passes + 1) % 4294967296 else s.key.passes)))
    ∧ (∀ c, keyOn s = true → s.key.rngFail = false → s.key.sweep < 64 → s.key.cmd = some c → c.op = 1 →
        c.slot = s.key.sweep ∨ c.typ = tyP521 ∧ c.slot + 1 = s.key.sweep →
        Does .keySweep s (fun t => t.key.sweep = (s.key.sweep + 1) % 64 ∧ t.key.slot = s.key.slot
          ∧ t.key.passes = (if s.key.sweep = 63 then (s.key.passes + 1) % 4294967296 else s.key.passes)))
    ∧ (keyOn s = false ∨ s.key.rngFail = true → Does .keySweep s (fun t => t = s))
    ∧ (s.key.rngFail = false → Does .keyRngRead s (fun t => t.resp = ⟨false, (freeNat s).1 % 4294967296⟩ ∧ t.key = s.key))
    ∧ (s.key.rngFail = true → Does .keyRngRead s (fun t => t.resp = ⟨false, 0⟩ ∧ t.key = s.key))
    ∧ (s.key.rngFail = false → Does .rngReseed s (fun t => t.key.rngOk = true ∧ t.key.src = s.key.src))
    ∧ (s.key.rngFail = true → Does .rngReseed s (fun t => t = s))
    ∧ (∀ k : Fin 2, Tab.get false s.key.src (1 - k.val) = true →
        Does (.entropySourceFail k) s (fun t => Tab.get true t.key.src k = false ∧ Tab.get false t.key.src (1 - k.val) = true
          ∧ rget t F.KEY_FLAGS_RNGSRC = 1 ∧ t.key.rngFail = s.key.rngFail))
    ∧ (∀ k : Fin 2, Tab.get false s.key.src (1 - k.val) = false →
        Does (.entropySourceFail k) s (fun t => Tab.get true t.key.src k = false ∧ t.key.rngFail = true ∧ t.key.rngOk = false
          ∧ rget t F.KEY_FLAGS_RNGSRC = 1 ∧ rget t F.KEY_FLAGS_RNGFAIL = 1))

/-- Jobs whose output goes to memory: HASH, HMAC, ENC, DEC, SIGN, WRAP, QUOTE and RANDOM give what the job table says, under each
algorithm, from a slot of the type and policy they need, with BUFERR where the output lies outside memory (R393, R406, R407, R409,
R413). A slot that does not serve the job, or debug in a QUOTE, ends it in POLICY, an unknown ALG in BADARG, a length that R409 rejects in
LENERR, an input outside memory in BUFERR, and WRAP and RANDOM end without entropy; a bulk job of more than 64 KB starts with its first
chunk (R409, R410). With no descriptor to take, or one of another operation, a job command changes nothing. That the codes of a job are
those of a slot command, and SIG, BUFERR and the refusal without entropy unstated numbers, is the model's choice (log entry 61), as
are BADARG for an unknown ALG, LENERR as the code of a rejected length, and POLICY for a SIGN with a hardware slot (log entry 150). -/
def Obligations.JobOutputs : Prop :=
  ∀ (s : State) (d : Nat), let j := jobOf s (memRead s d 32)
    (JobDue s d 1 → j.alg ≤ 3 → j.len = 0 ∨ jobMem j.src j.len = true → j.len ≤ 65536 →
        let n := if j.alg = 2 then 48 else if j.alg = 3 then 64 else 32
        let w := jobMem j.dst n
        Does .jobHash s (fun t => JobIs t s 1 (if w then jOk else Config.jobBuferr) j.dst
          (if w then slice (Config.hash j.alg j.inp) 0 n else [])))
    ∧ (JobDue s d 2 → j.alg ≤ 3 → j.len = 0 ∨ jobMem j.src j.len = true → j.len ≤ 65536 → j.typ = tySecret → mayUse s j polDerive = true →
        let n := if j.alg = 2 then 48 else if j.alg = 3 then 64 else 32
        let w := jobMem j.dst n
        Does .jobHmac s (fun t => JobIs t s 2 (if w then jOk else Config.jobBuferr) j.dst
          (if w then slice (Config.hmac j.alg j.key j.inp) 0 n else [])))
    ∧ (JobDue s d 2 → j.alg ≤ 3 → j.len = 0 ∨ jobMem j.src j.len = true → j.len ≤ 65536 → j.typ ≠ tySecret ∨ mayUse s j polDerive = false →
        Does .jobHmac s (fun t => JobIs t s 2 jPolicy j.dst []))
    ∧ (JobDue s d 3 → j.alg ≤ 3 → j.len = 0 ∨ jobMem j.src j.len = true → j.len ≤ 65536 → cipherTyp j = true → mayUse s j polEncrypt = true →
        let iv := if j.alg < 2 then 12 else 16
        let a := if j.alg < 2 then j.aux else 0
        let n := j.len - iv - a
        let o := n + if j.alg < 2 then 16 else 0
        let w := decide (o = 0) || jobMem j.dst o
        Does .jobEnc s (fun t => JobIs t s 3 (if w then jOk else Config.jobBuferr) j.dst
          (if w then slice (Config.encrypt j.alg j.key (j.inp.take iv) (slice j.inp iv (min j.len a)) (slice j.inp (iv + a) n)) 0 o else [])))
    ∧ (JobDue s d 4 → j.alg ≤ 3 → j.len = 0 ∨ jobMem j.src j.len = true → j.len ≤ 65536 → cipherTyp j = true → mayUse s j polEncrypt = true →
        let iv := if j.alg < 2 then 12 else 16
        let a := if j.alg < 2 then j.aux else 0
        let n := j.len - iv - a
        let o := n - if j.alg < 2 then 16 else 0
        let w := decide (o = 0) || jobMem j.dst o
        let r := Config.decrypt j.alg j.key (j.inp.take iv) (slice j.inp iv (min j.len a)) (slice j.inp (iv + a) n)
        Does .jobDec s (fun t =>
          (r.isSome = true → JobIs t s 4 (if w then jOk else Config.jobBuferr) j.dst (if w then slice (r.getD []) 0 o else []))
          ∧ (r.isSome = false → JobIs t s 4 (if j.alg < 2 then Config.jobSig else jOk) j.dst [])))
    ∧ (∀ c op, (c, op) ∈ [(Instr.jobEnc, 3), (.jobDec, 4)] → JobDue s d op → j.alg ≤ 3 → j.len = 0 ∨ jobMem j.src j.len = true →
        j.len ≤ 65536 → cipherTyp j = false ∨ mayUse s j polEncrypt = false → Does c s (fun t => JobIs t s op jPolicy j.dst []))
    ∧ (JobDue s d 5 → j.alg ≤ 2 → j.len = 0 ∨ jobMem j.src j.len = true → signTyp j.alg j.typ = true → mayUse s j polSign = true → 4 ≤ j.slot →
        let n := if j.typ = 5 then 96 else if j.typ = 6 then 132 else if j.typ = 7 then 114 else 64
        let v := (freeNat s).1
        let w := jobMem j.dst n
        Does .jobSign s (fun t => JobIs t s 5 (if w then jOk else Config.jobBuferr) j.dst
          (if w then slice (if j.typ = tySm2 then Config.sm2Sign j.key j.inp v else Config.sign j.typ j.key j.inp v) 0 n else [])))
    ∧ (JobDue s d 5 → j.alg ≤ 2 → j.len = 0 ∨ jobMem j.src j.len = true →
        signTyp j.alg j.typ = false ∨ mayUse s j polSign = false ∨ j.slot < 4 →
        Does .jobSign s (fun t => JobIs t s 5 jPolicy j.dst []))
    ∧ (JobDue s d 9 → s.key.rngFail = false → j.typ ≠ 0 → j.pol.testBit polNoexp = false →
        let mask := setBit (j.aux % 256) 6 true
        let nonce := leBytes 12 (freeNat s).1
        let kw := slice (deriveOut s s.fuse.duk lbWrap mask) 0 16
        let hd := ([0x4B, 0x57, 0x52, 0x50] : Bytes) ++ leBytes 1 j.typ ++ leBytes 1 j.pol ++ leBytes 1 mask ++ leBytes 1 j.key.length
        let aad := hd ++ nonce ++ List.replicate 12 0
        let w := jobMem j.dst 128
        Does .jobWrap s (fun t => JobIs t s 9 (if w then jOk else Config.jobBuferr) j.dst
          (if w then aad ++ slice (Config.encrypt 0 kw nonce aad (slice j.key 0 80)) 0 96 else [])))
    ∧ (JobDue s d 9 → s.key.rngFail = false → j.typ = 0 ∨ j.pol.testBit polNoexp = true →
        Does .jobWrap s (fun t => JobIs t s 9 jPolicy j.dst []))
    ∧ (∀ c op, (c, op) ∈ [(Instr.jobWrap, 9), (.jobRandom, 0xC)] → JobDue s d op → s.key.rngFail = true →
        Does c s (fun t => JobIs t s op Config.jobRng j.dst []))
    ∧ (JobDue s d 0xB → jobMem j.src j.len = true → debugOn s = false → rget s F.KEY_STATUS_HWKEYS ≠ 0 →
        let hd := ([0x51, 0x55, 0x4F, 0x54, 0x01] : Bytes) ++ leBytes 1 (field s.fuse.opt 4 2) ++ [0, 0] ++ serialBytes s
        let ms := (List.range 8).flatMap (fun k => slice (Tab.get [] s.key.meas k) 0 32)
        let sv := (List.range 3).flatMap (fun k => leBytes 1 (Tab.get 0 s.fuse.svcnt k))
        let b := hd ++ leBytes 8 s.tmp.chain ++ slice j.inp 0 32 ++ ms ++ sv ++ [0] ++ digestOf s F.SYS_EPOCH_DIGEST ++ [0, 0, 0, 0]
        let out := b ++ slice (Config.sm2Sign (slotKey s 1) b (freeNat s).1) 0 64
        let w := jobMem j.dst out.length
        Does .jobQuote s (fun t => JobIs t s 0xB (if w then jOk else Config.jobBuferr) j.dst (if w then out else [])))
    ∧ (JobDue s d 0xB → jobMem j.src j.len = true → debugOn s = true ∨ rget s F.KEY_STATUS_HWKEYS = 0 →
        Does .jobQuote s (fun t => JobIs t s 0xB jPolicy j.dst []))
    ∧ (JobDue s d 0xC → s.key.rngFail = false →
        let w := decide (j.len = 0) || jobMem j.dst j.len
        Does .jobRandom s (fun t => JobIs t s 0xC (if w then jOk else Config.jobBuferr) j.dst (if w then leBytes j.len (freeNat s).1 else [])))
    ∧ (∀ c op bad, (c, op, bad) ∈ ([(.jobEnc, 3, decide (j.len ≠ 0 ∧ j.len < ivLen j.alg + aadLen j)),
          (.jobDec, 4, decide (j.len ≠ 0 ∧ j.len < ivLen j.alg + aadLen j + if j.alg < 2 then 16 else 0)),
          (.jobVerify, 6, decide (j.len < if j.slot < 64 then 64 else if j.alg = 2 then 171 else 128)), (.jobDerive, 7, decide (j.alg = 0 ∧ j.len < 16)),
          (.jobAgree, 8, decide (j.len < if j.typ = 5 then 96 else if j.typ = 6 then 132 else 64)), (.jobUnwrap, 0xA, decide (j.len < 128)),
          (.jobQuote, 0xB, decide (j.len < 32)), (.jobRandom, 0xC, decide (65536 < j.len))] : List (Instr × Nat × Bool)) →
        jobNext s = some d → u8 (memRead s d 32) 0 = op → bad = true →
        Does c s (fun t => JobIs t s op jLenerr j.dst [] ∧ rget t F.KEY_LENERR_COUNT = min 65535 (rget s F.KEY_LENERR_COUNT + 1)))
    ∧ (∀ c op, (c, op) ∈ [(Instr.jobHash, 1), (.jobHmac, 2), (.jobEnc, 3), (.jobDec, 4), (.jobSign, 5), (.jobVerify, 6), (.jobDerive, 7),
          (.jobAgree, 8), (.jobUnwrap, 0xA), (.jobQuote, 0xB)] →
        JobDue s d op → j.len ≠ 0 → jobMem j.src j.len = false → Does c s (fun t => JobIs t s op Config.jobBuferr j.dst []))
    ∧ (∀ c op k, (c, op, k) ∈ [(Instr.jobHash, 1, 3), (.jobHmac, 2, 3), (.jobEnc, 3, 3), (.jobDec, 4, 3), (.jobSign, 5, 2),
          (.jobVerify, 6, 2), (.jobDerive, 7, 1), (.jobAgree, 8, 0)] →
        JobDue s d op → j.len = 0 ∨ jobMem j.src j.len = true → j.len ≤ 65536 ∨ 4 < op → k < j.alg →
        Does c s (fun t => JobIs t s op jBadarg j.dst []))
    ∧ (∀ c op, (c, op) ∈ [(Instr.jobHash, 1), (.jobHmac, 2), (.jobEnc, 3), (.jobDec, 4)] → JobDue s d op → jobMem j.src j.len = true →
        65536 < j.len → Does c s (fun t => j.inp = memRead s j.src 65536
          ∧ t.key.job = some ⟨s.key.head, op, jOk, j.dst, [], [], some j, false⟩))
    ∧ (∀ c op, (c, op) ∈ [(Instr.jobHash, 1), (.jobHmac, 2), (.jobEnc, 3), (.jobDec, 4), (.jobSign, 5), (.jobVerify, 6), (.jobDerive, 7),
          (.jobAgree, 8), (.jobWrap, 9), (.jobUnwrap, 0xA), (.jobQuote, 0xB), (.jobRandom, 0xC)] →
        jobNext s = none ∨ jobNext s = some d ∧ u8 (memRead s d 32) 0 ≠ op → Does c s (fun t => t = s))

/-- Jobs with no output: VERIFY reports OK or SIG; DERIVE, AGREE and UNWRAP fill DSTSLOT, a pair of slots for P521, with the key under a
fresh mask and a type and policy their source justifies, and end in POLICY for a target or source that does not allow it (R400, R401,
R407, R408); a peer key off its curve gives BADKEY, a blob that does not hold gives SIG. JOB_COMPLETE writes the output, the slots and
RESULT, clears OWN and raises JOBDONE (R407); a bulk job pauses at the end of a chunk while a private port waits, and goes on with its
next chunk, or with its result after the last (R410). That a SECRET takes 64 bytes of a derivation, that DERIVE with ALG 1 from the
device key and an operation code without a job give BADARG, and the order of the checks, are the model's choices (log entry 150), and
that AGREE takes at most 64 bytes of x (log entry 60). -/
def Obligations.JobSlots : Prop :=
  ∀ (s : State) (d : Nat), let j := jobOf s (memRead s d 32)
    let sh := fun (b m : Bytes) => List.zipWith (· ^^^ ·) (slice b 0 64) m
    let m := leBytes 64 (Config.freeValue s.freeCtr)
    let m2 := leBytes 64 (Config.freeValue (s.freeCtr + 1))
    (JobDue s d 6 → j.alg ≤ 1 → j.slot < 64 → jobMem j.src j.len = true → j.typ = 2 * j.alg + 2 → mayUse s j polVerify = true →
        let msg := j.inp.take (j.len - 64)
        let sg := j.inp.drop (j.len - 64)
        let ok := if j.alg = 0 then Config.sm2Verify j.key msg sg else Config.verify 4 j.key msg sg
        Does .jobVerify s (fun t => JobIs t s 6 (if ok = true then jOk else Config.jobSig) j.dst []))
    ∧ (JobDue s d 6 → j.alg ≤ 2 → 64 ≤ j.slot → jobMem j.src j.len = true →
        Does .jobVerify s (fun t => JobIs t s 6 (if Config.verifyOwn j.alg j.inp = true then jOk else Config.jobSig) j.dst []))
    ∧ (JobDue s d 6 → j.alg ≤ 2 → j.slot < 64 → jobMem j.src j.len = true → j.alg = 2 ∨ j.typ ≠ 2 * j.alg + 2 ∨ mayUse s j polVerify = false →
        Does .jobVerify s (fun t => JobIs t s 6 jPolicy j.dst []))
    ∧ (JobDue s d 7 → j.len = 0 ∨ jobMem j.src j.len = true → j.alg = 0 ∨ j.alg = 1 ∧ j.slot ≠ 0xFF → j.slot = 0xFF ∨ j.typ = tySecret ∧ mayUse s j polDerive = true →
        derivable (auxTyp j) = true → polOk (auxTyp j) (heir j) = true → mayFill s j.dslot (auxTyp j) = true →
        j.alg = 1 ∨ j.inp.take 4 ≠ [0x53, 0x52, 0x48, 0x4E] →
        let key := if j.slot = 0xFF then s.fuse.duk else j.key
        let hm := deriveOut s key (slice j.inp 0 16) (setBit (j.aux % 256) 6 true)
        let out := if j.alg = 0 then hm else slice (Config.kdf key j.inp 96) 0 96
        let pr := Config.scalarOf (auxTyp j) (slice out 0 (if auxTyp j = tyP521 then 96 else 64))
        let b := if typPriv (auxTyp j) then pr else slice out 0 (typLen (auxTyp j))
        Does .jobDerive s (fun t => t.key.job = some ⟨s.key.head, 7, jOk, j.dst, [],
          if auxTyp j = tyP521 then [(j.dslot, ⟨tyP521, heir j, 64, sh b m, m⟩), (j.dslot + 1, ⟨tyP521, heir j, 2, sh (slice b 64 2) m2, m2⟩)]
          else [(j.dslot, ⟨auxTyp j, heir j, b.length, sh b m, m⟩)], none, false⟩))
    ∧ (JobDue s d 7 → j.len = 0 ∨ jobMem j.src j.len = true → j.alg = 0 ∨ j.alg = 1 ∧ j.slot ≠ 0xFF → derivable (auxTyp j) = true →
        (j.slot ≠ 0xFF ∧ (j.typ ≠ tySecret ∨ mayUse s j polDerive = false)) ∨ polOk (auxTyp j) (heir j) = false
          ∨ mayFill s j.dslot (auxTyp j) = false ∨ j.alg = 0 ∧ j.inp.take 4 = [0x53, 0x52, 0x48, 0x4E] →
        Does .jobDerive s (fun t => JobIs t s 7 jPolicy j.dst []))
    ∧ (JobDue s d 7 → j.len = 0 ∨ jobMem j.src j.len = true → j.alg = 1 ∧ j.slot = 0xFF ∨ auxTyp j = 0 ∨ 0xB < auxTyp j ∨ auxTyp j = 2 ∨ auxTyp j = 4 →
        Does .jobDerive s (fun t => JobIs t s 7 jBadarg j.dst []))
    ∧ (JobDue s d 8 → j.alg = 0 → jobMem j.src j.len = true → j.typ ∈ [1, 3, 5, 6] → mayUse s j polDerive = true → polOk tySecret (heir j) = true →
        mayFill s j.dslot tySecret = true →
        let x := Config.ecdh j.typ j.key (slice j.inp 0 (if j.typ = 5 then 96 else if j.typ = 6 then 132 else 64))
        let n := if j.typ = 5 then 48 else if j.typ = 6 then 64 else 32
        Does .jobAgree s (fun t =>
          (x.isSome = true → t.key.job = some ⟨s.key.head, 8, jOk, j.dst, [], [(j.dslot, ⟨tySecret, heir j, n, sh (slice (x.getD []) 0 n) m, m⟩)],
            none, false⟩)
          ∧ (x.isSome = false → JobIs t s 8 jBadkey j.dst [])))
    ∧ (JobDue s d 8 → j.alg = 0 → jobMem j.src j.len = true → j.typ ∉ [1, 3, 5, 6] ∨ mayUse s j polDerive = false ∨ polOk tySecret (heir j) = false
          ∨ mayFill s j.dslot tySecret = false →
        Does .jobAgree s (fun t => JobIs t s 8 jPolicy j.dst []))
    ∧ (JobDue s d 0xA → jobMem j.src j.len = true → mayFill s j.dslot (u8 j.inp 4) = true → j.inp.take 4 = [0x4B, 0x57, 0x52, 0x50] →
        let kw := slice (deriveOut s s.fuse.duk lbWrap (setBit (u8 j.inp 6) 6 true)) 0 16
        let x := Config.decrypt 0 kw (slice j.inp 8 12) (slice j.inp 0 0x20) (slice j.inp 0x20 96)
        let b := slice (x.getD []) 0 (u8 j.inp 7)
        let typ := u8 j.inp 4
        let pol := u8 j.inp 5
        Does .jobUnwrap s (fun t =>
          (x.isSome = true → t.key.job = some ⟨s.key.head, 0xA, jOk, j.dst, [],
            if typ = tyP521 then [(j.dslot, ⟨tyP521, pol, 64, sh b m, m⟩), (j.dslot + 1, ⟨tyP521, pol, 2, sh (slice b 64 2) m2, m2⟩)]
            else [(j.dslot, ⟨typ, pol, u8 j.inp 7, sh b m, m⟩)], none, false⟩)
          ∧ (x.isSome = false → JobIs t s 0xA Config.jobSig j.dst [])))
    ∧ (JobDue s d 0xA → jobMem j.src j.len = true → mayFill s j.dslot (u8 j.inp 4) = false → Does .jobUnwrap s (fun t => JobIs t s 0xA jPolicy j.dst []))
    ∧ (JobDue s d 0xA → jobMem j.src j.len = true → mayFill s j.dslot (u8 j.inp 4) = true → j.inp.take 4 ≠ [0x4B, 0x57, 0x52, 0x50] →
        Does .jobUnwrap s (fun t => JobIs t s 0xA Config.jobSig j.dst []))
    ∧ (∀ k a n, s.key.job = some k → keyRing s = some (a, n) → k.more = none →
        Does .jobComplete s (fun t => t.key.job = none ∧ t.key.head = (k.idx + 1) % n
          ∧ t.mem = (memWrite (a + 32 * (k.idx % n) + 0x1C) (leBytes 2 k.result) (memWrite k.dst k.out s)).mem
          ∧ rget t F.KEY_FLAGS_JOBDONE = 1 ∧ (k.result ≠ 0 → rget t F.KEY_FLAGS_JOBERR = 1) ∧ (k.result = 3 → rget t F.KEY_FLAGS_POLICY = 1)
          ∧ (k.put = [] → t.key.slot = s.key.slot) ∧ (∀ x ∈ k.put, k.put.length = 1 → x.1 < 64 → kslot t x.1 = x.2)
          ∧ (k.put.length = 2 → (∀ x ∈ k.put.head?.toList, ∀ y ∈ k.put.tail, y.1 = x.1 + 1 → y.1 < 64 → kslot t x.1 = x.2 ∧ kslot t y.1 = y.2))))
    ∧ (∀ k a n j', s.key.job = some k → keyRing s = some (a, n) → k.more = some j' → k.paused = true →
        Does .jobComplete s (fun t => (portsFree s = false → t = s)
          ∧ (portsFree s = true → t.key.job = some { k with paused := false, more := some { j' with
              inp := j'.inp ++ memRead s (j'.src + j'.inp.length) (min 65536 (j'.len - j'.inp.length)) } })))
    ∧ (∀ k a n j', s.key.job = some k → keyRing s = some (a, n) → k.more = some j' → k.paused = false → 1 ≤ k.op → k.op ≤ 4 →
        jobLenBad k.op j' = false → jobMem j'.src j'.len = true → j'.inp.length < j'.len →
        Does .jobComplete s (fun t => (signsWaiting s = 0 → portsFree s = false → t.key.job = some { k with paused := true })
          ∧ (portJobs s 1 = [] → signsWaiting s = (portJobs s 0).length → t.key.job = some { k with paused := false, more := some { j' with
              inp := j'.inp ++ memRead s (j'.src + j'.inp.length) (min 65536 (j'.len - j'.inp.length)) } })))
    ∧ (∀ k a n j', s.key.job = some k → keyRing s = some (a, n) → k.more = some j' → k.paused = false → 1 ≤ k.op → k.op ≤ 4 →
        j'.inp.length = j'.len →
        let r := (jobEnd k.op (bulkFn k.op) j' s).1
        Does .jobComplete s (fun t => t.key.job = none ∧ t.key.head = (k.idx + 1) % n ∧ rget t F.KEY_FLAGS_JOBDONE = 1
          ∧ (r.result % 256 ≠ 0 → rget t F.KEY_FLAGS_JOBERR = 1) ∧ (r.result % 256 = 3 → rget t F.KEY_FLAGS_POLICY = 1)
          ∧ t.mem = (memWrite (a + 32 * (k.idx % n) + 0x1C) (leBytes 2 (r.result % 256)) (memWrite k.dst r.out s)).mem))
    ∧ (∀ k a n j', s.key.job = some k → keyRing s = some (a, n) → k.more = some j' → k.paused = false → k.op = 1 →
        jobMem j'.src j'.len = true → j'.inp.length = j'.len → j'.alg ≤ 3 → jobMem k.dst (hashLen j'.alg) = true → j'.dst = k.dst →
        Does .jobComplete s (fun t => t.key.job = none ∧ t.key.head = (k.idx + 1) % n ∧ rget t F.KEY_FLAGS_JOBDONE = 1
          ∧ t.mem = (memWrite (a + 32 * (k.idx % n) + 0x1C) (leBytes 2 0)
              (memWrite k.dst (slice (Config.hash j'.alg j'.inp) 0 (hashLen j'.alg)) s)).mem))
    ∧ (∀ a n, s.key.job = none → keyRing s = some (a, n) → jobNext s = some d →
        u8 (memRead s d 32) 0 = 0 ∨ 0xC < u8 (memRead s d 32) 0 →
        Does .jobComplete s (fun t => t.key.job = none ∧ t.key.head = (s.key.head + 1) % n
          ∧ t.mem = (memWrite (a + 32 * (s.key.head % n) + 0x1C) (leBytes 2 jBadarg) s).mem
          ∧ rget t F.KEY_FLAGS_JOBDONE = 1 ∧ rget t F.KEY_FLAGS_JOBERR = 1))
    ∧ (∀ k, s.key.job = some k → keyRing s = none → portsFree s = true → s.hfr.wait ≠ .verify →
        Does .jobComplete s (fun t => t = { s with key.job := none }))
    ∧ (s.key.job = none → portsFree s = true → s.hfr.wait ≠ .verify → jobNext s = none ∨ jobNext s = some d ∧ u8 (memRead s d 32) 0 ∈ (List.range 13).drop 1 →
        Does .jobComplete s (fun t => t = s))

/-- The reader's field. FIELD_ON tunes and starts the carrier, FIELD_OFF ends it and any exchange, which then reports NOT_SENT or
FIELD_LOST; 5 ms of carrier make it READY, and a field reset ends after 6 ms (R415, R416, R421, R429). A current below half the setpoint
for 10 µs and a driver fault end every exchange and start a field reset (R415, R417). TUNE sets the bank while AUTOTUNE is 0, else it
gives BADARG; autotuning moves one step every 10 ms between exchanges (R416). In card detection a burst beyond the threshold ends it with
CARDNEAR, and wakes the module from S2, one beyond half the threshold stays out of REF, and others enter it (R418). In the other cases an
event changes nothing, and without the FIELD domain no command does. That FIELD_OFF is taken while BUSY and that TUNE answers BADARG are
the model's choices (log entry 62). -/
def Obligations.ReaderField : Prop :=
  ∀ (s : State),
    (∀ best phase iset iant, ReaderFree s → s.hfr.st = .off ∨ s.hfr.st = .lpcd →
        let auto := rbit s F.HFR_CFG_AUTOTUNE
        let lim := decide (best = 0 ∨ best = 255)
        Does (.fieldOn best phase iset iant) s (fun t => t.hfr.st = .settling ∧ t.hfr.since = s.tmp.now ∧ t.hfr.field = true
          ∧ t.hfr.iset = iset.toNat ∧ t.hfr.iant = iant.toNat ∧ t.hfr.phase = toSigned 8 phase.toNat ∧ Reports t 1 0 0
          ∧ t.hfr.step = (if auto then best.toNat else s.hfr.step) ∧ t.hfr.tuneLim = (if auto then lim else s.hfr.tuneLim)
          ∧ (auto = true → lim = true → rget t F.HFR_FLAGS_TUNELIM = 1)))
    ∧ (∀ sent, ReaderFree s → s.hfr.st ≠ .off → s.hfr.st ≠ .lpcd →
        Does (.fieldOff sent) s (fun t => t.hfr.st = .off ∧ t.hfr.field = false ∧ t.hfr.ctype = 0 ∧ Reports t 2 0 0))
    ∧ (∀ sent, hfrOn s = true → s.hfr.cmd.isSome = true → s.hfr.wait ≠ .verify →
        Does (.fieldOff sent) s (fun t => t.hfr.st = .off ∧ t.hfr.field = false ∧ t.hfr.ctype = 0 ∧ rget t F.HFR_FLAGS_FIELDLOST = 1
          ∧ Reports t 2 0 (if s.hfr.sent = true ∨ sent = true then 4 else 1)
          ∧ (s.hfr.orig.isSome = true → rget t F.HFR_ORIG_RESULT = 4 ∧ rget t F.HFR_FLAGS_ORIGDONE = 1)))
    ∧ (hfrOn s = true → s.hfr.st = .settling → s.hfr.since + 100 ≤ s.tmp.now →
        Does .hfSettled s (fun t => t.hfr.st = .ready ∧ t.hfr.since = s.tmp.now))
    ∧ (s.hfr.st ≠ .settling ∨ s.tmp.now < s.hfr.since + 100 → Does .hfSettled s (fun t => t = s))
    ∧ (hfrOn s = true → s.hfr.st = .resetting → s.hfr.since + 120 ≤ s.tmp.now →
        Does .fieldResetEnd s (fun t => t.hfr.st = .settling ∧ t.hfr.field = true ∧ t.hfr.since = s.tmp.now))
    ∧ (s.hfr.st ≠ .resetting ∨ s.tmp.now < s.hfr.since + 120 → Does .fieldResetEnd s (fun t => t = s))
    ∧ (∀ ma us sent, hfrOn s = true → s.hfr.field = true → 2 * ma < s.hfr.iset → 10 ≤ us → s.hfr.wait ≠ .verify →
        Does (.fieldLost ma us sent) s (fun t => t.hfr.st = .resetting ∧ t.hfr.field = false ∧ t.hfr.ctype = 0 ∧ t.hfr.cmd = none
          ∧ t.hfr.iant = ma ∧ rget t F.HFR_FLAGS_FIELDLOST = 1
          ∧ (∀ op ∈ s.hfr.cmd.toList, op < 16 → Reports t op 0xA (if s.hfr.sent = true ∨ sent = true then 4 else 1))
          ∧ (s.hfr.cmd.isSome = true → s.hfr.orig.isSome = true → rget t F.HFR_ORIG_RESULT = 4 ∧ rget t F.HFR_FLAGS_ORIGDONE = 1)))
    ∧ (∀ ma us sent, s.hfr.field = false ∨ s.hfr.iset ≤ 2 * ma ∨ us < 10 → Does (.fieldLost ma us sent) s (fun t => t = s))
    ∧ (∀ sent, hfrOn s = true → s.hfr.field = true → s.hfr.wait ≠ .verify →
        Does (.hfDriverFault sent) s (fun t => t.hfr.st = .resetting ∧ t.hfr.field = false ∧ t.hfr.ctype = 0 ∧ t.hfr.cmd = none
          ∧ rget t F.HFR_FLAGS_DRVFLT = 1 ∧ rget t F.HFR_FLAGS_FIELDLOST = 1
          ∧ (∀ op ∈ s.hfr.cmd.toList, op < 16 → Reports t op 0xA (if s.hfr.sent = true ∨ sent = true then 4 else 1))
          ∧ (s.hfr.cmd.isSome = true → s.hfr.orig.isSome = true → rget t F.HFR_ORIG_RESULT = 4 ∧ rget t F.HFR_FLAGS_ORIGDONE = 1)))
    ∧ (∀ sent, s.hfr.field = false → Does (.hfDriverFault sent) s (fun t => t = s))
    ∧ (∀ arg, ReaderFree s → s.hfr.st = .off ∨ s.hfr.st = .lpcd →
        Does (.tune arg) s (fun t => t.hfr.st = .off ∧ (rbit s F.HFR_CFG_AUTOTUNE = false → t.hfr.step = arg.toNat ∧ Reports t 7 0 0)
          ∧ (rbit s F.HFR_CFG_AUTOTUNE = true → t.hfr.step = s.hfr.step ∧ Reports t 7 1 0)))
    ∧ (∀ phase up iant, hfrOn s = true → s.hfr.field = true → rbit s F.HFR_CFG_AUTOTUNE = true → s.hfr.cmd = none →
        s.hfr.stepAt + 200 ≤ s.tmp.now →
        Does (.autotuneStep phase up iant) s (fun t => t.hfr.stepAt = s.tmp.now ∧ t.hfr.phase = toSigned 8 phase.toNat ∧ t.hfr.iant = iant.toNat
          ∧ (5 < (toSigned 8 phase.toNat).natAbs → t.hfr.step = if up = true then min 255 (s.hfr.step + 1) else s.hfr.step - 1)
          ∧ ((toSigned 8 phase.toNat).natAbs ≤ 5 → t.hfr.step = s.hfr.step)))
    ∧ (∀ phase up iant, s.hfr.cmd.isSome = true ∨ s.hfr.field = false ∨ rbit s F.HFR_CFG_AUTOTUNE = false ∨ s.tmp.now < s.hfr.stepAt + 200 →
        Does (.autotuneStep phase up iant) s (fun t => t = s))
    ∧ (ReaderFree s → s.hfr.st = .off ∨ s.hfr.st = .lpcd →
        Does .lpcd s (fun t => t.hfr.st = .lpcd ∧ t.hfr.ref = [] ∧ t.hfr.burstAt = s.tmp.now ∧ Reports t 8 0 0))
    ∧ (∀ amp, hfrOn s = true → s.hfr.st = .lpcd → s.hfr.burstAt + 20 * max 100 (min 1000 (rget s F.HFR_LPCD_PERIOD)) ≤ s.tmp.now →
        s.hfr.ref ≠ [] → s.pwr.sys = .s0 → s.pwr.entry = .none →
        let sum := s.hfr.ref.sum
        let dev := ((amp * s.hfr.ref.length : Nat) - (sum : Int)).natAbs * 1000
        let lim := max 1 (rget s F.HFR_LPCD_THRESH) * sum
        Does (.lpcdBurst amp) s (fun t => t.hfr.burstAt = s.tmp.now ∧ (lim < dev → t.hfr.st = .off ∧ rget t F.HFR_FLAGS_CARDNEAR = 1)
          ∧ (dev ≤ lim → lim < 2 * dev → t.hfr.st = .lpcd ∧ t.hfr.ref = s.hfr.ref)
          ∧ (2 * dev ≤ lim → t.hfr.st = .lpcd ∧ t.hfr.ref = (amp :: s.hfr.ref).take 16)))
    ∧ (∀ amp, hfrOn s = true → s.hfr.st = .lpcd → s.hfr.burstAt + 20 * max 100 (min 1000 (rget s F.HFR_LPCD_PERIOD)) ≤ s.tmp.now →
        s.hfr.ref = [] → Does (.lpcdBurst amp) s (fun t => t.hfr.st = .lpcd ∧ t.hfr.ref = [amp] ∧ t.hfr.burstAt = s.tmp.now))
    ∧ (∀ amp, hfrOn s = true → s.hfr.st = .lpcd → s.hfr.burstAt + 20 * max 100 (min 1000 (rget s F.HFR_LPCD_PERIOD)) ≤ s.tmp.now →
        max 1 (rget s F.HFR_LPCD_THRESH) * s.hfr.ref.sum < ((amp * s.hfr.ref.length : Nat) - (s.hfr.ref.sum : Int)).natAbs * 1000 →
        s.hfr.ref ≠ [] → s.pwr.sys = .s2 → s.pwr.entry = .none → s.pwr.aonOn = true → s.pwr.boot = .running → s.pwr.pfwFinal = false →
        (rget s F.PWR_WAKEEN_EN).testBit 8 = true →
        Does (.lpcdBurst amp) s (fun t => t.hfr.st = .off ∧ rget t F.HFR_FLAGS_CARDNEAR = 1 ∧ t.pwr.entry = .waking
          ∧ rget t F.PWR_WAKESRC_FIRST = 8 ∧ rget t F.PWR_WAKESRC_SEEN = 256))
    ∧ (∀ amp, s.hfr.st ≠ .lpcd ∨ s.tmp.now < s.hfr.burstAt + 20 * max 100 (min 1000 (rget s F.HFR_LPCD_PERIOD)) →
        Does (.lpcdBurst amp) s (fun t => t = s))
    ∧ (∀ best phase up iset iant sent ma us arg amp typ wup l4 cards nocrc txbits txlen blk rxbits wtxm, hfrOn s = false →
        Does (.fieldOn best phase iset iant) s (fun t => t = s)
          ∧ Does (.fieldOff sent) s (fun t => t = s)
          ∧ Does .hfSettled s (fun t => t = s)
          ∧ Does .fieldResetEnd s (fun t => t = s)
          ∧ Does (.fieldLost ma us sent) s (fun t => t = s)
          ∧ Does (.hfDriverFault sent) s (fun t => t = s)
          ∧ Does (.tune arg) s (fun t => t = s)
          ∧ Does (.autotuneStep phase up iant) s (fun t => t = s)
          ∧ Does .lpcd s (fun t => t = s)
          ∧ Does (.lpcdBurst amp) s (fun t => t = s)
          ∧ Does (.hfActivate typ wup l4 cards) s (fun t => t = s)
          ∧ Does (.exchange l4 nocrc txbits txlen us) s (fun t => t = s)
          ∧ Does .release s (fun t => t = s)
          ∧ Does (.origin us) s (fun t => t = s)
          ∧ Does (.hfCardFrameRx blk rxbits) s (fun t => t = s)
          ∧ Does (.hfWtxRequest wtxm) s (fun t => t = s)
          ∧ Does .hfFwtExpiry s (fun t => t = s)
          ∧ Does .waitCapExpiry s (fun t => t = s))

/-- Cards and exchanges. A command that its state does not allow ends in WRONG_STATE, one while another runs is discarded with CMDREJ
(R421). ACTIVATE selects a Type A card, of two that collide the one with the first differing bit 1, or a Type B card in its slot, with the
rates of R420, and gives NOCARD, PROTERR, SAKCOLL with a field reset, or COLLISION after eight rounds (R422 to R425). EXCHANGE sends a raw
frame or an APDU, and rejects more than 512 bytes (R430); RELEASE halts or deselects the card. An answer completes the exchange, one of
more than 512 bytes with LENERR (R429, R430); blocks are chained, a wait is extended, a block that fails is retried twice before PROTERR
and a deselect, and the wait cap ends an exchange with CAPHIT (R426, R427). ORIGIN reads with the lowest enabled profile that matches, and
reports GENUINE, FORGED, NOPROFILE or NOSIG; its check waits for the engine and is served before the next descriptor (R431, R432). That a raw exchange without an answer gives PROTERR, that the result comes after
the deselect, and how a profile whose command or SIGOFS is out of range ends, are the model's choices (log entry 151). -/
def Obligations.ReaderExchanges : Prop :=
  ∀ (s : State),
    (∀ best phase iset iant sent arg typ wup l4 cards nocrc txbits (txlen : BitVec 10) us, ReaderFree s → txlen.toNat ≤ 512 →
        let st := if s.hfr.st = .lpcd then HfSt.off else s.hfr.st
        (st ∉ [.off] → Does (.fieldOn best phase iset iant) s (fun t => t.hfr.st = st ∧ Reports t 1 9 1))
          ∧ (st ∉ [.settling, .ready, .activeL3, .activeL4, .resetting] → Does (.fieldOff sent) s (fun t => t.hfr.st = st ∧ Reports t 2 9 1))
          ∧ (st ∉ [.ready] → Does (.hfActivate typ wup l4 cards) s (fun t => t.hfr.st = st ∧ Reports t 3 9 1))
          ∧ (st ∉ [.ready, .activeL3, .activeL4] → Does (.exchange false nocrc txbits txlen us) s (fun t => t.hfr.st = st ∧ Reports t 4 9 1))
          ∧ (st ∉ [.activeL4] → Does (.exchange true nocrc txbits txlen us) s (fun t => t.hfr.st = st ∧ Reports t 4 9 1))
          ∧ (st ∉ [.activeL3, .activeL4] → Does .release s (fun t => t.hfr.st = st ∧ Reports t 5 9 1))
          ∧ (st ∉ [.activeL3, .activeL4] → Does (.origin us) s (fun t => t.hfr.st = st ∧ Reports t 6 9 1))
          ∧ (st ∉ [.off] → Does (.tune arg) s (fun t => t.hfr.st = st ∧ Reports t 7 9 1))
          ∧ (st ∉ [.off] → Does .lpcd s (fun t => t.hfr.st = st ∧ Reports t 8 9 1)))
    ∧ (∀ best phase iset iant arg typ wup l4 cards nocrc txbits txlen us, hfrOn s = true → s.hfr.cmd ≠ none →
        Does (.fieldOn best phase iset iant) s (fun t => t.hfr = s.hfr ∧ rget t F.HFR_FLAGS_CMDREJ = 1)
          ∧ Does (.hfActivate typ wup l4 cards) s (fun t => t.hfr = s.hfr ∧ rget t F.HFR_FLAGS_CMDREJ = 1)
          ∧ Does (.exchange l4 nocrc txbits txlen us) s (fun t => t.hfr = s.hfr ∧ rget t F.HFR_FLAGS_CMDREJ = 1)
          ∧ Does .release s (fun t => t.hfr = s.hfr ∧ rget t F.HFR_FLAGS_CMDREJ = 1)
          ∧ Does (.origin us) s (fun t => t.hfr = s.hfr ∧ rget t F.HFR_FLAGS_CMDREJ = 1)
          ∧ Does (.tune arg) s (fun t => t.hfr = s.hfr ∧ rget t F.HFR_FLAGS_CMDREJ = 1)
          ∧ Does .lpcd s (fun t => t.hfr = s.hfr ∧ rget t F.HFR_FLAGS_CMDREJ = 1))
    ∧ (∀ (c : HfCard) (typ : BitVec 2) (wup l4 : Bool), ReaderFree s → s.hfr.st = .ready → typ = 1 ∨ typ = 3 → c.b = false → c.ok = true →
        wup = true ∨ c.halted = false → c.uid.length ≤ 12 →
        let up := l4 && c.layer4
        let m := rget s F.HFR_CFG_MAXRATE
        let best := fun (x : Nat) => ([3, 2, 1].find? (fun r => decide (r ≤ m) && x.testBit r)).getD 0
        Does (.hfActivate typ wup l4 [c]) s (fun t => t.hfr.st = (if up then .activeL4 else .activeL3) ∧ t.hfr.ctype = 1 ∧ t.hfr.uid = c.uid
          ∧ t.hfr.more = false ∧ t.hfr.sak = c.sak % 256 ∧ t.hfr.fsc = min 256 c.fsc ∧ rget t F.HFR_CARD_UIDLEN = c.uid.length
          ∧ rget t F.HFR_CARD_SAK = c.sak % 256 ∧ rget t F.HFR_CARD_ATQA = c.atqa % 65536
          ∧ rget t F.HFR_CMDSTAT_RXLEN = (if up then min 512 c.ats.length else 0)
          ∧ t.hfr.fwi = (if up then (if c.fwi = 15 then 4 else c.fwi % 16) else 4)
          ∧ (t.hfr.ds, t.hfr.dr) = (if !up then (0, 0) else if c.same then (best (c.ds &&& c.dr), best (c.ds &&& c.dr)) else (best c.ds, best c.dr))
          ∧ Reports t 3 0 0))
    ∧ (∀ (c1 c2 : HfCard) (wup l4 : Bool) (i : Nat), ReaderFree s → s.hfr.st = .ready → c1.b = false → c2.b = false → c1.ok = true →
        wup = true ∨ c1.halted = false ∧ c2.halted = false → c1.uid.length = 4 → c2.uid.length = 4 → i < 32 →
        (u8 c1.uid (i / 8)).testBit (i % 8) = true → (u8 c2.uid (i / 8)).testBit (i % 8) = false →
        (∀ k ∈ List.range i, (u8 c1.uid (k / 8)).testBit (k % 8) = (u8 c2.uid (k / 8)).testBit (k % 8)) →
        ∀ l ∈ [[c1, c2], [c2, c1]], Does (.hfActivate 1 wup l4 l) s (fun t => t.hfr.uid = c1.uid ∧ t.hfr.more = true
          ∧ rget t F.HFR_FLAGS_MORE = 1 ∧ t.hfr.st = (if l4 = true ∧ c1.layer4 = true then .activeL4 else .activeL3) ∧ Reports t 3 0 0))
    ∧ (∀ (c1 c2 : HfCard) (wup l4 : Bool), ReaderFree s → s.hfr.st = .ready → c1.b = false → c2.b = false → c1.uid = c2.uid →
        wup = true ∨ c1.halted = false ∧ c2.halted = false → c1.sak ≠ c2.sak →
        Does (.hfActivate 1 wup l4 [c1, c2]) s (fun t => t.hfr.st = .resetting ∧ t.hfr.field = false ∧ t.hfr.ctype = 0
          ∧ rget t F.HFR_FLAGS_MORE = 1 ∧ Reports t 3 4 0))
    ∧ (∀ (c : HfCard) (wup l4 : Bool), ReaderFree s → s.hfr.st = .ready → c.b = false → c.ok = false → wup = true ∨ c.halted = false →
        Does (.hfActivate 1 wup l4 [c]) s (fun t => t.hfr.st = .ready ∧ Reports t 3 5 0))
    ∧ (∀ (typ : BitVec 2) (wup l4 : Bool) (cards : List HfCard), ReaderFree s → s.hfr.st = .ready → typ ≠ 0 →
        (∀ c ∈ cards, wup = false ∧ c.halted = true ∨ typ = 1 ∧ c.b = true ∨ typ = 2 ∧ c.b = false) →
        Does (.hfActivate typ wup l4 cards) s (fun t => t.hfr.st = .ready ∧ t.hfr.more = false ∧ Reports t 3 2 0))
    ∧ (∀ (c : HfCard) (typ : BitVec 2) (wup l4 : Bool), ReaderFree s → s.hfr.st = .ready → typ = 2 ∨ typ = 3 → c.b = true → c.ok = true →
        wup = true ∨ c.halted = false → c.uid.length ≤ 12 → 1 ≤ c.slots.getD 0 1 → c.slots.getD 0 1 ≤ 2 ^ min 4 (rget s F.HFR_CFG_SLOTS) →
        Does (.hfActivate typ wup l4 [c]) s (fun t => t.hfr.st = (if l4 = true ∧ c.layer4 = true then .activeL4 else .activeL3) ∧ t.hfr.ctype = 2
          ∧ t.hfr.uid = c.uid ∧ t.hfr.more = false ∧ rget t F.HFR_CARD_UIDLEN = 4 ∧ rget t F.HFR_CMDSTAT_RXLEN = min 512 c.ats.length
          ∧ t.hfr.fwi = (if c.fwi = 15 then 4 else c.fwi % 16) ∧ Reports t 3 0 0))
    ∧ (∀ (c1 c2 : HfCard) (wup l4 : Bool), ReaderFree s → s.hfr.st = .ready → c1.b = true → c2.b = true →
        wup = true ∨ c1.halted = false ∧ c2.halted = false → (∀ r ∈ List.range 8, c1.slots.getD r 1 = 1 ∧ c2.slots.getD r 1 = 1) →
        Does (.hfActivate 2 wup l4 [c1, c2]) s (fun t => t.hfr.st = .ready ∧ t.hfr.more = true ∧ rget t F.HFR_FLAGS_MORE = 1 ∧ Reports t 3 3 0))
    ∧ (∀ (wup l4 : Bool) cards, ReaderFree s → s.hfr.st = .ready → Does (.hfActivate 0 wup l4 cards) s (fun t => t.hfr.st = .ready ∧ Reports t 3 1 1))
    ∧ (∀ nocrc txbits (txlen : BitVec 10) us, ReaderFree s → s.hfr.st = .activeL4 → txlen.toNat ≤ 512 →
        Does (.exchange true nocrc txbits txlen us) s (fun t => t.hfr.cmd = some 4 ∧ t.hfr.wait = .block ∧ t.hfr.out = txBytes s txlen.toNat
          ∧ t.hfr.inp = [] ∧ t.hfr.retries = 0 ∧ t.hfr.sent = false ∧ rget t F.HFR_CMDSTAT_RXLEN = 0 ∧ t.hfr.waitAt = s.tmp.now
          ∧ t.hfr.capAt = s.tmp.now + us / 50 ∧ t.hfr.waitUs = us + (30206 * 2 ^ s.hfr.fwi + 99) / 100))
    ∧ (∀ nocrc txbits (txlen : BitVec 10) us, ReaderFree s → s.hfr.st = .ready ∨ s.hfr.st = .activeL3 ∨ s.hfr.st = .activeL4 → txlen.toNat ≤ 512 →
        Does (.exchange false nocrc txbits txlen us) s (fun t => t.hfr.cmd = some 4 ∧ t.hfr.wait = .raw ∧ t.hfr.out = txBytes s txlen.toNat
          ∧ t.hfr.sent = false ∧ rget t F.HFR_CMDSTAT_RXLEN = 0 ∧ t.hfr.waitAt = s.tmp.now ∧ t.hfr.capAt = s.tmp.now + us / 50
          ∧ t.hfr.waitUs = us + 4833))
    ∧ (∀ l4 nocrc txbits (txlen : BitVec 10) us, ReaderFree s → s.hfr.st = .ready ∨ s.hfr.st = .activeL3 ∨ s.hfr.st = .activeL4 →
        512 < txlen.toNat →
        Does (.exchange l4 nocrc txbits txlen us) s (fun t => t.hfr.st = s.hfr.st ∧ Reports t 4 8 1
          ∧ rget t F.HFR_LENERR_COUNT = min 65535 (rget s F.HFR_LENERR_COUNT + 1)))
    ∧ (ReaderFree s → s.hfr.st = .activeL3 → Does .release s (fun t => t.hfr.st = .ready ∧ t.hfr.ctype = 0 ∧ Reports t 5 0 0))
    ∧ (ReaderFree s → s.hfr.st = .activeL4 → Does .release s (fun t => t.hfr.cmd = some 5 ∧ t.hfr.wait = .deselect ∧ t.hfr.pend = some (0, 0)
          ∧ t.hfr.waitAt = s.tmp.now ∧ t.hfr.waitUs = (30206 * 2 ^ s.hfr.fwi + 99) / 100))
    ∧ (∀ (b : Bytes) rxbits, hfrOn s = true → s.hfr.wait = .raw ∨ s.hfr.wait = .block → s.hfr.orig = none → s.hfr.cmd = some 4 →
        let resp := if s.hfr.wait = .raw then b else s.hfr.inp ++ b
        Does (.hfCardFrameRx (.info b false) rxbits) s (fun t =>
          (resp.length ≤ 512 → Reports t 4 0 3 ∧ rget t F.HFR_CMDSTAT_RXLEN = resp.length
            ∧ rget t F.HFR_CMDSTAT_RXBITS = (if s.hfr.wait = .raw then rxbits.toNat else 0)
            ∧ (∀ k ∈ List.range 128, 4 * k < resp.length → rget t (F.HFR_RXBUF_DATA k) = u32 resp (4 * k)))
          ∧ (512 < resp.length → Reports t 4 8 3 ∧ rget t F.HFR_CMDSTAT_RXLEN = 0
            ∧ rget t F.HFR_LENERR_COUNT = min 65535 (rget s F.HFR_LENERR_COUNT + 1)
            ∧ (∀ k ∈ List.range 128, rget t (F.HFR_RXBUF_DATA k) = rget s (F.HFR_RXBUF_DATA k)))))
    ∧ (∀ (b : Bytes) rxbits, hfrOn s = true → s.hfr.wait = .block →
        Does (.hfCardFrameRx (.info b true) rxbits) s (fun t => t.hfr.inp = s.hfr.inp ++ b ∧ t.hfr.wait = .block ∧ t.hfr.retries = 0
          ∧ t.hfr.sent = true ∧ t.hfr.waitAt = s.tmp.now ∧ t.hfr.waitUs = (30206 * 2 ^ s.hfr.fwi + 99) / 100))
    ∧ (∀ rxbits, hfrOn s = true → s.hfr.wait = .block → max 1 (s.hfr.fsc - 3) < s.hfr.out.length →
        Does (.hfCardFrameRx .ack rxbits) s (fun t => t.hfr.out = s.hfr.out.drop (max 1 (s.hfr.fsc - 3)) ∧ t.hfr.wait = .block
          ∧ t.hfr.retries = 0 ∧ t.hfr.sent = true ∧ t.hfr.waitAt = s.tmp.now))
    ∧ (∀ blk rxbits, hfrOn s = true → s.hfr.wait = .block →
        blk = .bad ∨ blk = .deselected ∨ blk = .ack ∧ s.hfr.out.length ≤ max 1 (s.hfr.fsc - 3) →
        Does (.hfCardFrameRx blk rxbits) s (fun t => t.hfr.waitAt = s.tmp.now ∧ t.hfr.waitUs = (30206 * 2 ^ s.hfr.fwi + 99) / 100 ∧ t.hfr.cmd = s.hfr.cmd
          ∧ (s.hfr.retries < 2 → t.hfr.retries = s.hfr.retries + 1 ∧ t.hfr.wait = .block)
          ∧ (2 ≤ s.hfr.retries → t.hfr.pend = some (5, 2) ∧ t.hfr.wait = .deselect)))
    ∧ (hfrOn s = true → s.hfr.wait = .block → s.hfr.waitAt * 50 + s.hfr.waitUs ≤ s.tmp.now * 50 →
        Does .hfFwtExpiry s (fun t => t.hfr.waitAt = s.tmp.now ∧ t.hfr.waitUs = (30206 * 2 ^ s.hfr.fwi + 99) / 100 ∧ t.hfr.cmd = s.hfr.cmd
          ∧ (s.hfr.retries < 2 → t.hfr.retries = s.hfr.retries + 1 ∧ t.hfr.wait = .block)
          ∧ (2 ≤ s.hfr.retries → t.hfr.pend = some (5, 2) ∧ t.hfr.wait = .deselect)))
    ∧ (∀ blk rxbits, hfrOn s = true → s.hfr.wait = .none ∨ s.hfr.wait = .deselect ∧ blk ≠ .deselected →
        Does (.hfCardFrameRx blk rxbits) s (fun t => t = s))
    ∧ (∀ rxbits op r o, hfrOn s = true → s.hfr.wait = .deselect → s.hfr.cmd = some op → op ≤ 8 → s.hfr.pend = some (r, o) → r ≤ 10 → o ≤ 4 →
        Does (.hfCardFrameRx .deselected rxbits) s (fun t => t.hfr.st = .ready ∧ t.hfr.ctype = 0 ∧ Reports t op r o
          ∧ (s.hfr.orig.isSome = true → rget t F.HFR_ORIG_RESULT = 4 ∧ rget t F.HFR_FLAGS_ORIGDONE = 1)))
    ∧ (∀ op r o, hfrOn s = true → s.hfr.wait = .deselect → s.hfr.waitAt * 50 + s.hfr.waitUs ≤ s.tmp.now * 50 → s.hfr.cmd = some op → op ≤ 8 →
        s.hfr.pend = some (r, o) → r ≤ 10 → o ≤ 4 →
        Does .hfFwtExpiry s (fun t => t.hfr.st = .resetting ∧ t.hfr.field = false ∧ t.hfr.ctype = 0 ∧ Reports t op (if op = 5 then 5 else r) o
          ∧ (s.hfr.orig.isSome = true → rget t F.HFR_ORIG_RESULT = 4 ∧ rget t F.HFR_FLAGS_ORIGDONE = 1)))
    ∧ (∀ blk rxbits op, hfrOn s = true → s.hfr.wait = .raw → s.hfr.cmd = some op → op ≤ 8 → blk ∈ [.bad, .ack, .deselected] →
        Does (.hfCardFrameRx blk rxbits) s (fun t => t.hfr.st = s.hfr.st ∧ Reports t op 6 2
          ∧ (s.hfr.orig.isSome = true → rget t F.HFR_ORIG_RESULT = 4 ∧ rget t F.HFR_FLAGS_ORIGDONE = 1)))
    ∧ (∀ op, hfrOn s = true → s.hfr.wait = .raw → s.hfr.cmd = some op → op ≤ 8 → s.hfr.waitAt * 50 + s.hfr.waitUs ≤ s.tmp.now * 50 →
        Does .hfFwtExpiry s (fun t => t.hfr.st = s.hfr.st ∧ Reports t op 5 2
          ∧ (s.hfr.orig.isSome = true → rget t F.HFR_ORIG_RESULT = 4 ∧ rget t F.HFR_FLAGS_ORIGDONE = 1)))
    ∧ (∀ op, hfrOn s = true → s.hfr.wait = .raw → s.hfr.cmd = some op → op ≤ 8 → s.hfr.st ≠ .activeL4 →
        s.hfr.capAt + 2000 * max 1 (min 50 (rget s F.HFR_CFG_CAP)) ≤ s.tmp.now →
        Does .waitCapExpiry s (fun t => t.hfr.st = s.hfr.st ∧ Reports t op 7 2
          ∧ (s.hfr.orig.isSome = true → rget t F.HFR_ORIG_RESULT = 4 ∧ rget t F.HFR_FLAGS_ORIGDONE = 1)))
    ∧ (s.hfr.wait = .none ∨ s.tmp.now * 50 < s.hfr.waitAt * 50 + s.hfr.waitUs → Does .hfFwtExpiry s (fun t => t = s))
    ∧ (∀ wtxm, hfrOn s = true → s.hfr.wait = .block → wtxm ≠ 0 →
        s.tmp.now < s.hfr.capAt + 2000 * max 1 (min 50 (rget s F.HFR_CFG_CAP)) →
        Does (.hfWtxRequest wtxm) s (fun t => t.hfr.wait = .block ∧ t.hfr.waitAt = s.tmp.now ∧ t.hfr.sent = true
          ∧ t.hfr.waitUs = min 4949000 ((30206 * 2 ^ s.hfr.fwi + 99) / 100 * min 59 wtxm.toNat) ∧ rget t F.HFR_FLAGS_WTX = 1))
    ∧ (hfrOn s = true → s.hfr.wait = .block → s.tmp.now < s.hfr.capAt + 2000 * max 1 (min 50 (rget s F.HFR_CFG_CAP)) →
        Does (.hfWtxRequest 0) s (fun t => t.hfr.pend = some (5, 2) ∧ t.hfr.wait = .deselect))
    ∧ (∀ wtxm, s.hfr.wait ≠ .block ∨ s.hfr.capAt + 2000 * max 1 (min 50 (rget s F.HFR_CFG_CAP)) ≤ s.tmp.now →
        Does (.hfWtxRequest wtxm) s (fun t => t = s))
    ∧ (hfrOn s = true → s.hfr.wait = .block ∨ s.hfr.wait = .raw ∧ s.hfr.st = .activeL4 →
        s.hfr.capAt + 2000 * max 1 (min 50 (rget s F.HFR_CFG_CAP)) ≤ s.tmp.now →
        Does .waitCapExpiry s (fun t => t.hfr.pend = some (7, 2) ∧ t.hfr.wait = .deselect ∧ t.hfr.waitAt = s.tmp.now))
    ∧ (s.hfr.wait = .none ∨ s.hfr.wait = .deselect ∨ s.tmp.now < s.hfr.capAt + 2000 * max 1 (min 50 (rget s F.HFR_CFG_CAP)) →
        Does .waitCapExpiry s (fun t => t = s))
    ∧ (∀ us, ReaderFree s → s.hfr.st = .activeL3 ∨ s.hfr.st = .activeL4 →
        let typ := fun (k : Nat) => rbit s (F.HFR_PROF0_EN k) && (rget s (F.HFR_PROF0_TYPE k)).testBit (s.hfr.ctype - 1)
        let len := fun (k : Nat) => rget s (F.HFR_PROF0_UIDLEN k) == 0 || rget s (F.HFR_PROF0_UIDLEN k) == s.hfr.uid.length
        let msk := fun (k : Nat) => rget s (F.HFR_PROF0_SAKMASK k)
        let sak := fun (k : Nat) => s.hfr.ctype == 2 || (s.hfr.sak &&& msk k) == (rget s (F.HFR_PROF0_SAKVAL k) &&& msk k)
        let u0m := fun (k : Nat) => rget s (F.HFR_PROF1_U0MASK k)
        let u0 := fun (k : Nat) => (u8 s.hfr.uid 0 &&& u0m k) == (rget s (F.HFR_PROF1_U0VAL k) &&& u0m k)
        let l4 := fun (k : Nat) => rbit s (F.HFR_PROF0_L4 k)
        let cl := fun (k : Nat) => rget s (F.HFR_PROF1_CMDLEN k)
        let bad := fun (k : Nat) => decide (cl k = 0 ∨ 16 < cl k ∨ 192 < rget s (F.HFR_PROF1_SIGOFS k))
        let hit := (List.range 16).find? (fun k => typ k && len k && sak k && u0 k)
        Does (.origin us) s (fun t =>
          (hit = none → rget t F.HFR_ORIG_RESULT = 3 ∧ rget t F.HFR_FLAGS_ORIGDONE = 1 ∧ Reports t 6 0 1)
          ∧ (∀ k ∈ hit.toList,
              (bad k = true → rget t F.HFR_ORIG_RESULT = 4 ∧ rget t F.HFR_FLAGS_ORIGDONE = 1 ∧ Reports t 6 0 1)
              ∧ (bad k = false → l4 k = true → s.hfr.st = .activeL3 →
                  rget t F.HFR_ORIG_RESULT = 4 ∧ rget t F.HFR_FLAGS_ORIGDONE = 1 ∧ Reports t 6 9 1)
              ∧ (bad k = false → l4 k = false ∨ s.hfr.st = .activeL4 → t.hfr.orig = some k ∧ t.hfr.cmd = some 6
                  ∧ t.hfr.wait = (if l4 k then .block else .raw) ∧ t.hfr.out = profCmd s k))))
    ∧ (∀ (b : Bytes) rxbits k, hfrOn s = true → s.hfr.wait = .raw ∨ s.hfr.wait = .block → s.hfr.orig = some k → k < 16 →
        let resp := if s.hfr.wait = .raw then b else s.hfr.inp ++ b
        let ofs := rget s (F.HFR_PROF1_SIGOFS k)
        let ok := Config.sm2Verify (profKey s k) s.hfr.uid (slice resp ofs 64)
        resp.length < ofs + 64 ∨ s.key.job = none ∧ portsFree s = true →
        Does (.hfCardFrameRx (.info b false) rxbits) s (fun t => Reports t 6 0 3 ∧ rget t F.HFR_FLAGS_ORIGDONE = 1
          ∧ rget t F.HFR_ORIG_PROFILE = k ∧ (resp.length < ofs + 64 → rget t F.HFR_ORIG_RESULT = 4)
          ∧ (ofs + 64 ≤ resp.length → ok = true → rget t F.HFR_ORIG_RESULT = 1)
          ∧ (ofs + 64 ≤ resp.length → ok = false → rget t F.HFR_ORIG_RESULT = 2)))
    ∧ (∀ (b : Bytes) rxbits k, hfrOn s = true → s.hfr.wait = .raw ∨ s.hfr.wait = .block → s.hfr.orig = some k → k < 16 →
        let resp := if s.hfr.wait = .raw then b else s.hfr.inp ++ b
        rget s (F.HFR_PROF1_SIGOFS k) + 64 ≤ resp.length → s.key.job.isSome = true ∨ portsFree s = false →
        Does (.hfCardFrameRx (.info b false) rxbits) s (fun t => t.hfr.wait = .verify ∧ t.hfr.inp = resp ∧ t.hfr.cmd = s.hfr.cmd
          ∧ t.hfr.orig = some k ∧ t.key = s.key ∧ jobNext t = none))
    ∧ (∀ (x : KJob) a n k, s.hfr.wait = .verify → s.hfr.orig = some k → k < 16 → s.key.job = some x → x.more = none → keyRing s = some (a, n) →
        portsFree s = true →
        let t0 := memWrite x.dst x.out s
        let ok := Config.sm2Verify (profKey s k) s.hfr.uid (slice s.hfr.inp (rget s (F.HFR_PROF1_SIGOFS k)) 64)
        Does .jobComplete s (fun t => t.key.job = none ∧ rget t F.KEY_FLAGS_JOBDONE = 1 ∧ Reports t 6 0 3 ∧ rget t F.HFR_FLAGS_ORIGDONE = 1
          ∧ rget t F.HFR_ORIG_PROFILE = k ∧ t.mem = (memWrite (a + 32 * (x.idx % n) + 0x1C) (leBytes 2 x.result) t0).mem
          ∧ (ok = true → rget t F.HFR_ORIG_RESULT = 1) ∧ (ok = false → rget t F.HFR_ORIG_RESULT = 2)))

/-- The load channels. EN switches a channel on with its inrush window, or off with its retry count, RETRYEX and code cleared; where the
channel may not be on, or waits, only the bit is taken, and a sequencer-owned channel ignores it with OWNREJ (R434, R435, R436, R439). A
channel that reaches its limit outside its window sets OC and its code; limiting for TOC switches it off, to wait RETRYDLY or to stay off
with RETRYEX, and the retry advances the count (R437, R438). Heat, a missing free-wheel path and clamp energy latch it, the first cause
of R451 standing; LCLR clears a latch below 120 °C, and is refused with CLRREF at or above it (R440 to R442, R447, R448). A hot group ends
a window (R443); the bank timer starts and ends enforcement (R444); open load and the off-state test set and clear their codes (R449,
R450). Where its condition does not hold, each changes nothing but the temperatures it measured. -/
def Obligations.LoadChannelCommands : Prop :=
  ∀ (s : State) (n : Fin 16), let c := lchan s n
    (lchOn s = true → lOwner s n = false → c.on = false → c.retryAt = none → c.restart = none → lUsed s n = true → s.lch.uv = false →
        s.pwr.vsAbsent = false → c.latch = none → c.retryEx = false →
        Does (.lchEnable n true) s (fun t => lchan t n = { c with
            en := true, on := true, winCut := false, lim := none, oc := false,
            openLd := false, shortVs := false, offAt := none, inr := if lTinr s n = 0 then none else some s.tmp.now }))
    ∧ (lchOn s = true → lOwner s n = false → c.on = true ∨ c.retryAt.isSome = true ∨ c.restart.isSome = true ∨ lUsed s n = false
          ∨ s.lch.uv = true ∨ s.pwr.vsAbsent = true ∨ c.latch.isSome = true ∨ c.retryEx = true →
        Does (.lchEnable n true) s (fun t => lchan t n = { c with en := true }))
    ∧ (lchOn s = true → lOwner s n = false →
        Does (.lchEnable n false) s (fun t => lchan t n = { c with
            en := false, on := false, inr := none, winCut := false, lim := none,
            offAt := if c.on then some s.tmp.now else c.offAt, openLd := false, bank := none, retry := 0, retryEx := false, oc := false, retryAt := none, restart := none }))
    ∧ (∀ en, lchOn s = true → lOwner s n = true →
        Does (.lchEnable n en) s (fun t => t.lch = s.lch ∧ rget t F.LCH_FLAGS_OWNREJ = 1))
    ∧ (∀ k, c.inr = some k → k + lTinr s n ≤ s.tmp.now →
        Does (.lchInrushEnd n) s (fun t => lchan t n = { c with inr := none, lim := none } ∧ lActive t n = lIlim s n))
    ∧ ((∀ k ∈ c.inr.toList, s.tmp.now < k + lTinr s n) → Does (.lchInrushEnd n) s (fun t => t = s))
    ∧ (c.on = true → c.lim = none → c.bank = none → c.inr = none →
        Does (.lchLimitEntry n) s (fun t => lchan t n = { c with lim := some s.tmp.now, oc := true }
          ∧ (rget t F.LCH_FLAGS_OC).testBit n = true ∧ rget t F.LCH_EVCNT_COUNT = min 255 (rget s F.LCH_EVCNT_COUNT + 1)))
    ∧ (c.on = true → c.lim = none → c.bank = none → c.inr.isSome = true →
        Does (.lchLimitEntry n) s (fun t => lchan t n = { c with lim := some s.tmp.now } ∧ t.regs = s.regs))
    ∧ (c.on = false ∨ c.lim.isSome = true ∨ c.bank.isSome = true → Does (.lchLimitEntry n) s (fun t => t = s))
    ∧ (c.on = true → Does (.lchLimitingEnd n) s (fun t => lchan t n = { c with lim := none, oc := false }))
    ∧ (c.on = false → Does (.lchLimitingEnd n) s (fun t => t = s))
    ∧ (∀ k, c.lim = some k → c.on = true → c.inr = none → c.bank = none → k + lToc s n ≤ s.tmp.now →
        Does (.lchTocExpiry n) s (fun t => (lchan t n).on = false ∧ (lchan t n).oc = true ∧ (lchan t n).lim = none
          ∧ (lchan t n).retry = c.retry ∧ (lchan t n).en = c.en
          ∧ (c.retry < lRetryMax s n → (lchan t n).retryAt = some (s.tmp.now + lRetryDly s n) ∧ (lchan t n).retryEx = c.retryEx)
          ∧ (lRetryMax s n ≤ c.retry → (lchan t n).retryAt = c.retryAt ∧ (lchan t n).retryEx = true ∧ rget t F.LCH_FLAGS_RETRYEX = 1)))
    ∧ (c.on = false ∨ c.inr.isSome = true ∨ c.bank.isSome = true ∨ (∀ k ∈ c.lim.toList, s.tmp.now < k + lToc s n) →
        Does (.lchTocExpiry n) s (fun t => t = s))
    ∧ (∀ k, c.retryAt = some k → (∀ r ∈ c.restart.toList, r ≤ s.tmp.now) → k ≤ s.tmp.now → c.en = true → lMay s n = true →
        Does (.lchRetry n) s (fun t => lchan t n = { c with
            on := true, retry := min 15 (c.retry + 1), retryAt := none, restart := none,
            winCut := false, lim := none, oc := false, openLd := false, shortVs := false, offAt := none,
            inr := if lTinr s n = 0 then none else some s.tmp.now }))
    ∧ ((∀ k ∈ c.retryAt.toList, s.tmp.now < k ∨ c.en = false ∨ lMay s n = false ∨ ∃ r ∈ c.restart.toList, s.tmp.now < r) →
        Does (.lchRetry n) s (fun t => t = s))
    ∧ (∀ tj gt : Int, lchOn s = true → lUsed s n = true → 170 < tj ∨ 60 < tj - gt →
        Does (.lchThermalLatch n tj gt) s (fun t => (lchan t n).on = false ∧ (lchan t n).latch = some ((c.latch.map (min · 2)).getD 2)
          ∧ (lchan t n).retry = c.retry ∧ (lchan t n).retryAt = none ∧ (lchan t n).restart = none ∧ (lchan t n).inr = none
          ∧ (lchan t n).en = c.en ∧ (lchan t n).tj = tj ∧ Tab.get 0 t.lch.gt (n / 4) = gt ∧ rget t F.LCH_FLAGS_THERM = 1))
    ∧ (∀ tj gt : Int, lchOn s = false ∨ lUsed s n = false ∨ tj ≤ 170 ∧ tj - gt ≤ 60 →
        Does (.lchThermalLatch n tj gt) s (fun t => lchan t n = { c with tj := tj, dt := (tj - gt).toNat } ∧ t.regs = s.regs
          ∧ Tab.get 0 t.lch.gt (n / 4) = gt))
    ∧ (∀ (tj : Int), lchOn s = true → c.latch.isSome = true → tj < 120 →
        Does (.lchLatchClear n tj) s (fun t => (lchan t n).latch = none ∧ (lchan t n).retry = c.retry
          ∧ (c.en = true → lUsed s n = true → s.lch.uv = false → s.pwr.vsAbsent = false → c.retryEx = false →
              (lchan t n).on = true ∧ (lchan t n).inr = if lTinr s n = 0 then none else some s.tmp.now)
          ∧ (c.en = false ∨ lUsed s n = false ∨ s.lch.uv = true ∨ s.pwr.vsAbsent = true ∨ c.retryEx = true →
              lchan t n = { c with tj := tj, latch := none })))
    ∧ (∀ (tj : Int), lchOn s = true → c.latch.isSome = true → 120 ≤ tj →
        Does (.lchLatchClear n tj) s (fun t => lchan t n = { c with tj := tj } ∧ rget t F.LCH_FLAGS_CLRREF = 1))
    ∧ (∀ (tj : Int), lchOn s = false ∨ c.latch = none →
        Does (.lchLatchClear n tj) s (fun t => lchan t n = { c with tj := tj } ∧ t.regs = s.regs))
    ∧ (∀ (gt : Int), c.inr.isSome = true → 150 < gt →
        Does (.lchWindowCut n gt) s (fun t => lchan t n = { c with inr := none, winCut := true, lim := none }
          ∧ Tab.get 0 t.lch.gt (n / 4) = gt ∧ rget t F.LCH_FLAGS_WINCUT = 1))
    ∧ (∀ (gt : Int), c.inr = none ∨ gt ≤ 150 →
        Does (.lchWindowCut n gt) s (fun t => t.lch.ch = s.lch.ch ∧ t.regs = s.regs ∧ Tab.get 0 t.lch.gt (n / 4) = gt))
    ∧ (s.lch.timer = 40000 → s.lch.enf = false → Does .bankEnforce s (fun t => t.lch.enf = true ∧ rget t F.LCH_FLAGS_BANKENF = 1))
    ∧ (s.lch.timer ≠ 40000 ∨ s.lch.enf = true → Does .bankEnforce s (fun t => t = s))
    ∧ (s.lch.timer = 0 → Does .bankRelease s (fun t => t.lch.enf = false ∧ t.lch.ch = s.lch.ch))
    ∧ (s.lch.timer ≠ 0 → Does .bankRelease s (fun t => t = s))
    ∧ (∀ (mv : Int) k, lchOn s = true → lUsed s n = true → lFwdecl s n = true → c.on = false → c.offAt = some k → k + 4 ≤ s.tmp.now → mv < -2000 →
        Does (.freewheelCheckEnd n mv) s (fun t => (lchan t n).latch = some ((c.latch.map (min · 5)).getD 5) ∧ (lchan t n).on = false
          ∧ (lchan t n).retry = c.retry ∧ (lchan t n).retryAt = none ∧ (lchan t n).offAt = none ∧ rget t F.LCH_FLAGS_FWMISS = 1))
    ∧ (∀ (mv : Int) k, lchOn s = true → lUsed s n = true → lFwdecl s n = true → c.on = false → c.offAt = some k → k + 4 ≤ s.tmp.now → -2000 ≤ mv →
        Does (.freewheelCheckEnd n mv) s (fun t => lchan t n = { c with offAt := none } ∧ t.regs = s.regs))
    ∧ (∀ mv : Int, lchOn s = false ∨ lUsed s n = false ∨ lFwdecl s n = false ∨ c.on = true ∨ (∀ k ∈ c.offAt.toList, s.tmp.now < k + 4) →
        Does (.freewheelCheckEnd n mv) s (fun t => t = s))
    ∧ (∀ uj, lchOn s = true → lUsed s n = true → lFwdecl s n = false → c.on = false → c.offAt.isSome = true →
        50000 < uj ∨ 20000 < uj ∧ (∃ k ∈ c.clampAt.toList, s.tmp.now < k + 20000) →
        Does (.clampEnergyCheck n uj) s (fun t => (lchan t n).latch = some ((c.latch.map (min · 6)).getD 6) ∧ (lchan t n).on = false
          ∧ (lchan t n).retry = c.retry ∧ (lchan t n).retryAt = none ∧ rget t F.LCH_FLAGS_CLAMPE = 1
          ∧ (lchan t n).clampAt = some s.tmp.now))
    ∧ (∀ uj, lchOn s = true → lUsed s n = true → lFwdecl s n = false → c.on = false → c.offAt.isSome = true → uj ≤ 50000 →
        uj ≤ 20000 ∨ (∀ k ∈ c.clampAt.toList, k + 20000 ≤ s.tmp.now) →
        Does (.clampEnergyCheck n uj) s (fun t => lchan t n = { c with
          offAt := none, clampAt := if 20000 < uj then some s.tmp.now else c.clampAt } ∧ t.regs = s.regs))
    ∧ (∀ uj, lchOn s = false ∨ lUsed s n = false ∨ lFwdecl s n = true ∨ c.on = true ∨ c.offAt = none →
        Does (.clampEnergyCheck n uj) s (fun t => t = s))
    ∧ (∀ ma ms, lchOn s = true → c.on = true → c.inr = none → c.openLd = false → ma < lIol s n → 100 ≤ ms →
        Does (.lchOpenLoad n ma ms) s (fun t => lchan t n = { c with openLd := true } ∧ rget t F.LCH_FLAGS_OPENLD = 1))
    ∧ (∀ ma ms, lchOn s = false ∨ c.on = false ∨ c.inr.isSome = true ∨ c.openLd = true ∨ lIol s n ≤ ma ∨ ms < 100 →
        Does (.lchOpenLoad n ma ms) s (fun t => t = s))
    ∧ (∀ ma ms, c.on = true → lIol s n + 5 ≤ ma → 100 ≤ ms →
        Does (.openLoadClear n ma ms) s (fun t => lchan t n = { c with openLd := false }))
    ∧ (∀ ma ms, c.on = false ∨ ma < lIol s n + 5 ∨ ms < 100 → Does (.openLoadClear n ma ms) s (fun t => t = s))
    ∧ (∀ mv0 mv1 : Int, lchOn s = true → lUsed s n = true → lOdiag s n = true → c.en = false → c.on = false →
        c.diagAt + 20 * u16 (sec s 8) 2 ≤ s.tmp.now →
        Does (.lchOffDiag n mv0 mv1) s (fun t =>
          (4000 < mv0 → lchan t n = { c with shortVs := true, openLd := false, diagAt := s.tmp.now } ∧ rget t F.LCH_FLAGS_SHORTVS = 1)
          ∧ (mv0 ≤ 4000 → 4000 < mv1 → lchan t n = { c with shortVs := false, openLd := true, diagAt := s.tmp.now } ∧ rget t F.LCH_FLAGS_OPENLD = 1)
          ∧ (mv0 ≤ 4000 → mv1 ≤ 4000 → lchan t n = { c with shortVs := false, openLd := false, diagAt := s.tmp.now } ∧ t.regs = s.regs)))
    ∧ (∀ mv0 mv1 : Int, lchOn s = false ∨ lUsed s n = false ∨ lOdiag s n = false ∨ c.en = true ∨ c.on = true
          ∨ s.tmp.now < c.diagAt + 20 * u16 (sec s 8) 2 →
        Does (.lchOffDiag n mv0 mv1) s (fun t => t = s))

/-- VS_LOAD: below 7.0 V every channel is off, UV sets and every SENSE reads 0xFFF; recovered for 10 ms above 8.0 V, UV clears with UVBACK and
each channel with EN = 1 that is neither latched nor exhausted gets its place, in channel order 1 ms apart, and is on when the place
comes; across the dip no retry count advances, latches, RETRYEX and counts are kept, and a channel that waits out RETRYDLY restarts at
the later of its own time and its place (R446). -/
def Obligations.LoadSupplyCommands : Prop :=
  ∀ (s : State),
    (∀ mv, lchOn s = true → mv < 7000 → s.lch.uv = false →
        Does (.vsLoadUndervoltage mv) s (fun t => t.lch.uv = true ∧ t.pwr.vsAbsent = true ∧ rget t F.LCH_FLAGS_UV = 1
          ∧ rget t F.LCH_STATUS_VSLOAD = mv
          ∧ (∀ n : Fin 16, (lchan t n).on = false ∧ (lchan t n).en = (lchan s n).en ∧ (lchan t n).retry = (lchan s n).retry
              ∧ (lchan t n).latch = (lchan s n).latch ∧ (lchan t n).retryEx = (lchan s n).retryEx
              ∧ (lchan t n).retryAt = (lchan s n).retryAt ∧ (lchan t n).restart = none ∧ senseCode t n = 0xFFF)))
    ∧ (∀ mv, lchOn s = true → 7000 ≤ mv ∨ s.lch.uv = true →
        Does (.vsLoadUndervoltage mv) s (fun t => t.lch = s.lch ∧ rget t F.LCH_STATUS_VSLOAD = mv % 65536))
    ∧ (∀ mv us, lchOn s = true → s.lch.uv = true → 8000 < mv → 10000 ≤ us →
        let may := fun (n : Nat) => lUsed s n && (lchan s n).en && (lchan s n).latch.isNone && !(lchan s n).retryEx
        let order := (List.range 16).filter may
        Does (.vsLoadRecovered mv us) s (fun t => t.lch.uv = false ∧ t.pwr.vsAbsent = false ∧ rget t F.LCH_FLAGS_UVBACK = 1
          ∧ (∀ k ∈ List.range order.length, (lchan t (order.getD k 0)).restart = some (s.tmp.now + 20 * k))
          ∧ (∀ n : Fin 16, (lchan t n).on = (lchan s n).on ∧ (lchan t n).retry = (lchan s n).retry
              ∧ (lchan t n).latch = (lchan s n).latch ∧ (lchan t n).retryEx = (lchan s n).retryEx
              ∧ (lchan t n).retryAt = (lchan s n).retryAt ∧ (may n = false → (lchan t n).restart = (lchan s n).restart))))
    ∧ (∀ mv us, lchOn s = true → s.lch.uv = false ∨ mv ≤ 8000 ∨ us < 10000 →
        Does (.vsLoadRecovered mv us) s (fun t => t.lch = s.lch ∧ rget t F.LCH_STATUS_VSLOAD = mv % 65536))
    ∧ (∀ (n : Fin 16) k, (lchan s n).restart = some k → k ≤ s.tmp.now → (lchan s n).retryAt = none →
        Does (.lchStaggeredRestart n) s (fun t => (lchan t n).restart = none ∧ (lchan t n).retry = (lchan s n).retry
          ∧ ((lchan s n).en = true → lMay s n = true → (lchan t n).on = true
              ∧ (lchan t n).inr = if lTinr s n = 0 then none else some s.tmp.now)
          ∧ ((lchan s n).en = false ∨ lMay s n = false → (lchan t n).on = (lchan s n).on)))
    ∧ (∀ (n : Fin 16), (∀ k ∈ (lchan s n).restart.toList, s.tmp.now < k) → Does (.lchStaggeredRestart n) s (fun t => t = s))
    ∧ (∀ (n : Fin 16) k r, (lchan s n).restart = some k → (lchan s n).retryAt = some r →
        Does (.lchStaggeredRestart n) s (fun t => t = s)
        ∧ (max k r ≤ s.tmp.now → (lchan s n).en = true → lMay s n = true →
            Does (.lchRetry n) s (fun t => (lchan t n).on = true ∧ (lchan t n).restart = none ∧ (lchan t n).retryAt = none))
        ∧ (s.tmp.now < max k r → Does (.lchRetry n) s (fun t => t = s)))

/-- Requests for a power state and the entries: in S0 a request begins its entry, outside S0 or during an entry it is BADTARGET; the running
cores' WFI completes S1 and S2, and is only noted without an entry; S3 completes with its state, the band going over to AON, or goes on
to S4 with the SHUTDOWN entry due; its commit loads the AON clock and takes the module to S4, where VIO33_OUT is off and the lands of the domains are high-impedance with their reset
pulls (R464, R465, R467, R469, R508, R509). Out of their turn
these events change nothing. -/
def Obligations.PowerRequests : Prop :=
  ∀ s : State, s.pwr.boot = .running →
    (s.pwr.sys = .s0 → s.pwr.entry = .none → Does .reqS1 s (fun t => t.pwr.entry = .idle .s1 ∧ t.pwr.sys = .s0 ∧ t.pwr.wfi = false))
    ∧ (s.pwr.sys = .s0 → s.pwr.entry = .none → Does .reqS2 s (fun t => t.pwr.entry = .idle .s2 ∧ t.pwr.sys = .s0 ∧ t.pwr.wfi = false))
    ∧ (s.pwr.sys = .s0 → s.pwr.entry = .none → Does .reqS3 s (fun t => t.pwr.entry = .consent .s3 ∧ t.pwr.sys = .s0))
    ∧ (s.pwr.sys = .s0 → s.pwr.entry = .none → Does .reqS4 s (fun t => t.pwr.entry = .consent .s4 ∧ t.pwr.sys = .s0))
    ∧ (s.pwr.sys ≠ .s0 ∨ s.pwr.entry ≠ .none → Does .reqS1 s (BadTarget s) ∧ Does .reqS2 s (BadTarget s) ∧ Does .reqS3 s (BadTarget s)
        ∧ Does .reqS4 s (BadTarget s))
    ∧ (s.pwr.appOn = true → s.pwr.entry = .idle .s1 → s.pwr.sys = .s0 →
        Does .coresExecuteWfi s (fun t => t.pwr.sys = .s1 ∧ t.pwr.prev = .s0 ∧ t.pwr.entry = .none ∧ t.pwr.appOn = true ∧ t.pwr.wfi = true))
    ∧ (s.pwr.appOn = true → s.pwr.entry = .idle .s2 → s.pwr.sys = .s0 →
        Does .coresExecuteWfi s (fun t => t.pwr.sys = .s2 ∧ t.pwr.prev = .s0 ∧ t.pwr.entry = .none ∧ t.pwr.appOn = false
          ∧ t.pwr.dramOn = false ∧ t.pwr.netOn = s.pwr.netOn ∧ t.pwr.vehOn = s.pwr.vehOn ∧ t.pwr.fieldOn = s.pwr.fieldOn
          ∧ t.pwr.safeOn = s.pwr.safeOn ∧ t.mem = s.mem))
    ∧ (s.pwr.appOn = true → (∀ x ∈ [PwrSt.s1, .s2], s.pwr.entry ≠ .idle x) →
        Does .coresExecuteWfi s (fun t => t = { s with pwr.wfi := true }))
    ∧ (s.pwr.appOn = false → Does .coresExecuteWfi s (fun t => t = s))
    ∧ (s.pwr.entry = .quiet .s3 → s.pwr.sys = .s0 →
        Does .s3EntryComplete s (fun t => t.pwr.sys = .s3 ∧ t.pwr.prev = .s0 ∧ t.pwr.entry = .none
          ∧ rget t F.LCD_STATUS_BAND = rget s F.LCD_BANDCTL_EN % 2 ∧ t.lcd.midTo = s.pwr.rtc + mainFrame s ∧ lcdDrive t ≠ .main
          ∧ (s.pwr.aonOn = true → rget s F.LCD_BANDCTL_EN = 1 → lcdDrive { t with pwr.rtc := s.pwr.rtc + mainFrame s } = .band)
          ∧ t.lea.byp = (s.lea.byp && nRepeater s)))
    ∧ (s.pwr.entry = .quiet .s4 → s.pwr.sys = .s0 →
        Does .s3EntryComplete s (fun t => t.pwr.sys = .s3 ∧ t.pwr.prev = .s0 ∧ t.pwr.entry = .dormant))
    ∧ ((∀ x ∈ [PwrSt.s0, .s1, .s2, .s3, .s4], s.pwr.entry ≠ .quiet x) → Does .s3EntryComplete s (fun t => t = s))
    ∧ (s.pwr.entry = .dormant → (jSettled 8 s).isSome = true →
        Does .s4Entry s (fun t => t.pwr.sys = .s4 ∧ t.pwr.entry = .none ∧ t.pwr.aonClock = 128 * ((jSettled 8 s).map (·.lt)).getD 0 ∧ t.pwr.safeOn = false
          ∧ t.pwr.appOn = false ∧ t.pwr.netOn = false ∧ t.pwr.vehOn = false ∧ t.pwr.fieldOn = false ∧ t.pwr.dramOn = false
          ∧ t.tmp.running = false ∧ (∀ x : Fin 4, (sOut t x).act = false) ∧ t.fram = s.fram ∧ vio33Out t = 0
          ∧ (∀ a, landGroup a ∈ [LandGroup.v, .m, .can, .sg, .yl, .sio, .mx, .lch, .ua, .qspi] → landHiZ t a = true ∧ landPull t a = resetPull a)))
    ∧ (s.pwr.entry ≠ .dormant ∨ (jSettled 8 s).isSome = false → Does .s4Entry s (fun t => t = s))

/-- Waking. A source that is enabled, or always acts, and acts in the state the module is in or enters, wakes it: from S1 to S0, from S2 and
S3 with the first source and the legal time recorded, from S4 by a reset with the RTC's time, and it aborts an entry into S2, S3 or S4
with ABORT (R465, R468 to R471, R474, R477); a further one joins the wake in SEEN. The ready signals bring the domains back in the order
of R472, with one repetition and WAKEFAIL; the resume reaches S0 at the level of R481, or resets on a failed retention check, and the
wake ends once every domain is back (R472, R473). Else these events change nothing. -/
def Obligations.WakeCommands : Prop :=
  ∀ s : State, s.pwr.boot = .running → s.pwr.aonOn = true →
    let own := fun (k : Nat) => if k ∈ [8, 13, 14] then [PwrSt.s2] else if k ∈ [9, 10, 11] then [.s2, .s3] else if k = 12 then [.s4] else [.s1]
    let acts := fun (k : Nat) => if k ∈ [0, 1, 2, 3, 4, 6, 7] then [PwrSt.s2, .s3, .s4] else if k = 5 then [.s3, .s4] else own k
    let nic := rbit s F.SYS_NMICAUSE_CLKSW || rbit s F.SYS_NMICAUSE_CLKRET
    let can := (List.range 4).any (fun c => !(canCtl s c).rx.isEmpty)
    let rx := fun (k : Nat) => if k = 12 then s.pwr.pfwFinal else if k = 13 then s.net.queue.any (fun f => f.port == 2) else if k = 14 then can else true
    let seen := fun (k : Nat) => if k = 9 then !s.saf.evq.isEmpty else if k = 10 then !s.bil.evq.isEmpty else if k = 11 then nic else rx k
    let bit := fun (k : Nat) => (rget s F.PWR_WAKEEN_EN).testBit k
    let fires := fun (k : Nat) => seen k && (bit k || k == 11 || k == 12 || k == 15) && (!s.pwr.pfwFinal || k == 12)
    (s.pwr.sys = .s1 → s.pwr.entry = .none → s.pwr.pfwFinal = false →
        Does (.wake 15) s (fun t => t.pwr.sys = .s0 ∧ t.pwr.prev = .s1 ∧ t.pwr.entry = .none ∧ rget t F.PWR_WAKESRC_FIRST = 15
          ∧ rget t F.PWR_WAKESRC_TSRC = 0 ∧ rget t F.PWR_FLAGS_WAKE = 1))
    ∧ (∀ k : Fin 16, s.pwr.sys = .s2 ∨ s.pwr.sys = .s3 → s.pwr.entry = .none → fires k = true → s.pwr.sys ∈ acts k →
        Does (.wake k) s (fun t => t.pwr.entry = .waking ∧ t.pwr.wakeStep = 0 ∧ t.pwr.resumed = false ∧ rget t F.PWR_WAKESRC_FIRST = k
          ∧ rget t F.PWR_WAKESRC_SEEN = 2 ^ k.val ∧ rget t F.PWR_WAKESRC_TSRC = 0
          ∧ rget t F.PWR_WAKETIMELO_TIME = s.bil.legal % 4294967296 ∧ rget t F.PWR_WAKETIMEHI_TIME = s.bil.legal / 4294967296 % 4294967296))
    ∧ (∀ k : Fin 16, s.pwr.sys = .s4 → s.pwr.entry = .none → fires k = true → .s4 ∈ acts k →
        Does (.wake k) s (fun t => t.pwr.boot = .stretch ∧ rget t F.RST_CAUSE_PRIMARY = 8 ∧ rget t F.PWR_WAKESRC_FIRST = k
          ∧ rget t F.PWR_WAKESRC_SEEN = 2 ^ k.val ∧ rget t F.PWR_WAKESRC_TSRC = 1 ∧ rget t F.PWR_WAKETIMELO_TIME = s.pwr.rtc % 4294967296
          ∧ t.pwr.pfw = false ∧ t.pwr.resid = s.pwr.resid ∧ t.lea.addr = s.lea.addr))
    ∧ (∀ k : Fin 16, s.pwr.sys = .s0 → s.pwr.entry = .idle .s2 → fires k = true → .s2 ∈ acts k →
        Does (.wake k) s (fun t => t.pwr.sys = .s0 ∧ t.pwr.entry = .none ∧ rget t F.PWR_STATE_REFUSE = 8 ∧ rget t F.PWR_FLAGS_ABORT = 1
          ∧ rget t F.PWR_WAKESRC_FIRST = k))
    ∧ (∀ k : Fin 16, s.pwr.entry = .quiet .s3 ∨ s.pwr.entry = .quiet .s4 ∨ s.pwr.entry = .dormant → fires k = true → .s3 ∈ acts k →
        Does (.wake k) s (fun t => t.pwr.entry = .waking ∧ t.pwr.wakeStep = 0 ∧ rget t F.PWR_STATE_REFUSE = 8 ∧ rget t F.PWR_FLAGS_ABORT = 1
          ∧ rget t F.PWR_WAKESRC_FIRST = k))
    ∧ (∀ k : Fin 16, s.pwr.entry = .waking → seen k = true → bit k = true ∨ k = 11 ∨ k = 15 →
        Does (.wake k) s (fun t => t.pwr = s.pwr ∧ (rget t F.PWR_WAKESRC_SEEN).testBit k = true
          ∧ rget t F.PWR_WAKESRC_FIRST = rget s F.PWR_WAKESRC_FIRST))
    ∧ (∀ k : Fin 16, s.pwr.entry ≠ .waking → fires k = false → Does (.wake k) s (fun t => t = s))
    ∧ (∀ k : Fin 16, s.pwr.entry = .none ∨ s.pwr.entry = .consent .s3 ∨ s.pwr.entry = .consent .s4 → s.pwr.sys ∉ acts k →
        Does (.wake k) s (fun t => t = s))
    ∧ (s.pwr.entry = .idle .s1 → Does (.wake 15) s (fun t => t = s))
    ∧ (∀ g : Fin 4, s.pwr.entry = .waking → wakeNext s s.pwr.wakeStep = 4 * g.val ∨ wakeNext s s.pwr.wakeStep = 4 * g.val + 1
          ∨ wakeNext s s.pwr.wakeStep = 4 * g.val + 2 →
        Does .wakeStepReady s (fun t => t.pwr = { s.pwr with wakeStep := wakeNext s s.pwr.wakeStep + 1, wakeRetry := false } ∧ t.mem = s.mem))
    ∧ (s.pwr.entry = .waking → s.pwr.wakeStep = 3 →
        Does .wakeStepReady s (fun t => t.pwr.dramOn = true ∧ t.mem = s.mem))
    ∧ (s.pwr.entry = .waking → s.pwr.wakeStep = 7 →
        Does .wakeStepReady s (fun t => t.pwr.netOn = true ∧ t.pwr.vehOn = true ∧ t.lea.addr = s.lea.addr ∧ t.veh.can = VehState.reset.can))
    ∧ (s.pwr.entry = .waking → s.pwr.wakeStep = 11 → Does .wakeStepReady s (fun t => t.pwr.appOn = true))
    ∧ (s.pwr.entry = .waking → s.pwr.wakeStep = 15 →
        Does .wakeStepReady s (fun t => t.pwr.fieldOn = true ∧ (s.pwr.resumed = true → t.pwr.entry = .none ∧ rget t F.PWR_FLAGS_WAKE = 1)
          ∧ (s.pwr.resumed = false → t.pwr.entry = .waking)))
    ∧ (s.pwr.entry ≠ .waking ∨ wakeNext s s.pwr.wakeStep = 16 → Does .wakeStepReady s (fun t => t = s) ∧ Does .wakeStepTimeout s (fun t => t = s))
    ∧ (s.pwr.entry = .waking → wakeNext s s.pwr.wakeStep < 16 → s.pwr.wakeRetry = false →
        Does .wakeStepTimeout s (fun t => t = { s with pwr.wakeRetry := true }))
    ∧ (s.pwr.entry = .waking → wakeNext s s.pwr.wakeStep < 16 → s.pwr.wakeRetry = true →
        Does .wakeStepTimeout s (fun t => t.pwr.boot = .stretch ∧ rget t F.RST_CAUSE_PRIMARY = 2))
    ∧ (s.pwr.entry = .waking → s.pwr.appOn = true → s.pwr.resumed = false →
        Does (.resume true) s (fun t => t.pwr.sys = .s0 ∧ t.pwr.resumed = true ∧ t.pwr.wdAt = s.pwr.rtc ∧ t.lea.byp = true
          ∧ t.key.meas = s.key.meas ∧ rget t F.SYS_SEAL_SEAL = rget s F.SYS_SEAL_SEAL ∧ t.mem = s.mem ∧ rget t F.PWR_PLEVEL_ACT = plevelWant s % 4
          ∧ rget t F.LCD_STATUS_BAND = 0 ∧ (rbit s F.LCD_STATUS_BAND = true → t.lcd.midTo = s.pwr.rtc + 1024 ∧ lcdDrive t ≠ .main)
          ∧ (wakeNext s s.pwr.wakeStep = 16 → t.pwr.entry = .none ∧ rget t F.PWR_FLAGS_WAKE = 1)
          ∧ (wakeNext s s.pwr.wakeStep < 16 → t.pwr.entry = .waking)))
    ∧ (s.pwr.entry = .waking → s.pwr.appOn = true → s.pwr.resumed = false →
        Does (.resume false) s (fun t => t.pwr.boot = .stretch ∧ rget t F.RST_CAUSE_PRIMARY = 2))
    ∧ (∀ crcOk, s.pwr.entry ≠ .waking ∨ s.pwr.appOn = false ∨ s.pwr.resumed = true → Does (.resume crcOk) s (fun t => t = s))

/-- The power-fail path: PFW with its NMI, P3, and the field off, which ends an exchange; its end before FINAL, which leaves outlets as they
are; the shutdown on the FINAL commit, with every output safe and the bypass open; and the loss of AON, which keeps FRAM, fuses and flash
(R304, R475, R476, R478); RESCLR (R480). Where they do not apply these events change nothing. -/
def Obligations.PowerFailCommands : Prop :=
  ∀ s : State,
    (∀ mv, mv < 10000 → s.pwr.pfw = false → s.pwr.sys ≠ .s4 → s.pwr.aonOn = true →
        Does (.pfw mv) s (fun t => t.pwr.pfw = true ∧ t.pwr.pfwAt = s.tmp.now ∧ rget t F.SYS_NMICAUSE_PFW = 1
          ∧ t.pwr.nmi = (if coresRun s = true ∧ rget s F.SYS_NMICAUSE_PFW = 0 then s.pwr.nmi + 1 else s.pwr.nmi)
          ∧ (hfrOn s = true → s.hfr.field = true → t.hfr.field = false ∧ t.hfr.st = .off ∧ t.hfr.cmd = none ∧ rget t F.HFR_FLAGS_FIELDLOST = 1)
          ∧ (s.pwr.appOn = true → s.pwr.sys = .s0 → rget s F.PWR_PLEVEL_CHANGING = 0 → rget s F.PWR_PLEVEL_ACT ≠ 3 →
              rget t F.PWR_PLEVEL_CHANGING = 1 ∧ t.pwr.plTo = 3)
          ∧ (∀ p : Fin 4, s.pwr.vehOn = false → (outletOfV s p).isSome = true → (vport t p).drive = drive0V)))
    ∧ (∀ mv, 10000 ≤ mv ∨ s.pwr.pfw = true ∨ s.pwr.sys = .s4 ∨ s.pwr.aonOn = false → Does (.pfw mv) s (fun t => t = s))
    ∧ (∀ mv us, 10500 < mv → 1000 ≤ us → s.pwr.pfw = true → s.pwr.pfwFinal = false →
        Does (.pfwClear mv us) s (fun t => t.pwr.pfw = false ∧ rget t F.PWR_FLAGS_PFWCLR = 1 ∧ (∀ n : Fin 4, outlet t n = outlet s n)
          ∧ (∀ p : Fin 4, s.pwr.vehOn = false → (outletOfV s p).isSome = true → (vport t p).drive = 1000)))
    ∧ (∀ mv us, mv ≤ 10500 ∨ us < 1000 ∨ s.pwr.pfw = false ∨ s.pwr.pfwFinal = true → Does (.pfwClear mv us) s (fun t => t = s))
    ∧ (s.pwr.pfwFinal = true → s.pwr.safeOn = true → (jSettled 7 s).isSome = true →
        Does .powerFailShutdown s (fun t => t.pwr.sys = .s4 ∧ t.lea.byp = false ∧ t.pwr.safeOn = false ∧ t.pwr.dramOn = false
          ∧ t.pwr.appOn = false ∧ t.pwr.netOn = false ∧ t.pwr.vehOn = false ∧ t.pwr.fieldOn = false ∧ t.tmp.running = false
          ∧ (∀ x : Fin 4, (sOut t x).act = false)))
    ∧ (s.pwr.pfwFinal = false ∨ s.pwr.safeOn = false ∨ (jSettled 7 s).isSome = false → Does .powerFailShutdown s (fun t => t = s))
    ∧ (s.pwr.pfw = true → Does .aonLoss s (fun t => t.pwr.aonOn = false ∧ t.pwr.sys = .s4 ∧ t.pwr.safeOn = false ∧ t.pwr.appOn = false
          ∧ t.pwr.resid = Vector.replicate 9 0 ∧ t.fram = s.fram ∧ t.fuse = s.fuse ∧ t.flash = s.flash))
    ∧ (s.pwr.pfw = false → Does .aonLoss s (fun t => t = s))
    ∧ Does .residencyClear s (fun t => t = { s with pwr.resid := Vector.replicate 9 0 })

/-- Performance levels: the level wanted is the highest of request, order cap and governor cap, or P3 in the power-fail path, LIMIT names the
term that binds, and a change completes before the next (R476, R481, R482); the voltage loop every 1 ms within ±10 steps, with LIM at the top until
the margin is back at 8 steps or fewer (R483); the governor by temperature every 10 ms (R484). Without the cluster, or SAFE, the loop and the governor
change nothing. -/
def Obligations.PerformanceCommands : Prop :=
  ∀ s : State,
    let gov := min 3 (s.pwr.govCap + b2n s.pwr.avsLow)
    let cap := max (rget s F.SYS_OPT_ORDER) gov
    let want := if s.pwr.pfw then 3 else max (rget s F.PWR_PLEVEL_REQ) cap
    (∀ req : BitVec 2, let w := max req.toNat cap
        let to' := if s.pwr.pfw then 3 else w
        Does (.plevelRequest req) s (fun t => rget t F.PWR_PLEVEL_REQ = req.toNat ∧ rget t F.PWR_PLEVEL_GOVCAP = gov
          ∧ rget t F.PWR_PLEVEL_LIMIT = (if req.toNat = w then 0 else if rget s F.SYS_OPT_ORDER = w then 1 else if s.pwr.govCap = w then 2 else 3)
          ∧ rget t F.PWR_PLEVEL_ACT = rget s F.PWR_PLEVEL_ACT
          ∧ (s.pwr.appOn = true → rget s F.PWR_PLEVEL_CHANGING = 0 → rget s F.PWR_PLEVEL_ACT ≠ to' →
              rget t F.PWR_PLEVEL_CHANGING = 1 ∧ t.pwr.plTo = to')
          ∧ (s.pwr.appOn = false ∨ rbit s F.PWR_PLEVEL_CHANGING = true ∨ rget s F.PWR_PLEVEL_ACT = to' →
              rget t F.PWR_PLEVEL_CHANGING = rget s F.PWR_PLEVEL_CHANGING ∧ t.pwr.plTo = s.pwr.plTo)))
    ∧ (rbit s F.PWR_PLEVEL_CHANGING = true → s.pwr.plTo < 4 →
        Does .plevelChangeComplete s (fun t => rget t F.PWR_PLEVEL_ACT = s.pwr.plTo
          ∧ rget t F.PWR_AVS_TRIM = ofSigned 8 (Tab.get 0 s.pwr.avsTrim s.pwr.plTo)
          ∧ (want = s.pwr.plTo ∨ s.pwr.appOn = false → rget t F.PWR_PLEVEL_CHANGING = 0)
          ∧ (want ≠ s.pwr.plTo → s.pwr.appOn = true → rget t F.PWR_PLEVEL_CHANGING = 1 ∧ t.pwr.plTo = want)))
    ∧ (rbit s F.PWR_PLEVEL_CHANGING = false → Does .plevelChangeComplete s (fun t => t = s))
    ∧ (∀ (trim : Int) low, appOn s = true → rget s F.PWR_PLEVEL_CHANGING = 0 → (∀ k ∈ s.pwr.avsAt.toList, k + 20 ≤ s.tmp.now) →
        rget s F.PWR_PLEVEL_ACT < 4 →
        Does (.avsUpdate trim low) s (fun t => Tab.get 0 t.pwr.avsTrim (rget s F.PWR_PLEVEL_ACT) = clampI (-10) 10 trim
          ∧ t.pwr.avsAt = some s.tmp.now
          ∧ rget t F.PWR_AVS_TRIM = ofSigned 8 (clampI (-10) 10 trim)
          ∧ (10 ≤ trim → low = true → t.pwr.avsLow = true ∧ rget t F.PWR_AVS_LIM = 1 ∧ (rbit s F.PWR_AVS_LIM = false → rget t F.PWR_FLAGS_AVSLIM = 1)
              ∧ rget t F.PWR_PLEVEL_GOVCAP = min 3 (s.pwr.govCap + 1))
          ∧ (trim ≤ 8 → t.pwr.avsLow = false ∧ rget t F.PWR_AVS_LIM = 0 ∧ rget t F.PWR_PLEVEL_GOVCAP = min 3 s.pwr.govCap)
          ∧ (trim = 9 ∨ 10 ≤ trim ∧ low = false → t.pwr.avsLow = s.pwr.avsLow ∧ rget t F.PWR_AVS_LIM = rget s F.PWR_AVS_LIM)))
    ∧ (∀ (trim : Int) low, appOn s = false ∨ rget s F.PWR_PLEVEL_CHANGING ≠ 0 ∨ (∃ k ∈ s.pwr.avsAt.toList, s.tmp.now < k + 20) → Does (.avsUpdate trim low) s (fun t => t = s))
    ∧ (s.pwr.safeOn = true → (∀ k ∈ s.pwr.govAt.toList, k + 200 ≤ s.tmp.now) → let c := (Tab.get Stream.reset s.strm 56).val
        let cool := if c < 10500 then s.pwr.govCool + 1 else 0
        Does .governorTick s (fun t => t.pwr.govLast = c ∧ t.pwr.govAt = some s.tmp.now ∧ rget t F.PWR_PLEVEL_GOVCAP = min 3 (t.pwr.govCap + b2n s.pwr.avsLow)
          ∧ (12000 ≤ c → s.pwr.govCap < 3 ∨ s.pwr.govLast < 12000 → t.pwr.govCap = 3 ∧ rget t F.PWR_FLAGS_GOVP3 = 1)
          ∧ (12000 ≤ c → s.pwr.govCap = 3 → t.pwr.govCap = 3)
          ∧ (11000 ≤ c → c < 12000 → s.pwr.govLast < c → s.pwr.govCap < 3 → t.pwr.govCap = s.pwr.govCap + 1
            ∧ rget t F.PWR_FLAGS_GOVSTEP = 1)
          ∧ (11000 ≤ c → c < 12000 → s.pwr.govLast < c → s.pwr.govCap = 3 → t.pwr.govCap = 3)
          ∧ (c < 12000 → c < 11000 ∨ c ≤ s.pwr.govLast → 100 ≤ cool → t.pwr.govCap = s.pwr.govCap - 1 ∧ t.pwr.govCool = 0)
          ∧ (c < 12000 → c < 11000 ∨ c ≤ s.pwr.govLast → cool < 100 → t.pwr.govCap = s.pwr.govCap ∧ t.pwr.govCool = cool)))
    ∧ (s.pwr.safeOn = false ∨ (∃ k ∈ s.pwr.govAt.toList, s.tmp.now < k + 200) → Does .governorTick s (fun t => t = s))

/-- The reference and its monitors. A write of CLK_REFSEL moves a module that follows the string to HOLDOVER on XO, and starts a switch to
XO or back to REC (R486); a switch completes with SWDONE (R487). A source declared dead sets its flag; the one in use is left for REC or XO
where one serves, and else the clock has failed: to IRC ÷ 4 in SWITCH mode, to the stop of HOLD mode with outputs off and pilots at +12 V
(R487 to R491); the network ports go down with XO, and a dead REC ends in HOLDOVER. A source valid for 10 ms counts again (R488); the
return from IRC takes 1 s of XO (R490); from HOLD the clock returns on XO or REC, chain time moves on by the held ticks, and HOLDCLR then
clears HOLD (R492). Out of their conditions these commands change nothing. -/
def Obligations.ClockCommands : Prop :=
  ∀ s : State,
    let act := rget s F.CLK_REFSEL_ACT
    let follows := !isCoord s && (s.tmp.mode == .locked || s.tmp.mode == .slew)
    (∀ sel, Does (.refselWrite sel) s (fun t => rbit t F.CLK_REFSEL_SEL = sel
          ∧ (sel = true → follows = true → t.tmp.mode = .holdover ∧ rget t F.TMP_FLAGS_SYNCLOSS = 1)
          ∧ (sel = true → act = 0 → rget t F.CLK_REFSEL_BUSY = 1 ∧ t.pwr.clkTo = 1)
          ∧ (sel = false → isCoord s = false → rbit s F.CLK_STATUS_RECOK = true → act = 1 → s.tmp.mode = .free →
              rget t F.CLK_REFSEL_BUSY = 1 ∧ t.pwr.clkTo = 0)
          ∧ (sel = true → follows = false → act ≠ 0 → t = rputB F.CLK_REFSEL_SEL sel s)
          ∧ (sel = false → isCoord s = true ∨ rbit s F.CLK_STATUS_RECOK = false ∨ act ≠ 1 ∨ s.tmp.mode ≠ .free → t = rputB F.CLK_REFSEL_SEL sel s)))
    ∧ (rbit s F.CLK_REFSEL_BUSY = true → s.pwr.clkTo < 4 →
        Does .refSwitchDone s (fun t => rget t F.CLK_REFSEL_ACT = s.pwr.clkTo ∧ rget t F.CLK_REFSEL_BUSY = 0 ∧ rget t F.CLK_FLAGS_SWDONE = 1))
    ∧ (rbit s F.CLK_REFSEL_BUSY = false → Does .refSwitchDone s (fun t => t = s))
    ∧ (∀ err, xoOk s = true → recUsable s = false → act = 1 ∨ act = 0 → rbit s F.CLK_FAILMODE_MODE = false →
        Does (.xoDead err) s (fun t => rget t F.CLK_STATUS_XOOK = 0 ∧ rget t F.CLK_FLAGS_XODEAD = 1 ∧ rget t F.CLK_MONXO_ERR = ofSigned 32 err
          ∧ rget t F.CLK_REFSEL_ACT = 2 ∧ rget t F.CLK_REFSEL_BUSY = 0
          ∧ rget t F.CLK_STATUS_ONIRC = 1 ∧ rget t F.SYS_NMICAUSE_CLKSW = 1 ∧ rget t F.CLK_FLAGS_FORCED = 1 ∧ t.mtr.irc = true
          ∧ (∀ p : Fin 2, rbit s (F.NET_PSTAT_LINK p) = true → rget t (F.NET_PSTAT_LINK p) = 0 ∧ rget t F.NET_FLAGS_LINKCHG = 1)))
    ∧ (∀ err, xoOk s = true → recUsable s = false → act = 1 ∨ act = 0 → rbit s F.CLK_FAILMODE_MODE = true →
        Does (.xoDead err) s (fun t => rget t F.CLK_STATUS_XOOK = 0 ∧ rget t F.CLK_FLAGS_XODEAD = 1 ∧ t.saf.hold = true
          ∧ rget t F.CLK_STATUS_HOLD = 1 ∧ rget t F.CLK_STATUS_MAINLOCK = 0 ∧ rget t F.CLK_REFSEL_ACT = 3 ∧ rget t F.CLK_FLAGS_HOLDIN = 1
          ∧ t.tmp.running = false ∧ t.pwr.holdAt = s.pwr.rtc ∧ t.pwr.clkRet = false
          ∧ (∀ x : Fin 4, (sOut t x).act = false) ∧ (∀ n : Fin 4, (outlet t n).duty = 1000 ∧ (vport t n).drive = 1000)
          ∧ (∀ c : Fin 64, (coil t c).cmd = false ∧ (coil t c).drive = false)))
    ∧ (∀ err, xoOk s = true → recUsable s = true → act = 1 →
        Does (.xoDead err) s (fun t => rget t F.CLK_STATUS_XOOK = 0 ∧ rget t F.CLK_FLAGS_XODEAD = 1 ∧ rget t F.CLK_REFSEL_ACT = 0
          ∧ rget t F.CLK_FLAGS_FORCED = 1 ∧ t.saf.hold = s.saf.hold ∧ rget t F.CLK_STATUS_ONIRC = rget s F.CLK_STATUS_ONIRC))
    ∧ (∀ err, xoOk s = true → act = 0 → recUsable s = true →
        Does (.xoDead err) s (fun t => rget t F.CLK_STATUS_XOOK = 0 ∧ rget t F.CLK_FLAGS_XODEAD = 1 ∧ rget t F.CLK_REFSEL_ACT = 0
          ∧ rget t F.CLK_FLAGS_FORCED = rget s F.CLK_FLAGS_FORCED ∧ t.saf.hold = s.saf.hold))
    ∧ (∀ err, xoOk s = false → Does (.xoDead err) s (fun t => t = s))
    ∧ (∀ err, rbit s F.CLK_STATUS_RECOK = true → act = 0 → xoOk s = true →
        Does (.recDead err) s (fun t => rget t F.CLK_STATUS_RECOK = 0 ∧ rget t F.CLK_FLAGS_RECDEAD = 1 ∧ rget t F.CLK_MONREC_ERR = ofSigned 32 err
          ∧ rget t F.CLK_REFSEL_ACT = 1 ∧ rget t F.CLK_FLAGS_FORCED = 1 ∧ t.saf.hold = s.saf.hold
          ∧ (s.tmp.mode = .locked ∨ s.tmp.mode = .slew → t.tmp.mode = .holdover ∧ rget t F.TMP_FLAGS_SYNCLOSS = 1)
          ∧ (s.tmp.mode ≠ .locked → s.tmp.mode ≠ .slew → t.tmp = s.tmp)))
    ∧ (∀ err, rbit s F.CLK_STATUS_RECOK = true → act ≠ 0 →
        Does (.recDead err) s (fun t => rget t F.CLK_STATUS_RECOK = 0 ∧ rget t F.CLK_FLAGS_RECDEAD = 1 ∧ rget t F.CLK_REFSEL_ACT = act
          ∧ t.saf.hold = s.saf.hold))
    ∧ (∀ err, rbit s F.CLK_STATUS_RECOK = true → act = 0 → xoOk s = false →
        Does (.recDead err) s (fun t => rget t F.CLK_STATUS_RECOK = 0 ∧ rget t F.CLK_FLAGS_RECDEAD = 1
          ∧ (rbit s F.CLK_FAILMODE_MODE = false → rget t F.CLK_REFSEL_ACT = 2 ∧ rget t F.CLK_STATUS_ONIRC = 1 ∧ rget t F.SYS_NMICAUSE_CLKSW = 1)
          ∧ (rbit s F.CLK_FAILMODE_MODE = true → t.saf.hold = true ∧ rget t F.CLK_STATUS_HOLD = 1 ∧ t.tmp.running = false)))
    ∧ (∀ err, rbit s F.CLK_STATUS_RECOK = false → Does (.recDead err) s (fun t => t = s))
    ∧ (∀ ppm : Int, 500 < ppm.natAbs → Does (.rtcError ppm) s (fun t => rget t F.CLK_STATUS_RTCOK = 0 ∧ rget t F.CLK_FLAGS_RTCERR = 1
          ∧ rget t F.CLK_MONRTC_ERR = ofSigned 32 ppm))
    ∧ (∀ ppm : Int, ppm.natAbs ≤ 500 → Does (.rtcError ppm) s (fun t => rget t F.CLK_STATUS_RTCOK = rget s F.CLK_STATUS_RTCOK
          ∧ rget t F.CLK_FLAGS_RTCERR = rget s F.CLK_FLAGS_RTCERR ∧ rget t F.CLK_MONRTC_ERR = ofSigned 32 ppm))
    ∧ (∀ err ms, 10 ≤ ms → Does (.clockSourceValid .xo err ms) s (fun t => rget t F.CLK_STATUS_XOOK = 1 ∧ t.pwr.xoAt = (if xoOk s then s.pwr.xoAt else s.pwr.rtc)
          ∧ rget t F.CLK_MONXO_ERR = ofSigned 32 err ∧ rget t F.CLK_REFSEL_ACT = act))
    ∧ (∀ err ms, 10 ≤ ms → Does (.clockSourceValid .lu err ms) s (fun t => rget t F.CLK_STATUS_RECOK = 1
          ∧ rget t F.CLK_MONREC_ERR = ofSigned 32 err
          ∧ (isCoord s = false → rbit s F.CLK_REFSEL_SEL = false → act = 1 → s.tmp.mode ≠ .holdover →
              rget t F.CLK_REFSEL_BUSY = 1 ∧ t.pwr.clkTo = 0)
          ∧ (isCoord s = true ∨ rbit s F.CLK_REFSEL_SEL = true ∨ act ≠ 1 ∨ s.tmp.mode = .holdover →
              rget t F.CLK_REFSEL_BUSY = rget s F.CLK_REFSEL_BUSY ∧ t.pwr = s.pwr)))
    ∧ (∀ err ms, 10 ≤ ms → Does (.clockSourceValid .rtc err ms) s (fun t => rget t F.CLK_STATUS_RTCOK = 1
          ∧ rget t F.CLK_MONRTC_ERR = ofSigned 32 err ∧ t.pwr = s.pwr))
    ∧ (∀ src err ms, ms < 10 → Does (.clockSourceValid src err ms) s (fun t => t = s))
    ∧ (act = 2 → xoOk s = true → s.pwr.xoAt + 32768 ≤ s.pwr.rtc →
        Does .refBackFromIrc s (fun t => rget t F.CLK_REFSEL_ACT = 1 ∧ rget t F.CLK_STATUS_ONIRC = 0 ∧ rget t F.CLK_FLAGS_REFBACK = 1
          ∧ rget t F.CLK_FLAGS_SWDONE = 1))
    ∧ (act ≠ 2 ∨ xoOk s = false ∨ s.pwr.rtc < s.pwr.xoAt + 32768 → Does .refBackFromIrc s (fun t => t = s))
    ∧ (s.saf.hold = true → s.pwr.clkRet = false → xoOk s = true ∨ recUsable s = true →
        let held := ((s.pwr.rtc - s.pwr.holdAt) * 1000000000 + 16384) / 32768
        Does .clockReturn s (fun t => t.pwr.clkRet = true ∧ rget t F.CLK_REFSEL_ACT = (if xoOk s then 1 else 0)
          ∧ rget t F.CLK_STATUS_MAINLOCK = 1 ∧ rget t F.CLK_STATUS_HOLD = 0 ∧ rget t F.SYS_NMICAUSE_CLKRET = 1 ∧ rget t F.CLK_FLAGS_HOLDOUT = 1
          ∧ rget t F.TMP_FLAGS_STEP = 1 ∧ t.tmp.chain = s.tmp.chain + held ∧ t.saf.hold = true
          ∧ (∀ n : Fin 4, s.pwr.holdClosed.testBit n = true → (outlet t n).st = .faulted
              ∧ ((outlet s n).cause = 0 ∨ (outlet s n).causeOld = true → (outlet t n).cause = 0x13))))
    ∧ (s.saf.hold = false ∨ s.pwr.clkRet = true ∨ (xoOk s = false ∧ recUsable s = false) → Does .clockReturn s (fun t => t = s))
    ∧ (s.saf.hold = true → s.pwr.clkRet = true → Does .holdClear s (fun t => t = { s with saf.hold := false, pwr.clkRet := false }))
    ∧ (s.saf.hold = false ∨ s.pwr.clkRet = false → Does .holdClear s (fun t => t = s))

/-- Resets and the watchdog: each cause with RST_CAUSE and what it does to RST_FAILCNT and AON (R494, R497, R499), the pin with its filter (R495),
the software reset with its key, the boot timer (R498), and the application watchdog, which starts once, is restarted by its key, warns at
half its timeout and resets at its end, and rests in S2 and S3 (R500). After a power-on or software reset every land has DEFAULT, 8 mA and
its reset pull (R520). -/
def Obligations.ResetCommands : Prop :=
  ∀ s : State, s.pwr.boot = .running → s.pwr.aonOn = true →
    let fails := if s.pwr.bootOk = true then s.pwr.failCnt else min 15 (s.pwr.failCnt + 1)
    let runs := appOn s && rbit s F.RST_WDOG_EN && s.pwr.sys != .s2 && s.pwr.sys != .s3
    let limit := 32768 * max 10 (rget s F.RST_WDOG_TIMEOUT)
    let count := 1000 * (s.pwr.rtc - s.pwr.wdAt)
    (Does .powerOnReset s (fun t => t.pwr.boot = .stretch ∧ rget t F.RST_CAUSE_SEEN = 1 ∧ rget t F.RST_CAUSE_PRIMARY = 0 ∧ t.pwr.failCnt = 0
          ∧ t.pwr.rtc = 0 ∧ t.pwr.resid = Vector.replicate 9 0 ∧ t.lea.addr = State.reset.lea.addr ∧ t.saf.held = false
          ∧ t.fram = s.fram ∧ t.fuse = s.fuse ∧ t.flash = s.flash
          ∧ ∀ a, landFunc t a = 0 ∧ landDrive t a = 8 ∧ landPull t a = resetPull a))
    ∧ (∀ ns, 1000 ≤ ns → s.pwr.pinLow = false →
        Does (.resetPin true ns) s (fun t => t.pwr.boot = .stretch ∧ rget t F.RST_CAUSE_PRIMARY = 1 ∧ rget t F.RST_CAUSE_SEEN = 2
          ∧ t.pwr.pinLow = true ∧ t.pwr.rtc = s.pwr.rtc ∧ t.saf.held = s.saf.held ∧ t.lea.addr = s.lea.addr ∧ t.pwr.resid = s.pwr.resid
          ∧ t.saf.hold = s.saf.hold ∧ t.fram = s.fram ∧ t.pwr.failCnt = fails))
    ∧ (∀ low ns, 1000 ≤ ns → low = false ∨ s.pwr.pinLow = true → Does (.resetPin low ns) s (fun t => t = { s with pwr.pinLow := low }))
    ∧ (∀ low ns, ns < 1000 → Does (.resetPin low ns) s (fun t => t = s))
    ∧ (s.pwr.sys ≠ .s4 → Does (.softwareReset 0xA5) s (fun t => t.pwr.boot = .stretch ∧ rget t F.RST_CAUSE_SEEN = 32
          ∧ rget t F.RST_CAUSE_PRIMARY = 5 ∧ t.fram = s.fram ∧ t.lea.addr = s.lea.addr ∧ rget t F.SYS_SEAL_SEAL = 0 ∧ t.pwr.failCnt = fails
          ∧ ∀ a, landFunc t a = 0 ∧ landDrive t a = 8 ∧ landPull t a = resetPull a))
    ∧ (∀ key, key ≠ 0xA5 ∨ s.pwr.sys = .s4 → Does (.softwareReset key) s (fun t => t = s))
    ∧ (s.pwr.bootOn = true → s.pwr.bootAt + 327680 ≤ s.pwr.rtc →
        Does .bootTimeout s (fun t => t.pwr.boot = .stretch ∧ rget t F.RST_CAUSE_PRIMARY = 4 ∧ rget t F.RST_CAUSE_SEEN = 16 ∧ t.pwr.failCnt = fails))
    ∧ (s.pwr.bootOn = false ∨ s.pwr.rtc < s.pwr.bootAt + 327680 → Does .bootTimeout s (fun t => t = s))
    ∧ (∀ timeout : BitVec 16, s.pwr.appOn = true → rbit s F.RST_WDOG_EN = false →
        Does (.wdogEnable timeout) s (fun t => rget t F.RST_WDOG_EN = 1 ∧ rget t F.RST_WDOG_TIMEOUT = timeout.toNat ∧ t.pwr.wdAt = s.pwr.rtc
          ∧ t.pwr.wdWarned = false))
    ∧ (∀ timeout : BitVec 16, s.pwr.appOn = false ∨ rbit s F.RST_WDOG_EN = true → Does (.wdogEnable timeout) s (fun t => t = s))
    ∧ (s.pwr.appOn = true → rbit s F.RST_WDOG_EN = true →
        Does (.wdogKick 0xA5) s (fun t => t = { s with pwr.wdAt := s.pwr.rtc, pwr.wdWarned := false }))
    ∧ (∀ key, key ≠ 0xA5 ∨ s.pwr.appOn = false ∨ rbit s F.RST_WDOG_EN = false → Does (.wdogKick key) s (fun t => t = s))
    ∧ (runs = true → s.pwr.wdWarned = false → limit ≤ 2 * count →
        Does .wdogWarn s (fun t => rget t F.RST_FLAGS_WDWARN = 1 ∧ t.pwr.wdWarned = true ∧ t.pwr.boot = .running))
    ∧ (runs = false ∨ s.pwr.wdWarned = true ∨ 2 * count < limit → Does .wdogWarn s (fun t => t = s))
    ∧ (runs = true → limit ≤ count →
        Does .watchdogExpiry s (fun t => t.pwr.boot = .stretch ∧ rget t F.RST_CAUSE_PRIMARY = 3 ∧ rget t F.RST_CAUSE_SEEN = 8 ∧ t.pwr.failCnt = fails))
    ∧ (runs = false ∨ count < limit → Does .watchdogExpiry s (fun t => t = s))

/-- The end of the stretch and the option bytes (R495, R496): the land high ends it and starts the boot timer with the clock sources running, in
HOLD without the main PLL; the loader sets SYS_OPT, the serial number and the threshold of failed starts before core 0 runs. A further
cause during the stretch or the read starts it again, with SEEN gathering the causes and the first of them in priority PRIMARY (R494, R496);
the pin is then ignored (R495). That a FAILTHR of 0 or 1 reads as 4 is the register table's. -/
def Obligations.StretchAndOptions : Prop :=
  ∀ s : State,
    (s.pwr.boot = .stretch → s.pwr.pinLow = false → s.pwr.aonOn = true →
        Does .resetStretchEnd s (fun t => t.pwr.boot = .optLoad ∧ t.pwr.bootOn = true ∧ t.pwr.bootAt = s.pwr.rtc
          ∧ rget t F.CLK_STATUS_IRCOK = 1 ∧ rget t F.CLK_STATUS_RTCOK = 1
          ∧ (s.saf.hold = false ∨ s.pwr.clkRet = true → rget t F.CLK_STATUS_XOOK = 1 ∧ rget t F.CLK_STATUS_MAINLOCK = 1)
          ∧ (s.saf.hold = true → s.pwr.clkRet = false → rget t F.CLK_STATUS_HOLD = 1 ∧ rget t F.CLK_REFSEL_ACT = 3)))
    ∧ (s.pwr.boot ≠ .stretch ∨ s.pwr.pinLow = true ∨ s.pwr.aonOn = false → Does .resetStretchEnd s (fun t => t = s))
    ∧ (s.pwr.boot = .optLoad → Does .optionByteLoad s (fun t => t.pwr.boot = .rom ∧ rget t F.SYS_OPT_ORDER = field s.fuse.opt 0 1
          ∧ rget t F.SYS_OPT_DBG = field s.fuse.opt 4 2 ∧ rget t F.SYS_SERIALLO_SERIAL = s.fuse.serial % 4294967296
          ∧ rget t F.SYS_SERIALHI_SERIAL = s.fuse.serial / 4294967296 % 4294967296
          ∧ rget t F.FWU_STATUS_DBGON = (if field s.fuse.opt 4 2 = 0 then 1 else 0)
          ∧ rget t F.SYS_OPT_FAILTHR = rget t F.RST_FAILCNT_THR
          ∧ rget t F.RST_FAILCNT_THR = (if field s.fuse.opt 1 3 ≤ 1 then 4 else field s.fuse.opt 1 3)))
    ∧ (s.pwr.boot ≠ .optLoad → Does .optionByteLoad s (fun t => t = s))
    ∧ (s.pwr.boot = .stretch ∨ s.pwr.boot = .optLoad → s.pwr.aonOn = true → s.pwr.sys ≠ .s4 →
        let low := fun (m : Nat) => ((List.range 9).find? (fun b => m.testBit b)).getD 0
        let seen := setBit (rget s F.RST_CAUSE_SEEN) 5 true % 512
        Does (.softwareReset 0xA5) s (fun t => t.pwr.boot = .stretch ∧ rget t F.RST_CAUSE_SEEN = seen
          ∧ rget t F.RST_CAUSE_PRIMARY = low seen ∧ t.pwr.failCnt = s.pwr.failCnt))
    ∧ (∀ ns, s.pwr.boot = .stretch → s.pwr.aonOn = true → 1000 ≤ ns →
        Does (.resetPin true ns) s (fun t => t = { s with pwr.pinLow := true }))

/-- A step takes the command at the front of the queue and executes it with the queue's rest; with an empty queue it is one tick of the
always-on clock (the model's own choice, log entry 5). -/
def Obligations.StepRunsFrontCommand : Prop :=
  ∀ s : State, (∀ c rest, s.pending = c :: rest → step s = exec c { s with pending := rest })
    ∧ (s.pending = [] → step s = .next (tick s))

/-- The machine right after its first reset: nothing waits or is stored, the seal is clear, no layout is loaded, and every coil, safety output,
load channel and the HF field is off (R34, R91, R163, R182, R421, R434, R494). -/
def Obligations.ResetState : Prop :=
  State.reset.pending = [] ∧ State.reset.mem = [] ∧ State.reset.flash = [] ∧ State.reset.loaded = false
    ∧ State.reset.pwr.boot = .stretch ∧ State.reset.pwr.sys = .s0 ∧ State.reset.pwr.failCnt = 0
    ∧ rget State.reset F.SYS_SEAL_SEAL = 0 ∧ rget State.reset F.SYS_STATUS_LAYOUT = 0
    ∧ (∀ c : Fin 64, (coil State.reset c).cmd = false ∧ (coil State.reset c).drive = false)
    ∧ (∀ x : Fin 4, (sOut State.reset x).act = false) ∧ (∀ n : Fin 4, (outlet State.reset n).energised = false)
    ∧ (∀ n : Fin 16, (lchan State.reset n).on = false) ∧ (∀ k : Fin 64, (kslot State.reset k).typ = 0)
    ∧ State.reset.hfr.st = .off ∧ State.reset.hfr.field = false

/-- Every command completes in every state, but for a machine-mode access to the interrupt controller, whose registers the spec does not give:
that one, and no other, is refused. -/
def Obligations.EveryCommandCompletes : Prop :=
  ∀ (c : Instr) (s : State), (hitsController s c = false → ∃ t, exec c s = .next t)
    ∧ (hitsController s c = true → exec c s = .refused .interruptController)

/-- Every step keeps both byte memories in their canonical form, from every state that has it: whatever command runs, or the tick. -/
def Obligations.MemoryStaysCanonical : Prop := ∀ s t : State, MemOk s → step s = .next t → MemOk t

/-- The state after reset has its memories in canonical form, and so has every state a command leaves from it. -/
def Obligations.ResetMemoryCanonical : Prop :=
  MemOk State.reset ∧ ∀ (a : Nat) (b : Bytes), MemOk (memWrite a b State.reset) ∧ MemOk (flashWrite a b State.reset)

/-- No step ever takes a fuse back: the security counters never fall and a revoked root stays revoked, whatever command runs (R369, R381). -/
def Obligations.FusesNeverGoBack : Prop := ∀ s t : State, step s = .next t → FusesOneWay s.fuse t.fuse

/-- What leaves the storage alone: outside the commands that reach over the whole machine, only the named ones change a byte of physical memory,
of the boot flash or of the FRAM, or a fuse. -/
def Obligations.FrameOfStorage : Prop :=
  ∀ (c : Instr) (s t : State), exec c s = .next t → isWide c = false →
    (storesMem c = false → ∀ a, memRead t a 1 = memRead s a 1)
    ∧ (storesFlash c = false → ∀ a, flashRead t a 1 = flashRead s a 1)
    ∧ (storesFram c = false → t.fram = s.fram)
    ∧ (storesFuse c = false → t.fuse = s.fuse)

/-- What leaves a block alone: outside the commands that reach over the whole machine, the reader, the load channels, the vehicle ports, the
switch, the UARTs, the optical port, the tack room and the yard line change only by their own commands (the reader also where the crypto engine
comes free for the verification it waits for, R410, R432); and the commands of the reader and of
the load channels change no register of another block, but for the flags of the safety inputs that a loss of VS_LOAD raises. -/
def Obligations.FrameOfBlocks : Prop :=
  ∀ (c : Instr) (s t : State), exec c s = .next t → isWide c = false →
    t.net = s.net
    ∧ (isReader c = false → isKey c = false ∨ s.hfr.wait ≠ .verify → t.hfr = s.hfr)
    ∧ (isLoad c = false → t.lch = s.lch)
    ∧ (isVehicle c = false → t.veh = s.veh)
    ∧ (isUart c = false → t.ua = s.ua)
    ∧ (isOptical c = false → t.opt = s.opt)
    ∧ (isKey c = false → t.key = s.key)
    ∧ (isYard c = false → t.yrd = s.yrd)
    ∧ (isReader c = true → ∀ f, fieldBlock f ≠ 0x1010 → rget t f = rget s f)
    ∧ (isLoad c = true → ∀ f, fieldBlock f ≠ 0x1012 → fieldBlock f ≠ 0x1006 → fieldBlock f ≠ 0x1015 → rget t f = rget s f)
end

