-- ==== Sys2Proof/Laws/State.lean ====
section
/-!
SUPPORT. The frame of each named update of the state: one lemma per field that the update leaves alone.
-/

namespace Sys2Proof.Machine

/-! ### rput -/

@[simp] theorem rput_pending (f : Fld) (v : Nat) (s : State) : (rput f v s).pending = s.pending := rfl
@[simp] theorem rput_resp (f : Fld) (v : Nat) (s : State) : (rput f v s).resp = s.resp := rfl
@[simp] theorem rput_shadow (f : Fld) (v : Nat) (s : State) : (rput f v s).shadow = s.shadow := rfl
@[simp] theorem rput_stage (f : Fld) (v : Nat) (s : State) : (rput f v s).stage = s.stage := rfl
@[simp] theorem rput_mem (f : Fld) (v : Nat) (s : State) : (rput f v s).mem = s.mem := rfl
@[simp] theorem rput_flash (f : Fld) (v : Nat) (s : State) : (rput f v s).flash = s.flash := rfl
@[simp] theorem rput_sec (f : Fld) (v : Nat) (s : State) : (rput f v s).sec = s.sec := rfl
@[simp] theorem rput_loaded (f : Fld) (v : Nat) (s : State) : (rput f v s).loaded = s.loaded := rfl
@[simp] theorem rput_freeCtr (f : Fld) (v : Nat) (s : State) : (rput f v s).freeCtr = s.freeCtr := rfl
@[simp] theorem rput_tmp (f : Fld) (v : Nat) (s : State) : (rput f v s).tmp = s.tmp := rfl
@[simp] theorem rput_brd (f : Fld) (v : Nat) (s : State) : (rput f v s).brd = s.brd := rfl
@[simp] theorem rput_strm (f : Fld) (v : Nat) (s : State) : (rput f v s).strm = s.strm := rfl
@[simp] theorem rput_fz (f : Fld) (v : Nat) (s : State) : (rput f v s).fz = s.fz := rfl
@[simp] theorem rput_outsF (f : Fld) (v : Nat) (s : State) : (rput f v s).outsF = s.outsF := rfl
@[simp] theorem rput_outs (f : Fld) (v : Nat) (s : State) : (rput f v s).outs = s.outs := rfl
@[simp] theorem rput_mtx (f : Fld) (v : Nat) (s : State) : (rput f v s).mtx = s.mtx := rfl
@[simp] theorem rput_saf (f : Fld) (v : Nat) (s : State) : (rput f v s).saf = s.saf := rfl
@[simp] theorem rput_lea (f : Fld) (v : Nat) (s : State) : (rput f v s).lea = s.lea := rfl
@[simp] theorem rput_yrd (f : Fld) (v : Nat) (s : State) : (rput f v s).yrd = s.yrd := rfl
@[simp] theorem rput_net (f : Fld) (v : Nat) (s : State) : (rput f v s).net = s.net := rfl
@[simp] theorem rput_ua (f : Fld) (v : Nat) (s : State) : (rput f v s).ua = s.ua := rfl
@[simp] theorem rput_bil (f : Fld) (v : Nat) (s : State) : (rput f v s).bil = s.bil := rfl
@[simp] theorem rput_persist (f : Fld) (v : Nat) (s : State) : (rput f v s).persist = s.persist := rfl
@[simp] theorem rput_pwr (f : Fld) (v : Nat) (s : State) : (rput f v s).pwr = s.pwr := rfl
@[simp] theorem rput_fwu (f : Fld) (v : Nat) (s : State) : (rput f v s).fwu = s.fwu := rfl
@[simp] theorem rput_fram (f : Fld) (v : Nat) (s : State) : (rput f v s).fram = s.fram := rfl
@[simp] theorem rput_fuse (f : Fld) (v : Nat) (s : State) : (rput f v s).fuse = s.fuse := rfl
@[simp] theorem rput_mtr (f : Fld) (v : Nat) (s : State) : (rput f v s).mtr = s.mtr := rfl
@[simp] theorem rput_opt (f : Fld) (v : Nat) (s : State) : (rput f v s).opt = s.opt := rfl
@[simp] theorem rput_key (f : Fld) (v : Nat) (s : State) : (rput f v s).key = s.key := rfl
@[simp] theorem rput_legalSeg (f : Fld) (v : Nat) (s : State) : (rput f v s).legalSeg = s.legalSeg := rfl
@[simp] theorem rput_lcd (f : Fld) (v : Nat) (s : State) : (rput f v s).lcd = s.lcd := rfl
@[simp] theorem rput_veh (f : Fld) (v : Nat) (s : State) : (rput f v s).veh = s.veh := rfl
@[simp] theorem rput_hfr (f : Fld) (v : Nat) (s : State) : (rput f v s).hfr = s.hfr := rfl
@[simp] theorem rput_lch (f : Fld) (v : Nat) (s : State) : (rput f v s).lch = s.lch := rfl
@[simp] theorem rput_layDig (f : Fld) (v : Nat) (s : State) : (rput f v s).layDig = s.layDig := rfl

/-! ### rputB -/

@[simp] theorem rputB_pending (f : Fld) (b : Bool) (s : State) : (rputB f b s).pending = s.pending := rfl
@[simp] theorem rputB_resp (f : Fld) (b : Bool) (s : State) : (rputB f b s).resp = s.resp := rfl
@[simp] theorem rputB_shadow (f : Fld) (b : Bool) (s : State) : (rputB f b s).shadow = s.shadow := rfl
@[simp] theorem rputB_stage (f : Fld) (b : Bool) (s : State) : (rputB f b s).stage = s.stage := rfl
@[simp] theorem rputB_mem (f : Fld) (b : Bool) (s : State) : (rputB f b s).mem = s.mem := rfl
@[simp] theorem rputB_flash (f : Fld) (b : Bool) (s : State) : (rputB f b s).flash = s.flash := rfl
@[simp] theorem rputB_sec (f : Fld) (b : Bool) (s : State) : (rputB f b s).sec = s.sec := rfl
@[simp] theorem rputB_loaded (f : Fld) (b : Bool) (s : State) : (rputB f b s).loaded = s.loaded := rfl
@[simp] theorem rputB_freeCtr (f : Fld) (b : Bool) (s : State) : (rputB f b s).freeCtr = s.freeCtr := rfl
@[simp] theorem rputB_tmp (f : Fld) (b : Bool) (s : State) : (rputB f b s).tmp = s.tmp := rfl
@[simp] theorem rputB_brd (f : Fld) (b : Bool) (s : State) : (rputB f b s).brd = s.brd := rfl
@[simp] theorem rputB_strm (f : Fld) (b : Bool) (s : State) : (rputB f b s).strm = s.strm := rfl
@[simp] theorem rputB_fz (f : Fld) (b : Bool) (s : State) : (rputB f b s).fz = s.fz := rfl
@[simp] theorem rputB_outsF (f : Fld) (b : Bool) (s : State) : (rputB f b s).outsF = s.outsF := rfl
@[simp] theorem rputB_outs (f : Fld) (b : Bool) (s : State) : (rputB f b s).outs = s.outs := rfl
@[simp] theorem rputB_mtx (f : Fld) (b : Bool) (s : State) : (rputB f b s).mtx = s.mtx := rfl
@[simp] theorem rputB_saf (f : Fld) (b : Bool) (s : State) : (rputB f b s).saf = s.saf := rfl
@[simp] theorem rputB_lea (f : Fld) (b : Bool) (s : State) : (rputB f b s).lea = s.lea := rfl
@[simp] theorem rputB_yrd (f : Fld) (b : Bool) (s : State) : (rputB f b s).yrd = s.yrd := rfl
@[simp] theorem rputB_net (f : Fld) (b : Bool) (s : State) : (rputB f b s).net = s.net := rfl
@[simp] theorem rputB_ua (f : Fld) (b : Bool) (s : State) : (rputB f b s).ua = s.ua := rfl
@[simp] theorem rputB_bil (f : Fld) (b : Bool) (s : State) : (rputB f b s).bil = s.bil := rfl
@[simp] theorem rputB_persist (f : Fld) (b : Bool) (s : State) : (rputB f b s).persist = s.persist := rfl
@[simp] theorem rputB_pwr (f : Fld) (b : Bool) (s : State) : (rputB f b s).pwr = s.pwr := rfl
@[simp] theorem rputB_fwu (f : Fld) (b : Bool) (s : State) : (rputB f b s).fwu = s.fwu := rfl
@[simp] theorem rputB_fram (f : Fld) (b : Bool) (s : State) : (rputB f b s).fram = s.fram := rfl
@[simp] theorem rputB_fuse (f : Fld) (b : Bool) (s : State) : (rputB f b s).fuse = s.fuse := rfl
@[simp] theorem rputB_mtr (f : Fld) (b : Bool) (s : State) : (rputB f b s).mtr = s.mtr := rfl
@[simp] theorem rputB_opt (f : Fld) (b : Bool) (s : State) : (rputB f b s).opt = s.opt := rfl
@[simp] theorem rputB_key (f : Fld) (b : Bool) (s : State) : (rputB f b s).key = s.key := rfl
@[simp] theorem rputB_legalSeg (f : Fld) (b : Bool) (s : State) : (rputB f b s).legalSeg = s.legalSeg := rfl
@[simp] theorem rputB_lcd (f : Fld) (b : Bool) (s : State) : (rputB f b s).lcd = s.lcd := rfl
@[simp] theorem rputB_veh (f : Fld) (b : Bool) (s : State) : (rputB f b s).veh = s.veh := rfl
@[simp] theorem rputB_hfr (f : Fld) (b : Bool) (s : State) : (rputB f b s).hfr = s.hfr := rfl
@[simp] theorem rputB_lch (f : Fld) (b : Bool) (s : State) : (rputB f b s).lch = s.lch := rfl
@[simp] theorem rputB_layDig (f : Fld) (b : Bool) (s : State) : (rputB f b s).layDig = s.layDig := rfl

/-! ### rsat -/

@[simp] theorem rsat_pending (f : Fld) (k : Nat) (s : State) : (rsat f k s).pending = s.pending := rfl
@[simp] theorem rsat_resp (f : Fld) (k : Nat) (s : State) : (rsat f k s).resp = s.resp := rfl
@[simp] theorem rsat_shadow (f : Fld) (k : Nat) (s : State) : (rsat f k s).shadow = s.shadow := rfl
@[simp] theorem rsat_stage (f : Fld) (k : Nat) (s : State) : (rsat f k s).stage = s.stage := rfl
@[simp] theorem rsat_mem (f : Fld) (k : Nat) (s : State) : (rsat f k s).mem = s.mem := rfl
@[simp] theorem rsat_flash (f : Fld) (k : Nat) (s : State) : (rsat f k s).flash = s.flash := rfl
@[simp] theorem rsat_sec (f : Fld) (k : Nat) (s : State) : (rsat f k s).sec = s.sec := rfl
@[simp] theorem rsat_loaded (f : Fld) (k : Nat) (s : State) : (rsat f k s).loaded = s.loaded := rfl
@[simp] theorem rsat_freeCtr (f : Fld) (k : Nat) (s : State) : (rsat f k s).freeCtr = s.freeCtr := rfl
@[simp] theorem rsat_tmp (f : Fld) (k : Nat) (s : State) : (rsat f k s).tmp = s.tmp := rfl
@[simp] theorem rsat_brd (f : Fld) (k : Nat) (s : State) : (rsat f k s).brd = s.brd := rfl
@[simp] theorem rsat_strm (f : Fld) (k : Nat) (s : State) : (rsat f k s).strm = s.strm := rfl
@[simp] theorem rsat_fz (f : Fld) (k : Nat) (s : State) : (rsat f k s).fz = s.fz := rfl
@[simp] theorem rsat_outsF (f : Fld) (k : Nat) (s : State) : (rsat f k s).outsF = s.outsF := rfl
@[simp] theorem rsat_outs (f : Fld) (k : Nat) (s : State) : (rsat f k s).outs = s.outs := rfl
@[simp] theorem rsat_mtx (f : Fld) (k : Nat) (s : State) : (rsat f k s).mtx = s.mtx := rfl
@[simp] theorem rsat_saf (f : Fld) (k : Nat) (s : State) : (rsat f k s).saf = s.saf := rfl
@[simp] theorem rsat_lea (f : Fld) (k : Nat) (s : State) : (rsat f k s).lea = s.lea := rfl
@[simp] theorem rsat_yrd (f : Fld) (k : Nat) (s : State) : (rsat f k s).yrd = s.yrd := rfl
@[simp] theorem rsat_net (f : Fld) (k : Nat) (s : State) : (rsat f k s).net = s.net := rfl
@[simp] theorem rsat_ua (f : Fld) (k : Nat) (s : State) : (rsat f k s).ua = s.ua := rfl
@[simp] theorem rsat_bil (f : Fld) (k : Nat) (s : State) : (rsat f k s).bil = s.bil := rfl
@[simp] theorem rsat_persist (f : Fld) (k : Nat) (s : State) : (rsat f k s).persist = s.persist := rfl
@[simp] theorem rsat_pwr (f : Fld) (k : Nat) (s : State) : (rsat f k s).pwr = s.pwr := rfl
@[simp] theorem rsat_fwu (f : Fld) (k : Nat) (s : State) : (rsat f k s).fwu = s.fwu := rfl
@[simp] theorem rsat_fram (f : Fld) (k : Nat) (s : State) : (rsat f k s).fram = s.fram := rfl
@[simp] theorem rsat_fuse (f : Fld) (k : Nat) (s : State) : (rsat f k s).fuse = s.fuse := rfl
@[simp] theorem rsat_mtr (f : Fld) (k : Nat) (s : State) : (rsat f k s).mtr = s.mtr := rfl
@[simp] theorem rsat_opt (f : Fld) (k : Nat) (s : State) : (rsat f k s).opt = s.opt := rfl
@[simp] theorem rsat_key (f : Fld) (k : Nat) (s : State) : (rsat f k s).key = s.key := rfl
@[simp] theorem rsat_legalSeg (f : Fld) (k : Nat) (s : State) : (rsat f k s).legalSeg = s.legalSeg := rfl
@[simp] theorem rsat_lcd (f : Fld) (k : Nat) (s : State) : (rsat f k s).lcd = s.lcd := rfl
@[simp] theorem rsat_veh (f : Fld) (k : Nat) (s : State) : (rsat f k s).veh = s.veh := rfl
@[simp] theorem rsat_hfr (f : Fld) (k : Nat) (s : State) : (rsat f k s).hfr = s.hfr := rfl
@[simp] theorem rsat_lch (f : Fld) (k : Nat) (s : State) : (rsat f k s).lch = s.lch := rfl
@[simp] theorem rsat_layDig (f : Fld) (k : Nat) (s : State) : (rsat f k s).layDig = s.layDig := rfl

/-! ### rputAt -/

@[simp] theorem rputAt_pending (f : Fld) (i : Nat) (b : Bool) (s : State) : (rputAt f i b s).pending = s.pending := rfl
@[simp] theorem rputAt_resp (f : Fld) (i : Nat) (b : Bool) (s : State) : (rputAt f i b s).resp = s.resp := rfl
@[simp] theorem rputAt_shadow (f : Fld) (i : Nat) (b : Bool) (s : State) : (rputAt f i b s).shadow = s.shadow := rfl
@[simp] theorem rputAt_stage (f : Fld) (i : Nat) (b : Bool) (s : State) : (rputAt f i b s).stage = s.stage := rfl
@[simp] theorem rputAt_mem (f : Fld) (i : Nat) (b : Bool) (s : State) : (rputAt f i b s).mem = s.mem := rfl
@[simp] theorem rputAt_flash (f : Fld) (i : Nat) (b : Bool) (s : State) : (rputAt f i b s).flash = s.flash := rfl
@[simp] theorem rputAt_sec (f : Fld) (i : Nat) (b : Bool) (s : State) : (rputAt f i b s).sec = s.sec := rfl
@[simp] theorem rputAt_loaded (f : Fld) (i : Nat) (b : Bool) (s : State) : (rputAt f i b s).loaded = s.loaded := rfl
@[simp] theorem rputAt_freeCtr (f : Fld) (i : Nat) (b : Bool) (s : State) : (rputAt f i b s).freeCtr = s.freeCtr := rfl
@[simp] theorem rputAt_tmp (f : Fld) (i : Nat) (b : Bool) (s : State) : (rputAt f i b s).tmp = s.tmp := rfl
@[simp] theorem rputAt_brd (f : Fld) (i : Nat) (b : Bool) (s : State) : (rputAt f i b s).brd = s.brd := rfl
@[simp] theorem rputAt_strm (f : Fld) (i : Nat) (b : Bool) (s : State) : (rputAt f i b s).strm = s.strm := rfl
@[simp] theorem rputAt_fz (f : Fld) (i : Nat) (b : Bool) (s : State) : (rputAt f i b s).fz = s.fz := rfl
@[simp] theorem rputAt_outsF (f : Fld) (i : Nat) (b : Bool) (s : State) : (rputAt f i b s).outsF = s.outsF := rfl
@[simp] theorem rputAt_outs (f : Fld) (i : Nat) (b : Bool) (s : State) : (rputAt f i b s).outs = s.outs := rfl
@[simp] theorem rputAt_mtx (f : Fld) (i : Nat) (b : Bool) (s : State) : (rputAt f i b s).mtx = s.mtx := rfl
@[simp] theorem rputAt_saf (f : Fld) (i : Nat) (b : Bool) (s : State) : (rputAt f i b s).saf = s.saf := rfl
@[simp] theorem rputAt_lea (f : Fld) (i : Nat) (b : Bool) (s : State) : (rputAt f i b s).lea = s.lea := rfl
@[simp] theorem rputAt_yrd (f : Fld) (i : Nat) (b : Bool) (s : State) : (rputAt f i b s).yrd = s.yrd := rfl
@[simp] theorem rputAt_net (f : Fld) (i : Nat) (b : Bool) (s : State) : (rputAt f i b s).net = s.net := rfl
@[simp] theorem rputAt_ua (f : Fld) (i : Nat) (b : Bool) (s : State) : (rputAt f i b s).ua = s.ua := rfl
@[simp] theorem rputAt_bil (f : Fld) (i : Nat) (b : Bool) (s : State) : (rputAt f i b s).bil = s.bil := rfl
@[simp] theorem rputAt_persist (f : Fld) (i : Nat) (b : Bool) (s : State) : (rputAt f i b s).persist = s.persist := rfl
@[simp] theorem rputAt_pwr (f : Fld) (i : Nat) (b : Bool) (s : State) : (rputAt f i b s).pwr = s.pwr := rfl
@[simp] theorem rputAt_fwu (f : Fld) (i : Nat) (b : Bool) (s : State) : (rputAt f i b s).fwu = s.fwu := rfl
@[simp] theorem rputAt_fram (f : Fld) (i : Nat) (b : Bool) (s : State) : (rputAt f i b s).fram = s.fram := rfl
@[simp] theorem rputAt_fuse (f : Fld) (i : Nat) (b : Bool) (s : State) : (rputAt f i b s).fuse = s.fuse := rfl
@[simp] theorem rputAt_mtr (f : Fld) (i : Nat) (b : Bool) (s : State) : (rputAt f i b s).mtr = s.mtr := rfl
@[simp] theorem rputAt_opt (f : Fld) (i : Nat) (b : Bool) (s : State) : (rputAt f i b s).opt = s.opt := rfl
@[simp] theorem rputAt_key (f : Fld) (i : Nat) (b : Bool) (s : State) : (rputAt f i b s).key = s.key := rfl
@[simp] theorem rputAt_legalSeg (f : Fld) (i : Nat) (b : Bool) (s : State) : (rputAt f i b s).legalSeg = s.legalSeg := rfl
@[simp] theorem rputAt_lcd (f : Fld) (i : Nat) (b : Bool) (s : State) : (rputAt f i b s).lcd = s.lcd := rfl
@[simp] theorem rputAt_veh (f : Fld) (i : Nat) (b : Bool) (s : State) : (rputAt f i b s).veh = s.veh := rfl
@[simp] theorem rputAt_hfr (f : Fld) (i : Nat) (b : Bool) (s : State) : (rputAt f i b s).hfr = s.hfr := rfl
@[simp] theorem rputAt_lch (f : Fld) (i : Nat) (b : Bool) (s : State) : (rputAt f i b s).lch = s.lch := rfl
@[simp] theorem rputAt_layDig (f : Fld) (i : Nat) (b : Bool) (s : State) : (rputAt f i b s).layDig = s.layDig := rfl

/-! ### memWrite -/

@[simp] theorem memWrite_pending (a : Nat) (b : Bytes) (s : State) : (memWrite a b s).pending = s.pending := rfl
@[simp] theorem memWrite_regs (a : Nat) (b : Bytes) (s : State) : (memWrite a b s).regs = s.regs := rfl
@[simp] theorem memWrite_resp (a : Nat) (b : Bytes) (s : State) : (memWrite a b s).resp = s.resp := rfl
@[simp] theorem memWrite_shadow (a : Nat) (b : Bytes) (s : State) : (memWrite a b s).shadow = s.shadow := rfl
@[simp] theorem memWrite_stage (a : Nat) (b : Bytes) (s : State) : (memWrite a b s).stage = s.stage := rfl
@[simp] theorem memWrite_flash (a : Nat) (b : Bytes) (s : State) : (memWrite a b s).flash = s.flash := rfl
@[simp] theorem memWrite_sec (a : Nat) (b : Bytes) (s : State) : (memWrite a b s).sec = s.sec := rfl
@[simp] theorem memWrite_loaded (a : Nat) (b : Bytes) (s : State) : (memWrite a b s).loaded = s.loaded := rfl
@[simp] theorem memWrite_freeCtr (a : Nat) (b : Bytes) (s : State) : (memWrite a b s).freeCtr = s.freeCtr := rfl
@[simp] theorem memWrite_tmp (a : Nat) (b : Bytes) (s : State) : (memWrite a b s).tmp = s.tmp := rfl
@[simp] theorem memWrite_brd (a : Nat) (b : Bytes) (s : State) : (memWrite a b s).brd = s.brd := rfl
@[simp] theorem memWrite_strm (a : Nat) (b : Bytes) (s : State) : (memWrite a b s).strm = s.strm := rfl
@[simp] theorem memWrite_fz (a : Nat) (b : Bytes) (s : State) : (memWrite a b s).fz = s.fz := rfl
@[simp] theorem memWrite_outsF (a : Nat) (b : Bytes) (s : State) : (memWrite a b s).outsF = s.outsF := rfl
@[simp] theorem memWrite_outs (a : Nat) (b : Bytes) (s : State) : (memWrite a b s).outs = s.outs := rfl
@[simp] theorem memWrite_mtx (a : Nat) (b : Bytes) (s : State) : (memWrite a b s).mtx = s.mtx := rfl
@[simp] theorem memWrite_saf (a : Nat) (b : Bytes) (s : State) : (memWrite a b s).saf = s.saf := rfl
@[simp] theorem memWrite_lea (a : Nat) (b : Bytes) (s : State) : (memWrite a b s).lea = s.lea := rfl
@[simp] theorem memWrite_yrd (a : Nat) (b : Bytes) (s : State) : (memWrite a b s).yrd = s.yrd := rfl
@[simp] theorem memWrite_net (a : Nat) (b : Bytes) (s : State) : (memWrite a b s).net = s.net := rfl
@[simp] theorem memWrite_ua (a : Nat) (b : Bytes) (s : State) : (memWrite a b s).ua = s.ua := rfl
@[simp] theorem memWrite_bil (a : Nat) (b : Bytes) (s : State) : (memWrite a b s).bil = s.bil := rfl
@[simp] theorem memWrite_persist (a : Nat) (b : Bytes) (s : State) : (memWrite a b s).persist = s.persist := rfl
@[simp] theorem memWrite_pwr (a : Nat) (b : Bytes) (s : State) : (memWrite a b s).pwr = s.pwr := rfl
@[simp] theorem memWrite_fwu (a : Nat) (b : Bytes) (s : State) : (memWrite a b s).fwu = s.fwu := rfl
@[simp] theorem memWrite_fram (a : Nat) (b : Bytes) (s : State) : (memWrite a b s).fram = s.fram := rfl
@[simp] theorem memWrite_fuse (a : Nat) (b : Bytes) (s : State) : (memWrite a b s).fuse = s.fuse := rfl
@[simp] theorem memWrite_mtr (a : Nat) (b : Bytes) (s : State) : (memWrite a b s).mtr = s.mtr := rfl
@[simp] theorem memWrite_opt (a : Nat) (b : Bytes) (s : State) : (memWrite a b s).opt = s.opt := rfl
@[simp] theorem memWrite_key (a : Nat) (b : Bytes) (s : State) : (memWrite a b s).key = s.key := rfl
@[simp] theorem memWrite_legalSeg (a : Nat) (b : Bytes) (s : State) : (memWrite a b s).legalSeg = s.legalSeg := rfl
@[simp] theorem memWrite_lcd (a : Nat) (b : Bytes) (s : State) : (memWrite a b s).lcd = s.lcd := rfl
@[simp] theorem memWrite_veh (a : Nat) (b : Bytes) (s : State) : (memWrite a b s).veh = s.veh := rfl
@[simp] theorem memWrite_hfr (a : Nat) (b : Bytes) (s : State) : (memWrite a b s).hfr = s.hfr := rfl
@[simp] theorem memWrite_lch (a : Nat) (b : Bytes) (s : State) : (memWrite a b s).lch = s.lch := rfl
@[simp] theorem memWrite_layDig (a : Nat) (b : Bytes) (s : State) : (memWrite a b s).layDig = s.layDig := rfl

/-! ### flashWrite -/

@[simp] theorem flashWrite_pending (a : Nat) (b : Bytes) (s : State) : (flashWrite a b s).pending = s.pending := rfl
@[simp] theorem flashWrite_regs (a : Nat) (b : Bytes) (s : State) : (flashWrite a b s).regs = s.regs := rfl
@[simp] theorem flashWrite_resp (a : Nat) (b : Bytes) (s : State) : (flashWrite a b s).resp = s.resp := rfl
@[simp] theorem flashWrite_shadow (a : Nat) (b : Bytes) (s : State) : (flashWrite a b s).shadow = s.shadow := rfl
@[simp] theorem flashWrite_stage (a : Nat) (b : Bytes) (s : State) : (flashWrite a b s).stage = s.stage := rfl
@[simp] theorem flashWrite_mem (a : Nat) (b : Bytes) (s : State) : (flashWrite a b s).mem = s.mem := rfl
@[simp] theorem flashWrite_sec (a : Nat) (b : Bytes) (s : State) : (flashWrite a b s).sec = s.sec := rfl
@[simp] theorem flashWrite_loaded (a : Nat) (b : Bytes) (s : State) : (flashWrite a b s).loaded = s.loaded := rfl
@[simp] theorem flashWrite_freeCtr (a : Nat) (b : Bytes) (s : State) : (flashWrite a b s).freeCtr = s.freeCtr := rfl
@[simp] theorem flashWrite_tmp (a : Nat) (b : Bytes) (s : State) : (flashWrite a b s).tmp = s.tmp := rfl
@[simp] theorem flashWrite_brd (a : Nat) (b : Bytes) (s : State) : (flashWrite a b s).brd = s.brd := rfl
@[simp] theorem flashWrite_strm (a : Nat) (b : Bytes) (s : State) : (flashWrite a b s).strm = s.strm := rfl
@[simp] theorem flashWrite_fz (a : Nat) (b : Bytes) (s : State) : (flashWrite a b s).fz = s.fz := rfl
@[simp] theorem flashWrite_outsF (a : Nat) (b : Bytes) (s : State) : (flashWrite a b s).outsF = s.outsF := rfl
@[simp] theorem flashWrite_outs (a : Nat) (b : Bytes) (s : State) : (flashWrite a b s).outs = s.outs := rfl
@[simp] theorem flashWrite_mtx (a : Nat) (b : Bytes) (s : State) : (flashWrite a b s).mtx = s.mtx := rfl
@[simp] theorem flashWrite_saf (a : Nat) (b : Bytes) (s : State) : (flashWrite a b s).saf = s.saf := rfl
@[simp] theorem flashWrite_lea (a : Nat) (b : Bytes) (s : State) : (flashWrite a b s).lea = s.lea := rfl
@[simp] theorem flashWrite_yrd (a : Nat) (b : Bytes) (s : State) : (flashWrite a b s).yrd = s.yrd := rfl
@[simp] theorem flashWrite_net (a : Nat) (b : Bytes) (s : State) : (flashWrite a b s).net = s.net := rfl
@[simp] theorem flashWrite_ua (a : Nat) (b : Bytes) (s : State) : (flashWrite a b s).ua = s.ua := rfl
@[simp] theorem flashWrite_bil (a : Nat) (b : Bytes) (s : State) : (flashWrite a b s).bil = s.bil := rfl
@[simp] theorem flashWrite_persist (a : Nat) (b : Bytes) (s : State) : (flashWrite a b s).persist = s.persist := rfl
@[simp] theorem flashWrite_pwr (a : Nat) (b : Bytes) (s : State) : (flashWrite a b s).pwr = s.pwr := rfl
@[simp] theorem flashWrite_fwu (a : Nat) (b : Bytes) (s : State) : (flashWrite a b s).fwu = s.fwu := rfl
@[simp] theorem flashWrite_fram (a : Nat) (b : Bytes) (s : State) : (flashWrite a b s).fram = s.fram := rfl
@[simp] theorem flashWrite_fuse (a : Nat) (b : Bytes) (s : State) : (flashWrite a b s).fuse = s.fuse := rfl
@[simp] theorem flashWrite_mtr (a : Nat) (b : Bytes) (s : State) : (flashWrite a b s).mtr = s.mtr := rfl
@[simp] theorem flashWrite_opt (a : Nat) (b : Bytes) (s : State) : (flashWrite a b s).opt = s.opt := rfl
@[simp] theorem flashWrite_key (a : Nat) (b : Bytes) (s : State) : (flashWrite a b s).key = s.key := rfl
@[simp] theorem flashWrite_legalSeg (a : Nat) (b : Bytes) (s : State) : (flashWrite a b s).legalSeg = s.legalSeg := rfl
@[simp] theorem flashWrite_lcd (a : Nat) (b : Bytes) (s : State) : (flashWrite a b s).lcd = s.lcd := rfl
@[simp] theorem flashWrite_veh (a : Nat) (b : Bytes) (s : State) : (flashWrite a b s).veh = s.veh := rfl
@[simp] theorem flashWrite_hfr (a : Nat) (b : Bytes) (s : State) : (flashWrite a b s).hfr = s.hfr := rfl
@[simp] theorem flashWrite_lch (a : Nat) (b : Bytes) (s : State) : (flashWrite a b s).lch = s.lch := rfl
@[simp] theorem flashWrite_layDig (a : Nat) (b : Bytes) (s : State) : (flashWrite a b s).layDig = s.layDig := rfl

/-! ### onOutlet -/

@[simp] theorem onOutlet_pending (n : Nat) (f : Outlet → Outlet) (s : State) : (onOutlet n f s).pending = s.pending := rfl
@[simp] theorem onOutlet_regs (n : Nat) (f : Outlet → Outlet) (s : State) : (onOutlet n f s).regs = s.regs := rfl
@[simp] theorem onOutlet_resp (n : Nat) (f : Outlet → Outlet) (s : State) : (onOutlet n f s).resp = s.resp := rfl
@[simp] theorem onOutlet_shadow (n : Nat) (f : Outlet → Outlet) (s : State) : (onOutlet n f s).shadow = s.shadow := rfl
@[simp] theorem onOutlet_stage (n : Nat) (f : Outlet → Outlet) (s : State) : (onOutlet n f s).stage = s.stage := rfl
@[simp] theorem onOutlet_mem (n : Nat) (f : Outlet → Outlet) (s : State) : (onOutlet n f s).mem = s.mem := rfl
@[simp] theorem onOutlet_flash (n : Nat) (f : Outlet → Outlet) (s : State) : (onOutlet n f s).flash = s.flash := rfl
@[simp] theorem onOutlet_sec (n : Nat) (f : Outlet → Outlet) (s : State) : (onOutlet n f s).sec = s.sec := rfl
@[simp] theorem onOutlet_loaded (n : Nat) (f : Outlet → Outlet) (s : State) : (onOutlet n f s).loaded = s.loaded := rfl
@[simp] theorem onOutlet_freeCtr (n : Nat) (f : Outlet → Outlet) (s : State) : (onOutlet n f s).freeCtr = s.freeCtr := rfl
@[simp] theorem onOutlet_tmp (n : Nat) (f : Outlet → Outlet) (s : State) : (onOutlet n f s).tmp = s.tmp := rfl
@[simp] theorem onOutlet_brd (n : Nat) (f : Outlet → Outlet) (s : State) : (onOutlet n f s).brd = s.brd := rfl
@[simp] theorem onOutlet_strm (n : Nat) (f : Outlet → Outlet) (s : State) : (onOutlet n f s).strm = s.strm := rfl
@[simp] theorem onOutlet_fz (n : Nat) (f : Outlet → Outlet) (s : State) : (onOutlet n f s).fz = s.fz := rfl
@[simp] theorem onOutlet_outsF (n : Nat) (f : Outlet → Outlet) (s : State) : (onOutlet n f s).outsF = s.outsF := rfl
@[simp] theorem onOutlet_mtx (n : Nat) (f : Outlet → Outlet) (s : State) : (onOutlet n f s).mtx = s.mtx := rfl
@[simp] theorem onOutlet_saf (n : Nat) (f : Outlet → Outlet) (s : State) : (onOutlet n f s).saf = s.saf := rfl
@[simp] theorem onOutlet_lea (n : Nat) (f : Outlet → Outlet) (s : State) : (onOutlet n f s).lea = s.lea := rfl
@[simp] theorem onOutlet_yrd (n : Nat) (f : Outlet → Outlet) (s : State) : (onOutlet n f s).yrd = s.yrd := rfl
@[simp] theorem onOutlet_net (n : Nat) (f : Outlet → Outlet) (s : State) : (onOutlet n f s).net = s.net := rfl
@[simp] theorem onOutlet_ua (n : Nat) (f : Outlet → Outlet) (s : State) : (onOutlet n f s).ua = s.ua := rfl
@[simp] theorem onOutlet_bil (n : Nat) (f : Outlet → Outlet) (s : State) : (onOutlet n f s).bil = s.bil := rfl
@[simp] theorem onOutlet_persist (n : Nat) (f : Outlet → Outlet) (s : State) : (onOutlet n f s).persist = s.persist := rfl
@[simp] theorem onOutlet_pwr (n : Nat) (f : Outlet → Outlet) (s : State) : (onOutlet n f s).pwr = s.pwr := rfl
@[simp] theorem onOutlet_fwu (n : Nat) (f : Outlet → Outlet) (s : State) : (onOutlet n f s).fwu = s.fwu := rfl
@[simp] theorem onOutlet_fram (n : Nat) (f : Outlet → Outlet) (s : State) : (onOutlet n f s).fram = s.fram := rfl
@[simp] theorem onOutlet_fuse (n : Nat) (f : Outlet → Outlet) (s : State) : (onOutlet n f s).fuse = s.fuse := rfl
@[simp] theorem onOutlet_mtr (n : Nat) (f : Outlet → Outlet) (s : State) : (onOutlet n f s).mtr = s.mtr := rfl
@[simp] theorem onOutlet_opt (n : Nat) (f : Outlet → Outlet) (s : State) : (onOutlet n f s).opt = s.opt := rfl
@[simp] theorem onOutlet_key (n : Nat) (f : Outlet → Outlet) (s : State) : (onOutlet n f s).key = s.key := rfl
@[simp] theorem onOutlet_legalSeg (n : Nat) (f : Outlet → Outlet) (s : State) : (onOutlet n f s).legalSeg = s.legalSeg := rfl
@[simp] theorem onOutlet_lcd (n : Nat) (f : Outlet → Outlet) (s : State) : (onOutlet n f s).lcd = s.lcd := rfl
@[simp] theorem onOutlet_veh (n : Nat) (f : Outlet → Outlet) (s : State) : (onOutlet n f s).veh = s.veh := rfl
@[simp] theorem onOutlet_hfr (n : Nat) (f : Outlet → Outlet) (s : State) : (onOutlet n f s).hfr = s.hfr := rfl
@[simp] theorem onOutlet_lch (n : Nat) (f : Outlet → Outlet) (s : State) : (onOutlet n f s).lch = s.lch := rfl
@[simp] theorem onOutlet_layDig (n : Nat) (f : Outlet → Outlet) (s : State) : (onOutlet n f s).layDig = s.layDig := rfl

/-! ### onCoil -/

@[simp] theorem onCoil_pending (c : Nat) (f : Coil → Coil) (s : State) : (onCoil c f s).pending = s.pending := rfl
@[simp] theorem onCoil_regs (c : Nat) (f : Coil → Coil) (s : State) : (onCoil c f s).regs = s.regs := rfl
@[simp] theorem onCoil_resp (c : Nat) (f : Coil → Coil) (s : State) : (onCoil c f s).resp = s.resp := rfl
@[simp] theorem onCoil_shadow (c : Nat) (f : Coil → Coil) (s : State) : (onCoil c f s).shadow = s.shadow := rfl
@[simp] theorem onCoil_stage (c : Nat) (f : Coil → Coil) (s : State) : (onCoil c f s).stage = s.stage := rfl
@[simp] theorem onCoil_mem (c : Nat) (f : Coil → Coil) (s : State) : (onCoil c f s).mem = s.mem := rfl
@[simp] theorem onCoil_flash (c : Nat) (f : Coil → Coil) (s : State) : (onCoil c f s).flash = s.flash := rfl
@[simp] theorem onCoil_sec (c : Nat) (f : Coil → Coil) (s : State) : (onCoil c f s).sec = s.sec := rfl
@[simp] theorem onCoil_loaded (c : Nat) (f : Coil → Coil) (s : State) : (onCoil c f s).loaded = s.loaded := rfl
@[simp] theorem onCoil_freeCtr (c : Nat) (f : Coil → Coil) (s : State) : (onCoil c f s).freeCtr = s.freeCtr := rfl
@[simp] theorem onCoil_tmp (c : Nat) (f : Coil → Coil) (s : State) : (onCoil c f s).tmp = s.tmp := rfl
@[simp] theorem onCoil_brd (c : Nat) (f : Coil → Coil) (s : State) : (onCoil c f s).brd = s.brd := rfl
@[simp] theorem onCoil_strm (c : Nat) (f : Coil → Coil) (s : State) : (onCoil c f s).strm = s.strm := rfl
@[simp] theorem onCoil_fz (c : Nat) (f : Coil → Coil) (s : State) : (onCoil c f s).fz = s.fz := rfl
@[simp] theorem onCoil_outsF (c : Nat) (f : Coil → Coil) (s : State) : (onCoil c f s).outsF = s.outsF := rfl
@[simp] theorem onCoil_outs (c : Nat) (f : Coil → Coil) (s : State) : (onCoil c f s).outs = s.outs := rfl
@[simp] theorem onCoil_saf (c : Nat) (f : Coil → Coil) (s : State) : (onCoil c f s).saf = s.saf := rfl
@[simp] theorem onCoil_lea (c : Nat) (f : Coil → Coil) (s : State) : (onCoil c f s).lea = s.lea := rfl
@[simp] theorem onCoil_yrd (c : Nat) (f : Coil → Coil) (s : State) : (onCoil c f s).yrd = s.yrd := rfl
@[simp] theorem onCoil_net (c : Nat) (f : Coil → Coil) (s : State) : (onCoil c f s).net = s.net := rfl
@[simp] theorem onCoil_ua (c : Nat) (f : Coil → Coil) (s : State) : (onCoil c f s).ua = s.ua := rfl
@[simp] theorem onCoil_bil (c : Nat) (f : Coil → Coil) (s : State) : (onCoil c f s).bil = s.bil := rfl
@[simp] theorem onCoil_persist (c : Nat) (f : Coil → Coil) (s : State) : (onCoil c f s).persist = s.persist := rfl
@[simp] theorem onCoil_pwr (c : Nat) (f : Coil → Coil) (s : State) : (onCoil c f s).pwr = s.pwr := rfl
@[simp] theorem onCoil_fwu (c : Nat) (f : Coil → Coil) (s : State) : (onCoil c f s).fwu = s.fwu := rfl
@[simp] theorem onCoil_fram (c : Nat) (f : Coil → Coil) (s : State) : (onCoil c f s).fram = s.fram := rfl
@[simp] theorem onCoil_fuse (c : Nat) (f : Coil → Coil) (s : State) : (onCoil c f s).fuse = s.fuse := rfl
@[simp] theorem onCoil_mtr (c : Nat) (f : Coil → Coil) (s : State) : (onCoil c f s).mtr = s.mtr := rfl
@[simp] theorem onCoil_opt (c : Nat) (f : Coil → Coil) (s : State) : (onCoil c f s).opt = s.opt := rfl
@[simp] theorem onCoil_key (c : Nat) (f : Coil → Coil) (s : State) : (onCoil c f s).key = s.key := rfl
@[simp] theorem onCoil_legalSeg (c : Nat) (f : Coil → Coil) (s : State) : (onCoil c f s).legalSeg = s.legalSeg := rfl
@[simp] theorem onCoil_lcd (c : Nat) (f : Coil → Coil) (s : State) : (onCoil c f s).lcd = s.lcd := rfl
@[simp] theorem onCoil_veh (c : Nat) (f : Coil → Coil) (s : State) : (onCoil c f s).veh = s.veh := rfl
@[simp] theorem onCoil_hfr (c : Nat) (f : Coil → Coil) (s : State) : (onCoil c f s).hfr = s.hfr := rfl
@[simp] theorem onCoil_lch (c : Nat) (f : Coil → Coil) (s : State) : (onCoil c f s).lch = s.lch := rfl
@[simp] theorem onCoil_layDig (c : Nat) (f : Coil → Coil) (s : State) : (onCoil c f s).layDig = s.layDig := rfl

/-! ### onGroup -/

@[simp] theorem onGroup_pending (g : Nat) (f : Group → Group) (s : State) : (onGroup g f s).pending = s.pending := rfl
@[simp] theorem onGroup_regs (g : Nat) (f : Group → Group) (s : State) : (onGroup g f s).regs = s.regs := rfl
@[simp] theorem onGroup_resp (g : Nat) (f : Group → Group) (s : State) : (onGroup g f s).resp = s.resp := rfl
@[simp] theorem onGroup_shadow (g : Nat) (f : Group → Group) (s : State) : (onGroup g f s).shadow = s.shadow := rfl
@[simp] theorem onGroup_stage (g : Nat) (f : Group → Group) (s : State) : (onGroup g f s).stage = s.stage := rfl
@[simp] theorem onGroup_mem (g : Nat) (f : Group → Group) (s : State) : (onGroup g f s).mem = s.mem := rfl
@[simp] theorem onGroup_flash (g : Nat) (f : Group → Group) (s : State) : (onGroup g f s).flash = s.flash := rfl
@[simp] theorem onGroup_sec (g : Nat) (f : Group → Group) (s : State) : (onGroup g f s).sec = s.sec := rfl
@[simp] theorem onGroup_loaded (g : Nat) (f : Group → Group) (s : State) : (onGroup g f s).loaded = s.loaded := rfl
@[simp] theorem onGroup_freeCtr (g : Nat) (f : Group → Group) (s : State) : (onGroup g f s).freeCtr = s.freeCtr := rfl
@[simp] theorem onGroup_tmp (g : Nat) (f : Group → Group) (s : State) : (onGroup g f s).tmp = s.tmp := rfl
@[simp] theorem onGroup_brd (g : Nat) (f : Group → Group) (s : State) : (onGroup g f s).brd = s.brd := rfl
@[simp] theorem onGroup_strm (g : Nat) (f : Group → Group) (s : State) : (onGroup g f s).strm = s.strm := rfl
@[simp] theorem onGroup_fz (g : Nat) (f : Group → Group) (s : State) : (onGroup g f s).fz = s.fz := rfl
@[simp] theorem onGroup_outsF (g : Nat) (f : Group → Group) (s : State) : (onGroup g f s).outsF = s.outsF := rfl
@[simp] theorem onGroup_outs (g : Nat) (f : Group → Group) (s : State) : (onGroup g f s).outs = s.outs := rfl
@[simp] theorem onGroup_saf (g : Nat) (f : Group → Group) (s : State) : (onGroup g f s).saf = s.saf := rfl
@[simp] theorem onGroup_lea (g : Nat) (f : Group → Group) (s : State) : (onGroup g f s).lea = s.lea := rfl
@[simp] theorem onGroup_yrd (g : Nat) (f : Group → Group) (s : State) : (onGroup g f s).yrd = s.yrd := rfl
@[simp] theorem onGroup_net (g : Nat) (f : Group → Group) (s : State) : (onGroup g f s).net = s.net := rfl
@[simp] theorem onGroup_ua (g : Nat) (f : Group → Group) (s : State) : (onGroup g f s).ua = s.ua := rfl
@[simp] theorem onGroup_bil (g : Nat) (f : Group → Group) (s : State) : (onGroup g f s).bil = s.bil := rfl
@[simp] theorem onGroup_persist (g : Nat) (f : Group → Group) (s : State) : (onGroup g f s).persist = s.persist := rfl
@[simp] theorem onGroup_pwr (g : Nat) (f : Group → Group) (s : State) : (onGroup g f s).pwr = s.pwr := rfl
@[simp] theorem onGroup_fwu (g : Nat) (f : Group → Group) (s : State) : (onGroup g f s).fwu = s.fwu := rfl
@[simp] theorem onGroup_fram (g : Nat) (f : Group → Group) (s : State) : (onGroup g f s).fram = s.fram := rfl
@[simp] theorem onGroup_fuse (g : Nat) (f : Group → Group) (s : State) : (onGroup g f s).fuse = s.fuse := rfl
@[simp] theorem onGroup_mtr (g : Nat) (f : Group → Group) (s : State) : (onGroup g f s).mtr = s.mtr := rfl
@[simp] theorem onGroup_opt (g : Nat) (f : Group → Group) (s : State) : (onGroup g f s).opt = s.opt := rfl
@[simp] theorem onGroup_key (g : Nat) (f : Group → Group) (s : State) : (onGroup g f s).key = s.key := rfl
@[simp] theorem onGroup_legalSeg (g : Nat) (f : Group → Group) (s : State) : (onGroup g f s).legalSeg = s.legalSeg := rfl
@[simp] theorem onGroup_lcd (g : Nat) (f : Group → Group) (s : State) : (onGroup g f s).lcd = s.lcd := rfl
@[simp] theorem onGroup_veh (g : Nat) (f : Group → Group) (s : State) : (onGroup g f s).veh = s.veh := rfl
@[simp] theorem onGroup_hfr (g : Nat) (f : Group → Group) (s : State) : (onGroup g f s).hfr = s.hfr := rfl
@[simp] theorem onGroup_lch (g : Nat) (f : Group → Group) (s : State) : (onGroup g f s).lch = s.lch := rfl
@[simp] theorem onGroup_layDig (g : Nat) (f : Group → Group) (s : State) : (onGroup g f s).layDig = s.layDig := rfl

/-! ### onBus -/

@[simp] theorem onBus_pending (b : Nat) (f : BusSt → BusSt) (s : State) : (onBus b f s).pending = s.pending := rfl
@[simp] theorem onBus_regs (b : Nat) (f : BusSt → BusSt) (s : State) : (onBus b f s).regs = s.regs := rfl
@[simp] theorem onBus_resp (b : Nat) (f : BusSt → BusSt) (s : State) : (onBus b f s).resp = s.resp := rfl
@[simp] theorem onBus_shadow (b : Nat) (f : BusSt → BusSt) (s : State) : (onBus b f s).shadow = s.shadow := rfl
@[simp] theorem onBus_stage (b : Nat) (f : BusSt → BusSt) (s : State) : (onBus b f s).stage = s.stage := rfl
@[simp] theorem onBus_mem (b : Nat) (f : BusSt → BusSt) (s : State) : (onBus b f s).mem = s.mem := rfl
@[simp] theorem onBus_flash (b : Nat) (f : BusSt → BusSt) (s : State) : (onBus b f s).flash = s.flash := rfl
@[simp] theorem onBus_sec (b : Nat) (f : BusSt → BusSt) (s : State) : (onBus b f s).sec = s.sec := rfl
@[simp] theorem onBus_loaded (b : Nat) (f : BusSt → BusSt) (s : State) : (onBus b f s).loaded = s.loaded := rfl
@[simp] theorem onBus_freeCtr (b : Nat) (f : BusSt → BusSt) (s : State) : (onBus b f s).freeCtr = s.freeCtr := rfl
@[simp] theorem onBus_tmp (b : Nat) (f : BusSt → BusSt) (s : State) : (onBus b f s).tmp = s.tmp := rfl
@[simp] theorem onBus_brd (b : Nat) (f : BusSt → BusSt) (s : State) : (onBus b f s).brd = s.brd := rfl
@[simp] theorem onBus_strm (b : Nat) (f : BusSt → BusSt) (s : State) : (onBus b f s).strm = s.strm := rfl
@[simp] theorem onBus_fz (b : Nat) (f : BusSt → BusSt) (s : State) : (onBus b f s).fz = s.fz := rfl
@[simp] theorem onBus_outsF (b : Nat) (f : BusSt → BusSt) (s : State) : (onBus b f s).outsF = s.outsF := rfl
@[simp] theorem onBus_outs (b : Nat) (f : BusSt → BusSt) (s : State) : (onBus b f s).outs = s.outs := rfl
@[simp] theorem onBus_saf (b : Nat) (f : BusSt → BusSt) (s : State) : (onBus b f s).saf = s.saf := rfl
@[simp] theorem onBus_lea (b : Nat) (f : BusSt → BusSt) (s : State) : (onBus b f s).lea = s.lea := rfl
@[simp] theorem onBus_yrd (b : Nat) (f : BusSt → BusSt) (s : State) : (onBus b f s).yrd = s.yrd := rfl
@[simp] theorem onBus_net (b : Nat) (f : BusSt → BusSt) (s : State) : (onBus b f s).net = s.net := rfl
@[simp] theorem onBus_ua (b : Nat) (f : BusSt → BusSt) (s : State) : (onBus b f s).ua = s.ua := rfl
@[simp] theorem onBus_bil (b : Nat) (f : BusSt → BusSt) (s : State) : (onBus b f s).bil = s.bil := rfl
@[simp] theorem onBus_persist (b : Nat) (f : BusSt → BusSt) (s : State) : (onBus b f s).persist = s.persist := rfl
@[simp] theorem onBus_pwr (b : Nat) (f : BusSt → BusSt) (s : State) : (onBus b f s).pwr = s.pwr := rfl
@[simp] theorem onBus_fwu (b : Nat) (f : BusSt → BusSt) (s : State) : (onBus b f s).fwu = s.fwu := rfl
@[simp] theorem onBus_fram (b : Nat) (f : BusSt → BusSt) (s : State) : (onBus b f s).fram = s.fram := rfl
@[simp] theorem onBus_fuse (b : Nat) (f : BusSt → BusSt) (s : State) : (onBus b f s).fuse = s.fuse := rfl
@[simp] theorem onBus_mtr (b : Nat) (f : BusSt → BusSt) (s : State) : (onBus b f s).mtr = s.mtr := rfl
@[simp] theorem onBus_opt (b : Nat) (f : BusSt → BusSt) (s : State) : (onBus b f s).opt = s.opt := rfl
@[simp] theorem onBus_key (b : Nat) (f : BusSt → BusSt) (s : State) : (onBus b f s).key = s.key := rfl
@[simp] theorem onBus_legalSeg (b : Nat) (f : BusSt → BusSt) (s : State) : (onBus b f s).legalSeg = s.legalSeg := rfl
@[simp] theorem onBus_lcd (b : Nat) (f : BusSt → BusSt) (s : State) : (onBus b f s).lcd = s.lcd := rfl
@[simp] theorem onBus_veh (b : Nat) (f : BusSt → BusSt) (s : State) : (onBus b f s).veh = s.veh := rfl
@[simp] theorem onBus_hfr (b : Nat) (f : BusSt → BusSt) (s : State) : (onBus b f s).hfr = s.hfr := rfl
@[simp] theorem onBus_lch (b : Nat) (f : BusSt → BusSt) (s : State) : (onBus b f s).lch = s.lch := rfl
@[simp] theorem onBus_layDig (b : Nat) (f : BusSt → BusSt) (s : State) : (onBus b f s).layDig = s.layDig := rfl

/-! ### onIso -/

@[simp] theorem onIso_pending (n : Nat) (f : IsoMon → IsoMon) (s : State) : (onIso n f s).pending = s.pending := rfl
@[simp] theorem onIso_regs (n : Nat) (f : IsoMon → IsoMon) (s : State) : (onIso n f s).regs = s.regs := rfl
@[simp] theorem onIso_resp (n : Nat) (f : IsoMon → IsoMon) (s : State) : (onIso n f s).resp = s.resp := rfl
@[simp] theorem onIso_shadow (n : Nat) (f : IsoMon → IsoMon) (s : State) : (onIso n f s).shadow = s.shadow := rfl
@[simp] theorem onIso_stage (n : Nat) (f : IsoMon → IsoMon) (s : State) : (onIso n f s).stage = s.stage := rfl
@[simp] theorem onIso_mem (n : Nat) (f : IsoMon → IsoMon) (s : State) : (onIso n f s).mem = s.mem := rfl
@[simp] theorem onIso_flash (n : Nat) (f : IsoMon → IsoMon) (s : State) : (onIso n f s).flash = s.flash := rfl
@[simp] theorem onIso_sec (n : Nat) (f : IsoMon → IsoMon) (s : State) : (onIso n f s).sec = s.sec := rfl
@[simp] theorem onIso_loaded (n : Nat) (f : IsoMon → IsoMon) (s : State) : (onIso n f s).loaded = s.loaded := rfl
@[simp] theorem onIso_freeCtr (n : Nat) (f : IsoMon → IsoMon) (s : State) : (onIso n f s).freeCtr = s.freeCtr := rfl
@[simp] theorem onIso_tmp (n : Nat) (f : IsoMon → IsoMon) (s : State) : (onIso n f s).tmp = s.tmp := rfl
@[simp] theorem onIso_brd (n : Nat) (f : IsoMon → IsoMon) (s : State) : (onIso n f s).brd = s.brd := rfl
@[simp] theorem onIso_strm (n : Nat) (f : IsoMon → IsoMon) (s : State) : (onIso n f s).strm = s.strm := rfl
@[simp] theorem onIso_fz (n : Nat) (f : IsoMon → IsoMon) (s : State) : (onIso n f s).fz = s.fz := rfl
@[simp] theorem onIso_outsF (n : Nat) (f : IsoMon → IsoMon) (s : State) : (onIso n f s).outsF = s.outsF := rfl
@[simp] theorem onIso_outs (n : Nat) (f : IsoMon → IsoMon) (s : State) : (onIso n f s).outs = s.outs := rfl
@[simp] theorem onIso_mtx (n : Nat) (f : IsoMon → IsoMon) (s : State) : (onIso n f s).mtx = s.mtx := rfl
@[simp] theorem onIso_lea (n : Nat) (f : IsoMon → IsoMon) (s : State) : (onIso n f s).lea = s.lea := rfl
@[simp] theorem onIso_yrd (n : Nat) (f : IsoMon → IsoMon) (s : State) : (onIso n f s).yrd = s.yrd := rfl
@[simp] theorem onIso_net (n : Nat) (f : IsoMon → IsoMon) (s : State) : (onIso n f s).net = s.net := rfl
@[simp] theorem onIso_ua (n : Nat) (f : IsoMon → IsoMon) (s : State) : (onIso n f s).ua = s.ua := rfl
@[simp] theorem onIso_bil (n : Nat) (f : IsoMon → IsoMon) (s : State) : (onIso n f s).bil = s.bil := rfl
@[simp] theorem onIso_persist (n : Nat) (f : IsoMon → IsoMon) (s : State) : (onIso n f s).persist = s.persist := rfl
@[simp] theorem onIso_pwr (n : Nat) (f : IsoMon → IsoMon) (s : State) : (onIso n f s).pwr = s.pwr := rfl
@[simp] theorem onIso_fwu (n : Nat) (f : IsoMon → IsoMon) (s : State) : (onIso n f s).fwu = s.fwu := rfl
@[simp] theorem onIso_fram (n : Nat) (f : IsoMon → IsoMon) (s : State) : (onIso n f s).fram = s.fram := rfl
@[simp] theorem onIso_fuse (n : Nat) (f : IsoMon → IsoMon) (s : State) : (onIso n f s).fuse = s.fuse := rfl
@[simp] theorem onIso_mtr (n : Nat) (f : IsoMon → IsoMon) (s : State) : (onIso n f s).mtr = s.mtr := rfl
@[simp] theorem onIso_opt (n : Nat) (f : IsoMon → IsoMon) (s : State) : (onIso n f s).opt = s.opt := rfl
@[simp] theorem onIso_key (n : Nat) (f : IsoMon → IsoMon) (s : State) : (onIso n f s).key = s.key := rfl
@[simp] theorem onIso_legalSeg (n : Nat) (f : IsoMon → IsoMon) (s : State) : (onIso n f s).legalSeg = s.legalSeg := rfl
@[simp] theorem onIso_lcd (n : Nat) (f : IsoMon → IsoMon) (s : State) : (onIso n f s).lcd = s.lcd := rfl
@[simp] theorem onIso_veh (n : Nat) (f : IsoMon → IsoMon) (s : State) : (onIso n f s).veh = s.veh := rfl
@[simp] theorem onIso_hfr (n : Nat) (f : IsoMon → IsoMon) (s : State) : (onIso n f s).hfr = s.hfr := rfl
@[simp] theorem onIso_lch (n : Nat) (f : IsoMon → IsoMon) (s : State) : (onIso n f s).lch = s.lch := rfl
@[simp] theorem onIso_layDig (n : Nat) (f : IsoMon → IsoMon) (s : State) : (onIso n f s).layDig = s.layDig := rfl

/-! ### onSIn -/

@[simp] theorem onSIn_pending (i : Nat) (f : SIn → SIn) (s : State) : (onSIn i f s).pending = s.pending := rfl
@[simp] theorem onSIn_regs (i : Nat) (f : SIn → SIn) (s : State) : (onSIn i f s).regs = s.regs := rfl
@[simp] theorem onSIn_resp (i : Nat) (f : SIn → SIn) (s : State) : (onSIn i f s).resp = s.resp := rfl
@[simp] theorem onSIn_shadow (i : Nat) (f : SIn → SIn) (s : State) : (onSIn i f s).shadow = s.shadow := rfl
@[simp] theorem onSIn_stage (i : Nat) (f : SIn → SIn) (s : State) : (onSIn i f s).stage = s.stage := rfl
@[simp] theorem onSIn_mem (i : Nat) (f : SIn → SIn) (s : State) : (onSIn i f s).mem = s.mem := rfl
@[simp] theorem onSIn_flash (i : Nat) (f : SIn → SIn) (s : State) : (onSIn i f s).flash = s.flash := rfl
@[simp] theorem onSIn_sec (i : Nat) (f : SIn → SIn) (s : State) : (onSIn i f s).sec = s.sec := rfl
@[simp] theorem onSIn_loaded (i : Nat) (f : SIn → SIn) (s : State) : (onSIn i f s).loaded = s.loaded := rfl
@[simp] theorem onSIn_freeCtr (i : Nat) (f : SIn → SIn) (s : State) : (onSIn i f s).freeCtr = s.freeCtr := rfl
@[simp] theorem onSIn_tmp (i : Nat) (f : SIn → SIn) (s : State) : (onSIn i f s).tmp = s.tmp := rfl
@[simp] theorem onSIn_brd (i : Nat) (f : SIn → SIn) (s : State) : (onSIn i f s).brd = s.brd := rfl
@[simp] theorem onSIn_strm (i : Nat) (f : SIn → SIn) (s : State) : (onSIn i f s).strm = s.strm := rfl
@[simp] theorem onSIn_fz (i : Nat) (f : SIn → SIn) (s : State) : (onSIn i f s).fz = s.fz := rfl
@[simp] theorem onSIn_outsF (i : Nat) (f : SIn → SIn) (s : State) : (onSIn i f s).outsF = s.outsF := rfl
@[simp] theorem onSIn_outs (i : Nat) (f : SIn → SIn) (s : State) : (onSIn i f s).outs = s.outs := rfl
@[simp] theorem onSIn_mtx (i : Nat) (f : SIn → SIn) (s : State) : (onSIn i f s).mtx = s.mtx := rfl
@[simp] theorem onSIn_lea (i : Nat) (f : SIn → SIn) (s : State) : (onSIn i f s).lea = s.lea := rfl
@[simp] theorem onSIn_yrd (i : Nat) (f : SIn → SIn) (s : State) : (onSIn i f s).yrd = s.yrd := rfl
@[simp] theorem onSIn_net (i : Nat) (f : SIn → SIn) (s : State) : (onSIn i f s).net = s.net := rfl
@[simp] theorem onSIn_ua (i : Nat) (f : SIn → SIn) (s : State) : (onSIn i f s).ua = s.ua := rfl
@[simp] theorem onSIn_bil (i : Nat) (f : SIn → SIn) (s : State) : (onSIn i f s).bil = s.bil := rfl
@[simp] theorem onSIn_persist (i : Nat) (f : SIn → SIn) (s : State) : (onSIn i f s).persist = s.persist := rfl
@[simp] theorem onSIn_pwr (i : Nat) (f : SIn → SIn) (s : State) : (onSIn i f s).pwr = s.pwr := rfl
@[simp] theorem onSIn_fwu (i : Nat) (f : SIn → SIn) (s : State) : (onSIn i f s).fwu = s.fwu := rfl
@[simp] theorem onSIn_fram (i : Nat) (f : SIn → SIn) (s : State) : (onSIn i f s).fram = s.fram := rfl
@[simp] theorem onSIn_fuse (i : Nat) (f : SIn → SIn) (s : State) : (onSIn i f s).fuse = s.fuse := rfl
@[simp] theorem onSIn_mtr (i : Nat) (f : SIn → SIn) (s : State) : (onSIn i f s).mtr = s.mtr := rfl
@[simp] theorem onSIn_opt (i : Nat) (f : SIn → SIn) (s : State) : (onSIn i f s).opt = s.opt := rfl
@[simp] theorem onSIn_key (i : Nat) (f : SIn → SIn) (s : State) : (onSIn i f s).key = s.key := rfl
@[simp] theorem onSIn_legalSeg (i : Nat) (f : SIn → SIn) (s : State) : (onSIn i f s).legalSeg = s.legalSeg := rfl
@[simp] theorem onSIn_lcd (i : Nat) (f : SIn → SIn) (s : State) : (onSIn i f s).lcd = s.lcd := rfl
@[simp] theorem onSIn_veh (i : Nat) (f : SIn → SIn) (s : State) : (onSIn i f s).veh = s.veh := rfl
@[simp] theorem onSIn_hfr (i : Nat) (f : SIn → SIn) (s : State) : (onSIn i f s).hfr = s.hfr := rfl
@[simp] theorem onSIn_lch (i : Nat) (f : SIn → SIn) (s : State) : (onSIn i f s).lch = s.lch := rfl
@[simp] theorem onSIn_layDig (i : Nat) (f : SIn → SIn) (s : State) : (onSIn i f s).layDig = s.layDig := rfl

/-! ### onSOut -/

@[simp] theorem onSOut_pending (x : Nat) (f : SOut → SOut) (s : State) : (onSOut x f s).pending = s.pending := rfl
@[simp] theorem onSOut_regs (x : Nat) (f : SOut → SOut) (s : State) : (onSOut x f s).regs = s.regs := rfl
@[simp] theorem onSOut_resp (x : Nat) (f : SOut → SOut) (s : State) : (onSOut x f s).resp = s.resp := rfl
@[simp] theorem onSOut_shadow (x : Nat) (f : SOut → SOut) (s : State) : (onSOut x f s).shadow = s.shadow := rfl
@[simp] theorem onSOut_stage (x : Nat) (f : SOut → SOut) (s : State) : (onSOut x f s).stage = s.stage := rfl
@[simp] theorem onSOut_mem (x : Nat) (f : SOut → SOut) (s : State) : (onSOut x f s).mem = s.mem := rfl
@[simp] theorem onSOut_flash (x : Nat) (f : SOut → SOut) (s : State) : (onSOut x f s).flash = s.flash := rfl
@[simp] theorem onSOut_sec (x : Nat) (f : SOut → SOut) (s : State) : (onSOut x f s).sec = s.sec := rfl
@[simp] theorem onSOut_loaded (x : Nat) (f : SOut → SOut) (s : State) : (onSOut x f s).loaded = s.loaded := rfl
@[simp] theorem onSOut_freeCtr (x : Nat) (f : SOut → SOut) (s : State) : (onSOut x f s).freeCtr = s.freeCtr := rfl
@[simp] theorem onSOut_tmp (x : Nat) (f : SOut → SOut) (s : State) : (onSOut x f s).tmp = s.tmp := rfl
@[simp] theorem onSOut_brd (x : Nat) (f : SOut → SOut) (s : State) : (onSOut x f s).brd = s.brd := rfl
@[simp] theorem onSOut_strm (x : Nat) (f : SOut → SOut) (s : State) : (onSOut x f s).strm = s.strm := rfl
@[simp] theorem onSOut_fz (x : Nat) (f : SOut → SOut) (s : State) : (onSOut x f s).fz = s.fz := rfl
@[simp] theorem onSOut_outsF (x : Nat) (f : SOut → SOut) (s : State) : (onSOut x f s).outsF = s.outsF := rfl
@[simp] theorem onSOut_outs (x : Nat) (f : SOut → SOut) (s : State) : (onSOut x f s).outs = s.outs := rfl
@[simp] theorem onSOut_mtx (x : Nat) (f : SOut → SOut) (s : State) : (onSOut x f s).mtx = s.mtx := rfl
@[simp] theorem onSOut_lea (x : Nat) (f : SOut → SOut) (s : State) : (onSOut x f s).lea = s.lea := rfl
@[simp] theorem onSOut_yrd (x : Nat) (f : SOut → SOut) (s : State) : (onSOut x f s).yrd = s.yrd := rfl
@[simp] theorem onSOut_net (x : Nat) (f : SOut → SOut) (s : State) : (onSOut x f s).net = s.net := rfl
@[simp] theorem onSOut_ua (x : Nat) (f : SOut → SOut) (s : State) : (onSOut x f s).ua = s.ua := rfl
@[simp] theorem onSOut_bil (x : Nat) (f : SOut → SOut) (s : State) : (onSOut x f s).bil = s.bil := rfl
@[simp] theorem onSOut_persist (x : Nat) (f : SOut → SOut) (s : State) : (onSOut x f s).persist = s.persist := rfl
@[simp] theorem onSOut_pwr (x : Nat) (f : SOut → SOut) (s : State) : (onSOut x f s).pwr = s.pwr := rfl
@[simp] theorem onSOut_fwu (x : Nat) (f : SOut → SOut) (s : State) : (onSOut x f s).fwu = s.fwu := rfl
@[simp] theorem onSOut_fram (x : Nat) (f : SOut → SOut) (s : State) : (onSOut x f s).fram = s.fram := rfl
@[simp] theorem onSOut_fuse (x : Nat) (f : SOut → SOut) (s : State) : (onSOut x f s).fuse = s.fuse := rfl
@[simp] theorem onSOut_mtr (x : Nat) (f : SOut → SOut) (s : State) : (onSOut x f s).mtr = s.mtr := rfl
@[simp] theorem onSOut_opt (x : Nat) (f : SOut → SOut) (s : State) : (onSOut x f s).opt = s.opt := rfl
@[simp] theorem onSOut_key (x : Nat) (f : SOut → SOut) (s : State) : (onSOut x f s).key = s.key := rfl
@[simp] theorem onSOut_legalSeg (x : Nat) (f : SOut → SOut) (s : State) : (onSOut x f s).legalSeg = s.legalSeg := rfl
@[simp] theorem onSOut_lcd (x : Nat) (f : SOut → SOut) (s : State) : (onSOut x f s).lcd = s.lcd := rfl
@[simp] theorem onSOut_veh (x : Nat) (f : SOut → SOut) (s : State) : (onSOut x f s).veh = s.veh := rfl
@[simp] theorem onSOut_hfr (x : Nat) (f : SOut → SOut) (s : State) : (onSOut x f s).hfr = s.hfr := rfl
@[simp] theorem onSOut_lch (x : Nat) (f : SOut → SOut) (s : State) : (onSOut x f s).lch = s.lch := rfl
@[simp] theorem onSOut_layDig (x : Nat) (f : SOut → SOut) (s : State) : (onSOut x f s).layDig = s.layDig := rfl

/-! ### strmPut -/

@[simp] theorem strmPut_pending (k : Nat) (v : Int) (s : State) : (strmPut k v s).pending = s.pending := rfl
@[simp] theorem strmPut_regs (k : Nat) (v : Int) (s : State) : (strmPut k v s).regs = s.regs := rfl
@[simp] theorem strmPut_resp (k : Nat) (v : Int) (s : State) : (strmPut k v s).resp = s.resp := rfl
@[simp] theorem strmPut_shadow (k : Nat) (v : Int) (s : State) : (strmPut k v s).shadow = s.shadow := rfl
@[simp] theorem strmPut_stage (k : Nat) (v : Int) (s : State) : (strmPut k v s).stage = s.stage := rfl
@[simp] theorem strmPut_mem (k : Nat) (v : Int) (s : State) : (strmPut k v s).mem = s.mem := rfl
@[simp] theorem strmPut_flash (k : Nat) (v : Int) (s : State) : (strmPut k v s).flash = s.flash := rfl
@[simp] theorem strmPut_sec (k : Nat) (v : Int) (s : State) : (strmPut k v s).sec = s.sec := rfl
@[simp] theorem strmPut_loaded (k : Nat) (v : Int) (s : State) : (strmPut k v s).loaded = s.loaded := rfl
@[simp] theorem strmPut_freeCtr (k : Nat) (v : Int) (s : State) : (strmPut k v s).freeCtr = s.freeCtr := rfl
@[simp] theorem strmPut_tmp (k : Nat) (v : Int) (s : State) : (strmPut k v s).tmp = s.tmp := rfl
@[simp] theorem strmPut_brd (k : Nat) (v : Int) (s : State) : (strmPut k v s).brd = s.brd := rfl
@[simp] theorem strmPut_fz (k : Nat) (v : Int) (s : State) : (strmPut k v s).fz = s.fz := rfl
@[simp] theorem strmPut_outsF (k : Nat) (v : Int) (s : State) : (strmPut k v s).outsF = s.outsF := rfl
@[simp] theorem strmPut_outs (k : Nat) (v : Int) (s : State) : (strmPut k v s).outs = s.outs := rfl
@[simp] theorem strmPut_mtx (k : Nat) (v : Int) (s : State) : (strmPut k v s).mtx = s.mtx := rfl
@[simp] theorem strmPut_saf (k : Nat) (v : Int) (s : State) : (strmPut k v s).saf = s.saf := rfl
@[simp] theorem strmPut_lea (k : Nat) (v : Int) (s : State) : (strmPut k v s).lea = s.lea := rfl
@[simp] theorem strmPut_yrd (k : Nat) (v : Int) (s : State) : (strmPut k v s).yrd = s.yrd := rfl
@[simp] theorem strmPut_net (k : Nat) (v : Int) (s : State) : (strmPut k v s).net = s.net := rfl
@[simp] theorem strmPut_ua (k : Nat) (v : Int) (s : State) : (strmPut k v s).ua = s.ua := rfl
@[simp] theorem strmPut_bil (k : Nat) (v : Int) (s : State) : (strmPut k v s).bil = s.bil := rfl
@[simp] theorem strmPut_persist (k : Nat) (v : Int) (s : State) : (strmPut k v s).persist = s.persist := rfl
@[simp] theorem strmPut_pwr (k : Nat) (v : Int) (s : State) : (strmPut k v s).pwr = s.pwr := rfl
@[simp] theorem strmPut_fwu (k : Nat) (v : Int) (s : State) : (strmPut k v s).fwu = s.fwu := rfl
@[simp] theorem strmPut_fram (k : Nat) (v : Int) (s : State) : (strmPut k v s).fram = s.fram := rfl
@[simp] theorem strmPut_fuse (k : Nat) (v : Int) (s : State) : (strmPut k v s).fuse = s.fuse := rfl
@[simp] theorem strmPut_mtr (k : Nat) (v : Int) (s : State) : (strmPut k v s).mtr = s.mtr := rfl
@[simp] theorem strmPut_opt (k : Nat) (v : Int) (s : State) : (strmPut k v s).opt = s.opt := rfl
@[simp] theorem strmPut_key (k : Nat) (v : Int) (s : State) : (strmPut k v s).key = s.key := rfl
@[simp] theorem strmPut_legalSeg (k : Nat) (v : Int) (s : State) : (strmPut k v s).legalSeg = s.legalSeg := rfl
@[simp] theorem strmPut_lcd (k : Nat) (v : Int) (s : State) : (strmPut k v s).lcd = s.lcd := rfl
@[simp] theorem strmPut_veh (k : Nat) (v : Int) (s : State) : (strmPut k v s).veh = s.veh := rfl
@[simp] theorem strmPut_hfr (k : Nat) (v : Int) (s : State) : (strmPut k v s).hfr = s.hfr := rfl
@[simp] theorem strmPut_lch (k : Nat) (v : Int) (s : State) : (strmPut k v s).lch = s.lch := rfl
@[simp] theorem strmPut_layDig (k : Nat) (v : Int) (s : State) : (strmPut k v s).layDig = s.layDig := rfl

/-! ### freeNat -/

@[simp] theorem freeNat_pending (s : State) : (freeNat s).2.pending = s.pending := rfl
@[simp] theorem freeNat_regs (s : State) : (freeNat s).2.regs = s.regs := rfl
@[simp] theorem freeNat_resp (s : State) : (freeNat s).2.resp = s.resp := rfl
@[simp] theorem freeNat_shadow (s : State) : (freeNat s).2.shadow = s.shadow := rfl
@[simp] theorem freeNat_stage (s : State) : (freeNat s).2.stage = s.stage := rfl
@[simp] theorem freeNat_mem (s : State) : (freeNat s).2.mem = s.mem := rfl
@[simp] theorem freeNat_flash (s : State) : (freeNat s).2.flash = s.flash := rfl
@[simp] theorem freeNat_sec (s : State) : (freeNat s).2.sec = s.sec := rfl
@[simp] theorem freeNat_loaded (s : State) : (freeNat s).2.loaded = s.loaded := rfl
@[simp] theorem freeNat_tmp (s : State) : (freeNat s).2.tmp = s.tmp := rfl
@[simp] theorem freeNat_brd (s : State) : (freeNat s).2.brd = s.brd := rfl
@[simp] theorem freeNat_strm (s : State) : (freeNat s).2.strm = s.strm := rfl
@[simp] theorem freeNat_fz (s : State) : (freeNat s).2.fz = s.fz := rfl
@[simp] theorem freeNat_outsF (s : State) : (freeNat s).2.outsF = s.outsF := rfl
@[simp] theorem freeNat_outs (s : State) : (freeNat s).2.outs = s.outs := rfl
@[simp] theorem freeNat_mtx (s : State) : (freeNat s).2.mtx = s.mtx := rfl
@[simp] theorem freeNat_saf (s : State) : (freeNat s).2.saf = s.saf := rfl
@[simp] theorem freeNat_lea (s : State) : (freeNat s).2.lea = s.lea := rfl
@[simp] theorem freeNat_yrd (s : State) : (freeNat s).2.yrd = s.yrd := rfl
@[simp] theorem freeNat_net (s : State) : (freeNat s).2.net = s.net := rfl
@[simp] theorem freeNat_ua (s : State) : (freeNat s).2.ua = s.ua := rfl
@[simp] theorem freeNat_bil (s : State) : (freeNat s).2.bil = s.bil := rfl
@[simp] theorem freeNat_persist (s : State) : (freeNat s).2.persist = s.persist := rfl
@[simp] theorem freeNat_pwr (s : State) : (freeNat s).2.pwr = s.pwr := rfl
@[simp] theorem freeNat_fwu (s : State) : (freeNat s).2.fwu = s.fwu := rfl
@[simp] theorem freeNat_fram (s : State) : (freeNat s).2.fram = s.fram := rfl
@[simp] theorem freeNat_fuse (s : State) : (freeNat s).2.fuse = s.fuse := rfl
@[simp] theorem freeNat_mtr (s : State) : (freeNat s).2.mtr = s.mtr := rfl
@[simp] theorem freeNat_opt (s : State) : (freeNat s).2.opt = s.opt := rfl
@[simp] theorem freeNat_key (s : State) : (freeNat s).2.key = s.key := rfl
@[simp] theorem freeNat_legalSeg (s : State) : (freeNat s).2.legalSeg = s.legalSeg := rfl
@[simp] theorem freeNat_lcd (s : State) : (freeNat s).2.lcd = s.lcd := rfl
@[simp] theorem freeNat_veh (s : State) : (freeNat s).2.veh = s.veh := rfl
@[simp] theorem freeNat_hfr (s : State) : (freeNat s).2.hfr = s.hfr := rfl
@[simp] theorem freeNat_lch (s : State) : (freeNat s).2.lch = s.lch := rfl
@[simp] theorem freeNat_layDig (s : State) : (freeNat s).2.layDig = s.layDig := rfl

end Sys2Proof.Machine
end

