-- ==== Sys2Proof/Laws/Tbl.lean ====
section
/-! SUPPORT. The laws of sparse tables and byte memories: reading after writing, and the canonical form kept by every write. -/

namespace Sys2Proof.Machine

theorem Tbl.get_insert_self {α : Type} (m : Tbl α) (k : Nat) (v d : α) : Tbl.get (Tbl.insert m k v) k d = v := by
  induction m with
  | nil => simp [Tbl.insert, Tbl.get]
  | cons p t ih =>
    obtain ⟨j, x⟩ := p
    unfold Tbl.insert
    split
    · simp [Tbl.get]
    · split
      · simp [Tbl.get]
      · have hj : j ≠ k := by omega
        simp [Tbl.get, hj, ih]

theorem Tbl.get_insert_ne {α : Type} (m : Tbl α) (k j : Nat) (v d : α) (h : j ≠ k) :
    Tbl.get (Tbl.insert m k v) j d = Tbl.get m j d := by
  induction m with
  | nil => simp [Tbl.insert, Tbl.get, Ne.symm h]
  | cons p t ih =>
    obtain ⟨i, x⟩ := p
    unfold Tbl.insert
    split
    · simp [Tbl.get, Ne.symm h]
    · split
      · rename_i h2
        simp [Tbl.get, ← h2, Ne.symm h]
      · by_cases hi : i = j
        · simp [Tbl.get, hi]
        · simp [Tbl.get, hi, ih]

theorem Tbl.get_erase_self {α : Type} (m : Tbl α) (k : Nat) (d : α) : Tbl.get (Tbl.erase m k) k d = d := by
  induction m with
  | nil => rfl
  | cons p t ih =>
    obtain ⟨j, x⟩ := p
    unfold Tbl.erase
    split
    · exact ih
    · rename_i h
      simp [Tbl.get, h, ih]

theorem Tbl.get_erase_ne {α : Type} (m : Tbl α) (k j : Nat) (d : α) (h : j ≠ k) :
    Tbl.get (Tbl.erase m k) j d = Tbl.get m j d := by
  induction m with
  | nil => rfl
  | cons p t ih =>
    obtain ⟨i, x⟩ := p
    unfold Tbl.erase
    split
    · rename_i h2
      simp [Tbl.get, h2, Ne.symm h, ih]
    · by_cases hi : i = j
      · simp [Tbl.get, hi]
      · simp [Tbl.get, hi, ih]

/-- A key reads what was put there. -/
@[simp] theorem Tbl.get_put_self {α : Type} [DecidableEq α] (m : Tbl α) (k : Nat) (v d : α) :
    Tbl.get (Tbl.put m k v d) k d = v := by
  unfold Tbl.put
  split
  · rename_i h
    rw [Tbl.get_erase_self, h]
  · exact Tbl.get_insert_self m k v d

/-- Every other key reads as before. -/
theorem Tbl.get_put_ne {α : Type} [DecidableEq α] (m : Tbl α) (k j : Nat) (v d e : α) (h : j ≠ k) :
    Tbl.get (Tbl.put m k v d) j e = Tbl.get m j e := by
  unfold Tbl.put
  split
  · exact Tbl.get_erase_ne m k j e h
  · exact Tbl.get_insert_ne m k j v e h

/-! ### The canonical form -/

/-- Whether key `k` lies above an optional bound. -/
def Tbl.above (lo : Option Nat) (k : Nat) : Bool :=
  match lo with
  | none => true
  | some l => decide (l < k)

theorem Tbl.risingFrom_cons {α : Type} (lo : Option Nat) (k : Nat) (x : α) (t : Tbl α) :
    Tbl.risingFrom lo ((k, x) :: t) = (Tbl.above lo k && Tbl.risingFrom (some k) t) := by
  cases lo <;> simp [Tbl.risingFrom, Tbl.above]

theorem Tbl.risingFrom_weaken {α : Type} (m : Tbl α) (l k : Nat) (lo : Option Nat) (hl : Tbl.above lo k = true) (h : k ≤ l)
    (hm : Tbl.risingFrom (some l) m = true) : Tbl.risingFrom lo m = true := by
  cases m with
  | nil => cases lo <;> rfl
  | cons p t =>
    obtain ⟨j, x⟩ := p
    rw [Tbl.risingFrom_cons] at hm ⊢
    simp only [Bool.and_eq_true] at hm ⊢
    refine ⟨?_, hm.2⟩
    have h1 : l < j := by simpa [Tbl.above] using hm.1
    cases lo with
    | none => rfl
    | some q =>
      have h2 : q < k := by simpa [Tbl.above] using hl
      simp only [Tbl.above, decide_eq_true_eq]
      omega

theorem Tbl.risingFrom_insert {α : Type} (m : Tbl α) (k : Nat) (v : α) (lo : Option Nat) (hk : Tbl.above lo k = true)
    (hm : Tbl.risingFrom lo m = true) : Tbl.risingFrom lo (Tbl.insert m k v) = true := by
  induction m generalizing lo with
  | nil => simp [Tbl.insert, Tbl.risingFrom_cons, hk, Tbl.risingFrom]
  | cons p t ih =>
    obtain ⟨j, x⟩ := p
    rw [Tbl.risingFrom_cons] at hm
    simp only [Bool.and_eq_true] at hm
    unfold Tbl.insert
    split
    · rename_i h
      have hj : Tbl.above (some k) j = true := decide_eq_true h
      simp [Tbl.risingFrom_cons, hk, hm.2, hj]
    · split
      · rename_i h
        subst h
        simp [Tbl.risingFrom_cons, hk, hm.2]
      · rw [Tbl.risingFrom_cons]
        simp only [Bool.and_eq_true]
        refine ⟨hm.1, ih (some j) ?_ hm.2⟩
        simp only [Tbl.above, decide_eq_true_eq]
        omega

theorem Tbl.risingFrom_filter {α : Type} (m : Tbl α) (p : Nat × α → Bool) (lo : Option Nat)
    (hm : Tbl.risingFrom lo m = true) : Tbl.risingFrom lo (m.filter p) = true := by
  induction m generalizing lo with
  | nil => exact hm
  | cons q t ih =>
    obtain ⟨j, x⟩ := q
    rw [Tbl.risingFrom_cons] at hm
    simp only [Bool.and_eq_true] at hm
    rw [List.filter_cons]
    split
    · rw [Tbl.risingFrom_cons]
      simp [hm.1, ih (some j) hm.2]
    · exact ih lo (Tbl.risingFrom_weaken t j j lo hm.1 (Nat.le_refl j) hm.2)

theorem Tbl.erase_eq_filter {α : Type} (m : Tbl α) (k : Nat) : Tbl.erase m k = m.filter (fun p => decide (p.1 ≠ k)) := by
  induction m with
  | nil => rfl
  | cons p t ih =>
    obtain ⟨j, x⟩ := p
    unfold Tbl.erase
    rw [List.filter_cons]
    by_cases h : j = k
    · simp [h, ih]
    · simp [h, ih]

/-- A filter of a table keeps its keys rising. -/
theorem Tbl.rising_filter {α : Type} (m : Tbl α) (p : Nat × α → Bool) (h : Tbl.rising m = true) :
    Tbl.rising (m.filter p) = true := Tbl.risingFrom_filter m p none h

/-- A write keeps the keys rising. -/
theorem Tbl.rising_put {α : Type} [DecidableEq α] (m : Tbl α) (k : Nat) (v d : α) (h : Tbl.rising m = true) :
    Tbl.rising (Tbl.put m k v d) = true := by
  unfold Tbl.put
  split
  · rw [Tbl.erase_eq_filter]
    exact Tbl.rising_filter m _ h
  · exact Tbl.risingFrom_insert m k v none rfl h

/-- A filter of a table brings in no default. -/
theorem Tbl.tight_filter {α : Type} [DecidableEq α] (d : α) (m : Tbl α) (p : Nat × α → Bool) (h : Tbl.tight d m = true) :
    Tbl.tight d (m.filter p) = true := by
  unfold Tbl.tight at h ⊢
  rw [List.all_eq_true] at h ⊢
  intro x hx
  exact h x (List.mem_filter.mp hx).1

theorem Tbl.tight_insert {α : Type} [DecidableEq α] (d : α) (m : Tbl α) (k : Nat) (v : α) (hv : v ≠ d)
    (h : Tbl.tight d m = true) : Tbl.tight d (Tbl.insert m k v) = true := by
  induction m with
  | nil => simp [Tbl.insert, Tbl.tight, hv]
  | cons p t ih =>
    obtain ⟨j, x⟩ := p
    simp only [Tbl.tight, List.all_cons, Bool.and_eq_true] at h
    have ht : Tbl.tight d t = true := h.2
    unfold Tbl.insert
    split
    · simp only [Tbl.tight, List.all_cons, Bool.and_eq_true]
      exact ⟨decide_eq_true hv, h.1, h.2⟩
    · split
      · simp only [Tbl.tight, List.all_cons, Bool.and_eq_true]
        exact ⟨decide_eq_true hv, h.2⟩
      · simp only [Tbl.tight, List.all_cons, Bool.and_eq_true]
        exact ⟨h.1, ih ht⟩

/-- A write lists no default. -/
theorem Tbl.tight_put {α : Type} [DecidableEq α] (m : Tbl α) (k : Nat) (v d : α) (h : Tbl.tight d m = true) :
    Tbl.tight d (Tbl.put m k v d) = true := by
  unfold Tbl.put
  split
  · rw [Tbl.erase_eq_filter]
    exact Tbl.tight_filter d m _ h
  · rename_i hv
    exact Tbl.tight_insert d m k v hv h

/-! ### Byte memories -/

/-- Every write of bytes keeps the canonical form. -/
theorem Mem.wf_write (d : Byte) (m : Mem) (a : Nat) (b : Bytes) (h : Mem.wf d m = true) : Mem.wf d (Mem.write d m a b) = true := by
  induction b generalizing m a with
  | nil => exact h
  | cons x t ih =>
    unfold Mem.write
    apply ih
    simp only [Mem.wf, Bool.and_eq_true] at h ⊢
    exact ⟨Tbl.rising_put m a x d h.1, Tbl.tight_put m a x d h.2⟩

/-- Taking bytes out of a memory keeps the canonical form. -/
theorem Mem.wf_filter (d : Byte) (m : Mem) (p : Nat × Byte → Bool) (h : Mem.wf d m = true) : Mem.wf d (m.filter p) = true := by
  simp only [Mem.wf, Bool.and_eq_true] at h ⊢
  exact ⟨Tbl.rising_filter m p h.1, Tbl.tight_filter d m p h.2⟩

/-- A write of bytes leaves every address outside it. -/
theorem Mem.get_write_of_lt (d : Byte) (m : Mem) (a k : Nat) (b : Bytes) (h : k < a ∨ a + b.length ≤ k) :
    Tbl.get (Mem.write d m a b) k d = Tbl.get m k d := by
  induction b generalizing m a with
  | nil => rfl
  | cons x t ih =>
    simp only [List.length_cons] at h
    unfold Mem.write
    rw [ih _ _ (by omega), Tbl.get_put_ne _ _ _ _ _ _ (by omega)]

/-- A byte written reads back. -/
theorem Mem.get_write_at (d : Byte) (m : Mem) (a k : Nat) (b : Bytes) (hk : k < b.length) :
    Tbl.get (Mem.write d m a b) (a + k) d = b[k] := by
  induction b generalizing m a k with
  | nil => simp at hk
  | cons x t ih =>
    unfold Mem.write
    cases k with
    | zero =>
      rw [Mem.get_write_of_lt _ _ _ _ _ (by omega)]
      simp
    | succ n =>
      have h1 : a + (n + 1) = a + 1 + n := by omega
      have h2 : n < t.length := by simpa using hk
      rw [h1, ih _ _ n h2]
      simp

/-- Bytes written read back. -/
theorem Mem.read_write (d : Byte) (m : Mem) (a : Nat) (b : Bytes) : Mem.read d (Mem.write d m a b) a b.length = b := by
  apply List.ext_getElem
  · simp [Mem.read]
  · intro i h1 h2
    simp [Mem.read, Mem.get_write_at d m a i b h2]

end Sys2Proof.Machine
end

