-- ==== Sys2Proof/Laws/Ops.lean ====
section
/-!
SUPPORT. What each shared operation does, once: register fields, rows of like things, free values, event-queue entries,
flags with their counters, and an outlet's change of state. Statements about commands cite these.
-/

namespace Sys2Proof.Machine

/-! ### Register fields -/

@[simp] theorem rget_rput_self (f : Fld) (v : Nat) (s : State) : rget (rput f v s) f = v % 2 ^ f.width := by
  simp [rget, rput]

theorem rget_rput_ne (f g : Fld) (v : Nat) (s : State) (h : fkey g ≠ fkey f) : rget (rput f v s) g = rget s g := by
  simp only [rget, rput]
  exact Tbl.get_put_ne _ _ _ _ _ _ h

/-- A register field reads from the register file alone. -/
theorem rget_congr {s t : State} (f : Fld) (h : t.regs = s.regs) : rget t f = rget s f := by simp [rget, h]

theorem rget_rsat_self (f : Fld) (k : Nat) (s : State) (h : rget s f < 2 ^ f.width) :
    rget (rsat f k s) f = min (2 ^ f.width - 1) (rget s f + k) := by
  have : min (2 ^ f.width - 1) (rget s f + k) < 2 ^ f.width := by omega
  simp [rsat, Nat.mod_eq_of_lt this]

theorem rget_rsat_ne (f g : Fld) (k : Nat) (s : State) (h : fkey g ≠ fkey f) : rget (rsat f k s) g = rget s g :=
  rget_rput_ne f g _ s h

@[simp] theorem rget_memWrite (a : Nat) (b : Bytes) (s : State) (r : Fld) : rget (memWrite a b s) r = rget s r := rfl
@[simp] theorem rget_flashWrite (a : Nat) (b : Bytes) (s : State) (r : Fld) : rget (flashWrite a b s) r = rget s r := rfl
@[simp] theorem rget_onOutlet (n : Nat) (f : Outlet → Outlet) (s : State) (r : Fld) : rget (onOutlet n f s) r = rget s r := rfl
@[simp] theorem rget_onCoil (c : Nat) (f : Coil → Coil) (s : State) (r : Fld) : rget (onCoil c f s) r = rget s r := rfl
@[simp] theorem rget_onGroup (g : Nat) (f : Group → Group) (s : State) (r : Fld) : rget (onGroup g f s) r = rget s r := rfl
@[simp] theorem rget_onBus (b : Nat) (f : BusSt → BusSt) (s : State) (r : Fld) : rget (onBus b f s) r = rget s r := rfl
@[simp] theorem rget_onIso (n : Nat) (f : IsoMon → IsoMon) (s : State) (r : Fld) : rget (onIso n f s) r = rget s r := rfl
@[simp] theorem rget_onSIn (i : Nat) (f : SIn → SIn) (s : State) (r : Fld) : rget (onSIn i f s) r = rget s r := rfl
@[simp] theorem rget_onSOut (x : Nat) (f : SOut → SOut) (s : State) (r : Fld) : rget (onSOut x f s) r = rget s r := rfl
@[simp] theorem rget_strmPut (k : Nat) (v : Int) (s : State) (r : Fld) : rget (strmPut k v s) r = rget s r := rfl

@[simp] theorem rget_freeNat (s : State) (g : Fld) : rget (freeNat s).2 g = rget s g := rfl

/-! ### Rows of like things -/

theorem Tab.get_upd_self {α : Type} {n : Nat} (d : α) (v : Vector α n) (i : Nat) (f : α → α) (h : i < n) :
    Tab.get d (Tab.upd v i f) i = f (Tab.get d v i) := by
  simp [Tab.get, Tab.upd, h]

theorem Tab.get_upd_ne {α : Type} {n : Nat} (d : α) (v : Vector α n) (i j : Nat) (f : α → α) (h : j ≠ i) :
    Tab.get d (Tab.upd v i f) j = Tab.get d v j := by
  unfold Tab.get Tab.upd
  by_cases hi : i < n <;> simp [hi]
  split
  · rw [Vector.getElem_set_ne] ; exact fun e => h e.symm
  · rfl

@[simp] theorem outlet_onOutlet_self (n : Nat) (f : Outlet → Outlet) (s : State) (h : n < 4) : outlet (onOutlet n f s) n = f (outlet s n) :=
  Tab.get_upd_self _ _ _ _ h

theorem outlet_onOutlet_ne (n m : Nat) (f : Outlet → Outlet) (s : State) (h : m ≠ n) : outlet (onOutlet n f s) m = outlet s m :=
  Tab.get_upd_ne _ _ _ _ _ h

@[simp] theorem coil_onCoil_self (n : Nat) (f : Coil → Coil) (s : State) (h : n < 64) : coil (onCoil n f s) n = f (coil s n) :=
  Tab.get_upd_self _ _ _ _ h

theorem coil_onCoil_ne (n m : Nat) (f : Coil → Coil) (s : State) (h : m ≠ n) : coil (onCoil n f s) m = coil s m :=
  Tab.get_upd_ne _ _ _ _ _ h

@[simp] theorem group_onGroup_self (n : Nat) (f : Group → Group) (s : State) (h : n < 16) : group (onGroup n f s) n = f (group s n) :=
  Tab.get_upd_self _ _ _ _ h

theorem group_onGroup_ne (n m : Nat) (f : Group → Group) (s : State) (h : m ≠ n) : group (onGroup n f s) m = group s m :=
  Tab.get_upd_ne _ _ _ _ _ h

@[simp] theorem busSt_onBus_self (n : Nat) (f : BusSt → BusSt) (s : State) (h : n < 8) : busSt (onBus n f s) n = f (busSt s n) :=
  Tab.get_upd_self _ _ _ _ h

theorem busSt_onBus_ne (n m : Nat) (f : BusSt → BusSt) (s : State) (h : m ≠ n) : busSt (onBus n f s) m = busSt s m :=
  Tab.get_upd_ne _ _ _ _ _ h

@[simp] theorem isoMon_onIso_self (n : Nat) (f : IsoMon → IsoMon) (s : State) (h : n < 4) : isoMon (onIso n f s) n = f (isoMon s n) :=
  Tab.get_upd_self _ _ _ _ h

theorem isoMon_onIso_ne (n m : Nat) (f : IsoMon → IsoMon) (s : State) (h : m ≠ n) : isoMon (onIso n f s) m = isoMon s m :=
  Tab.get_upd_ne _ _ _ _ _ h

@[simp] theorem sIn_onSIn_self (n : Nat) (f : SIn → SIn) (s : State) (h : n < 24) : sIn (onSIn n f s) n = f (sIn s n) :=
  Tab.get_upd_self _ _ _ _ h

theorem sIn_onSIn_ne (n m : Nat) (f : SIn → SIn) (s : State) (h : m ≠ n) : sIn (onSIn n f s) m = sIn s m :=
  Tab.get_upd_ne _ _ _ _ _ h

@[simp] theorem sOut_onSOut_self (n : Nat) (f : SOut → SOut) (s : State) (h : n < 4) : sOut (onSOut n f s) n = f (sOut s n) :=
  Tab.get_upd_self _ _ _ _ h

theorem sOut_onSOut_ne (n m : Nat) (f : SOut → SOut) (s : State) (h : m ≠ n) : sOut (onSOut n f s) m = sOut s m :=
  Tab.get_upd_ne _ _ _ _ _ h

/-! ### The event queue, flags and their counters -/

/-- An entry of the SAF event queue changes the queue, its overflow counter and the free-value counter. -/
theorem safPostAt_core (t a c d : Nat) (s : State) :
    safPostAt t a c d s = { s with regs := (safPostAt t a c d s).regs, saf := (safPostAt t a c d s).saf,
                                   freeCtr := (safPostAt t a c d s).freeCtr } := by
  unfold safPostAt; split <;> rfl

/-- Setting flags changes their registers, and the SAF event queue where the group has a source. -/
theorem flagSet_core (d : Nat) (f : Fld) (s : State) :
    flagSet d f s = { s with regs := (flagSet d f s).regs, saf := (flagSet d f s).saf, freeCtr := (flagSet d f s).freeCtr } := by
  unfold flagSet; split
  · unfold safPost; rw [safPostAt_core]; rfl
  · rfl

theorem flagSets_core (d : Nat) (fl : List Fld) (s : State) :
    fl.foldl (fun t f => flagSet d f t) s =
      { s with regs := (fl.foldl (fun t f => flagSet d f t) s).regs, saf := (fl.foldl (fun t f => flagSet d f t) s).saf,
               freeCtr := (fl.foldl (fun t f => flagSet d f t) s).freeCtr } := by
  induction fl generalizing s with
  | nil => rfl
  | cons f l ih => simp only [List.foldl_cons]; rw [ih (flagSet d f s), flagSet_core d f s]

theorem raiseData_core (d : Nat) (c : Fld) (fl : List Fld) (s : State) :
    raiseData d c fl s = { s with regs := (raiseData d c fl s).regs, saf := (raiseData d c fl s).saf,
                                  freeCtr := (raiseData d c fl s).freeCtr } := by
  unfold raiseData rsat rput; rw [flagSets_core d fl s]

@[simp] theorem safPost_pending (a c d : Nat) (s : State) : (safPost a c d s).pending = s.pending := by
  unfold safPost; rw [safPostAt_core]
@[simp] theorem raiseData_pending (d : Nat) (c : Fld) (fl : List Fld) (s : State) : (raiseData d c fl s).pending = s.pending := by
  rw [raiseData_core]
@[simp] theorem raise_pending (c : Fld) (fl : List Fld) (s : State) : (raise c fl s).pending = s.pending := raiseData_pending 0 c fl s
@[simp] theorem raiseIf_pending (b : Bool) (c : Fld) (fl : List Fld) (s : State) : (raiseIf b c fl s).pending = s.pending := by
  cases b <;> simp [raiseIf]
@[simp] theorem raiseSaf_pending (f : Fld) (s : State) : (raiseSaf f s).pending = s.pending := raiseData_pending _ _ _ s
@[simp] theorem raiseMtx_pending (f : Fld) (s : State) : (raiseMtx f s).pending = s.pending := raiseData_pending _ _ _ s
@[simp] theorem raiseLea_pending (f : Fld) (s : State) : (raiseLea f s).pending = s.pending := raiseData_pending _ _ _ s
@[simp] theorem raiseSio_pending (f : Fld) (c : Nat) (s : State) : (raiseSio f c s).pending = s.pending := raiseData_pending _ _ _ s
@[simp] theorem raiseOut_pending (n : Nat) (f : Nat → Fld) (s : State) : (raiseOut n f s).pending = s.pending := raiseData_pending _ _ _ s
@[simp] theorem safPost_resp (a c d : Nat) (s : State) : (safPost a c d s).resp = s.resp := by
  unfold safPost; rw [safPostAt_core]
@[simp] theorem raiseData_resp (d : Nat) (c : Fld) (fl : List Fld) (s : State) : (raiseData d c fl s).resp = s.resp := by
  rw [raiseData_core]
@[simp] theorem raise_resp (c : Fld) (fl : List Fld) (s : State) : (raise c fl s).resp = s.resp := raiseData_resp 0 c fl s
@[simp] theorem raiseIf_resp (b : Bool) (c : Fld) (fl : List Fld) (s : State) : (raiseIf b c fl s).resp = s.resp := by
  cases b <;> simp [raiseIf]
@[simp] theorem raiseSaf_resp (f : Fld) (s : State) : (raiseSaf f s).resp = s.resp := raiseData_resp _ _ _ s
@[simp] theorem raiseMtx_resp (f : Fld) (s : State) : (raiseMtx f s).resp = s.resp := raiseData_resp _ _ _ s
@[simp] theorem raiseLea_resp (f : Fld) (s : State) : (raiseLea f s).resp = s.resp := raiseData_resp _ _ _ s
@[simp] theorem raiseSio_resp (f : Fld) (c : Nat) (s : State) : (raiseSio f c s).resp = s.resp := raiseData_resp _ _ _ s
@[simp] theorem raiseOut_resp (n : Nat) (f : Nat → Fld) (s : State) : (raiseOut n f s).resp = s.resp := raiseData_resp _ _ _ s
@[simp] theorem safPost_shadow (a c d : Nat) (s : State) : (safPost a c d s).shadow = s.shadow := by
  unfold safPost; rw [safPostAt_core]
@[simp] theorem raiseData_shadow (d : Nat) (c : Fld) (fl : List Fld) (s : State) : (raiseData d c fl s).shadow = s.shadow := by
  rw [raiseData_core]
@[simp] theorem raise_shadow (c : Fld) (fl : List Fld) (s : State) : (raise c fl s).shadow = s.shadow := raiseData_shadow 0 c fl s
@[simp] theorem raiseIf_shadow (b : Bool) (c : Fld) (fl : List Fld) (s : State) : (raiseIf b c fl s).shadow = s.shadow := by
  cases b <;> simp [raiseIf]
@[simp] theorem raiseSaf_shadow (f : Fld) (s : State) : (raiseSaf f s).shadow = s.shadow := raiseData_shadow _ _ _ s
@[simp] theorem raiseMtx_shadow (f : Fld) (s : State) : (raiseMtx f s).shadow = s.shadow := raiseData_shadow _ _ _ s
@[simp] theorem raiseLea_shadow (f : Fld) (s : State) : (raiseLea f s).shadow = s.shadow := raiseData_shadow _ _ _ s
@[simp] theorem raiseSio_shadow (f : Fld) (c : Nat) (s : State) : (raiseSio f c s).shadow = s.shadow := raiseData_shadow _ _ _ s
@[simp] theorem raiseOut_shadow (n : Nat) (f : Nat → Fld) (s : State) : (raiseOut n f s).shadow = s.shadow := raiseData_shadow _ _ _ s
@[simp] theorem safPost_stage (a c d : Nat) (s : State) : (safPost a c d s).stage = s.stage := by
  unfold safPost; rw [safPostAt_core]
@[simp] theorem raiseData_stage (d : Nat) (c : Fld) (fl : List Fld) (s : State) : (raiseData d c fl s).stage = s.stage := by
  rw [raiseData_core]
@[simp] theorem raise_stage (c : Fld) (fl : List Fld) (s : State) : (raise c fl s).stage = s.stage := raiseData_stage 0 c fl s
@[simp] theorem raiseIf_stage (b : Bool) (c : Fld) (fl : List Fld) (s : State) : (raiseIf b c fl s).stage = s.stage := by
  cases b <;> simp [raiseIf]
@[simp] theorem raiseSaf_stage (f : Fld) (s : State) : (raiseSaf f s).stage = s.stage := raiseData_stage _ _ _ s
@[simp] theorem raiseMtx_stage (f : Fld) (s : State) : (raiseMtx f s).stage = s.stage := raiseData_stage _ _ _ s
@[simp] theorem raiseLea_stage (f : Fld) (s : State) : (raiseLea f s).stage = s.stage := raiseData_stage _ _ _ s
@[simp] theorem raiseSio_stage (f : Fld) (c : Nat) (s : State) : (raiseSio f c s).stage = s.stage := raiseData_stage _ _ _ s
@[simp] theorem raiseOut_stage (n : Nat) (f : Nat → Fld) (s : State) : (raiseOut n f s).stage = s.stage := raiseData_stage _ _ _ s
@[simp] theorem safPost_mem (a c d : Nat) (s : State) : (safPost a c d s).mem = s.mem := by
  unfold safPost; rw [safPostAt_core]
@[simp] theorem raiseData_mem (d : Nat) (c : Fld) (fl : List Fld) (s : State) : (raiseData d c fl s).mem = s.mem := by
  rw [raiseData_core]
@[simp] theorem raise_mem (c : Fld) (fl : List Fld) (s : State) : (raise c fl s).mem = s.mem := raiseData_mem 0 c fl s
@[simp] theorem raiseIf_mem (b : Bool) (c : Fld) (fl : List Fld) (s : State) : (raiseIf b c fl s).mem = s.mem := by
  cases b <;> simp [raiseIf]
@[simp] theorem raiseSaf_mem (f : Fld) (s : State) : (raiseSaf f s).mem = s.mem := raiseData_mem _ _ _ s
@[simp] theorem raiseMtx_mem (f : Fld) (s : State) : (raiseMtx f s).mem = s.mem := raiseData_mem _ _ _ s
@[simp] theorem raiseLea_mem (f : Fld) (s : State) : (raiseLea f s).mem = s.mem := raiseData_mem _ _ _ s
@[simp] theorem raiseSio_mem (f : Fld) (c : Nat) (s : State) : (raiseSio f c s).mem = s.mem := raiseData_mem _ _ _ s
@[simp] theorem raiseOut_mem (n : Nat) (f : Nat → Fld) (s : State) : (raiseOut n f s).mem = s.mem := raiseData_mem _ _ _ s
@[simp] theorem safPost_flash (a c d : Nat) (s : State) : (safPost a c d s).flash = s.flash := by
  unfold safPost; rw [safPostAt_core]
@[simp] theorem raiseData_flash (d : Nat) (c : Fld) (fl : List Fld) (s : State) : (raiseData d c fl s).flash = s.flash := by
  rw [raiseData_core]
@[simp] theorem raise_flash (c : Fld) (fl : List Fld) (s : State) : (raise c fl s).flash = s.flash := raiseData_flash 0 c fl s
@[simp] theorem raiseIf_flash (b : Bool) (c : Fld) (fl : List Fld) (s : State) : (raiseIf b c fl s).flash = s.flash := by
  cases b <;> simp [raiseIf]
@[simp] theorem raiseSaf_flash (f : Fld) (s : State) : (raiseSaf f s).flash = s.flash := raiseData_flash _ _ _ s
@[simp] theorem raiseMtx_flash (f : Fld) (s : State) : (raiseMtx f s).flash = s.flash := raiseData_flash _ _ _ s
@[simp] theorem raiseLea_flash (f : Fld) (s : State) : (raiseLea f s).flash = s.flash := raiseData_flash _ _ _ s
@[simp] theorem raiseSio_flash (f : Fld) (c : Nat) (s : State) : (raiseSio f c s).flash = s.flash := raiseData_flash _ _ _ s
@[simp] theorem raiseOut_flash (n : Nat) (f : Nat → Fld) (s : State) : (raiseOut n f s).flash = s.flash := raiseData_flash _ _ _ s
@[simp] theorem safPost_sec (a c d : Nat) (s : State) : (safPost a c d s).sec = s.sec := by
  unfold safPost; rw [safPostAt_core]
@[simp] theorem raiseData_sec (d : Nat) (c : Fld) (fl : List Fld) (s : State) : (raiseData d c fl s).sec = s.sec := by
  rw [raiseData_core]
@[simp] theorem raise_sec (c : Fld) (fl : List Fld) (s : State) : (raise c fl s).sec = s.sec := raiseData_sec 0 c fl s
@[simp] theorem raiseIf_sec (b : Bool) (c : Fld) (fl : List Fld) (s : State) : (raiseIf b c fl s).sec = s.sec := by
  cases b <;> simp [raiseIf]
@[simp] theorem raiseSaf_sec (f : Fld) (s : State) : (raiseSaf f s).sec = s.sec := raiseData_sec _ _ _ s
@[simp] theorem raiseMtx_sec (f : Fld) (s : State) : (raiseMtx f s).sec = s.sec := raiseData_sec _ _ _ s
@[simp] theorem raiseLea_sec (f : Fld) (s : State) : (raiseLea f s).sec = s.sec := raiseData_sec _ _ _ s
@[simp] theorem raiseSio_sec (f : Fld) (c : Nat) (s : State) : (raiseSio f c s).sec = s.sec := raiseData_sec _ _ _ s
@[simp] theorem raiseOut_sec (n : Nat) (f : Nat → Fld) (s : State) : (raiseOut n f s).sec = s.sec := raiseData_sec _ _ _ s
@[simp] theorem safPost_loaded (a c d : Nat) (s : State) : (safPost a c d s).loaded = s.loaded := by
  unfold safPost; rw [safPostAt_core]
@[simp] theorem raiseData_loaded (d : Nat) (c : Fld) (fl : List Fld) (s : State) : (raiseData d c fl s).loaded = s.loaded := by
  rw [raiseData_core]
@[simp] theorem raise_loaded (c : Fld) (fl : List Fld) (s : State) : (raise c fl s).loaded = s.loaded := raiseData_loaded 0 c fl s
@[simp] theorem raiseIf_loaded (b : Bool) (c : Fld) (fl : List Fld) (s : State) : (raiseIf b c fl s).loaded = s.loaded := by
  cases b <;> simp [raiseIf]
@[simp] theorem raiseSaf_loaded (f : Fld) (s : State) : (raiseSaf f s).loaded = s.loaded := raiseData_loaded _ _ _ s
@[simp] theorem raiseMtx_loaded (f : Fld) (s : State) : (raiseMtx f s).loaded = s.loaded := raiseData_loaded _ _ _ s
@[simp] theorem raiseLea_loaded (f : Fld) (s : State) : (raiseLea f s).loaded = s.loaded := raiseData_loaded _ _ _ s
@[simp] theorem raiseSio_loaded (f : Fld) (c : Nat) (s : State) : (raiseSio f c s).loaded = s.loaded := raiseData_loaded _ _ _ s
@[simp] theorem raiseOut_loaded (n : Nat) (f : Nat → Fld) (s : State) : (raiseOut n f s).loaded = s.loaded := raiseData_loaded _ _ _ s
@[simp] theorem safPost_tmp (a c d : Nat) (s : State) : (safPost a c d s).tmp = s.tmp := by
  unfold safPost; rw [safPostAt_core]
@[simp] theorem raiseData_tmp (d : Nat) (c : Fld) (fl : List Fld) (s : State) : (raiseData d c fl s).tmp = s.tmp := by
  rw [raiseData_core]
@[simp] theorem raise_tmp (c : Fld) (fl : List Fld) (s : State) : (raise c fl s).tmp = s.tmp := raiseData_tmp 0 c fl s
@[simp] theorem raiseIf_tmp (b : Bool) (c : Fld) (fl : List Fld) (s : State) : (raiseIf b c fl s).tmp = s.tmp := by
  cases b <;> simp [raiseIf]
@[simp] theorem raiseSaf_tmp (f : Fld) (s : State) : (raiseSaf f s).tmp = s.tmp := raiseData_tmp _ _ _ s
@[simp] theorem raiseMtx_tmp (f : Fld) (s : State) : (raiseMtx f s).tmp = s.tmp := raiseData_tmp _ _ _ s
@[simp] theorem raiseLea_tmp (f : Fld) (s : State) : (raiseLea f s).tmp = s.tmp := raiseData_tmp _ _ _ s
@[simp] theorem raiseSio_tmp (f : Fld) (c : Nat) (s : State) : (raiseSio f c s).tmp = s.tmp := raiseData_tmp _ _ _ s
@[simp] theorem raiseOut_tmp (n : Nat) (f : Nat → Fld) (s : State) : (raiseOut n f s).tmp = s.tmp := raiseData_tmp _ _ _ s
@[simp] theorem safPost_brd (a c d : Nat) (s : State) : (safPost a c d s).brd = s.brd := by
  unfold safPost; rw [safPostAt_core]
@[simp] theorem raiseData_brd (d : Nat) (c : Fld) (fl : List Fld) (s : State) : (raiseData d c fl s).brd = s.brd := by
  rw [raiseData_core]
@[simp] theorem raise_brd (c : Fld) (fl : List Fld) (s : State) : (raise c fl s).brd = s.brd := raiseData_brd 0 c fl s
@[simp] theorem raiseIf_brd (b : Bool) (c : Fld) (fl : List Fld) (s : State) : (raiseIf b c fl s).brd = s.brd := by
  cases b <;> simp [raiseIf]
@[simp] theorem raiseSaf_brd (f : Fld) (s : State) : (raiseSaf f s).brd = s.brd := raiseData_brd _ _ _ s
@[simp] theorem raiseMtx_brd (f : Fld) (s : State) : (raiseMtx f s).brd = s.brd := raiseData_brd _ _ _ s
@[simp] theorem raiseLea_brd (f : Fld) (s : State) : (raiseLea f s).brd = s.brd := raiseData_brd _ _ _ s
@[simp] theorem raiseSio_brd (f : Fld) (c : Nat) (s : State) : (raiseSio f c s).brd = s.brd := raiseData_brd _ _ _ s
@[simp] theorem raiseOut_brd (n : Nat) (f : Nat → Fld) (s : State) : (raiseOut n f s).brd = s.brd := raiseData_brd _ _ _ s
@[simp] theorem safPost_strm (a c d : Nat) (s : State) : (safPost a c d s).strm = s.strm := by
  unfold safPost; rw [safPostAt_core]
@[simp] theorem raiseData_strm (d : Nat) (c : Fld) (fl : List Fld) (s : State) : (raiseData d c fl s).strm = s.strm := by
  rw [raiseData_core]
@[simp] theorem raise_strm (c : Fld) (fl : List Fld) (s : State) : (raise c fl s).strm = s.strm := raiseData_strm 0 c fl s
@[simp] theorem raiseIf_strm (b : Bool) (c : Fld) (fl : List Fld) (s : State) : (raiseIf b c fl s).strm = s.strm := by
  cases b <;> simp [raiseIf]
@[simp] theorem raiseSaf_strm (f : Fld) (s : State) : (raiseSaf f s).strm = s.strm := raiseData_strm _ _ _ s
@[simp] theorem raiseMtx_strm (f : Fld) (s : State) : (raiseMtx f s).strm = s.strm := raiseData_strm _ _ _ s
@[simp] theorem raiseLea_strm (f : Fld) (s : State) : (raiseLea f s).strm = s.strm := raiseData_strm _ _ _ s
@[simp] theorem raiseSio_strm (f : Fld) (c : Nat) (s : State) : (raiseSio f c s).strm = s.strm := raiseData_strm _ _ _ s
@[simp] theorem raiseOut_strm (n : Nat) (f : Nat → Fld) (s : State) : (raiseOut n f s).strm = s.strm := raiseData_strm _ _ _ s
@[simp] theorem safPost_fz (a c d : Nat) (s : State) : (safPost a c d s).fz = s.fz := by
  unfold safPost; rw [safPostAt_core]
@[simp] theorem safPost_outsF (a c d : Nat) (s : State) : (safPost a c d s).outsF = s.outsF := by
  unfold safPost; rw [safPostAt_core]
@[simp] theorem raiseData_fz (d : Nat) (c : Fld) (fl : List Fld) (s : State) : (raiseData d c fl s).fz = s.fz := by
  rw [raiseData_core]
@[simp] theorem raiseData_outsF (d : Nat) (c : Fld) (fl : List Fld) (s : State) : (raiseData d c fl s).outsF = s.outsF := by
  rw [raiseData_core]
@[simp] theorem raise_fz (c : Fld) (fl : List Fld) (s : State) : (raise c fl s).fz = s.fz := raiseData_fz 0 c fl s
@[simp] theorem raise_outsF (c : Fld) (fl : List Fld) (s : State) : (raise c fl s).outsF = s.outsF := raiseData_outsF 0 c fl s
@[simp] theorem raiseIf_fz (b : Bool) (c : Fld) (fl : List Fld) (s : State) : (raiseIf b c fl s).fz = s.fz := by
  cases b <;> simp [raiseIf]
@[simp] theorem raiseIf_outsF (b : Bool) (c : Fld) (fl : List Fld) (s : State) : (raiseIf b c fl s).outsF = s.outsF := by
  cases b <;> simp [raiseIf]
@[simp] theorem raiseSaf_fz (f : Fld) (s : State) : (raiseSaf f s).fz = s.fz := raiseData_fz _ _ _ s
@[simp] theorem raiseSaf_outsF (f : Fld) (s : State) : (raiseSaf f s).outsF = s.outsF := raiseData_outsF _ _ _ s
@[simp] theorem raiseMtx_fz (f : Fld) (s : State) : (raiseMtx f s).fz = s.fz := raiseData_fz _ _ _ s
@[simp] theorem raiseMtx_outsF (f : Fld) (s : State) : (raiseMtx f s).outsF = s.outsF := raiseData_outsF _ _ _ s
@[simp] theorem raiseLea_fz (f : Fld) (s : State) : (raiseLea f s).fz = s.fz := raiseData_fz _ _ _ s
@[simp] theorem raiseLea_outsF (f : Fld) (s : State) : (raiseLea f s).outsF = s.outsF := raiseData_outsF _ _ _ s
@[simp] theorem raiseSio_fz (f : Fld) (c : Nat) (s : State) : (raiseSio f c s).fz = s.fz := raiseData_fz _ _ _ s
@[simp] theorem raiseSio_outsF (f : Fld) (c : Nat) (s : State) : (raiseSio f c s).outsF = s.outsF := raiseData_outsF _ _ _ s
@[simp] theorem raiseOut_fz (n : Nat) (f : Nat → Fld) (s : State) : (raiseOut n f s).fz = s.fz := raiseData_fz _ _ _ s
@[simp] theorem raiseOut_outsF (n : Nat) (f : Nat → Fld) (s : State) : (raiseOut n f s).outsF = s.outsF := raiseData_outsF _ _ _ s
@[simp] theorem safPost_outs (a c d : Nat) (s : State) : (safPost a c d s).outs = s.outs := by
  unfold safPost; rw [safPostAt_core]
@[simp] theorem raiseData_outs (d : Nat) (c : Fld) (fl : List Fld) (s : State) : (raiseData d c fl s).outs = s.outs := by
  rw [raiseData_core]
@[simp] theorem raise_outs (c : Fld) (fl : List Fld) (s : State) : (raise c fl s).outs = s.outs := raiseData_outs 0 c fl s
@[simp] theorem raiseIf_outs (b : Bool) (c : Fld) (fl : List Fld) (s : State) : (raiseIf b c fl s).outs = s.outs := by
  cases b <;> simp [raiseIf]
@[simp] theorem raiseSaf_outs (f : Fld) (s : State) : (raiseSaf f s).outs = s.outs := raiseData_outs _ _ _ s
@[simp] theorem raiseMtx_outs (f : Fld) (s : State) : (raiseMtx f s).outs = s.outs := raiseData_outs _ _ _ s
@[simp] theorem raiseLea_outs (f : Fld) (s : State) : (raiseLea f s).outs = s.outs := raiseData_outs _ _ _ s
@[simp] theorem raiseSio_outs (f : Fld) (c : Nat) (s : State) : (raiseSio f c s).outs = s.outs := raiseData_outs _ _ _ s
@[simp] theorem raiseOut_outs (n : Nat) (f : Nat → Fld) (s : State) : (raiseOut n f s).outs = s.outs := raiseData_outs _ _ _ s
@[simp] theorem safPost_mtx (a c d : Nat) (s : State) : (safPost a c d s).mtx = s.mtx := by
  unfold safPost; rw [safPostAt_core]
@[simp] theorem raiseData_mtx (d : Nat) (c : Fld) (fl : List Fld) (s : State) : (raiseData d c fl s).mtx = s.mtx := by
  rw [raiseData_core]
@[simp] theorem raise_mtx (c : Fld) (fl : List Fld) (s : State) : (raise c fl s).mtx = s.mtx := raiseData_mtx 0 c fl s
@[simp] theorem raiseIf_mtx (b : Bool) (c : Fld) (fl : List Fld) (s : State) : (raiseIf b c fl s).mtx = s.mtx := by
  cases b <;> simp [raiseIf]
@[simp] theorem raiseSaf_mtx (f : Fld) (s : State) : (raiseSaf f s).mtx = s.mtx := raiseData_mtx _ _ _ s
@[simp] theorem raiseMtx_mtx (f : Fld) (s : State) : (raiseMtx f s).mtx = s.mtx := raiseData_mtx _ _ _ s
@[simp] theorem raiseLea_mtx (f : Fld) (s : State) : (raiseLea f s).mtx = s.mtx := raiseData_mtx _ _ _ s
@[simp] theorem raiseSio_mtx (f : Fld) (c : Nat) (s : State) : (raiseSio f c s).mtx = s.mtx := raiseData_mtx _ _ _ s
@[simp] theorem raiseOut_mtx (n : Nat) (f : Nat → Fld) (s : State) : (raiseOut n f s).mtx = s.mtx := raiseData_mtx _ _ _ s
@[simp] theorem safPost_lea (a c d : Nat) (s : State) : (safPost a c d s).lea = s.lea := by
  unfold safPost; rw [safPostAt_core]
@[simp] theorem raiseData_lea (d : Nat) (c : Fld) (fl : List Fld) (s : State) : (raiseData d c fl s).lea = s.lea := by
  rw [raiseData_core]
@[simp] theorem raise_lea (c : Fld) (fl : List Fld) (s : State) : (raise c fl s).lea = s.lea := raiseData_lea 0 c fl s
@[simp] theorem raiseIf_lea (b : Bool) (c : Fld) (fl : List Fld) (s : State) : (raiseIf b c fl s).lea = s.lea := by
  cases b <;> simp [raiseIf]
@[simp] theorem raiseSaf_lea (f : Fld) (s : State) : (raiseSaf f s).lea = s.lea := raiseData_lea _ _ _ s
@[simp] theorem raiseMtx_lea (f : Fld) (s : State) : (raiseMtx f s).lea = s.lea := raiseData_lea _ _ _ s
@[simp] theorem raiseLea_lea (f : Fld) (s : State) : (raiseLea f s).lea = s.lea := raiseData_lea _ _ _ s
@[simp] theorem raiseSio_lea (f : Fld) (c : Nat) (s : State) : (raiseSio f c s).lea = s.lea := raiseData_lea _ _ _ s
@[simp] theorem raiseOut_lea (n : Nat) (f : Nat → Fld) (s : State) : (raiseOut n f s).lea = s.lea := raiseData_lea _ _ _ s
@[simp] theorem safPost_yrd (a c d : Nat) (s : State) : (safPost a c d s).yrd = s.yrd := by
  unfold safPost; rw [safPostAt_core]
@[simp] theorem raiseData_yrd (d : Nat) (c : Fld) (fl : List Fld) (s : State) : (raiseData d c fl s).yrd = s.yrd := by
  rw [raiseData_core]
@[simp] theorem raise_yrd (c : Fld) (fl : List Fld) (s : State) : (raise c fl s).yrd = s.yrd := raiseData_yrd 0 c fl s
@[simp] theorem raiseIf_yrd (b : Bool) (c : Fld) (fl : List Fld) (s : State) : (raiseIf b c fl s).yrd = s.yrd := by
  cases b <;> simp [raiseIf]
@[simp] theorem raiseSaf_yrd (f : Fld) (s : State) : (raiseSaf f s).yrd = s.yrd := raiseData_yrd _ _ _ s
@[simp] theorem raiseMtx_yrd (f : Fld) (s : State) : (raiseMtx f s).yrd = s.yrd := raiseData_yrd _ _ _ s
@[simp] theorem raiseLea_yrd (f : Fld) (s : State) : (raiseLea f s).yrd = s.yrd := raiseData_yrd _ _ _ s
@[simp] theorem raiseSio_yrd (f : Fld) (c : Nat) (s : State) : (raiseSio f c s).yrd = s.yrd := raiseData_yrd _ _ _ s
@[simp] theorem raiseOut_yrd (n : Nat) (f : Nat → Fld) (s : State) : (raiseOut n f s).yrd = s.yrd := raiseData_yrd _ _ _ s
@[simp] theorem safPost_net (a c d : Nat) (s : State) : (safPost a c d s).net = s.net := by
  unfold safPost; rw [safPostAt_core]
@[simp] theorem raiseData_net (d : Nat) (c : Fld) (fl : List Fld) (s : State) : (raiseData d c fl s).net = s.net := by
  rw [raiseData_core]
@[simp] theorem raise_net (c : Fld) (fl : List Fld) (s : State) : (raise c fl s).net = s.net := raiseData_net 0 c fl s
@[simp] theorem raiseIf_net (b : Bool) (c : Fld) (fl : List Fld) (s : State) : (raiseIf b c fl s).net = s.net := by
  cases b <;> simp [raiseIf]
@[simp] theorem raiseSaf_net (f : Fld) (s : State) : (raiseSaf f s).net = s.net := raiseData_net _ _ _ s
@[simp] theorem raiseMtx_net (f : Fld) (s : State) : (raiseMtx f s).net = s.net := raiseData_net _ _ _ s
@[simp] theorem raiseLea_net (f : Fld) (s : State) : (raiseLea f s).net = s.net := raiseData_net _ _ _ s
@[simp] theorem raiseSio_net (f : Fld) (c : Nat) (s : State) : (raiseSio f c s).net = s.net := raiseData_net _ _ _ s
@[simp] theorem raiseOut_net (n : Nat) (f : Nat → Fld) (s : State) : (raiseOut n f s).net = s.net := raiseData_net _ _ _ s
@[simp] theorem safPost_ua (a c d : Nat) (s : State) : (safPost a c d s).ua = s.ua := by
  unfold safPost; rw [safPostAt_core]
@[simp] theorem raiseData_ua (d : Nat) (c : Fld) (fl : List Fld) (s : State) : (raiseData d c fl s).ua = s.ua := by
  rw [raiseData_core]
@[simp] theorem raise_ua (c : Fld) (fl : List Fld) (s : State) : (raise c fl s).ua = s.ua := raiseData_ua 0 c fl s
@[simp] theorem raiseIf_ua (b : Bool) (c : Fld) (fl : List Fld) (s : State) : (raiseIf b c fl s).ua = s.ua := by
  cases b <;> simp [raiseIf]
@[simp] theorem raiseSaf_ua (f : Fld) (s : State) : (raiseSaf f s).ua = s.ua := raiseData_ua _ _ _ s
@[simp] theorem raiseMtx_ua (f : Fld) (s : State) : (raiseMtx f s).ua = s.ua := raiseData_ua _ _ _ s
@[simp] theorem raiseLea_ua (f : Fld) (s : State) : (raiseLea f s).ua = s.ua := raiseData_ua _ _ _ s
@[simp] theorem raiseSio_ua (f : Fld) (c : Nat) (s : State) : (raiseSio f c s).ua = s.ua := raiseData_ua _ _ _ s
@[simp] theorem raiseOut_ua (n : Nat) (f : Nat → Fld) (s : State) : (raiseOut n f s).ua = s.ua := raiseData_ua _ _ _ s
@[simp] theorem safPost_bil (a c d : Nat) (s : State) : (safPost a c d s).bil = s.bil := by
  unfold safPost; rw [safPostAt_core]
@[simp] theorem raiseData_bil (d : Nat) (c : Fld) (fl : List Fld) (s : State) : (raiseData d c fl s).bil = s.bil := by
  rw [raiseData_core]
@[simp] theorem raise_bil (c : Fld) (fl : List Fld) (s : State) : (raise c fl s).bil = s.bil := raiseData_bil 0 c fl s
@[simp] theorem raiseIf_bil (b : Bool) (c : Fld) (fl : List Fld) (s : State) : (raiseIf b c fl s).bil = s.bil := by
  cases b <;> simp [raiseIf]
@[simp] theorem raiseSaf_bil (f : Fld) (s : State) : (raiseSaf f s).bil = s.bil := raiseData_bil _ _ _ s
@[simp] theorem raiseMtx_bil (f : Fld) (s : State) : (raiseMtx f s).bil = s.bil := raiseData_bil _ _ _ s
@[simp] theorem raiseLea_bil (f : Fld) (s : State) : (raiseLea f s).bil = s.bil := raiseData_bil _ _ _ s
@[simp] theorem raiseSio_bil (f : Fld) (c : Nat) (s : State) : (raiseSio f c s).bil = s.bil := raiseData_bil _ _ _ s
@[simp] theorem raiseOut_bil (n : Nat) (f : Nat → Fld) (s : State) : (raiseOut n f s).bil = s.bil := raiseData_bil _ _ _ s
@[simp] theorem safPost_persist (a c d : Nat) (s : State) : (safPost a c d s).persist = s.persist := by
  unfold safPost; rw [safPostAt_core]
@[simp] theorem raiseData_persist (d : Nat) (c : Fld) (fl : List Fld) (s : State) : (raiseData d c fl s).persist = s.persist := by
  rw [raiseData_core]
@[simp] theorem raise_persist (c : Fld) (fl : List Fld) (s : State) : (raise c fl s).persist = s.persist := raiseData_persist 0 c fl s
@[simp] theorem raiseIf_persist (b : Bool) (c : Fld) (fl : List Fld) (s : State) : (raiseIf b c fl s).persist = s.persist := by
  cases b <;> simp [raiseIf]
@[simp] theorem raiseSaf_persist (f : Fld) (s : State) : (raiseSaf f s).persist = s.persist := raiseData_persist _ _ _ s
@[simp] theorem raiseMtx_persist (f : Fld) (s : State) : (raiseMtx f s).persist = s.persist := raiseData_persist _ _ _ s
@[simp] theorem raiseLea_persist (f : Fld) (s : State) : (raiseLea f s).persist = s.persist := raiseData_persist _ _ _ s
@[simp] theorem raiseSio_persist (f : Fld) (c : Nat) (s : State) : (raiseSio f c s).persist = s.persist := raiseData_persist _ _ _ s
@[simp] theorem raiseOut_persist (n : Nat) (f : Nat → Fld) (s : State) : (raiseOut n f s).persist = s.persist := raiseData_persist _ _ _ s
@[simp] theorem safPost_pwr (a c d : Nat) (s : State) : (safPost a c d s).pwr = s.pwr := by
  unfold safPost; rw [safPostAt_core]
@[simp] theorem raiseData_pwr (d : Nat) (c : Fld) (fl : List Fld) (s : State) : (raiseData d c fl s).pwr = s.pwr := by
  rw [raiseData_core]
@[simp] theorem raise_pwr (c : Fld) (fl : List Fld) (s : State) : (raise c fl s).pwr = s.pwr := raiseData_pwr 0 c fl s
@[simp] theorem raiseIf_pwr (b : Bool) (c : Fld) (fl : List Fld) (s : State) : (raiseIf b c fl s).pwr = s.pwr := by
  cases b <;> simp [raiseIf]
@[simp] theorem raiseSaf_pwr (f : Fld) (s : State) : (raiseSaf f s).pwr = s.pwr := raiseData_pwr _ _ _ s
@[simp] theorem raiseMtx_pwr (f : Fld) (s : State) : (raiseMtx f s).pwr = s.pwr := raiseData_pwr _ _ _ s
@[simp] theorem raiseLea_pwr (f : Fld) (s : State) : (raiseLea f s).pwr = s.pwr := raiseData_pwr _ _ _ s
@[simp] theorem raiseSio_pwr (f : Fld) (c : Nat) (s : State) : (raiseSio f c s).pwr = s.pwr := raiseData_pwr _ _ _ s
@[simp] theorem raiseOut_pwr (n : Nat) (f : Nat → Fld) (s : State) : (raiseOut n f s).pwr = s.pwr := raiseData_pwr _ _ _ s
@[simp] theorem safPost_fwu (a c d : Nat) (s : State) : (safPost a c d s).fwu = s.fwu := by
  unfold safPost; rw [safPostAt_core]
@[simp] theorem raiseData_fwu (d : Nat) (c : Fld) (fl : List Fld) (s : State) : (raiseData d c fl s).fwu = s.fwu := by
  rw [raiseData_core]
@[simp] theorem raise_fwu (c : Fld) (fl : List Fld) (s : State) : (raise c fl s).fwu = s.fwu := raiseData_fwu 0 c fl s
@[simp] theorem raiseIf_fwu (b : Bool) (c : Fld) (fl : List Fld) (s : State) : (raiseIf b c fl s).fwu = s.fwu := by
  cases b <;> simp [raiseIf]
@[simp] theorem raiseSaf_fwu (f : Fld) (s : State) : (raiseSaf f s).fwu = s.fwu := raiseData_fwu _ _ _ s
@[simp] theorem raiseMtx_fwu (f : Fld) (s : State) : (raiseMtx f s).fwu = s.fwu := raiseData_fwu _ _ _ s
@[simp] theorem raiseLea_fwu (f : Fld) (s : State) : (raiseLea f s).fwu = s.fwu := raiseData_fwu _ _ _ s
@[simp] theorem raiseSio_fwu (f : Fld) (c : Nat) (s : State) : (raiseSio f c s).fwu = s.fwu := raiseData_fwu _ _ _ s
@[simp] theorem raiseOut_fwu (n : Nat) (f : Nat → Fld) (s : State) : (raiseOut n f s).fwu = s.fwu := raiseData_fwu _ _ _ s
@[simp] theorem safPost_fram (a c d : Nat) (s : State) : (safPost a c d s).fram = s.fram := by
  unfold safPost; rw [safPostAt_core]
@[simp] theorem raiseData_fram (d : Nat) (c : Fld) (fl : List Fld) (s : State) : (raiseData d c fl s).fram = s.fram := by
  rw [raiseData_core]
@[simp] theorem raise_fram (c : Fld) (fl : List Fld) (s : State) : (raise c fl s).fram = s.fram := raiseData_fram 0 c fl s
@[simp] theorem raiseIf_fram (b : Bool) (c : Fld) (fl : List Fld) (s : State) : (raiseIf b c fl s).fram = s.fram := by
  cases b <;> simp [raiseIf]
@[simp] theorem raiseSaf_fram (f : Fld) (s : State) : (raiseSaf f s).fram = s.fram := raiseData_fram _ _ _ s
@[simp] theorem raiseMtx_fram (f : Fld) (s : State) : (raiseMtx f s).fram = s.fram := raiseData_fram _ _ _ s
@[simp] theorem raiseLea_fram (f : Fld) (s : State) : (raiseLea f s).fram = s.fram := raiseData_fram _ _ _ s
@[simp] theorem raiseSio_fram (f : Fld) (c : Nat) (s : State) : (raiseSio f c s).fram = s.fram := raiseData_fram _ _ _ s
@[simp] theorem raiseOut_fram (n : Nat) (f : Nat → Fld) (s : State) : (raiseOut n f s).fram = s.fram := raiseData_fram _ _ _ s
@[simp] theorem safPost_fuse (a c d : Nat) (s : State) : (safPost a c d s).fuse = s.fuse := by
  unfold safPost; rw [safPostAt_core]
@[simp] theorem raiseData_fuse (d : Nat) (c : Fld) (fl : List Fld) (s : State) : (raiseData d c fl s).fuse = s.fuse := by
  rw [raiseData_core]
@[simp] theorem raise_fuse (c : Fld) (fl : List Fld) (s : State) : (raise c fl s).fuse = s.fuse := raiseData_fuse 0 c fl s
@[simp] theorem raiseIf_fuse (b : Bool) (c : Fld) (fl : List Fld) (s : State) : (raiseIf b c fl s).fuse = s.fuse := by
  cases b <;> simp [raiseIf]
@[simp] theorem raiseSaf_fuse (f : Fld) (s : State) : (raiseSaf f s).fuse = s.fuse := raiseData_fuse _ _ _ s
@[simp] theorem raiseMtx_fuse (f : Fld) (s : State) : (raiseMtx f s).fuse = s.fuse := raiseData_fuse _ _ _ s
@[simp] theorem raiseLea_fuse (f : Fld) (s : State) : (raiseLea f s).fuse = s.fuse := raiseData_fuse _ _ _ s
@[simp] theorem raiseSio_fuse (f : Fld) (c : Nat) (s : State) : (raiseSio f c s).fuse = s.fuse := raiseData_fuse _ _ _ s
@[simp] theorem raiseOut_fuse (n : Nat) (f : Nat → Fld) (s : State) : (raiseOut n f s).fuse = s.fuse := raiseData_fuse _ _ _ s
@[simp] theorem safPost_mtr (a c d : Nat) (s : State) : (safPost a c d s).mtr = s.mtr := by
  unfold safPost; rw [safPostAt_core]
@[simp] theorem raiseData_mtr (d : Nat) (c : Fld) (fl : List Fld) (s : State) : (raiseData d c fl s).mtr = s.mtr := by
  rw [raiseData_core]
@[simp] theorem raise_mtr (c : Fld) (fl : List Fld) (s : State) : (raise c fl s).mtr = s.mtr := raiseData_mtr 0 c fl s
@[simp] theorem raiseIf_mtr (b : Bool) (c : Fld) (fl : List Fld) (s : State) : (raiseIf b c fl s).mtr = s.mtr := by
  cases b <;> simp [raiseIf]
@[simp] theorem raiseSaf_mtr (f : Fld) (s : State) : (raiseSaf f s).mtr = s.mtr := raiseData_mtr _ _ _ s
@[simp] theorem raiseMtx_mtr (f : Fld) (s : State) : (raiseMtx f s).mtr = s.mtr := raiseData_mtr _ _ _ s
@[simp] theorem raiseLea_mtr (f : Fld) (s : State) : (raiseLea f s).mtr = s.mtr := raiseData_mtr _ _ _ s
@[simp] theorem raiseSio_mtr (f : Fld) (c : Nat) (s : State) : (raiseSio f c s).mtr = s.mtr := raiseData_mtr _ _ _ s
@[simp] theorem raiseOut_mtr (n : Nat) (f : Nat → Fld) (s : State) : (raiseOut n f s).mtr = s.mtr := raiseData_mtr _ _ _ s
@[simp] theorem safPost_opt (a c d : Nat) (s : State) : (safPost a c d s).opt = s.opt := by
  unfold safPost; rw [safPostAt_core]
@[simp] theorem raiseData_opt (d : Nat) (c : Fld) (fl : List Fld) (s : State) : (raiseData d c fl s).opt = s.opt := by
  rw [raiseData_core]
@[simp] theorem raise_opt (c : Fld) (fl : List Fld) (s : State) : (raise c fl s).opt = s.opt := raiseData_opt 0 c fl s
@[simp] theorem raiseIf_opt (b : Bool) (c : Fld) (fl : List Fld) (s : State) : (raiseIf b c fl s).opt = s.opt := by
  cases b <;> simp [raiseIf]
@[simp] theorem raiseSaf_opt (f : Fld) (s : State) : (raiseSaf f s).opt = s.opt := raiseData_opt _ _ _ s
@[simp] theorem raiseMtx_opt (f : Fld) (s : State) : (raiseMtx f s).opt = s.opt := raiseData_opt _ _ _ s
@[simp] theorem raiseLea_opt (f : Fld) (s : State) : (raiseLea f s).opt = s.opt := raiseData_opt _ _ _ s
@[simp] theorem raiseSio_opt (f : Fld) (c : Nat) (s : State) : (raiseSio f c s).opt = s.opt := raiseData_opt _ _ _ s
@[simp] theorem raiseOut_opt (n : Nat) (f : Nat → Fld) (s : State) : (raiseOut n f s).opt = s.opt := raiseData_opt _ _ _ s
@[simp] theorem safPost_key (a c d : Nat) (s : State) : (safPost a c d s).key = s.key := by
  unfold safPost; rw [safPostAt_core]
@[simp] theorem raiseData_key (d : Nat) (c : Fld) (fl : List Fld) (s : State) : (raiseData d c fl s).key = s.key := by
  rw [raiseData_core]
@[simp] theorem raise_key (c : Fld) (fl : List Fld) (s : State) : (raise c fl s).key = s.key := raiseData_key 0 c fl s
@[simp] theorem raiseIf_key (b : Bool) (c : Fld) (fl : List Fld) (s : State) : (raiseIf b c fl s).key = s.key := by
  cases b <;> simp [raiseIf]
@[simp] theorem raiseSaf_key (f : Fld) (s : State) : (raiseSaf f s).key = s.key := raiseData_key _ _ _ s
@[simp] theorem raiseMtx_key (f : Fld) (s : State) : (raiseMtx f s).key = s.key := raiseData_key _ _ _ s
@[simp] theorem raiseLea_key (f : Fld) (s : State) : (raiseLea f s).key = s.key := raiseData_key _ _ _ s
@[simp] theorem raiseSio_key (f : Fld) (c : Nat) (s : State) : (raiseSio f c s).key = s.key := raiseData_key _ _ _ s
@[simp] theorem raiseOut_key (n : Nat) (f : Nat → Fld) (s : State) : (raiseOut n f s).key = s.key := raiseData_key _ _ _ s
@[simp] theorem safPost_legalSeg (a c d : Nat) (s : State) : (safPost a c d s).legalSeg = s.legalSeg := by
  unfold safPost; rw [safPostAt_core]
@[simp] theorem safPost_lcd (a c d : Nat) (s : State) : (safPost a c d s).lcd = s.lcd := by
  unfold safPost; rw [safPostAt_core]
@[simp] theorem raiseData_legalSeg (d : Nat) (c : Fld) (fl : List Fld) (s : State) : (raiseData d c fl s).legalSeg = s.legalSeg := by
  rw [raiseData_core]
@[simp] theorem raiseData_lcd (d : Nat) (c : Fld) (fl : List Fld) (s : State) : (raiseData d c fl s).lcd = s.lcd := by
  rw [raiseData_core]
@[simp] theorem raise_legalSeg (c : Fld) (fl : List Fld) (s : State) : (raise c fl s).legalSeg = s.legalSeg := raiseData_legalSeg 0 c fl s
@[simp] theorem raise_lcd (c : Fld) (fl : List Fld) (s : State) : (raise c fl s).lcd = s.lcd := raiseData_lcd 0 c fl s
@[simp] theorem raiseIf_legalSeg (b : Bool) (c : Fld) (fl : List Fld) (s : State) : (raiseIf b c fl s).legalSeg = s.legalSeg := by
  cases b <;> simp [raiseIf]
@[simp] theorem raiseIf_lcd (b : Bool) (c : Fld) (fl : List Fld) (s : State) : (raiseIf b c fl s).lcd = s.lcd := by
  cases b <;> simp [raiseIf]
@[simp] theorem raiseSaf_legalSeg (f : Fld) (s : State) : (raiseSaf f s).legalSeg = s.legalSeg := raiseData_legalSeg _ _ _ s
@[simp] theorem raiseSaf_lcd (f : Fld) (s : State) : (raiseSaf f s).lcd = s.lcd := raiseData_lcd _ _ _ s
@[simp] theorem raiseMtx_legalSeg (f : Fld) (s : State) : (raiseMtx f s).legalSeg = s.legalSeg := raiseData_legalSeg _ _ _ s
@[simp] theorem raiseMtx_lcd (f : Fld) (s : State) : (raiseMtx f s).lcd = s.lcd := raiseData_lcd _ _ _ s
@[simp] theorem raiseLea_legalSeg (f : Fld) (s : State) : (raiseLea f s).legalSeg = s.legalSeg := raiseData_legalSeg _ _ _ s
@[simp] theorem raiseLea_lcd (f : Fld) (s : State) : (raiseLea f s).lcd = s.lcd := raiseData_lcd _ _ _ s
@[simp] theorem raiseSio_legalSeg (f : Fld) (c : Nat) (s : State) : (raiseSio f c s).legalSeg = s.legalSeg := raiseData_legalSeg _ _ _ s
@[simp] theorem raiseSio_lcd (f : Fld) (c : Nat) (s : State) : (raiseSio f c s).lcd = s.lcd := raiseData_lcd _ _ _ s
@[simp] theorem raiseOut_legalSeg (n : Nat) (f : Nat → Fld) (s : State) : (raiseOut n f s).legalSeg = s.legalSeg := raiseData_legalSeg _ _ _ s
@[simp] theorem raiseOut_lcd (n : Nat) (f : Nat → Fld) (s : State) : (raiseOut n f s).lcd = s.lcd := raiseData_lcd _ _ _ s
@[simp] theorem safPost_veh (a c d : Nat) (s : State) : (safPost a c d s).veh = s.veh := by
  unfold safPost; rw [safPostAt_core]
@[simp] theorem raiseData_veh (d : Nat) (c : Fld) (fl : List Fld) (s : State) : (raiseData d c fl s).veh = s.veh := by
  rw [raiseData_core]
@[simp] theorem raise_veh (c : Fld) (fl : List Fld) (s : State) : (raise c fl s).veh = s.veh := raiseData_veh 0 c fl s
@[simp] theorem raiseIf_veh (b : Bool) (c : Fld) (fl : List Fld) (s : State) : (raiseIf b c fl s).veh = s.veh := by
  cases b <;> simp [raiseIf]
@[simp] theorem raiseSaf_veh (f : Fld) (s : State) : (raiseSaf f s).veh = s.veh := raiseData_veh _ _ _ s
@[simp] theorem raiseMtx_veh (f : Fld) (s : State) : (raiseMtx f s).veh = s.veh := raiseData_veh _ _ _ s
@[simp] theorem raiseLea_veh (f : Fld) (s : State) : (raiseLea f s).veh = s.veh := raiseData_veh _ _ _ s
@[simp] theorem raiseSio_veh (f : Fld) (c : Nat) (s : State) : (raiseSio f c s).veh = s.veh := raiseData_veh _ _ _ s
@[simp] theorem raiseOut_veh (n : Nat) (f : Nat → Fld) (s : State) : (raiseOut n f s).veh = s.veh := raiseData_veh _ _ _ s
@[simp] theorem safPost_hfr (a c d : Nat) (s : State) : (safPost a c d s).hfr = s.hfr := by
  unfold safPost; rw [safPostAt_core]
@[simp] theorem raiseData_hfr (d : Nat) (c : Fld) (fl : List Fld) (s : State) : (raiseData d c fl s).hfr = s.hfr := by
  rw [raiseData_core]
@[simp] theorem raise_hfr (c : Fld) (fl : List Fld) (s : State) : (raise c fl s).hfr = s.hfr := raiseData_hfr 0 c fl s
@[simp] theorem raiseIf_hfr (b : Bool) (c : Fld) (fl : List Fld) (s : State) : (raiseIf b c fl s).hfr = s.hfr := by
  cases b <;> simp [raiseIf]
@[simp] theorem raiseSaf_hfr (f : Fld) (s : State) : (raiseSaf f s).hfr = s.hfr := raiseData_hfr _ _ _ s
@[simp] theorem raiseMtx_hfr (f : Fld) (s : State) : (raiseMtx f s).hfr = s.hfr := raiseData_hfr _ _ _ s
@[simp] theorem raiseLea_hfr (f : Fld) (s : State) : (raiseLea f s).hfr = s.hfr := raiseData_hfr _ _ _ s
@[simp] theorem raiseSio_hfr (f : Fld) (c : Nat) (s : State) : (raiseSio f c s).hfr = s.hfr := raiseData_hfr _ _ _ s
@[simp] theorem raiseOut_hfr (n : Nat) (f : Nat → Fld) (s : State) : (raiseOut n f s).hfr = s.hfr := raiseData_hfr _ _ _ s
@[simp] theorem safPost_lch (a c d : Nat) (s : State) : (safPost a c d s).lch = s.lch := by
  unfold safPost; rw [safPostAt_core]
@[simp] theorem raiseData_lch (d : Nat) (c : Fld) (fl : List Fld) (s : State) : (raiseData d c fl s).lch = s.lch := by
  rw [raiseData_core]
@[simp] theorem raise_lch (c : Fld) (fl : List Fld) (s : State) : (raise c fl s).lch = s.lch := raiseData_lch 0 c fl s
@[simp] theorem raiseIf_lch (b : Bool) (c : Fld) (fl : List Fld) (s : State) : (raiseIf b c fl s).lch = s.lch := by
  cases b <;> simp [raiseIf]
@[simp] theorem raiseSaf_lch (f : Fld) (s : State) : (raiseSaf f s).lch = s.lch := raiseData_lch _ _ _ s
@[simp] theorem raiseMtx_lch (f : Fld) (s : State) : (raiseMtx f s).lch = s.lch := raiseData_lch _ _ _ s
@[simp] theorem raiseLea_lch (f : Fld) (s : State) : (raiseLea f s).lch = s.lch := raiseData_lch _ _ _ s
@[simp] theorem raiseSio_lch (f : Fld) (c : Nat) (s : State) : (raiseSio f c s).lch = s.lch := raiseData_lch _ _ _ s
@[simp] theorem raiseOut_lch (n : Nat) (f : Nat → Fld) (s : State) : (raiseOut n f s).lch = s.lch := raiseData_lch _ _ _ s
@[simp] theorem safPost_layDig (a c d : Nat) (s : State) : (safPost a c d s).layDig = s.layDig := by
  unfold safPost; rw [safPostAt_core]
@[simp] theorem raiseData_layDig (d : Nat) (c : Fld) (fl : List Fld) (s : State) : (raiseData d c fl s).layDig = s.layDig := by
  rw [raiseData_core]
@[simp] theorem raise_layDig (c : Fld) (fl : List Fld) (s : State) : (raise c fl s).layDig = s.layDig := raiseData_layDig 0 c fl s
@[simp] theorem raiseIf_layDig (b : Bool) (c : Fld) (fl : List Fld) (s : State) : (raiseIf b c fl s).layDig = s.layDig := by
  cases b <;> simp [raiseIf]
@[simp] theorem raiseSaf_layDig (f : Fld) (s : State) : (raiseSaf f s).layDig = s.layDig := raiseData_layDig _ _ _ s
@[simp] theorem raiseMtx_layDig (f : Fld) (s : State) : (raiseMtx f s).layDig = s.layDig := raiseData_layDig _ _ _ s
@[simp] theorem raiseLea_layDig (f : Fld) (s : State) : (raiseLea f s).layDig = s.layDig := raiseData_layDig _ _ _ s
@[simp] theorem raiseSio_layDig (f : Fld) (c : Nat) (s : State) : (raiseSio f c s).layDig = s.layDig := raiseData_layDig _ _ _ s
@[simp] theorem raiseOut_layDig (n : Nat) (f : Nat → Fld) (s : State) : (raiseOut n f s).layDig = s.layDig := raiseData_layDig _ _ _ s

/-- An entry of the queue leaves every register alone but the overflow counter. -/
theorem rget_safPost_ne (a c d : Nat) (s : State) (g : Fld) (h : fkey g ≠ fkey F.SAF_EVQOVF_COUNT) :
    rget (safPost a c d s) g = rget s g := by
  unfold safPost safPostAt; split
  · rfl
  · exact rget_rsat_ne _ _ _ _ h

/-- A flag set reads 1. -/
theorem rget_flagSet_self (d : Nat) (f : Fld) (s : State) (hw : 0 < f.width) (h : fkey f ≠ fkey F.SAF_EVQOVF_COUNT) :
    rget (flagSet d f s) f = 1 := by
  have e : 1 % 2 ^ f.width = 1 := Nat.mod_eq_of_lt (Nat.one_lt_two_pow (by omega))
  unfold flagSet; split
  · rw [rget_safPost_ne _ _ _ _ _ h]; simp [e]
  · simp [e]

theorem rget_flagSet_ne (d : Nat) (f g : Fld) (s : State) (hg : fkey g ≠ fkey f) (h : fkey g ≠ fkey F.SAF_EVQOVF_COUNT) :
    rget (flagSet d f s) g = rget s g := by
  unfold flagSet; split
  · rw [rget_safPost_ne _ _ _ _ _ h, rget_rput_ne _ _ _ _ hg]
  · exact rget_rput_ne _ _ _ _ hg

/-- One flag raised reads 1 (R38). -/
theorem rget_raiseData_flag (d : Nat) (c f : Fld) (s : State) (hw : 0 < f.width) (hc : fkey f ≠ fkey c)
    (h : fkey f ≠ fkey F.SAF_EVQOVF_COUNT) : rget (raiseData d c [f] s) f = 1 := by
  simp only [raiseData, List.foldl_cons, List.foldl_nil]
  rw [rget_rsat_ne _ _ _ _ hc, rget_flagSet_self d f s hw h]

/-- The group's counter advances by one, saturating (R39, R41). -/
theorem rget_raiseData_count (d : Nat) (c f : Fld) (s : State) (hc : fkey c ≠ fkey f)
    (h : fkey c ≠ fkey F.SAF_EVQOVF_COUNT) (hw : rget s c < 2 ^ c.width) :
    rget (raiseData d c [f] s) c = min (2 ^ c.width - 1) (rget s c + 1) := by
  simp only [raiseData, List.foldl_cons, List.foldl_nil]
  have e : rget (flagSet d f s) c = rget s c := rget_flagSet_ne d f c s hc h
  rw [rget_rsat_self _ _ _ (by rw [e]; exact hw), e]

/-- Every other register is left alone. -/
theorem rget_raiseData_ne (d : Nat) (c f g : Fld) (s : State) (hf : fkey g ≠ fkey f) (hc : fkey g ≠ fkey c)
    (h : fkey g ≠ fkey F.SAF_EVQOVF_COUNT) : rget (raiseData d c [f] s) g = rget s g := by
  simp only [raiseData, List.foldl_cons, List.foldl_nil]
  rw [rget_rsat_ne _ _ _ _ hc, rget_flagSet_ne d f g s hf h]

/-- Flags leave the safety state, inputs, outputs and proofs alone: only the event queue moves. -/
theorem safPostAt_saf (t a c d : Nat) (s : State) :
    (safPostAt t a c d s).saf = { s.saf with evq := (safPostAt t a c d s).saf.evq } := by
  unfold safPostAt; split <;> rfl

theorem flagSet_saf (d : Nat) (f : Fld) (s : State) : (flagSet d f s).saf = { s.saf with evq := (flagSet d f s).saf.evq } := by
  unfold flagSet; split
  · unfold safPost; rw [safPostAt_saf]; rfl
  · rfl

theorem flagSets_saf (d : Nat) (fl : List Fld) (s : State) :
    (fl.foldl (fun t f => flagSet d f t) s).saf = { s.saf with evq := (fl.foldl (fun t f => flagSet d f t) s).saf.evq } := by
  induction fl generalizing s with
  | nil => rfl
  | cons f l ih => simp only [List.foldl_cons]; rw [ih (flagSet d f s), flagSet_saf d f s]

theorem raiseData_saf (d : Nat) (c : Fld) (fl : List Fld) (s : State) :
    (raiseData d c fl s).saf = { s.saf with evq := (raiseData d c fl s).saf.evq } := by
  unfold raiseData; exact flagSets_saf d fl s


@[simp] theorem raiseData_saf_st (d : Nat) (c : Fld) (fl : List Fld) (s : State) : (raiseData d c fl s).saf.st = s.saf.st := by
  rw [raiseData_saf]
@[simp] theorem raise_saf_st (c : Fld) (fl : List Fld) (s : State) : (raise c fl s).saf.st = s.saf.st := raiseData_saf_st 0 c fl s
@[simp] theorem raiseSaf_saf_st (f : Fld) (s : State) : (raiseSaf f s).saf.st = s.saf.st := raiseData_saf_st _ _ _ s
@[simp] theorem raiseMtx_saf_st (f : Fld) (s : State) : (raiseMtx f s).saf.st = s.saf.st := raiseData_saf_st _ _ _ s
@[simp] theorem raiseLea_saf_st (f : Fld) (s : State) : (raiseLea f s).saf.st = s.saf.st := raiseData_saf_st _ _ _ s
@[simp] theorem raiseSio_saf_st (f : Fld) (c : Nat) (s : State) : (raiseSio f c s).saf.st = s.saf.st := raiseData_saf_st _ _ _ s
@[simp] theorem raiseOut_saf_st (n : Nat) (f : Nat → Fld) (s : State) : (raiseOut n f s).saf.st = s.saf.st := raiseData_saf_st _ _ _ s
@[simp] theorem safPost_saf_st (a c d : Nat) (s : State) : (safPost a c d s).saf.st = s.saf.st := by
  unfold safPost; rw [safPostAt_saf]
@[simp] theorem raiseData_saf_since (d : Nat) (c : Fld) (fl : List Fld) (s : State) : (raiseData d c fl s).saf.since = s.saf.since := by
  rw [raiseData_saf]
@[simp] theorem raise_saf_since (c : Fld) (fl : List Fld) (s : State) : (raise c fl s).saf.since = s.saf.since := raiseData_saf_since 0 c fl s
@[simp] theorem raiseSaf_saf_since (f : Fld) (s : State) : (raiseSaf f s).saf.since = s.saf.since := raiseData_saf_since _ _ _ s
@[simp] theorem raiseMtx_saf_since (f : Fld) (s : State) : (raiseMtx f s).saf.since = s.saf.since := raiseData_saf_since _ _ _ s
@[simp] theorem raiseLea_saf_since (f : Fld) (s : State) : (raiseLea f s).saf.since = s.saf.since := raiseData_saf_since _ _ _ s
@[simp] theorem raiseSio_saf_since (f : Fld) (c : Nat) (s : State) : (raiseSio f c s).saf.since = s.saf.since := raiseData_saf_since _ _ _ s
@[simp] theorem raiseOut_saf_since (n : Nat) (f : Nat → Fld) (s : State) : (raiseOut n f s).saf.since = s.saf.since := raiseData_saf_since _ _ _ s
@[simp] theorem safPost_saf_since (a c d : Nat) (s : State) : (safPost a c d s).saf.since = s.saf.since := by
  unfold safPost; rw [safPostAt_saf]
@[simp] theorem raiseData_saf_held (d : Nat) (c : Fld) (fl : List Fld) (s : State) : (raiseData d c fl s).saf.held = s.saf.held := by
  rw [raiseData_saf]
@[simp] theorem raise_saf_held (c : Fld) (fl : List Fld) (s : State) : (raise c fl s).saf.held = s.saf.held := raiseData_saf_held 0 c fl s
@[simp] theorem raiseSaf_saf_held (f : Fld) (s : State) : (raiseSaf f s).saf.held = s.saf.held := raiseData_saf_held _ _ _ s
@[simp] theorem raiseMtx_saf_held (f : Fld) (s : State) : (raiseMtx f s).saf.held = s.saf.held := raiseData_saf_held _ _ _ s
@[simp] theorem raiseLea_saf_held (f : Fld) (s : State) : (raiseLea f s).saf.held = s.saf.held := raiseData_saf_held _ _ _ s
@[simp] theorem raiseSio_saf_held (f : Fld) (c : Nat) (s : State) : (raiseSio f c s).saf.held = s.saf.held := raiseData_saf_held _ _ _ s
@[simp] theorem raiseOut_saf_held (n : Nat) (f : Nat → Fld) (s : State) : (raiseOut n f s).saf.held = s.saf.held := raiseData_saf_held _ _ _ s
@[simp] theorem safPost_saf_held (a c d : Nat) (s : State) : (safPost a c d s).saf.held = s.saf.held := by
  unfold safPost; rw [safPostAt_saf]
@[simp] theorem raiseData_saf_kept (d : Nat) (c : Fld) (fl : List Fld) (s : State) : (raiseData d c fl s).saf.kept = s.saf.kept := by
  rw [raiseData_saf]
@[simp] theorem raise_saf_kept (c : Fld) (fl : List Fld) (s : State) : (raise c fl s).saf.kept = s.saf.kept := raiseData_saf_kept 0 c fl s
@[simp] theorem raiseSaf_saf_kept (f : Fld) (s : State) : (raiseSaf f s).saf.kept = s.saf.kept := raiseData_saf_kept _ _ _ s
@[simp] theorem raiseMtx_saf_kept (f : Fld) (s : State) : (raiseMtx f s).saf.kept = s.saf.kept := raiseData_saf_kept _ _ _ s
@[simp] theorem raiseLea_saf_kept (f : Fld) (s : State) : (raiseLea f s).saf.kept = s.saf.kept := raiseData_saf_kept _ _ _ s
@[simp] theorem raiseSio_saf_kept (f : Fld) (c : Nat) (s : State) : (raiseSio f c s).saf.kept = s.saf.kept := raiseData_saf_kept _ _ _ s
@[simp] theorem raiseOut_saf_kept (n : Nat) (f : Nat → Fld) (s : State) : (raiseOut n f s).saf.kept = s.saf.kept := raiseData_saf_kept _ _ _ s
@[simp] theorem safPost_saf_kept (a c d : Nat) (s : State) : (safPost a c d s).saf.kept = s.saf.kept := by
  unfold safPost; rw [safPostAt_saf]
@[simp] theorem raiseData_saf_hold (d : Nat) (c : Fld) (fl : List Fld) (s : State) : (raiseData d c fl s).saf.hold = s.saf.hold := by
  rw [raiseData_saf]
@[simp] theorem raise_saf_hold (c : Fld) (fl : List Fld) (s : State) : (raise c fl s).saf.hold = s.saf.hold := raiseData_saf_hold 0 c fl s
@[simp] theorem raiseSaf_saf_hold (f : Fld) (s : State) : (raiseSaf f s).saf.hold = s.saf.hold := raiseData_saf_hold _ _ _ s
@[simp] theorem raiseMtx_saf_hold (f : Fld) (s : State) : (raiseMtx f s).saf.hold = s.saf.hold := raiseData_saf_hold _ _ _ s
@[simp] theorem raiseLea_saf_hold (f : Fld) (s : State) : (raiseLea f s).saf.hold = s.saf.hold := raiseData_saf_hold _ _ _ s
@[simp] theorem raiseSio_saf_hold (f : Fld) (c : Nat) (s : State) : (raiseSio f c s).saf.hold = s.saf.hold := raiseData_saf_hold _ _ _ s
@[simp] theorem raiseOut_saf_hold (n : Nat) (f : Nat → Fld) (s : State) : (raiseOut n f s).saf.hold = s.saf.hold := raiseData_saf_hold _ _ _ s
@[simp] theorem safPost_saf_hold (a c d : Nat) (s : State) : (safPost a c d s).saf.hold = s.saf.hold := by
  unfold safPost; rw [safPostAt_saf]
@[simp] theorem raiseData_saf_bistOk (d : Nat) (c : Fld) (fl : List Fld) (s : State) : (raiseData d c fl s).saf.bistOk = s.saf.bistOk := by
  rw [raiseData_saf]
@[simp] theorem raise_saf_bistOk (c : Fld) (fl : List Fld) (s : State) : (raise c fl s).saf.bistOk = s.saf.bistOk := raiseData_saf_bistOk 0 c fl s
@[simp] theorem raiseSaf_saf_bistOk (f : Fld) (s : State) : (raiseSaf f s).saf.bistOk = s.saf.bistOk := raiseData_saf_bistOk _ _ _ s
@[simp] theorem raiseMtx_saf_bistOk (f : Fld) (s : State) : (raiseMtx f s).saf.bistOk = s.saf.bistOk := raiseData_saf_bistOk _ _ _ s
@[simp] theorem raiseLea_saf_bistOk (f : Fld) (s : State) : (raiseLea f s).saf.bistOk = s.saf.bistOk := raiseData_saf_bistOk _ _ _ s
@[simp] theorem raiseSio_saf_bistOk (f : Fld) (c : Nat) (s : State) : (raiseSio f c s).saf.bistOk = s.saf.bistOk := raiseData_saf_bistOk _ _ _ s
@[simp] theorem raiseOut_saf_bistOk (n : Nat) (f : Nat → Fld) (s : State) : (raiseOut n f s).saf.bistOk = s.saf.bistOk := raiseData_saf_bistOk _ _ _ s
@[simp] theorem safPost_saf_bistOk (a c d : Nat) (s : State) : (safPost a c d s).saf.bistOk = s.saf.bistOk := by
  unfold safPost; rw [safPostAt_saf]
@[simp] theorem raiseData_saf_cur (d : Nat) (c : Fld) (fl : List Fld) (s : State) : (raiseData d c fl s).saf.cur = s.saf.cur := by
  rw [raiseData_saf]
@[simp] theorem raise_saf_cur (c : Fld) (fl : List Fld) (s : State) : (raise c fl s).saf.cur = s.saf.cur := raiseData_saf_cur 0 c fl s
@[simp] theorem raiseSaf_saf_cur (f : Fld) (s : State) : (raiseSaf f s).saf.cur = s.saf.cur := raiseData_saf_cur _ _ _ s
@[simp] theorem raiseMtx_saf_cur (f : Fld) (s : State) : (raiseMtx f s).saf.cur = s.saf.cur := raiseData_saf_cur _ _ _ s
@[simp] theorem raiseLea_saf_cur (f : Fld) (s : State) : (raiseLea f s).saf.cur = s.saf.cur := raiseData_saf_cur _ _ _ s
@[simp] theorem raiseSio_saf_cur (f : Fld) (c : Nat) (s : State) : (raiseSio f c s).saf.cur = s.saf.cur := raiseData_saf_cur _ _ _ s
@[simp] theorem raiseOut_saf_cur (n : Nat) (f : Nat → Fld) (s : State) : (raiseOut n f s).saf.cur = s.saf.cur := raiseData_saf_cur _ _ _ s
@[simp] theorem safPost_saf_cur (a c d : Nat) (s : State) : (safPost a c d s).saf.cur = s.saf.cur := by
  unfold safPost; rw [safPostAt_saf]
@[simp] theorem raiseData_saf_prev (d : Nat) (c : Fld) (fl : List Fld) (s : State) : (raiseData d c fl s).saf.prev = s.saf.prev := by
  rw [raiseData_saf]
@[simp] theorem raise_saf_prev (c : Fld) (fl : List Fld) (s : State) : (raise c fl s).saf.prev = s.saf.prev := raiseData_saf_prev 0 c fl s
@[simp] theorem raiseSaf_saf_prev (f : Fld) (s : State) : (raiseSaf f s).saf.prev = s.saf.prev := raiseData_saf_prev _ _ _ s
@[simp] theorem raiseMtx_saf_prev (f : Fld) (s : State) : (raiseMtx f s).saf.prev = s.saf.prev := raiseData_saf_prev _ _ _ s
@[simp] theorem raiseLea_saf_prev (f : Fld) (s : State) : (raiseLea f s).saf.prev = s.saf.prev := raiseData_saf_prev _ _ _ s
@[simp] theorem raiseSio_saf_prev (f : Fld) (c : Nat) (s : State) : (raiseSio f c s).saf.prev = s.saf.prev := raiseData_saf_prev _ _ _ s
@[simp] theorem raiseOut_saf_prev (n : Nat) (f : Nat → Fld) (s : State) : (raiseOut n f s).saf.prev = s.saf.prev := raiseData_saf_prev _ _ _ s
@[simp] theorem safPost_saf_prev (a c d : Nat) (s : State) : (safPost a c d s).saf.prev = s.saf.prev := by
  unfold safPost; rw [safPostAt_saf]
@[simp] theorem raiseData_saf_toCheck (d : Nat) (c : Fld) (fl : List Fld) (s : State) : (raiseData d c fl s).saf.toCheck = s.saf.toCheck := by
  rw [raiseData_saf]
@[simp] theorem raise_saf_toCheck (c : Fld) (fl : List Fld) (s : State) : (raise c fl s).saf.toCheck = s.saf.toCheck := raiseData_saf_toCheck 0 c fl s
@[simp] theorem raiseSaf_saf_toCheck (f : Fld) (s : State) : (raiseSaf f s).saf.toCheck = s.saf.toCheck := raiseData_saf_toCheck _ _ _ s
@[simp] theorem raiseMtx_saf_toCheck (f : Fld) (s : State) : (raiseMtx f s).saf.toCheck = s.saf.toCheck := raiseData_saf_toCheck _ _ _ s
@[simp] theorem raiseLea_saf_toCheck (f : Fld) (s : State) : (raiseLea f s).saf.toCheck = s.saf.toCheck := raiseData_saf_toCheck _ _ _ s
@[simp] theorem raiseSio_saf_toCheck (f : Fld) (c : Nat) (s : State) : (raiseSio f c s).saf.toCheck = s.saf.toCheck := raiseData_saf_toCheck _ _ _ s
@[simp] theorem raiseOut_saf_toCheck (n : Nat) (f : Nat → Fld) (s : State) : (raiseOut n f s).saf.toCheck = s.saf.toCheck := raiseData_saf_toCheck _ _ _ s
@[simp] theorem safPost_saf_toCheck (a c d : Nat) (s : State) : (safPost a c d s).saf.toCheck = s.saf.toCheck := by
  unfold safPost; rw [safPostAt_saf]
@[simp] theorem raiseData_saf_toMate (d : Nat) (c : Fld) (fl : List Fld) (s : State) : (raiseData d c fl s).saf.toMate = s.saf.toMate := by
  rw [raiseData_saf]
@[simp] theorem raise_saf_toMate (c : Fld) (fl : List Fld) (s : State) : (raise c fl s).saf.toMate = s.saf.toMate := raiseData_saf_toMate 0 c fl s
@[simp] theorem raiseSaf_saf_toMate (f : Fld) (s : State) : (raiseSaf f s).saf.toMate = s.saf.toMate := raiseData_saf_toMate _ _ _ s
@[simp] theorem raiseMtx_saf_toMate (f : Fld) (s : State) : (raiseMtx f s).saf.toMate = s.saf.toMate := raiseData_saf_toMate _ _ _ s
@[simp] theorem raiseLea_saf_toMate (f : Fld) (s : State) : (raiseLea f s).saf.toMate = s.saf.toMate := raiseData_saf_toMate _ _ _ s
@[simp] theorem raiseSio_saf_toMate (f : Fld) (c : Nat) (s : State) : (raiseSio f c s).saf.toMate = s.saf.toMate := raiseData_saf_toMate _ _ _ s
@[simp] theorem raiseOut_saf_toMate (n : Nat) (f : Nat → Fld) (s : State) : (raiseOut n f s).saf.toMate = s.saf.toMate := raiseData_saf_toMate _ _ _ s
@[simp] theorem safPost_saf_toMate (a c d : Nat) (s : State) : (safPost a c d s).saf.toMate = s.saf.toMate := by
  unfold safPost; rw [safPostAt_saf]
@[simp] theorem raiseData_saf_toRun (d : Nat) (c : Fld) (fl : List Fld) (s : State) : (raiseData d c fl s).saf.toRun = s.saf.toRun := by
  rw [raiseData_saf]
@[simp] theorem raise_saf_toRun (c : Fld) (fl : List Fld) (s : State) : (raise c fl s).saf.toRun = s.saf.toRun := raiseData_saf_toRun 0 c fl s
@[simp] theorem raiseSaf_saf_toRun (f : Fld) (s : State) : (raiseSaf f s).saf.toRun = s.saf.toRun := raiseData_saf_toRun _ _ _ s
@[simp] theorem raiseMtx_saf_toRun (f : Fld) (s : State) : (raiseMtx f s).saf.toRun = s.saf.toRun := raiseData_saf_toRun _ _ _ s
@[simp] theorem raiseLea_saf_toRun (f : Fld) (s : State) : (raiseLea f s).saf.toRun = s.saf.toRun := raiseData_saf_toRun _ _ _ s
@[simp] theorem raiseSio_saf_toRun (f : Fld) (c : Nat) (s : State) : (raiseSio f c s).saf.toRun = s.saf.toRun := raiseData_saf_toRun _ _ _ s
@[simp] theorem raiseOut_saf_toRun (n : Nat) (f : Nat → Fld) (s : State) : (raiseOut n f s).saf.toRun = s.saf.toRun := raiseData_saf_toRun _ _ _ s
@[simp] theorem safPost_saf_toRun (a c d : Nat) (s : State) : (safPost a c d s).saf.toRun = s.saf.toRun := by
  unfold safPost; rw [safPostAt_saf]
@[simp] theorem raiseData_saf_resetPulse (d : Nat) (c : Fld) (fl : List Fld) (s : State) : (raiseData d c fl s).saf.resetPulse = s.saf.resetPulse := by
  rw [raiseData_saf]
@[simp] theorem raise_saf_resetPulse (c : Fld) (fl : List Fld) (s : State) : (raise c fl s).saf.resetPulse = s.saf.resetPulse := raiseData_saf_resetPulse 0 c fl s
@[simp] theorem raiseSaf_saf_resetPulse (f : Fld) (s : State) : (raiseSaf f s).saf.resetPulse = s.saf.resetPulse := raiseData_saf_resetPulse _ _ _ s
@[simp] theorem raiseMtx_saf_resetPulse (f : Fld) (s : State) : (raiseMtx f s).saf.resetPulse = s.saf.resetPulse := raiseData_saf_resetPulse _ _ _ s
@[simp] theorem raiseLea_saf_resetPulse (f : Fld) (s : State) : (raiseLea f s).saf.resetPulse = s.saf.resetPulse := raiseData_saf_resetPulse _ _ _ s
@[simp] theorem raiseSio_saf_resetPulse (f : Fld) (c : Nat) (s : State) : (raiseSio f c s).saf.resetPulse = s.saf.resetPulse := raiseData_saf_resetPulse _ _ _ s
@[simp] theorem raiseOut_saf_resetPulse (n : Nat) (f : Nat → Fld) (s : State) : (raiseOut n f s).saf.resetPulse = s.saf.resetPulse := raiseData_saf_resetPulse _ _ _ s
@[simp] theorem safPost_saf_resetPulse (a c d : Nat) (s : State) : (safPost a c d s).saf.resetPulse = s.saf.resetPulse := by
  unfold safPost; rw [safPostAt_saf]
@[simp] theorem raiseData_saf_resetPulseNext (d : Nat) (c : Fld) (fl : List Fld) (s : State) : (raiseData d c fl s).saf.resetPulseNext = s.saf.resetPulseNext := by
  rw [raiseData_saf]
@[simp] theorem raise_saf_resetPulseNext (c : Fld) (fl : List Fld) (s : State) : (raise c fl s).saf.resetPulseNext = s.saf.resetPulseNext := raiseData_saf_resetPulseNext 0 c fl s
@[simp] theorem raiseSaf_saf_resetPulseNext (f : Fld) (s : State) : (raiseSaf f s).saf.resetPulseNext = s.saf.resetPulseNext := raiseData_saf_resetPulseNext _ _ _ s
@[simp] theorem raiseMtx_saf_resetPulseNext (f : Fld) (s : State) : (raiseMtx f s).saf.resetPulseNext = s.saf.resetPulseNext := raiseData_saf_resetPulseNext _ _ _ s
@[simp] theorem raiseLea_saf_resetPulseNext (f : Fld) (s : State) : (raiseLea f s).saf.resetPulseNext = s.saf.resetPulseNext := raiseData_saf_resetPulseNext _ _ _ s
@[simp] theorem raiseSio_saf_resetPulseNext (f : Fld) (c : Nat) (s : State) : (raiseSio f c s).saf.resetPulseNext = s.saf.resetPulseNext := raiseData_saf_resetPulseNext _ _ _ s
@[simp] theorem raiseOut_saf_resetPulseNext (n : Nat) (f : Nat → Fld) (s : State) : (raiseOut n f s).saf.resetPulseNext = s.saf.resetPulseNext := raiseData_saf_resetPulseNext _ _ _ s
@[simp] theorem safPost_saf_resetPulseNext (a c d : Nat) (s : State) : (safPost a c d s).saf.resetPulseNext = s.saf.resetPulseNext := by
  unfold safPost; rw [safPostAt_saf]
@[simp] theorem raiseData_saf_outbox (d : Nat) (c : Fld) (fl : List Fld) (s : State) : (raiseData d c fl s).saf.outbox = s.saf.outbox := by
  rw [raiseData_saf]
@[simp] theorem raise_saf_outbox (c : Fld) (fl : List Fld) (s : State) : (raise c fl s).saf.outbox = s.saf.outbox := raiseData_saf_outbox 0 c fl s
@[simp] theorem raiseSaf_saf_outbox (f : Fld) (s : State) : (raiseSaf f s).saf.outbox = s.saf.outbox := raiseData_saf_outbox _ _ _ s
@[simp] theorem raiseMtx_saf_outbox (f : Fld) (s : State) : (raiseMtx f s).saf.outbox = s.saf.outbox := raiseData_saf_outbox _ _ _ s
@[simp] theorem raiseLea_saf_outbox (f : Fld) (s : State) : (raiseLea f s).saf.outbox = s.saf.outbox := raiseData_saf_outbox _ _ _ s
@[simp] theorem raiseSio_saf_outbox (f : Fld) (c : Nat) (s : State) : (raiseSio f c s).saf.outbox = s.saf.outbox := raiseData_saf_outbox _ _ _ s
@[simp] theorem raiseOut_saf_outbox (n : Nat) (f : Nat → Fld) (s : State) : (raiseOut n f s).saf.outbox = s.saf.outbox := raiseData_saf_outbox _ _ _ s
@[simp] theorem safPost_saf_outbox (a c d : Nat) (s : State) : (safPost a c d s).saf.outbox = s.saf.outbox := by
  unfold safPost; rw [safPostAt_saf]
@[simp] theorem raiseData_saf_mbox (d : Nat) (c : Fld) (fl : List Fld) (s : State) : (raiseData d c fl s).saf.mbox = s.saf.mbox := by
  rw [raiseData_saf]
@[simp] theorem raise_saf_mbox (c : Fld) (fl : List Fld) (s : State) : (raise c fl s).saf.mbox = s.saf.mbox := raiseData_saf_mbox 0 c fl s
@[simp] theorem raiseSaf_saf_mbox (f : Fld) (s : State) : (raiseSaf f s).saf.mbox = s.saf.mbox := raiseData_saf_mbox _ _ _ s
@[simp] theorem raiseMtx_saf_mbox (f : Fld) (s : State) : (raiseMtx f s).saf.mbox = s.saf.mbox := raiseData_saf_mbox _ _ _ s
@[simp] theorem raiseLea_saf_mbox (f : Fld) (s : State) : (raiseLea f s).saf.mbox = s.saf.mbox := raiseData_saf_mbox _ _ _ s
@[simp] theorem raiseSio_saf_mbox (f : Fld) (c : Nat) (s : State) : (raiseSio f c s).saf.mbox = s.saf.mbox := raiseData_saf_mbox _ _ _ s
@[simp] theorem raiseOut_saf_mbox (n : Nat) (f : Nat → Fld) (s : State) : (raiseOut n f s).saf.mbox = s.saf.mbox := raiseData_saf_mbox _ _ _ s
@[simp] theorem safPost_saf_mbox (a c d : Nat) (s : State) : (safPost a c d s).saf.mbox = s.saf.mbox := by
  unfold safPost; rw [safPostAt_saf]
@[simp] theorem raiseData_saf_mbRan (d : Nat) (c : Fld) (fl : List Fld) (s : State) : (raiseData d c fl s).saf.mbRan = s.saf.mbRan := by
  rw [raiseData_saf]
@[simp] theorem raise_saf_mbRan (c : Fld) (fl : List Fld) (s : State) : (raise c fl s).saf.mbRan = s.saf.mbRan := raiseData_saf_mbRan 0 c fl s
@[simp] theorem raiseSaf_saf_mbRan (f : Fld) (s : State) : (raiseSaf f s).saf.mbRan = s.saf.mbRan := raiseData_saf_mbRan _ _ _ s
@[simp] theorem raiseMtx_saf_mbRan (f : Fld) (s : State) : (raiseMtx f s).saf.mbRan = s.saf.mbRan := raiseData_saf_mbRan _ _ _ s
@[simp] theorem raiseLea_saf_mbRan (f : Fld) (s : State) : (raiseLea f s).saf.mbRan = s.saf.mbRan := raiseData_saf_mbRan _ _ _ s
@[simp] theorem raiseSio_saf_mbRan (f : Fld) (c : Nat) (s : State) : (raiseSio f c s).saf.mbRan = s.saf.mbRan := raiseData_saf_mbRan _ _ _ s
@[simp] theorem raiseOut_saf_mbRan (n : Nat) (f : Nat → Fld) (s : State) : (raiseOut n f s).saf.mbRan = s.saf.mbRan := raiseData_saf_mbRan _ _ _ s
@[simp] theorem safPost_saf_mbRan (a c d : Nat) (s : State) : (safPost a c d s).saf.mbRan = s.saf.mbRan := by
  unfold safPost; rw [safPostAt_saf]
@[simp] theorem raiseData_saf_lastTry (d : Nat) (c : Fld) (fl : List Fld) (s : State) : (raiseData d c fl s).saf.lastTry = s.saf.lastTry := by
  rw [raiseData_saf]
@[simp] theorem raise_saf_lastTry (c : Fld) (fl : List Fld) (s : State) : (raise c fl s).saf.lastTry = s.saf.lastTry := raiseData_saf_lastTry 0 c fl s
@[simp] theorem raiseSaf_saf_lastTry (f : Fld) (s : State) : (raiseSaf f s).saf.lastTry = s.saf.lastTry := raiseData_saf_lastTry _ _ _ s
@[simp] theorem raiseMtx_saf_lastTry (f : Fld) (s : State) : (raiseMtx f s).saf.lastTry = s.saf.lastTry := raiseData_saf_lastTry _ _ _ s
@[simp] theorem raiseLea_saf_lastTry (f : Fld) (s : State) : (raiseLea f s).saf.lastTry = s.saf.lastTry := raiseData_saf_lastTry _ _ _ s
@[simp] theorem raiseSio_saf_lastTry (f : Fld) (c : Nat) (s : State) : (raiseSio f c s).saf.lastTry = s.saf.lastTry := raiseData_saf_lastTry _ _ _ s
@[simp] theorem raiseOut_saf_lastTry (n : Nat) (f : Nat → Fld) (s : State) : (raiseOut n f s).saf.lastTry = s.saf.lastTry := raiseData_saf_lastTry _ _ _ s
@[simp] theorem safPost_saf_lastTry (a c d : Nat) (s : State) : (safPost a c d s).saf.lastTry = s.saf.lastTry := by
  unfold safPost; rw [safPostAt_saf]
@[simp] theorem raiseData_saf_chalAt (d : Nat) (c : Fld) (fl : List Fld) (s : State) : (raiseData d c fl s).saf.chalAt = s.saf.chalAt := by
  rw [raiseData_saf]
@[simp] theorem raise_saf_chalAt (c : Fld) (fl : List Fld) (s : State) : (raise c fl s).saf.chalAt = s.saf.chalAt := raiseData_saf_chalAt 0 c fl s
@[simp] theorem raiseSaf_saf_chalAt (f : Fld) (s : State) : (raiseSaf f s).saf.chalAt = s.saf.chalAt := raiseData_saf_chalAt _ _ _ s
@[simp] theorem raiseMtx_saf_chalAt (f : Fld) (s : State) : (raiseMtx f s).saf.chalAt = s.saf.chalAt := raiseData_saf_chalAt _ _ _ s
@[simp] theorem raiseLea_saf_chalAt (f : Fld) (s : State) : (raiseLea f s).saf.chalAt = s.saf.chalAt := raiseData_saf_chalAt _ _ _ s
@[simp] theorem raiseSio_saf_chalAt (f : Fld) (c : Nat) (s : State) : (raiseSio f c s).saf.chalAt = s.saf.chalAt := raiseData_saf_chalAt _ _ _ s
@[simp] theorem raiseOut_saf_chalAt (n : Nat) (f : Nat → Fld) (s : State) : (raiseOut n f s).saf.chalAt = s.saf.chalAt := raiseData_saf_chalAt _ _ _ s
@[simp] theorem safPost_saf_chalAt (a c d : Nat) (s : State) : (safPost a c d s).saf.chalAt = s.saf.chalAt := by
  unfold safPost; rw [safPostAt_saf]
@[simp] theorem raiseData_saf_tokenWait (d : Nat) (c : Fld) (fl : List Fld) (s : State) : (raiseData d c fl s).saf.tokenWait = s.saf.tokenWait := by
  rw [raiseData_saf]
@[simp] theorem raise_saf_tokenWait (c : Fld) (fl : List Fld) (s : State) : (raise c fl s).saf.tokenWait = s.saf.tokenWait := raiseData_saf_tokenWait 0 c fl s
@[simp] theorem raiseSaf_saf_tokenWait (f : Fld) (s : State) : (raiseSaf f s).saf.tokenWait = s.saf.tokenWait := raiseData_saf_tokenWait _ _ _ s
@[simp] theorem raiseMtx_saf_tokenWait (f : Fld) (s : State) : (raiseMtx f s).saf.tokenWait = s.saf.tokenWait := raiseData_saf_tokenWait _ _ _ s
@[simp] theorem raiseLea_saf_tokenWait (f : Fld) (s : State) : (raiseLea f s).saf.tokenWait = s.saf.tokenWait := raiseData_saf_tokenWait _ _ _ s
@[simp] theorem raiseSio_saf_tokenWait (f : Fld) (c : Nat) (s : State) : (raiseSio f c s).saf.tokenWait = s.saf.tokenWait := raiseData_saf_tokenWait _ _ _ s
@[simp] theorem raiseOut_saf_tokenWait (n : Nat) (f : Nat → Fld) (s : State) : (raiseOut n f s).saf.tokenWait = s.saf.tokenWait := raiseData_saf_tokenWait _ _ _ s
@[simp] theorem safPost_saf_tokenWait (a c d : Nat) (s : State) : (safPost a c d s).saf.tokenWait = s.saf.tokenWait := by
  unfold safPost; rw [safPostAt_saf]
@[simp] theorem raiseData_saf_ack (d : Nat) (c : Fld) (fl : List Fld) (s : State) : (raiseData d c fl s).saf.ack = s.saf.ack := by
  rw [raiseData_saf]
@[simp] theorem raise_saf_ack (c : Fld) (fl : List Fld) (s : State) : (raise c fl s).saf.ack = s.saf.ack := raiseData_saf_ack 0 c fl s
@[simp] theorem raiseSaf_saf_ack (f : Fld) (s : State) : (raiseSaf f s).saf.ack = s.saf.ack := raiseData_saf_ack _ _ _ s
@[simp] theorem raiseMtx_saf_ack (f : Fld) (s : State) : (raiseMtx f s).saf.ack = s.saf.ack := raiseData_saf_ack _ _ _ s
@[simp] theorem raiseLea_saf_ack (f : Fld) (s : State) : (raiseLea f s).saf.ack = s.saf.ack := raiseData_saf_ack _ _ _ s
@[simp] theorem raiseSio_saf_ack (f : Fld) (c : Nat) (s : State) : (raiseSio f c s).saf.ack = s.saf.ack := raiseData_saf_ack _ _ _ s
@[simp] theorem raiseOut_saf_ack (n : Nat) (f : Nat → Fld) (s : State) : (raiseOut n f s).saf.ack = s.saf.ack := raiseData_saf_ack _ _ _ s
@[simp] theorem safPost_saf_ack (a c d : Nat) (s : State) : (safPost a c d s).saf.ack = s.saf.ack := by
  unfold safPost; rw [safPostAt_saf]
@[simp] theorem raiseData_saf_flow (d : Nat) (c : Fld) (fl : List Fld) (s : State) : (raiseData d c fl s).saf.flow = s.saf.flow := by
  rw [raiseData_saf]
@[simp] theorem raise_saf_flow (c : Fld) (fl : List Fld) (s : State) : (raise c fl s).saf.flow = s.saf.flow := raiseData_saf_flow 0 c fl s
@[simp] theorem raiseSaf_saf_flow (f : Fld) (s : State) : (raiseSaf f s).saf.flow = s.saf.flow := raiseData_saf_flow _ _ _ s
@[simp] theorem raiseMtx_saf_flow (f : Fld) (s : State) : (raiseMtx f s).saf.flow = s.saf.flow := raiseData_saf_flow _ _ _ s
@[simp] theorem raiseLea_saf_flow (f : Fld) (s : State) : (raiseLea f s).saf.flow = s.saf.flow := raiseData_saf_flow _ _ _ s
@[simp] theorem raiseSio_saf_flow (f : Fld) (c : Nat) (s : State) : (raiseSio f c s).saf.flow = s.saf.flow := raiseData_saf_flow _ _ _ s
@[simp] theorem raiseOut_saf_flow (n : Nat) (f : Nat → Fld) (s : State) : (raiseOut n f s).saf.flow = s.saf.flow := raiseData_saf_flow _ _ _ s
@[simp] theorem safPost_saf_flow (a c d : Nat) (s : State) : (safPost a c d s).saf.flow = s.saf.flow := by
  unfold safPost; rw [safPostAt_saf]
@[simp] theorem raiseData_saf_pair (d : Nat) (c : Fld) (fl : List Fld) (s : State) : (raiseData d c fl s).saf.pair = s.saf.pair := by
  rw [raiseData_saf]
@[simp] theorem raise_saf_pair (c : Fld) (fl : List Fld) (s : State) : (raise c fl s).saf.pair = s.saf.pair := raiseData_saf_pair 0 c fl s
@[simp] theorem raiseSaf_saf_pair (f : Fld) (s : State) : (raiseSaf f s).saf.pair = s.saf.pair := raiseData_saf_pair _ _ _ s
@[simp] theorem raiseMtx_saf_pair (f : Fld) (s : State) : (raiseMtx f s).saf.pair = s.saf.pair := raiseData_saf_pair _ _ _ s
@[simp] theorem raiseLea_saf_pair (f : Fld) (s : State) : (raiseLea f s).saf.pair = s.saf.pair := raiseData_saf_pair _ _ _ s
@[simp] theorem raiseSio_saf_pair (f : Fld) (c : Nat) (s : State) : (raiseSio f c s).saf.pair = s.saf.pair := raiseData_saf_pair _ _ _ s
@[simp] theorem raiseOut_saf_pair (n : Nat) (f : Nat → Fld) (s : State) : (raiseOut n f s).saf.pair = s.saf.pair := raiseData_saf_pair _ _ _ s
@[simp] theorem safPost_saf_pair (a c d : Nat) (s : State) : (safPost a c d s).saf.pair = s.saf.pair := by
  unfold safPost; rw [safPostAt_saf]
@[simp] theorem raiseData_saf_eqSince (d : Nat) (c : Fld) (fl : List Fld) (s : State) : (raiseData d c fl s).saf.eqSince = s.saf.eqSince := by
  rw [raiseData_saf]
@[simp] theorem raise_saf_eqSince (c : Fld) (fl : List Fld) (s : State) : (raise c fl s).saf.eqSince = s.saf.eqSince := raiseData_saf_eqSince 0 c fl s
@[simp] theorem raiseSaf_saf_eqSince (f : Fld) (s : State) : (raiseSaf f s).saf.eqSince = s.saf.eqSince := raiseData_saf_eqSince _ _ _ s
@[simp] theorem raiseMtx_saf_eqSince (f : Fld) (s : State) : (raiseMtx f s).saf.eqSince = s.saf.eqSince := raiseData_saf_eqSince _ _ _ s
@[simp] theorem raiseLea_saf_eqSince (f : Fld) (s : State) : (raiseLea f s).saf.eqSince = s.saf.eqSince := raiseData_saf_eqSince _ _ _ s
@[simp] theorem raiseSio_saf_eqSince (f : Fld) (c : Nat) (s : State) : (raiseSio f c s).saf.eqSince = s.saf.eqSince := raiseData_saf_eqSince _ _ _ s
@[simp] theorem raiseOut_saf_eqSince (n : Nat) (f : Nat → Fld) (s : State) : (raiseOut n f s).saf.eqSince = s.saf.eqSince := raiseData_saf_eqSince _ _ _ s
@[simp] theorem safPost_saf_eqSince (a c d : Nat) (s : State) : (safPost a c d s).saf.eqSince = s.saf.eqSince := by
  unfold safPost; rw [safPostAt_saf]
@[simp] theorem raiseData_saf_gStep (d : Nat) (c : Fld) (fl : List Fld) (s : State) : (raiseData d c fl s).saf.gStep = s.saf.gStep := by
  rw [raiseData_saf]
@[simp] theorem raise_saf_gStep (c : Fld) (fl : List Fld) (s : State) : (raise c fl s).saf.gStep = s.saf.gStep := raiseData_saf_gStep 0 c fl s
@[simp] theorem raiseSaf_saf_gStep (f : Fld) (s : State) : (raiseSaf f s).saf.gStep = s.saf.gStep := raiseData_saf_gStep _ _ _ s
@[simp] theorem raiseMtx_saf_gStep (f : Fld) (s : State) : (raiseMtx f s).saf.gStep = s.saf.gStep := raiseData_saf_gStep _ _ _ s
@[simp] theorem raiseLea_saf_gStep (f : Fld) (s : State) : (raiseLea f s).saf.gStep = s.saf.gStep := raiseData_saf_gStep _ _ _ s
@[simp] theorem raiseSio_saf_gStep (f : Fld) (c : Nat) (s : State) : (raiseSio f c s).saf.gStep = s.saf.gStep := raiseData_saf_gStep _ _ _ s
@[simp] theorem raiseOut_saf_gStep (n : Nat) (f : Nat → Fld) (s : State) : (raiseOut n f s).saf.gStep = s.saf.gStep := raiseData_saf_gStep _ _ _ s
@[simp] theorem safPost_saf_gStep (a c d : Nat) (s : State) : (safPost a c d s).saf.gStep = s.saf.gStep := by
  unfold safPost; rw [safPostAt_saf]
@[simp] theorem raiseData_saf_gOpenAt (d : Nat) (c : Fld) (fl : List Fld) (s : State) : (raiseData d c fl s).saf.gOpenAt = s.saf.gOpenAt := by
  rw [raiseData_saf]
@[simp] theorem raise_saf_gOpenAt (c : Fld) (fl : List Fld) (s : State) : (raise c fl s).saf.gOpenAt = s.saf.gOpenAt := raiseData_saf_gOpenAt 0 c fl s
@[simp] theorem raiseSaf_saf_gOpenAt (f : Fld) (s : State) : (raiseSaf f s).saf.gOpenAt = s.saf.gOpenAt := raiseData_saf_gOpenAt _ _ _ s
@[simp] theorem raiseMtx_saf_gOpenAt (f : Fld) (s : State) : (raiseMtx f s).saf.gOpenAt = s.saf.gOpenAt := raiseData_saf_gOpenAt _ _ _ s
@[simp] theorem raiseLea_saf_gOpenAt (f : Fld) (s : State) : (raiseLea f s).saf.gOpenAt = s.saf.gOpenAt := raiseData_saf_gOpenAt _ _ _ s
@[simp] theorem raiseSio_saf_gOpenAt (f : Fld) (c : Nat) (s : State) : (raiseSio f c s).saf.gOpenAt = s.saf.gOpenAt := raiseData_saf_gOpenAt _ _ _ s
@[simp] theorem raiseOut_saf_gOpenAt (n : Nat) (f : Nat → Fld) (s : State) : (raiseOut n f s).saf.gOpenAt = s.saf.gOpenAt := raiseData_saf_gOpenAt _ _ _ s
@[simp] theorem safPost_saf_gOpenAt (a c d : Nat) (s : State) : (safPost a c d s).saf.gOpenAt = s.saf.gOpenAt := by
  unfold safPost; rw [safPostAt_saf]
@[simp] theorem raiseData_saf_proofSeq (d : Nat) (c : Fld) (fl : List Fld) (s : State) : (raiseData d c fl s).saf.proofSeq = s.saf.proofSeq := by
  rw [raiseData_saf]
@[simp] theorem raise_saf_proofSeq (c : Fld) (fl : List Fld) (s : State) : (raise c fl s).saf.proofSeq = s.saf.proofSeq := raiseData_saf_proofSeq 0 c fl s
@[simp] theorem raiseSaf_saf_proofSeq (f : Fld) (s : State) : (raiseSaf f s).saf.proofSeq = s.saf.proofSeq := raiseData_saf_proofSeq _ _ _ s
@[simp] theorem raiseMtx_saf_proofSeq (f : Fld) (s : State) : (raiseMtx f s).saf.proofSeq = s.saf.proofSeq := raiseData_saf_proofSeq _ _ _ s
@[simp] theorem raiseLea_saf_proofSeq (f : Fld) (s : State) : (raiseLea f s).saf.proofSeq = s.saf.proofSeq := raiseData_saf_proofSeq _ _ _ s
@[simp] theorem raiseSio_saf_proofSeq (f : Fld) (c : Nat) (s : State) : (raiseSio f c s).saf.proofSeq = s.saf.proofSeq := raiseData_saf_proofSeq _ _ _ s
@[simp] theorem raiseOut_saf_proofSeq (n : Nat) (f : Nat → Fld) (s : State) : (raiseOut n f s).saf.proofSeq = s.saf.proofSeq := raiseData_saf_proofSeq _ _ _ s
@[simp] theorem safPost_saf_proofSeq (a c d : Nat) (s : State) : (safPost a c d s).saf.proofSeq = s.saf.proofSeq := by
  unfold safPost; rw [safPostAt_saf]
@[simp] theorem raiseData_saf_proofTime (d : Nat) (c : Fld) (fl : List Fld) (s : State) : (raiseData d c fl s).saf.proofTime = s.saf.proofTime := by
  rw [raiseData_saf]
@[simp] theorem raise_saf_proofTime (c : Fld) (fl : List Fld) (s : State) : (raise c fl s).saf.proofTime = s.saf.proofTime := raiseData_saf_proofTime 0 c fl s
@[simp] theorem raiseSaf_saf_proofTime (f : Fld) (s : State) : (raiseSaf f s).saf.proofTime = s.saf.proofTime := raiseData_saf_proofTime _ _ _ s
@[simp] theorem raiseMtx_saf_proofTime (f : Fld) (s : State) : (raiseMtx f s).saf.proofTime = s.saf.proofTime := raiseData_saf_proofTime _ _ _ s
@[simp] theorem raiseLea_saf_proofTime (f : Fld) (s : State) : (raiseLea f s).saf.proofTime = s.saf.proofTime := raiseData_saf_proofTime _ _ _ s
@[simp] theorem raiseSio_saf_proofTime (f : Fld) (c : Nat) (s : State) : (raiseSio f c s).saf.proofTime = s.saf.proofTime := raiseData_saf_proofTime _ _ _ s
@[simp] theorem raiseOut_saf_proofTime (n : Nat) (f : Nat → Fld) (s : State) : (raiseOut n f s).saf.proofTime = s.saf.proofTime := raiseData_saf_proofTime _ _ _ s
@[simp] theorem safPost_saf_proofTime (a c d : Nat) (s : State) : (safPost a c d s).saf.proofTime = s.saf.proofTime := by
  unfold safPost; rw [safPostAt_saf]
@[simp] theorem raiseData_saf_proofDig (d : Nat) (c : Fld) (fl : List Fld) (s : State) : (raiseData d c fl s).saf.proofDig = s.saf.proofDig := by
  rw [raiseData_saf]
@[simp] theorem raise_saf_proofDig (c : Fld) (fl : List Fld) (s : State) : (raise c fl s).saf.proofDig = s.saf.proofDig := raiseData_saf_proofDig 0 c fl s
@[simp] theorem raiseSaf_saf_proofDig (f : Fld) (s : State) : (raiseSaf f s).saf.proofDig = s.saf.proofDig := raiseData_saf_proofDig _ _ _ s
@[simp] theorem raiseMtx_saf_proofDig (f : Fld) (s : State) : (raiseMtx f s).saf.proofDig = s.saf.proofDig := raiseData_saf_proofDig _ _ _ s
@[simp] theorem raiseLea_saf_proofDig (f : Fld) (s : State) : (raiseLea f s).saf.proofDig = s.saf.proofDig := raiseData_saf_proofDig _ _ _ s
@[simp] theorem raiseSio_saf_proofDig (f : Fld) (c : Nat) (s : State) : (raiseSio f c s).saf.proofDig = s.saf.proofDig := raiseData_saf_proofDig _ _ _ s
@[simp] theorem raiseOut_saf_proofDig (n : Nat) (f : Nat → Fld) (s : State) : (raiseOut n f s).saf.proofDig = s.saf.proofDig := raiseData_saf_proofDig _ _ _ s
@[simp] theorem safPost_saf_proofDig (a c d : Nat) (s : State) : (safPost a c d s).saf.proofDig = s.saf.proofDig := by
  unfold safPost; rw [safPostAt_saf]
@[simp] theorem raiseData_saf_guardOk (d : Nat) (c : Fld) (fl : List Fld) (s : State) : (raiseData d c fl s).saf.guardOk = s.saf.guardOk := by
  rw [raiseData_saf]
@[simp] theorem raise_saf_guardOk (c : Fld) (fl : List Fld) (s : State) : (raise c fl s).saf.guardOk = s.saf.guardOk := raiseData_saf_guardOk 0 c fl s
@[simp] theorem raiseSaf_saf_guardOk (f : Fld) (s : State) : (raiseSaf f s).saf.guardOk = s.saf.guardOk := raiseData_saf_guardOk _ _ _ s
@[simp] theorem raiseMtx_saf_guardOk (f : Fld) (s : State) : (raiseMtx f s).saf.guardOk = s.saf.guardOk := raiseData_saf_guardOk _ _ _ s
@[simp] theorem raiseLea_saf_guardOk (f : Fld) (s : State) : (raiseLea f s).saf.guardOk = s.saf.guardOk := raiseData_saf_guardOk _ _ _ s
@[simp] theorem raiseSio_saf_guardOk (f : Fld) (c : Nat) (s : State) : (raiseSio f c s).saf.guardOk = s.saf.guardOk := raiseData_saf_guardOk _ _ _ s
@[simp] theorem raiseOut_saf_guardOk (n : Nat) (f : Nat → Fld) (s : State) : (raiseOut n f s).saf.guardOk = s.saf.guardOk := raiseData_saf_guardOk _ _ _ s
@[simp] theorem safPost_saf_guardOk (a c d : Nat) (s : State) : (safPost a c d s).saf.guardOk = s.saf.guardOk := by
  unfold safPost; rw [safPostAt_saf]
@[simp] theorem raiseData_saf_due (d : Nat) (c : Fld) (fl : List Fld) (s : State) : (raiseData d c fl s).saf.due = s.saf.due := by
  rw [raiseData_saf]
@[simp] theorem raise_saf_due (c : Fld) (fl : List Fld) (s : State) : (raise c fl s).saf.due = s.saf.due := raiseData_saf_due 0 c fl s
@[simp] theorem raiseSaf_saf_due (f : Fld) (s : State) : (raiseSaf f s).saf.due = s.saf.due := raiseData_saf_due _ _ _ s
@[simp] theorem raiseMtx_saf_due (f : Fld) (s : State) : (raiseMtx f s).saf.due = s.saf.due := raiseData_saf_due _ _ _ s
@[simp] theorem raiseLea_saf_due (f : Fld) (s : State) : (raiseLea f s).saf.due = s.saf.due := raiseData_saf_due _ _ _ s
@[simp] theorem raiseSio_saf_due (f : Fld) (c : Nat) (s : State) : (raiseSio f c s).saf.due = s.saf.due := raiseData_saf_due _ _ _ s
@[simp] theorem raiseOut_saf_due (n : Nat) (f : Nat → Fld) (s : State) : (raiseOut n f s).saf.due = s.saf.due := raiseData_saf_due _ _ _ s
@[simp] theorem safPost_saf_due (a c d : Nat) (s : State) : (safPost a c d s).saf.due = s.saf.due := by
  unfold safPost; rw [safPostAt_saf]
@[simp] theorem raiseData_saf_rcSum (d : Nat) (c : Fld) (fl : List Fld) (s : State) : (raiseData d c fl s).saf.rcSum = s.saf.rcSum := by
  rw [raiseData_saf]
@[simp] theorem raise_saf_rcSum (c : Fld) (fl : List Fld) (s : State) : (raise c fl s).saf.rcSum = s.saf.rcSum := raiseData_saf_rcSum 0 c fl s
@[simp] theorem raiseSaf_saf_rcSum (f : Fld) (s : State) : (raiseSaf f s).saf.rcSum = s.saf.rcSum := raiseData_saf_rcSum _ _ _ s
@[simp] theorem raiseMtx_saf_rcSum (f : Fld) (s : State) : (raiseMtx f s).saf.rcSum = s.saf.rcSum := raiseData_saf_rcSum _ _ _ s
@[simp] theorem raiseLea_saf_rcSum (f : Fld) (s : State) : (raiseLea f s).saf.rcSum = s.saf.rcSum := raiseData_saf_rcSum _ _ _ s
@[simp] theorem raiseSio_saf_rcSum (f : Fld) (c : Nat) (s : State) : (raiseSio f c s).saf.rcSum = s.saf.rcSum := raiseData_saf_rcSum _ _ _ s
@[simp] theorem raiseOut_saf_rcSum (n : Nat) (f : Nat → Fld) (s : State) : (raiseOut n f s).saf.rcSum = s.saf.rcSum := raiseData_saf_rcSum _ _ _ s
@[simp] theorem safPost_saf_rcSum (a c d : Nat) (s : State) : (safPost a c d s).saf.rcSum = s.saf.rcSum := by
  unfold safPost; rw [safPostAt_saf]
@[simp] theorem raiseData_saf_rcCnt (d : Nat) (c : Fld) (fl : List Fld) (s : State) : (raiseData d c fl s).saf.rcCnt = s.saf.rcCnt := by
  rw [raiseData_saf]
@[simp] theorem raise_saf_rcCnt (c : Fld) (fl : List Fld) (s : State) : (raise c fl s).saf.rcCnt = s.saf.rcCnt := raiseData_saf_rcCnt 0 c fl s
@[simp] theorem raiseSaf_saf_rcCnt (f : Fld) (s : State) : (raiseSaf f s).saf.rcCnt = s.saf.rcCnt := raiseData_saf_rcCnt _ _ _ s
@[simp] theorem raiseMtx_saf_rcCnt (f : Fld) (s : State) : (raiseMtx f s).saf.rcCnt = s.saf.rcCnt := raiseData_saf_rcCnt _ _ _ s
@[simp] theorem raiseLea_saf_rcCnt (f : Fld) (s : State) : (raiseLea f s).saf.rcCnt = s.saf.rcCnt := raiseData_saf_rcCnt _ _ _ s
@[simp] theorem raiseSio_saf_rcCnt (f : Fld) (c : Nat) (s : State) : (raiseSio f c s).saf.rcCnt = s.saf.rcCnt := raiseData_saf_rcCnt _ _ _ s
@[simp] theorem raiseOut_saf_rcCnt (n : Nat) (f : Nat → Fld) (s : State) : (raiseOut n f s).saf.rcCnt = s.saf.rcCnt := raiseData_saf_rcCnt _ _ _ s
@[simp] theorem safPost_saf_rcCnt (a c d : Nat) (s : State) : (safPost a c d s).saf.rcCnt = s.saf.rcCnt := by
  unfold safPost; rw [safPostAt_saf]
@[simp] theorem raiseData_saf_rcUp (d : Nat) (c : Fld) (fl : List Fld) (s : State) : (raiseData d c fl s).saf.rcUp = s.saf.rcUp := by
  rw [raiseData_saf]
@[simp] theorem raise_saf_rcUp (c : Fld) (fl : List Fld) (s : State) : (raise c fl s).saf.rcUp = s.saf.rcUp := raiseData_saf_rcUp 0 c fl s
@[simp] theorem raiseSaf_saf_rcUp (f : Fld) (s : State) : (raiseSaf f s).saf.rcUp = s.saf.rcUp := raiseData_saf_rcUp _ _ _ s
@[simp] theorem raiseMtx_saf_rcUp (f : Fld) (s : State) : (raiseMtx f s).saf.rcUp = s.saf.rcUp := raiseData_saf_rcUp _ _ _ s
@[simp] theorem raiseLea_saf_rcUp (f : Fld) (s : State) : (raiseLea f s).saf.rcUp = s.saf.rcUp := raiseData_saf_rcUp _ _ _ s
@[simp] theorem raiseSio_saf_rcUp (f : Fld) (c : Nat) (s : State) : (raiseSio f c s).saf.rcUp = s.saf.rcUp := raiseData_saf_rcUp _ _ _ s
@[simp] theorem raiseOut_saf_rcUp (n : Nat) (f : Nat → Fld) (s : State) : (raiseOut n f s).saf.rcUp = s.saf.rcUp := raiseData_saf_rcUp _ _ _ s
@[simp] theorem safPost_saf_rcUp (a c d : Nat) (s : State) : (safPost a c d s).saf.rcUp = s.saf.rcUp := by
  unfold safPost; rw [safPostAt_saf]
@[simp] theorem raiseData_saf_rcLow (d : Nat) (c : Fld) (fl : List Fld) (s : State) : (raiseData d c fl s).saf.rcLow = s.saf.rcLow := by
  rw [raiseData_saf]
@[simp] theorem raise_saf_rcLow (c : Fld) (fl : List Fld) (s : State) : (raise c fl s).saf.rcLow = s.saf.rcLow := raiseData_saf_rcLow 0 c fl s
@[simp] theorem raiseSaf_saf_rcLow (f : Fld) (s : State) : (raiseSaf f s).saf.rcLow = s.saf.rcLow := raiseData_saf_rcLow _ _ _ s
@[simp] theorem raiseMtx_saf_rcLow (f : Fld) (s : State) : (raiseMtx f s).saf.rcLow = s.saf.rcLow := raiseData_saf_rcLow _ _ _ s
@[simp] theorem raiseLea_saf_rcLow (f : Fld) (s : State) : (raiseLea f s).saf.rcLow = s.saf.rcLow := raiseData_saf_rcLow _ _ _ s
@[simp] theorem raiseSio_saf_rcLow (f : Fld) (c : Nat) (s : State) : (raiseSio f c s).saf.rcLow = s.saf.rcLow := raiseData_saf_rcLow _ _ _ s
@[simp] theorem raiseOut_saf_rcLow (n : Nat) (f : Nat → Fld) (s : State) : (raiseOut n f s).saf.rcLow = s.saf.rcLow := raiseData_saf_rcLow _ _ _ s
@[simp] theorem safPost_saf_rcLow (a c d : Nat) (s : State) : (safPost a c d s).saf.rcLow = s.saf.rcLow := by
  unfold safPost; rw [safPostAt_saf]
@[simp] theorem raiseData_saf_iso (d : Nat) (c : Fld) (fl : List Fld) (s : State) : (raiseData d c fl s).saf.iso = s.saf.iso := by
  rw [raiseData_saf]
@[simp] theorem raise_saf_iso (c : Fld) (fl : List Fld) (s : State) : (raise c fl s).saf.iso = s.saf.iso := raiseData_saf_iso 0 c fl s
@[simp] theorem raiseSaf_saf_iso (f : Fld) (s : State) : (raiseSaf f s).saf.iso = s.saf.iso := raiseData_saf_iso _ _ _ s
@[simp] theorem raiseMtx_saf_iso (f : Fld) (s : State) : (raiseMtx f s).saf.iso = s.saf.iso := raiseData_saf_iso _ _ _ s
@[simp] theorem raiseLea_saf_iso (f : Fld) (s : State) : (raiseLea f s).saf.iso = s.saf.iso := raiseData_saf_iso _ _ _ s
@[simp] theorem raiseSio_saf_iso (f : Fld) (c : Nat) (s : State) : (raiseSio f c s).saf.iso = s.saf.iso := raiseData_saf_iso _ _ _ s
@[simp] theorem raiseOut_saf_iso (n : Nat) (f : Nat → Fld) (s : State) : (raiseOut n f s).saf.iso = s.saf.iso := raiseData_saf_iso _ _ _ s
@[simp] theorem safPost_saf_iso (a c d : Nat) (s : State) : (safPost a c d s).saf.iso = s.saf.iso := by
  unfold safPost; rw [safPostAt_saf]
@[simp] theorem raiseData_saf_sin (d : Nat) (c : Fld) (fl : List Fld) (s : State) : (raiseData d c fl s).saf.sin = s.saf.sin := by
  rw [raiseData_saf]
@[simp] theorem raise_saf_sin (c : Fld) (fl : List Fld) (s : State) : (raise c fl s).saf.sin = s.saf.sin := raiseData_saf_sin 0 c fl s
@[simp] theorem raiseSaf_saf_sin (f : Fld) (s : State) : (raiseSaf f s).saf.sin = s.saf.sin := raiseData_saf_sin _ _ _ s
@[simp] theorem raiseMtx_saf_sin (f : Fld) (s : State) : (raiseMtx f s).saf.sin = s.saf.sin := raiseData_saf_sin _ _ _ s
@[simp] theorem raiseLea_saf_sin (f : Fld) (s : State) : (raiseLea f s).saf.sin = s.saf.sin := raiseData_saf_sin _ _ _ s
@[simp] theorem raiseSio_saf_sin (f : Fld) (c : Nat) (s : State) : (raiseSio f c s).saf.sin = s.saf.sin := raiseData_saf_sin _ _ _ s
@[simp] theorem raiseOut_saf_sin (n : Nat) (f : Nat → Fld) (s : State) : (raiseOut n f s).saf.sin = s.saf.sin := raiseData_saf_sin _ _ _ s
@[simp] theorem safPost_saf_sin (a c d : Nat) (s : State) : (safPost a c d s).saf.sin = s.saf.sin := by
  unfold safPost; rw [safPostAt_saf]
@[simp] theorem raiseData_saf_sout (d : Nat) (c : Fld) (fl : List Fld) (s : State) : (raiseData d c fl s).saf.sout = s.saf.sout := by
  rw [raiseData_saf]
@[simp] theorem raise_saf_sout (c : Fld) (fl : List Fld) (s : State) : (raise c fl s).saf.sout = s.saf.sout := raiseData_saf_sout 0 c fl s
@[simp] theorem raiseSaf_saf_sout (f : Fld) (s : State) : (raiseSaf f s).saf.sout = s.saf.sout := raiseData_saf_sout _ _ _ s
@[simp] theorem raiseMtx_saf_sout (f : Fld) (s : State) : (raiseMtx f s).saf.sout = s.saf.sout := raiseData_saf_sout _ _ _ s
@[simp] theorem raiseLea_saf_sout (f : Fld) (s : State) : (raiseLea f s).saf.sout = s.saf.sout := raiseData_saf_sout _ _ _ s
@[simp] theorem raiseSio_saf_sout (f : Fld) (c : Nat) (s : State) : (raiseSio f c s).saf.sout = s.saf.sout := raiseData_saf_sout _ _ _ s
@[simp] theorem raiseOut_saf_sout (n : Nat) (f : Nat → Fld) (s : State) : (raiseOut n f s).saf.sout = s.saf.sout := raiseData_saf_sout _ _ _ s
@[simp] theorem safPost_saf_sout (a c d : Nat) (s : State) : (safPost a c d s).saf.sout = s.saf.sout := by
  unfold safPost; rw [safPostAt_saf]
@[simp] theorem raiseData_saf_dieT (d : Nat) (c : Fld) (fl : List Fld) (s : State) : (raiseData d c fl s).saf.dieT = s.saf.dieT := by
  rw [raiseData_saf]
@[simp] theorem raise_saf_dieT (c : Fld) (fl : List Fld) (s : State) : (raise c fl s).saf.dieT = s.saf.dieT := raiseData_saf_dieT 0 c fl s
@[simp] theorem raiseSaf_saf_dieT (f : Fld) (s : State) : (raiseSaf f s).saf.dieT = s.saf.dieT := raiseData_saf_dieT _ _ _ s
@[simp] theorem raiseMtx_saf_dieT (f : Fld) (s : State) : (raiseMtx f s).saf.dieT = s.saf.dieT := raiseData_saf_dieT _ _ _ s
@[simp] theorem raiseLea_saf_dieT (f : Fld) (s : State) : (raiseLea f s).saf.dieT = s.saf.dieT := raiseData_saf_dieT _ _ _ s
@[simp] theorem raiseSio_saf_dieT (f : Fld) (c : Nat) (s : State) : (raiseSio f c s).saf.dieT = s.saf.dieT := raiseData_saf_dieT _ _ _ s
@[simp] theorem raiseOut_saf_dieT (n : Nat) (f : Nat → Fld) (s : State) : (raiseOut n f s).saf.dieT = s.saf.dieT := raiseData_saf_dieT _ _ _ s
@[simp] theorem safPost_saf_dieT (a c d : Nat) (s : State) : (safPost a c d s).saf.dieT = s.saf.dieT := by
  unfold safPost; rw [safPostAt_saf]
@[simp] theorem raiseData_saf_railsBad (d : Nat) (c : Fld) (fl : List Fld) (s : State) : (raiseData d c fl s).saf.railsBad = s.saf.railsBad := by
  rw [raiseData_saf]
@[simp] theorem raise_saf_railsBad (c : Fld) (fl : List Fld) (s : State) : (raise c fl s).saf.railsBad = s.saf.railsBad := raiseData_saf_railsBad 0 c fl s
@[simp] theorem raiseSaf_saf_railsBad (f : Fld) (s : State) : (raiseSaf f s).saf.railsBad = s.saf.railsBad := raiseData_saf_railsBad _ _ _ s
@[simp] theorem raiseMtx_saf_railsBad (f : Fld) (s : State) : (raiseMtx f s).saf.railsBad = s.saf.railsBad := raiseData_saf_railsBad _ _ _ s
@[simp] theorem raiseLea_saf_railsBad (f : Fld) (s : State) : (raiseLea f s).saf.railsBad = s.saf.railsBad := raiseData_saf_railsBad _ _ _ s
@[simp] theorem raiseSio_saf_railsBad (f : Fld) (c : Nat) (s : State) : (raiseSio f c s).saf.railsBad = s.saf.railsBad := raiseData_saf_railsBad _ _ _ s
@[simp] theorem raiseOut_saf_railsBad (n : Nat) (f : Nat → Fld) (s : State) : (raiseOut n f s).saf.railsBad = s.saf.railsBad := raiseData_saf_railsBad _ _ _ s
@[simp] theorem safPost_saf_railsBad (a c d : Nat) (s : State) : (safPost a c d s).saf.railsBad = s.saf.railsBad := by
  unfold safPost; rw [safPostAt_saf]
@[simp] theorem raiseData_saf_overT (d : Nat) (c : Fld) (fl : List Fld) (s : State) : (raiseData d c fl s).saf.overT = s.saf.overT := by
  rw [raiseData_saf]
@[simp] theorem raise_saf_overT (c : Fld) (fl : List Fld) (s : State) : (raise c fl s).saf.overT = s.saf.overT := raiseData_saf_overT 0 c fl s
@[simp] theorem raiseSaf_saf_overT (f : Fld) (s : State) : (raiseSaf f s).saf.overT = s.saf.overT := raiseData_saf_overT _ _ _ s
@[simp] theorem raiseMtx_saf_overT (f : Fld) (s : State) : (raiseMtx f s).saf.overT = s.saf.overT := raiseData_saf_overT _ _ _ s
@[simp] theorem raiseLea_saf_overT (f : Fld) (s : State) : (raiseLea f s).saf.overT = s.saf.overT := raiseData_saf_overT _ _ _ s
@[simp] theorem raiseSio_saf_overT (f : Fld) (c : Nat) (s : State) : (raiseSio f c s).saf.overT = s.saf.overT := raiseData_saf_overT _ _ _ s
@[simp] theorem raiseOut_saf_overT (n : Nat) (f : Nat → Fld) (s : State) : (raiseOut n f s).saf.overT = s.saf.overT := raiseData_saf_overT _ _ _ s
@[simp] theorem safPost_saf_overT (a c d : Nat) (s : State) : (safPost a c d s).saf.overT = s.saf.overT := by
  unfold safPost; rw [safPostAt_saf]

/-! ### Causes, an outlet's cause and state -/


@[simp] theorem safRecord_pending (c d : Nat) (s : State) : (safRecord c d s).pending = s.pending := by
  simp only [safRecord]; split <;> simp
@[simp] theorem safCause_pending (c d : Nat) (m : Bool) (s : State) : (safCause c d m s).pending = s.pending := by
  simp only [safCause]; split <;> simp
@[simp] theorem safRecord_resp (c d : Nat) (s : State) : (safRecord c d s).resp = s.resp := by
  simp only [safRecord]; split <;> simp
@[simp] theorem safCause_resp (c d : Nat) (m : Bool) (s : State) : (safCause c d m s).resp = s.resp := by
  simp only [safCause]; split <;> simp
@[simp] theorem safRecord_shadow (c d : Nat) (s : State) : (safRecord c d s).shadow = s.shadow := by
  simp only [safRecord]; split <;> simp
@[simp] theorem safCause_shadow (c d : Nat) (m : Bool) (s : State) : (safCause c d m s).shadow = s.shadow := by
  simp only [safCause]; split <;> simp
@[simp] theorem safRecord_stage (c d : Nat) (s : State) : (safRecord c d s).stage = s.stage := by
  simp only [safRecord]; split <;> simp
@[simp] theorem safCause_stage (c d : Nat) (m : Bool) (s : State) : (safCause c d m s).stage = s.stage := by
  simp only [safCause]; split <;> simp
@[simp] theorem safRecord_mem (c d : Nat) (s : State) : (safRecord c d s).mem = s.mem := by
  simp only [safRecord]; split <;> simp
@[simp] theorem safCause_mem (c d : Nat) (m : Bool) (s : State) : (safCause c d m s).mem = s.mem := by
  simp only [safCause]; split <;> simp
@[simp] theorem safRecord_flash (c d : Nat) (s : State) : (safRecord c d s).flash = s.flash := by
  simp only [safRecord]; split <;> simp
@[simp] theorem safCause_flash (c d : Nat) (m : Bool) (s : State) : (safCause c d m s).flash = s.flash := by
  simp only [safCause]; split <;> simp
@[simp] theorem safRecord_sec (c d : Nat) (s : State) : (safRecord c d s).sec = s.sec := by
  simp only [safRecord]; split <;> simp
@[simp] theorem safCause_sec (c d : Nat) (m : Bool) (s : State) : (safCause c d m s).sec = s.sec := by
  simp only [safCause]; split <;> simp
@[simp] theorem safRecord_loaded (c d : Nat) (s : State) : (safRecord c d s).loaded = s.loaded := by
  simp only [safRecord]; split <;> simp
@[simp] theorem safCause_loaded (c d : Nat) (m : Bool) (s : State) : (safCause c d m s).loaded = s.loaded := by
  simp only [safCause]; split <;> simp
@[simp] theorem safRecord_freeCtr (c d : Nat) (s : State) : (safRecord c d s).freeCtr = s.freeCtr := by
  simp only [safRecord]; split <;> simp
@[simp] theorem safCause_freeCtr (c d : Nat) (m : Bool) (s : State) : (safCause c d m s).freeCtr = s.freeCtr := by
  simp only [safCause]; split <;> simp
@[simp] theorem safRecord_tmp (c d : Nat) (s : State) : (safRecord c d s).tmp = s.tmp := by
  simp only [safRecord]; split <;> simp
@[simp] theorem safCause_tmp (c d : Nat) (m : Bool) (s : State) : (safCause c d m s).tmp = s.tmp := by
  simp only [safCause]; split <;> simp
@[simp] theorem safRecord_brd (c d : Nat) (s : State) : (safRecord c d s).brd = s.brd := by
  simp only [safRecord]; split <;> simp
@[simp] theorem safCause_brd (c d : Nat) (m : Bool) (s : State) : (safCause c d m s).brd = s.brd := by
  simp only [safCause]; split <;> simp
@[simp] theorem safRecord_strm (c d : Nat) (s : State) : (safRecord c d s).strm = s.strm := by
  simp only [safRecord]; split <;> simp
@[simp] theorem safCause_strm (c d : Nat) (m : Bool) (s : State) : (safCause c d m s).strm = s.strm := by
  simp only [safCause]; split <;> simp
@[simp] theorem safRecord_fz (c d : Nat) (s : State) : (safRecord c d s).fz = s.fz := by
  simp only [safRecord]; split <;> simp
@[simp] theorem safRecord_outsF (c d : Nat) (s : State) : (safRecord c d s).outsF = s.outsF := by
  simp only [safRecord]; split <;> simp
@[simp] theorem safCause_fz (c d : Nat) (m : Bool) (s : State) : (safCause c d m s).fz = s.fz := by
  simp only [safCause]; split <;> simp
@[simp] theorem safCause_outsF (c d : Nat) (m : Bool) (s : State) : (safCause c d m s).outsF = s.outsF := by
  simp only [safCause]; split <;> simp
@[simp] theorem safRecord_outs (c d : Nat) (s : State) : (safRecord c d s).outs = s.outs := by
  simp only [safRecord]; split <;> simp
@[simp] theorem safCause_outs (c d : Nat) (m : Bool) (s : State) : (safCause c d m s).outs = s.outs := by
  simp only [safCause]; split <;> simp
@[simp] theorem safRecord_mtx (c d : Nat) (s : State) : (safRecord c d s).mtx = s.mtx := by
  simp only [safRecord]; split <;> simp
@[simp] theorem safCause_mtx (c d : Nat) (m : Bool) (s : State) : (safCause c d m s).mtx = s.mtx := by
  simp only [safCause]; split <;> simp
@[simp] theorem safRecord_lea (c d : Nat) (s : State) : (safRecord c d s).lea = s.lea := by
  simp only [safRecord]; split <;> simp
@[simp] theorem safCause_lea (c d : Nat) (m : Bool) (s : State) : (safCause c d m s).lea = s.lea := by
  simp only [safCause]; split <;> simp
@[simp] theorem safRecord_yrd (c d : Nat) (s : State) : (safRecord c d s).yrd = s.yrd := by
  simp only [safRecord]; split <;> simp
@[simp] theorem safCause_yrd (c d : Nat) (m : Bool) (s : State) : (safCause c d m s).yrd = s.yrd := by
  simp only [safCause]; split <;> simp
@[simp] theorem safRecord_net (c d : Nat) (s : State) : (safRecord c d s).net = s.net := by
  simp only [safRecord]; split <;> simp
@[simp] theorem safCause_net (c d : Nat) (m : Bool) (s : State) : (safCause c d m s).net = s.net := by
  simp only [safCause]; split <;> simp
@[simp] theorem safRecord_ua (c d : Nat) (s : State) : (safRecord c d s).ua = s.ua := by
  simp only [safRecord]; split <;> simp
@[simp] theorem safCause_ua (c d : Nat) (m : Bool) (s : State) : (safCause c d m s).ua = s.ua := by
  simp only [safCause]; split <;> simp
@[simp] theorem safRecord_bil (c d : Nat) (s : State) : (safRecord c d s).bil = s.bil := by
  simp only [safRecord]; split <;> simp
@[simp] theorem safCause_bil (c d : Nat) (m : Bool) (s : State) : (safCause c d m s).bil = s.bil := by
  simp only [safCause]; split <;> simp
@[simp] theorem safRecord_persist (c d : Nat) (s : State) : (safRecord c d s).persist = s.persist := by
  simp only [safRecord]; split <;> simp
@[simp] theorem safCause_persist (c d : Nat) (m : Bool) (s : State) : (safCause c d m s).persist = s.persist := by
  simp only [safCause]; split <;> simp
@[simp] theorem safRecord_pwr (c d : Nat) (s : State) : (safRecord c d s).pwr = s.pwr := by
  simp only [safRecord]; split <;> simp
@[simp] theorem safCause_pwr (c d : Nat) (m : Bool) (s : State) : (safCause c d m s).pwr = s.pwr := by
  simp only [safCause]; split <;> simp
@[simp] theorem safRecord_fwu (c d : Nat) (s : State) : (safRecord c d s).fwu = s.fwu := by
  simp only [safRecord]; split <;> simp
@[simp] theorem safCause_fwu (c d : Nat) (m : Bool) (s : State) : (safCause c d m s).fwu = s.fwu := by
  simp only [safCause]; split <;> simp
@[simp] theorem safRecord_fram (c d : Nat) (s : State) : (safRecord c d s).fram = s.fram := by
  simp only [safRecord]; split <;> simp
@[simp] theorem safCause_fram (c d : Nat) (m : Bool) (s : State) : (safCause c d m s).fram = s.fram := by
  simp only [safCause]; split <;> simp
@[simp] theorem safRecord_fuse (c d : Nat) (s : State) : (safRecord c d s).fuse = s.fuse := by
  simp only [safRecord]; split <;> simp
@[simp] theorem safCause_fuse (c d : Nat) (m : Bool) (s : State) : (safCause c d m s).fuse = s.fuse := by
  simp only [safCause]; split <;> simp
@[simp] theorem safRecord_mtr (c d : Nat) (s : State) : (safRecord c d s).mtr = s.mtr := by
  simp only [safRecord]; split <;> simp
@[simp] theorem safCause_mtr (c d : Nat) (m : Bool) (s : State) : (safCause c d m s).mtr = s.mtr := by
  simp only [safCause]; split <;> simp
@[simp] theorem safRecord_opt (c d : Nat) (s : State) : (safRecord c d s).opt = s.opt := by
  simp only [safRecord]; split <;> simp
@[simp] theorem safCause_opt (c d : Nat) (m : Bool) (s : State) : (safCause c d m s).opt = s.opt := by
  simp only [safCause]; split <;> simp
@[simp] theorem safRecord_key (c d : Nat) (s : State) : (safRecord c d s).key = s.key := by
  simp only [safRecord]; split <;> simp
@[simp] theorem safCause_key (c d : Nat) (m : Bool) (s : State) : (safCause c d m s).key = s.key := by
  simp only [safCause]; split <;> simp
@[simp] theorem safRecord_legalSeg (c d : Nat) (s : State) : (safRecord c d s).legalSeg = s.legalSeg := by
  simp only [safRecord]; split <;> simp
@[simp] theorem safRecord_lcd (c d : Nat) (s : State) : (safRecord c d s).lcd = s.lcd := by
  simp only [safRecord]; split <;> simp
@[simp] theorem safCause_legalSeg (c d : Nat) (m : Bool) (s : State) : (safCause c d m s).legalSeg = s.legalSeg := by
  simp only [safCause]; split <;> simp
@[simp] theorem safCause_lcd (c d : Nat) (m : Bool) (s : State) : (safCause c d m s).lcd = s.lcd := by
  simp only [safCause]; split <;> simp
@[simp] theorem safRecord_veh (c d : Nat) (s : State) : (safRecord c d s).veh = s.veh := by
  simp only [safRecord]; split <;> simp
@[simp] theorem safCause_veh (c d : Nat) (m : Bool) (s : State) : (safCause c d m s).veh = s.veh := by
  simp only [safCause]; split <;> simp
@[simp] theorem safRecord_hfr (c d : Nat) (s : State) : (safRecord c d s).hfr = s.hfr := by
  simp only [safRecord]; split <;> simp
@[simp] theorem safCause_hfr (c d : Nat) (m : Bool) (s : State) : (safCause c d m s).hfr = s.hfr := by
  simp only [safCause]; split <;> simp
@[simp] theorem safRecord_lch (c d : Nat) (s : State) : (safRecord c d s).lch = s.lch := by
  simp only [safRecord]; split <;> simp
@[simp] theorem safCause_lch (c d : Nat) (m : Bool) (s : State) : (safCause c d m s).lch = s.lch := by
  simp only [safCause]; split <;> simp
@[simp] theorem safRecord_layDig (c d : Nat) (s : State) : (safRecord c d s).layDig = s.layDig := by
  simp only [safRecord]; split <;> simp
@[simp] theorem safCause_layDig (c d : Nat) (m : Bool) (s : State) : (safCause c d m s).layDig = s.layDig := by
  simp only [safCause]; split <;> simp
@[simp] theorem outPend_pending (n : Nat) (f : Nat → Fld) (s : State) : (outPend n f s).pending = s.pending := rfl
@[simp] theorem outPend_regs (n : Nat) (f : Nat → Fld) (s : State) : (outPend n f s).regs = s.regs := rfl
@[simp] theorem outPend_resp (n : Nat) (f : Nat → Fld) (s : State) : (outPend n f s).resp = s.resp := rfl
@[simp] theorem outPend_shadow (n : Nat) (f : Nat → Fld) (s : State) : (outPend n f s).shadow = s.shadow := rfl
@[simp] theorem outPend_stage (n : Nat) (f : Nat → Fld) (s : State) : (outPend n f s).stage = s.stage := rfl
@[simp] theorem outPend_mem (n : Nat) (f : Nat → Fld) (s : State) : (outPend n f s).mem = s.mem := rfl
@[simp] theorem outPend_flash (n : Nat) (f : Nat → Fld) (s : State) : (outPend n f s).flash = s.flash := rfl
@[simp] theorem outPend_sec (n : Nat) (f : Nat → Fld) (s : State) : (outPend n f s).sec = s.sec := rfl
@[simp] theorem outPend_loaded (n : Nat) (f : Nat → Fld) (s : State) : (outPend n f s).loaded = s.loaded := rfl
@[simp] theorem outPend_freeCtr (n : Nat) (f : Nat → Fld) (s : State) : (outPend n f s).freeCtr = s.freeCtr := rfl
@[simp] theorem outPend_tmp (n : Nat) (f : Nat → Fld) (s : State) : (outPend n f s).tmp = s.tmp := rfl
@[simp] theorem outPend_brd (n : Nat) (f : Nat → Fld) (s : State) : (outPend n f s).brd = s.brd := rfl
@[simp] theorem outPend_strm (n : Nat) (f : Nat → Fld) (s : State) : (outPend n f s).strm = s.strm := rfl
@[simp] theorem outPend_fz (n : Nat) (f : Nat → Fld) (s : State) : (outPend n f s).fz = s.fz := rfl
@[simp] theorem outPend_outsF (n : Nat) (f : Nat → Fld) (s : State) : (outPend n f s).outsF = s.outsF := rfl
@[simp] theorem outPend_mtx (n : Nat) (f : Nat → Fld) (s : State) : (outPend n f s).mtx = s.mtx := rfl
@[simp] theorem outPend_saf (n : Nat) (f : Nat → Fld) (s : State) : (outPend n f s).saf = s.saf := rfl
@[simp] theorem outPend_lea (n : Nat) (f : Nat → Fld) (s : State) : (outPend n f s).lea = s.lea := rfl
@[simp] theorem outPend_yrd (n : Nat) (f : Nat → Fld) (s : State) : (outPend n f s).yrd = s.yrd := rfl
@[simp] theorem outPend_net (n : Nat) (f : Nat → Fld) (s : State) : (outPend n f s).net = s.net := rfl
@[simp] theorem outPend_ua (n : Nat) (f : Nat → Fld) (s : State) : (outPend n f s).ua = s.ua := rfl
@[simp] theorem outPend_bil (n : Nat) (f : Nat → Fld) (s : State) : (outPend n f s).bil = s.bil := rfl
@[simp] theorem outPend_persist (n : Nat) (f : Nat → Fld) (s : State) : (outPend n f s).persist = s.persist := rfl
@[simp] theorem outPend_pwr (n : Nat) (f : Nat → Fld) (s : State) : (outPend n f s).pwr = s.pwr := rfl
@[simp] theorem outPend_fwu (n : Nat) (f : Nat → Fld) (s : State) : (outPend n f s).fwu = s.fwu := rfl
@[simp] theorem outPend_fram (n : Nat) (f : Nat → Fld) (s : State) : (outPend n f s).fram = s.fram := rfl
@[simp] theorem outPend_fuse (n : Nat) (f : Nat → Fld) (s : State) : (outPend n f s).fuse = s.fuse := rfl
@[simp] theorem outPend_mtr (n : Nat) (f : Nat → Fld) (s : State) : (outPend n f s).mtr = s.mtr := rfl
@[simp] theorem outPend_opt (n : Nat) (f : Nat → Fld) (s : State) : (outPend n f s).opt = s.opt := rfl
@[simp] theorem outPend_key (n : Nat) (f : Nat → Fld) (s : State) : (outPend n f s).key = s.key := rfl
@[simp] theorem outPend_legalSeg (n : Nat) (f : Nat → Fld) (s : State) : (outPend n f s).legalSeg = s.legalSeg := rfl
@[simp] theorem outPend_lcd (n : Nat) (f : Nat → Fld) (s : State) : (outPend n f s).lcd = s.lcd := rfl
@[simp] theorem outPend_veh (n : Nat) (f : Nat → Fld) (s : State) : (outPend n f s).veh = s.veh := rfl
@[simp] theorem outPend_hfr (n : Nat) (f : Nat → Fld) (s : State) : (outPend n f s).hfr = s.hfr := rfl
@[simp] theorem outPend_lch (n : Nat) (f : Nat → Fld) (s : State) : (outPend n f s).lch = s.lch := rfl
@[simp] theorem outPend_layDig (n : Nat) (f : Nat → Fld) (s : State) : (outPend n f s).layDig = s.layDig := rfl
@[simp] theorem outCause_pending (n c : Nat) (s : State) : (outCause n c s).pending = s.pending := rfl
@[simp] theorem outCause_regs (n c : Nat) (s : State) : (outCause n c s).regs = s.regs := rfl
@[simp] theorem outCause_resp (n c : Nat) (s : State) : (outCause n c s).resp = s.resp := rfl
@[simp] theorem outCause_shadow (n c : Nat) (s : State) : (outCause n c s).shadow = s.shadow := rfl
@[simp] theorem outCause_stage (n c : Nat) (s : State) : (outCause n c s).stage = s.stage := rfl
@[simp] theorem outCause_mem (n c : Nat) (s : State) : (outCause n c s).mem = s.mem := rfl
@[simp] theorem outCause_flash (n c : Nat) (s : State) : (outCause n c s).flash = s.flash := rfl
@[simp] theorem outCause_sec (n c : Nat) (s : State) : (outCause n c s).sec = s.sec := rfl
@[simp] theorem outCause_loaded (n c : Nat) (s : State) : (outCause n c s).loaded = s.loaded := rfl
@[simp] theorem outCause_freeCtr (n c : Nat) (s : State) : (outCause n c s).freeCtr = s.freeCtr := rfl
@[simp] theorem outCause_tmp (n c : Nat) (s : State) : (outCause n c s).tmp = s.tmp := rfl
@[simp] theorem outCause_brd (n c : Nat) (s : State) : (outCause n c s).brd = s.brd := rfl
@[simp] theorem outCause_strm (n c : Nat) (s : State) : (outCause n c s).strm = s.strm := rfl
@[simp] theorem outCause_fz (n c : Nat) (s : State) : (outCause n c s).fz = s.fz := rfl
@[simp] theorem outCause_outsF (n c : Nat) (s : State) : (outCause n c s).outsF = s.outsF := rfl
@[simp] theorem outCause_mtx (n c : Nat) (s : State) : (outCause n c s).mtx = s.mtx := rfl
@[simp] theorem outCause_saf (n c : Nat) (s : State) : (outCause n c s).saf = s.saf := rfl
@[simp] theorem outCause_lea (n c : Nat) (s : State) : (outCause n c s).lea = s.lea := rfl
@[simp] theorem outCause_yrd (n c : Nat) (s : State) : (outCause n c s).yrd = s.yrd := rfl
@[simp] theorem outCause_net (n c : Nat) (s : State) : (outCause n c s).net = s.net := rfl
@[simp] theorem outCause_ua (n c : Nat) (s : State) : (outCause n c s).ua = s.ua := rfl
@[simp] theorem outCause_bil (n c : Nat) (s : State) : (outCause n c s).bil = s.bil := rfl
@[simp] theorem outCause_persist (n c : Nat) (s : State) : (outCause n c s).persist = s.persist := rfl
@[simp] theorem outCause_pwr (n c : Nat) (s : State) : (outCause n c s).pwr = s.pwr := rfl
@[simp] theorem outCause_fwu (n c : Nat) (s : State) : (outCause n c s).fwu = s.fwu := rfl
@[simp] theorem outCause_fram (n c : Nat) (s : State) : (outCause n c s).fram = s.fram := rfl
@[simp] theorem outCause_fuse (n c : Nat) (s : State) : (outCause n c s).fuse = s.fuse := rfl
@[simp] theorem outCause_mtr (n c : Nat) (s : State) : (outCause n c s).mtr = s.mtr := rfl
@[simp] theorem outCause_opt (n c : Nat) (s : State) : (outCause n c s).opt = s.opt := rfl
@[simp] theorem outCause_key (n c : Nat) (s : State) : (outCause n c s).key = s.key := rfl
@[simp] theorem outCause_legalSeg (n c : Nat) (s : State) : (outCause n c s).legalSeg = s.legalSeg := rfl
@[simp] theorem outCause_lcd (n c : Nat) (s : State) : (outCause n c s).lcd = s.lcd := rfl
@[simp] theorem outCause_veh (n c : Nat) (s : State) : (outCause n c s).veh = s.veh := rfl
@[simp] theorem outCause_hfr (n c : Nat) (s : State) : (outCause n c s).hfr = s.hfr := rfl
@[simp] theorem outCause_lch (n c : Nat) (s : State) : (outCause n c s).lch = s.lch := rfl
@[simp] theorem outCause_layDig (n c : Nat) (s : State) : (outCause n c s).layDig = s.layDig := rfl
@[simp] theorem outGo_pending (n : Nat) (st : OutSt) (s : State) : (outGo n st s).pending = s.pending := rfl
@[simp] theorem outGo_regs (n : Nat) (st : OutSt) (s : State) : (outGo n st s).regs = s.regs := rfl
@[simp] theorem outGo_resp (n : Nat) (st : OutSt) (s : State) : (outGo n st s).resp = s.resp := rfl
@[simp] theorem outGo_shadow (n : Nat) (st : OutSt) (s : State) : (outGo n st s).shadow = s.shadow := rfl
@[simp] theorem outGo_stage (n : Nat) (st : OutSt) (s : State) : (outGo n st s).stage = s.stage := rfl
@[simp] theorem outGo_mem (n : Nat) (st : OutSt) (s : State) : (outGo n st s).mem = s.mem := rfl
@[simp] theorem outGo_flash (n : Nat) (st : OutSt) (s : State) : (outGo n st s).flash = s.flash := rfl
@[simp] theorem outGo_sec (n : Nat) (st : OutSt) (s : State) : (outGo n st s).sec = s.sec := rfl
@[simp] theorem outGo_loaded (n : Nat) (st : OutSt) (s : State) : (outGo n st s).loaded = s.loaded := rfl
@[simp] theorem outGo_freeCtr (n : Nat) (st : OutSt) (s : State) : (outGo n st s).freeCtr = s.freeCtr := rfl
@[simp] theorem outGo_tmp (n : Nat) (st : OutSt) (s : State) : (outGo n st s).tmp = s.tmp := rfl
@[simp] theorem outGo_brd (n : Nat) (st : OutSt) (s : State) : (outGo n st s).brd = s.brd := rfl
@[simp] theorem outGo_strm (n : Nat) (st : OutSt) (s : State) : (outGo n st s).strm = s.strm := rfl
@[simp] theorem outGo_fz (n : Nat) (st : OutSt) (s : State) : (outGo n st s).fz = s.fz := rfl
@[simp] theorem outGo_outsF (n : Nat) (st : OutSt) (s : State) : (outGo n st s).outsF = s.outsF := rfl
@[simp] theorem outGo_mtx (n : Nat) (st : OutSt) (s : State) : (outGo n st s).mtx = s.mtx := rfl
@[simp] theorem outGo_saf (n : Nat) (st : OutSt) (s : State) : (outGo n st s).saf = s.saf := rfl
@[simp] theorem outGo_lea (n : Nat) (st : OutSt) (s : State) : (outGo n st s).lea = s.lea := rfl
@[simp] theorem outGo_yrd (n : Nat) (st : OutSt) (s : State) : (outGo n st s).yrd = s.yrd := rfl
@[simp] theorem outGo_net (n : Nat) (st : OutSt) (s : State) : (outGo n st s).net = s.net := rfl
@[simp] theorem outGo_ua (n : Nat) (st : OutSt) (s : State) : (outGo n st s).ua = s.ua := rfl
@[simp] theorem outGo_bil (n : Nat) (st : OutSt) (s : State) : (outGo n st s).bil = s.bil := rfl
@[simp] theorem outGo_persist (n : Nat) (st : OutSt) (s : State) : (outGo n st s).persist = s.persist := rfl
@[simp] theorem outGo_pwr (n : Nat) (st : OutSt) (s : State) : (outGo n st s).pwr = s.pwr := rfl
@[simp] theorem outGo_fwu (n : Nat) (st : OutSt) (s : State) : (outGo n st s).fwu = s.fwu := rfl
@[simp] theorem outGo_fram (n : Nat) (st : OutSt) (s : State) : (outGo n st s).fram = s.fram := rfl
@[simp] theorem outGo_fuse (n : Nat) (st : OutSt) (s : State) : (outGo n st s).fuse = s.fuse := rfl
@[simp] theorem outGo_mtr (n : Nat) (st : OutSt) (s : State) : (outGo n st s).mtr = s.mtr := rfl
@[simp] theorem outGo_opt (n : Nat) (st : OutSt) (s : State) : (outGo n st s).opt = s.opt := rfl
@[simp] theorem outGo_key (n : Nat) (st : OutSt) (s : State) : (outGo n st s).key = s.key := rfl
@[simp] theorem outGo_legalSeg (n : Nat) (st : OutSt) (s : State) : (outGo n st s).legalSeg = s.legalSeg := rfl
@[simp] theorem outGo_lcd (n : Nat) (st : OutSt) (s : State) : (outGo n st s).lcd = s.lcd := rfl
@[simp] theorem outGo_veh (n : Nat) (st : OutSt) (s : State) : (outGo n st s).veh = s.veh := rfl
@[simp] theorem outGo_hfr (n : Nat) (st : OutSt) (s : State) : (outGo n st s).hfr = s.hfr := rfl
@[simp] theorem outGo_lch (n : Nat) (st : OutSt) (s : State) : (outGo n st s).lch = s.lch := rfl
@[simp] theorem outGo_layDig (n : Nat) (st : OutSt) (s : State) : (outGo n st s).layDig = s.layDig := rfl
@[simp] theorem sessionEvent_pending (n : Nat) (e : SessEv) (s : State) : (sessionEvent n e s).pending = s.pending := rfl
@[simp] theorem sessionEvent_regs (n : Nat) (e : SessEv) (s : State) : (sessionEvent n e s).regs = s.regs := rfl
@[simp] theorem sessionEvent_resp (n : Nat) (e : SessEv) (s : State) : (sessionEvent n e s).resp = s.resp := rfl
@[simp] theorem sessionEvent_shadow (n : Nat) (e : SessEv) (s : State) : (sessionEvent n e s).shadow = s.shadow := rfl
@[simp] theorem sessionEvent_stage (n : Nat) (e : SessEv) (s : State) : (sessionEvent n e s).stage = s.stage := rfl
@[simp] theorem sessionEvent_mem (n : Nat) (e : SessEv) (s : State) : (sessionEvent n e s).mem = s.mem := rfl
@[simp] theorem sessionEvent_flash (n : Nat) (e : SessEv) (s : State) : (sessionEvent n e s).flash = s.flash := rfl
@[simp] theorem sessionEvent_sec (n : Nat) (e : SessEv) (s : State) : (sessionEvent n e s).sec = s.sec := rfl
@[simp] theorem sessionEvent_loaded (n : Nat) (e : SessEv) (s : State) : (sessionEvent n e s).loaded = s.loaded := rfl
@[simp] theorem sessionEvent_freeCtr (n : Nat) (e : SessEv) (s : State) : (sessionEvent n e s).freeCtr = s.freeCtr := rfl
@[simp] theorem sessionEvent_tmp (n : Nat) (e : SessEv) (s : State) : (sessionEvent n e s).tmp = s.tmp := rfl
@[simp] theorem sessionEvent_brd (n : Nat) (e : SessEv) (s : State) : (sessionEvent n e s).brd = s.brd := rfl
@[simp] theorem sessionEvent_strm (n : Nat) (e : SessEv) (s : State) : (sessionEvent n e s).strm = s.strm := rfl
@[simp] theorem sessionEvent_fz (n : Nat) (e : SessEv) (s : State) : (sessionEvent n e s).fz = s.fz := rfl
@[simp] theorem sessionEvent_outsF (n : Nat) (e : SessEv) (s : State) : (sessionEvent n e s).outsF = s.outsF := rfl
@[simp] theorem sessionEvent_mtx (n : Nat) (e : SessEv) (s : State) : (sessionEvent n e s).mtx = s.mtx := rfl
@[simp] theorem sessionEvent_saf (n : Nat) (e : SessEv) (s : State) : (sessionEvent n e s).saf = s.saf := rfl
@[simp] theorem sessionEvent_lea (n : Nat) (e : SessEv) (s : State) : (sessionEvent n e s).lea = s.lea := rfl
@[simp] theorem sessionEvent_yrd (n : Nat) (e : SessEv) (s : State) : (sessionEvent n e s).yrd = s.yrd := rfl
@[simp] theorem sessionEvent_net (n : Nat) (e : SessEv) (s : State) : (sessionEvent n e s).net = s.net := rfl
@[simp] theorem sessionEvent_ua (n : Nat) (e : SessEv) (s : State) : (sessionEvent n e s).ua = s.ua := rfl
@[simp] theorem sessionEvent_bil (n : Nat) (e : SessEv) (s : State) : (sessionEvent n e s).bil = s.bil := rfl
@[simp] theorem sessionEvent_persist (n : Nat) (e : SessEv) (s : State) : (sessionEvent n e s).persist = s.persist := rfl
@[simp] theorem sessionEvent_pwr (n : Nat) (e : SessEv) (s : State) : (sessionEvent n e s).pwr = s.pwr := rfl
@[simp] theorem sessionEvent_fwu (n : Nat) (e : SessEv) (s : State) : (sessionEvent n e s).fwu = s.fwu := rfl
@[simp] theorem sessionEvent_fram (n : Nat) (e : SessEv) (s : State) : (sessionEvent n e s).fram = s.fram := rfl
@[simp] theorem sessionEvent_fuse (n : Nat) (e : SessEv) (s : State) : (sessionEvent n e s).fuse = s.fuse := rfl
@[simp] theorem sessionEvent_mtr (n : Nat) (e : SessEv) (s : State) : (sessionEvent n e s).mtr = s.mtr := rfl
@[simp] theorem sessionEvent_opt (n : Nat) (e : SessEv) (s : State) : (sessionEvent n e s).opt = s.opt := rfl
@[simp] theorem sessionEvent_key (n : Nat) (e : SessEv) (s : State) : (sessionEvent n e s).key = s.key := rfl
@[simp] theorem sessionEvent_legalSeg (n : Nat) (e : SessEv) (s : State) : (sessionEvent n e s).legalSeg = s.legalSeg := rfl
@[simp] theorem sessionEvent_lcd (n : Nat) (e : SessEv) (s : State) : (sessionEvent n e s).lcd = s.lcd := rfl
@[simp] theorem sessionEvent_veh (n : Nat) (e : SessEv) (s : State) : (sessionEvent n e s).veh = s.veh := rfl
@[simp] theorem sessionEvent_hfr (n : Nat) (e : SessEv) (s : State) : (sessionEvent n e s).hfr = s.hfr := rfl
@[simp] theorem sessionEvent_lch (n : Nat) (e : SessEv) (s : State) : (sessionEvent n e s).lch = s.lch := rfl
@[simp] theorem sessionEvent_layDig (n : Nat) (e : SessEv) (s : State) : (sessionEvent n e s).layDig = s.layDig := rfl
@[simp] theorem outReject_pending (n r : Nat) (s : State) : (outReject n r s).pending = s.pending := rfl
@[simp] theorem outReject_regs (n r : Nat) (s : State) : (outReject n r s).regs = s.regs := rfl
@[simp] theorem outReject_resp (n r : Nat) (s : State) : (outReject n r s).resp = s.resp := rfl
@[simp] theorem outReject_shadow (n r : Nat) (s : State) : (outReject n r s).shadow = s.shadow := rfl
@[simp] theorem outReject_stage (n r : Nat) (s : State) : (outReject n r s).stage = s.stage := rfl
@[simp] theorem outReject_mem (n r : Nat) (s : State) : (outReject n r s).mem = s.mem := rfl
@[simp] theorem outReject_flash (n r : Nat) (s : State) : (outReject n r s).flash = s.flash := rfl
@[simp] theorem outReject_sec (n r : Nat) (s : State) : (outReject n r s).sec = s.sec := rfl
@[simp] theorem outReject_loaded (n r : Nat) (s : State) : (outReject n r s).loaded = s.loaded := rfl
@[simp] theorem outReject_freeCtr (n r : Nat) (s : State) : (outReject n r s).freeCtr = s.freeCtr := rfl
@[simp] theorem outReject_tmp (n r : Nat) (s : State) : (outReject n r s).tmp = s.tmp := rfl
@[simp] theorem outReject_brd (n r : Nat) (s : State) : (outReject n r s).brd = s.brd := rfl
@[simp] theorem outReject_strm (n r : Nat) (s : State) : (outReject n r s).strm = s.strm := rfl
@[simp] theorem outReject_fz (n r : Nat) (s : State) : (outReject n r s).fz = s.fz := rfl
@[simp] theorem outReject_outsF (n r : Nat) (s : State) : (outReject n r s).outsF = s.outsF := rfl
@[simp] theorem outReject_mtx (n r : Nat) (s : State) : (outReject n r s).mtx = s.mtx := rfl
@[simp] theorem outReject_saf (n r : Nat) (s : State) : (outReject n r s).saf = s.saf := rfl
@[simp] theorem outReject_lea (n r : Nat) (s : State) : (outReject n r s).lea = s.lea := rfl
@[simp] theorem outReject_yrd (n r : Nat) (s : State) : (outReject n r s).yrd = s.yrd := rfl
@[simp] theorem outReject_net (n r : Nat) (s : State) : (outReject n r s).net = s.net := rfl
@[simp] theorem outReject_ua (n r : Nat) (s : State) : (outReject n r s).ua = s.ua := rfl
@[simp] theorem outReject_bil (n r : Nat) (s : State) : (outReject n r s).bil = s.bil := rfl
@[simp] theorem outReject_persist (n r : Nat) (s : State) : (outReject n r s).persist = s.persist := rfl
@[simp] theorem outReject_pwr (n r : Nat) (s : State) : (outReject n r s).pwr = s.pwr := rfl
@[simp] theorem outReject_fwu (n r : Nat) (s : State) : (outReject n r s).fwu = s.fwu := rfl
@[simp] theorem outReject_fram (n r : Nat) (s : State) : (outReject n r s).fram = s.fram := rfl
@[simp] theorem outReject_fuse (n r : Nat) (s : State) : (outReject n r s).fuse = s.fuse := rfl
@[simp] theorem outReject_mtr (n r : Nat) (s : State) : (outReject n r s).mtr = s.mtr := rfl
@[simp] theorem outReject_opt (n r : Nat) (s : State) : (outReject n r s).opt = s.opt := rfl
@[simp] theorem outReject_key (n r : Nat) (s : State) : (outReject n r s).key = s.key := rfl
@[simp] theorem outReject_legalSeg (n r : Nat) (s : State) : (outReject n r s).legalSeg = s.legalSeg := rfl
@[simp] theorem outReject_lcd (n r : Nat) (s : State) : (outReject n r s).lcd = s.lcd := rfl
@[simp] theorem outReject_veh (n r : Nat) (s : State) : (outReject n r s).veh = s.veh := rfl
@[simp] theorem outReject_hfr (n r : Nat) (s : State) : (outReject n r s).hfr = s.hfr := rfl
@[simp] theorem outReject_lch (n r : Nat) (s : State) : (outReject n r s).lch = s.lch := rfl
@[simp] theorem outReject_layDig (n r : Nat) (s : State) : (outReject n r s).layDig = s.layDig := rfl

/-- The outlet takes the state, from the next tempo on, and STCHG waits for the edge. -/
theorem outGo_st (n : Nat) (st : OutSt) (s : State) (h : n < 4) :
    outlet (outGo n st s) n
      = { outlet s n with st := st, since := s.tmp.now + 1, pend := (outlet s n).pend ||| 2 ^ (F.OUT_FLAGS_STCHG n).lo } := by
  simp only [outGo, outPend, outlet, onOutlet]
  rw [Tab.get_upd_self _ _ _ _ h, Tab.get_upd_self _ _ _ _ h]

end Sys2Proof.Machine
end

