-- ==== Sys2Proof/Laws/Bus.lean ====
section
/-!
SUPPORT. What an access by the application cluster comes to in each range of the address map, and when a register access is
not refused.
-/

namespace Sys2Proof.Machine

@[simp] theorem rget_respond (v : Nat) (s : State) (f : Fld) : rget (respond v s) f = rget s f := rfl
@[simp] theorem rget_busError (s : State) (f : Fld) : rget (busError s) f = rget s f := rfl

/-- What holds of the fields of every row of the register tables holds of the fields of every documented register. -/
theorem regFields_all (p : List FldRow → Bool) (h : (List.range 23).all (fun b => (regRowsOf b).all (fun r => p r.fields)) = true)
    (a : Nat) (fl : List FldRow) (e : regFields a = some fl) : p fl = true := by
  unfold regFields at e
  obtain ⟨r, hr, rfl⟩ := Option.map_eq_some_iff.mp e
  have hm := List.mem_of_find?_eq_some hr
  by_cases hb : (a - 0x10000000) / 0x10000 < 23
  · exact List.all_eq_true.mp (List.all_eq_true.mp h _ (List.mem_range.mpr hb)) r hm
  · have : regRowsOf ((a - 0x10000000) / 0x10000) = [] := by unfold regRowsOf; split <;> first | omega | rfl
    rw [this] at hm; cases hm

/-- The fields of a register lie at distinct bits, within its 32. -/
theorem regFields_distinct (a : Nat) (fl : List FldRow) (e : regFields a = some fl) :
    (fl.map (·.lo)).Nodup ∧ ∀ f ∈ fl, f.lo + f.width ≤ 32 := by
  have h := regFields_all (fun fl => decide (fl.map (·.lo)).Nodup && fl.all (fun f => decide (f.lo + f.width ≤ 32)))
    (by decide +kernel) a fl e
  simpa using h

/-- A store to SRAM. -/
theorem busWrite_sram (a v n : Nat) (m : Sys2Proof.BusMode) (s : State) (h1 : busOn s = true) (h2 : regionOf a n = .sram) :
    busWrite a v n m s = .next (respond 0 (memWrite a (leBytes n v) s)) := by
  simp only [busWrite, h1, h2]; rfl

/-- A store to DRAM that is on. -/
theorem busWrite_dram (a v n : Nat) (m : Sys2Proof.BusMode) (s : State) (h1 : busOn s = true) (h2 : regionOf a n = .dram)
    (h3 : dramOn s = true) : busWrite a v n m s = .next (respond 0 (memWrite a (leBytes n v) s)) := by
  simp only [busWrite, h1, h2, h3]; rfl

/-- A load from SRAM. -/
theorem busRead_sram (a n : Nat) (m : Sys2Proof.BusMode) (s : State) (h1 : busOn s = true) (h2 : regionOf a n = .sram) :
    busRead a n m s = .next (respond (leVal (memRead s a n)) s) := by
  simp only [busRead, h1, h2]; rfl

/-- A load from DRAM that is on. -/
theorem busRead_dram (a n : Nat) (m : Sys2Proof.BusMode) (s : State) (h1 : busOn s = true) (h2 : regionOf a n = .dram)
    (h3 : dramOn s = true) : busRead a n m s = .next (respond (leVal (memRead s a n)) s) := by
  simp only [busRead, h1, h2, h3]; rfl

/-- An accepted register write. -/
theorem busWrite_reg (a v : Nat) (m : Sys2Proof.BusMode) (s : State) (h1 : busOn s = true) (h2 : regionOf a 4 = .reg)
    (h3 : regDenied true a 4 m s = none) : busWrite a v 4 m s = .next (regWrite a (v % 4294967296) s) := by
  simp only [busWrite, h1, h2, h3]; rfl

/-- An accepted register read. -/
theorem busRead_reg (a : Nat) (m : Sys2Proof.BusMode) (s : State) (h1 : busOn s = true) (h2 : regionOf a 4 = .reg)
    (h3 : regDenied false a 4 m s = none) : busRead a 4 m s = .next (portRead a s) := by
  simp only [busRead, h1, h2, h3]; rfl

/-- An aligned word read of a documented register outside KEY, its domain on, is accepted in every mode. -/
theorem regDenied_read (a : Nat) (m : Sys2Proof.BusMode) (s : State) (ha : a % 4 = 0) (h1 : domainOn s a = true)
    (h2 : (regFields a).isNone = false) (h3 : blockOf a ≠ 19) : regDenied false a 4 m s = none := by
  simp [regDenied, ha, h1, modeAllows, h2, h3]

/-- An aligned word write of a documented register through an open door, its domain on, is accepted in machine mode. -/
theorem regDenied_write (a : Nat) (s : State) (ha : a % 4 = 0) (h1 : domainOn s a = true) (h2 : (regFields a).isNone = false)
    (h3 : doorOpen a = true) (h4 : cabinetCan s a = false) : regDenied true a 4 .machine s = none := by
  simp [regDenied, ha, h1, modeAllows, h2, h3, h4]

/-- A register outside the CAN controllers is never the matrix controller's. -/
theorem cabinetCan_other (s : State) (a : Nat) (h : blockOf a ≠ 11) : cabinetCan s a = false := by
  simp [cabinetCan, h]

end Sys2Proof.Machine
end

