-- ==== Sys2Proof/WellFormed.lean ====
section
/-!
DEFINITION. Which commands are well formed: the bounds of operands whose type does not give them. A finish cycle is a cycle
number of 14 bits (R60); a mailbox header has 8 bits of length and its data registers 128 bytes (R205, R293); a decimation
output carries 16 channels and four references (R211, R222); messages and frames have the lengths of their protocols. The
types give every other bound. The meanings are total: none of them rests on a command being well formed.
-/

namespace Sys2Proof

/-- A yard-line window: 24 data bytes, and four energies for each of 128 symbol slots. -/
def yardRxOk (rx : YardRx) : Bool :=
  decide (rx.bytes.length = 24) && decide (rx.sym.length = 128) && rx.sym.all (fun e => decide (e.length = 4))

def Instr.wf : Instr → Bool
  | .tempoEdge _ => true
  | .freeze fin _ _ => fin < 16384
  | .moveTrue fin _ _ => fin < 16384
  | .moveComp fin _ _ => fin < 16384
  | .compare fin => fin < 16384
  | .seq fin => fin < 16384
  | .matrix fin => fin < 16384
  | .mxport fin rx => fin < 16384 && rx.readback.length ≤ 8 && rx.serial.length ≤ 8
  | .scrub fin _ upset => fin < 16384 && upset.all (fun p => p.1 < 65536)
  | .integrate fin => fin < 16384
  | .book fin => fin < 16384
  | .boardTimerExpiry _ _ => true
  | .boardCounterTerminal _ => true
  | .comparatorStale _ => true
  | .writeRegister _ _ _ _ => true
  | .w1cClear _ _ _ _ => true
  | .evcntClr _ _ _ => true
  | .seal _ => true
  | .readLoShadow _ _ _ => true
  | .writeHiCommit _ _ _ => true
  | .interdieTransfer _ _ _ => true
  | .persistRequest => true
  | .persistCommitAck => true
  | .timeSourceLost _ => true
  | .ptpOffsetTimeout => true
  | .ptpOffsetWrite _ => true
  | .syncTimeRx _ rx _ _ => rx.bytes.length ≤ 1500
  | .dreqSend _ => true
  | .dreqRx _ rx _ => rx.bytes.length ≤ 1500
  | .syncLoss _ => true
  | .stepToSync => true
  | .layoutLoad => true
  | .lockstepFault => true
  | .safeSramError _ => true
  | .safeSramScrub _ _ => true
  | .safeRomParity => true
  | .tempoWd _ => true
  | .supplyFault _ _ => true
  | .dieTempSample _ _ => true
  | .tempsense _ _ _ => true
  | .checkTimeout _ => true
  | .safebistComplete _ => true
  | .safetyInputAccept _ _ _ _ => true
  | .inputDiscrepancy _ _ => true
  | .inputAgreementRestored _ _ => true
  | .testPulse _ => true
  | .testPulseCheck _ _ _ => true
  | .soOvercurrent _ _ _ => true
  | .darkTest _ _ _ _ => true
  | .guardDiscrepant => true
  | .guardProofExpiry => true
  | .guardDue => true
  | .isoCycleStart _ => true
  | .isoTauFit _ _ => true
  | .isoPhasePEnd _ _ decay => decide (decay < 4294967296)
  | .isoPhaseNEnd _ _ decay => decide (decay < 4294967296)
  | .rcTrip _ => true
  | .fluxgateTest _ _ => true
  | .safFlagclr _ len payload => len < 256 && payload.length ≤ 128
  | .safIenset _ len payload => len < 256 && payload.length ≤ 128
  | .wearrst _ len payload => len < 256 && payload.length ≤ 128
  | .checkack _ len payload => len < 256 && payload.length ≤ 128
  | .safereset _ len payload => len < 256 && payload.length ≤ 128
  | .challengeRefresh => true
  | .safEvqRead => true
  | .reqCableCheck _ _ => true
  | .reqPrecharge _ _ => true
  | .reqEnergy _ _ => true
  | .reqStop _ _ => true
  | .reqOos _ _ => true
  | .reqService _ _ => true
  | .reqAck _ _ => true
  | .reqRearm _ _ => true
  | .authRequest _ => true
  | .deauth _ => true
  | .evopen _ => true
  | .dirChange _ _ => true
  | .outLimitWrite _ _ => true
  | .tLockExpiry _ => true
  | .tAuthExpiry _ => true
  | .tNegExpiry _ => true
  | .tCcExpiry _ => true
  | .tPcExpiry _ => true
  | .tFwwdExpiry _ => true
  | .zeroCurrentConfirmed _ => true
  | .tRdExpiry _ => true
  | .tZcExpiry _ => true
  | .fbMismatch _ => true
  | .tEvopenExpiry _ => true
  | .tWeldExpiry _ => true
  | .tAcrespExpiry _ => true
  | .busLost _ => true
  | .busreqSend => true
  | .pilotDecision _ fst snd => fst.length == 500 && snd.length == 500
  | .pilotStateConfirmed _ => true
  | .proximityResult _ l => decide (l.length = 100)
  | .plugDetect _ _ _ => true
  | .pilotBreak _ => true
  | .pilotBreakEnd _ => true
  | .xpWeld _ => true
  | .tVmatchExpiry _ => true
  | .tXzcExpiry _ => true
  | .xpFbMismatch _ => true
  | .migrationAbort _ => true
  | .pgCommandSend _ => true
  | .pgStatusRx _ id data => id < 2 ^ 29 && data.length ≤ 8
  | .groupLost _ => true
  | .balanceUpdate => true
  | .balanceSaturated _ => true
  | .grantSend => true
  | .wearPersist _ => true
  | .decimatorOutput o => decide (o.d.length = 16)
  | .channelDead _ _ _ => true
  | .channelRecovered _ => true
  | .tempTableUpdate => true
  | .tstale _ => true
  | .trangeClear _ => true
  | .pilotSequenceDraw => true
  | .pilotBlock => true
  | .rmsUpdate => true
  | .zeroCrossing _ => true
  | .freqUpdate => true
  | .phaseSequenceDecided _ => true
  | .missingNeutral _ => true
  | .missingNeutralClear _ => true
  | .sumerr => true
  | .sumerrClear => true
  | .pulseOutput => true
  | .pulseInput _ _ _ => true
  | .picntWrite _ _ _ => true
  | .journalWriteComplete _ => true
  | .timeslew _ len payload => len < 256 && payload.length ≤ 128
  | .timestep _ len payload => len < 256 && payload.length ≤ 128
  | .calload _ len payload => len < 256 && payload.length ≤ 128
  | .calcommit _ len payload => len < 256 && payload.length ≤ 128
  | .calcancel _ len payload => len < 256 && payload.length ≤ 128
  | .recread _ len payload => len < 256 && payload.length ≤ 128
  | .regread _ len payload => len < 256 && payload.length ≤ 128
  | .showcheck _ len payload => len < 256 && payload.length ≤ 128
  | .bilFlagclr _ len payload => len < 256 && payload.length ≤ 128
  | .bilIenset _ len payload => len < 256 && payload.length ≤ 128
  | .bilEvqRead => true
  | .finalEntry => true
  | .optSignon chars _ => chars.length ≤ 64
  | .optBaudAck chars => chars.length ≤ 64
  | .optIdleTimeout _ => true
  | .optHdlcFrame _ => true
  | .dlmsGet a _ => a.obis.length = 6 && a.obis.all (· < 256)
  | .dlmsSet obis => obis.length = 6 && obis.all (· < 256)
  | .dlmsAction obis _ => obis.length = 6 && obis.all (· < 256)
  | .optInactivityTimeout => true
  | .serviceButton _ => true
  | .checkScreenAdvance => true
  | .legalFieldRotate => true
  | .slacParmReqRx _ runId mac => runId.length = 8 && mac.length = 6
  | .startAttenCharRx _ runId => runId.length = 8
  | .mnbcSoundRx _ runId att => runId.length = 8 && att.length = 58
  | .mnbcWindowExpiry _ => true
  | .attenCharIndTx _ runId => runId.length = 8
  | .attenCharRspRx _ runId => runId.length = 8
  | .slacMatchReqRx _ runId => runId.length = 8
  | .slacMatchCnfTx _ runId => runId.length = 8
  | .evJoin _ => true
  | .evLeave _ => true
  | .slacTimerExpiry _ _ => true
  | .slacrst _ => true
  | .hpcfgEnWrite _ _ => true
  | .mtimStart _ _ => true
  | .mtimStop _ _ => true
  | .mtimExpiry _ _ => true
  | .txDescriptor _ _ _ _ => true
  | .rxFrame _ _ _ frame => frame.length ≤ 1518
  | .t1sQuiet _ => true
  | .canBusOff _ => true
  | .canBusOffRecovery _ => true
  | .canSlotTx _ _ => true
  | .canSlotSwap _ _ => true
  | .canRxFrame _ _ data => data.length ≤ 64
  | .canRxTimeout _ _ => true
  | .canTxPush _ => true
  | .canRxHeadRemove _ => true
  | .budgetRx _ rx _ _ => rx.bytes.length ≤ 1500
  | .budgetRegisterWrite _ _ => true
  | .budgetStale => true
  | .stopRx _ rx _ => rx.bytes.length ≤ 1500
  | .enumOfferSend => true
  | .enumCommand => true
  | .enumOfferRx _ rx => rx.bytes.length ≤ 1500
  | .enumAnswerRx _ rx => rx.bytes.length ≤ 1500
  | .enumEndRx _ rx => rx.bytes.length ≤ 1500
  | .leadLinkChange _ _ => true
  | .segmentHead => true
  | .statusSend => true
  | .statusRx _ rx => rx.bytes.length ≤ 1500
  | .epochMismatch => true
  | .epochAgree => true
  | .busreqRx _ rx => rx.bytes.length ≤ 1500
  | .grantRx _ rx => rx.bytes.length ≤ 1500
  | .userRx _ rx => rx.bytes.length ≤ 1500
  | .leadUserPush _ len _ => len < 65536
  | .leadUserHeadRemove => true
  | .xferStart => true
  | .xferCancel => true
  | .xferstartRx _ rx => rx.bytes.length ≤ 1500
  | .dataRx _ rx => rx.bytes.length ≤ 1500
  | .nakRx _ rx => rx.bytes.length ≤ 1500
  | .wakeRx _ rx => rx.bytes.length ≤ 1500
  | .repeaterForward _ bytes => bytes.length ≤ 2048
  | .yardWindow _ _ => true
  | .yardBeaconRx rx _ => yardRxOk rx
  | .yardFrameRx rx => yardRxOk rx
  | .ylLost => true
  | .yardPoll _ => true
  | .yardMsgPush _ len _ => len < 65536
  | .yardMsgHeadRemove => true
  | .netFrameIngress _ bytes _ _ => bytes.length ≤ 2048
  | .uartRxChar _ _ _ _ => true
  | .uartRxPop _ => true
  | .uartTxWrite _ _ => true
  | .uartIdleTimeout _ _ => true
  | .bootSequence _ _ => true
  | .bootok => true
  | .fwuProgram _ => true
  | .fwuProgramComplete _ => true
  | .fwuActivate => true
  | .fwuCancel => true
  | .fwuConfirm _ => true
  | .fwuExtend => true
  | .fwuRevoke _ => true
  | .activateRx _ rx => rx.bytes.length ≤ 1500
  | .activationRepeat => true
  | .activationGo => true
  | .goRx _ rx => rx.bytes.length ≤ 1500
  | .activationRestart => true
  | .activationLatestExpiry => true
  | .cancelRx _ rx => rx.bytes.length ≤ 1500
  | .activationMemberTimeout => true
  | .recoveryDisplayCycle => true
  | .recoveryUsbDownload _ data => 0 < data.length
  | .recoveryReset => true
  | .jtagUnlock token => token.length = 112
  | .keyWrite _ _ _ _ => true
  | .keyNarrow _ _ => true
  | .keyErase _ => true
  | .keySlotcmdDone => true
  | .keySweep => true
  | .jobHash => true
  | .jobHmac => true
  | .jobEnc => true
  | .jobDec => true
  | .jobSign => true
  | .jobVerify => true
  | .jobDerive => true
  | .jobAgree => true
  | .jobWrap => true
  | .jobUnwrap => true
  | .jobQuote => true
  | .jobRandom => true
  | .jobComplete => true
  | .keyRngRead => true
  | .rngReseed => true
  | .entropySourceFail _ => true
  | .fieldOn _ _ _ _ => true
  | .fieldOff _ => true
  | .hfSettled => true
  | .hfActivate _ _ _ cards => cards.all (fun c => c.uid.length ≤ 10 && c.ats.length ≤ 255 && c.atqa < 65536 && c.sak < 256)
  | .exchange _ _ _ _ _ => true
  | .release => true
  | .origin _ => true
  | .tune _ => true
  | .lpcd => true
  | .lpcdBurst _ => true
  | .hfCardFrameRx _ _ => true
  | .hfWtxRequest _ => true
  | .hfFwtExpiry => true
  | .waitCapExpiry => true
  | .fieldLost _ _ _ => true
  | .fieldResetEnd => true
  | .hfDriverFault _ => true
  | .autotuneStep _ _ _ => true
  | .lchEnable _ _ => true
  | .lchLatchClear _ _ => true
  | .lchInrushEnd _ => true
  | .lchLimitEntry _ => true
  | .lchTocExpiry _ => true
  | .lchRetry _ => true
  | .lchThermalLatch _ _ _ => true
  | .lchWindowCut _ _ => true
  | .bankEnforce => true
  | .bankRelease => true
  | .vsLoadUndervoltage _ => true
  | .vsLoadRecovered _ _ => true
  | .lchStaggeredRestart _ => true
  | .freewheelCheckEnd _ _ => true
  | .clampEnergyCheck _ _ => true
  | .lchOpenLoad _ _ _ => true
  | .lchOffDiag _ _ _ => true
  | .lcdSegWrite _ _ => true
  | .crackMeasure _ => true
  | .reqS1 => true
  | .reqS2 => true
  | .reqS3 => true
  | .reqS4 => true
  | .s3EntryComplete => true
  | .s4Entry => true
  | .wake _ => true
  | .wakeStepReady => true
  | .wakeStepTimeout => true
  | .resume _ => true
  | .pfw _ => true
  | .pfwClear _ _ => true
  | .powerFailShutdown => true
  | .aonLoss => true
  | .residencyClear => true
  | .plevelRequest _ => true
  | .plevelChangeComplete => true
  | .avsUpdate _ _ => true
  | .governorTick => true
  | .refselWrite _ => true
  | .refSwitchDone => true
  | .xoDead _ => true
  | .recDead _ => true
  | .rtcError _ => true
  | .clockSourceValid _ _ _ => true
  | .refBackFromIrc => true
  | .clockReturn => true
  | .holdClear => true
  | .powerOnReset => true
  | .resetPin _ _ => true
  | .softwareReset _ => true
  | .resetStretchEnd => true
  | .optionByteLoad => true
  | .bootTimeout => true
  | .wdogEnable _ => true
  | .wdogKick _ => true
  | .wdogWarn => true
  | .watchdogExpiry => true
  | .ppsEdge _ => true
  | .lchLimitingEnd _ => true
  | .openLoadClear _ _ _ => true
  | .sgLinkChange _ _ _ _ => true
  | .vlcdLeftWindow _ => true
  | .coresExecuteWfi => true

end Sys2Proof
end

