-- ==== Sys2Proof/Tests/Slice0.lean ====
section
/-!
SUPPORT. Own tests: an ill-formed command for each check of well-formedness, and for each clause of the statements that has
hypotheses a state and operands that meet them together (test_meets_<statement>_<clause>).
-/

section

set_option linter.all false
set_option synthInstance.maxSize 5000
set_option Elab.async false

open Sys2Proof Sys2Proof.Machine

/-- Bytes at places, zeros between. -/
def wBytes (n : Nat) (l : List (Nat × Nat)) : Bytes :=
  l.foldl (fun b p => b.set p.1 (BitVec.ofNat 8 p.2)) (List.replicate n 0)

/-- A module that runs with every domain powered, tempos and a layout whose sections are given by type. -/
def wRun (l : List (Nat × Bytes)) : State :=
  { State.reset with
    loaded := true
    sec := l.foldl (fun v p => Tab.upd v p.1 (fun _ => p.2)) State.reset.sec
    pwr := { State.reset.pwr with boot := .running }
    tmp := { State.reset.tmp with running := true, begun := true, now := 1000, chain := 50000000 }
    saf := { State.reset.saf with st := .run } }

/-- A post with outlet 0 of the given type on V port 0, and the given bytes of its record. -/
def wPost (typ : Nat) (l : List (Nat × Nat)) : State :=
  wRun [(1, [1, 0]), (5, wBytes 128 ([(0, typ), (2, 0), (0x10, 0), (0x11, 1), (0x12, 0x40), (0x13, 0x40), (0x14, 0x40),
    (0x18, 0), (0x19, 1), (0x20, 3)] ++ l)), (10, wBytes 16 [(1, 5), (3, 8)])]

/-- A cabinet with one group, one bus and one crosspoint on coil 0, and the given bytes of its MATRIX section. -/
def wCab (l : List (Nat × Nat)) : State :=
  wRun [(1, [0, 1]), (6, wBytes 0x2A0 ([(0, 1), (1, 1), (2, 1)] ++ l)), (10, wBytes 16 [(1, 1), (3, 8)])]

/-- Outlet 0 changed. -/
def wOut (f : Outlet → Outlet) (s : State) : State := onOutlet 0 f s

/-- Group 0 changed, reported in this tempo. -/
def wGrp (f : Group → Group) (s : State) : State := onGroup 0 (fun k => f { k with stamp := some s.tmp.now }) s

/-- A coil commanded and driven closed since tempo 0, its feedback closed. -/
def wClosed (c : Nat) (s : State) : State :=
  { onCoil c (fun k => { k with cmd := true, drive := true }) s with mtx.fb := setBit s.mtx.fb c true }

/-- Bytes at rising places from k on, zeros between. -/
def wSeg : Nat → List (Nat × Nat) → Bytes
  | _, [] => []
  | k, (a, v) :: r => List.replicate (a - k) 0 ++ BitVec.ofNat 8 v :: wSeg (a + 1) r

/-- A module with a METER section of the given bytes, at rising places. -/
def wMeter (l : List (Nat × Nat)) : State := wRun [(1, [1, 0]), (7, wSeg 0 l)]

/-- Channel c changed. -/
def wChan (c : Nat) (f : Chan → Chan) (s : State) : State := { s with mtr.chan := Tab.upd s.mtr.chan c f }

/-- An AC intake of three phases and neutral on channels 0 to 6, UNOM 100 V, ICONF 1 A, with the phase voltages in 0.1 % of UNOM. -/
def wIntake (a b c : Nat) : State :=
  wMeter [(4, 232), (5, 3), (0xA, 2), (0x40, 3), (0x140, 3), (0x240, 3), (0x340, 4), (0x440, 4), (0x540, 4), (0x640, 5), (0x1040, 2),
      (0x1041, 0xFF), (0x1042, 0), (0x1043, 1), (0x1044, 2), (0x1045, 3), (0x1046, 4), (0x1047, 5), (0x1048, 6), (0x104C, 10)]
    |> wChan 0 (fun k => { k with ms := (25600 * a) ^ 2 }) |> wChan 1 (fun k => { k with ms := (25600 * b) ^ 2 })
    |> wChan 2 (fun k => { k with ms := (25600 * c) ^ 2 })

/-- A post whose modem 0 is on, with V port 0 changed. -/
def wSlac (f : VPort → VPort) : State :=
  let s := rput (F.VEH_HPCFG_EN 0) 1 (wPost 1 [(1, 1)])
  { s with veh.v := Tab.upd s.veh.v 0 f }

/-- Ports 0 of a post on, with rings of 16 descriptors at the start of the vehicle range and the given bytes of memory. -/
def wRing (m : Mem) : State :=
  { (wPost 1 [] |> rput (F.VEH_HPCFG_EN 0) 1 |> rput (F.VEH_TXR_BASE_BASE 0) 0x9E800000 |> rput (F.VEH_TXR_CTL_EN 0) 1
      |> rput (F.VEH_RXR_BASE_BASE 0) 0x9E800010 |> rput (F.VEH_RXR_CTL_EN 0) 1) with mem := m }

/-- Controller 0 of a post on, with filter 0 used, matching every standard identifier, and its watchdog on. -/
def wCan : State :=
  wPost 1 [] |> rput (F.VEH_CANCFG_EN 0) 1 |> rput (canFiltF 0 0 0 31 1) 1 |> rput (canFiltF 0 0 4 31 1) 1

/-- A Lead frame of a type from a source to a destination, without fault. -/
def wLead (typ src dst : Nat) (body : Bytes) : LeadRx :=
  ⟨true, true, leBytes 1 (0x10 + typ) ++ [0] ++ leBytes 1 src ++ leBytes 1 dst ++ [0, 0] ++ leBytes 2 body.length ++ body⟩

/-- A module in a role (0 cabinet, 1 post), coordinator or not, at an address, with both links up. -/
def wLink (role coord addr : Nat) : State :=
  { wRun [(1, leBytes 1 role ++ leBytes 1 coord), (6, wBytes 0x2A0 [(0, 1), (1, 1), (2, 1), (0x262, 7)]), (10, wBytes 16 [(1, 1), (3, 0x19)])]
    with lea.addr := addr, lea.luUp := true, lea.ldUp := true }

/-- A window of a codeword with wrong and erased bytes, the wrong ones first: one position of a symbol stands out, in an erased one none. -/
def wYardRx (full errs eras : Nat) (b : Bytes) : YardRx :=
  ⟨full, (List.range 128).map (fun i =>
      let v := u8 (rsWord b) (i / 4) / 4 ^ (3 - i % 4) % 4
      let v1 := if i / 4 < errs && i % 4 == 0 then (v + 1) % 4 else v
      if errs ≤ i / 4 && decide (i / 4 < errs + eras) then [1, 1, 1, 1] else (List.replicate 4 0).set v1 40), b⟩

/-- A module on the yard line, coordinator or not, at an address. -/
def wYard (coord addr : Nat) : State := { wRun [(1, leBytes 1 1 ++ leBytes 1 coord), (10, wBytes 16 [(3, 4), (7, 2)])] with lea.addr := addr }

/-- A switch whose serial ports run with their links up. -/
def wSwitch : State :=
  wRun [(10, wBytes 16 [(8, 1), (9, 1)])] |> rput F.NET_CFG_EN 3 |> rput F.NET_CFG_LEARN 1 |> rput F.CLK_STATUS_XOOK 1
    |> rput (F.NET_PSTAT_LINK 0) 1 |> rput (F.NET_PSTAT_LINK 1) 1

/-- A ring of 16 job descriptors at the start of your firmware's range, the first one given, and slot 5 holding a key of a type and policy.
-/
def wJob (typ pol : Nat) (l : List (Nat × Nat)) : State :=
  wRun [] |> rput F.KEY_RING_BASE_BASE 0x80000000 |> rput F.KEY_RING_CTL_EN 1 |> rput F.KEY_STATUS_HWKEYS 1
    |> setSlot 5 ⟨typ, pol, typLen typ, wBytes 64 [(0, 1)], wBytes 64 []⟩
    |> memWrite 0x800000000 (wBytes 32 ([(1, 5), (2, 7), (0xC, 8), (9, 0x10), (0x14, 8), (0x11, 0x20), (0x1D, 0x80)] ++ l))

/-- A module whose load channel 15 has the given record bytes: USED and its limits, unless given. -/
def wLch (l : List (Nat × Nat)) (f : LChan → LChan) : State :=
  onLch 15 f (wRun [(8, wBytes 0x120 ([(0, 1), (0x110, 1), (0x111, 2), (0x112, 200), (0x114, 250), (0x116, 1), (0x118, 5), (0x11A, 7),
    (0x11C, 10)] ++ l))])

/-- The newest journal entry is of the given type. -/
def wJrn (typ : Nat) (s : State) : State :=
  { s with fram.jrn := Tab.upd s.fram.jrn 0 (fun _ => some ⟨⟨typ, 5, 1000, s.bil.dyn, []⟩, 400, true, true⟩) }

/-- A state whose slot 0 holds the given duty, due from cycle 0. -/
def wDuty (d : Nat) (s : State) : State :=
  { (s |> rput (F.TMP_SLOT_DUTY 0) d |> rput (F.TMP_SLOT_START 0) 0) with tmp.len := 10000, tmp.ran := [] }

/-- A move of the given target map, its squares as after reset. -/
def wMove (m : Nat) : Move := ⟨List.replicate 64 Square.reset, m⟩

/-- A module with the given bytes of its safety section. -/
def wSafe (l : List (Nat × Nat)) : State := wRun [(1, [1, 0]), (4, wBytes 0x140 l)]

/-- Safety input i changed. -/
def wIn (i : Nat) (f : SIn → SIn) (s : State) : State := { s with saf.sin := Tab.upd s.saf.sin i f }

/-- A SAF mailbox command that waits. -/
def wMb (op len : Nat) (p : Bytes) (s : State) : State := { s with saf.mbox := [⟨op, len, p⟩] }

/-- Outlet 0 in a state of the sequencer, plugged and permitted, with every Board target, the guard, the epoch and the sealed core in
order, and timers of one unit. -/
def wSeq (typ : Nat) (st : OutSt) (l : List (Nat × Nat)) (f : Outlet → Outlet) : State :=
  wOut (fun o => f { o with st := st, pilot := .c, pLast := .c, proxOk := true, isoOk := true, auth := st != .plugged, wdAt := 1000 })
    { wPost typ ([(6, 0x10), (7, 0x27), (0x26, 1), (0x28, 1), (0x2A, 1), (0x2E, 100), (0x30, 100)] ++ l) with
      brd.tgt := 2 ^ 102 - 1, saf.guardOk := true, bil.ready := true, bil.epReady := 15, lea.expGot := true, tmp.ran := [3] }

/-- Outlet 0 in a state whose timers have all run out. -/
def wLate (typ : Nat) (st : OutSt) (f : Outlet → Outlet) : State :=
  { wSeq typ st [(0x26, 0), (0x28, 0), (0x2A, 0), (0x2E, 0), (0x30, 0)] f with tmp.now := 5000 }

/-- The stream of a value. -/
def wStrm (k : Nat) (v : Int) (s : State) : State :=
  { s with fz.strm := Tab.upd s.fz.strm k (fun x => { x with val := v }) }

/-! ### Well-formedness -/

/-- An exchange of the matrix port. -/
def wMx : MxRx := ⟨0, 0, [], []⟩

/-- A frame longer than the Lead carries. -/
def wLong : LeadRx := ⟨true, true, List.replicate 1501 0⟩

/-- A card. -/
def wCard : HfCard := ⟨false, false, [1, 2, 3, 4], 4, 0x20, true, [], [], true, 64, 4, 1, 1, false⟩

/-- A finish cycle has 14 bits (R60). -/
theorem test_wf_finish_cycle :
    Instr.wf (.freeze 16384 ⟨0, 0⟩ false) = false
    ∧ Instr.wf (.moveTrue 16384 .clean []) = false
    ∧ Instr.wf (.moveComp 16384 .clean []) = false
    ∧ Instr.wf (.compare 16384) = false
    ∧ Instr.wf (.seq 16384) = false
    ∧ Instr.wf (.matrix 16384) = false
    ∧ Instr.wf (.mxport 16384 wMx) = false
    ∧ Instr.wf (.scrub 16384 .clean []) = false
    ∧ Instr.wf (.integrate 16384) = false
    ∧ Instr.wf (.book 16384) = false := by decide +kernel

/-- An exchange has at most eight words of each kind (R161), and an upset lies in the configuration memory. -/
theorem test_wf_exchange :
    Instr.wf (.mxport 0 { wMx with readback := List.replicate 9 0 }) = false
    ∧ Instr.wf (.mxport 0 { wMx with serial := List.replicate 9 0 }) = false
    ∧ Instr.wf (.scrub 0 .clean [(65536, 0)]) = false := by decide +kernel

/-- A mailbox header has 8 bits of length (R205, R293). -/
theorem test_wf_mailbox_length :
    Instr.wf (.safFlagclr .write 256 []) = false
    ∧ Instr.wf (.safIenset .write 256 []) = false
    ∧ Instr.wf (.wearrst .write 256 []) = false
    ∧ Instr.wf (.checkack .write 256 []) = false
    ∧ Instr.wf (.safereset .write 256 []) = false
    ∧ Instr.wf (.timeslew .write 256 []) = false
    ∧ Instr.wf (.timestep .write 256 []) = false
    ∧ Instr.wf (.calload .write 256 []) = false
    ∧ Instr.wf (.calcommit .write 256 []) = false
    ∧ Instr.wf (.calcancel .write 256 []) = false
    ∧ Instr.wf (.recread .write 256 []) = false
    ∧ Instr.wf (.regread .write 256 []) = false
    ∧ Instr.wf (.showcheck .write 256 []) = false
    ∧ Instr.wf (.bilFlagclr .write 256 []) = false
    ∧ Instr.wf (.bilIenset .write 256 []) = false := by decide +kernel

/-- A mailbox has 128 bytes of data registers (R205, R293). -/
theorem test_wf_mailbox_payload :
    Instr.wf (.safFlagclr .write 0 (List.replicate 129 0)) = false
    ∧ Instr.wf (.safIenset .write 0 (List.replicate 129 0)) = false
    ∧ Instr.wf (.wearrst .write 0 (List.replicate 129 0)) = false
    ∧ Instr.wf (.checkack .write 0 (List.replicate 129 0)) = false
    ∧ Instr.wf (.safereset .write 0 (List.replicate 129 0)) = false
    ∧ Instr.wf (.timeslew .write 0 (List.replicate 129 0)) = false
    ∧ Instr.wf (.timestep .write 0 (List.replicate 129 0)) = false
    ∧ Instr.wf (.calload .write 0 (List.replicate 129 0)) = false
    ∧ Instr.wf (.calcommit .write 0 (List.replicate 129 0)) = false
    ∧ Instr.wf (.calcancel .write 0 (List.replicate 129 0)) = false
    ∧ Instr.wf (.recread .write 0 (List.replicate 129 0)) = false
    ∧ Instr.wf (.regread .write 0 (List.replicate 129 0)) = false
    ∧ Instr.wf (.showcheck .write 0 (List.replicate 129 0)) = false
    ∧ Instr.wf (.bilFlagclr .write 0 (List.replicate 129 0)) = false
    ∧ Instr.wf (.bilIenset .write 0 (List.replicate 129 0)) = false := by decide +kernel

/-- A Lead frame has at most 1,500 bytes (R330). -/
theorem test_wf_lead_frame :
    Instr.wf (.syncTimeRx .lu wLong 0 0) = false
    ∧ Instr.wf (.dreqRx .lu wLong 0) = false
    ∧ Instr.wf (.budgetRx .lu wLong 0 0) = false
    ∧ Instr.wf (.stopRx .lu wLong .nothing) = false
    ∧ Instr.wf (.enumOfferRx .lu wLong) = false
    ∧ Instr.wf (.enumAnswerRx .lu wLong) = false
    ∧ Instr.wf (.enumEndRx .lu wLong) = false
    ∧ Instr.wf (.statusRx .lu wLong) = false
    ∧ Instr.wf (.busreqRx .lu wLong) = false
    ∧ Instr.wf (.grantRx .lu wLong) = false
    ∧ Instr.wf (.userRx .lu wLong) = false
    ∧ Instr.wf (.xferstartRx .lu wLong) = false
    ∧ Instr.wf (.dataRx .lu wLong) = false
    ∧ Instr.wf (.nakRx .lu wLong) = false
    ∧ Instr.wf (.wakeRx .lu wLong) = false
    ∧ Instr.wf (.activateRx .lu wLong) = false
    ∧ Instr.wf (.goRx .lu wLong) = false
    ∧ Instr.wf (.cancelRx .lu wLong) = false := by decide +kernel

/-- A decimation output has sixteen channels (R211). -/
theorem test_wf_decimation :
    Instr.wf (.decimatorOutput ⟨List.replicate 15 0, 0, []⟩) = false := by decide +kernel

/-- The optical port: bounded characters and OBIS codes of six bytes (R289, R291). -/
theorem test_wf_optical :
    Instr.wf (.optSignon (List.replicate 65 0) true) = false
    ∧ Instr.wf (.optBaudAck (List.replicate 65 0)) = false
    ∧ Instr.wf (.dlmsGet ⟨3, [1, 2, 3, 4, 5]⟩ none) = false
    ∧ Instr.wf (.dlmsGet ⟨3, [1, 2, 3, 4, 5, 256]⟩ none) = false
    ∧ Instr.wf (.dlmsSet [1, 2, 3, 4, 5]) = false
    ∧ Instr.wf (.dlmsSet [1, 2, 3, 4, 5, 256]) = false
    ∧ Instr.wf (.dlmsAction [1, 2, 3, 4, 5] 0) = false
    ∧ Instr.wf (.dlmsAction [1, 2, 3, 4, 5, 256] 0) = false := by decide +kernel

/-- A RunID has 8 bytes, a MAC address 6, and a sound 58 groups (R308). -/
theorem test_wf_slac :
    Instr.wf (.slacParmReqRx 0 [] (List.replicate 6 0)) = false
    ∧ Instr.wf (.slacParmReqRx 0 (List.replicate 8 0) []) = false
    ∧ Instr.wf (.startAttenCharRx 0 []) = false
    ∧ Instr.wf (.mnbcSoundRx 0 [] (List.replicate 58 0)) = false
    ∧ Instr.wf (.mnbcSoundRx 0 (List.replicate 8 0) []) = false
    ∧ Instr.wf (.attenCharIndTx 0 []) = false
    ∧ Instr.wf (.attenCharRspRx 0 []) = false
    ∧ Instr.wf (.slacMatchReqRx 0 []) = false
    ∧ Instr.wf (.slacMatchCnfTx 0 []) = false := by decide +kernel

/-- The lengths of frames, messages, tokens and cards. -/
theorem test_wf_lengths :
    Instr.wf (.rxFrame 0 0 true (List.replicate 1519 0)) = false
    ∧ Instr.wf (.canRxFrame 0 0 (List.replicate 65 0)) = false
    ∧ Instr.wf (.pgStatusRx 0 (2 ^ 29) []) = false
    ∧ Instr.wf (.pgStatusRx 0 0 (List.replicate 9 0)) = false
    ∧ Instr.wf (.leadUserPush 0 65536 []) = false
    ∧ Instr.wf (.yardMsgPush 0 65536 []) = false
    ∧ Instr.wf (.repeaterForward .lu (List.replicate 2049 0)) = false
    ∧ Instr.wf (.yardBeaconRx ⟨0, List.replicate 128 [0, 0, 0, 0], []⟩ 0) = false
    ∧ Instr.wf (.yardBeaconRx ⟨0, List.replicate 127 [0, 0, 0, 0], List.replicate 24 0⟩ 0) = false
    ∧ Instr.wf (.yardFrameRx ⟨0, List.replicate 128 [0, 0, 0], List.replicate 24 0⟩) = false
    ∧ Instr.wf (.netFrameIngress 0 (List.replicate 2049 0) false 0) = false
    ∧ Instr.wf (.recoveryUsbDownload 0 []) = false
    ∧ Instr.wf (.jtagUnlock []) = false
    ∧ Instr.wf (.hfActivate 0 false true [{ wCard with uid := List.replicate 11 0 }]) = false
    ∧ Instr.wf (.hfActivate 0 false true [{ wCard with ats := List.replicate 256 0 }]) = false
    ∧ Instr.wf (.hfActivate 0 false true [{ wCard with atqa := 65536 }]) = false
    ∧ Instr.wf (.hfActivate 0 false true [{ wCard with sak := 256 }]) = false := by decide +kernel

/-- A pilot period has 1,000 samples in two halves, a proximity window 100 (R297, R301). -/
theorem test_wf_samples :
    Instr.wf (.pilotDecision 0 (List.replicate 499 0) (List.replicate 500 0)) = false
    ∧ Instr.wf (.pilotDecision 0 (List.replicate 500 0) (List.replicate 501 0)) = false
    ∧ Instr.wf (.proximityResult 0 (List.replicate 99 0)) = false := by decide +kernel

/-- e^(−t/τ) is below 1 (R191). -/
theorem test_wf_decay :
    Instr.wf (.isoPhasePEnd 0 0 4294967296) = false ∧ Instr.wf (.isoPhaseNEnd 0 0 4294967296) = false := by decide +kernel

/-! ### Examples of the spec, and single steps -/

/-- The temperature tables at 37.42 °C: G_T −432.812 ppm and D_T 1,217.26 ns, in 1/256 (08, the example after R216). -/
theorem test_interp_example :
    interp (fun i => if i = 15 then -412 else -455) 3742 = -110800
      ∧ interp (fun i => if i = 15 then 1210 else 1225) 3742 = 311619 := by decide +kernel

/-- The insulation fault at Kestwick: conductances 20.5 and 0.6 µS, then 10.5 and 10.6 µS give 80 Ω/V (07, the example after R193). -/
theorem test_insulation_example : isoOhmv 6 205 106 105 100 2000 12500 = some 80 := by decide +kernel

/-- The ID resistor at 3.649 V reads 2,701 Ω (10, the example after R303). -/
theorem test_proximity_example : proxRes 3649000 = 2701 := by decide +kernel

/-- The AC3 cable coding at the ends of its bands (R302). -/
theorem test_coding_bands :
    [79, 80, 140, 141, 308, 400, 936, 937, 1100, 2000, 2001].map proxCap = [0, 63, 63, 0, 32, 20, 20, 0, 13, 13, 0] := by decide +kernel

/-- 32.0 A is sent as 53.3 % (05, the example of the AC3 duty). -/
theorem test_duty_example : ac3Duty (20 * 320) = 533 := by decide +kernel

/-- After a machine-mode write of 1 to SYS_SEAL the seal reads 1, and a locked write is an error with LOCKVIO (R33, R34). -/
theorem test_seal_step :
    (match step { wRun [] with pending := [.seal .machine] } with
      | .next t => rget t F.SYS_SEAL_SEAL == 1 && t.pending.isEmpty
      | _ => false) = true := by decide +kernel

/-- An empty queue: the block idles but for its clock. -/
theorem test_idle_step :
    (match step State.reset with | .next t => t.pending.isEmpty && t.mem.isEmpty | _ => false) = true := by decide +kernel

/-! ### The hypotheses of the statements can be met -/

theorem test_meets_DutiesComplete_1 : decide (
    let s : State := wDuty 0 (wPost 1 []);
    let fin : Nat := 0;
    let k : Nat := 0;
    let so : BitVec 4 := 0;
    let lc : BitVec 16 := 0x8001;
    let exc : Bool := true;
    fin < 16384 ∧ dutySlot s 0 fin = some k) = true := by decide +kernel

theorem test_meets_DutiesComplete_1_b : decide (
    let s : State := wDuty 0 (wPost 1 []);
    let fin : Nat := 9999;
    let k : Nat := 0;
    let so : BitVec 4 := 9;
    let lc : BitVec 16 := 0;
    let exc : Bool := false;
    fin < 16384 ∧ dutySlot s 0 fin = some k) = true := by decide +kernel

theorem test_meets_DutiesComplete_2 : decide (
    let s : State := wDuty 1 (wPost 1 []);
    let fin : Nat := 9999;
    let k : Nat := 0;
    let ecc : Ecc := .uncorrectable;
    let flips : List (Fin 64 × Fin 21) := [(63, 20)];
    fin < 16384 ∧ dutySlot s 1 fin = some k) = true := by decide +kernel

theorem test_meets_DutiesComplete_3 : decide (
    let s : State := wDuty 2 (wPost 1 []);
    let fin : Nat := 9999;
    let k : Nat := 0;
    let ecc : Ecc := .corrected;
    let flips : List (Fin 64 × Fin 21) := [];
    fin < 16384 ∧ dutySlot s 2 fin = some k) = true := by decide +kernel

theorem test_meets_DutiesComplete_4 : decide (
    let a : Move := wMove 0;
    let b : Move := ⟨(wMove 0).sq.map (fun q => { q with c := 255 - q.c, q := 255 - q.q, t0 := { q.t0 with done := !q.t0.done }, t1 := { q.t1 with done := !q.t1.done }, cnt := 65535 - q.cnt, tc := !q.tc, cin := !q.cin, cabove := !q.cabove, cstale := !q.cstale }), 2 ^ 102 - 1⟩;
    let s : State := { wDuty 3 (wPost 1 []) with brd.mv := some a, brd.mvc := some b };
    let fin : Nat := 0;
    let k : Nat := 0;
    fin < 16384 ∧ dutySlot s 3 fin = some k ∧ s.brd.mv = some a ∧ s.brd.mvc = some b ∧ moveDiff a b = none) = true := by decide +kernel

theorem test_meets_DutiesComplete_5 : decide (
    let a : Move := wMove 0;
    let b : Move := wMove 0;
    let s : State := { wDuty 3 (wPost 1 []) with brd.mv := some a, brd.mvc := some b };
    let fin : Nat := 0;
    let k : Nat := 0;
    let sq : Nat := 0;
    let el : Nat := 0;
    fin < 16384 ∧ dutySlot s 3 fin = some k ∧ s.brd.mv = some a ∧ s.brd.mvc = some b ∧ moveDiff a b = some (sq, el)) = true := by decide +kernel

theorem test_meets_DutiesComplete_6 : decide (
    let s : State := wOut (fun o => { o with reqFrz := 5 }) (wDuty 4 (wPost 1 [])) |> (fun s => { s with tmp.ran := [3] });
    let fin : Nat := 0;
    let k : Nat := 0;
    fin < 16384 ∧ dutySlot s 4 fin = some k) = true := by decide +kernel

theorem test_meets_DutiesComplete_7 : decide (
    let s : State := wDuty 5 (wCab []);
    let fin : Nat := 0;
    let k : Nat := 0;
    fin < 16384 ∧ dutySlot s 5 fin = some k) = true := by decide +kernel

theorem test_meets_DutiesComplete_8 : decide (
    let s : State := wDuty 6 (wPost 1 []);
    let fin : Nat := 0;
    let k : Nat := 0;
    let rx : MxRx := ⟨1000, 64535, [], []⟩;
    fin < 16384 ∧ dutySlot s 6 fin = some k ∧ mxPattern s rx = true) = true := by decide +kernel

theorem test_meets_DutiesComplete_9 : decide (
    let s : State := { wDuty 6 (wPost 1 []) with mtx.consec := 1 };
    let fin : Nat := 0;
    let k : Nat := 0;
    let rx : MxRx := ⟨1000, 0, [], []⟩;
    fin < 16384 ∧ dutySlot s 6 fin = some k ∧ mxPattern s rx = false) = true := by decide +kernel

theorem test_meets_DutiesComplete_10 : decide (
    let s : State := wDuty 7 (wPost 1 []);
    let fin : Nat := 0;
    let k : Nat := 0;
    let ecc : Ecc := .uncorrectable;
    let upset : List (Nat × Byte) := [(0, 1)];
    fin < 16384 ∧ dutySlot s 7 fin = some k) = true := by decide +kernel

theorem test_meets_DutiesComplete_11 : decide (
    let s : State := wDuty 8 (wMeter []);
    let fin : Nat := 0;
    let k : Nat := 0;
    fin < 16384 ∧ dutySlot s 8 fin = some k) = true := by decide +kernel

theorem test_meets_DutiesComplete_12 : decide (
    let s : State := wDuty 9 (wMeter []);
    let fin : Nat := 0;
    let k : Nat := 0;
    fin < 16384 ∧ dutySlot s 9 fin = some k) = true := by decide +kernel

theorem test_meets_BoardEvents_1 : decide (
    let s : State := { wRun [(3, wBytes 192 [(191, 1)])] with brd.mv := some ⟨[Square.reset], 0⟩ };
    let k : Fin 64 := 0;
    let m : Move := ⟨[Square.reset], 0⟩;
    s.tmp.running = true ∧ bUsed s k = true ∧ s.brd.mv = some m) = true := by decide +kernel

theorem test_meets_BoardEvents_2 : decide (
    let s : State := { wRun [(3, wBytes 192 [(191, 1)])] with brd.mv := some ⟨[Square.reset], 0⟩ };
    let k : Fin 64 := 0;
    let m : Move := ⟨[Square.reset], 0⟩;
    s.tmp.running = true ∧ bUsed s k = true ∧ s.brd.mv = some m) = true := by decide +kernel

theorem test_meets_BoardEvents_3 : decide (
    let s : State := { wRun [(3, wBytes 192 [(191, 1)])] with brd.mv := some ⟨[Square.reset], 0⟩ };
    let k : Fin 64 := 0;
    let m : Move := ⟨[Square.reset], 0⟩;
    s.tmp.running = true ∧ bUsed s k = true ∧ s.brd.mv = some m) = true := by decide +kernel

theorem test_meets_BoardEvents_4 : decide (
    let s : State := { wRun [(3, wBytes 192 [(191, 1)])] with brd.mv := some ⟨[Square.reset], 0⟩ };
    let k : Fin 64 := 0;
    let m : Move := ⟨[Square.reset], 0⟩;
    s.tmp.running = true ∧ bUsed s k = true ∧ s.brd.mv = some m) = true := by decide +kernel

theorem test_meets_AccessTypesAtAWrite_1 : decide (
    let s : State := wRun [];
    let a : Nat := 0x10120000;
    let v : Nat := 0xFF;
    let f : FldRow := ⟨4, 4, .rw, 0⟩;
    f.acc = .rw) = true := by decide +kernel

theorem test_meets_AccessTypesAtAWrite_2 : decide (
    let s : State := wRun [];
    let a : Nat := 0x10101000;
    let v : Nat := 0xFF;
    let f : FldRow := ⟨0, 8, .rwl, 0⟩;
    f.acc = .rwl ∧ isSealed s = false) = true := by decide +kernel

theorem test_meets_AccessTypesAtAWrite_3 : decide (
    let s : State := rput F.SYS_SEAL_SEAL 1 (wRun []);
    let a : Nat := 0x10101000;
    let v : Nat := 0xFF;
    let f : FldRow := ⟨0, 8, .rwl, 0⟩;
    f.acc = .rwl ∧ isSealed s = true) = true := by decide +kernel

theorem test_meets_AccessTypesAtAWrite_4 : decide (
    let s : State := rput ⟨0x10000024, 0, 1, 0⟩ 1 (wRun []);
    let a : Nat := 0x10000024;
    let v : Nat := 1;
    let f : FldRow := ⟨0, 1, .w1c, 0⟩;
    f.acc = .w1c ∧ f.width = 1 ∧ v.testBit f.lo = true ∧ rget s (f.at a) < 2) = true := by decide +kernel

theorem test_meets_AccessTypesAtAWrite_5 : decide (
    let s : State := rput ⟨0x10000024, 0, 1, 0⟩ 1 (wRun []);
    let a : Nat := 0x10000024;
    let v : Nat := 2;
    let f : FldRow := ⟨0, 1, .w1c, 0⟩;
    f.acc = .w1c ∧ f.width = 1 ∧ v.testBit f.lo = false ∧ rget s (f.at a) < 2) = true := by decide +kernel

theorem test_meets_AccessTypesAtAWrite_6 : decide (
    let s : State := wRun [];
    let a : Nat := 0x10000020;
    let v : Nat := 1;
    let f : FldRow := ⟨0, 1, .w1s, 0⟩;
    f.acc = .w1s ∧ f.width = 1 ∧ v.testBit f.lo = true) = true := by decide +kernel

theorem test_meets_AccessTypesAtAWrite_7 : decide (
    let s : State := wRun [];
    let a : Nat := 0x10000020;
    let v : Nat := 1;
    let f : FldRow := ⟨0, 1, .ro, 0⟩;
    f.acc = .ro) = true := by decide +kernel

theorem test_meets_SealLocksRegisters_1 : decide (
    let s : State := wRun [];
    busOn s = true) = true := by decide +kernel

theorem test_meets_SealLocksRegisters_2 : decide (
    let s : State := wRun [];
    let m : BusMode := .user;
    busOn s = true ∧ m ≠ .machine) = true := by decide +kernel

theorem test_meets_SealLocksRegisters_3 : decide (
    let s : State := wRun [];
    s.pwr.appOn = true ∧ s.pwr.boot = .running ∧ s.pwr.bootOk = false ∧ rbit s F.SYS_SEAL_SEAL = false) = true := by decide +kernel

theorem test_meets_SealLocksRegisters_4 : decide (
    let s : State := rput F.SYS_SEAL_SEAL 1 (wRun []);
    let addr : BitVec 36 := 0x10101000;
    let v : BitVec 64 := 0xFFFFFFFF;
    let m : BusMode := .machine;
    busOn s = true ∧ regionOf addr.toNat 4 = .reg ∧ regDenied true addr.toNat 4 m s = none ∧ lockHit addr.toNat s = true) = true := by decide +kernel

theorem test_meets_SealLocksRegisters_4_b : decide (
    let s : State := rput F.SYS_SEAL_SEAL 1 (wRun []);
    let addr : BitVec 36 := 0x10140058;
    let v : BitVec 64 := 3;
    let m : BusMode := .machine;
    busOn s = true ∧ regionOf addr.toNat 4 = .reg ∧ regDenied true addr.toNat 4 m s = none ∧ lockHit addr.toNat s = true) = true := by decide +kernel

theorem test_meets_BusCommands_1 : decide (
    let s : State := wRun [];
    let addr : BitVec 36 := 0x08000000;
    let v : BitVec 64 := 0x0102030405060708;
    let size : BusSize := .b8;
    let m : BusMode := .user;
    busOn s = true ∧ (regionOf addr.toNat (busBytes size) = .sram ∨ (regionOf addr.toNat (busBytes size) = .dram ∧ dramOn s = true))) = true := by decide +kernel

theorem test_meets_BusCommands_2 : decide (
    let s : State := wRun [];
    let addr : BitVec 36 := 0x800000000;
    let size : BusSize := .b4;
    let m : BusMode := .user;
    busOn s = true ∧ (regionOf addr.toNat (busBytes size) = .sram ∨ (regionOf addr.toNat (busBytes size) = .dram ∧ dramOn s = true))) = true := by decide +kernel

theorem test_meets_BusCommands_3 : decide (
    let s : State := wRun [];
    let addr : BitVec 36 := 0x10000044;
    let v : BitVec 64 := 0x1234567890;
    let m : BusMode := .machine;
    busOn s = true ∧ PlainWrite s addr.toNat (v.toNat % 4294967296) m ∧ hasClr ((regFields addr.toNat).getD []) = false) = true := by decide +kernel

theorem test_meets_BusCommands_3_b : decide (
    let s : State := wRun [];
    let addr : BitVec 36 := 0x10101000;
    let v : BitVec 64 := 0xFFFFFFFF;
    let m : BusMode := .user;
    busOn s = true ∧ PlainWrite s addr.toNat (v.toNat % 4294967296) m ∧ hasClr ((regFields addr.toNat).getD []) = false) = true := by decide +kernel

theorem test_meets_BusCommands_4 : decide (
    let s : State := wRun [];
    let addr : BitVec 36 := 0x10090200;
    let m : BusMode := .user;
    busOn s = true ∧ regionOf addr.toNat 4 = .reg ∧ regDenied false addr.toNat 4 m s = none ∧ isLo addr.toNat = true) = true := by decide +kernel

theorem test_meets_BusCommands_4_b : decide (
    let s : State := wRun [];
    let addr : BitVec 36 := 0x10040000;
    let m : BusMode := .user;
    busOn s = true ∧ regionOf addr.toNat 4 = .reg ∧ regDenied false addr.toNat 4 m s = none ∧ isLo addr.toNat = true) = true := by decide +kernel

theorem test_meets_BusCommands_5 : decide (
    let s : State := wRun [];
    let addr : BitVec 36 := 0x10040004;
    let m : BusMode := .user;
    busOn s = true ∧ regionOf addr.toNat 4 = .reg ∧ regDenied false addr.toNat 4 m s = none ∧ isLo (addr.toNat - 4) = true ∧ isLo addr.toNat = false) = true := by decide +kernel

theorem test_meets_BusCommands_6 : decide (
    let s : State := wRun [];
    let addr : BitVec 36 := 0x1002002C;
    let v : BitVec 64 := 0x1FFFFFFFF;
    let m : BusMode := .machine;
    busOn s = true ∧ regionOf addr.toNat 4 = .reg ∧ regDenied true addr.toNat 4 m s = none ∧ isWideLo addr.toNat = true ∧ lockHit addr.toNat s = false) = true := by decide +kernel

theorem test_meets_BusCommands_7 : decide (
    let s : State := wRun [];
    let addr : BitVec 36 := 0x10020030;
    let v : BitVec 32 := 0xF;
    let m : BusMode := .machine;
    busOn s = true) = true := by decide +kernel

theorem test_meets_BusCommands_8 : decide (
    let s : State := wRun [];
    let addr : BitVec 36 := 0x10140038;
    let v : BitVec 32 := 0xF;
    let m : BusMode := .machine;
    busOn s = true ∧ regionOf addr.toNat 4 = .reg ∧ regDenied true addr.toNat 4 m s = none ∧ isWideLo (addr.toNat - 4) = true ∧ isWideLo addr.toNat = false ∧ lockHit addr.toNat s = false ∧ addr ≠ 0x100C001C) = true := by decide +kernel

theorem test_meets_BusCommands_9 : decide (
    let s : State := wRun [];
    let addr : BitVec 36 := 0;
    let m : BusMode := .machine;
    busOn s = true) = true := by decide +kernel

theorem test_meets_BusCommands_10 : decide (
    let s : State := rput F.SYS_STATUS_LOCKVIO 1 (wRun []);
    let addr : BitVec 36 := 0x10000024;
    let m : BusMode := .machine;
    let mask : Word := 1;
    let hw : Word := 2;
    let f : FldRow := ⟨0, 1, .w1c, 0⟩;
    busOn s = true ∧ PlainWrite s addr.toNat mask.toNat m ∧ hasClr ((regFields addr.toNat).getD []) = false ∧ flagGroups.any (fun g => g.flags == addr.toNat) = true ∧ f ∈ (regFields addr.toNat).getD [] ∧ f.acc = .w1c ∧ f.width = 1) = true := by decide +kernel

theorem test_meets_BusCommands_10_b : decide (
    let s : State := rput F.SYS_STATUS_LOCKVIO 1 (wRun []);
    let addr : BitVec 36 := 0x10000024;
    let m : BusMode := .machine;
    let mask : Word := 1;
    let hw : Word := 3;
    let f : FldRow := ⟨0, 1, .w1c, 0⟩;
    busOn s = true ∧ PlainWrite s addr.toNat mask.toNat m ∧ hasClr ((regFields addr.toNat).getD []) = false ∧ flagGroups.any (fun g => g.flags == addr.toNat) = true ∧ f ∈ (regFields addr.toNat).getD [] ∧ f.acc = .w1c ∧ f.width = 1) = true := by decide +kernel

theorem test_meets_BusCommands_11 : decide (
    let s : State := wRun [];
    let addr : BitVec 36 := 0x10000030;
    let m : BusMode := .machine;
    let mask : Word := 0xFFFFFFFF;
    busOn s = true ∧ mask.toNat.testBit F.SYS_NMICAUSE_PFW.lo = true) = true := by decide +kernel

theorem test_meets_BusCommands_12 : decide (
    let s : State := wRun [];
    let addr : BitVec 36 := 0x100D0064;
    let m : BusMode := .user;
    busOn s = true ∧ PlainWrite s addr.toNat 0x80000000 m ∧ hasClr ((regFields addr.toNat).getD []) = true) = true := by decide +kernel

theorem test_meets_DieLinkAndPersistChannel_1 : decide (
    let s : State := wRun [];
    let ok1 : Bool := false;
    let ok2 : Bool := true;
    let vals : List (Fin 64 × Int) := [(28, -5), (55, 7)];
    s.tmp.running = true ∧ (ok1 || ok2) = true ∧ (vals.map (·.1)).Nodup) = true := by decide +kernel

theorem test_meets_DieLinkAndPersistChannel_2 : decide (
    let s : State := wRun [];
    let vals : List (Fin 64 × Int) := [(28, 1)];
    s.tmp.running = true) = true := by decide +kernel

theorem test_meets_DieLinkAndPersistChannel_3 : decide (
    let b : Bytes := List.replicate 64 7;
    let rest : List PersistRec := [];
    let s : State := { wRun [] with saf.outbox := [.proof b] };
    s.persist = none ∧ s.saf.outbox = .proof b :: rest) = true := by decide +kernel

theorem test_meets_DieLinkAndPersistChannel_4 : decide (
    let b : Bytes := List.replicate 776 7;
    let rest : List PersistRec := [];
    let s : State := { wRun [] with saf.outbox := [.wear b] };
    s.persist = none ∧ s.saf.outbox = .wear b :: rest) = true := by decide +kernel

theorem test_meets_DieLinkAndPersistChannel_5 : decide (
    let b : Bytes := List.replicate 776 7;
    let k : Nat := 1;
    let s : State := { wRun [] with persist := some (.wear b, 1) };
    k < 2 ∧ s.persist = some (.wear b, k)) = true := by decide +kernel

theorem test_meets_DieLinkAndPersistChannel_6 : decide (
    let b : Bytes := List.replicate 64 7;
    let k : Nat := 1;
    let s : State := { wRun [] with persist := some (.proof b, 1) };
    k < 2 ∧ s.persist = some (.proof b, k)) = true := by decide +kernel

theorem test_meets_ChainTimeCommands_1 : decide (
    let s : State := { wRun [] with tmp.begun := false };
    let u : Nat := 0;
    s.tmp.running = true ∧ s.tmp.begun = false) = true := by decide +kernel

theorem test_meets_ChainTimeCommands_2 : decide (
    let s : State := { wRun [] with tmp.len := 9980 };
    let u : Nat := 5;
    s.tmp.running = true ∧ s.tmp.begun = true ∧ s.pwr.entry = .none) = true := by decide +kernel

theorem test_meets_ChainTimeCommands_2_b : decide (
    let s : State := { rput F.TMP_INCR_INCR 0xC3550000 (wLink 1 1 1) with tmp.frac := 655359999 };
    let u : Nat := 0;
    s.tmp.running = true ∧ s.tmp.begun = true ∧ s.pwr.entry = .none) = true := by decide +kernel

theorem test_meets_ChainTimeCommands_3 : decide (
    let s : State := wLink 1 0 3;
    let rx : LeadRx := wLead 1 1 0xFF (List.replicate 64 0);
    let ns : Nat := 5;
    let res : Nat := 0;
    let b := fBody rx.bytes;
    let d := linkDelay s b (chainAt s ns);
    let e := phaseError b d.1 (chainAt s ns);
    portOn s .lu = true ∧ leadFault rx = 0 ∧ hTyp rx.bytes = tySync ∧ u8 rx.bytes 8 = 0 ∧ isCoord s = false) = true := by decide +kernel

theorem test_meets_ChainTimeCommands_3_b : decide (
    let s : State := { wLink 1 0 3 with tmp.adopted := true, tmp.mode := .slew, tmp.measured := true };
    let rx : LeadRx := wLead 1 1 0xFF ([0, 0, 0, 0] ++ leBytes 8 50000000 ++ List.replicate 52 0);
    let ns : Nat := 3;
    let res : Nat := 0;
    let b := fBody rx.bytes;
    let d := linkDelay s b (chainAt s ns);
    let e := phaseError b d.1 (chainAt s ns);
    portOn s .lu = true ∧ leadFault rx = 0 ∧ hTyp rx.bytes = tySync ∧ u8 rx.bytes 8 = 0 ∧ isCoord s = false) = true := by decide +kernel

theorem test_meets_ChainTimeCommands_3_c : decide (
    let s : State := { wLink 1 0 3 with tmp.adopted := true, tmp.mode := .holdover, tmp.measured := true };
    let rx : LeadRx := wLead 1 1 0xFF ([0, 0, 0, 0] ++ leBytes 8 50025000 ++ List.replicate 52 0);
    let ns : Nat := 0;
    let res : Nat := 0;
    let b := fBody rx.bytes;
    let d := linkDelay s b (chainAt s ns);
    let e := phaseError b d.1 (chainAt s ns);
    portOn s .lu = true ∧ leadFault rx = 0 ∧ hTyp rx.bytes = tySync ∧ u8 rx.bytes 8 = 0 ∧ isCoord s = false) = true := by decide +kernel

theorem test_meets_ChainTimeCommands_3_d : decide (
    let s : State := { wLink 1 0 3 with tmp.adopted := true, tmp.mode := .holdover, tmp.measured := true };
    let rx : LeadRx := wLead 1 1 0xFF ([0, 0, 0, 0] ++ leBytes 8 50025001 ++ List.replicate 52 0);
    let ns : Nat := 0;
    let res : Nat := 0;
    let b := fBody rx.bytes;
    let d := linkDelay s b (chainAt s ns);
    let e := phaseError b d.1 (chainAt s ns);
    portOn s .lu = true ∧ leadFault rx = 0 ∧ hTyp rx.bytes = tySync ∧ u8 rx.bytes 8 = 0 ∧ isCoord s = false) = true := by decide +kernel

theorem test_meets_ChainTimeCommands_4 : decide (
    let s : State := wLink 1 0 3;
    let rx : LeadRx := { wLead 1 1 0xFF (List.replicate 64 0) with fcs := false };
    let ns : Nat := 5;
    let res : Nat := 0;
    let b := fBody rx.bytes;
    let f := rx.bytes.take 8 ++ timeForward s b (linkDelay s b (chainAt s ns)).1 (chainAt s ns) res;
    portOn s .lu = true ∧ portOn s .ld = true ∧ onlyFcsBad rx = true ∧ hTyp rx.bytes = tySync ∧ u8 rx.bytes 8 = 0 ∧ isCoord s = false ∧ rget s F.LEA_BADFRM_COUNT < 65535) = true := by decide +kernel

theorem test_meets_ChainTimeCommands_5 : decide (
    let s : State := { wLink 1 0 3 with tmp.chain := 499990000 };
    let ns : Nat := 7;
    s.tmp.running = true ∧ isCoord s = false ∧ crossesAt s 1000000000 500000000 = true ∧ portOn s .lu = true ∧ dreqDone s = false) = true := by decide +kernel

theorem test_meets_ChainTimeCommands_6 : decide (
    let s : State := wLink 1 0 3;
    let rx : LeadRx := ⟨true, true, leBytes 1 0x11 ++ [0, 3, 4, 0, 0] ++ leBytes 2 64 ++ [1] ++ List.replicate 63 0⟩;
    let ns : Nat := 7;
    portOn s .ld = true ∧ leadFault rx = 0 ∧ hTyp rx.bytes = tySync ∧ u8 rx.bytes 8 = 1) = true := by decide +kernel

theorem test_meets_ChainTimeCommands_7 : decide (
    let s : State := { wLink 1 0 3 with tmp.mode := .locked, tmp.missed := 8 };
    let recLost : Bool := false;
    (s.tmp.mode = .locked ∨ s.tmp.mode = .slew) ∧ (recLost = true ∨ 8 ≤ s.tmp.missed)) = true := by decide +kernel

theorem test_meets_ChainTimeCommands_8 : decide (
    let e : Int := 5;
    let s : State := { wLink 1 0 3 with tmp.mode := .holdover, tmp.stepTo := some e };
    s.tmp.stepTo = some e ∧ s.tmp.mode = .holdover ∧ outletsIdle s = true) = true := by decide +kernel

theorem test_meets_ChainTimeCommands_9 : decide (
    let s : State := wLink 1 1 1;
    let absent : Bool := true;
    isCoord s = true) = true := by decide +kernel

theorem test_meets_ChainTimeCommands_10 : decide (
    let s : State := wRun [(1, [1, 1, 0, 1])];
    let ns : Int := 1000000;
    isCoord s = true ∧ timeSrc s = 1) = true := by decide +kernel

theorem test_meets_ChainTimeCommands_11 : decide (
    let s : State := wRun [(1, [1, 1, 0, 2])];
    let ofs : Int := -1000000;
    isCoord s = true ∧ 2 ≤ timeSrc s) = true := by decide +kernel

theorem test_meets_ChainTimeCommands_12 : decide (
    let at' : Nat := 0;
    let s : State := { wRun [(1, [1, 1, 0, 2])] with tmp.ptpAt := some 0, tmp.now := 160000 };
    isCoord s = true ∧ 2 ≤ timeSrc s ∧ s.tmp.ptpAt = some at' ∧ 160000 ≤ sinceT s at') = true := by decide +kernel

theorem test_meets_LayoutLoadLoads_1 : decide (
    let s : State := { rput F.RST_FAILCNT_THR 5 (rput F.SYS_OPT_FACTDEF 1 State.reset) with pwr.boot := .rom, fwu.run := Tab.upd State.reset.fwu.run 1 (fun _ => [1]) };
    let a : Nat := 0;
    let k : Option Nat := none;
    s.pwr.boot = .rom ∧ s.loaded = false ∧ s.pwr.failCnt < rget s F.RST_FAILCNT_THR ∧ (bootLegal (trialStart (measStart s))).1 = some a ∧ (bootLayout (bootLegal (trialStart (measStart s))).2).1 = some k) = true := by decide +kernel

theorem test_meets_ShutdownLineLatchesMate_5 : decide (
    let s : State := wRun [];
    let ns : Nat := 44999;
    s.saf.hold = false ∧ (ns < 45000 ∨ 60000 < ns)) = true := by decide +kernel

theorem test_meets_ShutdownLineLatchesMate_5_b : decide (
    let s : State := wRun [];
    let ns : Nat := 60001;
    s.saf.hold = false ∧ (ns < 45000 ∨ 60000 < ns)) = true := by decide +kernel

theorem test_meets_SafetyConditions_4 : decide (
    let s : State := wRun [];
    let d : Fin 2 := 1;
    let v : Int := 13500;
    13500 ≤ v) = true := by decide +kernel

theorem test_meets_SafetyConditions_5 : decide (
    let s : State := wRun [];
    let d : Fin 2 := 1;
    let v : Int := 13499;
    13000 ≤ v ∧ v < 13500) = true := by decide +kernel

theorem test_meets_SafetyConditions_5_b : decide (
    let s : State := wRun [];
    let d : Fin 2 := 0;
    let v : Int := 13000;
    13000 ≤ v ∧ v < 13500) = true := by decide +kernel

theorem test_meets_SafetyConditions_6 : decide (
    let s : State := wRun [];
    let d : Fin 2 := 1;
    let diff : Nat := 801;
    let ms : Nat := 10;
    800 < diff ∧ 10 ≤ ms) = true := by decide +kernel

theorem test_meets_SafetyConditions_7 : decide (
    let c : Fin 64 := 0;
    let t0 : Nat := 100;
    let s : State := { onCoil 0 (fun k => { k with checkOpen := some 100 }) (wCab [(0x20, 1), (0x21, 7)]) with saf.st := .check, tmp.now := 10000, mtx.fb := 128 };
    (coil s c).checkOpen = some t0 ∧ fbIn s (mCoilFb s c) = true ∧ s.saf.st = .check ∧ 2000 + mSettle s c < sinceT s t0) = true := by decide +kernel

theorem test_meets_SafetyConditions_8 : decide (
    let a : Nat := 9;
    let s : State := { wPost 1 [] with saf.tokenWait := some 9, saf.st := .mate };
    s.saf.tokenWait = some a ∧ leaveMateConditions s = true) = true := by decide +kernel

theorem test_meets_SafetyConditions_9 : decide (
    let s : State := { wRun [] with saf.st := .mate, saf.held := false };
    s.saf.tokenWait = none ∧ s.loaded = true ∧ s.saf.st = .mate ∧ s.saf.held = false) = true := by decide +kernel

theorem test_meets_SafetyInputCommands_1 : decide (
    let s : State := wSafe [(0x7C, 1), (0x7E, 10)];
    let i : Fin 24 := 23;
    let a : Int := 13500;
    let b : Int := 14000;
    let us : Nat := 10;
    sInUsed s i = true ∧ inputLevel (sInType3 s i) (sIn s i).acc a = inputLevel (sInType3 s i) (sIn s i).acc b ∧ sInFilter s i ≤ us) = true := by decide +kernel

theorem test_meets_SafetyInputCommands_1_b : decide (
    let s : State := wIn 23 (fun x => { x with acc := true }) (wSafe [(0x7C, 1), (0x7E, 10)]);
    let i : Fin 24 := 23;
    let a : Int := 9000;
    let b : Int := 9000;
    let us : Nat := 10;
    sInUsed s i = true ∧ inputLevel (sInType3 s i) (sIn s i).acc a = inputLevel (sInType3 s i) (sIn s i).acc b ∧ sInFilter s i ≤ us) = true := by decide +kernel

theorem test_meets_SafetyInputCommands_2 : decide (
    let s : State := wSafe [(0x7C, 1), (0x7E, 10)];
    let i : Fin 24 := 23;
    let a : Int := 13500;
    let b : Int := 13500;
    let us : Nat := 9;
    (sInUsed s i = false ∨ inputLevel (sInType3 s i) (sIn s i).acc a ≠ inputLevel (sInType3 s i) (sIn s i).acc b ∨ us < sInFilter s i)) = true := by decide +kernel

theorem test_meets_SafetyInputCommands_3 : decide (
    let s : State := wSafe [(0x7C, 1)];
    let i : Fin 24 := 23;
    let us : Nat := 21;
    sInUsed s i = true ∧ 20 < us) = true := by decide +kernel

theorem test_meets_SafetyInputCommands_4 : decide (
    let s : State := wIn 23 (fun x => { x with disc := true }) (wSafe [(0x7C, 1)]);
    let i : Fin 24 := 23;
    let us : Nat := 1000;
    1000 ≤ us) = true := by decide +kernel

theorem test_meets_SafetyInputCommands_5 : decide (
    let s : State := { wSafe [(0xC, 8), (0x7C, 1), (0x7D, 7)] with tmp.chain := 6990000 };
    let i : Fin 24 := 23;
    let k : Fin 8 := 7;
    s.tmp.running = true ∧ s.pwr.vsAbsent = false ∧ crossesAt s (sTpPeriod s) (k * sTpPeriod s / 8) = true) = true := by decide +kernel

theorem test_meets_SafetyOutputAndGuardCommands_1 : decide (
    let s : State := { wSafe [] with saf.sout := Tab.upd State.reset.saf.sout 3 (fun o => { o with act := true }) };
    let x : Fin 4 := 3;
    let ma : Nat := 751;
    let us : Nat := 10;
    (sOut s x).act = true ∧ s.pwr.vsAbsent = false ∧ 750 < ma ∧ 10 ≤ us) = true := by decide +kernel

theorem test_meets_SafetyOutputAndGuardCommands_2 : decide (
    let s : State := { wSafe [] with saf.sout := Tab.upd State.reset.saf.sout 3 (fun o => { o with act := true }), tmp.now := 100000000 };
    let x : Fin 4 := 3;
    let side : Side := .high;
    let mv : Int := 1999;
    let vs : Int := 12000;
    darkDue s x side = true ∧ darkPass side mv vs = true) = true := by decide +kernel

theorem test_meets_SafetyOutputAndGuardCommands_3 : decide (
    let s : State := { wSafe [] with saf.sout := Tab.upd State.reset.saf.sout 3 (fun o => { o with act := true, darkHi := some 0 }), tmp.now := 100000000 };
    let x : Fin 4 := 3;
    let side : Side := .low;
    let mv : Int := 9999;
    let vs : Int := 12000;
    darkDue s x side = true ∧ darkPass side mv vs = false) = true := by decide +kernel

theorem test_meets_SafetyOutputAndGuardCommands_4 : decide (
    let at' : Nat := 0;
    let s : State := { wSafe [(1, 0), (2, 1), (6, 1)] with saf.eqSince := some 0, tmp.now := 21 };
    s.loaded = true ∧ s.fz.si.testBit (sGuardA s) = s.fz.si.testBit (sGuardB s) ∧ s.saf.eqSince = some at' ∧ sGuardDisc s < sinceT s at' ∧ s.saf.pair ≠ .discrepant) = true := by decide +kernel

theorem test_meets_SafetyOutputAndGuardCommands_5 : decide (
    let s : State := { wSafe [(4, 1)] with saf.guardOk := true, saf.proofTime := 1, bil.dyn.hwm := 1 + dayNs };
    s.saf.guardOk = true ∧ s.saf.proofTime + sProofDays s * dayNs ≤ s.bil.dyn.hwm) = true := by decide +kernel

theorem test_meets_SafetyOutputAndGuardCommands_6 : decide (
    let s : State := { wSafe [(3, 1), (4, 3)] with saf.due := false, saf.proofTime := 1, bil.dyn.hwm := 1 + 2 * dayNs };
    s.loaded = true ∧ s.saf.due = false ∧ s.saf.proofTime + (sProofDays s - sDueDays s) * dayNs ≤ s.bil.dyn.hwm) = true := by decide +kernel

theorem test_meets_IsolationAndResidualCommands_1 : decide (
    let n : Fin 4 := 0;
    let s : State := { wPost 2 [] with saf.iso := Tab.upd State.reset.saf.iso 0 (fun m => { m with run := true, phase := .idle }), tmp.chain := 999990000 };
    (isoMon s n).run = true ∧ (isoMon s n).phase = .idle ∧ crossesAt s 1000000000 0 = true) = true := by decide +kernel

theorem test_meets_IsolationAndResidualCommands_2 : decide (
    let n : Fin 4 := 0;
    let t0 : Nat := 600;
    let tau : Nat := 30000;
    let s : State := { wPost 2 [] with saf.iso := Tab.upd State.reset.saf.iso 0 (fun m => { m with run := true, phase := .p, confAt := some 600 }) };
    (isoMon s n).phase = .p ∧ (isoMon s n).confAt = some t0 ∧ 400 ≤ sinceT s t0) = true := by decide +kernel

theorem test_meets_IsolationAndResidualCommands_3 : decide (
    let n : Fin 4 := 0;
    let t0 : Nat := 600;
    let tau : Nat := 450001;
    let s : State := { wPost 2 [] with saf.iso := Tab.upd State.reset.saf.iso 0 (fun m => { m with run := true, phase := .n, confAt := some 600, dwellN := 50 }) };
    (isoMon s n).phase = .n ∧ (isoMon s n).confAt = some t0 ∧ 400 ≤ sinceT s t0) = true := by decide +kernel

theorem test_meets_IsolationAndResidualCommands_4 : decide (
    let n : Fin 4 := 0;
    let t0 : Nat := 0;
    let start : Int := 1000;
    let decay : Nat := 4294967295;
    let s : State := wStrm 0 70000 { wPost 2 [] with saf.iso := Tab.upd State.reset.saf.iso 0 (fun m => { m with run := true, phase := .p, confAt := some 0, dwellP := 50, nextP := 60 }) };
    let ext := (4294967296 * fzVal s (sIsoMiso s n) - (decay : Int) * start) / (4294967296 - (decay : Int));
    (isoMon s n).phase = .p ∧ (isoMon s n).confAt = some t0 ∧ 20 * (isoMon s n).dwellP ≤ sinceT s t0) = true := by decide +kernel

theorem test_meets_IsolationAndResidualCommands_5 : decide (
    let n : Fin 4 := 0;
    let t0 : Nat := 0;
    let start : Int := 1000;
    let decay : Nat := 0;
    let s : State := wStrm 0 50000 { wPost 2 [] with saf.iso := Tab.upd State.reset.saf.iso 0 (fun m => { m with run := true, phase := .n, confAt := some 0, dwellN := 50, pPos := 30000, pNeg := 20000, phx := true }) };
    let ext := (4294967296 * fzVal s (sIsoMiso s n) - (decay : Int) * start) / (4294967296 - (decay : Int));
    let u := if (isoMon s n).phx then ext else fzVal s (sIsoMiso s n);
    (isoMon s n).phase = .n ∧ (isoMon s n).confAt = some t0 ∧ 20 * (isoMon s n).dwellN ≤ sinceT s t0 ∧ (isoMon s n).bad = false ∧ 50000 ≤ oVmv s n) = true := by decide +kernel

theorem test_meets_IsolationAndResidualCommands_6 : decide (
    let n : Fin 4 := 0;
    let t0 : Nat := 500;
    let start : Int := 1000;
    let decay : Nat := 4294967295;
    let s : State := wStrm 0 50000 { wPost 2 [] with tmp.chain := 980000000, saf.iso := Tab.upd State.reset.saf.iso 0 (fun m => { m with run := true, phase := .n, confAt := some 500, dwellN := 50, pPos := 30000, pNeg := 20000 }) };
    let ext := (4294967296 * fzVal s (sIsoMiso s n) - (decay : Int) * start) / (4294967296 - (decay : Int));
    (isoMon s n).phase = .n ∧ (isoMon s n).confAt = some t0 ∧ sinceT s t0 < 20 * (isoMon s n).dwellN ∧ toSecond s ≤ 400 ∧ 400 ≤ sinceT s t0 ∧ (isoMon s n).bad = false ∧ 50000 ≤ oVmv s n) = true := by decide +kernel

theorem test_meets_IsolationAndResidualCommands_7 : decide (
    let n : Fin 4 := 0;
    let start : Int := 1000;
    let decay : Nat := 0;
    let s : State := { wPost 2 [] with tmp.chain := 980000000, saf.iso := Tab.upd State.reset.saf.iso 0 (fun m => { m with run := true, phase := .n, confAt := some 500, dwellN := 50 }) };
    (isoMon s n).phase = .n ∧ toSecond s ≤ 400 ∧ ((isoMon s n).bad = true ∨ oVmv s n < 50000 ∨ (isoMon s n).confAt = none)) = true := by decide +kernel

theorem test_meets_IsolationAndResidualCommands_8 : decide (
    let n : Fin 4 := 0;
    let k : Fin 3 := 2;
    let t0 : Nat := 200;
    let s : State := onCoil 0 (fun c => { c with cmd := true }) (wOut (fun o => { o with isoOk := true }) { wRun [(1, [1, 0]), (4, wBytes 0x140 [(0xF, 1)]), (5, wBytes 512 [(0, 4), (0x20, 3), (0x90, 5), (0x110, 6), (0x190, 7)])] with saf.rcUp := Tab.upd State.reset.saf.rcUp 2 (fun _ => some 200), saf.rcAvg := 200000 });
    Tab.get none s.saf.rcUp k = some t0 ∧ rcTime k ≤ sinceT s t0 ∧ rcThreshold k ≤ s.saf.rcAvg ∧ sRcAny s = true ∧ rbit s F.SAF_RC_TRIP = false) = true := by decide +kernel

theorem test_meets_IsolationAndResidualCommands_9 : decide (
    let n : Fin 4 := 0;
    let t0 : Nat := 0;
    let s : State := wStrm 52 12000 { wRun [] with tmp.now := 2000, saf.fgt := Tab.upd State.reset.saf.fgt 0 (fun _ => some 0) };
    Tab.get none s.saf.fgt n = some t0 ∧ 2000 ≤ sinceT s t0 ∧ 8000 ≤ fzVal s 52 ∧ fzVal s 52 ≤ 12000) = true := by decide +kernel

theorem test_meets_IsolationAndResidualCommands_10 : decide (
    let n : Fin 4 := 0;
    let t0 : Nat := 0;
    let exc : Bool := true;
    let s : State := wStrm 52 12001 { wRun [] with tmp.now := 2000, saf.fgt := Tab.upd State.reset.saf.fgt 0 (fun _ => some 0) };
    Tab.get none s.saf.fgt n = some t0 ∧ 2000 ≤ sinceT s t0 ∧ (exc = false ∨ fzVal s 52 < 8000 ∨ 12000 < fzVal s 52)) = true := by decide +kernel

theorem test_meets_IsolationAndResidualCommands_10_b : decide (
    let n : Fin 4 := 0;
    let t0 : Nat := 0;
    let exc : Bool := false;
    let s : State := wStrm 52 12000 { wRun [] with tmp.now := 2000, saf.fgt := Tab.upd State.reset.saf.fgt 0 (fun _ => some 0) };
    Tab.get none s.saf.fgt n = some t0 ∧ 2000 ≤ sinceT s t0 ∧ (exc = false ∨ fzVal s 52 < 8000 ∨ 12000 < fzVal s 52)) = true := by decide +kernel

theorem test_meets_SafMailboxCommands_1 : decide (
    let s : State := wRun [];
    let len : Nat := 128;
    let p : Bytes := [1, 2, 3];
    let d := safData (safDataPut p s) len;
    len ≤ 128 ∧ s.saf.mbox.length < 8) = true := by decide +kernel

theorem test_meets_SafMailboxCommands_2 : decide (
    let s : State := wRun [];
    let len : Nat := 129;
    let p : Bytes := [1, 2, 3];
    128 < len) = true := by decide +kernel

theorem test_meets_SafMailboxCommands_3 : decide (
    let s : State := { wRun [] with saf.mbox := List.replicate 8 ⟨9, 0, []⟩ };
    let len : Nat := 0;
    let p : Bytes := [];
    len ≤ 128 ∧ 8 ≤ s.saf.mbox.length) = true := by decide +kernel

theorem test_meets_SafMailboxCommands_4 : decide (
    let c : MbCmd := ⟨1, 11, []⟩;
    let s : State := { wRun [] with saf.mbox := [c] };
    let len : Nat := 0;
    let p : Bytes := [];
    safTurn s 1 = some c ∧ c.len ≠ 12) = true := by decide +kernel

theorem test_meets_SafMailboxCommands_5 : decide (
    let c : MbCmd := ⟨2, 13, []⟩;
    let s : State := { wRun [] with saf.mbox := [c] };
    let len : Nat := 0;
    let p : Bytes := [];
    safTurn s 2 = some c ∧ c.len ≠ 12) = true := by decide +kernel

theorem test_meets_SafMailboxCommands_6 : decide (
    let c : MbCmd := ⟨3, 0, []⟩;
    let s : State := { wRun [] with saf.mbox := [c] };
    let len : Nat := 0;
    let p : Bytes := [];
    safTurn s 3 = some c ∧ c.len ≠ 4) = true := by decide +kernel

theorem test_meets_SafMailboxCommands_7 : decide (
    let c : MbCmd := ⟨4, 1, [0]⟩;
    let s : State := { wRun [] with saf.mbox := [c] };
    let len : Nat := 0;
    let p : Bytes := [];
    safTurn s 4 = some c ∧ c.len ≠ 0) = true := by decide +kernel

theorem test_meets_SafMailboxCommands_8 : decide (
    let c : MbCmd := ⟨5, 111, []⟩;
    let s : State := { wRun [] with saf.mbox := [c] };
    let len : Nat := 0;
    let p : Bytes := [];
    safTurn s 5 = some c ∧ c.len ≠ 112 ∧ portWaits 1 s = false) = true := by decide +kernel

theorem test_meets_SafMailboxCommands_9 : decide (
    let fl : List FldRow := (regFields F.SAF_FLAGS_SRAMCOR.addr).getD [];
    let c : MbCmd := ⟨1, 12, leBytes 4 6 ++ leBytes 4 (F.SAF_FLAGS_SRAMCOR.addr - 0x10060000) ++ leBytes 4 (2 ^ F.SAF_FLAGS_SRAMCOR.lo)⟩;
    let s : State := rput F.SAF_FLAGS_SRAMCOR 1 { wRun [] with saf.mbox := [c] };
    let len : Nat := 0;
    let p : Bytes := [];
    let a := 0x10000000 + 0x10000 * u32 c.payload 0 + u32 c.payload 4;
    safTurn s 1 = some c ∧ c.len = 12 ∧ u32 c.payload 0 ∈ safBlocks ∧ u32 c.payload 4 < 0x10000 ∧ regFields a = some fl ∧ clearable fl = true) = true := by decide +kernel

theorem test_meets_SafMailboxCommands_9_b : decide (
    let fl : List FldRow := (regFields 0x1006000C).getD [];
    let c : MbCmd := ⟨1, 12, leBytes 4 6 ++ leBytes 4 0xC ++ leBytes 4 0x80000000⟩;
    let s : State := rput ⟨0x1006000C, 0, 16, 0⟩ 9 { wRun [] with saf.mbox := [c] };
    let len : Nat := 0;
    let p : Bytes := [];
    let a := 0x10000000 + 0x10000 * u32 c.payload 0 + u32 c.payload 4;
    safTurn s 1 = some c ∧ c.len = 12 ∧ u32 c.payload 0 ∈ safBlocks ∧ u32 c.payload 4 < 0x10000 ∧ regFields a = some fl ∧ clearable fl = true) = true := by decide +kernel

theorem test_meets_SafMailboxCommands_10 : decide (
    let c : MbCmd := ⟨1, 12, leBytes 4 7 ++ leBytes 8 0⟩;
    let s : State := { wRun [] with saf.mbox := [c] };
    let len : Nat := 0;
    let p : Bytes := [];
    safTurn s 1 = some c ∧ c.len = 12 ∧ u32 c.payload 0 ∉ safBlocks) = true := by decide +kernel

theorem test_meets_SafMailboxCommands_12 : decide (
    let c : MbCmd := ⟨3, 4, [63, 0, 0, 0]⟩;
    let s : State := { onCoil 63 (fun k => { k with sw := 9, i2t := 9 }) (wRun []) with saf.mbox := [c] };
    let len : Nat := 0;
    let p : Bytes := [];
    safTurn s 3 = some c ∧ c.len = 4 ∧ u32 c.payload 0 < 64) = true := by decide +kernel

theorem test_meets_SafMailboxCommands_13 : decide (
    let c : MbCmd := ⟨4, 0, []⟩;
    let s : State := { wRun [] with saf.mbox := [c], saf.st := .check, saf.since := 0, tmp.now := 20000 };
    let len : Nat := 0;
    let p : Bytes := [];
    safTurn s 4 = some c ∧ c.len = 0 ∧ s.saf.st = .check ∧ 20000 ≤ sinceT s s.saf.since ∧ ackConditions s = true) = true := by decide +kernel

theorem test_meets_SafMailboxCommands_14 : decide (
    let c : MbCmd := ⟨4, 0, []⟩;
    let s : State := { wRun [] with saf.mbox := [c], saf.st := .check, saf.since := 0, tmp.now := 19999 };
    let len : Nat := 0;
    let p : Bytes := [];
    safTurn s 4 = some c ∧ c.len = 0 ∧ (s.saf.st ≠ .check ∨ sinceT s s.saf.since < 20000 ∨ ackConditions s = false)) = true := by decide +kernel

theorem test_meets_SafMailboxCommands_15 : decide (
    let c : MbCmd := ⟨5, 112, List.replicate 112 0⟩;
    let a : Nat := 0;
    let s : State := { wRun [] with saf.mbox := [c], saf.lastTry := some 0 };
    let len : Nat := 0;
    let p : Bytes := [];
    safTurn s 5 = some c ∧ c.len = 112 ∧ portWaits 1 s = false ∧ s.saf.lastTry = some a ∧ sinceT s a < 200000) = true := by decide +kernel

theorem test_meets_SafMailboxCommands_16 : decide (
    let c : MbCmd := ⟨5, 112, List.replicate 112 0⟩;
    let s : State := { wRun [] with saf.mbox := [c], saf.lastTry := none };
    let len : Nat := 0;
    let p : Bytes := [];
    let action := u32 c.payload 4;
    safTurn s 5 = some c ∧ c.len = 112 ∧ portWaits 1 s = false ∧ ((∀ a, s.saf.lastTry = some a → 200000 ≤ sinceT s a))) = true := by decide +kernel

theorem test_meets_SafMailboxCommands_17 : decide (
    let c : MbCmd := ⟨5, 112, List.replicate 112 0⟩;
    let s : State := { wRun [] with saf.mbox := [c], key.port := Tab.upd State.reset.key.port 0 (fun _ => [.check 6]) };
    let len : Nat := 0;
    let p : Bytes := [];
    safTurn s 5 = some c ∧ portWaits 1 s = true) = true := by decide +kernel

theorem test_meets_SafMailboxCommands_18 : decide (
    let s : State := { wRun [] with tmp.now := 12000000 };
    let len : Nat := 0;
    let p : Bytes := [];
    12000000 ≤ sinceT s s.saf.chalAt) = true := by decide +kernel

theorem test_meets_OutletRequests_2 : decide (
    let s : State := wSeq 2 .negotiate [] (fun o => { o with reqFrz := 1, vtF := 4000 });
    let n : Fin 4 := 0;
    SeqDue s n ∧ (outlet s n).reqFrz = 1 ∧ (outlet s n).st = .negotiate ∧ unplugged (outlet s n) = false ∧ (outlet s n).auth = true ∧ elapsed s n < oTneg s n ∧ oType s n ≠ tyAc3) = true := by decide +kernel

theorem test_meets_OutletRequests_2_b : decide (
    let s : State := wSeq 2 .negotiate [] (fun o => { o with reqFrz := 1 });
    let n : Fin 4 := 0;
    SeqDue s n ∧ (outlet s n).reqFrz = 1 ∧ (outlet s n).st = .negotiate ∧ unplugged (outlet s n) = false ∧ (outlet s n).auth = true ∧ elapsed s n < oTneg s n ∧ oType s n ≠ tyAc3) = true := by decide +kernel

theorem test_meets_OutletRequests_3 : decide (
    let s : State := wSeq 2 .cableCheck [] (fun o => { o with reqFrz := 2, ccdone := true });
    let n : Fin 4 := 0;
    SeqDue s n ∧ (outlet s n).reqFrz = 2 ∧ (outlet s n).st = .cableCheck ∧ emergency s n = none ∧ (outlet s n).isoHeld = false ∧ elapsed s n < oTcc s n ∧ (outlet s n).auth = true) = true := by decide +kernel

theorem test_meets_OutletRequests_3_b : decide (
    let s : State := wSeq 2 .cableCheck [] (fun o => { o with reqFrz := 2 });
    let n : Fin 4 := 0;
    SeqDue s n ∧ (outlet s n).reqFrz = 2 ∧ (outlet s n).st = .cableCheck ∧ emergency s n = none ∧ (outlet s n).isoHeld = false ∧ elapsed s n < oTcc s n ∧ (outlet s n).auth = true) = true := by decide +kernel

theorem test_meets_OutletRequests_4 : decide (
    let s : State := wSeq 2 .precharge [(0x3C, 200)] (fun o => { o with reqFrz := 3, vtF := 200 });
    let n : Fin 4 := 0;
    SeqDue s n ∧ (outlet s n).reqFrz = 3 ∧ (outlet s n).st = .precharge ∧ emergency s n = none ∧ elapsed s n < oTpc s n ∧ (outlet s n).auth = true) = true := by decide +kernel

theorem test_meets_OutletRequests_4_b : decide (
    let s : State := wSeq 2 .precharge [(0x3C, 200)] (fun o => { o with reqFrz := 3, vtF := 201 });
    let n : Fin 4 := 0;
    SeqDue s n ∧ (outlet s n).reqFrz = 3 ∧ (outlet s n).st = .precharge ∧ emergency s n = none ∧ elapsed s n < oTpc s n ∧ (outlet s n).auth = true) = true := by decide +kernel

theorem test_meets_OutletRequests_5 : decide (
    let s : State := wSeq 4 .negotiate [] (fun o => { o with reqFrz := 3 });
    let n : Fin 4 := 0;
    SeqDue s n ∧ (outlet s n).reqFrz = 3 ∧ (outlet s n).st = .negotiate ∧ oType s n = tyAc3 ∧ unplugged (outlet s n) = false ∧ (outlet s n).auth = true ∧ elapsed s n < oTneg s n) = true := by decide +kernel

theorem test_meets_OutletRequests_5_b : decide (
    let s : State := { wSeq 4 .negotiate [] (fun o => { o with reqFrz := 3 }) with bil.ready := false };
    let n : Fin 4 := 0;
    SeqDue s n ∧ (outlet s n).reqFrz = 3 ∧ (outlet s n).st = .negotiate ∧ oType s n = tyAc3 ∧ unplugged (outlet s n) = false ∧ (outlet s n).auth = true ∧ elapsed s n < oTneg s n) = true := by decide +kernel

theorem test_meets_OutletRequests_6 : decide (
    let s : State := wSeq 2 .precharge [] (fun o => { o with reqFrz := 4, applied := 10 });
    let n : Fin 4 := 0;
    SeqDue s n ∧ (outlet s n).reqFrz = 4 ∧ emergency s n = none ∧ (outlet s n).auth = true ∧ (((outlet s n).st = .cableCheck ∧ (outlet s n).isoHeld = false ∧ elapsed s n < oTcc s n) ∨ ((outlet s n).st = .precharge ∧ elapsed s n < oTpc s n) ∨ ((outlet s n).st = .energy ∧ acNoResponse s n = false ∧ sinceT s (outlet s n).wdAt < oTfwwd s n))) = true := by decide +kernel

theorem test_meets_OutletRequests_6_b : decide (
    let s : State := wSeq 2 .energy [(0x2C, 5)] (fun o => { o with reqFrz := 4, applied := 10 });
    let n : Fin 4 := 0;
    SeqDue s n ∧ (outlet s n).reqFrz = 4 ∧ emergency s n = none ∧ (outlet s n).auth = true ∧ (((outlet s n).st = .cableCheck ∧ (outlet s n).isoHeld = false ∧ elapsed s n < oTcc s n) ∨ ((outlet s n).st = .precharge ∧ elapsed s n < oTpc s n) ∨ ((outlet s n).st = .energy ∧ acNoResponse s n = false ∧ sinceT s (outlet s n).wdAt < oTfwwd s n))) = true := by decide +kernel

theorem test_meets_OutletRequests_6_c : decide (
    let s : State := wSeq 2 .cableCheck [] (fun o => { o with reqFrz := 4, applied := 10 });
    let n : Fin 4 := 0;
    SeqDue s n ∧ (outlet s n).reqFrz = 4 ∧ emergency s n = none ∧ (outlet s n).auth = true ∧ (((outlet s n).st = .cableCheck ∧ (outlet s n).isoHeld = false ∧ elapsed s n < oTcc s n) ∨ ((outlet s n).st = .precharge ∧ elapsed s n < oTpc s n) ∨ ((outlet s n).st = .energy ∧ acNoResponse s n = false ∧ sinceT s (outlet s n).wdAt < oTfwwd s n))) = true := by decide +kernel

theorem test_meets_OutletRequests_7 : decide (
    let s : State := wSeq 2 .idle [] (fun o => { o with reqFrz := 5 });
    let n : Fin 4 := 0;
    SeqDue s n ∧ (outlet s n).reqFrz = 5 ∧ (outlet s n).st = .idle) = true := by decide +kernel

theorem test_meets_OutletRequests_8 : decide (
    let s : State := wSeq 2 .oos [] (fun o => { o with reqFrz := 6 });
    let n : Fin 4 := 0;
    SeqDue s n ∧ (outlet s n).reqFrz = 6 ∧ (outlet s n).st = .oos) = true := by decide +kernel

theorem test_meets_OutletRequests_8_b : decide (
    let s : State := wSeq 2 .oos [] (fun o => { o with reqFrz := 6, latch := true });
    let n : Fin 4 := 0;
    SeqDue s n ∧ (outlet s n).reqFrz = 6 ∧ (outlet s n).st = .oos) = true := by decide +kernel

theorem test_meets_OutletRequests_9 : decide (
    let s : State := wSeq 2 .faulted [] (fun o => { o with reqFrz := 7, cause := 0x18 });
    let n : Fin 4 := 0;
    SeqDue s n ∧ (outlet s n).reqFrz = 7 ∧ (outlet s n).st = .faulted ∧ (outlet s n).weld = .off ∧ s.saf.st = .run ∧ causeClass (outlet s n).cause = 2) = true := by decide +kernel

theorem test_meets_OutletRequests_9_b : decide (
    let s : State := wStrm 0 60001 (wSeq 2 .faulted [] (fun o => { o with reqFrz := 7, cause := 0x18 }));
    let n : Fin 4 := 0;
    SeqDue s n ∧ (outlet s n).reqFrz = 7 ∧ (outlet s n).st = .faulted ∧ (outlet s n).weld = .off ∧ s.saf.st = .run ∧ causeClass (outlet s n).cause = 2) = true := by decide +kernel

theorem test_meets_OutletRequests_10 : decide (
    let s : State := wSeq 2 .idle [] (fun o => { o with reqFrz := 8 });
    let n : Fin 4 := 0;
    SeqDue s n ∧ (outlet s n).reqFrz = 8 ∧ (outlet s n).st = .idle ∧ hvPresent s n = false ∧ ((outlet s n).armed = false ∧ (outlet s n).pilot ≠ .a ∨ seqPilot (outlet s n) ≠ pilotB s n ∨ (outlet s n).proxOk = false)) = true := by decide +kernel

theorem test_meets_OutletRequests_11 : decide (
    let n : Fin 4 := 0;
    let x : Instr × Nat := (.reqCableCheck n .run, 1);
    let s : State := wSeq 2 .idle [] (fun o => { o with reqFrz := 1 });
    x ∈ ([(.reqCableCheck n .run, 1), (.reqPrecharge n .run, 2), (.reqEnergy n .run, 3), (.reqStop n .run, 4), (.reqService n .run, 6), (.reqAck n .run, 7)] : List (Instr × Nat)) ∧ SeqDue s n ∧ (outlet s n).st ∈ [OutSt.idle, .plugged, .authWait, .rampDown, .weldCheck, .unlock] ∧ (outlet s n).reqFrz = x.2) = true := by decide +kernel

theorem test_meets_OutletRequests_11_b : decide (
    let n : Fin 4 := 0;
    let x : Instr × Nat := (.reqAck n .run, 7);
    let s : State := wSeq 2 .weldCheck [] (fun o => { o with reqFrz := 7 });
    x ∈ ([(.reqCableCheck n .run, 1), (.reqPrecharge n .run, 2), (.reqEnergy n .run, 3), (.reqStop n .run, 4), (.reqService n .run, 6), (.reqAck n .run, 7)] : List (Instr × Nat)) ∧ SeqDue s n ∧ (outlet s n).st ∈ [OutSt.idle, .plugged, .authWait, .rampDown, .weldCheck, .unlock] ∧ (outlet s n).reqFrz = x.2) = true := by decide +kernel

theorem test_meets_OutletRequests_12 : decide (
    let s : State := { wSeq 2 .plugged [] id with tmp.ran := [] };
    let n : Fin 4 := 0;
    (s.tmp.running = false ∨ 3 ∉ s.tmp.ran ∨ (outlet s n).seqAt = some s.tmp.now)) = true := by decide +kernel

theorem test_meets_OutletWrites_4 : decide (
    let s : State := rput (F.OUT_CTRL_BIDIR 0) 1 (wSeq 2 .negotiate [(3, 9)] id);
    let n : Fin 4 := 0;
    exportOk s n = true) = true := by decide +kernel

theorem test_meets_OutletWrites_5 : decide (
    let s : State := wSeq 2 .negotiate [] id;
    let n : Fin 4 := 0;
    exportOk s n = false) = true := by decide +kernel

theorem test_meets_OutletWrites_8 : decide (
    let s : State := { rput (F.OUT_VTARGET_VT 0) 4000 (wSeq 2 .weldCheck [] (fun o => { o with reqLatch := 4, evopenW := true })) with tmp.begun := false };
    let n : Fin 4 := 0;
    let u : BitVec 16 := 0;
    s.tmp.running = true ∧ s.tmp.begun = false) = true := by decide +kernel

theorem test_meets_OutletWrites_9 : decide (
    let s : State := { wSeq 2 .plugged [] (fun o => { o with authW := some true }) with tmp.begun := false, lea.stopIn := none };
    let n : Fin 4 := 0;
    let u : BitVec 16 := 0;
    s.tmp.running = true ∧ s.tmp.begun = false) = true := by decide +kernel

theorem test_meets_OutletWrites_9_b : decide (
    let s : State := { wSeq 2 .energy [] (fun o => { o with authW := some false }) with tmp.begun := false };
    let n : Fin 4 := 0;
    let u : BitVec 16 := 0;
    s.tmp.running = true ∧ s.tmp.begun = false) = true := by decide +kernel

theorem test_meets_OutletWrites_9_c : decide (
    let s : State := { wSeq 2 .idle [] (fun o => { o with auth := false, authW := some true }) with tmp.begun := false };
    let n : Fin 4 := 0;
    let u : BitVec 16 := 0;
    s.tmp.running = true ∧ s.tmp.begun = false) = true := by decide +kernel

theorem test_meets_OutletTimers_1 : decide (
    let s : State := wLate 2 .plugged id;
    let n : Fin 4 := 0;
    SeqDue s n ∧ (outlet s n).reqFrz = 0 ∧ (outlet s n).st = .plugged ∧ (outlet s n).pilot ≠ .a ∧ oTlock s n ≤ elapsed s n ∧ causeClass (outlet s n).cause ≤ 1) = true := by decide +kernel

theorem test_meets_OutletTimers_2 : decide (
    let t0 : Nat := 0;
    let s : State := { wSeq 2 .unlock [(3, 2), (0xC, 0), (0x22, 1), (0x18, 64)] (fun o => { o with lockAt := some 0 }) with mtx.fb := 1, tmp.now := 5000 };
    let n : Fin 4 := 0;
    SeqDue s n ∧ (outlet s n).reqFrz = 0 ∧ (outlet s n).st = .unlock ∧ (outlet s n).lockAt = some t0 ∧ oLock s n = true ∧ fbIn s (oLockFb s n) = true ∧ oTlock s n ≤ sinceT s (t0 + 1)) = true := by decide +kernel

theorem test_meets_OutletTimers_3 : decide (
    let s : State := wLate 2 .authWait (fun o => { o with auth := false });
    let n : Fin 4 := 0;
    SeqDue s n ∧ (outlet s n).reqFrz = 0 ∧ (outlet s n).st = .authWait ∧ unplugged (outlet s n) = false ∧ oTauth s n ≤ elapsed s n ∧ causeClass (outlet s n).cause = 0) = true := by decide +kernel

theorem test_meets_OutletTimers_4 : decide (
    let s : State := wLate 2 .negotiate id;
    let n : Fin 4 := 0;
    SeqDue s n ∧ (outlet s n).reqFrz = 0 ∧ (outlet s n).st = .negotiate ∧ unplugged (outlet s n) = false ∧ (outlet s n).auth = true ∧ oTneg s n ≤ elapsed s n ∧ causeClass (outlet s n).cause = 0) = true := by decide +kernel

theorem test_meets_OutletTimers_5 : decide (
    let s : State := wLate 2 .cableCheck (fun o => { o with applied := 10 });
    let n : Fin 4 := 0;
    SeqDue s n ∧ (outlet s n).reqFrz = 0 ∧ (outlet s n).st = .cableCheck ∧ emergency s n = none ∧ (outlet s n).isoHeld = false ∧ oTcc s n ≤ elapsed s n ∧ causeClass (outlet s n).cause ≤ 1) = true := by decide +kernel

theorem test_meets_OutletTimers_6 : decide (
    let s : State := wLate 2 .precharge (fun o => { o with applied := 10 });
    let n : Fin 4 := 0;
    SeqDue s n ∧ (outlet s n).reqFrz = 0 ∧ (outlet s n).st = .precharge ∧ emergency s n = none ∧ oTpc s n ≤ elapsed s n ∧ causeClass (outlet s n).cause ≤ 1) = true := by decide +kernel

theorem test_meets_OutletTimers_7 : decide (
    let s : State := wLate 2 .energy (fun o => { o with applied := 10, wdAt := 0 });
    let n : Fin 4 := 0;
    SeqDue s n ∧ (outlet s n).reqFrz = 0 ∧ (outlet s n).st = .energy ∧ emergency s n = none ∧ acNoResponse s n = false ∧ oTfwwd s n ≤ sinceT s (outlet s n).wdAt ∧ causeClass (outlet s n).cause ≤ 1) = true := by decide +kernel

theorem test_meets_OutletTimers_8 : decide (
    let s : State := wLate 2 .rampDown (fun o => { o with lowSince := some 4980 });
    let n : Fin 4 := 0;
    SeqDue s n ∧ (outlet s n).reqFrz = 0 ∧ (outlet s n).st = .rampDown ∧ (outlet s n).emerg = false ∧ inCheck s = false ∧ enableLost s n = false ∧ s.pwr.pfw = false ∧ acNoResponse s n = false ∧ zeroConfirmed s n = true) = true := by decide +kernel

theorem test_meets_OutletTimers_9 : decide (
    let s : State := wStrm 0 3000 (wClosed 0 (wLate 2 .rampDown (fun o => { o with cause := 1 })));
    let n : Fin 4 := 0;
    SeqDue s n ∧ (outlet s n).reqFrz = 0 ∧ (outlet s n).st = .rampDown ∧ (outlet s n).emerg = false ∧ inCheck s = false ∧ enableLost s n = false ∧ s.pwr.pfw = false ∧ acNoResponse s n = false ∧ lowCurrent s n = false ∧ oTrd s n ≤ elapsed s n ∧ causeClass (outlet s n).cause ≤ 1 ∧ oCoil s n 0 < 64 ∧ (coil s (oCoil s n 0)).cmd = true) = true := by decide +kernel

theorem test_meets_OutletTimers_10 : decide (
    let s : State := wStrm 0 3000 (wClosed 0 (wLate 2 .rampDown (fun o => { o with cause := 1, emerg := true })));
    let n : Fin 4 := 0;
    SeqDue s n ∧ (outlet s n).reqFrz = 0 ∧ (outlet s n).st = .rampDown ∧ (outlet s n).emerg = true ∧ acNoResponse s n = false ∧ lowCurrent s n = false ∧ ((if (outlet s n).zc10 = true ∨ s.pwr.pfw = true then min 200 (oTzc s n) else oTzc s n) ≤ sinceT s (outlet s n).emergAt) ∧ causeClass (outlet s n).cause ≤ 1 ∧ oCoil s n 0 < 64 ∧ (coil s (oCoil s n 0)).cmd = true) = true := by decide +kernel

theorem test_meets_OutletTimers_11 : decide (
    let s : State := wLate 3 .weldCheck (fun o => { o with weld := .evWait });
    let n : Fin 4 := 0;
    SeqDue s n ∧ (outlet s n).reqFrz = 0 ∧ (outlet s n).st = .weldCheck ∧ (outlet s n).weld = .evWait ∧ (outlet s n).evopen = false ∧ (oType s n = tyGbt ∨ (outlet s n).pilot = .c) ∧ oTevopen s n ≤ sinceT s (outlet s n).weldAt) = true := by decide +kernel

theorem test_meets_OutletTimers_12 : decide (
    let s : State := wStrm 0 60001 (wLate 2 .weldCheck (fun o => { o with weld := .discharge }));
    let n : Fin 4 := 0;
    SeqDue s n ∧ (outlet s n).reqFrz = 0 ∧ (outlet s n).st = .weldCheck ∧ (outlet s n).weld = .discharge ∧ outDead s n = false ∧ oTweld s n ≤ sinceT s (outlet s n).weldAt) = true := by decide +kernel

theorem test_meets_OutletTimers_13 : decide (
    let s : State := wStrm 0 3000 (wClosed 0 (wLate 4 .rampDown (fun o => { o with cause := 1 })));
    let n : Fin 4 := 0;
    SeqDue s n ∧ (outlet s n).reqFrz = 0 ∧ acNoResponse s n = true ∧ causeClass (outlet s n).cause ≤ 1 ∧ oCoil s n 0 < 64 ∧ (coil s (oCoil s n 0)).cmd = true ∧ (((outlet s n).st = .energy ∧ emergency s n = none) ∨ ((outlet s n).st = .rampDown ∧ ((outlet s n).emerg = true ∨ inCheck s = false ∧ enableLost s n = false ∧ s.pwr.pfw = false)))) = true := by decide +kernel

theorem test_meets_OutletTimers_13_b : decide (
    let s : State := wStrm 0 3000 (wClosed 0 (wLate 4 .energy (fun o => { o with cause := 1, pause := true, pauseAt := 0 })));
    let n : Fin 4 := 0;
    SeqDue s n ∧ (outlet s n).reqFrz = 0 ∧ acNoResponse s n = true ∧ causeClass (outlet s n).cause ≤ 1 ∧ oCoil s n 0 < 64 ∧ (coil s (oCoil s n 0)).cmd = true ∧ (((outlet s n).st = .energy ∧ emergency s n = none) ∨ ((outlet s n).st = .rampDown ∧ ((outlet s n).emerg = true ∨ inCheck s = false ∧ enableLost s n = false ∧ s.pwr.pfw = false)))) = true := by decide +kernel

theorem test_meets_OutletEmergencies_1 : decide (
    let s : State := { wSeq 2 .energy [(8, 1)] id with lea.grant := Tab.upd State.reset.lea.grant 0 (fun g => { g with stamp := some 900 }) };
    let n : Fin 4 := 0;
    s.tmp.running = true ∧ 3 ∈ s.tmp.ran ∧ oActive s n = true ∧ (outlet s n).seqAt ≠ some s.tmp.now ∧ busLost s n = true ∧ (outlet s n).st ∈ [OutSt.cableCheck, .precharge, .energy] ∧ emergency s n = some 0x15) = true := by decide +kernel

theorem test_meets_OutletEmergencies_2 : decide (
    let c : Nat := 0;
    let s : State := { wSeq 2 .plugged [] id with mtx.fb := 1 };
    let n : Fin 4 := 0;
    s.tmp.running = true ∧ 3 ∈ s.tmp.ran ∧ oActive s n = true ∧ (outlet s n).seqAt ≠ some s.tmp.now ∧ fbMismatch s n = some c) = true := by decide +kernel

theorem test_meets_OutletEmergencies_3 : decide (
    let s : State := { wSeq 2 .energy [] id with mtx.fb := 1 };
    let n : Fin 4 := 0;
    s.tmp.running = true ∧ 3 ∈ s.tmp.ran ∧ oActive s n = true ∧ (outlet s n).seqAt ≠ some s.tmp.now ∧ fbMismatch s n ≠ none ∧ (outlet s n).st ∈ [OutSt.cableCheck, .precharge, .energy] ∧ emergency s n = some 0x10) = true := by decide +kernel

theorem test_meets_OutletEmergencies_4 : decide (
    let s : State := { wSeq 2 .rampDown [] id with mtx.fb := 1 };
    let n : Fin 4 := 0;
    s.tmp.running = true ∧ 3 ∈ s.tmp.ran ∧ oActive s n = true ∧ (outlet s n).seqAt ≠ some s.tmp.now ∧ fbMismatch s n ≠ none ∧ (outlet s n).st = .rampDown ∧ (outlet s n).emerg = false ∧ inCheck s = false ∧ enableLost s n = false ∧ s.pwr.pfw = false) = true := by decide +kernel

theorem test_meets_OutletEmergencies_5 : decide (
    let s : State := { wSeq 2 .weldCheck [] (fun o => { o with weld := .settle, weldAt := 0 }) with mtx.fb := 1 };
    let n : Fin 4 := 0;
    s.tmp.running = true ∧ 3 ∈ s.tmp.ran ∧ oActive s n = true ∧ (outlet s n).seqAt ≠ some s.tmp.now ∧ fbMismatch s n ≠ none ∧ (outlet s n).st = .weldCheck ∧ (outlet s n).weld = .settle ∧ weldBad s n ≠ none) = true := by decide +kernel

theorem test_meets_PilotCommands_1 : decide (
    let s : State := { wPost 1 [] with pwr.vehOn := true, veh.v := Tab.upd State.reset.veh.v 0 (fun v => {v with drive := 50}) };
    let p : Fin 4 := 0;
    let n : Fin 4 := 0;
    let a : List Int := List.replicate 50 9000 ++ List.replicate 450 (-12000);
    let b : List Int := List.replicate 500 (-12000);
    let l := a ++ b;
    let drive := (vport s p).drive;
    let high := (if 0 < drive ∧ drive < 1000 then window l 10 (drive - 5) else window l 10 990).sum / ((if 0 < drive ∧ drive < 1000 then window l 10 (drive - 5) else window l 10 990).length : Int);
    let low := if 0 < drive ∧ drive < 1000 then (window l (drive + 10) 995).sum / ((window l (drive + 10) 995).length : Int) else 0;
    let bad := decide (oType s n ≠ tyGbt ∧ 0 < drive ∧ drive < 1000 ∧ 1500 ≤ high ∧ high < 10500 ∧ -10500 < low);
    vOn s = true ∧ outletOfV s p = some n.val) = true := by decide +kernel

theorem test_meets_PilotCommands_1_b : decide (
    let s : State := { wPost 1 [] with pwr.vehOn := true, veh.v := Tab.upd State.reset.veh.v 0 (fun v => {v with drive := 50}) };
    let p : Fin 4 := 0;
    let n : Fin 4 := 0;
    let a : List Int := List.replicate 50 9000 ++ List.replicate 450 (-10499);
    let b : List Int := List.replicate 500 (-10499);
    let l := a ++ b;
    let drive := (vport s p).drive;
    let high := (if 0 < drive ∧ drive < 1000 then window l 10 (drive - 5) else window l 10 990).sum / ((if 0 < drive ∧ drive < 1000 then window l 10 (drive - 5) else window l 10 990).length : Int);
    let low := if 0 < drive ∧ drive < 1000 then (window l (drive + 10) 995).sum / ((window l (drive + 10) 995).length : Int) else 0;
    let bad := decide (oType s n ≠ tyGbt ∧ 0 < drive ∧ drive < 1000 ∧ 1500 ≤ high ∧ high < 10500 ∧ -10500 < low);
    vOn s = true ∧ outletOfV s p = some n.val) = true := by decide +kernel

theorem test_meets_PilotCommands_1_c : decide (
    let s : State := { wPost 3 [] with pwr.vehOn := true, veh.v := Tab.upd State.reset.veh.v 0 (fun v => {v with drive := 1000}) };
    let p : Fin 4 := 0;
    let n : Fin 4 := 0;
    let a : List Int := List.replicate 500 4800;
    let b : List Int := List.replicate 500 4800;
    let l := a ++ b;
    let drive := (vport s p).drive;
    let high := (if 0 < drive ∧ drive < 1000 then window l 10 (drive - 5) else window l 10 990).sum / ((if 0 < drive ∧ drive < 1000 then window l 10 (drive - 5) else window l 10 990).length : Int);
    let low := if 0 < drive ∧ drive < 1000 then (window l (drive + 10) 995).sum / ((window l (drive + 10) 995).length : Int) else 0;
    let bad := decide (oType s n ≠ tyGbt ∧ 0 < drive ∧ drive < 1000 ∧ 1500 ≤ high ∧ high < 10500 ∧ -10500 < low);
    vOn s = true ∧ outletOfV s p = some n.val) = true := by decide +kernel

theorem test_meets_PilotCommands_2 : decide (
    let s : State := wOut (fun o => {o with pLast := .b, pRun := 2}) { wPost 1 [] with pwr.vehOn := true };
    let p : Fin 4 := 0;
    let n : Fin 4 := 0;
    let a : List Int := List.replicate 500 7500;
    let b : List Int := List.replicate 500 7500;
    let l := a ++ b;
    let dc := pilotDecide (vport s p).drive (oType s n == tyGbt) (pilotHigh (vport s p).drive l) (pilotLow (vport s p).drive l);
    vOn s = true ∧ outletOfV s p = some n.val) = true := by decide +kernel

theorem test_meets_PilotCommands_2_b : decide (
    let s : State := wOut (fun o => {o with pLast := .c, pRun := 2}) { wPost 3 [] with pwr.vehOn := true };
    let p : Fin 4 := 0;
    let n : Fin 4 := 0;
    let a : List Int := List.replicate 500 4000;
    let b : List Int := List.replicate 500 4000;
    let l := a ++ b;
    let dc := pilotDecide (vport s p).drive (oType s n == tyGbt) (pilotHigh (vport s p).drive l) (pilotLow (vport s p).drive l);
    vOn s = true ∧ outletOfV s p = some n.val) = true := by decide +kernel

theorem test_meets_PilotCommands_2_c : decide (
    let s : State := wOut (fun o => {o with pLast := .c, pRun := 2, pilotN := .c}) { wPost 1 [] with pwr.vehOn := true };
    let p : Fin 4 := 0;
    let n : Fin 4 := 0;
    let a : List Int := List.replicate 500 7500;
    let b : List Int := List.replicate 500 7500;
    let l := a ++ b;
    let dc := pilotDecide (vport s p).drive (oType s n == tyGbt) (pilotHigh (vport s p).drive l) (pilotLow (vport s p).drive l);
    vOn s = true ∧ outletOfV s p = some n.val) = true := by decide +kernel

theorem test_meets_PilotCommands_3 : decide (
    let s : State := { wPost 0 [] with pwr.vehOn := true };
    let p : Fin 4 := 0;
    let n : Fin 4 := 0;
    let a : List Int := List.replicate 500 10500;
    let b : List Int := List.replicate 500 10500;
    let l := a ++ b;
    vOn s = true ∧ outletOfV s p = none) = true := by decide +kernel

theorem test_meets_PilotCommands_4 : decide (
    let s : State := { wPost 1 [] with pwr.vehOn := false };
    let p : Fin 4 := 0;
    let n : Fin 4 := 0;
    vOn s = false) = true := by decide +kernel

theorem test_meets_PilotCommands_5 : decide (
    let s : State := wOut (fun o => {o with pLast := .a, pRun := 3, pilot := .c}) (wPost 1 []);
    let p : Fin 4 := 0;
    let n : Fin 4 := 0;
    oActive s n = true ∧ 0 < (outlet s n).pRun ∧ oNconfirm s n ≤ (outlet s n).pRun) = true := by decide +kernel

theorem test_meets_PilotCommands_5_b : decide (
    let s : State := wOut (fun o => {o with pLast := .c, pRun := 3}) (wPost 3 []);
    let p : Fin 4 := 0;
    let n : Fin 4 := 0;
    oActive s n = true ∧ 0 < (outlet s n).pRun ∧ oNconfirm s n ≤ (outlet s n).pRun) = true := by decide +kernel

theorem test_meets_PilotCommands_6 : decide (
    let s : State := wOut (fun o => {o with pLast := .a, pRun := 2}) (wPost 1 []);
    let p : Fin 4 := 0;
    let n : Fin 4 := 0;
    (oActive s n = false ∨ (outlet s n).pRun = 0 ∨ (outlet s n).pRun < oNconfirm s n)) = true := by decide +kernel

theorem test_meets_PilotCommands_7 : decide (
    let s : State := { wPost 1 [(0x40, 200)] with pwr.vehOn := true, veh.v := Tab.upd State.reset.veh.v 0 (fun v => {v with pxLast := true, pxRun := 2}) };
    let p : Fin 4 := 0;
    let n : Fin 4 := 0;
    let l : List Nat := List.replicate 100 500000;
    let u := l.sum / l.length;
    let r := if 4950000 ≤ u then 65535 else min 65535 ((2000 * u + (5000000 - u)) / (2 * (5000000 - u)));
    let ok := decide (oProxLo s n ≤ r ∧ r ≤ oProxHi s n ∧ (oType s n = tyAc3 → 80 ≤ r ∧ r ≤ 140 ∨ 164 ≤ r ∧ r ≤ 308 ∨ 400 ≤ r ∧ r ≤ 936 ∨ 1100 ≤ r ∧ r ≤ 2000));
    vOn s = true ∧ outletOfV s p = some n.val ∧ oType s n ≠ tyGbt) = true := by decide +kernel

theorem test_meets_PilotCommands_7_b : decide (
    let s : State := { wPost 1 [(0x40, 200)] with pwr.vehOn := true, veh.v := Tab.upd State.reset.veh.v 0 (fun v => {v with pxLast := true, pxRun := 3}) };
    let p : Fin 4 := 0;
    let n : Fin 4 := 0;
    let l : List Nat := List.replicate 100 4950000;
    let u := l.sum / l.length;
    let r := if 4950000 ≤ u then 65535 else min 65535 ((2000 * u + (5000000 - u)) / (2 * (5000000 - u)));
    let ok := decide (oProxLo s n ≤ r ∧ r ≤ oProxHi s n ∧ (oType s n = tyAc3 → 80 ≤ r ∧ r ≤ 140 ∨ 164 ≤ r ∧ r ≤ 308 ∨ 400 ≤ r ∧ r ≤ 936 ∨ 1100 ≤ r ∧ r ≤ 2000));
    vOn s = true ∧ outletOfV s p = some n.val ∧ oType s n ≠ tyGbt) = true := by decide +kernel

theorem test_meets_PilotCommands_8 : decide (
    let s : State := { wPost 3 [] with pwr.vehOn := true };
    let p : Fin 4 := 0;
    let n : Fin 4 := 0;
    let l : List Nat := List.replicate 100 4950000;
    vOn s = true ∧ (outletOfV s p = none ∨ (outletOfV s p = some n.val ∧ oType s n = tyGbt))) = true := by decide +kernel

theorem test_meets_PilotCommands_9 : decide (
    let s : State := { wOut (fun o => {o with st := .negotiate}) (wPost 1 []) with outsF := (wOut (fun o => {o with st := .negotiate}) (wPost 1 [])).outs };
    let p : Fin 4 := 0;
    let n : Fin 4 := 0;
    vIn s p [.plugged, .authWait, .negotiate] = true) = true := by decide +kernel

theorem test_meets_PilotCommands_10 : decide (
    let s : State := wPost 1 [];
    let p : Fin 4 := 0;
    let n : Fin 4 := 0;
    vIn s p [.plugged, .authWait, .negotiate] = false) = true := by decide +kernel

theorem test_meets_PilotCommands_11 : decide (
    let s : State := { wPost 1 [] with veh.v := Tab.upd State.reset.veh.v 0 (fun v => {v with brk := some 1000}) };
    let p : Fin 4 := 0;
    let n : Fin 4 := 0;
    let b : Nat := 1000;
    (vport s p).brk = some b) = true := by decide +kernel

theorem test_meets_PilotCommands_11_b : decide (
    let s : State := { wPost 1 [] with veh.v := Tab.upd State.reset.veh.v 0 (fun v => {v with brk := some 1001}) };
    let p : Fin 4 := 0;
    let n : Fin 4 := 0;
    let b : Nat := 1001;
    (vport s p).brk = some b) = true := by decide +kernel

theorem test_meets_PilotCommands_12 : decide (
    let s : State := { wPost 1 [] with pwr := { State.reset.pwr with boot := .running, sys := .s3 }, regs := (rput F.PWR_WAKEEN_EN 1 State.reset).regs };
    let p : Fin 4 := 0;
    let n : Fin 4 := 0;
    let mv : Int := 10499;
    let us : Nat := 1000;
    outletOfV s p = some n.val ∧ mv < 10500 ∧ 1000 ≤ us ∧ s.pwr.sys = .s3 ∧ s.pwr.pfw = false ∧ s.pwr.aonOn = true ∧ s.pwr.boot = .running ∧ s.pwr.entry = .none ∧ wakeActs s p = true) = true := by decide +kernel

theorem test_meets_PilotCommands_13 : decide (
    let s : State := { wPost 1 [] with pwr := { State.reset.pwr with boot := .running, sys := .s4 }, regs := (rput F.PWR_WAKEEN_EN 1 State.reset).regs };
    let p : Fin 4 := 0;
    let n : Fin 4 := 0;
    let mv : Int := 10499;
    let us : Nat := 1000;
    outletOfV s p = some n.val ∧ mv < 10500 ∧ 1000 ≤ us ∧ s.pwr.sys = .s4 ∧ s.pwr.pfw = false ∧ s.pwr.aonOn = true ∧ s.pwr.entry = .none ∧ wakeActs s p = true) = true := by decide +kernel

theorem test_meets_PilotCommands_14 : decide (
    let s : State := { wPost 1 [] with pwr := { State.reset.pwr with boot := .running, sys := .s3 } };
    let p : Fin 4 := 0;
    let n : Fin 4 := 0;
    let mv : Int := 10500;
    let us : Nat := 1000;
    (10500 ≤ mv ∨ us < 1000 ∨ s.pwr.pfw = true ∨ (s.pwr.sys ≠ .s3 ∧ s.pwr.sys ≠ .s4) ∨ outletOfV s p = none)) = true := by decide +kernel

theorem test_meets_PilotCommands_15 : decide (
    let s : State := { wPost 1 [] with lea.busReqNow := true, lea.addr := 2, lea.ldUp := true };
    let p : Fin 4 := 0;
    let n : Fin 4 := 0;
    let f := (mkFrame tyCmd (nCabAddr s) 0 (cmdBody 1 ((List.range 4).flatMap (busReqEntry s))) s).1;
    isPost s = true ∧ s.tmp.running = true ∧ (s.tmp.now % 20 = 0 ∧ s.lea.reqAt ≠ some s.tmp.now ∨ s.lea.busReqNow = true) ∧ nCabAddr s < 0xFF ∧ (portOn s (if s.lea.addr = 0 ∨ nCabAddr s < s.lea.addr then .lu else .ld) = true)) = true := by decide +kernel

theorem test_meets_PilotCommands_16 : decide (
    let s : State := wCab [];
    let p : Fin 4 := 0;
    let n : Fin 4 := 0;
    (isPost s = false ∨ s.tmp.running = false ∨ ((s.tmp.now % 20 ≠ 0 ∨ s.lea.reqAt = some s.tmp.now) ∧ s.lea.busReqNow = false))) = true := by decide +kernel

theorem test_meets_MatrixSteps_1 : decide (
    let s : State := wGrp (fun k => {k with step := .weldChk, stepAt := 999}) (wCab []);
    let g : Fin 16 := 0;
    GroupDue s g ∧ inCheck s = false ∧ (group s g).xp = none ∧ (group s g).step = .weldChk ∧ ((∀ d ∈ (group s g).dst.toList, busKind s d ≠ some .release)) ∧ (group s g).stepAt < s.tmp.now ∧ mTvmatch s ≤ stepAge s g ∧ busV s (group s g).src < (group s g).vout + 300 ∧ (group s g).vout < busV s (group s g).src + 300) = true := by decide +kernel

theorem test_meets_MatrixSteps_1_b : decide (
    let s : State := wGrp (fun k => {k with step := .weldChk, stepAt := 999, dst := some 0, mig := true, stamp := some 1000}) (wCab []);
    let g : Fin 16 := 0;
    GroupDue s g ∧ inCheck s = false ∧ (group s g).xp = none ∧ (group s g).step = .weldChk ∧ ((∀ d ∈ (group s g).dst.toList, busKind s d ≠ some .release)) ∧ (group s g).stepAt < s.tmp.now ∧ mTvmatch s ≤ stepAge s g ∧ busV s (group s g).src < (group s g).vout + 300 ∧ (group s g).vout < busV s (group s g).src + 300) = true := by decide +kernel

theorem test_meets_MatrixSteps_2 : decide (
    let s : State := wGrp (fun k => {k with step := .vmatch, dst := some 0, stepAt := 999, mig := true}) (wCab []);
    let g : Fin 16 := 0;
    let d : Nat := 0;
    GroupDue s g ∧ inCheck s = false ∧ (group s g).xp = none ∧ (group s g).dst = some d ∧ (group s g).step = .vmatch ∧ busKind s d ≠ some .release ∧ canClose s g d = false ∧ (group s g).stepAt < s.tmp.now ∧ mTvmatch s ≤ stepAge s g) = true := by decide +kernel

theorem test_meets_MatrixSteps_3 : decide (
    let s : State := wGrp (fun k => {k with step := .rampDown, xp := some 0, stepAt := 999, zeroSince := some 1000, iout := 20, mig := true}) { wClosed 0 (wCab []) with brd.tgt := 16 };
    let g : Fin 16 := 0;
    let x : Nat := 0;
    let z : Nat := 1000;
    GroupDue s g ∧ inCheck s = false ∧ (group s g).xp = some x ∧ target s (4 + mXpCoil s x) = true ∧ ((∀ d ∈ (group s g).dst.toList, busKind s d ≠ some .release)) ∧ (group s g).step = .rampDown ∧ (group s g).stepAt < s.tmp.now ∧ (group s g).limit = 0 ∧ (group s g).zeroSince = some z ∧ mTxzc s ≤ sinceT s z ∧ 20 ≤ (group s g).iout.natAbs) = true := by decide +kernel

theorem test_meets_MatrixSteps_4 : decide (
    let s : State := wGrp (fun k => {k with step := .checkOpen, xp := some 0, stepAt := 999, zeroSince := some 1000, iout := 20}) { wClosed 0 (wCab []) with saf.st := .check };
    let g : Fin 16 := 0;
    let x : Nat := 0;
    let z : Nat := 1000;
    GroupDue s g ∧ inCheck s = true ∧ (group s g).xp = some x ∧ mXpCoil s x < 64 ∧ (group s g).mig = false ∧ (group s g).step = .checkOpen ∧ (group s g).stepAt < s.tmp.now ∧ (group s g).limit = 0 ∧ (group s g).zeroSince = some z ∧ mTxzc s ≤ sinceT s z) = true := by decide +kernel

theorem test_meets_MatrixSteps_4_b : decide (
    let s : State := wGrp (fun k => {k with step := .checkOpen, xp := some 0, stepAt := 999, zeroSince := some 1000, iout := 20}) { wClosed 0 (wCab []) with saf.st := .check, brd.tgt := 16 };
    let g : Fin 16 := 0;
    let x : Nat := 0;
    let z : Nat := 1000;
    GroupDue s g ∧ inCheck s = true ∧ (group s g).xp = some x ∧ mXpCoil s x < 64 ∧ (group s g).mig = false ∧ (group s g).step = .checkOpen ∧ (group s g).stepAt < s.tmp.now ∧ (group s g).limit = 0 ∧ (group s g).zeroSince = some z ∧ mTxzc s ≤ sinceT s z) = true := by decide +kernel

theorem test_meets_MatrixSteps_5 : decide (
    let s : State := { wGrp (fun k => {k with step := .rampDown, xp := some 0, dst := some 0, mig := true}) { wClosed 0 (wCab []) with brd.tgt := 16 } with mtx.bus := Tab.upd State.reset.mtx.bus 0 (fun b => { b with kind := some .release, stamp := 1000 }) };
    let g : Fin 16 := 0;
    let d : Nat := 0;
    GroupDue s g ∧ inCheck s = false ∧ ((∀ x ∈ (group s g).xp.toList, target s (4 + mXpCoil s x) = true)) ∧ (group s g).step ∈ [GStep.rampDown, .open_, .weldChk, .vmatch] ∧ (group s g).mig = true ∧ (group s g).dst = some d ∧ busKind s d = some .release) = true := by decide +kernel

theorem test_meets_MatrixSteps_5_b : decide (
    let s : State := { wGrp (fun k => {k with step := .vmatch, dst := some 0, mig := true}) (wCab []) with mtx.bus := Tab.upd State.reset.mtx.bus 0 (fun b => { b with kind := some .release, stamp := 1000 }) };
    let g : Fin 16 := 0;
    let d : Nat := 0;
    GroupDue s g ∧ inCheck s = false ∧ ((∀ x ∈ (group s g).xp.toList, target s (4 + mXpCoil s x) = true)) ∧ (group s g).step ∈ [GStep.rampDown, .open_, .weldChk, .vmatch] ∧ (group s g).mig = true ∧ (group s g).dst = some d ∧ busKind s d = some .release) = true := by decide +kernel

theorem test_meets_MatrixSteps_6 : decide (
    let s : State := { wCab [] with mtx.fb := 1 };
    let g : Fin 16 := 0;
    let x : Fin 48 := 0;
    isCabinet s = true ∧ x.val < mNxp s ∧ coilMismatch s (mXpCoil s x) (mCoilFb s (mXpCoil s x)) = true) = true := by decide +kernel

theorem test_meets_MatrixSteps_7 : decide (
    let s : State := onGroup 0 (fun k => {k with stamp := some 900, pavail := 100}) (wCab []);
    let g : Fin 16 := 0;
    isCabinet s = true ∧ g.val < mNgroup s ∧ (group s g).lost = false ∧ ((group s g).stamp = none ∧ 100 ≤ s.tmp.now ∨ 100 ≤ sinceT s ((group s g).stamp.getD s.tmp.now))) = true := by decide +kernel

theorem test_meets_MatrixSteps_7_b : decide (
    let s : State := wCab [];
    let g : Fin 16 := 0;
    isCabinet s = true ∧ g.val < mNgroup s ∧ (group s g).lost = false ∧ ((group s g).stamp = none ∧ 100 ≤ s.tmp.now ∨ 100 ≤ sinceT s ((group s g).stamp.getD s.tmp.now))) = true := by decide +kernel

theorem test_meets_MatrixSteps_8 : decide (
    let s : State := wPost 2 [];
    let g : Fin 16 := 0;
    isCabinet s = false) = true := by decide +kernel

theorem test_meets_MatrixFramesAndShares_1 : decide (
    let s : State := wCab [];
    let bus : Fin 2 := 0;
    isCabinet s = true ∧ canRuns s bus = true ∧ s.tmp.running = true ∧ crossesAt s 1000000 0 = true ∧ canGroups s bus ≠ [] ∧ Tab.get none s.mtx.sentAt bus ≠ some s.tmp.now) = true := by decide +kernel

theorem test_meets_MatrixFramesAndShares_2 : decide (
    let s : State := wCab [];
    let bus : Fin 2 := 0;
    isCabinet s = true ∧ canRuns s bus = true ∧ s.tmp.running = true ∧ crossesAt s 1000000 0 = true ∧ canGroups s bus ≠ [] ∧ Tab.get none s.mtx.sentAt bus ≠ some s.tmp.now ∧ Tab.get 0 s.mtx.alive bus < 32) = true := by decide +kernel

theorem test_meets_MatrixFramesAndShares_3 : decide (
    let s : State := wPost 2 [];
    let bus : Fin 2 := 0;
    (isCabinet s = false ∨ canRuns s bus = false ∨ s.tmp.running = false ∨ crossesAt s 1000000 0 = false ∨ canGroups s bus = [] ∨ Tab.get none s.mtx.sentAt bus = some s.tmp.now)) = true := by decide +kernel

theorem test_meets_MatrixFramesAndShares_4 : decide (
    let s : State := { wCab [] with mtx.alive := Tab.upd State.reset.mtx.alive 0 (fun _ => 3) };
    let bus : Fin 2 := 0;
    let id : Nat := 0x180;
    let d : Bytes := [1, 0x12, 0, 0, 0, 0, 100] ++ leBytes 1 (crc8 [0, 1, 0x12, 0, 0, 0, 0, 100]);
    isCabinet s = true ∧ canRuns s bus = true ∧ id < 0x190 ∧ statusOk s bus id d = true) = true := by decide +kernel

theorem test_meets_MatrixFramesAndShares_4_b : decide (
    let s : State := onGroup 0 (fun k => {k with lost := true, goodRun := 19}) { wCab [] with mtx.alive := Tab.upd State.reset.mtx.alive 0 (fun _ => 3) };
    let bus : Fin 2 := 0;
    let id : Nat := 0x180;
    let d : Bytes := [1, 0x12, 0, 0, 0, 0, 100] ++ leBytes 1 (crc8 [0, 1, 0x12, 0, 0, 0, 0, 100]);
    isCabinet s = true ∧ canRuns s bus = true ∧ id < 0x190 ∧ statusOk s bus id d = true) = true := by decide +kernel

theorem test_meets_MatrixFramesAndShares_5 : decide (
    let s : State := wCab [];
    let bus : Fin 2 := 0;
    let id : Nat := 0x17F;
    let d : Bytes := [];
    isCabinet s = true ∧ canRuns s bus = true ∧ statusOk s bus id d = false) = true := by decide +kernel

theorem test_meets_MatrixFramesAndShares_5_b : decide (
    let s : State := wCab [];
    let bus : Fin 2 := 0;
    let id : Nat := 0x180;
    let d : Bytes := [0, 0, 0, 0, 0, 0, 0, 0, 0];
    isCabinet s = true ∧ canRuns s bus = true ∧ statusOk s bus id d = false) = true := by decide +kernel

theorem test_meets_MatrixFramesAndShares_6 : decide (
    let s : State := { wGrp (fun k => {k with xp := some 0, gstate := 1, pavail := 100}) { wClosed 0 (wCab [(0x1E2, 100)]) with brd.tgt := 16 } with mtx.bus := Tab.upd State.reset.mtx.bus 0 (fun b => { b with kind := some .energy, stamp := 1000, cur := 250, volt := 8000 }) };
    let bus : Fin 2 := 0;
    let g : Fin 16 := 0;
    let b : Fin 8 := 0;
    isCabinet s = true ∧ s.tmp.running = true ∧ crossesAt s 1000000 0 = true ∧ s.mtx.msAt ≠ some s.tmp.now ∧ s.saf.st ≠ .mate ∧ inCheck s = false ∧ b.val < mNbus s ∧ mNgroup s ≤ 16 ∧ g.val ∈ groupsOn s b) = true := by decide +kernel

theorem test_meets_MatrixFramesAndShares_7 : decide (
    let s : State := { wGrp (fun k => {k with limit := 5}) (wCab []) with saf.st := .check };
    let bus : Fin 2 := 0;
    let g : Fin 16 := 0;
    isCabinet s = true ∧ s.tmp.running = true ∧ crossesAt s 1000000 0 = true ∧ s.mtx.msAt ≠ some s.tmp.now ∧ s.saf.st ≠ .mate ∧ inCheck s = true ∧ g.val < mNgroup s) = true := by decide +kernel

theorem test_meets_MatrixFramesAndShares_8 : decide (
    let s : State := { wCab [] with mtx.msAt := some 1000 };
    let bus : Fin 2 := 0;
    (isCabinet s = false ∨ s.tmp.running = false ∨ crossesAt s 1000000 0 = false ∨ s.mtx.msAt = some s.tmp.now ∨ s.saf.st = .mate)) = true := by decide +kernel

theorem test_meets_MatrixFramesAndShares_9 : decide (
    let s : State := onGroup 0 (fun k => {k with satSince := some 1000}) { wCab [] with tmp.now := 21000 };
    let bus : Fin 2 := 0;
    let g : Fin 16 := 0;
    let u : Nat := 1000;
    (group s g).satSince = some u ∧ 20000 ≤ sinceT s u ∧ (group s g).satFlag = false) = true := by decide +kernel

theorem test_meets_MatrixFramesAndShares_11 : decide (
    let s : State := wPost 2 [];
    let bus : Fin 2 := 0;
    (isCabinet s = false ∨ s.tmp.running = false ∨ ((s.tmp.now % 20 ≠ 0 ∨ s.lea.grantAt = some s.tmp.now) ∧ s.lea.grantNow = false))) = true := by decide +kernel

theorem test_meets_MatrixFramesAndShares_12 : decide (
    let s : State := onCoil 0 (fun k => {k with dirty := true, sw := 7}) (wCab []);
    let bus : Fin 2 := 0;
    let c : Fin 64 := 0;
    (coil s c).dirty = true) = true := by decide +kernel

theorem test_meets_MatrixFramesAndShares_13 : decide (
    let s : State := wCab [];
    let bus : Fin 2 := 0;
    let c : Fin 64 := 0;
    (coil s c).dirty = false) = true := by decide +kernel

theorem test_meets_MeterChannels_1 : decide (
    let s : State := wChan 0 (fun k => {k with gT := 25600, fir := [5, 5, 5, 5, 5]}) (wMeter [(0x40, 1), (0x43, 255), (0x44, 0), (0x45, 0), (0x46, 0), (0x47, 0x40), (0x140, 2), (0x142, 255), (0x143, 255), (0x147, 0x40), (0x1040, 1), (0x1041, 0), (0x1042, 0), (0x1043, 1), (0x104C, 1)]);
    let c : Fin 16 := 0;
    let o : Decim := ⟨[0x3C000000, 0xC4000000], 3, []⟩;
    let d := phaseStage (chan s c).dT (((toSigned 32 (o.d.getD c 0).toNat) :: (chan s c).fir).take 6);
    let r := if cPilot s c then phaseStage (chan s c).dT (pilLine s (cPil s c)).mdl else 0;
    let yt : Rat := (((d * cFs s c : Int) : Rat) / 1073741824 - (cOffset s c : Rat) / 256) * (1 + ((chan s c).gT : Rat) / 256000000);
    let y : Rat := if cPilot s c then yt * (1 + (chan s c).pil.gP / 1000000) - (cPilAmp s c : Rat) * ((r : Rat) / 1073741824) else yt;
    mtrOn s = true ∧ s.mtr.outs < outputsMax s ∧ cUse s c ≠ 0 ∧ (chan s c).dead = false) = true := by decide +kernel

theorem test_meets_MeterChannels_1_b : decide (
    let s : State := wChan 0 (fun k => {k with gT := 25600}) (wMeter [(0x40, 2), (0x42, 1), (0x4C, 2), (0x4E, 10)]);
    let c : Fin 16 := 0;
    let o : Decim := ⟨[0x2C000000, 0xC4000000], 3, []⟩;
    let d := phaseStage (chan s c).dT (((toSigned 32 (o.d.getD c 0).toNat) :: (chan s c).fir).take 6);
    let r := if cPilot s c then phaseStage (chan s c).dT (pilLine s (cPil s c)).mdl else 0;
    let yt : Rat := (((d * cFs s c : Int) : Rat) / 1073741824 - (cOffset s c : Rat) / 256) * (1 + ((chan s c).gT : Rat) / 256000000);
    let y : Rat := if cPilot s c then yt * (1 + (chan s c).pil.gP / 1000000) - (cPilAmp s c : Rat) * ((r : Rat) / 1073741824) else yt;
    mtrOn s = true ∧ s.mtr.outs < outputsMax s ∧ cUse s c ≠ 0 ∧ (chan s c).dead = false) = true := by decide +kernel

theorem test_meets_MeterChannels_2 : decide (
    let s : State := wChan 0 (fun k => {k with fir := List.replicate 5 0x3C000000}) (wChan 1 (fun k => {k with fir := List.replicate 5 (-0x3C000000)}) (wMeter [(0x40, 1), (0x43, 255), (0x44, 0), (0x45, 0), (0x46, 0), (0x47, 0x40), (0x140, 2), (0x142, 255), (0x143, 255), (0x147, 0x40), (0x1040, 1), (0x1041, 0), (0x1042, 0), (0x1043, 1), (0x104C, 1)]));
    let c : Fin 16 := 0;
    let o : Decim := ⟨[0x3C000000, 0xC4000000], 3, []⟩;
    let n : Fin 8 := 0;
    mtrOn s = true ∧ s.mtr.outs < outputsMax s ∧ eKind s n ≠ 0) = true := by decide +kernel

theorem test_meets_MeterChannels_2_b : decide (
    let s : State := (wMeter [(0x40, 1), (0x43, 255), (0x44, 0), (0x45, 0), (0x46, 0), (0x47, 0x40), (0x140, 2), (0x142, 255), (0x143, 255), (0x147, 0x40), (0x1040, 1), (0x1041, 0), (0x1042, 0), (0x1043, 1), (0x104C, 1)]) |> wChan 1 (fun k => {k with dead := true});
    let c : Fin 16 := 0;
    let o : Decim := ⟨[0x2C000000, 0xC4000000], 3, []⟩;
    let n : Fin 8 := 0;
    mtrOn s = true ∧ s.mtr.outs < outputsMax s ∧ eKind s n ≠ 0) = true := by decide +kernel

theorem test_meets_MeterChannels_3 : decide (
    let s : State := { (wMeter [(0x40, 2), (0x42, 1), (0x4C, 2), (0x4E, 10)]) with mtr.pil := Tab.upd State.reset.mtr.pil 1 (fun p => { p with plus := 3, minus := 2, zero := 6 }) };
    let c : Fin 16 := 0;
    let o : Decim := ⟨[1], 1, []⟩;
    let k : Fin 4 := 1;
    let p := pilLine s k;
    mtrOn s = true ∧ s.mtr.outs < outputsMax s ∧ pilChan s k ≠ none) = true := by decide +kernel

theorem test_meets_MeterChannels_3_b : decide (
    let s : State := { (wMeter [(0x40, 2), (0x42, 1), (0x4C, 2), (0x4E, 10)]) with mtr.pil := Tab.upd State.reset.mtr.pil 1 (fun p => { p with hold := 3, cur := 1 }) };
    let c : Fin 16 := 0;
    let o : Decim := ⟨[1], 1, []⟩;
    let k : Fin 4 := 1;
    let p := pilLine s k;
    mtrOn s = true ∧ s.mtr.outs < outputsMax s ∧ pilChan s k ≠ none) = true := by decide +kernel

theorem test_meets_MeterChannels_4 : decide (
    let s : State := wChan 0 (fun k => {k with dead := true, run := 4}) (wMeter [(0x40, 1), (0x43, 255), (0x44, 0), (0x45, 0), (0x46, 0), (0x47, 0x40), (0x140, 2), (0x142, 255), (0x143, 255), (0x147, 0x40), (0x1040, 1), (0x1041, 0), (0x1042, 0), (0x1043, 1), (0x104C, 1)]);
    let c : Fin 16 := 0;
    let o : Decim := ⟨[1], 1, []⟩;
    mtrOn s = true ∧ s.mtr.outs < outputsMax s ∧ cUse s c ≠ 0 ∧ (chan s c).dead = true) = true := by decide +kernel

theorem test_meets_MeterChannels_5 : decide (
    let s : State := wMeter [(0x40, 6)];
    let c : Fin 16 := 0;
    let o : Decim := ⟨[1], 1, []⟩;
    mtrOn s = true ∧ s.mtr.outs < outputsMax s ∧ rcChannel s = some c.val ∧ (chan s c).dead = false) = true := by decide +kernel

theorem test_meets_MeterChannels_6 : decide (
    let s : State := (wMeter [(0x40, 1), (0x43, 255), (0x44, 0), (0x45, 0), (0x46, 0), (0x47, 0x40), (0x140, 2), (0x142, 255), (0x143, 255), (0x147, 0x40), (0x1040, 1), (0x1041, 0), (0x1042, 0), (0x1043, 1), (0x104C, 1)]);
    let c : Fin 16 := 0;
    let o : Decim := ⟨[1], 1, [(3, 2500)]⟩;
    let k : Fin 8 := 3;
    let v : Int := 2500;
    mtrOn s = true ∧ s.mtr.outs < outputsMax s ∧ o.i2c = [(k, v)]) = true := by decide +kernel

theorem test_meets_MeterChannels_6_b : decide (
    let s : State := { (wMeter [(0x40, 1), (0x43, 255), (0x44, 0), (0x45, 0), (0x46, 0), (0x47, 0x40), (0x140, 2), (0x142, 255), (0x143, 255), (0x147, 0x40), (0x1040, 1), (0x1041, 0), (0x1042, 0), (0x1043, 1), (0x104C, 1)]) with mtr.i2cMask := 8 };
    let c : Fin 16 := 0;
    let o : Decim := ⟨[1], 1, [(3, 2500)]⟩;
    let k : Fin 8 := 3;
    let v : Int := 2500;
    mtrOn s = true ∧ s.mtr.outs < outputsMax s ∧ o.i2c = [(k, v)]) = true := by decide +kernel

theorem test_meets_MeterChannels_7 : decide (
    let s : State := { (wMeter [(0x40, 1), (0x43, 255), (0x44, 0), (0x45, 0), (0x46, 0), (0x47, 0x40), (0x140, 2), (0x142, 255), (0x143, 255), (0x147, 0x40), (0x1040, 1), (0x1041, 0), (0x1042, 0), (0x1043, 1), (0x104C, 1)]) with mtr.outs := 1, tmp.len := 10000 };
    let c : Fin 16 := 0;
    let o : Decim := ⟨[1], 1, []⟩;
    mtrOn s = true ∧ outputsMax s ≤ s.mtr.outs) = true := by decide +kernel

theorem test_meets_MeterChannels_8 : decide (
    let s : State := wMeter [(0x40, 1)];
    let c : Fin 16 := 0;
    let equal := 1000;
    let mis := 0;
    mtrOn s = true ∧ cUse s c ≠ 0 ∧ (1000 ≤ equal ∨ 8 ≤ mis)) = true := by decide +kernel

theorem test_meets_MeterChannels_8_b : decide (
    let s : State := wMeter [(0x40, 1), (0x140,1)];
    let c : Fin 16 := 1;
    let equal := 0;
    let mis := 8;
    mtrOn s = true ∧ cUse s c ≠ 0 ∧ (1000 ≤ equal ∨ 8 ≤ mis)) = true := by decide +kernel

theorem test_meets_MeterChannels_9 : decide (
    let s : State := wMeter [(0x40, 1)];
    let c : Fin 16 := 0;
    let equal := 999;
    let mis := 7;
    mtrOn s = true ∧ equal < 1000 ∧ mis < 8) = true := by decide +kernel

theorem test_meets_MeterChannels_10 : decide (
    let s : State := wChan 0 (fun k => {k with dead := true, run := 20}) (wMeter [(0x40, 1)]);
    let c : Fin 16 := 0;
    mtrOn s = true ∧ (chan s c).dead = true ∧ 20 ≤ (chan s c).run) = true := by decide +kernel

theorem test_meets_MeterChannels_11 : decide (
    let s : State := wChan 0 (fun k => {k with dead := true, run := 19}) (wMeter [(0x40, 1)]);
    let c : Fin 16 := 0;
    mtrOn s = true ∧ ((chan s c).dead = false ∨ (chan s c).run < 20)) = true := by decide +kernel

theorem test_meets_MeterChannels_12 : decide (
    let s : State := wChan 0 (fun k => {k with temp := 3000, pil.gNew := 7}) { wMeter [(0x40, 1), (0x43, 255), (0x40 + 0x18 + 78, 5), (0x40 + 0x18 + 84, 9)] with mtr.secNew := true };
    let c : Fin 16 := 0;
    mtrOn s = true ∧ s.tmp.running = true ∧ s.mtr.tabSec ≠ some (secondOf s) ∧ (secTempo s = true ∨ s.tmp.first = true) ∧ cUse s c ≠ 0) = true := by decide +kernel

theorem test_meets_MeterChannels_12_b : decide (
    let s : State := wChan 0 (fun k => {k with temp := 2700, tempAt := some 900}) { wMeter [(0x40, 1), (0x43, 0), (0x40 + 0x18 + 78, 5), (0x40 + 0x18 + 84, 9)] with tmp.first := true };
    let c : Fin 16 := 0;
    mtrOn s = true ∧ s.tmp.running = true ∧ s.mtr.tabSec ≠ some (secondOf s) ∧ (secTempo s = true ∨ s.tmp.first = true) ∧ cUse s c ≠ 0) = true := by decide +kernel

theorem test_meets_MeterChannels_13 : decide (
    let s : State := wMeter [(0x40, 1)] |> (fun s => { s with tmp.first := false });
    let c : Fin 16 := 0;
    mtrOn s = true ∧ (s.tmp.running = false ∨ s.mtr.tabSec = some (secondOf s) ∨ (secTempo s = false ∧ s.tmp.first = false))) = true := by decide +kernel

theorem test_meets_MeterChannels_14 : decide (
    let s : State := wChan 0 (fun k => {k with tempAt := some 1000}) { wMeter [(0x40, 1), (0x43, 0)] with tmp.now := 201000 };
    let c : Fin 16 := 0;
    mtrOn s = true ∧ cUse s c ≠ 0 ∧ cTsrc s c ≠ 0xFF ∧ 200000 ≤ s.tmp.now - (chan s c).tempAt.getD 0) = true := by decide +kernel

theorem test_meets_MeterChannels_15 : decide (
    let s : State := wChan 0 (fun k => {k with tempAt := some 1000}) { wMeter [(0x40, 1), (0x43, 0)] with tmp.now := 200999 };
    let c : Fin 16 := 0;
    mtrOn s = true ∧ (cUse s c = 0 ∨ cTsrc s c = 0xFF ∨ s.tmp.now - (chan s c).tempAt.getD 0 < 200000)) = true := by decide +kernel

theorem test_meets_MeterChannels_16 : decide (
    let s : State := wChan 0 (fun k => {k with trange := true, back := some 1000}) { wMeter [(0x40, 1), (0x43, 0)] with tmp.now := 201000 };
    let c : Fin 16 := 0;
    let u : Nat := 1000;
    let ep : Fin 8 := 0;
    mtrOn s = true ∧ (chan s c).trange = true ∧ (chan s c).back = some u ∧ 200000 ≤ sinceT s u) = true := by decide +kernel

theorem test_meets_MeterChannels_17 : decide (
    let s : State := wMeter [(0x40, 1)];
    let c : Fin 16 := 0;
    mtrOn s = true ∧ ((chan s c).trange = false ∨ (chan s c).back = none)) = true := by decide +kernel

theorem test_meets_MeterChannels_18 : decide (
    let s : State := (wMeter [(0x40, 2), (0x42, 1), (0x4C, 2), (0x4E, 10)]);
    let c : Fin 16 := 0;
    let k : Fin 4 := 1;
    mtrOn s = true ∧ pilChan s k ≠ none ∧ s.mtr.drawSec ≠ some (secondOf s)) = true := by decide +kernel

theorem test_meets_MeterChannels_18_b : decide (
    let s : State := { (wMeter [(0x40, 2), (0x42, 1), (0x4C, 2), (0x4E, 10)]) with key.rngFail := true };
    let c : Fin 16 := 0;
    let k : Fin 4 := 1;
    mtrOn s = true ∧ pilChan s k ≠ none ∧ s.mtr.drawSec ≠ some (secondOf s)) = true := by decide +kernel

theorem test_meets_MeterChannels_19 : decide (
    let s : State := { (wMeter [(0x40, 2), (0x42, 1), (0x4C, 2), (0x4E, 10)]) with mtr.drawSec := some 0 };
    let c : Fin 16 := 0;
    mtrOn s = true ∧ s.mtr.drawSec = some (secondOf s)) = true := by decide +kernel

theorem test_meets_MeterChannels_20 : decide (
    let s : State := { wChan 0 (fun k => {k with pil.n := 20000, pil.srr := 1, pil.syr := 3}) (wMeter [(0x40, 2), (0x42, 1), (0x4C, 2), (0x4E, 10)]) with mtr.secNew := true };
    let c : Fin 16 := 0;
    let p := (chan s c).pil;
    let e := (pilEstimate c s).1.1;
    mtrOn s = true ∧ cPilot s c = true ∧ secTempo s = true ∧ s.mtr.outs = 0 ∧ s.mtr.blkSec ≠ some (secondOf s) ∧ s.key.rngFail = false ∧ (chan s c).pil.bad = false ∧ (chan s c).pil.n = 20000 ∧ cPilAmp s c ≠ 0 ∧ detrended 20000 (chan s c).pil.sr (chan s c).pil.sr (chan s c).pil.skr (chan s c).pil.skr (chan s c).pil.srr ≠ 0) = true := by decide +kernel

theorem test_meets_MeterChannels_20_b : decide (
    let s : State := { wChan 0 (fun k => {k with pil.n := 20000, pil.srr := 1, pil.syr := 3, pil.k := 20, pil.g := 3/2}) (wMeter [(0x40, 2), (0x42, 1), (0x4C, 2), (0x4E, 10)]) with mtr.secNew := true };
    let c : Fin 16 := 0;
    let p := (chan s c).pil;
    let e := (pilEstimate c s).1.1;
    mtrOn s = true ∧ cPilot s c = true ∧ secTempo s = true ∧ s.mtr.outs = 0 ∧ s.mtr.blkSec ≠ some (secondOf s) ∧ s.key.rngFail = false ∧ (chan s c).pil.bad = false ∧ (chan s c).pil.n = 20000 ∧ cPilAmp s c ≠ 0 ∧ detrended 20000 (chan s c).pil.sr (chan s c).pil.sr (chan s c).pil.skr (chan s c).pil.skr (chan s c).pil.srr ≠ 0) = true := by decide +kernel

theorem test_meets_MeterChannels_20_c : decide (
    let s : State := { wChan 0 (fun k => {k with pil.n := 20000, pil.srr := 1, pil.syr := 3, pil.k := 20, pil.g := 1}) (wMeter [(0x40, 2), (0x42, 1), (0x4C, 2), (0x4E, 10)]) with mtr.secNew := true };
    let c : Fin 16 := 0;
    let p := (chan s c).pil;
    let e := (pilEstimate c s).1.1;
    mtrOn s = true ∧ cPilot s c = true ∧ secTempo s = true ∧ s.mtr.outs = 0 ∧ s.mtr.blkSec ≠ some (secondOf s) ∧ s.key.rngFail = false ∧ (chan s c).pil.bad = false ∧ (chan s c).pil.n = 20000 ∧ cPilAmp s c ≠ 0 ∧ detrended 20000 (chan s c).pil.sr (chan s c).pil.sr (chan s c).pil.skr (chan s c).pil.skr (chan s c).pil.srr ≠ 0) = true := by decide +kernel

theorem test_meets_MeterChannels_21 : decide (
    let s : State := { wChan 0 (fun k => {k with pil.n := 20000, pil.srr := 1, pil.syr := 3, pil.bad := true}) (wMeter [(0x40, 2), (0x42, 1), (0x4C, 2), (0x4E, 10)]) with mtr.secNew := true };
    let c : Fin 16 := 0;
    mtrOn s = true ∧ cPilot s c = true ∧ secTempo s = true ∧ s.mtr.outs = 0 ∧ s.mtr.blkSec ≠ some (secondOf s) ∧ (s.key.rngFail = true ∨ (chan s c).pil.bad = true ∨ (chan s c).pil.n ≠ 20000)) = true := by decide +kernel

theorem test_meets_MeterChannels_21_b : decide (
    let s : State := { wChan 0 (fun k => {k with pil.n := 20000, pil.srr := 1, pil.syr := 3}) (wMeter [(0x40, 2), (0x42, 1), (0x4C, 2), (0x4E, 10)]) with mtr.secNew := true, key.rngFail := true };
    let c : Fin 16 := 0;
    mtrOn s = true ∧ cPilot s c = true ∧ secTempo s = true ∧ s.mtr.outs = 0 ∧ s.mtr.blkSec ≠ some (secondOf s) ∧ (s.key.rngFail = true ∨ (chan s c).pil.bad = true ∨ (chan s c).pil.n ≠ 20000)) = true := by decide +kernel

theorem test_meets_MeterChannels_22 : decide (
    let s : State := (wMeter [(0x40, 2), (0x42, 1), (0x4C, 2), (0x4E, 10)]);
    let c : Fin 16 := 0;
    mtrOn s = true ∧ (secTempo s = false ∨ 0 < s.mtr.outs ∨ s.mtr.blkSec = some (secondOf s))) = true := by decide +kernel

theorem test_meets_MeterGridAndPulses_1 : decide (
    let s : State := wChan 0 (fun k => {k with hist := [3, -4, 5]}) (wIntake 1000 1000 1000);
    let c : Fin 16 := 0;
    mtrOn s = true ∧ epAc s ≠ none ∧ acUse (cUse s c) = true) = true := by decide +kernel

theorem test_meets_MeterGridAndPulses_2 : decide (
    let s : State := wMeter [];
    mtrOn s = true ∧ epAc s = none) = true := by decide +kernel

theorem test_meets_MeterGridAndPulses_3 : decide (
    let n : Nat := 0;
    let s : State := wMeter [(4, 232), (5, 3), (6, 90), (7, 110), (8, 10), (9, 2), (0x40, 3), (0x140, 4), (0x1040, 3), (0x1041, 0xFF), (0x1042, 0), (0x1043, 1)];
    mtrOn s = true ∧ epAc s = some n ∧ eKind s n ≠ 2 ∧ tUnom s ≠ 0 ∧ ((∀ c ∈ List.range 16, acUse (cUse s c) = true → (chan s c).ms = meanSq (chan s c).hist (cycleLen s)))) = true := by decide +kernel

theorem test_meets_MeterGridAndPulses_3_b : decide (
    let n : Nat := 0;
    let s : State := { wMeter [(4, 232), (5, 3), (6, 90), (7, 110), (8, 10), (9, 2), (0x40, 3), (0x140, 4), (0x1040, 3), (0x1041, 0xFF), (0x1042, 0), (0x1043, 1)] |> wChan 0 (fun k => { k with hist := [25600000], ms := meanSq [25600000] (cycleLen (wMeter [(4, 232), (5, 3)])) }) with mtr.grid := Tab.upd State.reset.mtr.grid 0 (fun _ => some ⟨3, 10, 0⟩) };
    mtrOn s = true ∧ epAc s = some n ∧ eKind s n ≠ 2 ∧ tUnom s ≠ 0 ∧ ((∀ c ∈ List.range 16, acUse (cUse s c) = true → (chan s c).ms = meanSq (chan s c).hist (cycleLen s)))) = true := by decide +kernel

theorem test_meets_MeterGridAndPulses_4 : decide (
    let c : Nat := 0;
    let t0 : Nat := 0x123456789A;
    let s : State := wIntake 200 0 0;
    mtrOn s = true ∧ vaChan s = some c ∧ phaseBelow s 0 200 = false) = true := by decide +kernel

theorem test_meets_MeterGridAndPulses_5 : decide (
    let t0 : Nat := 5;
    let s : State := wIntake 199 0 0;
    mtrOn s = true ∧ (vaChan s = none ∨ phaseBelow s 0 200 = true)) = true := by decide +kernel

theorem test_meets_MeterGridAndPulses_6 : decide (
    let s : State := { wIntake 200 0 0 with mtr.zc := [1200000000, 10, 9, 8, 7, 6, 5, 4, 3, 2, 1000000000] };
    let a : Nat := 1200000000;
    let b : Nat := 1000000000;
    mtrOn s = true ∧ s.mtr.zc[0]? = some a ∧ s.mtr.zc[10]? = some b ∧ b < a ∧ phaseBelow s 0 200 = false ∧ freqDue s = true) = true := by decide +kernel

theorem test_meets_MeterGridAndPulses_7 : decide (
    let s : State := wIntake 1000 1000 1000;
    mtrOn s = true ∧ (s.mtr.zc.length ≤ 10 ∨ phaseBelow s 0 200 = true ∨ freqDue s = false)) = true := by decide +kernel

theorem test_meets_MeterGridAndPulses_8 : decide (
    let s : State := { wIntake 501 501 501 with mtr.seqFrom := some 900 };
    let cyc : List (Int × Int) := List.replicate 5 (90, 150);
    let u : Nat := 900;
    mtrOn s = true ∧ s.mtr.seqFrom = some u) = true := by decide +kernel

theorem test_meets_MeterGridAndPulses_8_b : decide (
    let s : State := { wIntake 501 501 501 with mtr.seqFrom := some 900 };
    let cyc : List (Int × Int) := List.replicate 5 (210, 270);
    let u : Nat := 900;
    mtrOn s = true ∧ s.mtr.seqFrom = some u) = true := by decide +kernel

theorem test_meets_MeterGridAndPulses_8_c : decide (
    let s : State := { wIntake 501 501 501 with mtr.seqFrom := some 900 };
    let cyc : List (Int × Int) := [(120,120),(120,120),(120,120),(120,120),(89,120)];
    let u : Nat := 900;
    mtrOn s = true ∧ s.mtr.seqFrom = some u) = true := by decide +kernel

theorem test_meets_MeterGridAndPulses_9 : decide (
    let s : State := wIntake 501 501 501;
    let cyc : List (Int × Int) := [];
    mtrOn s = true ∧ s.mtr.seqFrom = none) = true := by decide +kernel

theorem test_meets_MeterGridAndPulses_10 : decide (
    let s : State := { wIntake 501 501 501 with mtr.missAt := some 1000, tmp.now := 5001 };
    let u : Nat := 1000;
    let ep : Fin 8 := 0;
    mtrOn s = true ∧ epAc s = some ep.val ∧ s.mtr.missAt = some u ∧ 4001 ≤ sinceT s u ∧ rget s F.MTR_STATUS_MISSN = 0) = true := by decide +kernel

theorem test_meets_MeterGridAndPulses_11 : decide (
    let s : State := { wIntake 501 501 501 with mtr.missAt := some 1000, tmp.now := 5000 };
    let u : Nat := 1000;
    let ep : Fin 8 := 0;
    mtrOn s = true ∧ (epAc s ≠ some ep.val ∨ s.mtr.missAt = none ∨ (s.mtr.missAt = some u ∧ sinceT s u ≤ 4000) ∨ rget s F.MTR_STATUS_MISSN = 1)) = true := by decide +kernel

theorem test_meets_MeterGridAndPulses_12 : decide (
    let s : State := { rput F.MTR_STATUS_MISSN 1 (rput F.MTR_GRIDEV0_TYPE 4 (wIntake 501 501 501)) with mtr.missOff := some 1000, tmp.now := 5000 };
    let u : Nat := 1000;
    let ep : Fin 8 := 0;
    mtrOn s = true ∧ epAc s = some ep.val ∧ s.mtr.missOff = some u ∧ 4000 ≤ sinceT s u ∧ rget s F.MTR_STATUS_MISSN = 1) = true := by decide +kernel

theorem test_meets_MeterGridAndPulses_13 : decide (
    let s : State := { wIntake 501 501 501 with mtr.missOff := some 1000, tmp.now := 4999 };
    let u : Nat := 1000;
    let ep : Fin 8 := 0;
    mtrOn s = true ∧ (epAc s ≠ some ep.val ∨ s.mtr.missOff = none ∨ (s.mtr.missOff = some u ∧ sinceT s u < 4000) ∨ rget s F.MTR_STATUS_MISSN = 0)) = true := by decide +kernel

theorem test_meets_MeterGridAndPulses_14 : decide (
    let s : State := { wIntake 1000 1000 1000 with mtr.sum := Tab.upd State.reset.mtr.sum 0 (fun x => { x with ms := 655360001 }) };
    let n : Fin 8 := 0;
    mtrOn s = true) = true := by decide +kernel

theorem test_meets_MeterGridAndPulses_15 : decide (
    let s : State := { wIntake 1000 1000 1000 with mtr.sum := Tab.upd State.reset.mtr.sum 0 (fun x => { x with ok := some 1000, err := true }), tmp.now := 201000 };
    let n : Fin 8 := 0;
    mtrOn s = true) = true := by decide +kernel

theorem test_meets_MeterGridAndPulses_16 : decide (
    let s : State := { wMeter [] with mtr.poDue := 2, mtr.poHigh := 1000 };
    mtrOn s = true ∧ 0 < s.mtr.poDue ∧ s.mtr.poAt ≠ some s.tmp.now) = true := by decide +kernel

theorem test_meets_MeterGridAndPulses_17 : decide (
    let s : State := wMeter [];
    mtrOn s = true ∧ (s.mtr.poDue = 0 ∨ s.mtr.poAt = some s.tmp.now)) = true := by decide +kernel

theorem test_meets_MeterGridAndPulses_18 : decide (
    let s : State := rput (F.PER_PICFG_EN 0) 1 (wMeter []);
    let k : Fin 4 := 0;
    let hi : Nat := 40;
    let lo : Nat := 40;
    mtrOn s = true) = true := by decide +kernel

theorem test_meets_MeterGridAndPulses_18_b : decide (
    let s : State := rput (F.PER_PICFG_EN 0) 1 (wMeter []);
    let k : Fin 4 := 0;
    let hi : Nat := 9;
    let lo : Nat := 40;
    mtrOn s = true) = true := by decide +kernel

theorem test_meets_MeterGridAndPulses_19 : decide (
    let s : State := wMeter [];
    let k : Fin 4 := 0;
    let v : Word := 0xFFFFFFFF;
    let pulse : Bool := true;
    mtrOn s = true) = true := by decide +kernel

theorem test_meets_BilMailboxCommands_2 : decide (
    let len : Nat := 0;
    let p : Bytes := [];
    let rd : Bool := true;
    let x : Instr × Nat := (.timeslew .run len p, 3);
    let s : State := wMeter [];
    x ∈ ([(.bilFlagclr .run len p, 1), (.bilIenset .run len p, 2), (.timeslew .run len p, 3), (.timestep .run len p, 4), (.calload .run len p, 5), (.calcommit .run len p, 6), (.calcancel .run len p, 7), (.recread (.run rd) len p, 8), (.regread (.run rd) len p, 9), (.showcheck .run len p, 10)] : List (Instr × Nat)) ∧ bilTurn s x.2 = none) = true := by decide +kernel

theorem test_meets_BilMailboxCommands_3 : decide (
    let len : Nat := 0;
    let p : Bytes := [];
    let rd : Bool := true;
    let x : Instr × Nat := (.bilFlagclr .run len p, 1);
    let c : MbCmd := ⟨1, 11, List.replicate 12 0⟩;
    let s : State := { wMeter [] with bil.mbox := [c] };
    x ∈ ([(.bilFlagclr .run len p, 1), (.bilIenset .run len p, 2), (.timeslew .run len p, 3), (.timestep .run len p, 4), (.calload .run len p, 5), (.calcommit .run len p, 6), (.calcancel .run len p, 7), (.recread (.run rd) len p, 8), (.regread (.run rd) len p, 9), (.showcheck .run len p, 10)] : List (Instr × Nat)) ∧ bilTurn s x.2 = some c ∧ ((if x.2 ∈ [1, 2] then c.len ≠ 12 else if x.2 = 3 then c.len ≠ 8 else if x.2 = 4 then c.len ≠ 112 else if x.2 = 5 then c.len < 5 ∨ 124 < c.len else if x.2 ∈ [8, 9] then c.len ≠ 4 else c.len ≠ 0)) ∧ engineBusy s = false) = true := by decide +kernel

theorem test_meets_BilMailboxCommands_3_b : decide (
    let len : Nat := 0;
    let p : Bytes := [];
    let rd : Bool := true;
    let x : Instr × Nat := (.calload .run len p, 5);
    let c : MbCmd := ⟨5, 4, List.replicate 12 0⟩;
    let s : State := { wMeter [] with bil.mbox := [c] };
    x ∈ ([(.bilFlagclr .run len p, 1), (.bilIenset .run len p, 2), (.timeslew .run len p, 3), (.timestep .run len p, 4), (.calload .run len p, 5), (.calcommit .run len p, 6), (.calcancel .run len p, 7), (.recread (.run rd) len p, 8), (.regread (.run rd) len p, 9), (.showcheck .run len p, 10)] : List (Instr × Nat)) ∧ bilTurn s x.2 = some c ∧ ((if x.2 ∈ [1, 2] then c.len ≠ 12 else if x.2 = 3 then c.len ≠ 8 else if x.2 = 4 then c.len ≠ 112 else if x.2 = 5 then c.len < 5 ∨ 124 < c.len else if x.2 ∈ [8, 9] then c.len ≠ 4 else c.len ≠ 0)) ∧ engineBusy s = false) = true := by decide +kernel

theorem test_meets_BilMailboxCommands_3_c : decide (
    let len : Nat := 0;
    let p : Bytes := [];
    let rd : Bool := true;
    let x : Instr × Nat := (.calload .run len p, 5);
    let c : MbCmd := ⟨5, 125, List.replicate 12 0⟩;
    let s : State := { wMeter [] with bil.mbox := [c] };
    x ∈ ([(.bilFlagclr .run len p, 1), (.bilIenset .run len p, 2), (.timeslew .run len p, 3), (.timestep .run len p, 4), (.calload .run len p, 5), (.calcommit .run len p, 6), (.calcancel .run len p, 7), (.recread (.run rd) len p, 8), (.regread (.run rd) len p, 9), (.showcheck .run len p, 10)] : List (Instr × Nat)) ∧ bilTurn s x.2 = some c ∧ ((if x.2 ∈ [1, 2] then c.len ≠ 12 else if x.2 = 3 then c.len ≠ 8 else if x.2 = 4 then c.len ≠ 112 else if x.2 = 5 then c.len < 5 ∨ 124 < c.len else if x.2 ∈ [8, 9] then c.len ≠ 4 else c.len ≠ 0)) ∧ engineBusy s = false) = true := by decide +kernel

theorem test_meets_BilMailboxCommands_3_d : decide (
    let len : Nat := 0;
    let p : Bytes := [];
    let rd : Bool := true;
    let x : Instr × Nat := (.calcommit .run len p, 6);
    let c : MbCmd := ⟨6, 1, List.replicate 12 0⟩;
    let s : State := { wMeter [] with bil.mbox := [c] };
    x ∈ ([(.bilFlagclr .run len p, 1), (.bilIenset .run len p, 2), (.timeslew .run len p, 3), (.timestep .run len p, 4), (.calload .run len p, 5), (.calcommit .run len p, 6), (.calcancel .run len p, 7), (.recread (.run rd) len p, 8), (.regread (.run rd) len p, 9), (.showcheck .run len p, 10)] : List (Instr × Nat)) ∧ bilTurn s x.2 = some c ∧ ((if x.2 ∈ [1, 2] then c.len ≠ 12 else if x.2 = 3 then c.len ≠ 8 else if x.2 = 4 then c.len ≠ 112 else if x.2 = 5 then c.len < 5 ∨ 124 < c.len else if x.2 ∈ [8, 9] then c.len ≠ 4 else c.len ≠ 0)) ∧ engineBusy s = false) = true := by decide +kernel

theorem test_meets_BilMailboxCommands_3_e : decide (
    let len : Nat := 0;
    let p : Bytes := [];
    let rd : Bool := true;
    let x : Instr × Nat := (.regread (.run rd) len p, 9);
    let c : MbCmd := ⟨9, 5, List.replicate 12 0⟩;
    let s : State := { wMeter [] with bil.mbox := [c] };
    x ∈ ([(.bilFlagclr .run len p, 1), (.bilIenset .run len p, 2), (.timeslew .run len p, 3), (.timestep .run len p, 4), (.calload .run len p, 5), (.calcommit .run len p, 6), (.calcancel .run len p, 7), (.recread (.run rd) len p, 8), (.regread (.run rd) len p, 9), (.showcheck .run len p, 10)] : List (Instr × Nat)) ∧ bilTurn s x.2 = some c ∧ ((if x.2 ∈ [1, 2] then c.len ≠ 12 else if x.2 = 3 then c.len ≠ 8 else if x.2 = 4 then c.len ≠ 112 else if x.2 = 5 then c.len < 5 ∨ 124 < c.len else if x.2 ∈ [8, 9] then c.len ≠ 4 else c.len ≠ 0)) ∧ engineBusy s = false) = true := by decide +kernel

theorem test_meets_BilMailboxCommands_4 : decide (
    let e : JEntry := ⟨3, 0x1_0000_0041, 5, Legal.reset, []⟩;
    let x : JSlot := ⟨e, 3440, false, false⟩;
    let s : State := { wMeter [] with bil.jw := some e, fram.jrn := Tab.upd State.reset.fram.jrn 1 (fun _ => some x), bil.framOk := true, bil.calib := true, bil.legalValid := true, bil.dyn.act := true };
    let len : Nat := 0;
    let p : Bytes := [];
    let rd : Bool := true;
    s.bil.jw = some e ∧ s.bil.jq = [] ∧ Tab.get none s.fram.jrn (e.seq % 64) = some x) = true := by decide +kernel

theorem test_meets_BilMailboxCommands_5 : decide (
    let e : JEntry := ⟨3, 0x1_0000_0041, 5, Legal.reset, []⟩;
    let x : JSlot := ⟨e, 3440, false, false⟩;
    let s : State := { wMeter [] with bil.jw := some e, fram.jrn := Tab.upd State.reset.fram.jrn 1 (fun _ => some x), bil.framOk := true, bil.calib := true, bil.legalValid := true, bil.dyn.act := true };
    let len : Nat := 0;
    let p : Bytes := [];
    let rd : Bool := true;
    s.bil.jw = some e ∧ s.bil.jq = []) = true := by decide +kernel

theorem test_meets_BilMailboxCommands_6 : decide (
    let s : State := wMeter [];
    let len : Nat := 0;
    let p : Bytes := [];
    let rd : Bool := true;
    s.bil.jw = none) = true := by decide +kernel

theorem test_meets_BilMailboxCommands_7 : decide (
    let c : MbCmd := ⟨1, 12, leBytes 4 9 ++ leBytes 4 (F.MTR_FLAGS_MISSN.addr - 0x10090000) ++ leBytes 4 (2 ^ F.MTR_FLAGS_MISSN.lo)⟩;
    let fl : List FldRow := (regFields F.MTR_FLAGS_MISSN.addr).getD [];
    let s : State := raiseMtr F.MTR_FLAGS_MISSN { wMeter [] with bil.mbox := [c] };
    let len : Nat := 0;
    let p : Bytes := [];
    let rd : Bool := true;
    let a := 0x10000000 + 0x10000 * u32 c.payload 0 + u32 c.payload 4;
    bilTurn s 1 = some c ∧ c.len = 12 ∧ u32 c.payload 0 ∈ bilBlocks ∧ u32 c.payload 4 < 0x10000 ∧ regFields a = some fl ∧ clearable fl = true) = true := by decide +kernel

theorem test_meets_BilMailboxCommands_7_b : decide (
    let c : MbCmd := ⟨1, 12, leBytes 4 9 ++ leBytes 4 0x10 ++ leBytes 4 0x80000000⟩;
    let fl : List FldRow := (regFields 0x10090010).getD [];
    let s : State := rput F.MTR_CAPLOSS_COUNT 77777 { wMeter [] with bil.mbox := [c] };
    let len : Nat := 0;
    let p : Bytes := [];
    let rd : Bool := true;
    let a := 0x10000000 + 0x10000 * u32 c.payload 0 + u32 c.payload 4;
    bilTurn s 1 = some c ∧ c.len = 12 ∧ u32 c.payload 0 ∈ bilBlocks ∧ u32 c.payload 4 < 0x10000 ∧ regFields a = some fl ∧ clearable fl = true) = true := by decide +kernel

theorem test_meets_BilMailboxCommands_8 : decide (
    let c : MbCmd := ⟨1, 12, leBytes 4 8 ++ leBytes 4 4 ++ leBytes 4 1⟩;
    let s : State := { wMeter [] with bil.mbox := [c] };
    let len : Nat := 0;
    let p : Bytes := [];
    let rd : Bool := true;
    bilTurn s 1 = some c ∧ c.len = 12 ∧ u32 c.payload 0 ∉ bilBlocks) = true := by decide +kernel

theorem test_meets_BilMailboxCommands_10 : decide (
    let c : MbCmd := ⟨3, 8, leBytes 8 (ofSigned 64 (-2000000000))⟩;
    let s : State := { wMeter [] with bil.mbox := [c], bil.legalValid := true };
    let len : Nat := 0;
    let p : Bytes := [];
    let rd : Bool := true;
    let d := toSigned 64 (u64 c.payload 0);
    bilTurn s 3 = some c ∧ c.len = 8) = true := by decide +kernel

theorem test_meets_BilMailboxCommands_10_b : decide (
    let c : MbCmd := ⟨3, 8, leBytes 8 (ofSigned 64 (-2000000001))⟩;
    let s : State := { wMeter [] with bil.mbox := [c], bil.legalValid := true };
    let len : Nat := 0;
    let p : Bytes := [];
    let rd : Bool := true;
    let d := toSigned 64 (u64 c.payload 0);
    bilTurn s 3 = some c ∧ c.len = 8) = true := by decide +kernel

theorem test_meets_BilMailboxCommands_10_c : decide (
    let c : MbCmd := ⟨3, 8, leBytes 8 (ofSigned 64 1)⟩;
    let s : State := { wMeter [] with bil.mbox := [c], bil.legalValid := true, bil.quota := [(50000000, 2000000000)] };
    let len : Nat := 0;
    let p : Bytes := [];
    let rd : Bool := true;
    let d := toSigned 64 (u64 c.payload 0);
    bilTurn s 3 = some c ∧ c.len = 8) = true := by decide +kernel

theorem test_meets_BilMailboxCommands_11 : decide (
    let c : MbCmd := ⟨4, 112, [0x4C, 0x54, 0x53, 0x54] ++ leBytes 4 0 ++ leBytes 4 9 ++ List.replicate 4 0 ++ List.replicate 8 0 ++ List.replicate 8 255 ++ leBytes 8 77 ++ List.replicate 72 0⟩;
    let s : State := { wMeter [] with bil.mbox := [c], bil.legalValid := true, bil.dyn.act := true };
    let len : Nat := 0;
    let p : Bytes := [];
    let rd : Bool := true;
    let off := toSigned 64 (u64 c.payload 0x20);
    bilTurn s 4 = some c ∧ c.len = 112 ∧ engineBusy s = false) = true := by decide +kernel

theorem test_meets_BilMailboxCommands_11_b : decide (
    let c : MbCmd := ⟨4, 112, List.replicate 112 0⟩;
    let s : State := { wMeter [] with bil.mbox := [c], bil.legalValid := true };
    let len : Nat := 0;
    let p : Bytes := [];
    let rd : Bool := true;
    let off := toSigned 64 (u64 c.payload 0x20);
    bilTurn s 4 = some c ∧ c.len = 112 ∧ engineBusy s = false) = true := by decide +kernel

theorem test_meets_BilMailboxCommands_12 : decide (
    let c : MbCmd := ⟨5, 5, [1, 0, 0, 0, 9]⟩;
    let s : State := { wMeter [] with bil.mbox := [c] };
    let len : Nat := 0;
    let p : Bytes := [];
    let rd : Bool := true;
    bilTurn s 5 = some c ∧ 5 ≤ c.len ∧ c.len ≤ 124) = true := by decide +kernel

theorem test_meets_BilMailboxCommands_12_b : decide (
    let c : MbCmd := ⟨5, 5, [0, 16, 0, 0, 9]⟩;
    let s : State := { wMeter [] with bil.mbox := [c] };
    let len : Nat := 0;
    let p : Bytes := [];
    let rd : Bool := true;
    bilTurn s 5 = some c ∧ 5 ≤ c.len ∧ c.len ≤ 124) = true := by decide +kernel

theorem test_meets_BilMailboxCommands_13 : decide (
    let c : MbCmd := ⟨6, 0, []⟩;
    let s : State := { wMeter [] with bil.mbox := [c], bil.legalValid := true, bil.calBuf := List.replicate 4096 255 };
    let len : Nat := 0;
    let p : Bytes := [];
    let rd : Bool := true;
    let b := slice s.bil.calBuf 0 calLen;
    bilTurn s 6 = some c ∧ c.len = 0 ∧ s.bil.dyn.cal < 2 ∧ engineBusy s = false) = true := by decide +kernel

theorem test_meets_BilMailboxCommands_14 : decide (
    let op : Nat := 6;
    let c : MbCmd := ⟨6, 0, []⟩;
    let s : State := { wMeter [] with bil.mbox := [c], key.job := some ⟨0, 1, 0, 0, [], [], none, false⟩ };
    let len : Nat := 0;
    let p : Bytes := [];
    let rd : Bool := true;
    (op = 4 ∨ op = 6) ∧ bilTurn s op = some c ∧ engineBusy s = true) = true := by decide +kernel

theorem test_meets_BilMailboxCommands_15 : decide (
    let c : MbCmd := ⟨7, 0, []⟩;
    let s : State := { wMeter [] with bil.mbox := [c], bil.dyn.pas := true };
    let len : Nat := 0;
    let p : Bytes := [];
    let rd : Bool := true;
    bilTurn s 7 = some c ∧ c.len = 0) = true := by decide +kernel

theorem test_meets_BilMailboxCommands_16 : decide (
    let c : MbCmd := ⟨8, 4, [1, 0, 0, 0]⟩;
    let s : State := rput F.BIL_RECSEQ_SEQ 2048 { wMeter [] with bil.mbox := [c], fram.ring := [(1, [7, 7, 7, 7, 1, 0, 0, 0, 9])] };
    let len : Nat := 0;
    let p : Bytes := [];
    let rd : Bool := true;
    let q := u32 c.payload 0;
    bilTurn s 8 = some c ∧ c.len = 4 ∧ 1 ≤ q ∧ q ≤ rget s F.BIL_RECSEQ_SEQ ∧ rget s F.BIL_RECSEQ_SEQ < q + 2048) = true := by decide +kernel

theorem test_meets_BilMailboxCommands_16_b : decide (
    let c : MbCmd := ⟨8, 4, [1, 0, 0, 0]⟩;
    let s : State := rput F.BIL_RECSEQ_SEQ 2048 { wMeter [] with bil.mbox := [c], bil.framOk := true, bil.rdOk := true };
    let len : Nat := 0;
    let p : Bytes := [];
    let rd : Bool := false;
    let q := u32 c.payload 0;
    bilTurn s 8 = some c ∧ c.len = 4 ∧ 1 ≤ q ∧ q ≤ rget s F.BIL_RECSEQ_SEQ ∧ rget s F.BIL_RECSEQ_SEQ < q + 2048) = true := by decide +kernel

theorem test_meets_BilMailboxCommands_17 : decide (
    let c : MbCmd := ⟨8, 4, [1, 0, 0, 0]⟩;
    let s : State := rput F.BIL_RECSEQ_SEQ 2049 { wMeter [] with bil.mbox := [c] };
    let len : Nat := 0;
    let p : Bytes := [];
    let rd : Bool := true;
    bilTurn s 8 = some c ∧ c.len = 4 ∧ (u32 c.payload 0 = 0 ∨ rget s F.BIL_RECSEQ_SEQ < u32 c.payload 0 ∨ u32 c.payload 0 + 2048 ≤ rget s F.BIL_RECSEQ_SEQ)) = true := by decide +kernel

theorem test_meets_BilMailboxCommands_18 : decide (
    let c : MbCmd := ⟨9, 4, [7, 1, 0, 0]⟩;
    let s : State := { wMeter [] with bil.mbox := [c], bil.dyn.period := 77 };
    let len : Nat := 0;
    let p : Bytes := [];
    let rd : Bool := true;
    bilTurn s 9 = some c ∧ c.len = 4 ∧ u8 c.payload 0 < 8 ∧ u8 c.payload 1 < 2 ∧ u8 c.payload 2 = 0 ∧ u8 c.payload 3 = 0) = true := by decide +kernel

theorem test_meets_BilMailboxCommands_19 : decide (
    let c : MbCmd := ⟨9, 4, [0, 0, 13, 0]⟩;
    let s : State := { wMeter [] with bil.mbox := [c], bil.dyn.period := 13, fram.hist := Tab.upd State.reset.fram.hist 0 (fun _ => some ⟨0, 5, 6, State.reset.bil.dyn.reg⟩) };
    let len : Nat := 0;
    let p : Bytes := [];
    let rd : Bool := true;
    bilTurn s 9 = some c ∧ c.len = 4 ∧ u8 c.payload 0 < 8 ∧ u8 c.payload 1 < 2 ∧ 1 ≤ u8 c.payload 2 ∧ u8 c.payload 2 ≤ 13 ∧ u8 c.payload 3 = 0) = true := by decide +kernel

theorem test_meets_BilMailboxCommands_19_b : decide (
    let c : MbCmd := ⟨9, 4, [0, 0, 13, 0]⟩;
    let s : State := { wMeter [] with bil.mbox := [c], bil.dyn.period := 13 };
    let len : Nat := 0;
    let p : Bytes := [];
    let rd : Bool := false;
    bilTurn s 9 = some c ∧ c.len = 4 ∧ u8 c.payload 0 < 8 ∧ u8 c.payload 1 < 2 ∧ 1 ≤ u8 c.payload 2 ∧ u8 c.payload 2 ≤ 13 ∧ u8 c.payload 3 = 0) = true := by decide +kernel

theorem test_meets_BilMailboxCommands_20 : decide (
    let c : MbCmd := ⟨9, 4, [0, 0, 14, 0]⟩;
    let s : State := { wMeter [] with bil.mbox := [c] };
    let len : Nat := 0;
    let p : Bytes := [];
    let rd : Bool := true;
    bilTurn s 9 = some c ∧ c.len = 4 ∧ (8 ≤ u8 c.payload 0 ∨ 2 ≤ u8 c.payload 1 ∨ 13 < u8 c.payload 2 ∨ u8 c.payload 3 ≠ 0)) = true := by decide +kernel

theorem test_meets_BilMailboxCommands_21 : decide (
    let c : MbCmd := ⟨10, 0, []⟩;
    let s : State := { wMeter [] with bil.mbox := [c] };
    let len : Nat := 0;
    let p : Bytes := [];
    let rd : Bool := true;
    bilTurn s 10 = some c ∧ c.len = 0) = true := by decide +kernel

theorem test_meets_BilMailboxCommands_23 : decide (
    let s : State := { wMeter [] with pwr.pfw := true, tmp.now := 1240, pwr.pfwAt := 1000 };
    let len : Nat := 0;
    let p : Bytes := [];
    let rd : Bool := true;
    s.pwr.pfw = true ∧ s.pwr.pfwFinal = false ∧ 240 ≤ sinceT s s.pwr.pfwAt) = true := by decide +kernel

theorem test_meets_BilMailboxCommands_24 : decide (
    let s : State := wMeter [];
    let len : Nat := 0;
    let p : Bytes := [];
    let rd : Bool := true;
    (s.pwr.pfw = false ∨ s.pwr.pfwFinal = true ∨ sinceT s s.pwr.pfwAt < 240)) = true := by decide +kernel

theorem test_meets_OpticalCommands_1 : decide (
    let s : State := wMeter [];
    let ch : Bytes := [0x2F, 0x3F, 0x21, 0x0D, 0x0A];
    mtrOn s = true ∧ ch ∈ signOns s ∧ s.opt.st = .idle) = true := by decide +kernel

theorem test_meets_OpticalCommands_2 : decide (
    let s : State := wMeter [];
    let ch : Bytes := [0x2F, 0x3F, 0x21, 0x0D, 0x0A];
    mtrOn s = true ∧ s.opt.st = .idle) = true := by decide +kernel

theorem test_meets_OpticalCommands_3 : decide (
    let s : State := wMeter [];
    let ch : Bytes := [0x2F, 0x3F, 0x21, 0x0D];
    let par : Bool := true;
    mtrOn s = true ∧ (s.opt.st ≠ .idle ∨ (par = true ∧ ch ∉ signOns s))) = true := by decide +kernel

theorem test_meets_OpticalCommands_4 : decide (
    let s : State := { wMeter [] with opt.st := .ident };
    let z : Nat := 6;
    mtrOn s = true ∧ z ≤ 6 ∧ s.opt.st = .ident ∧ s.opt.acked = false) = true := by decide +kernel

theorem test_meets_OpticalCommands_5 : decide (
    let s : State := { wMeter [] with opt.st := .ident };
    let ch : Bytes := [0x06, 0x32, 0x37, 0x32, 0x0D, 0x0A];
    mtrOn s = true ∧ s.opt.st = .ident ∧ s.opt.acked = false ∧ ((∀ z ∈ List.range 7, ch ≠ [0x06, 0x32, BitVec.ofNat 8 (0x30 + z), 0x32, 0x0D, 0x0A]))) = true := by decide +kernel

theorem test_meets_OpticalCommands_6 : decide (
    let s : State := wMeter [];
    let ch : Bytes := [];
    mtrOn s = true ∧ (s.opt.st ≠ .ident ∨ s.opt.acked = true)) = true := by decide +kernel

theorem test_meets_OpticalCommands_7 : decide (
    let s : State := { wMeter [] with opt.st := .ident };
    let ms : Nat := 1501;
    mtrOn s = true ∧ s.opt.st = .ident ∧ ((s.opt.acked = false ∧ 1500 < ms) ∨ (s.opt.acked = true ∧ 2000 ≤ ms))) = true := by decide +kernel

theorem test_meets_OpticalCommands_7_b : decide (
    let s : State := { wMeter [] with opt.st := .ident, opt.acked := true };
    let ms : Nat := 2000;
    mtrOn s = true ∧ s.opt.st = .ident ∧ ((s.opt.acked = false ∧ 1500 < ms) ∨ (s.opt.acked = true ∧ 2000 ≤ ms))) = true := by decide +kernel

theorem test_meets_OpticalCommands_8 : decide (
    let s : State := { wMeter [] with opt.st := .ident };
    let ms : Nat := 1500;
    mtrOn s = true ∧ (s.opt.st ≠ .ident ∨ (s.opt.acked = false ∧ ms ≤ 1500) ∨ (s.opt.acked = true ∧ ms < 2000))) = true := by decide +kernel

theorem test_meets_OpticalCommands_9 : decide (
    let s : State := { wMeter [] with opt.st := .hdlc };
    let f : HdlcRx := ⟨false, 1, 0x11, 0x10, 4, .disc⟩;
    mtrOn s = true ∧ f.ok = false) = true := by decide +kernel

theorem test_meets_OpticalCommands_10 : decide (
    let s : State := { wMeter [] with opt.st := .hdlc };
    let f : HdlcRx := ⟨true, 1, 0x11, 0x11, 4, .disc⟩;
    mtrOn s = true ∧ f.ok = true ∧ (f.upper ≠ 0x01 ∨ f.lower ≠ 0x11 ∨ f.client ≠ 0x10)) = true := by decide +kernel

theorem test_meets_OpticalCommands_11 : decide (
    let s : State := { wMeter [] with opt.st := .hdlc };
    let n : Nat := 129;
    let k : HdlcKind := .disc;
    mtrOn s = true ∧ 128 < n ∧ rget s F.OPT_LENERR_COUNT < 65535) = true := by decide +kernel

theorem test_meets_OpticalCommands_12 : decide (
    let s : State := { wMeter [] with opt.st := .ident, opt.acked := true };
    let n : Nat := 128;
    mtrOn s = true ∧ n ≤ 128 ∧ s.opt.st = .ident ∧ s.opt.acked = true) = true := by decide +kernel

theorem test_meets_OpticalCommands_13 : decide (
    let s : State := { wMeter [] with opt.st := .hdlc, opt.acked := true };
    let n : Nat := 128;
    let a : Aarq := ⟨true, false, false, 2000⟩;
    mtrOn s = true ∧ n ≤ 128 ∧ s.opt.st = .hdlc) = true := by decide +kernel

theorem test_meets_OpticalCommands_13_b : decide (
    let s : State := { wMeter [] with opt.st := .hdlc, opt.acked := true };
    let n : Nat := 128;
    let a : Aarq := ⟨true, true, false, 0⟩;
    mtrOn s = true ∧ n ≤ 128 ∧ s.opt.st = .hdlc) = true := by decide +kernel

theorem test_meets_OpticalCommands_14 : decide (
    let s : State := { wMeter [] with opt.st := .assoc, opt.acked := true };
    let n : Nat := 0;
    mtrOn s = true ∧ n ≤ 128 ∧ (s.opt.st = .hdlc ∨ s.opt.st = .assoc)) = true := by decide +kernel

theorem test_meets_OpticalCommands_15 : decide (
    let s : State := { wMeter [] with opt.st := .assoc, opt.acked := true };
    let n : Nat := 0;
    let k : HdlcKind := .rlrq;
    mtrOn s = true ∧ n ≤ 128 ∧ s.opt.st = .assoc ∧ (k = .rlrq ∨ k = .snrm)) = true := by decide +kernel

theorem test_meets_OpticalCommands_16 : decide (
    let s : State := { wMeter [] with opt.st := .assoc, opt.seg := List.replicate 129 7 };
    let n : Nat := 0;
    mtrOn s = true ∧ n ≤ 128 ∧ s.opt.st = .assoc ∧ s.opt.seg ≠ []) = true := by decide +kernel

theorem test_meets_OpticalCommands_17 : decide (
    let s : State := { wMeter [] with opt.st := .assoc, opt.blk := List.replicate 1025 7, opt.pdu := 1024 };
    let n : Nat := 0;
    mtrOn s = true ∧ n ≤ 128 ∧ s.opt.st = .assoc ∧ s.opt.seg = [] ∧ s.opt.blk ≠ []) = true := by decide +kernel

theorem test_meets_OpticalCommands_18 : decide (
    let s : State := { wMeter [] with opt.st := .hdlc, opt.acked := true, opt.lastAt := 1000, tmp.now := 2401000 };
    mtrOn s = true ∧ (s.opt.st = .hdlc ∨ s.opt.st = .assoc) ∧ 2400000 ≤ sinceT s s.opt.lastAt) = true := by decide +kernel

theorem test_meets_OpticalCommands_18_b : decide (
    let s : State := { wMeter [] with opt.st := .assoc, opt.acked := true, opt.lastAt := 1000, tmp.now := 2401000 };
    mtrOn s = true ∧ (s.opt.st = .hdlc ∨ s.opt.st = .assoc) ∧ 2400000 ≤ sinceT s s.opt.lastAt) = true := by decide +kernel

theorem test_meets_OpticalCommands_19 : decide (
    let s : State := { wMeter [] with opt.st := .assoc, opt.lastAt := 1000, tmp.now := 2400999 };
    mtrOn s = true ∧ ((s.opt.st ≠ .hdlc ∧ s.opt.st ≠ .assoc) ∨ sinceT s s.opt.lastAt < 2400000)) = true := by decide +kernel

theorem test_meets_OpticalCommands_20 : decide (
    let s : State := { wMeter [] with opt.st := .assoc, bil.dyn.tariff := 5, opt.pdu := 1024 };
    let cls : Nat := 1;
    let obis : List Nat := [0, 0, 96, 14, 0, 255];
    let sel : Option (Nat × Nat) := none;
    mtrOn s = true ∧ s.opt.st = .assoc) = true := by decide +kernel

theorem test_meets_OpticalCommands_20_b : decide (
    let s : State := { wMeter [] with opt.st := .assoc, bil.dyn.tariff := 5, opt.pdu := 1024 };
    let cls : Nat := 3;
    let obis : List Nat := [0, 0, 96, 14, 0, 255];
    let sel : Option (Nat × Nat) := none;
    mtrOn s = true ∧ s.opt.st = .assoc) = true := by decide +kernel

theorem test_meets_OpticalCommands_21 : decide (
    let s : State := { wMeter [] with opt.st := .assoc, bil.dyn.tariff := 5, opt.pdu := 1024 };
    let b : Fin 8 := 7;
    mtrOn s = true ∧ s.opt.st = .assoc ∧ 8 ≤ s.opt.pdu) = true := by decide +kernel

theorem test_meets_OpticalCommands_22 : decide (
    let s : State := { wMeter [] with opt.st := .assoc, bil.dyn.tariff := 5, opt.pdu := 1024 };
    let obis : List Nat := [0];
    mtrOn s = true ∧ s.opt.st = .assoc ∧ obis ≠ []) = true := by decide +kernel

theorem test_meets_OpticalCommands_23 : decide (
    let s : State := { wMeter [] with opt.st := .assoc, bil.dyn.tariff := 5, opt.pdu := 1024 };
    mtrOn s = true ∧ s.opt.st = .assoc) = true := by decide +kernel

theorem test_meets_OpticalCommands_24 : decide (
    let s : State := { wMeter [] with opt.st := .assoc, bil.dyn.tariff := 5, opt.pdu := 1024 };
    let obis : List Nat := [0, 0, 10, 128, 0, 255];
    let k : Nat := 2;
    mtrOn s = true ∧ s.opt.st = .assoc ∧ (obis ≠ [0, 0, 10, 128, 0, 255] ∨ k ≠ 1)) = true := by decide +kernel

theorem test_meets_OpticalCommands_25 : decide (
    let s : State := { wMeter [] with opt.st := .hdlc };
    let obis : List Nat := [];
    let k : Nat := 1;
    let cls : Nat := 1;
    let sel : Option (Nat × Nat) := none;
    mtrOn s = true ∧ s.opt.st ≠ .assoc) = true := by decide +kernel

theorem test_meets_DisplayCommands_1 : decide (
    let s : State := { wRun [(9, wBytes 16 [(6, 23)])] with fz.si := 2 ^ 23 };
    let ms : Nat := 1000;
    mtrOn s = true ∧ sec s 9 ≠ [] ∧ dSvcBtn s < 24 ∧ 1000 ≤ ms ∧ s.fz.si.testBit (dSvcBtn s) = true) = true := by decide +kernel

theorem test_meets_DisplayCommands_2 : decide (
    let s : State := { wRun [(9, wBytes 16 [(6, 23)])] with fz.si := 2 ^ 23 };
    let ms : Nat := 999;
    (mtrOn s = false ∨ sec s 9 = [] ∨ 24 ≤ dSvcBtn s ∨ ms < 1000 ∨ s.fz.si.testBit (dSvcBtn s) = false)) = true := by decide +kernel

theorem test_meets_DisplayCommands_3 : decide (
    let s : State := { wRun [] with bil.chk := some (1, 1000), tmp.now := 201000 };
    let u : Nat := 1000;
    let k : Nat := 1;
    s.bil.chk = some (k, u)) = true := by decide +kernel

theorem test_meets_DisplayCommands_3_b : decide (
    let s : State := { wRun [] with bil.chk := some (2, 1000), tmp.now := 201000 };
    let u : Nat := 1000;
    let k : Nat := 2;
    s.bil.chk = some (k, u)) = true := by decide +kernel

theorem test_meets_DisplayCommands_3_c : decide (
    let s : State := { wRun [] with bil.chk := some (2, 1000), tmp.now := 200999 };
    let u : Nat := 1000;
    let k : Nat := 2;
    s.bil.chk = some (k, u)) = true := by decide +kernel

theorem test_meets_DisplayCommands_4 : decide (
    let s : State := wRun [];
    s.bil.chk = none) = true := by decide +kernel

theorem test_meets_DisplayCommands_5 : decide (
    let s : State := { wRun [(9, wBytes 16 [(5, 5)])] with bil.shown := 1, bil.shownAt := 1000, tmp.now := 101000 };
    mtrOn s = true ∧ 100000 ≤ sinceT s s.bil.shownAt ∧ legalOutlets s ≠ []) = true := by decide +kernel

theorem test_meets_DisplayCommands_6 : decide (
    let s : State := { wRun [(9, wBytes 16 [(5, 0)])] with bil.shown := 1, bil.shownAt := 1000, tmp.now := 101000 };
    mtrOn s = true ∧ 100000 ≤ sinceT s s.bil.shownAt ∧ legalOutlets s = []) = true := by decide +kernel

theorem test_meets_DisplayCommands_7 : decide (
    let s : State := { wRun [(9, wBytes 16 [(5, 5)])] with bil.shown := 1, bil.shownAt := 1000, tmp.now := 100999 };
    (mtrOn s = false ∨ sinceT s s.bil.shownAt < 100000)) = true := by decide +kernel

theorem test_meets_DisplayCommands_8 : decide (
    let s : State := wRun [(9, wBytes 64 [(0x10, 3)])];
    let k : Fin 16 := 0;
    let v : Word := 0xFFFFFFFF;
    let m := segReg (dLmask s) k;
    let w := if k.val % 2 = 0 then v.toNat else v.toNat % 65536;
    lcdOn s = true) = true := by decide +kernel

theorem test_meets_DisplayCommands_8_b : decide (
    let s : State := wRun [];
    let k : Fin 16 := 15;
    let v : Word := 0xFFFFFFFF;
    let m := segReg (dLmask s) k;
    let w := if k.val % 2 = 0 then v.toNat else v.toNat % 65536;
    lcdOn s = true) = true := by decide +kernel

theorem test_meets_DisplayCommands_9 : decide (
    let s : State := wRun [];
    lcdOn s = true) = true := by decide +kernel

theorem test_meets_DisplayCommands_10 : decide (
    let s : State := rput F.LCD_STATUS_PUMPOK 1 (wRun []);
    lcdOn s = true) = true := by decide +kernel

theorem test_meets_DisplayCommands_11 : decide (
    let s : State := wRun [];
    let ohm : Nat := 20001;
    lcdOn s = true ∧ s.pwr.sys ≠ .s3 ∧ s.pwr.sys ≠ .s4 ∧ ((∀ k ∈ s.lcd.crackAt.toList, k + 5000 ≤ s.tmp.now))) = true := by decide +kernel

theorem test_meets_DisplayCommands_11_b : decide (
    let s : State := wRun [];
    let ohm : Nat := 100001;
    lcdOn s = true ∧ s.pwr.sys ≠ .s3 ∧ s.pwr.sys ≠ .s4 ∧ ((∀ k ∈ s.lcd.crackAt.toList, k + 5000 ≤ s.tmp.now))) = true := by decide +kernel

theorem test_meets_DisplayCommands_11_c : decide (
    let s : State := wRun [];
    let ohm : Nat := 20000;
    lcdOn s = true ∧ s.pwr.sys ≠ .s3 ∧ s.pwr.sys ≠ .s4 ∧ ((∀ k ∈ s.lcd.crackAt.toList, k + 5000 ≤ s.tmp.now))) = true := by decide +kernel

theorem test_meets_DisplayCommands_12 : decide (
    let s : State := { wRun [] with pwr.sys := .s3 };
    let ohm : Nat := 20001;
    (lcdOn s = false ∨ s.pwr.sys = .s3 ∨ s.pwr.sys = .s4 ∨ (∃ k ∈ s.lcd.crackAt.toList, s.tmp.now < k + 5000))) = true := by decide +kernel

theorem test_meets_DisplayCommands_13 : decide (
    let s : State := { wRun [] with pwr.fieldOn := false };
    let k : Fin 16 := 0;
    let v : Word := 1;
    lcdOn s = false) = true := by decide +kernel

theorem test_meets_DisplayCommands_14 : decide (
    let s : State := { wRun [] with pwr.fieldOn := false };
    let b : Bool := true;
    lcdOn s = false) = true := by decide +kernel

theorem test_meets_SlacAndMessageTimers_1 : decide (
    let s : State := wSlac (fun v => {v with slac := .waitParm, init := some 5});
    let p : Fin 4 := 0;
    let run : Bytes := [1,2,3,4,5,6,7,8];
    let mac : Bytes := [1,2,3,4,5,6];
    hpOn s p = true ∧ (vport s p).slac = .waitParm) = true := by decide +kernel

theorem test_meets_SlacAndMessageTimers_2 : decide (
    let s : State := wSlac (fun v => {v with slac := .sounding, win := some 5});
    let p : Fin 4 := 0;
    let run : Bytes := [1,2,3,4,5,6,7,8];
    let mac : Bytes := [1,2,3,4,5,6];
    hpOn s p = true ∧ (vport s p).slac ∈ [SlacSt.waitStart, .sounding, .waitMatch] ∧ ownRun s p run = false) = true := by decide +kernel

theorem test_meets_SlacAndMessageTimers_3 : decide (
    let s : State := wSlac (fun v => {v with slac := .waitMatch, runId := [1,2,3,4,5,6,7,8], seqT := some 3});
    let p : Fin 4 := 0;
    let run : Bytes := [1,2,3,4,5,6,7,8];
    let mac : Bytes := [1,2,3,4,5,6];
    hpOn s p = true ∧ (vport s p).slac ∈ [SlacSt.waitStart, .waitMatch] ∧ ownRun s p run = true) = true := by decide +kernel

theorem test_meets_SlacAndMessageTimers_4 : decide (
    let s : State := wSlac (fun v => {v with slac := .joined});
    let p : Fin 4 := 0;
    let run : Bytes := [1,2,3,4,5,6,7,8];
    let mac : Bytes := [1,2,3,4,5,6];
    (hpOn s p = false ∨ (vport s p).slac ∈ [SlacSt.off, .waitJoin, .joined, .failed])) = true := by decide +kernel

theorem test_meets_SlacAndMessageTimers_4_b : decide (
    let s : State := wPost 1 [];
    let p : Fin 4 := 0;
    let run : Bytes := [1,2,3,4,5,6,7,8];
    let mac : Bytes := [1,2,3,4,5,6];
    (hpOn s p = false ∨ (vport s p).slac ∈ [SlacSt.off, .waitJoin, .joined, .failed])) = true := by decide +kernel

theorem test_meets_SlacAndMessageTimers_5 : decide (
    let s : State := wSlac (fun v => {v with slac := .waitStart, runId := [1,2,3,4,5,6,7,8]});
    let p : Fin 4 := 0;
    let run : Bytes := [1,2,3,4,5,6,7,8];
    let mac : Bytes := [1,2,3,4,5,6];
    hpOn s p = true ∧ ownRun s p run = true ∧ (vport s p).slac = .waitStart) = true := by decide +kernel

theorem test_meets_SlacAndMessageTimers_6 : decide (
    let s : State := wSlac (fun v => {v with slac := .waitMatch, runId := [1,2,3,4,5,6,7,8]});
    let p : Fin 4 := 0;
    let run : Bytes := [1,2,3,4,5,6,7,8];
    let mac : Bytes := [1,2,3,4,5,6];
    hpOn s p = true ∧ ownRun s p run = true ∧ (vport s p).slac = .waitMatch) = true := by decide +kernel

theorem test_meets_SlacAndMessageTimers_7 : decide (
    let s : State := wSlac (fun v => {v with slac := .sounding, win := some 3, nsound := 2, att := [7], runId := [1,2,3,4,5,6,7,8]});
    let p : Fin 4 := 0;
    let run : Bytes := [1,2,3,4,5,6,7,8];
    let mac : Bytes := [1,2,3,4,5,6];
    hpOn s p = true ∧ ownRun s p run = true ∧ (vport s p).slac = .sounding) = true := by decide +kernel

theorem test_meets_SlacAndMessageTimers_8 : decide (
    let s : State := wSlac (fun v => {v with slac := .waitStart});
    let p : Fin 4 := 0;
    let run : Bytes := [1,2,3,4,5,6,7,8];
    let mac : Bytes := [1,2,3,4,5,6];
    (hpOn s p = false ∨ ownRun s p run = false)) = true := by decide +kernel

theorem test_meets_SlacAndMessageTimers_9 : decide (
    let s : State := wSlac (fun v => {v with slac := .sounding, runId := [1,2,3,4,5,6,7,8], nsound := 254});
    let p : Fin 4 := 0;
    let run : Bytes := [1,2,3,4,5,6,7,8];
    let mac : Bytes := [1,2,3,4,5,6];
    let att : List Nat := [7];
    hpOn s p = true ∧ ownRun s p run = true ∧ (vport s p).slac = .sounding) = true := by decide +kernel

theorem test_meets_SlacAndMessageTimers_9_b : decide (
    let s : State := wSlac (fun v => {v with slac := .sounding, runId := [1,2,3,4,5,6,7,8], nsound := 255});
    let p : Fin 4 := 0;
    let run : Bytes := [1,2,3,4,5,6,7,8];
    let mac : Bytes := [1,2,3,4,5,6];
    let att : List Nat := [7];
    hpOn s p = true ∧ ownRun s p run = true ∧ (vport s p).slac = .sounding) = true := by decide +kernel

theorem test_meets_SlacAndMessageTimers_10 : decide (
    let s : State := (fun s : State => { s with veh.v := Tab.upd s.veh.v 1 (fun v => {v with slac := .sounding, runId := [1,2,3,4,5,6,7,8]}) }) (wSlac (fun v => {v with slac := .waitParm}));
    let p : Fin 4 := 0;
    let run : Bytes := [1,2,3,4,5,6,7,8];
    let mac : Bytes := [1,2,3,4,5,6];
    let att : List Nat := [7];
    let q : Fin 4 := 1;
    hpOn s p = true ∧ ((vport s p).slac = .off ∨ (vport s p).slac = .waitParm) ∧ q ≠ p ∧ (vport s q).slac = .sounding ∧ ownRun s q run = true) = true := by decide +kernel

theorem test_meets_SlacAndMessageTimers_11 : decide (
    let s : State := wSlac (fun v => {v with slac := .sounding});
    let p : Fin 4 := 0;
    let run : Bytes := [1,2,3,4,5,6,7,8];
    let mac : Bytes := [1,2,3,4,5,6];
    let att : List Nat := [7];
    (hpOn s p = false ∨ (vport s p).slac = .sounding ∧ ownRun s p run = false ∨ (vport s p).slac ∈ [SlacSt.waitStart, .waitMatch, .waitJoin, .joined, .failed])) = true := by decide +kernel

theorem test_meets_SlacAndMessageTimers_12 : decide (
    let s : State := { wSlac (fun v => {v with slac := .sounding, runId := [1,2,3,4,5,6,7,8], nsound := 10, att := [15], win := some 0}) with tmp.now := 50000 };
    let p : Fin 4 := 0;
    let run : Bytes := [1,2,3,4,5,6,7,8];
    let mac : Bytes := [1,2,3,4,5,6];
    let u : Nat := 0;
    (vport s p).slac = .sounding ∧ (vport s p).win = some u ∧ u + mnbc s p ≤ s.tmp.now ∧ (vport s p).nsound < 256) = true := by decide +kernel

theorem test_meets_SlacAndMessageTimers_12_b : decide (
    let s : State := { wSlac (fun v => {v with slac := .sounding, runId := [1,2,3,4,5,6,7,8], nsound := 0, win := some 0}) with tmp.now := 50000 };
    let p : Fin 4 := 0;
    let run : Bytes := [1,2,3,4,5,6,7,8];
    let mac : Bytes := [1,2,3,4,5,6];
    let u : Nat := 0;
    (vport s p).slac = .sounding ∧ (vport s p).win = some u ∧ u + mnbc s p ≤ s.tmp.now ∧ (vport s p).nsound < 256) = true := by decide +kernel

theorem test_meets_SlacAndMessageTimers_13 : decide (
    let s : State := wSlac (fun v => {v with slac := .sounding, win := some 1000});
    let p : Fin 4 := 0;
    let run : Bytes := [1,2,3,4,5,6,7,8];
    let mac : Bytes := [1,2,3,4,5,6];
    ((vport s p).slac ≠ .sounding ∨ (vport s p).win = none ∨ (∀ u ∈ (vport s p).win.toList, s.tmp.now < u + mnbc s p))) = true := by decide +kernel

theorem test_meets_SlacAndMessageTimers_14 : decide (
    let s : State := wSlac (fun v => {v with slac := .waitMatch, runId := [1,2,3,4,5,6,7,8]});
    let p : Fin 4 := 0;
    let run : Bytes := [1,2,3,4,5,6,7,8];
    let mac : Bytes := [1,2,3,4,5,6];
    hpOn s p = true ∧ ownRun s p run = true ∧ (vport s p).slac = .waitMatch) = true := by decide +kernel

theorem test_meets_SlacAndMessageTimers_15 : decide (
    let s : State := wSlac (fun v => {v with slac := .waitMatch});
    let p : Fin 4 := 0;
    let run : Bytes := [1,2,3,4,5,6,7,8];
    let mac : Bytes := [1,2,3,4,5,6];
    (hpOn s p = false ∨ ownRun s p run = false ∨ (vport s p).slac ≠ .waitMatch)) = true := by decide +kernel

theorem test_meets_SlacAndMessageTimers_16 : decide (
    let s : State := wSlac (fun v => {v with slac := .waitJoin, runId := [1,2,3,4,5,6,7,8], resp := some 3});
    let p : Fin 4 := 0;
    let run : Bytes := [1,2,3,4,5,6,7,8];
    let mac : Bytes := [1,2,3,4,5,6];
    hpOn s p = true ∧ ownRun s p run = true ∧ (vport s p).slac ∈ [SlacSt.waitStart, .sounding, .waitMatch, .waitJoin, .joined]) = true := by decide +kernel

theorem test_meets_SlacAndMessageTimers_17 : decide (
    let s : State := wSlac (fun v => {v with slac := .failed, runId := [1,2,3,4,5,6,7,8], resp := some 3});
    let p : Fin 4 := 0;
    let run : Bytes := [1,2,3,4,5,6,7,8];
    let mac : Bytes := [1,2,3,4,5,6];
    (hpOn s p = false ∨ ownRun s p run = false ∨ (vport s p).slac ∈ [SlacSt.off, .waitParm, .failed])) = true := by decide +kernel

theorem test_meets_SlacAndMessageTimers_18 : decide (
    let s : State := wSlac (fun v => {v with slac := .waitJoin, join := some 1});
    let p : Fin 4 := 0;
    let run : Bytes := [1,2,3,4,5,6,7,8];
    let mac : Bytes := [1,2,3,4,5,6];
    (vport s p).slac = .waitJoin) = true := by decide +kernel

theorem test_meets_SlacAndMessageTimers_19 : decide (
    let s : State := wSlac (fun v => {v with slac := .failed, join := some 1});
    let p : Fin 4 := 0;
    let run : Bytes := [1,2,3,4,5,6,7,8];
    let mac : Bytes := [1,2,3,4,5,6];
    (vport s p).slac ≠ .waitJoin) = true := by decide +kernel

theorem test_meets_SlacAndMessageTimers_20 : decide (
    let s : State := wSlac (fun v => {v with slac := .joined});
    let p : Fin 4 := 0;
    let run : Bytes := [1,2,3,4,5,6,7,8];
    let mac : Bytes := [1,2,3,4,5,6];
    (vport s p).slac = .joined) = true := by decide +kernel

theorem test_meets_SlacAndMessageTimers_21 : decide (
    let s : State := wSlac (fun v => {v with slac := .failed});
    let p : Fin 4 := 0;
    let run : Bytes := [1,2,3,4,5,6,7,8];
    let mac : Bytes := [1,2,3,4,5,6];
    (vport s p).slac ≠ .joined) = true := by decide +kernel

theorem test_meets_SlacAndMessageTimers_22 : decide (
    let s : State := { wSlac (fun v => {v with slac := .waitJoin, join := some 1}) with tmp.now := 10000000 };
    let p : Fin 4 := 0;
    let run : Bytes := [1,2,3,4,5,6,7,8];
    let mac : Bytes := [1,2,3,4,5,6];
    let k : SlacTimer := .join;
    let u : Nat := 1;
    (vport s p).slac ≠ .off ∧ slacTimer (vport s p) k = some u ∧ u + slacLimit s p k ≤ s.tmp.now) = true := by decide +kernel

theorem test_meets_SlacAndMessageTimers_23 : decide (
    let s : State := wSlac (fun v => {v with slac := .waitJoin, join := some 1});
    let p : Fin 4 := 0;
    let run : Bytes := [1,2,3,4,5,6,7,8];
    let mac : Bytes := [1,2,3,4,5,6];
    let k : SlacTimer := .join;
    ((vport s p).slac = .off ∨ (∀ u ∈ (slacTimer (vport s p) k).toList, s.tmp.now < u + slacLimit s p k))) = true := by decide +kernel

theorem test_meets_SlacAndMessageTimers_24 : decide (
    let s : State := wSlac (fun v => {v with slac := .failed, join := some 1});
    let p : Fin 4 := 0;
    let run : Bytes := [1,2,3,4,5,6,7,8];
    let mac : Bytes := [1,2,3,4,5,6];
    (vport s p).slac ≠ .off) = true := by decide +kernel

theorem test_meets_SlacAndMessageTimers_25 : decide (
    let s : State := wSlac (fun v => v);
    let p : Fin 4 := 0;
    let run : Bytes := [1,2,3,4,5,6,7,8];
    let mac : Bytes := [1,2,3,4,5,6];
    (vport s p).slac = .off) = true := by decide +kernel

theorem test_meets_SlacAndMessageTimers_27 : decide (
    let s : State := wSlac (fun v => v);
    let p : Fin 4 := 0;
    let run : Bytes := [1,2,3,4,5,6,7,8];
    let mac : Bytes := [1,2,3,4,5,6];
    vIn s p [.plugged, .authWait, .negotiate, .cableCheck, .precharge, .energy, .rampDown, .weldCheck] = false) = true := by decide +kernel

theorem test_meets_SlacAndMessageTimers_28 : decide (
    let s : State := (fun s => { s with outsF := Tab.upd s.outsF 0 (fun o => {o with st := .energy}) }) (wSlac (fun v => v));
    let p : Fin 4 := 0;
    let run : Bytes := [1,2,3,4,5,6,7,8];
    let mac : Bytes := [1,2,3,4,5,6];
    vIn s p [.plugged, .authWait, .negotiate, .cableCheck, .precharge, .energy, .rampDown, .weldCheck] = true) = true := by decide +kernel

theorem test_meets_SlacAndMessageTimers_30 : decide (
    let s : State := (fun s => { s with outsF := Tab.upd s.outsF 0 (fun o => {o with st := .energy}) }) (rput (F.VEH_MTIM0_ACT 0) 1 (wSlac (fun v => {v with mt := Tab.upd v.mt 0 (fun _ => some 49)})));
    let p : Fin 4 := 0;
    let run : Bytes := [1,2,3,4,5,6,7,8];
    let mac : Bytes := [1,2,3,4,5,6];
    let k : Fin 2 := 0;
    let m : Nat := 49;
    Tab.get none (vport s p).mt k = some m ∧ m + max 1 (mtimPreset s p k) ≤ s.tmp.chain / 1000000) = true := by decide +kernel

theorem test_meets_SlacAndMessageTimers_30_b : decide (
    let s : State := wSlac (fun v => {v with mt := Tab.upd v.mt 1 (fun _ => some 49)});
    let p : Fin 4 := 0;
    let run : Bytes := [1,2,3,4,5,6,7,8];
    let mac : Bytes := [1,2,3,4,5,6];
    let k : Fin 2 := 1;
    let m : Nat := 49;
    Tab.get none (vport s p).mt k = some m ∧ m + max 1 (mtimPreset s p k) ≤ s.tmp.chain / 1000000) = true := by decide +kernel

theorem test_meets_SlacAndMessageTimers_31 : decide (
    let s : State := wSlac (fun v => {v with mt := Tab.upd v.mt 1 (fun _ => some 50)});
    let p : Fin 4 := 0;
    let run : Bytes := [1,2,3,4,5,6,7,8];
    let mac : Bytes := [1,2,3,4,5,6];
    let k : Fin 2 := 1;
    ((∀ m ∈ (Tab.get none (vport s p).mt k).toList, s.tmp.chain / 1000000 < m + max 1 (mtimPreset s p k)))) = true := by decide +kernel

theorem test_meets_VehicleFrames_1 : decide (
    let s : State := wRing (Mem.write 0 [] 0x9E8000000 ([0, 0x10, 0, 0xE8, 9, 0, 0, 0] ++ [14, 0, 3, 0x80]));
    let p : Fin 7 := 0;
    let a : Nat := 0x9E8000000;
    let n : Nat := 16;
    let ns : Nat := 5;
    let own : Bool := false;
    let coll : Nat := 0;
    let da := a + 16 * (txIdx s p % n);
    let d := memRead s da 16;
    p.val < 6 ∧ ethOn s p = true ∧ txRing s p = some (a, n) ∧ (u16 d 0xA).testBit 15 = true ∧ 14 ≤ u16 d 8 ∧ u16 d 8 ≤ 1514 ∧ vehBuf (u64 d 0) (u16 d 8) = true) = true := by decide +kernel

theorem test_meets_VehicleFrames_1_b : decide (
    let s : State := (rput (F.VEH_T1CFG_EN 0) 1 (rput (F.VEH_TXR_BASE_BASE 4) 0x9E800000 (rput (F.VEH_TXR_CTL_EN 4) 1 (wRing (Mem.write 0 [] 0x9E8000000 ([0, 0x10, 0, 0xE8, 9, 0, 0, 0] ++ [14, 0, 0, 0x80]))))));
    let p : Fin 7 := 4;
    let a : Nat := 0x9E8000000;
    let n : Nat := 16;
    let ns : Nat := 5;
    let own : Bool := false;
    let coll : Nat := 0;
    let da := a + 16 * (txIdx s p % n);
    let d := memRead s da 16;
    p.val < 6 ∧ ethOn s p = true ∧ txRing s p = some (a, n) ∧ (u16 d 0xA).testBit 15 = true ∧ 14 ≤ u16 d 8 ∧ u16 d 8 ≤ 1514 ∧ vehBuf (u64 d 0) (u16 d 8) = true) = true := by decide +kernel

theorem test_meets_VehicleFrames_2 : decide (
    let s : State := wRing (Mem.write 0 [] 0x9E8000000 ([0, 0x10, 0, 0xE8, 9, 0, 0, 0] ++ [0, 0, 0, 0x80]));
    let p : Fin 7 := 0;
    let a : Nat := 0x9E8000000;
    let n : Nat := 16;
    let ns : Nat := 5;
    let own : Bool := false;
    let coll : Nat := 0;
    let da := a + 16 * (txIdx s p % n);
    let d := memRead s da 16;
    p.val < 6 ∧ ethOn s p = true ∧ txRing s p = some (a, n) ∧ (u16 d 0xA).testBit 15 = true ∧ u16 d 8 = 0) = true := by decide +kernel

theorem test_meets_VehicleFrames_3 : decide (
    let s : State := wRing (Mem.write 0 [] 0x9E8000000 ([0, 0x10, 0, 0xE8, 9, 0, 0, 0] ++ [13, 0, 0, 0x80]));
    let p : Fin 7 := 0;
    let a : Nat := 0x9E8000000;
    let n : Nat := 16;
    let ns : Nat := 5;
    let own : Bool := false;
    let coll : Nat := 0;
    let da := a + 16 * (txIdx s p % n);
    let d := memRead s da 16;
    p.val < 6 ∧ ethOn s p = true ∧ txRing s p = some (a, n) ∧ (u16 d 0xA).testBit 15 = true ∧ u16 d 8 ≠ 0 ∧ (u16 d 8 < 14 ∨ 1514 < u16 d 8 ∨ vehBuf (u64 d 0) (u16 d 8) = false)) = true := by decide +kernel

theorem test_meets_VehicleFrames_3_b : decide (
    let s : State := rput F.VEH_LENERR_COUNT 65535 (wRing (Mem.write 0 [] 0x9E8000000 ([0, 0x10, 0, 0xE8, 9, 0, 0, 0] ++ [0xEB, 5, 0, 0x80])));
    let p : Fin 7 := 0;
    let a : Nat := 0x9E8000000;
    let n : Nat := 16;
    let ns : Nat := 5;
    let own : Bool := false;
    let coll : Nat := 0;
    let da := a + 16 * (txIdx s p % n);
    let d := memRead s da 16;
    p.val < 6 ∧ ethOn s p = true ∧ txRing s p = some (a, n) ∧ (u16 d 0xA).testBit 15 = true ∧ u16 d 8 ≠ 0 ∧ (u16 d 8 < 14 ∨ 1514 < u16 d 8 ∨ vehBuf (u64 d 0) (u16 d 8) = false)) = true := by decide +kernel

theorem test_meets_VehicleFrames_4 : decide (
    let s : State := wRing (Mem.write 0 [] 0x9E8000000 ([0, 0x10, 0, 0xE8, 9, 0, 0, 0] ++ [14, 0, 0, 0]));
    let p : Fin 7 := 0;
    let ns : Nat := 5;
    let own : Bool := false;
    let coll : Nat := 0;
    p.val < 6 ∧ (ethOn s p = false ∨ txRing s p = none ∨ (∀ r ∈ (txRing s p).toList, (u16 (memRead s (r.1 + 16 * (txIdx s p % r.2)) 16) 0xA).testBit 15 = false))) = true := by decide +kernel

theorem test_meets_VehicleFrames_4_b : decide (
    let s : State := wPost 1 [];
    let p : Fin 7 := 5;
    let ns : Nat := 5;
    let own : Bool := false;
    let coll : Nat := 0;
    p.val < 6 ∧ (ethOn s p = false ∨ txRing s p = none ∨ (∀ r ∈ (txRing s p).toList, (u16 (memRead s (r.1 + 16 * (txIdx s p % r.2)) 16) 0xA).testBit 15 = false))) = true := by decide +kernel

theorem test_meets_VehicleFrames_5 : decide (
    let s : State := { (wPost 1 [] |> rput F.NET_CFG_EN 4 |> rput F.NET_TXR_BASE_BASE 0x9E400000 |> rput F.NET_TXR_CTL_EN 1) with mem := Mem.write 0 [] 0x9E4000000 ([0, 0x10, 0, 0xE4, 9, 0, 0, 0] ++ [14, 0, 0, 0x80]) };
    let a : Nat := 0x9E4000000;
    let n : Nat := 16;
    let ns : Nat := 5;
    let own : Bool := false;
    let coll : Nat := 0;
    let da := a + 16 * (s.net.txIdx % n);
    let d := memRead s da 16;
    swOn s 2 = true ∧ netTxRing s = some (a, n) ∧ (u16 d 0xA).testBit 15 = true ∧ 14 ≤ u16 d 8 ∧ u16 d 8 ≤ 1514 ∧ netBuf (u64 d 0) (u16 d 8) = true) = true := by decide +kernel

theorem test_meets_VehicleFrames_6 : decide (
    let s : State := { (wPost 1 [] |> rput F.NET_CFG_EN 4 |> rput F.NET_TXR_BASE_BASE 0x9E400000 |> rput F.NET_TXR_CTL_EN 1) with mem := Mem.write 0 [] 0x9E4000000 ([0, 0x10, 0, 0xE4, 9, 0, 0, 0] ++ [0, 0, 0, 0x80]) };
    let a : Nat := 0x9E4000000;
    let n : Nat := 16;
    let ns : Nat := 5;
    let own : Bool := false;
    let coll : Nat := 0;
    let da := a + 16 * (s.net.txIdx % n);
    let d := memRead s da 16;
    swOn s 2 = true ∧ netTxRing s = some (a, n) ∧ (u16 d 0xA).testBit 15 = true ∧ u16 d 8 = 0) = true := by decide +kernel

theorem test_meets_VehicleFrames_7 : decide (
    let s : State := { (wPost 1 [] |> rput F.NET_CFG_EN 4 |> rput F.NET_TXR_BASE_BASE 0x9E400000 |> rput F.NET_TXR_CTL_EN 1) with mem := Mem.write 0 [] 0x9E4000000 ([0, 0x10, 0, 0xE4, 9, 0, 0, 0] ++ [0xEB, 5, 0, 0x80]) };
    let a : Nat := 0x9E4000000;
    let n : Nat := 16;
    let ns : Nat := 5;
    let own : Bool := false;
    let coll : Nat := 0;
    let da := a + 16 * (s.net.txIdx % n);
    let d := memRead s da 16;
    swOn s 2 = true ∧ netTxRing s = some (a, n) ∧ (u16 d 0xA).testBit 15 = true ∧ u16 d 8 ≠ 0 ∧ (u16 d 8 < 14 ∨ 1514 < u16 d 8 ∨ netBuf (u64 d 0) (u16 d 8) = false)) = true := by decide +kernel

theorem test_meets_VehicleFrames_7_b : decide (
    let s : State := { (wPost 1 [] |> rput F.NET_CFG_EN 4 |> rput F.NET_TXR_BASE_BASE 0x9E400000 |> rput F.NET_TXR_CTL_EN 1) with mem := Mem.write 0 [] 0x9E4000000 ([0, 0x10, 0, 0xE4, 9, 0, 0, 0] ++ [1, 0, 0, 0x80]) };
    let a : Nat := 0x9E4000000;
    let n : Nat := 16;
    let ns : Nat := 5;
    let own : Bool := false;
    let coll : Nat := 0;
    let da := a + 16 * (s.net.txIdx % n);
    let d := memRead s da 16;
    swOn s 2 = true ∧ netTxRing s = some (a, n) ∧ (u16 d 0xA).testBit 15 = true ∧ u16 d 8 ≠ 0 ∧ (u16 d 8 < 14 ∨ 1514 < u16 d 8 ∨ netBuf (u64 d 0) (u16 d 8) = false)) = true := by decide +kernel

theorem test_meets_VehicleFrames_8 : decide (
    let s : State := { (wPost 1 [] |> rput F.NET_CFG_EN 3 |> rput F.NET_TXR_BASE_BASE 0x9E400000 |> rput F.NET_TXR_CTL_EN 1) with mem := Mem.write 0 [] 0x9E4000000 ([0, 0x10, 0, 0xE4, 9, 0, 0, 0] ++ [14, 0, 0, 0x80]) };
    let ns : Nat := 5;
    let own : Bool := false;
    let coll : Nat := 0;
    (swOn s 2 = false ∨ netTxRing s = none ∨ (∀ r ∈ (netTxRing s).toList, (u16 (memRead s (r.1 + 16 * (s.net.txIdx % r.2)) 16) 0xA).testBit 15 = false))) = true := by decide +kernel

theorem test_meets_VehicleFrames_8_b : decide (
    let s : State := { (wPost 1 [] |> rput F.NET_CFG_EN 4 |> rput F.NET_TXR_BASE_BASE 0x9E400000 |> rput F.NET_TXR_CTL_EN 1) with mem := Mem.write 0 [] 0x9E4000000 ([0, 0x10, 0, 0xE4, 9, 0, 0, 0] ++ [14, 0, 0, 0]) };
    let ns : Nat := 5;
    let own : Bool := false;
    let coll : Nat := 0;
    (swOn s 2 = false ∨ netTxRing s = none ∨ (∀ r ∈ (netTxRing s).toList, (u16 (memRead s (r.1 + 16 * (s.net.txIdx % r.2)) 16) 0xA).testBit 15 = false))) = true := by decide +kernel

theorem test_meets_VehicleFrames_9 : decide (
    let s : State := wRing (Mem.write 0 [] 0x9E8000100 ([0, 0x10, 0, 0xE8, 9, 0, 0, 0] ++ [16, 0, 0, 0x80]));
    let p : Fin 6 := 0;
    let a : Nat := 0x9E8000100;
    let n : Nat := 16;
    let f : Bytes := [1, 2, 3, 4, 5, 6, 7, 8, 9, 10, 11, 12, 0x88, 0xE1, 1, 0x64];
    let ns : Nat := 5;
    let own : Bool := false;
    let coll : Nat := 0;
    let da := a + 16 * (rxIdx s p % n);
    let d := memRead s da 16;
    ethOn s p = true ∧ rxRing s p = some (a, n) ∧ portFifo s p = [] ∧ f.length ≤ 16384 ∧ (u16 d 0xA).testBit 15 = true ∧ f.length ≤ u16 d 8 ∧ vehBuf (u64 d 0) (u16 d 8) = true ∧ (u64 d 0 + u16 d 8 ≤ da ∨ da + 16 ≤ u64 d 0)) = true := by decide +kernel

theorem test_meets_VehicleFrames_9_b : decide (
    let s : State := (rput (F.VEH_T1CFG_EN 1) 1 (rput (F.VEH_RXR_BASE_BASE 5) 0x9E800010 (rput (F.VEH_RXR_CTL_EN 5) 1 (wRing (Mem.write 0 [] 0x9E8000100 ([0, 0x10, 0, 0xE8, 9, 0, 0, 0] ++ [16, 0, 0, 0x80]))))));
    let p : Fin 6 := 5;
    let a : Nat := 0x9E8000100;
    let n : Nat := 16;
    let f : Bytes := [1, 2, 3, 4, 5, 6, 7, 8, 9, 10, 11, 12, 0x88, 0xE1, 1, 0x64];
    let ns : Nat := 5;
    let own : Bool := false;
    let coll : Nat := 0;
    let da := a + 16 * (rxIdx s p % n);
    let d := memRead s da 16;
    ethOn s p = true ∧ rxRing s p = some (a, n) ∧ portFifo s p = [] ∧ f.length ≤ 16384 ∧ (u16 d 0xA).testBit 15 = true ∧ f.length ≤ u16 d 8 ∧ vehBuf (u64 d 0) (u16 d 8) = true ∧ (u64 d 0 + u16 d 8 ≤ da ∨ da + 16 ≤ u64 d 0)) = true := by decide +kernel

theorem test_meets_VehicleFrames_10 : decide (
    let s : State := rput (F.VEH_RXR_CTL_EN 0) 0 (wRing []);
    let p : Fin 6 := 0;
    let f : Bytes := List.replicate 16384 1;
    let ns : Nat := 5;
    let own : Bool := false;
    let coll : Nat := 0;
    ethOn s p = true ∧ fifoFits s p f.length = true ∧ (rxRing s p = none ∨ (∀ r ∈ (rxRing s p).toList, (u16 (memRead s (r.1 + 16 * (rxIdx s p % r.2)) 16) 0xA).testBit 15 = false))) = true := by decide +kernel

theorem test_meets_VehicleFrames_10_b : decide (
    let s : State := wRing [];
    let p : Fin 6 := 0;
    let f : Bytes := [1,2,3];
    let ns : Nat := 5;
    let own : Bool := false;
    let coll : Nat := 0;
    ethOn s p = true ∧ fifoFits s p f.length = true ∧ (rxRing s p = none ∨ (∀ r ∈ (rxRing s p).toList, (u16 (memRead s (r.1 + 16 * (rxIdx s p % r.2)) 16) 0xA).testBit 15 = false))) = true := by decide +kernel

theorem test_meets_VehicleFrames_11 : decide (
    let s : State := wRing (Mem.write 0 [] 0x9E8000100 ([0, 0x10, 0, 0xE8, 9, 0, 0, 0] ++ [15, 0, 0, 0x80]));
    let p : Fin 6 := 0;
    let a : Nat := 0x9E8000100;
    let n : Nat := 16;
    let f : Bytes := [1, 2, 3, 4, 5, 6, 7, 8, 9, 10, 11, 12, 0x88, 0xE1, 1, 0x64];
    let ns : Nat := 5;
    let own : Bool := false;
    let coll : Nat := 0;
    let d := memRead s (a + 16 * (rxIdx s p % n)) 16;
    ethOn s p = true ∧ rxRing s p = some (a, n) ∧ portFifo s p = [] ∧ f.length ≤ 16384 ∧ (u16 d 0xA).testBit 15 = true ∧ u16 d 8 < f.length) = true := by decide +kernel

theorem test_meets_VehicleFrames_12 : decide (
    let s : State := wRing (Mem.write 0 [] 0x9E8000100 ([0, 0x10, 0, 0xA8, 9, 0, 0, 0] ++ [16, 0, 0, 0x80]));
    let p : Fin 6 := 0;
    let a : Nat := 0x9E8000100;
    let n : Nat := 16;
    let f : Bytes := [1, 2, 3, 4, 5, 6, 7, 8, 9, 10, 11, 12, 0x88, 0xE1, 1, 0x64];
    let ns : Nat := 5;
    let own : Bool := false;
    let coll : Nat := 0;
    let d := memRead s (a + 16 * (rxIdx s p % n)) 16;
    ethOn s p = true ∧ rxRing s p = some (a, n) ∧ portFifo s p = [] ∧ f.length ≤ 16384 ∧ (u16 d 0xA).testBit 15 = true ∧ f.length ≤ u16 d 8 ∧ vehBuf (u64 d 0) (u16 d 8) = false) = true := by decide +kernel

theorem test_meets_VehicleFrames_13 : decide (
    let s : State := rput (F.VEH_RXDROP_COUNT 0) 65534 (rput (F.VEH_RXR_CTL_EN 0) 0 (wRing []));
    let p : Fin 6 := 0;
    let f : Bytes := List.replicate 16385 1;
    let ns : Nat := 5;
    let own : Bool := false;
    let coll : Nat := 0;
    ethOn s p = true ∧ fifoFits s p f.length = false) = true := by decide +kernel

theorem test_meets_VehicleFrames_14 : decide (
    let s : State := wPost 1 [];
    let p : Fin 6 := 3;
    let f : Bytes := [1];
    let ns : Nat := 5;
    let own : Bool := false;
    let coll : Nat := 0;
    ethOn s p = false) = true := by decide +kernel

theorem test_meets_VehicleFrames_15 : decide (
    let s : State := rput (F.VEH_T1CFG_EN 0) 1 { wPost 1 [] with tmp.now := 2000 };
    let m : Fin 2 := 0;
    let ns : Nat := 5;
    let own : Bool := false;
    let coll : Nat := 0;
    ethOn s (4 + m) = true ∧ (mport s m).heard + 200 * max 1 (rget s (F.VEH_T1CFG_LINKTO m)) ≤ s.tmp.now) = true := by decide +kernel

theorem test_meets_VehicleFrames_15_b : decide (
    let s : State := rput (F.VEH_T1CFG_EN 1) 1 { wPost 1 [] with tmp.now := 2000 };
    let m : Fin 2 := 1;
    let ns : Nat := 5;
    let own : Bool := false;
    let coll : Nat := 0;
    ethOn s (4 + m) = true ∧ (mport s m).heard + 200 * max 1 (rget s (F.VEH_T1CFG_LINKTO m)) ≤ s.tmp.now) = true := by decide +kernel

theorem test_meets_VehicleFrames_16 : decide (
    let s : State := rput (F.VEH_T1CFG_EN 1) 1 { wPost 1 [] with tmp.now := 199 };
    let m : Fin 2 := 1;
    let ns : Nat := 5;
    let own : Bool := false;
    let coll : Nat := 0;
    (ethOn s (4 + m) = false ∨ s.tmp.now < (mport s m).heard + 200 * max 1 (rget s (F.VEH_T1CFG_LINKTO m)))) = true := by decide +kernel

theorem test_meets_CanCommands_1 : decide (
    let s : State := wCan;
    let k : Fin 4 := 0;
    canRuns s k = true) = true := by decide +kernel

theorem test_meets_CanCommands_2 : decide (
    let s : State := rput (F.VEH_CANST_ERRST 0) 2 wCan;
    let k : Fin 4 := 0;
    canRuns s k = false) = true := by decide +kernel

theorem test_meets_CanCommands_3 : decide (
    let s : State := rput (F.VEH_CANST_ERRST 0) 2 (rput (F.VEH_CANCFG_AUTOREC 0) 1 wCan);
    let k : Fin 4 := 0;
    rget s (F.VEH_CANST_ERRST k) = 2 ∧ (rbit s (F.VEH_CANCFG_AUTOREC k) = true ∨ matrixCan s k = true)) = true := by decide +kernel

theorem test_meets_CanCommands_3_b : decide (
    let s : State := rput (F.VEH_CANST_ERRST 1) 2 (rput (F.VEH_CANCFG_AUTOREC 1) 0 (wLink 0 1 1));
    let k : Fin 4 := 1;
    rget s (F.VEH_CANST_ERRST k) = 2 ∧ (rbit s (F.VEH_CANCFG_AUTOREC k) = true ∨ matrixCan s k = true)) = true := by decide +kernel

theorem test_meets_CanCommands_4 : decide (
    let s : State := rput (F.VEH_CANST_ERRST 0) 2 (rput (F.VEH_CANCFG_AUTOREC 0) 0 wCan);
    let k : Fin 4 := 0;
    (rget s (F.VEH_CANST_ERRST k) ≠ 2 ∨ rbit s (F.VEH_CANCFG_AUTOREC k) = false ∧ matrixCan s k = false)) = true := by decide +kernel

theorem test_meets_CanCommands_5 : decide (
    let s : State := rput (canSlotF 0 3 8 31 1) 1 (rput (canSlotF 0 3 4 16 16) 1 wCan);
    let i : Fin 16 := 3;
    let k : Fin 4 := 0;
    canRuns s k = true ∧ rbit s (canSlotF k i 8 31 1) = true ∧ crossesAt s (1000000 * rget s (canSlotF k i 4 16 16)) (1000000 * rget s (canSlotF k i 4 0 16)) = true) = true := by decide +kernel

theorem test_meets_CanCommands_6 : decide (
    let s : State := rput (canSlotF 0 3 8 31 1) 0 (rput (canSlotF 0 3 8 31 1) 1 (rput (canSlotF 0 3 4 16 16) 1 wCan));
    let i : Fin 16 := 3;
    let k : Fin 4 := 0;
    (canRuns s k = false ∨ rbit s (canSlotF k i 8 31 1) = false ∨ crossesAt s (1000000 * rget s (canSlotF k i 4 16 16)) (1000000 * rget s (canSlotF k i 4 0 16)) = false)) = true := by decide +kernel

theorem test_meets_CanCommands_6_b : decide (
    let s : State := { rput (canSlotF 0 3 8 31 1) 1 (rput (canSlotF 0 3 4 16 16) 1 wCan) with tmp.chain := 50100000 };
    let i : Fin 16 := 3;
    let k : Fin 4 := 0;
    (canRuns s k = false ∨ rbit s (canSlotF k i 8 31 1) = false ∨ crossesAt s (1000000 * rget s (canSlotF k i 4 16 16)) (1000000 * rget s (canSlotF k i 4 0 16)) = false)) = true := by decide +kernel

theorem test_meets_CanCommands_7 : decide (
    let s : State := rput (canSlotF 0 3 0x10 0 32) 77 wCan;
    let i : Fin 16 := 3;
    let k : Fin 4 := 0;
    matrixCan s k = false) = true := by decide +kernel

theorem test_meets_CanCommands_8 : decide (
    let s : State := wCan;
    let hdr : Word := 5;
    let data : Bytes := [1, 2];
    let f : Nat := 0;
    let fs : List Nat := [];
    let k : Fin 4 := 0;
    canRuns s k = true ∧ (List.range 32).filter (canMatches s k hdr.toNat) = f :: fs ∧ (canCtl s k).rx.length < 64) = true := by decide +kernel

theorem test_meets_CanCommands_9 : decide (
    let s : State := { wCan with veh.can := Tab.upd wCan.veh.can 0 (fun c => { c with rx := List.replicate 64 ⟨0, [], 0, 0⟩ }) };
    let hdr : Word := 5;
    let data : Bytes := [1, 2];
    let f : Nat := 0;
    let fs : List Nat := [];
    let k : Fin 4 := 0;
    canRuns s k = true ∧ (List.range 32).filter (canMatches s k hdr.toNat) = f :: fs ∧ 64 ≤ (canCtl s k).rx.length) = true := by decide +kernel

theorem test_meets_CanCommands_10 : decide (
    let s : State := rput (canFiltF 0 0 0 31 1) 0 wCan;
    let hdr : Word := 5;
    let data : Bytes := [1, 2];
    let k : Fin 4 := 0;
    (canRuns s k = false ∨ (List.range 32).filter (canMatches s k hdr.toNat) = [])) = true := by decide +kernel

theorem test_meets_CanCommands_11 : decide (
    let s : State := wCan;
    let f : Fin 32 := 0;
    let k : Fin 4 := 0;
    canEn s k = true ∧ rbit s (canFiltF k f 0 31 1) = true ∧ rbit s (canFiltF k f 4 31 1) = true ∧ (rget s (F.VEH_CANRXTO_FILT k)).testBit f = false ∧ Tab.get 0 (canCtl s k).seen f + 20 * max 1 (rget s (canWdF k f)) ≤ s.tmp.now) = true := by decide +kernel

theorem test_meets_CanCommands_12 : decide (
    let s : State := wCan;
    let f : Fin 32 := 1;
    let k : Fin 4 := 0;
    (canEn s k = false ∨ rbit s (canFiltF k f 0 31 1) = false ∨ rbit s (canFiltF k f 4 31 1) = false ∨ (rget s (F.VEH_CANRXTO_FILT k)).testBit f = true ∨ s.tmp.now < Tab.get 0 (canCtl s k).seen f + 20 * max 1 (rget s (canWdF k f)))) = true := by decide +kernel

theorem test_meets_CanCommands_12_b : decide (
    let s : State := { wCan with tmp.now := 19 };
    let f : Fin 32 := 0;
    let k : Fin 4 := 0;
    (canEn s k = false ∨ rbit s (canFiltF k f 0 31 1) = false ∨ rbit s (canFiltF k f 4 31 1) = false ∨ (rget s (F.VEH_CANRXTO_FILT k)).testBit f = true ∨ s.tmp.now < Tab.get 0 (canCtl s k).seen f + 20 * max 1 (rget s (canWdF k f)))) = true := by decide +kernel

theorem test_meets_CanCommands_13 : decide (
    let s : State := rput (canPushF 0 4 0 7) 8 wCan;
    let k : Fin 4 := 0;
    matrixCan s k = false ∧ canLenBad (rbit s (canPushF k 0 30 1)) (rget s (canPushF k 4 0 7)) = false ∧ (canCtl s k).tx.length < 32) = true := by decide +kernel

theorem test_meets_CanCommands_14 : decide (
    let s : State := rput (canPushF 0 4 0 7) 9 wCan;
    let k : Fin 4 := 0;
    matrixCan s k = false ∧ (64 < rget s (canPushF k 4 0 7) ∨ rbit s (canPushF k 0 30 1) = false ∧ 8 < rget s (canPushF k 4 0 7))) = true := by decide +kernel

theorem test_meets_CanCommands_14_b : decide (
    let s : State := rput (canPushF 0 0 30 1) 1 (rput (canPushF 0 4 0 7) 65 wCan);
    let k : Fin 4 := 0;
    matrixCan s k = false ∧ (64 < rget s (canPushF k 4 0 7) ∨ rbit s (canPushF k 0 30 1) = false ∧ 8 < rget s (canPushF k 4 0 7))) = true := by decide +kernel

theorem test_meets_CanCommands_15 : decide (
    let s : State := { wCan with veh.can := Tab.upd wCan.veh.can 0 (fun c => { c with tx := List.replicate 32 ⟨0, [], 0, 0⟩ }) };
    let k : Fin 4 := 0;
    matrixCan s k = false ∧ canLenBad (rbit s (canPushF k 0 30 1)) (rget s (canPushF k 4 0 7)) = false ∧ 32 ≤ (canCtl s k).tx.length) = true := by decide +kernel

theorem test_meets_CanCommands_16 : decide (
    let s : State := wLink 0 1 1;
    let k : Fin 4 := 1;
    matrixCan s k = true) = true := by decide +kernel

theorem test_meets_LeadBudgetAndStop_1 : decide (
    let rx : LeadRx := (wLead 2 1 255 (List.replicate 0x28 0 ++ [1, 0, 2, 0, 3, 0, 0, 0] ++ (List.range 12).map (BitVec.ofNat 8)));
    let s : State := wLink 1 0 3;
    let p : LPort := .lu;
    let ns : Nat := 5;
    let res : Nat := 6;
    let b := fBody rx.bytes;
    let i := 0x2E + 4 * (s.lea.addr - 1);
    LeadHeard s .lu rx ∧ hTyp rx.bytes = tyBudget) = true := by decide +kernel

theorem test_meets_LeadBudgetAndStop_2 : decide (
    let rx : LeadRx := { (wLead 2 1 255 (List.replicate 0x28 0 ++ [1, 0, 2, 0, 3, 0, 0, 0] ++ (List.range 12).map (BitVec.ofNat 8))) with fcs := false };
    let s : State := wLink 1 0 3;
    let p : LPort := .lu;
    let ns : Nat := 5;
    let res : Nat := 6;
    let b := fBody rx.bytes;
    let f := rx.bytes.take 8 ++ timeForward s b (linkDelay s b (s.tmp.chain + ns)).1 (s.tmp.chain + ns) res;
    portOn s .lu = true ∧ portOn s .ld = true ∧ onlyFcsBad rx = true ∧ hTyp rx.bytes = tyBudget ∧ isCoord s = false) = true := by decide +kernel

theorem test_meets_LeadBudgetAndStop_3 : decide (
    let rx : LeadRx := (wLead 2 1 255 (List.replicate 0x28 0 ++ [1, 0, 2, 0, 3, 0, 0, 0] ++ (List.range 12).map (BitVec.ofNat 8)));
    let s : State := wLink 1 1 1;
    let p : LPort := .lu;
    let v : Word := 0x12345678;
    isCoord s = true) = true := by decide +kernel

theorem test_meets_LeadBudgetAndStop_4 : decide (
    let rx : LeadRx := (wLead 2 1 255 (List.replicate 0x28 0 ++ [1, 0, 2, 0, 3, 0, 0, 0] ++ (List.range 12).map (BitVec.ofNat 8)));
    let s : State := wLink 1 1 1;
    let p : LPort := .lu;
    let v : Word := 0x12345678;
    let a : Fin 64 := 63;
    isCoord s = true ∧ 0 < a.val) = true := by decide +kernel

theorem test_meets_LeadBudgetAndStop_5 : decide (
    let rx : LeadRx := (wLead 2 1 255 (List.replicate 0x28 0 ++ [1, 0, 2, 0, 3, 0, 0, 0] ++ (List.range 12).map (BitVec.ofNat 8)));
    let s : State := wLink 1 0 1;
    let p : LPort := .lu;
    let v : Word := 0x12345678;
    let a : Fin 64 := 63;
    isCoord s = false) = true := by decide +kernel

theorem test_meets_LeadBudgetAndStop_6 : decide (
    let rx : LeadRx := (wLead 2 1 255 (List.replicate 0x28 0 ++ [1, 0, 2, 0, 3, 0, 0, 0] ++ (List.range 12).map (BitVec.ofNat 8)));
    let s : State := { wLink 1 0 3 with lea.budAt := some 600, lea.site := 7 };
    let p : LPort := .lu;
    s.loaded = true ∧ budgetAbsent s = true) = true := by decide +kernel

theorem test_meets_LeadBudgetAndStop_7 : decide (
    let rx : LeadRx := (wLead 2 1 255 (List.replicate 0x28 0 ++ [1, 0, 2, 0, 3, 0, 0, 0] ++ (List.range 12).map (BitVec.ofNat 8)));
    let s : State := { wLink 1 0 3 with lea.budAt := some 601, lea.site := 7 };
    let p : LPort := .lu;
    (s.loaded = false ∨ isCoord s = true ∨ (∀ u ∈ s.lea.budAt.toList, sinceT s u < 400) ∧ s.lea.budAt ≠ none)) = true := by decide +kernel

theorem test_meets_LeadBudgetAndStop_8 : decide (
    let rx : LeadRx := (wLead 3 1 255 [9, 1, 0, 0, 1, 2, 3, 4, 5, 6, 7, 8]);
    let s : State := wLink 1 0 3;
    let p : LPort := .lu;
    let pre : Preempt := .other;
    LeadHeard s p rx ∧ hTyp rx.bytes = tyStop ∧ stopNew s (u8 (fBody rx.bytes) 0) (u16 (fBody rx.bytes) 2) = true) = true := by decide +kernel

theorem test_meets_LeadBudgetAndStop_8_b : decide (
    let rx : LeadRx := (wLead 3 1 255 [9, 1, 0, 0, 1, 2, 3, 4, 5, 6, 7, 8]);
    let s : State := wLink 1 0 3;
    let p : LPort := .ld;
    let pre : Preempt := .nothing;
    LeadHeard s p rx ∧ hTyp rx.bytes = tyStop ∧ stopNew s (u8 (fBody rx.bytes) 0) (u16 (fBody rx.bytes) 2) = true) = true := by decide +kernel

theorem test_meets_LeadBudgetAndStop_9 : decide (
    let rx : LeadRx := (wLead 3 1 255 [9, 1, 0, 0, 1, 2, 3, 4, 5, 6, 7, 8]);
    let s : State := { wLink 1 0 3 with lea.stopSeen := [(9, 0)] };
    let p : LPort := .ld;
    let pre : Preempt := .other;
    LeadHeard s p rx ∧ hTyp rx.bytes = tyStop ∧ stopNew s (u8 (fBody rx.bytes) 0) (u16 (fBody rx.bytes) 2) = false) = true := by decide +kernel

theorem test_meets_LeadBudgetAndStop_10 : decide (
    let rx : LeadRx := { (wLead 3 1 255 [9, 1, 0, 0, 1, 2, 3, 4, 5, 6, 7, 8]) with fcs := false };
    let s : State := wLink 1 0 3;
    let p : LPort := .ld;
    let pre : Preempt := .other;
    portOn s p = true ∧ portOn s (otherPort p) = true ∧ onlyFcsBad rx = true ∧ hTyp rx.bytes = tyStop ∧ stopNew s (u8 rx.bytes 8) (u16 rx.bytes 10) = true) = true := by decide +kernel

theorem test_meets_LeadBudgetAndStop_11 : decide (
    let rx : LeadRx := (wLead 3 1 255 [9, 1, 0, 0, 1, 2, 3, 4, 5, 6, 7, 8]);
    let s : State := { wLink 1 0 3 with lea.luSilent := 8 };
    let p : LPort := .ld;
    s.loaded = true ∧ isCoord s = false ∧ 8 ≤ s.lea.luSilent) = true := by decide +kernel

theorem test_meets_LeadBudgetAndStop_12 : decide (
    let rx : LeadRx := (wLead 3 1 255 [9, 1, 0, 0, 1, 2, 3, 4, 5, 6, 7, 8]);
    let s : State := { wLink 1 0 3 with lea.luSilent := 7 };
    let p : LPort := .ld;
    (s.loaded = false ∨ isCoord s = true ∨ s.lea.luSilent < 8)) = true := by decide +kernel

theorem test_meets_LeadEnumeration_1 : decide (
    let rx : LeadRx := wLead 4 1 0 [];
    let s : State := { wLink 0 0 1 with lea.luUp := false };
    let p : LPort := .lu;
    portOn s p = false) = true := by decide +kernel

theorem test_meets_LeadEnumeration_2 : decide (
    let rx : LeadRx := { wLead 4 1 0 [] with fcs := false };
    let s : State := wLink 0 0 1;
    let p : LPort := .lu;
    portOn s p = true ∧ leadFault rx = 1) = true := by decide +kernel

theorem test_meets_LeadEnumeration_3 : decide (
    let rx : LeadRx := ⟨true, true, [0x15, 0, 1, 0, 0, 0, 0xE9, 1, 0]⟩;
    let s : State := wLink 0 0 1;
    let p : LPort := .ld;
    portOn s p = true ∧ leadFault rx = 2) = true := by decide +kernel

theorem test_meets_LeadEnumeration_4 : decide (
    let rx : LeadRx := wLead 5 63 3 [];
    let s : State := wLink 0 0 2;
    let p : LPort := .lu;
    let q : LPort := .ld;
    LeadHeard s p rx ∧ leadRoute s p (hDst rx.bytes) = (false, some q)) = true := by decide +kernel

theorem test_meets_LeadEnumeration_4_b : decide (
    let rx : LeadRx := wLead 4 2 1 [2, 63];
    let s : State := wLink 0 0 2;
    let p : LPort := .ld;
    let q : LPort := .lu;
    LeadHeard s p rx ∧ leadRoute s p (hDst rx.bytes) = (false, some q)) = true := by decide +kernel

theorem test_meets_LeadEnumeration_5 : decide (
    let rx : LeadRx := wLead 4 1 0 [];
    let s : State := { wLink 0 1 1 with tmp.now := 20000 };
    let p : LPort := .lu;
    s.tmp.running = true ∧ 20000 ≤ sinceT s s.lea.enumAt ∧ isCoord s = true) = true := by decide +kernel

theorem test_meets_LeadEnumeration_6 : decide (
    let rx : LeadRx := wLead 4 1 0 [];
    let s : State := { wLink 0 1 1 with tmp.now := 19999 };
    let p : LPort := .lu;
    (s.tmp.running = false ∨ sinceT s s.lea.enumAt < 20000 ∨ isCoord s = false)) = true := by decide +kernel

theorem test_meets_LeadEnumeration_7 : decide (
    let rx : LeadRx := wLead 4 1 0 [];
    let s : State := wLink 0 1 1;
    let p : LPort := .lu;
    isCoord s = true) = true := by decide +kernel

theorem test_meets_LeadEnumeration_8 : decide (
    let rx : LeadRx := wLead 4 1 0 [];
    let s : State := wLink 0 0 1;
    let p : LPort := .lu;
    isCoord s = false) = true := by decide +kernel

theorem test_meets_LeadEnumeration_9 : decide (
    let rx : LeadRx := wLead 4 1 0 [1, 63, 0, 0, 0, 0, 0, 0, 0, 0, 0, 0];
    let s : State := wLink 0 0 0;
    let p : LPort := .lu;
    LeadHeard s .lu rx ∧ hTyp rx.bytes = tyEnum ∧ u8 rx.bytes 8 = 1 ∧ hDst rx.bytes = 0 ∧ 0 < u8 (fBody rx.bytes) 1 ∧ u8 (fBody rx.bytes) 1 ≤ 63 ∧ (s.lea.addr = 0 ∨ s.lea.addr < u8 (fBody rx.bytes) 1 ∧ outletsIdle s = true)) = true := by decide +kernel

theorem test_meets_LeadEnumeration_9_b : decide (
    let rx : LeadRx := wLead 4 1 0 [1, 2, 0, 0, 0, 0, 0, 0, 0, 0, 0, 0];
    let s : State := { wLink 0 0 1 with lea.ldUp := false };
    let p : LPort := .lu;
    LeadHeard s .lu rx ∧ hTyp rx.bytes = tyEnum ∧ u8 rx.bytes 8 = 1 ∧ hDst rx.bytes = 0 ∧ 0 < u8 (fBody rx.bytes) 1 ∧ u8 (fBody rx.bytes) 1 ≤ 63 ∧ (s.lea.addr = 0 ∨ s.lea.addr < u8 (fBody rx.bytes) 1 ∧ outletsIdle s = true)) = true := by decide +kernel

theorem test_meets_LeadEnumeration_10 : decide (
    let rx : LeadRx := wLead 4 1 0 [1, 64, 0, 0, 0, 0, 0, 0, 0, 0, 0, 0];
    let s : State := wLink 0 0 0;
    let p : LPort := .lu;
    LeadHeard s .lu rx ∧ hTyp rx.bytes = tyEnum ∧ u8 rx.bytes 8 = 1 ∧ hDst rx.bytes = 0 ∧ s.lea.addr = 0 ∧ 63 < u8 (fBody rx.bytes) 1) = true := by decide +kernel

theorem test_meets_LeadEnumeration_11 : decide (
    let rx : LeadRx := wLead 4 1 0 [1, 2, 0, 0, 0, 0, 0, 0, 0, 0, 0, 0];
    let s : State := wLink 0 0 3;
    let p : LPort := .lu;
    LeadHeard s .lu rx ∧ hTyp rx.bytes = tyEnum ∧ u8 rx.bytes 8 = 1 ∧ hDst rx.bytes = 0 ∧ 1 < s.lea.addr ∧ (u8 (fBody rx.bytes) 1 ≤ s.lea.addr ∨ outletsIdle s = false) ∧ s.lea.addr ≤ 63) = true := by decide +kernel

theorem test_meets_LeadEnumeration_11_b : decide (
    let rx : LeadRx := wLead 4 1 0 [1, 9, 0, 0, 0, 0, 0, 0, 0, 0, 0, 0];
    let s : State := (fun s => { s with lea.addr := 3, outsF := Tab.upd s.outsF 0 (fun o => {o with st := .energy}) }) (wPost 1 [] |> fun s => { s with lea.luUp := true });
    let p : LPort := .lu;
    LeadHeard s .lu rx ∧ hTyp rx.bytes = tyEnum ∧ u8 rx.bytes 8 = 1 ∧ hDst rx.bytes = 0 ∧ 1 < s.lea.addr ∧ (u8 (fBody rx.bytes) 1 ≤ s.lea.addr ∨ outletsIdle s = false) ∧ s.lea.addr ≤ 63) = true := by decide +kernel

theorem test_meets_LeadEnumeration_12 : decide (
    let rx : LeadRx := wLead 4 2 1 [2, 63, 0, 0, 5, 0, 0, 0, 0, 0, 0, 0];
    let s : State := { wLink 0 1 1 with lea.nodes := Tab.upd State.reset.lea.nodes 63 (fun n => { n with serial := some 4 }) };
    let p : LPort := .ld;
    LeadMine s p rx ∧ hTyp rx.bytes = tyEnum ∧ u8 rx.bytes 8 = 2 ∧ isCoord s = true ∧ 0 < u8 (fBody rx.bytes) 1 ∧ u8 (fBody rx.bytes) 1 ≤ 63) = true := by decide +kernel

theorem test_meets_LeadEnumeration_13 : decide (
    let rx : LeadRx := wLead 4 2 1 [2, 64, 8, 0, 5, 0, 0, 0, 0, 0, 0, 0];
    let s : State := wLink 0 1 1;
    let p : LPort := .ld;
    LeadMine s p rx ∧ hTyp rx.bytes = tyEnum ∧ u8 rx.bytes 8 = 2 ∧ (isCoord s = false ∨ u8 (fBody rx.bytes) 1 = 0 ∨ 63 < u8 (fBody rx.bytes) 1)) = true := by decide +kernel

theorem test_meets_LeadEnumeration_14 : decide (
    let rx : LeadRx := wLead 4 2 1 [3, 2, 0, 0, 5, 0, 0, 0, 0, 0, 0, 0];
    let s : State := { wLink 0 1 1 with lea.enumHigh := 2 };
    let p : LPort := .ld;
    LeadMine s p rx ∧ hTyp rx.bytes = tyEnum ∧ u8 rx.bytes 8 = 3 ∧ isCoord s = true) = true := by decide +kernel

theorem test_meets_LeadEnumeration_15 : decide (
    let rx : LeadRx := wLead 4 2 1 [3, 2, 0, 0, 5, 0, 0, 0, 0, 0, 0, 0];
    let s : State := wLink 0 0 1;
    let p : LPort := .ld;
    LeadMine s p rx ∧ hTyp rx.bytes = tyEnum ∧ u8 rx.bytes 8 = 3 ∧ isCoord s = false) = true := by decide +kernel

theorem test_meets_LeadEnumeration_16 : decide (
    let rx : LeadRx := wLead 4 1 0 [];
    let s : State := wLink 0 0 2;
    let p : LPort := .lu;
    let up : Bool := false;
    s.lea.luUp ≠ up ∧ s.pwr.sys ≠ .s4) = true := by decide +kernel

theorem test_meets_LeadEnumeration_17 : decide (
    let rx : LeadRx := wLead 4 1 0 [];
    let s : State := { wLink 0 1 1 with lea.ldUp := false };
    let p : LPort := .lu;
    let up : Bool := true;
    s.lea.ldUp ≠ up ∧ s.pwr.sys ≠ .s4) = true := by decide +kernel

theorem test_meets_LeadEnumeration_19 : decide (
    let rx : LeadRx := wLead 4 1 0 [];
    let s : State := wLink 0 0 2;
    let p : LPort := .lu;
    netOn s = true ∧ (40 ≤ sinceT s s.lea.statAt ∨ s.pwr.boot = .stalemate) ∧ isCoord s = false ∧ s.lea.addr ≠ 1 ∧ portOn s .lu = true) = true := by decide +kernel

theorem test_meets_LeadEnumeration_20 : decide (
    let rx : LeadRx := wLead 4 1 0 [];
    let s : State := wLink 0 1 1;
    let p : LPort := .lu;
    netOn s = true ∧ (40 ≤ sinceT s s.lea.statAt ∨ s.pwr.boot = .stalemate) ∧ isCoord s = true ∧ s.lea.addr < 64) = true := by decide +kernel

theorem test_meets_LeadEnumeration_21 : decide (
    let rx : LeadRx := wLead 4 1 0 [];
    let s : State := { wLink 0 0 2 with tmp.now := 39 };
    let p : LPort := .lu;
    (netOn s = false ∨ sinceT s s.lea.statAt < 40 ∧ s.pwr.boot ≠ .stalemate)) = true := by decide +kernel

theorem test_meets_LeadEnumeration_22 : decide (
    let rx : LeadRx := wLead 5 63 1 (List.replicate 0x60 7);
    let s : State := wLink 0 1 1;
    let p : LPort := .ld;
    LeadMine s p rx ∧ hTyp rx.bytes = tyStatus ∧ isCoord s = true ∧ hSrc rx.bytes < 64) = true := by decide +kernel

theorem test_meets_LeadEnumeration_23 : decide (
    let rx : LeadRx := wLead 5 1 255 (List.replicate 0x60 7);
    let s : State := wLink 0 0 2;
    let p : LPort := .lu;
    LeadMine s p rx ∧ hTyp rx.bytes = tyStatus ∧ isCoord s = false ∧ (u8 (fBody rx.bytes) 0x4D).testBit 1 = true ∧ s.lea.expTaken ≠ some (u32 (fBody rx.bytes) 0x48)) = true := by decide +kernel

theorem test_meets_LeadEnumeration_24 : decide (
    let rx : LeadRx := wLead 5 1 255 (List.replicate 0x60 7);
    let s : State := { wLink 0 0 2 with lea.expTaken := some 0x07070707 };
    let p : LPort := .lu;
    LeadMine s p rx ∧ hTyp rx.bytes = tyStatus ∧ isCoord s = false ∧ (u8 (fBody rx.bytes) 0x4D).testBit 1 = true ∧ s.lea.expTaken = some (u32 (fBody rx.bytes) 0x48)) = true := by decide +kernel

theorem test_meets_LeadEnumeration_25 : decide (
    let rx : LeadRx := wLead 5 1 255 (List.replicate 0x60 5);
    let s : State := wLink 0 0 2;
    let p : LPort := .lu;
    LeadMine s p rx ∧ hTyp rx.bytes = tyStatus ∧ isCoord s = false ∧ (u8 (fBody rx.bytes) 0x4D).testBit 1 = false) = true := by decide +kernel

theorem test_meets_LeadRequestsAndTransfers_1 : decide (
    let rx : LeadRx := wLead 6 1 2 [1];
    let s : State := { wLink 0 0 1 with lea.luUp := false };
    let p : LPort := .lu;
    let d := fData rx.bytes;
    portOn s p = false) = true := by decide +kernel

theorem test_meets_LeadRequestsAndTransfers_2 : decide (
    let rx : LeadRx := { wLead 6 1 2 [1] with fcs := false };
    let s : State := wLink 0 0 1;
    let p : LPort := .lu;
    let d := fData rx.bytes;
    portOn s p = true ∧ leadFault rx = 1) = true := by decide +kernel

theorem test_meets_LeadRequestsAndTransfers_3 : decide (
    let rx : LeadRx := ⟨true, true, [0x15, 0, 1, 0, 0, 0, 0xE9, 1, 0]⟩;
    let s : State := wLink 0 0 1;
    let p : LPort := .ld;
    let d := fData rx.bytes;
    portOn s p = true ∧ leadFault rx = 2) = true := by decide +kernel

theorem test_meets_LeadRequestsAndTransfers_4 : decide (
    let rx : LeadRx := wLead 6 1 9 [1, 0];
    let s : State := wLink 0 0 2;
    let p : LPort := .lu;
    let q : LPort := .ld;
    let d := fData rx.bytes;
    LeadHeard s p rx ∧ leadRoute s p (hDst rx.bytes) = (false, some q) ∧ hTyp rx.bytes = tyCmd) = true := by decide +kernel

theorem test_meets_LeadRequestsAndTransfers_4_b : decide (
    let rx : LeadRx := wLead 6 9 1 [3, 0];
    let s : State := wLink 0 0 2;
    let p : LPort := .ld;
    let q : LPort := .lu;
    let d := fData rx.bytes;
    LeadHeard s p rx ∧ leadRoute s p (hDst rx.bytes) = (false, some q) ∧ hTyp rx.bytes = tyCmd) = true := by decide +kernel

theorem test_meets_LeadRequestsAndTransfers_5 : decide (
    let rx : LeadRx := wLead 6 1 2 [];
    let s : State := { wLink 0 0 2 with lea.mmRun := 200 };
    let p : LPort := .lu;
    let d := fData rx.bytes;
    (200 ≤ s.lea.mmRun ∨ isCoord s = false ∧ beaconFresh s = false ∧ 2 ≤ s.lea.ylDiff) ∧ s.lea.mismatch = false) = true := by decide +kernel

theorem test_meets_LeadRequestsAndTransfers_5_b : decide (
    let rx : LeadRx := wLead 6 1 2 [];
    let s : State := { wLink 0 0 2 with lea.ylDiff := 2 };
    let p : LPort := .lu;
    let d := fData rx.bytes;
    (200 ≤ s.lea.mmRun ∨ isCoord s = false ∧ beaconFresh s = false ∧ 2 ≤ s.lea.ylDiff) ∧ s.lea.mismatch = false) = true := by decide +kernel

theorem test_meets_LeadRequestsAndTransfers_6 : decide (
    let rx : LeadRx := wLead 6 1 2 [];
    let s : State := { wLink 0 0 2 with lea.mmRun := 199 };
    let p : LPort := .lu;
    let d := fData rx.bytes;
    s.lea.mmRun < 200 ∧ (isCoord s = true ∨ beaconFresh s = true ∨ s.lea.ylDiff < 2) ∧ s.lea.mismatch = false) = true := by decide +kernel

theorem test_meets_LeadRequestsAndTransfers_7 : decide (
    let rx : LeadRx := wLead 6 1 2 [];
    let s : State := rput F.SYS_STATUS_EPOCHMM 1 { wLink 0 0 2 with lea.mismatch := true, lea.beaconAt := some 1000 };
    let p : LPort := .lu;
    let d := fData rx.bytes;
    s.lea.mismatch = true ∧ (isCoord s = true ∨ beaconFresh s = true) ∧ epochDiffers s = false) = true := by decide +kernel

theorem test_meets_LeadRequestsAndTransfers_8 : decide (
    let rx : LeadRx := wLead 6 1 2 [];
    let s : State := rput F.SYS_STATUS_EPOCHMM 1 { wLink 0 0 2 with lea.mismatch := true, yrd.gotBeacon := true };
    let p : LPort := .lu;
    let d := fData rx.bytes;
    s.lea.mismatch = true ∧ isCoord s = false ∧ beaconFresh s = false ∧ s.yrd.gotBeacon = true ∧ s.lea.ylDiff = 0) = true := by decide +kernel

theorem test_meets_LeadRequestsAndTransfers_9 : decide (
    let rx : LeadRx := wLead 6 1 2 [];
    let s : State := rput (F.SYS_EPOCH_DIGEST 0) 1 { wLink 0 0 2 with lea.mismatch := true, lea.beaconAt := some 1000 };
    let p : LPort := .lu;
    let d := fData rx.bytes;
    s.lea.mismatch = true ∧ (isCoord s = true ∨ beaconFresh s = true) ∧ epochDiffers s = true) = true := by decide +kernel

theorem test_meets_LeadRequestsAndTransfers_10 : decide (
    let rx : LeadRx := wLead 6 7 1 ([1, 0, 0xB0, 0x03, 1, 2, 8, 0, 0, 0, 0xB1, 0x02, 1, 2, 8, 0, 0, 0]);
    let s : State := wLink 0 1 1;
    let p : LPort := .ld;
    let k : ReqKind := .energy;
    let b : Fin 8 := 0;
    let e : Fin 4 := 0;
    let d := fData rx.bytes;
    LeadMine s p rx ∧ hTyp rx.bytes = tyCmd ∧ fOp rx.bytes = 1 ∧ isCabinet s = true ∧ b.val < mNbus s ∧ mPost s b = hSrc rx.bytes ∧ 128 ≤ u8 d (8 * e) ∧ reqKindOf (u8 d (8 * e) / 16 % 8) = some k ∧ (u8 d (8 * e + 1)).testBit b = true ∧ ((∀ j : Fin 4, e < j → u8 d (8 * j) < 128 ∨ (u8 d (8 * j + 1)).testBit b = false))) = true := by decide +kernel

theorem test_meets_LeadRequestsAndTransfers_11 : decide (
    let rx : LeadRx := wLead 6 6 1 ([1, 0, 0xB0, 0x03, 1, 2, 8, 0, 0, 0]);
    let s : State := wLink 0 1 1;
    let p : LPort := .ld;
    let b : Fin 8 := 0;
    let d := fData rx.bytes;
    LeadMine s p rx ∧ hTyp rx.bytes = tyCmd ∧ fOp rx.bytes = 1 ∧ (isCabinet s = false ∨ mPost s b ≠ hSrc rx.bytes)) = true := by decide +kernel

theorem test_meets_LeadRequestsAndTransfers_12 : decide (
    let rx : LeadRx := wLead 6 1 2 ([2, 0, 0x83, 0x03, 1, 2, 8, 0, 0, 0, 0x84, 1, 5, 0, 6, 0, 0, 0]);
    let s : State := wLink 1 0 2;
    let p : LPort := .lu;
    let e : Fin 8 := 1;
    let d := fData rx.bytes;
    LeadMine s p rx ∧ hTyp rx.bytes = tyCmd ∧ fOp rx.bytes = 2 ∧ isPost s = true ∧ hSrc rx.bytes = nCabAddr s ∧ 128 ≤ u8 d (8 * e) ∧ ((∀ j : Fin 8, e < j → u8 d (8 * j) < 128 ∨ u8 d (8 * j) % 8 ≠ u8 d (8 * e) % 8))) = true := by decide +kernel

theorem test_meets_LeadRequestsAndTransfers_13 : decide (
    let rx : LeadRx := wLead 6 3 2 ([2, 0, 0x83, 0x03, 1, 2, 8, 0, 0, 0]);
    let s : State := wLink 1 0 2;
    let p : LPort := .ld;
    let d := fData rx.bytes;
    LeadMine s p rx ∧ hTyp rx.bytes = tyCmd ∧ fOp rx.bytes = 2 ∧ (isPost s = false ∨ hSrc rx.bytes ≠ nCabAddr s)) = true := by decide +kernel

theorem test_meets_LeadRequestsAndTransfers_14 : decide (
    let rx : LeadRx := wLead 6 1 2 ([3, 0, 0x83, 0x03, 1, 2, 8, 0, 0, 0]);
    let s : State := { wLink 1 0 2 with lea.userRx := List.replicate 31 ⟨0, 0, []⟩ };
    let p : LPort := .lu;
    let d := fData rx.bytes;
    LeadMine s p rx ∧ hTyp rx.bytes = tyCmd ∧ fOp rx.bytes = 3 ∧ d.length ≤ 476 ∧ s.lea.userRx.length < 32) = true := by decide +kernel

theorem test_meets_LeadRequestsAndTransfers_15 : decide (
    let rx : LeadRx := wLead 6 1 2 ([3, 0] ++ List.replicate 477 1);
    let s : State := wLink 1 0 2;
    let p : LPort := .lu;
    let d := fData rx.bytes;
    LeadMine s p rx ∧ hTyp rx.bytes = tyCmd ∧ fOp rx.bytes = 3 ∧ 476 < d.length) = true := by decide +kernel

theorem test_meets_LeadRequestsAndTransfers_16 : decide (
    let rx : LeadRx := wLead 6 1 2 ([3, 0, 0x83, 0x03, 1, 2, 8, 0, 0, 0]);
    let s : State := { wLink 1 0 2 with lea.userRx := List.replicate 32 ⟨0, 0, []⟩ };
    let p : LPort := .lu;
    let d := fData rx.bytes;
    LeadMine s p rx ∧ hTyp rx.bytes = tyCmd ∧ fOp rx.bytes = 3 ∧ d.length ≤ 476 ∧ 32 ≤ s.lea.userRx.length) = true := by decide +kernel

theorem test_meets_LeadRequestsAndTransfers_19 : decide (
    let rx : LeadRx := wLead 6 1 2 [];
    let s : State := wLink 1 0 2 |> rput F.LEA_XFERCFG_XFERID 9 |> rput F.LEA_XFERLEN_IMGLEN 0x3000000;
    let p : LPort := .lu;
    let d := fData rx.bytes;
    netOn s = true ∧ rget s F.LEA_XFERLEN_CLASS ≠ 3 ∧ rget s F.LEA_XFERLEN_IMGLEN ≤ classRegion (rget s F.LEA_XFERLEN_CLASS)) = true := by decide +kernel

theorem test_meets_LeadRequestsAndTransfers_20 : decide (
    let rx : LeadRx := wLead 6 1 2 [];
    let s : State := wLink 1 0 2 |> rput F.LEA_XFERLEN_CLASS 3;
    let p : LPort := .lu;
    let d := fData rx.bytes;
    (netOn s = false ∨ rget s F.LEA_XFERLEN_CLASS = 3)) = true := by decide +kernel

theorem test_meets_LeadRequestsAndTransfers_21 : decide (
    let rx : LeadRx := wLead 6 1 2 [];
    let s : State := wLink 1 0 2 |> rput F.LEA_XFERLEN_CLASS 2 |> rput F.LEA_XFERLEN_IMGLEN 0x3000001;
    let p : LPort := .lu;
    let d := fData rx.bytes;
    netOn s = true ∧ rget s F.LEA_XFERLEN_CLASS ≠ 3 ∧ classRegion (rget s F.LEA_XFERLEN_CLASS) < rget s F.LEA_XFERLEN_IMGLEN) = true := by decide +kernel

theorem test_meets_LeadRequestsAndTransfers_23 : decide (
    let rx : LeadRx := wLead 6 1 255 ([4, 0, 9, 0, 1, 0, 0, 0, 1, 0, 0, 0, 8, 0] ++ List.replicate 32 5);
    let s : State := wLink 1 0 2;
    let p : LPort := .lu;
    let d := fData rx.bytes;
    LeadMine s p rx ∧ hTyp rx.bytes = tyCmd ∧ fOp rx.bytes = 4 ∧ u8 d 2 < 3 ∧ ((∀ y ∈ s.lea.xfer.toList, y.id ≠ u16 d 0)) ∧ u32 d 8 ≤ classRegion (u8 d 2) ∧ u32 d 4 ≤ 65536) = true := by decide +kernel

theorem test_meets_LeadRequestsAndTransfers_24 : decide (
    let rx : LeadRx := wLead 6 1 255 ([4, 0, 9, 0, 1, 0, 0, 0, 1, 0, 0, 0, 8, 0] ++ List.replicate 32 5);
    let s : State := { wLink 1 0 2 with lea.xfer := some (Xfer.fresh 9 1 0 65536 []) };
    let p : LPort := .lu;
    let d := fData rx.bytes;
    LeadMine s p rx ∧ hTyp rx.bytes = tyCmd ∧ fOp rx.bytes = 4 ∧ (3 ≤ u8 d 2 ∨ (∃ y ∈ s.lea.xfer, y.id = u16 d 0))) = true := by decide +kernel

theorem test_meets_LeadRequestsAndTransfers_24_b : decide (
    let rx : LeadRx := wLead 6 1 255 ([4, 0, 9, 0, 3, 0, 0, 0, 1, 0, 0, 0, 8, 0] ++ List.replicate 32 5);
    let s : State := wLink 1 0 2;
    let p : LPort := .lu;
    let d := fData rx.bytes;
    LeadMine s p rx ∧ hTyp rx.bytes = tyCmd ∧ fOp rx.bytes = 4 ∧ (3 ≤ u8 d 2 ∨ (∃ y ∈ s.lea.xfer, y.id = u16 d 0))) = true := by decide +kernel

theorem test_meets_LeadRequestsAndTransfers_25 : decide (
    let rx : LeadRx := wLead 6 1 255 ([4, 0, 9, 0, 1, 0, 1, 0, 1, 0, 0, 0, 8, 0] ++ List.replicate 32 5);
    let s : State := wLink 1 0 2;
    let p : LPort := .lu;
    let d := fData rx.bytes;
    LeadMine s p rx ∧ hTyp rx.bytes = tyCmd ∧ fOp rx.bytes = 4 ∧ u8 d 2 < 3 ∧ ((∀ y ∈ s.lea.xfer.toList, y.id ≠ u16 d 0)) ∧ (classRegion (u8 d 2) < u32 d 8 ∨ 65536 < u32 d 4)) = true := by decide +kernel

theorem test_meets_LeadRequestsAndTransfers_26 : decide (
    let x : Xfer := { Xfer.fresh 9 1 0 65536 [] with manOk := true, got := 16 };
    let rx : LeadRx := wLead 7 1 0 ([9, 0, 0, 0, 16, 0, 0, 0] ++ List.replicate 64 5);
    let s : State := { wLink 1 0 2 with lea.xfer := some x };
    let p : LPort := .lu;
    let d := fData rx.bytes;
    let b := fBody rx.bytes;
    LeadHeard s p rx ∧ hTyp rx.bytes = tyData ∧ s.pwr.boot = .running ∧ s.lea.xfer = some x ∧ x.id = u16 b 0 ∧ x.failed = false ∧ x.complete = false ∧ x.origin = false ∧ (u8 rx.bytes 1).testBit 0 = false ∧ x.manOk = true ∧ x.wait = false ∧ u16 b 2 = x.done ∧ u16 b 4 = x.got ∧ x.got + (b.drop 8).length < blockLen x.imgLen x.done) = true := by decide +kernel

theorem test_meets_LeadRequestsAndTransfers_27 : decide (
    let x : Xfer := { Xfer.fresh 9 1 0 65536 [] with manOk := true, got := 32, naks := 7 };
    let rx : LeadRx := wLead 7 1 0 ([9, 0, 0, 0, 16, 0, 0, 0] ++ List.replicate 64 5);
    let s : State := { wLink 1 0 2 with lea.xfer := some x };
    let p : LPort := .lu;
    let d := fData rx.bytes;
    let b := fBody rx.bytes;
    LeadHeard s p rx ∧ hTyp rx.bytes = tyData ∧ s.pwr.boot = .running ∧ s.lea.xfer = some x ∧ x.id = u16 b 0 ∧ x.failed = false ∧ x.complete = false ∧ x.origin = false ∧ (u8 rx.bytes 1).testBit 0 = false ∧ x.manOk = true ∧ x.wait = false ∧ x.done ≤ u16 b 2 ∧ (u16 b 2 ≠ x.done ∨ u16 b 4 ≠ x.got)) = true := by decide +kernel

theorem test_meets_LeadRequestsAndTransfers_27_b : decide (
    let x : Xfer := { Xfer.fresh 9 1 0 65536 [] with manOk := true, got := 16 };
    let rx : LeadRx := wLead 7 1 0 ([9, 0, 1, 0, 16, 0, 0, 0] ++ List.replicate 64 5);
    let s : State := { wLink 1 0 2 with lea.xfer := some x };
    let p : LPort := .ld;
    let d := fData rx.bytes;
    let b := fBody rx.bytes;
    LeadHeard s p rx ∧ hTyp rx.bytes = tyData ∧ s.pwr.boot = .running ∧ s.lea.xfer = some x ∧ x.id = u16 b 0 ∧ x.failed = false ∧ x.complete = false ∧ x.origin = false ∧ (u8 rx.bytes 1).testBit 0 = false ∧ x.manOk = true ∧ x.wait = false ∧ x.done ≤ u16 b 2 ∧ (u16 b 2 ≠ x.done ∨ u16 b 4 ≠ x.got)) = true := by decide +kernel

theorem test_meets_LeadRequestsAndTransfers_28 : decide (
    let x : Xfer := { Xfer.fresh 9 1 0 64 [] with manOk := true };
    let rx : LeadRx := wLead 7 1 0 ([9, 0, 0, 0, 0, 0, 0, 0] ++ List.replicate 64 5);
    let s : State := { wLink 1 0 2 with lea.xfer := some x };
    let p : LPort := .lu;
    let d := fData rx.bytes;
    let b := fBody rx.bytes;
    LeadHeard s p rx ∧ hTyp rx.bytes = tyData ∧ s.pwr.boot = .running ∧ s.lea.xfer = some x ∧ x.id = u16 b 0 ∧ x.failed = false ∧ x.complete = false ∧ x.origin = false ∧ (u8 rx.bytes 1).testBit 0 = false ∧ x.manOk = true ∧ x.wait = false ∧ u16 b 2 = x.done ∧ u16 b 4 = x.got ∧ x.got + (b.drop 8).length = blockLen x.imgLen x.done) = true := by decide +kernel

theorem test_meets_LeadRequestsAndTransfers_29 : decide (
    let x : Xfer := { Xfer.fresh 9 1 4096 65536 [] with manGot := 16 };
    let rx : LeadRx := { wLead 7 1 0 ([9, 0, 0, 0, 16, 0, 0, 0] ++ List.replicate 64 5) with bytes := [0x17, 1] ++ (wLead 7 1 0 ([9, 0, 0, 0, 16, 0, 0, 0] ++ List.replicate 64 5)).bytes.drop 2 };
    let s : State := { wLink 1 0 2 with lea.xfer := some x };
    let p : LPort := .lu;
    let d := fData rx.bytes;
    let b := fBody rx.bytes;
    LeadHeard s p rx ∧ hTyp rx.bytes = tyData ∧ s.pwr.boot = .running ∧ s.lea.xfer = some x ∧ x.id = u16 b 0 ∧ x.failed = false ∧ x.complete = false ∧ x.origin = false ∧ (u8 rx.bytes 1).testBit 0 = true ∧ x.manOk = false ∧ u16 b 4 = x.manGot ∧ x.manGot + (b.drop 8).length < x.manLen) = true := by decide +kernel

theorem test_meets_LeadRequestsAndTransfers_30 : decide (
    let rx : LeadRx := wLead 7 1 0 ([9, 0, 0, 0, 16, 0, 0, 0] ++ List.replicate 64 5);
    let s : State := { wLink 1 0 2 with lea.xfer := some { Xfer.fresh 9 1 4096 65536 [] with failed := true } };
    let p : LPort := .lu;
    let d := fData rx.bytes;
    LeadHeard s p rx ∧ hTyp rx.bytes = tyData ∧ s.pwr.boot = .running ∧ ((∀ x ∈ s.lea.xfer.toList, x.id ≠ u16 (fBody rx.bytes) 0 ∨ x.failed = true ∨ x.complete = true ∨ x.origin = true))) = true := by decide +kernel

theorem test_meets_LeadRequestsAndTransfers_30_b : decide (
    let rx : LeadRx := wLead 7 1 0 ([9, 0, 0, 0, 16, 0, 0, 0] ++ List.replicate 64 5);
    let s : State := wLink 1 0 2;
    let p : LPort := .lu;
    let d := fData rx.bytes;
    LeadHeard s p rx ∧ hTyp rx.bytes = tyData ∧ s.pwr.boot = .running ∧ ((∀ x ∈ s.lea.xfer.toList, x.id ≠ u16 (fBody rx.bytes) 0 ∨ x.failed = true ∨ x.complete = true ∨ x.origin = true))) = true := by decide +kernel

theorem test_meets_LeadRequestsAndTransfers_31 : decide (
    let x : Xfer := { Xfer.fresh 9 1 0 65536 [] with manOk := true, ld := some Pump.fresh };
    let rx : LeadRx := wLead 6 1 0 ([5, 0, 9, 0, 4, 0]);
    let s : State := { wLink 1 0 2 with lea.xfer := some x };
    let p : LPort := .ld;
    let d := fData rx.bytes;
    LeadMine s p rx ∧ hTyp rx.bytes = tyCmd ∧ fOp rx.bytes = 5 ∧ s.lea.xfer = some x ∧ x.id = u16 d 0) = true := by decide +kernel

theorem test_meets_LeadRequestsAndTransfers_32 : decide (
    let rx : LeadRx := wLead 6 1 0 ([5, 0, 8, 0, 4, 0]);
    let s : State := { wLink 1 0 2 with lea.xfer := some { Xfer.fresh 9 1 0 65536 [] with manOk := true, ld := some Pump.fresh } };
    let p : LPort := .ld;
    let d := fData rx.bytes;
    LeadMine s p rx ∧ hTyp rx.bytes = tyCmd ∧ fOp rx.bytes = 5 ∧ ((∀ x ∈ s.lea.xfer.toList, x.id ≠ u16 d 0))) = true := by decide +kernel

theorem test_meets_LeadRequestsAndTransfers_33 : decide (
    let rx : LeadRx := wLead 6 1 2 [9, 0];
    let s : State := { rput F.PWR_WAKEEN_EN 16 (wLink 1 0 2) with lea.byp := true, pwr.sys := .s3, pwr.netOn := false };
    let p : LPort := .ld;
    let d := fData rx.bytes;
    leadFault rx = 0 ∧ hTyp rx.bytes = tyCmd ∧ fOp rx.bytes = 9 ∧ s.lea.addr ≠ 0 ∧ hDst rx.bytes = s.lea.addr ∧ nRepeater s = true ∧ s.lea.byp = true ∧ s.pwr.sys = .s3 ∧ s.pwr.entry = .none ∧ s.pwr.aonOn = true ∧ s.pwr.boot = .running ∧ wakeActs s 4 = true) = true := by decide +kernel

theorem test_meets_LeadRequestsAndTransfers_34 : decide (
    let rx : LeadRx := wLead 6 1 3 [9, 0];
    let s : State := { rput F.PWR_WAKEEN_EN 16 (wLink 1 0 2) with lea.byp := true, pwr.sys := .s3, pwr.netOn := false };
    let p : LPort := .ld;
    let d := fData rx.bytes;
    hDst rx.bytes ≠ s.lea.addr) = true := by decide +kernel

theorem test_meets_LeadRequestsAndTransfers_35 : decide (
    let rx : LeadRx := wLead 6 1 2 [9, 0];
    let s : State := { wLink 1 0 2 with lea.byp := true, pwr.sys := .s3, pwr.netOn := false };
    let p : LPort := .ld;
    let bytes : Bytes := [1, 2];
    let d := fData rx.bytes;
    (s.pwr.sys = .s3 ∨ s.pwr.sys = .s4) ∧ nRepeater s = true ∧ s.lea.byp = true) = true := by decide +kernel

theorem test_meets_LeadRequestsAndTransfers_36 : decide (
    let rx : LeadRx := wLead 6 1 2 [9, 0];
    let s : State := wLink 1 0 2;
    let p : LPort := .ld;
    let bytes : Bytes := [1, 2];
    let d := fData rx.bytes;
    (s.pwr.sys ∉ [PwrSt.s3, .s4] ∨ nRepeater s = false ∨ s.lea.byp = false)) = true := by decide +kernel

theorem test_meets_YardCommands_1 : decide (
    let s : State := { wYard 1 1 with yrd.acq := true, yrd.win := 49, yrd.cyc := 0xFFFFFFFF, yrd.poll := some 7 };
    let centre : Nat := 0x123456;
    let nq : Nat := 9;
    yardOn s = true ∧ isCoord s = true ∧ s.yrd.acq = true ∧ s.yrd.win = 49) = true := by decide +kernel

theorem test_meets_YardCommands_2 : decide (
    let s : State := { wYard 0 2 with yrd.acq := true, yrd.sawCyc := true, yrd.naddr := 3, yrd.win := 1 };
    let centre : Nat := 0x123456;
    let nq : Nat := 9;
    yardOn s = true ∧ (isCoord s = true ∨ s.yrd.sawCyc = true) ∧ s.yrd.acq = true ∧ 1 ≤ s.yrd.win ∧ s.yrd.win < 49 ∧ s.lea.addr ≠ 0 ∧ windowOwner s (s.yrd.win + 1) = s.lea.addr ∧ (s.yrd.resend = false ∨ s.yrd.last = none)) = true := by decide +kernel

theorem test_meets_YardCommands_2_b : decide (
    let s : State := { wYard 0 2 with yrd.acq := true, yrd.sawCyc := true, yrd.naddr := 3, yrd.win := 1, yrd.stops := [([1, 2], 2)], yrd.txq := [⟨5, 2, [1]⟩] };
    let centre : Nat := 0x123456;
    let nq : Nat := 9;
    yardOn s = true ∧ (isCoord s = true ∨ s.yrd.sawCyc = true) ∧ s.yrd.acq = true ∧ 1 ≤ s.yrd.win ∧ s.yrd.win < 49 ∧ s.lea.addr ≠ 0 ∧ windowOwner s (s.yrd.win + 1) = s.lea.addr ∧ (s.yrd.resend = false ∨ s.yrd.last = none)) = true := by decide +kernel

theorem test_meets_YardCommands_2_c : decide (
    let s : State := { wYard 0 2 with yrd.acq := true, yrd.sawCyc := true, yrd.naddr := 3, yrd.win := 1, yrd.txq := [⟨5, 2, [1]⟩] };
    let centre : Nat := 0x123456;
    let nq : Nat := 9;
    yardOn s = true ∧ (isCoord s = true ∨ s.yrd.sawCyc = true) ∧ s.yrd.acq = true ∧ 1 ≤ s.yrd.win ∧ s.yrd.win < 49 ∧ s.lea.addr ≠ 0 ∧ windowOwner s (s.yrd.win + 1) = s.lea.addr ∧ (s.yrd.resend = false ∨ s.yrd.last = none)) = true := by decide +kernel

theorem test_meets_YardCommands_3 : decide (
    let s : State := { wYard 0 2 with yrd.acq := true, yrd.sawCyc := true, yrd.naddr := 3, yrd.win := 1, yrd.resend := true, yrd.last := some [1] };
    let centre : Nat := 0x123456;
    let nq : Nat := 9;
    let b : Bytes := [1];
    yardOn s = true ∧ (isCoord s = true ∨ s.yrd.sawCyc = true) ∧ s.yrd.acq = true ∧ 1 ≤ s.yrd.win ∧ s.yrd.win < 49 ∧ s.lea.addr ≠ 0 ∧ windowOwner s (s.yrd.win + 1) = s.lea.addr ∧ s.yrd.resend = true ∧ s.yrd.last = some b) = true := by decide +kernel

theorem test_meets_YardCommands_4 : decide (
    let s : State := { wYard 0 3 with yrd.acq := true, yrd.sawCyc := true, yrd.naddr := 3, yrd.win := 1 };
    let centre : Nat := 0x123456;
    let nq : Nat := 9;
    yardOn s = true ∧ isCoord s = false ∧ s.yrd.acq = true ∧ 1 ≤ s.yrd.win ∧ s.yrd.win < 49 ∧ (windowOwner s (s.yrd.win + 1) ≠ s.lea.addr ∨ s.yrd.sawCyc = false)) = true := by decide +kernel

theorem test_meets_YardCommands_5 : decide (
    let s : State := { wYard 0 2 with yrd.acq := true, yrd.sawCyc := true, yrd.naddr := 3, yrd.win := 0, yrd.pollCyc := true, yrd.pollMe := true, yrd.seen0 := true };
    let centre : Nat := 0x123456;
    let nq : Nat := 9;
    yardOn s = true ∧ isCoord s = false ∧ s.yrd.acq = true ∧ s.yrd.win = 0 ∧ s.yrd.seen0 = true ∧ s.yrd.pollCyc = true ∧ s.yrd.pollMe = true) = true := by decide +kernel

theorem test_meets_YardCommands_6 : decide (
    let s : State := { wYard 0 2 with yrd.acq := true, yrd.sawCyc := true, yrd.naddr := 3, yrd.win := 0, yrd.miss := 2 };
    let centre : Nat := 0x123456;
    let nq : Nat := 9;
    yardOn s = true ∧ isCoord s = false ∧ s.yrd.acq = true ∧ s.yrd.win = 0 ∧ s.yrd.seen0 = false) = true := by decide +kernel

theorem test_meets_YardCommands_6_b : decide (
    let s : State := { wYard 0 2 with yrd.acq := true, yrd.sawCyc := true, yrd.naddr := 3, yrd.win := 0, yrd.miss := 1 };
    let centre : Nat := 0x123456;
    let nq : Nat := 9;
    yardOn s = true ∧ isCoord s = false ∧ s.yrd.acq = true ∧ s.yrd.win = 0 ∧ s.yrd.seen0 = false) = true := by decide +kernel

theorem test_meets_YardCommands_7 : decide (
    let s : State := wYard 0 2;
    let centre : Nat := 0x123456;
    let nq : Nat := 9;
    yardOn s = true ∧ s.yrd.acq = false ∧ isCoord s = false ∧ s.yrd.pollMe = false) = true := by decide +kernel

theorem test_meets_YardCommands_8 : decide (
    let s : State := { wYard 0 2 with yrd.quiet := List.replicate 16 70000 };
    let centre : Nat := 0x123456;
    let nq : Nat := 9;
    yardOn s = true) = true := by decide +kernel

theorem test_meets_YardCommands_9 : decide (
    let s : State := wRun [];
    let centre : Nat := 0x123456;
    let nq : Nat := 9;
    let rx : YardRx := wYardRx 7 4 0 [0, 3, 0, 0, 0, 0x5A, 0x62, 2, 0, 0, 0, 0, 1, 2, 3, 4, 5, 6, 7, 8, 77, 0, 0, 0];
    yardOn s = false) = true := by decide +kernel

theorem test_meets_YardCommands_10 : decide (
    let s : State := { wYard 0 2 with yrd.lost := true, yrd.miss := 3 };
    let centre : Nat := 40000000;
    let rx : YardRx := wYardRx 7 4 0 [0, 3, 0, 0, 0, 0x5A, 0x62, 2, 0, 0, 0, 0, 1, 2, 3, 4, 5, 6, 7, 8, 77, 0, 0, 0];
    yardOn s = true ∧ isCoord s = false ∧ rsDecodes s rx = true ∧ u8 rx.bytes 0 / 16 = 0 ∧ u16 rx.bytes 2 = siteId s % 65536) = true := by decide +kernel

theorem test_meets_YardCommands_10_b : decide (
    let s : State := { wYard 0 2 with tmp.mode := .holdover };
    let centre : Nat := 40000000;
    let rx : YardRx := wYardRx 7 4 0 [1, 3, 0, 0, 0, 0x5A, 0x62, 2, 0, 0, 0, 0, 1, 2, 3, 4, 5, 6, 7, 8, 77, 0, 0, 0];
    yardOn s = true ∧ isCoord s = false ∧ rsDecodes s rx = true ∧ u8 rx.bytes 0 / 16 = 0 ∧ u16 rx.bytes 2 = siteId s % 65536) = true := by decide +kernel

theorem test_meets_YardCommands_11 : decide (
    let s : State := wYard 0 2;
    let centre : Nat := 40000000;
    let rx : YardRx := wYardRx 7 4 0 [0, 3, 1, 0, 0, 0x5A, 0x62, 2, 0, 0, 0, 0, 1, 2, 3, 4, 5, 6, 7, 8, 77, 0, 0, 0];
    yardOn s = true ∧ isCoord s = false ∧ rsDecodes s rx = true ∧ (u8 rx.bytes 0 / 16 ≠ 0 ∨ u16 rx.bytes 2 ≠ siteId s % 65536)) = true := by decide +kernel

theorem test_meets_YardCommands_12 : decide (
    let s : State := wYard 0 2;
    let centre : Nat := 40000000;
    let rx : YardRx := wYardRx 7 4 1 (List.replicate 24 0);
    yardOn s = true ∧ isCoord s = false ∧ rsDecodes s rx = false ∧ s.lea.addr ≠ 1) = true := by decide +kernel

theorem test_meets_YardCommands_13 : decide (
    let s : State := wYard 1 1;
    let centre : Nat := 40000000;
    let rx : YardRx := wYardRx 7 4 0 [0, 3, 0, 0, 0, 0x5A, 0x62, 2, 0, 0, 0, 0, 1, 2, 3, 4, 5, 6, 7, 8, 77, 0, 0, 0];
    isCoord s = true) = true := by decide +kernel

theorem test_meets_YardCommands_14 : decide (
    let s : State := { wYard 0 2 with yrd.rxq := List.replicate 31 ⟨0, 2, []⟩, yrd.last := some [1] };
    let rx : YardRx := wYardRx 7 0 8 [3, 0x21, 2, 2, 0, 0, 0, 0, 0, 0, 0, 0, 0, 3, 4, 5, 6, 7, 8, 9, 10, 11, 12, 13];
    yardOn s = true ∧ rsDecodes s rx = true ∧ (u8 rx.bytes 0 ≠ s.lea.addr ∨ s.lea.addr = 0) ∧ u8 rx.bytes 1 / 16 = 2) = true := by decide +kernel

theorem test_meets_YardCommands_14_b : decide (
    let s : State := { wYard 0 2 with yrd.rxq := List.replicate 32 ⟨0, 2, []⟩ };
    let rx : YardRx := wYardRx 7 0 8 [3, 0x21, 2, 2, 0, 0, 0, 0, 0, 0, 0, 0, 0, 3, 4, 5, 6, 7, 8, 9, 10, 11, 12, 13];
    yardOn s = true ∧ rsDecodes s rx = true ∧ (u8 rx.bytes 0 ≠ s.lea.addr ∨ s.lea.addr = 0) ∧ u8 rx.bytes 1 / 16 = 2) = true := by decide +kernel

theorem test_meets_YardCommands_15 : decide (
    let s : State := wYard 0 2;
    let rx : YardRx := wYardRx 7 0 8 [3, 0x31, 255, 0, 0, 0, 0, 0, 0, 0, 0, 0, 0, 3, 4, 5, 6, 7, 8, 9, 10, 11, 12, 13];
    yardOn s = true ∧ rsDecodes s rx = true ∧ (u8 rx.bytes 0 ≠ s.lea.addr ∨ s.lea.addr = 0) ∧ u8 rx.bytes 1 / 16 = 3 ∧ stopNew s (u8 rx.bytes 0xE) (u16 rx.bytes 0x10) = true) = true := by decide +kernel

theorem test_meets_YardCommands_16 : decide (
    let s : State := { wYard 0 2 with lea.stopSeen := [(4, 0x0706)] };
    let rx : YardRx := wYardRx 7 0 8 [3, 0x31, 255, 0, 0, 0, 0, 0, 0, 0, 0, 0, 0, 3, 4, 5, 6, 7, 8, 9, 10, 11, 12, 13];
    yardOn s = true ∧ rsDecodes s rx = true ∧ (u8 rx.bytes 0 ≠ s.lea.addr ∨ s.lea.addr = 0) ∧ u8 rx.bytes 1 / 16 = 3 ∧ stopNew s (u8 rx.bytes 0xE) (u16 rx.bytes 0x10) = false) = true := by decide +kernel

theorem test_meets_YardCommands_17 : decide (
    let s : State := wYard 1 1;
    let rx : YardRx := wYardRx 7 0 8 [3, 0x41, 1, 0, 0, 0, 0, 0, 0, 0, 0, 0, 0, 3, 4, 5, 6, 7, 8, 9, 10, 11, 12, 13];
    yardOn s = true ∧ rsDecodes s rx = true ∧ (u8 rx.bytes 0 ≠ s.lea.addr ∨ s.lea.addr = 0) ∧ u8 rx.bytes 1 / 16 = 4 ∧ isCoord s = true ∧ s.yrd.rxq.length < 32) = true := by decide +kernel

theorem test_meets_YardCommands_18 : decide (
    let s : State := wYard 0 3;
    let rx : YardRx := wYardRx 7 0 8 [3, 0x31, 255, 0, 0, 0, 0, 0, 0, 0, 0, 0, 0, 3, 4, 5, 6, 7, 8, 9, 10, 11, 12, 13];
    yardOn s = true ∧ rsDecodes s rx = true ∧ u8 rx.bytes 0 = s.lea.addr ∧ s.lea.addr ≠ 0) = true := by decide +kernel

theorem test_meets_YardCommands_19 : decide (
    let s : State := { wYard 0 2 with yrd.naddr := 3, yrd.win := 1 };
    let rx : YardRx := wYardRx 8 0 0 (List.replicate 24 0);
    yardOn s = true ∧ rsDecodes s rx = false ∧ windowOwner s s.yrd.win ≠ s.lea.addr) = true := by decide +kernel

theorem test_meets_YardCommands_20 : decide (
    let s : State := { wYard 0 2 with yrd.naddr := 3, yrd.win := 2 };
    let rx : YardRx := wYardRx 7 4 1 (List.replicate 24 0);
    yardOn s = true ∧ rsDecodes s rx = false ∧ windowOwner s s.yrd.win = s.lea.addr) = true := by decide +kernel

theorem test_meets_YardCommands_21 : decide (
    let s : State := { wYard 0 2 with yrd.miss := 3 };
    yardOn s = true ∧ isCoord s = false ∧ 3 ≤ s.yrd.miss) = true := by decide +kernel

theorem test_meets_YardCommands_22 : decide (
    let s : State := { wYard 0 2 with yrd.miss := 2 };
    (isCoord s = true ∨ s.yrd.miss < 3)) = true := by decide +kernel

theorem test_meets_YardCommands_23 : decide (
    let s : State := wYard 1 1;
    let v : Word := 0x12345678;
    isCoord s = true) = true := by decide +kernel

theorem test_meets_YardCommands_24 : decide (
    let s : State := wYard 0 2;
    let v : Word := 0x12345678;
    isCoord s = false) = true := by decide +kernel

theorem test_meets_NetworkCommands_1 : decide (
    let s : State := wSwitch;
    let p : Fin 2 := 0;
    let ns : Nat := 5;
    let b : Bytes := List.replicate 6 4 ++ List.replicate 54 2;
    swUp s p = true ∧ 60 ≤ b.length ∧ b.length ≤ 1518 ∧ swRoom s (2 * b.length) = true) = true := by decide +kernel

theorem test_meets_NetworkCommands_1_b : decide (
    let s : State := rput F.NET_CFG_EN 7 wSwitch;
    let p : Fin 2 := 0;
    let ns : Nat := 5;
    let b : Bytes := List.replicate 6 1 ++ List.replicate 54 2;
    swUp s p = true ∧ 60 ≤ b.length ∧ b.length ≤ 1518 ∧ swRoom s (2 * b.length) = true) = true := by decide +kernel

theorem test_meets_NetworkCommands_2 : decide (
    let s : State := { wSwitch with net.queue := List.replicate 345 ⟨0, 0, List.replicate 1518 0, 1, 0, false, false⟩ ++ [⟨0, 0, List.replicate 560 0, 1, 0, false, false⟩] };
    let p : Fin 2 := 0;
    let ns : Nat := 5;
    let b : Bytes := List.replicate 6 4 ++ List.replicate 54 2;
    let q : Nat := 1;
    swUp s p = true ∧ 60 ≤ b.length ∧ b.length ≤ 1518 ∧ swPorts (swLearn p b s) p b = [q] ∧ swRoom s b.length = false) = true := by decide +kernel

theorem test_meets_NetworkCommands_3 : decide (
    let s : State := wSwitch;
    let p : Fin 2 := 0;
    let ns : Nat := 5;
    let b : Bytes := List.replicate 1519 2;
    swUp s p = true ∧ 1518 < b.length) = true := by decide +kernel

theorem test_meets_NetworkCommands_4 : decide (
    let s : State := wSwitch;
    let p : Fin 2 := 0;
    let fcs : Bool := true;
    let ns : Nat := 5;
    let b : Bytes := List.replicate 59 2;
    (swUp s p = false ∨ fcs = false ∨ b.length < 60)) = true := by decide +kernel

theorem test_meets_NetworkCommands_4_b : decide (
    let s : State := rput (F.NET_PSTAT_LINK 0) 0 wSwitch;
    let p : Fin 2 := 0;
    let fcs : Bool := true;
    let ns : Nat := 5;
    let b : Bytes := List.replicate 6 4 ++ List.replicate 54 2;
    (swUp s p = false ∨ fcs = false ∨ b.length < 60)) = true := by decide +kernel

theorem test_meets_NetworkCommands_4_c : decide (
    let s : State := wSwitch;
    let p : Fin 2 := 0;
    let fcs : Bool := false;
    let ns : Nat := 5;
    let b : Bytes := List.replicate 6 4 ++ List.replicate 54 2;
    (swUp s p = false ∨ fcs = false ∨ b.length < 60)) = true := by decide +kernel

theorem test_meets_NetworkCommands_5 : decide (
    let s : State := wSwitch;
    let p : Fin 2 := 0;
    let up : Bool := false;
    let fdx : Bool := true;
    let speed : BitVec 2 := 2;
    netOn s = true ∧ nSgMode s p ≠ 0 ∧ rbit s (F.NET_PSTAT_LINK p) ≠ up) = true := by decide +kernel

theorem test_meets_NetworkCommands_6 : decide (
    let s : State := wSwitch;
    let p : Fin 2 := 0;
    let up : Bool := true;
    let fdx : Bool := true;
    let speed : BitVec 2 := 2;
    (netOn s = false ∨ nSgMode s p = 0 ∨ rbit s (F.NET_PSTAT_LINK p) = up)) = true := by decide +kernel

theorem test_meets_NetworkCommands_7 : decide (
    let s : State := rput (F.UA_CFG_EN 0) 1 (wRun []);
    let u : Fin 2 := 0;
    let c : BitVec 8 := 0xFF;
    let perr : Bool := true;
    let ferr : Bool := false;
    uartOn s u = true ∧ (uart s u).de = false) = true := by decide +kernel

theorem test_meets_NetworkCommands_7_b : decide (
    let s : State := { rput (F.UA_CFG_EN 0) 1 (wRun []) with ua := Tab.upd State.reset.ua 0 (fun q => { q with rx := List.replicate 64 (1, false, false) }) };
    let u : Fin 2 := 0;
    let c : BitVec 8 := 0xFF;
    let perr : Bool := true;
    let ferr : Bool := false;
    uartOn s u = true ∧ (uart s u).de = false) = true := by decide +kernel

theorem test_meets_NetworkCommands_8 : decide (
    let s : State := { rput (F.UA_CFG_EN 0) 1 (wRun []) with ua := Tab.upd State.reset.ua 0 (fun q => { q with de := true }) };
    let u : Fin 2 := 0;
    let c : BitVec 8 := 0xFF;
    let perr : Bool := true;
    let ferr : Bool := false;
    (uartOn s u = false ∨ (uart s u).de = true)) = true := by decide +kernel

theorem test_meets_NetworkCommands_8_b : decide (
    let s : State := wRun [];
    let u : Fin 2 := 0;
    let c : BitVec 8 := 0xFF;
    let perr : Bool := true;
    let ferr : Bool := false;
    (uartOn s u = false ∨ (uart s u).de = true)) = true := by decide +kernel

theorem test_meets_NetworkCommands_9 : decide (
    let s : State := { rput (F.UA_CFG_EN 0) 1 (wRun []) with ua := Tab.upd State.reset.ua 0 (fun q => { q with rx := [(5, true, false)] }) };
    let u : Fin 2 := 0;
    let c : Nat := 5;
    let pe : Bool := true;
    let fe : Bool := false;
    let rest : List (Nat × Bool × Bool) := [];
    (uart s u).rx = (c, pe, fe) :: rest) = true := by decide +kernel

theorem test_meets_NetworkCommands_10 : decide (
    let s : State := wRun [];
    let u : Fin 2 := 0;
    (uart s u).rx = []) = true := by decide +kernel

theorem test_meets_NetworkCommands_11 : decide (
    let s : State := wRun [];
    let u : Fin 2 := 0;
    let c : BitVec 8 := 0xFF;
    (uart s u).tx.length < 64) = true := by decide +kernel

theorem test_meets_NetworkCommands_12 : decide (
    let s : State := { rput (F.UA_CFG_EN 0) 1 (wRun []) with ua := Tab.upd State.reset.ua 0 (fun q => { q with tx := List.replicate 64 1 }) };
    let u : Fin 2 := 0;
    let c : BitVec 8 := 0xFF;
    64 ≤ (uart s u).tx.length) = true := by decide +kernel

theorem test_meets_NetworkCommands_13 : decide (
    let s : State := rput (F.UA_CFG_EN 0) 1 (wRun []);
    let u : Fin 2 := 0;
    let chars : Nat := 255;
    uartOn s u = true ∧ max 1 (rget s (F.UA_CFG_IDLE u)) ≤ chars) = true := by decide +kernel

theorem test_meets_NetworkCommands_14 : decide (
    let s : State := rput (F.UA_CFG_EN 0) 1 (wRun []);
    let u : Fin 2 := 0;
    let chars : Nat := 0;
    (uartOn s u = false ∨ chars < max 1 (rget s (F.UA_CFG_IDLE u)))) = true := by decide +kernel

theorem test_meets_BootCommands_1 : decide (
    let s : State := rput F.RST_FAILCNT_THR 4 { State.reset with pwr.boot := .rom, pwr.failCnt := 4 };
    let flash : Bool := true;
    let dram : Bool := true;
    s.pwr.boot = .rom) = true := by decide +kernel

theorem test_meets_BootCommands_1_b : decide (
    let s : State := rput F.RST_FAILCNT_THR 4 { State.reset with pwr.boot := .rom, pwr.failCnt := 3 };
    let flash : Bool := false;
    let dram : Bool := true;
    s.pwr.boot = .rom) = true := by decide +kernel

theorem test_meets_BootCommands_2 : decide (
    let s : State := wRun [];
    let flash : Bool := false;
    let dram : Bool := true;
    s.pwr.boot ≠ .rom) = true := by decide +kernel

theorem test_meets_BootCommands_3 : decide (
    let s : State := rput F.RST_FAILCNT_THR 4 { State.reset with pwr.boot := .rom };
    let flash : Bool := false;
    let dram : Bool := true;
    let l := bootLegal (trialStart (measStart s));
    let r := bootLayout l.2;
    let a := bootSlot 0 r.2;
    s.pwr.boot = .rom ∧ s.loaded = false ∧ s.pwr.failCnt < rget s F.RST_FAILCNT_THR) = true := by decide +kernel

theorem test_meets_BootCommands_4 : decide (
    let s : State := rput F.RST_FAILCNT_THR 4 { State.reset with pwr.boot := .rom };
    let flash : Bool := false;
    let dram : Bool := true;
    let s1 := recWrite (recActive s) (recTry s) 2 (recUnconf s) (u16 (bootRec s) 0xC) (measStart s);
    let good := (List.range 3).all (fun c => !(recTry s).testBit c || slotVerdict s1 c (1 - activeSlot s c) == .ok);
    s.pwr.boot = .rom ∧ s.loaded = false ∧ s.pwr.failCnt < rget s F.RST_FAILCNT_THR) = true := by decide +kernel

theorem test_meets_BootCommands_4_b : decide (
    let s : State := recWrite 1 3 1 0 5 (rput F.RST_FAILCNT_THR 4 { State.reset with pwr.boot := .rom });
    let flash : Bool := false;
    let dram : Bool := true;
    let s1 := recWrite (recActive s) (recTry s) 2 (recUnconf s) (u16 (bootRec s) 0xC) (measStart s);
    let good := (List.range 3).all (fun c => !(recTry s).testBit c || slotVerdict s1 c (1 - activeSlot s c) == .ok);
    s.pwr.boot = .rom ∧ s.loaded = false ∧ s.pwr.failCnt < rget s F.RST_FAILCNT_THR) = true := by decide +kernel

theorem test_meets_BootCommands_4_c : decide (
    let s : State := recWrite 1 3 2 0 5 (rput F.RST_FAILCNT_THR 4 { State.reset with pwr.boot := .rom });
    let flash : Bool := false;
    let dram : Bool := true;
    let s1 := recWrite (recActive s) (recTry s) 2 (recUnconf s) (u16 (bootRec s) 0xC) (measStart s);
    let good := (List.range 3).all (fun c => !(recTry s).testBit c || slotVerdict s1 c (1 - activeSlot s c) == .ok);
    s.pwr.boot = .rom ∧ s.loaded = false ∧ s.pwr.failCnt < rget s F.RST_FAILCNT_THR) = true := by decide +kernel

theorem test_meets_BootCommands_5 : decide (
    let s : State := recWrite 1 3 2 0 5 { wRun [] with pwr.failCnt := 3, pwr.bootOn := true };
    let flash : Bool := false;
    let dram : Bool := true;
    s.pwr.appOn = true ∧ s.pwr.boot = .running ∧ s.pwr.bootOk = false) = true := by decide +kernel

theorem test_meets_BootCommands_6 : decide (
    let s : State := { wRun [] with pwr.bootOk := true };
    let flash : Bool := false;
    let dram : Bool := true;
    (s.pwr.appOn = false ∨ s.pwr.boot ≠ .running ∨ s.pwr.bootOk = true)) = true := by decide +kernel

theorem test_meets_BootCommands_6_b : decide (
    let s : State := { wRun [] with pwr.appOn := false };
    let flash : Bool := false;
    let dram : Bool := true;
    (s.pwr.appOn = false ∨ s.pwr.boot ≠ .running ∨ s.pwr.bootOk = true)) = true := by decide +kernel

theorem test_meets_UpdateCommands_1 : decide (
    let s : State := recWrite 1 0 0 4 5 (wRun []);
    let c : BitVec 4 := 2;
    appOn s = true ∧ s.fwu.busy = none ∧ c.toNat ≤ 2 ∧ (recUnconf s).testBit c.toNat = true) = true := by decide +kernel

theorem test_meets_UpdateCommands_2 : decide (
    let s : State := wRun [];
    let c : BitVec 4 := 3;
    appOn s = true ∧ s.fwu.busy = none ∧ 2 < c.toNat) = true := by decide +kernel

theorem test_meets_UpdateCommands_3 : decide (
    let s : State := memWrite stagedMan (wBytes 0x57 [(0, 0x4D), (1, 0x46), (2, 0x4B), (3, 0x4F), (4, 1), (6, 128), (8, 2), (0x14, 0xC0), (0x15, 1), (0x54, 0x10), (0x55, 0x48), (0x56, 0xB1)]) (wRun []);
    let c : BitVec 4 := 2;
    let m := memRead s stagedMan 65536;
    appOn s = true ∧ s.fwu.busy = none ∧ c.toNat ≤ 2 ∧ (recUnconf s).testBit c.toNat = false ∧ manSizesOk m c.toNat = true ∧ manFormOk m c.toNat = true) = true := by decide +kernel

theorem test_meets_UpdateCommands_4 : decide (
    let s : State := memWrite stagedMan (wBytes 0x57 [(0, 0x4D), (1, 0x46), (2, 0x4B), (3, 0x4F), (4, 2), (6, 128), (8, 2), (0x14, 0xC0), (0x15, 1), (0x54, 0x10), (0x55, 0x48), (0x56, 0xB1)]) (wRun []);
    let c : BitVec 4 := 2;
    let m := memRead s stagedMan 65536;
    appOn s = true ∧ s.fwu.busy = none ∧ c.toNat ≤ 2 ∧ (recUnconf s).testBit c.toNat = false ∧ manSizesOk m c.toNat = true ∧ manFormOk m c.toNat = false) = true := by decide +kernel

theorem test_meets_UpdateCommands_5 : decide (
    let s : State := memWrite stagedMan (wBytes 0x57 [(0, 0x4D), (1, 0x46), (2, 0x4B), (3, 0x4F), (4, 1), (6, 128), (8, 2), (0x13, 1), (0x14, 0xC0), (0x15, 1)]) (wRun []);
    let c : BitVec 4 := 2;
    appOn s = true ∧ s.fwu.busy = none ∧ c.toNat ≤ 2 ∧ (recUnconf s).testBit c.toNat = false ∧ manSizesOk (memRead s stagedMan 65536) c.toNat = false) = true := by decide +kernel

theorem test_meets_UpdateCommands_6 : decide (
    let s : State := { wRun [] with fwu.busy := some (1, 2) };
    let c : BitVec 4 := 2;
    let k : Nat := 2;
    let m := memRead s stagedMan 65536;
    s.fwu.busy = some (1, k)) = true := by decide +kernel

theorem test_meets_UpdateCommands_7 : decide (
    let s : State := wRun [];
    let c : BitVec 4 := 2;
    let flash : Bool := true;
    s.fwu.busy = none) = true := by decide +kernel

theorem test_meets_UpdateCommands_8 : decide (
    let s : State := wRun [];
    let c : BitVec 4 := 2;
    appOn s = true ∧ s.fwu.busy = none) = true := by decide +kernel

theorem test_meets_UpdateCommands_9 : decide (
    let s : State := recWrite 1 0 0 4 5 { wRun [] with pwr.bootOk := true, fwu.run := Tab.upd State.reset.fwu.run 2 (fun _ => wBytes 128 [(0xA, 200)]) };
    let c : BitVec 4 := 2;
    appOn s = true ∧ s.fwu.busy = none ∧ c.toNat ≤ 2 ∧ (recUnconf s).testBit c.toNat = true ∧ s.pwr.bootOk = true) = true := by decide +kernel

theorem test_meets_UpdateCommands_10 : decide (
    let s : State := recWrite 1 0 0 4 5 { wRun [] with pwr.bootOk := false };
    let c : BitVec 4 := 2;
    appOn s = true ∧ s.fwu.busy = none ∧ c.toNat ≤ 2 ∧ ((recUnconf s).testBit c.toNat = false ∨ s.pwr.bootOk = false)) = true := by decide +kernel

theorem test_meets_UpdateCommands_11 : decide (
    let s : State := { wRun [] with fuse.root := Vector.replicate 4 ([1], 7, false) };
    let c : BitVec 4 := 3;
    appOn s = true ∧ s.fwu.busy = none ∧ 1 ≤ c.toNat ∧ c.toNat ≤ 3) = true := by decide +kernel

theorem test_meets_UpdateCommands_11_b : decide (
    let s : State := wRun [];
    let c : BitVec 4 := 1;
    appOn s = true ∧ s.fwu.busy = none ∧ 1 ≤ c.toNat ∧ c.toNat ≤ 3) = true := by decide +kernel

theorem test_meets_UpdateCommands_12 : decide (
    let s : State := wRun [];
    let c : BitVec 4 := 4;
    appOn s = true ∧ s.fwu.busy = none ∧ (c.toNat = 0 ∨ 3 < c.toNat)) = true := by decide +kernel

theorem test_meets_UpdateCommands_13 : decide (
    let s : State := { wRun [] with fwu.busy := some (1, 2) };
    let c : BitVec 4 := 2;
    appOn s = true ∧ s.fwu.busy.isSome = true) = true := by decide +kernel

theorem test_meets_UpdateCommands_14 : decide (
    let s : State := { wRun [] with pwr.appOn := false };
    let c : BitVec 4 := 2;
    appOn s = false) = true := by decide +kernel

theorem test_meets_ActivationCommands_1 : decide (
    let s : State := wLink 1 1 1;
    let rx : LeadRx := wLead 6 1 255 [];
    let p : LPort := .lu;
    let d := fData rx.bytes;
    appOn s = true ∧ s.fwu.busy = none ∧ isCoord s = true) = true := by decide +kernel

theorem test_meets_ActivationCommands_2 : decide (
    let s : State := wLink 1 0 2;
    let rx : LeadRx := wLead 6 1 255 [];
    let p : LPort := .lu;
    let d := fData rx.bytes;
    appOn s = true ∧ s.fwu.busy = none ∧ isCoord s = false) = true := by decide +kernel

theorem test_meets_ActivationCommands_3 : decide (
    let s : State := { wLink 1 1 1 with fwu.lead := true, fwu.act := 1, fwu.actId := 65535 };
    let rx : LeadRx := wLead 6 1 255 [];
    let p : LPort := .lu;
    let d := fData rx.bytes;
    appOn s = true ∧ s.fwu.busy = none ∧ isCoord s = true ∧ s.fwu.lead = true ∧ s.fwu.actId < 65536) = true := by decide +kernel

theorem test_meets_ActivationCommands_4 : decide (
    let s : State := wLink 1 1 1;
    let rx : LeadRx := wLead 6 1 255 [];
    let p : LPort := .lu;
    let d := fData rx.bytes;
    appOn s = true ∧ s.fwu.busy = none ∧ isCoord s = true ∧ s.fwu.lead = false) = true := by decide +kernel

theorem test_meets_ActivationCommands_5 : decide (
    let s : State := { wLink 1 0 2 with lea.luUp := false };
    let rx : LeadRx := wLead 6 1 255 [];
    let p : LPort := .lu;
    let d := fData rx.bytes;
    portOn s p = false) = true := by decide +kernel

theorem test_meets_ActivationCommands_6 : decide (
    let s : State := wLink 1 0 2;
    let rx : LeadRx := { wLead 6 1 255 [] with fcs := false };
    let p : LPort := .lu;
    let d := fData rx.bytes;
    portOn s p = true ∧ leadFault rx = 1) = true := by decide +kernel

theorem test_meets_ActivationCommands_7 : decide (
    let s : State := wLink 1 0 2;
    let rx : LeadRx := ⟨true, true, [0x16, 0, 1, 0, 0, 0, 0xE9, 1, 0]⟩;
    let p : LPort := .ld;
    let d := fData rx.bytes;
    portOn s p = true ∧ leadFault rx = 2) = true := by decide +kernel

theorem test_meets_ActivationCommands_8 : decide (
    let s : State := wLink 1 0 2;
    let rx : LeadRx := wLead 6 1 9 [6, 0];
    let p : LPort := .lu;
    let q : LPort := .ld;
    let d := fData rx.bytes;
    LeadHeard s p rx ∧ leadRoute s p (hDst rx.bytes) = (false, some q) ∧ hTyp rx.bytes = tyCmd) = true := by decide +kernel

theorem test_meets_ActivationCommands_9 : decide (
    let s : State := wLink 1 0 63;
    let rx : LeadRx := wLead 6 1 255 ([6, 0, 7, 1, 1, 0] ++ List.replicate 23 0 ++ [0x80] ++ List.replicate 48 0);
    let p : LPort := .lu;
    let d := fData rx.bytes;
    LeadMine s p rx ∧ hTyp rx.bytes = tyCmd ∧ fOp rx.bytes = 6 ∧ (u64 d 20).testBit s.lea.addr = true ∧ s.lea.addr ≠ 0 ∧ (s.fwu.act = 0 ∨ actLater (u16 d 0) s.fwu.actId = true)) = true := by decide +kernel

theorem test_meets_ActivationCommands_10 : decide (
    let s : State := { wLink 1 0 63 with fwu.act := 1, fwu.actId := 0x107 };
    let rx : LeadRx := wLead 6 1 255 ([6, 0, 7, 1, 1, 0] ++ List.replicate 23 0 ++ [0x80] ++ List.replicate 48 0);
    let p : LPort := .lu;
    let d := fData rx.bytes;
    LeadMine s p rx ∧ hTyp rx.bytes = tyCmd ∧ fOp rx.bytes = 6 ∧ ((u64 d 20).testBit s.lea.addr = false ∨ s.lea.addr = 0 ∨ s.fwu.act ≠ 0 ∧ actLater (u16 d 0) s.fwu.actId = false)) = true := by decide +kernel

theorem test_meets_ActivationCommands_10_b : decide (
    let s : State := wLink 1 0 62;
    let rx : LeadRx := wLead 6 1 255 ([6, 0, 7, 1, 1, 0] ++ List.replicate 23 0 ++ [0x80] ++ List.replicate 48 0);
    let p : LPort := .lu;
    let d := fData rx.bytes;
    LeadMine s p rx ∧ hTyp rx.bytes = tyCmd ∧ fOp rx.bytes = 6 ∧ ((u64 d 20).testBit s.lea.addr = false ∨ s.lea.addr = 0 ∨ s.fwu.act ≠ 0 ∧ actLater (u16 d 0) s.fwu.actId = false)) = true := by decide +kernel

theorem test_meets_ActivationCommands_11 : decide (
    let s : State := { wLink 1 1 1 with fwu.rep := some [6, 0, 1, 2] , tmp.now := 3000, fwu.repAt := 1000 };
    let rx : LeadRx := wLead 6 1 255 [];
    let p : LPort := .lu;
    let b : Bytes := [6, 0, 1, 2];
    let d := fData rx.bytes;
    s.fwu.rep = some b ∧ ((∀ e ∈ s.fwu.repEnd.toList, s.tmp.now ≤ e)) ∧ 2000 ≤ sinceT s s.fwu.repAt ∧ isCoord s = true ∧ portOn s .ld = true) = true := by decide +kernel

theorem test_meets_ActivationCommands_12 : decide (
    let s : State := { wLink 1 1 1 with fwu.rep := some [6, 0, 1, 2] , tmp.now := 3000, fwu.repEnd := some 2999 };
    let rx : LeadRx := wLead 6 1 255 [];
    let p : LPort := .lu;
    let b : Bytes := [6, 0, 1, 2];
    let e : Nat := 2999;
    let d := fData rx.bytes;
    s.fwu.rep = some b ∧ s.fwu.repEnd = some e ∧ e < s.tmp.now) = true := by decide +kernel

theorem test_meets_ActivationCommands_13 : decide (
    let s : State := { wLink 1 1 1 with fwu.rep := some [6, 0, 1, 2], tmp.now := 2999, fwu.repAt := 1000 };
    let rx : LeadRx := wLead 6 1 255 [];
    let p : LPort := .lu;
    let d := fData rx.bytes;
    (s.fwu.rep = none ∨ (∀ e ∈ s.fwu.repEnd.toList, s.tmp.now ≤ e) ∧ (sinceT s s.fwu.repAt < 2000 ∨ isCoord s = false))) = true := by decide +kernel

theorem test_meets_ActivationCommands_13_b : decide (
    let s : State := wLink 1 1 1;
    let rx : LeadRx := wLead 6 1 255 [];
    let p : LPort := .lu;
    let d := fData rx.bytes;
    (s.fwu.rep = none ∨ (∀ e ∈ s.fwu.repEnd.toList, s.tmp.now ≤ e) ∧ (sinceT s s.fwu.repAt < 2000 ∨ isCoord s = false))) = true := by decide +kernel

theorem test_meets_ActivationCommands_14 : decide (
    let s : State := { wLink 1 1 1 with fwu.lead := true, fwu.act := 1, fwu.members := 4, fwu.mask := 1, fwu.early := 50000000, lea.nodes := Tab.upd State.reset.lea.nodes 2 (fun n => { n with seen := some 999, state := 32, staged := 7 }) };
    let rx : LeadRx := wLead 6 1 255 [];
    let p : LPort := .lu;
    let d := fData rx.bytes;
    netOn s = true ∧ isCoord s = true ∧ s.fwu.lead = true ∧ s.fwu.early ≤ s.tmp.chain ∧ ((∀ a ∈ members s, memberIdle s a = true ∧ memberStaged s a = true)) ∧ s.fwu.actId < 65536 ∧ s.tmp.chain + 20000000 < 2 ^ 64) = true := by decide +kernel

theorem test_meets_ActivationCommands_15 : decide (
    let s : State := { wLink 1 1 1 with fwu.lead := true, fwu.act := 1, fwu.members := 4, fwu.mask := 1, fwu.early := 50000000, lea.nodes := Tab.upd State.reset.lea.nodes 2 (fun n => { n with seen := some 999, state := 0, staged := 7 }) };
    let rx : LeadRx := wLead 6 1 255 [];
    let p : LPort := .lu;
    let d := fData rx.bytes;
    (netOn s = false ∨ isCoord s = false ∨ s.fwu.lead = false ∨ s.tmp.chain < s.fwu.early ∨ (members s).all (fun a => memberIdle s a && memberStaged s a) = false)) = true := by decide +kernel

theorem test_meets_ActivationCommands_16 : decide (
    let s : State := { wLink 1 0 2 with fwu.act := 1, fwu.actId := 0x107 };
    let rx : LeadRx := wLead 6 1 255 [7, 0, 7, 1, 0, 0, 0, 0, 0, 0, 0x80, 0xF0, 0xFA, 2, 0, 0, 0, 0];
    let p : LPort := .lu;
    let d := fData rx.bytes;
    LeadMine s p rx ∧ hTyp rx.bytes = tyCmd ∧ fOp rx.bytes = 7 ∧ s.fwu.act = 1 ∧ u16 d 0 = s.fwu.actId ∧ s.tmp.chain ≤ u64 d 8) = true := by decide +kernel

theorem test_meets_ActivationCommands_17 : decide (
    let s : State := { wLink 1 0 2 with fwu.act := 1, fwu.actId := 0x108 };
    let rx : LeadRx := wLead 6 1 255 [7, 0, 7, 1, 0, 0, 0, 0, 0, 0, 0x80, 0xF0, 0xFA, 2, 0, 0, 0, 0];
    let p : LPort := .lu;
    let d := fData rx.bytes;
    LeadMine s p rx ∧ hTyp rx.bytes = tyCmd ∧ fOp rx.bytes = 7 ∧ (s.fwu.act ≠ 1 ∨ u16 d 0 ≠ s.fwu.actId ∨ u64 d 8 < s.tmp.chain)) = true := by decide +kernel

theorem test_meets_ActivationCommands_18 : decide (
    let s : State := { wLink 1 0 2 with fwu.act := 2, fwu.restart := 50000000 };
    let rx : LeadRx := wLead 6 1 255 [];
    let p : LPort := .lu;
    let d := fData rx.bytes;
    s.fwu.act = 2 ∧ s.fwu.restart ≤ s.tmp.chain ∧ ((∀ n : Fin 4, (outShown s n).st ∈ [OutSt.idle, .plugged, .authWait, .oos]))) = true := by decide +kernel

theorem test_meets_ActivationCommands_19 : decide (
    let s : State := { wLink 1 0 2 with fwu.act := 2, fwu.restart := 50000000, outsF := Tab.upd State.reset.outsF 0 (fun o => { o with st := .energy }) };
    let rx : LeadRx := wLead 6 1 255 [];
    let p : LPort := .lu;
    let n : Fin 4 := 0;
    let d := fData rx.bytes;
    s.fwu.act = 2 ∧ s.fwu.restart ≤ s.tmp.chain ∧ (outShown s n).st ∉ [OutSt.idle, .plugged, .authWait, .oos]) = true := by decide +kernel

theorem test_meets_ActivationCommands_20 : decide (
    let s : State := { wLink 1 0 2 with fwu.act := 2, fwu.restart := 50000001 };
    let rx : LeadRx := wLead 6 1 255 [];
    let p : LPort := .lu;
    let d := fData rx.bytes;
    (s.fwu.act ≠ 2 ∨ s.tmp.chain < s.fwu.restart)) = true := by decide +kernel

theorem test_meets_ActivationCommands_21 : decide (
    let s : State := { wLink 1 1 1 with fwu.lead := true, fwu.act := 1, fwu.latest := 49999999 };
    let rx : LeadRx := wLead 6 1 255 [];
    let p : LPort := .lu;
    let d := fData rx.bytes;
    isCoord s = true ∧ s.fwu.lead = true ∧ s.fwu.latest < s.tmp.chain ∧ s.fwu.actId < 65536) = true := by decide +kernel

theorem test_meets_ActivationCommands_22 : decide (
    let s : State := { wLink 1 1 1 with fwu.lead := true, fwu.act := 1, fwu.latest := 50000000 };
    let rx : LeadRx := wLead 6 1 255 [];
    let p : LPort := .lu;
    let d := fData rx.bytes;
    (isCoord s = false ∨ s.fwu.lead = false ∨ s.tmp.chain ≤ s.fwu.latest)) = true := by decide +kernel

theorem test_meets_ActivationCommands_23 : decide (
    let s : State := { wLink 1 0 2 with fwu.act := 2, fwu.actId := 0x107 };
    let rx : LeadRx := wLead 6 1 255 [8, 0, 7, 1, 0, 0, 0, 0, 0, 0];
    let p : LPort := .lu;
    let d := fData rx.bytes;
    LeadMine s p rx ∧ hTyp rx.bytes = tyCmd ∧ fOp rx.bytes = 8 ∧ s.fwu.act ≠ 0 ∧ u16 d 0 = s.fwu.actId) = true := by decide +kernel

theorem test_meets_ActivationCommands_24 : decide (
    let s : State := { wLink 1 0 2 with fwu.act := 2, fwu.actId := 0x108 };
    let rx : LeadRx := wLead 6 1 255 [8, 0, 7, 1, 0, 0, 0, 0, 0, 0];
    let p : LPort := .lu;
    let d := fData rx.bytes;
    LeadMine s p rx ∧ hTyp rx.bytes = tyCmd ∧ fOp rx.bytes = 8 ∧ (s.fwu.act = 0 ∨ u16 d 0 ≠ s.fwu.actId)) = true := by decide +kernel

theorem test_meets_ActivationCommands_25 : decide (
    let s : State := { wLink 1 0 2 with fwu.act := 1, tmp.chain := 1000000007, fwu.latest := 7 };
    let rx : LeadRx := wLead 6 1 255 [];
    let p : LPort := .lu;
    let d := fData rx.bytes;
    s.fwu.act = 1 ∧ s.fwu.latest + 1000000000 ≤ s.tmp.chain) = true := by decide +kernel

theorem test_meets_ActivationCommands_26 : decide (
    let s : State := { wLink 1 0 2 with fwu.act := 1, tmp.chain := 1000000007, fwu.latest := 8 };
    let rx : LeadRx := wLead 6 1 255 [];
    let p : LPort := .lu;
    let d := fData rx.bytes;
    (s.fwu.act ≠ 1 ∨ s.tmp.chain < s.fwu.latest + 1000000000)) = true := by decide +kernel

theorem test_meets_RecoveryAndUnlock_1 : decide (
    let s : State := { wRun [] with pwr.boot := .stalemate, pwr.rtc := 163840 };
    s.pwr.boot = .stalemate ∧ s.fwu.recShown + 163840 ≤ s.pwr.rtc) = true := by decide +kernel

theorem test_meets_RecoveryAndUnlock_2 : decide (
    let s : State := { wRun [] with pwr.boot := .stalemate };
    let alt : Fin 3 := 2;
    let data : Bytes := wBytes 448 [(0x14, 0xC0), (0x15, 1)];
    let n := manManlen data;
    let rd := fun off k => slice data (n + off) k;
    let k := if slotVerdict s alt (activeSlot s alt) = .ok then 1 - activeSlot s alt else activeSlot s alt;
    let s1 := imageWrite alt k ((data.take n).take (manManlen (data.take n))) (rd 0 (manImglen (data.take n))) (flashErase alt k s);
    s.pwr.boot = .stalemate ∧ n + manImglen data ≤ data.length) = true := by decide +kernel

theorem test_meets_RecoveryAndUnlock_3 : decide (
    let s : State := { wRun [] with pwr.boot := .stalemate };
    let alt : Fin 3 := 2;
    let data : Bytes := wBytes 447 [(0x14, 0xC0), (0x15, 1)];
    (s.pwr.boot ≠ .stalemate ∨ data.length < manManlen data + manImglen data)) = true := by decide +kernel

theorem test_meets_RecoveryAndUnlock_3_b : decide (
    let s : State := { wRun [] with pwr.boot := .rom };
    let alt : Fin 3 := 2;
    let data : Bytes := wBytes 448 [(0x14, 0xC0), (0x15, 1)];
    (s.pwr.boot ≠ .stalemate ∨ data.length < manManlen data + manImglen data)) = true := by decide +kernel

theorem test_meets_RecoveryAndUnlock_4 : decide (
    let s : State := { wRun [] with pwr.boot := .stalemate, pwr.rtc := 163839 };
    s.pwr.boot = .stalemate ∧ s.pwr.rtc < s.fwu.recShown + 163840) = true := by decide +kernel

theorem test_meets_RecoveryAndUnlock_5 : decide (
    let s : State := wRun [];
    s.pwr.boot ≠ .stalemate) = true := by decide +kernel

theorem test_meets_RecoveryAndUnlock_6 : decide (
    let s : State := { wRun [] with pwr.boot := .stalemate, pwr.rtc := 32768 };
    let all := (List.range 3).all (fun c => slotVerdict s c 0 == .ok || slotVerdict s c 1 == .ok);
    s.pwr.boot = .stalemate ∧ s.lea.xfer = none ∧ s.fwu.recAt + 32768 ≤ s.pwr.rtc) = true := by decide +kernel

theorem test_meets_RecoveryAndUnlock_7 : decide (
    let s : State := { wRun [] with pwr.boot := .stalemate, pwr.rtc := 32767 };
    s.pwr.boot = .stalemate ∧ (s.lea.xfer ≠ none ∨ s.pwr.rtc < s.fwu.recAt + 32768)) = true := by decide +kernel

theorem test_meets_RecoveryAndUnlock_8 : decide (
    let s : State := rput F.SYS_OPT_DBG 1 { wRun [] with tmp.now := 300000, fwu.dbgTry := some 100000 };
    let token : Bytes := wBytes 112 [];
    s.pwr.boot = .running ∧ rget s F.SYS_OPT_DBG = 1 ∧ s.key.rngFail = false ∧ ((∀ a ∈ s.fwu.dbgTry.toList, 200000 ≤ sinceT s a))) = true := by decide +kernel

theorem test_meets_RecoveryAndUnlock_9 : decide (
    let s : State := rput F.SYS_OPT_DBG 1 { wRun [] with tmp.now := 299999, fwu.dbgTry := some 100000 };
    let token : Bytes := wBytes 112 [];
    (s.pwr.boot ≠ .running ∨ rget s F.SYS_OPT_DBG ≠ 1 ∨ s.key.rngFail = true ∨ (s.fwu.dbgTry ≠ none ∧ ∀ a ∈ s.fwu.dbgTry.toList, sinceT s a < 200000))) = true := by decide +kernel

theorem test_meets_RecoveryAndUnlock_9_b : decide (
    let s : State := wRun [];
    let token : Bytes := [];
    (s.pwr.boot ≠ .running ∨ rget s F.SYS_OPT_DBG ≠ 1 ∨ s.key.rngFail = true ∨ (s.fwu.dbgTry ≠ none ∧ ∀ a ∈ s.fwu.dbgTry.toList, sinceT s a < 200000))) = true := by decide +kernel

theorem test_meets_KeyCommands_1 : decide (
    let s : State := rput (F.KEY_SLOTDATA_DATA 0) 0x12345678 (wRun []);
    let slot : BitVec 6 := 63;
    let typ : BitVec 4 := 8;
    let pol : BitVec 5 := 4;
    let len : BitVec 7 := 0;
    keyOn s = true ∧ s.key.cmd = none) = true := by decide +kernel

theorem test_meets_KeyCommands_2 : decide (
    let s : State := wRun [];
    let slot : BitVec 6 := 63;
    let pol : BitVec 5 := 16;
    keyOn s = true ∧ s.key.cmd = none) = true := by decide +kernel

theorem test_meets_KeyCommands_3 : decide (
    let s : State := wRun [];
    let slot : BitVec 6 := 63;
    keyOn s = true ∧ s.key.cmd = none) = true := by decide +kernel

theorem test_meets_KeyCommands_4 : decide (
    let s : State := { wRun [] with key.cmd := some ⟨1, 63, 8, 20, 0, []⟩ };
    let slot : BitVec 6 := 63;
    let typ : BitVec 4 := 8;
    let pol : BitVec 5 := 4;
    let len : BitVec 7 := 0;
    (s.key.cmd.isSome = true ∨ keyOn s = false)) = true := by decide +kernel

theorem test_meets_KeyCommands_4_b : decide (
    let s : State := { wRun [] with pwr.safeOn := false };
    let slot : BitVec 6 := 63;
    let typ : BitVec 4 := 8;
    let pol : BitVec 5 := 4;
    let len : BitVec 7 := 0;
    (s.key.cmd.isSome = true ∨ keyOn s = false)) = true := by decide +kernel

theorem test_meets_KeyCommands_5 : decide (
    let c : KCmd := ⟨1, 63, 8, 20, 0, wBytes 64 [(0, 1), (15, 9)]⟩;
    let s : State := rput (F.KEY_SLOTDATA_DATA 15) 7 { wRun [] with key.cmd := some c };
    let n := if c.typ = tySecret then c.len else typLen c.typ;
    let off := (typPriv c.typ && !Config.scalarOk c.typ (c.data.take n)) || (typPub c.typ && !Config.pointOk c.typ (c.data.take n));
    let bad := off || !allZero (c.data.drop n) || decide (c.pol &&& typPolicy c.typ ≠ c.pol);
    s.key.cmd = some c ∧ c.op = 1 ∧ 1 ≤ c.typ ∧ c.typ ≤ 0xB ∧ c.typ ≠ tyP521 ∧ ((c.typ = tySecret → 1 ≤ c.len)) ∧ ((c.typ = tySecret → c.len ≤ 64)) ∧ 4 ≤ c.slot ∧ c.slot < 64 ∧ pairHalf s c.slot = false) = true := by decide +kernel

theorem test_meets_KeyCommands_5_b : decide (
    let c : KCmd := ⟨1, 4, 8, 20, 0, wBytes 64 [(0, 1), (16, 9)]⟩;
    let s : State := rput (F.KEY_SLOTDATA_DATA 15) 7 { wRun [] with key.cmd := some c };
    let n := if c.typ = tySecret then c.len else typLen c.typ;
    let off := (typPriv c.typ && !Config.scalarOk c.typ (c.data.take n)) || (typPub c.typ && !Config.pointOk c.typ (c.data.take n));
    let bad := off || !allZero (c.data.drop n) || decide (c.pol &&& typPolicy c.typ ≠ c.pol);
    s.key.cmd = some c ∧ c.op = 1 ∧ 1 ≤ c.typ ∧ c.typ ≤ 0xB ∧ c.typ ≠ tyP521 ∧ ((c.typ = tySecret → 1 ≤ c.len)) ∧ ((c.typ = tySecret → c.len ≤ 64)) ∧ 4 ≤ c.slot ∧ c.slot < 64 ∧ pairHalf s c.slot = false) = true := by decide +kernel

theorem test_meets_KeyCommands_5_c : decide (
    let c : KCmd := ⟨1, 4, 8, 1, 0, wBytes 64 [(0, 1)]⟩;
    let s : State := { wRun [] with key.cmd := some c };
    let n := if c.typ = tySecret then c.len else typLen c.typ;
    let off := (typPriv c.typ && !Config.scalarOk c.typ (c.data.take n)) || (typPub c.typ && !Config.pointOk c.typ (c.data.take n));
    let bad := off || !allZero (c.data.drop n) || decide (c.pol &&& typPolicy c.typ ≠ c.pol);
    s.key.cmd = some c ∧ c.op = 1 ∧ 1 ≤ c.typ ∧ c.typ ≤ 0xB ∧ c.typ ≠ tyP521 ∧ ((c.typ = tySecret → 1 ≤ c.len)) ∧ ((c.typ = tySecret → c.len ≤ 64)) ∧ 4 ≤ c.slot ∧ c.slot < 64 ∧ pairHalf s c.slot = false) = true := by decide +kernel

theorem test_meets_KeyCommands_5_d : decide (
    let c : KCmd := ⟨1, 4, 0xB, 24, 64, wBytes 64 [(63, 1)]⟩;
    let s : State := setSlot 4 ⟨6, 16, 3, [1, 2, 3], [4, 5, 6]⟩ (setSlot 5 ⟨6, 16, 2, [1, 2], [4, 5]⟩ { wRun [] with key.cmd := some c });
    let n := if c.typ = tySecret then c.len else typLen c.typ;
    let off := (typPriv c.typ && !Config.scalarOk c.typ (c.data.take n)) || (typPub c.typ && !Config.pointOk c.typ (c.data.take n));
    let bad := off || !allZero (c.data.drop n) || decide (c.pol &&& typPolicy c.typ ≠ c.pol);
    s.key.cmd = some c ∧ c.op = 1 ∧ 1 ≤ c.typ ∧ c.typ ≤ 0xB ∧ c.typ ≠ tyP521 ∧ ((c.typ = tySecret → 1 ≤ c.len)) ∧ ((c.typ = tySecret → c.len ≤ 64)) ∧ 4 ≤ c.slot ∧ c.slot < 64 ∧ pairHalf s c.slot = false) = true := by decide +kernel

theorem test_meets_KeyCommands_5_e : decide (
    let c : KCmd := ⟨1, 5, 2, 2, 0, wBytes 64 [(63, 1)]⟩;
    let s : State := { wRun [] with key.cmd := some c };
    let n := if c.typ = tySecret then c.len else typLen c.typ;
    let off := (typPriv c.typ && !Config.scalarOk c.typ (c.data.take n)) || (typPub c.typ && !Config.pointOk c.typ (c.data.take n));
    let bad := off || !allZero (c.data.drop n) || decide (c.pol &&& typPolicy c.typ ≠ c.pol);
    s.key.cmd = some c ∧ c.op = 1 ∧ 1 ≤ c.typ ∧ c.typ ≤ 0xB ∧ c.typ ≠ tyP521 ∧ ((c.typ = tySecret → 1 ≤ c.len)) ∧ ((c.typ = tySecret → c.len ≤ 64)) ∧ 4 ≤ c.slot ∧ c.slot < 64 ∧ pairHalf s c.slot = false) = true := by decide +kernel

theorem test_meets_KeyCommands_6 : decide (
    let c : KCmd := ⟨1, 62, 6, 16, 0, wBytes 64 [(63, 1)]⟩;
    let s : State := setSlot 62 ⟨8, 16, 3, [1, 2, 3], [4, 5, 6]⟩ { wRun [] with key.cmd := some c };
    let v := leBytes 2 (freeNat s).1;
    let bad := !Config.scalarOk tyP521 (c.data ++ v) || decide (c.pol &&& typPolicy tyP521 ≠ c.pol);
    s.key.cmd = some c ∧ c.op = 1 ∧ c.typ = tyP521 ∧ 4 ≤ c.slot ∧ c.slot < 64 ∧ c.slot % 2 = 0 ∧ c.data.length = 64) = true := by decide +kernel

theorem test_meets_KeyCommands_6_b : decide (
    let c : KCmd := ⟨1, 62, 6, 4, 0, wBytes 64 [(63, 1)]⟩;
    let s : State := setSlot 62 ⟨8, 16, 3, [1, 2, 3], [4, 5, 6]⟩ { wRun [] with key.cmd := some c };
    let v := leBytes 2 (freeNat s).1;
    let bad := !Config.scalarOk tyP521 (c.data ++ v) || decide (c.pol &&& typPolicy tyP521 ≠ c.pol);
    s.key.cmd = some c ∧ c.op = 1 ∧ c.typ = tyP521 ∧ 4 ≤ c.slot ∧ c.slot < 64 ∧ c.slot % 2 = 0 ∧ c.data.length = 64) = true := by decide +kernel

theorem test_meets_KeyCommands_7 : decide (
    let c : KCmd := ⟨1, 63, 6, 16, 0, wBytes 64 [(63, 1)]⟩;
    let s : State := rput (F.KEY_SLOTDATA_DATA 15) 7 { wRun [] with key.cmd := some c };
    s.key.cmd = some c ∧ c.op = 1 ∧ c.typ = tyP521 ∧ 4 ≤ c.slot ∧ c.slot < 64 ∧ c.slot % 2 = 1 ∧ pairHalf s c.slot = false) = true := by decide +kernel

theorem test_meets_KeyCommands_8 : decide (
    let c : KCmd := ⟨1, 3, 8, 4, 0, wBytes 64 [(0, 1)]⟩;
    let s : State := rput (F.KEY_SLOTDATA_DATA 15) 7 { wRun [] with key.cmd := some c };
    s.key.cmd = some c ∧ c.op = 1 ∧ ((c.typ = tySecret → c.len ≤ 64)) ∧ (c.slot < 4 ∨ pairHalf s c.slot = true)) = true := by decide +kernel

theorem test_meets_KeyCommands_8_b : decide (
    let c : KCmd := ⟨1, 5, 8, 4, 0, wBytes 64 [(0, 1)]⟩;
    let s : State := setSlot 4 ⟨6, 16, 3, [1, 2, 3], [4, 5, 6]⟩ (setSlot 5 ⟨6, 16, 2, [1, 2], [4, 5]⟩ { wRun [] with key.cmd := some c });
    s.key.cmd = some c ∧ c.op = 1 ∧ ((c.typ = tySecret → c.len ≤ 64)) ∧ (c.slot < 4 ∨ pairHalf s c.slot = true)) = true := by decide +kernel

theorem test_meets_KeyCommands_9 : decide (
    let c : KCmd := ⟨1, 4, 0, 0, 0, wBytes 64 [(0, 1)]⟩;
    let s : State := rput (F.KEY_SLOTDATA_DATA 15) 7 { wRun [] with key.cmd := some c };
    s.key.cmd = some c ∧ c.op = 1 ∧ 4 ≤ c.slot ∧ pairHalf s c.slot = false ∧ (c.typ = 0 ∨ 0xB < c.typ ∨ c.typ = tySecret ∧ c.len = 0)) = true := by decide +kernel

theorem test_meets_KeyCommands_9_b : decide (
    let c : KCmd := ⟨1, 4, 12, 0, 0, wBytes 64 [(0, 1)]⟩;
    let s : State := rput (F.KEY_SLOTDATA_DATA 15) 7 { wRun [] with key.cmd := some c };
    s.key.cmd = some c ∧ c.op = 1 ∧ 4 ≤ c.slot ∧ pairHalf s c.slot = false ∧ (c.typ = 0 ∨ 0xB < c.typ ∨ c.typ = tySecret ∧ c.len = 0)) = true := by decide +kernel

theorem test_meets_KeyCommands_9_c : decide (
    let c : KCmd := ⟨1, 4, 0xB, 8, 0, wBytes 64 [(0, 1)]⟩;
    let s : State := rput (F.KEY_SLOTDATA_DATA 15) 7 { wRun [] with key.cmd := some c };
    s.key.cmd = some c ∧ c.op = 1 ∧ 4 ≤ c.slot ∧ pairHalf s c.slot = false ∧ (c.typ = 0 ∨ 0xB < c.typ ∨ c.typ = tySecret ∧ c.len = 0)) = true := by decide +kernel

theorem test_meets_KeyCommands_10 : decide (
    let c : KCmd := ⟨1, 4, 0xB, 8, 65, wBytes 64 [(0, 1)]⟩;
    let s : State := rput (F.KEY_SLOTDATA_DATA 15) 7 { wRun [] with key.cmd := some c };
    s.key.cmd = some c ∧ c.op = 1 ∧ c.typ = tySecret ∧ 64 < c.len) = true := by decide +kernel

theorem test_meets_KeyCommands_10_b : decide (
    let c : KCmd := ⟨1, 3, 0xB, 8, 65, wBytes 64 [(0, 1)]⟩;
    let s : State := rput F.KEY_LENERR_COUNT 65535 { wRun [] with key.cmd := some c };
    s.key.cmd = some c ∧ c.op = 1 ∧ c.typ = tySecret ∧ 64 < c.len) = true := by decide +kernel

theorem test_meets_KeyCommands_11 : decide (
    let c : KCmd := ⟨2, 4, 0, 16, 0, []⟩;
    let s : State := setSlot 4 ⟨8, 4, 3, [1, 2, 3], [4, 5, 6]⟩ { wRun [] with key.cmd := some c };
    let p := ((kslot s c.slot).pol &&& c.pol) ||| ((kslot s c.slot).pol &&& 16) ||| (if (kslot s c.slot).typ = 0 then 0 else c.pol &&& 16);
    let k := c.slot - c.slot % 2 + (1 - c.slot % 2);
    s.key.cmd = some c ∧ c.op = 2 ∧ 4 ≤ c.slot ∧ c.slot < 64) = true := by decide +kernel

theorem test_meets_KeyCommands_11_b : decide (
    let c : KCmd := ⟨2, 63, 0, 1, 0, []⟩;
    let s : State := setSlot 62 ⟨6, 25, 3, [1, 2, 3], [4, 5, 6]⟩ (setSlot 63 ⟨6, 9, 3, [1, 2, 3], [4, 5, 6]⟩ { wRun [] with key.cmd := some c });
    let p := ((kslot s c.slot).pol &&& c.pol) ||| ((kslot s c.slot).pol &&& 16) ||| (if (kslot s c.slot).typ = 0 then 0 else c.pol &&& 16);
    let k := c.slot - c.slot % 2 + (1 - c.slot % 2);
    s.key.cmd = some c ∧ c.op = 2 ∧ 4 ≤ c.slot ∧ c.slot < 64) = true := by decide +kernel

theorem test_meets_KeyCommands_12 : decide (
    let c : KCmd := ⟨3, 5, 0, 16, 0, []⟩;
    let s : State := setSlot 4 ⟨6, 16, 3, [1, 2, 3], [4, 5, 6]⟩ (setSlot 5 ⟨6, 16, 2, [1, 2], [4, 5]⟩ { wRun [] with key.cmd := some c });
    let k := c.slot - c.slot % 2 + (1 - c.slot % 2);
    s.key.cmd = some c ∧ c.op = 3 ∧ 4 ≤ c.slot ∧ c.slot < 64) = true := by decide +kernel

theorem test_meets_KeyCommands_12_b : decide (
    let c : KCmd := ⟨3, 62, 0, 16, 0, []⟩;
    let s : State := setSlot 62 ⟨8, 16, 3, [1, 2, 3], [4, 5, 6]⟩ (setSlot 63 ⟨8, 16, 2, [1, 2], [4, 5]⟩ { wRun [] with key.cmd := some c });
    let k := c.slot - c.slot % 2 + (1 - c.slot % 2);
    s.key.cmd = some c ∧ c.op = 3 ∧ 4 ≤ c.slot ∧ c.slot < 64) = true := by decide +kernel

theorem test_meets_KeyCommands_13 : decide (
    let c : KCmd := ⟨3, 3, 0, 16, 0, []⟩;
    let s : State := { wRun [] with key.cmd := some c };
    s.key.cmd = some c ∧ (c.op = 2 ∨ c.op = 3) ∧ c.slot < 4) = true := by decide +kernel

theorem test_meets_KeyCommands_13_b : decide (
    let c : KCmd := ⟨2, 0, 0, 16, 0, []⟩;
    let s : State := { wRun [] with key.cmd := some c };
    s.key.cmd = some c ∧ (c.op = 2 ∨ c.op = 3) ∧ c.slot < 4) = true := by decide +kernel

theorem test_meets_KeyCommands_14 : decide (
    let c : KCmd := ⟨0, 3, 0, 16, 0, []⟩;
    let s : State := { wRun [] with key.cmd := some c };
    s.key.cmd = some c ∧ (c.op = 0 ∨ 3 < c.op)) = true := by decide +kernel

theorem test_meets_KeyCommands_14_b : decide (
    let c : KCmd := ⟨4, 3, 0, 16, 0, []⟩;
    let s : State := { wRun [] with key.cmd := some c };
    s.key.cmd = some c ∧ (c.op = 0 ∨ 3 < c.op)) = true := by decide +kernel

theorem test_meets_KeyCommands_11_c : decide (
    let c : KCmd := ⟨2, 62, 0, 31, 0, []⟩;
    let s : State := { wRun [] with key.cmd := some c };
    let p := ((kslot s c.slot).pol &&& c.pol) ||| ((kslot s c.slot).pol &&& 16) ||| (if (kslot s c.slot).typ = 0 then 0 else c.pol &&& 16);
    let k := c.slot - c.slot % 2 + (1 - c.slot % 2);
    s.key.cmd = some c ∧ c.op = 2 ∧ 4 ≤ c.slot ∧ c.slot < 64) = true := by decide +kernel

theorem test_meets_KeyCommands_15 : decide (
    let s : State := wRun [];
    s.key.cmd = none) = true := by decide +kernel

theorem test_meets_KeyCommands_16 : decide (
    let s : State := { wRun [] with key.cmd := some ⟨1, 5, 8, 4, 0, []⟩, key.sweep := 6, key.passes := 5 };
    keyOn s = true ∧ s.key.rngFail = false ∧ s.key.sweep < 64 ∧ filling s s.key.sweep = false) = true := by decide +kernel

theorem test_meets_KeyCommands_16_b : decide (
    let s : State := setSlot 63 ⟨8, 4, 64, wBytes 64 [(2, 9)], wBytes 64 [(63, 9)]⟩ { wRun [] with key.sweep := 63, key.passes := 4294967295 };
    keyOn s = true ∧ s.key.rngFail = false ∧ s.key.sweep < 64 ∧ filling s s.key.sweep = false) = true := by decide +kernel

theorem test_meets_KeyCommands_16_c : decide (
    let s : State := setSlot 0 ⟨8, 4, 3, [1, 2, 3], [4, 5, 6, 7]⟩ { wRun [] with key.sweep := 0, key.passes := 5 };
    keyOn s = true ∧ s.key.rngFail = false ∧ s.key.sweep < 64 ∧ filling s s.key.sweep = false) = true := by decide +kernel

theorem test_meets_KeyCommands_17 : decide (
    let c : KCmd := ⟨1, 62, 6, 16, 0, []⟩;
    let s : State := { wRun [] with key.sweep := 63, key.passes := 4294967295, key.cmd := some c };
    keyOn s = true ∧ s.key.rngFail = false ∧ s.key.sweep < 64 ∧ s.key.cmd = some c ∧ c.op = 1 ∧ (c.slot = s.key.sweep ∨ c.typ = tyP521 ∧ c.slot + 1 = s.key.sweep)) = true := by decide +kernel

theorem test_meets_KeyCommands_17_b : decide (
    let c : KCmd := ⟨1, 4, 8, 4, 0, []⟩;
    let s : State := { wRun [] with key.sweep := 4, key.passes := 5, key.cmd := some c };
    keyOn s = true ∧ s.key.rngFail = false ∧ s.key.sweep < 64 ∧ s.key.cmd = some c ∧ c.op = 1 ∧ (c.slot = s.key.sweep ∨ c.typ = tyP521 ∧ c.slot + 1 = s.key.sweep)) = true := by decide +kernel

theorem test_meets_KeyCommands_18 : decide (
    let s : State := { wRun [] with key.rngFail := true };
    (keyOn s = false ∨ s.key.rngFail = true)) = true := by decide +kernel

theorem test_meets_KeyCommands_18_b : decide (
    let s : State := { wRun [] with pwr.safeOn := false };
    (keyOn s = false ∨ s.key.rngFail = true)) = true := by decide +kernel

theorem test_meets_KeyCommands_19 : decide (
    let s : State := wRun [];
    s.key.rngFail = false) = true := by decide +kernel

theorem test_meets_KeyCommands_20 : decide (
    let s : State := { wRun [] with key.rngFail := true };
    s.key.rngFail = true) = true := by decide +kernel

theorem test_meets_KeyCommands_21 : decide (
    let s : State := wRun [];
    s.key.rngFail = false) = true := by decide +kernel

theorem test_meets_KeyCommands_22 : decide (
    let s : State := { wRun [] with key.rngFail := true };
    s.key.rngFail = true) = true := by decide +kernel

theorem test_meets_KeyCommands_23 : decide (
    let s : State := wRun [];
    let k : Fin 2 := 1;
    Tab.get false s.key.src (1 - k.val) = true) = true := by decide +kernel

theorem test_meets_KeyCommands_24 : decide (
    let s : State := { wRun [] with key.src := Vector.replicate 2 false, key.rngOk := true };
    let k : Fin 2 := 1;
    Tab.get false s.key.src (1 - k.val) = false) = true := by decide +kernel

theorem test_meets_JobOutputs_1 : decide (
    let s : State := wJob 8 4 [(0, 1), (3, 3)];
    let d : Nat := 0x800000000;
    let j := jobOf s (memRead s d 32);
    let n := if j.alg = 2 then 48 else if j.alg = 3 then 64 else 32;
    let w := jobMem j.dst n;
    JobDue s d 1 ∧ j.alg ≤ 3 ∧ (j.len = 0 ∨ jobMem j.src j.len = true) ∧ j.len ≤ 65536) = true := by decide +kernel

theorem test_meets_JobOutputs_1_b : decide (
    let s : State := wJob 8 4 [(0, 1), (3, 0), (6, 1)];
    let d : Nat := 0x800000000;
    let j := jobOf s (memRead s d 32);
    let n := if j.alg = 2 then 48 else if j.alg = 3 then 64 else 32;
    let w := jobMem j.dst n;
    JobDue s d 1 ∧ j.alg ≤ 3 ∧ (j.len = 0 ∨ jobMem j.src j.len = true) ∧ j.len ≤ 65536) = true := by decide +kernel

theorem test_meets_JobOutputs_1_c : decide (
    let s : State := wJob 8 4 [(0, 1), (3, 2), (0x14, 0)];
    let d : Nat := 0x800000000;
    let j := jobOf s (memRead s d 32);
    let n := if j.alg = 2 then 48 else if j.alg = 3 then 64 else 32;
    let w := jobMem j.dst n;
    JobDue s d 1 ∧ j.alg ≤ 3 ∧ (j.len = 0 ∨ jobMem j.src j.len = true) ∧ j.len ≤ 65536) = true := by decide +kernel

theorem test_meets_JobOutputs_2 : decide (
    let s : State := wJob 0xB 8 [(0, 2), (3, 3), (4, 3)];
    let d : Nat := 0x800000000;
    let j := jobOf s (memRead s d 32);
    let n := if j.alg = 2 then 48 else if j.alg = 3 then 64 else 32;
    let w := jobMem j.dst n;
    JobDue s d 2 ∧ j.alg ≤ 3 ∧ (j.len = 0 ∨ jobMem j.src j.len = true) ∧ j.len ≤ 65536 ∧ j.typ = tySecret ∧ mayUse s j polDerive = true) = true := by decide +kernel

theorem test_meets_JobOutputs_2_b : decide (
    let s : State := wJob 0xB 8 [(0, 2), (3, 1), (0x14, 0)];
    let d : Nat := 0x800000000;
    let j := jobOf s (memRead s d 32);
    let n := if j.alg = 2 then 48 else if j.alg = 3 then 64 else 32;
    let w := jobMem j.dst n;
    JobDue s d 2 ∧ j.alg ≤ 3 ∧ (j.len = 0 ∨ jobMem j.src j.len = true) ∧ j.len ≤ 65536 ∧ j.typ = tySecret ∧ mayUse s j polDerive = true) = true := by decide +kernel

theorem test_meets_JobOutputs_3 : decide (
    let s : State := wJob 8 4 [(0, 2), (3, 3), (4, 3)];
    let d : Nat := 0x800000000;
    let j := jobOf s (memRead s d 32);
    JobDue s d 2 ∧ j.alg ≤ 3 ∧ (j.len = 0 ∨ jobMem j.src j.len = true) ∧ j.len ≤ 65536 ∧ (j.typ ≠ tySecret ∨ mayUse s j polDerive = false)) = true := by decide +kernel

theorem test_meets_JobOutputs_3_b : decide (
    let s : State := wJob 0xB 16 [(0, 2), (3, 3), (4, 3)];
    let d : Nat := 0x800000000;
    let j := jobOf s (memRead s d 32);
    JobDue s d 2 ∧ j.alg ≤ 3 ∧ (j.len = 0 ∨ jobMem j.src j.len = true) ∧ j.len ≤ 65536 ∧ (j.typ ≠ tySecret ∨ mayUse s j polDerive = false)) = true := by decide +kernel

theorem test_meets_JobOutputs_4 : decide (
    let s : State := wJob 8 4 [(0, 3), (4, 20), (0x18, 3)];
    let d : Nat := 0x800000000;
    let j := jobOf s (memRead s d 32);
    let iv := if j.alg < 2 then 12 else 16;
    let a := if j.alg < 2 then j.aux else 0;
    let n := j.len - iv - a;
    let o := n + if j.alg < 2 then 16 else 0;
    let w := decide (o = 0) || jobMem j.dst o;
    JobDue s d 3 ∧ j.alg ≤ 3 ∧ (j.len = 0 ∨ jobMem j.src j.len = true) ∧ j.len ≤ 65536 ∧ cipherTyp j = true ∧ mayUse s j polEncrypt = true) = true := by decide +kernel

theorem test_meets_JobOutputs_4_b : decide (
    let s : State := wJob 0xA 4 [(0, 3), (3, 3), (4, 16), (0x18, 3)];
    let d : Nat := 0x800000000;
    let j := jobOf s (memRead s d 32);
    let iv := if j.alg < 2 then 12 else 16;
    let a := if j.alg < 2 then j.aux else 0;
    let n := j.len - iv - a;
    let o := n + if j.alg < 2 then 16 else 0;
    let w := decide (o = 0) || jobMem j.dst o;
    JobDue s d 3 ∧ j.alg ≤ 3 ∧ (j.len = 0 ∨ jobMem j.src j.len = true) ∧ j.len ≤ 65536 ∧ cipherTyp j = true ∧ mayUse s j polEncrypt = true) = true := by decide +kernel

theorem test_meets_JobOutputs_4_c : decide (
    let s : State := wJob 9 4 [(0, 3), (3, 1), (0x14, 0)];
    let d : Nat := 0x800000000;
    let j := jobOf s (memRead s d 32);
    let iv := if j.alg < 2 then 12 else 16;
    let a := if j.alg < 2 then j.aux else 0;
    let n := j.len - iv - a;
    let o := n + if j.alg < 2 then 16 else 0;
    let w := decide (o = 0) || jobMem j.dst o;
    JobDue s d 3 ∧ j.alg ≤ 3 ∧ (j.len = 0 ∨ jobMem j.src j.len = true) ∧ j.len ≤ 65536 ∧ cipherTyp j = true ∧ mayUse s j polEncrypt = true) = true := by decide +kernel

theorem test_meets_JobOutputs_5 : decide (
    let s : State := wJob 8 4 [(0, 4), (4, 40), (0x18, 3)];
    let d : Nat := 0x800000000;
    let j := jobOf s (memRead s d 32);
    let iv := if j.alg < 2 then 12 else 16;
    let a := if j.alg < 2 then j.aux else 0;
    let n := j.len - iv - a;
    let o := n - if j.alg < 2 then 16 else 0;
    let w := decide (o = 0) || jobMem j.dst o;
    let r := Config.decrypt j.alg j.key (j.inp.take iv) (slice j.inp iv (min j.len a)) (slice j.inp (iv + a) n);
    JobDue s d 4 ∧ j.alg ≤ 3 ∧ (j.len = 0 ∨ jobMem j.src j.len = true) ∧ j.len ≤ 65536 ∧ cipherTyp j = true ∧ mayUse s j polEncrypt = true) = true := by decide +kernel

theorem test_meets_JobOutputs_5_b : decide (
    let s : State := wJob 0xA 4 [(0, 4), (3, 3), (4, 32)];
    let d : Nat := 0x800000000;
    let j := jobOf s (memRead s d 32);
    let iv := if j.alg < 2 then 12 else 16;
    let a := if j.alg < 2 then j.aux else 0;
    let n := j.len - iv - a;
    let o := n - if j.alg < 2 then 16 else 0;
    let w := decide (o = 0) || jobMem j.dst o;
    let r := Config.decrypt j.alg j.key (j.inp.take iv) (slice j.inp iv (min j.len a)) (slice j.inp (iv + a) n);
    JobDue s d 4 ∧ j.alg ≤ 3 ∧ (j.len = 0 ∨ jobMem j.src j.len = true) ∧ j.len ≤ 65536 ∧ cipherTyp j = true ∧ mayUse s j polEncrypt = true) = true := by decide +kernel

theorem test_meets_JobOutputs_6 : decide (
    let s : State := wJob 0xA 4 [(0, 3), (3, 2), (4, 16)];
    let d : Nat := 0x800000000;
    let c : Instr := .jobEnc;
    let op : Nat := 3;
    let j := jobOf s (memRead s d 32);
    (c, op) ∈ [(Instr.jobEnc, 3), (.jobDec, 4)] ∧ JobDue s d op ∧ j.alg ≤ 3 ∧ (j.len = 0 ∨ jobMem j.src j.len = true) ∧ j.len ≤ 65536 ∧ (cipherTyp j = false ∨ mayUse s j polEncrypt = false)) = true := by decide +kernel

theorem test_meets_JobOutputs_6_b : decide (
    let s : State := wJob 8 16 [(0, 4), (3, 2), (4, 16)];
    let d : Nat := 0x800000000;
    let c : Instr := .jobDec;
    let op : Nat := 4;
    let j := jobOf s (memRead s d 32);
    (c, op) ∈ [(Instr.jobEnc, 3), (.jobDec, 4)] ∧ JobDue s d op ∧ j.alg ≤ 3 ∧ (j.len = 0 ∨ jobMem j.src j.len = true) ∧ j.len ≤ 65536 ∧ (cipherTyp j = false ∨ mayUse s j polEncrypt = false)) = true := by decide +kernel

theorem test_meets_JobOutputs_7 : decide (
    let s : State := wJob 1 1 [(0, 5), (4, 40)];
    let d : Nat := 0x800000000;
    let j := jobOf s (memRead s d 32);
    let n := if j.typ = 5 then 96 else if j.typ = 6 then 132 else if j.typ = 7 then 114 else 64;
    let v := (freeNat s).1;
    let w := jobMem j.dst n;
    JobDue s d 5 ∧ j.alg ≤ 2 ∧ (j.len = 0 ∨ jobMem j.src j.len = true) ∧ signTyp j.alg j.typ = true ∧ mayUse s j polSign = true ∧ 4 ≤ j.slot) = true := by decide +kernel

theorem test_meets_JobOutputs_7_b : decide (
    let s : State := setSlot 6 ⟨6, 1, 64, wBytes 64 [(0, 1)], wBytes 64 []⟩ (wJob 6 1 [(0, 5), (1, 6), (3, 1), (4, 40)]);
    let d : Nat := 0x800000000;
    let j := jobOf s (memRead s d 32);
    let n := if j.typ = 5 then 96 else if j.typ = 6 then 132 else if j.typ = 7 then 114 else 64;
    let v := (freeNat s).1;
    let w := jobMem j.dst n;
    JobDue s d 5 ∧ j.alg ≤ 2 ∧ (j.len = 0 ∨ jobMem j.src j.len = true) ∧ signTyp j.alg j.typ = true ∧ mayUse s j polSign = true ∧ 4 ≤ j.slot) = true := by decide +kernel

theorem test_meets_JobOutputs_7_c : decide (
    let s : State := wJob 7 1 [(0, 5), (3, 2), (4, 40), (0x14, 0)];
    let d : Nat := 0x800000000;
    let j := jobOf s (memRead s d 32);
    let n := if j.typ = 5 then 96 else if j.typ = 6 then 132 else if j.typ = 7 then 114 else 64;
    let v := (freeNat s).1;
    let w := jobMem j.dst n;
    JobDue s d 5 ∧ j.alg ≤ 2 ∧ (j.len = 0 ∨ jobMem j.src j.len = true) ∧ signTyp j.alg j.typ = true ∧ mayUse s j polSign = true ∧ 4 ≤ j.slot) = true := by decide +kernel

theorem test_meets_JobOutputs_8 : decide (
    let s : State := wJob 1 1 [(0, 5), (4, 40), (1, 2)];
    let d : Nat := 0x800000000;
    let j := jobOf s (memRead s d 32);
    JobDue s d 5 ∧ j.alg ≤ 2 ∧ (j.len = 0 ∨ jobMem j.src j.len = true) ∧ (signTyp j.alg j.typ = false ∨ mayUse s j polSign = false ∨ j.slot < 4)) = true := by decide +kernel

theorem test_meets_JobOutputs_8_b : decide (
    let s : State := wJob 7 1 [(0, 5), (4, 40), (3, 1)];
    let d : Nat := 0x800000000;
    let j := jobOf s (memRead s d 32);
    JobDue s d 5 ∧ j.alg ≤ 2 ∧ (j.len = 0 ∨ jobMem j.src j.len = true) ∧ (signTyp j.alg j.typ = false ∨ mayUse s j polSign = false ∨ j.slot < 4)) = true := by decide +kernel

theorem test_meets_JobOutputs_9 : decide (
    let s : State := wJob 8 4 [(0, 9), (0x18, 0x10)];
    let d : Nat := 0x800000000;
    let j := jobOf s (memRead s d 32);
    let mask := setBit (j.aux % 256) 6 true;
    let nonce := leBytes 12 (freeNat s).1;
    let kw := slice (deriveOut s s.fuse.duk lbWrap mask) 0 16;
    let hd := ([0x4B, 0x57, 0x52, 0x50] : Bytes) ++ leBytes 1 j.typ ++ leBytes 1 j.pol ++ leBytes 1 mask ++ leBytes 1 j.key.length;
    let aad := hd ++ nonce ++ List.replicate 12 0;
    let w := jobMem j.dst 128;
    JobDue s d 9 ∧ s.key.rngFail = false ∧ j.typ ≠ 0 ∧ j.pol.testBit polNoexp = false) = true := by decide +kernel

theorem test_meets_JobOutputs_9_b : decide (
    let s : State := wJob 8 4 [(0, 9), (0x14, 0)];
    let d : Nat := 0x800000000;
    let j := jobOf s (memRead s d 32);
    let mask := setBit (j.aux % 256) 6 true;
    let nonce := leBytes 12 (freeNat s).1;
    let kw := slice (deriveOut s s.fuse.duk lbWrap mask) 0 16;
    let hd := ([0x4B, 0x57, 0x52, 0x50] : Bytes) ++ leBytes 1 j.typ ++ leBytes 1 j.pol ++ leBytes 1 mask ++ leBytes 1 j.key.length;
    let aad := hd ++ nonce ++ List.replicate 12 0;
    let w := jobMem j.dst 128;
    JobDue s d 9 ∧ s.key.rngFail = false ∧ j.typ ≠ 0 ∧ j.pol.testBit polNoexp = false) = true := by decide +kernel

theorem test_meets_JobOutputs_10 : decide (
    let s : State := wJob 8 20 [(0, 9), (0x18, 0x10)];
    let d : Nat := 0x800000000;
    let j := jobOf s (memRead s d 32);
    JobDue s d 9 ∧ s.key.rngFail = false ∧ (j.typ = 0 ∨ j.pol.testBit polNoexp = true)) = true := by decide +kernel

theorem test_meets_JobOutputs_10_b : decide (
    let s : State := wJob 8 4 [(0, 9), (1, 6)];
    let d : Nat := 0x800000000;
    let j := jobOf s (memRead s d 32);
    JobDue s d 9 ∧ s.key.rngFail = false ∧ (j.typ = 0 ∨ j.pol.testBit polNoexp = true)) = true := by decide +kernel

theorem test_meets_JobOutputs_11 : decide (
    let s : State := { wJob 8 4 [(0, 9)] with key.rngFail := true };
    let d : Nat := 0x800000000;
    let c : Instr := .jobWrap;
    let op : Nat := 9;
    let j := jobOf s (memRead s d 32);
    (c, op) ∈ [(Instr.jobWrap, 9), (.jobRandom, 0xC)] ∧ JobDue s d op ∧ s.key.rngFail = true) = true := by decide +kernel

theorem test_meets_JobOutputs_11_b : decide (
    let s : State := { wJob 8 4 [(0, 0xC)] with key.rngFail := true };
    let d : Nat := 0x800000000;
    let c : Instr := .jobRandom;
    let op : Nat := 0xC;
    let j := jobOf s (memRead s d 32);
    (c, op) ∈ [(Instr.jobWrap, 9), (.jobRandom, 0xC)] ∧ JobDue s d op ∧ s.key.rngFail = true) = true := by decide +kernel

theorem test_meets_JobOutputs_12 : decide (
    let s : State := wJob 8 4 [(0, 0xB), (4, 32)];
    let d : Nat := 0x800000000;
    let j := jobOf s (memRead s d 32);
    let hd := ([0x51, 0x55, 0x4F, 0x54, 0x01] : Bytes) ++ leBytes 1 (field s.fuse.opt 4 2) ++ [0, 0] ++ serialBytes s;
    let ms := (List.range 8).flatMap (fun k => slice (Tab.get [] s.key.meas k) 0 32);
    let sv := (List.range 3).flatMap (fun k => leBytes 1 (Tab.get 0 s.fuse.svcnt k));
    let b := hd ++ leBytes 8 s.tmp.chain ++ slice j.inp 0 32 ++ ms ++ sv ++ [0] ++ digestOf s F.SYS_EPOCH_DIGEST ++ [0, 0, 0, 0];
    let out := b ++ slice (Config.sm2Sign (slotKey s 1) b (freeNat s).1) 0 64;
    let w := jobMem j.dst out.length;
    JobDue s d 0xB ∧ jobMem j.src j.len = true ∧ debugOn s = false ∧ rget s F.KEY_STATUS_HWKEYS ≠ 0) = true := by decide +kernel

theorem test_meets_JobOutputs_13 : decide (
    let s : State := rput F.KEY_STATUS_HWKEYS 0 (wJob 8 4 [(0, 0xB), (4, 32)]);
    let d : Nat := 0x800000000;
    let j := jobOf s (memRead s d 32);
    JobDue s d 0xB ∧ jobMem j.src j.len = true ∧ (debugOn s = true ∨ rget s F.KEY_STATUS_HWKEYS = 0)) = true := by decide +kernel

theorem test_meets_JobOutputs_13_b : decide (
    let s : State := rput F.FWU_STATUS_DBGON 1 (wJob 8 4 [(0, 0xB), (4, 32)]);
    let d : Nat := 0x800000000;
    let j := jobOf s (memRead s d 32);
    JobDue s d 0xB ∧ jobMem j.src j.len = true ∧ (debugOn s = true ∨ rget s F.KEY_STATUS_HWKEYS = 0)) = true := by decide +kernel

theorem test_meets_JobOutputs_14 : decide (
    let s : State := wJob 8 4 [(0, 0xC), (4, 32)];
    let d : Nat := 0x800000000;
    let j := jobOf s (memRead s d 32);
    let w := decide (j.len = 0) || jobMem j.dst j.len;
    JobDue s d 0xC ∧ s.key.rngFail = false) = true := by decide +kernel

theorem test_meets_JobOutputs_14_b : decide (
    let s : State := wJob 8 4 [(0, 0xC), (0x14, 0)];
    let d : Nat := 0x800000000;
    let j := jobOf s (memRead s d 32);
    let w := decide (j.len = 0) || jobMem j.dst j.len;
    JobDue s d 0xC ∧ s.key.rngFail = false) = true := by decide +kernel

theorem test_meets_JobOutputs_15 : decide (
    let s : State := rput F.KEY_LENERR_COUNT 65535 (wJob 1 24 [(0, 0xB), (4, 31)]);
    let d : Nat := 0x800000000;
    let c : Instr := .jobQuote;
    let op : Nat := 0xB;
    let bad : Bool := true;
    let j := jobOf s (memRead s d 32);
    ((c, op, bad) ∈ ([(.jobEnc, 3, decide (j.len ≠ 0 ∧ j.len < ivLen j.alg + aadLen j)), (.jobDec, 4, decide (j.len ≠ 0 ∧ j.len < ivLen j.alg + aadLen j + if j.alg < 2 then 16 else 0)), (.jobVerify, 6, decide (j.len < if j.slot < 64 then 64 else if j.alg = 2 then 171 else 128)), (.jobDerive, 7, decide (j.alg = 0 ∧ j.len < 16)), (.jobAgree, 8, decide (j.len < if j.typ = 5 then 96 else if j.typ = 6 then 132 else 64)), (.jobUnwrap, 0xA, decide (j.len < 128)), (.jobQuote, 0xB, decide (j.len < 32)), (.jobRandom, 0xC, decide (65536 < j.len))] : List (Instr × Nat × Bool))) ∧ jobNext s = some d ∧ u8 (memRead s d 32) 0 = op ∧ bad = true) = true := by decide +kernel

theorem test_meets_JobOutputs_15_b : decide (
    let s : State := wJob 1 24 [(0, 0xC), (4, 1), (6, 1)];
    let d : Nat := 0x800000000;
    let c : Instr := .jobRandom;
    let op : Nat := 0xC;
    let bad : Bool := true;
    let j := jobOf s (memRead s d 32);
    ((c, op, bad) ∈ ([(.jobEnc, 3, decide (j.len ≠ 0 ∧ j.len < ivLen j.alg + aadLen j)), (.jobDec, 4, decide (j.len ≠ 0 ∧ j.len < ivLen j.alg + aadLen j + if j.alg < 2 then 16 else 0)), (.jobVerify, 6, decide (j.len < if j.slot < 64 then 64 else if j.alg = 2 then 171 else 128)), (.jobDerive, 7, decide (j.alg = 0 ∧ j.len < 16)), (.jobAgree, 8, decide (j.len < if j.typ = 5 then 96 else if j.typ = 6 then 132 else 64)), (.jobUnwrap, 0xA, decide (j.len < 128)), (.jobQuote, 0xB, decide (j.len < 32)), (.jobRandom, 0xC, decide (65536 < j.len))] : List (Instr × Nat × Bool))) ∧ jobNext s = some d ∧ u8 (memRead s d 32) 0 = op ∧ bad = true) = true := by decide +kernel

theorem test_meets_JobOutputs_15_c : decide (
    let s : State := wJob 1 24 [(0, 3), (4, 12), (0x18, 1)];
    let d : Nat := 0x800000000;
    let c : Instr := .jobEnc;
    let op : Nat := 3;
    let bad : Bool := true;
    let j := jobOf s (memRead s d 32);
    ((c, op, bad) ∈ ([(.jobEnc, 3, decide (j.len ≠ 0 ∧ j.len < ivLen j.alg + aadLen j)), (.jobDec, 4, decide (j.len ≠ 0 ∧ j.len < ivLen j.alg + aadLen j + if j.alg < 2 then 16 else 0)), (.jobVerify, 6, decide (j.len < if j.slot < 64 then 64 else if j.alg = 2 then 171 else 128)), (.jobDerive, 7, decide (j.alg = 0 ∧ j.len < 16)), (.jobAgree, 8, decide (j.len < if j.typ = 5 then 96 else if j.typ = 6 then 132 else 64)), (.jobUnwrap, 0xA, decide (j.len < 128)), (.jobQuote, 0xB, decide (j.len < 32)), (.jobRandom, 0xC, decide (65536 < j.len))] : List (Instr × Nat × Bool))) ∧ jobNext s = some d ∧ u8 (memRead s d 32) 0 = op ∧ bad = true) = true := by decide +kernel

theorem test_meets_JobOutputs_15_d : decide (
    let s : State := wJob 1 24 [(0, 4), (4, 27)];
    let d : Nat := 0x800000000;
    let c : Instr := .jobDec;
    let op : Nat := 4;
    let bad : Bool := true;
    let j := jobOf s (memRead s d 32);
    ((c, op, bad) ∈ ([(.jobEnc, 3, decide (j.len ≠ 0 ∧ j.len < ivLen j.alg + aadLen j)), (.jobDec, 4, decide (j.len ≠ 0 ∧ j.len < ivLen j.alg + aadLen j + if j.alg < 2 then 16 else 0)), (.jobVerify, 6, decide (j.len < if j.slot < 64 then 64 else if j.alg = 2 then 171 else 128)), (.jobDerive, 7, decide (j.alg = 0 ∧ j.len < 16)), (.jobAgree, 8, decide (j.len < if j.typ = 5 then 96 else if j.typ = 6 then 132 else 64)), (.jobUnwrap, 0xA, decide (j.len < 128)), (.jobQuote, 0xB, decide (j.len < 32)), (.jobRandom, 0xC, decide (65536 < j.len))] : List (Instr × Nat × Bool))) ∧ jobNext s = some d ∧ u8 (memRead s d 32) 0 = op ∧ bad = true) = true := by decide +kernel

theorem test_meets_JobOutputs_15_e : decide (
    let s : State := wJob 1 24 [(0, 6), (4, 63)];
    let d : Nat := 0x800000000;
    let c : Instr := .jobVerify;
    let op : Nat := 6;
    let bad : Bool := true;
    let j := jobOf s (memRead s d 32);
    ((c, op, bad) ∈ ([(.jobEnc, 3, decide (j.len ≠ 0 ∧ j.len < ivLen j.alg + aadLen j)), (.jobDec, 4, decide (j.len ≠ 0 ∧ j.len < ivLen j.alg + aadLen j + if j.alg < 2 then 16 else 0)), (.jobVerify, 6, decide (j.len < if j.slot < 64 then 64 else if j.alg = 2 then 171 else 128)), (.jobDerive, 7, decide (j.alg = 0 ∧ j.len < 16)), (.jobAgree, 8, decide (j.len < if j.typ = 5 then 96 else if j.typ = 6 then 132 else 64)), (.jobUnwrap, 0xA, decide (j.len < 128)), (.jobQuote, 0xB, decide (j.len < 32)), (.jobRandom, 0xC, decide (65536 < j.len))] : List (Instr × Nat × Bool))) ∧ jobNext s = some d ∧ u8 (memRead s d 32) 0 = op ∧ bad = true) = true := by decide +kernel

theorem test_meets_JobOutputs_15_f : decide (
    let s : State := wJob 1 24 [(0, 7), (4, 15)];
    let d : Nat := 0x800000000;
    let c : Instr := .jobDerive;
    let op : Nat := 7;
    let bad : Bool := true;
    let j := jobOf s (memRead s d 32);
    ((c, op, bad) ∈ ([(.jobEnc, 3, decide (j.len ≠ 0 ∧ j.len < ivLen j.alg + aadLen j)), (.jobDec, 4, decide (j.len ≠ 0 ∧ j.len < ivLen j.alg + aadLen j + if j.alg < 2 then 16 else 0)), (.jobVerify, 6, decide (j.len < if j.slot < 64 then 64 else if j.alg = 2 then 171 else 128)), (.jobDerive, 7, decide (j.alg = 0 ∧ j.len < 16)), (.jobAgree, 8, decide (j.len < if j.typ = 5 then 96 else if j.typ = 6 then 132 else 64)), (.jobUnwrap, 0xA, decide (j.len < 128)), (.jobQuote, 0xB, decide (j.len < 32)), (.jobRandom, 0xC, decide (65536 < j.len))] : List (Instr × Nat × Bool))) ∧ jobNext s = some d ∧ u8 (memRead s d 32) 0 = op ∧ bad = true) = true := by decide +kernel

theorem test_meets_JobOutputs_15_g : decide (
    let s : State := wJob 5 24 [(0, 8), (4, 95)];
    let d : Nat := 0x800000000;
    let c : Instr := .jobAgree;
    let op : Nat := 8;
    let bad : Bool := true;
    let j := jobOf s (memRead s d 32);
    ((c, op, bad) ∈ ([(.jobEnc, 3, decide (j.len ≠ 0 ∧ j.len < ivLen j.alg + aadLen j)), (.jobDec, 4, decide (j.len ≠ 0 ∧ j.len < ivLen j.alg + aadLen j + if j.alg < 2 then 16 else 0)), (.jobVerify, 6, decide (j.len < if j.slot < 64 then 64 else if j.alg = 2 then 171 else 128)), (.jobDerive, 7, decide (j.alg = 0 ∧ j.len < 16)), (.jobAgree, 8, decide (j.len < if j.typ = 5 then 96 else if j.typ = 6 then 132 else 64)), (.jobUnwrap, 0xA, decide (j.len < 128)), (.jobQuote, 0xB, decide (j.len < 32)), (.jobRandom, 0xC, decide (65536 < j.len))] : List (Instr × Nat × Bool))) ∧ jobNext s = some d ∧ u8 (memRead s d 32) 0 = op ∧ bad = true) = true := by decide +kernel

theorem test_meets_JobOutputs_15_h : decide (
    let s : State := wJob 5 24 [(0, 0xA), (4, 127)];
    let d : Nat := 0x800000000;
    let c : Instr := .jobUnwrap;
    let op : Nat := 0xA;
    let bad : Bool := true;
    let j := jobOf s (memRead s d 32);
    ((c, op, bad) ∈ ([(.jobEnc, 3, decide (j.len ≠ 0 ∧ j.len < ivLen j.alg + aadLen j)), (.jobDec, 4, decide (j.len ≠ 0 ∧ j.len < ivLen j.alg + aadLen j + if j.alg < 2 then 16 else 0)), (.jobVerify, 6, decide (j.len < if j.slot < 64 then 64 else if j.alg = 2 then 171 else 128)), (.jobDerive, 7, decide (j.alg = 0 ∧ j.len < 16)), (.jobAgree, 8, decide (j.len < if j.typ = 5 then 96 else if j.typ = 6 then 132 else 64)), (.jobUnwrap, 0xA, decide (j.len < 128)), (.jobQuote, 0xB, decide (j.len < 32)), (.jobRandom, 0xC, decide (65536 < j.len))] : List (Instr × Nat × Bool))) ∧ jobNext s = some d ∧ u8 (memRead s d 32) 0 = op ∧ bad = true) = true := by decide +kernel

theorem test_meets_JobOutputs_16 : decide (
    let s : State := wJob 1 24 [(0, 1), (4, 1), (0xC, 1)];
    let d : Nat := 0x800000000;
    let c : Instr := .jobHash;
    let op : Nat := 1;
    let j := jobOf s (memRead s d 32);
    (c, op) ∈ [(Instr.jobHash, 1), (.jobHmac, 2), (.jobEnc, 3), (.jobDec, 4), (.jobSign, 5), (.jobVerify, 6), (.jobDerive, 7), (.jobAgree, 8), (.jobUnwrap, 0xA), (.jobQuote, 0xB)] ∧ JobDue s d op ∧ j.len ≠ 0 ∧ jobMem j.src j.len = false) = true := by decide +kernel

theorem test_meets_JobOutputs_16_b : decide (
    let s : State := wJob 1 24 [(0, 0xB), (4, 32), (0xC, 10)];
    let d : Nat := 0x800000000;
    let c : Instr := .jobQuote;
    let op : Nat := 0xB;
    let j := jobOf s (memRead s d 32);
    (c, op) ∈ [(Instr.jobHash, 1), (.jobHmac, 2), (.jobEnc, 3), (.jobDec, 4), (.jobSign, 5), (.jobVerify, 6), (.jobDerive, 7), (.jobAgree, 8), (.jobUnwrap, 0xA), (.jobQuote, 0xB)] ∧ JobDue s d op ∧ j.len ≠ 0 ∧ jobMem j.src j.len = false) = true := by decide +kernel

theorem test_meets_JobOutputs_17 : decide (
    let s : State := wJob 1 24 [(0, 1), (4, 1), (3, 4)];
    let d : Nat := 0x800000000;
    let c : Instr := .jobHash;
    let op : Nat := 1;
    let k : Nat := 3;
    let j := jobOf s (memRead s d 32);
    (c, op, k) ∈ [(Instr.jobHash, 1, 3), (.jobHmac, 2, 3), (.jobEnc, 3, 3), (.jobDec, 4, 3), (.jobSign, 5, 2), (.jobVerify, 6, 2), (.jobDerive, 7, 1), (.jobAgree, 8, 0)] ∧ JobDue s d op ∧ (j.len = 0 ∨ jobMem j.src j.len = true) ∧ (j.len ≤ 65536 ∨ 4 < op) ∧ k < j.alg) = true := by decide +kernel

theorem test_meets_JobOutputs_17_b : decide (
    let s : State := wJob 1 24 [(0, 8), (4, 64), (3, 1)];
    let d : Nat := 0x800000000;
    let c : Instr := .jobAgree;
    let op : Nat := 8;
    let k : Nat := 0;
    let j := jobOf s (memRead s d 32);
    (c, op, k) ∈ [(Instr.jobHash, 1, 3), (.jobHmac, 2, 3), (.jobEnc, 3, 3), (.jobDec, 4, 3), (.jobSign, 5, 2), (.jobVerify, 6, 2), (.jobDerive, 7, 1), (.jobAgree, 8, 0)] ∧ JobDue s d op ∧ (j.len = 0 ∨ jobMem j.src j.len = true) ∧ (j.len ≤ 65536 ∨ 4 < op) ∧ k < j.alg) = true := by decide +kernel

theorem test_meets_JobOutputs_18 : decide (
    let s : State := wJob 1 24 [(0, 1), (4, 1), (6, 1)];
    let d : Nat := 0x800000000;
    let c : Instr := .jobHash;
    let op : Nat := 1;
    let j := jobOf s (memRead s d 32);
    (c, op) ∈ [(Instr.jobHash, 1), (.jobHmac, 2), (.jobEnc, 3), (.jobDec, 4)] ∧ JobDue s d op ∧ jobMem j.src j.len = true ∧ 65536 < j.len) = true := by decide +kernel

theorem test_meets_JobOutputs_18_b : decide (
    let s : State := wJob 1 24 [(0, 4), (4, 1), (6, 1)];
    let d : Nat := 0x800000000;
    let c : Instr := .jobDec;
    let op : Nat := 4;
    let j := jobOf s (memRead s d 32);
    (c, op) ∈ [(Instr.jobHash, 1), (.jobHmac, 2), (.jobEnc, 3), (.jobDec, 4)] ∧ JobDue s d op ∧ jobMem j.src j.len = true ∧ 65536 < j.len) = true := by decide +kernel

theorem test_meets_JobOutputs_19 : decide (
    let s : State := wRun [];
    let d : Nat := 0x800000000;
    let c : Instr := .jobDec;
    let op : Nat := 4;
    let j := jobOf s (memRead s d 32);
    (c, op) ∈ [(Instr.jobHash, 1), (.jobHmac, 2), (.jobEnc, 3), (.jobDec, 4), (.jobSign, 5), (.jobVerify, 6), (.jobDerive, 7), (.jobAgree, 8), (.jobWrap, 9), (.jobUnwrap, 0xA), (.jobQuote, 0xB), (.jobRandom, 0xC)] ∧ (jobNext s = none ∨ jobNext s = some d ∧ u8 (memRead s d 32) 0 ≠ op)) = true := by decide +kernel

theorem test_meets_JobOutputs_19_b : decide (
    let s : State := wJob 1 24 [(0, 1), (4, 1)];
    let d : Nat := 0x800000000;
    let c : Instr := .jobRandom;
    let op : Nat := 0xC;
    let j := jobOf s (memRead s d 32);
    (c, op) ∈ [(Instr.jobHash, 1), (.jobHmac, 2), (.jobEnc, 3), (.jobDec, 4), (.jobSign, 5), (.jobVerify, 6), (.jobDerive, 7), (.jobAgree, 8), (.jobWrap, 9), (.jobUnwrap, 0xA), (.jobQuote, 0xB), (.jobRandom, 0xC)] ∧ (jobNext s = none ∨ jobNext s = some d ∧ u8 (memRead s d 32) 0 ≠ op)) = true := by decide +kernel

theorem test_meets_JobSlots_1 : decide (
    let s : State := wJob 2 2 [(0, 6), (4, 70)];
    let d : Nat := 0x800000000;
    let j := jobOf s (memRead s d 32);
    let sh := fun (b m : Bytes) => List.zipWith (· ^^^ ·) (slice b 0 64) m;
    let m := leBytes 64 (Config.freeValue s.freeCtr);
    let m2 := leBytes 64 (Config.freeValue (s.freeCtr + 1));
    let msg := j.inp.take (j.len - 64);
    let sg := j.inp.drop (j.len - 64);
    let ok := if j.alg = 0 then Config.sm2Verify j.key msg sg else Config.verify 4 j.key msg sg;
    JobDue s d 6 ∧ j.alg ≤ 1 ∧ j.slot < 64 ∧ jobMem j.src j.len = true ∧ j.typ = 2 * j.alg + 2 ∧ mayUse s j polVerify = true) = true := by decide +kernel

theorem test_meets_JobSlots_1_b : decide (
    let s : State := wJob 4 2 [(0, 6), (4, 64), (3, 1)];
    let d : Nat := 0x800000000;
    let j := jobOf s (memRead s d 32);
    let sh := fun (b m : Bytes) => List.zipWith (· ^^^ ·) (slice b 0 64) m;
    let m := leBytes 64 (Config.freeValue s.freeCtr);
    let m2 := leBytes 64 (Config.freeValue (s.freeCtr + 1));
    let msg := j.inp.take (j.len - 64);
    let sg := j.inp.drop (j.len - 64);
    let ok := if j.alg = 0 then Config.sm2Verify j.key msg sg else Config.verify 4 j.key msg sg;
    JobDue s d 6 ∧ j.alg ≤ 1 ∧ j.slot < 64 ∧ jobMem j.src j.len = true ∧ j.typ = 2 * j.alg + 2 ∧ mayUse s j polVerify = true) = true := by decide +kernel

theorem test_meets_JobSlots_2 : decide (
    let s : State := wJob 2 2 [(0, 6), (4, 128), (1, 255)];
    let d : Nat := 0x800000000;
    let j := jobOf s (memRead s d 32);
    let sh := fun (b m : Bytes) => List.zipWith (· ^^^ ·) (slice b 0 64) m;
    let m := leBytes 64 (Config.freeValue s.freeCtr);
    let m2 := leBytes 64 (Config.freeValue (s.freeCtr + 1));
    JobDue s d 6 ∧ j.alg ≤ 2 ∧ 64 ≤ j.slot ∧ jobMem j.src j.len = true) = true := by decide +kernel

theorem test_meets_JobSlots_3 : decide (
    let s : State := wJob 4 2 [(0, 6), (4, 70)];
    let d : Nat := 0x800000000;
    let j := jobOf s (memRead s d 32);
    let sh := fun (b m : Bytes) => List.zipWith (· ^^^ ·) (slice b 0 64) m;
    let m := leBytes 64 (Config.freeValue s.freeCtr);
    let m2 := leBytes 64 (Config.freeValue (s.freeCtr + 1));
    JobDue s d 6 ∧ j.alg ≤ 2 ∧ j.slot < 64 ∧ jobMem j.src j.len = true ∧ (j.alg = 2 ∨ j.typ ≠ 2 * j.alg + 2 ∨ mayUse s j polVerify = false)) = true := by decide +kernel

theorem test_meets_JobSlots_3_b : decide (
    let s : State := wJob 4 2 [(0, 6), (4, 70), (3, 2)];
    let d : Nat := 0x800000000;
    let j := jobOf s (memRead s d 32);
    let sh := fun (b m : Bytes) => List.zipWith (· ^^^ ·) (slice b 0 64) m;
    let m := leBytes 64 (Config.freeValue s.freeCtr);
    let m2 := leBytes 64 (Config.freeValue (s.freeCtr + 1));
    JobDue s d 6 ∧ j.alg ≤ 2 ∧ j.slot < 64 ∧ jobMem j.src j.len = true ∧ (j.alg = 2 ∨ j.typ ≠ 2 * j.alg + 2 ∨ mayUse s j polVerify = false)) = true := by decide +kernel

theorem test_meets_JobSlots_4 : decide (
    let s : State := wJob 0xB 24 [(0, 7), (4, 16), (0x19, 8), (0x1A, 20)];
    let d : Nat := 0x800000000;
    let j := jobOf s (memRead s d 32);
    let sh := fun (b m : Bytes) => List.zipWith (· ^^^ ·) (slice b 0 64) m;
    let m := leBytes 64 (Config.freeValue s.freeCtr);
    let m2 := leBytes 64 (Config.freeValue (s.freeCtr + 1));
    let key := if j.slot = 0xFF then s.fuse.duk else j.key;
    let hm := deriveOut s key (slice j.inp 0 16) (setBit (j.aux % 256) 6 true);
    let out := if j.alg = 0 then hm else slice (Config.kdf key j.inp 96) 0 96;
    let pr := Config.scalarOf (auxTyp j) (slice out 0 (if auxTyp j = tyP521 then 96 else 64));
    let b := if typPriv (auxTyp j) then pr else slice out 0 (typLen (auxTyp j));
    JobDue s d 7 ∧ (j.len = 0 ∨ jobMem j.src j.len = true) ∧ (j.alg = 0 ∨ j.alg = 1 ∧ j.slot ≠ 0xFF) ∧ (j.slot = 0xFF ∨ j.typ = tySecret ∧ mayUse s j polDerive = true) ∧ derivable (auxTyp j) = true ∧ polOk (auxTyp j) (heir j) = true ∧ mayFill s j.dslot (auxTyp j) = true ∧ (j.alg = 1 ∨ j.inp.take 4 ≠ [0x53, 0x52, 0x48, 0x4E])) = true := by decide +kernel

theorem test_meets_JobSlots_4_b : decide (
    let s : State := wJob 0xB 8 [(0, 7), (4, 16), (0x19, 6), (0x1A, 1), (2, 62), (1, 255)];
    let d : Nat := 0x800000000;
    let j := jobOf s (memRead s d 32);
    let sh := fun (b m : Bytes) => List.zipWith (· ^^^ ·) (slice b 0 64) m;
    let m := leBytes 64 (Config.freeValue s.freeCtr);
    let m2 := leBytes 64 (Config.freeValue (s.freeCtr + 1));
    let key := if j.slot = 0xFF then s.fuse.duk else j.key;
    let hm := deriveOut s key (slice j.inp 0 16) (setBit (j.aux % 256) 6 true);
    let out := if j.alg = 0 then hm else slice (Config.kdf key j.inp 96) 0 96;
    let pr := Config.scalarOf (auxTyp j) (slice out 0 (if auxTyp j = tyP521 then 96 else 64));
    let b := if typPriv (auxTyp j) then pr else slice out 0 (typLen (auxTyp j));
    JobDue s d 7 ∧ (j.len = 0 ∨ jobMem j.src j.len = true) ∧ (j.alg = 0 ∨ j.alg = 1 ∧ j.slot ≠ 0xFF) ∧ (j.slot = 0xFF ∨ j.typ = tySecret ∧ mayUse s j polDerive = true) ∧ derivable (auxTyp j) = true ∧ polOk (auxTyp j) (heir j) = true ∧ mayFill s j.dslot (auxTyp j) = true ∧ (j.alg = 1 ∨ j.inp.take 4 ≠ [0x53, 0x52, 0x48, 0x4E])) = true := by decide +kernel

theorem test_meets_JobSlots_4_c : decide (
    let s : State := wJob 0xB 8 [(0, 7), (3, 1), (0x19, 9), (0x1A, 4)];
    let d : Nat := 0x800000000;
    let j := jobOf s (memRead s d 32);
    let sh := fun (b m : Bytes) => List.zipWith (· ^^^ ·) (slice b 0 64) m;
    let m := leBytes 64 (Config.freeValue s.freeCtr);
    let m2 := leBytes 64 (Config.freeValue (s.freeCtr + 1));
    let key := if j.slot = 0xFF then s.fuse.duk else j.key;
    let hm := deriveOut s key (slice j.inp 0 16) (setBit (j.aux % 256) 6 true);
    let out := if j.alg = 0 then hm else slice (Config.kdf key j.inp 96) 0 96;
    let pr := Config.scalarOf (auxTyp j) (slice out 0 (if auxTyp j = tyP521 then 96 else 64));
    let b := if typPriv (auxTyp j) then pr else slice out 0 (typLen (auxTyp j));
    JobDue s d 7 ∧ (j.len = 0 ∨ jobMem j.src j.len = true) ∧ (j.alg = 0 ∨ j.alg = 1 ∧ j.slot ≠ 0xFF) ∧ (j.slot = 0xFF ∨ j.typ = tySecret ∧ mayUse s j polDerive = true) ∧ derivable (auxTyp j) = true ∧ polOk (auxTyp j) (heir j) = true ∧ mayFill s j.dslot (auxTyp j) = true ∧ (j.alg = 1 ∨ j.inp.take 4 ≠ [0x53, 0x52, 0x48, 0x4E])) = true := by decide +kernel

theorem test_meets_JobSlots_5 : decide (
    let s : State := memWrite 0x800001000 [0x53, 0x52, 0x48, 0x4E] (wJob 0xB 24 [(0, 7), (4, 16), (0x19, 8), (0x1A, 4), (1, 255)]);
    let d : Nat := 0x800000000;
    let j := jobOf s (memRead s d 32);
    let sh := fun (b m : Bytes) => List.zipWith (· ^^^ ·) (slice b 0 64) m;
    let m := leBytes 64 (Config.freeValue s.freeCtr);
    let m2 := leBytes 64 (Config.freeValue (s.freeCtr + 1));
    JobDue s d 7 ∧ (j.len = 0 ∨ jobMem j.src j.len = true) ∧ (j.alg = 0 ∨ j.alg = 1 ∧ j.slot ≠ 0xFF) ∧ derivable (auxTyp j) = true ∧ ((j.slot ≠ 0xFF ∧ (j.typ ≠ tySecret ∨ mayUse s j polDerive = false)) ∨ polOk (auxTyp j) (heir j) = false ∨ mayFill s j.dslot (auxTyp j) = false ∨ j.alg = 0 ∧ j.inp.take 4 = [0x53, 0x52, 0x48, 0x4E])) = true := by decide +kernel

theorem test_meets_JobSlots_5_b : decide (
    let s : State := wJob 0xB 8 [(0, 7), (4, 16), (0x19, 8), (0x1A, 1)];
    let d : Nat := 0x800000000;
    let j := jobOf s (memRead s d 32);
    let sh := fun (b m : Bytes) => List.zipWith (· ^^^ ·) (slice b 0 64) m;
    let m := leBytes 64 (Config.freeValue s.freeCtr);
    let m2 := leBytes 64 (Config.freeValue (s.freeCtr + 1));
    JobDue s d 7 ∧ (j.len = 0 ∨ jobMem j.src j.len = true) ∧ (j.alg = 0 ∨ j.alg = 1 ∧ j.slot ≠ 0xFF) ∧ derivable (auxTyp j) = true ∧ ((j.slot ≠ 0xFF ∧ (j.typ ≠ tySecret ∨ mayUse s j polDerive = false)) ∨ polOk (auxTyp j) (heir j) = false ∨ mayFill s j.dslot (auxTyp j) = false ∨ j.alg = 0 ∧ j.inp.take 4 = [0x53, 0x52, 0x48, 0x4E])) = true := by decide +kernel

theorem test_meets_JobSlots_6 : decide (
    let s : State := wJob 0xB 8 [(0, 7), (3, 1), (0x19, 9), (0x1A, 4), (1, 255)];
    let d : Nat := 0x800000000;
    let j := jobOf s (memRead s d 32);
    let sh := fun (b m : Bytes) => List.zipWith (· ^^^ ·) (slice b 0 64) m;
    let m := leBytes 64 (Config.freeValue s.freeCtr);
    let m2 := leBytes 64 (Config.freeValue (s.freeCtr + 1));
    JobDue s d 7 ∧ (j.len = 0 ∨ jobMem j.src j.len = true) ∧ (j.alg = 1 ∧ j.slot = 0xFF ∨ auxTyp j = 0 ∨ 0xB < auxTyp j ∨ auxTyp j = 2 ∨ auxTyp j = 4)) = true := by decide +kernel

theorem test_meets_JobSlots_6_b : decide (
    let s : State := wJob 0xB 8 [(0, 7), (4, 16), (0x19, 2)];
    let d : Nat := 0x800000000;
    let j := jobOf s (memRead s d 32);
    let sh := fun (b m : Bytes) => List.zipWith (· ^^^ ·) (slice b 0 64) m;
    let m := leBytes 64 (Config.freeValue s.freeCtr);
    let m2 := leBytes 64 (Config.freeValue (s.freeCtr + 1));
    JobDue s d 7 ∧ (j.len = 0 ∨ jobMem j.src j.len = true) ∧ (j.alg = 1 ∧ j.slot = 0xFF ∨ auxTyp j = 0 ∨ 0xB < auxTyp j ∨ auxTyp j = 2 ∨ auxTyp j = 4)) = true := by decide +kernel

theorem test_meets_JobSlots_7 : decide (
    let s : State := wJob 1 24 [(0, 8), (4, 64)];
    let d : Nat := 0x800000000;
    let j := jobOf s (memRead s d 32);
    let sh := fun (b m : Bytes) => List.zipWith (· ^^^ ·) (slice b 0 64) m;
    let m := leBytes 64 (Config.freeValue s.freeCtr);
    let m2 := leBytes 64 (Config.freeValue (s.freeCtr + 1));
    let x := Config.ecdh j.typ j.key (slice j.inp 0 (if j.typ = 5 then 96 else if j.typ = 6 then 132 else 64));
    let n := if j.typ = 5 then 48 else if j.typ = 6 then 64 else 32;
    JobDue s d 8 ∧ j.alg = 0 ∧ jobMem j.src j.len = true ∧ j.typ ∈ [1, 3, 5, 6] ∧ mayUse s j polDerive = true ∧ polOk tySecret (heir j) = true ∧ mayFill s j.dslot tySecret = true) = true := by decide +kernel

theorem test_meets_JobSlots_7_b : decide (
    let s : State := setSlot 6 ⟨6, 8, 64, wBytes 64 [(0, 1)], wBytes 64 []⟩ (wJob 6 8 [(0, 8), (1, 6), (4, 132)]);
    let d : Nat := 0x800000000;
    let j := jobOf s (memRead s d 32);
    let sh := fun (b m : Bytes) => List.zipWith (· ^^^ ·) (slice b 0 64) m;
    let m := leBytes 64 (Config.freeValue s.freeCtr);
    let m2 := leBytes 64 (Config.freeValue (s.freeCtr + 1));
    let x := Config.ecdh j.typ j.key (slice j.inp 0 (if j.typ = 5 then 96 else if j.typ = 6 then 132 else 64));
    let n := if j.typ = 5 then 48 else if j.typ = 6 then 64 else 32;
    JobDue s d 8 ∧ j.alg = 0 ∧ jobMem j.src j.len = true ∧ j.typ ∈ [1, 3, 5, 6] ∧ mayUse s j polDerive = true ∧ polOk tySecret (heir j) = true ∧ mayFill s j.dslot tySecret = true) = true := by decide +kernel

theorem test_meets_JobSlots_8 : decide (
    let s : State := wJob 7 24 [(0, 8), (4, 64)];
    let d : Nat := 0x800000000;
    let j := jobOf s (memRead s d 32);
    let sh := fun (b m : Bytes) => List.zipWith (· ^^^ ·) (slice b 0 64) m;
    let m := leBytes 64 (Config.freeValue s.freeCtr);
    let m2 := leBytes 64 (Config.freeValue (s.freeCtr + 1));
    JobDue s d 8 ∧ j.alg = 0 ∧ jobMem j.src j.len = true ∧ (j.typ ∉ [1, 3, 5, 6] ∨ mayUse s j polDerive = false ∨ polOk tySecret (heir j) = false ∨ mayFill s j.dslot tySecret = false)) = true := by decide +kernel

theorem test_meets_JobSlots_8_b : decide (
    let s : State := wJob 1 24 [(0, 8), (4, 64), (2, 3)];
    let d : Nat := 0x800000000;
    let j := jobOf s (memRead s d 32);
    let sh := fun (b m : Bytes) => List.zipWith (· ^^^ ·) (slice b 0 64) m;
    let m := leBytes 64 (Config.freeValue s.freeCtr);
    let m2 := leBytes 64 (Config.freeValue (s.freeCtr + 1));
    JobDue s d 8 ∧ j.alg = 0 ∧ jobMem j.src j.len = true ∧ (j.typ ∉ [1, 3, 5, 6] ∨ mayUse s j polDerive = false ∨ polOk tySecret (heir j) = false ∨ mayFill s j.dslot tySecret = false)) = true := by decide +kernel

theorem test_meets_JobSlots_9 : decide (
    let s : State := memWrite 0x800001000 [0x4B, 0x57, 0x52, 0x50, 8, 4, 0x40, 16] (wJob 1 24 [(0, 0xA), (4, 128)]);
    let d : Nat := 0x800000000;
    let j := jobOf s (memRead s d 32);
    let sh := fun (b m : Bytes) => List.zipWith (· ^^^ ·) (slice b 0 64) m;
    let m := leBytes 64 (Config.freeValue s.freeCtr);
    let m2 := leBytes 64 (Config.freeValue (s.freeCtr + 1));
    let kw := slice (deriveOut s s.fuse.duk lbWrap (setBit (u8 j.inp 6) 6 true)) 0 16;
    let x := Config.decrypt 0 kw (slice j.inp 8 12) (slice j.inp 0 0x20) (slice j.inp 0x20 96);
    let b := slice (x.getD []) 0 (u8 j.inp 7);
    let typ := u8 j.inp 4;
    let pol := u8 j.inp 5;
    JobDue s d 0xA ∧ jobMem j.src j.len = true ∧ mayFill s j.dslot (u8 j.inp 4) = true ∧ j.inp.take 4 = [0x4B, 0x57, 0x52, 0x50]) = true := by decide +kernel

theorem test_meets_JobSlots_9_b : decide (
    let s : State := memWrite 0x800001000 [0x4B, 0x57, 0x52, 0x50, 6, 4, 0x40, 66] (wJob 1 24 [(0, 0xA), (4, 128), (2, 62)]);
    let d : Nat := 0x800000000;
    let j := jobOf s (memRead s d 32);
    let sh := fun (b m : Bytes) => List.zipWith (· ^^^ ·) (slice b 0 64) m;
    let m := leBytes 64 (Config.freeValue s.freeCtr);
    let m2 := leBytes 64 (Config.freeValue (s.freeCtr + 1));
    let kw := slice (deriveOut s s.fuse.duk lbWrap (setBit (u8 j.inp 6) 6 true)) 0 16;
    let x := Config.decrypt 0 kw (slice j.inp 8 12) (slice j.inp 0 0x20) (slice j.inp 0x20 96);
    let b := slice (x.getD []) 0 (u8 j.inp 7);
    let typ := u8 j.inp 4;
    let pol := u8 j.inp 5;
    JobDue s d 0xA ∧ jobMem j.src j.len = true ∧ mayFill s j.dslot (u8 j.inp 4) = true ∧ j.inp.take 4 = [0x4B, 0x57, 0x52, 0x50]) = true := by decide +kernel

theorem test_meets_JobSlots_10 : decide (
    let s : State := memWrite 0x800001000 [0x4B, 0x57, 0x52, 0x50, 6, 4, 0x40, 66] (wJob 1 24 [(0, 0xA), (4, 128)]);
    let d : Nat := 0x800000000;
    let j := jobOf s (memRead s d 32);
    let sh := fun (b m : Bytes) => List.zipWith (· ^^^ ·) (slice b 0 64) m;
    let m := leBytes 64 (Config.freeValue s.freeCtr);
    let m2 := leBytes 64 (Config.freeValue (s.freeCtr + 1));
    JobDue s d 0xA ∧ jobMem j.src j.len = true ∧ mayFill s j.dslot (u8 j.inp 4) = false) = true := by decide +kernel

theorem test_meets_JobSlots_11 : decide (
    let s : State := wJob 1 24 [(0, 0xA), (4, 128)];
    let d : Nat := 0x800000000;
    let j := jobOf s (memRead s d 32);
    let sh := fun (b m : Bytes) => List.zipWith (· ^^^ ·) (slice b 0 64) m;
    let m := leBytes 64 (Config.freeValue s.freeCtr);
    let m2 := leBytes 64 (Config.freeValue (s.freeCtr + 1));
    JobDue s d 0xA ∧ jobMem j.src j.len = true ∧ mayFill s j.dslot (u8 j.inp 4) = true ∧ j.inp.take 4 ≠ [0x4B, 0x57, 0x52, 0x50]) = true := by decide +kernel

theorem test_meets_JobSlots_12 : decide (
    let k : KJob := ⟨15, 8, 3, 0x800002000, [1, 2], [(7, ⟨0xB, 8, 3, [1, 2, 3], [4, 5, 6]⟩)], none, false⟩;
    let s : State := { wJob 1 24 [] with key.job := some k };
    let d : Nat := 0;
    let a : Nat := 0x800000000;
    let n : Nat := 16;
    let j := jobOf s (memRead s d 32);
    let sh := fun (b m : Bytes) => List.zipWith (· ^^^ ·) (slice b 0 64) m;
    let m := leBytes 64 (Config.freeValue s.freeCtr);
    let m2 := leBytes 64 (Config.freeValue (s.freeCtr + 1));
    s.key.job = some k ∧ keyRing s = some (a, n) ∧ k.more = none) = true := by decide +kernel

theorem test_meets_JobSlots_12_b : decide (
    let k : KJob := ⟨15, 8, 0, 0x80000001D, [1, 2], [(6, ⟨6, 8, 3, [1, 2, 3], [4, 5, 6]⟩), (7, ⟨6, 8, 3, [1, 2, 4], [4, 5, 6]⟩)], none, false⟩;
    let s : State := setSlot 6 ⟨6, 1, 2, [], []⟩ { wJob 1 24 [] with key.job := some k };
    let d : Nat := 0;
    let a : Nat := 0x800000000;
    let n : Nat := 16;
    let j := jobOf s (memRead s d 32);
    let sh := fun (b m : Bytes) => List.zipWith (· ^^^ ·) (slice b 0 64) m;
    let m := leBytes 64 (Config.freeValue s.freeCtr);
    let m2 := leBytes 64 (Config.freeValue (s.freeCtr + 1));
    s.key.job = some k ∧ keyRing s = some (a, n) ∧ k.more = none) = true := by decide +kernel

theorem test_meets_JobSlots_13 : decide (
    let k : KJob := ⟨15, 1, 0, 0x800002000, [], [], some ⟨5, 0, 0, 5, 0x800001000, 0x800002000, 0, [1, 2], 1, 1, []⟩, true⟩;
    let s : State := { wJob 1 24 [] with key.job := some k };
    let d : Nat := 0;
    let a : Nat := 0x800000000;
    let n : Nat := 16;
    let j' : Job := ⟨5, 0, 0, 5, 0x800001000, 0x800002000, 0, [1, 2], 1, 1, []⟩;
    let j := jobOf s (memRead s d 32);
    let sh := fun (b m : Bytes) => List.zipWith (· ^^^ ·) (slice b 0 64) m;
    let m := leBytes 64 (Config.freeValue s.freeCtr);
    let m2 := leBytes 64 (Config.freeValue (s.freeCtr + 1));
    s.key.job = some k ∧ keyRing s = some (a, n) ∧ k.more = some j' ∧ k.paused = true) = true := by decide +kernel

theorem test_meets_JobSlots_13_b : decide (
    let k : KJob := ⟨15, 1, 0, 0x800002000, [], [], some ⟨5, 0, 0, 5, 0x800001000, 0x800002000, 0, [1, 2], 1, 1, []⟩, true⟩;
    let s : State := onPort 1 (fun _ => [.check 3]) { wJob 1 24 [] with key.job := some k };
    let d : Nat := 0;
    let a : Nat := 0x800000000;
    let n : Nat := 16;
    let j' : Job := ⟨5, 0, 0, 5, 0x800001000, 0x800002000, 0, [1, 2], 1, 1, []⟩;
    let j := jobOf s (memRead s d 32);
    let sh := fun (b m : Bytes) => List.zipWith (· ^^^ ·) (slice b 0 64) m;
    let m := leBytes 64 (Config.freeValue s.freeCtr);
    let m2 := leBytes 64 (Config.freeValue (s.freeCtr + 1));
    s.key.job = some k ∧ keyRing s = some (a, n) ∧ k.more = some j' ∧ k.paused = true) = true := by decide +kernel

theorem test_meets_JobSlots_14 : decide (
    let k : KJob := ⟨15, 1, 0, 0x800002000, [], [], some ⟨5, 0, 0, 5, 0x800001000, 0x800002000, 0, [1, 2], 1, 1, []⟩, false⟩;
    let s : State := onPort 1 (fun _ => [.check 3]) { wJob 1 24 [] with key.job := some k };
    let d : Nat := 0;
    let a : Nat := 0x800000000;
    let n : Nat := 16;
    let j' : Job := ⟨5, 0, 0, 5, 0x800001000, 0x800002000, 0, [1, 2], 1, 1, []⟩;
    let j := jobOf s (memRead s d 32);
    let sh := fun (b m : Bytes) => List.zipWith (· ^^^ ·) (slice b 0 64) m;
    let m := leBytes 64 (Config.freeValue s.freeCtr);
    let m2 := leBytes 64 (Config.freeValue (s.freeCtr + 1));
    s.key.job = some k ∧ keyRing s = some (a, n) ∧ k.more = some j' ∧ k.paused = false ∧ 1 ≤ k.op ∧ k.op ≤ 4 ∧ jobLenBad k.op j' = false ∧ jobMem j'.src j'.len = true ∧ j'.inp.length < j'.len) = true := by decide +kernel

theorem test_meets_JobSlots_14_b : decide (
    let k : KJob := ⟨15, 4, 0, 0x800002000, [], [], some ⟨5, 0, 0, 50, 0x800001000, 0x800002000, 0, [1, 2], 1, 1, []⟩, false⟩;
    let s : State := { wJob 1 24 [] with key.job := some k };
    let d : Nat := 0;
    let a : Nat := 0x800000000;
    let n : Nat := 16;
    let j' : Job := ⟨5, 0, 0, 50, 0x800001000, 0x800002000, 0, [1, 2], 1, 1, []⟩;
    let j := jobOf s (memRead s d 32);
    let sh := fun (b m : Bytes) => List.zipWith (· ^^^ ·) (slice b 0 64) m;
    let m := leBytes 64 (Config.freeValue s.freeCtr);
    let m2 := leBytes 64 (Config.freeValue (s.freeCtr + 1));
    s.key.job = some k ∧ keyRing s = some (a, n) ∧ k.more = some j' ∧ k.paused = false ∧ 1 ≤ k.op ∧ k.op ≤ 4 ∧ jobLenBad k.op j' = false ∧ jobMem j'.src j'.len = true ∧ j'.inp.length < j'.len) = true := by decide +kernel

theorem test_meets_JobSlots_15 : decide (
    let k : KJob := ⟨15, 4, 0, 0x800002000, [], [], some ⟨5, 0, 0, 30, 0x800001000, 0x800002000, 0, wBytes 30 [(1, 4)], 8, 4, []⟩, false⟩;
    let s : State := { wJob 1 24 [] with key.job := some k };
    let d : Nat := 0;
    let a : Nat := 0x800000000;
    let n : Nat := 16;
    let j' : Job := ⟨5, 0, 0, 30, 0x800001000, 0x800002000, 0, wBytes 30 [(1, 4)], 8, 4, []⟩;
    let j := jobOf s (memRead s d 32);
    let sh := fun (b m : Bytes) => List.zipWith (· ^^^ ·) (slice b 0 64) m;
    let m := leBytes 64 (Config.freeValue s.freeCtr);
    let m2 := leBytes 64 (Config.freeValue (s.freeCtr + 1));
    let r := (jobEnd k.op (bulkFn k.op) j' s).1;
    s.key.job = some k ∧ keyRing s = some (a, n) ∧ k.more = some j' ∧ k.paused = false ∧ 1 ≤ k.op ∧ k.op ≤ 4 ∧ j'.inp.length = j'.len) = true := by decide +kernel

theorem test_meets_JobSlots_16 : decide (
    let k : KJob := ⟨15, 1, 0, 0x800002000, [], [], some ⟨5, 0, 2, 2, 0x800001000, 0x800002000, 0, [1, 2], 1, 1, []⟩, false⟩;
    let s : State := { wJob 1 24 [] with key.job := some k };
    let d : Nat := 0;
    let a : Nat := 0x800000000;
    let n : Nat := 16;
    let j' : Job := ⟨5, 0, 2, 2, 0x800001000, 0x800002000, 0, [1, 2], 1, 1, []⟩;
    let j := jobOf s (memRead s d 32);
    let sh := fun (b m : Bytes) => List.zipWith (· ^^^ ·) (slice b 0 64) m;
    let m := leBytes 64 (Config.freeValue s.freeCtr);
    let m2 := leBytes 64 (Config.freeValue (s.freeCtr + 1));
    s.key.job = some k ∧ keyRing s = some (a, n) ∧ k.more = some j' ∧ k.paused = false ∧ k.op = 1 ∧ jobMem j'.src j'.len = true ∧ j'.inp.length = j'.len ∧ j'.alg ≤ 3 ∧ jobMem k.dst (hashLen j'.alg) = true ∧ j'.dst = k.dst) = true := by decide +kernel

theorem test_meets_JobSlots_17 : decide (
    let s : State := wJob 1 24 [(0, 13)];
    let d : Nat := 0x800000000;
    let a : Nat := 0x800000000;
    let n : Nat := 16;
    let j := jobOf s (memRead s d 32);
    let sh := fun (b m : Bytes) => List.zipWith (· ^^^ ·) (slice b 0 64) m;
    let m := leBytes 64 (Config.freeValue s.freeCtr);
    let m2 := leBytes 64 (Config.freeValue (s.freeCtr + 1));
    s.key.job = none ∧ keyRing s = some (a, n) ∧ jobNext s = some d ∧ (u8 (memRead s d 32) 0 = 0 ∨ 0xC < u8 (memRead s d 32) 0)) = true := by decide +kernel

theorem test_meets_JobSlots_17_b : decide (
    let s : State := wJob 1 24 [(0, 0)];
    let d : Nat := 0x800000000;
    let a : Nat := 0x800000000;
    let n : Nat := 16;
    let j := jobOf s (memRead s d 32);
    let sh := fun (b m : Bytes) => List.zipWith (· ^^^ ·) (slice b 0 64) m;
    let m := leBytes 64 (Config.freeValue s.freeCtr);
    let m2 := leBytes 64 (Config.freeValue (s.freeCtr + 1));
    s.key.job = none ∧ keyRing s = some (a, n) ∧ jobNext s = some d ∧ (u8 (memRead s d 32) 0 = 0 ∨ 0xC < u8 (memRead s d 32) 0)) = true := by decide +kernel

theorem test_meets_JobSlots_18 : decide (
    let k : KJob := ⟨15, 8, 3, 0x800002000, [1, 2], [], none, false⟩;
    let s : State := { wRun [] with key.job := some k };
    let d : Nat := 0;
    let j := jobOf s (memRead s d 32);
    let sh := fun (b m : Bytes) => List.zipWith (· ^^^ ·) (slice b 0 64) m;
    let m := leBytes 64 (Config.freeValue s.freeCtr);
    let m2 := leBytes 64 (Config.freeValue (s.freeCtr + 1));
    s.key.job = some k ∧ keyRing s = none ∧ portsFree s = true ∧ s.hfr.wait ≠ .verify) = true := by decide +kernel

theorem test_meets_JobSlots_19 : decide (
    let s : State := wJob 1 24 [(0, 12)];
    let d : Nat := 0x800000000;
    let j := jobOf s (memRead s d 32);
    let sh := fun (b m : Bytes) => List.zipWith (· ^^^ ·) (slice b 0 64) m;
    let m := leBytes 64 (Config.freeValue s.freeCtr);
    let m2 := leBytes 64 (Config.freeValue (s.freeCtr + 1));
    s.key.job = none ∧ portsFree s = true ∧ s.hfr.wait ≠ .verify ∧ (jobNext s = none ∨ jobNext s = some d ∧ u8 (memRead s d 32) 0 ∈ (List.range 13).drop 1)) = true := by decide +kernel

theorem test_meets_JobSlots_19_b : decide (
    let s : State := wRun [];
    let d : Nat := 0x800000000;
    let j := jobOf s (memRead s d 32);
    let sh := fun (b m : Bytes) => List.zipWith (· ^^^ ·) (slice b 0 64) m;
    let m := leBytes 64 (Config.freeValue s.freeCtr);
    let m2 := leBytes 64 (Config.freeValue (s.freeCtr + 1));
    s.key.job = none ∧ portsFree s = true ∧ s.hfr.wait ≠ .verify ∧ (jobNext s = none ∨ jobNext s = some d ∧ u8 (memRead s d 32) 0 ∈ (List.range 13).drop 1)) = true := by decide +kernel

theorem test_meets_ReaderField_1 : decide (
    let s : State := rput F.HFR_CFG_AUTOTUNE 1 (wRun []);
    let best : BitVec 8 := 255;
    let phase : BitVec 8 := 200;
    let iset : BitVec 16 := 500;
    let iant : BitVec 16 := 499;
    let auto := rbit s F.HFR_CFG_AUTOTUNE;
    let lim := decide (best = 0 ∨ best = 255);
    ReaderFree s ∧ (s.hfr.st = .off ∨ s.hfr.st = .lpcd)) = true := by decide +kernel

theorem test_meets_ReaderField_1_b : decide (
    let s : State := rput F.HFR_CFG_AUTOTUNE 0 { wRun [] with hfr.st := .lpcd };
    let best : BitVec 8 := 0;
    let phase : BitVec 8 := 200;
    let iset : BitVec 16 := 500;
    let iant : BitVec 16 := 499;
    let auto := rbit s F.HFR_CFG_AUTOTUNE;
    let lim := decide (best = 0 ∨ best = 255);
    ReaderFree s ∧ (s.hfr.st = .off ∨ s.hfr.st = .lpcd)) = true := by decide +kernel

theorem test_meets_ReaderField_2 : decide (
    let s : State := { wRun [] with hfr.st := .settling, hfr.field := true };
    let sent : Bool := true;
    ReaderFree s ∧ s.hfr.st ≠ .off ∧ s.hfr.st ≠ .lpcd) = true := by decide +kernel

theorem test_meets_ReaderField_3 : decide (
    let s : State := { wRun [] with hfr.st := .activeL3, hfr.field := true, hfr.cmd := some 4 };
    let sent : Bool := false;
    hfrOn s = true ∧ s.hfr.cmd.isSome = true ∧ s.hfr.wait ≠ .verify) = true := by decide +kernel

theorem test_meets_ReaderField_3_b : decide (
    let s : State := { wRun [] with hfr.st := .activeL3, hfr.field := true, hfr.cmd := some 6, hfr.orig := some 15, hfr.sent := true };
    let sent : Bool := false;
    hfrOn s = true ∧ s.hfr.cmd.isSome = true ∧ s.hfr.wait ≠ .verify) = true := by decide +kernel

theorem test_meets_ReaderField_4 : decide (
    let s : State := { wRun [] with hfr.st := .settling, hfr.since := 900 };
    hfrOn s = true ∧ s.hfr.st = .settling ∧ s.hfr.since + 100 ≤ s.tmp.now) = true := by decide +kernel

theorem test_meets_ReaderField_5 : decide (
    let s : State := { wRun [] with hfr.st := .settling, hfr.since := 901 };
    (s.hfr.st ≠ .settling ∨ s.tmp.now < s.hfr.since + 100)) = true := by decide +kernel

theorem test_meets_ReaderField_6 : decide (
    let s : State := { wRun [] with hfr.st := .resetting, hfr.since := 880 };
    hfrOn s = true ∧ s.hfr.st = .resetting ∧ s.hfr.since + 120 ≤ s.tmp.now) = true := by decide +kernel

theorem test_meets_ReaderField_7 : decide (
    let s : State := { wRun [] with hfr.st := .resetting, hfr.since := 881 };
    (s.hfr.st ≠ .resetting ∨ s.tmp.now < s.hfr.since + 120)) = true := by decide +kernel

theorem test_meets_ReaderField_8 : decide (
    let s : State := { wRun [] with hfr.st := .activeL4, hfr.field := true, hfr.iset := 501, hfr.cmd := some 4 };
    let ma : Nat := 250;
    let us : Nat := 10;
    let sent : Bool := true;
    hfrOn s = true ∧ s.hfr.field = true ∧ 2 * ma < s.hfr.iset ∧ 10 ≤ us ∧ s.hfr.wait ≠ .verify) = true := by decide +kernel

theorem test_meets_ReaderField_8_b : decide (
    let s : State := { wRun [] with hfr.st := .activeL4, hfr.field := true, hfr.iset := 501, hfr.cmd := some 6, hfr.orig := some 3 };
    let ma : Nat := 250;
    let us : Nat := 10;
    let sent : Bool := false;
    hfrOn s = true ∧ s.hfr.field = true ∧ 2 * ma < s.hfr.iset ∧ 10 ≤ us ∧ s.hfr.wait ≠ .verify) = true := by decide +kernel

theorem test_meets_ReaderField_9 : decide (
    let s : State := { wRun [] with hfr.st := .activeL4, hfr.field := true, hfr.iset := 500 };
    let ma : Nat := 250;
    let us : Nat := 10;
    let sent : Bool := true;
    (s.hfr.field = false ∨ s.hfr.iset ≤ 2 * ma ∨ us < 10)) = true := by decide +kernel

theorem test_meets_ReaderField_10 : decide (
    let s : State := { wRun [] with hfr.st := .activeL4, hfr.field := true, hfr.cmd := some 4 };
    let sent : Bool := true;
    hfrOn s = true ∧ s.hfr.field = true ∧ s.hfr.wait ≠ .verify) = true := by decide +kernel

theorem test_meets_ReaderField_11 : decide (
    let s : State := wRun [];
    let sent : Bool := true;
    s.hfr.field = false) = true := by decide +kernel

theorem test_meets_ReaderField_12 : decide (
    let s : State := rput F.HFR_CFG_AUTOTUNE 0 (wRun []);
    let arg : BitVec 8 := 255;
    ReaderFree s ∧ (s.hfr.st = .off ∨ s.hfr.st = .lpcd)) = true := by decide +kernel

theorem test_meets_ReaderField_12_b : decide (
    let s : State := rput F.HFR_CFG_AUTOTUNE 1 { wRun [] with hfr.st := .lpcd };
    let arg : BitVec 8 := 255;
    ReaderFree s ∧ (s.hfr.st = .off ∨ s.hfr.st = .lpcd)) = true := by decide +kernel

theorem test_meets_ReaderField_13 : decide (
    let s : State := rput F.HFR_CFG_AUTOTUNE 1 { wRun [] with hfr.field := true, hfr.st := .ready, hfr.stepAt := 800, hfr.step := 255 };
    let phase : BitVec 8 := 6;
    let up : Bool := true;
    let iant : BitVec 16 := 5;
    hfrOn s = true ∧ s.hfr.field = true ∧ rbit s F.HFR_CFG_AUTOTUNE = true ∧ s.hfr.cmd = none ∧ s.hfr.stepAt + 200 ≤ s.tmp.now) = true := by decide +kernel

theorem test_meets_ReaderField_13_b : decide (
    let s : State := rput F.HFR_CFG_AUTOTUNE 1 { wRun [] with hfr.field := true, hfr.st := .ready, hfr.stepAt := 800, hfr.step := 255 };
    let phase : BitVec 8 := 251;
    let up : Bool := false;
    let iant : BitVec 16 := 5;
    hfrOn s = true ∧ s.hfr.field = true ∧ rbit s F.HFR_CFG_AUTOTUNE = true ∧ s.hfr.cmd = none ∧ s.hfr.stepAt + 200 ≤ s.tmp.now) = true := by decide +kernel

theorem test_meets_ReaderField_14 : decide (
    let s : State := { wRun [] with hfr.field := true, hfr.st := .ready, hfr.cmd := some 4 };
    let phase : BitVec 8 := 6;
    let up : Bool := true;
    let iant : BitVec 16 := 5;
    (s.hfr.cmd.isSome = true ∨ s.hfr.field = false ∨ rbit s F.HFR_CFG_AUTOTUNE = false ∨ s.tmp.now < s.hfr.stepAt + 200)) = true := by decide +kernel

theorem test_meets_ReaderField_14_b : decide (
    let s : State := rput F.HFR_CFG_AUTOTUNE 1 { wRun [] with hfr.field := true, hfr.st := .ready, hfr.stepAt := 801 };
    let phase : BitVec 8 := 6;
    let up : Bool := true;
    let iant : BitVec 16 := 5;
    (s.hfr.cmd.isSome = true ∨ s.hfr.field = false ∨ rbit s F.HFR_CFG_AUTOTUNE = false ∨ s.tmp.now < s.hfr.stepAt + 200)) = true := by decide +kernel

theorem test_meets_ReaderField_15 : decide (
    let s : State := wRun [];
    ReaderFree s ∧ (s.hfr.st = .off ∨ s.hfr.st = .lpcd)) = true := by decide +kernel

theorem test_meets_ReaderField_15_b : decide (
    let s : State := { wRun [] with hfr.st := .lpcd, hfr.ref := [5] };
    ReaderFree s ∧ (s.hfr.st = .off ∨ s.hfr.st = .lpcd)) = true := by decide +kernel

theorem test_meets_ReaderField_16 : decide (
    let s : State := rput F.HFR_LPCD_THRESH 10 (rput F.HFR_LPCD_PERIOD 100 { wRun [] with tmp.now := 3000, hfr.st := .lpcd, hfr.ref := [1000], hfr.burstAt := 1000 });
    let amp : Nat := 1011;
    let sum := s.hfr.ref.sum;
    let dev := ((amp * s.hfr.ref.length : Nat) - (sum : Int)).natAbs * 1000;
    let lim := max 1 (rget s F.HFR_LPCD_THRESH) * sum;
    hfrOn s = true ∧ s.hfr.st = .lpcd ∧ s.hfr.burstAt + 20 * max 100 (min 1000 (rget s F.HFR_LPCD_PERIOD)) ≤ s.tmp.now ∧ s.hfr.ref ≠ [] ∧ s.pwr.sys = .s0 ∧ s.pwr.entry = .none) = true := by decide +kernel

theorem test_meets_ReaderField_16_b : decide (
    let s : State := rput F.HFR_LPCD_THRESH 10 (rput F.HFR_LPCD_PERIOD 100 { wRun [] with tmp.now := 3000, hfr.st := .lpcd, hfr.ref := [1000], hfr.burstAt := 1000 });
    let amp : Nat := 994;
    let sum := s.hfr.ref.sum;
    let dev := ((amp * s.hfr.ref.length : Nat) - (sum : Int)).natAbs * 1000;
    let lim := max 1 (rget s F.HFR_LPCD_THRESH) * sum;
    hfrOn s = true ∧ s.hfr.st = .lpcd ∧ s.hfr.burstAt + 20 * max 100 (min 1000 (rget s F.HFR_LPCD_PERIOD)) ≤ s.tmp.now ∧ s.hfr.ref ≠ [] ∧ s.pwr.sys = .s0 ∧ s.pwr.entry = .none) = true := by decide +kernel

theorem test_meets_ReaderField_16_c : decide (
    let s : State := rput F.HFR_LPCD_THRESH 10 (rput F.HFR_LPCD_PERIOD 100 { wRun [] with tmp.now := 3000, hfr.st := .lpcd, hfr.ref := [1000], hfr.burstAt := 1000 });
    let amp : Nat := 995;
    let sum := s.hfr.ref.sum;
    let dev := ((amp * s.hfr.ref.length : Nat) - (sum : Int)).natAbs * 1000;
    let lim := max 1 (rget s F.HFR_LPCD_THRESH) * sum;
    hfrOn s = true ∧ s.hfr.st = .lpcd ∧ s.hfr.burstAt + 20 * max 100 (min 1000 (rget s F.HFR_LPCD_PERIOD)) ≤ s.tmp.now ∧ s.hfr.ref ≠ [] ∧ s.pwr.sys = .s0 ∧ s.pwr.entry = .none) = true := by decide +kernel

theorem test_meets_ReaderField_17 : decide (
    let s : State := rput F.HFR_LPCD_PERIOD 100 { wRun [] with tmp.now := 3000, hfr.st := .lpcd, hfr.burstAt := 1000 };
    let amp : Nat := 995;
    hfrOn s = true ∧ s.hfr.st = .lpcd ∧ s.hfr.burstAt + 20 * max 100 (min 1000 (rget s F.HFR_LPCD_PERIOD)) ≤ s.tmp.now ∧ s.hfr.ref = []) = true := by decide +kernel

theorem test_meets_ReaderField_18 : decide (
    let s : State := rput F.PWR_WAKEEN_EN 256 (rput F.HFR_LPCD_THRESH 10 (rput F.HFR_LPCD_PERIOD 100 { wRun [] with pwr.sys := .s2, tmp.now := 3000, hfr.st := .lpcd, hfr.ref := [1000], hfr.burstAt := 1000 }));
    let amp : Nat := 989;
    hfrOn s = true ∧ s.hfr.st = .lpcd ∧ s.hfr.burstAt + 20 * max 100 (min 1000 (rget s F.HFR_LPCD_PERIOD)) ≤ s.tmp.now ∧ max 1 (rget s F.HFR_LPCD_THRESH) * s.hfr.ref.sum < ((amp * s.hfr.ref.length : Nat) - (s.hfr.ref.sum : Int)).natAbs * 1000 ∧ s.hfr.ref ≠ [] ∧ s.pwr.sys = .s2 ∧ s.pwr.entry = .none ∧ s.pwr.aonOn = true ∧ s.pwr.boot = .running ∧ s.pwr.pfwFinal = false ∧ (rget s F.PWR_WAKEEN_EN).testBit 8 = true) = true := by decide +kernel

theorem test_meets_ReaderField_19 : decide (
    let s : State := rput F.HFR_LPCD_PERIOD 100 { wRun [] with tmp.now := 2999, hfr.st := .lpcd, hfr.burstAt := 1000 };
    let amp : Nat := 995;
    (s.hfr.st ≠ .lpcd ∨ s.tmp.now < s.hfr.burstAt + 20 * max 100 (min 1000 (rget s F.HFR_LPCD_PERIOD)))) = true := by decide +kernel

theorem test_meets_ReaderField_20 : decide (
    let s : State := { wRun [] with pwr.fieldOn := false, hfr.st := .settling };
    let best : BitVec 8 := 0;
    let phase : BitVec 8 := 200;
    let up : Bool := true;
    let iset : BitVec 16 := 500;
    let iant : BitVec 16 := 499;
    let sent : Bool := true;
    let ma : Nat := 1;
    let us : Nat := 10;
    let arg : BitVec 8 := 1;
    let amp : Nat := 1;
    let typ : BitVec 2 := 1;
    let wup : Bool := true;
    let l4 : Bool := true;
    let cards : List HfCard := [];
    let nocrc : Bool := true;
    let txbits : BitVec 3 := 0;
    let txlen : BitVec 10 := 512;
    let blk : HfBlock := .ack;
    let rxbits : BitVec 3 := 0;
    let wtxm : BitVec 6 := 1;
    hfrOn s = false) = true := by decide +kernel

theorem test_meets_ReaderField_20_b : decide (
    let s : State := { wRun [] with pwr.fieldOn := false, hfr.st := .settling };
    let best : BitVec 8 := 0;
    let phase : BitVec 8 := 200;
    let up : Bool := true;
    let iset : BitVec 16 := 500;
    let iant : BitVec 16 := 499;
    let sent : Bool := true;
    let ma : Nat := 1;
    let us : Nat := 10;
    let arg : BitVec 8 := 1;
    let amp : Nat := 1;
    let typ : BitVec 2 := 1;
    let wup : Bool := true;
    let l4 : Bool := true;
    let cards : List HfCard := [];
    let nocrc : Bool := true;
    let txbits : BitVec 3 := 0;
    let txlen : BitVec 10 := 512;
    let blk : HfBlock := .ack;
    let rxbits : BitVec 3 := 0;
    let wtxm : BitVec 6 := 1;
    hfrOn s = false) = true := by decide +kernel

theorem test_meets_ReaderExchanges_1 : decide (
    let s : State := { wRun [] with hfr.st := .ready };
    let best : BitVec 8 := 0;
    let phase : BitVec 8 := 200;
    let iset : BitVec 16 := 500;
    let iant : BitVec 16 := 499;
    let sent : Bool := true;
    let arg : BitVec 8 := 1;
    let typ : BitVec 2 := 1;
    let wup : Bool := true;
    let l4 : Bool := true;
    let cards : List HfCard := [];
    let nocrc : Bool := true;
    let txbits : BitVec 3 := 0;
    let txlen : BitVec 10 := 512;
    let us : Nat := 10;
    let st := if s.hfr.st = .lpcd then HfSt.off else s.hfr.st;
    ReaderFree s ∧ txlen.toNat ≤ 512) = true := by decide +kernel

theorem test_meets_ReaderExchanges_1_b : decide (
    let s : State := { wRun [] with hfr.st := .lpcd };
    let best : BitVec 8 := 0;
    let phase : BitVec 8 := 200;
    let iset : BitVec 16 := 500;
    let iant : BitVec 16 := 499;
    let sent : Bool := true;
    let arg : BitVec 8 := 1;
    let typ : BitVec 2 := 1;
    let wup : Bool := true;
    let l4 : Bool := true;
    let cards : List HfCard := [];
    let nocrc : Bool := true;
    let txbits : BitVec 3 := 0;
    let txlen : BitVec 10 := 512;
    let us : Nat := 10;
    let st := if s.hfr.st = .lpcd then HfSt.off else s.hfr.st;
    ReaderFree s ∧ txlen.toNat ≤ 512) = true := by decide +kernel

theorem test_meets_ReaderExchanges_1_c : decide (
    let s : State := { wRun [] with hfr.st := .ready };
    let best : BitVec 8 := 0;
    let phase : BitVec 8 := 200;
    let iset : BitVec 16 := 500;
    let iant : BitVec 16 := 499;
    let sent : Bool := true;
    let arg : BitVec 8 := 1;
    let typ : BitVec 2 := 1;
    let wup : Bool := true;
    let l4 : Bool := true;
    let cards : List HfCard := [];
    let nocrc : Bool := true;
    let txbits : BitVec 3 := 0;
    let txlen : BitVec 10 := 512;
    let us : Nat := 10;
    let st := if s.hfr.st = .lpcd then HfSt.off else s.hfr.st;
    ReaderFree s ∧ txlen.toNat ≤ 512) = true := by decide +kernel

theorem test_meets_ReaderExchanges_2 : decide (
    let s : State := { wRun [] with hfr.st := .ready, hfr.cmd := some 4 };
    let best : BitVec 8 := 0;
    let phase : BitVec 8 := 200;
    let iset : BitVec 16 := 500;
    let iant : BitVec 16 := 499;
    let sent : Bool := true;
    let arg : BitVec 8 := 1;
    let typ : BitVec 2 := 1;
    let wup : Bool := true;
    let l4 : Bool := true;
    let cards : List HfCard := [];
    let nocrc : Bool := true;
    let txbits : BitVec 3 := 0;
    let txlen : BitVec 10 := 512;
    let us : Nat := 10;
    hfrOn s = true ∧ s.hfr.cmd ≠ none) = true := by decide +kernel

theorem test_meets_ReaderExchanges_3 : decide (
    let s : State := rput F.HFR_CFG_MAXRATE 2 { wRun [] with hfr.st := .ready };
    let c : HfCard := ⟨false, true, [4, 1, 2, 3, 4, 5, 6], 4, 0x20, true, [], [1, 2], true, 256, 8, 3, 7, false⟩;
    let wup : Bool := true;
    let l4 : Bool := true;
    let typ : BitVec 2 := 1;
    let up := l4 && c.layer4;
    let m := rget s F.HFR_CFG_MAXRATE;
    let best := fun (x : Nat) => ([3, 2, 1].find? (fun r => decide (r ≤ m) && x.testBit r)).getD 0;
    ReaderFree s ∧ s.hfr.st = .ready ∧ (typ = 1 ∨ typ = 3) ∧ c.b = false ∧ c.ok = true ∧ (wup = true ∨ c.halted = false) ∧ c.uid.length ≤ 12) = true := by decide +kernel

theorem test_meets_ReaderExchanges_3_b : decide (
    let s : State := rput F.HFR_CFG_MAXRATE 3 { wRun [] with hfr.st := .ready };
    let c : HfCard := ⟨false, false, [4, 1, 2, 3, 4, 5, 6, 7, 8, 9], 0x10004, 0x120, true, [], [1, 2], true, 512, 15, 10, 14, true⟩;
    let wup : Bool := false;
    let l4 : Bool := true;
    let typ : BitVec 2 := 3;
    let up := l4 && c.layer4;
    let m := rget s F.HFR_CFG_MAXRATE;
    let best := fun (x : Nat) => ([3, 2, 1].find? (fun r => decide (r ≤ m) && x.testBit r)).getD 0;
    ReaderFree s ∧ s.hfr.st = .ready ∧ (typ = 1 ∨ typ = 3) ∧ c.b = false ∧ c.ok = true ∧ (wup = true ∨ c.halted = false) ∧ c.uid.length ≤ 12) = true := by decide +kernel

theorem test_meets_ReaderExchanges_3_c : decide (
    let s : State := rput F.HFR_CFG_MAXRATE 3 { wRun [] with hfr.st := .ready };
    let c : HfCard := ⟨false, false, [4, 1, 2, 3], 4, 0x20, true, [], [1, 2], false, 512, 15, 10, 14, true⟩;
    let wup : Bool := false;
    let l4 : Bool := true;
    let typ : BitVec 2 := 3;
    let up := l4 && c.layer4;
    let m := rget s F.HFR_CFG_MAXRATE;
    let best := fun (x : Nat) => ([3, 2, 1].find? (fun r => decide (r ≤ m) && x.testBit r)).getD 0;
    ReaderFree s ∧ s.hfr.st = .ready ∧ (typ = 1 ∨ typ = 3) ∧ c.b = false ∧ c.ok = true ∧ (wup = true ∨ c.halted = false) ∧ c.uid.length ≤ 12) = true := by decide +kernel

theorem test_meets_ReaderExchanges_4 : decide (
    let s : State := { wRun [] with hfr.st := .ready };
    let c1 : HfCard := ⟨false, false, [0x3F, 0x3C, 0x51, 0xA6], 4, 0x20, true, [], [], false, 256, 8, 3, 3, false⟩;
    let c2 : HfCard := ⟨false, false, [0x3F, 0x3C, 0x51, 0x26], 4, 0x20, true, [], [], false, 256, 8, 3, 3, false⟩;
    let wup : Bool := false;
    let l4 : Bool := true;
    let i : Nat := 31;
    ReaderFree s ∧ s.hfr.st = .ready ∧ c1.b = false ∧ c2.b = false ∧ c1.ok = true ∧ (wup = true ∨ c1.halted = false ∧ c2.halted = false) ∧ c1.uid.length = 4 ∧ c2.uid.length = 4 ∧ i < 32 ∧ (u8 c1.uid (i / 8)).testBit (i % 8) = true ∧ (u8 c2.uid (i / 8)).testBit (i % 8) = false ∧ ((∀ k ∈ List.range i, (u8 c1.uid (k / 8)).testBit (k % 8) = (u8 c2.uid (k / 8)).testBit (k % 8)))) = true := by decide +kernel

theorem test_meets_ReaderExchanges_5 : decide (
    let s : State := { wRun [] with hfr.st := .ready };
    let c1 : HfCard := ⟨false, false, [0x3F, 0x3C, 0x51, 0xA6, 7, 8, 9], 4, 0x20, true, [], [], false, 256, 8, 3, 3, false⟩;
    let c2 : HfCard := ⟨false, false, [0x3F, 0x3C, 0x51, 0xA6, 7, 8, 9], 4, 0x21, true, [], [], false, 256, 8, 3, 3, false⟩;
    let wup : Bool := false;
    let l4 : Bool := true;
    ReaderFree s ∧ s.hfr.st = .ready ∧ c1.b = false ∧ c2.b = false ∧ c1.uid = c2.uid ∧ (wup = true ∨ c1.halted = false ∧ c2.halted = false) ∧ c1.sak ≠ c2.sak) = true := by decide +kernel

theorem test_meets_ReaderExchanges_6 : decide (
    let s : State := { wRun [] with hfr.st := .ready };
    let c : HfCard := ⟨false, false, [0x3F, 0x3C, 0x51, 0xA6, 7, 8, 9], 4, 0x20, false, [], [], false, 256, 8, 3, 3, false⟩;
    let wup : Bool := false;
    let l4 : Bool := true;
    ReaderFree s ∧ s.hfr.st = .ready ∧ c.b = false ∧ c.ok = false ∧ (wup = true ∨ c.halted = false)) = true := by decide +kernel

theorem test_meets_ReaderExchanges_7 : decide (
    let s : State := { wRun [] with hfr.st := .ready };
    let typ : BitVec 2 := 3;
    let wup : Bool := true;
    let l4 : Bool := true;
    let cards : List HfCard := [];
    ReaderFree s ∧ s.hfr.st = .ready ∧ typ ≠ 0 ∧ ((∀ c ∈ cards, wup = false ∧ c.halted = true ∨ typ = 1 ∧ c.b = true ∨ typ = 2 ∧ c.b = false))) = true := by decide +kernel

theorem test_meets_ReaderExchanges_7_b : decide (
    let s : State := { wRun [] with hfr.st := .ready };
    let typ : BitVec 2 := 1;
    let wup : Bool := false;
    let l4 : Bool := true;
    let cards : List HfCard := [⟨false, true, [1, 2, 3, 4], 4, 0x20, false, [], [], false, 256, 8, 3, 3, false⟩, ⟨true, false, [1, 2, 3, 4], 4, 0x20, false, [], [], false, 256, 8, 3, 3, false⟩];
    ReaderFree s ∧ s.hfr.st = .ready ∧ typ ≠ 0 ∧ ((∀ c ∈ cards, wup = false ∧ c.halted = true ∨ typ = 1 ∧ c.b = true ∨ typ = 2 ∧ c.b = false))) = true := by decide +kernel

theorem test_meets_ReaderExchanges_8 : decide (
    let s : State := rput F.HFR_CFG_SLOTS 4 { wRun [] with hfr.st := .ready };
    let c : HfCard := ⟨true, false, [1, 2, 3, 4], 4, 0x20, true, [16], [1, 2, 3], true, 256, 15, 3, 3, false⟩;
    let typ : BitVec 2 := 3;
    let wup : Bool := false;
    let l4 : Bool := true;
    ReaderFree s ∧ s.hfr.st = .ready ∧ (typ = 2 ∨ typ = 3) ∧ c.b = true ∧ c.ok = true ∧ (wup = true ∨ c.halted = false) ∧ c.uid.length ≤ 12 ∧ 1 ≤ c.slots.getD 0 1 ∧ c.slots.getD 0 1 ≤ 2 ^ min 4 (rget s F.HFR_CFG_SLOTS)) = true := by decide +kernel

theorem test_meets_ReaderExchanges_9 : decide (
    let s : State := { wRun [] with hfr.st := .ready };
    let c1 : HfCard := ⟨true, false, [1, 2, 3, 4], 4, 0x20, true, [1, 1], [1, 2, 3], true, 256, 15, 3, 3, false⟩;
    let c2 : HfCard := ⟨true, false, [1, 2, 3, 5], 4, 0x20, true, [], [1, 2, 3], true, 256, 15, 3, 3, false⟩;
    let wup : Bool := false;
    let l4 : Bool := true;
    ReaderFree s ∧ s.hfr.st = .ready ∧ c1.b = true ∧ c2.b = true ∧ (wup = true ∨ c1.halted = false ∧ c2.halted = false) ∧ ((∀ r ∈ List.range 8, c1.slots.getD r 1 = 1 ∧ c2.slots.getD r 1 = 1))) = true := by decide +kernel

theorem test_meets_ReaderExchanges_10 : decide (
    let s : State := { wRun [] with hfr.st := .ready };
    let wup : Bool := true;
    let l4 : Bool := true;
    let cards : List HfCard := [];
    ReaderFree s ∧ s.hfr.st = .ready) = true := by decide +kernel

theorem test_meets_ReaderExchanges_11 : decide (
    let s : State := { wRun [] with hfr.st := .activeL4, hfr.fwi := 8 };
    let nocrc : Bool := true;
    let txbits : BitVec 3 := 0;
    let txlen : BitVec 10 := 512;
    let us : Nat := 70;
    ReaderFree s ∧ s.hfr.st = .activeL4 ∧ txlen.toNat ≤ 512) = true := by decide +kernel

theorem test_meets_ReaderExchanges_12 : decide (
    let s : State := { wRun [] with hfr.st := .ready, hfr.fwi := 8 };
    let nocrc : Bool := true;
    let txbits : BitVec 3 := 0;
    let txlen : BitVec 10 := 0;
    let us : Nat := 70;
    ReaderFree s ∧ (s.hfr.st = .ready ∨ s.hfr.st = .activeL3 ∨ s.hfr.st = .activeL4) ∧ txlen.toNat ≤ 512) = true := by decide +kernel

theorem test_meets_ReaderExchanges_13 : decide (
    let s : State := rput F.HFR_LENERR_COUNT 65535 { wRun [] with hfr.st := .ready, hfr.fwi := 8 };
    let l4 : Bool := true;
    let nocrc : Bool := true;
    let txbits : BitVec 3 := 0;
    let txlen : BitVec 10 := 513;
    let us : Nat := 70;
    ReaderFree s ∧ (s.hfr.st = .ready ∨ s.hfr.st = .activeL3 ∨ s.hfr.st = .activeL4) ∧ 512 < txlen.toNat) = true := by decide +kernel

theorem test_meets_ReaderExchanges_14 : decide (
    let s : State := { wRun [] with hfr.st := .activeL3, hfr.ctype := 1 };
    ReaderFree s ∧ s.hfr.st = .activeL3) = true := by decide +kernel

theorem test_meets_ReaderExchanges_15 : decide (
    let s : State := { wRun [] with hfr.st := .activeL4, hfr.ctype := 1 };
    ReaderFree s ∧ s.hfr.st = .activeL4) = true := by decide +kernel

theorem test_meets_ReaderExchanges_16 : decide (
    let s : State := { wRun [] with hfr.st := .activeL3, hfr.cmd := some 4, hfr.wait := .raw };
    let b : Bytes := List.replicate 512 7;
    let rxbits : BitVec 3 := 1;
    let resp := if s.hfr.wait = .raw then b else s.hfr.inp ++ b;
    hfrOn s = true ∧ (s.hfr.wait = .raw ∨ s.hfr.wait = .block) ∧ s.hfr.orig = none ∧ s.hfr.cmd = some 4) = true := by decide +kernel

theorem test_meets_ReaderExchanges_16_b : decide (
    let s : State := { wRun [] with hfr.st := .activeL4, hfr.cmd := some 4, hfr.wait := .block, hfr.inp := [1, 2] };
    let b : Bytes := List.replicate 510 7;
    let rxbits : BitVec 3 := 1;
    let resp := if s.hfr.wait = .raw then b else s.hfr.inp ++ b;
    hfrOn s = true ∧ (s.hfr.wait = .raw ∨ s.hfr.wait = .block) ∧ s.hfr.orig = none ∧ s.hfr.cmd = some 4) = true := by decide +kernel

theorem test_meets_ReaderExchanges_16_c : decide (
    let s : State := { wRun [] with hfr.st := .activeL4, hfr.cmd := some 4, hfr.wait := .block, hfr.inp := [1, 2] };
    let b : Bytes := List.replicate 511 7;
    let rxbits : BitVec 3 := 1;
    let resp := if s.hfr.wait = .raw then b else s.hfr.inp ++ b;
    hfrOn s = true ∧ (s.hfr.wait = .raw ∨ s.hfr.wait = .block) ∧ s.hfr.orig = none ∧ s.hfr.cmd = some 4) = true := by decide +kernel

theorem test_meets_ReaderExchanges_17 : decide (
    let s : State := { wRun [] with hfr.st := .activeL4, hfr.cmd := some 4, hfr.wait := .block, hfr.inp := [1, 2] };
    let b : Bytes := [3];
    let rxbits : BitVec 3 := 1;
    hfrOn s = true ∧ s.hfr.wait = .block) = true := by decide +kernel

theorem test_meets_ReaderExchanges_18 : decide (
    let s : State := { wRun [] with hfr.st := .activeL4, hfr.cmd := some 4, hfr.wait := .block, hfr.out := [1, 2, 3], hfr.fsc := 5 };
    let rxbits : BitVec 3 := 1;
    hfrOn s = true ∧ s.hfr.wait = .block ∧ max 1 (s.hfr.fsc - 3) < s.hfr.out.length) = true := by decide +kernel

theorem test_meets_ReaderExchanges_19 : decide (
    let s : State := { wRun [] with hfr.st := .activeL4, hfr.cmd := some 4, hfr.wait := .block, hfr.out := [1, 2], hfr.fsc := 5 };
    let rxbits : BitVec 3 := 1;
    let blk : HfBlock := .ack;
    hfrOn s = true ∧ s.hfr.wait = .block ∧ (blk = .bad ∨ blk = .deselected ∨ blk = .ack ∧ s.hfr.out.length ≤ max 1 (s.hfr.fsc - 3))) = true := by decide +kernel

theorem test_meets_ReaderExchanges_20 : decide (
    let s : State := { wRun [] with hfr.st := .activeL4, hfr.cmd := some 4, hfr.wait := .block, hfr.retries := 1, hfr.waitUs := 50000 };
    hfrOn s = true ∧ s.hfr.wait = .block ∧ s.hfr.waitAt * 50 + s.hfr.waitUs ≤ s.tmp.now * 50) = true := by decide +kernel

theorem test_meets_ReaderExchanges_20_b : decide (
    let s : State := { wRun [] with hfr.st := .activeL4, hfr.cmd := some 4, hfr.wait := .block, hfr.retries := 2, hfr.waitUs := 50000 };
    hfrOn s = true ∧ s.hfr.wait = .block ∧ s.hfr.waitAt * 50 + s.hfr.waitUs ≤ s.tmp.now * 50) = true := by decide +kernel

theorem test_meets_ReaderExchanges_21 : decide (
    let s : State := wRun [];
    let rxbits : BitVec 3 := 1;
    let blk : HfBlock := .ack;
    hfrOn s = true ∧ (s.hfr.wait = .none ∨ s.hfr.wait = .deselect ∧ blk ≠ .deselected)) = true := by decide +kernel

theorem test_meets_ReaderExchanges_21_b : decide (
    let s : State := { wRun [] with hfr.st := .activeL4, hfr.cmd := some 4, hfr.wait := .deselect };
    let rxbits : BitVec 3 := 1;
    let blk : HfBlock := .ack;
    hfrOn s = true ∧ (s.hfr.wait = .none ∨ s.hfr.wait = .deselect ∧ blk ≠ .deselected)) = true := by decide +kernel

theorem test_meets_ReaderExchanges_22 : decide (
    let s : State := { wRun [] with hfr.st := .activeL4, hfr.cmd := some 5, hfr.wait := .deselect, hfr.pend := some (0, 0) };
    let rxbits : BitVec 3 := 1;
    let op : Nat := 5;
    let r : Nat := 0;
    let o : Nat := 0;
    hfrOn s = true ∧ s.hfr.wait = .deselect ∧ s.hfr.cmd = some op ∧ op ≤ 8 ∧ s.hfr.pend = some (r, o) ∧ r ≤ 10 ∧ o ≤ 4) = true := by decide +kernel

theorem test_meets_ReaderExchanges_22_b : decide (
    let s : State := { wRun [] with hfr.st := .activeL4, hfr.cmd := some 6, hfr.orig := some 4, hfr.wait := .deselect, hfr.pend := some (7, 2) };
    let rxbits : BitVec 3 := 1;
    let op : Nat := 6;
    let r : Nat := 7;
    let o : Nat := 2;
    hfrOn s = true ∧ s.hfr.wait = .deselect ∧ s.hfr.cmd = some op ∧ op ≤ 8 ∧ s.hfr.pend = some (r, o) ∧ r ≤ 10 ∧ o ≤ 4) = true := by decide +kernel

theorem test_meets_ReaderExchanges_23 : decide (
    let s : State := { wRun [] with hfr.st := .activeL4, hfr.cmd := some 5, hfr.wait := .deselect, hfr.waitUs := 50000, hfr.pend := some (0, 0) };
    let op : Nat := 5;
    let r : Nat := 0;
    let o : Nat := 0;
    hfrOn s = true ∧ s.hfr.wait = .deselect ∧ s.hfr.waitAt * 50 + s.hfr.waitUs ≤ s.tmp.now * 50 ∧ s.hfr.cmd = some op ∧ op ≤ 8 ∧ s.hfr.pend = some (r, o) ∧ r ≤ 10 ∧ o ≤ 4) = true := by decide +kernel

theorem test_meets_ReaderExchanges_23_b : decide (
    let s : State := { wRun [] with hfr.st := .activeL4, hfr.cmd := some 6, hfr.orig := some 4, hfr.wait := .deselect, hfr.waitUs := 50000, hfr.pend := some (7, 2) };
    let op : Nat := 6;
    let r : Nat := 7;
    let o : Nat := 2;
    hfrOn s = true ∧ s.hfr.wait = .deselect ∧ s.hfr.waitAt * 50 + s.hfr.waitUs ≤ s.tmp.now * 50 ∧ s.hfr.cmd = some op ∧ op ≤ 8 ∧ s.hfr.pend = some (r, o) ∧ r ≤ 10 ∧ o ≤ 4) = true := by decide +kernel

theorem test_meets_ReaderExchanges_24 : decide (
    let s : State := { wRun [] with hfr.st := .activeL4, hfr.cmd := some 4, hfr.wait := .raw };
    let rxbits : BitVec 3 := 1;
    let op : Nat := 4;
    let blk : HfBlock := .bad;
    hfrOn s = true ∧ s.hfr.wait = .raw ∧ s.hfr.cmd = some op ∧ op ≤ 8 ∧ blk ∈ [.bad, .ack, .deselected]) = true := by decide +kernel

theorem test_meets_ReaderExchanges_25 : decide (
    let s : State := { wRun [] with hfr.st := .activeL3, hfr.cmd := some 6, hfr.orig := some 4, hfr.wait := .raw, hfr.waitUs := 50000 };
    let op : Nat := 6;
    hfrOn s = true ∧ s.hfr.wait = .raw ∧ s.hfr.cmd = some op ∧ op ≤ 8 ∧ s.hfr.waitAt * 50 + s.hfr.waitUs ≤ s.tmp.now * 50) = true := by decide +kernel

theorem test_meets_ReaderExchanges_26 : decide (
    let s : State := rput F.HFR_CFG_CAP 1 { wRun [] with tmp.now := 3000, hfr.capAt := 1000, hfr.st := .ready, hfr.cmd := some 4, hfr.wait := .raw };
    let op : Nat := 4;
    hfrOn s = true ∧ s.hfr.wait = .raw ∧ s.hfr.cmd = some op ∧ op ≤ 8 ∧ s.hfr.st ≠ .activeL4 ∧ s.hfr.capAt + 2000 * max 1 (min 50 (rget s F.HFR_CFG_CAP)) ≤ s.tmp.now) = true := by decide +kernel

theorem test_meets_ReaderExchanges_27 : decide (
    let s : State := { wRun [] with hfr.st := .activeL4, hfr.cmd := some 4, hfr.wait := .block, hfr.waitUs := 50001 };
    (s.hfr.wait = .none ∨ s.tmp.now * 50 < s.hfr.waitAt * 50 + s.hfr.waitUs)) = true := by decide +kernel

theorem test_meets_ReaderExchanges_28 : decide (
    let s : State := { wRun [] with hfr.st := .activeL4, hfr.cmd := some 4, hfr.wait := .block, hfr.fwi := 8 };
    let wtxm : BitVec 6 := 63;
    hfrOn s = true ∧ s.hfr.wait = .block ∧ wtxm ≠ 0 ∧ s.tmp.now < s.hfr.capAt + 2000 * max 1 (min 50 (rget s F.HFR_CFG_CAP))) = true := by decide +kernel

theorem test_meets_ReaderExchanges_29 : decide (
    let s : State := { wRun [] with hfr.st := .activeL4, hfr.cmd := some 4, hfr.wait := .block, hfr.fwi := 8 };
    hfrOn s = true ∧ s.hfr.wait = .block ∧ s.tmp.now < s.hfr.capAt + 2000 * max 1 (min 50 (rget s F.HFR_CFG_CAP))) = true := by decide +kernel

theorem test_meets_ReaderExchanges_30 : decide (
    let s : State := { wRun [] with hfr.st := .activeL4, hfr.cmd := some 4, hfr.wait := .raw, hfr.fwi := 8 };
    let wtxm : BitVec 6 := 63;
    (s.hfr.wait ≠ .block ∨ s.hfr.capAt + 2000 * max 1 (min 50 (rget s F.HFR_CFG_CAP)) ≤ s.tmp.now)) = true := by decide +kernel

theorem test_meets_ReaderExchanges_31 : decide (
    let s : State := rput F.HFR_CFG_CAP 1 { wRun [] with tmp.now := 3000, hfr.capAt := 1000, hfr.st := .activeL4, hfr.cmd := some 4, hfr.wait := .block };
    hfrOn s = true ∧ (s.hfr.wait = .block ∨ s.hfr.wait = .raw ∧ s.hfr.st = .activeL4) ∧ s.hfr.capAt + 2000 * max 1 (min 50 (rget s F.HFR_CFG_CAP)) ≤ s.tmp.now) = true := by decide +kernel

theorem test_meets_ReaderExchanges_32 : decide (
    let s : State := rput F.HFR_CFG_CAP 1 { wRun [] with tmp.now := 2999, hfr.capAt := 1000, hfr.st := .activeL4, hfr.cmd := some 4, hfr.wait := .block };
    (s.hfr.wait = .none ∨ s.hfr.wait = .deselect ∨ s.tmp.now < s.hfr.capAt + 2000 * max 1 (min 50 (rget s F.HFR_CFG_CAP)))) = true := by decide +kernel

theorem test_meets_ReaderExchanges_33 : decide (
    let s : State := rput (F.HFR_PROF0_EN 15) 1 (rput (F.HFR_PROF0_TYPE 15) 1 (rput (F.HFR_PROF1_CMDLEN 15) 2 (rput (F.HFR_PROF1_SIGOFS 15) 192 { wRun [] with hfr.st := .activeL3, hfr.ctype := 1, hfr.uid := [1, 2, 3, 4] })));
    let us : Nat := 9;
    let typ := fun (k : Nat) => rbit s (F.HFR_PROF0_EN k) && (rget s (F.HFR_PROF0_TYPE k)).testBit (s.hfr.ctype - 1);
    let len := fun (k : Nat) => rget s (F.HFR_PROF0_UIDLEN k) == 0 || rget s (F.HFR_PROF0_UIDLEN k) == s.hfr.uid.length;
    let msk := fun (k : Nat) => rget s (F.HFR_PROF0_SAKMASK k);
    let sak := fun (k : Nat) => s.hfr.ctype == 2 || (s.hfr.sak &&& msk k) == (rget s (F.HFR_PROF0_SAKVAL k) &&& msk k);
    let u0m := fun (k : Nat) => rget s (F.HFR_PROF1_U0MASK k);
    let u0 := fun (k : Nat) => (u8 s.hfr.uid 0 &&& u0m k) == (rget s (F.HFR_PROF1_U0VAL k) &&& u0m k);
    let l4 := fun (k : Nat) => rbit s (F.HFR_PROF0_L4 k);
    let cl := fun (k : Nat) => rget s (F.HFR_PROF1_CMDLEN k);
    let bad := fun (k : Nat) => decide (cl k = 0 ∨ 16 < cl k ∨ 192 < rget s (F.HFR_PROF1_SIGOFS k));
    let hit := (List.range 16).find? (fun k => typ k && len k && sak k && u0 k);
    ReaderFree s ∧ (s.hfr.st = .activeL3 ∨ s.hfr.st = .activeL4)) = true := by decide +kernel

theorem test_meets_ReaderExchanges_33_b : decide (
    let s : State := rput (F.HFR_PROF0_EN 15) 1 (rput (F.HFR_PROF0_TYPE 15) 1 (rput (F.HFR_PROF1_CMDLEN 15) 2 (rput (F.HFR_PROF1_SIGOFS 15) 193 { wRun [] with hfr.st := .activeL3, hfr.ctype := 1, hfr.uid := [1, 2, 3, 4] })));
    let us : Nat := 9;
    let typ := fun (k : Nat) => rbit s (F.HFR_PROF0_EN k) && (rget s (F.HFR_PROF0_TYPE k)).testBit (s.hfr.ctype - 1);
    let len := fun (k : Nat) => rget s (F.HFR_PROF0_UIDLEN k) == 0 || rget s (F.HFR_PROF0_UIDLEN k) == s.hfr.uid.length;
    let msk := fun (k : Nat) => rget s (F.HFR_PROF0_SAKMASK k);
    let sak := fun (k : Nat) => s.hfr.ctype == 2 || (s.hfr.sak &&& msk k) == (rget s (F.HFR_PROF0_SAKVAL k) &&& msk k);
    let u0m := fun (k : Nat) => rget s (F.HFR_PROF1_U0MASK k);
    let u0 := fun (k : Nat) => (u8 s.hfr.uid 0 &&& u0m k) == (rget s (F.HFR_PROF1_U0VAL k) &&& u0m k);
    let l4 := fun (k : Nat) => rbit s (F.HFR_PROF0_L4 k);
    let cl := fun (k : Nat) => rget s (F.HFR_PROF1_CMDLEN k);
    let bad := fun (k : Nat) => decide (cl k = 0 ∨ 16 < cl k ∨ 192 < rget s (F.HFR_PROF1_SIGOFS k));
    let hit := (List.range 16).find? (fun k => typ k && len k && sak k && u0 k);
    ReaderFree s ∧ (s.hfr.st = .activeL3 ∨ s.hfr.st = .activeL4)) = true := by decide +kernel

theorem test_meets_ReaderExchanges_33_c : decide (
    let s : State := { wRun [] with hfr.st := .activeL4, hfr.ctype := 1 };
    let us : Nat := 9;
    let typ := fun (k : Nat) => rbit s (F.HFR_PROF0_EN k) && (rget s (F.HFR_PROF0_TYPE k)).testBit (s.hfr.ctype - 1);
    let len := fun (k : Nat) => rget s (F.HFR_PROF0_UIDLEN k) == 0 || rget s (F.HFR_PROF0_UIDLEN k) == s.hfr.uid.length;
    let msk := fun (k : Nat) => rget s (F.HFR_PROF0_SAKMASK k);
    let sak := fun (k : Nat) => s.hfr.ctype == 2 || (s.hfr.sak &&& msk k) == (rget s (F.HFR_PROF0_SAKVAL k) &&& msk k);
    let u0m := fun (k : Nat) => rget s (F.HFR_PROF1_U0MASK k);
    let u0 := fun (k : Nat) => (u8 s.hfr.uid 0 &&& u0m k) == (rget s (F.HFR_PROF1_U0VAL k) &&& u0m k);
    let l4 := fun (k : Nat) => rbit s (F.HFR_PROF0_L4 k);
    let cl := fun (k : Nat) => rget s (F.HFR_PROF1_CMDLEN k);
    let bad := fun (k : Nat) => decide (cl k = 0 ∨ 16 < cl k ∨ 192 < rget s (F.HFR_PROF1_SIGOFS k));
    let hit := (List.range 16).find? (fun k => typ k && len k && sak k && u0 k);
    ReaderFree s ∧ (s.hfr.st = .activeL3 ∨ s.hfr.st = .activeL4)) = true := by decide +kernel

theorem test_meets_ReaderExchanges_34 : decide (
    let s : State := { wRun [] with hfr.st := .activeL3, hfr.ctype := 1, hfr.orig := some 15, hfr.cmd := some 6, hfr.wait := .raw };
    let b : Bytes := List.replicate 64 1;
    let rxbits : BitVec 3 := 0;
    let k : Nat := 15;
    let resp := if s.hfr.wait = .raw then b else s.hfr.inp ++ b;
    let ofs := rget s (F.HFR_PROF1_SIGOFS k);
    let ok := Config.sm2Verify (profKey s k) s.hfr.uid (slice resp ofs 64);
    hfrOn s = true ∧ (s.hfr.wait = .raw ∨ s.hfr.wait = .block) ∧ s.hfr.orig = some k ∧ k < 16 ∧ (resp.length < ofs + 64 ∨ s.key.job = none ∧ portsFree s = true)) = true := by decide +kernel

theorem test_meets_ReaderExchanges_34_b : decide (
    let s : State := { wRun [] with hfr.st := .activeL4, hfr.ctype := 1, hfr.orig := some 15, hfr.cmd := some 6, hfr.wait := .block };
    let b : Bytes := List.replicate 63 1;
    let rxbits : BitVec 3 := 0;
    let k : Nat := 15;
    let resp := if s.hfr.wait = .raw then b else s.hfr.inp ++ b;
    let ofs := rget s (F.HFR_PROF1_SIGOFS k);
    let ok := Config.sm2Verify (profKey s k) s.hfr.uid (slice resp ofs 64);
    hfrOn s = true ∧ (s.hfr.wait = .raw ∨ s.hfr.wait = .block) ∧ s.hfr.orig = some k ∧ k < 16 ∧ (resp.length < ofs + 64 ∨ s.key.job = none ∧ portsFree s = true)) = true := by decide +kernel

theorem test_meets_ReaderExchanges_35 : decide (
    let s : State := onPort 1 (fun _ => [.check 3]) { wRun [] with hfr.st := .activeL3, hfr.ctype := 1, hfr.orig := some 15, hfr.cmd := some 6, hfr.wait := .raw };
    let b : Bytes := List.replicate 64 1;
    let rxbits : BitVec 3 := 0;
    let k : Nat := 15;
    let resp := if s.hfr.wait = .raw then b else s.hfr.inp ++ b;
    hfrOn s = true ∧ (s.hfr.wait = .raw ∨ s.hfr.wait = .block) ∧ s.hfr.orig = some k ∧ k < 16 ∧ rget s (F.HFR_PROF1_SIGOFS k) + 64 ≤ resp.length ∧ (s.key.job.isSome = true ∨ portsFree s = false)) = true := by decide +kernel

theorem test_meets_ReaderExchanges_36 : decide (
    let x : KJob := ⟨15, 8, 3, 0x800002000, [1, 2], [], none, false⟩;
    let s : State := { wJob 1 24 [] with key.job := some x, hfr.wait := .verify, hfr.cmd := some 6, hfr.orig := some 15 };
    let k : Nat := 15;
    let a : Nat := 0x800000000;
    let n : Nat := 16;
    let t0 := memWrite x.dst x.out s;
    let ok := Config.sm2Verify (profKey s k) s.hfr.uid (slice s.hfr.inp (rget s (F.HFR_PROF1_SIGOFS k)) 64);
    s.hfr.wait = .verify ∧ s.hfr.orig = some k ∧ k < 16 ∧ s.key.job = some x ∧ x.more = none ∧ keyRing s = some (a, n) ∧ portsFree s = true) = true := by decide +kernel

theorem test_meets_LoadChannelCommands_1 : decide (
    let s : State := wLch [] id;
    let n : Fin 16 := 15;
    let c := lchan s n;
    lchOn s = true ∧ lOwner s n = false ∧ c.on = false ∧ c.retryAt = none ∧ c.restart = none ∧ lUsed s n = true ∧ s.lch.uv = false ∧ s.pwr.vsAbsent = false ∧ c.latch = none ∧ c.retryEx = false) = true := by decide +kernel

theorem test_meets_LoadChannelCommands_1_b : decide (
    let s : State := wLch [(0x116, 0)] (fun c => { c with oc := true, openLd := true, shortVs := true, winCut := true });
    let n : Fin 16 := 15;
    let c := lchan s n;
    lchOn s = true ∧ lOwner s n = false ∧ c.on = false ∧ c.retryAt = none ∧ c.restart = none ∧ lUsed s n = true ∧ s.lch.uv = false ∧ s.pwr.vsAbsent = false ∧ c.latch = none ∧ c.retryEx = false) = true := by decide +kernel

theorem test_meets_LoadChannelCommands_2 : decide (
    let s : State := wLch [] (fun c => { c with latch := some 2 });
    let n : Fin 16 := 15;
    let c := lchan s n;
    lchOn s = true ∧ lOwner s n = false ∧ (c.on = true ∨ c.retryAt.isSome = true ∨ c.restart.isSome = true ∨ lUsed s n = false ∨ s.lch.uv = true ∨ s.pwr.vsAbsent = true ∨ c.latch.isSome = true ∨ c.retryEx = true)) = true := by decide +kernel

theorem test_meets_LoadChannelCommands_2_b : decide (
    let s : State := wLch [] (fun c => { c with retryAt := some 2 });
    let n : Fin 16 := 15;
    let c := lchan s n;
    lchOn s = true ∧ lOwner s n = false ∧ (c.on = true ∨ c.retryAt.isSome = true ∨ c.restart.isSome = true ∨ lUsed s n = false ∨ s.lch.uv = true ∨ s.pwr.vsAbsent = true ∨ c.latch.isSome = true ∨ c.retryEx = true)) = true := by decide +kernel

theorem test_meets_LoadChannelCommands_3 : decide (
    let s : State := wLch [] (fun c => { c with on := true, en := true, retry := 2, retryEx := true, latch := some 5 });
    let n : Fin 16 := 15;
    let c := lchan s n;
    lchOn s = true ∧ lOwner s n = false) = true := by decide +kernel

theorem test_meets_LoadChannelCommands_4 : decide (
    let s : State := wLch [(0x110, 0x11)] id;
    let n : Fin 16 := 15;
    let en : Bool := true;
    let c := lchan s n;
    lchOn s = true ∧ lOwner s n = true) = true := by decide +kernel

theorem test_meets_LoadChannelCommands_5 : decide (
    let s : State := wLch [] (fun c => { c with on := true, inr := some 980 });
    let n : Fin 16 := 15;
    let k : Nat := 980;
    let c := lchan s n;
    c.inr = some k ∧ k + lTinr s n ≤ s.tmp.now) = true := by decide +kernel

theorem test_meets_LoadChannelCommands_6 : decide (
    let s : State := wLch [] (fun c => { c with on := true, inr := some 981 });
    let n : Fin 16 := 15;
    let c := lchan s n;
    ((∀ k ∈ c.inr.toList, s.tmp.now < k + lTinr s n))) = true := by decide +kernel

theorem test_meets_LoadChannelCommands_7 : decide (
    let s : State := rput F.LCH_EVCNT_COUNT 255 (wLch [] (fun c => { c with on := true }));
    let n : Fin 16 := 15;
    let c := lchan s n;
    c.on = true ∧ c.lim = none ∧ c.bank = none ∧ c.inr = none) = true := by decide +kernel

theorem test_meets_LoadChannelCommands_8 : decide (
    let s : State := wLch [] (fun c => { c with on := true, inr := some 980 });
    let n : Fin 16 := 15;
    let c := lchan s n;
    c.on = true ∧ c.lim = none ∧ c.bank = none ∧ c.inr.isSome = true) = true := by decide +kernel

theorem test_meets_LoadChannelCommands_9 : decide (
    let s : State := wLch [] (fun c => { c with on := true, bank := some 980 });
    let n : Fin 16 := 15;
    let c := lchan s n;
    (c.on = false ∨ c.lim.isSome = true ∨ c.bank.isSome = true)) = true := by decide +kernel

theorem test_meets_LoadChannelCommands_10 : decide (
    let s : State := wLch [] (fun c => { c with on := true, lim := some 900, oc := true });
    let n : Fin 16 := 15;
    let c := lchan s n;
    c.on = true) = true := by decide +kernel

theorem test_meets_LoadChannelCommands_11 : decide (
    let s : State := wLch [] (fun c => { c with oc := true });
    let n : Fin 16 := 15;
    let c := lchan s n;
    c.on = false) = true := by decide +kernel

theorem test_meets_LoadChannelCommands_12 : decide (
    let s : State := wLch [] (fun c => { c with on := true, lim := some 990, retry := 2 });
    let n : Fin 16 := 15;
    let k : Nat := 990;
    let c := lchan s n;
    c.lim = some k ∧ c.on = true ∧ c.inr = none ∧ c.bank = none ∧ k + lToc s n ≤ s.tmp.now) = true := by decide +kernel

theorem test_meets_LoadChannelCommands_12_b : decide (
    let s : State := wLch [] (fun c => { c with on := true, lim := some 990, retry := 1 });
    let n : Fin 16 := 15;
    let k : Nat := 990;
    let c := lchan s n;
    c.lim = some k ∧ c.on = true ∧ c.inr = none ∧ c.bank = none ∧ k + lToc s n ≤ s.tmp.now) = true := by decide +kernel

theorem test_meets_LoadChannelCommands_13 : decide (
    let s : State := wLch [] (fun c => { c with on := true, lim := some 991, retry := 1 });
    let n : Fin 16 := 15;
    let c := lchan s n;
    (c.on = false ∨ c.inr.isSome = true ∨ c.bank.isSome = true ∨ (∀ k ∈ c.lim.toList, s.tmp.now < k + lToc s n))) = true := by decide +kernel

theorem test_meets_LoadChannelCommands_14 : decide (
    let s : State := wLch [] (fun c => { c with retryAt := some 1000, en := true, retry := 15 });
    let n : Fin 16 := 15;
    let k : Nat := 1000;
    let c := lchan s n;
    c.retryAt = some k ∧ ((∀ r ∈ c.restart.toList, r ≤ s.tmp.now)) ∧ k ≤ s.tmp.now ∧ c.en = true ∧ lMay s n = true) = true := by decide +kernel

theorem test_meets_LoadChannelCommands_15 : decide (
    let s : State := wLch [] (fun c => { c with retryAt := some 1001, en := true, retry := 15 });
    let n : Fin 16 := 15;
    let c := lchan s n;
    ((∀ k ∈ c.retryAt.toList, s.tmp.now < k ∨ c.en = false ∨ lMay s n = false ∨ ∃ r ∈ c.restart.toList, s.tmp.now < r))) = true := by decide +kernel

theorem test_meets_LoadChannelCommands_15_b : decide (
    let s : State := wLch [] (fun c => { c with retryAt := some 1000, restart := some 1001, en := true, retry := 15 });
    let n : Fin 16 := 15;
    let c := lchan s n;
    ((∀ k ∈ c.retryAt.toList, s.tmp.now < k ∨ c.en = false ∨ lMay s n = false ∨ ∃ r ∈ c.restart.toList, s.tmp.now < r))) = true := by decide +kernel

theorem test_meets_LoadChannelCommands_16 : decide (
    let s : State := wLch [] (fun c => { c with retryAt := some 1000, on := true, retry := 1 });
    let n : Fin 16 := 15;
    let tj : Int := 171;
    let gt : Int := 150;
    let c := lchan s n;
    lchOn s = true ∧ lUsed s n = true ∧ (170 < tj ∨ 60 < tj - gt)) = true := by decide +kernel

theorem test_meets_LoadChannelCommands_16_b : decide (
    let s : State := wLch [] (fun c => { c with latch := some 5 });
    let n : Fin 16 := 15;
    let tj : Int := 61;
    let gt : Int := 0;
    let c := lchan s n;
    lchOn s = true ∧ lUsed s n = true ∧ (170 < tj ∨ 60 < tj - gt)) = true := by decide +kernel

theorem test_meets_LoadChannelCommands_17 : decide (
    let s : State := wLch [] (fun c => { c with latch := some 5 });
    let n : Fin 16 := 15;
    let tj : Int := 170;
    let gt : Int := 110;
    let c := lchan s n;
    (lchOn s = false ∨ lUsed s n = false ∨ tj ≤ 170 ∧ tj - gt ≤ 60)) = true := by decide +kernel

theorem test_meets_LoadChannelCommands_18 : decide (
    let s : State := wLch [] (fun c => { c with latch := some 2, en := true, retry := 1 });
    let n : Fin 16 := 15;
    let tj : Int := 119;
    let c := lchan s n;
    lchOn s = true ∧ c.latch.isSome = true ∧ tj < 120) = true := by decide +kernel

theorem test_meets_LoadChannelCommands_18_b : decide (
    let s : State := wLch [] (fun c => { c with latch := some 2, retry := 1 });
    let n : Fin 16 := 15;
    let tj : Int := 119;
    let c := lchan s n;
    lchOn s = true ∧ c.latch.isSome = true ∧ tj < 120) = true := by decide +kernel

theorem test_meets_LoadChannelCommands_19 : decide (
    let s : State := wLch [] (fun c => { c with latch := some 2, en := true, retry := 1 });
    let n : Fin 16 := 15;
    let tj : Int := 120;
    let c := lchan s n;
    lchOn s = true ∧ c.latch.isSome = true ∧ 120 ≤ tj) = true := by decide +kernel

theorem test_meets_LoadChannelCommands_20 : decide (
    let s : State := wLch [] (fun c => { c with en := true, retry := 1 });
    let n : Fin 16 := 15;
    let tj : Int := 120;
    let c := lchan s n;
    (lchOn s = false ∨ c.latch = none)) = true := by decide +kernel

theorem test_meets_LoadChannelCommands_21 : decide (
    let s : State := wLch [] (fun c => { c with on := true, inr := some 980 });
    let n : Fin 16 := 15;
    let gt : Int := 151;
    let c := lchan s n;
    c.inr.isSome = true ∧ 150 < gt) = true := by decide +kernel

theorem test_meets_LoadChannelCommands_22 : decide (
    let s : State := wLch [] (fun c => { c with on := true, inr := some 980 });
    let n : Fin 16 := 15;
    let gt : Int := 150;
    let c := lchan s n;
    (c.inr = none ∨ gt ≤ 150)) = true := by decide +kernel

theorem test_meets_LoadChannelCommands_23 : decide (
    let s : State := { wLch [] id with lch.timer := 40000 };
    let n : Fin 16 := 15;
    let c := lchan s n;
    s.lch.timer = 40000 ∧ s.lch.enf = false) = true := by decide +kernel

theorem test_meets_LoadChannelCommands_24 : decide (
    let s : State := { wLch [] id with lch.timer := 39999 };
    let n : Fin 16 := 15;
    let c := lchan s n;
    (s.lch.timer ≠ 40000 ∨ s.lch.enf = true)) = true := by decide +kernel

theorem test_meets_LoadChannelCommands_25 : decide (
    let s : State := { wLch [] id with lch.enf := true };
    let n : Fin 16 := 15;
    let c := lchan s n;
    s.lch.timer = 0) = true := by decide +kernel

theorem test_meets_LoadChannelCommands_26 : decide (
    let s : State := { wLch [] id with lch.enf := true, lch.timer := 1 };
    let n : Fin 16 := 15;
    let c := lchan s n;
    s.lch.timer ≠ 0) = true := by decide +kernel

theorem test_meets_LoadChannelCommands_27 : decide (
    let s : State := wLch [(0x110, 5)] (fun c => { c with latch := some 6, offAt := some 996 });
    let n : Fin 16 := 15;
    let mv : Int := -2001;
    let k : Nat := 996;
    let c := lchan s n;
    lchOn s = true ∧ lUsed s n = true ∧ lFwdecl s n = true ∧ c.on = false ∧ c.offAt = some k ∧ k + 4 ≤ s.tmp.now ∧ mv < -2000) = true := by decide +kernel

theorem test_meets_LoadChannelCommands_28 : decide (
    let s : State := wLch [(0x110, 5)] (fun c => { c with latch := some 6, offAt := some 996 });
    let n : Fin 16 := 15;
    let mv : Int := -2000;
    let k : Nat := 996;
    let c := lchan s n;
    lchOn s = true ∧ lUsed s n = true ∧ lFwdecl s n = true ∧ c.on = false ∧ c.offAt = some k ∧ k + 4 ≤ s.tmp.now ∧ -2000 ≤ mv) = true := by decide +kernel

theorem test_meets_LoadChannelCommands_29 : decide (
    let s : State := wLch [(0x110, 5)] (fun c => { c with offAt := some 997 });
    let n : Fin 16 := 15;
    let mv : Int := -2000;
    let c := lchan s n;
    (lchOn s = false ∨ lUsed s n = false ∨ lFwdecl s n = false ∨ c.on = true ∨ (∀ k ∈ c.offAt.toList, s.tmp.now < k + 4))) = true := by decide +kernel

theorem test_meets_LoadChannelCommands_30 : decide (
    let s : State := wLch [] (fun c => { c with offAt := some 997 });
    let n : Fin 16 := 15;
    let uj : Nat := 50001;
    let c := lchan s n;
    lchOn s = true ∧ lUsed s n = true ∧ lFwdecl s n = false ∧ c.on = false ∧ c.offAt.isSome = true ∧ (50000 < uj ∨ 20000 < uj ∧ (∃ k ∈ c.clampAt.toList, s.tmp.now < k + 20000))) = true := by decide +kernel

theorem test_meets_LoadChannelCommands_30_b : decide (
    let s : State := wLch [] (fun c => { c with offAt := some 997, clampAt := some 0 });
    let n : Fin 16 := 15;
    let uj : Nat := 20001;
    let c := lchan s n;
    lchOn s = true ∧ lUsed s n = true ∧ lFwdecl s n = false ∧ c.on = false ∧ c.offAt.isSome = true ∧ (50000 < uj ∨ 20000 < uj ∧ (∃ k ∈ c.clampAt.toList, s.tmp.now < k + 20000))) = true := by decide +kernel

theorem test_meets_LoadChannelCommands_31 : decide (
    let s : State := { wLch [] (fun c => { c with offAt := some 997, clampAt := some 0 }) with tmp.now := 20000 };
    let n : Fin 16 := 15;
    let uj : Nat := 50000;
    let c := lchan s n;
    lchOn s = true ∧ lUsed s n = true ∧ lFwdecl s n = false ∧ c.on = false ∧ c.offAt.isSome = true ∧ uj ≤ 50000 ∧ (uj ≤ 20000 ∨ (∀ k ∈ c.clampAt.toList, k + 20000 ≤ s.tmp.now))) = true := by decide +kernel

theorem test_meets_LoadChannelCommands_32 : decide (
    let s : State := wLch [] (fun c => { c with clampAt := some 0 });
    let n : Fin 16 := 15;
    let uj : Nat := 20000;
    let c := lchan s n;
    (lchOn s = false ∨ lUsed s n = false ∨ lFwdecl s n = true ∨ c.on = true ∨ c.offAt = none)) = true := by decide +kernel

theorem test_meets_LoadChannelCommands_33 : decide (
    let s : State := wLch [] (fun c => { c with on := true });
    let n : Fin 16 := 15;
    let ma : Nat := 49;
    let ms : Nat := 100;
    let c := lchan s n;
    lchOn s = true ∧ c.on = true ∧ c.inr = none ∧ c.openLd = false ∧ ma < lIol s n ∧ 100 ≤ ms) = true := by decide +kernel

theorem test_meets_LoadChannelCommands_34 : decide (
    let s : State := wLch [] (fun c => { c with on := true });
    let n : Fin 16 := 15;
    let ma : Nat := 50;
    let ms : Nat := 100;
    let c := lchan s n;
    (lchOn s = false ∨ c.on = false ∨ c.inr.isSome = true ∨ c.openLd = true ∨ lIol s n ≤ ma ∨ ms < 100)) = true := by decide +kernel

theorem test_meets_LoadChannelCommands_35 : decide (
    let s : State := wLch [] (fun c => { c with on := true, openLd := true });
    let n : Fin 16 := 15;
    let ma : Nat := 55;
    let ms : Nat := 100;
    let c := lchan s n;
    c.on = true ∧ lIol s n + 5 ≤ ma ∧ 100 ≤ ms) = true := by decide +kernel

theorem test_meets_LoadChannelCommands_36 : decide (
    let s : State := wLch [] (fun c => { c with on := true, openLd := true });
    let n : Fin 16 := 15;
    let ma : Nat := 54;
    let ms : Nat := 100;
    let c := lchan s n;
    (c.on = false ∨ ma < lIol s n + 5 ∨ ms < 100)) = true := by decide +kernel

theorem test_meets_LoadChannelCommands_37 : decide (
    let s : State := wLch [(0x110, 9)] id;
    let n : Fin 16 := 15;
    let mv0 : Int := 4000;
    let mv1 : Int := 4001;
    let c := lchan s n;
    lchOn s = true ∧ lUsed s n = true ∧ lOdiag s n = true ∧ c.en = false ∧ c.on = false ∧ c.diagAt + 20 * u16 (sec s 8) 2 ≤ s.tmp.now) = true := by decide +kernel

theorem test_meets_LoadChannelCommands_37_b : decide (
    let s : State := wLch [(0x110, 9)] (fun c => { c with openLd := true });
    let n : Fin 16 := 15;
    let mv0 : Int := 4001;
    let mv1 : Int := 4001;
    let c := lchan s n;
    lchOn s = true ∧ lUsed s n = true ∧ lOdiag s n = true ∧ c.en = false ∧ c.on = false ∧ c.diagAt + 20 * u16 (sec s 8) 2 ≤ s.tmp.now) = true := by decide +kernel

theorem test_meets_LoadChannelCommands_37_c : decide (
    let s : State := wLch [(0x110, 9)] (fun c => { c with openLd := true });
    let n : Fin 16 := 15;
    let mv0 : Int := 4000;
    let mv1 : Int := 4000;
    let c := lchan s n;
    lchOn s = true ∧ lUsed s n = true ∧ lOdiag s n = true ∧ c.en = false ∧ c.on = false ∧ c.diagAt + 20 * u16 (sec s 8) 2 ≤ s.tmp.now) = true := by decide +kernel

theorem test_meets_LoadChannelCommands_38 : decide (
    let s : State := wLch [] id;
    let n : Fin 16 := 15;
    let mv0 : Int := 4001;
    let mv1 : Int := 4001;
    let c := lchan s n;
    (lchOn s = false ∨ lUsed s n = false ∨ lOdiag s n = false ∨ c.en = true ∨ c.on = true ∨ s.tmp.now < c.diagAt + 20 * u16 (sec s 8) 2)) = true := by decide +kernel

theorem test_meets_LoadChannelCommands_38_b : decide (
    let s : State := wLch [(0x110, 9), (2, 50)] (fun c => { c with diagAt := 1 });
    let n : Fin 16 := 15;
    let mv0 : Int := 4001;
    let mv1 : Int := 4001;
    let c := lchan s n;
    (lchOn s = false ∨ lUsed s n = false ∨ lOdiag s n = false ∨ c.en = true ∨ c.on = true ∨ s.tmp.now < c.diagAt + 20 * u16 (sec s 8) 2)) = true := by decide +kernel

theorem test_meets_LoadSupplyCommands_1 : decide (
    let s : State := wLch [] (fun c => { c with on := true, retry := 1, retryAt := some 7 });
    let mv : Nat := 6999;
    lchOn s = true ∧ mv < 7000 ∧ s.lch.uv = false) = true := by decide +kernel

theorem test_meets_LoadSupplyCommands_2 : decide (
    let s : State := wLch [] (fun c => { c with on := true, retry := 1, retryAt := some 7 });
    let mv : Nat := 7000;
    lchOn s = true ∧ (7000 ≤ mv ∨ s.lch.uv = true)) = true := by decide +kernel

theorem test_meets_LoadSupplyCommands_3 : decide (
    let s : State := { wLch [(0x100, 1)] (fun c => { c with en := true, retry := 1 }) with lch.uv := true };
    let mv : Nat := 8001;
    let us : Nat := 10000;
    let may := fun (n : Nat) => lUsed s n && (lchan s n).en && (lchan s n).latch.isNone && !(lchan s n).retryEx;
    let order := (List.range 16).filter may;
    lchOn s = true ∧ s.lch.uv = true ∧ 8000 < mv ∧ 10000 ≤ us) = true := by decide +kernel

theorem test_meets_LoadSupplyCommands_4 : decide (
    let s : State := { wLch [(0x100, 1)] (fun c => { c with en := true, retry := 1 }) with lch.uv := true };
    let mv : Nat := 8001;
    let us : Nat := 9999;
    lchOn s = true ∧ (s.lch.uv = false ∨ mv ≤ 8000 ∨ us < 10000)) = true := by decide +kernel

theorem test_meets_LoadSupplyCommands_5 : decide (
    let s : State := wLch [] (fun c => { c with en := true, restart := some 1000, retry := 1 });
    let n : Fin 16 := 15;
    let k : Nat := 1000;
    (lchan s n).restart = some k ∧ k ≤ s.tmp.now ∧ (lchan s n).retryAt = none) = true := by decide +kernel

theorem test_meets_LoadSupplyCommands_5_b : decide (
    let s : State := wLch [] (fun c => { c with restart := some 1000, retry := 1 });
    let n : Fin 16 := 15;
    let k : Nat := 1000;
    (lchan s n).restart = some k ∧ k ≤ s.tmp.now ∧ (lchan s n).retryAt = none) = true := by decide +kernel

theorem test_meets_LoadSupplyCommands_6 : decide (
    let s : State := wLch [] (fun c => { c with en := true, restart := some 1001, retry := 1 });
    let n : Fin 16 := 15;
    ((∀ k ∈ (lchan s n).restart.toList, s.tmp.now < k))) = true := by decide +kernel

theorem test_meets_LoadSupplyCommands_7 : decide (
    let s : State := wLch [] (fun c => { c with en := true, restart := some 1000, retryAt := some 1000, retry := 1 });
    let n : Fin 16 := 15;
    let k : Nat := 1000;
    let r : Nat := 1000;
    (lchan s n).restart = some k ∧ (lchan s n).retryAt = some r) = true := by decide +kernel

theorem test_meets_LoadSupplyCommands_7_b : decide (
    let s : State := wLch [] (fun c => { c with en := true, restart := some 1000, retryAt := some 1001, retry := 1 });
    let n : Fin 16 := 15;
    let k : Nat := 1000;
    let r : Nat := 1001;
    (lchan s n).restart = some k ∧ (lchan s n).retryAt = some r) = true := by decide +kernel

theorem test_meets_PowerRequests_1 : decide (
    let s : State := wRun [];
    s.pwr.boot = .running ∧ s.pwr.sys = .s0 ∧ s.pwr.entry = .none) = true := by decide +kernel

theorem test_meets_PowerRequests_2 : decide (
    let s : State := wRun [];
    s.pwr.boot = .running ∧ s.pwr.sys = .s0 ∧ s.pwr.entry = .none) = true := by decide +kernel

theorem test_meets_PowerRequests_3 : decide (
    let s : State := wRun [];
    s.pwr.boot = .running ∧ s.pwr.sys = .s0 ∧ s.pwr.entry = .none) = true := by decide +kernel

theorem test_meets_PowerRequests_4 : decide (
    let s : State := wRun [];
    s.pwr.boot = .running ∧ s.pwr.sys = .s0 ∧ s.pwr.entry = .none) = true := by decide +kernel

theorem test_meets_PowerRequests_5 : decide (
    let s : State := { wRun [] with pwr.sys := .s3 };
    s.pwr.boot = .running ∧ (s.pwr.sys ≠ .s0 ∨ s.pwr.entry ≠ .none)) = true := by decide +kernel

theorem test_meets_PowerRequests_5_b : decide (
    let s : State := { wRun [] with pwr.entry := .idle .s1 };
    s.pwr.boot = .running ∧ (s.pwr.sys ≠ .s0 ∨ s.pwr.entry ≠ .none)) = true := by decide +kernel

theorem test_meets_PowerRequests_6 : decide (
    let s : State := { wRun [] with pwr.entry := .idle .s1 };
    s.pwr.boot = .running ∧ s.pwr.appOn = true ∧ s.pwr.entry = .idle .s1 ∧ s.pwr.sys = .s0) = true := by decide +kernel

theorem test_meets_PowerRequests_7 : decide (
    let s : State := memWrite 0x800000000 [1] { wRun [] with pwr.entry := .idle .s2 };
    s.pwr.boot = .running ∧ s.pwr.appOn = true ∧ s.pwr.entry = .idle .s2 ∧ s.pwr.sys = .s0) = true := by decide +kernel

theorem test_meets_PowerRequests_8 : decide (
    let s : State := { wRun [] with pwr.entry := .consent .s3 };
    s.pwr.boot = .running ∧ s.pwr.appOn = true ∧ ((∀ x ∈ [PwrSt.s1, .s2], s.pwr.entry ≠ .idle x))) = true := by decide +kernel

theorem test_meets_PowerRequests_9 : decide (
    let s : State := { wRun [] with pwr.entry := .idle .s2, pwr.appOn := false };
    s.pwr.boot = .running ∧ s.pwr.appOn = false) = true := by decide +kernel

theorem test_meets_PowerRequests_10 : decide (
    let s : State := { wRun [] with pwr.entry := .quiet .s3, lea.byp := true };
    s.pwr.boot = .running ∧ s.pwr.entry = .quiet .s3 ∧ s.pwr.sys = .s0) = true := by decide +kernel

theorem test_meets_PowerRequests_11 : decide (
    let s : State := { wRun [] with pwr.entry := .quiet .s4 };
    s.pwr.boot = .running ∧ s.pwr.entry = .quiet .s4 ∧ s.pwr.sys = .s0) = true := by decide +kernel

theorem test_meets_PowerRequests_12 : decide (
    let s : State := { wRun [] with pwr.entry := .dormant };
    s.pwr.boot = .running ∧ ((∀ x ∈ [PwrSt.s0, .s1, .s2, .s3, .s4], s.pwr.entry ≠ .quiet x))) = true := by decide +kernel

theorem test_meets_PowerRequests_13 : decide (
    let s : State := wJrn 8 { wRun [] with pwr.entry := .dormant, pwr.sys := .s3 };
    s.pwr.boot = .running ∧ s.pwr.entry = .dormant ∧ (jSettled 8 s).isSome = true) = true := by decide +kernel

theorem test_meets_PowerRequests_14 : decide (
    let s : State := wJrn 7 { wRun [] with pwr.entry := .dormant, pwr.sys := .s3 };
    s.pwr.boot = .running ∧ (s.pwr.entry ≠ .dormant ∨ (jSettled 8 s).isSome = false)) = true := by decide +kernel

theorem test_meets_WakeCommands_1 : decide (
    let s : State := { wRun [] with pwr.sys := .s1 };
    let own := fun (k : Nat) => if k ∈ [8, 13, 14] then [PwrSt.s2] else if k ∈ [9, 10, 11] then [.s2, .s3] else if k = 12 then [.s4] else [.s1];
    let acts := fun (k : Nat) => if k ∈ [0, 1, 2, 3, 4, 6, 7] then [PwrSt.s2, .s3, .s4] else if k = 5 then [.s3, .s4] else own k;
    let nic := rbit s F.SYS_NMICAUSE_CLKSW || rbit s F.SYS_NMICAUSE_CLKRET;
    let can := (List.range 4).any (fun c => !(canCtl s c).rx.isEmpty);
    let rx := fun (k : Nat) => if k = 12 then s.pwr.pfwFinal else if k = 13 then s.net.queue.any (fun f => f.port == 2) else if k = 14 then can else true;
    let seen := fun (k : Nat) => if k = 9 then !s.saf.evq.isEmpty else if k = 10 then !s.bil.evq.isEmpty else if k = 11 then nic else rx k;
    let bit := fun (k : Nat) => (rget s F.PWR_WAKEEN_EN).testBit k;
    let fires := fun (k : Nat) => seen k && (bit k || k == 11 || k == 12 || k == 15) && (!s.pwr.pfwFinal || k == 12);
    s.pwr.boot = .running ∧ s.pwr.aonOn = true ∧ s.pwr.sys = .s1 ∧ s.pwr.entry = .none ∧ s.pwr.pfwFinal = false) = true := by decide +kernel

theorem test_meets_WakeCommands_2 : decide (
    let s : State := rput F.PWR_WAKEEN_EN 1 { wRun [] with pwr.sys := .s3, bil.legal := 0x123456789 };
    let k : Fin 16 := 0;
    let own := fun (k : Nat) => if k ∈ [8, 13, 14] then [PwrSt.s2] else if k ∈ [9, 10, 11] then [.s2, .s3] else if k = 12 then [.s4] else [.s1];
    let acts := fun (k : Nat) => if k ∈ [0, 1, 2, 3, 4, 6, 7] then [PwrSt.s2, .s3, .s4] else if k = 5 then [.s3, .s4] else own k;
    let nic := rbit s F.SYS_NMICAUSE_CLKSW || rbit s F.SYS_NMICAUSE_CLKRET;
    let can := (List.range 4).any (fun c => !(canCtl s c).rx.isEmpty);
    let rx := fun (k : Nat) => if k = 12 then s.pwr.pfwFinal else if k = 13 then s.net.queue.any (fun f => f.port == 2) else if k = 14 then can else true;
    let seen := fun (k : Nat) => if k = 9 then !s.saf.evq.isEmpty else if k = 10 then !s.bil.evq.isEmpty else if k = 11 then nic else rx k;
    let bit := fun (k : Nat) => (rget s F.PWR_WAKEEN_EN).testBit k;
    let fires := fun (k : Nat) => seen k && (bit k || k == 11 || k == 12 || k == 15) && (!s.pwr.pfwFinal || k == 12);
    s.pwr.boot = .running ∧ s.pwr.aonOn = true ∧ (s.pwr.sys = .s2 ∨ s.pwr.sys = .s3) ∧ s.pwr.entry = .none ∧ fires k = true ∧ s.pwr.sys ∈ acts k) = true := by decide +kernel

theorem test_meets_WakeCommands_2_b : decide (
    let s : State := rput F.SYS_NMICAUSE_CLKSW 1 (rput F.PWR_WAKEEN_EN 1 { wRun [] with pwr.sys := .s2, bil.legal := 0x123456789 });
    let k : Fin 16 := 11;
    let own := fun (k : Nat) => if k ∈ [8, 13, 14] then [PwrSt.s2] else if k ∈ [9, 10, 11] then [.s2, .s3] else if k = 12 then [.s4] else [.s1];
    let acts := fun (k : Nat) => if k ∈ [0, 1, 2, 3, 4, 6, 7] then [PwrSt.s2, .s3, .s4] else if k = 5 then [.s3, .s4] else own k;
    let nic := rbit s F.SYS_NMICAUSE_CLKSW || rbit s F.SYS_NMICAUSE_CLKRET;
    let can := (List.range 4).any (fun c => !(canCtl s c).rx.isEmpty);
    let rx := fun (k : Nat) => if k = 12 then s.pwr.pfwFinal else if k = 13 then s.net.queue.any (fun f => f.port == 2) else if k = 14 then can else true;
    let seen := fun (k : Nat) => if k = 9 then !s.saf.evq.isEmpty else if k = 10 then !s.bil.evq.isEmpty else if k = 11 then nic else rx k;
    let bit := fun (k : Nat) => (rget s F.PWR_WAKEEN_EN).testBit k;
    let fires := fun (k : Nat) => seen k && (bit k || k == 11 || k == 12 || k == 15) && (!s.pwr.pfwFinal || k == 12);
    s.pwr.boot = .running ∧ s.pwr.aonOn = true ∧ (s.pwr.sys = .s2 ∨ s.pwr.sys = .s3) ∧ s.pwr.entry = .none ∧ fires k = true ∧ s.pwr.sys ∈ acts k) = true := by decide +kernel

theorem test_meets_WakeCommands_3 : decide (
    let s : State := { wRun [] with pwr.sys := .s4, pwr.rtc := 77, pwr.pfw := true, pwr.pfwFinal := true, lea.addr := 7 };
    let k : Fin 16 := 12;
    let own := fun (k : Nat) => if k ∈ [8, 13, 14] then [PwrSt.s2] else if k ∈ [9, 10, 11] then [.s2, .s3] else if k = 12 then [.s4] else [.s1];
    let acts := fun (k : Nat) => if k ∈ [0, 1, 2, 3, 4, 6, 7] then [PwrSt.s2, .s3, .s4] else if k = 5 then [.s3, .s4] else own k;
    let nic := rbit s F.SYS_NMICAUSE_CLKSW || rbit s F.SYS_NMICAUSE_CLKRET;
    let can := (List.range 4).any (fun c => !(canCtl s c).rx.isEmpty);
    let rx := fun (k : Nat) => if k = 12 then s.pwr.pfwFinal else if k = 13 then s.net.queue.any (fun f => f.port == 2) else if k = 14 then can else true;
    let seen := fun (k : Nat) => if k = 9 then !s.saf.evq.isEmpty else if k = 10 then !s.bil.evq.isEmpty else if k = 11 then nic else rx k;
    let bit := fun (k : Nat) => (rget s F.PWR_WAKEEN_EN).testBit k;
    let fires := fun (k : Nat) => seen k && (bit k || k == 11 || k == 12 || k == 15) && (!s.pwr.pfwFinal || k == 12);
    s.pwr.boot = .running ∧ s.pwr.aonOn = true ∧ s.pwr.sys = .s4 ∧ s.pwr.entry = .none ∧ fires k = true ∧ .s4 ∈ acts k) = true := by decide +kernel

theorem test_meets_WakeCommands_3_b : decide (
    let s : State := rput F.PWR_WAKEEN_EN 0x80 { wRun [] with pwr.sys := .s4, pwr.rtc := 77, lea.addr := 7 };
    let k : Fin 16 := 7;
    let own := fun (k : Nat) => if k ∈ [8, 13, 14] then [PwrSt.s2] else if k ∈ [9, 10, 11] then [.s2, .s3] else if k = 12 then [.s4] else [.s1];
    let acts := fun (k : Nat) => if k ∈ [0, 1, 2, 3, 4, 6, 7] then [PwrSt.s2, .s3, .s4] else if k = 5 then [.s3, .s4] else own k;
    let nic := rbit s F.SYS_NMICAUSE_CLKSW || rbit s F.SYS_NMICAUSE_CLKRET;
    let can := (List.range 4).any (fun c => !(canCtl s c).rx.isEmpty);
    let rx := fun (k : Nat) => if k = 12 then s.pwr.pfwFinal else if k = 13 then s.net.queue.any (fun f => f.port == 2) else if k = 14 then can else true;
    let seen := fun (k : Nat) => if k = 9 then !s.saf.evq.isEmpty else if k = 10 then !s.bil.evq.isEmpty else if k = 11 then nic else rx k;
    let bit := fun (k : Nat) => (rget s F.PWR_WAKEEN_EN).testBit k;
    let fires := fun (k : Nat) => seen k && (bit k || k == 11 || k == 12 || k == 15) && (!s.pwr.pfwFinal || k == 12);
    s.pwr.boot = .running ∧ s.pwr.aonOn = true ∧ s.pwr.sys = .s4 ∧ s.pwr.entry = .none ∧ fires k = true ∧ .s4 ∈ acts k) = true := by decide +kernel

theorem test_meets_WakeCommands_4 : decide (
    let s : State := rput F.PWR_WAKEEN_EN 0x80 { wRun [] with pwr.entry := .idle .s2 };
    let k : Fin 16 := 7;
    let own := fun (k : Nat) => if k ∈ [8, 13, 14] then [PwrSt.s2] else if k ∈ [9, 10, 11] then [.s2, .s3] else if k = 12 then [.s4] else [.s1];
    let acts := fun (k : Nat) => if k ∈ [0, 1, 2, 3, 4, 6, 7] then [PwrSt.s2, .s3, .s4] else if k = 5 then [.s3, .s4] else own k;
    let nic := rbit s F.SYS_NMICAUSE_CLKSW || rbit s F.SYS_NMICAUSE_CLKRET;
    let can := (List.range 4).any (fun c => !(canCtl s c).rx.isEmpty);
    let rx := fun (k : Nat) => if k = 12 then s.pwr.pfwFinal else if k = 13 then s.net.queue.any (fun f => f.port == 2) else if k = 14 then can else true;
    let seen := fun (k : Nat) => if k = 9 then !s.saf.evq.isEmpty else if k = 10 then !s.bil.evq.isEmpty else if k = 11 then nic else rx k;
    let bit := fun (k : Nat) => (rget s F.PWR_WAKEEN_EN).testBit k;
    let fires := fun (k : Nat) => seen k && (bit k || k == 11 || k == 12 || k == 15) && (!s.pwr.pfwFinal || k == 12);
    s.pwr.boot = .running ∧ s.pwr.aonOn = true ∧ s.pwr.sys = .s0 ∧ s.pwr.entry = .idle .s2 ∧ fires k = true ∧ .s2 ∈ acts k) = true := by decide +kernel

theorem test_meets_WakeCommands_5 : decide (
    let s : State := rput F.PWR_WAKEEN_EN 0x20 { wRun [] with pwr.entry := .quiet .s4 };
    let k : Fin 16 := 5;
    let own := fun (k : Nat) => if k ∈ [8, 13, 14] then [PwrSt.s2] else if k ∈ [9, 10, 11] then [.s2, .s3] else if k = 12 then [.s4] else [.s1];
    let acts := fun (k : Nat) => if k ∈ [0, 1, 2, 3, 4, 6, 7] then [PwrSt.s2, .s3, .s4] else if k = 5 then [.s3, .s4] else own k;
    let nic := rbit s F.SYS_NMICAUSE_CLKSW || rbit s F.SYS_NMICAUSE_CLKRET;
    let can := (List.range 4).any (fun c => !(canCtl s c).rx.isEmpty);
    let rx := fun (k : Nat) => if k = 12 then s.pwr.pfwFinal else if k = 13 then s.net.queue.any (fun f => f.port == 2) else if k = 14 then can else true;
    let seen := fun (k : Nat) => if k = 9 then !s.saf.evq.isEmpty else if k = 10 then !s.bil.evq.isEmpty else if k = 11 then nic else rx k;
    let bit := fun (k : Nat) => (rget s F.PWR_WAKEEN_EN).testBit k;
    let fires := fun (k : Nat) => seen k && (bit k || k == 11 || k == 12 || k == 15) && (!s.pwr.pfwFinal || k == 12);
    s.pwr.boot = .running ∧ s.pwr.aonOn = true ∧ (s.pwr.entry = .quiet .s3 ∨ s.pwr.entry = .quiet .s4 ∨ s.pwr.entry = .dormant) ∧ fires k = true ∧ .s3 ∈ acts k) = true := by decide +kernel

theorem test_meets_WakeCommands_6 : decide (
    let s : State := rput F.PWR_WAKEEN_EN 0x20 { wRun [] with pwr.entry := .waking };
    let k : Fin 16 := 5;
    let own := fun (k : Nat) => if k ∈ [8, 13, 14] then [PwrSt.s2] else if k ∈ [9, 10, 11] then [.s2, .s3] else if k = 12 then [.s4] else [.s1];
    let acts := fun (k : Nat) => if k ∈ [0, 1, 2, 3, 4, 6, 7] then [PwrSt.s2, .s3, .s4] else if k = 5 then [.s3, .s4] else own k;
    let nic := rbit s F.SYS_NMICAUSE_CLKSW || rbit s F.SYS_NMICAUSE_CLKRET;
    let can := (List.range 4).any (fun c => !(canCtl s c).rx.isEmpty);
    let rx := fun (k : Nat) => if k = 12 then s.pwr.pfwFinal else if k = 13 then s.net.queue.any (fun f => f.port == 2) else if k = 14 then can else true;
    let seen := fun (k : Nat) => if k = 9 then !s.saf.evq.isEmpty else if k = 10 then !s.bil.evq.isEmpty else if k = 11 then nic else rx k;
    let bit := fun (k : Nat) => (rget s F.PWR_WAKEEN_EN).testBit k;
    let fires := fun (k : Nat) => seen k && (bit k || k == 11 || k == 12 || k == 15) && (!s.pwr.pfwFinal || k == 12);
    s.pwr.boot = .running ∧ s.pwr.aonOn = true ∧ s.pwr.entry = .waking ∧ seen k = true ∧ (bit k = true ∨ k = 11 ∨ k = 15)) = true := by decide +kernel

theorem test_meets_WakeCommands_7 : decide (
    let s : State := rput F.PWR_WAKEEN_EN 0xFF7F { wRun [] with pwr.sys := .s2 };
    let k : Fin 16 := 7;
    let own := fun (k : Nat) => if k ∈ [8, 13, 14] then [PwrSt.s2] else if k ∈ [9, 10, 11] then [.s2, .s3] else if k = 12 then [.s4] else [.s1];
    let acts := fun (k : Nat) => if k ∈ [0, 1, 2, 3, 4, 6, 7] then [PwrSt.s2, .s3, .s4] else if k = 5 then [.s3, .s4] else own k;
    let nic := rbit s F.SYS_NMICAUSE_CLKSW || rbit s F.SYS_NMICAUSE_CLKRET;
    let can := (List.range 4).any (fun c => !(canCtl s c).rx.isEmpty);
    let rx := fun (k : Nat) => if k = 12 then s.pwr.pfwFinal else if k = 13 then s.net.queue.any (fun f => f.port == 2) else if k = 14 then can else true;
    let seen := fun (k : Nat) => if k = 9 then !s.saf.evq.isEmpty else if k = 10 then !s.bil.evq.isEmpty else if k = 11 then nic else rx k;
    let bit := fun (k : Nat) => (rget s F.PWR_WAKEEN_EN).testBit k;
    let fires := fun (k : Nat) => seen k && (bit k || k == 11 || k == 12 || k == 15) && (!s.pwr.pfwFinal || k == 12);
    s.pwr.boot = .running ∧ s.pwr.aonOn = true ∧ s.pwr.entry ≠ .waking ∧ fires k = false) = true := by decide +kernel

theorem test_meets_WakeCommands_7_b : decide (
    let s : State := rput F.PWR_WAKEEN_EN 0xFFFF { wRun [] with pwr.sys := .s2 };
    let k : Fin 16 := 13;
    let own := fun (k : Nat) => if k ∈ [8, 13, 14] then [PwrSt.s2] else if k ∈ [9, 10, 11] then [.s2, .s3] else if k = 12 then [.s4] else [.s1];
    let acts := fun (k : Nat) => if k ∈ [0, 1, 2, 3, 4, 6, 7] then [PwrSt.s2, .s3, .s4] else if k = 5 then [.s3, .s4] else own k;
    let nic := rbit s F.SYS_NMICAUSE_CLKSW || rbit s F.SYS_NMICAUSE_CLKRET;
    let can := (List.range 4).any (fun c => !(canCtl s c).rx.isEmpty);
    let rx := fun (k : Nat) => if k = 12 then s.pwr.pfwFinal else if k = 13 then s.net.queue.any (fun f => f.port == 2) else if k = 14 then can else true;
    let seen := fun (k : Nat) => if k = 9 then !s.saf.evq.isEmpty else if k = 10 then !s.bil.evq.isEmpty else if k = 11 then nic else rx k;
    let bit := fun (k : Nat) => (rget s F.PWR_WAKEEN_EN).testBit k;
    let fires := fun (k : Nat) => seen k && (bit k || k == 11 || k == 12 || k == 15) && (!s.pwr.pfwFinal || k == 12);
    s.pwr.boot = .running ∧ s.pwr.aonOn = true ∧ s.pwr.entry ≠ .waking ∧ fires k = false) = true := by decide +kernel

theorem test_meets_WakeCommands_8 : decide (
    let s : State := rput F.PWR_WAKEEN_EN 0xFFFF { wRun [] with pwr.sys := .s2 };
    let k : Fin 16 := 5;
    let own := fun (k : Nat) => if k ∈ [8, 13, 14] then [PwrSt.s2] else if k ∈ [9, 10, 11] then [.s2, .s3] else if k = 12 then [.s4] else [.s1];
    let acts := fun (k : Nat) => if k ∈ [0, 1, 2, 3, 4, 6, 7] then [PwrSt.s2, .s3, .s4] else if k = 5 then [.s3, .s4] else own k;
    let nic := rbit s F.SYS_NMICAUSE_CLKSW || rbit s F.SYS_NMICAUSE_CLKRET;
    let can := (List.range 4).any (fun c => !(canCtl s c).rx.isEmpty);
    let rx := fun (k : Nat) => if k = 12 then s.pwr.pfwFinal else if k = 13 then s.net.queue.any (fun f => f.port == 2) else if k = 14 then can else true;
    let seen := fun (k : Nat) => if k = 9 then !s.saf.evq.isEmpty else if k = 10 then !s.bil.evq.isEmpty else if k = 11 then nic else rx k;
    let bit := fun (k : Nat) => (rget s F.PWR_WAKEEN_EN).testBit k;
    let fires := fun (k : Nat) => seen k && (bit k || k == 11 || k == 12 || k == 15) && (!s.pwr.pfwFinal || k == 12);
    s.pwr.boot = .running ∧ s.pwr.aonOn = true ∧ (s.pwr.entry = .none ∨ s.pwr.entry = .consent .s3 ∨ s.pwr.entry = .consent .s4) ∧ s.pwr.sys ∉ acts k) = true := by decide +kernel

theorem test_meets_WakeCommands_9 : decide (
    let s : State := { wRun [] with pwr.entry := .idle .s1 };
    let own := fun (k : Nat) => if k ∈ [8, 13, 14] then [PwrSt.s2] else if k ∈ [9, 10, 11] then [.s2, .s3] else if k = 12 then [.s4] else [.s1];
    let acts := fun (k : Nat) => if k ∈ [0, 1, 2, 3, 4, 6, 7] then [PwrSt.s2, .s3, .s4] else if k = 5 then [.s3, .s4] else own k;
    let nic := rbit s F.SYS_NMICAUSE_CLKSW || rbit s F.SYS_NMICAUSE_CLKRET;
    let can := (List.range 4).any (fun c => !(canCtl s c).rx.isEmpty);
    let rx := fun (k : Nat) => if k = 12 then s.pwr.pfwFinal else if k = 13 then s.net.queue.any (fun f => f.port == 2) else if k = 14 then can else true;
    let seen := fun (k : Nat) => if k = 9 then !s.saf.evq.isEmpty else if k = 10 then !s.bil.evq.isEmpty else if k = 11 then nic else rx k;
    let bit := fun (k : Nat) => (rget s F.PWR_WAKEEN_EN).testBit k;
    let fires := fun (k : Nat) => seen k && (bit k || k == 11 || k == 12 || k == 15) && (!s.pwr.pfwFinal || k == 12);
    s.pwr.boot = .running ∧ s.pwr.aonOn = true ∧ s.pwr.entry = .idle .s1) = true := by decide +kernel

theorem test_meets_WakeCommands_10 : decide (
    let s : State := { wRun [] with pwr.sys := .s2, pwr.entry := .waking, pwr.dramOn := false, pwr.wakeRetry := true };
    let g : Fin 4 := 0;
    let own := fun (k : Nat) => if k ∈ [8, 13, 14] then [PwrSt.s2] else if k ∈ [9, 10, 11] then [.s2, .s3] else if k = 12 then [.s4] else [.s1];
    let acts := fun (k : Nat) => if k ∈ [0, 1, 2, 3, 4, 6, 7] then [PwrSt.s2, .s3, .s4] else if k = 5 then [.s3, .s4] else own k;
    let nic := rbit s F.SYS_NMICAUSE_CLKSW || rbit s F.SYS_NMICAUSE_CLKRET;
    let can := (List.range 4).any (fun c => !(canCtl s c).rx.isEmpty);
    let rx := fun (k : Nat) => if k = 12 then s.pwr.pfwFinal else if k = 13 then s.net.queue.any (fun f => f.port == 2) else if k = 14 then can else true;
    let seen := fun (k : Nat) => if k = 9 then !s.saf.evq.isEmpty else if k = 10 then !s.bil.evq.isEmpty else if k = 11 then nic else rx k;
    let bit := fun (k : Nat) => (rget s F.PWR_WAKEEN_EN).testBit k;
    let fires := fun (k : Nat) => seen k && (bit k || k == 11 || k == 12 || k == 15) && (!s.pwr.pfwFinal || k == 12);
    s.pwr.boot = .running ∧ s.pwr.aonOn = true ∧ s.pwr.entry = .waking ∧ (wakeNext s s.pwr.wakeStep = 4 * g.val ∨ wakeNext s s.pwr.wakeStep = 4 * g.val + 1 ∨ wakeNext s s.pwr.wakeStep = 4 * g.val + 2)) = true := by decide +kernel

theorem test_meets_WakeCommands_10_b : decide (
    let s : State := { wRun [] with pwr.sys := .s2, pwr.entry := .waking, pwr.appOn := false, pwr.wakeStep := 4 };
    let g : Fin 4 := 2;
    let own := fun (k : Nat) => if k ∈ [8, 13, 14] then [PwrSt.s2] else if k ∈ [9, 10, 11] then [.s2, .s3] else if k = 12 then [.s4] else [.s1];
    let acts := fun (k : Nat) => if k ∈ [0, 1, 2, 3, 4, 6, 7] then [PwrSt.s2, .s3, .s4] else if k = 5 then [.s3, .s4] else own k;
    let nic := rbit s F.SYS_NMICAUSE_CLKSW || rbit s F.SYS_NMICAUSE_CLKRET;
    let can := (List.range 4).any (fun c => !(canCtl s c).rx.isEmpty);
    let rx := fun (k : Nat) => if k = 12 then s.pwr.pfwFinal else if k = 13 then s.net.queue.any (fun f => f.port == 2) else if k = 14 then can else true;
    let seen := fun (k : Nat) => if k = 9 then !s.saf.evq.isEmpty else if k = 10 then !s.bil.evq.isEmpty else if k = 11 then nic else rx k;
    let bit := fun (k : Nat) => (rget s F.PWR_WAKEEN_EN).testBit k;
    let fires := fun (k : Nat) => seen k && (bit k || k == 11 || k == 12 || k == 15) && (!s.pwr.pfwFinal || k == 12);
    s.pwr.boot = .running ∧ s.pwr.aonOn = true ∧ s.pwr.entry = .waking ∧ (wakeNext s s.pwr.wakeStep = 4 * g.val ∨ wakeNext s s.pwr.wakeStep = 4 * g.val + 1 ∨ wakeNext s s.pwr.wakeStep = 4 * g.val + 2)) = true := by decide +kernel

theorem test_meets_WakeCommands_11 : decide (
    let s : State := { wRun [] with pwr.sys := .s2, pwr.entry := .waking, pwr.dramOn := false, pwr.wakeStep := 3 };
    let own := fun (k : Nat) => if k ∈ [8, 13, 14] then [PwrSt.s2] else if k ∈ [9, 10, 11] then [.s2, .s3] else if k = 12 then [.s4] else [.s1];
    let acts := fun (k : Nat) => if k ∈ [0, 1, 2, 3, 4, 6, 7] then [PwrSt.s2, .s3, .s4] else if k = 5 then [.s3, .s4] else own k;
    let nic := rbit s F.SYS_NMICAUSE_CLKSW || rbit s F.SYS_NMICAUSE_CLKRET;
    let can := (List.range 4).any (fun c => !(canCtl s c).rx.isEmpty);
    let rx := fun (k : Nat) => if k = 12 then s.pwr.pfwFinal else if k = 13 then s.net.queue.any (fun f => f.port == 2) else if k = 14 then can else true;
    let seen := fun (k : Nat) => if k = 9 then !s.saf.evq.isEmpty else if k = 10 then !s.bil.evq.isEmpty else if k = 11 then nic else rx k;
    let bit := fun (k : Nat) => (rget s F.PWR_WAKEEN_EN).testBit k;
    let fires := fun (k : Nat) => seen k && (bit k || k == 11 || k == 12 || k == 15) && (!s.pwr.pfwFinal || k == 12);
    s.pwr.boot = .running ∧ s.pwr.aonOn = true ∧ s.pwr.entry = .waking ∧ s.pwr.wakeStep = 3) = true := by decide +kernel

theorem test_meets_WakeCommands_12 : decide (
    let s : State := { wRun [] with pwr.sys := .s2, pwr.entry := .waking, pwr.netOn := false, pwr.vehOn := false, pwr.wakeStep := 7, lea.addr := 5 };
    let own := fun (k : Nat) => if k ∈ [8, 13, 14] then [PwrSt.s2] else if k ∈ [9, 10, 11] then [.s2, .s3] else if k = 12 then [.s4] else [.s1];
    let acts := fun (k : Nat) => if k ∈ [0, 1, 2, 3, 4, 6, 7] then [PwrSt.s2, .s3, .s4] else if k = 5 then [.s3, .s4] else own k;
    let nic := rbit s F.SYS_NMICAUSE_CLKSW || rbit s F.SYS_NMICAUSE_CLKRET;
    let can := (List.range 4).any (fun c => !(canCtl s c).rx.isEmpty);
    let rx := fun (k : Nat) => if k = 12 then s.pwr.pfwFinal else if k = 13 then s.net.queue.any (fun f => f.port == 2) else if k = 14 then can else true;
    let seen := fun (k : Nat) => if k = 9 then !s.saf.evq.isEmpty else if k = 10 then !s.bil.evq.isEmpty else if k = 11 then nic else rx k;
    let bit := fun (k : Nat) => (rget s F.PWR_WAKEEN_EN).testBit k;
    let fires := fun (k : Nat) => seen k && (bit k || k == 11 || k == 12 || k == 15) && (!s.pwr.pfwFinal || k == 12);
    s.pwr.boot = .running ∧ s.pwr.aonOn = true ∧ s.pwr.entry = .waking ∧ s.pwr.wakeStep = 7) = true := by decide +kernel

theorem test_meets_WakeCommands_13 : decide (
    let s : State := { wRun [] with pwr.sys := .s2, pwr.entry := .waking, pwr.appOn := false, pwr.wakeStep := 11 };
    let own := fun (k : Nat) => if k ∈ [8, 13, 14] then [PwrSt.s2] else if k ∈ [9, 10, 11] then [.s2, .s3] else if k = 12 then [.s4] else [.s1];
    let acts := fun (k : Nat) => if k ∈ [0, 1, 2, 3, 4, 6, 7] then [PwrSt.s2, .s3, .s4] else if k = 5 then [.s3, .s4] else own k;
    let nic := rbit s F.SYS_NMICAUSE_CLKSW || rbit s F.SYS_NMICAUSE_CLKRET;
    let can := (List.range 4).any (fun c => !(canCtl s c).rx.isEmpty);
    let rx := fun (k : Nat) => if k = 12 then s.pwr.pfwFinal else if k = 13 then s.net.queue.any (fun f => f.port == 2) else if k = 14 then can else true;
    let seen := fun (k : Nat) => if k = 9 then !s.saf.evq.isEmpty else if k = 10 then !s.bil.evq.isEmpty else if k = 11 then nic else rx k;
    let bit := fun (k : Nat) => (rget s F.PWR_WAKEEN_EN).testBit k;
    let fires := fun (k : Nat) => seen k && (bit k || k == 11 || k == 12 || k == 15) && (!s.pwr.pfwFinal || k == 12);
    s.pwr.boot = .running ∧ s.pwr.aonOn = true ∧ s.pwr.entry = .waking ∧ s.pwr.wakeStep = 11) = true := by decide +kernel

theorem test_meets_WakeCommands_14 : decide (
    let s : State := { wRun [] with pwr.sys := .s2, pwr.entry := .waking, pwr.fieldOn := false, pwr.wakeStep := 15, pwr.resumed := true };
    let own := fun (k : Nat) => if k ∈ [8, 13, 14] then [PwrSt.s2] else if k ∈ [9, 10, 11] then [.s2, .s3] else if k = 12 then [.s4] else [.s1];
    let acts := fun (k : Nat) => if k ∈ [0, 1, 2, 3, 4, 6, 7] then [PwrSt.s2, .s3, .s4] else if k = 5 then [.s3, .s4] else own k;
    let nic := rbit s F.SYS_NMICAUSE_CLKSW || rbit s F.SYS_NMICAUSE_CLKRET;
    let can := (List.range 4).any (fun c => !(canCtl s c).rx.isEmpty);
    let rx := fun (k : Nat) => if k = 12 then s.pwr.pfwFinal else if k = 13 then s.net.queue.any (fun f => f.port == 2) else if k = 14 then can else true;
    let seen := fun (k : Nat) => if k = 9 then !s.saf.evq.isEmpty else if k = 10 then !s.bil.evq.isEmpty else if k = 11 then nic else rx k;
    let bit := fun (k : Nat) => (rget s F.PWR_WAKEEN_EN).testBit k;
    let fires := fun (k : Nat) => seen k && (bit k || k == 11 || k == 12 || k == 15) && (!s.pwr.pfwFinal || k == 12);
    s.pwr.boot = .running ∧ s.pwr.aonOn = true ∧ s.pwr.entry = .waking ∧ s.pwr.wakeStep = 15) = true := by decide +kernel

theorem test_meets_WakeCommands_15 : decide (
    let s : State := { wRun [] with pwr.sys := .s2, pwr.entry := .waking };
    let own := fun (k : Nat) => if k ∈ [8, 13, 14] then [PwrSt.s2] else if k ∈ [9, 10, 11] then [.s2, .s3] else if k = 12 then [.s4] else [.s1];
    let acts := fun (k : Nat) => if k ∈ [0, 1, 2, 3, 4, 6, 7] then [PwrSt.s2, .s3, .s4] else if k = 5 then [.s3, .s4] else own k;
    let nic := rbit s F.SYS_NMICAUSE_CLKSW || rbit s F.SYS_NMICAUSE_CLKRET;
    let can := (List.range 4).any (fun c => !(canCtl s c).rx.isEmpty);
    let rx := fun (k : Nat) => if k = 12 then s.pwr.pfwFinal else if k = 13 then s.net.queue.any (fun f => f.port == 2) else if k = 14 then can else true;
    let seen := fun (k : Nat) => if k = 9 then !s.saf.evq.isEmpty else if k = 10 then !s.bil.evq.isEmpty else if k = 11 then nic else rx k;
    let bit := fun (k : Nat) => (rget s F.PWR_WAKEEN_EN).testBit k;
    let fires := fun (k : Nat) => seen k && (bit k || k == 11 || k == 12 || k == 15) && (!s.pwr.pfwFinal || k == 12);
    s.pwr.boot = .running ∧ s.pwr.aonOn = true ∧ (s.pwr.entry ≠ .waking ∨ wakeNext s s.pwr.wakeStep = 16)) = true := by decide +kernel

theorem test_meets_WakeCommands_16 : decide (
    let s : State := { wRun [] with pwr.sys := .s2, pwr.entry := .waking, pwr.dramOn := false, pwr.wakeStep := 1 };
    let own := fun (k : Nat) => if k ∈ [8, 13, 14] then [PwrSt.s2] else if k ∈ [9, 10, 11] then [.s2, .s3] else if k = 12 then [.s4] else [.s1];
    let acts := fun (k : Nat) => if k ∈ [0, 1, 2, 3, 4, 6, 7] then [PwrSt.s2, .s3, .s4] else if k = 5 then [.s3, .s4] else own k;
    let nic := rbit s F.SYS_NMICAUSE_CLKSW || rbit s F.SYS_NMICAUSE_CLKRET;
    let can := (List.range 4).any (fun c => !(canCtl s c).rx.isEmpty);
    let rx := fun (k : Nat) => if k = 12 then s.pwr.pfwFinal else if k = 13 then s.net.queue.any (fun f => f.port == 2) else if k = 14 then can else true;
    let seen := fun (k : Nat) => if k = 9 then !s.saf.evq.isEmpty else if k = 10 then !s.bil.evq.isEmpty else if k = 11 then nic else rx k;
    let bit := fun (k : Nat) => (rget s F.PWR_WAKEEN_EN).testBit k;
    let fires := fun (k : Nat) => seen k && (bit k || k == 11 || k == 12 || k == 15) && (!s.pwr.pfwFinal || k == 12);
    s.pwr.boot = .running ∧ s.pwr.aonOn = true ∧ s.pwr.entry = .waking ∧ wakeNext s s.pwr.wakeStep < 16 ∧ s.pwr.wakeRetry = false) = true := by decide +kernel

theorem test_meets_WakeCommands_17 : decide (
    let s : State := { wRun [] with pwr.sys := .s2, pwr.entry := .waking, pwr.dramOn := false, pwr.wakeStep := 0, pwr.wakeRetry := true };
    let own := fun (k : Nat) => if k ∈ [8, 13, 14] then [PwrSt.s2] else if k ∈ [9, 10, 11] then [.s2, .s3] else if k = 12 then [.s4] else [.s1];
    let acts := fun (k : Nat) => if k ∈ [0, 1, 2, 3, 4, 6, 7] then [PwrSt.s2, .s3, .s4] else if k = 5 then [.s3, .s4] else own k;
    let nic := rbit s F.SYS_NMICAUSE_CLKSW || rbit s F.SYS_NMICAUSE_CLKRET;
    let can := (List.range 4).any (fun c => !(canCtl s c).rx.isEmpty);
    let rx := fun (k : Nat) => if k = 12 then s.pwr.pfwFinal else if k = 13 then s.net.queue.any (fun f => f.port == 2) else if k = 14 then can else true;
    let seen := fun (k : Nat) => if k = 9 then !s.saf.evq.isEmpty else if k = 10 then !s.bil.evq.isEmpty else if k = 11 then nic else rx k;
    let bit := fun (k : Nat) => (rget s F.PWR_WAKEEN_EN).testBit k;
    let fires := fun (k : Nat) => seen k && (bit k || k == 11 || k == 12 || k == 15) && (!s.pwr.pfwFinal || k == 12);
    s.pwr.boot = .running ∧ s.pwr.aonOn = true ∧ s.pwr.entry = .waking ∧ wakeNext s s.pwr.wakeStep < 16 ∧ s.pwr.wakeRetry = true) = true := by decide +kernel

theorem test_meets_WakeCommands_18 : decide (
    let s : State := rput F.PWR_PLEVEL_REQ 2 { wRun [] with pwr.sys := .s2, pwr.entry := .waking };
    let own := fun (k : Nat) => if k ∈ [8, 13, 14] then [PwrSt.s2] else if k ∈ [9, 10, 11] then [.s2, .s3] else if k = 12 then [.s4] else [.s1];
    let acts := fun (k : Nat) => if k ∈ [0, 1, 2, 3, 4, 6, 7] then [PwrSt.s2, .s3, .s4] else if k = 5 then [.s3, .s4] else own k;
    let nic := rbit s F.SYS_NMICAUSE_CLKSW || rbit s F.SYS_NMICAUSE_CLKRET;
    let can := (List.range 4).any (fun c => !(canCtl s c).rx.isEmpty);
    let rx := fun (k : Nat) => if k = 12 then s.pwr.pfwFinal else if k = 13 then s.net.queue.any (fun f => f.port == 2) else if k = 14 then can else true;
    let seen := fun (k : Nat) => if k = 9 then !s.saf.evq.isEmpty else if k = 10 then !s.bil.evq.isEmpty else if k = 11 then nic else rx k;
    let bit := fun (k : Nat) => (rget s F.PWR_WAKEEN_EN).testBit k;
    let fires := fun (k : Nat) => seen k && (bit k || k == 11 || k == 12 || k == 15) && (!s.pwr.pfwFinal || k == 12);
    s.pwr.boot = .running ∧ s.pwr.aonOn = true ∧ s.pwr.entry = .waking ∧ s.pwr.appOn = true ∧ s.pwr.resumed = false) = true := by decide +kernel

theorem test_meets_WakeCommands_18_b : decide (
    let s : State := rput F.PWR_PLEVEL_REQ 2 { wRun [] with pwr.sys := .s2, pwr.entry := .waking, pwr.fieldOn := false };
    let own := fun (k : Nat) => if k ∈ [8, 13, 14] then [PwrSt.s2] else if k ∈ [9, 10, 11] then [.s2, .s3] else if k = 12 then [.s4] else [.s1];
    let acts := fun (k : Nat) => if k ∈ [0, 1, 2, 3, 4, 6, 7] then [PwrSt.s2, .s3, .s4] else if k = 5 then [.s3, .s4] else own k;
    let nic := rbit s F.SYS_NMICAUSE_CLKSW || rbit s F.SYS_NMICAUSE_CLKRET;
    let can := (List.range 4).any (fun c => !(canCtl s c).rx.isEmpty);
    let rx := fun (k : Nat) => if k = 12 then s.pwr.pfwFinal else if k = 13 then s.net.queue.any (fun f => f.port == 2) else if k = 14 then can else true;
    let seen := fun (k : Nat) => if k = 9 then !s.saf.evq.isEmpty else if k = 10 then !s.bil.evq.isEmpty else if k = 11 then nic else rx k;
    let bit := fun (k : Nat) => (rget s F.PWR_WAKEEN_EN).testBit k;
    let fires := fun (k : Nat) => seen k && (bit k || k == 11 || k == 12 || k == 15) && (!s.pwr.pfwFinal || k == 12);
    s.pwr.boot = .running ∧ s.pwr.aonOn = true ∧ s.pwr.entry = .waking ∧ s.pwr.appOn = true ∧ s.pwr.resumed = false) = true := by decide +kernel

theorem test_meets_WakeCommands_19 : decide (
    let s : State := { wRun [] with pwr.sys := .s2, pwr.entry := .waking };
    let own := fun (k : Nat) => if k ∈ [8, 13, 14] then [PwrSt.s2] else if k ∈ [9, 10, 11] then [.s2, .s3] else if k = 12 then [.s4] else [.s1];
    let acts := fun (k : Nat) => if k ∈ [0, 1, 2, 3, 4, 6, 7] then [PwrSt.s2, .s3, .s4] else if k = 5 then [.s3, .s4] else own k;
    let nic := rbit s F.SYS_NMICAUSE_CLKSW || rbit s F.SYS_NMICAUSE_CLKRET;
    let can := (List.range 4).any (fun c => !(canCtl s c).rx.isEmpty);
    let rx := fun (k : Nat) => if k = 12 then s.pwr.pfwFinal else if k = 13 then s.net.queue.any (fun f => f.port == 2) else if k = 14 then can else true;
    let seen := fun (k : Nat) => if k = 9 then !s.saf.evq.isEmpty else if k = 10 then !s.bil.evq.isEmpty else if k = 11 then nic else rx k;
    let bit := fun (k : Nat) => (rget s F.PWR_WAKEEN_EN).testBit k;
    let fires := fun (k : Nat) => seen k && (bit k || k == 11 || k == 12 || k == 15) && (!s.pwr.pfwFinal || k == 12);
    s.pwr.boot = .running ∧ s.pwr.aonOn = true ∧ s.pwr.entry = .waking ∧ s.pwr.appOn = true ∧ s.pwr.resumed = false) = true := by decide +kernel

theorem test_meets_WakeCommands_20 : decide (
    let s : State := { wRun [] with pwr.sys := .s2, pwr.entry := .waking, pwr.appOn := false };
    let crcOk : Bool := false;
    let own := fun (k : Nat) => if k ∈ [8, 13, 14] then [PwrSt.s2] else if k ∈ [9, 10, 11] then [.s2, .s3] else if k = 12 then [.s4] else [.s1];
    let acts := fun (k : Nat) => if k ∈ [0, 1, 2, 3, 4, 6, 7] then [PwrSt.s2, .s3, .s4] else if k = 5 then [.s3, .s4] else own k;
    let nic := rbit s F.SYS_NMICAUSE_CLKSW || rbit s F.SYS_NMICAUSE_CLKRET;
    let can := (List.range 4).any (fun c => !(canCtl s c).rx.isEmpty);
    let rx := fun (k : Nat) => if k = 12 then s.pwr.pfwFinal else if k = 13 then s.net.queue.any (fun f => f.port == 2) else if k = 14 then can else true;
    let seen := fun (k : Nat) => if k = 9 then !s.saf.evq.isEmpty else if k = 10 then !s.bil.evq.isEmpty else if k = 11 then nic else rx k;
    let bit := fun (k : Nat) => (rget s F.PWR_WAKEEN_EN).testBit k;
    let fires := fun (k : Nat) => seen k && (bit k || k == 11 || k == 12 || k == 15) && (!s.pwr.pfwFinal || k == 12);
    s.pwr.boot = .running ∧ s.pwr.aonOn = true ∧ (s.pwr.entry ≠ .waking ∨ s.pwr.appOn = false ∨ s.pwr.resumed = true)) = true := by decide +kernel

theorem test_meets_PowerFailCommands_1 : decide (
    let s : State := { wRun [] with hfr.st := .ready, hfr.field := true };
    let mv : Nat := 9999;
    mv < 10000 ∧ s.pwr.pfw = false ∧ s.pwr.sys ≠ .s4 ∧ s.pwr.aonOn = true) = true := by decide +kernel

theorem test_meets_PowerFailCommands_1_b : decide (
    let s : State := { wPost 1 [] with hfr.st := .activeL4, hfr.field := true, hfr.cmd := some 4, pwr.vehOn := false };
    let mv : Nat := 9999;
    mv < 10000 ∧ s.pwr.pfw = false ∧ s.pwr.sys ≠ .s4 ∧ s.pwr.aonOn = true) = true := by decide +kernel

theorem test_meets_PowerFailCommands_2 : decide (
    let s : State := { wRun [] with hfr.st := .ready, hfr.field := true };
    let mv : Nat := 10000;
    (10000 ≤ mv ∨ s.pwr.pfw = true ∨ s.pwr.sys = .s4 ∨ s.pwr.aonOn = false)) = true := by decide +kernel

theorem test_meets_PowerFailCommands_3 : decide (
    let s : State := { wPost 1 [] with pwr.pfw := true, pwr.vehOn := false };
    let mv : Nat := 10501;
    let us : Nat := 1000;
    10500 < mv ∧ 1000 ≤ us ∧ s.pwr.pfw = true ∧ s.pwr.pfwFinal = false) = true := by decide +kernel

theorem test_meets_PowerFailCommands_4 : decide (
    let s : State := { wRun [] with pwr.pfw := true };
    let mv : Nat := 10500;
    let us : Nat := 1000;
    (mv ≤ 10500 ∨ us < 1000 ∨ s.pwr.pfw = false ∨ s.pwr.pfwFinal = true)) = true := by decide +kernel

theorem test_meets_PowerFailCommands_5 : decide (
    let s : State := wJrn 7 { wRun [] with pwr.pfw := true, pwr.pfwFinal := true };
    s.pwr.pfwFinal = true ∧ s.pwr.safeOn = true ∧ (jSettled 7 s).isSome = true) = true := by decide +kernel

theorem test_meets_PowerFailCommands_6 : decide (
    let s : State := wJrn 8 { wRun [] with pwr.pfw := true, pwr.pfwFinal := true };
    (s.pwr.pfwFinal = false ∨ s.pwr.safeOn = false ∨ (jSettled 7 s).isSome = false)) = true := by decide +kernel

theorem test_meets_PowerFailCommands_7 : decide (
    let s : State := { wRun [] with pwr.pfw := true };
    s.pwr.pfw = true) = true := by decide +kernel

theorem test_meets_PowerFailCommands_8 : decide (
    let s : State := wRun [];
    s.pwr.pfw = false) = true := by decide +kernel

theorem test_meets_PerformanceCommands_2 : decide (
    let s : State := rput F.PWR_PLEVEL_CHANGING 1 { wRun [] with pwr.plTo := 3 };
    let gov := min 3 (s.pwr.govCap + b2n s.pwr.avsLow);
    let cap := max (rget s F.SYS_OPT_ORDER) gov;
    let want := if s.pwr.pfw then 3 else max (rget s F.PWR_PLEVEL_REQ) cap;
    rbit s F.PWR_PLEVEL_CHANGING = true ∧ s.pwr.plTo < 4) = true := by decide +kernel

theorem test_meets_PerformanceCommands_2_b : decide (
    let s : State := rput F.PWR_PLEVEL_REQ 3 (rput F.PWR_PLEVEL_CHANGING 1 { wRun [] with pwr.plTo := 3 });
    let gov := min 3 (s.pwr.govCap + b2n s.pwr.avsLow);
    let cap := max (rget s F.SYS_OPT_ORDER) gov;
    let want := if s.pwr.pfw then 3 else max (rget s F.PWR_PLEVEL_REQ) cap;
    rbit s F.PWR_PLEVEL_CHANGING = true ∧ s.pwr.plTo < 4) = true := by decide +kernel

theorem test_meets_PerformanceCommands_3 : decide (
    let s : State := wRun [];
    let gov := min 3 (s.pwr.govCap + b2n s.pwr.avsLow);
    let cap := max (rget s F.SYS_OPT_ORDER) gov;
    let want := if s.pwr.pfw then 3 else max (rget s F.PWR_PLEVEL_REQ) cap;
    rbit s F.PWR_PLEVEL_CHANGING = false) = true := by decide +kernel

theorem test_meets_PerformanceCommands_4 : decide (
    let s : State := rput F.PWR_AVS_LIM 1 { wRun [] with pwr.avsLow := true };
    let trim : Int := 8;
    let low : Bool := true;
    let gov := min 3 (s.pwr.govCap + b2n s.pwr.avsLow);
    let cap := max (rget s F.SYS_OPT_ORDER) gov;
    let want := if s.pwr.pfw then 3 else max (rget s F.PWR_PLEVEL_REQ) cap;
    appOn s = true ∧ rget s F.PWR_PLEVEL_CHANGING = 0 ∧ ((∀ k ∈ s.pwr.avsAt.toList, k + 20 ≤ s.tmp.now)) ∧ rget s F.PWR_PLEVEL_ACT < 4) = true := by decide +kernel

theorem test_meets_PerformanceCommands_4_b : decide (
    let s : State := wRun [];
    let trim : Int := 11;
    let low : Bool := true;
    let gov := min 3 (s.pwr.govCap + b2n s.pwr.avsLow);
    let cap := max (rget s F.SYS_OPT_ORDER) gov;
    let want := if s.pwr.pfw then 3 else max (rget s F.PWR_PLEVEL_REQ) cap;
    appOn s = true ∧ rget s F.PWR_PLEVEL_CHANGING = 0 ∧ ((∀ k ∈ s.pwr.avsAt.toList, k + 20 ≤ s.tmp.now)) ∧ rget s F.PWR_PLEVEL_ACT < 4) = true := by decide +kernel

theorem test_meets_PerformanceCommands_4_c : decide (
    let s : State := rput F.PWR_AVS_LIM 1 { wRun [] with pwr.avsLow := true };
    let trim : Int := 9;
    let low : Bool := true;
    let gov := min 3 (s.pwr.govCap + b2n s.pwr.avsLow);
    let cap := max (rget s F.SYS_OPT_ORDER) gov;
    let want := if s.pwr.pfw then 3 else max (rget s F.PWR_PLEVEL_REQ) cap;
    appOn s = true ∧ rget s F.PWR_PLEVEL_CHANGING = 0 ∧ ((∀ k ∈ s.pwr.avsAt.toList, k + 20 ≤ s.tmp.now)) ∧ rget s F.PWR_PLEVEL_ACT < 4) = true := by decide +kernel

theorem test_meets_PerformanceCommands_5 : decide (
    let s : State := { wRun [] with pwr.appOn := false };
    let trim : Int := 11;
    let low : Bool := true;
    let gov := min 3 (s.pwr.govCap + b2n s.pwr.avsLow);
    let cap := max (rget s F.SYS_OPT_ORDER) gov;
    let want := if s.pwr.pfw then 3 else max (rget s F.PWR_PLEVEL_REQ) cap;
    (appOn s = false ∨ rget s F.PWR_PLEVEL_CHANGING ≠ 0 ∨ (∃ k ∈ s.pwr.avsAt.toList, s.tmp.now < k + 20))) = true := by decide +kernel

theorem test_meets_PerformanceCommands_6 : decide (
    let s : State := strmPut 56 12000 (wRun []);
    let gov := min 3 (s.pwr.govCap + b2n s.pwr.avsLow);
    let cap := max (rget s F.SYS_OPT_ORDER) gov;
    let want := if s.pwr.pfw then 3 else max (rget s F.PWR_PLEVEL_REQ) cap;
    let c := (Tab.get Stream.reset s.strm 56).val;
    let cool := if c < 10500 then s.pwr.govCool + 1 else 0;
    s.pwr.safeOn = true ∧ ((∀ k ∈ s.pwr.govAt.toList, k + 200 ≤ s.tmp.now))) = true := by decide +kernel

theorem test_meets_PerformanceCommands_6_b : decide (
    let s : State := strmPut 56 12000 { wRun [] with pwr.govCap := 3, pwr.govLast := 12000 };
    let gov := min 3 (s.pwr.govCap + b2n s.pwr.avsLow);
    let cap := max (rget s F.SYS_OPT_ORDER) gov;
    let want := if s.pwr.pfw then 3 else max (rget s F.PWR_PLEVEL_REQ) cap;
    let c := (Tab.get Stream.reset s.strm 56).val;
    let cool := if c < 10500 then s.pwr.govCool + 1 else 0;
    s.pwr.safeOn = true ∧ ((∀ k ∈ s.pwr.govAt.toList, k + 200 ≤ s.tmp.now))) = true := by decide +kernel

theorem test_meets_PerformanceCommands_6_c : decide (
    let s : State := strmPut 56 11000 { wRun [] with pwr.govCap := 2 };
    let gov := min 3 (s.pwr.govCap + b2n s.pwr.avsLow);
    let cap := max (rget s F.SYS_OPT_ORDER) gov;
    let want := if s.pwr.pfw then 3 else max (rget s F.PWR_PLEVEL_REQ) cap;
    let c := (Tab.get Stream.reset s.strm 56).val;
    let cool := if c < 10500 then s.pwr.govCool + 1 else 0;
    s.pwr.safeOn = true ∧ ((∀ k ∈ s.pwr.govAt.toList, k + 200 ≤ s.tmp.now))) = true := by decide +kernel

theorem test_meets_PerformanceCommands_6_d : decide (
    let s : State := strmPut 56 11000 { wRun [] with pwr.govCap := 3 };
    let gov := min 3 (s.pwr.govCap + b2n s.pwr.avsLow);
    let cap := max (rget s F.SYS_OPT_ORDER) gov;
    let want := if s.pwr.pfw then 3 else max (rget s F.PWR_PLEVEL_REQ) cap;
    let c := (Tab.get Stream.reset s.strm 56).val;
    let cool := if c < 10500 then s.pwr.govCool + 1 else 0;
    s.pwr.safeOn = true ∧ ((∀ k ∈ s.pwr.govAt.toList, k + 200 ≤ s.tmp.now))) = true := by decide +kernel

theorem test_meets_PerformanceCommands_6_e : decide (
    let s : State := strmPut 56 10499 { wRun [] with pwr.govCap := 0, pwr.govCool := 99 };
    let gov := min 3 (s.pwr.govCap + b2n s.pwr.avsLow);
    let cap := max (rget s F.SYS_OPT_ORDER) gov;
    let want := if s.pwr.pfw then 3 else max (rget s F.PWR_PLEVEL_REQ) cap;
    let c := (Tab.get Stream.reset s.strm 56).val;
    let cool := if c < 10500 then s.pwr.govCool + 1 else 0;
    s.pwr.safeOn = true ∧ ((∀ k ∈ s.pwr.govAt.toList, k + 200 ≤ s.tmp.now))) = true := by decide +kernel

theorem test_meets_PerformanceCommands_6_f : decide (
    let s : State := strmPut 56 10500 { wRun [] with pwr.govCap := 2, pwr.govCool := 99 };
    let gov := min 3 (s.pwr.govCap + b2n s.pwr.avsLow);
    let cap := max (rget s F.SYS_OPT_ORDER) gov;
    let want := if s.pwr.pfw then 3 else max (rget s F.PWR_PLEVEL_REQ) cap;
    let c := (Tab.get Stream.reset s.strm 56).val;
    let cool := if c < 10500 then s.pwr.govCool + 1 else 0;
    s.pwr.safeOn = true ∧ ((∀ k ∈ s.pwr.govAt.toList, k + 200 ≤ s.tmp.now))) = true := by decide +kernel

theorem test_meets_PerformanceCommands_7 : decide (
    let s : State := { wRun [] with pwr.safeOn := false };
    let gov := min 3 (s.pwr.govCap + b2n s.pwr.avsLow);
    let cap := max (rget s F.SYS_OPT_ORDER) gov;
    let want := if s.pwr.pfw then 3 else max (rget s F.PWR_PLEVEL_REQ) cap;
    (s.pwr.safeOn = false ∨ (∃ k ∈ s.pwr.govAt.toList, s.tmp.now < k + 200))) = true := by decide +kernel

theorem test_meets_ClockCommands_2 : decide (
    let s : State := rput F.CLK_REFSEL_BUSY 1 { wRun [] with pwr.clkTo := 3 };
    let act := rget s F.CLK_REFSEL_ACT;
    let follows := !isCoord s && (s.tmp.mode == .locked || s.tmp.mode == .slew);
    rbit s F.CLK_REFSEL_BUSY = true ∧ s.pwr.clkTo < 4) = true := by decide +kernel

theorem test_meets_ClockCommands_3 : decide (
    let s : State := { wRun [] with pwr.clkTo := 3 };
    let act := rget s F.CLK_REFSEL_ACT;
    let follows := !isCoord s && (s.tmp.mode == .locked || s.tmp.mode == .slew);
    rbit s F.CLK_REFSEL_BUSY = false) = true := by decide +kernel

theorem test_meets_ClockCommands_4 : decide (
    let s : State := rput (F.NET_PSTAT_LINK 1) 1 (rput F.CLK_REFSEL_ACT 1 (rput F.CLK_STATUS_XOOK 1 (wLink 0 1 1)));
    let err : Int := -5;
    let act := rget s F.CLK_REFSEL_ACT;
    let follows := !isCoord s && (s.tmp.mode == .locked || s.tmp.mode == .slew);
    xoOk s = true ∧ recUsable s = false ∧ (act = 1 ∨ act = 0) ∧ rbit s F.CLK_FAILMODE_MODE = false) = true := by decide +kernel

theorem test_meets_ClockCommands_4_b : decide (
    let s : State := rput F.CLK_REFSEL_BUSY 1 (rput F.CLK_REFSEL_ACT 0 (rput F.CLK_STATUS_XOOK 1 (wLink 0 0 1)));
    let err : Int := -5;
    let act := rget s F.CLK_REFSEL_ACT;
    let follows := !isCoord s && (s.tmp.mode == .locked || s.tmp.mode == .slew);
    xoOk s = true ∧ recUsable s = false ∧ (act = 1 ∨ act = 0) ∧ rbit s F.CLK_FAILMODE_MODE = false) = true := by decide +kernel

theorem test_meets_ClockCommands_5 : decide (
    let s : State := rput F.CLK_FAILMODE_MODE 1 (rput F.CLK_REFSEL_ACT 1 (rput F.CLK_STATUS_XOOK 1 (wLink 0 1 1)));
    let err : Int := -5;
    let act := rget s F.CLK_REFSEL_ACT;
    let follows := !isCoord s && (s.tmp.mode == .locked || s.tmp.mode == .slew);
    xoOk s = true ∧ recUsable s = false ∧ (act = 1 ∨ act = 0) ∧ rbit s F.CLK_FAILMODE_MODE = true) = true := by decide +kernel

theorem test_meets_ClockCommands_5_b : decide (
    let s : State := rput F.CLK_FAILMODE_MODE 1 (rput F.CLK_REFSEL_ACT 1 (rput F.CLK_STATUS_XOOK 1 (wClosed 1 (wPost 1 []))));
    let err : Int := -5;
    let act := rget s F.CLK_REFSEL_ACT;
    let follows := !isCoord s && (s.tmp.mode == .locked || s.tmp.mode == .slew);
    xoOk s = true ∧ recUsable s = false ∧ (act = 1 ∨ act = 0) ∧ rbit s F.CLK_FAILMODE_MODE = true) = true := by decide +kernel

theorem test_meets_ClockCommands_6 : decide (
    let s : State := rput F.CLK_STATUS_RECOK 1 (rput F.CLK_REFSEL_ACT 1 (rput F.CLK_STATUS_XOOK 1 (wLink 0 0 2)));
    let err : Int := -5;
    let act := rget s F.CLK_REFSEL_ACT;
    let follows := !isCoord s && (s.tmp.mode == .locked || s.tmp.mode == .slew);
    xoOk s = true ∧ recUsable s = true ∧ act = 1) = true := by decide +kernel

theorem test_meets_ClockCommands_7 : decide (
    let s : State := rput F.CLK_STATUS_RECOK 1 (rput F.CLK_REFSEL_ACT 0 (rput F.CLK_STATUS_XOOK 1 (wLink 0 0 2)));
    let err : Int := -5;
    let act := rget s F.CLK_REFSEL_ACT;
    let follows := !isCoord s && (s.tmp.mode == .locked || s.tmp.mode == .slew);
    xoOk s = true ∧ act = 0 ∧ recUsable s = true) = true := by decide +kernel

theorem test_meets_ClockCommands_8 : decide (
    let s : State := rput F.CLK_STATUS_XOOK 0 (wRun []);
    let err : Int := -5;
    let act := rget s F.CLK_REFSEL_ACT;
    let follows := !isCoord s && (s.tmp.mode == .locked || s.tmp.mode == .slew);
    xoOk s = false) = true := by decide +kernel

theorem test_meets_ClockCommands_9 : decide (
    let s : State := rput F.CLK_STATUS_RECOK 1 (rput F.CLK_REFSEL_ACT 0 (rput F.CLK_STATUS_XOOK 1 (wLink 0 0 2)));
    let err : Int := -5;
    let act := rget s F.CLK_REFSEL_ACT;
    let follows := !isCoord s && (s.tmp.mode == .locked || s.tmp.mode == .slew);
    rbit s F.CLK_STATUS_RECOK = true ∧ act = 0 ∧ xoOk s = true) = true := by decide +kernel

theorem test_meets_ClockCommands_9_b : decide (
    let s : State := rput F.CLK_STATUS_RECOK 1 (rput F.CLK_REFSEL_ACT 0 (rput F.CLK_STATUS_XOOK 1 { wLink 0 0 2 with tmp.mode := .locked }));
    let err : Int := 5;
    let act := rget s F.CLK_REFSEL_ACT;
    let follows := !isCoord s && (s.tmp.mode == .locked || s.tmp.mode == .slew);
    rbit s F.CLK_STATUS_RECOK = true ∧ act = 0 ∧ xoOk s = true) = true := by decide +kernel

theorem test_meets_ClockCommands_10 : decide (
    let s : State := rput F.CLK_STATUS_RECOK 1 (rput F.CLK_REFSEL_ACT 1 (rput F.CLK_STATUS_XOOK 1 (wLink 0 0 2)));
    let err : Int := -5;
    let act := rget s F.CLK_REFSEL_ACT;
    let follows := !isCoord s && (s.tmp.mode == .locked || s.tmp.mode == .slew);
    rbit s F.CLK_STATUS_RECOK = true ∧ act ≠ 0) = true := by decide +kernel

theorem test_meets_ClockCommands_11 : decide (
    let s : State := rput F.CLK_STATUS_RECOK 1 (rput F.CLK_REFSEL_ACT 0 (rput F.CLK_STATUS_XOOK 0 (wLink 0 0 2)));
    let err : Int := -5;
    let act := rget s F.CLK_REFSEL_ACT;
    let follows := !isCoord s && (s.tmp.mode == .locked || s.tmp.mode == .slew);
    rbit s F.CLK_STATUS_RECOK = true ∧ act = 0 ∧ xoOk s = false) = true := by decide +kernel

theorem test_meets_ClockCommands_11_b : decide (
    let s : State := rput F.CLK_FAILMODE_MODE 1 (rput F.CLK_STATUS_RECOK 1 (rput F.CLK_REFSEL_ACT 0 (rput F.CLK_STATUS_XOOK 0 (wLink 0 0 2))));
    let err : Int := -5;
    let act := rget s F.CLK_REFSEL_ACT;
    let follows := !isCoord s && (s.tmp.mode == .locked || s.tmp.mode == .slew);
    rbit s F.CLK_STATUS_RECOK = true ∧ act = 0 ∧ xoOk s = false) = true := by decide +kernel

theorem test_meets_ClockCommands_12 : decide (
    let s : State := wRun [];
    let err : Int := -5;
    let act := rget s F.CLK_REFSEL_ACT;
    let follows := !isCoord s && (s.tmp.mode == .locked || s.tmp.mode == .slew);
    rbit s F.CLK_STATUS_RECOK = false) = true := by decide +kernel

theorem test_meets_ClockCommands_13 : decide (
    let s : State := rput F.CLK_STATUS_RTCOK 1 (wRun []);
    let ppm : Int := -501;
    let act := rget s F.CLK_REFSEL_ACT;
    let follows := !isCoord s && (s.tmp.mode == .locked || s.tmp.mode == .slew);
    500 < ppm.natAbs) = true := by decide +kernel

theorem test_meets_ClockCommands_14 : decide (
    let s : State := rput F.CLK_STATUS_RTCOK 1 (wRun []);
    let ppm : Int := -500;
    let act := rget s F.CLK_REFSEL_ACT;
    let follows := !isCoord s && (s.tmp.mode == .locked || s.tmp.mode == .slew);
    ppm.natAbs ≤ 500) = true := by decide +kernel

theorem test_meets_ClockCommands_15 : decide (
    let s : State := { wRun [] with pwr.rtc := 4 };
    let err : Int := 3;
    let ms : Nat := 10;
    let act := rget s F.CLK_REFSEL_ACT;
    let follows := !isCoord s && (s.tmp.mode == .locked || s.tmp.mode == .slew);
    10 ≤ ms) = true := by decide +kernel

theorem test_meets_ClockCommands_16 : decide (
    let s : State := rput F.CLK_REFSEL_ACT 1 (wLink 0 0 2);
    let err : Int := 3;
    let ms : Nat := 10;
    let act := rget s F.CLK_REFSEL_ACT;
    let follows := !isCoord s && (s.tmp.mode == .locked || s.tmp.mode == .slew);
    10 ≤ ms) = true := by decide +kernel

theorem test_meets_ClockCommands_16_b : decide (
    let s : State := rput F.CLK_REFSEL_ACT 1 (wLink 0 1 2);
    let err : Int := 3;
    let ms : Nat := 10;
    let act := rget s F.CLK_REFSEL_ACT;
    let follows := !isCoord s && (s.tmp.mode == .locked || s.tmp.mode == .slew);
    10 ≤ ms) = true := by decide +kernel

theorem test_meets_ClockCommands_17 : decide (
    let s : State := wRun [];
    let err : Int := 3;
    let ms : Nat := 10;
    let act := rget s F.CLK_REFSEL_ACT;
    let follows := !isCoord s && (s.tmp.mode == .locked || s.tmp.mode == .slew);
    10 ≤ ms) = true := by decide +kernel

theorem test_meets_ClockCommands_18 : decide (
    let s : State := wRun [];
    let src : ClkSrc := .lu;
    let err : Int := 3;
    let ms : Nat := 9;
    let act := rget s F.CLK_REFSEL_ACT;
    let follows := !isCoord s && (s.tmp.mode == .locked || s.tmp.mode == .slew);
    ms < 10) = true := by decide +kernel

theorem test_meets_ClockCommands_19 : decide (
    let s : State := rput F.CLK_STATUS_XOOK 1 (rput F.CLK_REFSEL_ACT 2 { wRun [] with pwr.rtc := 32768 });
    let act := rget s F.CLK_REFSEL_ACT;
    let follows := !isCoord s && (s.tmp.mode == .locked || s.tmp.mode == .slew);
    act = 2 ∧ xoOk s = true ∧ s.pwr.xoAt + 32768 ≤ s.pwr.rtc) = true := by decide +kernel

theorem test_meets_ClockCommands_20 : decide (
    let s : State := rput F.CLK_STATUS_XOOK 1 (rput F.CLK_REFSEL_ACT 2 { wRun [] with pwr.rtc := 32767 });
    let act := rget s F.CLK_REFSEL_ACT;
    let follows := !isCoord s && (s.tmp.mode == .locked || s.tmp.mode == .slew);
    (act ≠ 2 ∨ xoOk s = false ∨ s.pwr.rtc < s.pwr.xoAt + 32768)) = true := by decide +kernel

theorem test_meets_ClockCommands_21 : decide (
    let s : State := rput F.CLK_STATUS_XOOK 1 { wRun [] with saf.hold := true, pwr.rtc := 32768 };
    let act := rget s F.CLK_REFSEL_ACT;
    let follows := !isCoord s && (s.tmp.mode == .locked || s.tmp.mode == .slew);
    let held := ((s.pwr.rtc - s.pwr.holdAt) * 1000000000 + 16384) / 32768;
    s.saf.hold = true ∧ s.pwr.clkRet = false ∧ (xoOk s = true ∨ recUsable s = true)) = true := by decide +kernel

theorem test_meets_ClockCommands_21_b : decide (
    let s : State := rput F.CLK_STATUS_RECOK 1 { wPost 1 [] with saf.hold := true, pwr.rtc := 3, pwr.holdClosed := 1 };
    let act := rget s F.CLK_REFSEL_ACT;
    let follows := !isCoord s && (s.tmp.mode == .locked || s.tmp.mode == .slew);
    let held := ((s.pwr.rtc - s.pwr.holdAt) * 1000000000 + 16384) / 32768;
    s.saf.hold = true ∧ s.pwr.clkRet = false ∧ (xoOk s = true ∨ recUsable s = true)) = true := by decide +kernel

theorem test_meets_ClockCommands_22 : decide (
    let s : State := { wRun [] with saf.hold := true, pwr.rtc := 32768 };
    let act := rget s F.CLK_REFSEL_ACT;
    let follows := !isCoord s && (s.tmp.mode == .locked || s.tmp.mode == .slew);
    (s.saf.hold = false ∨ s.pwr.clkRet = true ∨ (xoOk s = false ∧ recUsable s = false))) = true := by decide +kernel

theorem test_meets_ClockCommands_23 : decide (
    let s : State := { wRun [] with saf.hold := true, pwr.clkRet := true };
    let act := rget s F.CLK_REFSEL_ACT;
    let follows := !isCoord s && (s.tmp.mode == .locked || s.tmp.mode == .slew);
    s.saf.hold = true ∧ s.pwr.clkRet = true) = true := by decide +kernel

theorem test_meets_ClockCommands_24 : decide (
    let s : State := { wRun [] with saf.hold := true };
    let act := rget s F.CLK_REFSEL_ACT;
    let follows := !isCoord s && (s.tmp.mode == .locked || s.tmp.mode == .slew);
    (s.saf.hold = false ∨ s.pwr.clkRet = false)) = true := by decide +kernel

theorem test_meets_ResetCommands_1 : decide (
    let s : State := { wRun [] with pwr.failCnt := 3, pwr.rtc := 9, lea.addr := 3 };
    let fails := if s.pwr.bootOk = true then s.pwr.failCnt else min 15 (s.pwr.failCnt + 1);
    let runs := appOn s && rbit s F.RST_WDOG_EN && s.pwr.sys != .s2 && s.pwr.sys != .s3;
    let limit := 32768 * max 10 (rget s F.RST_WDOG_TIMEOUT);
    let count := 1000 * (s.pwr.rtc - s.pwr.wdAt);
    s.pwr.boot = .running ∧ s.pwr.aonOn = true) = true := by decide +kernel

theorem test_meets_ResetCommands_2 : decide (
    let s : State := { wRun [] with pwr.failCnt := 15, pwr.rtc := 9, lea.addr := 3 };
    let ns : Nat := 1000;
    let fails := if s.pwr.bootOk = true then s.pwr.failCnt else min 15 (s.pwr.failCnt + 1);
    let runs := appOn s && rbit s F.RST_WDOG_EN && s.pwr.sys != .s2 && s.pwr.sys != .s3;
    let limit := 32768 * max 10 (rget s F.RST_WDOG_TIMEOUT);
    let count := 1000 * (s.pwr.rtc - s.pwr.wdAt);
    s.pwr.boot = .running ∧ s.pwr.aonOn = true ∧ 1000 ≤ ns ∧ s.pwr.pinLow = false) = true := by decide +kernel

theorem test_meets_ResetCommands_3 : decide (
    let s : State := { wRun [] with pwr.pinLow := true };
    let low : Bool := false;
    let ns : Nat := 1000;
    let fails := if s.pwr.bootOk = true then s.pwr.failCnt else min 15 (s.pwr.failCnt + 1);
    let runs := appOn s && rbit s F.RST_WDOG_EN && s.pwr.sys != .s2 && s.pwr.sys != .s3;
    let limit := 32768 * max 10 (rget s F.RST_WDOG_TIMEOUT);
    let count := 1000 * (s.pwr.rtc - s.pwr.wdAt);
    s.pwr.boot = .running ∧ s.pwr.aonOn = true ∧ 1000 ≤ ns ∧ (low = false ∨ s.pwr.pinLow = true)) = true := by decide +kernel

theorem test_meets_ResetCommands_4 : decide (
    let s : State := wRun [];
    let low : Bool := true;
    let ns : Nat := 999;
    let fails := if s.pwr.bootOk = true then s.pwr.failCnt else min 15 (s.pwr.failCnt + 1);
    let runs := appOn s && rbit s F.RST_WDOG_EN && s.pwr.sys != .s2 && s.pwr.sys != .s3;
    let limit := 32768 * max 10 (rget s F.RST_WDOG_TIMEOUT);
    let count := 1000 * (s.pwr.rtc - s.pwr.wdAt);
    s.pwr.boot = .running ∧ s.pwr.aonOn = true ∧ ns < 1000) = true := by decide +kernel

theorem test_meets_ResetCommands_5 : decide (
    let s : State := rput F.SYS_SEAL_SEAL 1 { wRun [] with pwr.failCnt := 3, pwr.bootOk := true };
    let fails := if s.pwr.bootOk = true then s.pwr.failCnt else min 15 (s.pwr.failCnt + 1);
    let runs := appOn s && rbit s F.RST_WDOG_EN && s.pwr.sys != .s2 && s.pwr.sys != .s3;
    let limit := 32768 * max 10 (rget s F.RST_WDOG_TIMEOUT);
    let count := 1000 * (s.pwr.rtc - s.pwr.wdAt);
    s.pwr.boot = .running ∧ s.pwr.aonOn = true ∧ s.pwr.sys ≠ .s4) = true := by decide +kernel

theorem test_meets_ResetCommands_6 : decide (
    let s : State := wRun [];
    let key : BitVec 8 := 0xA4;
    let fails := if s.pwr.bootOk = true then s.pwr.failCnt else min 15 (s.pwr.failCnt + 1);
    let runs := appOn s && rbit s F.RST_WDOG_EN && s.pwr.sys != .s2 && s.pwr.sys != .s3;
    let limit := 32768 * max 10 (rget s F.RST_WDOG_TIMEOUT);
    let count := 1000 * (s.pwr.rtc - s.pwr.wdAt);
    s.pwr.boot = .running ∧ s.pwr.aonOn = true ∧ (key ≠ 0xA5 ∨ s.pwr.sys = .s4)) = true := by decide +kernel

theorem test_meets_ResetCommands_7 : decide (
    let s : State := { wRun [] with pwr.bootOn := true, pwr.bootAt := 1, pwr.rtc := 327681 };
    let fails := if s.pwr.bootOk = true then s.pwr.failCnt else min 15 (s.pwr.failCnt + 1);
    let runs := appOn s && rbit s F.RST_WDOG_EN && s.pwr.sys != .s2 && s.pwr.sys != .s3;
    let limit := 32768 * max 10 (rget s F.RST_WDOG_TIMEOUT);
    let count := 1000 * (s.pwr.rtc - s.pwr.wdAt);
    s.pwr.boot = .running ∧ s.pwr.aonOn = true ∧ s.pwr.bootOn = true ∧ s.pwr.bootAt + 327680 ≤ s.pwr.rtc) = true := by decide +kernel

theorem test_meets_ResetCommands_8 : decide (
    let s : State := { wRun [] with pwr.bootOn := true, pwr.bootAt := 1, pwr.rtc := 327680 };
    let fails := if s.pwr.bootOk = true then s.pwr.failCnt else min 15 (s.pwr.failCnt + 1);
    let runs := appOn s && rbit s F.RST_WDOG_EN && s.pwr.sys != .s2 && s.pwr.sys != .s3;
    let limit := 32768 * max 10 (rget s F.RST_WDOG_TIMEOUT);
    let count := 1000 * (s.pwr.rtc - s.pwr.wdAt);
    s.pwr.boot = .running ∧ s.pwr.aonOn = true ∧ (s.pwr.bootOn = false ∨ s.pwr.rtc < s.pwr.bootAt + 327680)) = true := by decide +kernel

theorem test_meets_ResetCommands_9 : decide (
    let s : State := wRun [];
    let timeout : BitVec 16 := 65535;
    let fails := if s.pwr.bootOk = true then s.pwr.failCnt else min 15 (s.pwr.failCnt + 1);
    let runs := appOn s && rbit s F.RST_WDOG_EN && s.pwr.sys != .s2 && s.pwr.sys != .s3;
    let limit := 32768 * max 10 (rget s F.RST_WDOG_TIMEOUT);
    let count := 1000 * (s.pwr.rtc - s.pwr.wdAt);
    s.pwr.boot = .running ∧ s.pwr.aonOn = true ∧ s.pwr.appOn = true ∧ rbit s F.RST_WDOG_EN = false) = true := by decide +kernel

theorem test_meets_ResetCommands_10 : decide (
    let s : State := rput F.RST_WDOG_EN 1 (wRun []);
    let timeout : BitVec 16 := 65535;
    let fails := if s.pwr.bootOk = true then s.pwr.failCnt else min 15 (s.pwr.failCnt + 1);
    let runs := appOn s && rbit s F.RST_WDOG_EN && s.pwr.sys != .s2 && s.pwr.sys != .s3;
    let limit := 32768 * max 10 (rget s F.RST_WDOG_TIMEOUT);
    let count := 1000 * (s.pwr.rtc - s.pwr.wdAt);
    s.pwr.boot = .running ∧ s.pwr.aonOn = true ∧ (s.pwr.appOn = false ∨ rbit s F.RST_WDOG_EN = true)) = true := by decide +kernel

theorem test_meets_ResetCommands_11 : decide (
    let s : State := rput F.RST_WDOG_EN 1 { wRun [] with pwr.wdWarned := true };
    let fails := if s.pwr.bootOk = true then s.pwr.failCnt else min 15 (s.pwr.failCnt + 1);
    let runs := appOn s && rbit s F.RST_WDOG_EN && s.pwr.sys != .s2 && s.pwr.sys != .s3;
    let limit := 32768 * max 10 (rget s F.RST_WDOG_TIMEOUT);
    let count := 1000 * (s.pwr.rtc - s.pwr.wdAt);
    s.pwr.boot = .running ∧ s.pwr.aonOn = true ∧ s.pwr.appOn = true ∧ rbit s F.RST_WDOG_EN = true) = true := by decide +kernel

theorem test_meets_ResetCommands_12 : decide (
    let s : State := wRun [];
    let key : BitVec 8 := 0xA4;
    let fails := if s.pwr.bootOk = true then s.pwr.failCnt else min 15 (s.pwr.failCnt + 1);
    let runs := appOn s && rbit s F.RST_WDOG_EN && s.pwr.sys != .s2 && s.pwr.sys != .s3;
    let limit := 32768 * max 10 (rget s F.RST_WDOG_TIMEOUT);
    let count := 1000 * (s.pwr.rtc - s.pwr.wdAt);
    s.pwr.boot = .running ∧ s.pwr.aonOn = true ∧ (key ≠ 0xA5 ∨ s.pwr.appOn = false ∨ rbit s F.RST_WDOG_EN = false)) = true := by decide +kernel

theorem test_meets_ResetCommands_13 : decide (
    let s : State := rput F.RST_WDOG_TIMEOUT 10 <| rput F.RST_WDOG_EN 1 { wRun [] with pwr.rtc := 164 };
    let fails := if s.pwr.bootOk = true then s.pwr.failCnt else min 15 (s.pwr.failCnt + 1);
    let runs := appOn s && rbit s F.RST_WDOG_EN && s.pwr.sys != .s2 && s.pwr.sys != .s3;
    let limit := 32768 * max 10 (rget s F.RST_WDOG_TIMEOUT);
    let count := 1000 * (s.pwr.rtc - s.pwr.wdAt);
    s.pwr.boot = .running ∧ s.pwr.aonOn = true ∧ runs = true ∧ s.pwr.wdWarned = false ∧ limit ≤ 2 * count) = true := by decide +kernel

theorem test_meets_ResetCommands_14 : decide (
    let s : State := rput F.RST_WDOG_TIMEOUT 10 <| rput F.RST_WDOG_EN 1 { wRun [] with pwr.rtc := 163 };
    let fails := if s.pwr.bootOk = true then s.pwr.failCnt else min 15 (s.pwr.failCnt + 1);
    let runs := appOn s && rbit s F.RST_WDOG_EN && s.pwr.sys != .s2 && s.pwr.sys != .s3;
    let limit := 32768 * max 10 (rget s F.RST_WDOG_TIMEOUT);
    let count := 1000 * (s.pwr.rtc - s.pwr.wdAt);
    s.pwr.boot = .running ∧ s.pwr.aonOn = true ∧ (runs = false ∨ s.pwr.wdWarned = true ∨ 2 * count < limit)) = true := by decide +kernel

theorem test_meets_ResetCommands_15 : decide (
    let s : State := rput F.RST_WDOG_TIMEOUT 10 <| rput F.RST_WDOG_EN 1 { wRun [] with pwr.rtc := 328 };
    let fails := if s.pwr.bootOk = true then s.pwr.failCnt else min 15 (s.pwr.failCnt + 1);
    let runs := appOn s && rbit s F.RST_WDOG_EN && s.pwr.sys != .s2 && s.pwr.sys != .s3;
    let limit := 32768 * max 10 (rget s F.RST_WDOG_TIMEOUT);
    let count := 1000 * (s.pwr.rtc - s.pwr.wdAt);
    s.pwr.boot = .running ∧ s.pwr.aonOn = true ∧ runs = true ∧ limit ≤ count) = true := by decide +kernel

theorem test_meets_ResetCommands_16 : decide (
    let s : State := rput F.RST_WDOG_TIMEOUT 10 <| rput F.RST_WDOG_EN 1 { wRun [] with pwr.rtc := 328, pwr.sys := .s2 };
    let fails := if s.pwr.bootOk = true then s.pwr.failCnt else min 15 (s.pwr.failCnt + 1);
    let runs := appOn s && rbit s F.RST_WDOG_EN && s.pwr.sys != .s2 && s.pwr.sys != .s3;
    let limit := 32768 * max 10 (rget s F.RST_WDOG_TIMEOUT);
    let count := 1000 * (s.pwr.rtc - s.pwr.wdAt);
    s.pwr.boot = .running ∧ s.pwr.aonOn = true ∧ (runs = false ∨ count < limit)) = true := by decide +kernel

theorem test_meets_StretchAndOptions_1 : decide (
    let s : State := { State.reset with pwr.rtc := 5 };
    s.pwr.boot = .stretch ∧ s.pwr.pinLow = false ∧ s.pwr.aonOn = true) = true := by decide +kernel

theorem test_meets_StretchAndOptions_1_b : decide (
    let s : State := { State.reset with pwr.rtc := 5, saf.hold := true };
    s.pwr.boot = .stretch ∧ s.pwr.pinLow = false ∧ s.pwr.aonOn = true) = true := by decide +kernel

theorem test_meets_StretchAndOptions_2 : decide (
    let s : State := { State.reset with pwr.pinLow := true };
    (s.pwr.boot ≠ .stretch ∨ s.pwr.pinLow = true ∨ s.pwr.aonOn = false)) = true := by decide +kernel

theorem test_meets_StretchAndOptions_3 : decide (
    let s : State := { State.reset with pwr.boot := .optLoad, fuse.opt := 0x95, fuse.serial := 0x123456789 };
    s.pwr.boot = .optLoad) = true := by decide +kernel

theorem test_meets_StretchAndOptions_3_b : decide (
    let s : State := { State.reset with pwr.boot := .optLoad, fuse.opt := 0x02, fuse.serial := 0x123456789 };
    s.pwr.boot = .optLoad) = true := by decide +kernel

theorem test_meets_StretchAndOptions_4 : decide (
    let s : State := State.reset;
    s.pwr.boot ≠ .optLoad) = true := by decide +kernel

theorem test_meets_StretchAndOptions_5 : decide (
    let s : State := rput F.RST_CAUSE_SEEN 2 { State.reset with pwr.failCnt := 3 };
    let low := fun (m : Nat) => ((List.range 9).find? (fun b => m.testBit b)).getD 0;
    let seen := setBit (rget s F.RST_CAUSE_SEEN) 5 true % 512;
    (s.pwr.boot = .stretch ∨ s.pwr.boot = .optLoad) ∧ s.pwr.aonOn = true ∧ s.pwr.sys ≠ .s4) = true := by decide +kernel

theorem test_meets_StretchAndOptions_6 : decide (
    let s : State := State.reset;
    let ns : Nat := 1000;
    s.pwr.boot = .stretch ∧ s.pwr.aonOn = true ∧ 1000 ≤ ns) = true := by decide +kernel

theorem test_meets_StepRunsFrontCommand_1 :
    ({ wRun [] with pending := [.lpcd, .bankEnforce] } : State).pending = .lpcd :: [.bankEnforce] := rfl

theorem test_meets_StepRunsFrontCommand_2 : State.reset.pending = [] := rfl

theorem test_meets_EveryCommandCompletes_1 :
    hitsController (wRun []) (.writeRegister 0x0BFFFFFC 0 .b4 .machine) = false := by decide +kernel

theorem test_meets_EveryCommandCompletes_2 :
    hitsController (wRun []) (.writeRegister 0x0C000000 0 .b4 .machine) = true
      ∧ hitsController (wRun []) (.readLoShadow 0x0C3FFFFC .b4 .machine) = true := by decide +kernel

theorem test_meets_MemoryStaysCanonical : MemOk State.reset ∧ ∃ t, step State.reset = .next t :=
  ⟨⟨by decide +kernel, by decide +kernel⟩, _, rfl⟩

theorem test_meets_FusesNeverGoBack :
    ∃ t, step { wRun [] with pending := [.fwuConfirm 0] } = .next t := ⟨_, rfl⟩

theorem test_meets_FrameOfStorage :
    (∃ t, exec .bankEnforce (wRun []) = .next t) ∧ isWide .bankEnforce = false ∧ storesMem .bankEnforce = false
      ∧ storesFlash .bankEnforce = false ∧ storesFram .bankEnforce = false ∧ storesFuse .bankEnforce = false :=
  ⟨⟨_, rfl⟩, rfl, rfl, rfl, rfl, rfl⟩

theorem test_meets_FrameOfBlocks_reader :
    (∃ t, exec .lpcd (wRun []) = .next t) ∧ isWide .lpcd = false ∧ isReader .lpcd = true ∧ isLoad .lpcd = false
      ∧ fieldBlock F.SYS_SEAL_SEAL ≠ 0x1010 := ⟨⟨_, rfl⟩, rfl, rfl, rfl, by decide +kernel⟩

theorem test_meets_FrameOfBlocks_load :
    (∃ t, exec .bankEnforce (wRun []) = .next t) ∧ isWide .bankEnforce = false ∧ isLoad .bankEnforce = true
      ∧ isReader .bankEnforce = false ∧ isVehicle .bankEnforce = false ∧ isUart .bankEnforce = false
      ∧ isOptical .bankEnforce = false ∧ isKey .bankEnforce = false ∧ isYard .bankEnforce = false
      ∧ fieldBlock F.HFR_FLAGS_CMDDONE ≠ 0x1012 ∧ fieldBlock F.HFR_FLAGS_CMDDONE ≠ 0x1006
      ∧ fieldBlock F.HFR_FLAGS_CMDDONE ≠ 0x1015 :=
  ⟨⟨_, rfl⟩, rfl, rfl, rfl, rfl, rfl, rfl, rfl, rfl, by decide +kernel, by decide +kernel, by decide +kernel⟩

end
end

section
/-! SUPPORT. The transfer on the register bus between the dies and the persist channel: what each leaves, field by field, and the
statement of O6 from it. -/

namespace Sys2Proof.Machine

/-! ### Streams -/

/-- A stream reads the value put last, with the running tempo. -/
theorem strm_strmPut_self (k : Nat) (v : Int) (s : State) (d : Stream) (h : k < 64) :
    Tab.get d (strmPut k v s).strm k = ⟨v, some s.tmp.now⟩ :=
  Tab.get_upd_self d s.strm k _ h

/-- Every other stream reads as before. -/
theorem strm_strmPut_ne (k j : Nat) (v : Int) (s : State) (d : Stream) (h : j ≠ k) :
    Tab.get d (strmPut k v s).strm j = Tab.get d s.strm j :=
  Tab.get_upd_ne d s.strm k j _ h

/-! ### The register bus between the dies (R9) -/

/-- One value of a transfer that began in state `s` arrives in state `t`; what the analog-power die does not measure is dropped. -/
def dieArrive (s t : State) (x : Fin 64 × Int) : State :=
  if apStream x.1 then strmPut x.1 (apValue s x.1 x.2) t else t

theorem dieArrive_measured (s t : State) (x : Fin 64 × Int) (h : apStream x.1 = true) :
    dieArrive s t x = strmPut x.1 (apValue s x.1 x.2) t := if_pos h

@[simp] theorem dieArrive_tmp (s t : State) (x : Fin 64 × Int) : (dieArrive s t x).tmp = t.tmp := by
  unfold dieArrive; split <;> rfl

/-- A value that arrives leaves every stream but its own. -/
theorem strm_dieArrive_ne (s t : State) (x : Fin 64 × Int) (k : Fin 64) (d : Stream) (h : k ≠ x.1) :
    Tab.get d (dieArrive s t x).strm k = Tab.get d t.strm k := by
  unfold dieArrive; split
  · exact strm_strmPut_ne _ _ _ t d (Fin.val_ne_of_ne h)
  · rfl

/-- Values that arrive leave every stream they do not name. -/
theorem strm_dieArrives_of_notMem (s t : State) (vals : List (Fin 64 × Int)) (k : Fin 64) (d : Stream)
    (h : k ∉ vals.map (·.1)) : Tab.get d (vals.foldl (dieArrive s) t).strm k = Tab.get d t.strm k := by
  induction vals generalizing t with
  | nil => rfl
  | cons x xs ih =>
    simp only [List.map_cons, List.mem_cons, not_or] at h
    obtain ⟨hx, hxs⟩ := h
    exact (ih (dieArrive s t x) hxs).trans (strm_dieArrive_ne s t x k d hx)

/-- Every value of a transfer that names no stream twice reads back from its stream, where the analog-power die measures it. -/
theorem strm_dieArrives_of_mem (s t : State) (vals : List (Fin 64 × Int)) (x : Fin 64 × Int) (d : Stream)
    (hn : (vals.map (·.1)).Nodup) (hx : x ∈ vals) (ha : apStream x.1 = true) :
    Tab.get d (vals.foldl (dieArrive s) t).strm x.1 = ⟨apValue s x.1 x.2, some t.tmp.now⟩ := by
  induction vals generalizing t with
  | nil => cases hx
  | cons y ys ih =>
    obtain ⟨hy, hys⟩ := List.nodup_cons.mp hn
    rw [List.foldl_cons]
    rcases List.mem_cons.mp hx with rfl | hx
    · rw [strm_dieArrives_of_notMem s _ ys x.1 d hy, dieArrive_measured s t x ha, strm_strmPut_self _ _ t d x.1.isLt]
    · rw [ih (dieArrive s t y) hys hx, dieArrive_tmp]

/-- A transfer whose CRC is good, at first or repeated: its values arrive one after the other. -/
theorem exec_interdieTransfer_good (ok1 ok2 : Bool) (vals : List (Fin 64 × Int)) (s : State) (hr : s.tmp.running = true)
    (hok : (ok1 || ok2) = true) : exec (.interdieTransfer ok1 ok2 vals) s = .next (vals.foldl (dieArrive s) s) := by
  change execInterdieTransfer ok1 ok2 vals s = _
  simp only [execInterdieTransfer, hr, hok, Bool.not_true, Bool.false_eq_true, if_false, if_true]
  rfl

/-- A transfer that fails twice is the condition DIELINK, whose reaction is MATE where the tempo before held it too. -/
theorem exec_interdieTransfer_failed (vals : List (Fin 64 × Int)) (s : State) (hr : s.tmp.running = true) :
    exec (.interdieTransfer false false vals) s = .next (safCause 0x09 0 (s.saf.prev.contains (0x09, 0)) s) := by
  change execInterdieTransfer false false vals s = _
  simp [execInterdieTransfer, hr]

/-- A condition is held in its tempo, and its reaction falls due at the edge (R166, R172). -/
theorem safCause_demands (code data : Nat) (mate : Bool) (s : State) : Demands (safCause code data mate s) code data mate := by
  constructor
  · by_cases h : (code, data) ∈ s.saf.cur <;> simp [safCause, h]
  · cases mate <;> simp [safCause]

/-! ### The persist channel (R11, R187, R280) -/

/-- A record goes to one of two slots. -/
theorem olderCopy_lt_two (a b : Option Nat) : olderCopy a b < 2 := by
  unfold olderCopy; split
  · omega
  · omega
  · split <;> omega

/-- A proof on its way: its contents stand in the older copy and its CRC does not. -/
theorem persistRequest_proof (s : State) (b : Bytes) (rest : List PersistRec) (hp : s.persist = none)
    (ho : s.saf.outbox = .proof b :: rest) :
    persistRequest s = { s with
      persist := some (.proof b, olderProofSlot s), saf.outbox := rest
      fram.proof := Tab.upd s.fram.proof (olderProofSlot s) (unCommitted b) } := by
  simp only [persistRequest, hp, ho]

/-- A wear copy on its way. -/
theorem persistRequest_wear (s : State) (b : Bytes) (rest : List PersistRec) (hp : s.persist = none)
    (ho : s.saf.outbox = .wear b :: rest) :
    persistRequest s = { s with
      persist := some (.wear b, olderWearSlot s), saf.outbox := rest
      fram.wear := Tab.upd s.fram.wear (olderWearSlot s) (unCommitted b) } := by
  simp only [persistRequest, hp, ho]

/-- A wear copy committed stands whole in its slot. -/
theorem persistCommit_wear (s : State) (b : Bytes) (k : Nat) (hp : s.persist = some (.wear b, k)) :
    persistCommit s = { s with persist := none, fram.wear := Tab.upd s.fram.wear k (fun _ => b) } := by
  simp only [persistCommit, hp]

/-- A proof committed stands whole in its slot, is taken from there, and raises GUARDPROOF. -/
theorem persistCommit_proof (s : State) (b : Bytes) (k : Nat) (hp : s.persist = some (.proof b, k)) :
    persistCommit s = raiseSaf F.SAF_FLAGS_GUARDPROOF
      (proofTake b { s with persist := none, fram.proof := Tab.upd s.fram.proof k (fun _ => b) }) := by
  simp only [persistCommit, hp]

/-- GUARDPROOF raised reads 1 (R38). -/
theorem rget_raiseSaf_guardproof (s : State) : rget (raiseSaf F.SAF_FLAGS_GUARDPROOF s) F.SAF_FLAGS_GUARDPROOF = 1 :=
  rget_raiseData_flag 0 F.SAF_EVCNT_COUNT F.SAF_FLAGS_GUARDPROOF s (by decide) (by decide) (by decide)

/-- The proof in force is the record taken. -/
theorem proofTake_saf (b : Bytes) (s : State) : (proofTake b s).saf
    = { s.saf with proofSeq := u32 b 4, proofTime := u64 b 8, proofDig := some (slice b 0x10 32) } := rfl

@[simp] theorem proofTake_persist (b : Bytes) (s : State) : (proofTake b s).persist = s.persist := rfl
@[simp] theorem proofTake_fram (b : Bytes) (s : State) : (proofTake b s).fram = s.fram := rfl

/-- A transfer with a good CRC delivers every value that the analog-power die measures (R9). -/
theorem does_interdieTransfer_good (ok1 ok2 : Bool) (vals : List (Fin 64 × Int)) (s : State) (hr : s.tmp.running = true)
    (hok : (ok1 || ok2) = true) (hn : (vals.map (·.1)).Nodup) :
    Does (.interdieTransfer ok1 ok2 vals) s (fun t => ∀ x ∈ vals, apStream x.1 = true →
      Tab.get Stream.reset t.strm x.1 = ⟨apValue s x.1 x.2, some s.tmp.now⟩) :=
  ⟨_, exec_interdieTransfer_good ok1 ok2 vals s hr hok, fun x hx ha => strm_dieArrives_of_mem s s vals x _ hn hx ha⟩

/-- A transfer that fails twice in a tempo demands its reaction and delivers nothing (R9). -/
theorem does_interdieTransfer_failed (vals : List (Fin 64 × Int)) (s : State) (hr : s.tmp.running = true) :
    Does (.interdieTransfer false false vals) s (fun t =>
      Demands t 0x09 0 (s.saf.prev.contains (0x09, 0)) ∧ t.strm = s.strm) :=
  ⟨_, exec_interdieTransfer_failed vals s hr, safCause_demands _ _ _ s, safCause_strm _ _ _ s⟩

/-- The channel takes a proof from the queue, and its contents go to the older copy (R11, R187). -/
theorem does_persistRequest_proof (s : State) (b : Bytes) (rest : List PersistRec) (hp : s.persist = none)
    (ho : s.saf.outbox = .proof b :: rest) :
    Does .persistRequest s (fun t => t.persist = some (.proof b, olderProofSlot s) ∧ t.saf.outbox = rest
      ∧ Tab.get [] t.fram.proof (olderProofSlot s) = unCommitted b (Tab.get [] s.fram.proof (olderProofSlot s))) := by
  refine ⟨persistRequest s, rfl, ?_⟩
  rw [persistRequest_proof s b rest hp ho]
  exact ⟨rfl, rfl, Tab.get_upd_self _ _ _ _ (olderCopy_lt_two _ _)⟩

/-- The channel takes a wear copy from the queue, and its contents go to the older copy (R11, R280). -/
theorem does_persistRequest_wear (s : State) (b : Bytes) (rest : List PersistRec) (hp : s.persist = none)
    (ho : s.saf.outbox = .wear b :: rest) :
    Does .persistRequest s (fun t => t.persist = some (.wear b, olderWearSlot s) ∧ t.saf.outbox = rest
      ∧ Tab.get [] t.fram.wear (olderWearSlot s) = unCommitted b (Tab.get [] s.fram.wear (olderWearSlot s))) := by
  refine ⟨persistRequest s, rfl, ?_⟩
  rw [persistRequest_wear s b rest hp ho]
  exact ⟨rfl, rfl, Tab.get_upd_self _ _ _ _ (olderCopy_lt_two _ _)⟩

/-- The commit of a wear copy frees the channel and leaves the copy whole in the FRAM (R11, R280). -/
theorem does_persistCommitAck_wear (s : State) (b : Bytes) (k : Nat) (hk : k < 2) (hp : s.persist = some (.wear b, k)) :
    Does .persistCommitAck s (fun t => t.persist = none ∧ Tab.get [] t.fram.wear k = b) := by
  refine ⟨persistCommit s, rfl, ?_⟩
  rw [persistCommit_wear s b k hp]
  exact ⟨rfl, Tab.get_upd_self _ _ _ _ hk⟩

/-- The commit of a proof frees the channel, leaves the proof whole in the FRAM and puts it in force (R11, R187). -/
theorem does_persistCommitAck_proof (s : State) (b : Bytes) (k : Nat) (hk : k < 2) (hp : s.persist = some (.proof b, k)) :
    Does .persistCommitAck s (fun t => t.persist = none ∧ Tab.get [] t.fram.proof k = b ∧ t.saf.proofSeq = u32 b 4
      ∧ t.saf.proofTime = u64 b 8 ∧ t.saf.proofDig = some (slice b 0x10 32) ∧ rget t F.SAF_FLAGS_GUARDPROOF = 1) := by
  refine ⟨persistCommit s, rfl, ?_⟩
  rw [persistCommit_proof s b k hp]
  refine ⟨by simp, ?_, by simp [proofTake_saf], by simp [proofTake_saf], by simp [proofTake_saf], rget_raiseSaf_guardproof _⟩
  simpa using Tab.get_upd_self _ _ _ _ hk

/-- Settles O6: each clause is what the transfer or the channel does in its case. -/
theorem dieLinkAndPersistChannel : Obligations.DieLinkAndPersistChannel := by
  intro s
  refine ⟨?good, ?failed, ?requestProof, ?requestWear, ?commitWear, ?commitProof⟩
  case good => exact fun ok1 ok2 vals hr hok hn => does_interdieTransfer_good ok1 ok2 vals s hr hok hn
  case failed => exact fun vals hr => does_interdieTransfer_failed vals s hr
  case requestProof => exact fun b rest hp ho => does_persistRequest_proof s b rest hp ho
  case requestWear => exact fun b rest hp ho => does_persistRequest_wear s b rest hp ho
  case commitWear => exact fun b k hk hp => does_persistCommitAck_wear s b k hk hp
  case commitProof => exact fun b k hk hp => does_persistCommitAck_proof s b k hk hp

end Sys2Proof.Machine
end

section

/-! SUPPORT. The frame of the tempo unit: no function of another unit writes the tempo unit's state or its registers. -/

namespace Sys2Proof.Machine

/-! ### What the units leave alone -/

/-- Whether a register field lies in the TMP block (R29). -/
def inTempoBlock (f : Fld) : Bool := fieldBlock f == 0x1004

/-- The fields of the TMP block in a register file; every other field reads 0. -/
def tempoRegs (m : Tbl Nat) (f : Fld) : Nat := if inTempoBlock f then Tbl.get m (fkey f) f.rst else 0

/-- The part of a state that belongs to the tempo unit: its state and its registers, the signature of the program flow, the entry of the
power state, and what INTEGRATE has handed over to BOOK. No other unit writes it, in a duty or at the edge. -/
structure TempoView where
  tmp : TmpState
  flow : Nat
  entry : PwrEntry
  inbox : List (Nat × List Inc)
  reg : Fld → Nat

/-- The view of a state. -/
def tempoView (s : State) : TempoView := ⟨s.tmp, s.saf.flow, s.pwr.entry, s.bil.inbox, tempoRegs s.regs⟩

/-- The view of an updated state: of a state written out, and a view written out folded again. `simp` applies both on the way down,
before it looks into the fields. -/
theorem tempoView_update : (∀ pending regs resp shadow stage mem flash sec loaded freeCtr tmp brd strm fz outs outsF mtx saf lea yrd net ua bil
      persist pwr fwu fram fuse mtr opt key legalSeg lcd veh hfr lch layDig,
    tempoView ⟨pending, regs, resp, shadow, stage, mem, flash, sec, loaded, freeCtr, tmp, brd, strm, fz, outs, outsF, mtx, saf, lea, yrd, net,
      ua, bil, persist, pwr, fwu, fram, fuse, mtr, opt, key, legalSeg, lcd, veh, hfr, lch, layDig⟩
      = ⟨tmp, saf.flow, pwr.entry, bil.inbox, tempoRegs regs⟩)
    ∧ ∀ s : State, TempoView.mk s.tmp s.saf.flow s.pwr.entry s.bil.inbox (tempoRegs s.regs) = tempoView s := by
  simp only [tempoView, implies_true, and_self]

@[simp] theorem tempoView_ite (c : Prop) [Decidable c] (s t : State) :
    tempoView (if c then s else t) = if c then tempoView s else tempoView t := apply_ite ..

@[simp] theorem tempoView_rput (f : Fld) (v : Nat) (s : State) (h : inTempoBlock f = false) : tempoView (rput f v s) = tempoView s := by
  have : tempoRegs (rput f v s).regs = tempoRegs s.regs := by
    funext g
    unfold tempoRegs
    split
    · rename_i hg
      refine rget_rput_ne f g v s ?_
      intro e
      rw [inTempoBlock, fieldBlock, ← e] at h
      rw [inTempoBlock, fieldBlock, h] at hg
      cases hg
    · rfl
  simp only [tempoView, this]; rfl

@[simp] theorem tempoView_rputB (f : Fld) (v : Bool) (s : State) (h : inTempoBlock f = false) : tempoView (rputB f v s) = tempoView s :=
  tempoView_rput f _ s h

@[simp] theorem tempoView_rsat (f : Fld) (v : Nat) (s : State) (h : inTempoBlock f = false) : tempoView (rsat f v s) = tempoView s :=
  tempoView_rput f _ s h

@[simp] theorem tempoView_rputAt (f : Fld) (i : Nat) (b : Bool) (s : State) (h : inTempoBlock f = false) :
    tempoView (rputAt f i b s) = tempoView s := tempoView_rput f _ s h

@[simp] theorem tempoView_foldl {α : Type} (g : State → α → State) (l : List α) (s : State) (h : ∀ t a, tempoView (g t a) = tempoView t) :
    tempoView (l.foldl g s) = tempoView s := by
  induction l generalizing s with
  | nil => rfl
  | cons a l ih => rw [List.foldl_cons, ih, h]

@[simp] theorem tempoView_eachUpTo (n : Nat) (f : Nat → State → State) (s : State) (h : ∀ i t, tempoView (f i t) = tempoView t) :
    tempoView (eachUpTo n f s) = tempoView s := tempoView_foldl _ _ _ (fun t i => h i t)

@[simp] theorem tempoView_freeNat (s : State) : tempoView (freeNat s).2 = tempoView s := rfl

@[simp] theorem tempoView_safPostAt (t a c d : Nat) (s : State) : tempoView (safPostAt t a c d s) = tempoView s := by
  unfold safPostAt
  simp +decide [↓tempoView_update]
@[simp] theorem tempoView_safPost (a c d : Nat) (s : State) : tempoView (safPost a c d s) = tempoView s := tempoView_safPostAt ..

theorem tempoView_flagSet (d : Nat) (f : Fld) (s : State) (h : inTempoBlock f = false) : tempoView (flagSet d f s) = tempoView s := by
  unfold flagSet; split <;> simp [h]

@[simp] theorem tempoView_raiseData (d : Nat) (c : Fld) (fl : List Fld) (s : State) (hc : inTempoBlock c = false)
    (hf : fl.all (fun f => !inTempoBlock f) = true) : tempoView (raiseData d c fl s) = tempoView s := by
  have hl : tempoView (fl.foldl (fun t f => flagSet d f t) s) = tempoView s := by
    induction fl generalizing s with
    | nil => rfl
    | cons f l ih =>
      simp only [List.all_cons, Bool.and_eq_true, Bool.not_eq_true'] at hf
      rw [List.foldl_cons, ih _ hf.2, tempoView_flagSet d f s hf.1]
  rw [raiseData, tempoView_rsat _ _ _ hc, hl]

@[simp] theorem tempoView_raise (c : Fld) (fl : List Fld) (s : State) (hc : inTempoBlock c = false)
    (hf : fl.all (fun f => !inTempoBlock f) = true) : tempoView (raise c fl s) = tempoView s := tempoView_raiseData 0 c fl s hc hf

@[simp] theorem tempoView_raiseIf (b : Bool) (c : Fld) (fl : List Fld) (s : State) (hc : inTempoBlock c = false)
    (hf : fl.all (fun f => !inTempoBlock f) = true) : tempoView (raiseIf b c fl s) = tempoView s := by
  unfold raiseIf; split
  · exact tempoView_raise c fl s hc hf
  · rfl

theorem inTempoBlock_of_le (f : Fld) (h : 0x10050000 ≤ f.addr) : inTempoBlock f = false := by
  simp only [inTempoBlock, fieldBlock, fkey, beq_eq_false_iff_ne, ne_eq]
  omega

/-! ### The indexed registers of the other blocks -/

@[simp] theorem inTempoBlock_BRD_STALE_STALE (i : Nat) : inTempoBlock (F.BRD_STALE_STALE i) = false :=
  inTempoBlock_of_le _ (Nat.le_add_right_of_le (by decide))
@[simp] theorem inTempoBlock_OUT_CAUSE_REJ (i : Nat) : inTempoBlock (F.OUT_CAUSE_REJ i) = false :=
  inTempoBlock_of_le _ (Nat.le_add_right_of_le (by decide))
@[simp] theorem inTempoBlock_OUT_CTRL_DIR (i : Nat) : inTempoBlock (F.OUT_CTRL_DIR i) = false :=
  inTempoBlock_of_le _ (Nat.le_add_right_of_le (by decide))
@[simp] theorem inTempoBlock_OUT_EVCNT_COUNT (i : Nat) : inTempoBlock (F.OUT_EVCNT_COUNT i) = false :=
  inTempoBlock_of_le _ (Nat.le_add_right_of_le (by decide))
@[simp] theorem inTempoBlock_OUT_FLAGS_AUTHREF (i : Nat) : inTempoBlock (F.OUT_FLAGS_AUTHREF i) = false :=
  inTempoBlock_of_le _ (Nat.le_add_right_of_le (by decide))
@[simp] theorem inTempoBlock_OUT_FLAGS_BUDGET (i : Nat) : inTempoBlock (F.OUT_FLAGS_BUDGET i) = false :=
  inTempoBlock_of_le _ (Nat.le_add_right_of_le (by decide))
@[simp] theorem inTempoBlock_OUT_FLAGS_CAUSE (i : Nat) : inTempoBlock (F.OUT_FLAGS_CAUSE i) = false :=
  inTempoBlock_of_le _ (Nat.le_add_right_of_le (by decide))
@[simp] theorem inTempoBlock_OUT_FLAGS_CCDONE (i : Nat) : inTempoBlock (F.OUT_FLAGS_CCDONE i) = false :=
  inTempoBlock_of_le _ (Nat.le_add_right_of_le (by decide))
@[simp] theorem inTempoBlock_OUT_FLAGS_EVSLOW (i : Nat) : inTempoBlock (F.OUT_FLAGS_EVSLOW i) = false :=
  inTempoBlock_of_le _ (Nat.le_add_right_of_le (by decide))
@[simp] theorem inTempoBlock_OUT_FLAGS_HARDBRK (i : Nat) : inTempoBlock (F.OUT_FLAGS_HARDBRK i) = false :=
  inTempoBlock_of_le _ (Nat.le_add_right_of_le (by decide))
@[simp] theorem inTempoBlock_OUT_FLAGS_PCMATCH (i : Nat) : inTempoBlock (F.OUT_FLAGS_PCMATCH i) = false :=
  inTempoBlock_of_le _ (Nat.le_add_right_of_le (by decide))
@[simp] theorem inTempoBlock_OUT_FLAGS_REQOVW (i : Nat) : inTempoBlock (F.OUT_FLAGS_REQOVW i) = false :=
  inTempoBlock_of_le _ (Nat.le_add_right_of_le (by decide))
@[simp] theorem inTempoBlock_OUT_FLAGS_REQREJ (i : Nat) : inTempoBlock (F.OUT_FLAGS_REQREJ i) = false :=
  inTempoBlock_of_le _ (Nat.le_add_right_of_le (by decide))
@[simp] theorem inTempoBlock_OUT_FLAGS_STCHG (i : Nat) : inTempoBlock (F.OUT_FLAGS_STCHG i) = false :=
  inTempoBlock_of_le _ (Nat.le_add_right_of_le (by decide))
@[simp] theorem inTempoBlock_SAF_ISO_EXTRAP (i : Nat) : inTempoBlock (F.SAF_ISO_EXTRAP i) = false :=
  inTempoBlock_of_le _ (Nat.le_add_right_of_le (by decide))
@[simp] theorem inTempoBlock_SAF_ISO_FAULT (i : Nat) : inTempoBlock (F.SAF_ISO_FAULT i) = false :=
  inTempoBlock_of_le _ (Nat.le_add_right_of_le (by decide))
@[simp] theorem inTempoBlock_SAF_ISO_INVALID (i : Nat) : inTempoBlock (F.SAF_ISO_INVALID i) = false :=
  inTempoBlock_of_le _ (Nat.le_add_right_of_le (by decide))
@[simp] theorem inTempoBlock_SAF_ISO_OHMV (i : Nat) : inTempoBlock (F.SAF_ISO_OHMV i) = false :=
  inTempoBlock_of_le _ (Nat.le_add_right_of_le (by decide))
@[simp] theorem inTempoBlock_SAF_ISO_WARN (i : Nat) : inTempoBlock (F.SAF_ISO_WARN i) = false :=
  inTempoBlock_of_le _ (Nat.le_add_right_of_le (by decide))
@[simp] theorem inTempoBlock_VEH_EVCNT_COUNT (i : Nat) : inTempoBlock (F.VEH_EVCNT_COUNT i) = false :=
  inTempoBlock_of_le _ (Nat.le_add_right_of_le (by decide))
@[simp] theorem inTempoBlock_VEH_FLAGS_BUFERR (i : Nat) : inTempoBlock (F.VEH_FLAGS_BUFERR i) = false :=
  inTempoBlock_of_le _ (Nat.le_add_right_of_le (by decide))
@[simp] theorem inTempoBlock_VEH_FLAGS_RXDONE (i : Nat) : inTempoBlock (F.VEH_FLAGS_RXDONE i) = false :=
  inTempoBlock_of_le _ (Nat.le_add_right_of_le (by decide))
@[simp] theorem inTempoBlock_VEH_FLAGS_RXDROP (i : Nat) : inTempoBlock (F.VEH_FLAGS_RXDROP i) = false :=
  inTempoBlock_of_le _ (Nat.le_add_right_of_le (by decide))
@[simp] theorem inTempoBlock_VEH_FLAGS_TXDONE (i : Nat) : inTempoBlock (F.VEH_FLAGS_TXDONE i) = false :=
  inTempoBlock_of_le _ (Nat.le_add_right_of_le (by decide))
@[simp] theorem inTempoBlock_VEH_SLACS_NSOUND (i : Nat) : inTempoBlock (F.VEH_SLACS_NSOUND i) = false :=
  inTempoBlock_of_le _ (Nat.le_add_right_of_le (by decide))
@[simp] theorem inTempoBlock_VEH_XATT_ATT (i : Nat) : inTempoBlock (F.VEH_XATT_ATT i) = false :=
  inTempoBlock_of_le _ (Nat.le_add_right_of_le (by decide))
/-! ### The updates of the units -/

@[simp] theorem tempoView_memWrite (a : Nat) (b : Bytes) (s : State) : tempoView (memWrite a b s) = tempoView s := by
  unfold memWrite
  simp +decide [↓tempoView_update]

@[simp] theorem tempoView_onOutlet (n : Nat) (f : Outlet → Outlet) (s : State) : tempoView (onOutlet n f s) = tempoView s := by
  simp +decide [onOutlet, ↓tempoView_update]

@[simp] theorem tempoView_onCoil (c : Nat) (f : Coil → Coil) (s : State) : tempoView (onCoil c f s) = tempoView s := by
  simp +decide [onCoil, ↓tempoView_update]

@[simp] theorem tempoView_onGroup (g : Nat) (f : Group → Group) (s : State) : tempoView (onGroup g f s) = tempoView s := by
  simp +decide [onGroup, ↓tempoView_update]

@[simp] theorem tempoView_onBus (b : Nat) (f : BusSt → BusSt) (s : State) : tempoView (onBus b f s) = tempoView s := by
  simp +decide [onBus, ↓tempoView_update]

@[simp] theorem tempoView_onIso (n : Nat) (f : IsoMon → IsoMon) (s : State) : tempoView (onIso n f s) = tempoView s := by
  simp +decide [onIso, ↓tempoView_update]

@[simp] theorem tempoView_onSOut (x : Nat) (f : SOut → SOut) (s : State) : tempoView (onSOut x f s) = tempoView s := by
  simp +decide [onSOut, ↓tempoView_update]

@[simp] theorem tempoView_strmPut (k : Nat) (v : Int) (s : State) : tempoView (strmPut k v s) = tempoView s := by
  simp +decide [strmPut, ↓tempoView_update]

@[simp] theorem tempoView_raiseSaf (f : Fld) (s : State) (h : inTempoBlock f = false) : tempoView (raiseSaf f s) = tempoView s := by
  simp +decide [raiseSaf, h]

@[simp] theorem tempoView_raiseMtx (f : Fld) (s : State) (h : inTempoBlock f = false) : tempoView (raiseMtx f s) = tempoView s := by
  simp +decide [raiseMtx, h]

@[simp] theorem tempoView_raiseSio (f : Fld) (ch : Nat) (s : State) (h : inTempoBlock f = false) : tempoView (raiseSio f ch s) = tempoView s := by
  simp +decide [raiseSio, h]

@[simp] theorem tempoView_raiseOut (n : Nat) (f : Nat → Fld) (s : State) (h : inTempoBlock (f n) = false) :
    tempoView (raiseOut n f s) = tempoView s := by
  simp [raiseOut, h]

@[simp] theorem tempoView_raiseLea (f : Fld) (s : State) (h : inTempoBlock f = false) : tempoView (raiseLea f s) = tempoView s := by
  simp +decide [raiseLea, h]

theorem tempoView_foldl_of_mem {α : Type} (g : State → α → State) (l : List α) (s : State)
    (h : ∀ t, ∀ a ∈ l, tempoView (g t a) = tempoView t) : tempoView (l.foldl g s) = tempoView s := by
  induction l generalizing s with
  | nil => rfl
  | cons a l ih =>
    rw [List.foldl_cons, ih _ (fun t b hb => h t b (List.mem_cons_of_mem _ hb)), h s a List.mem_cons_self]

@[simp] theorem tempoView_digestPut (f : Nat → Fld) (b : Bytes) (s : State) (h : ∀ k < 8, inTempoBlock (f k) = false) :
    tempoView (digestPut f b s) = tempoView s :=
  tempoView_foldl_of_mem _ _ s (fun t k hk => tempoView_rput _ _ t (h k (List.mem_range.mp hk)))

@[simp] theorem tempoView_onChan (c : Nat) (f : Chan → Chan) (s : State) : tempoView (onChan c f s) = tempoView s := by
  simp +decide [onChan, ↓tempoView_update]

@[simp] theorem tempoView_onPil (c : Nat) (f : PilTrack → PilTrack) (s : State) : tempoView (onPil c f s) = tempoView s := by
  simp +decide [onPil]

@[simp] theorem tempoView_raiseMtr (f : Fld) (s : State) (h : inTempoBlock f = false) : tempoView (raiseMtr f s) = tempoView s := by
  simp +decide [raiseMtr, h]

@[simp] theorem tempoView_withFaults (c : Nat) (f : State → State) (s : State) (h : ∀ t, tempoView (f t) = tempoView t) :
    tempoView (withFaults c f s) = tempoView s := by
  simp +decide [withFaults, ↓tempoView_update, h]

/-! ### The meter -/

@[simp] theorem tempoView_poTake (uwh : Nat) (s : State) : tempoView (poTake uwh s) = tempoView s := by
  simp +decide [poTake, ↓tempoView_update]

@[simp] theorem tempoView_capWrite (s : State) : tempoView (capWrite s) = tempoView s := by
  simp +decide [capWrite, ↓tempoView_update]

@[simp] theorem tempoView_edgeMeter (sec : Bool) (s : State) : tempoView (edgeMeter sec s) = tempoView s := by
  simp +decide [edgeMeter, ↓tempoView_update]

/-! ### The billing unit -/

@[simp] theorem tempoView_onPort (i : Nat) (f : List PortJob → List PortJob) (s : State) : tempoView (onPort i f s) = tempoView s := by
  simp +decide [onPort, ↓tempoView_update]

@[simp] theorem tempoView_onDyn (f : Legal → Legal) (s : State) : tempoView (onDyn f s) = tempoView s := by
  simp +decide [onDyn, ↓tempoView_update]

@[simp] theorem tempoView_onLreg (j : Nat) (f : LReg → LReg) (s : State) : tempoView (onLreg j f s) = tempoView s := by
  simp +decide [onLreg, ↓tempoView_update]

@[simp] theorem tempoView_onSess (n : Nat) (f : Sess → Sess) (s : State) : tempoView (onSess n f s) = tempoView s := by
  simp +decide [onSess, ↓tempoView_update]

@[simp] theorem tempoView_raiseBil (f : Fld) (s : State) (h : inTempoBlock f = false) : tempoView (raiseBil f s) = tempoView s := by
  simp +decide [raiseBil, h]

@[simp] theorem tempoView_billUpdate (s : State) : tempoView (billUpdate s) = tempoView s := by
  simp +decide [billUpdate, ↓tempoView_update]

@[simp] theorem tempoView_bilPostAt (t source code n data : Nat) (s : State) : tempoView (bilPostAt t source code n data s) = tempoView s := by
  simp +decide [bilPostAt, ↓tempoView_update]

@[simp] theorem tempoView_bilPost (source code n data : Nat) (s : State) : tempoView (bilPost source code n data s) = tempoView s := by
  simp +decide [bilPost]

@[simp] theorem tempoView_logLegal (lt typ detail : Nat) (arg0 arg1 : Int) (s : State) :
    tempoView (logLegal lt typ detail arg0 arg1 s) = tempoView s := by
  simp +decide [logLegal, ↓tempoView_update]

@[simp] theorem tempoView_logLegalFree (lt typ detail : Nat) (arg1 : Int) (s : State) :
    tempoView (logLegalFree lt typ detail arg1 s) = tempoView s := by
  simp +decide [logLegalFree]

@[simp] theorem tempoView_jDue (typ : Nat) (s : State) : tempoView (jDue typ s) = tempoView s := by
  simp +decide [jDue, ↓tempoView_update]

@[simp] theorem tempoView_onSlot (seq : Nat) (f : Option JSlot → Option JSlot) (s : State) : tempoView (onSlot seq f s) = tempoView s := by
  simp +decide [onSlot, ↓tempoView_update]

@[simp] theorem tempoView_jStart (s : State) : tempoView (jStart s) = tempoView s := by
  unfold jStart
  split <;> simp +decide [↓tempoView_update]

@[simp] theorem tempoView_jPut (typ : Nat) (logs : List (Bool × Bytes)) (s : State) : tempoView (jPut typ logs s) = tempoView s := by
  unfold jPut
  simp +decide [↓tempoView_update]

@[simp] theorem tempoView_jPutAll (types : List Nat) (s : State) : tempoView (jPutAll types s) = tempoView s := by
  unfold jPutAll
  split <;> simp +decide [↓tempoView_update]

@[simp] theorem tempoView_epochUpdate (s : State) : tempoView (epochUpdate s) = tempoView s := by
  unfold epochUpdate
  simp +decide

@[simp] theorem tempoView_bookInc (tariff : Nat) (i : Inc) (s : State) : tempoView (bookInc tariff i s) = tempoView s := by
  unfold bookInc
  repeat' split
  all_goals simp +decide

@[simp] theorem tempoView_lateLog (late : Bool) (b kind : Nat) (s : State) : tempoView (lateLog late b kind s) = tempoView s := by
  unfold lateLog
  simp +decide

@[simp] theorem tempoView_demandReg (b : Nat) (zero : Bool) (j : Nat) (s : State) : tempoView (demandReg b zero j s) = tempoView s := by
  simp +decide [demandReg]

@[simp] theorem tempoView_demandClose (b : Nat) (zero late : Bool) (s : State) : tempoView (demandClose b zero late s) = tempoView s := by
  simp +decide [demandClose]

@[simp] theorem tempoView_tariffSwitch (b : Nat) (late : Bool) (s : State) : tempoView (tariffSwitch b late s) = tempoView s := by
  simp +decide [tariffSwitch]

@[simp] theorem tempoView_periodClose (b : Nat) (late : Bool) (s : State) : tempoView (periodClose b late s) = tempoView s := by
  unfold periodClose
  simp +decide
  split <;> simp +decide [↓tempoView_update]

@[simp] theorem tempoView_calActivate (b : Nat) (late : Bool) (s : State) : tempoView (calActivate b late s) = tempoView s := by
  unfold calActivate
  simp +decide

@[simp] theorem tempoView_boundAt (zero late : Bool) (b : Nat) (s : State) : tempoView (boundAt zero late b s) = tempoView s := by
  simp +decide [boundAt]

@[simp] theorem tempoView_boundLoop (zero late : Bool) (n lo hi : Nat) (s : State) :
    tempoView (boundLoop zero late n lo hi s) = tempoView s := by
  induction n generalizing lo s with
  | zero => rfl
  | succ n ih => simp [boundLoop, ih]

@[simp] theorem tempoView_boundaries (zero late : Bool) (lo hi : Nat) (s : State) :
    tempoView (boundaries zero late lo hi s) = tempoView s := tempoView_boundLoop ..

@[simp] theorem tempoView_markTo (hi : Nat) (s : State) : tempoView (markTo hi s) = tempoView s := by
  unfold markTo
  simp +decide

@[simp] theorem tempoView_sessOpen (n at_ : Nat) (s : State) : tempoView (sessOpen n at_ s) = tempoView s := by
  simp +decide [sessOpen, ↓tempoView_update]

@[simp] theorem tempoView_recordSign (b : Bytes) (s : State) : tempoView (recordSign b s).2 = tempoView s := by
  unfold recordSign
  split <;> simp +decide

@[simp] theorem tempoView_recordStore (n q : Nat) (b : Bytes) (s : State) : tempoView (recordStore n q b s) = tempoView s := by
  unfold recordStore
  simp +decide [↓tempoView_update]

@[simp] theorem tempoView_portServe (s : State) : tempoView (portServe s) = tempoView s := by
  unfold portServe
  rw [tempoView_foldl, tempoView_onPort]
  intro t x
  cases x <;> simp

@[simp] theorem tempoView_sessClose (n closeAt closeLt : Nat) (s : State) : tempoView (sessClose n closeAt closeLt s) = tempoView s := by
  unfold sessClose
  split <;> simp +decide

@[simp] theorem tempoView_sessEvent (e : Nat × SessEv × Nat) (s : State) : tempoView (sessEvent e s) = tempoView s := by
  unfold sessEvent
  split <;> simp +decide

@[simp] theorem tempoView_sessFlags (s : State) : tempoView (sessFlags s) = tempoView s := by
  unfold sessFlags
  simp +decide

@[simp] theorem tempoView_validTo (t : Nat) (d : Int) (v : Bool) (s : State) : tempoView (validTo t d v s) = tempoView s := by
  simp +decide [validTo, ↓tempoView_update]

@[simp] theorem tempoView_ltCheck (s : State) : tempoView (ltCheck s) = tempoView s := by
  simp +decide [ltCheck, ↓tempoView_update]

@[simp] theorem tempoView_legalMoved (delta : Int) (code : Nat) (s : State) : tempoView (legalMoved delta code s) = tempoView s := by
  simp +decide [legalMoved, ↓tempoView_update]

@[simp] theorem tempoView_edgeLegal (cstep : Int) (s : State) : tempoView (edgeLegal cstep s) = tempoView s := by
  unfold edgeLegal
  split <;> simp +decide [↓tempoView_update]

@[simp] theorem tempoView_bookJump (s : State) : tempoView (bookJump s) = tempoView s := by
  unfold bookJump
  split <;> simp +decide [↓tempoView_update]

@[simp] theorem tempoView_bookBatch (newOff : Int) (b : Nat × List Inc) (s : State) : tempoView (bookBatch newOff b s) = tempoView s := by
  unfold bookBatch
  simp +decide

@[simp] theorem tempoView_slewStep (s : State) : tempoView (slewStep s) = tempoView s := by
  simp +decide [slewStep, ↓tempoView_update]

@[simp] theorem tempoView_bookEvents (s : State) : tempoView (bookEvents s) = tempoView s := by
  simp +decide [bookEvents, ↓tempoView_update]

@[simp] theorem tempoView_bookCommit (s : State) : tempoView (bookCommit s) = tempoView s := by
  simp +decide [bookCommit, ↓tempoView_update]

@[simp] theorem tempoView_pfwEntry (s : State) : tempoView (pfwEntry s) = tempoView s := by
  simp +decide [pfwEntry, ↓tempoView_update]

@[simp] theorem tempoView_legalDraw (s : State) : tempoView (legalDraw s) = tempoView s := by
  simp +decide [legalDraw, ↓tempoView_update]

@[simp] theorem tempoView_bilResult (op code : Nat) (s : State) : tempoView (bilResult op code s) = tempoView s := by
  simp +decide [bilResult]

@[simp] theorem tempoView_bilPop (s : State) : tempoView (bilPop s) = tempoView s := by
  simp +decide [bilPop, ↓tempoView_update]

@[simp] theorem tempoView_bilUnknown (s : State) : tempoView (bilUnknown s) = tempoView s := by
  unfold bilUnknown
  split <;> simp +decide

@[simp] theorem tempoView_edgeBill (cstep : Int) (s : State) : tempoView (edgeBill cstep s) = tempoView s := by
  unfold edgeBill
  simp +decide [↓tempoView_update]

/-! ### The outlets, the coils and the safety controller -/

@[simp] theorem tempoView_outPend (n : Nat) (f : Nat → Fld) (s : State) : tempoView (outPend n f s) = tempoView s := by
  simp +decide [outPend]

@[simp] theorem tempoView_outCause (n code : Nat) (s : State) : tempoView (outCause n code s) = tempoView s := by
  simp +decide [outCause]

@[simp] theorem tempoView_outGo (n : Nat) (st : OutSt) (s : State) : tempoView (outGo n st s) = tempoView s := by
  simp +decide [outGo]

@[simp] theorem tempoView_sessionEvent (n : Nat) (e : SessEv) (s : State) : tempoView (sessionEvent n e s) = tempoView s := by
  simp +decide [sessionEvent]

@[simp] theorem tempoView_outReject (n reason : Nat) (s : State) : tempoView (outReject n reason s) = tempoView s := by
  simp +decide [outReject]

@[simp] theorem tempoView_safRecord (code data : Nat) (s : State) : tempoView (safRecord code data s) = tempoView s := by
  simp +decide [safRecord]

@[simp] theorem tempoView_safCause (code data : Nat) (mate : Bool) (s : State) : tempoView (safCause code data mate s) = tempoView s := by
  simp +decide [safCause, ↓tempoView_update]

@[simp] theorem tempoView_coilCmd (c : Nat) (b : Bool) (s : State) : tempoView (coilCmd c b s) = tempoView s := by
  simp +decide [coilCmd]

@[simp] theorem tempoView_coilFault (c : Nat) (s : State) : tempoView (coilFault c s) = tempoView s := by
  simp +decide [coilFault]

@[simp] theorem tempoView_hardBreak (c : Nat) (s : State) : tempoView (hardBreak c s) = tempoView s := by
  unfold hardBreak
  simp +decide
  split <;> simp +decide

@[simp] theorem tempoView_coilDrive (c : Nat) (b : Bool) (s : State) : tempoView (coilDrive c b s) = tempoView s := by
  unfold coilDrive
  simp +decide

@[simp] theorem tempoView_coilsOff (s : State) : tempoView (coilsOff s) = tempoView s := by
  simp +decide [coilsOff]

@[simp] theorem tempoView_outCoil (n k : Nat) (b : Bool) (s : State) : tempoView (outCoil n k b s) = tempoView s := by
  simp +decide [outCoil]

@[simp] theorem tempoView_isoHalt (n : Nat) (s : State) : tempoView (isoHalt n s) = tempoView s := by
  simp +decide [isoHalt]

@[simp] theorem tempoView_isoBegin (n : Nat) (s : State) : tempoView (isoBegin n s) = tempoView s := by
  simp +decide [isoBegin]

/-- Every flag of an outlet lies outside the TMP block. -/
theorem outFlags_off_tempo (n : Nat) (p : Fld → Bool) :
    ((outFlagFlds.map (fun f => f n)).filter p).all (fun f => !inTempoBlock f) = true := by
  have h : (outFlagFlds.map (fun f => f n)).all (fun f => !inTempoBlock f) = true := by simp [outFlagFlds]
  rw [List.all_eq_true] at h ⊢
  exact fun f hf => h f (List.mem_filter.mp hf).1

@[simp] theorem tempoView_outFlush (n : Nat) (s : State) : tempoView (outFlush n s) = tempoView s := by
  have hr := tempoView_raise (F.OUT_EVCNT_COUNT n) _ s (by simp) (outFlags_off_tempo n (fun f => (outlet s n).pend.testBit f.lo))
  unfold outFlush
  simp only [tempoView_onOutlet, tempoView_update, tempoView_ite, tempoView_rput, tempoView_isoBegin, tempoView_isoHalt,
    tempoView_safPost, inTempoBlock_SAF_ISO_FAULT, inTempoBlock_OUT_CTRL_DIR, ite_self]
  split <;> simp only [tempoView_rput, inTempoBlock_OUT_CAUSE_REJ, tempoView_ite, hr, ite_self]

@[simp] theorem tempoView_outsTake (s : State) : tempoView (outsTake s) = tempoView s := by
  unfold outsTake
  simp +decide [↓tempoView_update]

@[simp] theorem tempoView_safGo (st : SafSt) (code : Nat) (s : State) : tempoView (safGo st code s) = tempoView s := by
  simp +decide [safGo, ↓tempoView_update]

@[simp] theorem tempoView_outMate (n : Nat) (s : State) : tempoView (outMate n s) = tempoView s := by
  simp +decide [outMate]

@[simp] theorem tempoView_outsMate (s : State) : tempoView (outsMate s) = tempoView s := by
  simp +decide [outsMate]

@[simp] theorem tempoView_outsMateLate (s : State) : tempoView (outsMateLate s) = tempoView s := by
  simp +decide [outsMateLate]

@[simp] theorem tempoView_enterMate (code : Nat) (s : State) : tempoView (enterMate code s) = tempoView s := by
  simp +decide [enterMate, ↓tempoView_update]

@[simp] theorem tempoView_enterCheck (code : Nat) (s : State) : tempoView (enterCheck code s) = tempoView s := by
  simp +decide [enterCheck, ↓tempoView_update]

@[simp] theorem tempoView_enterRun (s : State) : tempoView (enterRun s) = tempoView s := by
  simp +decide [enterRun, ↓tempoView_update]

/-! ### The Board -/

@[simp] theorem tempoView_boardEcc (ecc : Ecc) (s : State) : tempoView (boardEcc ecc s) = tempoView s := by
  unfold boardEcc
  split <;> simp +decide [↓tempoView_update]

@[simp] theorem tempoView_moveTrue (ecc : Ecc) (flips : List (Nat × Nat)) (s : State) : tempoView (moveTrue ecc flips s) = tempoView s := by
  unfold moveTrue
  simp +decide [↓tempoView_update]

@[simp] theorem tempoView_moveComp (ecc : Ecc) (flips : List (Nat × Nat)) (s : State) : tempoView (moveComp ecc flips s) = tempoView s := by
  simp +decide [moveComp, ↓tempoView_update]

@[simp] theorem tempoView_boardCompare (s : State) : tempoView (boardCompare s) = tempoView s := by
  unfold boardCompare
  repeat' split
  all_goals simp +decide [↓tempoView_update]

@[simp] theorem tempoView_boardScrub (ecc : Ecc) (upset : List (Nat × Byte)) (s : State) : tempoView (boardScrub ecc upset s) = tempoView s := by
  unfold boardScrub
  simp +decide [↓tempoView_update]

@[simp] theorem tempoView_commitSquares (m : Move) (s : State) : tempoView (commitSquares m s) = tempoView s := by
  simp +decide [commitSquares, ↓tempoView_update]

@[simp] theorem tempoView_boardEvents (old new : Nat) (s : State) : tempoView (boardEvents old new s) = tempoView s := by
  simp +decide [boardEvents]

@[simp] theorem tempoView_edgeTrips (s : State) : tempoView (edgeTrips s) = tempoView s := by
  have hf : ∀ chk mate : Bool, ((if chk then [F.BRD_FLAGS_TRIPCHK] else []) ++ (if mate then [F.BRD_FLAGS_TRIPMATE] else [])).all
      (fun f => !inTempoBlock f) = true := by decide
  unfold edgeTrips
  split
  · rfl
  · simp only [tempoView_ite, tempoView_safCause, ite_self]
    exact tempoView_raiseIf _ _ _ s (by decide) (hf _ _)

@[simp] theorem tempoView_edgeBoard (s : State) : tempoView (edgeBoard s) = tempoView s := by
  have h : tempoView (raiseIf (!scrubRan s) F.BRD_EVCNT_COUNT [F.BRD_FLAGS_SCRABT] s) = tempoView s :=
    tempoView_raiseIf _ _ _ s (by decide) (by decide)
  unfold edgeBoard
  split <;> simp +decide only [tempoView_update, tempoView_ite, tempoView_rputB, tempoView_commitSquares,
    tempoView_boardEvents, h, ite_self]

/-! ### The sequencers -/

@[simp] theorem tempoView_energyLimit (n : Nat) (s : State) : tempoView (energyLimit n s) = tempoView s := by
  unfold energyLimit
  simp +decide

@[simp] theorem tempoView_closeKpKn (n : Nat) (s : State) : tempoView (closeKpKn n s) = tempoView s := by
  simp +decide [closeKpKn]

@[simp] theorem tempoView_openKpKn (n : Nat) (s : State) : tempoView (openKpKn n s) = tempoView s := by
  simp +decide [openKpKn]

@[simp] theorem tempoView_hardOpen (n : Nat) (s : State) : tempoView (hardOpen n s) = tempoView s := by
  simp +decide [hardOpen]

@[simp] theorem tempoView_allOpen (n : Nat) (s : State) : tempoView (allOpen n s) = tempoView s := by
  simp +decide [allOpen]

@[simp] theorem tempoView_endSession (n : Nat) (s : State) : tempoView (endSession n s) = tempoView s := by
  simp +decide [endSession]

@[simp] theorem tempoView_toIdle (n : Nat) (s : State) : tempoView (toIdle n s) = tempoView s := by
  simp +decide [toIdle]

@[simp] theorem tempoView_toOos (n : Nat) (s : State) : tempoView (toOos n s) = tempoView s := by
  simp +decide [toOos]

@[simp] theorem tempoView_toUnlock (n : Nat) (s : State) : tempoView (toUnlock n s) = tempoView s := by
  simp +decide [toUnlock]

@[simp] theorem tempoView_toFaulted (n : Nat) (s : State) : tempoView (toFaulted n s) = tempoView s := by
  simp +decide [toFaulted]

@[simp] theorem tempoView_emergencyPath (n code : Nat) (s : State) : tempoView (emergencyPath n code s) = tempoView s := by
  simp +decide [emergencyPath]

@[simp] theorem tempoView_rampedPath (n code : Nat) (s : State) : tempoView (rampedPath n code s) = tempoView s := by
  simp +decide [rampedPath]

@[simp] theorem tempoView_toWeldCheck (n : Nat) (s : State) : tempoView (toWeldCheck n s) = tempoView s := by
  simp +decide [toWeldCheck]

@[simp] theorem tempoView_dropRequest (n : Nat) (s : State) : tempoView (dropRequest n s) = tempoView s := by
  simp +decide [dropRequest]

@[simp] theorem tempoView_refuse (n reason : Nat) (s : State) : tempoView (refuse n reason s) = tempoView s := by
  simp +decide [refuse]

@[simp] theorem tempoView_taken (n : Nat) (s : State) : tempoView (taken n s) = tempoView s := by
  simp +decide [taken]

@[simp] theorem tempoView_leftover (n : Nat) (s : State) : tempoView (leftover n s) = tempoView s := by
  simp +decide [leftover]

@[simp] theorem tempoView_seqIdle (n : Nat) (s : State) : tempoView (seqIdle n s) = tempoView s := by
  simp +decide [seqIdle]

@[simp] theorem tempoView_seqPlugged (n : Nat) (s : State) : tempoView (seqPlugged n s) = tempoView s := by
  simp +decide [seqPlugged]

@[simp] theorem tempoView_seqAuthWait (n : Nat) (s : State) : tempoView (seqAuthWait n s) = tempoView s := by
  simp +decide [seqAuthWait]

@[simp] theorem tempoView_seqNegotiate (n : Nat) (s : State) : tempoView (seqNegotiate n s) = tempoView s := by
  unfold seqNegotiate
  simp +decide
  split <;> simp +decide

@[simp] theorem tempoView_cableCheckSteps (n : Nat) (s : State) : tempoView (cableCheckSteps n s) = tempoView s := by
  unfold cableCheckSteps
  simp +decide

@[simp] theorem tempoView_seqCableCheck (n : Nat) (s : State) : tempoView (seqCableCheck n s) = tempoView s := by
  unfold seqCableCheck
  split <;> simp +decide

@[simp] theorem tempoView_pcMatch (n : Nat) (s : State) : tempoView (pcMatch n s) = tempoView s := by
  unfold pcMatch
  simp +decide

@[simp] theorem tempoView_seqPrecharge (n : Nat) (s0 : State) : tempoView (seqPrecharge n s0) = tempoView s0 := by
  unfold seqPrecharge
  simp +decide
  split <;> simp +decide

@[simp] theorem tempoView_ac3Energy (n : Nat) (s : State) : tempoView (ac3Energy n s) = tempoView s := by
  unfold ac3Energy
  simp +decide

@[simp] theorem tempoView_seqEnergy (n : Nat) (s0 : State) : tempoView (seqEnergy n s0) = tempoView s0 := by
  unfold seqEnergy
  simp +decide
  split <;> simp +decide

@[simp] theorem tempoView_seqRampDown (n : Nat) (s0 : State) : tempoView (seqRampDown n s0) = tempoView s0 := by
  unfold seqRampDown
  simp +decide

@[simp] theorem tempoView_weldStep (n : Nat) (s : State) : tempoView (weldStep n s) = tempoView s := by
  unfold weldStep
  simp +decide
  repeat' split
  all_goals simp +decide

@[simp] theorem tempoView_seqWeldCheck (n : Nat) (s0 : State) : tempoView (seqWeldCheck n s0) = tempoView s0 := by
  unfold seqWeldCheck
  simp +decide

@[simp] theorem tempoView_seqUnlock (n : Nat) (s0 : State) : tempoView (seqUnlock n s0) = tempoView s0 := by
  unfold seqUnlock
  simp +decide
  repeat' split
  all_goals simp +decide

@[simp] theorem tempoView_seqFaulted (n : Nat) (s0 : State) : tempoView (seqFaulted n s0) = tempoView s0 := by
  unfold seqFaulted
  simp +decide

@[simp] theorem tempoView_seqOos (n : Nat) (s : State) : tempoView (seqOos n s) = tempoView s := by
  simp +decide [seqOos]

@[simp] theorem tempoView_seqOutputs (n : Nat) (s : State) : tempoView (seqOutputs n s) = tempoView s := by
  simp +decide [seqOutputs]

@[simp] theorem tempoView_trackLow (n : Nat) (s : State) : tempoView (trackLow n s) = tempoView s := by
  simp +decide [trackLow]

@[simp] theorem tempoView_outletMismatch (n : Nat) (s : State) : tempoView (outletMismatch n s) = tempoView s := by
  unfold outletMismatch
  split <;> simp +decide

@[simp] theorem tempoView_seqOutlet (n : Nat) (s : State) : tempoView (seqOutlet n s) = tempoView s := by
  unfold seqOutlet
  simp +decide
  split <;> simp +decide

@[simp] theorem tempoView_seqOnce (n : Nat) (s : State) : tempoView (seqOnce n s) = tempoView s := by
  unfold seqOnce
  simp +decide

@[simp] theorem tempoView_seqAll (s : State) : tempoView (seqAll s) = tempoView s := by
  simp +decide [seqAll]

@[simp] theorem tempoView_seqRestore (n : Nat) (s : State) : tempoView (seqRestore n s) = tempoView s := by
  simp +decide [seqRestore]

@[simp] theorem tempoView_edgeSeq (s : State) : tempoView (edgeSeq s) = tempoView s := by
  simp +decide [edgeSeq]

/-! ### Requests and authorisation -/

@[simp] theorem tempoView_reqWrite (n code : Nat) (s : State) : tempoView (reqWrite n code s) = tempoView s := by
  simp +decide [reqWrite]

@[simp] theorem tempoView_reqFreeze (n : Nat) (s : State) : tempoView (reqFreeze n s) = tempoView s := by
  simp +decide [reqFreeze]

@[simp] theorem tempoView_authCount (n : Nat) (v : Bool) (s : State) : tempoView (authCount n v s) = tempoView s := by
  unfold authCount
  simp +decide
  split <;> simp +decide

@[simp] theorem tempoView_outFreeze (n : Nat) (s : State) : tempoView (outFreeze n s) = tempoView s := by
  unfold outFreeze
  simp +decide

@[simp] theorem tempoView_outAuth (n : Nat) (s : State) : tempoView (outAuth n s) = tempoView s := by
  unfold outAuth
  split <;> simp +decide

/-! ### The load channels -/

@[simp] theorem tempoView_onLch (n : Nat) (f : LChan → LChan) (s : State) : tempoView (onLch n f s) = tempoView s := by
  unfold onLch
  simp +decide [↓tempoView_update]

@[simp] theorem tempoView_raiseLch (f : Fld) (s : State) (h : inTempoBlock f = false) : tempoView (raiseLch f s) = tempoView s := by
  simp +decide [raiseLch, h]

@[simp] theorem tempoView_lOn (n : Nat) (s : State) : tempoView (lOn n s) = tempoView s := by
  simp +decide [lOn]

@[simp] theorem tempoView_lOff (n : Nat) (s : State) : tempoView (lOff n s) = tempoView s := by
  simp +decide [lOff]

@[simp] theorem tempoView_lCommand (n : Nat) (en : Bool) (s : State) : tempoView (lCommand n en s) = tempoView s := by
  simp +decide [lCommand]

@[simp] theorem tempoView_bankEnforce (s : State) : tempoView (bankEnforce s) = tempoView s := by
  simp +decide [bankEnforce, ↓tempoView_update]

@[simp] theorem tempoView_bankRelease (s : State) : tempoView (bankRelease s) = tempoView s := by
  simp +decide [bankRelease, ↓tempoView_update]

@[simp] theorem tempoView_bankTimer (s : State) : tempoView (bankTimer s) = tempoView s := by
  simp +decide [bankTimer, ↓tempoView_update]

@[simp] theorem tempoView_bankLimit (b : Nat) (s : State) : tempoView (bankLimit b s) = tempoView s := by
  simp +decide [bankLimit]

@[simp] theorem tempoView_bankFree (s : State) : tempoView (bankFree s) = tempoView s := by
  simp +decide [bankFree]

@[simp] theorem tempoView_edgeOwned (n : Nat) (s : State) : tempoView (edgeOwned n s) = tempoView s := by
  simp +decide [edgeOwned]

@[simp] theorem tempoView_compareLoads (lc : BitVec 16) (s : State) : tempoView (compareLoads lc s) = tempoView s := by
  simp +decide [compareLoads, ↓tempoView_update]

@[simp] theorem tempoView_edgeLch (s0 : State) : tempoView (edgeLch s0) = tempoView s0 := by
  simp +decide [edgeLch, ↓tempoView_update]

/-! ### The conditions and the state of the safety controller -/

@[simp] theorem tempoView_tempConditions (s : State) : tempoView (tempConditions s) = tempoView s := by
  simp +decide [tempConditions, ↓tempoView_update]

@[simp] theorem tempoView_checkCoil (c : Nat) (s : State) : tempoView (checkCoil c s) = tempoView s := by
  unfold checkCoil
  split <;> simp +decide

@[simp] theorem tempoView_soFault (code x : Nat) (s : State) : tempoView (soFault code x s) = tempoView s := by
  unfold soFault
  simp +decide

@[simp] theorem tempoView_compareOutputs (so : BitVec 4) (s : State) : tempoView (compareOutputs so s) = tempoView s := by
  simp +decide [compareOutputs]

@[simp] theorem tempoView_rcTripOutlets (all : Bool) (s : State) : tempoView (rcTripOutlets all s) = tempoView s := by
  simp +decide [rcTripOutlets]

@[simp] theorem tempoView_rcCheck (tier : Nat) (s : State) : tempoView (rcCheck tier s) = tempoView s := by
  unfold rcCheck
  split <;> simp +decide

@[simp] theorem tempoView_rcTier (avg tier : Nat) (s : State) : tempoView (rcTier avg tier s) = tempoView s := by
  unfold rcTier
  simp +decide [↓tempoView_update]

@[simp] theorem tempoView_edgeFgt (n : Nat) (s : State) : tempoView (edgeFgt n s) = tempoView s := by
  simp +decide [edgeFgt, ↓tempoView_update]

@[simp] theorem tempoView_edgeRc (s : State) : tempoView (edgeRc s) = tempoView s := by
  simp +decide [edgeRc, ↓tempoView_update]

@[simp] theorem tempoView_rcSensorFault (s : State) : tempoView (rcSensorFault s) = tempoView s := by
  simp +decide [rcSensorFault]

@[simp] theorem tempoView_isoConfirm (n : Nat) (s : State) : tempoView (isoConfirm n s) = tempoView s := by
  simp +decide [isoConfirm]

@[simp] theorem tempoView_isoFault (n : Nat) (s : State) : tempoView (isoFault n s) = tempoView s := by
  simp +decide [isoFault]

@[simp] theorem tempoView_isoPass (n : Nat) (s : State) : tempoView (isoPass n s) = tempoView s := by
  simp +decide [isoPass]

@[simp] theorem tempoView_isoApply (n : Nat) (s : State) : tempoView (isoApply n s) = tempoView s := by
  unfold isoApply
  repeat' split
  all_goals simp +decide

@[simp] theorem tempoView_guardEval (s : State) : tempoView (guardEval s) = tempoView s := by
  unfold guardEval
  simp +decide [↓tempoView_update]

@[simp] theorem tempoView_guardComplete (s : State) : tempoView (guardComplete s) = tempoView s := by
  simp +decide [guardComplete, ↓tempoView_update]

@[simp] theorem tempoView_guardTest (old : GuardPair) (s : State) : tempoView (guardTest old s) = tempoView s := by
  simp +decide [guardTest, ↓tempoView_update]

@[simp] theorem tempoView_edgeGuard (s : State) : tempoView (edgeGuard s) = tempoView s := by
  simp +decide [edgeGuard, ↓tempoView_update]

@[simp] theorem tempoView_edgeConditions (s : State) : tempoView (edgeConditions s) = tempoView s := by
  simp +decide [edgeConditions]

@[simp] theorem tempoView_edgeState (s : State) : tempoView (edgeState s) = tempoView s := by
  unfold edgeState
  split <;> simp +decide [↓tempoView_update]

@[simp] theorem tempoView_edgeSo (s : State) : tempoView (edgeSo s) = tempoView s := by
  unfold edgeSo
  simp +decide

@[simp] theorem tempoView_edgeCoils (s : State) : tempoView (edgeCoils s) = tempoView s := by
  simp +decide [edgeCoils, ↓tempoView_update]

/-! ### The matrix -/

@[simp] theorem tempoView_stepTo (g : Nat) (st : GStep) (s : State) : tempoView (stepTo g st s) = tempoView s := by
  simp +decide [stepTo]

@[simp] theorem tempoView_xpOpen (g : Nat) (s : State) : tempoView (xpOpen g s) = tempoView s := by
  unfold xpOpen
  split <;> simp +decide

@[simp] theorem tempoView_groupOff (g : Nat) (s : State) : tempoView (groupOff g s) = tempoView s := by
  unfold groupOff
  simp +decide

@[simp] theorem tempoView_groupAbort (g : Nat) (s : State) : tempoView (groupAbort g s) = tempoView s := by
  unfold groupAbort
  simp +decide
  split <;> simp +decide

@[simp] theorem tempoView_beginOpen (g : Nat) (s : State) : tempoView (beginOpen g s) = tempoView s := by
  unfold beginOpen
  simp +decide

@[simp] theorem tempoView_xpWelded (g : Nat) (s : State) : tempoView (xpWelded g s) = tempoView s := by
  unfold xpWelded
  simp +decide
  split <;> simp +decide [↓tempoView_update]

@[simp] theorem tempoView_stepWeld (g : Nat) (s : State) : tempoView (stepWeld g s) = tempoView s := by
  unfold stepWeld
  simp +decide
  split <;> simp +decide

@[simp] theorem tempoView_stepMatch (g : Nat) (s : State) : tempoView (stepMatch g s) = tempoView s := by
  unfold stepMatch
  simp +decide
  split <;> simp +decide

@[simp] theorem tempoView_opDone (g : Nat) (s : State) : tempoView (opDone g s) = tempoView s := by
  unfold opDone
  simp +decide [↓tempoView_update]

@[simp] theorem tempoView_stepGroup (g : Nat) (s : State) : tempoView (stepGroup g s) = tempoView s := by
  unfold stepGroup
  simp +decide
  split <;> simp +decide

@[simp] theorem tempoView_trackGroup (g : Nat) (s : State) : tempoView (trackGroup g s) = tempoView s := by
  unfold trackGroup
  simp +decide

@[simp] theorem tempoView_groupLostCheck (g : Nat) (s : State) : tempoView (groupLostCheck g s) = tempoView s := by
  simp +decide [groupLostCheck]

@[simp] theorem tempoView_groupOutside (g : Nat) (s : State) : tempoView (groupOutside g s) = tempoView s := by
  simp +decide [groupOutside]

@[simp] theorem tempoView_groupOnce (g : Nat) (s : State) : tempoView (groupOnce g s) = tempoView s := by
  simp +decide [groupOnce]

@[simp] theorem tempoView_xpMismatch (x : Nat) (s : State) : tempoView (xpMismatch x s) = tempoView s := by
  simp +decide [xpMismatch]

@[simp] theorem tempoView_startLeave (g src : Nat) (dst : Option Nat) (s : State) : tempoView (startLeave g src dst s) = tempoView s := by
  simp +decide [startLeave]

@[simp] theorem tempoView_startConnect (g b : Nat) (s : State) : tempoView (startConnect g b s) = tempoView s := by
  simp +decide [startConnect]

@[simp] theorem tempoView_allocRelease (b : Nat) (s : State) : tempoView (allocRelease b s) = tempoView s := by
  unfold allocRelease
  simp +decide
  repeat' split
  all_goals simp +decide

@[simp] theorem tempoView_allocStart (fuel : Nat) (s : State) : tempoView (allocStart fuel s) = tempoView s := by
  induction fuel generalizing s with
  | zero => rfl
  | succ fuel ih =>
    unfold allocStart
    split
    · rfl
    · repeat' split
      all_goals simp [ih]

@[simp] theorem tempoView_allocRun (s : State) : tempoView (allocRun s) = tempoView s := by
  unfold allocRun
  simp +decide

@[simp] theorem tempoView_grantUpdate (s : State) : tempoView (grantUpdate s) = tempoView s := by
  simp +decide [grantUpdate, ↓tempoView_update]

@[simp] theorem tempoView_shareBus (b : Nat) (s : State) : tempoView (shareBus b s) = tempoView s := by
  simp +decide [shareBus]

@[simp] theorem tempoView_balanceBus (b : Nat) (s : State) : tempoView (balanceBus b s) = tempoView s := by
  simp +decide [balanceBus]

@[simp] theorem tempoView_balanceSat (g : Nat) (s : State) : tempoView (balanceSat g s) = tempoView s := by
  unfold balanceSat
  simp +decide
  split <;> simp +decide

@[simp] theorem tempoView_msUpdate (s : State) : tempoView (msUpdate s) = tempoView s := by
  unfold msUpdate
  simp +decide [↓tempoView_update]

@[simp] theorem tempoView_matrixDuty (s : State) : tempoView (matrixDuty s) = tempoView s := by
  simp +decide [matrixDuty]

@[simp] theorem tempoView_mxCheck (rx : MxRx) (s0 : State) : tempoView (mxCheck rx s0) = tempoView s0 := by
  simp +decide [mxCheck, ↓tempoView_update]

/-! ### The leads, the yard and the credentials -/

@[simp] theorem tempoView_mkFrame (typ dst flags : Nat) (body : Bytes) (s : State) : tempoView (mkFrame typ dst flags body s).2 = tempoView s := by
  simp +decide [mkFrame, ↓tempoView_update]

@[simp] theorem tempoView_leadPut (good : Bool) (p : LPort) (b : Bytes) (s : State) : tempoView (leadPut good p b s) = tempoView s := by
  unfold leadPut
  repeat' split
  all_goals simp +decide [↓tempoView_update]

@[simp] theorem tempoView_leadCut (p : LPort) (b : Bytes) (s : State) : tempoView (leadCut p b s) = tempoView s := by
  unfold leadCut
  simp +decide

@[simp] theorem tempoView_budgetStale (s : State) : tempoView (budgetStale s) = tempoView s := by
  simp +decide [budgetStale, ↓tempoView_update]

@[simp] theorem tempoView_edgeBudget (s : State) : tempoView (edgeBudget s) = tempoView s := by
  unfold edgeBudget
  repeat' split
  all_goals simp +decide [↓tempoView_update]

@[simp] theorem tempoView_edgeExpress (s : State) : tempoView (edgeExpress s) = tempoView s := by
  unfold edgeExpress
  simp +decide [↓tempoView_update]

@[simp] theorem tempoView_segmentHead (s : State) : tempoView (segmentHead s) = tempoView s := by
  simp +decide [segmentHead, ↓tempoView_update]

@[simp] theorem tempoView_yardStop (body : Bytes) (s : State) : tempoView (yardStop body s) = tempoView s := by
  simp +decide [yardStop, ↓tempoView_update]

@[simp] theorem tempoView_stopOriginate (reason : Nat) (s : State) : tempoView (stopOriginate reason s) = tempoView s := by
  simp +decide [stopOriginate, ↓tempoView_update]

@[simp] theorem tempoView_edgeStop (ev : Bool) (s : State) : tempoView (edgeStop ev s) = tempoView s := by
  simp +decide [edgeStop, ↓tempoView_update]

@[simp] theorem tempoView_epochCheck (s : State) : tempoView (epochCheck s) = tempoView s := by
  simp +decide [epochCheck, ↓tempoView_update]

@[simp] theorem tempoView_edgeEpoch (s : State) : tempoView (edgeEpoch s) = tempoView s := by
  simp +decide [edgeEpoch, ↓tempoView_update]

@[simp] theorem tempoView_edgeExpected (s : State) : tempoView (edgeExpected s) = tempoView s := by
  simp +decide [edgeExpected, ↓tempoView_update]

@[simp] theorem tempoView_safResult (op code : Nat) (s : State) : tempoView (safResult op code s) = tempoView s := by
  simp +decide [safResult]

@[simp] theorem tempoView_safPop (s : State) : tempoView (safPop s) = tempoView s := by
  simp +decide [safPop, ↓tempoView_update]

@[simp] theorem tempoView_safUnknown (s : State) : tempoView (safUnknown s) = tempoView s := by
  unfold safUnknown
  split <;> simp +decide

@[simp] theorem tempoView_tokenActions (action : Nat) (s : State) : tempoView (tokenActions action s) = tempoView s := by
  unfold tokenActions
  simp +decide [↓tempoView_update]

@[simp] theorem tempoView_edgeAck (s : State) : tempoView (edgeAck s) = tempoView s := by
  unfold edgeAck
  split <;> simp +decide [↓tempoView_update]

@[simp] theorem tempoView_edgeFwu (s : State) : tempoView (edgeFwu s) = tempoView s := by
  unfold edgeFwu
  simp +decide [↓tempoView_update]

/-! ### The vehicle interface, the network and the peripherals -/

@[simp] theorem tempoView_onV (p : Nat) (f : VPort → VPort) (s : State) : tempoView (onV p f s) = tempoView s := by
  simp +decide [onV, ↓tempoView_update]

@[simp] theorem tempoView_raiseV (p : Nat) (f : Nat → Fld) (s : State) (h : inTempoBlock (f p) = false) :
    tempoView (raiseV p f s) = tempoView s := by
  simp [raiseV, h]

@[simp] theorem tempoView_putDigest (a n : Nat) (b : Bytes) (s : State) (h : 0x10050000 ≤ a) :
    tempoView (putDigest a n b s) = tempoView s :=
  tempoView_eachUpTo n _ s (fun _ t => tempoView_rput _ _ t (inTempoBlock_of_le _ (Nat.le_add_right_of_le h)))

@[simp] theorem tempoView_slacClear (p : Nat) (s : State) : tempoView (slacClear p s) = tempoView s := by
  unfold slacClear
  have h : 0x10050000 ≤ vBase p + 0x30 := by unfold vBase; omega
  simp [h]

@[simp] theorem tempoView_slacStop (p : Nat) (s : State) : tempoView (slacStop p s) = tempoView s := by
  unfold slacStop
  simp +decide

@[simp] theorem tempoView_slacStart (p : Nat) (s : State) : tempoView (slacStart p s) = tempoView s := by
  simp +decide [slacStart]

@[simp] theorem tempoView_raisePort (p k : Nat) (s : State) : tempoView (raisePort p k s) = tempoView s := by
  unfold raisePort
  split
  · split <;> simp
  · split
    · exact tempoView_raise _ _ s (by decide) (by simp [inTempoBlock_of_le])
    · simp +decide

@[simp] theorem tempoView_onM (m : Nat) (f : MPort → MPort) (s : State) : tempoView (onM m f s) = tempoView s := by
  unfold onM
  simp +decide [↓tempoView_update]

@[simp] theorem tempoView_setRxIdx (p i : Nat) (s : State) : tempoView (setRxIdx p i s) = tempoView s := by
  simp +decide [setRxIdx]

@[simp] theorem tempoView_setFifo (p : Nat) (l : List (Nat × Bytes)) (s : State) : tempoView (setFifo p l s) = tempoView s := by
  simp +decide [setFifo]

@[simp] theorem tempoView_descBack (a len flags ts : Nat) (s : State) : tempoView (descBack a len flags ts s) = tempoView s := by
  simp +decide [descBack]

theorem tempoView_rxOne (p a n : Nat) (s t : State) (h : rxOne p a n s = some t) : tempoView t = tempoView s := by
  unfold rxOne at h
  split at h
  · cases h
  · simp only [Option.ite_none_left_eq_some] at h
    obtain ⟨-, h⟩ := h
    split at h
    · cases h; simp +decide
    · split at h <;> (cases h; simp +decide)

@[simp] theorem tempoView_rxDrain (k p : Nat) (s : State) : tempoView (rxDrain k p s) = tempoView s := by
  induction k generalizing s with
  | zero => rfl
  | succ k ih =>
    unfold rxDrain
    split
    · rfl
    · split
      · rename_i h
        rw [ih, tempoView_rxOne _ _ _ _ _ h]
      · rfl

@[simp] theorem tempoView_onCan (k : Nat) (f : CanCtl → CanCtl) (s : State) : tempoView (onCan k f s) = tempoView s := by
  unfold onCan
  simp +decide [↓tempoView_update]

@[simp] theorem tempoView_edgeMtim (s : State) : tempoView (edgeMtim s) = tempoView s := by
  simp +decide [edgeMtim]

@[simp] theorem tempoView_edgePort (ms : Bool) (p : Nat) (s : State) : tempoView (edgePort ms p s) = tempoView s := by
  unfold edgePort
  simp +decide
  split <;> simp +decide

@[simp] theorem tempoView_edgeCan (k : Nat) (s : State) : tempoView (edgeCan k s) = tempoView s := by
  unfold edgeCan
  split <;> simp +decide

@[simp] theorem tempoView_edgeVeh (ms : Bool) (s : State) : tempoView (edgeVeh ms s) = tempoView s := by
  unfold edgeVeh
  simp

@[simp] theorem tempoView_raiseNet (f : Fld) (s : State) (h : inTempoBlock f = false) : tempoView (raiseNet f s) = tempoView s := by
  simp +decide [raiseNet, h]

@[simp] theorem tempoView_swSend (f : SwFrame) (s : State) : tempoView (swSend f s) = tempoView s := by
  simp +decide [swSend, ↓tempoView_update]

@[simp] theorem tempoView_swEgress (k p left : Nat) (s : State) : tempoView (swEgress k p left s) = tempoView s := by
  induction k generalizing left s with
  | zero => rfl
  | succ k ih =>
    unfold swEgress
    split
    · rfl
    · split
      · rfl
      · rw [ih, tempoView_swSend]; rfl

theorem tempoView_netRxOne (s t : State) (h : netRxOne s = some t) : tempoView t = tempoView s := by
  unfold netRxOne at h
  split at h
  · simp only [Option.ite_none_left_eq_some] at h
    obtain ⟨-, h⟩ := h
    split at h
    · cases h; simp +decide [↓tempoView_update]
    · split at h <;> (cases h; simp +decide [↓tempoView_update])
  · cases h

@[simp] theorem tempoView_netDrain (k : Nat) (s : State) : tempoView (netDrain k s) = tempoView s := by
  induction k generalizing s with
  | zero => rfl
  | succ k ih =>
    unfold netDrain
    split
    · rename_i h
      rw [ih, tempoView_netRxOne _ _ h]
    · rfl

@[simp] theorem tempoView_edgeNet (s : State) : tempoView (edgeNet s) = tempoView s := by
  unfold edgeNet
  simp +decide [↓tempoView_update]

@[simp] theorem tempoView_onXfer (f : Xfer → Xfer) (s : State) : tempoView (onXfer f s) = tempoView s := by
  simp +decide [onXfer, ↓tempoView_update]

@[simp] theorem tempoView_dataFrame (x : Xfer) (flags blk off n : Nat) (src : Nat) (s : State) :
    tempoView (dataFrame x flags blk off n src s).2 = tempoView s := by
  simp +decide [dataFrame]

theorem tempoView_pumpNext (x : Xfer) (q q1 : Pump) (room : Nat) (s : State) (m : Bytes × State)
    (h : pumpNext x q room s = some (m, q1)) : tempoView m.2 = tempoView s := by
  unfold pumpNext at h
  dsimp only at h
  repeat' split at h
  all_goals cases h <;> simp

@[simp] theorem tempoView_pumpPort (p : LPort) (room : Nat) (s : State) : tempoView (pumpPort p room s) = tempoView s := by
  unfold pumpPort
  split
  · rfl
  · split
    · rfl
    · split
      · rfl
      · split
        · rfl
        · rename_i h
          simpa [↓tempoView_update] using tempoView_pumpNext _ _ _ _ _ _ h

@[simp] theorem tempoView_onUart (u : Nat) (f : Uart → Uart) (s : State) : tempoView (onUart u f s) = tempoView s := by
  unfold onUart
  simp +decide [↓tempoView_update]

@[simp] theorem tempoView_raisePer (l : List Fld) (s : State) (h : l.all (fun f => !inTempoBlock f) = true) :
    tempoView (raisePer l s) = tempoView s := tempoView_raise _ l s (by decide) h

@[simp] theorem tempoView_edgeUart (u : Nat) (s : State) : tempoView (edgeUart u s) = tempoView s := by
  unfold edgeUart
  have h : inTempoBlock (perFlag u 1) = false := by simp [perFlag, inTempoBlock_of_le, F.PER_FLAGS_RXAVAIL0]
  simp [h]

/-! ### The duties FREEZE and MOVE -/

@[simp] theorem tempoView_freezeDuty (rep : Report) (exc : Bool) (s : State) : tempoView (freezeDuty rep exc s) = tempoView s := by
  unfold freezeDuty
  simp +decide

@[simp] theorem tempoView_moveStart (s : State) : tempoView (moveStart s) = tempoView s := by
  unfold moveStart
  split <;> simp +decide [↓tempoView_update]

end Sys2Proof.Machine

end

section

/-! SUPPORT and O1. A duty that completes leaves its checkpoint and its effect. -/

namespace Sys2Proof.Machine

/-! ### What a kept view says -/

theorem tmp_of_tempoView {s t : State} (h : tempoView t = tempoView s) : t.tmp = s.tmp := congrArg TempoView.tmp h

theorem flow_of_tempoView {s t : State} (h : tempoView t = tempoView s) : t.saf.flow = s.saf.flow := congrArg TempoView.flow h

theorem entry_of_tempoView {s t : State} (h : tempoView t = tempoView s) : t.pwr.entry = s.pwr.entry := congrArg TempoView.entry h

theorem rget_of_tempoRegs {s t : State} (h : tempoRegs t.regs = tempoRegs s.regs) {f : Fld} (hf : inTempoBlock f = true) :
    rget t f = rget s f := by
  have e : tempoRegs t.regs f = tempoRegs s.regs f := congrFun h f
  rwa [tempoRegs, tempoRegs, if_pos hf, if_pos hf] at e

theorem rget_of_tempoView {s t : State} (h : tempoView t = tempoView s) {f : Fld} (hf : inTempoBlock f = true) : rget t f = rget s f :=
  rget_of_tempoRegs (congrArg TempoView.reg h) hf

/-- What a view kept but for the program flow says. -/
theorem kept_of_tempoView_flow {s t : State} {n : Nat} (h : tempoView t = { tempoView s with flow := n }) :
    t.tmp = s.tmp ∧ t.pwr.entry = s.pwr.entry ∧ ∀ f, inTempoBlock f = true → rget t f = rget s f :=
  ⟨congrArg TempoView.tmp h, congrArg TempoView.entry h, fun _ hf => rget_of_tempoRegs (congrArg TempoView.reg h) hf⟩

/-- What a view kept but for the inbox of BOOK says. -/
theorem kept_of_tempoView_inbox {s t : State} {l : List (Nat × List Inc)} (h : tempoView t = { tempoView s with inbox := l }) :
    t.tmp = s.tmp ∧ t.saf.flow = s.saf.flow ∧ t.bil.inbox = l ∧ ∀ f, inTempoBlock f = true → rget t f = rget s f :=
  ⟨congrArg TempoView.tmp h, congrArg TempoView.flow h, congrArg TempoView.inbox h,
    fun _ hf => rget_of_tempoRegs (congrArg TempoView.reg h) hf⟩

/-! ### A duty that completes -/

theorem rget_ite (c : Prop) [Decidable c] (s t : State) (f : Fld) :
    rget (if c then s else t) f = if c then rget s f else rget t f := apply_ite (fun u => rget u f) ..

theorem fkey_ne_of_inTempoBlock {f g : Fld} (hf : inTempoBlock f = false) (hg : inTempoBlock g = true) : fkey f ≠ fkey g := by
  intro e
  rw [inTempoBlock, fieldBlock, e] at hf
  rw [inTempoBlock, fieldBlock, hf] at hg
  cases hg

theorem dutySlot_lt {s : State} {d fin k : Nat} (h : dutySlot s d fin = some k) : k < 16 := by
  unfold dutySlot at h
  split at h
  · rename_i j hj
    obtain ⟨-, h⟩ := Option.ite_none_right_eq_some.mp h
    cases h
    exact List.mem_range.mp (List.mem_filter.mp (List.mem_of_find?_eq_some hj)).1
  · cases h

theorem raiseTmp_eq (f : Fld) (s : State) (h : flagSource f.addr = none) :
    raiseTmp f s = rsat F.TMP_EVCNT_COUNT 1 (rput f 1 s) := by
  simp [raiseTmp, raise, raiseData, flagSet, h]

/-- A completed duty changes registers, the tempo unit and the signature. -/
theorem dutyDone_core (d k fin : Nat) (s : State) :
    dutyDone d k fin s = { s with regs := (dutyDone d k fin s).regs, tmp := (dutyDone d k fin s).tmp, saf.flow := s.saf.flow + 2 ^ d } := by
  unfold dutyDone
  simp only [raiseTmp_eq F.TMP_FLAGS_LATE _ rfl]
  split <;> split <;> rfl

theorem dutyDone_ran (d k fin : Nat) (s : State) : (dutyDone d k fin s).tmp.ran = s.tmp.ran ++ [d] := by
  unfold dutyDone
  simp only [raiseTmp_eq F.TMP_FLAGS_LATE _ rfl]
  split <;> split <;> rfl

/-- A flag of the TMP block leaves every register outside it. -/
theorem rget_raiseTmp_of_off (f g : Fld) (s : State) (hf : inTempoBlock f = true) (hg : inTempoBlock g = false) (h : flagSource f.addr = none) :
    rget (raiseTmp f s) g = rget s g := by
  rw [raiseTmp_eq f s h, rget_rsat_ne _ _ _ _ (fkey_ne_of_inTempoBlock hg (by decide)), rget_rput_ne _ _ _ _ (fkey_ne_of_inTempoBlock hg hf)]

theorem inTempoBlock_peak {k : Nat} (hk : k < 16) : inTempoBlock (F.TMP_PEAK_FINISH k) = true := by
  simp only [inTempoBlock, fieldBlock, fkey, F.TMP_PEAK_FINISH, beq_iff_eq]
  omega

theorem inTempoBlock_deadline {k : Nat} (hk : k < 16) : inTempoBlock (F.TMP_SLOT_DEADLINE k) = true := by
  simp only [inTempoBlock, fieldBlock, fkey, F.TMP_SLOT_DEADLINE, beq_iff_eq]
  omega

/-- A register outside the TMP block does not show that a duty has completed. -/
theorem rget_dutyDone {d k fin : Nat} (s : State) {f : Fld} (hk : k < 16) (hf : inTempoBlock f = false) :
    rget (dutyDone d k fin s) f = rget s f := by
  have hpeak : ∀ t : State, rget (rput (F.TMP_PEAK_FINISH k) fin t) f = rget t f :=
    fun t => rget_rput_ne _ f fin t (fkey_ne_of_inTempoBlock hf (inTempoBlock_peak hk))
  have hlate : ∀ t : State, rget (raiseTmp F.TMP_FLAGS_LATE t) f = rget t f := fun t => rget_raiseTmp_of_off _ f t rfl hf rfl
  simp only [dutyDone, rget_ite, hpeak, hlate, ite_self]
  rfl

theorem rget_dutyDone_peak {k fin : Nat} (d : Nat) (s : State) (hk : k < 16) (hfin : fin < 16384) :
    rget (dutyDone d k fin s) (F.TMP_PEAK_FINISH k) = max (rget s (F.TMP_PEAK_FINISH k)) fin := by
  have hmod : fin % 2 ^ (F.TMP_PEAK_FINISH k).width = fin := Nat.mod_eq_of_lt hfin
  have hlate : ∀ t : State, rget (raiseTmp F.TMP_FLAGS_LATE t) (F.TMP_PEAK_FINISH k) = rget t (F.TMP_PEAK_FINISH k) := by
    intro t
    refine rget_raiseData_ne 0 F.TMP_EVCNT_COUNT F.TMP_FLAGS_LATE _ t ?_ ?_ ?_ <;>
      simp only [fkey, F.TMP_PEAK_FINISH, F.TMP_FLAGS_LATE, F.TMP_EVCNT_COUNT, F.SAF_EVQOVF_COUNT] <;> omega
  have hput : ∀ t : State, rget (rput (F.TMP_PEAK_FINISH k) fin t) (F.TMP_PEAK_FINISH k) = fin :=
    fun t => (rget_rput_self _ _ t).trans hmod
  simp only [dutyDone, rget_ite, hput, hlate, ite_self]
  split
  case isTrue h => exact (max_eq_right h.le).symm
  case isFalse h => exact (max_eq_left (not_lt.mp h)).symm

theorem rget_dutyDone_late (d k fin : Nat) (s : State) (h : rget s (F.TMP_SLOT_DEADLINE k) < fin) :
    rget (dutyDone d k fin s) F.TMP_FLAGS_LATE = 1 := by
  unfold dutyDone
  simp only [if_pos h]
  exact rget_raiseData_flag 0 F.TMP_EVCNT_COUNT F.TMP_FLAGS_LATE _ (by decide) (by decide) (by decide)

/-- A duty that left the tempo unit and its registers alone leaves its checkpoint as it completes. -/
theorem dutyRan_dutyDone {d k fin : Nat} {s u : State} (hk : k < 16) (hfin : fin < 16384) (htmp : u.tmp = s.tmp) (hflow : u.saf.flow = s.saf.flow)
    (hreg : ∀ f, inTempoBlock f = true → rget u f = rget s f) : DutyRan d k fin s (dutyDone d k fin u) := by
  refine ⟨?_, ?_, ?_, ?_⟩
  · rw [dutyDone_ran, htmp]
  · rw [dutyDone_core, hflow]
  · rw [rget_dutyDone_peak d u hk hfin, hreg _ (inTempoBlock_peak hk)]
  · intro h
    exact rget_dutyDone_late d k fin u (by rwa [hreg _ (inTempoBlock_deadline hk)])

theorem dutyRan_of_tempoView {d k fin : Nat} {s u : State} (hk : k < 16) (hfin : fin < 16384) (h : tempoView u = tempoView s) :
    DutyRan d k fin s (dutyDone d k fin u) :=
  dutyRan_dutyDone hk hfin (tmp_of_tempoView h) (flow_of_tempoView h) (fun _ hf => rget_of_tempoView h hf)

theorem runDuty_eq {d fin k : Nat} {f : State → State} {s : State} (h : dutySlot s d fin = some k) :
    runDuty d fin f s = dutyDone d k fin (f s) := by
  simp only [runDuty, h]

/-- A duty that completes in slot k. -/
theorem does_runDuty {c : Instr} {d fin k : Nat} {f : State → State} {s : State} {P : State → Prop} (hc : exec c s = .next (runDuty d fin f s))
    (h : dutySlot s d fin = some k) (hP : P (dutyDone d k fin (f s))) : Does c s P :=
  ⟨_, by rw [hc, runDuty_eq h], hP⟩

@[simp] theorem dutyDone_brd (d k fin : Nat) (s : State) : (dutyDone d k fin s).brd = s.brd := by rw [dutyDone_core]
@[simp] theorem dutyDone_mtx (d k fin : Nat) (s : State) : (dutyDone d k fin s).mtx = s.mtx := by rw [dutyDone_core]
@[simp] theorem dutyDone_outs (d k fin : Nat) (s : State) : (dutyDone d k fin s).outs = s.outs := by rw [dutyDone_core]
@[simp] theorem dutyDone_mtr (d k fin : Nat) (s : State) : (dutyDone d k fin s).mtr = s.mtr := by rw [dutyDone_core]
@[simp] theorem dutyDone_bil (d k fin : Nat) (s : State) : (dutyDone d k fin s).bil = s.bil := by rw [dutyDone_core]
theorem dutyDone_saf (d k fin : Nat) (s : State) : (dutyDone d k fin s).saf = { s.saf with flow := s.saf.flow + 2 ^ d } := by rw [dutyDone_core]

/-! ### Conditions demanded -/

/-- A condition demanded is read from the safety controller's condition list and its two marks. -/
theorem demands_congr {s t : State} {code data : Nat} {mate : Bool} (hc : t.saf.cur = s.saf.cur) (hk : t.saf.toCheck = s.saf.toCheck)
    (hm : t.saf.toMate = s.saf.toMate) : Demands t code data mate ↔ Demands s code data mate := by
  simp only [Demands, hc, hk, hm]

theorem demands_dutyDone {d k fin : Nat} {s : State} {code data : Nat} {mate : Bool} :
    Demands (dutyDone d k fin s) code data mate ↔ Demands s code data mate :=
  demands_congr (by rw [dutyDone_saf]) (by rw [dutyDone_saf]) (by rw [dutyDone_saf])

theorem demands_raise {c : Fld} {fl : List Fld} {s : State} {code data : Nat} {mate : Bool} :
    Demands (raise c fl s) code data mate ↔ Demands s code data mate := demands_congr (by simp) (by simp) (by simp)

theorem demands_raiseIf {b : Bool} {c : Fld} {fl : List Fld} {s : State} {code data : Nat} {mate : Bool} :
    Demands (raiseIf b c fl s) code data mate ↔ Demands s code data mate := by
  unfold raiseIf; split
  · exact demands_raise
  · rfl

theorem safRecord_saf (code data : Nat) (s : State) : (safRecord code data s).saf = s.saf := by
  unfold safRecord; split <;> rfl

/-- A condition changes the list of conditions and the two marks of the safety controller. -/
theorem safCause_saf (code data : Nat) (mate : Bool) (s : State) :
    (safCause code data mate s).saf = { s.saf with
      cur := if s.saf.cur.contains (code, data) then s.saf.cur else (code, data) :: s.saf.cur
      toCheck := if mate then s.saf.toCheck else s.saf.toCheck <|> some code
      toMate := if mate then s.saf.toMate <|> some code else s.saf.toMate } := by
  simp only [safCause]
  split
  · rw [safRecord_saf]
  · rfl

theorem mem_cur_safCause {s : State} {x : Nat × Nat} (h : x ∈ s.saf.cur) (code data : Nat) (mate : Bool) :
    x ∈ (safCause code data mate s).saf.cur := by
  rw [safCause_saf]
  dsimp only
  split
  · exact h
  · exact List.mem_cons_of_mem _ h

/-- A further condition takes none of those demanded back. -/
theorem demands_safCause_of_demands {s : State} {code data : Nat} {mate : Bool} (h : Demands s code data mate) (c d : Nat) (m : Bool) :
    Demands (safCause c d m s) code data mate := by
  obtain ⟨hcur, hto⟩ := h
  refine ⟨mem_cur_safCause hcur c d m, ?_⟩
  rw [safCause_saf]
  cases mate <;> cases m <;> simp_all

/-! ### FREEZE (R10, R198) -/

/-- FREEZE looks at one safety output. -/
def compareOutput (so : BitVec 4) (x : Nat) (t : State) : State :=
  if so.getLsbD x != (sOut t x).prev && !inTestWindow t x then soFault 0x0A x t else t

theorem compareOutputs_eq (so : BitVec 4) (s : State) (h : s.pwr.vsAbsent = false) :
    compareOutputs so s = eachUpTo 4 (compareOutput so) s := by
  simp only [compareOutputs, h]
  rfl

theorem sout_soFault (code x : Nat) (s : State) :
    (soFault code x s).saf.sout = Tab.upd s.saf.sout x (fun o => { o with latch := true, act := false }) := by
  rw [soFault, safCause_saf, raiseSio, raiseData_saf]
  rfl

theorem sOut_soFault_self (code : Nat) {x : Nat} (s : State) (h : x < 4) :
    sOut (soFault code x s) x = { sOut s x with latch := true, act := false } := by
  rw [sOut, sout_soFault, Tab.get_upd_self _ _ _ _ h, sOut]

theorem sOut_soFault_ne (code : Nat) {x y : Nat} (s : State) (h : y ≠ x) : sOut (soFault code x s) y = sOut s y := by
  rw [sOut, sout_soFault, Tab.get_upd_ne _ _ _ _ _ h, sOut]

/-- An output that is latched off keeps its command of the tempo before and its test pulses. -/
theorem sOut_soFault_kept (code : Nat) {x y : Nat} (s : State) (hx : x < 4) :
    (sOut (soFault code x s) y).prev = (sOut s y).prev ∧ (sOut (soFault code x s) y).darkHi = (sOut s y).darkHi
      ∧ (sOut (soFault code x s) y).darkLo = (sOut s y).darkLo := by
  by_cases h : y = x
  · subst h
    rw [sOut_soFault_self code s hx]
    exact ⟨rfl, rfl, rfl⟩
  · rw [sOut_soFault_ne code s h]
    exact ⟨rfl, rfl, rfl⟩

theorem inTestWindow_congr {s t : State} {y : Nat} (hn : t.tmp = s.tmp) (hi : (sOut t y).darkHi = (sOut s y).darkHi)
    (lo : (sOut t y).darkLo = (sOut s y).darkLo) : inTestWindow t y = inTestWindow s y := by
  unfold inTestWindow sinceT
  rw [hn, hi, lo]

/-- Output x stands latched off with its condition held (R10, R172). -/
def SoLatched (t : State) (x : Nat) : Prop := (sOut t x).latch = true ∧ (sOut t x).act = false ∧ (0x0A, x) ∈ t.saf.cur

theorem soLatched_soFault {x : Nat} (s : State) (hx : x < 4) : SoLatched (soFault 0x0A x s) x := by
  refine ⟨?_, ?_, (safCause_demands 0x0A x false _).1⟩ <;> rw [sOut_soFault_self _ s hx]

theorem SoLatched.after_soFault {s : State} {y : Nat} (h : SoLatched s y) {x : Nat} (hx : x < 4) : SoLatched (soFault 0x0A x s) y := by
  by_cases e : y = x
  · rw [e]
    exact soLatched_soFault s hx
  · obtain ⟨hl, ha, hc⟩ := h
    refine ⟨?_, ?_, mem_cur_safCause ?_ _ _ _⟩
    · rwa [sOut_soFault_ne _ s e]
    · rwa [sOut_soFault_ne _ s e]
    · rw [raiseSio, raiseData_saf]
      exact hc

theorem eachUpTo_succ (n : Nat) (f : Nat → State → State) (s : State) : eachUpTo (n + 1) f s = f n (eachUpTo n f s) := by
  simp [eachUpTo, List.range_succ]

/-- What every step of a loop leaves alone, the loop leaves alone. -/
theorem eachUpTo_frame {α : Type} (p : State → α) (n : Nat) (f : Nat → State → State) (s : State) (h : ∀ i t, i < n → p (f i t) = p t) :
    p (eachUpTo n f s) = p s := by
  induction n with
  | zero => rfl
  | succ n ih => rw [eachUpTo_succ, h n _ (Nat.lt_succ_self n), ih (fun i t hi => h i t (Nat.lt_succ_of_lt hi))]

/-- After the first n outputs: what FREEZE compares an output with stands as before, and every output found different outside a test
window is latched off. -/
theorem compareOutput_loop (so : BitVec 4) (s : State) (n : Nat) (hn : n ≤ 4) :
    let t := eachUpTo n (compareOutput so) s
    (∀ y, (sOut t y).prev = (sOut s y).prev ∧ inTestWindow t y = inTestWindow s y)
      ∧ ∀ y, y < n → so.getLsbD y ≠ (sOut s y).prev → inTestWindow s y = false → SoLatched t y := by
  induction n with
  | zero => exact ⟨fun y => ⟨rfl, rfl⟩, fun y hy => absurd hy (Nat.not_lt_zero y)⟩
  | succ n ih =>
    obtain ⟨hkept, hfound⟩ := ih (by omega)
    rw [eachUpTo_succ]
    generalize eachUpTo n (compareOutput so) s = t at hkept hfound
    simp only [compareOutput]
    split
    case isTrue =>
      refine ⟨fun y => ?_, fun y hy hd hw => ?_⟩
      · obtain ⟨hp, hi, hlo⟩ := sOut_soFault_kept 0x0A (y := y) t (show n < 4 by omega)
        exact ⟨hp.trans (hkept y).1, (inTestWindow_congr (by simp [soFault]) hi hlo).trans (hkept y).2⟩
      · rcases Nat.lt_succ_iff_lt_or_eq.mp hy with h | rfl
        · exact (hfound y h hd hw).after_soFault (by omega)
        · exact soLatched_soFault t (by omega)
    case isFalse hno =>
      refine ⟨hkept, fun y hy hd hw => ?_⟩
      rcases Nat.lt_succ_iff_lt_or_eq.mp hy with h | rfl
      · exact hfound y h hd hw
      · rw [(hkept y).1, (hkept y).2, hw] at hno
        simp only [Bool.not_false, Bool.and_true, bne_iff_ne, ne_eq, not_not] at hno
        exact absurd hno hd

theorem compareOutputs_latches (so : BitVec 4) (s : State) (x : Fin 4) (hv : s.pwr.vsAbsent = false) (hd : so.getLsbD x ≠ (sOut s x).prev)
    (hw : inTestWindow s x = false) : SoLatched (compareOutputs so s) x := by
  rw [compareOutputs_eq so s hv]
  exact (compareOutput_loop so s 4 (le_refl 4)).2 x x.isLt hd hw

/-- A report that agrees with every output leaves the state. -/
theorem compareOutputs_agreeing (so : BitVec 4) (s : State) (h : ∀ x : Fin 4, so.getLsbD x = (sOut s x).prev) : compareOutputs so s = s := by
  unfold compareOutputs
  split
  · rfl
  · have hstep : ∀ n, n ≤ 4 → eachUpTo n (compareOutput so) s = s := by
      intro n hn
      induction n with
      | zero => rfl
      | succ n ih => simp [eachUpTo_succ, ih (by omega), compareOutput, h ⟨n, by omega⟩]
    exact hstep 4 (le_refl 4)

theorem coilCmd_saf (c : Nat) (b : Bool) (s : State) : (coilCmd c b s).saf = s.saf := by
  unfold coilCmd; split <;> rfl

theorem coilCmd_regs (c : Nat) (b : Bool) (s : State) : (coilCmd c b s).regs = s.regs := by
  unfold coilCmd; split <;> rfl

/-- A trip of the residual-current function shows in RCTRIP and TRIP and changes nothing else of the safety controller. -/
theorem rcTripOutlets_saf (all : Bool) (s : State) :
    (rcTripOutlets all s).saf = { s.saf with evq := (rcTripOutlets all s).saf.evq } := by
  unfold rcTripOutlets
  simp only [raiseSaf, raise]
  rw [raiseData_saf, rput_saf, eachUpTo_frame State.saf]
  intro n t _
  split
  · split
    · exact coilCmd_saf _ _ _
    · rfl
  · rfl

theorem rget_rcTripOutlets_sens (all : Bool) (s : State) : rget (rcTripOutlets all s) F.SAF_RC_SENS = rget s F.SAF_RC_SENS := by
  unfold rcTripOutlets
  simp only [raiseSaf, raise]
  rw [rget_raiseData_ne _ _ _ _ _ (by decide) (by decide) (by decide), rget_rput_ne _ _ _ _ (by decide)]
  refine rget_congr _ (eachUpTo_frame State.regs _ _ _ ?_)
  intro n t _
  split
  · split
    · exact coilCmd_regs _ _ _
    · rfl
  · rfl

theorem rcSensorFault_saf (s : State) : (rcSensorFault s).saf = { s.saf with evq := (rcSensorFault s).saf.evq } := by
  have h : (raiseSaf F.SAF_FLAGS_RCSENS (rput F.SAF_RC_SENS 1 s)).saf
      = { s.saf with evq := (raiseSaf F.SAF_FLAGS_RCSENS (rput F.SAF_RC_SENS 1 s)).saf.evq } := raiseData_saf _ _ _ _
  unfold rcSensorFault
  split
  · rw [rcTripOutlets_saf, h]
  · exact h

theorem rget_rcSensorFault_sens (s : State) : rget (rcSensorFault s) F.SAF_RC_SENS = 1 := by
  have h : rget (raiseSaf F.SAF_FLAGS_RCSENS (rput F.SAF_RC_SENS 1 s)) F.SAF_RC_SENS = 1 := by
    rw [raiseSaf, raise, rget_raiseData_ne _ _ _ _ _ (by decide) (by decide) (by decide), rget_rput_self]
    rfl
  unfold rcSensorFault
  split
  · rw [rget_rcTripOutlets_sens, h]
  · exact h

/-- FREEZE leaves of the safety controller what the two comparisons left. -/
theorem freezeDuty_saf (rep : Report) (exc : Bool) (s : State) :
    (freezeDuty rep exc s).saf = { (compareOutputs rep.so s).saf with
      lcDiff := if lchOn (compareOutputs rep.so s) then rep.lc.toNat ^^^ (compareOutputs rep.so s).lch.prev else 0
      evq := (freezeDuty rep exc s).saf.evq } := by
  unfold freezeDuty
  split
  · rw [rcSensorFault_saf]; rfl
  · rfl

theorem compareOutput_pwr_lch (so : BitVec 4) (x : Nat) (t : State) :
    ((compareOutput so x t).pwr, (compareOutput so x t).lch) = (t.pwr, t.lch) := by
  unfold compareOutput; split
  · simp [soFault]
  · rfl

/-- The comparison of the outputs leaves the power state and the load channels. -/
theorem compareOutputs_pwr_lch (so : BitVec 4) (s : State) : ((compareOutputs so s).pwr, (compareOutputs so s).lch) = (s.pwr, s.lch) := by
  unfold compareOutputs; split
  · rfl
  · exact eachUpTo_frame (fun t => (t.pwr, t.lch)) 4 (compareOutput so) s (fun x t _ => compareOutput_pwr_lch so x t)

theorem lcDiff_freezeDuty (rep : Report) (exc : Bool) (s : State) :
    (freezeDuty rep exc s).saf.lcDiff = if lchOn s then rep.lc.toNat ^^^ s.lch.prev else 0 := by
  obtain ⟨hp, hl⟩ := Prod.mk.inj (compareOutputs_pwr_lch rep.so s)
  rw [freezeDuty_saf]
  unfold lchOn
  rw [hp, hl]

theorem does_freeze {s : State} {fin k : Nat} (so : BitVec 4) (lc : BitVec 16) (exc : Bool) (hfin : fin < 16384)
    (h : dutySlot s 0 fin = some k) :
    Does (.freeze fin ⟨so, lc⟩ exc) s (fun t => DutyRan 0 k fin s t
      ∧ (exc = true ∨ rcOn s = false → (∀ x : Fin 4, so.getLsbD x = (sOut s x).prev) → t.saf.sout = s.saf.sout ∧ t.saf.cur = s.saf.cur)
      ∧ (∀ x : Fin 4, s.pwr.vsAbsent = false → so.getLsbD x ≠ (sOut s x).prev → inTestWindow s x = false →
          (sOut t x).latch = true ∧ (sOut t x).act = false ∧ (0x0A, x.val) ∈ t.saf.cur)
      ∧ t.saf.lcDiff = (if lchOn s then lc.toNat ^^^ s.lch.prev else 0)
      ∧ (exc = false → rcOn s = true → rget t F.SAF_RC_SENS = 1)) := by
  have hk := dutySlot_lt h
  refine does_runDuty rfl h ⟨dutyRan_of_tempoView hk hfin (tempoView_freezeDuty _ _ s), ?agree, ?differ, ?loads, ?excitation⟩
  case agree =>
    intro _ he
    rw [dutyDone_saf, freezeDuty_saf, compareOutputs_agreeing so s he]
    exact ⟨rfl, rfl⟩
  case differ =>
    intro x hv hd hw
    obtain ⟨hl, ha, hc⟩ := compareOutputs_latches so s x hv hd hw
    refine ⟨?_, ?_, ?_⟩
    · rwa [sOut, dutyDone_saf, freezeDuty_saf]
    · rwa [sOut, dutyDone_saf, freezeDuty_saf]
    · rwa [dutyDone_saf, freezeDuty_saf]
  case loads =>
    rw [dutyDone_saf]
    exact lcDiff_freezeDuty _ exc s
  case excitation =>
    intro he hr
    rw [rget_dutyDone _ hk (by decide)]
    simp only [freezeDuty, hr, he, Bool.not_false, Bool.and_self, if_true]
    exact rget_rcSensorFault_sens _

/-! ### The Board's duties (R104, R105, R107) -/

theorem boardEcc_mv (ecc : Ecc) (s : State) : (boardEcc ecc s).brd.mv = s.brd.mv := by
  cases ecc <;> simp [boardEcc]

theorem boardEcc_mvc (ecc : Ecc) (s : State) : (boardEcc ecc s).brd.mvc = s.brd.mvc := by
  cases ecc <;> simp [boardEcc]

/-- An uncorrectable word withholds the tempo's outputs and demands MATE (R107). -/
theorem boardEcc_uncorrectable (s : State) :
    (boardEcc .uncorrectable s).brd.scrubBad = true ∧ Demands (boardEcc .uncorrectable s) 0x08 0 true :=
  ⟨by simp [boardEcc], safCause_demands _ _ _ _⟩

/-- Of the Board and of the demands, a move leaves what the memory's check has left. -/
theorem moveTrue_brd (ecc : Ecc) (flips : List (Nat × Nat)) (s : State) :
    (moveTrue ecc flips s).brd = (boardEcc ecc { s with brd.mv := some (moveEval s false flips) }).brd := by
  simp [moveTrue]

theorem demands_moveTrue {ecc : Ecc} {flips : List (Nat × Nat)} {s : State} {code data : Nat} {mate : Bool} :
    Demands (moveTrue ecc flips s) code data mate
      ↔ Demands (boardEcc ecc { s with brd.mv := some (moveEval s false flips) }) code data mate :=
  demands_raiseIf

theorem does_moveTrue {s : State} {fin k : Nat} (ecc : Ecc) (flips : List (Fin 64 × Fin 21)) (hfin : fin < 16384) (h : dutySlot s 1 fin = some k) :
    Does (.moveTrue fin ecc flips) s (fun t => DutyRan 1 k fin s t ∧ t.brd.mv = some (moveEval (moveStart s) false (flipList flips))
      ∧ (ecc = .uncorrectable → t.brd.scrubBad = true ∧ Demands t 0x08 0 true)) := by
  refine does_runDuty rfl h ⟨dutyRan_of_tempoView (dutySlot_lt h) hfin (by simp), ?_, ?_⟩
  · rw [dutyDone_brd, moveTrue_brd, boardEcc_mv]
  · rintro rfl
    rw [dutyDone_brd, moveTrue_brd, demands_dutyDone, demands_moveTrue]
    exact boardEcc_uncorrectable _

theorem does_moveComp {s : State} {fin k : Nat} (ecc : Ecc) (flips : List (Fin 64 × Fin 21)) (hfin : fin < 16384) (h : dutySlot s 2 fin = some k) :
    Does (.moveComp fin ecc flips) s (fun t => DutyRan 2 k fin s t ∧ t.brd.mvc = some (moveEval s true (flipList flips))
      ∧ (ecc = .uncorrectable → t.brd.scrubBad = true ∧ Demands t 0x08 0 true)) := by
  refine does_runDuty rfl h ⟨dutyRan_of_tempoView (dutySlot_lt h) hfin (by simp), ?_, ?_⟩
  · rw [dutyDone_brd, moveComp, boardEcc_mvc]
  · rintro rfl
    rw [dutyDone_brd, demands_dutyDone]
    exact boardEcc_uncorrectable _

theorem boardCompare_agreeing {s : State} {a b : Move} (ha : s.brd.mv = some a) (hb : s.brd.mvc = some b) (hd : moveDiff a b = none) :
    boardCompare s = { s with brd.agreed := some a.map } := by
  simp only [boardCompare, ha, hb, hd]

theorem boardCompare_differing {s : State} {a b : Move} {sq el : Nat} (ha : s.brd.mv = some a) (hb : s.brd.mvc = some b)
    (hd : moveDiff a b = some (sq, el)) :
    boardCompare s = safCause 0x07 sq s.brd.mismatchPrev (raise F.BRD_EVCNT_COUNT [F.BRD_FLAGS_MISMATCH]
      (rput F.BRD_MISMATCH_ELEM el (rput F.BRD_MISMATCH_SQUARE sq { s with brd.agreed := some 0, brd.mismatch := true }))) := by
  simp only [boardCompare, ha, hb, hd]

theorem does_compare_agreeing {s : State} {fin k : Nat} {a b : Move} (hfin : fin < 16384) (h : dutySlot s 3 fin = some k)
    (ha : s.brd.mv = some a) (hb : s.brd.mvc = some b) (hd : moveDiff a b = none) :
    Does (.compare fin) s (fun t => DutyRan 3 k fin s t ∧ t.brd.agreed = some a.map ∧ t.brd.mismatch = s.brd.mismatch) := by
  refine does_runDuty rfl h ⟨dutyRan_of_tempoView (dutySlot_lt h) hfin (by simp), ?_, ?_⟩ <;>
    rw [dutyDone_brd, boardCompare_agreeing ha hb hd]

/-- A safety cause leaves every register outside SAF_CAUSE. -/
theorem rget_safCause_ne (code data : Nat) (mate : Bool) (s : State) (f : Fld) (h1 : fkey f ≠ fkey F.SAF_CAUSE_FIRST)
    (h2 : fkey f ≠ fkey F.SAF_CAUSE_LAST) (h3 : fkey f ≠ fkey F.SAF_CAUSE_DATA) (h4 : fkey f ≠ fkey F.SAF_CAUSE_COUNT) :
    rget (safCause code data mate s) f = rget s f := by
  have hr : rget (safRecord code data s) f = rget s f := by
    simp only [safRecord]
    rw [rget_rsat_ne _ _ _ _ h4, rget_rput_ne _ _ _ _ h3, rget_rput_ne _ _ _ _ h2]
    split
    · exact rget_rput_ne _ _ _ _ h1
    · rfl
  have he : ∃ u, (safCause code data mate s).regs = u.regs ∧ (u = s ∨ u = safRecord code data s) := by
    simp only [safCause]
    split
    · exact ⟨_, rfl, .inr rfl⟩
    · exact ⟨_, rfl, .inl rfl⟩
  obtain ⟨u, hu, rfl | rfl⟩ := he
  · exact rget_congr f hu
  · exact (rget_congr f hu).trans hr

theorem does_compare_differing {s : State} {fin k : Nat} {a b : Move} {sq el : Nat} (hfin : fin < 16384) (h : dutySlot s 3 fin = some k)
    (ha : s.brd.mv = some a) (hb : s.brd.mvc = some b) (hd : moveDiff a b = some (sq, el)) :
    Does (.compare fin) s (fun t => DutyRan 3 k fin s t ∧ t.brd.agreed = some 0 ∧ t.brd.mismatch = true
      ∧ rget t F.BRD_MISMATCH_SQUARE = sq % 64 ∧ rget t F.BRD_MISMATCH_ELEM = el % 32 ∧ rget t F.BRD_FLAGS_MISMATCH = 1
      ∧ Demands t 0x07 sq s.brd.mismatchPrev) := by
  have hk := dutySlot_lt h
  refine does_runDuty rfl h ⟨dutyRan_of_tempoView hk hfin (by simp), ?agreed, ?mismatch, ?square, ?elem, ?flag, ?demand⟩
  case agreed => simp [boardCompare_differing ha hb hd]
  case mismatch => simp [boardCompare_differing ha hb hd]
  case square =>
    rw [rget_dutyDone _ hk (by decide), boardCompare_differing ha hb hd,
      rget_safCause_ne _ _ _ _ _ (by decide) (by decide) (by decide) (by decide), raise,
      rget_raiseData_ne _ _ _ _ _ (by decide) (by decide) (by decide), rget_rput_ne _ _ _ _ (by decide), rget_rput_self]
    rfl
  case elem =>
    rw [rget_dutyDone _ hk (by decide), boardCompare_differing ha hb hd,
      rget_safCause_ne _ _ _ _ _ (by decide) (by decide) (by decide) (by decide), raise,
      rget_raiseData_ne _ _ _ _ _ (by decide) (by decide) (by decide), rget_rput_self]
    rfl
  case flag =>
    rw [rget_dutyDone _ hk (by decide), boardCompare_differing ha hb hd,
      rget_safCause_ne _ _ _ _ _ (by decide) (by decide) (by decide) (by decide)]
    exact rget_raiseData_flag _ _ _ _ (by decide) (by decide) (by decide)
  case demand =>
    rw [demands_dutyDone, boardCompare_differing ha hb hd]
    exact safCause_demands _ _ _ _

/-- The check of the memory leaves CRCLAST. -/
theorem rget_boardEcc_crclast (ecc : Ecc) (s : State) : rget (boardEcc ecc s) F.BRD_CRCLAST_CRC = rget s F.BRD_CRCLAST_CRC := by
  cases ecc
  case clean => rfl
  case corrected =>
    simp only [boardEcc, raise]
    rw [rget_raiseData_ne _ _ _ _ _ (by decide) (by decide) (by decide), rget_rsat_ne _ _ _ _ (by decide)]
  case uncorrectable =>
    simp only [boardEcc, raise]
    rw [rget_safCause_ne _ _ _ _ _ (by decide) (by decide) (by decide) (by decide),
      rget_raiseData_ne _ _ _ _ _ (by decide) (by decide) (by decide)]
    rfl

/-- SCRUB up to its comparison with the reference. -/
def scrubbed (ecc : Ecc) (upset : List (Nat × Byte)) (s : State) : State :=
  boardEcc ecc (rput F.BRD_CRCLAST_CRC (crc32 (upsetMem (sec s 3) upset)) s)

theorem boardScrub_eq (ecc : Ecc) (upset : List (Nat × Byte)) (s : State) (h : crc32 (upsetMem (sec s 3) upset) = rget s F.BRD_CRCREF_CRC) :
    boardScrub ecc upset s = scrubbed ecc upset s := if_pos h

theorem boardScrub_ne (ecc : Ecc) (upset : List (Nat × Byte)) (s : State) (h : crc32 (upsetMem (sec s 3) upset) ≠ rget s F.BRD_CRCREF_CRC) :
    boardScrub ecc upset s = safCause 0x08 1 true (raise F.BRD_EVCNT_COUNT [F.BRD_FLAGS_CRCERR]
      { scrubbed ecc upset s with brd.scrubBad := true }) := if_neg h

theorem rget_boardScrub_crclast (ecc : Ecc) (upset : List (Nat × Byte)) (s : State) :
    rget (boardScrub ecc upset s) F.BRD_CRCLAST_CRC = crc32 (upsetMem (sec s 3) upset) % 4294967296 := by
  have h : rget (scrubbed ecc upset s) F.BRD_CRCLAST_CRC = crc32 (upsetMem (sec s 3) upset) % 4294967296 := by
    rw [scrubbed, rget_boardEcc_crclast, rget_rput_self]
    rfl
  by_cases hc : crc32 (upsetMem (sec s 3) upset) = rget s F.BRD_CRCREF_CRC
  · rw [boardScrub_eq ecc upset s hc, h]
  · rw [boardScrub_ne ecc upset s hc, rget_safCause_ne _ _ _ _ _ (by decide) (by decide) (by decide) (by decide), raise,
      rget_raiseData_ne _ _ _ _ _ (by decide) (by decide) (by decide)]
    exact h

theorem demands_scrubBad {s : State} {code data : Nat} {mate b : Bool} :
    Demands { s with brd.scrubBad := b } code data mate ↔ Demands s code data mate := demands_congr rfl rfl rfl

/-- An uncorrectable word found by SCRUB withholds the tempo's outputs, whatever the CRC says (R107). -/
theorem boardScrub_uncorrectable (upset : List (Nat × Byte)) (s : State) :
    (boardScrub .uncorrectable upset s).brd.scrubBad = true ∧ Demands (boardScrub .uncorrectable upset s) 0x08 0 true := by
  have hs : (scrubbed .uncorrectable upset s).brd.scrubBad = true ∧ Demands (scrubbed .uncorrectable upset s) 0x08 0 true :=
    boardEcc_uncorrectable _
  by_cases hc : crc32 (upsetMem (sec s 3) upset) = rget s F.BRD_CRCREF_CRC
  · rw [boardScrub_eq _ upset s hc]
    exact hs
  · rw [boardScrub_ne _ upset s hc]
    exact ⟨by simp, demands_safCause_of_demands (demands_raise.mpr (demands_scrubBad.mpr hs.2)) _ _ _⟩

theorem does_scrub {s : State} {fin k : Nat} (ecc : Ecc) (upset : List (Nat × Byte)) (hfin : fin < 16384) (h : dutySlot s 7 fin = some k) :
    Does (.scrub fin ecc upset) s (fun t => DutyRan 7 k fin s t
      ∧ rget t F.BRD_CRCLAST_CRC = crc32 (upsetMem (sec s 3) upset) % 4294967296
      ∧ (crc32 (upsetMem (sec s 3) upset) ≠ rget s F.BRD_CRCREF_CRC →
          t.brd.scrubBad = true ∧ rget t F.BRD_FLAGS_CRCERR = 1 ∧ Demands t 0x08 1 true)
      ∧ (ecc = .uncorrectable → t.brd.scrubBad = true ∧ Demands t 0x08 0 true)) := by
  have hk := dutySlot_lt h
  refine does_runDuty rfl h ⟨dutyRan_of_tempoView hk hfin (by simp), ?crc, ?differs, ?ecc⟩
  case crc => rw [rget_dutyDone _ hk (by decide), rget_boardScrub_crclast]
  case differs =>
    intro hc
    rw [dutyDone_brd, rget_dutyDone _ hk (by decide), demands_dutyDone, boardScrub_ne ecc upset s hc]
    refine ⟨by simp, ?_, safCause_demands _ _ _ _⟩
    rw [rget_safCause_ne _ _ _ _ _ (by decide) (by decide) (by decide) (by decide)]
    exact rget_raiseData_flag _ _ _ _ (by decide) (by decide) (by decide)
  case ecc =>
    rintro rfl
    rw [dutyDone_brd, demands_dutyDone]
    exact boardScrub_uncorrectable upset s

/-! ### MXPORT (R161, R163) -/

/-- The port with the words of this exchange sent. -/
def mxSent (s : State) : State := { s with mtx.doc := mxDoc s, mtx.dof := mxDof s }

/-- Whether an exchange is faulty (R163). -/
def mxBad (s : State) (rx : MxRx) : Bool := !mxPattern s rx || !mxReadback s rx || mxFaults s rx != 0

/-- The port with the drivers' faults shown, and PORTERR raised for a faulty exchange. -/
def mxShown (rx : MxRx) (s : State) : State :=
  let t := rput F.MTX_PORT_DRVFLT (mxFaults s rx) (mxSent s)
  if mxBad s rx then raiseMtx F.MTX_FLAGS_PORTERR (rsat F.MTX_PORT_ERRCNT 1 t) else t

/-- The reaction to a read-back that differs or a driver's fault. -/
def mxReact (rx : MxRx) (s : State) : State :=
  if !mxReadback s rx || mxFaults s rx != 0 then safCause 0x0E 0 false (mxShown rx s) else mxShown rx s

theorem mxCheck_pattern {rx : MxRx} {s : State} (h : mxPattern s rx = true) :
    mxCheck rx s = { mxReact rx s with mtx.consec := 0, mtx.serNew := some (mxInputs s rx) } := if_pos h

theorem mxCheck_noPattern {rx : MxRx} {s : State} (h : mxPattern s rx = false) :
    mxCheck rx s =
      if 1 ≤ s.mtx.consec then safCause 0x0E 0 true { mxReact rx s with
        mtx.withhold := true, mtx.consec := min 2 ((mxReact rx s).mtx.consec + 1), mtx.serNew := none }
      else { mxReact rx s with mtx.withhold := true, mtx.consec := min 2 ((mxReact rx s).mtx.consec + 1), mtx.serNew := none } :=
  if_neg (fun hp => Bool.false_ne_true (h.symm.trans hp))

theorem mxShown_mtx (rx : MxRx) (s : State) : (mxShown rx s).mtx = { s.mtx with doc := mxDoc s, dof := mxDof s } := by
  unfold mxShown
  split
  · simp [mxSent]
  · rfl

theorem mxReact_mtx (rx : MxRx) (s : State) : (mxReact rx s).mtx = { s.mtx with doc := mxDoc s, dof := mxDof s } := by
  unfold mxReact
  split
  · rw [safCause_mtx, mxShown_mtx]
  · exact mxShown_mtx rx s

/-- An exchange whose pattern passes: its words are kept and its inputs taken (R161). -/
theorem mxCheck_mtx_pattern {rx : MxRx} {s : State} (h : mxPattern s rx = true) :
    (mxCheck rx s).mtx = { s.mtx with doc := mxDoc s, dof := mxDof s, consec := 0, serNew := some (mxInputs s rx) } := by
  rw [mxCheck_pattern h]
  show { (mxReact rx s).mtx with consec := 0, serNew := some (mxInputs s rx) } = _
  rw [mxReact_mtx]

/-- An exchange whose pattern fails: its words are kept and the strobe is withheld (R163). -/
theorem mxCheck_mtx_noPattern {rx : MxRx} {s : State} (h : mxPattern s rx = false) :
    (mxCheck rx s).mtx = { s.mtx with
      doc := mxDoc s, dof := mxDof s, withhold := true, consec := min 2 (s.mtx.consec + 1), serNew := none } := by
  have hm : { (mxReact rx s).mtx with withhold := true, consec := min 2 ((mxReact rx s).mtx.consec + 1), serNew := none }
      = { s.mtx with doc := mxDoc s, dof := mxDof s, withhold := true, consec := min 2 (s.mtx.consec + 1), serNew := none } := by
    rw [mxReact_mtx]
  rw [mxCheck_noPattern h]
  split
  · rw [safCause_mtx]
    exact hm
  · exact hm

theorem rget_mxReact_porterr {rx : MxRx} {s : State} (h : mxBad s rx = true) : rget (mxReact rx s) F.MTX_FLAGS_PORTERR = 1 := by
  have hs : rget (mxShown rx s) F.MTX_FLAGS_PORTERR = 1 := by
    rw [mxShown, if_pos h]
    exact rget_raiseData_flag _ _ _ _ (by decide) (by decide) (by decide)
  unfold mxReact
  split
  · rw [rget_safCause_ne _ _ _ _ _ (by decide) (by decide) (by decide) (by decide), hs]
  · exact hs

theorem mxReact_faulty {rx : MxRx} {s : State} (h : mxReadback s rx = false ∨ mxFaults s rx ≠ 0) :
    rget (mxReact rx s) F.MTX_FLAGS_PORTERR = 1 ∧ Demands (mxReact rx s) 0x0E 0 false := by
  have hb : (!mxReadback s rx || mxFaults s rx != 0) = true := by simpa using h
  refine ⟨rget_mxReact_porterr (by rw [mxBad, Bool.or_assoc, hb, Bool.or_true]), ?_⟩
  rw [mxReact, if_pos hb]
  exact safCause_demands _ _ _ _

theorem does_mxport_pattern {s : State} {fin k : Nat} (rx : MxRx) (hfin : fin < 16384) (h : dutySlot s 6 fin = some k)
    (hp : mxPattern s rx = true) :
    Does (.mxport fin rx) s (fun t => DutyRan 6 k fin s t ∧ t.mtx.doc = mxDoc s ∧ t.mtx.dof = mxDof s
      ∧ t.mtx.serNew = some (mxInputs s rx) ∧ t.mtx.consec = 0
      ∧ (mxReadback s rx = false ∨ mxFaults s rx ≠ 0 → rget t F.MTX_FLAGS_PORTERR = 1 ∧ Demands t 0x0E 0 false)) := by
  have hk := dutySlot_lt h
  have hm := mxCheck_mtx_pattern hp
  refine does_runDuty rfl h ⟨dutyRan_of_tempoView hk hfin (by simp), ?doc, ?dof, ?inputs, ?consec, ?faulty⟩
  case doc => rw [dutyDone_mtx, hm]
  case dof => rw [dutyDone_mtx, hm]
  case inputs => rw [dutyDone_mtx, hm]
  case consec => rw [dutyDone_mtx, hm]
  case faulty =>
    intro hf
    rw [rget_dutyDone _ hk (by decide), demands_dutyDone, mxCheck_pattern hp]
    exact mxReact_faulty hf

theorem does_mxport_noPattern {s : State} {fin k : Nat} (rx : MxRx) (hfin : fin < 16384) (h : dutySlot s 6 fin = some k)
    (hp : mxPattern s rx = false) :
    Does (.mxport fin rx) s (fun t => DutyRan 6 k fin s t ∧ t.mtx.doc = mxDoc s ∧ t.mtx.dof = mxDof s ∧ t.mtx.withhold = true
      ∧ t.mtx.serNew = none ∧ rget t F.MTX_FLAGS_PORTERR = 1 ∧ (1 ≤ s.mtx.consec → Demands t 0x0E 0 true)) := by
  have hk := dutySlot_lt h
  have hm := mxCheck_mtx_noPattern hp
  refine does_runDuty rfl h ⟨dutyRan_of_tempoView hk hfin (by simp), ?doc, ?dof, ?withhold, ?inputs, ?flag, ?demand⟩
  case doc => rw [dutyDone_mtx, hm]
  case dof => rw [dutyDone_mtx, hm]
  case withhold => rw [dutyDone_mtx, hm]
  case inputs => rw [dutyDone_mtx, hm]
  case flag =>
    have hr := rget_mxReact_porterr (rx := rx) (s := s) (by simp [mxBad, hp])
    rw [rget_dutyDone _ hk (by decide), mxCheck_noPattern hp]
    split
    · rw [rget_safCause_ne _ _ _ _ _ (by decide) (by decide) (by decide) (by decide)]
      exact hr
    · exact hr
  case demand =>
    intro hc
    rw [demands_dutyDone, mxCheck_noPattern hp, if_pos hc]
    exact safCause_demands _ _ _ _

/-! ### MATRIX, INTEGRATE and BOOK (R143, R233, R285) -/

theorem does_matrix {s : State} {fin k : Nat} (hfin : fin < 16384) (h : dutySlot s 5 fin = some k) :
    Does (.matrix fin) s (fun t => DutyRan 5 k fin s t ∧ t.mtx = (matrixDuty s).mtx ∧ (isCabinet s = false → t.mtx = s.mtx)) := by
  refine does_runDuty rfl h ⟨dutyRan_of_tempoView (dutySlot_lt h) hfin (by simp), dutyDone_mtx .., fun hc => ?_⟩
  rw [dutyDone_mtx, matrixDuty, if_pos (by simp [hc])]

theorem does_integrate {s : State} {fin k : Nat} (hfin : fin < 16384) (h : dutySlot s 8 fin = some k) :
    Does (.integrate fin) s (fun t => DutyRan 8 k fin s t ∧ t.mtr.pend = []
      ∧ t.bil.inbox = s.bil.inbox ++ incGroups (s.mtr.pend.filter (fun i => i.edge != nextEdge s))
          ++ [(nextEdge s, s.mtr.pend.filter (fun i => i.edge == nextEdge s))]) :=
  does_runDuty rfl h ⟨dutyRan_dutyDone (dutySlot_lt h) hfin rfl rfl (fun _ _ => rfl), by rw [dutyDone_mtr]; rfl, by rw [dutyDone_bil]; rfl⟩

/-- What BOOK does with the batches it has taken over from METER. -/
def bookTaken (off : Int) (batches : List (Nat × List Inc)) (s : State) : State :=
  bookJump (batches.foldl (fun t b => bookBatch off b t) { s with bil.inbox := [] })

theorem tempoView_bookTaken (off : Int) (batches : List (Nat × List Inc)) (s : State) :
    tempoView (bookTaken off batches s) = { tempoView s with inbox := [] } := by
  rw [bookTaken, tempoView_bookJump, tempoView_foldl _ _ _ (fun t b => tempoView_bookBatch off b t)]
  rfl

/-- BOOK takes over what METER has handed over, and leaves the tempo unit alone. -/
theorem tempoView_book (s : State) : tempoView (book s) = { tempoView s with inbox := [] } := by
  have h0 : tempoView (if (ltCheck s).bil.stepTok.isNone then slewStep (ltCheck s) else ltCheck s) = tempoView s := by simp
  have ht := fun off batches u => tempoView_bookTaken off batches u
  unfold book
  simp only [bookTaken] at ht
  simp [↓tempoView_update, ht]

/-! ### SEQ (R117) -/

/-- An evaluation of outlet n leaves the layout, the tempo and every other outlet. -/
def KeepsOthers (n : Nat) (s t : State) : Prop :=
  (t.loaded = s.loaded ∧ t.sec = s.sec ∧ t.tmp = s.tmp) ∧ ∀ m, m ≠ n → outlet t m = outlet s m

theorem KeepsOthers.refl (n : Nat) (s : State) : KeepsOthers n s s := ⟨⟨rfl, rfl, rfl⟩, fun _ _ => rfl⟩

theorem KeepsOthers.onOutlet {n : Nat} {s t : State} (h : KeepsOthers n s t) (f : Outlet → Outlet) : KeepsOthers n s (onOutlet n f t) :=
  ⟨h.1, fun m hm => (outlet_onOutlet_ne n m f t hm).trans (h.2 m hm)⟩

theorem KeepsOthers.coilCmd {n : Nat} {s t : State} (h : KeepsOthers n s t) (c : Nat) (b : Bool) : KeepsOthers n s (coilCmd c b t) := by
  unfold Machine.coilCmd
  split
  · exact h
  · exact h

theorem KeepsOthers.leftover {n : Nat} {s t : State} (h : KeepsOthers n s t) : KeepsOthers n s (leftover n t) := by
  unfold Machine.leftover dropRequest
  split
  · exact h
  · exact ((h.onOutlet _).onOutlet _).onOutlet _

theorem KeepsOthers.endSession {n : Nat} {s t : State} (h : KeepsOthers n s t) : KeepsOthers n s (endSession n t) := by
  unfold Machine.endSession
  refine KeepsOthers.onOutlet ?_ _
  split
  · exact h.onOutlet _
  · exact h

theorem KeepsOthers.toOos {n : Nat} {s t : State} (h : KeepsOthers n s t) : KeepsOthers n s (toOos n t) :=
  (h.endSession.onOutlet _).onOutlet _

theorem KeepsOthers.allOpen {n : Nat} {s t : State} (h : KeepsOthers n s t) : KeepsOthers n s (allOpen n t) := by
  unfold Machine.allOpen openKpKn
  refine KeepsOthers.coilCmd (KeepsOthers.onOutlet ?_ _) _ _
  split
  · exact ((h.coilCmd _ _).coilCmd _ _).onOutlet _
  · exact (h.coilCmd _ _).coilCmd _ _

theorem KeepsOthers.seqOutputs {n : Nat} {s t : State} (h : KeepsOthers n s t) : KeepsOthers n s (seqOutputs n t) := by
  unfold Machine.seqOutputs
  refine KeepsOthers.onOutlet (KeepsOthers.onOutlet ?_ _) _
  split
  · exact h.allOpen
  · exact h

theorem outletMismatch_outs (n : Nat) (s : State) : (outletMismatch n s).outs = s.outs := by
  unfold outletMismatch coilFault
  split
  · rw [safCause_outs]
    split
    · exact raiseMtx_outs _ _
    · rfl
  · rfl

theorem KeepsOthers.outletMismatch {n : Nat} {s t : State} (h : KeepsOthers n s t) : KeepsOthers n s (outletMismatch n t) := by
  refine ⟨?_, fun m hm => ?_⟩
  · unfold Machine.outletMismatch coilFault
    split
    · rw [safCause_loaded, safCause_sec, safCause_tmp]
      split
      · rw [raiseMtx_loaded, raiseMtx_sec, raiseMtx_tmp]
        exact h.1
      · exact h.1
    · exact h.1
  · rw [outlet, outletMismatch_outs]
    exact h.2 m hm

theorem KeepsOthers.oActive {n : Nat} {s t : State} (h : KeepsOthers n s t) (m : Nat) : oActive t m = oActive s m := by
  obtain ⟨⟨hl, hs, -⟩, -⟩ := h
  simp only [Machine.oActive, isPost, oType, oU8, Machine.sec, hl, hs]

theorem outlet_coilCmd (c : Nat) (b : Bool) (s : State) (n : Nat) : outlet (coilCmd c b s) n = outlet s n := by
  unfold coilCmd
  split <;> rfl

theorem outlet_allOpen_st {n : Nat} (s : State) (hn : n < 4) : (outlet (allOpen n s) n).st = (outlet s n).st := by
  unfold allOpen outCoil openKpKn
  rw [outlet_coilCmd, outlet_onOutlet_self _ _ _ hn]
  dsimp only
  split
  · rw [sessionEvent, outlet_onOutlet_self _ _ _ hn]
    simp only [outCoil, outlet_coilCmd]
  · simp only [outCoil, outlet_coilCmd]

theorem stateLimit_st (s : State) (n : Nat) (o : Outlet) : (stateLimit s n o).st = o.st := by
  unfold stateLimit
  split <;> rfl

/-- The outputs of a state leave the state. -/
theorem outlet_seqOutputs_st {n : Nat} (s : State) (hn : n < 4) : (outlet (seqOutputs n s) n).st = (outlet s n).st := by
  unfold seqOutputs
  rw [outlet_onOutlet_self _ _ _ hn, outlet_onOutlet_self _ _ _ hn]
  dsimp only
  rw [stateLimit_st]
  split
  · exact outlet_allOpen_st s hn
  · rfl

theorem outlet_toOos_st {n : Nat} (s : State) (hn : n < 4) : (outlet (toOos n s) n).st = .oos := by
  rw [toOos, outGo, outPend, outlet_onOutlet_self _ _ _ hn, outlet_onOutlet_self _ _ _ hn]

/-- An outlet that is not active discards its requests and nothing else. -/
theorem keepsOthers_seqOnce_of_inactive {n : Nat} {s t : State} (h : KeepsOthers n s t) (hi : oActive t n = false) :
    KeepsOthers n s (seqOnce n t) := by
  unfold seqOnce seqOutlet
  split
  · rw [if_pos (by rw [hi]; rfl)]
    exact (h.onOutlet _).leftover
  · exact h

/-- Outlet n stands in IDLE with a withdrawal frozen, and SEQ has not evaluated it in this tempo. -/
structure WithdrawalDue (n : Nat) (s : State) : Prop where
  running : s.tmp.running = true
  active : oActive s n = true
  waiting : (outlet s n).seqAt ≠ some s.tmp.now
  request : (outlet s n).reqFrz = 5
  idle : (outlet s n).st = .idle

/-- A withdrawal in IDLE takes the outlet out of service (R118). -/
theorem seqOnce_withdrawalDue {n : Nat} {s : State} (h : WithdrawalDue n s) (hn : n < 4) :
    seqOnce n s = outletMismatch n (onOutlet n (fun o => { o with seqAt := some s.tmp.now })
      (seqOutputs n (toOos n (taken n (trackLow n s))))) := by
  have hst : (outlet (trackLow n s) n).st = .idle := by rw [trackLow, outlet_onOutlet_self _ _ _ hn, h.idle]
  have hreq : (outlet (trackLow n s) n).reqFrz = 5 := by rw [trackLow, outlet_onOutlet_self _ _ _ hn, h.request]
  have hidle : seqIdle n (trackLow n s) = toOos n (taken n (trackLow n s)) := if_pos hreq
  rw [seqOnce, if_pos (by simp [h.running, h.waiting]), seqOutlet, if_neg (by simp [h.active])]
  simp only [hst, hidle]

theorem keepsOthers_seqOnce_of_withdrawalDue {n : Nat} {s : State} (h : WithdrawalDue n s) (hn : n < 4) : KeepsOthers n s (seqOnce n s) := by
  rw [seqOnce_withdrawalDue h hn]
  exact (((((KeepsOthers.refl n s).onOutlet _).onOutlet _).toOos.seqOutputs).onOutlet _).outletMismatch

theorem outlet_seqOnce_of_withdrawalDue {n : Nat} {s : State} (h : WithdrawalDue n s) (hn : n < 4) : (outlet (seqOnce n s) n).st = .oos := by
  rw [seqOnce_withdrawalDue h hn, outlet, outletMismatch_outs, ← outlet, outlet_onOutlet_self _ _ _ hn]
  exact (outlet_seqOutputs_st _ hn).trans (outlet_toOos_st _ hn)

/-- What another outlet's evaluation leaves keeps the withdrawal due. -/
theorem WithdrawalDue.of_keepsOthers {n m : Nat} {s t : State} (h : WithdrawalDue n s) (hk : KeepsOthers m s t) (hm : n ≠ m) :
    WithdrawalDue n t := by
  have hact := hk.oActive n
  obtain ⟨⟨-, -, ht⟩, hout⟩ := hk
  constructor <;> simp only [ht, hout n hm, hact, h.running, h.active, h.waiting, h.request, h.idle, ne_eq, not_false_eq_true]

/-- SEQ up to outlet j: the inactive outlets stay inactive, and the active one is taken out of service when its turn comes. -/
theorem seqOnce_loop_withdrawn {s : State} {n : Fin 4} (hoth : ∀ m : Fin 4, m ≠ n → oActive s m = false) (hdue : WithdrawalDue n s)
    (j : Nat) (hj : j ≤ 4) :
    (∀ m, oActive (eachUpTo j seqOnce s) m = oActive s m)
      ∧ (j ≤ n → WithdrawalDue n (eachUpTo j seqOnce s)) ∧ (n < j → (outlet (eachUpTo j seqOnce s) n).st = .oos) := by
  induction j with
  | zero => exact ⟨fun _ => rfl, fun _ => hdue, fun h => absurd h (Nat.not_lt_zero _)⟩
  | succ j ih =>
    obtain ⟨hact, hbefore, hafter⟩ := ih (by omega)
    rw [eachUpTo_succ]
    generalize eachUpTo j seqOnce s = t at hact hbefore hafter
    by_cases e : j = n
    · subst e
      have hd := hbefore (le_refl _)
      have hk := keepsOthers_seqOnce_of_withdrawalDue hd n.isLt
      exact ⟨fun m => (hk.oActive m).trans (hact m), fun h => absurd h (by omega), fun _ => outlet_seqOnce_of_withdrawalDue hd n.isLt⟩
    · have hk := keepsOthers_seqOnce_of_inactive (KeepsOthers.refl j t)
        ((hact j).trans (hoth ⟨j, by omega⟩ (fun h => e (congrArg Fin.val h))))
      have hne : (n : Nat) ≠ j := fun h => e h.symm
      refine ⟨fun m => (hk.oActive m).trans (hact m), fun h => (hbefore (by omega)).of_keepsOthers hk hne, fun h => ?_⟩
      rw [hk.2 n hne]
      exact hafter (by omega)

theorem does_seq {s : State} {fin k : Nat} (hfin : fin < 16384) (h : dutySlot s 4 fin = some k) :
    Does (.seq fin) s (fun t => DutyRan 4 k fin s t ∧ t.outs = (seqAll s).outs
      ∧ ∀ n : Fin 4, (∀ m : Fin 4, m ≠ n → oActive s m = false) → SeqDue s n → (outlet s n).reqFrz = 5 → (outlet s n).st = .idle →
          (outlet t n).st = .oos) := by
  refine does_runDuty rfl h ⟨dutyRan_of_tempoView (dutySlot_lt h) hfin (by simp), dutyDone_outs .., ?_⟩
  intro n hoth hdue hreq hst
  rw [outlet, dutyDone_outs]
  obtain ⟨hrun, -, hact, hat, -⟩ := hdue
  exact (seqOnce_loop_withdrawn hoth ⟨hrun, hact, hat, hreq, hst⟩ 4 (le_refl 4)).2.2 n.isLt

/-! ### BOOK (R285) -/

theorem does_book {s : State} {fin k : Nat} (hfin : fin < 16384) (h : dutySlot s 9 fin = some k) :
    Does (.book fin) s (fun t => DutyRan 9 k fin s t ∧ t.bil = (book s).bil ∧ t.bil.inbox = []) := by
  obtain ⟨htmp, hflow, hinbox, hreg⟩ := kept_of_tempoView_inbox (tempoView_book s)
  refine does_runDuty rfl h ⟨dutyRan_dutyDone (dutySlot_lt h) hfin htmp hflow hreg, dutyDone_bil .., ?_⟩
  rw [dutyDone_bil, hinbox]

/-- Settles O1, duty by duty: what a duty does leaves the tempo unit alone, so its checkpoint is the one its completion writes, and its
effect stands behind the checkpoint. -/
theorem dutiesComplete : Obligations.DutiesComplete := by
  intro s fin k hfin
  exact ⟨fun so lc exc h => does_freeze so lc exc hfin h, fun ecc flips h => does_moveTrue ecc flips hfin h,
    fun ecc flips h => does_moveComp ecc flips hfin h, fun a b h ha hb hd => does_compare_agreeing hfin h ha hb hd,
    fun a b sq el h ha hb hd => does_compare_differing hfin h ha hb hd, fun h => does_seq hfin h, fun h => does_matrix hfin h,
    fun rx h hp => does_mxport_pattern rx hfin h hp, fun rx h hp => does_mxport_noPattern rx hfin h hp,
    fun ecc upset h => does_scrub ecc upset hfin h, fun h => does_integrate hfin h, fun h => does_book hfin h⟩

end Sys2Proof.Machine

end

section

/-! SUPPORT and O7. The time of the chain. -/

namespace Sys2Proof.Machine

/-! ### Registers of the tempo unit -/

/-- A flag that is no safety flag raised: every register but the flag and the event counter stands. -/
theorem rget_raiseTmp_ne {f g : Fld} (s : State) (h : flagSource f.addr = none) (hf : fkey g ≠ fkey f)
    (hc : fkey g ≠ fkey F.TMP_EVCNT_COUNT) : rget (raiseTmp f s) g = rget s g := by
  rw [raiseTmp_eq f s h, rget_rsat_ne _ _ _ _ hc, rget_rput_ne _ _ _ _ hf]

/-- A flag raised writes registers alone. -/
theorem raiseTmp_core (f : Fld) (s : State) (h : flagSource f.addr = none) : raiseTmp f s = { s with regs := (raiseTmp f s).regs } := by
  rw [raiseTmp_eq f s h]
  rfl

@[simp] theorem raiseTmp_tmp (f : Fld) (s : State) : (raiseTmp f s).tmp = s.tmp := raiseData_tmp ..

@[simp] theorem raiseTmp_pwr (f : Fld) (s : State) : (raiseTmp f s).pwr = s.pwr := raiseData_pwr ..

theorem rget_refSwitch_ne (k : Nat) (s : State) {f : Fld} (h : fkey f ≠ fkey F.CLK_REFSEL_BUSY) : rget (refSwitch k s) f = rget s f := by
  unfold refSwitch
  split
  · rfl
  · exact rget_rput_ne _ _ _ _ h

/-! ### The time source (R68, R69, R365) -/

theorem trimIncr_coord {s : State} (ofs : Int) (h : isCoord s = true) :
    trimIncr ofs s = rput F.TMP_INCR_INCR (clampI 0xC34B0000 0xC3550000 ((0xC3500000 : Int) - ofs * 65536 / 20000)).toNat s := if_pos h

theorem does_timeSourceLost {s : State} (absent : Bool) (hc : isCoord s = true) :
    Does (.timeSourceLost absent) s (fun t => rget t F.TMP_STATUS_SRCLOST = b2n absent
      ∧ rget t F.TMP_INCR_INCR = rget s F.TMP_INCR_INCR) := by
  have he : exec (.timeSourceLost absent) s = .next (rput F.TMP_STATUS_SRCLOST (b2n absent) s) := congrArg Host.Outcome.next (if_pos hc)
  refine ⟨_, he, ?_, rget_rput_ne _ _ _ _ (by decide)⟩
  rw [rget_rput_self]
  cases absent <;> rfl

theorem does_ppsEdge {s : State} (ns : Int) (hc : isCoord s = true) (hsrc : timeSrc s = 1) :
    Does (.ppsEdge ns) s (fun t => rget t F.TMP_STATUS_SRCLOST = 0
      ∧ rget t F.TMP_INCR_INCR = (clampI 0xC34B0000 0xC3550000 ((0xC3500000 : Int) - ns * 65536 / 20000)).toNat % 2 ^ 32) := by
  have he : exec (.ppsEdge ns) s = .next (rput F.TMP_STATUS_SRCLOST 0 (trimIncr ns s)) := congrArg Host.Outcome.next (if_pos ⟨hc, hsrc⟩)
  refine ⟨_, he, rget_rput_self _ _ _, ?_⟩
  rw [trimIncr_coord ns hc, rget_rput_ne _ _ _ _ (by decide), rget_rput_self]
  rfl

theorem does_ptpOffsetWrite {s : State} (ofs : Int) (hc : isCoord s = true) (hsrc : 2 ≤ timeSrc s) :
    Does (.ptpOffsetWrite ofs) s (fun t => t.tmp.ptpAt = some s.tmp.now ∧ rget t F.TMP_STATUS_SRCLOST = 0
      ∧ rget t F.TMP_INCR_INCR = (clampI 0xC34B0000 0xC3550000 ((0xC3500000 : Int) - ofs * 65536 / 20000)).toNat % 2 ^ 32) := by
  obtain ⟨u, hat, hu, he⟩ : ∃ u : State, u.tmp.ptpAt = some s.tmp.now ∧ isCoord u = true
      ∧ exec (.ptpOffsetWrite ofs) s = .next (rput F.TMP_STATUS_SRCLOST 0 (trimIncr ofs u)) :=
    ⟨rput F.NET_PTPOFSHI_OFS (ofSigned 64 ofs / 4294967296) (rput F.NET_PTPOFSLO_OFS (ofSigned 64 ofs % 4294967296)
      { s with tmp.ptpAt := some s.tmp.now }), rfl, hc, congrArg Host.Outcome.next (if_pos ⟨hc, hsrc⟩)⟩
  refine ⟨_, he, ?_, rget_rput_self _ _ _, ?_⟩
  · rw [trimIncr_coord ofs hu, rput_tmp, rput_tmp, hat]
  · rw [trimIncr_coord ofs hu, rget_rput_ne _ _ _ _ (by decide), rget_rput_self]
    rfl

theorem does_ptpOffsetTimeout {s : State} {at' : Nat} (hc : isCoord s = true) (hsrc : 2 ≤ timeSrc s) (hat : s.tmp.ptpAt = some at')
    (hlate : 160000 ≤ sinceT s at') : Does .ptpOffsetTimeout s (fun t => rget t F.TMP_STATUS_SRCLOST = 1) := by
  have he : exec .ptpOffsetTimeout s = .next (rput F.TMP_STATUS_SRCLOST 1 s) := by
    show Host.Outcome.next (ptpTimeout s) = _
    simp only [ptpTimeout, hat, hc, hsrc, hlate, decide_true, and_self, if_true]
  exact ⟨_, he, rget_rput_self _ _ _⟩

/-! ### HOLDOVER and the step back (R75, R78) -/

theorem toHoldover_mode (s : State) : (toHoldover s).tmp.mode = .holdover := by
  simp only [toHoldover, raiseTmp_tmp]
  split
  · unfold refSwitch
    split <;> rfl
  · rfl

theorem rget_toHoldover_syncloss (s : State) : rget (toHoldover s) F.TMP_FLAGS_SYNCLOSS = 1 :=
  rget_raiseData_flag _ _ _ _ (by decide) (by decide) (by decide)

theorem syncLoss_eq {s : State} {recLost : Bool} (hm : s.tmp.mode = .locked ∨ s.tmp.mode = .slew) (hl : recLost = true ∨ 8 ≤ s.tmp.missed) :
    syncLoss recLost s = toHoldover s := by
  refine if_pos ?_
  rw [Bool.and_eq_true, Bool.or_eq_true, Bool.or_eq_true, beq_iff_eq, beq_iff_eq, decide_eq_true_eq]
  exact ⟨hm, hl⟩

theorem does_syncLoss {s : State} (recLost : Bool) (hm : s.tmp.mode = .locked ∨ s.tmp.mode = .slew) (hl : recLost = true ∨ 8 ≤ s.tmp.missed) :
    Does (.syncLoss recLost) s (fun t => t.tmp.mode = .holdover ∧ rget t F.TMP_FLAGS_SYNCLOSS = 1) :=
  ⟨_, congrArg Host.Outcome.next (syncLoss_eq hm hl), toHoldover_mode s, rget_toHoldover_syncloss s⟩

theorem does_stepToSync {s : State} {e : Int} (hs : s.tmp.stepTo = some e) (hm : s.tmp.mode = .holdover) (hi : outletsIdle s = true) :
    Does .stepToSync s (fun t => t.tmp.stepDue = true) := by
  have he : exec .stepToSync s = .next { s with tmp.stepDue := true } := congrArg Host.Outcome.next (if_pos (by simp [hs, hm, hi]))
  exact ⟨_, he, rfl⟩

/-! ### Frames of the leads (R332, R337) -/

/-- A frame that its port takes and that the coordinator does not turn away. -/
theorem leadRecvCut_taken {want : Bytes → Bool} {take spoil : State → State} {p : LPort} {rx : LeadRx} {s : State} (hp : portOn s p = true)
    (hf : leadFault rx = 0) (hw : want rx.bytes = true) (hc : coordTurns s p rx.bytes = false) :
    leadRecvCut want take spoil p rx s = take s := by
  simp [leadRecvCut, hp, hf, hw, hc]

theorem leadFault_of_onlyFcsBad {rx : LeadRx} (h : onlyFcsBad rx = true) : leadFault rx = 1 := by
  simp only [onlyFcsBad, Bool.and_eq_true, Bool.not_eq_true'] at h
  obtain ⟨⟨⟨⟨⟨-, hfcs⟩, -⟩, -⟩, -⟩, -⟩ := h
  simp [leadFault, hfcs]

/-- A frame whose FCS alone has failed is forwarded spoiled and counted. -/
theorem leadRecvCut_spoiled {want : Bytes → Bool} {take spoil : State → State} {p : LPort} {rx : LeadRx} {s : State} (hp : portOn s p = true)
    (hf : onlyFcsBad rx = true) (hw : want rx.bytes = true) (hc : coordTurns s p rx.bytes = false) :
    leadRecvCut want take spoil p rx s = rsat F.LEA_BADFRM_COUNT 1 (spoil s) := by
  simp [leadRecvCut, hp, leadFault_of_onlyFcsBad hf, hf, hw, hc]

theorem coordTurns_of_not_coord {s : State} (p : LPort) (b : Bytes) (h : isCoord s = false) : coordTurns s p b = false := by
  simp [coordTurns, h]

theorem leadPut_ld {s : State} (good : Bool) (b : Bytes) (h : portOn s .ld = true) :
    leadPut good .ld b s = { s with lea.ldCut := some b, lea.ldFcs := leadFcs good b s } := by
  simp [leadPut, h]

theorem leadCut_lu {s : State} (b : Bytes) (h : portOn s .lu = true) :
    leadCut .lu b s = { s with lea.luCut := some b, lea.luFcs := leadFcs true b s } := by
  simp [leadCut, leadPut, h]

theorem does_dreqSend {s : State} (ns : Nat) (hrun : s.tmp.running = true) (hc : isCoord s = false)
    (hx : crossesAt s 1000000000 500000000 = true) (hp : portOn s .lu = true) (hd : dreqDone s = false) :
    Does (.dreqSend ns) s (fun t => t.tmp.dreqSeq = (s.tmp.dreqSeq + 1) % 65536 ∧ t.tmp.dreqT1 = s.tmp.chain + ns
      ∧ t.lea.luCut.isSome = true) := by
  let q := (s.tmp.dreqSeq + 1) % 65536
  let m := mkFrame tySync 0 0 (leBytes 1 1 ++ List.replicate 35 0 ++ leBytes 2 q) s
  obtain ⟨u, hu, hseq, hat, he⟩ : ∃ u : State, portOn u .lu = true ∧ u.tmp.dreqSeq = q ∧ u.tmp.dreqT1 = s.tmp.chain + ns
      ∧ exec (.dreqSend ns) s = .next (leadCut .lu m.1 u) :=
    ⟨{ m.2 with tmp.dreqSeq := q, tmp.dreqT1 := chainAt s ns }, hp, rfl, rfl,
      congrArg Host.Outcome.next (if_pos (by simp [hrun, hc, hx, hp, hd]))⟩
  rw [leadCut_lu m.1 hu] at he
  exact ⟨_, he, hseq, hat, rfl⟩

theorem does_dreqRx {s : State} (rx : LeadRx) (ns : Nat) (hp : portOn s .ld = true) (hf : leadFault rx = 0) (ht : hTyp rx.bytes = tySync)
    (hk : u8 rx.bytes 8 = 1) :
    Does (.dreqRx .ld rx ns) s (fun t => t.tmp.ldDreqSeq = u16 (fBody rx.bytes) 0x24 ∧ t.tmp.ldDreqAt = s.tmp.chain + ns) := by
  have hc : coordTurns s .ld rx.bytes = false := by simp [coordTurns]
  have hw : (hTyp rx.bytes == tySync && u8 rx.bytes 8 == 1) = true := by simp [ht, hk]
  exact ⟨_, congrArg Host.Outcome.next (leadRecvCut_taken hp hf hw hc), rfl, rfl⟩

/-! ### A TIME frame (R71, R73, R77, R78, R332) -/

/-- A TIME frame noted: its arrival, a measured link delay and the mark of the time source, before its phase error is judged. -/
def timeRead (b : Bytes) (d : Int × Bool) (s : State) : State :=
  let s1 := { s with tmp.gotTime := true, tmp.missed := 0, tmp.measured := s.tmp.measured || d.2, lea.luSilent := 0, lea.segHead := false }
  rputB F.TMP_STATUS_SRCLOST ((u8 b 2).testBit 1) (if d.2 then rput F.TMP_LINKDLY_DELAY (min 0xFFFF d.1.toNat) s1 else s1)

theorem timeTake_eq (m : Bytes) (ns res : Nat) (s : State) :
    let b := fBody m
    let d := linkDelay s b (chainAt s ns)
    timeTake m ns res s = leadCut .ld (m.take 8 ++ timeForward s b d.1 (chainAt s ns) res)
      (timeMode b (corrNs b + d.1) (phaseError b d.1 (chainAt s ns)) (timeRead b d s)) := rfl

theorem timeRead_tmp (b : Bytes) (d : Int × Bool) (s : State) :
    (timeRead b d s).tmp = { s.tmp with gotTime := true, missed := 0, measured := s.tmp.measured || d.2 } := by
  unfold timeRead
  simp only [rputB_tmp]
  split <;> rfl

theorem rget_timeRead_sel (b : Bytes) (d : Int × Bool) (s : State) : rbit (timeRead b d s) F.CLK_REFSEL_SEL = rbit s F.CLK_REFSEL_SEL := by
  have h : rget (timeRead b d s) F.CLK_REFSEL_SEL = rget s F.CLK_REFSEL_SEL := by
    unfold timeRead
    refine (rget_rput_ne _ _ _ _ (by decide)).trans ?_
    split
    · exact rget_rput_ne _ _ _ _ (by decide)
    · rfl
  rw [rbit, rbit, h]

theorem portOn_timeRead (b : Bytes) (d : Int × Bool) (s : State) (p : LPort) : portOn (timeRead b d s) p = portOn s p := by
  unfold timeRead
  split <;> rfl

theorem portOn_refSwitch (k : Nat) (s : State) (p : LPort) : portOn (refSwitch k s) p = portOn s p := by
  unfold refSwitch
  split <;> rfl

theorem portOn_raiseTmp (f : Fld) (s : State) (p : LPort) (h : flagSource f.addr = none) : portOn (raiseTmp f s) p = portOn s p := by
  rw [raiseTmp_core f s h]
  rfl

theorem refSwitch_tmp (k : Nat) (s : State) : (refSwitch k s).tmp = s.tmp := by
  unfold refSwitch
  split <;> rfl

theorem timeMode_first {b : Bytes} {late e : Int} {s : State} (h : s.tmp.adopted = false) : timeMode b late e s = timeAdopt b late s := by
  simp [timeMode, h]

/-- Within ±3 ns of a measured link the slew ends in LOCKED (R71, R77). -/
theorem timeMode_slew_mode {b : Bytes} {late e : Int} {s : State} (ha : s.tmp.adopted = true) (hm : s.tmp.mode = .slew) (he : e.natAbs ≤ 3)
    (hd : s.tmp.measured = true) : (timeMode b late e s).tmp.mode = .locked := by
  simp only [timeMode, ha, hm, he, hd, Bool.not_true, Bool.false_eq_true, and_self, if_true, if_false]
  split
  · rw [raiseTmp_tmp]
  · rfl

theorem timeMode_holdover_near {b : Bytes} {late e : Int} {s : State} (ha : s.tmp.adopted = true) (hm : s.tmp.mode = .holdover)
    (hs : rbit s F.CLK_REFSEL_SEL = false) (he : e.natAbs ≤ 25000) : (timeMode b late e s).tmp.mode = .slew := by
  have hs' : rbit (rput F.TMP_PHERR_ERR (ofSigned 32 e) s) F.CLK_REFSEL_SEL = false := by
    rw [rbit, rget_rput_ne _ _ _ _ (by decide), ← rbit, hs]
  simp only [timeMode, ha, hm, hs, he, Bool.not_true, Bool.false_eq_true, if_true, if_false, refSwitch_tmp]
  rfl

theorem timeMode_holdover_far {b : Bytes} {late e : Int} {s : State} (ha : s.tmp.adopted = true) (hm : s.tmp.mode = .holdover)
    (hs : rbit s F.CLK_REFSEL_SEL = false) (he : 25000 < e.natAbs) :
    (timeMode b late e s).tmp.mode = .holdover ∧ (timeMode b late e s).tmp.stepTo = some e := by
  simp only [timeMode, ha, hm, hs, Nat.not_le.mpr he, Bool.not_true, Bool.false_eq_true, if_false, rput_tmp, and_self]

/-- Judging the phase error leaves the arrival of the frame. -/
theorem timeMode_arrival (b : Bytes) (late e : Int) (s : State) :
    (timeMode b late e s).tmp.gotTime = s.tmp.gotTime ∧ (timeMode b late e s).tmp.missed = s.tmp.missed := by
  unfold timeMode timeAdopt
  repeat' split
  all_goals simp [refSwitch_tmp, realign]

/-- Once chain time has been adopted, a frame leaves it and shows its phase error. -/
theorem timeMode_adopted {b : Bytes} {late e : Int} {s : State} (h : s.tmp.adopted = true) :
    (timeMode b late e s).tmp.chain = s.tmp.chain ∧ rget (timeMode b late e s) F.TMP_PHERR_ERR = ofSigned 32 e % 2 ^ 32 := by
  have h0 : rget (rput F.TMP_PHERR_ERR (ofSigned 32 e) s) F.TMP_PHERR_ERR = ofSigned 32 e % 2 ^ 32 := rget_rput_self _ _ _
  unfold timeMode
  rw [if_neg (by simp [h])]
  dsimp only
  split
  · split
    · exact ⟨rfl, h0⟩
    · split
      · exact ⟨by rw [refSwitch_tmp]; rfl, (rget_refSwitch_ne 0 _ (by decide)).trans h0⟩
      · exact ⟨rfl, h0⟩
  · split
    · split
      · exact ⟨by rw [raiseTmp_tmp]; rfl, (rget_raiseTmp_ne _ rfl (by decide) (by decide)).trans h0⟩
      · exact ⟨rfl, h0⟩
    · exact ⟨rfl, h0⟩
  · exact ⟨rfl, h0⟩
  · exact ⟨rfl, h0⟩

theorem portOn_timeMode (b : Bytes) (late e : Int) (s : State) (p : LPort) : portOn (timeMode b late e s) p = portOn s p := by
  unfold timeMode
  split
  case isTrue => exact portOn_raiseTmp F.TMP_FLAGS_STEP _ p rfl
  case isFalse =>
    dsimp only
    split
    · split
      · rfl
      · split
        · exact portOn_refSwitch 0 _ p
        · rfl
    · split
      · split
        · exact portOn_raiseTmp F.TMP_FLAGS_SYNCBACK _ p rfl
        · rfl
      · rfl
    · rfl
    · rfl

theorem timeAdopt_tmp (b : Bytes) (late : Int) (s : State) : (timeAdopt b late s).tmp = { s.tmp with
    adopted := true, chain := u64 b 4 + 50000 * (late.toNat / 50000), frac := 0, mode := .slew, perr := 0,
    adoptStep := s.tmp.adoptStep + (((u64 b 4 + 50000 * (late.toNat / 50000) : Nat) : Int) - s.tmp.chain) } := by
  rw [timeAdopt, raiseTmp_tmp, rput_tmp]

theorem rget_timeAdopt_step (b : Bytes) (late : Int) (s : State) : rget (timeAdopt b late s) F.TMP_FLAGS_STEP = 1 :=
  rget_raiseData_flag _ _ _ _ (by decide) (by decide) (by decide)

theorem exec_syncTimeRx_taken {s : State} {rx : LeadRx} (ns res : Nat) (hlu : portOn s .lu = true) (hf : leadFault rx = 0)
    (ht : hTyp rx.bytes = tySync) (hk : u8 rx.bytes 8 = 0) (hc : isCoord s = false) :
    let b := fBody rx.bytes
    let d := linkDelay s b (chainAt s ns)
    exec (.syncTimeRx .lu rx ns res) s = .next (leadCut .ld (rx.bytes.take 8 ++ timeForward s b d.1 (chainAt s ns) res)
      (timeMode b (corrNs b + d.1) (phaseError b d.1 (chainAt s ns)) (timeRead b d s))) := by
  have hw : (hTyp rx.bytes == tySync && u8 rx.bytes 8 == 0) = true := by simp [ht, hk]
  show Host.Outcome.next (leadRecvCut _ _ _ _ _ _) = _
  rw [leadRecvCut_taken hlu hf hw (coordTurns_of_not_coord _ _ hc), if_pos rfl, timeTake_eq]

theorem does_syncTimeRx {s : State} (rx : LeadRx) (ns res : Nat) (hlu : portOn s .lu = true) (hf : leadFault rx = 0)
    (ht : hTyp rx.bytes = tySync) (hk : u8 rx.bytes 8 = 0) (hc : isCoord s = false) :
    let b := fBody rx.bytes
    let d := linkDelay s b (chainAt s ns)
    let e := phaseError b d.1 (chainAt s ns)
    Does (.syncTimeRx .lu rx ns res) s (fun t => t.tmp.gotTime = true ∧ t.tmp.missed = 0
      ∧ (portOn s .ld = true → t.lea.ldCut = some (rx.bytes.take 8 ++ timeForward s b d.1 (chainAt s ns) res))
      ∧ (s.tmp.adopted = false → t.tmp.adopted = true ∧ t.tmp.mode = .slew ∧ rget t F.TMP_FLAGS_STEP = 1
          ∧ t.tmp.chain = u64 b 4 + 50000 * ((corrNs b + d.1).toNat / 50000))
      ∧ (s.tmp.adopted = true → rget t F.TMP_PHERR_ERR = ofSigned 32 e % 2 ^ 32 ∧ t.tmp.chain = s.tmp.chain)
      ∧ (s.tmp.adopted = true → s.tmp.mode = .slew → e.natAbs ≤ 3 → (s.tmp.measured || d.2) = true → t.tmp.mode = .locked)
      ∧ (s.tmp.adopted = true → s.tmp.mode = .holdover → rbit s F.CLK_REFSEL_SEL = false →
          (e.natAbs ≤ 25000 → t.tmp.mode = .slew) ∧ (25000 < e.natAbs → t.tmp.mode = .holdover ∧ t.tmp.stepTo = some e))) := by
  intro b d e
  refine ⟨_, exec_syncTimeRx_taken ns res hlu hf ht hk hc, ?_⟩
  generalize hr : timeRead b d s = r
  have hrt : r.tmp = { s.tmp with gotTime := true, missed := 0, measured := s.tmp.measured || d.2 } := hr ▸ timeRead_tmp b d s
  have hrs : rbit r F.CLK_REFSEL_SEL = rbit s F.CLK_REFSEL_SEL := hr ▸ rget_timeRead_sel b d s
  have hrp : portOn r .ld = portOn s .ld := hr ▸ portOn_timeRead b d s .ld
  generalize hm : timeMode b (corrNs b + d.1) e r = m
  generalize hfw : rx.bytes.take 8 ++ timeForward s b d.1 (chainAt s ns) res = f
  have hv : tempoView (leadCut .ld f m) = tempoView m := tempoView_leadCut .ld f m
  have htm : (leadCut .ld f m).tmp = m.tmp := tmp_of_tempoView hv
  have hra : r.tmp.adopted = s.tmp.adopted := by rw [hrt]
  have hrm : r.tmp.mode = s.tmp.mode := by rw [hrt]
  rw [htm]
  refine ⟨?got, ?missed, ?forward, ?first, ?later, ?lock, ?back⟩
  case got => rw [← hm, (timeMode_arrival b _ e r).1, hrt]
  case missed => rw [← hm, (timeMode_arrival b _ e r).2, hrt]
  case forward =>
    intro hld
    have hpm : portOn m .ld = true := by rw [← hm, portOn_timeMode, hrp, hld]
    rw [leadCut, leadPut_ld true f hpm]
  case first =>
    intro ha
    have hma : m = timeAdopt b (corrNs b + d.1) r := by rw [← hm, timeMode_first (hra.trans ha)]
    rw [rget_of_tempoView hv rfl, hma, timeAdopt_tmp]
    exact ⟨rfl, rfl, rget_timeAdopt_step b _ r, rfl⟩
  case later =>
    intro ha
    obtain ⟨hch, hpe⟩ := timeMode_adopted (b := b) (late := corrNs b + d.1) (e := e) (hra.trans ha)
    rw [rget_of_tempoView hv rfl, ← hm, hpe, hch, hrt]
    exact ⟨rfl, rfl⟩
  case lock =>
    intro ha hmo hen hd
    rw [← hm]
    exact timeMode_slew_mode (hra.trans ha) (hrm.trans hmo) hen (by rw [hrt]; exact hd)
  case back =>
    intro ha hmo hs
    rw [← hm]
    exact ⟨timeMode_holdover_near (hra.trans ha) (hrm.trans hmo) (hrs.trans hs),
      timeMode_holdover_far (hra.trans ha) (hrm.trans hmo) (hrs.trans hs)⟩

theorem does_syncTimeRx_badFcs {s : State} (rx : LeadRx) (ns res : Nat) (hlu : portOn s .lu = true) (hld : portOn s .ld = true)
    (hf : onlyFcsBad rx = true) (ht : hTyp rx.bytes = tySync) (hk : u8 rx.bytes 8 = 0) (hc : isCoord s = false)
    (hcnt : rget s F.LEA_BADFRM_COUNT < 65535) :
    let b := fBody rx.bytes
    let f := rx.bytes.take 8 ++ timeForward s b (linkDelay s b (chainAt s ns)).1 (chainAt s ns) res
    Does (.syncTimeRx .lu rx ns res) s (fun t => t.tmp = s.tmp ∧ t.lea.ldCut = some f ∧ t.lea.ldFcs = leadFcs false f s
      ∧ rget t F.LEA_BADFRM_COUNT = rget s F.LEA_BADFRM_COUNT + 1) := by
  have hw : (hTyp rx.bytes == tySync && u8 rx.bytes 8 == 0) = true := by simp [ht, hk]
  refine ⟨rsat F.LEA_BADFRM_COUNT 1 (timeSpoil rx.bytes ns res s),
    congrArg Host.Outcome.next (leadRecvCut_spoiled hlu hf hw (coordTurns_of_not_coord _ _ hc)), ?_⟩
  rw [timeSpoil, leadPut_ld false _ hld]
  refine ⟨rfl, rfl, rfl, ?_⟩
  have hs := rget_rsat_self F.LEA_BADFRM_COUNT 1 s (Nat.lt_of_lt_of_le hcnt (by decide))
  refine Eq.trans (show _ = rget (rsat F.LEA_BADFRM_COUNT 1 s) F.LEA_BADFRM_COUNT from rfl) (hs.trans ?_)
  show min 65535 _ = _
  omega

/-! ### What the edge keeps of the clock -/

/-- The clock of the tempo, the duties that have completed, the power entry and the overrun flag. -/
def clockView (s : State) : Nat × Nat × Nat × List Nat × PwrEntry × Nat :=
  (s.tmp.now, s.tmp.chain, s.tmp.frac, s.tmp.ran, s.pwr.entry, rget s F.TMP_FLAGS_OVERRUN)

theorem clockView_of_tempoView {s t : State} (h : tempoView t = tempoView s) : clockView t = clockView s := by
  rw [clockView, clockView, tmp_of_tempoView h, entry_of_tempoView h, rget_of_tempoView h rfl]

theorem kept_of_clockView {s t : State} (h : clockView t = clockView s) : t.tmp.now = s.tmp.now ∧ t.tmp.chain = s.tmp.chain
    ∧ t.tmp.frac = s.tmp.frac ∧ t.tmp.ran = s.tmp.ran ∧ t.pwr.entry = s.pwr.entry
    ∧ rget t F.TMP_FLAGS_OVERRUN = rget s F.TMP_FLAGS_OVERRUN := by
  simpa only [clockView, Prod.mk.injEq] using h

theorem refSwitch_entry (k : Nat) (s : State) : (refSwitch k s).pwr.entry = s.pwr.entry := by
  unfold refSwitch
  split <;> rfl

theorem clockView_toHoldover (s : State) : clockView (toHoldover s) = clockView s := by
  have hs : ∀ t : State, clockView (raiseTmp F.TMP_FLAGS_SYNCLOSS t) = clockView t := fun t => by
    rw [clockView, clockView, raiseTmp_tmp, raiseTmp_pwr, rget_raiseTmp_ne t rfl (by decide) (by decide)]
  have hr : ∀ k t, clockView (refSwitch k t) = clockView t := fun k t => by
    rw [clockView, clockView, refSwitch_tmp, refSwitch_entry, rget_refSwitch_ne k t (by decide)]
  simp only [toHoldover]
  rw [hs]
  split
  · exact hr _ _
  · rfl

theorem clockView_syncLoss (recLost : Bool) (s : State) : clockView (syncLoss recLost s) = clockView s := by
  unfold syncLoss
  split
  · exact clockView_toHoldover s
  · rfl

theorem clockView_edgeLead (ev : Bool) (s : State) : clockView (edgeLead ev s) = clockView s := by
  simp only [edgeLead]
  rw [clockView_of_tempoView (tempoView_edgeStop _ _), clockView_of_tempoView (tempoView_edgeExpress _),
    clockView_of_tempoView (tempoView_edgeEpoch _), clockView_of_tempoView (tempoView_edgeExpected _),
    clockView_of_tempoView (tempoView_edgeBudget _), clockView_of_tempoView (tempoView_segmentHead _), clockView_syncLoss,
    clockView_of_tempoView (tempoView_pumpPort _ _ _), clockView_of_tempoView (tempoView_pumpPort _ _ _)]
  rfl

/-- With no power entry waiting, the edge of the power unit leaves the clock. -/
theorem clockView_edgePower {s : State} (h : s.pwr.entry = .none) : clockView (edgePower s) = clockView s := by
  have hb : ∀ (b : Bool) (t : State), rget (rputB F.TMP_STATUS_IRC b t) F.TMP_FLAGS_OVERRUN = rget t F.TMP_FLAGS_OVERRUN :=
    fun b t => rget_rput_ne _ _ _ _ (by decide)
  unfold edgePower
  split
  · simp only [rputB_pwr, h, clockView, rputB_tmp, hb]
    rfl
  · simp only [rputB_pwr, h, clockView, rputB_tmp, hb]

theorem clockView_edgeUnits (sec ms : Bool) (cstep : Int) {s : State} (h : s.pwr.entry = .none) :
    clockView (edgeUnits sec ms cstep s) = clockView s := by
  simp only [edgeUnits]
  have hu : ∀ u : State, tempoView u = tempoView s → clockView (edgePower u) = clockView s := fun u hu =>
    (clockView_edgePower ((entry_of_tempoView hu).trans h)).trans (clockView_of_tempoView hu)
  exact hu _ (by simp +decide [↓tempoView_update])

theorem tempoView_edgeFreeze (s : State) : tempoView (edgeFreeze s) = tempoView s := by
  unfold edgeFreeze
  simp only
  split <;> simp +decide [↓tempoView_update]

theorem tempoView_edgeAuth (s : State) : tempoView (edgeAuth s) = tempoView s := by simp [edgeAuth]

/-! ### The overrun (R61) -/

theorem tempoView_edgeFlow (upset : Nat) (s : State) : tempoView (edgeFlow upset s) = { tempoView s with flow := 0 } := by
  unfold edgeFlow
  simp only
  split
  · rfl
  · rw [tempoView_safCause]
    rfl

theorem inTempoBlock_duty {k : Nat} (hk : k < 16) : inTempoBlock (F.TMP_SLOT_DUTY k) = true := by
  simp only [inTempoBlock, fieldBlock, fkey, F.TMP_SLOT_DUTY, beq_iff_eq]
  omega

theorem abortedSlots_of_tempoView {s t : State} (h : tempoView t = tempoView s) : abortedSlots t = abortedSlots s := by
  have hd : ∀ k ∈ List.range 16, slotDuty t k = slotDuty s k :=
    fun k hk => rget_of_tempoView h (inTempoBlock_duty (List.mem_range.mp hk))
  have hu : usedSlots t = usedSlots s := List.filter_congr fun k hk => by rw [hd k hk]
  rw [abortedSlots, abortedSlots, hu, tmp_of_tempoView h]
  exact List.filter_congr fun k hk => by rw [hd k (List.mem_filter.mp hk).1]

/-- An overrun recorded, before its condition. -/
def overrunNoted (k : Nat) (s : State) : State :=
  raiseTmp F.TMP_FLAGS_OVERRUN (rput F.TMP_OVERRUN_LASTSLOT k (rsat F.TMP_OVERRUN_COUNT 1 s))

/-- What an overrun leaves beside its flag and its records. -/
theorem edgeOverrun_cases (s : State) : (abortedSlots s = [] ∧ edgeOverrun s = rput F.TMP_OVERRUN_CONSEC 0 s)
    ∨ ∃ k u, edgeOverrun s = u ∧ (u = overrunNoted k s
        ∨ ∃ n m, u = safCause 0x06 k m (rput F.TMP_OVERRUN_CONSEC n (overrunNoted k s))) := by
  unfold edgeOverrun
  split
  · rename_i h
    exact .inl ⟨h, rfl⟩
  · rename_i k _ _
    refine .inr ⟨k, _, rfl, ?_⟩
    simp only
    split
    · exact .inr ⟨1, false, rfl⟩
    · split
      · exact .inr ⟨2, true, rfl⟩
      · exact .inl rfl

theorem overrunNoted_tmp (k : Nat) (s : State) : (overrunNoted k s).tmp = s.tmp := raiseTmp_tmp _ _

theorem overrunNoted_entry (k : Nat) (s : State) : (overrunNoted k s).pwr.entry = s.pwr.entry := by
  rw [overrunNoted, raiseTmp_pwr]
  rfl

theorem rget_overrunNoted_incr (k : Nat) (s : State) : rget (overrunNoted k s) F.TMP_INCR_INCR = rget s F.TMP_INCR_INCR := by
  rw [overrunNoted, rget_raiseTmp_ne _ rfl (by decide) (by decide), rget_rput_ne _ _ _ _ (by decide), rget_rsat_ne _ _ _ _ (by decide)]

theorem rget_overrunNoted_flag (k : Nat) (s : State) : rget (overrunNoted k s) F.TMP_FLAGS_OVERRUN = 1 :=
  rget_raiseData_flag _ _ _ _ (by decide) (by decide) (by decide)

/-- The record of an overrun leaves the clock, the length of a tempo and the power entry. -/
theorem edgeOverrun_kept (s : State) : (edgeOverrun s).tmp = s.tmp ∧ (edgeOverrun s).pwr.entry = s.pwr.entry
    ∧ rget (edgeOverrun s) F.TMP_INCR_INCR = rget s F.TMP_INCR_INCR := by
  have hput : ∀ n u, rget (rput F.TMP_OVERRUN_CONSEC n u) F.TMP_INCR_INCR = rget u F.TMP_INCR_INCR :=
    fun n u => rget_rput_ne _ _ _ _ (by decide)
  obtain ⟨-, he⟩ | ⟨k, u, he, rfl | ⟨n, m, rfl⟩⟩ := edgeOverrun_cases s <;> rw [he]
  · exact ⟨rfl, rfl, hput 0 s⟩
  · exact ⟨overrunNoted_tmp k s, overrunNoted_entry k s, rget_overrunNoted_incr k s⟩
  · have hv := tempoView_safCause 0x06 k m (rput F.TMP_OVERRUN_CONSEC n (overrunNoted k s))
    rw [tmp_of_tempoView hv, entry_of_tempoView hv, rget_of_tempoView hv rfl, hput]
    exact ⟨overrunNoted_tmp k s, overrunNoted_entry k s, rget_overrunNoted_incr k s⟩

/-- A duty that the edge aborts sets OVERRUN (R61). -/
theorem rget_edgeOverrun_flag {s : State} (h : abortedSlots s ≠ []) : rget (edgeOverrun s) F.TMP_FLAGS_OVERRUN = 1 := by
  obtain ⟨he, -⟩ | ⟨k, u, he, rfl | ⟨n, m, rfl⟩⟩ := edgeOverrun_cases s
  · exact absurd he h
  · rw [he, rget_overrunNoted_flag]
  · rw [he, rget_of_tempoView (tempoView_safCause _ _ _ _) rfl, rget_rput_ne _ _ _ _ (by decide), rget_overrunNoted_flag]

theorem tempoView_edgeEffects (upset : Nat) (s : State) :
    tempoView (edgeEffects upset s) = tempoView (edgeFlow upset (edgeOverrun (safUnknown s))) := by
  simp [edgeEffects]

/-- The effects of a tempo leave the clock, the length of a tempo and the power entry, and show an overrun (R61). -/
theorem edgeEffects_kept (upset : Nat) (s : State) :
    (edgeEffects upset s).tmp = s.tmp ∧ (edgeEffects upset s).pwr.entry = s.pwr.entry
      ∧ rget (edgeEffects upset s) F.TMP_INCR_INCR = rget s F.TMP_INCR_INCR
      ∧ (abortedSlots s ≠ [] → rget (edgeEffects upset s) F.TMP_FLAGS_OVERRUN = 1) := by
  have hu := tempoView_safUnknown s
  have hv : tempoView (edgeEffects upset s) = { tempoView (edgeOverrun (safUnknown s)) with flow := 0 } := by
    rw [tempoView_edgeEffects, tempoView_edgeFlow]
  obtain ⟨htmp, hentry, hreg⟩ := kept_of_tempoView_flow hv
  obtain ⟨ht, hp, hi⟩ := edgeOverrun_kept (safUnknown s)
  refine ⟨?_, ?_, ?_, fun ha => ?_⟩
  · rw [htmp, ht, tmp_of_tempoView hu]
  · rw [hentry, hp, entry_of_tempoView hu]
  · rw [hreg _ rfl, hi, rget_of_tempoView hu rfl]
  · rw [hreg _ rfl]
    exact rget_edgeOverrun_flag (by rwa [abortedSlots_of_tempoView hu])

/-! ### The ordinary edge (R61, R67) -/

theorem edgeStep_none {s : State} (h : s.tmp.stepTo = none) : edgeStep s = { s with tmp.stepDue := false } := by
  simp only [edgeStep, h]

theorem edgeAdvance_pwr (s : State) : (edgeAdvance s).pwr = s.pwr := rfl

theorem rget_edgeAdvance (s : State) (f : Fld) : rget (edgeAdvance s) f = rget s f := rfl

/-- With no step due, the edge advances chain time by the tempo's span (R67). -/
theorem edgeAdvance_edgeStep_none {e : State} (h : e.tmp.stepTo = none) :
    (edgeAdvance (edgeStep e)).tmp.chain = (e.tmp.chain + (e.tmp.frac + tempoSpan e) / 655360000) % 2 ^ 64
      ∧ (edgeAdvance (edgeStep e)).tmp.frac = (e.tmp.frac + tempoSpan e) % 655360000 := by
  rw [edgeStep_none h]
  exact ⟨rfl, rfl⟩

/-- A step to SYNC time leaves the count of tempos, the power entry and the overrun flag. -/
theorem edgeStep_kept (s : State) : (edgeStep s).tmp.now = s.tmp.now ∧ (edgeStep s).pwr.entry = s.pwr.entry
    ∧ rget (edgeStep s) F.TMP_FLAGS_OVERRUN = rget s F.TMP_FLAGS_OVERRUN := by
  unfold edgeStep
  split
  · split
    · dsimp only
      rw [raiseTmp_tmp, raiseTmp_pwr, rget_raiseTmp_ne _ rfl (by decide) (by decide), refSwitch_tmp, refSwitch_entry,
        rget_refSwitch_ne _ _ (by decide), rget_rput_ne _ _ _ _ (by decide)]
      exact ⟨rfl, rfl, rfl⟩
    · exact ⟨rfl, rfl, rfl⟩
  · exact ⟨rfl, rfl, rfl⟩

/-- The first half of the new tempo, up to the frozen inputs, leaves the clock. -/
theorem clockView_edgeFreeze_edgeLead (ev : Bool) (v : State) :
    clockView (edgeFreeze (eachUpTo 4 isoApply (edgeLead ev (edgeCauses v)))) = clockView v := by
  rw [clockView_of_tempoView (tempoView_edgeFreeze _), clockView_of_tempoView (tempoView_eachUpTo 4 _ _ tempoView_isoApply),
    clockView_edgeLead]
  rfl

/-- The second half of the new tempo leaves the clock. -/
theorem clockView_edgeAuth_edgeUnits (sec ms : Bool) (cstep : Int) {w : State} (h : w.pwr.entry = .none) :
    clockView (edgeAuth (edgeUnits sec ms cstep { w with tmp.adoptStep := 0 })) = clockView w :=
  (clockView_of_tempoView (tempoView_edgeAuth _)).trans (clockView_edgeUnits sec ms cstep h)

/-- The clock at the end of an ordinary edge is the one the advance has left. -/
theorem clockView_edgeNext {upset : Nat} {s : State} (h : s.pwr.entry = .none) :
    clockView (edgeNext upset s) = clockView (edgeAdvance (edgeStep (edgeEffects upset s))) := by
  obtain ⟨-, hstep, -⟩ := edgeStep_kept (edgeEffects upset s)
  obtain ⟨-, heff, -⟩ := edgeEffects_kept upset s
  have hp : (edgeAdvance (edgeStep (edgeEffects upset s))).pwr.entry = .none := by rw [edgeAdvance_pwr, hstep, heff, h]
  have hl := clockView_edgeFreeze_edgeLead (stopEvent s.brd.tgt (edgeEffects upset s)) (edgeAdvance (edgeStep (edgeEffects upset s)))
  obtain ⟨-, -, -, -, hw, -⟩ := kept_of_clockView hl
  exact (clockView_edgeAuth_edgeUnits _ _ _ (hw.trans hp)).trans hl

/-- What the events of one cycle count in their block leaves everything but the event counters. -/
theorem oneCycle_frame {α : Type} (p : State → α) (hp : ∀ c ∈ evCounters, ∀ v t, p (rput c v t) = p t) (f : State → State) (s : State) :
    p (oneCycle f s) = p (f s) := by
  have hfold : ∀ l : List Fld, (∀ c ∈ l, ∀ v t, p (rput c v t) = p t) → ∀ u,
      p (l.foldl (fun u c => if rget s c < rget (f s) c then rput c (rget s c + 1) u else u) u) = p u := by
    intro l hl
    induction l with
    | nil => exact fun u => rfl
    | cons c l ih =>
      intro u
      rw [List.foldl_cons, ih (fun d hd => hl d (List.mem_cons_of_mem _ hd))]
      split
      · exact hl c List.mem_cons_self _ _
      · rfl
  exact hfold evCounters hp (f s)

theorem clockView_oneCycle (f : State → State) (s : State) : clockView (oneCycle f s) = clockView (f s) := by
  refine oneCycle_frame clockView (fun c hc v t => ?_) f s
  have hne : ∀ c ∈ evCounters, fkey F.TMP_FLAGS_OVERRUN ≠ fkey c := by decide
  rw [clockView, clockView, rget_rput_ne _ _ _ _ (hne c hc)]
  rfl

theorem tempoEdge_next {s : State} (u : Nat) (hr : s.tmp.running = true) (hb : s.tmp.begun = true) :
    tempoEdge u s = oneCycle (edgeNext u) s := by
  simp [tempoEdge, hr, hb]

theorem does_tempoEdge_next {s : State} (u : BitVec 16) (hr : s.tmp.running = true) (hb : s.tmp.begun = true) (hp : s.pwr.entry = .none) :
    Does (.tempoEdge u) s (fun t => t.tmp.now = s.tmp.now + 1 ∧ t.tmp.ran = []
      ∧ (s.tmp.stepTo = none → t.tmp.chain = (s.tmp.chain + (s.tmp.frac + tempoSpan s) / 655360000) % 2 ^ 64
          ∧ t.tmp.frac = (s.tmp.frac + tempoSpan s) % 655360000)
      ∧ (abortedSlots s ≠ [] → rget t F.TMP_FLAGS_OVERRUN = 1)) := by
  refine ⟨_, congrArg Host.Outcome.next (tempoEdge_next u.toNat hr hb), ?_⟩
  obtain ⟨hnow, hchain, hfrac, hran, -, hover⟩ :=
    kept_of_clockView ((clockView_oneCycle (edgeNext u.toNat) s).trans (clockView_edgeNext hp))
  obtain ⟨htmp, -, hincr, hflag⟩ := edgeEffects_kept u.toNat s
  obtain ⟨hsnow, -, hsover⟩ := edgeStep_kept (edgeEffects u.toNat s)
  rw [hnow, hchain, hfrac, hran, hover, rget_edgeAdvance, hsover]
  generalize edgeEffects u.toNat s = e at htmp hincr hflag hsnow
  refine ⟨?now, rfl, ?chain, hflag⟩
  case now => exact congrArg (· + 1) (hsnow.trans (congrArg TmpState.now htmp))
  case chain =>
    intro hs
    have hspan : tempoSpan e = tempoSpan s := by rw [tempoSpan, tempoSpan, htmp, hincr]
    have hadv := edgeAdvance_edgeStep_none (e := e) (by rw [htmp, hs])
    rwa [hspan, htmp] at hadv

/-! ### The first edge (R55) -/

theorem budgetStale_strm (s : State) : (budgetStale s).strm = s.strm := by
  unfold budgetStale
  split
  · dsimp only
    split
    · rfl
    · exact raiseLea_strm _ _
  · rfl

theorem edgeBudget_strm (s : State) : (edgeBudget s).strm = s.strm := by
  unfold edgeBudget
  split
  · rfl
  · split
    · rfl
    · exact budgetStale_strm s

theorem edgeMtim_fz (s : State) : (edgeMtim s).fz = s.fz := by
  refine eachUpTo_frame State.fz 4 _ s fun n t _ => ?_
  split
  · unfold onV reqWrite
    split
    · rfl
    · dsimp only
      split
      · exact raiseOut_fz _ _ _
      · rfl
  · rfl

theorem edgeFreeze_strm (s : State) : (edgeFreeze s).fz.strm = s.strm := by
  have hf : ∀ u : State, (eachUpTo 4 outFreeze (edgeMtim u)).fz = u.fz := fun u =>
    (eachUpTo_frame State.fz 4 outFreeze _ fun _ _ _ => rfl).trans (edgeMtim_fz u)
  unfold edgeFreeze
  dsimp only
  split
  · rw [safCause_fz, hf]
  · rw [hf]

theorem authCount_fz (n : Nat) (v : Bool) (s : State) : (authCount n v s).fz = s.fz := by
  unfold authCount
  dsimp only
  split
  · rfl
  · split
    · split
      · exact raiseOut_fz _ _ _
      · rfl
    · rfl

theorem coilCmd_fz (c : Nat) (b : Bool) (s : State) : (coilCmd c b s).fz = s.fz := by
  unfold coilCmd
  split <;> rfl

theorem isoHalt_fz (n : Nat) (s : State) : (isoHalt n s).fz = s.fz := by
  rw [isoHalt, onIso_fz, outCoil, outCoil, coilCmd_fz, coilCmd_fz]

theorem isoBegin_fz (n : Nat) (s : State) : (isoBegin n s).fz = s.fz := onIso_fz _ _ _

theorem outAuth_fz (n : Nat) (s : State) : (outAuth n s).fz = s.fz := by
  unfold outAuth
  split
  · exact authCount_fz _ _ _
  · rfl

theorem outFlush_fz (n : Nat) (s : State) : (outFlush n s).fz = s.fz := by
  unfold outFlush
  dsimp only [onOutlet_fz]
  simp only [apply_ite State.fz, rput_fz, isoBegin_fz, isoHalt_fz, safPost_fz, ite_self]
  split <;> simp only [apply_ite State.fz, rput_fz, raise_fz, ite_self]

theorem outsTake_fz (s : State) : (outsTake s).fz = s.fz := by
  have h : (eachUpTo 4 outFlush s).fz = s.fz := eachUpTo_frame State.fz 4 outFlush s fun n t _ => outFlush_fz n t
  unfold outsTake
  exact h

theorem edgeAuth_fz (s : State) : (edgeAuth s).fz = s.fz := by
  rw [edgeAuth, outsTake_fz, eachUpTo_frame State.fz 4 outAuth s fun n t _ => outAuth_fz n t]

theorem tempoEdge_first {s : State} (u : Nat) (hr : s.tmp.running = true) (hb : s.tmp.begun = false) :
    tempoEdge u s = oneCycle edgeFirst s := by
  simp [tempoEdge, hr, hb]

theorem edgeFirst_begun (s : State) : (edgeFirst s).tmp.begun = true := by
  have h : ∀ u : State, (edgeAuth (edgeFreeze (edgeBudget u))).tmp = u.tmp := fun u =>
    ((tmp_of_tempoView (tempoView_edgeAuth _)).trans (tmp_of_tempoView (tempoView_edgeFreeze _))).trans (tmp_of_tempoView (tempoView_edgeBudget u))
  exact congrArg TmpState.begun (h _)

theorem edgeFirst_strm (s : State) : (edgeFirst s).fz.strm = s.strm := by
  have h : ∀ u : State, (edgeAuth (edgeFreeze (edgeBudget u))).fz.strm = u.strm := fun u => by
    rw [edgeAuth_fz, edgeFreeze_strm, edgeBudget_strm]
  exact h _

theorem does_tempoEdge_first {s : State} (u : BitVec 16) (hr : s.tmp.running = true) (hb : s.tmp.begun = false) :
    Does (.tempoEdge u) s (fun t => t.tmp.begun = true ∧ t.fz.strm = s.strm) := by
  refine ⟨_, congrArg Host.Outcome.next (tempoEdge_first u.toNat hr hb), ?_, ?_⟩
  · rw [oneCycle_frame State.tmp fun _ _ _ _ => rfl, edgeFirst_begun]
  · rw [oneCycle_frame State.fz fun _ _ _ _ => rfl, edgeFirst_strm]

/-- Settles O7, clause by clause: an edge keeps the clock but for its advance, whatever the other units do at it, and a frame of the chain
changes the tempo unit through the judgement of its phase error. -/
theorem chainTimeCommands : Obligations.ChainTimeCommands := by
  intro s
  exact ⟨fun u hr hb => does_tempoEdge_first u hr hb,
    fun u hr hb hp => does_tempoEdge_next u hr hb hp,
    fun rx ns res hlu hf ht hk hc => does_syncTimeRx rx ns res hlu hf ht hk hc,
    fun rx ns res hlu hld hf ht hk hc hn => does_syncTimeRx_badFcs rx ns res hlu hld hf ht hk hc hn,
    fun ns hr hc hx hp hd => does_dreqSend ns hr hc hx hp hd,
    fun rx ns hp hf ht hk => does_dreqRx rx ns hp hf ht hk,
    fun recLost hm hl => does_syncLoss recLost hm hl,
    fun e hs hm hi => does_stepToSync hs hm hi,
    fun absent hc => does_timeSourceLost absent hc,
    fun ns hc hsrc => does_ppsEdge ns hc hsrc,
    fun ofs hc hsrc => does_ptpOffsetWrite ofs hc hsrc,
    fun at' hc hsrc hat hl => does_ptpOffsetTimeout hc hsrc hat hl⟩

end Sys2Proof.Machine

end

section

/-! SUPPORT and O2. The events of the Board's squares: each changes one square of the move in progress. -/

namespace Sys2Proof.Machine

/-! ### A timer (R99) -/

/-- PRESET 0 makes done equal to the trigger of the same move. -/
theorem timerNext_of_preset_zero {s : State} {k off : Nat} (trig : Bool) (t : BTimer)
    (h : bU8 s k off + 256 * bU8 s k (off + 1) + 65536 * bU8 s k (off + 2) = 0) : timerNext s k off trig t = ⟨trig, trig, none⟩ :=
  if_pos h

/-- An on-delay timer returns to 0 with its trigger. -/
theorem timerNext_done_onDelay {s : State} {k off : Nat} {trig : Bool} {t : BTimer} (hmode : bU8 s k (off + 4) = 0)
    (hdone : (timerNext s k off trig t).done = true) : trig = true := by
  by_cases hp : bU8 s k off + 256 * bU8 s k (off + 1) + 65536 * bU8 s k (off + 2) = 0
  · rwa [timerNext_of_preset_zero trig t hp] at hdone
  · simp only [timerNext, if_neg hp, if_pos hmode, Bool.and_eq_true] at hdone
    exact hdone.1

/-- An off-delay timer is done from the move in which its trigger is 1. -/
theorem timerNext_done_offDelay {s : State} {k off : Nat} (t : BTimer) (hmode : bU8 s k (off + 4) = 1) :
    (timerNext s k off true t).done = true := by
  by_cases hp : bU8 s k off + 256 * bU8 s k (off + 1) + 65536 * bU8 s k (off + 2) = 0
  · rw [timerNext_of_preset_zero true t hp]
  · simp only [timerNext, if_neg hp, hmode, one_ne_zero, if_true, if_false]

/-- What R99 says of done, for the timer whose record stands at `off` of square k. -/
theorem timerNext_done_rules (s : State) (k off : Nat) (t : BTimer) (trig : Bool) :
    (bU8 s k off + 256 * bU8 s k (off + 1) + 65536 * bU8 s k (off + 2) = 0 → (timerNext s k off trig t).done = trig)
      ∧ (bU8 s k (off + 4) = 0 → (timerNext s k off trig t).done = true → trig = true)
      ∧ (bU8 s k (off + 4) = 1 → trig = true → (timerNext s k off trig t).done = true) := by
  refine ⟨fun hp => ?_, timerNext_done_onDelay, ?_⟩
  · rw [timerNext_of_preset_zero trig t hp]
  · rintro hmode rfl
    exact timerNext_done_offDelay t hmode

/-! ### A comparator (R101) -/

/-- A stream older than MAXAGE forces IN to 0 and ABOVE to 1. -/
theorem cmpNext_of_stale {s : State} {k u : Nat} (old : Square) (hu : (Tab.get Stream.reset s.fz.strm (bU8 s k 0xAC % 64)).stamp = some u)
    (hage : bU16 s k 0xB8 < s.tmp.now - (u + 1)) : cmpNext s k old = (false, true, true) := by
  simp only [cmpNext, hu, decide_eq_true hage, if_true]

/-! ### The move in progress (R98) -/

theorem onMove_mv {s : State} {m : Move} (k : Nat) (f : Square → Square) (hm : s.brd.mv = some m) :
    (onMove k f s).brd.mv = some { m with sq := m.sq.modify k f } := by
  simp only [onMove, hm, Option.map_some]

/-- Of the Board, a comparator changes the move alone: BRD_STALE and its flag are registers. -/
theorem boardComparator_brd (k : Nat) (s : State) :
    (boardComparator k s).brd = (onMove k (fun q =>
      { q with cin := (cmpNext s k (squareAt s k)).1, cabove := (cmpNext s k (squareAt s k)).2.1,
               cstale := (cmpNext s k (squareAt s k)).2.2 }) s).brd := by
  simp only [boardComparator]
  split
  · rw [raise_brd, rputAt_brd]
  · rfl

/-- An event of a used square in a running tempo takes effect. -/
theorem does_boardEvent {c : Instr} {k : Nat} {f : State → State} {s : State} {P : State → Prop}
    (hc : exec c s = .next (if s.tmp.running ∧ bUsed s k then f s else s)) (hr : s.tmp.running = true) (hu : bUsed s k = true)
    (hP : P (f s)) : Does c s P :=
  ⟨f s, by rw [hc, if_pos ⟨hr, hu⟩], hP⟩

end Sys2Proof.Machine

/- Outside the model's namespace, where `boardEvents` is the posting of the Board's events. -/
namespace Sys2Proof.Certificates

open Machine

/-- Settles O2, event by event: each is a change of one square of the move, and the rule's case of the value it takes. That an event acts
on the move in progress is the model's choice (log entry 108). -/
theorem boardEvents : Obligations.BoardEvents := by
  intro s k m hr hu hm
  refine ⟨does_boardEvent rfl hr hu ⟨?timer0, timerNext_done_rules s k 0x94 _⟩,
    does_boardEvent rfl hr hu ⟨?timer1, timerNext_done_rules s k 0x9C _⟩,
    does_boardEvent rfl hr hu ?counter, does_boardEvent rfl hr hu ⟨?comparator, fun _ => cmpNext_of_stale _⟩⟩
  case timer0 => exact onMove_mv k _ hm
  case timer1 => exact onMove_mv k _ hm
  case counter => exact onMove_mv k _ hm
  case comparator =>
    rw [boardComparator_brd]
    exact onMove_mv k _ hm

end Sys2Proof.Certificates

end

section

/-! SUPPORT. What one evaluation of an outlet's sequencer can do (05): the moves the state table is made of. -/

namespace Sys2Proof.Machine

/-! ### The moves of an evaluation -/

/-- An update of an outlet that leaves what became of its request: the reason, the code still frozen and every flag already pending. -/
def KeepsReject (f : Outlet → Outlet) : Prop :=
  ∀ o, (f o).rejP = o.rejP ∧ (f o).reqFrz = o.reqFrz ∧ ∀ i, o.pend.testBit i = true → (f o).pend.testBit i = true

/-- The moves of an evaluation of outlet n: updates of its record that satisfy `K`, commands of coils, the mark of a hard break, and the
fault of a coil whose mirror contact disagrees. -/
inductive SeqMoves (K : (Outlet → Outlet) → Prop) (n : Nat) (s : State) : State → Prop
  | refl : SeqMoves K n s s
  | outlet {t : State} (f : Outlet → Outlet) (hf : K f) (h : SeqMoves K n s t) : SeqMoves K n s (onOutlet n f t)
  | coil {t : State} (c : Nat) (b : Bool) (h : SeqMoves K n s t) : SeqMoves K n s (coilCmd c b t)
  | hard {t : State} (c : Nat) (h : SeqMoves K n s t) : SeqMoves K n s (onCoil c (fun k => { k with hard := true }) t)
  | fault {t : State} (c : Nat) (h : SeqMoves K n s t) : SeqMoves K n s (coilFault c t)

theorem keepsReject_of_eq {f : Outlet → Outlet} (h : ∀ o, (f o).rejP = o.rejP ∧ (f o).reqFrz = o.reqFrz ∧ (f o).pend = o.pend) :
    KeepsReject f := by
  intro o
  obtain ⟨hr, hq, hp⟩ := h o
  exact ⟨hr, hq, fun i hi => hp ▸ hi⟩

theorem keepsReject_pend (k : Nat) : KeepsReject (fun o => { o with pend := o.pend ||| k }) :=
  fun o => ⟨rfl, rfl, fun i hi => by rw [Nat.testBit_or, hi, Bool.true_or]⟩

theorem keepsReject_caused (code flag : Nat) : KeepsReject (fun o =>
    let h := o.latch || causeClass code == 3
    if o.cause = 0 ∨ o.causeOld ∨ causeClass code = 3 ∨ causeClass o.cause < causeClass code then
      { o with latch := h, cause := code, inState := o.st.code, causeOld := false,
               pend := if o.cause = code then o.pend else o.pend ||| 2 ^ flag }
    else { o with latch := h }) := by
  intro o
  dsimp only
  split
  · refine ⟨rfl, rfl, fun i hi => ?_⟩
    dsimp only
    split
    · exact hi
    · rw [Nat.testBit_or, hi, Bool.true_or]
  · exact ⟨rfl, rfl, fun i hi => hi⟩

namespace SeqMoves

variable {K : (Outlet → Outlet) → Prop} (hK : ∀ f, KeepsReject f → K f) {n : Nat} {s t : State}

theorem ite {p : Prop} [Decidable p] {a b : State} (ha : p → SeqMoves K n s a) (hb : ¬p → SeqMoves K n s b) :
    SeqMoves K n s (if p then a else b) := by
  split
  case isTrue hp => exact ha hp
  case isFalse hp => exact hb hp

theorem outCoil (h : SeqMoves K n s t) (k : Nat) (b : Bool) : SeqMoves K n s (outCoil n k b t) := h.coil _ _

theorem hardOpen (h : SeqMoves K n s t) : SeqMoves K n s (hardOpen n t) := (h.hard _).hard _

include hK

theorem record (h : SeqMoves K n s t) (f : Outlet → Outlet)
    (hf : ∀ o, (f o).rejP = o.rejP ∧ (f o).reqFrz = o.reqFrz ∧ (f o).pend = o.pend) : SeqMoves K n s (onOutlet n f t) :=
  h.outlet f (hK f (keepsReject_of_eq hf))

theorem outPend (h : SeqMoves K n s t) (f : Nat → Fld) : SeqMoves K n s (outPend n f t) := h.outlet _ (hK _ (keepsReject_pend _))

theorem outCause (h : SeqMoves K n s t) (code : Nat) : SeqMoves K n s (outCause n code t) := h.outlet _ (hK _ (keepsReject_caused _ _))

theorem outGo (h : SeqMoves K n s t) (st : OutSt) : SeqMoves K n s (outGo n st t) := by
  refine outPend hK ?_ _
  exact record hK h _ fun _ => ⟨rfl, rfl, rfl⟩

theorem sessionEvent (h : SeqMoves K n s t) (e : SessEv) : SeqMoves K n s (sessionEvent n e t) := record hK h _ fun _ => ⟨rfl, rfl, rfl⟩

theorem closeKpKn (h : SeqMoves K n s t) : SeqMoves K n s (closeKpKn n t) :=
  record hK ((h.outCoil 0 true).outCoil 1 true) _ fun _ => ⟨rfl, rfl, rfl⟩

theorem openKpKn (h : SeqMoves K n s t) : SeqMoves K n s (openKpKn n t) :=
  have hc := (h.outCoil 0 false).outCoil 1 false
  record hK (ite (fun _ => hc.sessionEvent hK _) fun _ => hc) _ fun _ => ⟨rfl, rfl, rfl⟩

theorem allOpen (h : SeqMoves K n s t) : SeqMoves K n s (allOpen n t) := outCoil (h.openKpKn hK) _ _

theorem endSession (h : SeqMoves K n s t) : SeqMoves K n s (endSession n t) :=
  record hK (ite (fun _ => h.sessionEvent hK _) fun _ => h) _ fun _ => ⟨rfl, rfl, rfl⟩

theorem toIdle (h : SeqMoves K n s t) : SeqMoves K n s (toIdle n t) := by
  refine outGo hK ?_ _
  exact record hK (h.endSession hK) _ fun _ => ⟨rfl, rfl, rfl⟩

theorem toOos (h : SeqMoves K n s t) : SeqMoves K n s (toOos n t) := outGo hK (h.endSession hK) _

theorem toUnlock (h : SeqMoves K n s t) : SeqMoves K n s (toUnlock n t) := by
  refine outGo hK ?_ _
  exact record hK (h.outCoil 4 false) _ fun _ => ⟨rfl, rfl, rfl⟩

theorem toFaulted (h : SeqMoves K n s t) : SeqMoves K n s (toFaulted n t) := by
  refine outGo hK ?_ _
  exact record hK (h.outCoil 4 false) _ fun _ => ⟨rfl, rfl, rfl⟩

theorem emergencyPath (h : SeqMoves K n s t) (code : Nat) : SeqMoves K n s (emergencyPath n code t) := by
  have hc : SeqMoves K n s (onOutlet n (fun o => { o with applied := 0, bind := 5, emerg := true, emergAt := t.tmp.now + 1, zc10 := t.pwr.pfw })
      (Machine.outCause n code t)) := record hK (h.outCause hK code) _ fun _ => ⟨rfl, rfl, rfl⟩
  exact ite (fun _ => hc) fun _ => hc.outGo hK _

theorem rampedPath (h : SeqMoves K n s t) (code : Nat) : SeqMoves K n s (rampedPath n code t) := by
  refine outGo hK ?_ _
  exact record hK (h.outCause hK code) _ fun _ => ⟨rfl, rfl, rfl⟩

theorem toWeldCheck (h : SeqMoves K n s t) : SeqMoves K n s (toWeldCheck n t) := by
  refine outGo hK ?_ _
  exact record hK (h.openKpKn hK) _ fun _ => ⟨rfl, rfl, rfl⟩

theorem hardBreak (h : SeqMoves K n s t) (code : Nat) :
    SeqMoves K n s (Machine.toWeldCheck n (Machine.hardOpen n (Machine.outCause n code t))) :=
  toWeldCheck hK (hardOpen (h.outCause hK code))

theorem weldStep (h : SeqMoves K n s t) : SeqMoves K n s (weldStep n t) := by
  have at_ : ∀ {u : State} (w : WeldStep) (a : Nat), SeqMoves K n s u → SeqMoves K n s (onOutlet n (fun o => { o with weld := w, weldAt := a }) u) :=
    fun w a hu => hu.record hK _ fun _ => ⟨rfl, rfl, rfl⟩
  unfold Machine.weldStep
  dsimp only
  split
  · split
    · exact at_ _ _ ((h.outCause hK _).fault _)
    · exact ite (fun _ => at_ _ _ h) fun _ => h
  · exact ite (fun _ => at_ _ _ (h.outCoil _ _)) fun _ => ite (fun _ => at_ _ _ ((h.outPend hK _).outCoil _ _)) fun _ => h
  · exact ite (fun _ => at_ _ _ (h.outCoil _ _)) fun _ => ite (fun _ => at_ _ _ ((h.outCause hK _).outCoil _ _)) fun _ => h
  · exact h

end SeqMoves

end Sys2Proof.Machine

end

section

/-! SUPPORT. The parts of the state table that discard every request, as moves. -/

namespace Sys2Proof.Machine

namespace SeqMoves

variable {K : (Outlet → Outlet) → Prop} {n : Nat} {s t u : State}

theorem trans (h : SeqMoves K n s t) (h' : SeqMoves K n t u) : SeqMoves K n s u := by
  induction h' with
  | refl => exact h
  | outlet f hf _ ih => exact ih.outlet f hf
  | coil c b _ ih => exact ih.coil c b
  | hard c _ ih => exact ih.hard c
  | fault c _ ih => exact ih.fault c

end SeqMoves

/-! ### Parts of the state table -/

/-- What turns a normal ramp into the emergency path (R123, R131, R167, R476): the first part of RAMP_DOWN. -/
def rampTurned (n : Nat) (s : State) : State :=
  if (outlet s n).emerg then s
  else if inCheck s then emergencyPath n 0x13 s
  else if enableLost s n then emergencyPath n 0x0A s
  else if s.pwr.pfw then emergencyPath n 0x0E s
  else if (fbMismatch s n).isSome then emergencyPath n 0x10 s
  else s

/-- KP and KN are not commanded closed any more. -/
def kpKnOpened (s : State) (n : Nat) : Bool :=
  (List.range 2).all (fun k => !(decide (oCoil s n k < 64) && (coil s (oCoil s n k)).cmd))

/-- T_ZC of the emergency path as the evaluation takes it (R130). -/
def rampTzc (s : State) (n : Nat) : Nat :=
  let tzc := if inCheck s then min 2000 (oTzc s n) else oTzc s n
  if (outlet s n).zc10 || s.pwr.pfw then min 200 tzc else tzc

/-- The second part of RAMP_DOWN: KP and KN open, or the limit ramps down (R128, R130, R139). -/
def rampStep (n : Nat) (s : State) : State :=
  if kpKnOpened s n then toWeldCheck n s
  else if acNoResponse s n then toWeldCheck n (hardOpen n (outCause n 0x17 s))
  else if (outlet s n).emerg then
    if lowCurrent s n then toWeldCheck n s
    else if rampTzc s n ≤ sinceT s (outlet s n).emergAt then toWeldCheck n (hardOpen n (outCause n 0x0F s))
    else onOutlet n (fun o => { o with zc10 := (outlet s n).zc10 || s.pwr.pfw }) s
  else if zeroConfirmed s n then toWeldCheck n s
  else if oTrd s n ≤ elapsed s n then toWeldCheck n (hardOpen n (outCause n 0x0F s))
  else onOutlet n (fun o => { o with applied := o.applied - oRamp s n }) s

theorem seqRampDown_eq (n : Nat) (s : State) : seqRampDown n s = rampStep n (rampTurned n s) := rfl

/-- The release of the lock in UNLOCK (R134). -/
def unlockReleased (n : Nat) (s : State) : State :=
  if (outlet s n).lockAt.isNone && (!hvPresent s n && target s (0x47 + 4 * n)) then
    onOutlet n (fun o => { o with lockAt := some s.tmp.now, lock := .unlock }) s
  else s

/-! ### The states that discard every request -/

section

variable {K : (Outlet → Outlet) → Prop} (hK : ∀ f, KeepsReject f → K f) (n : Nat) (s : State)

include hK

theorem seqMoves_seqPlugged : SeqMoves K n (dropRequest n s) (seqPlugged n s) :=
  have h : SeqMoves K n (dropRequest n s) (dropRequest n s) := .refl
  have hc := h.outCause hK 0x03
  .ite (fun _ => .ite (fun _ => hc.toUnlock hK) fun _ => hc.toIdle hK) fun _ =>
    .ite (fun _ => (h.outCause hK _).toFaulted hK) fun _ => .ite (fun _ => h.outGo hK _) fun _ => h

theorem seqMoves_seqAuthWait : SeqMoves K n (dropRequest n s) (seqAuthWait n s) := by
  have h : SeqMoves K n (dropRequest n s) (dropRequest n s) := .refl
  have hc : SeqMoves K n (dropRequest n s) (if (outlet (dropRequest n s) n).cause = 0 then dropRequest n s
      else outPend n F.OUT_FLAGS_CAUSE (onOutlet n (fun o => { o with cause := 0 }) (dropRequest n s))) :=
    .ite (fun _ => h) fun _ => by
      refine SeqMoves.outPend hK ?_ _
      exact h.record hK _ fun _ => ⟨rfl, rfl, rfl⟩
  refine .ite (fun _ => (h.outCause hK _).toUnlock hK) fun _ => .ite (fun _ => (h.outCause hK _).toUnlock hK) fun _ =>
    .ite (fun _ => ?_) fun _ => h
  refine SeqMoves.outGo hK (SeqMoves.sessionEvent hK ?_ _) _
  exact hc.record hK _ fun _ => ⟨rfl, rfl, rfl⟩

theorem seqMoves_rampTurned : SeqMoves K n s (rampTurned n s) :=
  have h : SeqMoves K n s s := .refl
  .ite (fun _ => h) fun _ => .ite (fun _ => h.emergencyPath hK _) fun _ => .ite (fun _ => h.emergencyPath hK _) fun _ =>
    .ite (fun _ => h.emergencyPath hK _) fun _ => .ite (fun _ => h.emergencyPath hK _) fun _ => h

theorem seqMoves_rampStep : SeqMoves K n s (rampStep n s) := by
  have h : SeqMoves K n s s := .refl
  refine .ite (fun _ => h.toWeldCheck hK) fun _ => .ite (fun _ => h.hardBreak hK _) fun _ => .ite (fun _ => ?emergency) fun _ => ?ramp
  case emergency =>
    refine .ite (fun _ => h.toWeldCheck hK) fun _ => .ite (fun _ => h.hardBreak hK _) fun _ => ?_
    exact h.record hK _ fun _ => ⟨rfl, rfl, rfl⟩
  case ramp =>
    refine .ite (fun _ => h.toWeldCheck hK) fun _ => .ite (fun _ => h.hardBreak hK _) fun _ => ?_
    exact h.record hK _ fun _ => ⟨rfl, rfl, rfl⟩

theorem seqMoves_seqRampDown : SeqMoves K n s (seqRampDown n s) :=
  (seqMoves_rampTurned hK n s).trans (seqMoves_rampStep hK n _)

theorem seqMoves_seqWeldCheck : SeqMoves K n (dropRequest n s) (seqWeldCheck n s) := by
  have h : SeqMoves K n (dropRequest n s) (weldStep n (dropRequest n s)) := SeqMoves.weldStep hK .refl
  exact .ite (fun _ => h.toFaulted hK) fun _ => .ite (fun _ => h.toFaulted hK) fun _ =>
    .ite (fun _ => .ite (fun _ => h.toUnlock hK) fun _ => h.toFaulted hK) fun _ => h

theorem seqMoves_unlockReleased : SeqMoves K n s (unlockReleased n s) :=
  .ite (fun _ => SeqMoves.record hK .refl _ fun _ => ⟨rfl, rfl, rfl⟩) fun _ => .refl

theorem seqMoves_seqUnlock : SeqMoves K n (dropRequest n s) (seqUnlock n s) := by
  have h := seqMoves_unlockReleased hK n (dropRequest n s)
  unfold seqUnlock
  dsimp only
  refine .ite (fun _ => .ite (fun _ => SeqMoves.toOos hK h) fun _ => SeqMoves.toIdle hK h) fun _ => ?_
  split
  · exact .ite (fun _ => SeqMoves.toFaulted hK (SeqMoves.outCause hK h _)) fun _ => h
  · exact h

end

/-! ### The whole state table -/

/-- Any update of an outlet's record. -/
def AnyUpdate (_ : Outlet → Outlet) : Prop := True

theorem anyUpdate (f : Outlet → Outlet) : AnyUpdate f := trivial

section

variable (n : Nat) {s t : State}

theorem SeqMoves.any (h : SeqMoves AnyUpdate n s t) (f : Outlet → Outlet) : SeqMoves AnyUpdate n s (onOutlet n f t) := h.outlet f trivial

theorem seqMoves_taken (h : SeqMoves AnyUpdate n s t) : SeqMoves AnyUpdate n s (taken n t) := h.any _ _

theorem seqMoves_refuse (h : SeqMoves AnyUpdate n s t) (r : Nat) : SeqMoves AnyUpdate n s (refuse n r t) :=
  (((h.any n _).any n _).any n _)

theorem seqMoves_dropRequest (h : SeqMoves AnyUpdate n s t) : SeqMoves AnyUpdate n s (dropRequest n t) :=
  .ite (fun _ => h) fun _ => seqMoves_refuse n h 0x1

end

end Sys2Proof.Machine

end

section

/-! SUPPORT. The whole state table as moves, and what the moves of an evaluation leave (R114, R123, R146). -/

namespace Sys2Proof.Machine

section

variable (n : Nat) (s : State)

theorem seqMoves_seqIdle : SeqMoves AnyUpdate n s (seqIdle n s) := by
  have h : SeqMoves AnyUpdate n s s := .refl
  have hd := seqMoves_dropRequest n h
  have hA : ∀ f, KeepsReject f → AnyUpdate f := fun f _ => anyUpdate f
  refine .ite (fun _ => (seqMoves_taken n h).toOos hA) fun _ => .ite (fun _ => (hd.outCause hA _).toFaulted hA) fun _ =>
    .ite (fun _ => (hd.any n _).outGo hA _) fun _ => .ite (fun _ => seqMoves_taken n ?_) fun _ => seqMoves_dropRequest n ?_
  · exact h.any n _
  · exact h.any n _

theorem seqMoves_seqNegotiate : SeqMoves AnyUpdate n s (seqNegotiate n s) := by
  have h : SeqMoves AnyUpdate n s s := .refl
  have hd := seqMoves_dropRequest n h
  have ht := seqMoves_taken n h
  have hA : ∀ f, KeepsReject f → AnyUpdate f := fun f _ => anyUpdate f
  refine .ite (fun _ => (hd.outCause hA _).toUnlock hA) fun _ => .ite (fun _ => (hd.outCause hA _).toUnlock hA) fun _ =>
    .ite (fun _ => (hd.outCause hA _).toUnlock hA) fun _ => .ite (fun _ => ?ac3) fun _ => .ite (fun _ => ?dc) fun _ => hd
  case ac3 =>
    exact .ite (fun _ => .ite (fun _ => ((ht.any n _).sessionEvent hA _).outGo hA _) fun _ => seqMoves_refuse n h _) fun _ => hd
  case dc =>
    split
    · exact seqMoves_refuse n h _
    · exact ((ht.closeKpKn hA).any n _).outGo hA _

theorem seqMoves_cableCheckSteps : SeqMoves AnyUpdate n s (cableCheckSteps n s) := by
  have h : SeqMoves AnyUpdate n s s := .refl
  have h1 := SeqMoves.ite (p := (!(outlet s n).ccTest && mirrors s n true) = true) (fun _ => h.any n (fun o => { o with ccTest := true })) fun _ => h
  exact .ite (fun _ => h1.any n _) fun _ => h1

theorem seqMoves_seqCableCheck : SeqMoves AnyUpdate n s (seqCableCheck n s) := by
  have h : SeqMoves AnyUpdate n s s := .refl
  have hd := seqMoves_dropRequest n h
  have hA : ∀ f, KeepsReject f → AnyUpdate f := fun f _ => anyUpdate f
  unfold seqCableCheck
  dsimp only
  split
  · exact hd.emergencyPath hA _
  · exact .ite (fun _ => hd.emergencyPath hA _) fun _ => .ite (fun _ => hd.emergencyPath hA _) fun _ =>
      .ite (fun _ => hd.rampedPath hA _) fun _ => .ite (fun _ => (seqMoves_taken n h).rampedPath hA _) fun _ =>
      .ite (fun _ => .ite (fun _ => (seqMoves_taken n h).outGo hA _) fun _ => seqMoves_refuse n h _) fun _ =>
      seqMoves_dropRequest n (seqMoves_cableCheckSteps n s)

theorem seqMoves_pcMatch : SeqMoves AnyUpdate n s (pcMatch n s) := by
  have h1 : ∀ f, SeqMoves AnyUpdate n s (onOutlet n f s) := fun f => SeqMoves.any n .refl f
  exact .ite (fun _ => (h1 _).any n _) fun _ => h1 _

theorem seqMoves_seqPrecharge : SeqMoves AnyUpdate n s (seqPrecharge n s) := by
  have h := seqMoves_pcMatch n s
  have hd := seqMoves_dropRequest n h
  have ht := seqMoves_taken n h
  have hA : ∀ f, KeepsReject f → AnyUpdate f := fun f _ => anyUpdate f
  unfold seqPrecharge
  dsimp only
  split
  · exact hd.emergencyPath hA _
  · exact .ite (fun _ => hd.emergencyPath hA _) fun _ => .ite (fun _ => hd.rampedPath hA _) fun _ =>
      .ite (fun _ => ht.rampedPath hA _) fun _ =>
      .ite (fun _ => .ite (fun _ => ((ht.any n _).sessionEvent hA _).outGo hA _) fun _ => seqMoves_refuse n h _) fun _ => hd

theorem seqMoves_energyLimit : SeqMoves AnyUpdate n s (energyLimit n s) := by
  have h : SeqMoves AnyUpdate n s s := .refl
  unfold energyLimit
  dsimp only
  refine .ite (fun _ => SeqMoves.any n (SeqMoves.any n (.ite (fun _ => h.any n _) fun _ => h) _) _) fun _ =>
    SeqMoves.any n (.ite (fun _ => h.any n _) fun _ => h) _

theorem seqMoves_ac3Energy : SeqMoves AnyUpdate n s (ac3Energy n s) := by
  have h1 : ∀ f, SeqMoves AnyUpdate n s (onOutlet n f s) := fun f => SeqMoves.any n .refl f
  exact .ite (fun _ => .ite (fun _ => h1 _) fun _ => (h1 _).closeKpKn fun f _ => anyUpdate f) fun _ => (h1 _).outCoil _ _

theorem seqMoves_seqEnergy : SeqMoves AnyUpdate n s (seqEnergy n s) := by
  have h : SeqMoves AnyUpdate n s (onOutlet n (fun o => { o with sawC := o.sawC || o.pilot == .c }) s) := SeqMoves.any n .refl _
  have hd := seqMoves_dropRequest n h
  have hA : ∀ f, KeepsReject f → AnyUpdate f := fun f _ => anyUpdate f
  have hl := hd.trans (seqMoves_energyLimit n _)
  unfold seqEnergy
  dsimp only
  split
  · exact hd.emergencyPath hA _
  · exact .ite (fun _ => hd.hardBreak hA _) fun _ => .ite (fun _ => hd.rampedPath hA _) fun _ => .ite (fun _ => hd.rampedPath hA _) fun _ =>
      .ite (fun _ => (seqMoves_taken n h).rampedPath hA _) fun _ => .ite (fun _ => hl.trans (seqMoves_ac3Energy n _)) fun _ => hl

theorem seqMoves_seqFaulted : SeqMoves AnyUpdate n s (seqFaulted n s) := by
  have hA : ∀ f, KeepsReject f → AnyUpdate f := fun f _ => anyUpdate f
  have h : SeqMoves AnyUpdate n s (weldStep n s) := SeqMoves.weldStep hA .refl
  have hd := seqMoves_dropRequest n h
  have ht := seqMoves_taken n h
  exact .ite (fun _ => hd) fun _ => .ite (fun _ => hd.toOos hA) fun _ => .ite (fun _ => hd.toUnlock hA) fun _ =>
    .ite (fun _ => .ite (fun _ => .ite (fun _ => ht.toIdle hA) fun _ => ht.toUnlock hA) fun _ => seqMoves_refuse n h _) fun _ => hd

theorem seqMoves_seqOos : SeqMoves AnyUpdate n s (seqOos n s) := by
  have h : SeqMoves AnyUpdate n s s := .refl
  exact .ite (fun _ => .ite (fun _ => seqMoves_refuse n h _) fun _ => .ite (fun _ => seqMoves_refuse n h _) fun _ =>
    ((seqMoves_taken n h).any n _).outGo (fun f _ => anyUpdate f) _) fun _ => seqMoves_dropRequest n h

/-- The state table: what outlet n does in its state (R117). -/
def seqTable (n : Nat) (s : State) : State :=
  match (outlet s n).st with
  | .idle => seqIdle n s
  | .plugged => seqPlugged n s
  | .authWait => seqAuthWait n s
  | .negotiate => seqNegotiate n s
  | .cableCheck => seqCableCheck n s
  | .precharge => seqPrecharge n s
  | .energy => seqEnergy n s
  | .rampDown => seqRampDown n (dropRequest n s)
  | .weldCheck => seqWeldCheck n s
  | .unlock => seqUnlock n s
  | .faulted => seqFaulted n s
  | .oos => seqOos n s

/-- An evaluation before the mirror contacts are looked at: the table on the outlet with its current followed, and the outputs. -/
def seqEvaluated (n : Nat) (s : State) : State :=
  onOutlet n (fun o => { o with seqAt := some s.tmp.now }) (seqOutputs n (seqTable n (trackLow n s)))

theorem seqOutlet_eq {n : Nat} {s : State} (h : oActive s n = true) : seqOutlet n s = outletMismatch n (seqEvaluated n s) := by
  rw [seqOutlet, if_neg (by simp [h])]
  rfl

theorem seqMoves_seqTable : SeqMoves AnyUpdate n s (seqTable n s) := by
  have hA : ∀ f, KeepsReject f → AnyUpdate f := fun f _ => anyUpdate f
  have hd : SeqMoves AnyUpdate n s (dropRequest n s) := seqMoves_dropRequest n .refl
  unfold seqTable
  split
  · exact seqMoves_seqIdle n s
  · exact hd.trans (seqMoves_seqPlugged hA n s)
  · exact hd.trans (seqMoves_seqAuthWait hA n s)
  · exact seqMoves_seqNegotiate n s
  · exact seqMoves_seqCableCheck n s
  · exact seqMoves_seqPrecharge n s
  · exact seqMoves_seqEnergy n s
  · exact hd.trans (seqMoves_seqRampDown hA n _)
  · exact hd.trans (seqMoves_seqWeldCheck hA n s)
  · exact hd.trans (seqMoves_seqUnlock hA n s)
  · exact seqMoves_seqFaulted n s
  · exact seqMoves_seqOos n s

theorem seqMoves_seqOutputs : SeqMoves AnyUpdate n s (seqOutputs n s) := by
  have h : SeqMoves AnyUpdate n s s := .refl
  have h0 : SeqMoves AnyUpdate n s (if (outlet s n).st ∈ [OutSt.idle, .oos] then allOpen n s else s) :=
    .ite (fun _ => h.allOpen fun f _ => anyUpdate f) fun _ => h
  exact (h0.any n _).any n _

theorem seqMoves_seqEvaluated : SeqMoves AnyUpdate n s (seqEvaluated n s) :=
  (((SeqMoves.any n .refl _).trans (seqMoves_seqTable n (trackLow n s))).trans (seqMoves_seqOutputs n _)).any n _

end

/-! ### What the moves leave -/

/-- The request of outlet n has been discarded with reason 1: not valid in the present state (R114). -/
def Discarded (s : State) (n : Nat) : Prop :=
  (outlet s n).rejP = some 1 ∧ (outlet s n).pend.testBit (F.OUT_FLAGS_REQREJ n).lo = true ∧ (outlet s n).reqFrz = 0

theorem outlet_coilFault (c : Nat) (s : State) (m : Nat) : outlet (coilFault c s) m = outlet s m := by
  unfold coilFault
  dsimp only
  split <;> simp [outlet]

theorem coil_coilFault (c : Nat) (s : State) (d : Nat) : coil (coilFault c s) d = coil s d := by
  unfold coilFault
  dsimp only
  split <;> simp [coil]

/-- A request once discarded stays so through the evaluation. -/
theorem SeqMoves.discarded {n : Nat} {s t : State} (hn : n < 4) (h : SeqMoves KeepsReject n s t) (hd : Discarded s n) : Discarded t n := by
  induction h with
  | refl => exact hd
  | @outlet u f hf _ ih =>
    obtain ⟨hr, hp, hq⟩ := ih
    obtain ⟨hfr, hfq, hfp⟩ := hf (Machine.outlet u n)
    rw [Discarded, outlet_onOutlet_self _ _ _ hn]
    exact ⟨hfr.trans hr, hfp _ hp, hfq.trans hq⟩
  | coil c b _ ih => rwa [Discarded, outlet_coilCmd]
  | hard c _ ih => exact ih
  | fault c _ ih => rwa [Discarded, outlet_coilFault]

theorem discarded_dropRequest {n : Nat} (s : State) (hn : n < 4) (h : (outlet s n).reqFrz ≠ 0) : Discarded (dropRequest n s) n := by
  rw [dropRequest, if_neg h, outReject, outPend, Discarded, outlet_onOutlet_self _ _ _ hn, outlet_onOutlet_self _ _ _ hn,
    outlet_onOutlet_self _ _ _ hn]
  exact ⟨rfl, by simp only [Nat.testBit_or, Nat.testBit_two_pow_self, Bool.or_true], rfl⟩

/-- What a mirror contact is judged by: the layout, the tempo, the feedbacks, and the drive of every coil with its instant (R123). -/
structure SameMirrors (s t : State) : Prop where
  sec : t.sec = s.sec
  tmp : t.tmp = s.tmp
  fb : t.mtx.fb = s.mtx.fb
  coil : ∀ c, (coil t c).drive = (coil s c).drive ∧ (coil t c).since = (coil s c).since

namespace SameMirrors

variable {s t : State} (h : SameMirrors s t)

include h

theorem section_eq (k : Nat) : Machine.sec t k = Machine.sec s k := by rw [Machine.sec, Machine.sec, h.sec]

theorem oCoil_eq (n k : Nat) : oCoil t n k = oCoil s n k := by rw [oCoil, oCoil, oU8, oU8, h.section_eq]

theorem oFb_eq (n k : Nat) : oFb t n k = oFb s n k := by rw [oFb, oFb, oU8, oU8, h.section_eq]

theorem mSettle_eq (c : Nat) : mSettle t c = mSettle s c := by rw [mSettle, mSettle, mTsettle, mTsettle, h.section_eq]

theorem coilMismatch_eq (c i : Nat) : coilMismatch t c i = coilMismatch s c i := by
  obtain ⟨hd, hs⟩ := h.coil c
  rw [coilMismatch, coilMismatch, fbIn, fbIn, sinceT, sinceT, hd, hs, h.fb, h.tmp, h.mSettle_eq]

theorem fbMismatch_eq (n : Nat) : fbMismatch t n = fbMismatch s n := by
  simp only [fbMismatch, h.oCoil_eq, h.oFb_eq, h.coilMismatch_eq]

end SameMirrors

/-- A change of a coil's command leaves its drive. -/
theorem drive_onCoil {f : Coil → Coil} (hf : ∀ k, (f k).drive = k.drive ∧ (f k).since = k.since) (c d : Nat) (s : State) :
    (coil (onCoil c f s) d).drive = (coil s d).drive ∧ (coil (onCoil c f s) d).since = (coil s d).since := by
  by_cases e : d = c
  · subst e
    by_cases hd : d < 64
    · rw [coil_onCoil_self _ _ _ hd]
      exact hf _
    · simp [coil, Tab.get, hd]
  · rw [coil_onCoil_ne _ _ _ _ e]
    exact ⟨rfl, rfl⟩

theorem SameMirrors.onCoil {s t : State} (h : SameMirrors s t) (c : Nat) {f : Coil → Coil}
    (hf : ∀ k, (f k).drive = k.drive ∧ (f k).since = k.since) : SameMirrors s (onCoil c f t) := by
  refine ⟨h.sec, h.tmp, h.fb, fun d => ?_⟩
  obtain ⟨hd, hs⟩ := drive_onCoil hf c d t
  obtain ⟨hd', hs'⟩ := h.coil d
  exact ⟨hd.trans hd', hs.trans hs'⟩

/-- An evaluation changes nothing a mirror contact is judged by: what it commands is driven from the next edge on (R57). -/
theorem SeqMoves.sameMirrors {K : (Outlet → Outlet) → Prop} {n : Nat} {s t : State} (h : SeqMoves K n s t) : SameMirrors s t := by
  induction h with
  | refl => exact ⟨rfl, rfl, rfl, fun _ => ⟨rfl, rfl⟩⟩
  | outlet f _ _ ih => exact ⟨ih.sec, ih.tmp, ih.fb, ih.coil⟩
  | coil c b _ ih =>
    unfold coilCmd
    split
    · exact ih.onCoil c fun _ => ⟨rfl, rfl⟩
    · exact ih
  | hard c _ ih => exact ih.onCoil c fun _ => ⟨rfl, rfl⟩
  | @fault u c _ ih =>
    have hm : (coilFault c u).mtx = u.mtx ∧ (coilFault c u).sec = u.sec ∧ (coilFault c u).tmp = u.tmp := by
      unfold coilFault
      dsimp only
      split <;> simp
    obtain ⟨hmtx, hsec, htmp⟩ := hm
    refine ⟨hsec.trans ih.sec, htmp.trans ih.tmp, (congrArg MtxState.fb hmtx).trans ih.fb, fun d => ?_⟩
    rw [coil_coilFault]
    exact ih.coil d

/-- The mismatch of coil c is new, or MTX_FLAGS shows one (R146). -/
def MismatchShown (c : Nat) (s : State) : Prop :=
  ((0x0C, c) ∉ s.saf.cur ∧ (0x0C, c) ∉ s.saf.prev) ∨ rget s F.MTX_FLAGS_FBMISMATCH = 1

theorem rget_safCause_fbMismatch (code data : Nat) (mate : Bool) (s : State) :
    rget (safCause code data mate s) F.MTX_FLAGS_FBMISMATCH = rget s F.MTX_FLAGS_FBMISMATCH := by
  have hr : rget (safRecord code data s) F.MTX_FLAGS_FBMISMATCH = rget s F.MTX_FLAGS_FBMISMATCH := by
    unfold safRecord
    dsimp only
    split
    · rw [rget_rsat_ne _ _ _ _ (by decide), rget_rput_ne _ _ _ _ (by decide), rget_rput_ne _ _ _ _ (by decide), rget_rput_ne _ _ _ _ (by decide)]
    · rw [rget_rsat_ne _ _ _ _ (by decide), rget_rput_ne _ _ _ _ (by decide), rget_rput_ne _ _ _ _ (by decide)]
  have hc : ∀ b : Bool, rget (if b then safRecord code data s else s) F.MTX_FLAGS_FBMISMATCH = rget s F.MTX_FLAGS_FBMISMATCH := by
    intro b
    cases b
    · rfl
    · exact hr
  exact hc _

theorem rget_raiseMtx_fbMismatch (s : State) : rget (raiseMtx F.MTX_FLAGS_FBMISMATCH s) F.MTX_FLAGS_FBMISMATCH = 1 :=
  rget_raiseData_flag 0 F.MTX_EVCNT_COUNT F.MTX_FLAGS_FBMISMATCH s (by decide) (by decide) (by decide)

/-- The fault of a coil shows FBMISMATCH at its first tempo, and takes no FBMISMATCH back (R146). -/
theorem rget_coilFault {c : Nat} {s : State} (h : MismatchShown c s) : rget (coilFault c s) F.MTX_FLAGS_FBMISMATCH = 1 := by
  rw [coilFault, rget_safCause_fbMismatch]
  split
  · exact rget_raiseMtx_fbMismatch s
  case isFalse hf =>
    rcases h with ⟨hc, hp⟩ | h
    · exact absurd (by simp [hc, hp]) hf
    · exact h

theorem coilFault_cur_prev (d : Nat) (s : State) : (coilFault d s).saf.prev = s.saf.prev
    ∧ ∀ x, x ≠ (0x0C, d) → x ∉ s.saf.cur → x ∉ (coilFault d s).saf.cur := by
  have hr : ∀ b : Bool, (if b then raiseMtx F.MTX_FLAGS_FBMISMATCH s else s).saf.prev = s.saf.prev
      ∧ (if b then raiseMtx F.MTX_FLAGS_FBMISMATCH s else s).saf.cur = s.saf.cur := by
    intro b
    cases b <;> simp
  rw [coilFault, safCause_saf]
  dsimp only
  obtain ⟨hp, hc⟩ := hr (!(s.saf.cur.contains (0x0C, d) || s.saf.prev.contains (0x0C, d)))
  rw [hp, hc]
  refine ⟨rfl, fun x hx hn => ?_⟩
  split
  · exact hn
  · simp [hx, hn]

theorem MismatchShown.coilFault {c : Nat} {s : State} (h : MismatchShown c s) (d : Nat) : MismatchShown c (coilFault d s) := by
  by_cases e : d = c
  · subst e
    exact .inr (rget_coilFault h)
  · obtain ⟨hp, hc⟩ := coilFault_cur_prev d s
    rcases h with ⟨hcur, hprev⟩ | hf
    · exact .inl ⟨hc _ (by simp [Ne.symm e]) hcur, hp ▸ hprev⟩
    · exact .inr (rget_coilFault (.inr hf))

theorem SeqMoves.mismatchShown {K : (Outlet → Outlet) → Prop} {n : Nat} {s t : State} {c : Nat} (h : SeqMoves K n s t) (hs : MismatchShown c s) :
    MismatchShown c t := by
  induction h with
  | refl => exact hs
  | outlet f _ _ ih => exact ih
  | coil d b _ ih =>
    unfold coilCmd
    split
    · exact ih
    · exact ih
  | hard d _ ih => exact ih
  | fault d _ ih => exact ih.coilFault d

end Sys2Proof.Machine

end

section

/-! SUPPORT. What the transitions of an outlet leave of its record and of its coils, and what its outputs leave of both (R109–R117). -/

namespace Sys2Proof.Machine

/-! ### Causes (R132, R135) -/

/-- LATCH is the highest class. -/
theorem causeClass_le (code : Nat) : causeClass code ≤ 3 := by
  unfold causeClass
  split_ifs <;> decide

section

variable {n : Nat} (hn : n < 4) (code : Nat) (s : State)

include hn

/-- A cause recorded changes the cause of the record and its mark for the edge alone. -/
theorem outCause_keeps {α : Type} (p : Outlet → α) (hp : ∀ o l c i a d,
    p { o with latch := l, cause := c, inState := i, causeOld := a, pend := d } = p o) :
    p (outlet (outCause n code s) n) = p (outlet s n) := by
  rw [outCause, outlet_onOutlet_self _ _ _ hn]
  dsimp only
  split
  · exact hp _ _ _ _ _ _
  · exact hp _ _ (outlet s n).cause (outlet s n).inState (outlet s n).causeOld (outlet s n).pend

theorem cause_outCause (h : (outlet s n).cause = 0 ∨ (outlet s n).causeOld = true ∨ causeClass code = 3
    ∨ causeClass (outlet s n).cause < causeClass code) :
    (outlet (outCause n code s) n).cause = code ∧ (outlet (outCause n code s) n).causeOld = false := by
  rw [outCause, outlet_onOutlet_self _ _ _ hn]
  dsimp only
  rw [if_pos h]
  exact ⟨rfl, rfl⟩

theorem latch_outCause (h : (outlet s n).latch = true ∨ causeClass code = 3) : (outlet (outCause n code s) n).latch = true := by
  have hl : ((outlet s n).latch || causeClass code == 3) = true := by simpa using h
  rw [outCause, outlet_onOutlet_self _ _ _ hn]
  dsimp only
  rw [hl]
  split <;> rfl

/-- A LATCH cause of this session stands whatever comes after it. -/
theorem cause_outCause_of_latched (h : causeClass (outlet s n).cause = 3) (ho : (outlet s n).causeOld = false) (hc : causeClass code ≠ 3)
    : (outlet (outCause n code s) n).cause = (outlet s n).cause := by
  have h0 : (outlet s n).cause ≠ 0 := by
    intro e
    rw [e] at h
    cases h
  have hlt : ¬ causeClass (outlet s n).cause < causeClass code := by
    have := causeClass_le code
    omega
  rw [outCause, outlet_onOutlet_self _ _ _ hn]
  dsimp only
  rw [if_neg (by simp [h0, ho, hc, hlt])]

end

/-! ### Transitions -/

section

variable {n : Nat} (hn : n < 4) (s : State)

include hn

theorem outlet_outPend (f : Nat → Fld) : outlet (outPend n f s) n = { outlet s n with pend := (outlet s n).pend ||| 2 ^ (f n).lo } := by
  rw [outPend, outlet_onOutlet_self _ _ _ hn]

theorem outlet_sessionEvent (e : SessEv) : outlet (sessionEvent n e s) n = { outlet s n with sev := (outlet s n).sev ++ [e] } := by
  rw [sessionEvent, outlet_onOutlet_self _ _ _ hn]

theorem outlet_taken : outlet (taken n s) n = { outlet s n with reqFrz := 0 } := by rw [taken, outlet_onOutlet_self _ _ _ hn]

/-- A request refused leaves its reason and REQREJ (R114). -/
theorem outlet_refuse (r : Nat) : outlet (refuse n r s) n
    = { outlet s n with reqFrz := 0, rejP := some r, pend := (outlet s n).pend ||| 2 ^ (F.OUT_FLAGS_REQREJ n).lo } := by
  rw [refuse, outReject, outlet_outPend hn, outlet_onOutlet_self _ _ _ hn, outlet_onOutlet_self _ _ _ hn]

theorem outlet_toIdle : (outlet (toIdle n s) n).st = .idle ∧ (outlet (toIdle n s) n).armed = false := by
  rw [toIdle, outGo_st _ _ _ hn, outlet_onOutlet_self _ _ _ hn]
  exact ⟨rfl, rfl⟩

theorem outlet_toUnlock : (outlet (toUnlock n s) n).st = .unlock ∧ (outlet (toUnlock n s) n).cause = (outlet s n).cause := by
  rw [toUnlock, outGo_st _ _ _ hn, outlet_onOutlet_self _ _ _ hn, outCoil, outlet_coilCmd]
  exact ⟨rfl, rfl⟩

theorem outlet_toFaulted : (outlet (toFaulted n s) n).st = .faulted ∧ (outlet (toFaulted n s) n).cause = (outlet s n).cause
    ∧ (outlet (toFaulted n s) n).latch = (outlet s n).latch := by
  rw [toFaulted]
  dsimp only
  rw [outGo_st _ _ _ hn, outlet_onOutlet_self _ _ _ hn, outCoil, outlet_coilCmd]
  exact ⟨rfl, rfl, rfl⟩

/-- The emergency path: RAMP_DOWN with EMERG and 0 A (R130). -/
theorem outlet_emergencyPath (code : Nat) : (outlet (emergencyPath n code s) n).st = .rampDown ∧ (outlet (emergencyPath n code s) n).emerg = true
    ∧ (outlet (emergencyPath n code s) n).applied = 0
    ∧ (outlet (emergencyPath n code s) n).cause = (outlet (outCause n code s) n).cause
    ∧ (outlet (emergencyPath n code s) n).causeOld = (outlet (outCause n code s) n).causeOld
    ∧ (outlet (emergencyPath n code s) n).latch = (outlet (outCause n code s) n).latch := by
  rw [emergencyPath]
  split
  case isTrue h =>
    rw [outlet_onOutlet_self _ _ _ hn]
    exact ⟨(outCause_keeps hn code s Outlet.st fun _ _ _ _ _ _ => rfl).trans h, rfl, rfl, rfl, rfl, rfl⟩
  case isFalse h =>
    rw [outGo_st _ _ _ hn, outlet_onOutlet_self _ _ _ hn]
    exact ⟨rfl, rfl, rfl, rfl, rfl, rfl⟩

/-- The ramped path: RAMP_DOWN without EMERG; the limit stands where the outlet was in ENERGY (R116, R128). -/
theorem outlet_rampedPath (code : Nat) : (outlet (rampedPath n code s) n).st = .rampDown ∧ (outlet (rampedPath n code s) n).emerg = false
    ∧ (outlet (rampedPath n code s) n).applied = (if (outlet s n).st = .energy then (outlet s n).applied else 0)
    ∧ (outlet (rampedPath n code s) n).cause = (outlet (outCause n code s) n).cause := by
  rw [rampedPath]
  rw [outGo_st _ _ _ hn, outlet_onOutlet_self _ _ _ hn]
  refine ⟨rfl, rfl, ?_, rfl⟩
  have ha : (outlet (outCause n code s) n).applied = (outlet s n).applied := outCause_keeps hn code s Outlet.applied fun _ _ _ _ _ _ => rfl
  dsimp only
  rw [ha]
  cases (outlet s n).st <;> rfl

theorem outlet_openKpKn : ∃ l, outlet (openKpKn n s) n = { outlet s n with energised := false, isoStart := false, isoStop := true, sev := l } := by
  rw [openKpKn]
  dsimp only
  rw [outlet_onOutlet_self _ _ _ hn]
  split
  · rw [outlet_sessionEvent hn, outCoil, outCoil, outlet_coilCmd, outlet_coilCmd]
    exact ⟨_, rfl⟩
  · rw [outCoil, outCoil, outlet_coilCmd, outlet_coilCmd]
    exact ⟨_, rfl⟩

theorem outlet_toWeldCheck : (outlet (toWeldCheck n s) n).st = .weldCheck ∧ (outlet (toWeldCheck n s) n).cause = (outlet s n).cause
    ∧ (outlet (toWeldCheck n s) n).latch = (outlet s n).latch := by
  obtain ⟨l, ho⟩ := outlet_openKpKn hn s
  rw [toWeldCheck, outGo_st _ _ _ hn, outlet_onOutlet_self _ _ _ hn, ho]
  exact ⟨rfl, rfl, rfl⟩

end

/-! ### Coils (R123, R128, R130) -/

theorem coil_coilCmd_self {c : Nat} (hc : c < 64) (b : Bool) (s : State) :
    (coil (coilCmd c b s) c).cmd = b ∧ (coil (coilCmd c b s) c).hard = ((coil s c).hard && !b) := by
  rw [coilCmd, if_pos hc, coil_onCoil_self _ _ _ hc]
  exact ⟨rfl, rfl⟩

theorem coil_coilCmd_ne {c d : Nat} (h : d ≠ c) (b : Bool) (s : State) : coil (coilCmd c b s) d = coil s d := by
  unfold coilCmd
  split
  · exact coil_onCoil_ne _ _ _ _ h
  · rfl

/-- A coil has the command of the last of two commands, to it or to another coil. -/
theorem cmd_coilCmd_of_cmd {c d : Nat} (hd : d < 64) {b : Bool} {s : State} (h : (coil s d).cmd = b) : (coil (coilCmd c b s) d).cmd = b := by
  by_cases e : d = c
  · subst e
    exact (coil_coilCmd_self hd b s).1
  · rw [coil_coilCmd_ne e, h]

/-- An opening keeps the mark of a hard break. -/
theorem hard_coilCmd_false {c d : Nat} {s : State} (h : (coil s d).hard = true) : (coil (coilCmd c false s) d).hard = true := by
  by_cases e : d = c
  · subst e
    unfold coilCmd
    split
    case isTrue hc =>
      rw [coil_onCoil_self _ _ _ hc, h]
      rfl
    case isFalse => exact h
  · rw [coil_coilCmd_ne e, h]

theorem oCoil_coilCmd (c : Nat) (b : Bool) (s : State) (n k : Nat) : oCoil (coilCmd c b s) n k = oCoil s n k := by
  unfold coilCmd
  split <;> rfl

theorem coil_onOutlet (n : Nat) (f : Outlet → Outlet) (s : State) (d : Nat) : coil (onOutlet n f s) d = coil s d := rfl

theorem coil_outGo (n : Nat) (st : OutSt) (s : State) (d : Nat) : coil (outGo n st s) d = coil s d := rfl

/-- The coils after KP and KN are commanded open. -/
theorem coil_openKpKn (n : Nat) (s : State) (d : Nat) :
    coil (openKpKn n s) d = coil (coilCmd (oCoil s n 1) false (coilCmd (oCoil s n 0) false s)) d := by
  rw [openKpKn]
  rw [coil_onOutlet]
  split
  · rw [sessionEvent, coil_onOutlet, outCoil, outCoil, oCoil_coilCmd]
  · rw [outCoil, outCoil, oCoil_coilCmd]

theorem coil_toWeldCheck (n : Nat) (s : State) (d : Nat) :
    coil (toWeldCheck n s) d = coil (coilCmd (oCoil s n 1) false (coilCmd (oCoil s n 0) false s)) d := by
  rw [toWeldCheck, coil_outGo, coil_onOutlet, coil_openKpKn]

/-- KP opens on the way into WELD_CHECK. -/
theorem cmd_toWeldCheck {n : Nat} {s : State} (h : oCoil s n 0 < 64) : (coil (toWeldCheck n s) (oCoil s n 0)).cmd = false := by
  rw [coil_toWeldCheck]
  exact cmd_coilCmd_of_cmd h (coil_coilCmd_self h _ _).1

/-- A hard opening marks KP (R128, R139, R196). -/
theorem hard_toWeldCheck_hardOpen {n : Nat} {s : State} (h : oCoil s n 0 < 64) :
    (coil (toWeldCheck n (hardOpen n s)) (oCoil s n 0)).hard = true := by
  have hh : (coil (hardOpen n s) (oCoil s n 0)).hard = true := by
    have h0 : (coil (onCoil (oCoil s n 0) (fun c => { c with hard := true }) s) (oCoil s n 0)).hard = true := by
      rw [coil_onCoil_self _ _ _ h]
    change (coil (onCoil (oCoil s n 1) (fun c => { c with hard := true }) (onCoil (oCoil s n 0) (fun c => { c with hard := true }) s))
      (oCoil s n 0)).hard = true
    by_cases e : oCoil s n 0 = oCoil s n 1
    · rw [← e, coil_onCoil_self _ _ _ h]
    · rw [coil_onCoil_ne _ _ _ _ e, h0]
  rw [coil_toWeldCheck]
  exact hard_coilCmd_false (hard_coilCmd_false hh)

/-- KP and KN commanded closed are so. -/
theorem cmd_closeKpKn (n : Nat) (s : State) : (oCoil s n 0 < 64 → (coil (closeKpKn n s) (oCoil s n 0)).cmd = true)
    ∧ (oCoil s n 1 < 64 → (coil (closeKpKn n s) (oCoil s n 1)).cmd = true) := by
  have hc : ∀ d, coil (closeKpKn n s) d = coil (coilCmd (oCoil s n 1) true (coilCmd (oCoil s n 0) true s)) d := by
    intro d
    rw [closeKpKn, outCoil, outCoil, oCoil_coilCmd]
    rfl
  rw [hc, hc]
  exact ⟨fun h => cmd_coilCmd_of_cmd h (coil_coilCmd_self h _ _).1, fun h => (coil_coilCmd_self h _ _).1⟩

/-! ### The outputs of a state (R109, R110) -/

/-- An outlet's record without what the outputs of its state and the mark of its evaluation write. -/
def Outlet.judged (o : Outlet) : Outlet :=
  { o with applied := 0, bind := 0, budgetBound := false, duty := 0, lock := .none, aux := false, rkind := .release, rvolt := 0, rcur := 0,
           perm := 0, reqNow := false, isoStart := false, isoStop := false, sev := [], energised := false, seqAt := none }

section

variable {n : Nat} (hn : n < 4) (s : State)

theorem stateLimit_judged (o : Outlet) : (stateLimit s n o).judged = o.judged := by
  unfold stateLimit
  split <;> rfl

include hn

theorem outlet_allOpen : ∃ l, outlet (allOpen n s) n = { outlet s n with energised := false, isoStart := false, isoStop := true, sev := l } := by
  rw [allOpen, outCoil, outlet_coilCmd]
  exact outlet_openKpKn hn s

/-- The outputs leave the state, its causes, its marks for the edge and its timers. -/
theorem judged_seqOutputs : (outlet (seqOutputs n s) n).judged = (outlet s n).judged := by
  rw [seqOutputs]
  rw [outlet_onOutlet_self _ _ _ hn, outlet_onOutlet_self _ _ _ hn]
  refine (stateLimit_judged _ _).trans ?_
  split
  · obtain ⟨l, ho⟩ := outlet_allOpen hn s
    rw [ho]
    rfl
  · rfl

/-- Off IDLE and OUT_OF_SERVICE the applied limit is that of the state. -/
theorem applied_seqOutputs (h : (outlet s n).st ∉ [OutSt.idle, .oos]) :
    (outlet (seqOutputs n s) n).applied = (stateLimit s n (outlet s n)).applied
      ∧ (outlet (seqOutputs n s) n).energised = (outlet s n).energised := by
  rw [seqOutputs]
  rw [if_neg h, outlet_onOutlet_self _ _ _ hn, outlet_onOutlet_self _ _ _ hn]
  refine ⟨rfl, ?_⟩
  dsimp only
  unfold stateLimit
  split <;> rfl

omit hn in
/-- Off IDLE and OUT_OF_SERVICE the outputs command no coil. -/
theorem coil_seqOutputs (h : (outlet s n).st ∉ [OutSt.idle, .oos]) (d : Nat) : coil (seqOutputs n s) d = coil s d := by
  rw [seqOutputs]
  rw [if_neg h]
  rfl

end

/-! ### The outlet after its evaluation -/

theorem coil_outletMismatch (n : Nat) (s : State) (d : Nat) : coil (outletMismatch n s) d = coil s d := by
  unfold outletMismatch
  split
  · exact coil_coilFault _ _ _
  · rfl

theorem outlet_seqOutlet {n : Nat} {s : State} (hn : n < 4) (ha : oActive s n = true) : outlet (seqOutlet n s) n
    = { outlet (seqOutputs n (seqTable n (trackLow n s))) n with seqAt := some s.tmp.now } := by
  rw [seqOutlet_eq ha, outlet, outletMismatch_outs, ← outlet, seqEvaluated, outlet_onOutlet_self _ _ _ hn]

/-- What the table has made of an outlet stands after the outputs. -/
theorem judged_seqOutlet {n : Nat} {s t : State} (hn : n < 4) (ha : oActive s n = true) (ht : seqTable n (trackLow n s) = t) :
    (outlet (seqOutlet n s) n).judged = (outlet t n).judged := by
  rw [outlet_seqOutlet hn ha, ← ht]
  exact judged_seqOutputs hn _

/-- The applied limit and the energy of an outlet whose state is neither IDLE nor OUT_OF_SERVICE, and its coils, after its evaluation. -/
theorem applied_seqOutlet {n : Nat} {s t : State} (hn : n < 4) (ha : oActive s n = true) (ht : seqTable n (trackLow n s) = t)
    (hst : (outlet t n).st ∉ [OutSt.idle, .oos]) : (outlet (seqOutlet n s) n).applied = (stateLimit t n (outlet t n)).applied
      ∧ (outlet (seqOutlet n s) n).energised = (outlet t n).energised ∧ ∀ d, coil (seqOutlet n s) d = coil t d := by
  have hc : ∀ d, coil (seqOutlet n s) d = coil t d := by
    intro d
    rw [seqOutlet_eq ha, coil_outletMismatch, seqEvaluated, coil_onOutlet, ht, coil_seqOutputs _ hst]
  rw [outlet_seqOutlet hn ha, ht]
  obtain ⟨hap, hen⟩ := applied_seqOutputs hn t hst
  exact ⟨hap, hen, hc⟩

end Sys2Proof.Machine

end

section

/-! SUPPORT. The conditions of a tempo: the marks that an evaluation sets before it decides change none of them. -/

namespace Sys2Proof.Machine

/-- The marks an evaluation sets on an outlet before it decides. -/
structure SeqMarks where
  lowSince : Option Nat
  reqFrz : Nat
  rejP : Option Nat
  pend : Nat
  pcmatch : Bool
  sawC : Bool

/-- An outlet's record with these marks. -/
def Outlet.marked (o : Outlet) (m : SeqMarks) : Outlet :=
  { o with lowSince := m.lowSince, reqFrz := m.reqFrz, rejP := m.rejP, pend := m.pend, pcmatch := m.pcmatch, sawC := m.sawC }

/-- State u is s but for marks of outlet n that no condition of its sequencer reads; that state C has been seen is read only where the
pilot is not C. -/
structure SameConditions (n : Nat) (s u : State) : Prop where
  rest : u = { s with outs := u.outs }
  others : ∀ m, m ≠ n → outlet u m = outlet s m
  marks : ∃ m, (m.sawC = (outlet s n).sawC ∨ (outlet s n).pilot = .c) ∧ outlet u n = (outlet s n).marked m

/-- An update of an outlet's record that leaves all but the marks. -/
def MarksOnly (f : Outlet → Outlet) : Prop :=
  ∀ o, ∃ m : SeqMarks, (m.sawC = o.sawC ∨ o.pilot = .c) ∧ f o = o.marked m

namespace SameConditions

variable {n : Nat} {s u : State}

theorem refl : SameConditions n s s := ⟨rfl, fun _ _ => rfl, ⟨_, _, _, _, _, _⟩, .inl rfl, rfl⟩

theorem onOutlet (hn : n < 4) (h : SameConditions n s u) {f : Outlet → Outlet} (hf : MarksOnly f) : SameConditions n s (onOutlet n f u) := by
  refine ⟨?_, fun m hm => (outlet_onOutlet_ne _ _ _ _ hm).trans (h.others m hm), ?_⟩
  · rw [Machine.onOutlet]
    exact congrArg (fun t : State => { t with outs := Tab.upd u.outs n f }) h.rest
  · obtain ⟨m, hs, ho⟩ := h.marks
    obtain ⟨m', hs', ho'⟩ := hf (outlet u n)
    refine ⟨m', ?_, ?_⟩
    · rw [ho] at hs'
      rcases hs' with hs' | hs'
      · rcases hs with hs | hs
        · exact .inl (hs'.trans hs)
        · exact .inr hs
      · exact .inr hs'
    · rw [outlet_onOutlet_self _ _ _ hn, ho', ho]
      rfl

variable (h : SameConditions n s u)

include h

/-- What is read from elsewhere than the outlets. -/
theorem read {α : Type} (g : State → α) (hg : ∀ v, g { s with outs := v } = g s) : g u = g s := by
  rw [h.rest, hg]

/-- What is read from the outlet's record beside the marks. -/
theorem keep {α : Type} (p : Outlet → α) (hp : ∀ o m, p (o.marked m) = p o) : p (outlet u n) = p (outlet s n) := by
  obtain ⟨m, -, ho⟩ := h.marks
  rw [ho, hp]

theorem sinceT_eq (t : Nat) : sinceT u t = sinceT s t := h.read (sinceT · t) fun _ => rfl

theorem elapsed_eq : elapsed u n = elapsed s n := by rw [elapsed, elapsed, h.sinceT_eq, h.keep Outlet.since fun _ _ => rfl]

theorem hvPresent_eq : hvPresent u n = hvPresent s n := by
  rw [hvPresent, hvPresent, h.read (oType · n) fun _ => rfl, h.read (oVmv · n) fun _ => rfl, h.keep Outlet.hvAt fun _ _ => rfl]
  simp only [h.sinceT_eq]

theorem permOf_eq (k : Nat) (a : Bool) : permOf u n k a = permOf s n k a := by
  have hi : isoOk u n = isoOk s n := by
    rw [isoOk, isoOk, isoOkOf, isoOkOf, h.read (oType · n) fun _ => rfl, h.read (sRcMask · n) fun _ => rfl, h.keep Outlet.isoHeld fun _ _ => rfl,
      h.keep Outlet.isoOk fun _ _ => rfl,
      h.keep Outlet.rcTested fun _ _ => rfl]
  have he : sessionEpoch u n = sessionEpoch s n := by rw [sessionEpoch, sessionEpoch, h.read epochOk fun _ => rfl,
    h.keep Outlet.authEpoch fun _ _ => rfl]
  rw [permOf, permOf, hi, he, h.read (target · (0x44 + 4 * n + k)) fun _ => rfl, h.read (·.saf) fun _ => rfl, h.read (·.bil) fun _ => rfl,
    h.read (rbit · F.TMP_STATUS_IRC) fun _ => rfl]

theorem acNoResponse_eq : acNoResponse u n = acNoResponse s n := by
  rw [acNoResponse, acNoResponse, h.elapsed_eq, h.sinceT_eq, h.read (oType · n) fun _ => rfl, h.read (oTacresp · n) fun _ => rfl,
    h.keep Outlet.pilot fun _ _ => rfl,
    h.keep Outlet.st fun _ _ => rfl, h.keep Outlet.pause fun _ _ => rfl, h.keep Outlet.pauseAt fun _ _ => rfl]

/-- A stop by the vehicle is a fall from state C to state B, so a state C of this tempo makes none. -/
theorem sawC_and_seqPilot : ((outlet u n).sawC && seqPilot (outlet u n) == .b) = ((outlet s n).sawC && seqPilot (outlet s n) == .b) := by
  obtain ⟨m, hs, ho⟩ := h.marks
  have hm : ((outlet s n).marked m).sawC = m.sawC := rfl
  rw [ho, hm]
  rcases hs with hs | hs
  · rw [hs]
    rfl
  · have hb : (seqPilot (outlet s n) == .b) = false := by rw [seqPilot, hs]; rfl
    have hb' : (seqPilot ((outlet s n).marked m) == .b) = false := hb
    rw [hb, hb', Bool.and_false, Bool.and_false]

theorem emergency_eq : emergency u n = emergency s n := by
  have hv : ((outlet u n).st == .energy && (oType u n == tyCcs || oType u n == tyAc3) && (outlet u n).sawC && !(outlet u n).pause
        && seqPilot (outlet u n) == .b)
      = ((outlet s n).st == .energy && (oType s n == tyCcs || oType s n == tyAc3) && (outlet s n).sawC && !(outlet s n).pause
        && seqPilot (outlet s n) == .b) := by
    rw [h.read (oType · n) fun _ => rfl, h.keep Outlet.st fun _ _ => rfl, h.keep Outlet.pause fun _ _ => rfl,
      Bool.and_right_comm _ (outlet u n).sawC, Bool.and_right_comm _ (outlet s n).sawC,
      Bool.and_assoc _ (outlet u n).sawC, Bool.and_assoc _ (outlet s n).sawC, h.sawC_and_seqPilot]
  have hp : pilotFault (outlet u n) = pilotFault (outlet s n) := h.keep pilotFault fun _ _ => rfl
  simp only [emergency, ↓hv, hp, h.permOf_eq, h.read inCheck fun _ => rfl, h.read (enableLost · n) fun _ => rfl, h.read (·.pwr) fun _ => rfl,
    h.read (busLost · n) fun _ => rfl, h.read (fbMismatch · n) fun _ => rfl,
    h.read (oType · n) fun _ => rfl, h.keep Outlet.st fun _ _ => rfl, h.keep Outlet.auth fun _ _ => rfl, h.keep Outlet.revoked fun _ _ => rfl,
      h.keep Outlet.rcTrip fun _ _ => rfl, h.keep Outlet.pilot fun _ _ => rfl, h.keep Outlet.proxOk fun _ _ => rfl]

theorem cableCheckRefusal_eq : cableCheckRefusal u n = cableCheckRefusal s n := by
  have hb : busBusy u n = busBusy s n := by
    rw [busBusy, busBusy]
    congr 1
    funext m
    by_cases e : m = n
    · simp [e]
    · rw [h.others m e, h.read (oActive · m) fun _ => rfl, h.read (oBuses · m) fun _ => rfl, h.read (oBuses · n) fun _ => rfl]
  simp only [cableCheckRefusal, h.permOf_eq, hb, h.hvPresent_eq, h.read (target · (0x44 + 4 * n)) fun _ => rfl,
    h.read (target · (0x45 + 4 * n)) fun _ => rfl,
    h.read (oVrated · n) fun _ => rfl, h.read (oBusVolt · n) fun _ => rfl, h.keep Outlet.vtF fun _ _ => rfl, h.keep Outlet.auth fun _ _ => rfl]

theorem outDead_eq : outDead u n = outDead s n := by
  rw [outDead, outDead, h.hvPresent_eq, h.read (oType · n) fun _ => rfl, h.read (oVmv · n) fun _ => rfl]

theorem weldBad_eq : weldBad u n = weldBad s n := by
  have hc : ∀ k, oCoil u n k = oCoil s n k := fun k => h.read (oCoil · n k) fun _ => rfl
  have hf : ∀ k, oFb u n k = oFb s n k := fun k => h.read (oFb · n k) fun _ => rfl
  have hi : ∀ i, fbIn u i = fbIn s i := fun i => h.read (fbIn · i) fun _ => rfl
  have hs : ∀ k, outSettle u n k = outSettle s n k := fun k => h.read (outSettle · n k) fun _ => rfl
  simp only [weldBad, hc, hf, hi, hs, h.sinceT_eq, h.keep Outlet.weldAt fun _ _ => rfl]

end SameConditions

/-! ### The marks of an evaluation -/

section

variable {n : Nat} {s u : State} (hn : n < 4) (h : SameConditions n s u)

include hn h

theorem SameConditions.outPend (f : Nat → Fld) : SameConditions n s (outPend n f u) :=
  h.onOutlet hn fun _ => ⟨⟨_, _, _, _, _, _⟩, .inl rfl, rfl⟩

theorem SameConditions.trackLow : SameConditions n s (trackLow n u) := h.onOutlet hn fun _ => ⟨⟨_, _, _, _, _, _⟩, .inl rfl, rfl⟩

theorem SameConditions.taken : SameConditions n s (taken n u) := h.onOutlet hn fun _ => ⟨⟨_, _, _, _, _, _⟩, .inl rfl, rfl⟩

theorem SameConditions.dropRequest : SameConditions n s (dropRequest n u) := by
  unfold Machine.dropRequest
  split
  · exact h
  · exact ((h.onOutlet hn fun _ => ⟨⟨_, _, _, _, _, _⟩, .inl rfl, rfl⟩).onOutlet hn
      fun _ => ⟨⟨_, _, _, _, _, _⟩, .inl rfl, rfl⟩).outPend hn _

theorem SameConditions.pcMatch : SameConditions n s (pcMatch n u) := by
  unfold Machine.pcMatch
  dsimp only
  split
  · exact (h.onOutlet hn fun _ => ⟨⟨_, _, _, _, _, _⟩, .inl rfl, rfl⟩).outPend hn _
  · exact h.onOutlet hn fun _ => ⟨⟨_, _, _, _, _, _⟩, .inl rfl, rfl⟩

/-- State C seen in this tempo. -/
theorem SameConditions.seenC : SameConditions n s (Machine.onOutlet n (fun o => { o with sawC := o.sawC || o.pilot == .c }) u) := by
  refine h.onOutlet hn fun o => ⟨⟨_, _, _, _, _, o.sawC || o.pilot == .c⟩, ?_, rfl⟩
  cases e : o.pilot <;> simp

/-- A cause recorded over the marks. -/
theorem SameConditions.cause_eq {code : Nat} (hc : (outlet s n).cause = 0 ∨ (outlet s n).causeOld = true ∨ causeClass code = 3
    ∨ causeClass (outlet s n).cause < causeClass code) :
    (outlet (outCause n code u) n).cause = code ∧ (outlet (outCause n code u) n).causeOld = false :=
  cause_outCause hn code u (by rwa [h.keep Outlet.cause fun _ _ => rfl, h.keep Outlet.causeOld fun _ _ => rfl])

end

theorem sameConditions_trackLow {n : Nat} (hn : n < 4) (s : State) : SameConditions n s (trackLow n s) := SameConditions.refl.trackLow hn

/-- Zero current stays confirmed as the current is followed. -/
theorem zeroConfirmed_trackLow {n : Nat} (hn : n < 4) (s : State) (h : zeroConfirmed s n = true) : zeroConfirmed (trackLow n s) n = true := by
  have ho : (outlet (trackLow n s) n).lowSince = if lowCurrent s n then ((outlet s n).lowSince <|> some s.tmp.now) else none := by
    rw [trackLow, outlet_onOutlet_self _ _ _ hn]
  unfold zeroConfirmed at h
  split at h
  case h_1 t e =>
    have hl : lowCurrent s n = true := by
      rw [Bool.and_eq_true] at h
      exact h.2
    rw [zeroConfirmed, ho, hl, e]
    exact h
  case h_2 => cases h

theorem zeroConfirmed_of_not_low {n : Nat} {s : State} (h : lowCurrent s n = false) : zeroConfirmed s n = false := by
  unfold zeroConfirmed
  split
  · rw [h, Bool.and_false]
  · rfl

end Sys2Proof.Machine

end

section

/-! SUPPORT. The timers of the sequencers: each at the evaluation of its tempo. -/

namespace Sys2Proof.Machine

/-! ### An evaluation that is due (R18, R109) -/

/-- Outlet n is in use and waits for its evaluation of a tempo in which COMPARE has completed. -/
structure AtSeq (s : State) (n : Nat) : Prop where
  running : s.tmp.running = true
  compared : 3 ∈ s.tmp.ran
  active : oActive s n = true
  waiting : (outlet s n).seqAt ≠ some s.tmp.now

theorem atSeq_of_seqDue {s : State} {n : Nat} (h : SeqDue s n) : AtSeq s n := by
  obtain ⟨hr, hc, ha, hw, -⟩ := h
  exact ⟨hr, hc, ha, hw⟩

theorem AtSeq.seqDue_eq {s : State} {n : Nat} (h : AtSeq s n) : seqDue n s = seqOutlet n s := by
  rw [seqDue, if_pos (by simpa using h.compared), seqOnce, if_pos (by simp [h.running, h.waiting])]

/-- A timer that has run out evaluates its outlet. -/
theorem does_expiry {c : Instr} {n : Nat} {due : Bool} {s : State} {P : State → Prop} (hc : exec c s = .next (expiry n due s)) (hd : AtSeq s n)
    (h : due = true) (hP : P (seqOutlet n s)) : Does c s P :=
  ⟨_, by rw [hc, expiry, if_pos h, hd.seqDue_eq], hP⟩

/-- A request that is frozen is evaluated (R113). -/
theorem does_request {c : Instr} {n code : Nat} {s : State} {P : State → Prop} (hc : exec c s = .next (request n code .run s)) (hd : AtSeq s n)
    (h : (outlet s n).reqFrz = code) (hP : P (seqOutlet n s)) : Does c s P :=
  ⟨_, by rw [hc, request, if_pos h, hd.seqDue_eq], hP⟩

theorem dropRequest_of_none {n : Nat} {s : State} (h : (outlet s n).reqFrz = 0) : dropRequest n s = s := if_pos h

/-! ### The state table by state -/

section

variable {n : Nat} {s : State}

theorem seqTable_idle (h : (outlet s n).st = .idle) : seqTable n s = seqIdle n s := by simp only [seqTable, h]
theorem seqTable_plugged (h : (outlet s n).st = .plugged) : seqTable n s = seqPlugged n s := by simp only [seqTable, h]
theorem seqTable_authWait (h : (outlet s n).st = .authWait) : seqTable n s = seqAuthWait n s := by simp only [seqTable, h]
theorem seqTable_negotiate (h : (outlet s n).st = .negotiate) : seqTable n s = seqNegotiate n s := by simp only [seqTable, h]
theorem seqTable_cableCheck (h : (outlet s n).st = .cableCheck) : seqTable n s = seqCableCheck n s := by simp only [seqTable, h]
theorem seqTable_precharge (h : (outlet s n).st = .precharge) : seqTable n s = seqPrecharge n s := by simp only [seqTable, h]
theorem seqTable_energy (h : (outlet s n).st = .energy) : seqTable n s = seqEnergy n s := by simp only [seqTable, h]
theorem seqTable_rampDown (h : (outlet s n).st = .rampDown) : seqTable n s = rampStep n (rampTurned n (dropRequest n s)) := by
  simp only [seqTable, h, seqRampDown_eq]
theorem seqTable_weldCheck (h : (outlet s n).st = .weldCheck) : seqTable n s = seqWeldCheck n s := by simp only [seqTable, h]
theorem seqTable_unlock (h : (outlet s n).st = .unlock) : seqTable n s = seqUnlock n s := by simp only [seqTable, h]
theorem seqTable_faulted (h : (outlet s n).st = .faulted) : seqTable n s = seqFaulted n s := by simp only [seqTable, h]
theorem seqTable_oos (h : (outlet s n).st = .oos) : seqTable n s = seqOos n s := by simp only [seqTable, h]

end

/-! ### Exits on a timer -/

section

variable {n : Nat} {s u : State} (hu : SameConditions n s u)

include hu

theorem unplugged_eq : unplugged (outlet u n) = unplugged (outlet s n) := hu.keep unplugged fun _ _ => rfl

theorem seqTable_plugged_expired (hst : (outlet s n).st = .plugged) (hp : (outlet s n).pilot ≠ .a) (ht : oTlock s n ≤ elapsed s n) :
    seqTable n u = toFaulted n (outCause n 0x18 (dropRequest n u)) := by
  rw [seqTable_plugged ((hu.keep Outlet.st fun _ _ => rfl).trans hst), seqPlugged, if_neg (by simpa [hu.keep Outlet.pilot fun _ _ => rfl] using hp),
    if_pos (by rwa [hu.read (oTlock · n) fun _ => rfl, hu.elapsed_eq])]

/-- The lock that does not open in UNLOCK is LOCK_STUCK (R134). -/
theorem seqTable_unlock_expired {t0 : Nat} (hst : (outlet s n).st = .unlock) (hq : (outlet u n).reqFrz = 0) (hl : (outlet s n).lockAt = some t0)
    (hlock : oLock s n = true) (hfb : fbIn s (oLockFb s n) = true) (ht : oTlock s n ≤ sinceT s (t0 + 1)) :
    seqTable n u = toFaulted n (outCause n 0x12 u) := by
  have hl' : (outlet u n).lockAt = some t0 := (hu.keep Outlet.lockAt fun _ _ => rfl).trans hl
  have hlock' : oLock u n = true := (hu.read (oLock · n) fun _ => rfl).trans hlock
  have hfb' : fbIn u (oLockFb u n) = true := (hu.read (fun s => fbIn s (oLockFb s n)) fun _ => rfl).trans hfb
  have ht' : oTlock u n ≤ sinceT u (t0 + 1) := by rwa [hu.read (oTlock · n) fun _ => rfl, hu.sinceT_eq]
  rw [seqTable_unlock ((hu.keep Outlet.st fun _ _ => rfl).trans hst), seqUnlock]
  simp only [dropRequest_of_none hq, hl', Option.isNone_some, Bool.false_and, Bool.false_eq_true, if_false, hlock', hfb', Option.isSome_some,
    Bool.not_true, Bool.and_false, Bool.or_false, if_pos ht']

theorem seqTable_authWait_expired (hst : (outlet s n).st = .authWait) (hp : unplugged (outlet s n) = false) (ht : oTauth s n ≤ elapsed s n) :
    seqTable n u = toUnlock n (outCause n 0x04 (dropRequest n u)) := by
  rw [seqTable_authWait ((hu.keep Outlet.st fun _ _ => rfl).trans hst), seqAuthWait, if_neg (by rw [unplugged_eq hu, hp]; decide),
    if_pos (by rwa [hu.read (oTauth · n) fun _ => rfl, hu.elapsed_eq])]

theorem seqTable_negotiate_expired (hst : (outlet s n).st = .negotiate) (hp : unplugged (outlet s n) = false) (ha : (outlet s n).auth = true)
    (ht : oTneg s n ≤ elapsed s n) : seqTable n u = toUnlock n (outCause n 0x05 (dropRequest n u)) := by
  rw [seqTable_negotiate ((hu.keep Outlet.st fun _ _ => rfl).trans hst), seqNegotiate, if_neg (by rw [unplugged_eq hu, hp]; decide),
    if_neg (by rw [hu.keep Outlet.auth fun _ _ => rfl, ha]; decide), if_pos (by rwa [hu.read (oTneg · n) fun _ => rfl, hu.elapsed_eq])]

theorem seqTable_cableCheck_expired (hst : (outlet s n).st = .cableCheck) (he : emergency s n = none) (hi : (outlet s n).isoHeld = false)
    (ht : oTcc s n ≤ elapsed s n) : seqTable n u = emergencyPath n 0x06 (dropRequest n u) := by
  rw [seqTable_cableCheck ((hu.keep Outlet.st fun _ _ => rfl).trans hst), seqCableCheck]
  simp only [hu.emergency_eq, he]
  rw [if_neg (by rw [hu.keep Outlet.isoHeld fun _ _ => rfl, hi]; decide), if_pos (by rwa [hu.read (oTcc · n) fun _ => rfl, hu.elapsed_eq])]

end

section

variable {n : Nat} (hn : n < 4) {s u : State} (hu : SameConditions n s u)

include hn hu

theorem seqTable_precharge_expired (hst : (outlet s n).st = .precharge) (he : emergency s n = none) (ht : oTpc s n ≤ elapsed s n) :
    seqTable n u = emergencyPath n 0x08 (dropRequest n (pcMatch n u)) := by
  have hv := hu.pcMatch hn
  rw [seqTable_precharge ((hu.keep Outlet.st fun _ _ => rfl).trans hst), seqPrecharge]
  simp only [hv.emergency_eq, he]
  rw [if_pos (by rwa [hv.read (oTpc · n) fun _ => rfl, hv.elapsed_eq])]

/-- State C noted in ENERGY. -/
abbrev notedC (n : Nat) (s : State) : State := onOutlet n (fun o => { o with sawC := o.sawC || o.pilot == .c }) s

theorem seqTable_energy_expired (hst : (outlet s n).st = .energy) (he : emergency s n = none) (hr : acNoResponse s n = false)
    (ht : oTfwwd s n ≤ sinceT s (outlet s n).wdAt) : seqTable n u = rampedPath n 0x09 (dropRequest n (notedC n u)) := by
  have hv : SameConditions n s (notedC n u) := hu.seenC hn
  rw [seqTable_energy ((hu.keep Outlet.st fun _ _ => rfl).trans hst), seqEnergy]
  simp only [hv.emergency_eq, he, hv.acNoResponse_eq, hr, Bool.false_eq_true, if_false]
  rw [if_pos (by rwa [hv.read (oTfwwd · n) fun _ => rfl, hv.sinceT_eq, hv.keep Outlet.wdAt fun _ _ => rfl])]

theorem seqTable_energy_noResponse (hst : (outlet s n).st = .energy) (he : emergency s n = none) (hr : acNoResponse s n = true) :
    seqTable n u = toWeldCheck n (hardOpen n (outCause n 0x17 (dropRequest n (notedC n u)))) := by
  have hv : SameConditions n s (notedC n u) := hu.seenC hn
  rw [seqTable_energy ((hu.keep Outlet.st fun _ _ => rfl).trans hst), seqEnergy]
  simp only [hv.emergency_eq, he, hv.acNoResponse_eq, hr, if_true]

end

/-! ### RAMP_DOWN (R128, R130) -/

section

variable {n : Nat} {s : State}

/-- A normal ramp that nothing turns, or one already on the emergency path. -/
theorem rampTurned_of_unturned (h : (outlet s n).emerg = true ∨ inCheck s = false ∧ enableLost s n = false ∧ s.pwr.pfw = false)
    (hm : fbMismatch s n = none) : rampTurned n s = s := by
  unfold rampTurned
  split
  · rfl
  case isFalse he =>
    rcases h with h | ⟨hc, hl, hp⟩
    · exact absurd h he
    · simp [hc, hl, hp, hm]

/-- KP commanded closed: the opening is still to come. -/
theorem kpKnOpened_of_closed (hc : oCoil s n 0 < 64) (hk : (coil s (oCoil s n 0)).cmd = true) : kpKnOpened s n = false := by
  simp [kpKnOpened, List.range_succ, hc, hk]

theorem rampStep_noResponse (ho : kpKnOpened s n = false) (hr : acNoResponse s n = true) :
    rampStep n s = toWeldCheck n (hardOpen n (outCause n 0x17 s)) := by
  simp only [rampStep, ho, hr, Bool.false_eq_true, if_false, if_true]

/-- 20 tempos below 2 A end the ramp, whether KP and KN are still to open or not. -/
theorem rampStep_zero (hr : acNoResponse s n = false) (he : (outlet s n).emerg = false) (hz : zeroConfirmed s n = true) :
    rampStep n s = toWeldCheck n s := by
  simp only [rampStep, hr, he, hz, Bool.false_eq_true, if_false, if_true, ite_self]

theorem rampStep_trd (ho : kpKnOpened s n = false) (hr : acNoResponse s n = false) (he : (outlet s n).emerg = false)
    (hz : zeroConfirmed s n = false) (ht : oTrd s n ≤ elapsed s n) : rampStep n s = toWeldCheck n (hardOpen n (outCause n 0x0F s)) := by
  simp only [rampStep, ho, hr, he, hz, Bool.false_eq_true, if_false, if_pos ht]

theorem rampStep_tzc (ho : kpKnOpened s n = false) (hr : acNoResponse s n = false) (he : (outlet s n).emerg = true)
    (hl : lowCurrent s n = false) (ht : rampTzc s n ≤ sinceT s (outlet s n).emergAt) :
    rampStep n s = toWeldCheck n (hardOpen n (outCause n 0x0F s)) := by
  simp only [rampStep, ho, hr, he, hl, Bool.false_eq_true, if_false, if_true, if_pos ht]

/-- In CHECK, T_ZC is at most 100 ms. -/
theorem rampTzc_le : rampTzc s n ≤ if (outlet s n).zc10 = true ∨ s.pwr.pfw = true then min 200 (oTzc s n) else oTzc s n := by
  have h : (if inCheck s then min 2000 (oTzc s n) else oTzc s n) ≤ oTzc s n := by split <;> omega
  simp only [rampTzc, Bool.or_eq_true]
  split <;> omega

end

/-! ### The weld check (R133) -/

/-- The weld check stands at a step from tempo a on. -/
def weldAtStep (n : Nat) (w : WeldStep) (a : Nat) (s : State) : State := onOutlet n (fun o => { o with weld := w, weldAt := a }) s

section

variable {n : Nat} {s : State}

/-- A check that goes on. -/
theorem seqWeldCheck_discharge (hs : (outlet s n).weld ≠ .settle) (h : (outlet (weldStep n (dropRequest n s)) n).weld = .discharge) :
    seqWeldCheck n s = weldStep n (dropRequest n s) := by
  rw [seqWeldCheck, h, if_neg (by decide), if_neg (by simp [hs]), if_neg (by decide)]

theorem seqWeldCheck_failed (h : (outlet (weldStep n (dropRequest n s)) n).weld = .failed) :
    seqWeldCheck n s = toFaulted n (weldStep n (dropRequest n s)) := by
  rw [seqWeldCheck, h, if_pos (by decide)]

/-- A contact that still reads closed ends the check in FAULTED. -/
theorem seqWeldCheck_bad (hs : (outlet s n).weld = .settle) (hb : weldBad s n ≠ none) :
    seqWeldCheck n s = toFaulted n (weldStep n (dropRequest n s)) := by
  have hb' : (weldBad s n).isSome = true := by simpa [Option.isSome_iff_ne_none] using hb
  rw [seqWeldCheck, hs, hb']
  split <;> rfl

end

section

variable {n : Nat} (hn : n < 4) {s u : State} (hu : SameConditions n s u)

include hn hu

/-- The vehicle has not opened its contactors within T_EVOPEN. -/
theorem seqTable_weldCheck_evSlow (hst : (outlet s n).st = .weldCheck) (hw : (outlet s n).weld = .evWait) (hev : (outlet s n).evopen = false)
    (hp : oType s n = tyGbt ∨ (outlet s n).pilot = .c) (ht : oTevopen s n ≤ sinceT s (outlet s n).weldAt) :
    ∃ a, seqTable n u = weldAtStep n .discharge a (outCoil n 4 true (outPend n F.OUT_FLAGS_EVSLOW (dropRequest n u))) := by
  have hv := hu.dropRequest hn
  have hgo : ¬ ((outlet (dropRequest n u) n).evopen || (oType (dropRequest n u) n != tyGbt && (outlet (dropRequest n u) n).pilot != .c)) = true := by
    rw [hv.keep Outlet.evopen fun _ _ => rfl, hv.keep Outlet.pilot fun _ _ => rfl, hv.read (oType · n) fun _ => rfl, hev]
    rcases hp with hp | hp <;> simp [hp]
  have hstep : weldStep n (dropRequest n u) = weldAtStep n .discharge ((dropRequest n u).tmp.now + 1)
      (outCoil n 4 true (outPend n F.OUT_FLAGS_EVSLOW (dropRequest n u))) := by
    rw [weldStep]
    simp only [(hv.keep Outlet.weld fun _ _ => rfl).trans hw]
    rw [if_neg hgo, if_pos (by rwa [hv.read (oTevopen · n) fun _ => rfl, hv.sinceT_eq, hv.keep Outlet.weldAt fun _ _ => rfl]), weldAtStep]
  refine ⟨(dropRequest n u).tmp.now + 1, ?_⟩
  rw [seqTable_weldCheck ((hu.keep Outlet.st fun _ _ => rfl).trans hst), seqWeldCheck_discharge, hstep]
  · rw [(hu.keep Outlet.weld fun _ _ => rfl).trans hw]
    decide
  · rw [hstep, weldAtStep, outlet_onOutlet_self _ _ _ hn]

/-- The outlet still live when T_WELD runs out has a welded contact. -/
theorem seqTable_weldCheck_live (hst : (outlet s n).st = .weldCheck) (hw : (outlet s n).weld = .discharge) (hl : outDead s n = false)
    (ht : oTweld s n ≤ sinceT s (outlet s n).weldAt) :
    ∃ a, seqTable n u = toFaulted n (weldAtStep n .failed a (outCoil n 4 false (outCause n 0x11 (dropRequest n u)))) := by
  have hv := hu.dropRequest hn
  have hstep : weldStep n (dropRequest n u) = weldAtStep n .failed ((dropRequest n u).tmp.now + 1)
      (outCoil n 4 false (outCause n 0x11 (dropRequest n u))) := by
    rw [weldStep]
    simp only [(hv.keep Outlet.weld fun _ _ => rfl).trans hw]
    rw [if_neg (by rw [hv.outDead_eq, hl]; decide), if_pos (by rwa [hv.read (oTweld · n) fun _ => rfl, hv.sinceT_eq,
      hv.keep Outlet.weldAt fun _ _ => rfl]), weldAtStep]
  refine ⟨(dropRequest n u).tmp.now + 1, ?_⟩
  rw [seqTable_weldCheck ((hu.keep Outlet.st fun _ _ => rfl).trans hst), seqWeldCheck_failed, hstep]
  rw [hstep, weldAtStep, outlet_onOutlet_self _ _ _ hn]

end

end Sys2Proof.Machine

end

section

/-! O17. Each timer of the sequencers, from the exit of the table to the outlet at the end of its evaluation. -/

namespace Sys2Proof.Machine

/-! ### Where the table's exit takes the outlet -/

section

variable {n : Nat} (hn : n < 4) {s v : State} (hd : AtSeq s n)

include hn hd

theorem faulted_of_seqTable (ht : seqTable n (trackLow n s) = toFaulted n v) : (outlet (seqOutlet n s) n).st = .faulted
    ∧ (outlet (seqOutlet n s) n).cause = (outlet v n).cause ∧ (outlet (seqOutlet n s) n).latch = (outlet v n).latch := by
  have hj := judged_seqOutlet hn hd.active ht
  obtain ⟨hst, hc, hl⟩ := outlet_toFaulted hn v
  exact ⟨(congrArg Outlet.st hj).trans hst, (congrArg Outlet.cause hj).trans hc, (congrArg Outlet.latch hj).trans hl⟩

theorem unlock_of_seqTable (ht : seqTable n (trackLow n s) = toUnlock n v) : (outlet (seqOutlet n s) n).st = .unlock
    ∧ (outlet (seqOutlet n s) n).cause = (outlet v n).cause := by
  have hj := judged_seqOutlet hn hd.active ht
  obtain ⟨hst, hc⟩ := outlet_toUnlock hn v
  exact ⟨(congrArg Outlet.st hj).trans hst, (congrArg Outlet.cause hj).trans hc⟩

theorem emergency_of_seqTable {code : Nat} (ht : seqTable n (trackLow n s) = emergencyPath n code v) :
    (outlet (seqOutlet n s) n).st = .rampDown ∧ (outlet (seqOutlet n s) n).emerg = true ∧ (outlet (seqOutlet n s) n).applied = 0
      ∧ (outlet (seqOutlet n s) n).cause = (outlet (outCause n code v) n).cause
      ∧ (outlet (seqOutlet n s) n).latch = (outlet (outCause n code v) n).latch := by
  have hj := judged_seqOutlet hn hd.active ht
  obtain ⟨hst, he, ha, hc, -, hl⟩ := outlet_emergencyPath hn v code
  obtain ⟨hap, -, -⟩ := applied_seqOutlet hn hd.active ht (by rw [hst]; decide)
  refine ⟨(congrArg Outlet.st hj).trans hst, (congrArg Outlet.emerg hj).trans he, ?_, (congrArg Outlet.cause hj).trans hc,
    (congrArg Outlet.latch hj).trans hl⟩
  rw [hap, stateLimit, hst]
  exact ha

theorem ramped_of_seqTable {code : Nat} (ht : seqTable n (trackLow n s) = rampedPath n code v) :
    (outlet (seqOutlet n s) n).st = .rampDown ∧ (outlet (seqOutlet n s) n).emerg = false
      ∧ (outlet (seqOutlet n s) n).applied = (if (outlet v n).st = .energy then (outlet v n).applied else 0)
      ∧ (outlet (seqOutlet n s) n).cause = (outlet (outCause n code v) n).cause := by
  have hj := judged_seqOutlet hn hd.active ht
  obtain ⟨hst, he, ha, hc⟩ := outlet_rampedPath hn v code
  obtain ⟨hap, -, -⟩ := applied_seqOutlet hn hd.active ht (by rw [hst]; decide)
  refine ⟨(congrArg Outlet.st hj).trans hst, (congrArg Outlet.emerg hj).trans he, ?_, (congrArg Outlet.cause hj).trans hc⟩
  rw [hap, stateLimit, hst]
  exact ha

theorem weldCheck_of_seqTable (ht : seqTable n (trackLow n s) = toWeldCheck n v) : (outlet (seqOutlet n s) n).st = .weldCheck
    ∧ (outlet (seqOutlet n s) n).applied = 0 ∧ (outlet (seqOutlet n s) n).cause = (outlet v n).cause
    ∧ ∀ d, coil (seqOutlet n s) d = coil (toWeldCheck n v) d := by
  have hj := judged_seqOutlet hn hd.active ht
  obtain ⟨hst, hc, -⟩ := outlet_toWeldCheck hn v
  obtain ⟨hap, -, hco⟩ := applied_seqOutlet hn hd.active ht (by rw [hst]; decide)
  refine ⟨(congrArg Outlet.st hj).trans hst, ?_, (congrArg Outlet.cause hj).trans hc, hco⟩
  rw [hap, stateLimit, hst]

/-- A hard break from where the marks stand: KP opens as one, under its cause (R128, R130, R139). -/
theorem hardBreak_of_seqTable {code : Nat} (hv : SameConditions n s v) (hk : oCoil s n 0 < 64)
    (hc : causeClass (outlet s n).cause < causeClass code)
    (ht : seqTable n (trackLow n s) = toWeldCheck n (hardOpen n (outCause n code v))) :
    (outlet (seqOutlet n s) n).st = .weldCheck ∧ (outlet (seqOutlet n s) n).cause = code
      ∧ (coil (seqOutlet n s) (oCoil s n 0)).cmd = false ∧ (coil (seqOutlet n s) (oCoil s n 0)).hard = true := by
  obtain ⟨hst, -, hca, hco⟩ := weldCheck_of_seqTable hn hd ht
  have hcode := (hv.cause_eq hn (code := code) (.inr (.inr (.inr hc)))).1
  have hko : oCoil s n 0 = oCoil (outCause n code v) n 0 := (hv.read (oCoil · n 0) fun _ => rfl).symm
  rw [hco, hko]
  rw [hko] at hk
  exact ⟨hst, hca.trans hcode, cmd_toWeldCheck (s := hardOpen n (outCause n code v)) hk, hard_toWeldCheck_hardOpen hk⟩

end

/-! ### The timers -/

section

variable {s : State} {n : Fin 4} (hd : SeqDue s n)

include hd

theorem does_tLockExpiry_plugged (hst : (outlet s n).st = .plugged) (hp : (outlet s n).pilot ≠ .a) (ht : oTlock s n ≤ elapsed s n)
    (hc : causeClass (outlet s n).cause ≤ 1) :
    Does (.tLockExpiry n) s (fun t => (outlet t n).st = .faulted ∧ (outlet t n).cause = 0x18) := by
  have hu := sameConditions_trackLow n.isLt s
  refine does_expiry rfl (atSeq_of_seqDue hd) (by simp [hst, ht]) ?_
  obtain ⟨hs, hca, -⟩ := faulted_of_seqTable n.isLt (atSeq_of_seqDue hd) (seqTable_plugged_expired hu hst hp ht)
  exact ⟨hs, hca.trans ((hu.dropRequest n.isLt).cause_eq n.isLt (.inr (.inr (.inr (Nat.lt_of_le_of_lt hc (by decide)))))).1⟩

theorem does_tLockExpiry_unlock {t0 : Nat} (hq : (outlet s n).reqFrz = 0) (hst : (outlet s n).st = .unlock) (hl : (outlet s n).lockAt = some t0)
    (hlock : oLock s n = true) (hfb : fbIn s (oLockFb s n) = true) (ht : oTlock s n ≤ sinceT s (t0 + 1)) :
    Does (.tLockExpiry n) s (fun t => (outlet t n).st = .faulted ∧ (outlet t n).cause = 0x12 ∧ (outlet t n).latch = true) := by
  have hu := sameConditions_trackLow n.isLt s
  have hq' : (outlet (trackLow n s) n).reqFrz = 0 := by rw [trackLow, outlet_onOutlet_self _ _ _ n.isLt, hq]
  refine does_expiry rfl (atSeq_of_seqDue hd) (by simp [hst, hl, ht]) ?_
  obtain ⟨hs, hca, hla⟩ := faulted_of_seqTable n.isLt (atSeq_of_seqDue hd) (seqTable_unlock_expired hu hst hq' hl hlock hfb ht)
  exact ⟨hs, hca.trans (hu.cause_eq n.isLt (.inr (.inr (.inl (by decide))))).1, hla.trans (latch_outCause n.isLt _ _ (.inr (by decide)))⟩

theorem does_tAuthExpiry (hst : (outlet s n).st = .authWait) (hp : unplugged (outlet s n) = false) (ht : oTauth s n ≤ elapsed s n)
    (hc : causeClass (outlet s n).cause = 0) :
    Does (.tAuthExpiry n) s (fun t => (outlet t n).st = .unlock ∧ (outlet t n).cause = 0x04) := by
  have hu := sameConditions_trackLow n.isLt s
  refine does_expiry rfl (atSeq_of_seqDue hd) (by simp [hst, ht]) ?_
  obtain ⟨hs, hca⟩ := unlock_of_seqTable n.isLt (atSeq_of_seqDue hd) (seqTable_authWait_expired hu hst hp ht)
  exact ⟨hs, hca.trans ((hu.dropRequest n.isLt).cause_eq n.isLt (.inr (.inr (.inr (hc ▸ by decide))))).1⟩

theorem does_tNegExpiry (hst : (outlet s n).st = .negotiate) (hp : unplugged (outlet s n) = false) (ha : (outlet s n).auth = true)
    (ht : oTneg s n ≤ elapsed s n) (hc : causeClass (outlet s n).cause = 0) :
    Does (.tNegExpiry n) s (fun t => (outlet t n).st = .unlock ∧ (outlet t n).cause = 0x05) := by
  have hu := sameConditions_trackLow n.isLt s
  refine does_expiry rfl (atSeq_of_seqDue hd) (by simp [hst, ht]) ?_
  obtain ⟨hs, hca⟩ := unlock_of_seqTable n.isLt (atSeq_of_seqDue hd) (seqTable_negotiate_expired hu hst hp ha ht)
  exact ⟨hs, hca.trans ((hu.dropRequest n.isLt).cause_eq n.isLt (.inr (.inr (.inr (hc ▸ by decide))))).1⟩

theorem does_tCcExpiry (hst : (outlet s n).st = .cableCheck) (he : emergency s n = none) (hi : (outlet s n).isoHeld = false)
    (ht : oTcc s n ≤ elapsed s n) (hc : causeClass (outlet s n).cause ≤ 1) :
    Does (.tCcExpiry n) s (fun t => (outlet t n).st = .rampDown ∧ (outlet t n).emerg = true ∧ (outlet t n).applied = 0
      ∧ (outlet t n).cause = 0x06) := by
  have hu := sameConditions_trackLow n.isLt s
  refine does_expiry rfl (atSeq_of_seqDue hd) (by simp [hst, ht]) ?_
  obtain ⟨hs, hem, hap, hca, -⟩ := emergency_of_seqTable n.isLt (atSeq_of_seqDue hd) (seqTable_cableCheck_expired hu hst he hi ht)
  exact ⟨hs, hem, hap, hca.trans ((hu.dropRequest n.isLt).cause_eq n.isLt (.inr (.inr (.inr (Nat.lt_of_le_of_lt hc (by decide)))))).1⟩

theorem does_tPcExpiry (hst : (outlet s n).st = .precharge) (he : emergency s n = none) (ht : oTpc s n ≤ elapsed s n)
    (hc : causeClass (outlet s n).cause ≤ 1) :
    Does (.tPcExpiry n) s (fun t => (outlet t n).st = .rampDown ∧ (outlet t n).emerg = true ∧ (outlet t n).applied = 0
      ∧ (outlet t n).cause = 0x08) := by
  have hu := sameConditions_trackLow n.isLt s
  refine does_expiry rfl (atSeq_of_seqDue hd) (by simp [hst, ht]) ?_
  obtain ⟨hs, hem, hap, hca, -⟩ := emergency_of_seqTable n.isLt (atSeq_of_seqDue hd) (seqTable_precharge_expired n.isLt hu hst he ht)
  exact ⟨hs, hem, hap, hca.trans (((hu.pcMatch n.isLt).dropRequest n.isLt).cause_eq n.isLt
    (.inr (.inr (.inr (Nat.lt_of_le_of_lt hc (by decide)))))).1⟩

theorem does_tFwwdExpiry (hst : (outlet s n).st = .energy) (he : emergency s n = none) (hr : acNoResponse s n = false)
    (ht : oTfwwd s n ≤ sinceT s (outlet s n).wdAt) (hc : causeClass (outlet s n).cause ≤ 1) :
    Does (.tFwwdExpiry n) s (fun t => (outlet t n).st = .rampDown ∧ (outlet t n).emerg = false
      ∧ (outlet t n).applied = (outlet s n).applied ∧ (outlet t n).cause = 0x09) := by
  have hv : SameConditions n s (dropRequest n (notedC n (trackLow n s))) :=
    ((sameConditions_trackLow n.isLt s).seenC n.isLt).dropRequest n.isLt
  refine does_expiry rfl (atSeq_of_seqDue hd) (by simp [hst, ht]) ?_
  obtain ⟨hs, hem, hap, hca⟩ := ramped_of_seqTable n.isLt (atSeq_of_seqDue hd)
    (seqTable_energy_expired n.isLt (sameConditions_trackLow n.isLt s) hst he hr ht)
  rw [if_pos ((hv.keep Outlet.st fun _ _ => rfl).trans hst)] at hap
  exact ⟨hs, hem, hap.trans (hv.keep Outlet.applied fun _ _ => rfl),
    hca.trans (hv.cause_eq n.isLt (.inr (.inr (.inr (Nat.lt_of_le_of_lt hc (by decide)))))).1⟩

/-- RAMP_DOWN without a request, which nothing turns. -/
theorem seqTable_rampDown_unturned (hq : (outlet s n).reqFrz = 0) (hst : (outlet s n).st = .rampDown)
    (ht : (outlet s n).emerg = true ∨ inCheck s = false ∧ enableLost s n = false ∧ s.pwr.pfw = false) :
    seqTable n (trackLow n s) = rampStep n (trackLow n s) := by
  have hu := sameConditions_trackLow n.isLt s
  have hq' : (outlet (trackLow n s) n).reqFrz = 0 := by rw [trackLow, outlet_onOutlet_self _ _ _ n.isLt, hq]
  obtain ⟨-, -, -, -, hm⟩ := hd
  rw [seqTable_rampDown ((hu.keep Outlet.st fun _ _ => rfl).trans hst), dropRequest_of_none hq',
    rampTurned_of_unturned _ ((hu.read (fbMismatch · n) fun _ => rfl).trans hm)]
  rwa [hu.keep Outlet.emerg fun _ _ => rfl, hu.read inCheck fun _ => rfl, hu.read (enableLost · n) fun _ => rfl, hu.read (·.pwr) fun _ => rfl]

theorem does_zeroCurrentConfirmed (hq : (outlet s n).reqFrz = 0) (hst : (outlet s n).st = .rampDown) (hem : (outlet s n).emerg = false)
    (hc : inCheck s = false) (hl : enableLost s n = false) (hp : s.pwr.pfw = false) (hr : acNoResponse s n = false)
    (hz : zeroConfirmed s n = true) :
    Does (.zeroCurrentConfirmed n) s (fun t => (outlet t n).st = .weldCheck ∧ (outlet t n).applied = 0
      ∧ (oCoil s n 0 < 64 → (coil t (oCoil s n 0)).cmd = false)) := by
  have hu := sameConditions_trackLow n.isLt s
  refine does_expiry rfl (atSeq_of_seqDue hd) (by simp [hst, hz]) ?_
  have ht : seqTable n (trackLow n s) = toWeldCheck n (trackLow n s) :=
    (seqTable_rampDown_unturned hd hq hst (.inr ⟨hc, hl, hp⟩)).trans
      (rampStep_zero (hu.acNoResponse_eq.trans hr) ((hu.keep Outlet.emerg fun _ _ => rfl).trans hem) (zeroConfirmed_trackLow n.isLt s hz))
  obtain ⟨hs, hap, -, hco⟩ := weldCheck_of_seqTable n.isLt (atSeq_of_seqDue hd) ht
  refine ⟨hs, hap, fun hk => ?_⟩
  rw [hco]
  exact cmd_toWeldCheck (s := trackLow n s) hk

theorem does_tRdExpiry (hq : (outlet s n).reqFrz = 0) (hst : (outlet s n).st = .rampDown) (hem : (outlet s n).emerg = false)
    (hc : inCheck s = false) (hl : enableLost s n = false) (hp : s.pwr.pfw = false) (hr : acNoResponse s n = false)
    (hlow : lowCurrent s n = false) (ht : oTrd s n ≤ elapsed s n) (hca : causeClass (outlet s n).cause ≤ 1) (hk : oCoil s n 0 < 64)
    (hcmd : (coil s (oCoil s n 0)).cmd = true) :
    Does (.tRdExpiry n) s (fun t => (outlet t n).st = .weldCheck ∧ (outlet t n).cause = 0x0F
      ∧ (coil t (oCoil s n 0)).cmd = false ∧ (coil t (oCoil s n 0)).hard = true) := by
  have hu := sameConditions_trackLow n.isLt s
  refine does_expiry rfl (atSeq_of_seqDue hd) (by simp [hst, hem, ht]) ?_
  refine hardBreak_of_seqTable n.isLt (atSeq_of_seqDue hd) hu hk (Nat.lt_of_le_of_lt hca (by decide)) ?_
  exact (seqTable_rampDown_unturned hd hq hst (.inr ⟨hc, hl, hp⟩)).trans
    (rampStep_trd (kpKnOpened_of_closed hk hcmd) (hu.acNoResponse_eq.trans hr) ((hu.keep Outlet.emerg fun _ _ => rfl).trans hem)
      (zeroConfirmed_of_not_low ((hu.read (lowCurrent · n) fun _ => rfl).trans hlow)) (by rwa [hu.elapsed_eq]))

theorem does_tZcExpiry (hq : (outlet s n).reqFrz = 0) (hst : (outlet s n).st = .rampDown) (hem : (outlet s n).emerg = true)
    (hr : acNoResponse s n = false) (hlow : lowCurrent s n = false)
    (ht : (if (outlet s n).zc10 = true ∨ s.pwr.pfw = true then min 200 (oTzc s n) else oTzc s n) ≤ sinceT s (outlet s n).emergAt)
    (hca : causeClass (outlet s n).cause ≤ 1) (hk : oCoil s n 0 < 64) (hcmd : (coil s (oCoil s n 0)).cmd = true) :
    Does (.tZcExpiry n) s (fun t => (outlet t n).st = .weldCheck ∧ (outlet t n).cause = 0x0F
      ∧ (coil t (oCoil s n 0)).cmd = false ∧ (coil t (oCoil s n 0)).hard = true) := by
  have hu := sameConditions_trackLow n.isLt s
  have htzc : rampTzc (trackLow n s) n = rampTzc s n := by
    rw [rampTzc, rampTzc, hu.keep Outlet.zc10 fun _ _ => rfl, hu.read inCheck fun _ => rfl, hu.read (oTzc · n) fun _ => rfl,
      hu.read (·.pwr) fun _ => rfl]
  refine does_expiry rfl (atSeq_of_seqDue hd) (by simp only [hst, hem, Bool.or_eq_true, decide_eq_true ht]; decide) ?_
  refine hardBreak_of_seqTable n.isLt (atSeq_of_seqDue hd) hu hk (Nat.lt_of_le_of_lt hca (by decide)) ?_
  refine (seqTable_rampDown_unturned hd hq hst (.inl hem)).trans
    (rampStep_tzc (kpKnOpened_of_closed hk hcmd) (hu.acNoResponse_eq.trans hr) ((hu.keep Outlet.emerg fun _ _ => rfl).trans hem)
      ((hu.read (lowCurrent · n) fun _ => rfl).trans hlow) ?_)
  rw [htzc, hu.sinceT_eq, hu.keep Outlet.emergAt fun _ _ => rfl]
  exact rampTzc_le.trans ht

theorem does_tEvopenExpiry (hst : (outlet s n).st = .weldCheck) (hw : (outlet s n).weld = .evWait) (hev : (outlet s n).evopen = false)
    (hp : oType s n = tyGbt ∨ (outlet s n).pilot = .c) (ht : oTevopen s n ≤ sinceT s (outlet s n).weldAt) :
    Does (.tEvopenExpiry n) s (fun t => (outlet t n).weld = .discharge
      ∧ (outlet t n).pend.testBit (F.OUT_FLAGS_EVSLOW n).lo = true ∧ (oCoil s n 4 < 64 → (coil t (oCoil s n 4)).cmd = true)) := by
  have hv := (sameConditions_trackLow n.isLt s).dropRequest n.isLt
  refine does_expiry rfl (atSeq_of_seqDue hd) (by simp [hw, ht]) ?_
  obtain ⟨a, htab⟩ := seqTable_weldCheck_evSlow n.isLt (sameConditions_trackLow n.isLt s) hst hw hev hp ht
  have ho : outlet (seqTable n (trackLow n s)) n = { outlet (outPend n F.OUT_FLAGS_EVSLOW (dropRequest n (trackLow n s))) n with
      weld := .discharge, weldAt := a } := by
    rw [htab, weldAtStep, outlet_onOutlet_self _ _ _ n.isLt, outCoil, outlet_coilCmd]
  have hst' : (outlet (seqTable n (trackLow n s)) n).st = .weldCheck := by
    rw [ho, outlet_outPend n.isLt]
    exact (hv.keep Outlet.st fun _ _ => rfl).trans hst
  have hj := judged_seqOutlet n.isLt (atSeq_of_seqDue hd).active rfl
  obtain ⟨-, -, hco⟩ := applied_seqOutlet n.isLt (atSeq_of_seqDue hd).active rfl (by rw [hst']; decide)
  refine ⟨(congrArg Outlet.weld hj).trans (by rw [ho]; rfl), (congrArg (Nat.testBit · _) (congrArg Outlet.pend hj)).trans ?_, fun hk => ?_⟩
  · have hpend : (outlet (seqTable n (trackLow n s)) n).judged.pend
        = (outlet (dropRequest n (trackLow n s)) n).pend ||| 2 ^ (F.OUT_FLAGS_EVSLOW n).lo := by
      rw [ho, outlet_outPend n.isLt]
      rfl
    simp only [hpend, Nat.testBit_or, Nat.testBit_two_pow_self, Bool.or_true]
  · have hk' : oCoil s n 4 = oCoil (outPend n F.OUT_FLAGS_EVSLOW (dropRequest n (trackLow n s))) n 4 :=
      ((hv.outPend n.isLt _).read (oCoil · n 4) fun _ => rfl).symm
    rw [hco, htab, weldAtStep, coil_onOutlet, outCoil, hk']
    exact (coil_coilCmd_self (hk' ▸ hk) _ _).1

theorem does_tWeldExpiry (hst : (outlet s n).st = .weldCheck) (hw : (outlet s n).weld = .discharge) (hl : outDead s n = false)
    (ht : oTweld s n ≤ sinceT s (outlet s n).weldAt) :
    Does (.tWeldExpiry n) s (fun t => (outlet t n).st = .faulted ∧ (outlet t n).cause = 0x11 ∧ (outlet t n).latch = true) := by
  have hv := (sameConditions_trackLow n.isLt s).dropRequest n.isLt
  refine does_expiry rfl (atSeq_of_seqDue hd) (by simp [hw, ht]) ?_
  obtain ⟨a, htab⟩ := seqTable_weldCheck_live n.isLt (sameConditions_trackLow n.isLt s) hst hw hl ht
  obtain ⟨hs, hca, hla⟩ := faulted_of_seqTable n.isLt (atSeq_of_seqDue hd) htab
  rw [weldAtStep, outlet_onOutlet_self _ _ _ n.isLt, outCoil, outlet_coilCmd] at hca hla
  exact ⟨hs, hca.trans (hv.cause_eq n.isLt (.inr (.inr (.inl (by decide))))).1, hla.trans (latch_outCause n.isLt _ _ (.inr (by decide)))⟩

theorem does_tAcrespExpiry (hq : (outlet s n).reqFrz = 0) (hr : acNoResponse s n = true) (hca : causeClass (outlet s n).cause ≤ 1)
    (hk : oCoil s n 0 < 64) (hcmd : (coil s (oCoil s n 0)).cmd = true)
    (hst : ((outlet s n).st = .energy ∧ emergency s n = none)
      ∨ ((outlet s n).st = .rampDown ∧ ((outlet s n).emerg = true ∨ inCheck s = false ∧ enableLost s n = false ∧ s.pwr.pfw = false))) :
    Does (.tAcrespExpiry n) s (fun t => (outlet t n).st = .weldCheck ∧ (outlet t n).cause = 0x17
      ∧ (coil t (oCoil s n 0)).cmd = false ∧ (coil t (oCoil s n 0)).hard = true) := by
  have hu := sameConditions_trackLow n.isLt s
  have hlt : causeClass (outlet s n).cause < causeClass 0x17 := Nat.lt_of_le_of_lt hca (by decide)
  refine does_expiry rfl (atSeq_of_seqDue hd) hr ?_
  rcases hst with ⟨hst, he⟩ | ⟨hst, ht⟩
  · exact hardBreak_of_seqTable n.isLt (atSeq_of_seqDue hd) ((hu.seenC n.isLt).dropRequest n.isLt) hk hlt
      (seqTable_energy_noResponse n.isLt hu hst he hr)
  · exact hardBreak_of_seqTable n.isLt (atSeq_of_seqDue hd) hu hk hlt ((seqTable_rampDown_unturned hd hq hst ht).trans
      (rampStep_noResponse (kpKnOpened_of_closed hk hcmd) (hu.acNoResponse_eq.trans hr)))

end

/-- Settles O17, timer by timer: the marks of an evaluation change no condition, so the table takes the exit the timer names, and the outputs of
the new state leave the cause. -/
theorem outletTimers : Obligations.OutletTimers := by
  intro s n hd hq
  exact ⟨does_tLockExpiry_plugged hd, fun t0 hst hl hlock hfb ht => does_tLockExpiry_unlock hd hq hst hl hlock hfb ht,
    does_tAuthExpiry hd, does_tNegExpiry hd, does_tCcExpiry hd, does_tPcExpiry hd, does_tFwwdExpiry hd, does_zeroCurrentConfirmed hd hq,
    does_tRdExpiry hd hq, does_tZcExpiry hd hq, does_tEvopenExpiry hd, does_tWeldExpiry hd, does_tAcrespExpiry hd hq⟩

end Sys2Proof.Machine

end

section

/-! SUPPORT and O15. The requests of the firmware: the latch, and what each code does in the states that take it. -/

namespace Sys2Proof.Machine

/-! ### The latch (R113) -/

theorem does_reqWrite {c : Instr} {s : State} {n : Fin 4} {code : Nat} (hc : exec c s = .next (request n code .write s)) (h0 : code ≠ 0) :
    Does c s (fun t => (outlet t n).reqLatch = code ∧ ((outlet s n).reqLatch ≠ 0 → rget t (F.OUT_FLAGS_REQOVW n) = 1)) := by
  refine ⟨_, hc, ?_⟩
  rw [request, reqWrite, if_neg h0]
  split
  · refine ⟨?_, fun _ => rget_raiseData_flag 0 _ _ _ ?_ ?_ ?_⟩
    · rw [outlet, raiseOut_outs, ← outlet, outlet_onOutlet_self _ _ _ n.isLt]
    · show 0 < 1
      decide
    · simp only [fkey, F.OUT_FLAGS_REQOVW, F.OUT_EVCNT_COUNT]
      omega
    · simp only [fkey, F.OUT_FLAGS_REQOVW, F.SAF_EVQOVF_COUNT]
      omega
  case isFalse h => exact ⟨by rw [outlet_onOutlet_self _ _ _ n.isLt], fun h' => absurd h' h⟩

/-! ### Where a request takes the outlet -/

/-- The start of energy in ENERGY, at 0 A (R126, R139, R140). -/
def energyStart (n : Nat) (f : Outlet → Outlet) (s : State) : State :=
  outGo n .energy (sessionEvent n .started (onOutlet n (fun o => { f o with applied := 0, energised := true }) (taken n s)))

section

variable {n : Nat} (hn : n < 4) {s v : State} (hd : AtSeq s n)

include hn

theorem outlet_outGo_st (st : OutSt) (s : State) : (outlet (outGo n st s) n).st = st := by rw [outGo_st _ _ _ hn]

theorem outlet_pcMatch (s : State) : (outlet (pcMatch n s) n).reqFrz = (outlet s n).reqFrz
    ∧ (outlet (pcMatch n s) n).pcmatch = (decide (oV s n ≤ (outlet s n).vtF + oPcTol s n) && decide ((outlet s n).vtF ≤ oV s n + oPcTol s n)) := by
  unfold pcMatch
  dsimp only
  split
  · rw [outlet_outPend hn, outlet_onOutlet_self _ _ _ hn]
    exact ⟨rfl, rfl⟩
  · rw [outlet_onOutlet_self _ _ _ hn]
    exact ⟨rfl, rfl⟩

theorem reqFrz_trackLow (s : State) : (outlet (trackLow n s) n).reqFrz = (outlet s n).reqFrz := by
  rw [trackLow, outlet_onOutlet_self _ _ _ hn]

include hd

/-- A request refused: the state stays, and the reason stands at the edge (R114). -/
theorem refused_of_seqTable {r : Nat} (hv : SameConditions n s v) (ht : seqTable n (trackLow n s) = refuse n r v) :
    (outlet (seqOutlet n s) n).st = (outlet s n).st ∧ (outlet (seqOutlet n s) n).rejP = some r := by
  have hj := judged_seqOutlet hn hd.active ht
  rw [outlet_refuse hn] at hj
  exact ⟨(congrArg Outlet.st hj).trans (hv.keep Outlet.st fun _ _ => rfl), congrArg Outlet.rejP hj⟩

theorem outGo_of_seqTable {st : OutSt} (ht : seqTable n (trackLow n s) = outGo n st v) : (outlet (seqOutlet n s) n).st = st := by
  exact (congrArg Outlet.st (judged_seqOutlet hn hd.active ht)).trans (outlet_outGo_st hn st v)

omit hd in
theorem outlet_energyStart (f : Outlet → Outlet) : (outlet (energyStart n f v) n).st = .energy ∧ (outlet (energyStart n f v) n).energised = true
    ∧ (outlet (energyStart n f v) n).applied = 0
    ∧ (outlet (energyStart n f v) n).pcmatch = (f { outlet v n with reqFrz := 0 }).pcmatch := by
  rw [energyStart, outGo_st _ _ _ hn, outlet_sessionEvent hn, outlet_onOutlet_self _ _ _ hn, outlet_taken hn]
  exact ⟨rfl, rfl, rfl, rfl⟩

theorem energyStart_of_seqTable {f : Outlet → Outlet} (ht : seqTable n (trackLow n s) = energyStart n f v)
    (hf : ∀ o, (f o).pcmatch = o.pcmatch) : (outlet (seqOutlet n s) n).st = .energy
      ∧ (outlet (seqOutlet n s) n).energised = true ∧ (outlet (seqOutlet n s) n).pcmatch = (outlet v n).pcmatch
      ∧ (outlet (seqOutlet n s) n).applied = 0 := by
  have hj := judged_seqOutlet hn hd.active ht
  obtain ⟨hst, hen, ha, hpc⟩ := outlet_energyStart hn (v := v) f
  obtain ⟨hap, hen', -⟩ := applied_seqOutlet hn hd.active ht (by rw [hst]; decide)
  rw [stateLimit, hst] at hap
  exact ⟨(congrArg Outlet.st hj).trans hst, hen'.trans hen, (congrArg Outlet.pcmatch hj).trans (hpc.trans (hf _)), hap.trans ha⟩

end

/-! ### NEGOTIATE (R121, R122, R139) -/

section

variable {n : Nat} {s u : State} (hu : SameConditions n s u)

include hu

/-- NEGOTIATE with its request still to be looked at. -/
theorem seqTable_negotiate_pending (hst : (outlet s n).st = .negotiate) (hp : unplugged (outlet s n) = false) (ha : (outlet s n).auth = true)
    (ht : elapsed s n < oTneg s n) : seqTable n u =
      if oType s n = tyAc3 then
        if (outlet u n).reqFrz = 3 then
          if permOf s n 2 true then
            energyStart n (fun o => { o with wdAt := u.tmp.now, bind := entryBind u n, sawC := false, six := false, bidirOk := o.bidirF }) u
          else refuse n 0x2 u
        else leftover n u
      else if (outlet u n).reqFrz = 1 then
        match cableCheckRefusal s n with
        | some r => refuse n r u
        | none => outGo n .cableCheck (onOutlet n (fun o => { o with ccdone := false, isoOk := false, ccTest := false }) (closeKpKn n (taken n u)))
      else leftover n u := by
  have ha' : (outlet u n).auth = true := (hu.keep Outlet.auth fun _ _ => rfl).trans ha
  rw [seqTable_negotiate ((hu.keep Outlet.st fun _ _ => rfl).trans hst), seqNegotiate, if_neg (by rw [unplugged_eq hu, hp]; decide),
    if_neg (by rw [ha']; decide),
    if_neg (by rw [hu.read (oTneg · n) fun _ => rfl, hu.elapsed_eq]; omega), hu.read (oType · n) fun _ => rfl, ha', hu.permOf_eq,
      hu.cableCheckRefusal_eq]
  rfl

end

section

variable {s : State} {n : Fin 4} (hd : SeqDue s n)

include hd

theorem does_reqCableCheck (hq : (outlet s n).reqFrz = 1) (hst : (outlet s n).st = .negotiate) (hp : unplugged (outlet s n) = false)
    (ha : (outlet s n).auth = true) (ht : elapsed s n < oTneg s n) (hty : oType s n ≠ tyAc3) :
    Does (.reqCableCheck n .run) s (fun t =>
      (cableCheckRefusal s n = none → (outlet t n).st = .cableCheck ∧ (oCoil s n 0 < 64 → (coil t (oCoil s n 0)).cmd = true)
        ∧ (oCoil s n 1 < 64 → (coil t (oCoil s n 1)).cmd = true))
      ∧ (∀ r ∈ (cableCheckRefusal s n).toList, (outlet t n).st = .negotiate ∧ (outlet t n).rejP = some r)) := by
  have hu := sameConditions_trackLow n.isLt s
  have he := atSeq_of_seqDue hd
  have htab := seqTable_negotiate_pending hu hst hp ha ht
  rw [if_neg hty, if_pos ((reqFrz_trackLow n.isLt s).trans hq)] at htab
  refine does_request rfl he hq ⟨fun hr => ?opened, fun r hr => ?refused⟩
  case opened =>
    rw [hr] at htab
    have hst' := outGo_of_seqTable n.isLt he htab
    obtain ⟨-, -, hco⟩ := applied_seqOutlet n.isLt he.active htab (by rw [outlet_outGo_st n.isLt]; decide)
    simp only [coil_outGo, coil_onOutlet] at hco
    rw [hco, hco]
    obtain ⟨h0, h1⟩ := cmd_closeKpKn n (taken n (trackLow n s))
    exact ⟨hst', h0, h1⟩
  case refused =>
    rw [Option.mem_toList] at hr
    rw [hr] at htab
    obtain ⟨hs, hrej⟩ := refused_of_seqTable n.isLt he hu htab
    exact ⟨hs.trans hst, hrej⟩

theorem does_reqEnergy_ac3 (hq : (outlet s n).reqFrz = 3) (hst : (outlet s n).st = .negotiate) (hty : oType s n = tyAc3)
    (hp : unplugged (outlet s n) = false) (ha : (outlet s n).auth = true) (ht : elapsed s n < oTneg s n) :
    Does (.reqEnergy n .run) s (fun t =>
      (permOf s n 2 true = true → (outlet t n).st = .energy ∧ (outlet t n).energised = true ∧ (outlet t n).applied = 0)
      ∧ (permOf s n 2 true = false → (outlet t n).st = .negotiate ∧ (outlet t n).rejP = some 2)) := by
  have hu := sameConditions_trackLow n.isLt s
  have he := atSeq_of_seqDue hd
  have htab := seqTable_negotiate_pending hu hst hp ha ht
  rw [if_pos hty, if_pos ((reqFrz_trackLow n.isLt s).trans hq)] at htab
  refine does_request rfl he hq ⟨fun hr => ?_, fun hr => ?_⟩
  · rw [if_pos hr] at htab
    obtain ⟨hs, hen, -, hap⟩ := energyStart_of_seqTable n.isLt he htab fun _ => rfl
    exact ⟨hs, hen, hap⟩
  · rw [if_neg (by rw [hr]; decide)] at htab
    obtain ⟨hs, hrej⟩ := refused_of_seqTable n.isLt he hu htab
    exact ⟨hs.trans hst, hrej⟩

end

/-! ### CABLE_CHECK, PRECHARGE and ENERGY (R116, R126, R128) -/

section

variable {n : Nat} {s u : State} (hu : SameConditions n s u)

include hu

theorem seqTable_cableCheck_pending (hst : (outlet s n).st = .cableCheck) (he : emergency s n = none) (hi : (outlet s n).isoHeld = false)
    (ht : elapsed s n < oTcc s n) (ha : (outlet s n).auth = true) : seqTable n u =
      if (outlet u n).reqFrz = 4 then rampedPath n 0x01 (taken n u)
      else if (outlet u n).reqFrz = 2 then
        if (outlet s n).ccdone then outGo n .precharge (taken n u) else refuse n 0x2 u
      else leftover n (cableCheckSteps n u) := by
  rw [seqTable_cableCheck ((hu.keep Outlet.st fun _ _ => rfl).trans hst), seqCableCheck]
  simp only [hu.emergency_eq, he]
  rw [if_neg (by rw [hu.keep Outlet.isoHeld fun _ _ => rfl, hi]; decide), if_neg (by rw [hu.read (oTcc · n) fun _ => rfl, hu.elapsed_eq]; omega),
    if_neg (by rw [hu.keep Outlet.auth fun _ _ => rfl, ha]; decide), hu.keep Outlet.ccdone fun _ _ => rfl]

variable (hn : n < 4)

include hn

theorem seqTable_precharge_pending (hst : (outlet s n).st = .precharge) (he : emergency s n = none) (ht : elapsed s n < oTpc s n)
    (ha : (outlet s n).auth = true) : seqTable n u =
      if (outlet u n).reqFrz = 4 then rampedPath n 0x01 (taken n (pcMatch n u))
      else if (outlet u n).reqFrz = 3 then
        if (outlet (pcMatch n u) n).pcmatch && permOf s n 2 true then
          energyStart n (fun o => { o with wdAt := (pcMatch n u).tmp.now, bind := entryBind (pcMatch n u) n, sawC := o.pilot == .c, bidirOk := o.bidirF })
            (pcMatch n u)
        else refuse n 0x2 (pcMatch n u)
      else leftover n (pcMatch n u) := by
  have hv := hu.pcMatch hn
  have ha' : (outlet (pcMatch n u) n).auth = true := (hv.keep Outlet.auth fun _ _ => rfl).trans ha
  rw [seqTable_precharge ((hu.keep Outlet.st fun _ _ => rfl).trans hst), seqPrecharge]
  simp only [hv.emergency_eq, he]
  rw [if_neg (by rw [hv.read (oTpc · n) fun _ => rfl, hv.elapsed_eq]; omega), if_neg (by rw [ha']; decide), ha', hv.permOf_eq,
    (outlet_pcMatch hn u).1,
    energyStart]

theorem seqTable_energy_stop (hst : (outlet s n).st = .energy) (hq : (outlet u n).reqFrz = 4) (he : emergency s n = none)
    (hr : acNoResponse s n = false) (ht : sinceT s (outlet s n).wdAt < oTfwwd s n) (ha : (outlet s n).auth = true) :
    seqTable n u = rampedPath n 0x01 (taken n (notedC n u)) := by
  have hv : SameConditions n s (notedC n u) := hu.seenC hn
  have hq' : (outlet (notedC n u) n).reqFrz = 4 := by rw [outlet_onOutlet_self _ _ _ hn, hq]
  rw [seqTable_energy ((hu.keep Outlet.st fun _ _ => rfl).trans hst), seqEnergy]
  simp only [hv.emergency_eq, he, hv.acNoResponse_eq, hr, Bool.false_eq_true, if_false]
  rw [if_neg (by rw [hv.read (oTfwwd · n) fun _ => rfl, hv.sinceT_eq, hv.keep Outlet.wdAt fun _ _ => rfl]; omega),
    if_neg (by rw [hv.keep Outlet.auth fun _ _ => rfl, ha]; decide), if_pos hq']

end

section

variable {s : State} {n : Fin 4} (hd : SeqDue s n)

include hd

theorem does_reqPrecharge (hq : (outlet s n).reqFrz = 2) (hst : (outlet s n).st = .cableCheck) (he : emergency s n = none)
    (hi : (outlet s n).isoHeld = false) (ht : elapsed s n < oTcc s n) (ha : (outlet s n).auth = true) :
    Does (.reqPrecharge n .run) s (fun t => ((outlet s n).ccdone = true → (outlet t n).st = .precharge)
      ∧ ((outlet s n).ccdone = false → (outlet t n).st = .cableCheck ∧ (outlet t n).rejP = some 2)) := by
  have hu := sameConditions_trackLow n.isLt s
  have hat := atSeq_of_seqDue hd
  have htab := seqTable_cableCheck_pending hu hst he hi ht ha
  rw [reqFrz_trackLow n.isLt, hq, if_neg (by decide), if_pos rfl] at htab
  refine does_request rfl hat hq ⟨fun hc => ?_, fun hc => ?_⟩
  · rw [if_pos hc] at htab
    exact outGo_of_seqTable n.isLt hat htab
  · rw [if_neg (by rw [hc]; decide)] at htab
    obtain ⟨hs, hrej⟩ := refused_of_seqTable n.isLt hat hu htab
    exact ⟨hs.trans hst, hrej⟩

theorem does_reqEnergy_precharge (hq : (outlet s n).reqFrz = 3) (hst : (outlet s n).st = .precharge) (he : emergency s n = none)
    (ht : elapsed s n < oTpc s n) (ha : (outlet s n).auth = true) :
    Does (.reqEnergy n .run) s (fun t =>
      let near := oV s n ≤ (outlet s n).vtF + oPcTol s n ∧ (outlet s n).vtF ≤ oV s n + oPcTol s n
      (near ∧ permOf s n 2 true = true → (outlet t n).st = .energy ∧ (outlet t n).energised = true ∧ (outlet t n).pcmatch = true
        ∧ (outlet t n).applied = 0)
      ∧ (¬(near ∧ permOf s n 2 true = true) → (outlet t n).st = .precharge ∧ (outlet t n).rejP = some 2)) := by
  have hu := sameConditions_trackLow n.isLt s
  have hat := atSeq_of_seqDue hd
  have htab := seqTable_precharge_pending hu n.isLt hst he ht ha
  have hm : (outlet (pcMatch n (trackLow n s)) n).pcmatch = true
      ↔ oV s n ≤ (outlet s n).vtF + oPcTol s n ∧ (outlet s n).vtF ≤ oV s n + oPcTol s n := by
    rw [(outlet_pcMatch n.isLt _).2, hu.keep Outlet.vtF fun _ _ => rfl, hu.read (oV · n) fun _ => rfl, hu.read (oPcTol · n) fun _ => rfl,
      Bool.and_eq_true, decide_eq_true_iff,
      decide_eq_true_iff]
  rw [reqFrz_trackLow n.isLt, hq, if_neg (by decide), if_pos rfl] at htab
  refine does_request rfl hat hq ⟨fun ⟨hnear, hperm⟩ => ?_, fun hno => ?_⟩
  · rw [if_pos (by rw [hm.mpr hnear, hperm]; rfl)] at htab
    obtain ⟨hs, hen, hpc, hap⟩ := energyStart_of_seqTable n.isLt hat htab fun _ => rfl
    exact ⟨hs, hen, hpc.trans (hm.mpr hnear), hap⟩
  · rw [if_neg (by rwa [Bool.and_eq_true, hm])] at htab
    obtain ⟨hs, hrej⟩ := refused_of_seqTable n.isLt hat (hu.pcMatch n.isLt) htab
    exact ⟨hs.trans hst, hrej⟩

omit hd in
/-- The exit of REQ STOP, from each of the three states that take it. -/
theorem seqTable_stop (hq : (outlet s n).reqFrz = 4) (he : emergency s n = none) (ha : (outlet s n).auth = true)
    (hst : ((outlet s n).st = .cableCheck ∧ (outlet s n).isoHeld = false ∧ elapsed s n < oTcc s n)
      ∨ ((outlet s n).st = .precharge ∧ elapsed s n < oTpc s n)
      ∨ ((outlet s n).st = .energy ∧ acNoResponse s n = false ∧ sinceT s (outlet s n).wdAt < oTfwwd s n)) :
    ∃ v, SameConditions n s v ∧ seqTable n (trackLow n s) = rampedPath n 0x01 v := by
  have hu := sameConditions_trackLow n.isLt s
  have hq' := (reqFrz_trackLow n.isLt s).trans hq
  rcases hst with ⟨hst, hi, ht⟩ | ⟨hst, ht⟩ | ⟨hst, hr, ht⟩
  · exact ⟨_, hu.taken n.isLt, (seqTable_cableCheck_pending hu hst he hi ht ha).trans (if_pos hq')⟩
  · exact ⟨_, (hu.pcMatch n.isLt).taken n.isLt, (seqTable_precharge_pending hu n.isLt hst he ht ha).trans (if_pos hq')⟩
  · exact ⟨_, (hu.seenC n.isLt).taken n.isLt, seqTable_energy_stop hu n.isLt hst hq' he hr ht ha⟩

theorem does_reqStop (hq : (outlet s n).reqFrz = 4) (he : emergency s n = none) (ha : (outlet s n).auth = true)
    (hst : ((outlet s n).st = .cableCheck ∧ (outlet s n).isoHeld = false ∧ elapsed s n < oTcc s n)
      ∨ ((outlet s n).st = .precharge ∧ elapsed s n < oTpc s n)
      ∨ ((outlet s n).st = .energy ∧ acNoResponse s n = false ∧ sinceT s (outlet s n).wdAt < oTfwwd s n)) :
    Does (.reqStop n .run) s (fun t => (outlet t n).st = .rampDown ∧ (outlet t n).emerg = false
      ∧ (outlet t n).applied = (if (outlet s n).st = .energy then (outlet s n).applied else 0)
      ∧ ((outlet s n).cause = 0 ∨ (outlet s n).causeOld = true → (outlet t n).cause = 1)) := by
  obtain ⟨v, hv, htab⟩ := seqTable_stop hq he ha hst
  obtain ⟨hs, hem, hap, hca⟩ := ramped_of_seqTable n.isLt (atSeq_of_seqDue hd) htab
  rw [hv.keep Outlet.st fun _ _ => rfl, hv.keep Outlet.applied fun _ _ => rfl] at hap
  refine does_request rfl (atSeq_of_seqDue hd) hq ⟨hs, hem, hap, fun hc => hca.trans (hv.cause_eq n.isLt ?_).1⟩
  rcases hc with hc | hc
  · exact .inl hc
  · exact .inr (.inl hc)

/-! ### IDLE, OUT_OF_SERVICE and FAULTED (R117, R119, R135) -/

theorem does_reqOos (hq : (outlet s n).reqFrz = 5) (hst : (outlet s n).st = .idle) :
    Does (.reqOos n .run) s (fun t => (outlet t n).st = .oos) := by
  have hu := sameConditions_trackLow n.isLt s
  have htab : seqTable n (trackLow n s) = toOos n (taken n (trackLow n s)) :=
    (seqTable_idle ((hu.keep Outlet.st fun _ _ => rfl).trans hst)).trans (if_pos ((reqFrz_trackLow n.isLt s).trans hq))
  have hj := judged_seqOutlet n.isLt (atSeq_of_seqDue hd).active htab
  exact does_request rfl (atSeq_of_seqDue hd) hq ((congrArg Outlet.st hj).trans (outlet_toOos_st _ n.isLt))

theorem does_reqService (hq : (outlet s n).reqFrz = 6) (hst : (outlet s n).st = .oos) :
    Does (.reqService n .run) s (fun t => ((outlet s n).latch = false → (outlet t n).st = .idle)
      ∧ ((outlet s n).latch = true → (outlet t n).st = .oos ∧ (outlet t n).rejP = some 2)) := by
  have hu := sameConditions_trackLow n.isLt s
  have hat := atSeq_of_seqDue hd
  have htab := seqTable_oos ((hu.keep Outlet.st fun _ _ => rfl).trans hst)
  rw [seqOos, if_pos ((reqFrz_trackLow n.isLt s).trans hq), if_neg (by rw [hu.read (oActive · n) fun _ => rfl, hat.active]; decide),
    hu.keep Outlet.latch fun _ _ => rfl] at htab
  refine does_request rfl hat hq ⟨fun hl => ?_, fun hl => ?_⟩
  · rw [if_neg (by rw [hl]; decide)] at htab
    exact outGo_of_seqTable n.isLt hat htab
  · rw [if_pos hl] at htab
    obtain ⟨hs, hrej⟩ := refused_of_seqTable n.isLt hat hu htab
    exact ⟨hs.trans hst, hrej⟩

omit hd in
theorem weldStep_of_off {n : Nat} {s : State} (h : (outlet s n).weld = .off) : weldStep n s = s := by
  rw [weldStep]
  simp only [h]

omit hd in
/-- REQ ACK of a RECOVER cause in FAULTED, its weld check over. -/
theorem seqTable_faulted_ack (hq : (outlet s n).reqFrz = 7) (hst : (outlet s n).st = .faulted) (hw : (outlet s n).weld = .off)
    (hr : s.saf.st = .run) (hc : causeClass (outlet s n).cause = 2) : seqTable n (trackLow n s) =
      if hvPresent s n then refuse n 0x2 (trackLow n s)
      else if oLock s n = true ∧ fbIn s (oLockFb s n) = true then toUnlock n (taken n (trackLow n s))
      else toIdle n (taken n (trackLow n s)) := by
  have hu := sameConditions_trackLow n.isLt s
  have hne : ¬ (outlet s n).cause = 0x12 := by
    intro e
    rw [e] at hc
    cases hc
  rw [seqTable_faulted ((hu.keep Outlet.st fun _ _ => rfl).trans hst), seqFaulted, weldStep_of_off ((hu.keep Outlet.weld fun _ _ => rfl).trans hw),
    hu.keep Outlet.cause fun _ _ => rfl, hc,
    hu.hvPresent_eq, hu.read (oLock · n) fun _ => rfl, hu.read (fun s => fbIn s (oLockFb s n)) fun _ => rfl, hu.read (·.saf) fun _ => rfl, hr,
      reqFrz_trackLow n.isLt, hq]
  cases hvPresent s n <;> cases oLock s n <;> cases fbIn s (oLockFb s n) <;> simp [hne]

theorem does_reqAck (hq : (outlet s n).reqFrz = 7) (hst : (outlet s n).st = .faulted) (hw : (outlet s n).weld = .off) (hr : s.saf.st = .run)
    (hc : causeClass (outlet s n).cause = 2) :
    Does (.reqAck n .run) s (fun t =>
      (hvPresent s n = false → (outlet t n).st = if oLock s n = true ∧ fbIn s (oLockFb s n) = true then .unlock else .idle)
      ∧ (hvPresent s n = true → (outlet t n).st = .faulted ∧ (outlet t n).rejP = some 2)) := by
  have hat := atSeq_of_seqDue hd
  have htab := seqTable_faulted_ack hq hst hw hr hc
  refine does_request rfl hat hq ⟨fun hv => ?_, fun hv => ?_⟩
  · rw [if_neg (by rw [hv]; decide)] at htab
    split
    case isTrue hl =>
      rw [if_pos hl] at htab
      exact (unlock_of_seqTable n.isLt hat htab).1
    case isFalse hl =>
      rw [if_neg hl] at htab
      exact (congrArg Outlet.st (judged_seqOutlet n.isLt hat.active htab)).trans (outlet_toIdle n.isLt _).1
  · rw [if_pos hv] at htab
    obtain ⟨hs, hrej⟩ := refused_of_seqTable n.isLt hat (sameConditions_trackLow n.isLt s) htab
    exact ⟨hs.trans hst, hrej⟩

theorem does_reqRearm (hq : (outlet s n).reqFrz = 8) (hst : (outlet s n).st = .idle) (hv : hvPresent s n = false)
    (hidle : (outlet s n).armed = false ∧ (outlet s n).pilot ≠ .a ∨ seqPilot (outlet s n) ≠ pilotB s n ∨ (outlet s n).proxOk = false) :
    Does (.reqRearm n .run) s (fun t => (outlet t n).st = .idle ∧ (outlet t n).armed = true) := by
  have hu := sameConditions_trackLow n.isLt s
  have hq' := (reqFrz_trackLow n.isLt s).trans hq
  have hplug : ¬ (((outlet (trackLow n s) n).armed || (outlet (trackLow n s) n).pilot == .a)
      && seqPilot (outlet (trackLow n s) n) == pilotB (trackLow n s) n && (outlet (trackLow n s) n).proxOk) = true := by
    rw [hu.keep Outlet.armed fun _ _ => rfl, hu.keep Outlet.pilot fun _ _ => rfl, hu.keep seqPilot fun _ _ => rfl,
      hu.read (pilotB · n) fun _ => rfl, hu.keep Outlet.proxOk fun _ _ => rfl]
    rcases hidle with ⟨ha, hp⟩ | hp | hp
    · simp [ha, hp]
    · simp [hp]
    · simp [hp]
  have htab : seqTable n (trackLow n s) = taken n (onOutlet n (fun o => { o with armed := o.armed || o.pilot == .a || o.reqFrz == 8 }) (trackLow n s)) := by
    rw [seqTable_idle ((hu.keep Outlet.st fun _ _ => rfl).trans hst), seqIdle, if_neg (by rw [hq']; decide),
      if_neg (by rw [hu.hvPresent_eq, hv]; decide),
      if_neg hplug, if_pos hq']
  have hj := judged_seqOutlet n.isLt (atSeq_of_seqDue hd).active htab
  rw [outlet_taken n.isLt, outlet_onOutlet_self _ _ _ n.isLt, hq'] at hj
  refine does_request rfl (atSeq_of_seqDue hd) hq ⟨(congrArg Outlet.st hj).trans ((hu.keep Outlet.st fun _ _ => rfl).trans hst),
    (congrArg Outlet.armed hj).trans ?_⟩
  simp [Outlet.judged]

/-! ### Requests a state does not take (R114) -/

omit hd in
theorem discarded_seqIdle {u : State} (h0 : (outlet u n).reqFrz ≠ 0) (h5 : (outlet u n).reqFrz ≠ 5) (h8 : (outlet u n).reqFrz ≠ 8) :
    Discarded (seqIdle n u) n := by
  have hK : ∀ f, KeepsReject f → KeepsReject f := fun _ h => h
  have hr : SeqMoves KeepsReject n (dropRequest n u) (dropRequest n u) := .refl
  have hd := discarded_dropRequest u n.isLt h0
  unfold seqIdle
  dsimp only
  rw [if_neg h5, if_neg h8]
  split
  · exact ((hr.outCause hK _).toFaulted hK).discarded n.isLt hd
  · split
    · refine SeqMoves.discarded n.isLt (SeqMoves.outGo hK ?_ _) hd
      exact hr.record hK _ fun _ => ⟨rfl, rfl, rfl⟩
    · refine discarded_dropRequest _ n.isLt ?_
      rwa [outlet_onOutlet_self _ _ _ n.isLt]

omit hd in
/-- These six states take none of the requests 1 to 4, 6 and 7, and discard them. -/
theorem discarded_seqTable {u : State} (hst : (outlet u n).st ∈ [OutSt.idle, .plugged, .authWait, .rampDown, .weldCheck, .unlock])
    (h0 : (outlet u n).reqFrz ≠ 0) (h5 : (outlet u n).reqFrz ≠ 5) (h8 : (outlet u n).reqFrz ≠ 8) : Discarded (seqTable n u) n := by
  have hK : ∀ f, KeepsReject f → KeepsReject f := fun _ h => h
  have hd := discarded_dropRequest u n.isLt h0
  simp only [List.mem_cons, List.not_mem_nil, or_false] at hst
  rcases hst with hst | hst | hst | hst | hst | hst
  · rw [seqTable_idle hst]
    exact discarded_seqIdle h0 h5 h8
  · rw [seqTable_plugged hst]
    exact (seqMoves_seqPlugged hK n u).discarded n.isLt hd
  · rw [seqTable_authWait hst]
    exact (seqMoves_seqAuthWait hK n u).discarded n.isLt hd
  · rw [seqTable_rampDown hst, ← seqRampDown_eq]
    exact (seqMoves_seqRampDown hK n _).discarded n.isLt hd
  · rw [seqTable_weldCheck hst]
    exact (seqMoves_seqWeldCheck hK n u).discarded n.isLt hd
  · rw [seqTable_unlock hst]
    exact (seqMoves_seqUnlock hK n u).discarded n.isLt hd

theorem does_request_discarded {c : Instr} {code : Nat} (hc : exec c s = .next (request n code .run s)) (hq : (outlet s n).reqFrz = code)
    (h0 : code ≠ 0) (h5 : code ≠ 5) (h8 : code ≠ 8)
    (hst : (outlet s n).st ∈ [OutSt.idle, .plugged, .authWait, .rampDown, .weldCheck, .unlock]) :
    Does c s (fun t => (outlet t n).rejP = some 1 ∧ (outlet t n).pend.testBit (F.OUT_FLAGS_REQREJ n).lo = true ∧ (outlet t n).reqFrz = 0) := by
  have hq' := (reqFrz_trackLow n.isLt s).trans hq
  have hj := judged_seqOutlet n.isLt (atSeq_of_seqDue hd).active rfl
  obtain ⟨hr, hp, hz⟩ := discarded_seqTable (n := n) (u := trackLow n s)
    (((sameConditions_trackLow n.isLt s).keep Outlet.st fun _ _ => rfl).symm ▸ hst)
    (hq' ▸ h0) (hq' ▸ h5) (hq' ▸ h8)
  exact does_request hc (atSeq_of_seqDue hd) hq ⟨(congrArg Outlet.rejP hj).trans hr,
    (congrArg (Nat.testBit · _) (congrArg Outlet.pend hj)).trans hp, (congrArg Outlet.reqFrz hj).trans hz⟩

end

/-! ### Outside its evaluation (R109) -/

theorem seqDue_of_not_due {s : State} {n : Nat} (h : s.tmp.running = false ∨ 3 ∉ s.tmp.ran ∨ (outlet s n).seqAt = some s.tmp.now) :
    seqDue n s = s := by
  unfold seqDue seqOnce
  rcases h with h | h | h
  · simp [h]
  · simp [h]
  · simp [h]

theorem does_request_of_not_due {c : Instr} {n code : Nat} {s : State} (hc : exec c s = .next (request n code .run s)) (h : seqDue n s = s) :
    Does c s (fun t => t = s) := by
  refine ⟨_, hc, ?_⟩
  rw [request, h, ite_self]

theorem does_expiry_of_not_due {c : Instr} {n : Nat} {due : Bool} {s : State} (hc : exec c s = .next (expiry n due s)) (h : seqDue n s = s) :
    Does c s (fun t => t = s) := by
  refine ⟨_, hc, ?_⟩
  rw [expiry, h, ite_self]

/-- Settles O15, request by request: a request frozen is looked at after the conditions that outrank it, and its exit names the new state. -/
theorem outletRequests : Obligations.OutletRequests := by
  intro s n
  refine ⟨?writes, does_reqCableCheck, does_reqPrecharge, does_reqEnergy_precharge, does_reqEnergy_ac3, does_reqStop, does_reqOos, does_reqService,
    does_reqAck, does_reqRearm, ?discarded, ?notDue⟩
  case writes =>
    intro p hp
    simp only [List.mem_cons, List.not_mem_nil, or_false] at hp
    rcases hp with rfl | rfl | rfl | rfl | rfl | rfl | rfl | rfl <;> exact does_reqWrite rfl (Nat.succ_ne_zero _)
  case discarded =>
    intro x hx hd hst hq
    simp only [List.mem_cons, List.not_mem_nil, or_false] at hx
    rcases hx with rfl | rfl | rfl | rfl | rfl | rfl <;>
      exact does_request_discarded hd rfl hq (by decide) (by decide) (by decide) hst
  case notDue =>
    intro h c hc
    have hs := seqDue_of_not_due h
    simp only [List.mem_cons, List.not_mem_nil, or_false] at hc
    rcases hc with rfl | rfl | rfl | rfl | rfl | rfl | rfl | rfl | hc
    iterate 8 exact does_request_of_not_due rfl hs
    rcases hc with rfl | rfl | rfl | rfl | rfl | rfl | rfl | rfl | rfl | rfl | rfl | rfl | rfl | rfl <;>
      exact does_expiry_of_not_due rfl hs

end Sys2Proof.Machine

end

section

/-! SUPPORT and O18. The emergency exits of the state table, and the mirror contacts that end an outlet (R123, R129, R133). -/

namespace Sys2Proof.Machine

/-- The first emergency trigger of the tempo takes CABLE_CHECK, PRECHARGE and ENERGY down the emergency path (R129, R130). -/
theorem seqTable_emergency {n code : Nat} (hn : n < 4) {s : State} (hst : (outlet s n).st ∈ [OutSt.cableCheck, .precharge, .energy])
    (he : emergency s n = some code) : ∃ v, SameConditions n s v ∧ seqTable n (trackLow n s) = emergencyPath n code v := by
  have hu := sameConditions_trackLow hn s
  simp only [List.mem_cons, List.not_mem_nil, or_false] at hst
  rcases hst with hst | hst | hst
  · refine ⟨_, hu.dropRequest hn, ?_⟩
    rw [seqTable_cableCheck ((hu.keep Outlet.st fun _ _ => rfl).trans hst), seqCableCheck]
    simp only [hu.emergency_eq, he]
  · refine ⟨_, (hu.pcMatch hn).dropRequest hn, ?_⟩
    rw [seqTable_precharge ((hu.keep Outlet.st fun _ _ => rfl).trans hst), seqPrecharge]
    simp only [(hu.pcMatch hn).emergency_eq, he]
  · have hv : SameConditions n s (notedC n (trackLow n s)) := hu.seenC hn
    refine ⟨_, hv.dropRequest hn, ?_⟩
    rw [seqTable_energy ((hu.keep Outlet.st fun _ _ => rfl).trans hst), seqEnergy]
    simp only [hv.emergency_eq, he]

/-! ### FB_MISMATCH in RAMP_DOWN (R123) -/

/-- Outlet n has the LATCH cause of a mirror contact, and its hold. -/
def MirrorCause (s : State) (n : Nat) : Prop := (outlet s n).cause = 0x10 ∧ (outlet s n).latch = true

theorem mirrorCause_outCause {n : Nat} (hn : n < 4) (s : State) : MirrorCause (outCause n 0x10 s) n :=
  ⟨(cause_outCause hn 0x10 s (.inr (.inr (.inl (by decide))))).1, latch_outCause hn 0x10 s (.inr (by decide))⟩

theorem MirrorCause.toWeldCheck {n : Nat} (hn : n < 4) {s : State} (h : MirrorCause s n) : MirrorCause (toWeldCheck n s) n := by
  obtain ⟨hc, hl⟩ := h
  obtain ⟨-, hc', hl'⟩ := outlet_toWeldCheck hn s
  exact ⟨hc'.trans hc, hl'.trans hl⟩

/-- A hard break adds no cause to that of a mirror contact of this session. -/
theorem MirrorCause.hardBreak {n : Nat} (hn : n < 4) {s : State} (h : MirrorCause s n) (ho : (outlet s n).causeOld = false) {code : Nat}
    (hc : causeClass code ≠ 3) : MirrorCause (Machine.toWeldCheck n (hardOpen n (outCause n code s))) n := by
  obtain ⟨h0, hl⟩ := h
  have hk := cause_outCause_of_latched hn code s (by rw [h0]; rfl) ho hc
  exact MirrorCause.toWeldCheck (s := hardOpen n (outCause n code s)) hn ⟨hk.trans h0, latch_outCause hn code s (.inl hl)⟩

theorem mirrorCause_rampStep {n : Nat} (hn : n < 4) {s : State} (h : MirrorCause s n) (ho : (outlet s n).causeOld = false)
    (he : (outlet s n).emerg = true) : MirrorCause (rampStep n s) n := by
  rw [rampStep, if_pos he]
  split
  · exact h.toWeldCheck hn
  split
  · exact h.hardBreak hn ho (by decide)
  split
  · exact h.toWeldCheck hn
  split
  · exact h.hardBreak hn ho (by decide)
  · rwa [MirrorCause, outlet_onOutlet_self _ _ _ hn]

/-- A mirror contact turns a normal ramp into the emergency path. -/
theorem rampTurned_of_mismatch {n : Nat} {s : State} (he : (outlet s n).emerg = false) (hc : inCheck s = false) (hl : enableLost s n = false)
    (hp : s.pwr.pfw = false) (hm : fbMismatch s n ≠ none) : rampTurned n s = emergencyPath n 0x10 s := by
  have hm' : (fbMismatch s n).isSome = true := Option.isSome_iff_ne_none.mpr hm
  simp only [rampTurned, he, hc, hl, hp, hm', Bool.false_eq_true, if_false, if_true]

theorem mirrorCause_seqTable_rampDown {n : Nat} (hn : n < 4) {s : State} (hm : fbMismatch s n ≠ none) (hst : (outlet s n).st = .rampDown)
    (he : (outlet s n).emerg = false) (hc : inCheck s = false) (hl : enableLost s n = false) (hp : s.pwr.pfw = false) :
    MirrorCause (seqTable n (trackLow n s)) n := by
  have hu := sameConditions_trackLow hn s
  have hv := hu.dropRequest hn
  rw [seqTable_rampDown ((hu.keep Outlet.st fun _ _ => rfl).trans hst),
    rampTurned_of_mismatch ((hv.keep Outlet.emerg fun _ _ => rfl).trans he) ((hv.read inCheck fun _ => rfl).trans hc)
    ((hv.read (enableLost · n) fun _ => rfl).trans hl) ((congrArg PwrState.pfw (hv.read (·.pwr) fun _ => rfl)).trans hp)
    ((hv.read (fbMismatch · n) fun _ => rfl).symm ▸ hm)]
  obtain ⟨-, hem, -, hca, hold, hla⟩ := outlet_emergencyPath hn (dropRequest n (trackLow n s)) 0x10
  obtain ⟨hca', hla'⟩ := mirrorCause_outCause hn (dropRequest n (trackLow n s))
  exact mirrorCause_rampStep hn ⟨hca.trans hca', hla.trans hla'⟩
    (hold.trans (cause_outCause hn 0x10 _ (.inr (.inr (.inl (by decide))))).2) hem

/-! ### FB_MISMATCH in the weld check (R133) -/

/-- A contact that still reads closed once its coil has settled ends the weld check in FAULTED. -/
theorem seqTable_weldCheck_mirror {n : Nat} (hn : n < 4) {s : State} (hst : (outlet s n).st = .weldCheck) (hw : (outlet s n).weld = .settle)
    (hb : weldBad s n ≠ none) : ∃ v, MirrorCause v n ∧ seqTable n (trackLow n s) = toFaulted n v := by
  have hu := sameConditions_trackLow hn s
  have hv := hu.dropRequest hn
  obtain ⟨c, hc⟩ := Option.ne_none_iff_exists'.mp hb
  refine ⟨weldStep n (dropRequest n (trackLow n s)), ?_, ?_⟩
  · rw [weldStep]
    simp only [(hv.keep Outlet.weld fun _ _ => rfl).trans hw, hv.weldBad_eq.trans hc]
    rw [MirrorCause, outlet_onOutlet_self _ _ _ hn, outlet_coilFault]
    exact mirrorCause_outCause hn _
  · rw [seqTable_weldCheck ((hu.keep Outlet.st fun _ _ => rfl).trans hst)]
    exact seqWeldCheck_bad ((hu.keep Outlet.weld fun _ _ => rfl).trans hw) (hu.weldBad_eq.symm ▸ hb)

/-! ### The commands -/

section

variable {s : State} {n : Fin 4} (hd : AtSeq s n)

include hd

theorem does_busLost (hb : busLost s n = true) (hst : (outlet s n).st ∈ [OutSt.cableCheck, .precharge, .energy])
    (he : emergency s n = some 0x15) :
    Does (.busLost n) s (fun t => (outlet t n).st = .rampDown ∧ (outlet t n).emerg = true ∧ (outlet t n).applied = 0
      ∧ (causeClass (outlet s n).cause ≤ 1 → (outlet t n).cause = 0x15)) := by
  refine does_expiry rfl hd hb ?_
  obtain ⟨v, hv, ht⟩ := seqTable_emergency n.isLt hst he
  obtain ⟨hs, hem, hap, hca, -⟩ := emergency_of_seqTable n.isLt hd ht
  exact ⟨hs, hem, hap, fun hc => hca.trans (hv.cause_eq n.isLt (.inr (.inr (.inr (Nat.lt_of_le_of_lt hc (by decide)))))).1⟩

/-- The mismatch stands through the evaluation, which ends with the demand of CHECK (R146, R172; log entry 161). -/
theorem does_fbMismatch_check {c : Nat} (hm : fbMismatch s n = some c) :
    Does (.fbMismatch n) s (fun t => Demands t 0x0C c false
      ∧ ((0x0C, c) ∉ s.saf.cur → (0x0C, c) ∉ s.saf.prev → rget t F.MTX_FLAGS_FBMISMATCH = 1)) := by
  refine does_expiry rfl hd (by rw [hm]; rfl) ?_
  have hmoves := seqMoves_seqEvaluated n s
  have hm' : fbMismatch (seqEvaluated n s) n = some c := (hmoves.sameMirrors.fbMismatch_eq n).trans hm
  rw [seqOutlet_eq hd.active]
  simp only [outletMismatch, hm']
  exact ⟨safCause_demands _ _ _ _, fun hcur hprev => rget_coilFault (hmoves.mismatchShown (.inl ⟨hcur, hprev⟩))⟩

theorem does_fbMismatch_emergency (hm : fbMismatch s n ≠ none) (hst : (outlet s n).st ∈ [OutSt.cableCheck, .precharge, .energy])
    (he : emergency s n = some 0x10) :
    Does (.fbMismatch n) s (fun t => (outlet t n).st = .rampDown ∧ (outlet t n).emerg = true ∧ (outlet t n).applied = 0
      ∧ (outlet t n).cause = 0x10 ∧ (outlet t n).latch = true) := by
  refine does_expiry rfl hd (Option.isSome_iff_ne_none.mpr hm) ?_
  obtain ⟨v, -, ht⟩ := seqTable_emergency n.isLt hst he
  obtain ⟨hs, hem, hap, hca, hla⟩ := emergency_of_seqTable n.isLt hd ht
  obtain ⟨hca', hla'⟩ := mirrorCause_outCause n.isLt v
  exact ⟨hs, hem, hap, hca.trans hca', hla.trans hla'⟩

theorem does_fbMismatch_rampDown (hm : fbMismatch s n ≠ none) (hst : (outlet s n).st = .rampDown) (he : (outlet s n).emerg = false)
    (hc : inCheck s = false) (hl : enableLost s n = false) (hp : s.pwr.pfw = false) :
    Does (.fbMismatch n) s (fun t => (outlet t n).cause = 0x10 ∧ (outlet t n).latch = true) := by
  refine does_expiry rfl hd (Option.isSome_iff_ne_none.mpr hm) ?_
  have hj := judged_seqOutlet n.isLt hd.active rfl
  obtain ⟨hca, hla⟩ := mirrorCause_seqTable_rampDown n.isLt hm hst he hc hl hp
  exact ⟨(congrArg Outlet.cause hj).trans hca, (congrArg Outlet.latch hj).trans hla⟩

theorem does_fbMismatch_weldCheck (hm : fbMismatch s n ≠ none) (hst : (outlet s n).st = .weldCheck) (hw : (outlet s n).weld = .settle)
    (hb : weldBad s n ≠ none) :
    Does (.fbMismatch n) s (fun t => (outlet t n).st = .faulted ∧ (outlet t n).cause = 0x10 ∧ (outlet t n).latch = true) := by
  refine does_expiry rfl hd (Option.isSome_iff_ne_none.mpr hm) ?_
  obtain ⟨v, ⟨hca, hla⟩, ht⟩ := seqTable_weldCheck_mirror n.isLt hst hw hb
  obtain ⟨hs, hca', hla'⟩ := faulted_of_seqTable n.isLt hd ht
  exact ⟨hs, hca'.trans hca, hla'.trans hla⟩

end

/-- Settles O18: the emergency exit of the state, or the FB_MISMATCH branch of the ramp and of the weld check, records the cause, and the
evaluation ends with the mirror contact itself, which no move of it has changed. -/
theorem outletEmergencies : Obligations.OutletEmergencies := by
  intro s n hr hc ha hw
  have hd : AtSeq s n := ⟨hr, hc, ha, hw⟩
  exact ⟨does_busLost hd, fun c => does_fbMismatch_check hd, does_fbMismatch_emergency hd, does_fbMismatch_rampDown hd,
    does_fbMismatch_weldCheck hd⟩

end Sys2Proof.Machine

end

section

/-! SUPPORT. What the edge that begins a tempo leaves alone: the registers it reads, the inputs of an authorisation, and the outlets but
for what each step writes to its own (R55, R56, R115). -/

namespace Sys2Proof.Machine

/-! ### Registers the edge reads and registers it writes -/

/-- An outlet's OUTn_CTRL, OUTn_STATE, OUTn_LIMIT or OUTn_VTARGET. -/
def OutControl (f : Fld) : Prop := 0x10070000 ≤ f.addr ∧ f.addr < 0x10070400 ∧ f.addr % 256 < 16

/-- A field the edge reads of an outlet's control registers, or of LCD. -/
def EdgeInput (f : Fld) : Prop := f.lo < 32 ∧ (OutControl f ∨ 0x10110000 ≤ f.addr)

/-- A field below LCD that is none of an outlet's control registers. -/
def EdgeOutput (f : Fld) : Prop := f.lo < 32 ∧ ¬ OutControl f ∧ f.addr < 0x10110000

theorem EdgeInput.ne {f g : Fld} (hf : EdgeInput f) (hg : EdgeOutput g) : fkey f ≠ fkey g := by
  obtain ⟨hlf, hf⟩ := hf
  obtain ⟨hlg, hn, hg⟩ := hg
  have ha : f.addr ≠ g.addr := by
    intro e
    rw [OutControl, e] at hf
    rcases hf with hf | hf
    · exact hn hf
    · omega
  simp only [fkey]
  omega

section

variable {m : Nat} (hm : m < 4)

include hm

theorem edgeInput_imax : EdgeInput (F.OUT_LIMIT_IMAX m) := by
  simp only [EdgeInput, OutControl, F.OUT_LIMIT_IMAX]
  omega

theorem edgeInput_vmax : EdgeInput (F.OUT_LIMIT_VMAX m) := by
  simp only [EdgeInput, OutControl, F.OUT_LIMIT_VMAX]
  omega

theorem edgeInput_vt : EdgeInput (F.OUT_VTARGET_VT m) := by
  simp only [EdgeInput, OutControl, F.OUT_VTARGET_VT]
  omega

theorem edgeInput_dir : EdgeInput (F.OUT_CTRL_DIR m) := by
  simp only [EdgeInput, OutControl, F.OUT_CTRL_DIR]
  omega

theorem edgeInput_bidir : EdgeInput (F.OUT_CTRL_BIDIR m) := by
  simp only [EdgeInput, OutControl, F.OUT_CTRL_BIDIR]
  omega

theorem edgeOutput_reqOvw : EdgeOutput (F.OUT_FLAGS_REQOVW m) := by
  simp only [EdgeOutput, OutControl, F.OUT_FLAGS_REQOVW]
  omega

theorem edgeOutput_authRef : EdgeOutput (F.OUT_FLAGS_AUTHREF m) := by
  simp only [EdgeOutput, OutControl, F.OUT_FLAGS_AUTHREF]
  omega

theorem edgeOutput_evcnt : EdgeOutput (F.OUT_EVCNT_COUNT m) := by
  simp only [EdgeOutput, OutControl, F.OUT_EVCNT_COUNT]
  omega

theorem edgeOutput_rej : EdgeOutput (F.OUT_CAUSE_REJ m) := by
  simp only [EdgeOutput, OutControl, F.OUT_CAUSE_REJ]
  omega

end

theorem edgeOutput_evqOvf : EdgeOutput F.SAF_EVQOVF_COUNT := by
  simp only [EdgeOutput, OutControl, F.SAF_EVQOVF_COUNT]
  omega

theorem edgeInput_billMask : EdgeInput F.LCD_CFG_BILLMASK := ⟨by decide, .inr (by decide)⟩

theorem edgeInput_crack : EdgeInput F.LCD_STATUS_CRACK := ⟨by decide, .inr (by decide)⟩

theorem rget_edgeBudget {f : Fld} (hf : EdgeInput f) (s : State) : rget (edgeBudget s) f = rget s f := by
  have hb : rget (budgetStale s) f = rget s f := by
    unfold budgetStale
    split
    · dsimp only
      split
      · rfl
      · have hflag : EdgeOutput F.LEA_FLAGS_BUDSTALE := by
          simp only [EdgeOutput, OutControl, F.LEA_FLAGS_BUDSTALE]
          omega
        have hcnt : EdgeOutput F.LEA_EVCNT_COUNT := by
          simp only [EdgeOutput, OutControl, F.LEA_EVCNT_COUNT]
          omega
        exact rget_raiseData_ne 0 _ _ _ _ (hf.ne hflag) (hf.ne hcnt) (hf.ne edgeOutput_evqOvf)
    · rfl
  unfold edgeBudget
  split
  · rfl
  · split
    · rfl
    · exact hb

/-- A flag of an outlet leaves what the edge reads. -/
theorem rget_raiseOut {f : Fld} (hf : EdgeInput f) {m : Nat} (hm : m < 4) {g : Nat → Fld} (hg : EdgeOutput (g m)) (s : State) :
    rget (raiseOut m g s) f = rget s f :=
  rget_raiseData_ne 0 _ _ _ _ (hf.ne hg) (hf.ne (edgeOutput_evcnt hm)) (hf.ne edgeOutput_evqOvf)

theorem rget_reqWrite {f : Fld} (hf : EdgeInput f) {m : Nat} (hm : m < 4) (code : Nat) (s : State) : rget (reqWrite m code s) f = rget s f := by
  unfold reqWrite
  split
  · rfl
  · dsimp only
    split
    · exact rget_raiseOut hf hm (edgeOutput_reqOvw hm) _
    · rfl

/-- A STOP that a message timer owes, placed in its latch (R314). -/
def stopTaken (m : Nat) (t : State) : State :=
  if (vport t m).stopReq then onV m (fun v => { v with stopReq := false }) (reqWrite m 4 t) else t

theorem edgeMtim_eq (s : State) : edgeMtim s = eachUpTo 4 stopTaken s := rfl

theorem rget_stopTaken {f : Fld} (hf : EdgeInput f) {m : Nat} (hm : m < 4) (s : State) : rget (stopTaken m s) f = rget s f := by
  unfold stopTaken
  split
  · exact rget_reqWrite hf hm 4 s
  · rfl

theorem rget_edgeMtim {f : Fld} (hf : EdgeInput f) (s : State) : rget (edgeMtim s) f = rget s f :=
  eachUpTo_frame (rget · f) 4 stopTaken s fun _ t hm => rget_stopTaken hf hm t

/-- A counted AUTH value is refused with its reason, or changes nothing but the outlet's authorisation. -/
theorem authCount_cases (m : Nat) (v : Bool) (s : State) :
    (∃ r, authCount m v s = raiseOut m F.OUT_FLAGS_AUTHREF (rput (F.OUT_CAUSE_REJ m) r s))
      ∨ ∃ f : Outlet → Outlet, (∀ o, (f o).st = o.st) ∧ (authCount m v s = onOutlet m f s ∨ authCount m v s = s) := by
  unfold authCount
  dsimp only
  split
  · exact .inr ⟨id, fun _ => rfl, .inr rfl⟩
  · split
    · split
      case h_1 r _ => exact .inl ⟨r, rfl⟩
      · exact .inr ⟨_, fun _ => by exact rfl, .inl rfl⟩
    · exact .inr ⟨_, fun _ => by exact rfl, .inl rfl⟩

theorem rget_safCause {f : Fld} (hf : EdgeInput f) (code data : Nat) (mate : Bool) (s : State) :
    rget (safCause code data mate s) f = rget s f := by
  have ho : ∀ lo width, lo < 32 → EdgeOutput ⟨0x10060004, lo, width, 0⟩ := fun lo _ hl => by
    simp only [EdgeOutput, OutControl]
    omega
  exact rget_safCause_ne _ _ _ _ _ (hf.ne (ho 24 8 (by decide))) (hf.ne (ho 16 8 (by decide))) (hf.ne (ho 0 8 (by decide)))
    (hf.ne (ho 8 8 (by decide)))

/-! ### The inputs of an authorisation (R115) -/

/-- What decides whether an authorisation of an outlet is refused. -/
structure AuthInputs where
  st : OutSt
  updating : Bool
  guardOk : Bool
  epoch : Bool
  ready : Bool
  epReady : Nat
  billMask : Nat
  crack : Bool

def authInputs (n : Nat) (s : State) : AuthInputs :=
  ⟨(outlet s n).st, s.fwu.go, s.saf.guardOk, epochOk s, s.bil.ready, s.bil.epReady, rget s F.LCD_CFG_BILLMASK, rbit s F.LCD_STATUS_CRACK⟩

theorem authRefusal_of_authInputs {n : Nat} {s t : State} (h : authInputs n t = authInputs n s) : authRefusal t n = authRefusal s n := by
  simp only [authInputs, AuthInputs.mk.injEq] at h
  obtain ⟨hst, hgo, hg, he, hr, hep, hm, hc⟩ := h
  simp only [authRefusal, hst, hgo, hg, he, hr, hep, hm, hc]

theorem authInputs_eq {n : Nat} {s t : State} (hst : (outlet t n).st = (outlet s n).st) (hf : t.fwu = s.fwu)
    (hg : t.saf.guardOk = s.saf.guardOk) (he : t.lea.expGot = s.lea.expGot ∧ t.lea.mismatch = s.lea.mismatch) (hb : t.bil = s.bil)
    (hr : ∀ f, EdgeInput f → rget t f = rget s f) : authInputs n t = authInputs n s := by
  obtain ⟨hx, hm⟩ := he
  rw [authInputs, authInputs, hst, hf, hg, hb, epochOk, epochOk, hx, hm, hr _ edgeInput_billMask, rbit, rbit, hr _ edgeInput_crack]

theorem authInputs_edgeBudget (n : Nat) (s : State) : authInputs n (edgeBudget s) = authInputs n s := by
  have h : (edgeBudget s).outs = s.outs ∧ (edgeBudget s).fwu = s.fwu ∧ (edgeBudget s).saf.guardOk = s.saf.guardOk
      ∧ ((edgeBudget s).lea.expGot = s.lea.expGot ∧ (edgeBudget s).lea.mismatch = s.lea.mismatch) ∧ (edgeBudget s).bil = s.bil := by
    unfold edgeBudget
    split
    · exact ⟨rfl, rfl, rfl, ⟨rfl, rfl⟩, rfl⟩
    · split
      · exact ⟨rfl, rfl, rfl, ⟨rfl, rfl⟩, rfl⟩
      · unfold budgetStale
        split
        · dsimp only
          split
          · exact ⟨rfl, rfl, rfl, ⟨rfl, rfl⟩, rfl⟩
          · simp
        · exact ⟨rfl, rfl, rfl, ⟨rfl, rfl⟩, rfl⟩
  obtain ⟨ho, hf, hg, he, hb⟩ := h
  exact authInputs_eq (by rw [outlet, ho, ← outlet]) hf hg he hb fun _ hf => rget_edgeBudget hf s

/-- An update of an outlet's record that leaves its state leaves the inputs. -/
theorem authInputs_onOutlet (n m : Nat) (f : Outlet → Outlet) (s : State) (hf : ∀ o, (f o).st = o.st := by exact fun _ => rfl) :
    authInputs n (onOutlet m f s) = authInputs n s := by
  refine authInputs_eq ?_ rfl rfl ⟨rfl, rfl⟩ rfl fun _ _ => rfl
  by_cases e : n = m
  · subst e
    by_cases hn : n < 4
    · rw [outlet_onOutlet_self _ _ _ hn, hf]
    · simp [outlet, Tab.get, hn]
  · rw [outlet_onOutlet_ne _ _ _ _ e]

theorem authInputs_raiseOut (n : Nat) {m : Nat} (hm : m < 4) {g : Nat → Fld} (hg : EdgeOutput (g m)) (s : State) :
    authInputs n (raiseOut m g s) = authInputs n s :=
  authInputs_eq (by rw [outlet, raiseOut_outs, ← outlet]) (raiseOut_fwu _ _ _) (raiseOut_saf_guardOk _ _ _) (by simp) (raiseOut_bil _ _ _)
    fun _ hf => rget_raiseOut hf hm hg s

theorem authInputs_reqWrite (n : Nat) {m : Nat} (hm : m < 4) (code : Nat) (s : State) : authInputs n (reqWrite m code s) = authInputs n s := by
  unfold reqWrite
  split
  · rfl
  · dsimp only
    split
    · exact (authInputs_raiseOut n hm (edgeOutput_reqOvw hm) _).trans (authInputs_onOutlet n m _ s)
    · exact authInputs_onOutlet n m _ s

theorem authInputs_stopTaken (n : Nat) {m : Nat} (hm : m < 4) (s : State) : authInputs n (stopTaken m s) = authInputs n s := by
  unfold stopTaken
  split
  · exact authInputs_reqWrite n hm 4 s
  · rfl

theorem authInputs_authCount (n : Nat) {m : Nat} (hm : m < 4) (v : Bool) (s : State) :
    authInputs n (authCount m v s) = authInputs n s := by
  obtain ⟨r, h⟩ | ⟨g, hg, h | h⟩ := authCount_cases m v s
  · rw [h, authInputs_raiseOut n hm (edgeOutput_authRef hm)]
    exact authInputs_eq rfl rfl rfl ⟨rfl, rfl⟩ rfl fun _ hf => rget_rput_ne _ _ _ _ (hf.ne (edgeOutput_rej hm))
  · rw [h, authInputs_onOutlet n m g s hg]
  · rw [h]

theorem authInputs_outAuth (n : Nat) {m : Nat} (hm : m < 4) (s : State) : authInputs n (outAuth m s) = authInputs n s := by
  unfold outAuth
  split
  · exact (authInputs_authCount n hm _ _).trans (authInputs_onOutlet n m _ s)
  · rfl

theorem authInputs_outFreeze (n m : Nat) (s : State) : authInputs n (outFreeze m s) = authInputs n s :=
  (authInputs_onOutlet n m _ _).trans (authInputs_onOutlet n m _ s)

theorem authInputs_edgeFreeze (n : Nat) (s : State) : authInputs n (edgeFreeze s) = authInputs n s := by
  have hu : ∀ u : State, authInputs n (eachUpTo 4 outFreeze (edgeMtim u)) = authInputs n u := fun u =>
    (eachUpTo_frame (authInputs n) 4 outFreeze _ fun m t _ => authInputs_outFreeze n m t).trans
      (eachUpTo_frame (authInputs n) 4 stopTaken u fun _ t hm => authInputs_stopTaken n hm t)
  have hc : ∀ code data (u : State), authInputs n (safCause code data false u) = authInputs n u := fun code data u =>
    authInputs_eq (by rw [outlet, safCause_outs, ← outlet]) (safCause_fwu _ _ _ _) (by rw [safCause_saf])
      (by rw [safCause_lea]; exact ⟨rfl, rfl⟩) (safCause_bil _ _ _ _) fun _ hf => rget_safCause hf _ _ _ u
  unfold edgeFreeze
  dsimp only
  split
  · exact (hc _ _ _).trans (hu _)
  · exact hu _

end Sys2Proof.Machine

end

section

/-! SUPPORT. The record of an outlet as the edge that begins a tempo freezes it. -/

namespace Sys2Proof.Machine

/-- A loop of which one turn alone bears on p. -/
theorem eachUpTo_at {α : Type} (p : State → α) {N n : Nat} (hn : n < N) (f : Nat → State → State) (s : State)
    (h : ∀ i t, i < N → i ≠ n → p (f i t) = p t) : p (eachUpTo N f s) = p (f n (eachUpTo n f s)) := by
  induction N with
  | zero => exact absurd hn (Nat.not_lt_zero n)
  | succ N ih =>
    rw [eachUpTo_succ]
    by_cases e : n = N
    · rw [e]
    · rw [h N _ (Nat.lt_succ_self N) (Ne.symm e), ih (by omega) fun i t hi => h i t (Nat.lt_succ_of_lt hi)]

/-! ### The outlet as the edge freezes it (R55, R56, R314) -/

/-- The record of an outlet frozen: what the firmware wrote before the edge, a STOP that a message timer owes, and the decisions of pilot
and proximity; `hv` is the mark of a live outlet. -/
def frozenOutlet (n : Nat) (s : State) (hv : Option Nat) : Outlet :=
  { outlet s n with
    reqFrz := if (vport s n).stopReq = true then 4 else (outlet s n).reqLatch
    reqLatch := 0, revoked := false
    imaxF := rget s (F.OUT_LIMIT_IMAX n), vmaxF := rget s (F.OUT_LIMIT_VMAX n), vtF := rget s (F.OUT_VTARGET_VT n)
    dirF := rbit s (F.OUT_CTRL_DIR n), bidirF := rbit s (F.OUT_CTRL_BIDIR n)
    evopen := (outlet s n).evopen || ((outlet s n).evopenW && decide ((outlet s n).st ∈ [OutSt.rampDown, .weldCheck, .faulted]))
    evopenW := false, pilot := (outlet s n).pilotN, proxOk := (outlet s n).proxN, hvAt := hv }

section

variable {n : Nat} (hn : n < 4) (s : State)

theorem outlet_edgeBudget (m : Nat) : outlet (edgeBudget s) m = outlet s m := by
  have hb : (budgetStale s).outs = s.outs := by
    unfold budgetStale
    split
    · dsimp only
      split
      · rfl
      · exact raiseLea_outs _ _
    · rfl
  unfold edgeBudget
  split
  · rfl
  · split
    · rfl
    · rw [outlet, hb, ← outlet]

theorem edgeBudget_veh : (edgeBudget s).veh = s.veh := by
  unfold edgeBudget
  split
  · rfl
  · split
    · rfl
    · unfold budgetStale
      split
      · dsimp only
        split
        · rfl
        · exact raiseLea_veh _ _
      · rfl

theorem reqWrite_veh (m code : Nat) : (reqWrite m code s).veh = s.veh := by
  unfold reqWrite
  split
  · rfl
  · dsimp only
    split
    · exact raiseOut_veh _ _ _
    · rfl

/-- A request written changes the latch of its outlet alone. -/
theorem reqWrite_outs (m : Nat) {code : Nat} (h : code ≠ 0) :
    (reqWrite m code s).outs = (onOutlet m (fun o => { o with reqLatch := code }) s).outs := by
  rw [reqWrite, if_neg h]
  dsimp only
  split
  · exact raiseOut_outs _ _ _
  · rfl

theorem outlet_stopTaken_ne {m : Nat} (h : m ≠ n) : outlet (stopTaken m s) n = outlet s n := by
  unfold stopTaken
  split
  · show outlet (reqWrite m 4 s) n = _
    rw [outlet, reqWrite_outs s m (by decide), ← outlet, outlet_onOutlet_ne _ _ _ _ (Ne.symm h)]
  · rfl

theorem vport_stopTaken_ne {m : Nat} (h : m ≠ n) : vport (stopTaken m s) n = vport s n := by
  unfold stopTaken
  split
  · show Tab.get VPort.reset (Tab.upd (reqWrite m 4 s).veh.v m _) n = _
    rw [Tab.get_upd_ne _ _ _ _ _ (Ne.symm h), reqWrite_veh, vport]
  · rfl

include hn

theorem outlet_stopTaken_self : outlet (stopTaken n s) n
    = { outlet s n with reqLatch := if (vport s n).stopReq = true then 4 else (outlet s n).reqLatch } := by
  unfold stopTaken
  split
  · show outlet (reqWrite n 4 s) n = _
    rw [outlet, reqWrite_outs s n (by decide), ← outlet, outlet_onOutlet_self _ _ _ hn]
  · rfl

theorem outlet_edgeMtim : outlet (edgeMtim s) n
    = { outlet s n with reqLatch := if (vport s n).stopReq = true then 4 else (outlet s n).reqLatch } := by
  have ho : outlet (eachUpTo n stopTaken s) n = outlet s n :=
    eachUpTo_frame (outlet · n) n stopTaken s fun _ t h => outlet_stopTaken_ne t (Nat.ne_of_lt h)
  have hv : vport (eachUpTo n stopTaken s) n = vport s n :=
    eachUpTo_frame (vport · n) n stopTaken s fun _ t h => vport_stopTaken_ne t (Nat.ne_of_lt h)
  rw [edgeMtim_eq, eachUpTo_at (outlet · n) hn stopTaken s fun _ t _ h => outlet_stopTaken_ne t h, outlet_stopTaken_self hn, ho, hv]

/-- The record after the freeze of one outlet, from the registers and the decisions as they stand. -/
theorem outlet_outFreeze_self : ∃ hv, outlet (outFreeze n s) n
    = { frozenOutlet n s hv with reqFrz := (outlet s n).reqLatch } := by
  rw [outFreeze, reqFreeze, outlet_onOutlet_self _ _ _ hn, outlet_onOutlet_self _ _ _ hn]
  exact ⟨_, rfl⟩

theorem outlet_edgeFreeze : ∃ hv, outlet (edgeFreeze s) n = frozenOutlet n s hv := by
  have hu : ∀ u : State, ∃ hv, outlet (eachUpTo 4 outFreeze (edgeMtim u)) n = frozenOutlet n u hv := by
    intro u
    have hne : ∀ i t, i ≠ n → outlet (outFreeze i t) n = outlet t n := fun i t h => by
      rw [outFreeze, reqFreeze, outlet_onOutlet_ne _ _ _ _ (Ne.symm h), outlet_onOutlet_ne _ _ _ _ (Ne.symm h)]
    have ho : outlet (eachUpTo n outFreeze (edgeMtim u)) n = outlet (edgeMtim u) n :=
      eachUpTo_frame (outlet · n) n outFreeze _ fun i t h => hne i t (Nat.ne_of_lt h)
    have hr : ∀ f, EdgeInput f → rget (eachUpTo n outFreeze (edgeMtim u)) f = rget u f := fun f hf =>
      (eachUpTo_frame (rget · f) n outFreeze _ fun _ _ _ => rfl).trans (rget_edgeMtim hf u)
    obtain ⟨hv, h⟩ := outlet_outFreeze_self hn (eachUpTo n outFreeze (edgeMtim u))
    refine ⟨hv, (eachUpTo_at (outlet · n) hn outFreeze _ fun i t _ h => hne i t h).trans (h.trans ?_)⟩
    rw [frozenOutlet, ho, outlet_edgeMtim hn, hr _ (edgeInput_imax hn), hr _ (edgeInput_vmax hn), hr _ (edgeInput_vt hn), rbit, rbit,
      hr _ (edgeInput_dir hn), hr _ (edgeInput_bidir hn)]
    rfl
  unfold edgeFreeze
  dsimp only
  split
  · rw [outlet, safCause_outs, ← outlet]
    exact hu _
  · exact hu _

end

end Sys2Proof.Machine

end

section

/-! SUPPORT. The AUTH value counted at the edge (R115, R116), and what an evaluation left for it (R57). -/

namespace Sys2Proof.Machine

/-! ### The AUTH value counted (R115, R116) -/

section

variable {n : Nat} (s : State)

theorem outlet_authCount_ne {m : Nat} (h : m ≠ n) (v : Bool) : outlet (authCount m v s) n = outlet s n := by
  obtain ⟨r, e⟩ | ⟨f, -, e | e⟩ := authCount_cases m v s
  · rw [e, outlet, raiseOut_outs, rput_outs, ← outlet]
  · rw [e, outlet_onOutlet_ne _ _ _ _ (Ne.symm h)]
  · rw [e]

theorem outlet_outAuth_ne {m : Nat} (h : m ≠ n) : outlet (outAuth m s) n = outlet s n := by
  unfold outAuth
  split
  · rw [outlet_authCount_ne _ h, outlet_onOutlet_ne _ _ _ _ (Ne.symm h)]
  · rfl

/-- An AUTH value written is counted on the outlet without it. -/
theorem outAuth_some {v : Bool} (h : (outlet s n).authW = some v) :
    outAuth n s = authCount n v (onOutlet n (fun o => { o with authW := none }) s) := by
  rw [outAuth, h]

theorem outAuth_none (h : (outlet s n).authW = none) : outAuth n s = s := by
  rw [outAuth, h]

variable (hn : n < 4)

include hn

/-- A value equal to the accepted state is no request. -/
theorem outlet_outAuth_same (h : (outlet s n).authW = some (outlet s n).auth) :
    outlet (outAuth n s) n = { outlet s n with authW := none } := by
  rw [outAuth_some s h, authCount, outlet_onOutlet_self _ _ _ hn]
  dsimp only
  rw [if_pos rfl, outlet_onOutlet_self _ _ _ hn]

theorem outlet_outAuth_accepted (h : (outlet s n).authW = some true) (ha : (outlet s n).auth = false) (hr : authRefusal s n = none) :
    outlet (outAuth n s) n = { outlet s n with authW := none, auth := true, authEpoch := epochOk s } := by
  have hr' : authRefusal (onOutlet n (fun o => { o with authW := none }) s) n = none :=
    (authRefusal_of_authInputs (authInputs_onOutlet n n _ s)).trans hr
  rw [outAuth_some s h, authCount, outlet_onOutlet_self _ _ _ hn, hr']
  dsimp only
  rw [if_neg (by rw [ha]; decide), if_pos rfl, outlet_onOutlet_self _ _ _ hn, outlet_onOutlet_self _ _ _ hn]
  rfl

theorem outAuth_refused (h : (outlet s n).authW = some true) (ha : (outlet s n).auth = false) (hr : authRefusal s n ≠ none) :
    outlet (outAuth n s) n = { outlet s n with authW := none } ∧ rget (outAuth n s) (F.OUT_FLAGS_AUTHREF n) = 1 := by
  obtain ⟨r, hr'⟩ := Option.ne_none_iff_exists'.mp hr
  have hr'' : authRefusal (onOutlet n (fun o => { o with authW := none }) s) n = some r :=
    (authRefusal_of_authInputs (authInputs_onOutlet n n _ s)).trans hr'
  rw [outAuth_some s h, authCount, outlet_onOutlet_self _ _ _ hn, hr'']
  dsimp only
  rw [if_neg (by rw [ha]; decide), if_pos rfl]
  refine ⟨by rw [outlet, raiseOut_outs, rput_outs, ← outlet, outlet_onOutlet_self _ _ _ hn], rget_raiseData_flag 0 _ _ _ Nat.one_pos ?_ ?_⟩
  · simp only [fkey, F.OUT_FLAGS_AUTHREF, F.OUT_EVCNT_COUNT]
    omega
  · simp only [fkey, F.OUT_FLAGS_AUTHREF, F.SAF_EVQOVF_COUNT]
    omega

theorem outlet_outAuth_revoked (h : (outlet s n).authW = some false) (ha : (outlet s n).auth = true) :
    outlet (outAuth n s) n = { outlet s n with authW := none, auth := false, revoked := true } := by
  rw [outAuth_some s h, authCount, outlet_onOutlet_self _ _ _ hn]
  dsimp only
  rw [if_neg (by rw [ha]; decide), if_neg (by decide), outlet_onOutlet_self _ _ _ hn, outlet_onOutlet_self _ _ _ hn]

/-- The counting changes the authorisation of the outlet alone. -/
theorem outlet_outAuth : ∃ a e r, outlet (outAuth n s) n = { outlet s n with authW := none, auth := a, authEpoch := e, revoked := r } := by
  cases h : (outlet s n).authW with
  | none =>
    refine ⟨(outlet s n).auth, (outlet s n).authEpoch, (outlet s n).revoked, ?_⟩
    rw [outAuth_none s h, ← h]
  | some v =>
    cases ha : (outlet s n).auth with
    | true =>
      cases v with
      | true => exact ⟨_, _, _, outlet_outAuth_same s hn (h.trans (congrArg some ha.symm))⟩
      | false => exact ⟨_, _, _, outlet_outAuth_revoked s hn h ha⟩
    | false =>
      cases v with
      | true =>
        by_cases hr : authRefusal s n = none
        · exact ⟨_, _, _, outlet_outAuth_accepted s hn h ha hr⟩
        · exact ⟨_, _, _, (outAuth_refused s hn h ha hr).1⟩
      | false => exact ⟨_, _, _, outlet_outAuth_same s hn (h.trans (congrArg some ha.symm))⟩

end

/-! ### What an evaluation left, at the edge -/

/-- An outlet's record once what its evaluation left has taken effect. -/
def Outlet.flushed (o : Outlet) : Outlet :=
  { o with pend := 0, rejP := none, reqNow := false, isoStop := false, isoStart := false, ended := false, sev := [] }

theorem coilCmd_keeps {α : Type} (p : State → α) (c : Nat) (b : Bool) (s : State)
    (hp : ∀ f t, p (onCoil c f t) = p t) : p (coilCmd c b s) = p s := by
  unfold coilCmd
  split
  · exact hp _ _
  · rfl

theorem isoHalt_keeps {α : Type} (p : State → α) (m : Nat) (s : State) (hc : ∀ c f t, p (onCoil c f t) = p t)
    (hi : ∀ f t, p (onIso m f t) = p t) : p (isoHalt m s) = p s := by
  rw [isoHalt, hi, outCoil, outCoil, coilCmd_keeps p _ _ _ (hc _), coilCmd_keeps p _ _ _ (hc _)]

/-- A flag up stays up when flags of its register or of another are raised. -/
theorem rget_raise_one {f cnt : Fld} (hw : 0 < f.width) (hc : fkey f ≠ fkey cnt) (hq : fkey f ≠ fkey F.SAF_EVQOVF_COUNT) {fl : List Fld}
    (hfl : ∀ g ∈ fl, g = f ∨ fkey f ≠ fkey g) {s : State} (h : rget s f = 1) : rget (raise cnt fl s) f = 1 := by
  rw [raise, raiseData, rget_rsat_ne _ _ _ _ hc]
  induction fl generalizing s with
  | nil => exact h
  | cons g l ih =>
    refine ih (fun g' hg => hfl g' (List.mem_cons_of_mem _ hg)) ?_
    rcases hfl g List.mem_cons_self with rfl | hg
    · exact rget_flagSet_self 0 _ s hw hq
    · rwa [rget_flagSet_ne 0 _ _ s hg hq]

theorem authRef_outFlags : ∀ n m : Fin 4, ∀ h ∈ outFlagFlds, h m = F.OUT_FLAGS_AUTHREF n ∨ fkey (F.OUT_FLAGS_AUTHREF n) ≠ fkey (h m) := by
  decide

theorem authRef_apart : ∀ n m : Fin 4, fkey (F.OUT_FLAGS_AUTHREF n) ≠ fkey (F.OUT_EVCNT_COUNT m)
    ∧ fkey (F.OUT_FLAGS_AUTHREF n) ≠ fkey (F.OUT_CAUSE_REJ m) ∧ fkey (F.OUT_FLAGS_AUTHREF n) ≠ fkey (F.SAF_ISO_FAULT m)
    ∧ fkey (F.OUT_FLAGS_AUTHREF n) ≠ fkey (F.OUT_CTRL_DIR m) ∧ fkey (F.OUT_FLAGS_AUTHREF n) ≠ fkey F.SAF_EVQOVF_COUNT := by
  decide

/-- What an evaluation left takes back no AUTHREF. -/
theorem rget_outFlush_authRef (n m : Fin 4) (s : State) (h : rget s (F.OUT_FLAGS_AUTHREF n) = 1) :
    rget (outFlush m s) (F.OUT_FLAGS_AUTHREF n) = 1 := by
  obtain ⟨kcnt, krej, kiso, kdir, kq⟩ := authRef_apart n m
  have hrej : ∀ v u, rget (rput (F.OUT_CAUSE_REJ m) v u) (F.OUT_FLAGS_AUTHREF n) = rget u (F.OUT_FLAGS_AUTHREF n) := fun v u =>
    rget_rput_ne _ _ v u krej
  have hiso : ∀ v u, rget (rput (F.SAF_ISO_FAULT m) v u) (F.OUT_FLAGS_AUTHREF n) = rget u (F.OUT_FLAGS_AUTHREF n) := fun v u =>
    rget_rput_ne _ _ v u kiso
  have hdir : ∀ v u, rget (rput (F.OUT_CTRL_DIR m) v u) (F.OUT_FLAGS_AUTHREF n) = rget u (F.OUT_FLAGS_AUTHREF n) := fun v u =>
    rget_rput_ne _ _ v u kdir
  have hpost : ∀ a c d u, rget (safPost a c d u) (F.OUT_FLAGS_AUTHREF n) = rget u (F.OUT_FLAGS_AUTHREF n) := fun a c d u =>
    rget_safPost_ne a c d u _ kq
  have hlea : ∀ (u : State) l, rget { u with lea := l } (F.OUT_FLAGS_AUTHREF n) = rget u (F.OUT_FLAGS_AUTHREF n) := fun _ _ => rfl
  have hbil : ∀ (u : State) l, rget { u with bil := l } (F.OUT_FLAGS_AUTHREF n) = rget u (F.OUT_FLAGS_AUTHREF n) := fun _ _ => rfl
  have hhalt : ∀ u, rget (isoHalt m u) (F.OUT_FLAGS_AUTHREF n) = rget u (F.OUT_FLAGS_AUTHREF n) := fun u =>
    isoHalt_keeps (rget · (F.OUT_FLAGS_AUTHREF n)) m u (fun _ _ _ => rfl) fun _ _ => rfl
  have hraise : rget (raise (F.OUT_EVCNT_COUNT m) ((outFlagFlds.map (fun f => f m)).filter (fun f => (outlet s m).pend.testBit f.lo)) s)
      (F.OUT_FLAGS_AUTHREF n) = 1 := by
    refine rget_raise_one Nat.one_pos kcnt kq (fun g hg => ?_) h
    obtain ⟨f, hf, rfl⟩ := List.mem_map.mp (List.mem_filter.mp hg).1
    exact authRef_outFlags n m f hf
  unfold outFlush
  simp only [↓rget_onOutlet, ↓hbil, ↓rget_ite, ↓hiso, ↓hdir, ↓hhalt, isoBegin, ↓rget_onIso, ↓hlea,
    ↓hpost, ite_self]
  split <;> simp only [↓hrej, ↓rget_ite, hraise, h, ite_self]

/-- What an evaluation left takes effect in the record of its outlet alone. -/
theorem outFlush_effect (m : Nat) (s : State) : ∃ u, outFlush m s = onOutlet m Outlet.flushed u ∧ u.outs = s.outs := by
  have hhalt : ∀ u, (isoHalt m u).outs = u.outs := fun u => isoHalt_keeps State.outs m u (fun _ _ _ => rfl) fun _ _ => rfl
  refine ⟨_, rfl, ?_⟩
  simp only [apply_ite State.outs, rput_outs, hhalt, isoBegin, onIso_outs, safPost_outs, ite_self]
  split <;> simp only [apply_ite State.outs, rput_outs, raise_outs, ite_self]

theorem outlet_outFlush_ne {n m : Nat} (h : m ≠ n) (s : State) : outlet (outFlush m s) n = outlet s n := by
  obtain ⟨u, he, ho⟩ := outFlush_effect m s
  rw [he, outlet_onOutlet_ne _ _ _ _ (Ne.symm h), outlet, ho, ← outlet]

end Sys2Proof.Machine

end

section

/-! O16. The firmware's writes to an outlet, and the first edge of a tempo, where they count (R55, R56). -/

namespace Sys2Proof.Machine

/-! ### The outlets at the end of the edge -/

section

variable {n : Nat} (hn : n < 4) (s : State)

include hn

theorem outlet_outFlush_self : outlet (outFlush n s) n = (outlet s n).flushed := by
  obtain ⟨u, he, ho⟩ := outFlush_effect n s
  rw [he, outlet_onOutlet_self _ _ _ hn, outlet, ho, ← outlet]

theorem outlet_outsTake : outlet (outsTake s) n = (outlet s n).flushed := by
  have ho : outlet (eachUpTo n outFlush s) n = outlet s n := eachUpTo_frame (outlet · n) n outFlush s fun i t h =>
    outlet_outFlush_ne (Nat.ne_of_lt h) t
  have h : outlet (eachUpTo 4 outFlush s) n = outlet (outFlush n (eachUpTo n outFlush s)) n :=
    eachUpTo_at (outlet · n) hn outFlush s fun _ t _ h => outlet_outFlush_ne h t
  have hs : (outsTake s).outs = (eachUpTo 4 outFlush s).outs := by rw [outsTake]
  rw [outlet, hs, ← outlet, h, outlet_outFlush_self hn, ho]

omit hn in
theorem outlet_outAuth_loop (N : Nat) (h : N ≤ n) : outlet (eachUpTo N outAuth s) n = outlet s n :=
  eachUpTo_frame (outlet · n) N outAuth s fun _ t hi => outlet_outAuth_ne t (by omega)

theorem outlet_edgeAuth : outlet (edgeAuth s) n = (outlet (outAuth n (eachUpTo n outAuth s)) n).flushed := by
  have h : outlet (eachUpTo 4 outAuth s) n = outlet (outAuth n (eachUpTo n outAuth s)) n :=
    eachUpTo_at (outlet · n) hn outAuth s fun _ t _ h => outlet_outAuth_ne t h
  rw [edgeAuth, outlet_outsTake hn, h]

/-- What of the record neither the counted AUTH value nor the flush writes stands through the end of the edge. -/
theorem keeps_edgeAuth {α : Type} (p : Outlet → α) (hp : ∀ o a e r,
    p (Outlet.flushed { o with authW := none, auth := a, authEpoch := e, revoked := r }) = p o) :
    p (outlet (edgeAuth s) n) = p (outlet s n) := by
  obtain ⟨a, e, r, h⟩ := outlet_outAuth (eachUpTo n outAuth s) hn
  rw [outlet_edgeAuth hn, h, hp, outlet_outAuth_loop s n (Nat.le_refl n)]

end

/-- AUTHREF set at the turn of its outlet stands at the end of the edge. -/
theorem rget_edgeAuth_authRef (n : Fin 4) (s : State) (h : rget (outAuth n (eachUpTo n outAuth s)) (F.OUT_FLAGS_AUTHREF n) = 1) :
    rget (edgeAuth s) (F.OUT_FLAGS_AUTHREF n) = 1 := by
  have hne : ∀ i t, i < 4 → i ≠ n.val → rget (outAuth i t) (F.OUT_FLAGS_AUTHREF n) = rget t (F.OUT_FLAGS_AUTHREF n) := by
    intro i t hi h
    obtain ⟨kcnt, krej, -, -, kq⟩ := authRef_apart n ⟨i, hi⟩
    have kflag : fkey (F.OUT_FLAGS_AUTHREF n) ≠ fkey (F.OUT_FLAGS_AUTHREF i) := by
      simp only [fkey, F.OUT_FLAGS_AUTHREF]
      omega
    have hc : ∀ v u, rget (authCount i v u) (F.OUT_FLAGS_AUTHREF n) = rget u (F.OUT_FLAGS_AUTHREF n) := by
      intro v u
      obtain ⟨r, e⟩ | ⟨f, -, e | e⟩ := authCount_cases i v u
      · rw [e]
        exact (rget_raiseData_ne 0 _ _ _ _ kflag kcnt kq).trans (rget_rput_ne _ _ _ _ krej)
      · rw [e, rget_onOutlet]
      · rw [e]
    unfold outAuth
    split
    · rw [hc, rget_onOutlet]
    · rfl
  have ha : rget (eachUpTo 4 outAuth s) (F.OUT_FLAGS_AUTHREF n) = 1 :=
    (eachUpTo_at (rget · (F.OUT_FLAGS_AUTHREF n)) n.isLt outAuth s hne).trans h
  have hf : ∀ (N : Nat) (t : State), N ≤ 4 → rget t (F.OUT_FLAGS_AUTHREF n) = 1 → rget (eachUpTo N outFlush t) (F.OUT_FLAGS_AUTHREF n) = 1 := by
    intro N t hN ht
    induction N with
    | zero => exact ht
    | succ N ih =>
      rw [eachUpTo_succ]
      exact rget_outFlush_authRef n ⟨N, hN⟩ _ (ih (Nat.le_of_succ_le hN))
  have hr : (edgeAuth s).regs = (eachUpTo 4 outFlush (eachUpTo 4 outAuth s)).regs := by rw [edgeAuth, outsTake]
  exact (rget_congr _ hr).trans (hf 4 _ (Nat.le_refl 4) ha)

/-- The first edge of a tempo freezes the outlet and counts its AUTH value: what it reads has not changed since. -/
theorem edgeFirst_eq (n : Nat) (s : State) : ∃ b, edgeFirst s = edgeAuth (edgeFreeze b) ∧ outlet b n = outlet s n ∧ vport b n = vport s n
    ∧ (∀ f, EdgeInput f → rget b f = rget s f) ∧ authInputs n b = authInputs n s := by
  refine ⟨_, rfl, outlet_edgeBudget _ n, ?_, fun f hf => rget_edgeBudget hf _, authInputs_edgeBudget n _⟩
  rw [vport, edgeBudget_veh]
  rfl

theorem outlet_oneCycle (f : State → State) (n : Nat) (s : State) : outlet (oneCycle f s) n = outlet (f s) n :=
  oneCycle_frame (outlet · n) (fun _ _ _ _ => rfl) f s

theorem authRef_not_counter : ∀ n : Fin 4, ∀ c ∈ evCounters, fkey (F.OUT_FLAGS_AUTHREF n) ≠ fkey c := by
  decide

theorem rget_oneCycle_authRef (f : State → State) (n : Fin 4) (s : State) :
    rget (oneCycle f s) (F.OUT_FLAGS_AUTHREF n) = rget (f s) (F.OUT_FLAGS_AUTHREF n) :=
  oneCycle_frame (rget · (F.OUT_FLAGS_AUTHREF n)) (fun c hc v t => rget_rput_ne _ _ v t (authRef_not_counter n c hc)) f s

section

variable {s : State} (n : Fin 4) (u : BitVec 16) (hr : s.tmp.running = true) (hb : s.tmp.begun = false)

include hr hb

/-- A property of the state after the first edge of a tempo. -/
theorem does_firstEdge {P : State → Prop} (h : P (oneCycle edgeFirst s)) : Does (.tempoEdge u) s P :=
  ⟨_, congrArg Host.Outcome.next (tempoEdge_first u.toNat hr hb), h⟩

theorem does_tempoEdge_freeze : Does (.tempoEdge u) s (fun t =>
    (outlet t n).reqFrz = (if (vport s n).stopReq = true then 4 else (outlet s n).reqLatch) ∧ (outlet t n).reqLatch = 0
    ∧ (outlet t n).imaxF = rget s (F.OUT_LIMIT_IMAX n) ∧ (outlet t n).vmaxF = rget s (F.OUT_LIMIT_VMAX n)
    ∧ (outlet t n).vtF = rget s (F.OUT_VTARGET_VT n) ∧ (outlet t n).dirF = rbit s (F.OUT_CTRL_DIR n)
    ∧ (outlet t n).bidirF = rbit s (F.OUT_CTRL_BIDIR n) ∧ (outlet t n).pilot = (outlet s n).pilotN
    ∧ (outlet t n).proxOk = (outlet s n).proxN ∧ (outlet t n).evopenW = false
    ∧ (outlet t n).evopen = ((outlet s n).evopen
        || ((outlet s n).evopenW && decide ((outlet s n).st ∈ [OutSt.rampDown, .weldCheck, .faulted])))) := by
  refine does_firstEdge u hr hb ?_
  obtain ⟨b, he, ho, hv, hreg, -⟩ := edgeFirst_eq n s
  obtain ⟨hvAt, hf⟩ := outlet_edgeFreeze n.isLt b
  rw [frozenOutlet, ho, hv, hreg _ (edgeInput_imax n.isLt), hreg _ (edgeInput_vmax n.isLt), hreg _ (edgeInput_vt n.isLt), rbit, rbit,
    hreg _ (edgeInput_dir n.isLt), hreg _ (edgeInput_bidir n.isLt)] at hf
  have hk : ∀ {α : Type} (p : Outlet → α), (∀ o a e r, p (Outlet.flushed { o with authW := none, auth := a, authEpoch := e, revoked := r }) = p o) →
      p (outlet (oneCycle edgeFirst s) n) = p (outlet (edgeFreeze b) n) := fun p hp => by
    rw [outlet_oneCycle, he, keeps_edgeAuth n.isLt _ p hp]
  rw [hf] at hk
  exact ⟨hk Outlet.reqFrz fun _ _ _ _ => rfl, hk Outlet.reqLatch fun _ _ _ _ => rfl, hk Outlet.imaxF fun _ _ _ _ => rfl,
    hk Outlet.vmaxF fun _ _ _ _ => rfl, hk Outlet.vtF fun _ _ _ _ => rfl, hk Outlet.dirF fun _ _ _ _ => rfl,
    hk Outlet.bidirF fun _ _ _ _ => rfl, hk Outlet.pilot fun _ _ _ _ => rfl, hk Outlet.proxOk fun _ _ _ _ => rfl,
    hk Outlet.evopenW fun _ _ _ _ => rfl, hk Outlet.evopen fun _ _ _ _ => rfl⟩

theorem does_tempoEdge_auth : Does (.tempoEdge u) s (fun t => (outlet t n).authW = none
    ∧ ((outlet s n).authW = some true → (outlet s n).auth = false → authRefusal s n = none → (outlet t n).auth = true)
    ∧ ((outlet s n).authW = some true → (outlet s n).auth = false → authRefusal s n ≠ none →
        (outlet t n).auth = false ∧ rget t (F.OUT_FLAGS_AUTHREF n) = 1)
    ∧ ((outlet s n).authW = some false → (outlet s n).auth = true → (outlet t n).auth = false ∧ (outlet t n).revoked = true)
    ∧ ((outlet s n).authW = none ∨ (outlet s n).authW = some (outlet s n).auth → (outlet t n).auth = (outlet s n).auth)) := by
  refine does_firstEdge u hr hb ?_
  obtain ⟨b, he, ho, -, -, hin⟩ := edgeFirst_eq n s
  obtain ⟨hvAt, hf⟩ := outlet_edgeFreeze n.isLt b
  have hloop := outlet_outAuth_loop (edgeFreeze b) n.val (Nat.le_refl n.val)
  have hinputs : authInputs n (eachUpTo n outAuth (edgeFreeze b)) = authInputs n s :=
    (eachUpTo_frame (authInputs n) n outAuth _ fun m t hm => authInputs_outAuth n (Nat.lt_trans hm n.isLt) t).trans
      ((authInputs_edgeFreeze n b).trans hin)
  have hout : outlet (oneCycle edgeFirst s) n = (outlet (outAuth n (eachUpTo n outAuth (edgeFreeze b))) n).flushed := by
    rw [outlet_oneCycle, he, outlet_edgeAuth n.isLt]
  have hflag : rget (outAuth n (eachUpTo n outAuth (edgeFreeze b))) (F.OUT_FLAGS_AUTHREF n) = 1 →
      rget (oneCycle edgeFirst s) (F.OUT_FLAGS_AUTHREF n) = 1 := by
    intro h
    rw [rget_oneCycle_authRef, he]
    exact rget_edgeAuth_authRef n _ h
  rw [hout]
  have hw : (outlet (eachUpTo n outAuth (edgeFreeze b)) n).authW = (outlet s n).authW := by rw [hloop, hf, frozenOutlet, ho]
  have ha : (outlet (eachUpTo n outAuth (edgeFreeze b)) n).auth = (outlet s n).auth := by rw [hloop, hf, frozenOutlet, ho]
  have href := authRefusal_of_authInputs hinputs
  generalize eachUpTo n outAuth (edgeFreeze b) = v at hw ha href hflag ⊢
  rw [← hw, ← ha, ← href]
  refine ⟨?none, fun h h0 hr => ?accepted, fun h h0 hr => ?refused, fun h h1 => ?revoked, fun h => ?same⟩
  case none =>
    obtain ⟨a, e, r, h⟩ := outlet_outAuth v n.isLt
    rw [h]
    rfl
  case accepted =>
    rw [outlet_outAuth_accepted v n.isLt h h0 hr]
    rfl
  case refused =>
    obtain ⟨h', hone⟩ := outAuth_refused v n.isLt h h0 hr
    rw [h']
    exact ⟨h0, hflag hone⟩
  case revoked =>
    rw [outlet_outAuth_revoked v n.isLt h h1]
    exact ⟨rfl, rfl⟩
  case same =>
    rcases h with h | h
    · rw [outAuth_none v h]
      rfl
    · rw [outlet_outAuth_same v n.isLt h]
      rfl

end

/-! ### The writes (R56, R128, R136) -/

section

variable (s : State) (n : Fin 4)

theorem does_authRequest : Does (.authRequest n) s (fun t => (outlet t n).authW = some true ∧ (outlet t n).auth = (outlet s n).auth) := by
  refine ⟨_, rfl, ?_⟩
  beta_reduce
  rw [authWrite, outlet_onOutlet_self _ _ _ n.isLt]
  exact ⟨rfl, rfl⟩

theorem does_deauth : Does (.deauth n) s (fun t => (outlet t n).authW = some false ∧ (outlet t n).auth = (outlet s n).auth) := by
  refine ⟨_, rfl, ?_⟩
  beta_reduce
  rw [authWrite, outlet_onOutlet_self _ _ _ n.isLt]
  exact ⟨rfl, rfl⟩

theorem does_evopen : Does (.evopen n) s (fun t => (outlet t n).evopenW = true ∧ (outlet t n).evopen = (outlet s n).evopen) := by
  refine ⟨_, rfl, ?_⟩
  beta_reduce
  rw [evopenWrite, outlet_onOutlet_self _ _ _ n.isLt]
  exact ⟨rfl, rfl⟩

/-- DIR takes the value written where export is permitted, or import is asked for. -/
theorem does_dirChange_written {d : Bool} (h : d = true → exportOk s n = true) :
    Does (.dirChange n d) s (fun t => rget t (F.OUT_CTRL_DIR n) = b2n d) := by
  have hd : (d && !exportOk s n) = false := by
    cases d
    · rfl
    · rw [h rfl]
      rfl
  refine ⟨_, rfl, ?_⟩
  beta_reduce
  rw [dirWrite, hd, if_neg Bool.false_ne_true, rputB, rget_rput_self]
  cases d <;> rfl

theorem does_dirChange_refused (h : exportOk s n = false) : Does (.dirChange n true) s (fun t =>
    rget t (F.OUT_CTRL_DIR n) = rget s (F.OUT_CTRL_DIR n) ∧ rget t (F.OUT_CAUSE_REJ n) = 8 ∧ rget t (F.OUT_FLAGS_REQREJ n) = 1) := by
  have hapart : ∀ m : Fin 4, fkey (F.OUT_CTRL_DIR m) ≠ fkey (F.OUT_CAUSE_REJ m)
      ∧ (∀ f ∈ [F.OUT_CTRL_DIR m, F.OUT_CAUSE_REJ m], fkey f ≠ fkey (F.OUT_FLAGS_REQREJ m))
      ∧ ∀ f ∈ [F.OUT_CTRL_DIR m, F.OUT_CAUSE_REJ m, F.OUT_FLAGS_REQREJ m],
        fkey f ≠ fkey (F.OUT_EVCNT_COUNT m) ∧ fkey f ≠ fkey F.SAF_EVQOVF_COUNT := by
    decide
  obtain ⟨hrej, hflag, hcnt⟩ := hapart n
  simp only [List.forall_mem_cons, List.not_mem_nil, false_implies, implies_true, and_true] at hflag hcnt
  obtain ⟨hdf, hrf⟩ := hflag
  obtain ⟨⟨hdc, hdq⟩, ⟨hrc, hrq⟩, hfc, hfq⟩ := hcnt
  refine ⟨_, rfl, ?_⟩
  beta_reduce
  rw [dirWrite, h]
  refine ⟨(rget_raiseData_ne 0 _ _ _ _ hdf hdc hdq).trans (rget_rput_ne _ _ _ _ hrej), ?_, rget_raiseData_flag 0 _ _ _ Nat.one_pos hfc hfq⟩
  exact (rget_raiseData_ne 0 _ _ _ _ hrf hrc hrq).trans (rget_rput_self _ _ _)

theorem does_outLimitWrite (v : Word) : Does (.outLimitWrite n v) s (fun t => rget t (F.OUT_LIMIT_IMAX n) = v.toNat % 65536
    ∧ rget t (F.OUT_LIMIT_VMAX n) = v.toNat / 65536 % 65536 ∧ (outlet t n).wdAt = s.tmp.now ∧ (outlet t n).imaxF = (outlet s n).imaxF) := by
  have hapart : ∀ m : Fin 4, fkey (F.OUT_LIMIT_IMAX m) ≠ fkey (F.OUT_LIMIT_VMAX m) := by decide
  refine ⟨_, rfl, ?_⟩
  beta_reduce
  rw [limitWrite, rget_onOutlet, rget_onOutlet, rget_rput_ne _ _ _ _ (hapart n), rget_rput_self, rget_rput_self, outlet_onOutlet_self _ _ _ n.isLt]
  exact ⟨rfl, rfl, rfl, rfl⟩

end

/-- Settles O16: each write stands where the next edge takes it up, and the first edge of a tempo (log entry 101), which nothing before it
disturbs, freezes the record and counts the AUTH value. -/
theorem outletWrites : Obligations.OutletWrites := by
  intro s n
  exact ⟨does_authRequest s n, does_deauth s n, does_evopen s n, fun h => does_dirChange_written s n fun _ => h, does_dirChange_refused s n,
    does_dirChange_written s n fun h => Bool.noConfusion h, does_outLimitWrite s n, fun u hr hb => does_tempoEdge_freeze n u hr hb,
    fun u hr hb => does_tempoEdge_auth n u hr hb⟩

end Sys2Proof.Machine

end

section

/-! SUPPORT. One evaluation of a power group (R143): what the rules from outside its steps leave to them, and what an abort leaves. -/

namespace Sys2Proof.Machine

variable {g : Nat} {s : State}

/-! ### The evaluation of a group that is heard -/

theorem groupLostCheck_of_heard (hl : (group s g).lost = false) (hs : (group s g).stamp.isSome = true)
    (hr : sinceT s ((group s g).stamp.getD 0) < 100) : groupLostCheck g s = s := by
  obtain ⟨u, hu⟩ := Option.isSome_iff_exists.mp hs
  rw [hu, Option.getD_some] at hr
  simp [groupLostCheck, hu, hl, hr]

theorem groupLostCheck_of_silent (hl : (group s g).lost = false)
    (h : (group s g).stamp = none ∧ 100 ≤ s.tmp.now ∨ 100 ≤ sinceT s ((group s g).stamp.getD s.tmp.now)) :
    groupLostCheck g s = raiseMtx F.MTX_FLAGS_GRPLOST (onGroup g (fun k => { k with lost := true, goodRun := 0 }) s) := by
  cases hu : (group s g).stamp with
  | none =>
    have hn : 100 ≤ s.tmp.now := by
      rcases h with ⟨_, hn⟩ | h
      · exact hn
      · simp [hu, sinceT] at h
    simp [groupLostCheck, hu, hl, hn]
  | some u =>
    have hr : 100 ≤ sinceT s u := by simpa [hu] using h
    simp [groupLostCheck, hu, hl, hr]

theorem group_trackGroup (hg : g < 16) : group (trackGroup g s) g = { group s g with
    zeroSince := if (group s g).limit = 0 then ((group s g).zeroSince <|> some s.tmp.now) else none
    lowSince := if (group s g).iout.natAbs < 20 then ((group s g).lowSince <|> some s.tmp.now) else none } :=
  group_onGroup_self _ _ _ hg

/-- A group that is heard is tracked, meets what comes from outside its steps, and takes the step it is ready for. -/
theorem groupEval_of_due (h : GroupDue s g) : groupEval g s =
    if stepReady (groupOutside g (trackGroup g s)) g then stepGroup g (groupOutside g (trackGroup g s))
    else groupOutside g (trackGroup g s) := by
  obtain ⟨hcab, hrun, hst, hlt, hlost, hstamp, hage⟩ := h
  rw [groupEval, if_pos (by simp [hcab, hrun]), groupOnce, groupLostCheck_of_heard hlost hstamp hage, if_neg (by simp [hst, hlt])]

/-- With every enable on, no CHECK, no destination in RELEASE and the group not lost, nothing comes from outside the steps. -/
theorem groupOutside_of_quiet (hx : ∀ x ∈ (group s g).xp.toList, target s (4 + mXpCoil s x) = true) (hc : inCheck s = false)
    (hd : ∀ d ∈ (group s g).dst.toList, busKind s d ≠ some .release) (hl : (group s g).lost = false) : groupOutside g s = s := by
  unfold groupOutside
  dsimp only
  rw [if_neg ?enable, if_neg ?check, if_neg ?migration, if_neg ?connect, if_neg ?lost]
  case enable =>
    cases hxp : (group s g).xp with
    | none => simp
    | some x => simp [hx x (by simp [hxp])]
  case check => simp [hc]
  case lost => cases groupBus s g <;> simp [hl]
  all_goals
    cases hdst : (group s g).dst with
    | none => simp
    | some d => simp [hd d (by simp [hdst])]

/-- Such a group takes the step it began before this tempo. -/
theorem groupEval_of_quiet (h : GroupDue s g) (hg : g < 16) (hx : ∀ x ∈ (group s g).xp.toList, target s (4 + mXpCoil s x) = true)
    (hc : inCheck s = false) (hd : ∀ d ∈ (group s g).dst.toList, busKind s d ≠ some .release) (hat : (group s g).stepAt < s.tmp.now) :
    groupEval g s = stepGroup g (trackGroup g s) := by
  have hq : groupOutside g (trackGroup g s) = trackGroup g s := by
    apply groupOutside_of_quiet
    · rw [group_trackGroup hg]; exact hx
    · exact hc
    · rw [group_trackGroup hg]; exact hd
    · rw [group_trackGroup hg]; exact h.2.2.2.2.1
  have hr : stepReady (trackGroup g s) g = true := by
    rw [stepReady, group_trackGroup hg]; exact decide_eq_true hat
  rw [groupEval_of_due h, hq, if_pos hr]

/-! ### What a command of a crosspoint and a given-up operation leave -/

@[simp] theorem group_coilCmd (c : Nat) (b : Bool) (s : State) (j : Nat) : group (coilCmd c b s) j = group s j :=
  coilCmd_keeps (group · j) c b s fun _ _ => rfl

@[simp] theorem group_xpOpen (g : Nat) (s : State) (j : Nat) : group (xpOpen g s) j = group s j := by
  unfold xpOpen
  split
  · exact group_coilCmd _ _ _ _
  · rfl

@[simp] theorem rget_xpOpen (g : Nat) (s : State) (f : Fld) : rget (xpOpen g s) f = rget s f := by
  unfold xpOpen
  split
  · exact rget_congr f (coilCmd_regs _ _ _)
  · rfl

@[simp] theorem rget_groupOff (g : Nat) (s : State) (f : Fld) : rget (groupOff g s) f = rget s f := rfl

@[simp] theorem rget_stepTo (g : Nat) (st : GStep) (s : State) (f : Fld) : rget (stepTo g st s) f = rget s f := rfl

@[simp] theorem group_raiseIf (b : Bool) (c : Fld) (fl : List Fld) (s : State) (j : Nat) : group (raiseIf b c fl s) j = group s j := by
  simp [group]

/-- The group as every abort leaves it, whatever else its step adds: no migration, no destination, and not chosen for 1 s (R155). -/
def GivenUp (s t : State) (g : Nat) : Prop :=
  (group t g).mig = false ∧ (group t g).dst = none ∧ (group t g).barUntil = s.tmp.now + 20000

/-- What an abort notes before it looks at the step. -/
def abortNoted (g : Nat) (s : State) : State :=
  onGroup g (fun k => { k with mig := false, dst := none, barUntil := s.tmp.now + 20000 })
    (raiseIf (group s g).mig F.MTX_EVCNT_COUNT [F.MTX_FLAGS_MIGABORT] s)

theorem group_abortNoted (hg : g < 16) :
    group (abortNoted g s) g = { group s g with mig := false, dst := none, barUntil := s.tmp.now + 20000 } := by
  rw [abortNoted, group_onGroup_self _ _ _ hg, group_raiseIf]

theorem groupAbort_eq : groupAbort g s = match (group s g).step with
    | .rampDown | .rampUp => stepTo g .none (abortNoted g s)
    | .open_ | .weldChk => abortNoted g s
    | _ => groupOff g (xpOpen g (abortNoted g s)) := rfl

theorem rget_abortNoted_migAbort (hm : (group s g).mig = true) : rget (abortNoted g s) F.MTX_FLAGS_MIGABORT = 1 := by
  rw [abortNoted, hm]
  exact rget_raiseData_flag 0 F.MTX_EVCNT_COUNT F.MTX_FLAGS_MIGABORT s (by decide) (by decide) (by decide)

theorem groupAbort_givenUp (hg : g < 16) : GivenUp s (groupAbort g s) g := by
  rw [groupAbort_eq]
  split <;> simp [GivenUp, stepTo, groupOff, hg, group_abortNoted]

/-- A group given up while it ramps down stays on its bus (log entry 116). -/
theorem groupAbort_of_rampDown (hg : g < 16) (hst : (group s g).step = .rampDown) :
    (group (groupAbort g s) g).step = .none ∧ (group (groupAbort g s) g).xp = (group s g).xp
      ∧ (group (groupAbort g s) g).stepAt = s.tmp.now := by
  rw [groupAbort_eq, hst]
  simp [stepTo, hg, abortNoted]

/-- A group given up in its voltage match is left free. -/
theorem groupAbort_of_vmatch (hg : g < 16) (hst : (group s g).step = .vmatch) : (group (groupAbort g s) g).step = .none := by
  rw [groupAbort_eq, hst]
  simp [groupOff, hg]

/-- A group given up past its opening goes on with its step (log entry 116). -/
theorem groupAbort_of_open (hst : (group s g).step = .open_ ∨ (group s g).step = .weldChk) : groupAbort g s = abortNoted g s := by
  rw [groupAbort_eq]
  rcases hst with hst | hst <;> rw [hst]

/-- The abort of a migration shows (R155). -/
theorem rget_groupAbort_migAbort (hm : (group s g).mig = true) : rget (groupAbort g s) F.MTX_FLAGS_MIGABORT = 1 := by
  rw [groupAbort_eq]
  split <;> simp [rget_abortNoted_migAbort hm]

end Sys2Proof.Machine

end

section

/-! SUPPORT. The steps of a power group that end badly (R145, R154, R155), a crosspoint that disagrees (R146) and a lost group (R159). -/

namespace Sys2Proof.Machine

/-! ### Flags of MTX_FLAGS -/

/-- Every flag of a list raised in one cycle reads 1 (R38, R39). -/
theorem rget_raise_of_mem {f cnt : Fld} (hw : 0 < f.width) (hc : fkey f ≠ fkey cnt) (hq : fkey f ≠ fkey F.SAF_EVQOVF_COUNT) {fl : List Fld}
    (hfl : ∀ g ∈ fl, g = f ∨ fkey f ≠ fkey g) (hf : f ∈ fl) (s : State) : rget (raise cnt fl s) f = 1 := by
  induction fl generalizing s with
  | nil => cases hf
  | cons g l ih =>
    have htail : ∀ g' ∈ l, g' = f ∨ fkey f ≠ fkey g' := fun g' hg => hfl g' (List.mem_cons_of_mem _ hg)
    have hstep : raise cnt (g :: l) s = raise cnt l (flagSet 0 g s) := rfl
    rw [hstep]
    rcases List.mem_cons.mp hf with rfl | hl
    · exact rget_raise_one hw hc hq htail (rget_flagSet_self 0 _ s hw hq)
    · exact ih htail hl _

theorem rget_raiseMtx_self {f : Fld} (hf : fkey f ∉ [fkey F.MTX_EVCNT_COUNT, fkey F.SAF_EVQOVF_COUNT]) (hw : 0 < f.width) (s : State) :
    rget (raiseMtx f s) f = 1 := by
  simp only [List.mem_cons, List.not_mem_nil, or_false, not_or] at hf
  exact rget_raiseData_flag 0 F.MTX_EVCNT_COUNT f s hw hf.1 hf.2

theorem setBit_true_testBit (n i : Nat) : (setBit n i true).testBit i = true := by
  simp [setBit]

/-! ### The weld check and the voltage match run out (R145, R155) -/

section

variable {g : Nat} {s : State}

theorem group_xpWelded (hg : g < 16) : (group (xpWelded g s) g).step = .pinned ∧ (group (xpWelded g s) g).xp = none
    ∧ (group (xpWelded g s) g).limit = 0 ∧ GivenUp s (xpWelded g s) g := by
  simp [xpWelded, GivenUp, group, groupOff, onGroup, Tab.get_upd_self _ _ _ _ hg]

/-- The flags of a welded crosspoint: its own, and that of the migration it ends (R145, R155). -/
def weldFlags (mig : Bool) : List Fld := if mig then [F.MTX_FLAGS_XPWELD, F.MTX_FLAGS_MIGABORT] else [F.MTX_FLAGS_XPWELD]

theorem rget_xpWelded {f : Fld} (hf : fkey f ∉ [fkey F.SAF_CAUSE_FIRST, fkey F.SAF_CAUSE_LAST, fkey F.SAF_CAUSE_DATA, fkey F.SAF_CAUSE_COUNT]) :
    ∃ u, rget (xpWelded g s) f = rget (raise F.MTX_EVCNT_COUNT (weldFlags (group s g).mig) u) f ∧ rget u f = rget s f := by
  simp only [List.mem_cons, List.not_mem_nil, or_false, not_or] at hf
  obtain ⟨h1, h2, h3, h4⟩ := hf
  refine ⟨_, rget_safCause_ne _ _ _ _ _ h1 h2 h3 h4, ?_⟩
  rfl

theorem rget_xpWelded_xpWeld : rget (xpWelded g s) F.MTX_FLAGS_XPWELD = 1 := by
  obtain ⟨u, hu, _⟩ := rget_xpWelded (g := g) (s := s) (f := F.MTX_FLAGS_XPWELD) (by decide)
  rw [hu]
  cases (group s g).mig <;>
    exact rget_raise_of_mem (by decide) (by decide) (by decide) (by decide) (by decide) u

theorem rget_xpWelded_migAbort (h : (group s g).mig = true ∨ rget s F.MTX_FLAGS_MIGABORT = 1) :
    rget (xpWelded g s) F.MTX_FLAGS_MIGABORT = 1 := by
  obtain ⟨u, hu, hs⟩ := rget_xpWelded (g := g) (s := s) (f := F.MTX_FLAGS_MIGABORT) (by decide)
  rw [hu]
  rcases h with hm | h1
  · rw [hm]
    exact rget_raise_of_mem (by decide) (by decide) (by decide) (by decide) (by decide) u
  · cases (group s g).mig <;>
      exact rget_raise_one (by decide) (by decide) (by decide) (by decide) (hs.trans h1)

theorem xpWelded_xpWeld : (xpWelded g s).mtx.xpWeld.testBit ((xpOf s g (group s g).src).getD 0) = true := by
  have h : (xpWelded g s).mtx.xpWeld = setBit s.mtx.xpWeld ((xpOf s g (group s g).src).getD 0) true := by
    rw [xpWelded, safCause_mtx, raise_mtx]
    rfl
  rw [h, setBit_true_testBit]

/-- A weld check that has run its time without 30 V between the group and the bus finds a weld (R145). -/
theorem stepGroup_of_weld (hst : (group s g).step = .weldChk) (hlo : busV s (group s g).src < (group s g).vout + 300)
    (hhi : (group s g).vout < busV s (group s g).src + 300) (ht : mTvmatch s ≤ stepAge s g) : stepGroup g s = xpWelded g s := by
  have hnear : ¬((group s g).vout + 300 ≤ busV s (group s g).src ∨ busV s (group s g).src + 300 ≤ (group s g).vout) := by omega
  simp only [stepGroup, hst, stepWeld, if_neg hnear, if_pos ht]

/-- A voltage match that has run its time is given up (R155). -/
theorem stepGroup_of_unmatched {d : Nat} (hst : (group s g).step = .vmatch) (hd : (group s g).dst = some d) (hcl : canClose s g d = false)
    (ht : mTvmatch s ≤ stepAge s g) : stepGroup g s = groupAbort g s := by
  simp [stepGroup, hst, stepMatch, hd, hcl, ht]

/-- T_XZC in the ramp-down gives the operation up (R154). -/
theorem stepGroup_of_rampDown_expired (hst : (group s g).step = .rampDown) (ho : canOpen s g = false) (hz : xzcExpired s g = true) :
    stepGroup g s = groupAbort g s := by
  simp [stepGroup, hst, ho, hz]

/-- T_XZC in CHECK forces the opening (R154). -/
theorem stepGroup_of_checkOpen_expired (hst : (group s g).step = .checkOpen) (hz : xzcExpired s g = true) :
    stepGroup g s = beginOpen g s := by
  simp [stepGroup, hst, hz]

theorem xzcExpired_of {z : Nat} (hz : (group s g).zeroSince = some z) (ht : mTxzc s ≤ sinceT s z) : xzcExpired s g = true := by
  simp [xzcExpired, hz, ht]

/-- A group tracked with its limit at 0 keeps the tempo since which it is, so T_XZC goes on (log entry 20). -/
theorem xzcExpired_trackGroup {z : Nat} (hg : g < 16) (hlim : (group s g).limit = 0) (hz : (group s g).zeroSince = some z)
    (ht : mTxzc s ≤ sinceT s z) : xzcExpired (trackGroup g s) g = true :=
  xzcExpired_of (z := z) (by rw [group_trackGroup hg]; simp [hlim, hz]) ht

/-- A group that reports 2 A or more may not open (R144). -/
theorem canOpen_trackGroup_of_current (hg : g < 16) (hi : 20 ≤ (group s g).iout.natAbs) : canOpen (trackGroup g s) g = false := by
  have hlow : (group (trackGroup g s) g).lowSince = none := by
    rw [group_trackGroup hg]
    exact if_neg (Nat.not_lt.mpr hi)
  cases hz : (group (trackGroup g s) g).zeroSince <;> simp [canOpen, hlow, hz]

/-! ### Openings forced in CHECK (R154) -/

theorem coil_onGroup (f : Group → Group) (s : State) (c : Nat) : coil (onGroup g f s) c = coil s c := rfl

/-- The opening of a group's crosspoint is commanded, and looked at from the next tempo on. -/
theorem beginOpen_effect {x : Nat} (hg : g < 16) (hx : (group s g).xp = some x) (hc : mXpCoil s x < 64) :
    (group (beginOpen g s) g).step = .open_ ∧ stepReady (beginOpen g s) g = false
      ∧ (coil (beginOpen g s) (mXpCoil s x)).cmd = false := by
  have hopen : xpOpen g s = coilCmd (mXpCoil s x) false s := by simp [xpOpen, hx]
  have hnow : (coilCmd (mXpCoil s x) false s).tmp = s.tmp := coilCmd_keeps (·.tmp) _ _ _ fun _ _ => rfl
  refine ⟨?_, ?_, ?_⟩
  · simp [beginOpen, stepTo, hg]
  · simp [stepReady, beginOpen, stepTo, hg, hopen, hnow]
  · rw [beginOpen, hopen, stepTo, coil_onGroup, coil_onGroup]
    exact (coil_coilCmd_self hc false s).1

theorem groupAbort_keeps {α : Type} (p : State → α) (g : Nat) (s : State) (hr : ∀ b c fl t, p (raiseIf b c fl t) = p t)
    (hc : ∀ c f t, p (onCoil c f t) = p t) (hg : ∀ f t, p (onGroup g f t) = p t) : p (groupAbort g s) = p s := by
  have hn : p (abortNoted g s) = p s := (hg _ _).trans (hr _ _ _ _)
  have ho : p (xpOpen g (abortNoted g s)) = p s := by
    unfold xpOpen
    split
    · exact (coilCmd_keeps p _ _ _ fun f t => hc _ f t).trans hn
    · exact hn
  rw [groupAbort_eq]
  split
  · exact (hg _ _).trans hn
  · exact (hg _ _).trans hn
  · exact hn
  · exact hn
  · exact (hg _ _).trans ho

/-- A crosspoint commanded closed whose enable is 0 is opened, whatever the operation of its group (R146). -/
theorem groupOutside_of_enable_lost {x : Nat} (hg : g < 16) (hx : (group s g).xp = some x) (hcmd : xpCmd s x = true)
    (he : target s (4 + mXpCoil s x) = false) : ∃ u, groupOutside g s = beginOpen g u ∧ (group u g).xp = some x ∧ u.sec = s.sec := by
  refine ⟨onGroup g (fun j => { j with xp := (group s g).xp, src := mXpBus s x })
    (onGroup g (fun k => { k with src := mXpBus s x }) (groupAbort g s)), ?_, ?_, ?_⟩
  · simp [groupOutside, hx, hcmd, he]
  · rw [group_onGroup_self _ _ _ hg]
    exact hx
  · exact groupAbort_keeps (·.sec) g s (by simp) (fun _ _ _ => rfl) (fun _ _ => rfl)

/-- An opening that CHECK has already asked for is left to its step while the enable of the crosspoint is on or it is commanded open. -/
theorem groupOutside_of_checkOpen {x : Nat} (hx : (group s g).xp = some x) (hce : (xpCmd s x && !target s (4 + mXpCoil s x)) = false)
    (hc : inCheck s = true) (hst : (group s g).step = .checkOpen) (hm : (group s g).mig = false) : groupOutside g s = s := by
  have hce' : ¬(xpCmd s x = true ∧ target s (4 + mXpCoil s x) = false) := by simpa using hce
  simp [groupOutside, hx, hce', hc, hst, hm]

/-! ### A migration whose destination asks to be released (R155) -/

theorem groupOutside_of_released {d : Nat} (hx : ∀ x ∈ (group s g).xp.toList, target s (4 + mXpCoil s x) = true) (hc : inCheck s = false)
    (hst : (group s g).step ∈ [GStep.rampDown, .open_, .weldChk, .vmatch]) (hm : (group s g).mig = true) (hd : (group s g).dst = some d)
    (hk : busKind s d = some .release) : groupOutside g s = groupAbort g s := by
  have hsteps : (group s g).step = .rampDown ∨ (group s g).step = .open_ ∨ (group s g).step = .weldChk ∨ (group s g).step = .vmatch := by
    simpa using hst
  unfold groupOutside
  dsimp only
  rw [if_neg ?enable, if_neg ?check, if_pos ?migration]
  case enable =>
    cases hxp : (group s g).xp with
    | none => simp
    | some x => simp [hx x (by simp [hxp])]
  case check => simp [hc]
  case migration => simp [hm, hd, hk, hsteps]

/-- A migration ended and shown. -/
def MigrationEnded (s t : State) (g : Nat) : Prop := GivenUp s t g ∧ rget t F.MTX_FLAGS_MIGABORT = 1

theorem migrationEnded_onGroup {t : State} (hg : g < 16) (h : MigrationEnded s t g) (f : Group → Group)
    (hf : ∀ k, (f k).mig = k.mig ∧ (f k).dst = k.dst ∧ (f k).barUntil = k.barUntil) : MigrationEnded s (onGroup g f t) g := by
  obtain ⟨⟨hm, hd, hb⟩, hr⟩ := h
  obtain ⟨fm, fd, fb⟩ := hf (group t g)
  exact ⟨by rw [GivenUp, group_onGroup_self _ _ _ hg, fm, fd, fb]; exact ⟨hm, hd, hb⟩, hr⟩

/-- The steps past the opening lead an ended migration on as a released group. -/
theorem migrationEnded_stepGroup {t : State} (hg : g < 16) (h : MigrationEnded s t g) (hn : t.tmp = s.tmp)
    (hst : (group t g).step = .none ∨ (group t g).step = .open_ ∨ (group t g).step = .weldChk) : MigrationEnded s (stepGroup g t) g := by
  obtain ⟨⟨hm, hd, hb⟩, hr⟩ := id h
  rcases hst with hst | hst | hst
  · simpa [stepGroup, hst] using h
  · simp only [stepGroup, hst]
    split
    · refine migrationEnded_onGroup hg (migrationEnded_onGroup hg h _ ?_) _ ?_ <;> exact fun _ => ⟨rfl, rfl, rfl⟩
    · exact h
  · simp only [stepGroup, hst, stepWeld, hd]
    split
    · exact ⟨by simp [GivenUp, groupOff, hg, hb], hr⟩
    · split
      · obtain ⟨-, -, -, gm, gd, gb⟩ := group_xpWelded (s := t) hg
        exact ⟨⟨gm, gd, gb.trans (by rw [hn])⟩, rget_xpWelded_migAbort (.inr hr)⟩
      · exact migrationEnded_onGroup hg h _ fun _ => ⟨rfl, rfl, rfl⟩

end

variable (s : State) (g : Fin 16)

theorem does_xpWeld (h : GroupDue s g) (hc : inCheck s = false) (hx : (group s g).xp = none) (hst : (group s g).step = .weldChk)
    (hd : ∀ d ∈ (group s g).dst.toList, busKind s d ≠ some .release) (hat : (group s g).stepAt < s.tmp.now)
    (ht : mTvmatch s ≤ stepAge s g) (hlo : busV s (group s g).src < (group s g).vout + 300) (hhi : (group s g).vout < busV s (group s g).src + 300) :
    Does (.xpWeld g) s (fun t => (group t g).step = .pinned ∧ (group t g).xp = none ∧ (group t g).limit = 0
      ∧ rget t F.MTX_FLAGS_XPWELD = 1 ∧ ((group s g).mig = true → rget t F.MTX_FLAGS_MIGABORT = 1)
      ∧ t.mtx.xpWeld.testBit ((xpOf s g (group s g).src).getD 0) = true ∧ Demands t 0x0D g false) := by
  have htr := group_trackGroup (s := s) g.isLt
  have hrun : groupEval g s = xpWelded g (trackGroup g s) := by
    rw [groupEval_of_quiet h g.isLt (by simp [hx]) hc hd hat]
    exact stepGroup_of_weld (by rw [htr]; exact hst) (by rw [htr]; exact hlo) (by rw [htr]; exact hhi)
      (by rw [stepAge, htr]; exact ht)
  obtain ⟨hstep, hxp, hlim, -⟩ := group_xpWelded (s := trackGroup g s) g.isLt
  have hmig : (group (trackGroup g s) g).mig = (group s g).mig := by rw [htr]
  have hsrc : (group (trackGroup g s) g).src = (group s g).src := by rw [htr]
  refine ⟨_, rfl, ?_⟩
  rw [hrun]
  exact ⟨hstep, hxp, hlim, rget_xpWelded_xpWeld, fun hm => rget_xpWelded_migAbort (.inl (hmig.trans hm)),
    hsrc ▸ xpWelded_xpWeld, safCause_demands _ _ _ _⟩

theorem does_tVmatchExpiry {d : Nat} (h : GroupDue s g) (hc : inCheck s = false) (hx : (group s g).xp = none) (hd : (group s g).dst = some d)
    (hst : (group s g).step = .vmatch) (hk : busKind s d ≠ some .release) (hcl : canClose s g d = false)
    (hat : (group s g).stepAt < s.tmp.now) (ht : mTvmatch s ≤ stepAge s g) :
    Does (.tVmatchExpiry g) s (fun t => (group t g).step = .none ∧ (group t g).dst = none ∧ (group t g).barUntil = s.tmp.now + 20000
      ∧ ((group s g).mig = true → rget t F.MTX_FLAGS_MIGABORT = 1)) := by
  have htr := group_trackGroup (s := s) g.isLt
  have hrun : groupEval g s = groupAbort g (trackGroup g s) := by
    rw [groupEval_of_quiet h g.isLt (by simp [hx]) hc (by simpa [hd] using hk) hat]
    refine stepGroup_of_unmatched (by rw [htr]; exact hst) (by rw [htr]; exact hd) ?_ (by rw [stepAge, htr]; exact ht)
    rw [← hcl, canClose, htr]
    rfl
  obtain ⟨-, hdst, hbar⟩ := groupAbort_givenUp (s := trackGroup g s) g.isLt
  refine ⟨_, rfl, ?_⟩
  rw [hrun]
  refine ⟨?_, hdst, hbar, fun hm => rget_groupAbort_migAbort (by rw [htr]; exact hm)⟩
  exact groupAbort_of_vmatch g.isLt (by rw [htr]; exact hst)

theorem does_tXzcExpiry_abort {x z : Nat} (h : GroupDue s g) (hc : inCheck s = false) (hx : (group s g).xp = some x)
    (he : target s (4 + mXpCoil s x) = true) (hd : ∀ d ∈ (group s g).dst.toList, busKind s d ≠ some .release)
    (hst : (group s g).step = .rampDown) (hat : (group s g).stepAt < s.tmp.now) (hlim : (group s g).limit = 0)
    (hz : (group s g).zeroSince = some z) (ht : mTxzc s ≤ sinceT s z) (hi : 20 ≤ (group s g).iout.natAbs) :
    Does (.tXzcExpiry g) s (fun t => (group t g).step = .none ∧ (group t g).xp = some x ∧ (group t g).dst = none
      ∧ (group t g).barUntil = s.tmp.now + 20000 ∧ ((group s g).mig = true → rget t F.MTX_FLAGS_MIGABORT = 1)) := by
  have htr := group_trackGroup (s := s) g.isLt
  have hst' : (group (trackGroup g s) g).step = .rampDown := by rw [htr]; exact hst
  have hrun : groupEval g s = groupAbort g (trackGroup g s) := by
    rw [groupEval_of_quiet h g.isLt (by simpa [hx] using he) hc hd hat]
    exact stepGroup_of_rampDown_expired hst' (canOpen_trackGroup_of_current g.isLt hi) (xzcExpired_trackGroup g.isLt hlim hz ht)
  obtain ⟨-, hdst, hbar⟩ := groupAbort_givenUp (s := trackGroup g s) g.isLt
  obtain ⟨hstep, hxp, -⟩ := groupAbort_of_rampDown g.isLt hst'
  refine ⟨_, rfl, ?_⟩
  rw [hrun]
  exact ⟨hstep, hxp.trans (by rw [htr]; exact hx), hdst, hbar, fun hm => rget_groupAbort_migAbort (by rw [htr]; exact hm)⟩

theorem does_tXzcExpiry_check {x z : Nat} (h : GroupDue s g) (hc : inCheck s = true) (hx : (group s g).xp = some x) (hcoil : mXpCoil s x < 64)
    (hm : (group s g).mig = false) (hst : (group s g).step = .checkOpen) (hat : (group s g).stepAt < s.tmp.now) (hlim : (group s g).limit = 0)
    (hz : (group s g).zeroSince = some z) (ht : mTxzc s ≤ sinceT s z) :
    Does (.tXzcExpiry g) s (fun t => (group t g).step = .open_ ∧ (coil t (mXpCoil s x)).cmd = false) := by
  have htr := group_trackGroup (s := s) g.isLt
  have hx' : (group (trackGroup g s) g).xp = some x := by rw [htr]; exact hx
  have hst' : (group (trackGroup g s) g).step = .checkOpen := by rw [htr]; exact hst
  refine ⟨_, rfl, ?_⟩
  by_cases hce : (xpCmd s x && !target s (4 + mXpCoil s x)) = true
  · obtain ⟨hcmd, he⟩ : xpCmd s x = true ∧ target s (4 + mXpCoil s x) = false := by simpa using hce
    obtain ⟨u, hu, hux, hus⟩ := groupOutside_of_enable_lost (s := trackGroup g s) g.isLt hx' hcmd he
    have hcu : mXpCoil u x = mXpCoil s x := by rw [mXpCoil, sec, hus]; rfl
    obtain ⟨hstep, hready, hopen⟩ := beginOpen_effect g.isLt hux (by rw [hcu]; exact hcoil)
    rw [groupEval_of_due h, hu, hready, if_neg Bool.false_ne_true, ← hcu]
    exact ⟨hstep, hopen⟩
  · have hq := groupOutside_of_checkOpen (s := trackGroup g s) hx' (Bool.eq_false_iff.mpr hce) hc hst' (by rw [htr]; exact hm)
    have hr : stepReady (trackGroup g s) g = true := by rw [stepReady, htr]; exact decide_eq_true hat
    rw [groupEval_of_due h, hq, if_pos hr, stepGroup_of_checkOpen_expired hst' (xzcExpired_trackGroup g.isLt hlim hz ht)]
    obtain ⟨hstep, -, hopen⟩ := beginOpen_effect g.isLt hx' hcoil
    exact ⟨hstep, hopen⟩

theorem does_migrationAbort {d : Nat} (h : GroupDue s g) (hc : inCheck s = false)
    (hx : ∀ x ∈ (group s g).xp.toList, target s (4 + mXpCoil s x) = true)
    (hst : (group s g).step ∈ [GStep.rampDown, .open_, .weldChk, .vmatch]) (hm : (group s g).mig = true) (hd : (group s g).dst = some d)
    (hk : busKind s d = some .release) :
    Does (.migrationAbort g) s (fun t => (group t g).mig = false ∧ (group t g).dst = none ∧ (group t g).barUntil = s.tmp.now + 20000
      ∧ rget t F.MTX_FLAGS_MIGABORT = 1
      ∧ ((group s g).step = .rampDown → (group t g).step = .none ∧ (group t g).xp = (group s g).xp)) := by
  have htr := group_trackGroup (s := s) g.isLt
  have hstep : (group (trackGroup g s) g).step = (group s g).step := by rw [htr]
  have hout : groupOutside g (trackGroup g s) = groupAbort g (trackGroup g s) :=
    groupOutside_of_released (by rw [htr]; exact hx) hc (by rw [htr]; exact hst) (by rw [htr]; exact hm) (by rw [htr]; exact hd) hk
  have hended : MigrationEnded s (groupAbort g (trackGroup g s)) g :=
    ⟨groupAbort_givenUp (s := trackGroup g s) g.isLt, rget_groupAbort_migAbort (by rw [htr]; exact hm)⟩
  have hnow : (groupAbort g (trackGroup g s)).tmp = s.tmp :=
    groupAbort_keeps (·.tmp) g (trackGroup g s) (by simp) (fun _ _ _ => rfl) (fun _ _ => rfl)
  refine ⟨_, rfl, ?_⟩
  rw [groupEval_of_due h, hout]
  by_cases hramp : (group s g).step = .rampDown
  · obtain ⟨hs, hxp, hat⟩ := groupAbort_of_rampDown (s := trackGroup g s) g.isLt (hstep.trans hramp)
    have hr : stepReady (groupAbort g (trackGroup g s)) g = false := by
      rw [stepReady, hat, hnow]
      exact decide_eq_false (Nat.lt_irrefl _)
    rw [hr, if_neg Bool.false_ne_true]
    obtain ⟨⟨em, ed, eb⟩, ef⟩ := hended
    exact ⟨em, ed, eb, ef, fun _ => ⟨hs, hxp.trans (by rw [htr])⟩⟩
  · have hsteps : (group s g).step = .open_ ∨ (group s g).step = .weldChk ∨ (group s g).step = .vmatch := by simpa [hramp] using hst
    have hpast : (group (groupAbort g (trackGroup g s)) g).step = .none ∨ (group (groupAbort g (trackGroup g s)) g).step = .open_
        ∨ (group (groupAbort g (trackGroup g s)) g).step = .weldChk := by
      rcases hsteps with e | e | e
      · rw [groupAbort_of_open (.inl (hstep.trans e)), group_abortNoted g.isLt]
        exact .inr (.inl (hstep.trans e))
      · rw [groupAbort_of_open (.inr (hstep.trans e)), group_abortNoted g.isLt]
        exact .inr (.inr (hstep.trans e))
      · exact .inl (groupAbort_of_vmatch g.isLt (hstep.trans e))
    have hdone : MigrationEnded s (if stepReady (groupAbort g (trackGroup g s)) g then stepGroup g (groupAbort g (trackGroup g s))
        else groupAbort g (trackGroup g s)) g := by
      split
      · exact migrationEnded_stepGroup g.isLt hended hnow hpast
      · exact hended
    obtain ⟨⟨em, ed, eb⟩, ef⟩ := hdone
    exact ⟨em, ed, eb, ef, fun e => absurd e hramp⟩

theorem does_xpFbMismatch (x : Fin 48) (hcab : isCabinet s = true) (hx : x.val < mNxp s)
    (hm : coilMismatch s (mXpCoil s x) (mCoilFb s (mXpCoil s x)) = true) :
    Does (.xpFbMismatch x) s (fun t => Demands t 0x0C (mXpCoil s x) false
      ∧ ((0x0C, mXpCoil s x) ∉ s.saf.cur → (0x0C, mXpCoil s x) ∉ s.saf.prev → rget t F.MTX_FLAGS_FBMISMATCH = 1)) := by
  have hrun : xpMismatch x s = coilFault (mXpCoil s x) s := if_pos (by simp [hcab, hx, hm])
  refine ⟨_, rfl, ?_⟩
  rw [hrun]
  exact ⟨safCause_demands _ _ _ _, fun hcur hprev => rget_coilFault (.inl ⟨hcur, hprev⟩)⟩

theorem does_groupLost (hcab : isCabinet s = true) (hg : g.val < mNgroup s) (hl : (group s g).lost = false)
    (hs : (group s g).stamp = none ∧ 100 ≤ s.tmp.now ∨ 100 ≤ sinceT s ((group s g).stamp.getD s.tmp.now)) :
    Does (.groupLost g) s (fun t => (group t g).lost = true ∧ gPav t g = 0 ∧ rget t F.MTX_FLAGS_GRPLOST = 1) := by
  have hlost : (group (raiseMtx F.MTX_FLAGS_GRPLOST (onGroup g (fun k => { k with lost := true, goodRun := 0 }) s)) g).lost = true := by
    rw [group, raiseMtx_mtx, ← group, group_onGroup_self _ _ _ g.isLt]
  refine ⟨_, rfl, ?_⟩
  rw [if_pos ⟨hcab, hg⟩, groupLostCheck_of_silent hl hs]
  exact ⟨hlost, if_pos (.inl hlost), rget_raiseMtx_self (by decide) (by decide) _⟩

/-- A post evaluates no group (R143). -/
theorem does_matrix_of_post (hpost : isCabinet s = false) :
    ∀ c ∈ [Instr.xpWeld g, .tVmatchExpiry g, .tXzcExpiry g, .migrationAbort g, .groupLost g, .xpFbMismatch 0], Does c s (fun t => t = s) := by
  have heval : groupEval g s = s := by simp [groupEval, hpost]
  simp only [List.forall_mem_cons, List.not_mem_nil, false_implies, implies_true, and_true]
  exact ⟨⟨_, rfl, heval⟩, ⟨_, rfl, heval⟩, ⟨_, rfl, heval⟩, ⟨_, rfl, heval⟩, ⟨_, rfl, by simp [hpost]⟩,
    ⟨_, rfl, by simp [xpMismatch, hpost]⟩⟩

/-- Settles O20: a group that is heard is tracked, meets what comes from outside its steps, and takes its step; each clause is the branch
its conditions name. T_XZC runs from the tempo in which the limit reached 0 (log entry 20), and an abort leaves the group as log entry 116
says. -/
theorem matrixSteps : Obligations.MatrixSteps := fun s g =>
  ⟨does_xpWeld s g, fun _ => does_tVmatchExpiry s g, fun _ _ => does_tXzcExpiry_abort s g, fun _ _ => does_tXzcExpiry_check s g,
    fun _ => does_migrationAbort s g, does_xpFbMismatch s, does_groupLost s g, does_matrix_of_post s g⟩

end Sys2Proof.Machine

end

section

/-! SUPPORT. The frames of the power-group profile: what a command frame holds (R156), and a status frame taken or discarded (R158, R159). -/

namespace Sys2Proof.Machine

/-! ### Bytes -/

@[simp] theorem length_leBytes (n v : Nat) : (leBytes n v).length = n := by
  induction n generalizing v with
  | zero => rfl
  | succ n ih => simp [leBytes, ih]

theorem slice_of_append (a b c : Bytes) : slice (a ++ (b ++ c)) a.length b.length = b := by
  apply List.ext_getElem
  · simp [slice]
  · intro i h1 h2
    simp [slice, List.getElem?_append, h2]

/-- Entries of one length stand at the multiples of it. -/
theorem slice_flatMap {α : Type} (f : α → Bytes) {w : Nat} (hf : ∀ x, (f x).length = w) (l : List α) (pad : Bytes) {k : Nat} {x : α}
    (hx : l[k]? = some x) : slice (l.flatMap f ++ pad) (w * k) w = f x := by
  obtain ⟨hk, rfl⟩ := List.getElem?_eq_some_iff.mp hx
  have hpre : ((l.take k).flatMap f).length = w * k := by
    simp [List.length_flatMap, hf, Nat.min_eq_left hk.le, Nat.mul_comm]
  have hcut : l.flatMap f ++ pad = (l.take k).flatMap f ++ (f l[k] ++ ((l.drop (k + 1)).flatMap f ++ pad)) := by
    conv_lhs => rw [← List.take_append_drop k l, List.drop_eq_getElem_cons hk, List.flatMap_append, List.flatMap_cons]
    simp only [List.append_assoc]
  rw [hcut, ← hpre]
  conv_lhs => rw [← hf l[k]]
  exact slice_of_append _ _ _

/-! ### The command frame (R156) -/

section

variable (s : State) (bus : Fin 2)

theorem length_cmdEntry (n g : Nat) : (cmdEntry s n g).length = 8 := by simp [cmdEntry]

theorem length_cmdFrame : (cmdFrame s bus).length = 64 := by
  have he : (((canGroups s bus).take 8).flatMap (cmdEntry s (Tab.get 0 s.mtx.alive bus))).length ≤ 64 := by
    simp only [List.length_flatMap, length_cmdEntry, List.map_const', List.sum_replicate, List.length_take, smul_eq_mul]
    omega
  rw [cmdFrame, List.length_append, List.length_replicate]
  omega

theorem slice_cmdFrame {k g : Nat} (hk : k < 8) (hg : (canGroups s bus)[k]? = some g) :
    slice (cmdFrame s bus) (8 * k) 8 = cmdEntry s (Tab.get 0 s.mtx.alive bus) g :=
  slice_flatMap _ (length_cmdEntry s _) _ _ (by rw [List.getElem?_take_of_lt hk, hg])

/-- Whether a command frame is due on a bus (R156). -/
def CommandDue : Prop := isCabinet s = true ∧ canRuns s bus = true ∧ s.tmp.running = true ∧ crossesAt s 1000000 0 = true
  ∧ canGroups s bus ≠ [] ∧ Tab.get none s.mtx.sentAt bus ≠ some s.tmp.now

theorem exec_pgCommandSend_due (h : CommandDue s bus) : exec (.pgCommandSend bus) s = .next
    { s with mtx.lastCmd := Tab.upd s.mtx.lastCmd bus (fun _ => some ⟨0x080, true, true, cmdFrame s bus⟩),
             mtx.sentAt := Tab.upd s.mtx.sentAt bus (fun _ => some s.tmp.now),
             mtx.alive := Tab.upd s.mtx.alive bus (fun n => if n < 31 then n + 1 else 16) } := by
  obtain ⟨hcab, hcan, hrun, hms, hgrp, hat⟩ := h
  exact congrArg Host.Outcome.next (if_pos ⟨hcab, hcan, hrun, hms, by simpa using hgrp, hat⟩)

theorem does_pgCommandSend_frame (h : CommandDue s bus) : Does (.pgCommandSend bus) s (fun t =>
    ∀ f ∈ (Tab.get none t.mtx.lastCmd bus).toList, f.id = 0x080 ∧ f.fd = true ∧ f.brs = true
      ∧ f.data.length = 64 ∧ (∀ k ∈ List.range 8, ∀ g ∈ (canGroups s bus)[k]?.toList,
        slice f.data (8 * k) 8 = cmdEntry s (Tab.get 0 s.mtx.alive bus) g)) := by
  refine ⟨_, exec_pgCommandSend_due s bus h, ?_⟩
  dsimp only
  rw [Tab.get_upd_self _ _ _ _ bus.isLt]
  simp only [Option.toList_some, List.mem_singleton]
  rintro f rfl
  refine ⟨rfl, rfl, rfl, length_cmdFrame s bus, fun k hk g hg => slice_cmdFrame s bus (List.mem_range.mp hk) ?_⟩
  simpa using hg

theorem does_pgCommandSend_once (h : CommandDue s bus) (ha : Tab.get 0 s.mtx.alive bus < 32) : Does (.pgCommandSend bus) s (fun t =>
    (Tab.get none t.mtx.lastCmd bus).isSome = true ∧ Tab.get none t.mtx.sentAt bus = some s.tmp.now
      ∧ Tab.get 0 t.mtx.alive bus % 16 = (Tab.get 0 s.mtx.alive bus + 1) % 16) := by
  refine ⟨_, exec_pgCommandSend_due s bus h, ?_⟩
  dsimp only
  rw [Tab.get_upd_self _ _ _ _ bus.isLt, Tab.get_upd_self _ _ _ _ bus.isLt, Tab.get_upd_self _ _ _ _ bus.isLt]
  refine ⟨rfl, rfl, ?_⟩
  split <;> omega

theorem does_pgCommandSend_not_due (h : isCabinet s = false ∨ canRuns s bus = false ∨ s.tmp.running = false ∨ crossesAt s 1000000 0 = false
    ∨ canGroups s bus = [] ∨ Tab.get none s.mtx.sentAt bus = some s.tmp.now) : Does (.pgCommandSend bus) s (fun t => t = s) := by
  refine ⟨_, rfl, if_neg ?_⟩
  rintro ⟨hcab, hcan, hrun, hms, hgrp, hat⟩
  rcases h with h | h | h | h | h | h
  · exact Bool.false_ne_true (h.symm.trans hcab)
  · exact Bool.false_ne_true (h.symm.trans hcan)
  · exact Bool.false_ne_true (h.symm.trans hrun)
  · exact Bool.false_ne_true (h.symm.trans hms)
  · simp [h] at hgrp
  · exact hat h

/-! ### The status frame (R158, R159) -/

/-- The group as an accepted status frame reports it. -/
def statusSeen (g : Nat) (d : Bytes) (s : State) : State :=
  onGroup g (fun k => { k with
    stamp := some s.tmp.now, gstate := u8 d 0 % 16, fclass := u8 d 0 / 16, vout := u16 d 2, iout := i16 d 4, pavail := u8 d 6,
    ownCnt := some (u8 d 1 / 16), goodRun := if u8 d 0 % 16 = 4 then 0 else min 20 (k.goodRun + 1) }) s

variable {s bus}

theorem statusTake_eq (g : Nat) (d : Bytes) : statusTake g d s =
    if (group s g).lost ∧ (group (statusSeen g d s) g).goodRun = 20 then
      raiseMtx F.MTX_FLAGS_GRPBACK (onGroup g (fun k => { k with lost := false }) (statusSeen g d s))
    else statusSeen g d s := rfl

theorem group_statusBack {g : Nat} (hg : g < 16) (d : Bytes) :
    group (raiseMtx F.MTX_FLAGS_GRPBACK (onGroup g (fun k => { k with lost := false }) (statusSeen g d s))) g
      = { group (statusSeen g d s) g with lost := false } := by
  rw [group, raiseMtx_mtx, ← group, group_onGroup_self _ _ _ hg]

/-- Of what the frame reports, a return to service changes the mark of a lost group alone. -/
theorem group_statusTake {g : Nat} (hg : g < 16) (d : Bytes) :
    ∃ l, group (statusTake g d s) g = { group (statusSeen g d s) g with lost := l } := by
  rw [statusTake_eq]
  split
  · exact ⟨false, group_statusBack hg d⟩
  · exact ⟨_, rfl⟩

/-- The twentieth good status in a row brings a lost group back (R159). -/
theorem statusTake_back {g : Nat} (hg : g < 16) (d : Bytes) (hl : (group s g).lost = true) (hr : 19 ≤ (group s g).goodRun)
    (h4 : u8 d 0 % 16 ≠ 4) : (group (statusTake g d s) g).lost = false ∧ rget (statusTake g d s) F.MTX_FLAGS_GRPBACK = 1 := by
  have hrun : (group (statusSeen g d s) g).goodRun = 20 := by
    simp only [statusSeen, group_onGroup_self _ _ _ hg, if_neg h4]
    omega
  rw [statusTake_eq, if_pos ⟨hl, hrun⟩]
  exact ⟨by rw [group_statusBack hg], rget_raiseMtx_self (by decide) (by decide) _⟩

theorem does_pgStatusRx_taken (id : Nat) (d : Bytes) (hcab : isCabinet s = true) (hcan : canRuns s bus = true) (hid : id < 0x190)
    (hok : statusOk s bus id d = true) : Does (.pgStatusRx bus id d) s (fun t =>
      let k := group t (id - 0x180)
      k.stamp = some s.tmp.now ∧ k.gstate = u8 d 0 % 16 ∧ k.fclass = u8 d 0 / 16 ∧ k.vout = u16 d 2 ∧ k.iout = i16 d 4 ∧ k.pavail = u8 d 6
      ∧ ((group s (id - 0x180)).lost = true → 19 ≤ (group s (id - 0x180)).goodRun → u8 d 0 % 16 ≠ 4 →
          k.lost = false ∧ rget t F.MTX_FLAGS_GRPBACK = 1)) := by
  have hg : id - 0x180 < 16 := by omega
  obtain ⟨l, hl⟩ := group_statusTake (s := s) hg d
  rw [statusSeen, group_onGroup_self _ _ _ hg] at hl
  refine ⟨statusTake (id - 0x180) d s, congrArg Host.Outcome.next ((if_neg (by simp [hcab, hcan])).trans (if_pos hok)), ?_⟩
  dsimp only
  refine ⟨?_, ?_, ?_, ?_, ?_, ?_, fun hlost hr h4 => statusTake_back hg d hlost hr h4⟩ <;> rw [hl]

/-- A status frame discarded and counted (R158). -/
def statusBad (s : State) : State := raiseMtx F.MTX_FLAGS_CANERR (rsat F.MTX_CANERR_COUNT 1 s)

theorem rget_rsat_one {f : Fld} (h : rget s f < 2 ^ f.width - 1) : rget (rsat f 1 s) f = rget s f + 1 := by
  rw [rget_rsat_self _ _ _ (by omega)]
  omega

theorem rget_statusBad {f : Fld} (hf : fkey f ∉ [fkey F.MTX_FLAGS_CANERR, fkey F.MTX_EVCNT_COUNT, fkey F.SAF_EVQOVF_COUNT]) :
    rget (statusBad s) f = rget (rsat F.MTX_CANERR_COUNT 1 s) f := by
  simp only [List.mem_cons, List.not_mem_nil, or_false, not_or] at hf
  obtain ⟨hflag, hcnt, hq⟩ := hf
  exact rget_raiseData_ne 0 _ _ _ _ hflag hcnt hq

theorem does_pgStatusRx_discarded (id : Nat) (d : Bytes) (hcab : isCabinet s = true) (hcan : canRuns s bus = true)
    (hok : statusOk s bus id d = false) : Does (.pgStatusRx bus id d) s (fun t => t.mtx.grp = s.mtx.grp ∧ rget t F.MTX_FLAGS_CANERR = 1
      ∧ (rget s F.MTX_CANERR_COUNT < 65535 → rget t F.MTX_CANERR_COUNT = rget s F.MTX_CANERR_COUNT + 1)
      ∧ (8 < d.length → rget s F.MTX_LENERR_COUNT < 65535 → rget t F.MTX_LENERR_COUNT = rget s F.MTX_LENERR_COUNT + 1)) := by
  have hflag : rget (statusBad s) F.MTX_FLAGS_CANERR = 1 := rget_raiseMtx_self (by decide) (by decide) _
  have hcount : rget s F.MTX_CANERR_COUNT < 65535 → rget (statusBad s) F.MTX_CANERR_COUNT = rget s F.MTX_CANERR_COUNT + 1 := fun h => by
    rw [rget_statusBad (by decide)]
    exact rget_rsat_one h
  have hgrp : (statusBad s).mtx.grp = s.mtx.grp := by rw [statusBad, raiseMtx_mtx, rsat_mtx]
  have hlen : rget (statusBad s) F.MTX_LENERR_COUNT = rget s F.MTX_LENERR_COUNT := by
    rw [rget_statusBad (by decide), rget_rsat_ne _ _ _ _ (by decide)]
  refine ⟨if 8 < d.length then rsat F.MTX_LENERR_COUNT 1 (statusBad s) else statusBad s,
    congrArg Host.Outcome.next ((if_neg (by simp [hcab, hcan])).trans (if_neg (by simp [hok]))), ?_⟩
  by_cases h8 : 8 < d.length
  · rw [if_pos h8]
    beta_reduce
    rw [rget_rsat_ne _ _ _ _ (by decide), rget_rsat_ne _ _ _ _ (by decide), rsat_mtx]
    exact ⟨hgrp, hflag, hcount, fun _ h => by rw [rget_rsat_one (by rw [hlen]; exact h), hlen]⟩
  · rw [if_neg h8]
    exact ⟨hgrp, hflag, hcount, fun h => absurd h h8⟩

end

end Sys2Proof.Machine

end

section

/-! SUPPORT. Loops that change groups alone: what they leave of the state, and what they make of each group. -/

namespace Sys2Proof.Machine

/-- The second state is the first with other groups. -/
def OnlyGroups (s t : State) : Prop := ∃ v, t = { s with mtx.grp := v }

theorem OnlyGroups.refl (s : State) : OnlyGroups s s := ⟨s.mtx.grp, rfl⟩

theorem OnlyGroups.trans {s t u : State} (h : OnlyGroups s t) (k : OnlyGroups t u) : OnlyGroups s u := by
  obtain ⟨v, rfl⟩ := h
  obtain ⟨w, rfl⟩ := k
  exact ⟨w, rfl⟩

theorem onlyGroups_foldl {α : Type} {f : State → α → State} (h : ∀ t a, OnlyGroups t (f t a)) (l : List α) (s : State) :
    OnlyGroups s (l.foldl f s) := by
  induction l generalizing s with
  | nil => exact .refl s
  | cons a l ih => exact (h s a).trans (ih _)

theorem onlyGroups_onGroups (l : List Nat) (f : Nat → Group → Group) (s : State) : OnlyGroups s (l.foldl (fun t j => onGroup j (f j) t) s) :=
  onlyGroups_foldl (fun t j => ⟨Tab.upd t.mtx.grp j (f j), rfl⟩) l s

/-- What does not look at the groups is the same. -/
theorem OnlyGroups.same {s t : State} (h : OnlyGroups s t) {α : Type} (p : State → α)
    (hp : ∀ u v, p { u with mtx.grp := v } = p u := by exact fun _ _ => rfl) : p t = p s := by
  obtain ⟨v, rfl⟩ := h
  exact hp s v

theorem OnlyGroups.groupBus {s t : State} (h : OnlyGroups s t) (g : Nat) : groupBus t g = groupBus s g := h.same (Machine.groupBus · g)

theorem OnlyGroups.groupsOn {s t : State} (h : OnlyGroups s t) (b : Nat) : groupsOn t b = groupsOn s b := h.same (Machine.groupsOn · b)

theorem mem_groupsOn {s : State} {b g : Nat} : g ∈ groupsOn s b ↔ g < mNgroup s ∧ groupBus s g = some b := by
  simp [groupsOn]

theorem nodup_groupsOn (s : State) (b : Nat) : (groupsOn s b).Nodup := List.nodup_range.filter _

/-! ### A loop over groups, group by group -/

theorem group_onGroups_of_notMem (f : Nat → Group → Group) {l : List Nat} {g : Nat} (h : g ∉ l) (s : State) :
    group (l.foldl (fun t j => onGroup j (f j) t) s) g = group s g := by
  induction l generalizing s with
  | nil => rfl
  | cons j l ih =>
    obtain ⟨hj, hl⟩ : g ≠ j ∧ g ∉ l := by simpa using h
    rw [List.foldl_cons, ih hl, group_onGroup_ne _ _ _ _ hj]

theorem group_onGroups_of_mem (f : Nat → Group → Group) {l : List Nat} (hn : l.Nodup) {g : Nat} (hg : g < 16) (h : g ∈ l) (s : State) :
    group (l.foldl (fun t j => onGroup j (f j) t) s) g = f g (group s g) := by
  induction l generalizing s with
  | nil => cases h
  | cons j l ih =>
    obtain ⟨hj, hl⟩ := List.nodup_cons.mp hn
    rw [List.foldl_cons]
    rcases List.mem_cons.mp h with rfl | h
    · rw [group_onGroups_of_notMem f hj, group_onGroup_self _ _ _ hg]
    · rw [ih hl h, group_onGroup_ne _ _ _ _ (ne_of_mem_of_not_mem h hj)]

/-- What a change of a group does not touch in any group, it leaves alone. -/
theorem group_onGroup_keeps {α : Type} (p : Group → α) {f : Group → Group} (hf : ∀ k, p (f k) = p k) (j : Nat) (s : State) (g : Nat) :
    p (group (onGroup j f s) g) = p (group s g) := by
  by_cases e : g = j
  · subst e
    by_cases hg : g < 16
    · rw [group_onGroup_self _ _ _ hg, hf]
    · simp [group, onGroup, Tab.upd, hg]
  · rw [group_onGroup_ne _ _ _ _ e]

theorem group_onGroups_keeps {α : Type} (p : Group → α) {f : Nat → Group → Group} (hf : ∀ j k, p (f j k) = p k) (l : List Nat) (s : State)
    (g : Nat) : p (group (l.foldl (fun t j => onGroup j (f j) t) s) g) = p (group s g) := by
  induction l generalizing s with
  | nil => rfl
  | cons j l ih => rw [List.foldl_cons, ih, group_onGroup_keeps p (hf j)]

end Sys2Proof.Machine

end

section

/-! SUPPORT. The division of a bus (R151) and its balancing loop (R152; the form of the loop is the model's, log entry 22). -/

namespace Sys2Proof.Machine

variable {s : State} {b : Nat}

/-! ### The division of one bus (R151) -/

theorem onlyGroups_shareBus : OnlyGroups s (shareBus b s) :=
  (((onlyGroups_onGroups _ _ _).trans (onlyGroups_onGroups _ _ _)).trans (onlyGroups_onGroups _ _ _)).trans (onlyGroups_onGroups _ _ _)

theorem group_shareBus_of_notMem {g : Nat} (h : g ∉ groupsOn s b) : group (shareBus b s) g = group s g := by
  have hf : ∀ p q : Nat → Bool, g ∉ ((groupsOn s b).filter p).filter q := fun p q hm =>
    h (List.mem_of_mem_filter (List.mem_of_mem_filter hm))
  simp only [shareBus]
  rw [group_onGroups_of_notMem _ fun hm => h (List.mem_of_mem_filter hm), group_onGroups_of_notMem _ (hf _ _),
    group_onGroups_of_notMem _ (hf _ _), group_onGroups_of_notMem _ (hf _ _)]

/-- On a bus with no operation every group gets its share of the target as its limit, and the voltage of the request. -/
theorem group_shareBus_of_steady {g : Nat} (hn : mNgroup s ≤ 16) (hg : g ∈ groupsOn s b) (hst : ∀ j ∈ groupsOn s b, (group s j).step = .none) :
    (group (shareBus b s) g).vset = (busSt s b).volt
      ∧ (group (shareBus b s) g).limit = fairShare s b (busTarget s b) (groupsOn s b) g := by
  have hg16 : g < 16 := (mem_groupsOn.mp hg).1.trans_le hn
  have hon : (groupsOn s b).filter (fun g => decide ((group s g).step ∈ [GStep.none, .rampUp, .rampDown, .checkOpen])) = groupsOn s b :=
    List.filter_eq_self.mpr fun j hj => by simp [hst j hj]
  have hdown : (groupsOn s b).filter (fun g => (group s g).step == .rampDown) = [] :=
    List.filter_eq_nil_iff.mpr fun j hj => by simp [hst j hj]
  have hup : (groupsOn s b).filter (fun g => (group s g).step == .rampUp) = [] :=
    List.filter_eq_nil_iff.mpr fun j hj => by simp [hst j hj]
  have hsteady : (groupsOn s b).filter (fun g => (group s g).step == .none) = groupsOn s b :=
    List.filter_eq_self.mpr fun j hj => by simp [hst j hj]
  simp only [shareBus, hon, hdown, hup, hsteady, List.foldl_nil, Nat.sub_zero]
  rw [group_onGroups_of_mem _ (nodup_groupsOn s b) hg16 hg, group_onGroups_of_mem _ (nodup_groupsOn s b) hg16 hg]
  exact ⟨rfl, rfl⟩

/-! ### The balancing loop of one bus (R152) -/

/-- The groups of a bus without a trim. -/
def untrimmed (s : State) (b : Nat) : List Nat := (groupsOn s b).filter (fun g => !(balanced s b).contains g)

/-- The bus after the integrators have been stepped. -/
def integrated (b : Nat) (s : State) : State :=
  (balanced s b).foldl (fun t g => onGroup g (fun k => { k with integ := k.integ + ((k.share : Rat) - (k.iout : Rat)) / 20 }) t)
    ((untrimmed s b).foldl (fun t g => onGroup g (fun k => { k with trim := 0, integ := 0, satSince := none, satFlag := false }) t) s)

/-- The mean of the integrators of a bus. -/
def integMean (b : Nat) (s : State) : Rat :=
  ((balanced s b).foldl (fun a g => a + (group (integrated b s) g).integ) (0 : Rat)) / (balanced s b).length

/-- The factor that brings all trims of a bus into their bounds. -/
def trimFactor (b : Nat) (s : State) : Rat :=
  trimScale ((balanced s b).map (fun g => ((group (integrated b s) g).integ - integMean b s, (group (integrated b s) g).share))) 1

/-- The trim of a group, and whether it is at its bound. -/
def trimmed (now : Nat) (mean f : Rat) (k : Group) : Group :=
  let tr := (k.integ - mean) * f
  let bound : Rat := (k.share : Rat) / 20
  let at_ := decide (0 < k.share) && decide (tr = bound ∨ tr = -bound)
  { k with trim := tr, satSince := if at_ then (k.satSince <|> some now) else none, satFlag := k.satFlag && at_ }

theorem balanceBus_eq : balanceBus b s = if (balanced s b).isEmpty then integrated b s
    else (balanced s b).foldl (fun t g => onGroup g (trimmed s.tmp.now (integMean b s) (trimFactor b s)) t) (integrated b s) := rfl

theorem onlyGroups_integrated : OnlyGroups s (integrated b s) := (onlyGroups_onGroups _ _ _).trans (onlyGroups_onGroups _ _ _)

theorem onlyGroups_balanceBus : OnlyGroups s (balanceBus b s) := by
  rw [balanceBus_eq]
  split
  · exact onlyGroups_integrated
  · exact onlyGroups_integrated.trans (onlyGroups_onGroups _ _ _)

theorem mem_balanced {g : Nat} (h : g ∈ balanced s b) : g ∈ groupsOn s b := List.mem_of_mem_filter h

theorem nodup_balanced : (balanced s b).Nodup := (nodup_groupsOn s b).filter _

theorem nodup_untrimmed : (untrimmed s b).Nodup := (nodup_groupsOn s b).filter _

theorem group_balanceBus_of_notMem {g : Nat} (h : g ∉ groupsOn s b) : group (balanceBus b s) g = group s g := by
  have hb : g ∉ balanced s b := fun hm => h (mem_balanced hm)
  have hu : g ∉ untrimmed s b := fun hm => h (List.mem_of_mem_filter hm)
  have hi : group (integrated b s) g = group s g := by
    rw [integrated, group_onGroups_of_notMem _ hb, group_onGroups_of_notMem _ hu]
  rw [balanceBus_eq]
  split
  · exact hi
  · rw [group_onGroups_of_notMem _ hb, hi]

theorem group_integrated_keeps {α : Type} (p : Group → α)
    (hp : ∀ (k : Group) tr i ss sf, p { k with trim := tr, integ := i, satSince := ss, satFlag := sf } = p k) (g : Nat) :
    p (group (integrated b s) g) = p (group s g) :=
  (group_onGroups_keeps p (fun _ k => hp k k.trim _ k.satSince k.satFlag) _ _ _).trans
    (group_onGroups_keeps p (fun _ k => hp k 0 0 none false) _ _ _)

/-- The loop touches the trim of a group with its integrator and its marks. -/
theorem group_balanceBus_keeps {α : Type} (p : Group → α)
    (hp : ∀ (k : Group) tr i ss sf, p { k with trim := tr, integ := i, satSince := ss, satFlag := sf } = p k) (g : Nat) :
    p (group (balanceBus b s) g) = p (group s g) := by
  have hi : p (group (integrated b s) g) = p (group s g) := group_integrated_keeps p hp g
  rw [balanceBus_eq]
  split
  · exact hi
  · exact (group_onGroups_keeps p (fun _ k => hp k _ k.integ _ _) _ _ _).trans hi

/-- A balanced group takes its share of the correction, and every other group of the bus has no trim. -/
theorem trim_balanceBus {g : Nat} (hg : g < 16) (h : g ∈ groupsOn s b) : (group (balanceBus b s) g).trim =
    if g ∈ balanced s b then ((group (integrated b s) g).integ - integMean b s) * trimFactor b s else 0 := by
  by_cases hb : g ∈ balanced s b
  · have hne : ¬(balanced s b).isEmpty = true := by
      rw [List.isEmpty_iff]
      exact List.ne_nil_of_mem hb
    rw [if_pos hb, balanceBus_eq, if_neg hne, group_onGroups_of_mem _ nodup_balanced hg hb]
    rfl
  · have hu : g ∈ untrimmed s b := List.mem_filter.mpr ⟨h, by simpa using hb⟩
    have hi : (group (integrated b s) g).trim = 0 := by
      rw [integrated, group_onGroups_of_notMem _ hb, group_onGroups_of_mem _ nodup_untrimmed hg hu]
    rw [if_neg hb, balanceBus_eq]
    split
    · exact hi
    · rw [group_onGroups_of_notMem _ hb, hi]

/-! ### The trims sum to zero and stay in their bounds (R152) -/

theorem sum_map_sub_mean (l : List Nat) (a : Nat → Rat) : (l.map (fun g => a g - (l.map a).sum / l.length)).sum = 0 := by
  cases l with
  | nil => rfl
  | cons x l =>
    have hne : ((x :: l).length : Rat) ≠ 0 := by simp only [List.length_cons]; positivity
    simp only [sub_eq_add_neg, List.sum_map_add, List.map_const', List.sum_replicate, nsmul_eq_mul]
    field_simp
    ring

theorem sum_trims (hn : mNgroup s ≤ 16) : ((groupsOn s b).map (fun j => (group (balanceBus b s) j).trim)).sum = 0 := by
  have htrim : (groupsOn s b).map (fun j => (group (balanceBus b s) j).trim) = (groupsOn s b).map (fun j =>
      if j ∈ balanced s b then ((group (integrated b s) j).integ - integMean b s) * trimFactor b s else 0) :=
    List.map_congr_left fun j hj => trim_balanceBus ((mem_groupsOn.mp hj).1.trans_le hn) hj
  have hbal : (groupsOn s b).filter (fun j => decide (j ∈ balanced s b)) = balanced s b :=
    List.filter_congr fun j hj => by rw [Bool.eq_iff_iff]; simp [balanced, hj]
  have hmean : integMean b s = ((balanced s b).map (fun j => (group (integrated b s) j).integ)).sum / (balanced s b).length := by
    rw [integMean, List.sum_eq_foldl, List.foldl_map]
  rw [htrim, List.sum_map_ite, hbal, List.sum_map_mul_right, hmean, sum_map_sub_mean, zero_mul, zero_add]
  simp

/-- The factor keeps every deviation of the list within 5 % of its share. -/
theorem trimScale_bound (l : List (Rat × Nat)) (f : Rat) (hf : 0 ≤ f) :
    0 ≤ trimScale l f ∧ trimScale l f ≤ f ∧ ∀ x ∈ l, |x.1| * trimScale l f ≤ (x.2 : Rat) / 20 := by
  induction l generalizing f with
  | nil => exact ⟨hf, le_refl f, by simp⟩
  | cons x l ih =>
    obtain ⟨d, sh⟩ := x
    have habs : (if d < 0 then -d else d) = |d| := by
      split
      case isTrue h => exact (abs_of_neg h).symm
      case isFalse h => exact (abs_of_nonneg (not_lt.mp h)).symm
    simp only [trimScale, habs, List.forall_mem_cons]
    by_cases hd : |d| = 0
    · obtain ⟨h0, hle, hl⟩ := ih f hf
      rw [if_pos hd]
      exact ⟨h0, hle, by rw [hd, zero_mul]; positivity, hl⟩
    · have hpos : 0 < |d| := lt_of_le_of_ne (abs_nonneg d) (Ne.symm hd)
      obtain ⟨h0, hle, hl⟩ := ih (min f ((sh : Rat) / 20 / |d|)) (le_min hf (by positivity))
      rw [if_neg hd]
      refine ⟨h0, hle.trans (min_le_left _ _), ?_, hl⟩
      rw [mul_comm]
      exact (le_div_iff₀ hpos).mp (hle.trans (min_le_right _ _))

theorem trimFactor_bound {g : Nat} (h : g ∈ balanced s b) : 0 ≤ trimFactor b s
    ∧ |(group (integrated b s) g).integ - integMean b s| * trimFactor b s ≤ ((group (integrated b s) g).share : Rat) / 20 := by
  obtain ⟨h0, -, hl⟩ := trimScale_bound ((balanced s b).map
    (fun g => ((group (integrated b s) g).integ - integMean b s, (group (integrated b s) g).share))) 1 zero_le_one
  exact ⟨h0, hl ((group (integrated b s) g).integ - integMean b s, (group (integrated b s) g).share) (List.mem_map.mpr ⟨g, h, rfl⟩)⟩

theorem abs_trim_le {g : Nat} (hg : g < 16) (h : g ∈ groupsOn s b) :
    |(group (balanceBus b s) g).trim| ≤ ((group (balanceBus b s) g).share : Rat) / 20 := by
  rw [trim_balanceBus hg h]
  split
  case isTrue hb =>
    obtain ⟨h0, hle⟩ := trimFactor_bound hb
    have hsh : (group (balanceBus b s) g).share = (group (integrated b s) g).share :=
      (group_balanceBus_keeps Group.share (fun _ _ _ _ _ => rfl) g).trans (group_integrated_keeps Group.share (fun _ _ _ _ _ => rfl) g).symm
    rw [abs_mul, abs_of_nonneg h0, hsh]
    exact hle
  case isFalse =>
    rw [abs_zero]
    positivity

end Sys2Proof.Machine

end

section

/-! SUPPORT. The 1 ms division of every bus (R151, R152, R154) and the trim at its bound. -/

namespace Sys2Proof.Machine

/-! ### A trim at its bound (R152) -/

theorem group_raiseMtx (f : Fld) (s : State) (g : Nat) : group (raiseMtx f s) g = group s g := by
  rw [group, raiseMtx_mtx]
  rfl

/-- The mark of a saturated trim is all that BALSAT changes in a group. -/
theorem group_balanceSat_keeps {α : Type} (p : Group → α) (hp : ∀ (k : Group) sf, p { k with satFlag := sf } = p k) (j : Nat) (s : State)
    (g : Nat) : p (group (balanceSat j s) g) = p (group s g) := by
  unfold balanceSat
  dsimp only
  split
  · split
    · rw [group_raiseMtx, group_onGroup_keeps p fun k => hp k true]
    · rfl
  · rfl

theorem msAt_balanceSat (j : Nat) (s : State) : (balanceSat j s).mtx.msAt = s.mtx.msAt := by
  unfold balanceSat
  dsimp only
  split
  · split
    · rw [raiseMtx_mtx]
      rfl
    · rfl
  · rfl

theorem does_balanceSaturated (s : State) (g : Fin 16) {u : Nat} (hu : (group s g).satSince = some u) (ht : 20000 ≤ sinceT s u)
    (hf : (group s g).satFlag = false) :
    Does (.balanceSaturated g) s (fun t => (group t g).satFlag = true ∧ rget t F.MTX_FLAGS_BALSAT = 1) := by
  have hrun : balanceSat g s = raiseMtx F.MTX_FLAGS_BALSAT (onGroup g (fun k => { k with satFlag := true }) s) := by
    simp [balanceSat, hu, ht, hf]
  refine ⟨_, rfl, ?_⟩
  rw [hrun]
  beta_reduce
  rw [group_raiseMtx, group_onGroup_self _ _ _ g.isLt]
  exact ⟨rfl, rget_raiseMtx_self (by decide) (by decide) _⟩

/-! ### The buses one after the other -/

section

variable {s : State} {b : Nat}

/-- The division and the balancing loop of one bus. -/
def divideBus (b : Nat) (s : State) : State := balanceBus b (shareBus b s)

theorem onlyGroups_divideBus : OnlyGroups s (divideBus b s) := onlyGroups_shareBus.trans onlyGroups_balanceBus

/-- A group as one bus holds it; none where it is not on that bus. -/
def groupOnBus (b g : Nat) (s : State) : Option Group := if groupBus s g = some b then some (group s g) else none

theorem groupOnBus_divideBus {i : Nat} (h : i ≠ b) (g : Nat) : groupOnBus b g (divideBus i s) = groupOnBus b g s := by
  unfold groupOnBus
  rw [onlyGroups_divideBus.groupBus]
  split
  case isTrue hb =>
    have hn : ∀ t, OnlyGroups s t → g ∉ groupsOn t i := fun t ht hm => by
      obtain ⟨-, hi⟩ := mem_groupsOn.mp hm
      rw [ht.groupBus, hb] at hi
      exact h (Option.some.inj hi).symm
    rw [divideBus, group_balanceBus_of_notMem (hn _ onlyGroups_shareBus), group_shareBus_of_notMem (hn _ (.refl s))]
  case isFalse => rfl

theorem onlyGroups_eachUpTo {f : Nat → State → State} (h : ∀ i t, OnlyGroups t (f i t)) (n : Nat) (s : State) :
    OnlyGroups s (eachUpTo n f s) := onlyGroups_foldl (fun t i => h i t) _ s

theorem onlyGroups_divided (n : Nat) (s : State) : OnlyGroups s (eachUpTo n divideBus s) :=
  onlyGroups_eachUpTo (fun _ _ => onlyGroups_divideBus) n s

theorem groupOnBus_inj {t : State} (ht : OnlyGroups s t) {u : State} (hu : OnlyGroups s u) {g : Nat} (hg : g ∈ groupsOn s b)
    (h : groupOnBus b g t = groupOnBus b g u) : group t g = group u g := by
  obtain ⟨-, hb⟩ := mem_groupsOn.mp hg
  simpa [groupOnBus, ht.groupBus, hu.groupBus, hb] using h

/-- The turns of the other buses leave the groups of a bus: they stand as its own turn left them. -/
theorem group_divided {N g : Nat} (hb : b < N) (hg : g ∈ groupsOn s b) :
    group (eachUpTo N divideBus s) g = group (divideBus b (eachUpTo b divideBus s)) g :=
  groupOnBus_inj (onlyGroups_divided N s) ((onlyGroups_divided b s).trans onlyGroups_divideBus) hg
    (eachUpTo_at (groupOnBus b g) hb divideBus s fun _ _ _ hne => groupOnBus_divideBus hne g)

theorem group_before_turn {g : Nat} (hg : g ∈ groupsOn s b) : group (eachUpTo b divideBus s) g = group s g :=
  groupOnBus_inj (onlyGroups_divided b s) (.refl s) hg
    (eachUpTo_frame (groupOnBus b g) b divideBus s fun _ _ hi => groupOnBus_divideBus (Nat.ne_of_lt hi) g)

end

/-! ### The figures of a bus come from its own groups -/

section

variable {s t : State} {b : Nat}

theorem gPav_congr {j : Nat} (h : group t j = group s j) : gPav t j = gPav s j := by rw [gPav, gPav, h]

theorem pavSum_congr {l : List Nat} (h : ∀ j ∈ l, group t j = group s j) :
    l.foldl (fun a j => a + gPav t j) 0 = l.foldl (fun a j => a + gPav s j) 0 :=
  List.foldl_ext _ _ _ fun a j hj => by rw [gPav_congr (h j hj)]

theorem grantRaw_congr (ht : OnlyGroups s t) (hg : ∀ j ∈ groupsOn s b, group t j = group s j) : grantRaw t b = grantRaw s b := by
  rw [grantRaw, grantRaw, ht.groupsOn, List.filter_congr fun j hj => by rw [hg j hj]]
  exact pavSum_congr fun j hj => hg j (List.mem_of_mem_filter hj)

theorem busTarget_congr (ht : OnlyGroups s t) (hg : ∀ j ∈ groupsOn s b, group t j = group s j) : busTarget t b = busTarget s b := by
  simp only [busTarget, grantRaw_congr ht hg, ht.same (busKind · b), ht.same (busV · b), ht.same (busSt · b)]

theorem shareCap_congr (ht : OnlyGroups s t) {g : Nat} (hg : group t g = group s g) : shareCap t g b = shareCap s g b := by
  simp only [shareCap, gPav_congr hg, ht.same (busV · b), ht.same (mGirated · g)]

/-- The share of a group on a bus with power. -/
theorem fairShare_eq {i g : Nat} (hp : 0 < (groupsOn s b).foldl (fun a j => a + gPav s j) 0) : fairShare s b i (groupsOn s b) g =
    min (shareCap s g b) (i * gPav s g / (groupsOn s b).foldl (fun a j => a + gPav s j) 0) :=
  if_neg hp.ne'

theorem fairShare_congr (ht : OnlyGroups s t) (hg : ∀ j ∈ groupsOn s b, group t j = group s j) {g : Nat} (h : g ∈ groupsOn s b) (i : Nat) :
    fairShare t b i (groupsOn t b) g = fairShare s b i (groupsOn s b) g := by
  simp only [fairShare, ht.groupsOn, pavSum_congr hg, shareCap_congr ht (hg g h), gPav_congr (hg g h)]

end

/-! ### The 1 ms division (R151, R152, R154) -/

section

variable (s : State)

/-- The tempo of the division is noted, the buses are divided, and the trims are looked at. -/
def msDivided : State := eachUpTo (mNgroup s) balanceSat (eachUpTo (mNbus s) divideBus { s with mtx.msAt := some s.tmp.now })

/-- Whether the division is due: once in a tempo of a cabinet with a 1 ms boundary, outside MATE. -/
def DivisionDue : Prop := isCabinet s = true ∧ s.tmp.running = true ∧ crossesAt s 1000000 0 = true ∧ s.mtx.msAt ≠ some s.tmp.now
  ∧ s.saf.st ≠ .mate

variable {s}

theorem msUpdate_of_due (h : DivisionDue s) : msUpdate s = if inCheck s then
    eachUpTo (mNgroup s) (fun g t => onGroup g (fun k => { k with limit := 0, trim := 0 }) t) (msDivided s) else msDivided s := by
  obtain ⟨hcab, hrun, hms, hat, hst⟩ := h
  exact if_pos (by simp [hcab, hrun, hms, hat, hst])

/-- The state in which the turn of bus b finds the division. -/
def beforeTurn (b : Nat) (s : State) : State := eachUpTo b divideBus { s with mtx.msAt := some s.tmp.now }

theorem onlyGroups_beforeTurn (b : Nat) (s : State) : OnlyGroups { s with mtx.msAt := some s.tmp.now } (beforeTurn b s) :=
  onlyGroups_divided b _

theorem group_beforeTurn {b j : Nat} (hj : j ∈ groupsOn s b) : group (beforeTurn b s) j = group s j :=
  group_before_turn (s := { s with mtx.msAt := some s.tmp.now }) hj

/-- After the division a group of a bus stands as the turn of its bus left it, but for the mark of a saturated trim. -/
theorem group_msDivided {b g : Nat} (hb : b < mNbus s) (hg : g ∈ groupsOn s b) {α : Type} (p : Group → α)
    (hp : ∀ (k : Group) sf, p { k with satFlag := sf } = p k := by exact fun _ _ => rfl) :
    p (group (msDivided s) g) = p (group (divideBus b (beforeTurn b s)) g) := by
  rw [msDivided, eachUpTo_frame (fun t => p (group t g)) _ _ _ fun j t _ => group_balanceSat_keeps p hp j t g,
    group_divided (s := { s with mtx.msAt := some s.tmp.now }) hb hg]
  rfl

theorem msAt_msDivided : (msDivided s).mtx.msAt = some s.tmp.now := by
  rw [msDivided, eachUpTo_frame (·.mtx.msAt) _ _ _ fun j t _ => msAt_balanceSat j t]
  exact (onlyGroups_divided _ _).same (·.mtx.msAt)

section

variable {b g : Nat} (hb : b < mNbus s) (hn : mNgroup s ≤ 16)

include hb hn

/-- The trims of a bus sum to zero after the division (R152). -/
theorem sum_trims_msDivided : ((groupsOn s b).map (fun j => (group (msDivided s) j).trim)).sum = 0 := by
  have hon : groupsOn (shareBus b (beforeTurn b s)) b = groupsOn s b := ((onlyGroups_beforeTurn b s).trans onlyGroups_shareBus).groupsOn b
  have hsum := sum_trims (s := shareBus b (beforeTurn b s)) (b := b)
    ((((onlyGroups_beforeTurn b s).trans onlyGroups_shareBus).same mNgroup).trans_le hn)
  rw [hon] at hsum
  rw [List.map_congr_left fun j hj => group_msDivided hb hj Group.trim]
  exact hsum

variable (hg : g ∈ groupsOn s b)

include hg

/-- Each trim is within 5 % of its share after the division (R152). -/
theorem abs_trim_msDivided : |(group (msDivided s) g).trim| ≤ ((group (msDivided s) g).share : Rat) / 20 := by
  have hon : g ∈ groupsOn (shareBus b (beforeTurn b s)) b := by
    rw [((onlyGroups_beforeTurn b s).trans onlyGroups_shareBus).groupsOn]
    exact hg
  rw [group_msDivided hb hg Group.trim, group_msDivided hb hg Group.share]
  exact abs_trim_le ((mem_groupsOn.mp hg).1.trans_le hn) hon

/-- On a bus with no operation the division gives a group the voltage of the request and its share as limit (R151). -/
theorem steady_msDivided (hst : ∀ j ∈ groupsOn s b, (group s j).step = .none) : (group (msDivided s) g).vset = (busSt s b).volt
    ∧ (group (msDivided s) g).limit = fairShare s b (busTarget s b) (groupsOn s b) g := by
  have ht := onlyGroups_beforeTurn b s
  have hgrp : ∀ j ∈ groupsOn s b, group (beforeTurn b s) j = group s j := fun j hj => group_beforeTurn hj
  have hon : groupsOn (beforeTurn b s) b = groupsOn s b := ht.groupsOn b
  obtain ⟨hv, hl⟩ := group_shareBus_of_steady (s := beforeTurn b s) (b := b) (g := g) ((ht.same mNgroup).trans_le hn) (by rw [hon]; exact hg)
    (fun j hj => by rw [hon] at hj; rw [hgrp j hj]; exact hst j hj)
  rw [group_msDivided hb hg Group.vset, group_msDivided hb hg Group.limit, divideBus,
    group_balanceBus_keeps Group.vset fun _ _ _ _ _ => rfl, group_balanceBus_keeps Group.limit fun _ _ _ _ _ => rfl, hv, hl,
    busTarget_congr ht hgrp, fairShare_congr ht hgrp hg]
  exact ⟨ht.same (busSt · b) ▸ rfl, rfl⟩

end

theorem does_balanceUpdate_run (b : Fin 8) (g : Fin 16) (h : DivisionDue s) (hc : inCheck s = false) (hb : b.val < mNbus s) (hn : mNgroup s ≤ 16)
    (hg : g.val ∈ groupsOn s b) : Does .balanceUpdate s (fun t => t.mtx.msAt = some s.tmp.now
      ∧ ((groupsOn s b).map (fun j => (group t j).trim)).sum = 0
      ∧ 20 * (group t g).trim ≤ ((group t g).share : Rat) ∧ -20 * (group t g).trim ≤ ((group t g).share : Rat)
      ∧ ((groupsOn s b).all (fun j => (group s j).step == .none) = true → (group t g).vset = (busSt s b).volt
        ∧ (0 < (groupsOn s b).foldl (fun a j => a + gPav s j) 0 → (group t g).limit =
            min (shareCap s g b) (busTarget s b * gPav s g / (groupsOn s b).foldl (fun a j => a + gPav s j) 0)))) := by
  have hrun : msUpdate s = msDivided s := by rw [msUpdate_of_due h, hc, if_neg Bool.false_ne_true]
  obtain ⟨hlo, hhi⟩ := abs_le.mp (abs_trim_msDivided hb hn hg)
  refine ⟨_, rfl, ?_⟩
  rw [hrun]
  refine ⟨msAt_msDivided, sum_trims_msDivided hb hn, by linarith, by linarith, fun hall => ?_⟩
  obtain ⟨hv, hl⟩ := steady_msDivided hb hn hg fun j hj => by simpa using List.all_eq_true.mp hall j hj
  exact ⟨hv, fun hp => hl.trans (fairShare_eq hp)⟩

/-- In CHECK every group goes to 0 A (R154). -/
theorem group_zeroed {n g : Nat} (hn : g < n) (hg : g < 16) (u : State) :
    (group (eachUpTo n (fun g t => onGroup g (fun k => { k with limit := 0, trim := 0 }) t) u) g).limit = 0
      ∧ (group (eachUpTo n (fun g t => onGroup g (fun k => { k with limit := 0, trim := 0 }) t) u) g).trim = 0 := by
  rw [eachUpTo_at (group · g) hn _ u fun i t _ hne => group_onGroup_ne _ _ _ _ (Ne.symm hne), group_onGroup_self _ _ _ hg]
  exact ⟨rfl, rfl⟩

theorem does_balanceUpdate_check (g : Fin 16) (h : DivisionDue s) (hc : inCheck s = true) (hg : g.val < mNgroup s) :
    Does .balanceUpdate s (fun t => (group t g).limit = 0 ∧ (group t g).trim = 0) := by
  refine ⟨_, rfl, ?_⟩
  rw [msUpdate_of_due h, hc, if_pos rfl]
  exact group_zeroed hg g.isLt _

theorem does_balanceUpdate_not_due (h : isCabinet s = false ∨ s.tmp.running = false ∨ crossesAt s 1000000 0 = false
    ∨ s.mtx.msAt = some s.tmp.now ∨ s.saf.st = .mate) : Does .balanceUpdate s (fun t => t = s) := by
  refine ⟨_, rfl, if_neg ?_⟩
  rcases h with h | h | h | h | h <;> simp [h]

end

end Sys2Proof.Machine

end

section

/-! SUPPORT. Grants to the posts (R150, R343), and the wear counters handed on (R11, R164). -/

namespace Sys2Proof.Machine

/-! ### A frame of this module in a transmit queue -/

theorem mkFrame_lea (typ dst flags : Nat) (body : Bytes) (s : State) :
    (mkFrame typ dst flags body s).2 = { s with lea.seq := Tab.upd s.lea.seq typ (fun n => (n + 1) % 65536) } := rfl

theorem hTyp_mkFrame (typ dst flags : Nat) (body : Bytes) (s : State) (ht : typ < 16) : hTyp (mkFrame typ dst flags body s).1 = typ := by
  simp [hTyp, mkFrame, leBytes, u8]
  omega

theorem hDst_mkFrame (typ dst flags : Nat) (body : Bytes) (s : State) (hd : dst < 256) : hDst (mkFrame typ dst flags body s).1 = dst := by
  simp [hDst, mkFrame, leBytes, u8]
  omega

theorem drop_mkFrame (typ dst flags : Nat) (body : Bytes) (s : State) : (mkFrame typ dst flags body s).1.drop 8 = body := by
  simp [mkFrame, leBytes]

/-- The frames that wait at both ports. -/
def queued (s : State) : List LeadFrame := s.lea.luTx ++ s.lea.ldTx

/-- The second state differs from the first in the sequence numbers and in frames added to the queues. -/
def OnlyQueues (s t : State) : Prop :=
  ∃ q lu ld, t = { s with lea.seq := q, lea.luTx := s.lea.luTx ++ lu, lea.ldTx := s.lea.ldTx ++ ld }

theorem OnlyQueues.trans {s t u : State} (h : OnlyQueues s t) (k : OnlyQueues t u) : OnlyQueues s u := by
  obtain ⟨q, lu, ld, rfl⟩ := h
  obtain ⟨q', lu', ld', rfl⟩ := k
  exact ⟨q', lu ++ lu', ld ++ ld', by simp⟩

theorem OnlyQueues.refl (s : State) : OnlyQueues s s := ⟨s.lea.seq, [], [], by simp⟩

theorem onlyQueues_leadQueue (p : LPort) (fwd : Bool) (f : Bytes) (s : State) : OnlyQueues s (leadQueue p fwd f s) := by
  unfold leadQueue
  split
  · exact .refl s
  · cases p
    · exact ⟨s.lea.seq, [⟨hTyp f, fwd, f⟩], [], by simp⟩
    · exact ⟨s.lea.seq, [], [⟨hTyp f, fwd, f⟩], by simp⟩

theorem onlyQueues_mkFrame (typ dst flags : Nat) (body : Bytes) (s : State) : OnlyQueues s (mkFrame typ dst flags body s).2 :=
  ⟨_, [], [], by rw [mkFrame_lea, List.append_nil, List.append_nil]⟩

theorem onlyQueues_leadSend (typ dst flags : Nat) (body : Bytes) (s : State) : OnlyQueues s (leadSend typ dst flags body s) := by
  have hm := onlyQueues_mkFrame typ dst flags body s
  unfold leadSend
  dsimp only
  split
  · exact (hm.trans (onlyQueues_leadQueue _ _ _ _)).trans (onlyQueues_leadQueue _ _ _ _)
  · split <;> exact hm.trans (onlyQueues_leadQueue _ _ _ _)

theorem OnlyQueues.portOn {s t : State} (h : OnlyQueues s t) (p : LPort) : portOn t p = portOn s p := by
  obtain ⟨q, lu, ld, rfl⟩ := h
  cases p <;> rfl

theorem OnlyQueues.mem {s t : State} (h : OnlyQueues s t) {f : LeadFrame} (hf : f ∈ queued s) : f ∈ queued t := by
  obtain ⟨q, lu, ld, rfl⟩ := h
  simp only [queued, List.mem_append] at hf ⊢
  tauto

/-- A frame sent to one address waits at the port towards it. -/
theorem queued_leadSend (typ dst flags : Nat) (body : Bytes) {s : State} (hd : dst ≠ 0xFF) (hlu : portOn s .lu = true)
    (hld : portOn s .ld = true) : ∃ f ∈ queued (leadSend typ dst flags body s), f.bytes = (mkFrame typ dst flags body s).1 := by
  have hm := onlyQueues_mkFrame typ dst flags body s
  have hlu' := (hm.portOn .lu).trans hlu
  have hld' := (hm.portOn .ld).trans hld
  refine ⟨⟨hTyp (mkFrame typ dst flags body s).1, false, (mkFrame typ dst flags body s).1⟩, ?_, rfl⟩
  simp only [leadSend, if_neg hd]
  split <;> simp [queued, leadQueue, hlu', hld']

/-! ### The grants (R150, R343) -/

section

variable {s : State}

/-- Whether GRANTs are due: every 20 tempos once, or at once where a grant has fallen. -/
def GrantDue (s : State) : Prop := isCabinet s = true ∧ s.tmp.running = true
  ∧ (s.tmp.now % 20 = 0 ∧ s.lea.grantAt ≠ some s.tmp.now ∨ s.lea.grantNow = true)

/-- The GRANTs of a list of posts, sent one after the other. -/
def grantsSent (s : State) (l : List Nat) (u : State) : State := l.foldl (fun t a => leadSend tyCmd a 0 (cmdBody 2 (grantBody s a)) t) u

theorem onlyQueues_grantsSent (l : List Nat) (u : State) : OnlyQueues u (grantsSent s l u) := by
  induction l generalizing u with
  | nil => exact .refl u
  | cons a l ih => exact (onlyQueues_leadSend _ _ _ _ u).trans (ih _)

/-- Every post of the list has its GRANT in a queue. -/
theorem queued_grantsSent {l : List Nat} {post : Nat} (hp : post ∈ l) (hd : post < 0xFF) {u : State} (hlu : portOn u .lu = true)
    (hld : portOn u .ld = true) : ∃ f ∈ queued (grantsSent s l u),
      hTyp f.bytes = tyCmd ∧ hDst f.bytes = post ∧ f.bytes.drop 8 = cmdBody 2 (grantBody s post) := by
  induction l generalizing u with
  | nil => cases hp
  | cons a l ih =>
    rcases List.mem_cons.mp hp with rfl | hl
    · obtain ⟨f, hf, hb⟩ := queued_leadSend tyCmd post 0 (cmdBody 2 (grantBody s post)) (Nat.ne_of_lt hd) hlu hld
      refine ⟨f, (onlyQueues_grantsSent l _).mem hf, ?_⟩
      rw [hb]
      exact ⟨hTyp_mkFrame _ _ _ _ _ (by decide), hDst_mkFrame _ _ _ _ _ (by omega), drop_mkFrame _ _ _ _ _⟩
    · have hq := onlyQueues_leadSend tyCmd a 0 (cmdBody 2 (grantBody s a)) u
      exact ih hl ((hq.portOn .lu).trans hlu) ((hq.portOn .ld).trans hld)

theorem does_grantSend_due {post : Nat} (hp : post ∈ posts s) (h : GrantDue s) (hd : post < 0xFF) (hlu : portOn s .lu = true)
    (hld : portOn s .ld = true) : Does .grantSend s (fun t => t.lea.grantNow = false ∧ t.lea.grantAt = some s.tmp.now
      ∧ ∃ f ∈ t.lea.luTx ++ t.lea.ldTx, hTyp f.bytes = tyCmd ∧ hDst f.bytes = post ∧ f.bytes.drop 8 = cmdBody 2 (grantBody s post)) := by
  obtain ⟨q, lu, ld, hq⟩ := onlyQueues_grantsSent (s := s) (posts s) { s with lea.grantNow := false, lea.grantAt := some s.tmp.now }
  refine ⟨grantsSent s (posts s) { s with lea.grantNow := false, lea.grantAt := some s.tmp.now }, congrArg Host.Outcome.next (if_pos h),
    ?_, ?_, queued_grantsSent hp hd hlu hld⟩ <;> rw [hq]

theorem does_grantSend_not_due (h : isCabinet s = false ∨ s.tmp.running = false
    ∨ ((s.tmp.now % 20 ≠ 0 ∨ s.lea.grantAt = some s.tmp.now) ∧ s.lea.grantNow = false)) : Does .grantSend s (fun t => t = s) := by
  refine ⟨_, rfl, if_neg ?_⟩
  rintro ⟨hcab, hrun, hdue⟩
  rcases h with h | h | ⟨htime, hnow⟩
  · exact Bool.false_ne_true (h.symm.trans hcab)
  · exact Bool.false_ne_true (h.symm.trans hrun)
  · rcases hdue with ⟨hmod, hat⟩ | hn
    · exact htime.elim (fun e => e hmod) (fun e => hat e)
    · exact Bool.false_ne_true (hnow.symm.trans hn)

end

/-! ### Wear counters handed on (R11, R164) -/

section

variable (s : State) (c : Fin 64)

theorem does_wearPersist_dirty (h : (coil s c).dirty = true) : Does (.wearPersist c) s (fun t =>
    t.saf.outbox = s.saf.outbox ++ [.wear (wearBytes s ((s.saf.wearMade + 1) % 2 ^ 32))]
      ∧ t.saf.wearMade = (s.saf.wearMade + 1) % 2 ^ 32 ∧ (coil t c).dirty = false) := by
  have hsaf : ∀ u : State, (eachUpTo 64 (fun c t => onCoil c (fun k => { k with dirty := false }) t) u).saf = u.saf := fun u =>
    eachUpTo_frame (·.saf) 64 _ u fun _ _ _ => rfl
  have hclean : ∀ u : State, (coil (eachUpTo 64 (fun c t => onCoil c (fun k => { k with dirty := false }) t) u) c).dirty = false := fun u => by
    rw [eachUpTo_at (coil · c) c.isLt _ u fun _ _ _ hne => coil_onCoil_ne _ _ _ _ (Ne.symm hne), coil_onCoil_self _ _ _ c.isLt]
  refine ⟨_, congrArg Host.Outcome.next (if_pos h), ?_, ?_, hclean _⟩ <;> rw [hsaf]

theorem does_wearPersist_clean (h : (coil s c).dirty = false) : Does (.wearPersist c) s (fun t => t = s) :=
  ⟨_, rfl, if_neg (Bool.eq_false_iff.mp h)⟩

end

/-- Settles O21, clause by clause: the frames and their entries, the turn of a bus in the division, which the turns of the others leave alone,
with shares rounded down (log entry 115) and the model's form of the balancing loop (log entry 22), the GRANT of each post in a queue,
once in a tempo (log entry 191), and the record of the wear counters. -/
theorem matrixFramesAndShares : Obligations.MatrixFramesAndShares := by
  intro s bus
  refine ⟨?frame, ?once, does_pgCommandSend_not_due s bus, fun id d => does_pgStatusRx_taken id d, fun id d => does_pgStatusRx_discarded id d,
    ?divide, ?check, does_balanceUpdate_not_due, fun g u => does_balanceSaturated s g, ?grant, does_grantSend_not_due,
    does_wearPersist_dirty s, does_wearPersist_clean s⟩
  case frame =>
    intro hcab hcan hrun hms hgrp hat
    exact does_pgCommandSend_frame s bus ⟨hcab, hcan, hrun, hms, hgrp, hat⟩
  case once =>
    intro hcab hcan hrun hms hgrp hat ha
    exact does_pgCommandSend_once s bus ⟨hcab, hcan, hrun, hms, hgrp, hat⟩ ha
  case divide =>
    intro b g hcab hrun hms hat hst
    exact does_balanceUpdate_run b g ⟨hcab, hrun, hms, hat, hst⟩
  case check =>
    intro g hcab hrun hms hat hst
    exact does_balanceUpdate_check g ⟨hcab, hrun, hms, hat, hst⟩
  case grant =>
    intro post hp hcab hrun hdue
    exact does_grantSend_due hp ⟨hcab, hrun, hdue⟩

end Sys2Proof.Machine

end

section

/-! SUPPORT. The SAF mailbox (R204): what a submission leaves, and a command at its turn, its result and its engine boundary. -/

namespace Sys2Proof.Machine

/-! ### Results (R204) -/

/-- A result moves nothing of the safety controller but the event queue. -/
theorem safResult_saf (op code : Nat) (s : State) : (safResult op code s).saf = { s.saf with evq := (safResult op code s).saf.evq } := by
  unfold safResult
  dsimp only
  split
  · rfl
  · exact raiseData_saf 0 _ _ _

theorem rget_safResult (op code : Nat) (s : State) :
    rget (safResult op code s) F.SAF_MBSTAT_RESULT = code % 256 ∧ rget (safResult op code s) F.SAF_MBSTAT_LASTOP = op % 256 := by
  have hput : rget (rput F.SAF_MBSTAT_LASTOP op (rput F.SAF_MBSTAT_RESULT code s)) F.SAF_MBSTAT_RESULT = code % 256
      ∧ rget (rput F.SAF_MBSTAT_LASTOP op (rput F.SAF_MBSTAT_RESULT code s)) F.SAF_MBSTAT_LASTOP = op % 256 :=
    ⟨(rget_rput_ne _ _ _ _ (by decide)).trans (rget_rput_self ..), rget_rput_self ..⟩
  unfold safResult
  dsimp only
  split
  · exact hput
  · simp only [raiseSaf, raise]
    rw [rget_raiseData_ne _ _ _ _ _ (by decide) (by decide) (by decide), rget_raiseData_ne _ _ _ _ _ (by decide) (by decide) (by decide)]
    exact hput

/-- The result OK writes SAF_MBSTAT alone. -/
theorem rget_safResult_ok {f : Fld} (hr : fkey f ≠ fkey F.SAF_MBSTAT_RESULT) (ho : fkey f ≠ fkey F.SAF_MBSTAT_LASTOP) (op : Nat) (s : State) :
    rget (safResult op 0 s) f = rget s f := (rget_rput_ne _ _ _ _ ho).trans (rget_rput_ne _ _ _ _ hr)

/-! ### Submission (R204) -/

theorem safDataPut_saf (p : Bytes) (s : State) : (safDataPut p s).saf = s.saf := by
  refine eachUpTo_frame State.saf _ _ _ fun k t _ => ?_
  split <;> rfl

section

variable {c : Instr} {s : State} {op len : Nat} {p : Bytes} (hc : exec c s = .next (safSubmit op len (safDataPut p s)))

include hc

theorem does_safSubmit_queued (hl : len ≤ 128) (hm : s.saf.mbox.length < 8) :
    Does c s (fun t => t.saf.mbox = s.saf.mbox ++ [⟨op, len, safData (safDataPut p s) len⟩]) := by
  refine ⟨_, hc, ?_⟩
  rw [safSubmit, if_neg (by omega), safDataPut_saf, if_neg (by omega)]

theorem does_safSubmit_long (hl : 128 < len) (ho : op < 256) :
    Does c s (fun t => t.saf.mbox = s.saf.mbox ∧ rget t F.SAF_MBSTAT_RESULT = 9 ∧ rget t F.SAF_MBSTAT_LASTOP = op) := by
  refine ⟨_, hc, ?_⟩
  rw [safSubmit, if_pos hl]
  beta_reduce
  rw [safResult_saf, rsat_saf, safDataPut_saf]
  obtain ⟨hres, hop⟩ := rget_safResult op 9 (rsat F.SAF_LENERR_COUNT 1 (safDataPut p s))
  exact ⟨rfl, hres, hop.trans (Nat.mod_eq_of_lt ho)⟩

theorem does_safSubmit_full (hl : len ≤ 128) (hm : 8 ≤ s.saf.mbox.length) :
    Does c s (fun t => t.saf.mbox = s.saf.mbox ∧ rget t F.SAF_FLAGS_MBFULL = 1) := by
  refine ⟨_, hc, ?_⟩
  rw [safSubmit, if_neg (by omega), safDataPut_saf, if_pos hm]
  refine ⟨?_, rget_raiseData_flag 0 _ _ _ (by decide) (by decide) (by decide)⟩
  rw [raiseSaf_saf_mbox, safDataPut_saf]

end

/-! ### A command at its turn (R204) -/

/-- A command whose LEN is the table's has its effect with the head taken from the queue. -/
theorem safCommand_run_taken {s : State} {op want : Nat} {f : Bytes → State → State} {c : MbCmd} (hc : safTurn s op = some c) (hl : c.len = want)
    (len : Nat) (p : Bytes) : safCommand op want f .run len p s = f c.payload (safPop s) := by
  simp only [safCommand, hc, hl, if_true]

theorem safCommand_run_badLen {s : State} {op want : Nat} {f : Bytes → State → State} {c : MbCmd} (hc : safTurn s op = some c) (hl : c.len ≠ want)
    (len : Nat) (p : Bytes) : safCommand op want f .run len p s = safResult op 2 (safPop s) := by
  simp only [safCommand, hc, if_neg hl]

/-- The head is gone and the result stands. -/
theorem popped_safResult {op code : Nat} (ho : op < 256) (hc : code < 256) {s u : State} (hu : u.saf.mbox = s.saf.mbox.drop 1) :
    rget (safResult op code u) F.SAF_MBSTAT_RESULT = code ∧ rget (safResult op code u) F.SAF_MBSTAT_LASTOP = op
      ∧ (safResult op code u).saf.mbox = s.saf.mbox.drop 1 := by
  obtain ⟨hres, hop⟩ := rget_safResult op code u
  refine ⟨hres.trans (Nat.mod_eq_of_lt hc), hop.trans (Nat.mod_eq_of_lt ho), ?_⟩
  rw [safResult_saf]
  exact hu

theorem does_safCommand_badLen {i : Instr} {s : State} {op want len : Nat} {f : Bytes → State → State} {p : Bytes} {c : MbCmd}
    (hi : exec i s = .next (safCommand op want f .run len p s)) (ho : op < 256) (hc : safTurn s op = some c) (hl : c.len ≠ want) :
    Does i s (fun t => rget t F.SAF_MBSTAT_RESULT = 2 ∧ rget t F.SAF_MBSTAT_LASTOP = op ∧ t.saf.mbox = s.saf.mbox.drop 1) :=
  ⟨_, hi.trans (congrArg _ (safCommand_run_badLen hc hl len p)), popped_safResult ho (by decide) rfl⟩

theorem does_safCommand {i : Instr} {s : State} {op want len : Nat} {f : Bytes → State → State} {p : Bytes} {c : MbCmd} {P : State → Prop}
    (hi : exec i s = .next (safCommand op want f .run len p s)) (hc : safTurn s op = some c) (hl : c.len = want)
    (hP : P (f c.payload (safPop s))) : Does i s P :=
  ⟨_, hi.trans (congrArg _ (safCommand_run_taken hc hl len p)), hP⟩

end Sys2Proof.Machine

end

section

/-! SUPPORT. FLAGCLR and IENSET of a mailbox: the flags and the counter that a mask clears (R32, R37, R41), and the enables (R79). -/

namespace Sys2Proof.Machine

/-! ### Clearing by mask -/

/-- Fields of different registers have different keys. -/
theorem fkey_ne_of_addr {f g : Fld} (ha : f.addr ≠ g.addr) (hf : f.lo < 32) (hg : g.lo < 32) : fkey f ≠ fkey g := by
  unfold fkey
  omega

theorem fkey_at (f : FldRow) (a : Nat) : fkey (f.at a) = a * 32 + f.lo := rfl

/-- One field of a register looked at by a clearing mask. -/
def clearField (a mask : Nat) (t : State) (f : FldRow) : State :=
  if f.acc == .w1c then rput (f.at a) (clearBits (rget t (f.at a)) (field mask f.lo f.width)) t else t

theorem clearFlags_eq (a : Nat) (fl : List FldRow) (mask : Nat) (s : State) : clearFlags a fl mask s =
    if hasClr fl && mask.testBit 31 then rput ⟨a, 0, 16, 0⟩ 0 (fl.foldl (clearField a mask) s) else fl.foldl (clearField a mask) s := rfl

theorem clearField_saf (a mask : Nat) (t : State) (f : FldRow) : (clearField a mask t f).saf = t.saf := by
  unfold clearField
  split <;> rfl

theorem clearFields_saf (a mask : Nat) (fl : List FldRow) (s : State) : (fl.foldl (clearField a mask) s).saf = s.saf := by
  induction fl generalizing s with
  | nil => rfl
  | cons g l ih => exact (ih _).trans (clearField_saf a mask s g)

theorem clearFlags_saf (a : Nat) (fl : List FldRow) (mask : Nat) (s : State) : (clearFlags a fl mask s).saf = s.saf := by
  rw [clearFlags_eq]
  split <;> exact clearFields_saf a mask fl s

/-- Fields at other bits are left alone. -/
theorem rget_clearFields_of_notMem (a mask : Nat) {fl : List FldRow} {f : FldRow} (h : f.lo ∉ fl.map (·.lo)) (s : State) :
    rget (fl.foldl (clearField a mask) s) (f.at a) = rget s (f.at a) := by
  induction fl generalizing s with
  | nil => rfl
  | cons g l ih =>
    obtain ⟨hg, hl⟩ := not_or.mp (List.mem_cons.not.mp h)
    rw [List.foldl_cons, ih hl]
    unfold clearField
    split
    · have hne : f.lo ≠ g.lo := hg
      exact rget_rput_ne _ _ _ _ (by rw [fkey_at, fkey_at]; omega)
    · rfl

/-- A W1C field of a register whose fields lie at distinct bits loses the bits of the mask. -/
theorem rget_clearFields_w1c (a mask : Nat) {fl : List FldRow} (hd : (fl.map (·.lo)).Nodup) {f : FldRow} (hf : f ∈ fl) (hw : f.acc = .w1c)
    (s : State) : rget (fl.foldl (clearField a mask) s) (f.at a)
      = clearBits (rget s (f.at a)) (field mask f.lo f.width) % 2 ^ f.width := by
  induction fl generalizing s with
  | nil => cases hf
  | cons g l ih =>
    obtain ⟨hg, hl⟩ := List.nodup_cons.mp hd
    rw [List.foldl_cons]
    rcases List.mem_cons.mp hf with rfl | hmem
    · rw [rget_clearFields_of_notMem a mask hg, clearField, if_pos (beq_iff_eq.mpr hw)]
      exact rget_rput_self _ _ _
    · have hne : f.lo ≠ g.lo := fun e => hg (List.mem_map.mpr ⟨f, hmem, e⟩)
      rw [ih hl hmem, show rget (clearField a mask s g) (f.at a) = rget s (f.at a) from
        rget_clearFields_of_notMem (fl := [g]) a mask (by simpa using hne) s]

/-- A flag of one bit is cleared where the mask has a 1 (R37). -/
theorem clearBits_flag {x : Nat} (hx : x < 2) (mask lo : Nat) : clearBits x (field mask lo 1) % 2 ^ 1 = if mask.testBit lo then 0 else x := by
  have hb : field mask lo 1 = (mask.testBit lo).toNat := (Nat.toNat_testBit mask lo).symm
  rw [hb]
  interval_cases x <;> cases mask.testBit lo <;> rfl

theorem rget_clearFlags_flag {a : Nat} {fl : List FldRow} (ha : regFields a = some fl) (hc : hasClr fl = false) {f : FldRow} (hf : f ∈ fl)
    (hw : f.acc = .w1c) (h1 : f.width = 1) {s : State} (hs : rget s (f.at a) < 2) (mask : Nat) :
    rget (clearFlags a fl mask s) (f.at a) = if mask.testBit f.lo then 0 else rget s (f.at a) := by
  rw [clearFlags_eq, hc, Bool.false_and, if_neg Bool.false_ne_true, rget_clearFields_w1c a mask (regFields_distinct a fl ha).1 hf hw, h1,
    clearBits_flag hs]

/-- A 1 at CLR clears the count (R41). -/
theorem rget_clearFlags_count {a : Nat} {fl : List FldRow} (hc : hasClr fl = true) {mask : Nat} (hm : mask.testBit 31 = true) (s : State) :
    rget (clearFlags a fl mask s) ⟨a, 0, 16, 0⟩ = 0 := by
  rw [clearFlags_eq, hc, hm]
  exact rget_rput_self _ _ _

/-! ### FLAGCLR -/

/-- SAF_MBSTAT, where the result is shown, holds nothing that FLAGCLR clears. -/
theorem ne_mbstat_of_clearable {a : Nat} {fl : List FldRow} (ha : regFields a = some fl) (hc : clearable fl = true) :
    a ≠ F.SAF_MBSTAT_RESULT.addr := by
  rintro rfl
  have hnone : (regFields F.SAF_MBSTAT_RESULT.addr).all (fun fl => !clearable fl) = true := by decide +kernel
  rw [ha] at hnone
  simp [hc] at hnone

/-- The result OK of a FLAGCLR leaves the fields of the register cleared. -/
theorem rget_safResult_cleared {a : Nat} {fl : List FldRow} (ha : regFields a = some fl) (hc : clearable fl = true) {f : Fld} (hf : f.addr = a)
    (hlo : f.lo < 32) (op : Nat) (s : State) : rget (safResult op 0 s) f = rget s f := by
  have hne := hf.trans_ne (ne_mbstat_of_clearable ha hc)
  exact rget_safResult_ok (fkey_ne_of_addr hne hlo (by decide)) (fkey_ne_of_addr hne hlo (by decide)) op s

/-- FLAGCLR by cases of the register it names. The definition is unfolded as a function: with the arguments in place the kernel would
evaluate the block of an address it does not know. -/
theorem flagClr_eq_bind (blocks : List Nat) (p : Bytes) (s : State) : flagClr blocks p s =
    (regFields (0x10000000 + 0x10000 * u32 p 0 + u32 p 4)).bind fun fl =>
      if u32 p 0 ∈ blocks ∧ u32 p 4 < 0x10000 ∧ clearable fl = true then
        some (clearFlags (0x10000000 + 0x10000 * u32 p 0 + u32 p 4) fl (u32 p 8) s) else none := by
  have h : ∀ g, g = flagClr → g blocks p s = (regFields (0x10000000 + 0x10000 * u32 p 0 + u32 p 4)).bind fun fl =>
      if u32 p 0 ∈ blocks ∧ u32 p 4 < 0x10000 ∧ clearable fl = true then
        some (clearFlags (0x10000000 + 0x10000 * u32 p 0 + u32 p 4) fl (u32 p 8) s) else none := by
    intro g hg
    delta flagClr at hg
    rw [hg]
    dsimp only
    generalize regFields _ = r
    cases r <;> rfl
  exact h _ rfl

theorem flagClr_of_clearable {blocks : List Nat} {p : Bytes} {fl : List FldRow}
    (ha : regFields (0x10000000 + 0x10000 * u32 p 0 + u32 p 4) = some fl) (hb : u32 p 0 ∈ blocks) (ho : u32 p 4 < 0x10000)
    (hc : clearable fl = true) (s : State) :
    flagClr blocks p s = some (clearFlags (0x10000000 + 0x10000 * u32 p 0 + u32 p 4) fl (u32 p 8) s) := by
  rw [flagClr_eq_bind, ha, Option.bind_some, if_pos ⟨hb, ho, hc⟩]

theorem flagClr_of_otherBlock {blocks : List Nat} {p : Bytes} (hb : u32 p 0 ∉ blocks) (s : State) : flagClr blocks p s = none := by
  rw [flagClr_eq_bind, Option.bind_eq_none_iff]
  exact fun fl _ => if_neg fun h => hb h.1

/-! ### A command that names its target by block and offset -/

theorem orBadArg_some {f : Bytes → State → Option State} {p : Bytes} {s t : State} (h : f p s = some t) (op : Nat) :
    orBadArg op f p s = safResult op 0 t := by rw [orBadArg, h]

theorem orBadArg_none {f : Bytes → State → Option State} {p : Bytes} {s : State} (h : f p s = none) (op : Nat) :
    orBadArg op f p s = safResult op 2 s := by rw [orBadArg, h]

/-! ### IENSET -/

theorem ienSet_safIens {p : Bytes} {f : Fld} (hf : f ∈ safIens) (ho : u32 p 4 < 0x10000)
    (ha : f.addr = 0x10000000 + 0x10000 * u32 p 0 + u32 p 4) (s : State) : ienSet safIens p s = some (rput f (u32 p 8) s) := by
  have hfind : ∀ f ∈ safIens, safIens.find? (fun g => g.addr == f.addr) = some f := by decide
  have hfound : safIens.find? (fun g => g.addr == 0x10000000 + 0x10000 * u32 p 0 + u32 p 4 && decide (u32 p 4 < 0x10000)) = some f := by
    simp only [← ha, ho, decide_true, Bool.and_true]
    exact hfind f hf
  simp only [ienSet, hfound]

end Sys2Proof.Machine

end

section

/-! SUPPORT. The engine boundary of a SAFERESET (R410), the challenge and the token (R200), and the commands of the SAF mailbox that
leave CHECK and MATE (R170, R199). -/

namespace Sys2Proof.Machine

/-! ### The engine boundary (R410) -/

section

variable {f : Fld}

/-- The register lies in no block that a reader command writes, and is not the overflow count of the SAF event queue. -/
abbrev OffReader (f : Fld) : Prop := fieldBlock f ≠ 0x1010 ∧ fkey f ≠ fkey F.SAF_EVQOVF_COUNT

theorem OffReader.ne (hf : OffReader f) {g : Fld} (hg : fieldBlock g = 0x1010) : fkey f ≠ fkey g :=
  fun e => hf.1 ((congrArg (· / 2097152) e).trans hg)

theorem rget_raiseHfr (hf : OffReader f) {g : Fld} (hg : fieldBlock g = 0x1010) (s : State) : rget (raiseHfr [g] s) f = rget s f :=
  rget_raiseData_ne 0 _ _ _ _ (hf.ne hg) (hf.ne (by decide)) hf.2

theorem rget_originEnd (hf : OffReader f) (res k : Nat) (s : State) : rget (originEnd res k s) f = rget s f := by
  unfold originEnd hfrDone
  rw [rget_raiseHfr hf (by decide), rget_rput_ne _ _ _ _ (hf.ne (by decide)), rget_rput_ne _ _ _ _ (hf.ne (by decide)),
    rget_raiseHfr hf (by decide), rget_rput_ne _ _ _ _ (hf.ne (by decide)), rget_rput_ne _ _ _ _ (hf.ne (by decide)),
    rget_rput_ne _ _ _ _ (hf.ne (by decide))]
  rfl

theorem originEnd_saf (res k : Nat) (s : State) : (originEnd res k s).saf = { s.saf with evq := (originEnd res k s).saf.evq } := by
  unfold originEnd hfrDone raiseHfr raise
  dsimp only
  rw [raiseData_saf, rput_saf, rput_saf, raiseData_saf]
  rfl

/-- What the engine does at its boundary once the check of a port is taken from the queue. -/
def engineBoundary (i op : Nat) (s : State) : State := originTurn (chunkNext (onPort i (·.filter (· != .check op)) s))

theorem chunkNext_core (s : State) : chunkNext s = { s with key := (chunkNext s).key } := by
  unfold chunkNext
  split
  · split
    · dsimp only
      split <;> rfl
    · rfl
  · rfl

theorem originTurn_cases (s : State) : originTurn s = s ∨ ∃ k, originTurn s = originEnd (originVerdict k s.hfr.inp s) k s := by
  unfold originTurn
  split
  · split
    · exact .inr ⟨_, rfl⟩
    · exact .inl rfl
  · exact .inl rfl

theorem engineBoundary_saf (i op : Nat) (s : State) : (engineBoundary i op s).saf = { s.saf with evq := (engineBoundary i op s).saf.evq } := by
  have hsaf : ∀ u : State, (originTurn u).saf = { u.saf with evq := (originTurn u).saf.evq } := by
    intro u
    rcases originTurn_cases u with h | ⟨k, h⟩
    · rw [h]
    · rw [h]
      exact originEnd_saf _ _ _
  rw [engineBoundary, hsaf, chunkNext_core]
  rfl

theorem rget_engineBoundary (hf : OffReader f) (i op : Nat) (s : State) : rget (engineBoundary i op s) f = rget s f := by
  have hnext : rget (chunkNext (onPort i (·.filter (· != .check op)) s)) f = rget s f := by
    rw [chunkNext_core]
    rfl
  rcases originTurn_cases (chunkNext (onPort i (·.filter (· != .check op)) s)) with h | ⟨k, h⟩
  · rw [engineBoundary, h, hnext]
  · rw [engineBoundary, h, rget_originEnd hf, hnext]

end

/-- A SAFERESET whose turn has come, the engine free for it, runs and leaves the engine at a boundary (R410). -/
theorem exec_safereset_run {s : State} {c : MbCmd} (hc : safTurn s 5 = some c) (hp : portWaits 1 s = false) (len : Nat) (p : Bytes) :
    exec (.safereset .run len p) s = .next (engineBoundary 1 5 (safCommand 5 112 safeReset .run len p s)) := by
  have hrun : exec (.safereset .run len p) s
      = .next (portCheck 1 5 (Phase.run == .run && (safTurn s 5).isSome) (safCommand 5 112 safeReset .run len p) s) := rfl
  rw [hrun, portCheck, hc, hp]
  rfl

/-- While the engine is busy for another the command stands in its port (R410). -/
theorem does_safereset_waits {s : State} {c : MbCmd} (hc : safTurn s 5 = some c) (hp : portWaits 1 s = true) (len : Nat) (p : Bytes) :
    Does (.safereset .run len p) s (fun t => t.saf = s.saf) := by
  refine ⟨portCheck 1 5 (Phase.run == .run && (safTurn s 5).isSome) (safCommand 5 112 safeReset .run len p) s, rfl, ?_⟩
  have hturn : (!(Phase.run == Phase.run && (some c).isSome)) = false := rfl
  rw [portCheck, hc, hturn, if_neg Bool.false_ne_true, hp, if_pos rfl]
  split <;> rfl

/-! ### The challenge (R200) -/

theorem newChallenge_saf (s : State) : (newChallenge s).saf = { s.saf with chalAt := s.tmp.now } :=
  eachUpTo_frame State.saf _ _ _ fun _ _ _ => rfl

theorem newChallenge_freeCtr (s : State) : (newChallenge s).freeCtr = s.freeCtr + 4 := rfl

theorem does_challengeRefresh {s : State} (h : 12000000 ≤ sinceT s s.saf.chalAt) :
    Does .challengeRefresh s (fun t => t.saf.chalAt = s.tmp.now ∧ t.freeCtr = s.freeCtr + 4) := by
  refine ⟨newChallenge s, congrArg Host.Outcome.next (if_pos h), ?_, newChallenge_freeCtr s⟩
  rw [newChallenge_saf]

/-! ### SAFERESET (R200, R201) -/

theorem tokenVerdict_le (p : Bytes) (s : State) : tokenVerdict p s ≤ 6 := by
  unfold tokenVerdict
  split_ifs <;> decide

/-- The result of an attempt, with the challenge replaced and the attempt noted (R200). -/
theorem safeReset_attempt {p : Bytes} {s : State} (h : ∀ a, s.saf.lastTry = some a → 200000 ≤ sinceT s a) : safeReset p s =
    let u := newChallenge { s with saf.lastTry := some s.tmp.now }
    if tokenVerdict p s ≠ 0 then safResult 5 (tokenVerdict p s) u else tokenAccept (u32 p 4) u := by
  unfold safeReset
  cases hl : s.saf.lastTry with
  | none => rfl
  | some a => simp only [show ¬ sinceT s a < 200000 from Nat.not_lt.mpr (h a hl), decide_false, Bool.false_eq_true, if_false]

theorem safeReset_early {p : Bytes} {s : State} {a : Nat} (hl : s.saf.lastTry = some a) (h : sinceT s a < 200000) :
    safeReset p s = safResult 5 8 s := by
  simp only [safeReset, hl, h, decide_true, if_true]

/-- An attempt: the state in which its token's verdict takes effect, the challenge replaced (R200). -/
def attempted (s : State) : State := newChallenge { safPop s with saf.lastTry := some s.tmp.now }

theorem attempted_saf (s : State) :
    (attempted s).saf = { s.saf with mbox := s.saf.mbox.drop 1, mbRan := true, lastTry := some s.tmp.now, chalAt := s.tmp.now } :=
  newChallenge_saf _

theorem safCommand_attempt {s : State} {c : MbCmd} (hc : safTurn s 5 = some c) (hl : c.len = 112)
    (ha : ∀ a, s.saf.lastTry = some a → 200000 ≤ sinceT s a) (len : Nat) (p : Bytes) : safCommand 5 112 safeReset .run len p s =
      if tokenVerdict c.payload s ≠ 0 then safResult 5 (tokenVerdict c.payload s) (attempted s)
      else tokenAccept (u32 c.payload 4) (attempted s) :=
  (safCommand_run_taken hc hl len p).trans (safeReset_attempt (s := safPop s) ha)

theorem tokenAccept_waits {a : Nat} {s : State} (hl : a.testBit 0 = true) (hm : s.saf.st = .mate) :
    tokenAccept a s = { s with saf.tokenWait := some a } := if_pos ⟨hl, hm⟩

theorem tokenAccept_acts {a : Nat} {s : State} (h : a.testBit 0 = false ∨ s.saf.st = .run) :
    tokenAccept a s = { s with saf.ack := some (false, a) } := by
  rcases h with h | h <;> simp [tokenAccept, h]

theorem tokenAccept_keeps (a : Nat) (s : State) : (tokenAccept a s).saf.lastTry = s.saf.lastTry
    ∧ (tokenAccept a s).saf.chalAt = s.saf.chalAt ∧ (tokenAccept a s).saf.mbox = s.saf.mbox := by
  unfold tokenAccept
  dsimp only
  split
  · exact ⟨rfl, rfl, rfl⟩
  · split
    · rw [safResult_saf]
      exact ⟨rfl, rfl, rfl⟩
    · exact ⟨rfl, rfl, rfl⟩

section

variable {s : State} {c : MbCmd} {len : Nat} {p : Bytes} (hc : safTurn s 5 = some c) (hp : portWaits 1 s = false)

include hc hp

/-- What a SAFERESET leaves of the safety controller but its event queue, and of the registers, is what its check left. -/
theorem does_safereset {P : State → Prop} {u : State} (hu : safCommand 5 112 safeReset .run len p s = u)
    (hP : ∀ t : State, t.saf = { u.saf with evq := t.saf.evq } → (∀ f, OffReader f → rget t f = rget u f) → P t) :
    Does (.safereset .run len p) s P := by
  refine ⟨_, exec_safereset_run hc hp len p, hP _ ?_ fun f hf => ?_⟩
  · rw [hu, engineBoundary_saf]
  · rw [hu, rget_engineBoundary hf]

/-- A SAFERESET that its check answers with a result, from a state in which the head is gone. -/
theorem does_safereset_result {code : Nat} {u : State} {Q : State → Prop} (hcode : code < 256)
    (hu : safCommand 5 112 safeReset .run len p s = safResult 5 code u) (hbox : u.saf.mbox = s.saf.mbox.drop 1)
    (hQ : ∀ t : State, t.saf = { u.saf with evq := t.saf.evq } → Q t) : Does (.safereset .run len p) s (fun t =>
      rget t F.SAF_MBSTAT_RESULT = code ∧ rget t F.SAF_MBSTAT_LASTOP = 5 ∧ t.saf.mbox = s.saf.mbox.drop 1 ∧ Q t) := by
  obtain ⟨hres, hop, hpop⟩ := popped_safResult (op := 5) (by decide) hcode hbox
  refine does_safereset hc hp hu fun t hsaf hreg => ⟨?_, ?_, ?_, hQ t ?_⟩
  · rw [hreg _ (by decide), hres]
  · rw [hreg _ (by decide), hop]
  · rw [hsaf, hpop]
  · rw [hsaf, safResult_saf]

theorem does_safereset_badLen (hl : c.len ≠ 112) : Does (.safereset .run len p) s (fun t =>
    rget t F.SAF_MBSTAT_RESULT = 2 ∧ rget t F.SAF_MBSTAT_LASTOP = 5 ∧ t.saf.mbox = s.saf.mbox.drop 1) := by
  obtain ⟨t, ht, hres, hop, hbox, -⟩ := does_safereset_result (Q := fun _ => True) hc hp (by decide)
    (safCommand_run_badLen hc hl len p) rfl fun _ _ => trivial
  exact ⟨t, ht, hres, hop, hbox⟩

/-- An attempt within 10 s of the one before is RATE and no attempt (R200). -/
theorem does_safereset_rate {a : Nat} (hl : c.len = 112) (ha : s.saf.lastTry = some a) (ht : sinceT s a < 200000) :
    Does (.safereset .run len p) s (fun t => t.saf.lastTry = some a ∧ t.saf.chalAt = s.saf.chalAt
      ∧ rget t F.SAF_MBSTAT_RESULT = 8 ∧ t.saf.mbox = s.saf.mbox.drop 1) := by
  have hrun : safCommand 5 112 safeReset .run len p s = safResult 5 8 (safPop s) :=
    (safCommand_run_taken hc hl len p).trans (safeReset_early (s := safPop s) ha ht)
  obtain ⟨t, he, hres, -, hbox, htry, hchal⟩ := does_safereset_result
    (Q := fun t => t.saf.lastTry = some a ∧ t.saf.chalAt = s.saf.chalAt) hc hp (by decide) hrun rfl fun t hsaf => by
      rw [hsaf]
      exact ⟨ha, rfl⟩
  exact ⟨t, he, htry, hchal, hres, hbox⟩

/-- Every other attempt notes its instant and replaces the challenge. A token that is not accepted gives its result; an accepted one leaves
its ACTION to the edge, or in MATE with LEAVE waits for the self-test (R200, R201, R528). -/
theorem does_safereset_attempt (hl : c.len = 112) (ha : ∀ a, s.saf.lastTry = some a → 200000 ≤ sinceT s a) :
    Does (.safereset .run len p) s (fun t => t.saf.lastTry = some s.tmp.now ∧ t.saf.chalAt = s.tmp.now ∧ t.saf.mbox = s.saf.mbox.drop 1
      ∧ (tokenVerdict c.payload s ≠ 0 → rget t F.SAF_MBSTAT_RESULT = tokenVerdict c.payload s ∧ t.saf.ack = s.saf.ack)
      ∧ (tokenVerdict c.payload s = 0 → (u32 c.payload 4).testBit 0 = true → s.saf.st = .mate → t.saf.tokenWait = some (u32 c.payload 4))
      ∧ (tokenVerdict c.payload s = 0 → (u32 c.payload 4).testBit 0 = false ∨ s.saf.st = .run →
          t.saf.ack = some (false, u32 c.payload 4))) := by
  have hrun := safCommand_attempt hc hl ha len p
  have hsaf := attempted_saf s
  by_cases hv : tokenVerdict c.payload s = 0
  · rw [if_neg (not_not_intro hv)] at hrun
    refine does_safereset hc hp hrun fun t ht _ => ?_
    obtain ⟨htry, hchal, hbox⟩ := tokenAccept_keeps (u32 c.payload 4) (attempted s)
    rw [ht]
    refine ⟨htry.trans (by rw [hsaf]), hchal.trans (by rw [hsaf]), hbox.trans (by rw [hsaf]), fun h => absurd hv h, fun _ hleave hmate => ?_,
      fun _ hstay => ?_⟩
    · rw [tokenAccept_waits hleave (by rw [hsaf]; exact hmate)]
    · rw [tokenAccept_acts (hstay.imp_right fun hst => by rw [hsaf]; exact hst)]
  · rw [if_pos hv] at hrun
    obtain ⟨t, he, hres, -, hbox, htry, hchal, hack⟩ := does_safereset_result
      (Q := fun t => t.saf.lastTry = some s.tmp.now ∧ t.saf.chalAt = s.tmp.now ∧ t.saf.ack = s.saf.ack) hc hp
      (Nat.lt_of_le_of_lt (tokenVerdict_le _ _) (by decide)) hrun (by rw [hsaf]) fun t ht => by
        rw [ht, hsaf]
        exact ⟨rfl, rfl, rfl⟩
    exact ⟨t, he, htry, hchal, hbox, fun _ => ⟨hres, hack⟩, fun h => absurd h hv, fun h => absurd h hv⟩

end

end Sys2Proof.Machine

end

section

/-! O14. The commands of the SAF mailbox at their turn: FLAGCLR, IENSET, WEARRST and CHECKACK. -/

namespace Sys2Proof.Machine

section

variable {s : State} {c : MbCmd} {len : Nat} {p : Bytes}

/-- FLAGCLR clears the W1C flags under the mask, or the COUNT of a counter by a 1 at CLR (R32, R41). -/
theorem does_safFlagclr {fl : List FldRow} (hc : safTurn s 1 = some c) (hl : c.len = 12) (hb : u32 c.payload 0 ∈ safBlocks)
    (ho : u32 c.payload 4 < 0x10000) (ha : regFields (0x10000000 + 0x10000 * u32 c.payload 0 + u32 c.payload 4) = some fl)
    (hcl : clearable fl = true) : Does (.safFlagclr .run len p) s (fun t => rget t F.SAF_MBSTAT_RESULT = 0 ∧ rget t F.SAF_MBSTAT_LASTOP = 1
      ∧ t.saf.mbox = s.saf.mbox.drop 1
      ∧ (hasClr fl = true → (u32 c.payload 8).testBit 31 = true →
          rget t ⟨0x10000000 + 0x10000 * u32 c.payload 0 + u32 c.payload 4, 0, 16, 0⟩ = 0)
      ∧ (hasClr fl = false → ∀ f ∈ fl, f.acc = .w1c → f.width = 1 →
          rget s (f.at (0x10000000 + 0x10000 * u32 c.payload 0 + u32 c.payload 4)) < 2 →
          rget t (f.at (0x10000000 + 0x10000 * u32 c.payload 0 + u32 c.payload 4)) = if (u32 c.payload 8).testBit f.lo then 0
            else rget s (f.at (0x10000000 + 0x10000 * u32 c.payload 0 + u32 c.payload 4)))) := by
  have hclr := flagClr_of_clearable ha hb ho hcl (safPop s)
  generalize 0x10000000 + 0x10000 * u32 c.payload 0 + u32 c.payload 4 = a at ha hclr ⊢
  refine does_safCommand (f := orBadArg 1 (flagClr safBlocks)) rfl hc hl ?_
  rw [orBadArg_some hclr]
  obtain ⟨hres, hop, hbox⟩ := popped_safResult (op := 1) (code := 0) (s := s) (by decide) (by decide)
    (u := clearFlags a fl (u32 c.payload 8) (safPop s)) (by rw [clearFlags_saf]; rfl)
  refine ⟨hres, hop, hbox, fun hcount hm => ?_, fun hcount f hf hw h1 hs => ?_⟩
  · rw [rget_safResult_cleared ha hcl rfl (Nat.zero_lt_succ 31)]
    exact rget_clearFlags_count hcount hm _
  · have hlo : f.lo < 32 := by
      have := (regFields_distinct a fl ha).2 f hf
      omega
    rw [rget_safResult_cleared ha hcl (f := f.at a) rfl hlo]
    exact rget_clearFlags_flag ha hcount hf hw h1 (s := safPop s) hs _

theorem does_safFlagclr_badArg (hc : safTurn s 1 = some c) (hl : c.len = 12) (hb : u32 c.payload 0 ∉ safBlocks) :
    Does (.safFlagclr .run len p) s (fun t => rget t F.SAF_MBSTAT_RESULT = 2 ∧ t.saf.mbox = s.saf.mbox.drop 1) := by
  refine does_safCommand (f := orBadArg 1 (flagClr safBlocks)) rfl hc hl ?_
  rw [orBadArg_none (flagClr_of_otherBlock hb _)]
  obtain ⟨hres, -, hbox⟩ := popped_safResult (op := 1) (code := 2) (s := s) (by decide) (by decide) (u := safPop s) rfl
  exact ⟨hres, hbox⟩

/-- IENSET writes the enables (R79). -/
theorem does_safIenset {f : Fld} (hf : f ∈ safIens) (hc : safTurn s 2 = some c) (hl : c.len = 12) (ho : u32 c.payload 4 < 0x10000)
    (ha : f.addr = 0x10000000 + 0x10000 * u32 c.payload 0 + u32 c.payload 4) : Does (.safIenset .run len p) s (fun t =>
      rget t f = u32 c.payload 8 % 2 ^ f.width ∧ rget t F.SAF_MBSTAT_RESULT = 0 ∧ rget t F.SAF_MBSTAT_LASTOP = 2
        ∧ t.saf.mbox = s.saf.mbox.drop 1) := by
  have hoff : ∀ f ∈ safIens, fkey f ≠ fkey F.SAF_MBSTAT_RESULT ∧ fkey f ≠ fkey F.SAF_MBSTAT_LASTOP := by decide
  obtain ⟨hor, hol⟩ := hoff f hf
  refine does_safCommand (f := orBadArg 2 (ienSet safIens)) rfl hc hl ?_
  rw [orBadArg_some (ienSet_safIens hf ho ha _)]
  exact ⟨(rget_safResult_ok hor hol _ _).trans (rget_rput_self _ _ _), popped_safResult (by decide) (by decide) rfl⟩

/-- WEARRST clears the counters of a coil (R164). -/
theorem does_wearrst (hc : safTurn s 3 = some c) (hl : c.len = 4) (hk : u32 c.payload 0 < 64) : Does (.wearrst .run len p) s (fun t =>
    (coil t (u32 c.payload 0)).sw = 0 ∧ (coil t (u32 c.payload 0)).i2t = 0 ∧ (coil t (u32 c.payload 0)).dirty = true
      ∧ rget t F.SAF_MBSTAT_RESULT = 0 ∧ t.saf.mbox = s.saf.mbox.drop 1) := by
  refine does_safCommand (f := wearReset) rfl hc hl ?_
  rw [wearReset, if_pos hk]
  generalize u32 c.payload 0 = k at hk
  have hcoil : coil (safResult 3 0 (onCoil k (fun k => { k with sw := 0, i2t := 0, dirty := true }) (safPop s))) k
      = { coil s k with sw := 0, i2t := 0, dirty := true } := coil_onCoil_self k _ (safPop s) hk
  obtain ⟨hres, -, hbox⟩ := popped_safResult (op := 3) (code := 0) (s := s) (by decide) (by decide)
    (u := onCoil k (fun k => { k with sw := 0, i2t := 0, dirty := true }) (safPop s)) rfl
  rw [hcoil]
  exact ⟨rfl, rfl, rfl, hres, hbox⟩

/-- CHECKACK is taken under R170, and acts at the edge. -/
theorem does_checkack (hc : safTurn s 4 = some c) (hl : c.len = 0) (hst : s.saf.st = .check) (ht : 20000 ≤ sinceT s s.saf.since)
    (ha : ackConditions s = true) : Does (.checkack .run len p) s (fun t => t.saf.ack = some (true, 0) ∧ t.saf.mbox = s.saf.mbox.drop 1) := by
  refine does_safCommand (f := fun _ => checkAck) rfl hc hl ?_
  have hcond : ((safPop s).saf.st == .check && decide (20000 ≤ sinceT (safPop s) (safPop s).saf.since) && ackConditions (safPop s)) = true := by
    rw [show ackConditions (safPop s) = true from ha]
    simp only [Bool.and_true, Bool.and_eq_true, beq_iff_eq, decide_eq_true_eq]
    exact ⟨hst, ht⟩
  rw [checkAck, if_pos hcond]
  exact ⟨rfl, rfl⟩

/-- Outside R170 it is rejected with COND. -/
theorem does_checkack_cond (hc : safTurn s 4 = some c) (hl : c.len = 0)
    (hno : s.saf.st ≠ .check ∨ sinceT s s.saf.since < 20000 ∨ ackConditions s = false) : Does (.checkack .run len p) s (fun t =>
      t.saf.ack = s.saf.ack ∧ rget t F.SAF_MBSTAT_RESULT = 7 ∧ t.saf.mbox = s.saf.mbox.drop 1) := by
  refine does_safCommand (f := fun _ => checkAck) rfl hc hl ?_
  have hcond : ¬ ((safPop s).saf.st == .check && decide (20000 ≤ sinceT (safPop s) (safPop s).saf.since) && ackConditions (safPop s)) = true := by
    simp only [Bool.and_eq_true, beq_iff_eq, decide_eq_true_eq]
    rintro ⟨⟨hst, ht⟩, ha⟩
    rcases hno with h | h | h
    · exact h hst
    · exact Nat.not_le.mpr h ht
    · exact Bool.false_ne_true (h.symm.trans ha)
  rw [checkAck, if_neg hcond]
  obtain ⟨hres, -, hbox⟩ := popped_safResult (op := 4) (code := 7) (s := s) (by decide) (by decide) (u := safPop s) rfl
  refine ⟨?_, hres, hbox⟩
  rw [safResult_saf]
  rfl

end

/-- Settles O14, clause by clause: submission (R204), the commands at their turn, and the challenge and the event queue (R200, R205). What
the token's edge and the engine's boundary add is the model's reading of log entries 15, 119, 120 and 188. -/
theorem safMailboxCommands : Obligations.SafMailboxCommands := by
  intro s len p
  refine ⟨?queued, ?long, ?full, ?badFlagclr, ?badIenset, ?badWearrst, ?badCheckack, ?badSafereset, ?flagclr, ?badBlock, ?ienset, ?wearrst,
    ?checkack, ?cond, ?rate, ?attempt, ?waits, fun h => does_challengeRefresh h, ⟨_, rfl, rfl, rfl⟩⟩
  case queued =>
    intro hl hm
    exact ⟨does_safSubmit_queued rfl hl hm, does_safSubmit_queued rfl hl hm, does_safSubmit_queued rfl hl hm, does_safSubmit_queued rfl hl hm,
      does_safSubmit_queued rfl hl hm⟩
  case long =>
    intro hl
    exact ⟨does_safSubmit_long rfl hl (by decide), does_safSubmit_long rfl hl (by decide), does_safSubmit_long rfl hl (by decide),
      does_safSubmit_long rfl hl (by decide), does_safSubmit_long rfl hl (by decide)⟩
  case full =>
    intro hl hm
    exact ⟨does_safSubmit_full rfl hl hm, does_safSubmit_full rfl hl hm, does_safSubmit_full rfl hl hm, does_safSubmit_full rfl hl hm,
      does_safSubmit_full rfl hl hm⟩
  case badFlagclr => exact fun c hc hl => does_safCommand_badLen rfl (by decide) hc hl
  case badIenset => exact fun c hc hl => does_safCommand_badLen rfl (by decide) hc hl
  case badWearrst => exact fun c hc hl => does_safCommand_badLen rfl (by decide) hc hl
  case badCheckack => exact fun c hc hl => does_safCommand_badLen rfl (by decide) hc hl
  case badSafereset => exact fun c hc hl hp => does_safereset_badLen hc hp hl
  case flagclr => exact fun c fl hc hl hb ho ha hcl => does_safFlagclr hc hl hb ho ha hcl
  case badBlock => exact fun c hc hl hb => does_safFlagclr_badArg hc hl hb
  case ienset => exact fun c f hf hc hl ho ha => does_safIenset hf hc hl ho ha
  case wearrst => exact fun c hc hl hk => does_wearrst hc hl hk
  case checkack => exact fun c hc hl hst ht ha => does_checkack hc hl hst ht ha
  case cond => exact fun c hc hl hno => does_checkack_cond hc hl hno
  case rate => exact fun c a hc hl hp ha ht => does_safereset_rate hc hp hl ha ht
  case attempt => exact fun c hc hl hp ha => does_safereset_attempt hc hp hl ha
  case waits => exact fun c hc hp => does_safereset_waits hc hp len p

end Sys2Proof.Machine

end

section

/-! SUPPORT and O9. The shutdown line (R165, R166): what switching every coil off, and putting the outlets into MATE, leaves of the safety
state, and the coils that are off after it. -/

namespace Sys2Proof.Machine

/-! ### What the steps to MATE leave of the safety state -/

/-- The safety state, its hold in AON, and the rails outside their window. -/
def SafState.line (f : SafState) : SafSt × Bool × List Nat := (f.st, f.held, f.railsBad)

theorem line_raise (c : Fld) (fl : List Fld) (s : State) : (raise c fl s).saf.line = s.saf.line := by
  rw [raise, raiseData_saf]
  rfl

theorem line_safPost (a c d : Nat) (s : State) : (safPost a c d s).saf.line = s.saf.line := by
  rw [safPost, safPostAt_saf]
  rfl

theorem line_isoHalt (n : Nat) (s : State) : (isoHalt n s).saf.line = s.saf.line := by
  have hiso : ∀ f (t : State), (onIso n f t).saf.line = t.saf.line := fun _ _ => rfl
  rw [isoHalt, hiso, outCoil, coilCmd_saf, outCoil, coilCmd_saf]

theorem line_outFlush (n : Nat) (s : State) : (outFlush n s).saf.line = s.saf.line := by
  have hput : ∀ f v (t : State), (rput f v t).saf.line = t.saf.line := fun _ _ _ => rfl
  have hbegin : ∀ t : State, (isoBegin n t).saf.line = t.saf.line := fun _ => rfl
  unfold outFlush
  dsimp only [onOutlet_saf]
  simp only [apply_ite State.saf, apply_ite SafState.line, hput, hbegin, line_isoHalt, line_safPost, ite_self]
  split <;> simp only [hput, apply_ite State.saf, apply_ite SafState.line, line_raise, ite_self]

theorem line_outsTake (s : State) : (outsTake s).saf.line = s.saf.line := by
  have h : (eachUpTo 4 outFlush s).saf.line = s.saf.line := eachUpTo_frame (·.saf.line) 4 outFlush s fun n t _ => line_outFlush n t
  unfold outsTake
  exact h

theorem outMate_saf (n : Nat) (s : State) : (outMate n s).saf = s.saf := by
  have hon : ∀ f (t : State), (onOutlet n f t).saf = t.saf := fun _ _ => rfl
  unfold outMate
  simp only [apply_ite State.saf, outGo_saf, hon, sessionEvent_saf, outCause_saf, ite_self]

theorem line_outsMate (s : State) : (outsMate s).saf.line = s.saf.line := by
  rw [outsMate, line_outsTake, eachUpTo_frame State.saf 4 outMate s fun n t _ => outMate_saf n t]

theorem line_outsMateLate (s : State) : (outsMateLate s).saf.line = s.saf.line := by
  unfold outsMateLate
  split
  · rw [line_outsTake]
    refine congrArg _ (eachUpTo_frame State.saf 4 _ s fun n t _ => ?_)
    split
    · rfl
    · exact outMate_saf n t
  · rfl

/-! ### A coil driven open (R164) -/

theorem coil_rput (f : Fld) (v : Nat) (s : State) (d : Nat) : coil (rput f v s) d = coil s d := rfl

theorem coil_raise (f : Fld) (fl : List Fld) (s : State) (d : Nat) : coil (raise f fl s) d = coil s d := by
  rw [coil, raise_mtx]
  rfl

/-- A hard break shows in a flag, and is nothing more. -/
theorem hardBreak_cases (c : Nat) (s : State) : hardBreak c s = s ∨ ∃ f fl, hardBreak c s = raise f fl s := by
  unfold hardBreak
  split
  · exact .inl rfl
  · split <;> split
    · exact .inr ⟨_, _, rfl⟩
    · exact .inl rfl
    · exact .inr ⟨_, _, rfl⟩
    · exact .inl rfl

theorem coil_hardBreak (c : Nat) (s : State) (d : Nat) : coil (hardBreak c s) d = coil s d := by
  rcases hardBreak_cases c s with h | ⟨f, fl, h⟩ <;> rw [h]
  exact coil_raise f fl s d

theorem line_hardBreak (c : Nat) (s : State) : (hardBreak c s).saf.line = s.saf.line := by
  rcases hardBreak_cases c s with h | ⟨f, fl, h⟩ <;> rw [h]
  exact line_raise f fl s

/-- A coil whose drive opens, before its wear is looked at. -/
def coilOpened (c : Nat) (s : State) : State := onCoil c (fun k =>
  { k with drive := false, hard := false, since := s.tmp.now + 1, sw := min 0xFFFFFFFF (k.sw + 1),
           i2t := k.i2t + coilCurrent s c * coilCurrent s c * mArc s, dirty := true }) (hardBreak c s)

theorem coilDrive_off_cases (c : Nat) (s : State) : (coil s c).drive = false ∧ coilDrive c false s = s
    ∨ coilDrive c false s = coilOpened c s ∨ coilDrive c false s = raise F.MTX_EVCNT_COUNT [F.MTX_FLAGS_WEAR] (coilOpened c s) := by
  unfold coilDrive
  dsimp only
  split
  case isTrue hd => exact .inl ⟨hd, rfl⟩
  case isFalse =>
    rw [if_neg Bool.false_ne_true]
    split
    · exact .inr (.inr rfl)
    · exact .inr (.inl rfl)

theorem coil_coilDrive_off_ne {c d : Nat} (h : d ≠ c) (s : State) : coil (coilDrive c false s) d = coil s d := by
  have hopen : coil (coilOpened c s) d = coil s d := (coil_onCoil_ne _ _ _ _ h).trans (coil_hardBreak c s d)
  rcases coilDrive_off_cases c s with ⟨-, e⟩ | e | e <;> rw [e]
  · exact hopen
  · rw [coil_raise, hopen]

theorem drive_coilDrive_off {c : Nat} (hc : c < 64) (s : State) : (coil (coilDrive c false s) c).drive = false := by
  have hopen : (coil (coilOpened c s) c).drive = false := by rw [coilOpened, coil_onCoil_self _ _ _ hc]
  rcases coilDrive_off_cases c s with ⟨hd, e⟩ | e | e <;> rw [e]
  · exact hd
  · exact hopen
  · rw [coil_raise, hopen]

theorem line_coilDrive_off (c : Nat) (s : State) : (coilDrive c false s).saf.line = s.saf.line := by
  have hopen : (coilOpened c s).saf.line = s.saf.line := line_hardBreak c s
  rcases coilDrive_off_cases c s with ⟨-, e⟩ | e | e <;> rw [e]
  · exact hopen
  · rw [line_raise, hopen]

/-- No coil is driven. -/
def AllCoilsOff (s : State) : Prop := ∀ c : Fin 64, (coil s c).drive = false

theorem allCoilsOff_coilsOff (s : State) : AllCoilsOff (coilsOff s) := by
  intro c
  rw [coilsOff, eachUpTo_at (coil · c) c.isLt]
  · exact drive_coilDrive_off c.isLt _
  · intro i t _ hne
    rw [coil_coilDrive_off_ne hne.symm, coil_onCoil_ne _ _ _ _ hne.symm, coil_coilCmd_ne hne.symm]

theorem line_coilsOff (s : State) : (coilsOff s).saf.line = s.saf.line := by
  refine eachUpTo_frame (·.saf.line) 64 _ s fun c t _ => ?_
  rw [line_coilDrive_off]
  exact congrArg _ (coilCmd_saf c false t)

/-! ### MATE at once (R165, R166) -/

/-- MATE is in force and held in AON, with no coil driven and these rails out of their window. -/
def ShutDown (rails : List Nat) (s : State) : Prop := s.saf.line = (.mate, true, rails) ∧ AllCoilsOff s

theorem ShutDown.of_eq {rails : List Nat} {s t : State} (h : ShutDown rails s) (hs : t.saf.line = s.saf.line) (hm : t.mtx = s.mtx) :
    ShutDown rails t := ⟨hs.trans h.1, fun c => by rw [coil, hm]; exact h.2 c⟩

theorem shutDown_coilsOff {rails : List Nat} {s : State} (h : s.saf.line = (.mate, true, rails)) : ShutDown rails (coilsOff s) :=
  ⟨(line_coilsOff s).trans h, allCoilsOff_coilsOff s⟩

/-- The last step into MATE, after every coil is off. -/
theorem shutDown_safGo {st : SafSt} {rails : List Nat} {s : State} (hs : s.saf.line = (st, true, rails)) (hc : AllCoilsOff s) (code : Nat) :
    ShutDown rails (safGo .mate code s) := by
  obtain ⟨-, hrest⟩ := Prod.mk.inj hs
  obtain ⟨hheld, hrails⟩ := Prod.mk.inj hrest
  constructor
  · rw [safGo, line_safPost, raiseSaf, line_raise, SafState.line, hheld, hrails]
  · intro c
    rw [coil, safGo, safPost_mtx, raiseSaf_mtx]
    exact hc c

/-- The same done to every power group. -/
def eachGroup (f : Group → Group) (s : State) : State := eachUpTo 16 (fun g t => onGroup g f t) s

theorem eachGroup_saf (f : Group → Group) (s : State) : (eachGroup f s).saf = s.saf := eachUpTo_frame State.saf _ _ _ fun _ _ _ => rfl

theorem coil_eachGroup (f : Group → Group) (s : State) (c : Nat) : coil (eachGroup f s) c = coil s c :=
  eachUpTo_frame (coil · c) _ _ _ fun _ _ _ => rfl

/-- The same done to every safety output. -/
def eachSOut (f : SOut → SOut) (s : State) : State := eachUpTo 4 (fun x t => onSOut x f t) s

theorem line_eachSOut (f : SOut → SOut) (s : State) : (eachSOut f s).saf.line = s.saf.line :=
  eachUpTo_frame (·.saf.line) _ _ _ fun _ _ _ => rfl

/-- The steps into MATE: the safety outputs, the outlets, the coils, the groups, then the state (R167, R168). -/
theorem enterMate_steps (code : Nat) (s : State) : ∃ fo fg u, u.saf.line = (s.saf.st, true, s.saf.railsBad)
    ∧ enterMate code s = safGo .mate code (rput F.BRD_STATUS_FORCED 1 (eachGroup fg (coilsOff (outsMate (eachSOut fo u))))) := by
  unfold enterMate eachGroup eachSOut
  refine ⟨_, _, _, ?line, by with_reducible rfl⟩
  case line => rfl

theorem shutDown_enterMate (code : Nat) (s : State) : ShutDown s.saf.railsBad (enterMate code s) := by
  obtain ⟨fo, fg, u, hu, h⟩ := enterMate_steps code s
  rw [h]
  refine shutDown_safGo (st := s.saf.st) ?_ (fun c => ?_) code
  · rw [rput_saf, eachGroup_saf, line_coilsOff, line_outsMate, line_eachSOut, hu]
  · rw [coil_rput, coil_eachGroup]
    exact allCoilsOff_coilsOff _ c

/-- The line takes the module to MATE with every coil drive off, whatever safety state it fires in. -/
theorem shutDown_shutdownLine (code data : Nat) (s : State) : ShutDown s.saf.railsBad (shutdownLine code data s) := by
  have hcause : (safCause code data true s).saf.railsBad = s.saf.railsBad := by rw [safCause_saf]
  have hline : ∀ f : State → State, (oneCycle f s).saf = (f s).saf := fun f => oneCycle_frame State.saf (fun _ _ _ _ => rfl) f s
  have hmtx : ∀ f : State → State, (oneCycle f s).mtx = (f s).mtx := fun f => oneCycle_frame State.mtx (fun _ _ _ _ => rfl) f s
  refine ShutDown.of_eq ?_ (congrArg _ (hline _)) (hmtx _)
  dsimp only
  split
  case isTrue hst =>
    refine shutDown_coilsOff ?_
    rw [line_outsMateLate, SafState.line, hcause, hst]
  case isFalse =>
    have h := shutDown_enterMate code (safCause code data true s)
    rwa [hcause] at h

theorem does_shutdownLine {c : Instr} {code data : Nat} {s u : State} (hc : exec c s = .next (shutdownLine code data u)) :
    Does c s (fun t => t.saf.st = .mate ∧ t.saf.held = true ∧ (∀ c : Fin 64, (coil t c).drive = false) ∧ t.saf.railsBad = u.saf.railsBad) := by
  obtain ⟨hline, hcoils⟩ := shutDown_shutdownLine code data u
  obtain ⟨hst, hrest⟩ := Prod.mk.inj hline
  obtain ⟨hheld, hrails⟩ := Prod.mk.inj hrest
  exact ⟨_, hc, hst, hheld, hcoils, hrails⟩

/-- A detector that fires the line takes the module to MATE. -/
theorem does_detector {c : Instr} {s : State} (code data : Nat) (u : State) (hc : exec c s = .next (shutdownLine code data u)) :
    Does c s (fun t => t.saf.st = .mate ∧ t.saf.held = true ∧ ∀ c : Fin 64, (coil t c).drive = false) := by
  obtain ⟨t, ht, hst, hheld, hcoils, -⟩ := does_shutdownLine hc
  exact ⟨t, ht, hst, hheld, hcoils⟩

/-- Settles O9: every detector of the shutdown line is the line fired, in the state the detector leaves. -/
theorem shutdownLineLatchesMate : Obligations.ShutdownLineLatchesMate := by
  intro s
  refine ⟨does_detector 1 0 s rfl, does_detector 2 0 s rfl, fun single => does_detector 2 0 (if single then sramError false s else s) rfl,
    does_detector 3 0 s rfl, fun ns hhold hns => ?tempo, fun rail => ?rail⟩
  case tempo =>
    refine does_detector 5 0 s (congrArg Host.Outcome.next (if_neg ?_))
    rintro (hh | hin)
    · exact Bool.false_ne_true (hhold.symm.trans hh)
    · omega
  case rail =>
    obtain ⟨t, ht, hst, hheld, hcoils, hrails⟩ := does_shutdownLine (c := .supplyFault rail false) (s := s)
      (u := { s with saf.railsBad := rail.toNat :: s.saf.railsBad.filter (· != rail.toNat) }) rfl
    exact ⟨t, ht, hst, hheld, hcoils, by simp [hrails]⟩

end Sys2Proof.Machine

end

section

/-! SUPPORT and O10. The other detectors of the safety controller (R169, R172), and the self-test (R168, R201). -/

namespace Sys2Proof.Machine

/-- What the turns before turn n keep, what turn n makes of it, and what the turns after it keep of that, holds after the loop. -/
theorem eachUpTo_brings {N n : Nat} (hn : n < N) (f : Nat → State → State) {s : State} {Q P : State → Prop} (hQ : Q s)
    (hbefore : ∀ i t, i < n → Q t → Q (f i t)) (hturn : ∀ t, Q t → P (f n t)) (hafter : ∀ i t, n < i → P t → P (f i t)) :
    P (eachUpTo N f s) := by
  have hreached : ∀ m, m ≤ n → Q (eachUpTo m f s) := by
    intro m
    induction m with
    | zero => exact fun _ => hQ
    | succ m ih =>
      intro hm
      rw [eachUpTo_succ]
      exact hbefore m _ hm (ih (Nat.le_of_succ_le hm))
  induction N with
  | zero => exact absurd hn (Nat.not_lt_zero n)
  | succ N ih =>
    rw [eachUpTo_succ]
    rcases Nat.lt_succ_iff_lt_or_eq.mp hn with h | rfl
    · exact hafter N _ h (ih h)
    · exact hturn _ (hreached n (le_refl n))

/-! ### Die temperatures (R172) -/

/-- The condition of one die. -/
def dieCondition (d : Nat) (t : State) : State :=
  if 13500 ≤ Tab.get 0 t.saf.dieT d then safCause 0x11 d true { t with saf.overT := true }
  else if 13000 ≤ Tab.get 0 t.saf.dieT d then safCause 0x11 d false { t with saf.overT := true }
  else t

theorem tempConditions_eq (s : State) : tempConditions s = eachUpTo 2 dieCondition s := rfl

theorem dieCondition_cases (d : Nat) (t : State) :
    dieCondition d t = t ∨ ∃ mate, dieCondition d t = safCause 0x11 d mate { t with saf.overT := true } := by
  unfold dieCondition
  split
  · exact .inr ⟨true, rfl⟩
  · split
    · exact .inr ⟨false, rfl⟩
    · exact .inl rfl

theorem dieCondition_strm (d : Nat) (t : State) : (dieCondition d t).strm = t.strm := by
  rcases dieCondition_cases d t with h | ⟨mate, h⟩ <;> rw [h]
  exact safCause_strm ..

theorem dieCondition_dieT (d : Nat) (t : State) : (dieCondition d t).saf.dieT = t.saf.dieT := by
  rcases dieCondition_cases d t with h | ⟨mate, h⟩ <;> rw [h]
  rw [safCause_saf]

theorem demands_dieCondition_of_demands {t : State} {code data : Nat} {mate : Bool} (h : Demands t code data mate) (d : Nat) :
    Demands (dieCondition d t) code data mate := by
  rcases dieCondition_cases d t with e | ⟨m, e⟩ <;> rw [e]
  · exact h
  · exact demands_safCause_of_demands (s := { t with saf.overT := true }) h 0x11 d m

/-- A die temperature is written to its stream, and the condition it makes is demanded. -/
theorem does_dieTempSample (d : Fin 2) (v : Int) (s : State) (mate : Bool)
    (h : ∀ t : State, Tab.get 0 t.saf.dieT d = v → Demands (dieCondition d t) 0x11 d mate) :
    Does (.dieTempSample d v) s (fun t => (Tab.get Stream.reset t.strm (56 + d)).val = v ∧ Demands t 0x11 d mate) := by
  refine ⟨_, rfl, ?_, ?_⟩
  · rw [tempConditions_eq, eachUpTo_frame State.strm _ _ _ fun d t _ => dieCondition_strm d t, strm_strmPut_self _ _ _ _ (by omega)]
  · rw [tempConditions_eq]
    refine eachUpTo_brings d.isLt dieCondition (Q := fun t => Tab.get 0 t.saf.dieT d = v)
      (P := fun t => Demands t 0x11 d mate) ?_ (fun i t _ ht => ?_) h
      fun i t _ ht => demands_dieCondition_of_demands ht i
    · exact Tab.get_upd_self _ _ _ _ d.isLt
    · rwa [dieCondition_dieT]

theorem does_dieTempSample_mate (s : State) (d : Fin 2) (v : Int) (hv : 13500 ≤ v) : Does (.dieTempSample d v) s (fun t =>
    (Tab.get Stream.reset t.strm (56 + d)).val = v ∧ (0x11, d.val) ∈ t.saf.cur ∧ t.saf.toMate.isSome = true) := by
  refine does_dieTempSample d v s true fun t ht => ?_
  rw [dieCondition, ht, if_pos hv]
  exact safCause_demands ..

theorem does_dieTempSample_check (s : State) (d : Fin 2) (v : Int) (hv : 13000 ≤ v) (hv' : v < 13500) : Does (.dieTempSample d v) s (fun t =>
    (Tab.get Stream.reset t.strm (56 + d)).val = v ∧ (0x11, d.val) ∈ t.saf.cur ∧ t.saf.toCheck.isSome = true) := by
  refine does_dieTempSample d v s false fun t ht => ?_
  rw [dieCondition, ht, if_neg (not_le.mpr hv'), if_pos hv]
  exact safCause_demands ..

/-! ### The other conditions (R169, R172) -/

theorem does_sramCorrected {c : Instr} {s : State} (hc : exec c s = .next (raiseSaf F.SAF_FLAGS_SRAMCOR s)) :
    Does c s (fun t => rget t F.SAF_FLAGS_SRAMCOR = 1 ∧ t.saf.st = s.saf.st) :=
  ⟨_, hc, rget_raiseData_flag 0 _ _ _ (by decide) (by decide) (by decide), raiseSaf_saf_st _ s⟩

theorem does_supplyFault_back (s : State) (rail : BitVec 8) :
    Does (.supplyFault rail true) s (fun t => rail.toNat ∉ t.saf.railsBad ∧ t.saf.st = s.saf.st) :=
  ⟨_, rfl, fun h => by simpa using (List.mem_filter.mp h).2, rfl⟩

theorem does_tempsense (s : State) (d : Fin 2) (diff ms : Nat) (hd : 800 < diff) (hm : 10 ≤ ms) :
    Does (.tempsense d diff ms) s (fun t => (0x12, d.val) ∈ t.saf.cur ∧ t.saf.toCheck.isSome = true) :=
  ⟨_, congrArg Host.Outcome.next (if_pos ⟨hd, hm⟩), safCause_demands 0x12 d false s⟩

/-- A coil that has not confirmed open in CHECK within its time demands MATE (R169). -/
theorem checkCoil_expired {c t0 : Nat} {s : State} (ho : (coil s c).checkOpen = some t0) (hf : fbIn s (mCoilFb s c) = true)
    (hst : s.saf.st = .check) (ht : 2000 + mSettle s c < sinceT s t0) : checkCoil c s = safCause 0x15 c true s := by
  simp only [checkCoil, ho, hf, hst, ht, Bool.not_true, Bool.false_eq_true, if_false, beq_self_eq_true, decide_true, Bool.and_self, if_true]

theorem does_checkTimeout (s : State) (c : Fin 64) (t0 : Nat) (ho : (coil s c).checkOpen = some t0) (hf : fbIn s (mCoilFb s c) = true)
    (hst : s.saf.st = .check) (ht : 2000 + mSettle s c < sinceT s t0) :
    Does (.checkTimeout c) s (fun t => (0x15, c.val) ∈ t.saf.cur ∧ t.saf.toMate.isSome = true) :=
  ⟨_, congrArg Host.Outcome.next (checkCoil_expired ho hf hst ht), safCause_demands 0x15 c true s⟩

/-! ### The self-test (R168, R201) -/

theorem does_bist_token (s : State) (a : Nat) (hw : s.saf.tokenWait = some a) (hl : leaveMateConditions s = true) :
    Does (.safebistComplete true) s (fun t => t.saf.bistOk = true ∧ t.saf.ack = some (false, a) ∧ t.saf.tokenWait = none) := by
  have hl' : leaveMateConditions { s with saf.bistOk := true, saf.tokenWait := none } = true := hl
  have hdone : bistDone true s = { s with saf.bistOk := true, saf.tokenWait := none, saf.ack := some (false, a) } := by
    simp only [bistDone, hw, hl', if_true, Bool.and_self]
  exact ⟨_, congrArg Host.Outcome.next hdone, rfl, rfl, rfl⟩

theorem does_bist_start (s : State) (hw : s.saf.tokenWait = none) (hl : s.loaded = true) (hst : s.saf.st = .mate) (hh : s.saf.held = false) :
    Does (.safebistComplete true) s (fun t => t.saf.bistOk = true ∧ t.saf.toRun = true) := by
  have hdone : bistDone true s = { s with saf.bistOk := true, saf.tokenWait := none, saf.toRun := true } := by
    simp only [bistDone, hw, hl, hst, hh, if_true, beq_self_eq_true, Bool.not_false, Bool.and_self]
  exact ⟨_, congrArg Host.Outcome.next hdone, rfl, rfl⟩

theorem bistDone_failed (s : State) : let u := safCause 0x16 0 true { s with saf.bistOk := false, saf.tokenWait := none }
    bistDone false s = u ∨ bistDone false s = safResult 5 7 u := by
  unfold bistDone
  cases s.saf.tokenWait with
  | none => exact .inl rfl
  | some a => exact .inr rfl

theorem does_bist_failed (s : State) : Does (.safebistComplete false) s (fun t => t.saf.bistOk = false ∧ t.saf.toMate.isSome = true) := by
  have hu : ∀ u, u = safCause 0x16 0 true { s with saf.bistOk := false, saf.tokenWait := none } →
      u.saf.bistOk = false ∧ u.saf.toMate.isSome = true := by
    rintro u rfl
    refine ⟨?_, (safCause_demands 0x16 0 true _).2⟩
    rw [safCause_saf]
  refine ⟨_, rfl, ?_⟩
  rcases bistDone_failed s with h | h <;> rw [h]
  · exact hu _ rfl
  · rw [safResult_saf]
    exact hu _ rfl

/-- Settles O10, detector by detector. That a passed self-test takes an unheld MATE to RUN is the model's reading (log entry 111). -/
theorem safetyConditions : Obligations.SafetyConditions := fun s =>
  ⟨does_sramCorrected rfl, does_sramCorrected rfl, does_supplyFault_back s, does_dieTempSample_mate s, does_dieTempSample_check s,
    does_tempsense s, does_checkTimeout s, does_bist_token s, does_bist_start s, does_bist_failed s⟩

end Sys2Proof.Machine

end

section

/-! SUPPORT and O11. The safety inputs (R175–R177) and their test pulses (R178, R179). -/

namespace Sys2Proof.Machine

/-! ### Bits by index -/

theorem bitsOf_succ (n : Nat) (f : Nat → Bool) : bitsOf (n + 1) f = (if f n then 2 ^ n else 0) + bitsOf n f := by
  simp only [bitsOf, List.range_succ, List.foldl_append, List.foldl_cons, List.foldl_nil, Nat.add_comm]

theorem bitsOf_lt (n : Nat) (f : Nat → Bool) : bitsOf n f < 2 ^ n := by
  induction n with
  | zero => exact Nat.one_pos
  | succ n ih =>
    rw [bitsOf_succ, Nat.pow_succ]
    split <;> omega

theorem testBit_bitsOf {n i : Nat} (hi : i < n) (f : Nat → Bool) : (bitsOf n f).testBit i = f i := by
  induction n with
  | zero => exact absurd hi (Nat.not_lt_zero i)
  | succ n ih =>
    rw [bitsOf_succ]
    rcases Nat.lt_succ_iff_lt_or_eq.mp hi with h | rfl
    · rw [← ih h]
      split
      · exact Nat.testBit_two_pow_add_gt h _
      · rw [Nat.zero_add]
    · have hlow : (bitsOf i f).testBit i = false := Nat.testBit_lt_two_pow (bitsOf_lt i f)
      split
      case isTrue hf => rw [Nat.testBit_two_pow_add_eq, hlow, hf]; rfl
      case isFalse hf => rw [Nat.zero_add, hlow, Bool.eq_false_iff.mpr hf]

/-! ### The inputs a tempo uses (R55, R176, R177) -/

theorem testBit_frozenInputs {i : Nat} (hi : i < 24) (s : State) :
    (frozenInputs s).testBit i = (sInUsed s i && !(sIn s i).disc && (sIn s i).kept.getD (sIn s i).acc) := testBit_bitsOf hi _

theorem sIn_raiseSio (f : Fld) (ch : Nat) (s : State) (i : Nat) : sIn (raiseSio f ch s) i = sIn s i := by
  rw [sIn, raiseSio, raiseData_saf]
  rfl

theorem sIn_rputAt (f : Fld) (b : Bool) (k : Nat) (s : State) (i : Nat) : sIn (rputAt f k b s) i = sIn s i := rfl

theorem rget_raiseSio_self {f : Fld} (hw : 0 < f.width) (hf : fkey f ≠ fkey F.SIO_EVCNT_COUNT) (hq : fkey f ≠ fkey F.SAF_EVQOVF_COUNT)
    (ch : Nat) (s : State) : rget (raiseSio f ch s) f = 1 := rget_raiseData_flag ch _ f s hw hf hq

section

variable (s : State) (i : Fin 24)

/-- A state held for FILTER on both comparators is accepted (R176). -/
theorem does_safetyInputAccept (a b : Int) (us : Nat) (hu : sInUsed s i = true)
    (hab : inputLevel (sInType3 s i) (sIn s i).acc a = inputLevel (sInType3 s i) (sIn s i).acc b) (ht : sInFilter s i ≤ us) :
    Does (.safetyInputAccept i a b us) s (fun t => (sIn t i).acc = inputLevel (sInType3 s i) (sIn s i).acc a) := by
  refine ⟨_, congrArg Host.Outcome.next (if_pos ?_), congrArg SIn.acc (sIn_onSIn_self _ _ _ i.isLt)⟩
  rw [hu, hab, decide_eq_true ht]
  simp

theorem does_safetyInputAccept_not (a b : Int) (us : Nat) (h : sInUsed s i = false
    ∨ inputLevel (sInType3 s i) (sIn s i).acc a ≠ inputLevel (sInType3 s i) (sIn s i).acc b ∨ us < sInFilter s i) :
    Does (.safetyInputAccept i a b us) s (fun t => t = s) := by
  refine ⟨_, congrArg Host.Outcome.next (if_neg ?_), rfl⟩
  simp only [Bool.and_eq_true, beq_iff_eq, decide_eq_true_eq]
  rintro ⟨⟨hu, hab⟩, ht⟩
  rcases h with h | h | h
  · exact Bool.false_ne_true (h.symm.trans hu)
  · exact h hab
  · exact Nat.not_le.mpr h ht

/-- An input in disagreement reads 0 (R176). -/
theorem does_inputDiscrepancy (us : Nat) (hu : sInUsed s i = true) (ht : 20 < us) : Does (.inputDiscrepancy i us) s (fun t =>
    (sIn t i).disc = true ∧ (frozenInputs t).testBit i = false ∧ rget t F.SIO_FLAGS_INDIS = 1) := by
  refine ⟨_, congrArg Host.Outcome.next (if_pos ⟨hu, ht⟩), ?_⟩
  have hdisc : (sIn (raiseSio F.SIO_FLAGS_INDIS i (rputAt F.SIO_DISC_DISC i true (onSIn i (fun x => { x with disc := true }) s))) i).disc
      = true := by
    rw [sIn_raiseSio, sIn_rputAt, sIn_onSIn_self _ _ _ i.isLt]
  refine ⟨hdisc, ?_, rget_raiseSio_self (by decide) (by decide) (by decide) _ _⟩
  rw [testBit_frozenInputs i.isLt]
  simp only [hdisc, Bool.not_true, Bool.and_false, Bool.false_and]

/-- After 1 ms of agreement the input reads what it had accepted (R176). -/
theorem does_inputAgreementRestored (us : Nat) (ht : 1000 ≤ us) : Does (.inputAgreementRestored i us) s (fun t =>
    (sIn t i).disc = false ∧ (sIn t i).acc = (sIn s i).acc
      ∧ (sInUsed s i = true → (sIn s i).kept = none → (frozenInputs t).testBit i = (sIn s i).acc)) := by
  refine ⟨_, congrArg Host.Outcome.next (if_pos ht), ?_⟩
  have hin : sIn (onSIn i (fun x => { x with disc := false }) s) i = { sIn s i with disc := false } := sIn_onSIn_self _ _ _ i.isLt
  refine ⟨?_, ?_, fun hu hk => ?_⟩
  · rw [sIn_rputAt, hin]
  · rw [sIn_rputAt, hin]
  · have hused : sInUsed (rputAt F.SIO_DISC_DISC i false (onSIn i (fun x => { x with disc := false }) s)) i = true := hu
    rw [testBit_frozenInputs i.isLt, hused, sIn_rputAt, hin]
    simp only [hk, Option.getD_none, Bool.not_false, Bool.and_self, Bool.true_and]

end

/-! ### A test pulse starts (R177, R178) -/

/-- Input i stands as in the first state, under the same layout. -/
def SameInput (s : State) (i : Nat) (t : State) : Prop := t.sec = s.sec ∧ sIn t i = sIn s i

theorem fedBy_congr {s t : State} (h : t.sec = s.sec) (i : Nat) : sInUsed t i = sInUsed s i ∧ sInSrc t i = sInSrc s i := by
  simp only [sInUsed, sInSrc, sec, h, and_self]

/-- Input i keeps its state for a pulse of its own source. -/
def keepForPulse (k i : Nat) (t : State) : State :=
  if sInUsed t i && sInSrc t i == k then onSIn i (fun x => { x with kept := some x.acc }) t else t

theorem sIn_keepForPulse_ne {i j : Nat} (h : i ≠ j) (k : Nat) (t : State) : sIn (keepForPulse k j t) i = sIn t i := by
  unfold keepForPulse
  split
  · exact sIn_onSIn_ne _ _ _ _ h
  · rfl

theorem keepForPulse_sec (k j : Nat) (t : State) : (keepForPulse k j t).sec = t.sec := by
  unfold keepForPulse
  split <;> rfl

theorem keepForPulse_tpLow (k j : Nat) (t : State) : (keepForPulse k j t).saf.tpLow = t.saf.tpLow := by
  unfold keepForPulse
  split <;> rfl

theorem kept_keepForPulses {s : State} {k i : Nat} (hi : i < 24) (hu : sInUsed s i = true) (hs : sInSrc s i = k) :
    (sIn (eachUpTo 24 (keepForPulse k) s) i).kept = some (sIn s i).acc := by
  refine eachUpTo_brings hi (keepForPulse k) (Q := SameInput s i) (P := fun t => (sIn t i).kept = some (sIn s i).acc) ⟨rfl, rfl⟩
    (fun j t hj ht => ⟨?_, ?_⟩) (fun t ht => ?_) (fun j t hj ht => ?_)
  · rw [keepForPulse_sec, ht.1]
  · rw [sIn_keepForPulse_ne (by omega), ht.2]
  · obtain ⟨hused, hsrc⟩ := fedBy_congr ht.1 i
    rw [keepForPulse, hused, hsrc, hu, hs, beq_self_eq_true, Bool.and_self, if_pos rfl, sIn_onSIn_self _ _ _ hi, ht.2]
  · rwa [sIn_keepForPulse_ne (by omega)]

theorem does_testPulse (s : State) (i : Fin 24) (k : Fin 8) (hr : s.tmp.running = true) (hv : s.pwr.vsAbsent = false)
    (hx : crossesAt s (sTpPeriod s) (k * sTpPeriod s / 8) = true) : Does (.testPulse k) s (fun t =>
      Tab.get none t.saf.tpLow k = some (sTpPw s) ∧ tpHigh t k = false
        ∧ (sInUsed s i = true → sInSrc s i = k.val → (sIn t i).kept = some (sIn s i).acc)) := by
  refine ⟨eachUpTo 24 (keepForPulse k) { s with saf.tpLow := Tab.upd s.saf.tpLow k (fun _ => some (sTpPw s)) }, ?_, ?_⟩
  · refine congrArg Host.Outcome.next (if_pos ?_)
    rw [hr, hv, hx]
    rfl
  · have hlow : Tab.get none (eachUpTo 24 (keepForPulse k) { s with saf.tpLow := Tab.upd s.saf.tpLow k (fun _ => some (sTpPw s)) }).saf.tpLow k
        = some (sTpPw s) := by
      rw [eachUpTo_frame (·.saf.tpLow) _ _ _ fun j t _ => keepForPulse_tpLow k j t]
      exact Tab.get_upd_self _ _ _ _ k.isLt
    refine ⟨hlow, ?_, fun hu hs => kept_keepForPulses i.isLt hu hs⟩
    rw [tpHigh, hlow]
    exact Bool.and_false _

/-! ### The test at the end of a pulse (R179) -/

section

variable {s : State} {i : Nat} {low back : Bool}

theorem testInput_unaccepted (h : (sIn s i).kept = some false) : testInput i low back s = onSIn i (fun x => { x with kept := none }) s := by
  rw [testInput, h]

theorem testInput_passed (h : (sIn s i).kept = some true) (hl : low = true) (hb : back = true) : testInput i low back s =
    onSIn i (fun x => { x with kept := none, passes := min 2 (x.passes + 1), testOk := x.testOk || decide (1 ≤ x.passes) }) s := by
  rw [testInput, h, hl, hb]
  rfl

theorem testInput_failed (h : (sIn s i).kept = some true) (hf : low = false ∨ back = false) : testInput i low back s =
    raiseSio F.SIO_FLAGS_TPFAIL i (onSIn i (fun x => { x with kept := none, passes := 0, testOk := false }) s) := by
  have hno : (low && back) = false := by
    rcases hf with h | h <;> simp [h]
  rw [testInput, h, hno]
  rfl

/-- A test changes its input alone, with TPFAIL where it fails. -/
theorem testInput_cases (i : Nat) (low back : Bool) (s : State) : testInput i low back s = s ∨ ∃ f, testInput i low back s = onSIn i f s
    ∨ testInput i low back s = raiseSio F.SIO_FLAGS_TPFAIL i (onSIn i f s) := by
  unfold testInput
  split
  · exact .inl rfl
  · exact .inr ⟨_, .inl rfl⟩
  · split
    · exact .inr ⟨_, .inl rfl⟩
    · exact .inr ⟨_, .inr rfl⟩

end

/-- The test of input i at the end of a pulse of TPk, where the pulse feeds it. -/
def testFed (k : Nat) (low back : BitVec 24) (i : Nat) (t : State) : State :=
  if sInUsed t i && sInSrc t i == k then testInput i (low.getLsbD i) (back.getLsbD i) t else t

section

variable (k : Nat) (low back : BitVec 24)

theorem testFed_cases (j : Nat) (t : State) : testFed k low back j t = t ∨ ∃ f, testFed k low back j t = onSIn j f t
    ∨ testFed k low back j t = raiseSio F.SIO_FLAGS_TPFAIL j (onSIn j f t) := by
  unfold testFed
  split
  · exact testInput_cases j _ _ t
  · exact .inl rfl

theorem testFed_sec (j : Nat) (t : State) : (testFed k low back j t).sec = t.sec := by
  rcases testFed_cases k low back j t with h | ⟨f, h | h⟩ <;> rw [h]
  · rfl
  · rw [raiseSio_sec]
    rfl

theorem testFed_tpLow (j : Nat) (t : State) : (testFed k low back j t).saf.tpLow = t.saf.tpLow := by
  rcases testFed_cases k low back j t with h | ⟨f, h | h⟩ <;> rw [h]
  · rfl
  · rw [raiseSio, raiseData_saf]
    rfl

theorem sIn_testFed_ne {i j : Nat} (hne : i ≠ j) (t : State) : sIn (testFed k low back j t) i = sIn t i := by
  rcases testFed_cases k low back j t with h | ⟨f, h | h⟩ <;> rw [h]
  · exact sIn_onSIn_ne _ _ _ _ hne
  · rw [sIn_raiseSio, sIn_onSIn_ne _ _ _ _ hne]

/-- A test takes no TPFAIL back. -/
theorem tpfail_testFed {t : State} (ht : rget t F.SIO_FLAGS_TPFAIL = 1) (j : Nat) : rget (testFed k low back j t) F.SIO_FLAGS_TPFAIL = 1 := by
  rcases testFed_cases k low back j t with h | ⟨f, h | h⟩ <;> rw [h]
  · exact ht
  · exact ht
  · exact rget_raiseSio_self (by decide) (by decide) (by decide) _ _

/-- What the test of an input that the pulse feeds makes of it stands after the tests of all. -/
theorem testFed_all {s u : State} {i : Nat} (hi : i < 24) (hsame : SameInput s i u) (hu : sInUsed s i = true) (hs : sInSrc s i = k) {P : State → Prop}
    (hP : ∀ t, sIn t i = sIn s i → P (testInput i (low.getLsbD i) (back.getLsbD i) t)) (hkeep : ∀ j t, i ≠ j → P t → P (testFed k low back j t)) :
    P (eachUpTo 24 (testFed k low back) u) := by
  refine eachUpTo_brings hi (testFed k low back) (Q := SameInput s i) hsame (fun j t hj ht => ⟨?_, ?_⟩) (fun t ht => ?_)
    fun j t hj ht => hkeep j t (by omega) ht
  · rw [testFed_sec, ht.1]
  · rw [sIn_testFed_ne _ _ _ (by omega), ht.2]
  · obtain ⟨hused, hsrc⟩ := fedBy_congr ht.1 i
    rw [testFed, hused, hsrc, hu, hs, beq_self_eq_true, Bool.and_self, if_pos rfl]
    exact hP t ht.2

end

/-- The pulse of TPk over: its land carries 24 V again. -/
def pulseEnded (k : Nat) (s : State) : State := { s with saf.tpLow := Tab.upd s.saf.tpLow k (fun _ => none) }

theorem sameInput_pulseEnded (s : State) (i k : Nat) : SameInput s i (pulseEnded k s) := ⟨rfl, rfl⟩

theorem does_testPulseCheck (s : State) (i : Fin 24) (k : Fin 8) (low back : BitVec 24) : Does (.testPulseCheck k low back) s (fun t =>
    Tab.get none t.saf.tpLow k = none
      ∧ (sInUsed s i = true → sInSrc s i = k.val → (sIn s i).kept = some true → low.getLsbD i = true → back.getLsbD i = true →
          (sIn t i).kept = none ∧ (sIn t i).passes = min 2 ((sIn s i).passes + 1) ∧ (1 ≤ (sIn s i).passes → (sIn t i).testOk = true))
      ∧ (sInUsed s i = true → sInSrc s i = k.val → (sIn s i).kept = some true → low.getLsbD i = false ∨ back.getLsbD i = false →
          (sIn t i).testOk = false ∧ (sIn t i).passes = 0 ∧ rget t F.SIO_FLAGS_TPFAIL = 1)
      ∧ (sInUsed s i = true → sInSrc s i = k.val → (sIn s i).kept = some false →
          (sIn t i).testOk = (sIn s i).testOk ∧ (sIn t i).passes = (sIn s i).passes)) := by
  refine ⟨eachUpTo 24 (testFed k low back) (pulseEnded k s), rfl, ?high, ?passed, ?failed, ?off⟩
  case high =>
    rw [eachUpTo_frame (·.saf.tpLow) _ _ _ fun j t _ => testFed_tpLow k low back j t]
    exact Tab.get_upd_self _ _ _ _ k.isLt
  case passed =>
    intro hu hs hk hl hb
    refine testFed_all k low back i.isLt (sameInput_pulseEnded s i k) hu hs (P := fun t => (sIn t i).kept = none ∧ (sIn t i).passes = min 2 ((sIn s i).passes + 1)
      ∧ (1 ≤ (sIn s i).passes → (sIn t i).testOk = true)) (fun t hin => ?_) fun j t hj ht => by rwa [sIn_testFed_ne k low back hj]
    rw [testInput_passed (by rw [hin, hk]) hl hb, sIn_onSIn_self _ _ _ i.isLt, hin]
    exact ⟨rfl, rfl, fun h => by simp [h]⟩
  case failed =>
    intro hu hs hk hf
    refine testFed_all k low back i.isLt (sameInput_pulseEnded s i k) hu hs (P := fun t => (sIn t i).testOk = false ∧ (sIn t i).passes = 0
      ∧ rget t F.SIO_FLAGS_TPFAIL = 1) (fun t hin => ?_) fun j t hj ht => ?_
    · rw [testInput_failed (by rw [hin, hk]) hf, sIn_raiseSio, sIn_onSIn_self _ _ _ i.isLt]
      exact ⟨rfl, rfl, rget_raiseSio_self (by decide) (by decide) (by decide) _ _⟩
    · obtain ⟨hok, hp, hfail⟩ := ht
      rw [sIn_testFed_ne k low back hj]
      exact ⟨hok, hp, tpfail_testFed k low back hfail j⟩
  case off =>
    intro hu hs hk
    refine testFed_all k low back i.isLt (sameInput_pulseEnded s i k) hu hs (P := fun t => (sIn t i).testOk = (sIn s i).testOk ∧ (sIn t i).passes = (sIn s i).passes)
      (fun t hin => ?_) fun j t hj ht => by rwa [sIn_testFed_ne k low back hj]
    rw [testInput_unaccepted (by rw [hin, hk]), sIn_onSIn_self _ _ _ i.isLt, hin]
    exact ⟨rfl, rfl⟩

/-- Settles O11: the acceptance and the discrepancy of an input, and its test pulse from start to end. -/
theorem safetyInputCommands : Obligations.SafetyInputCommands := fun s i =>
  ⟨does_safetyInputAccept s i, does_safetyInputAccept_not s i, does_inputDiscrepancy s i, does_inputAgreementRestored s i,
    does_testPulse s i, does_testPulseCheck s i⟩

end Sys2Proof.Machine

end

section

/-! SUPPORT and O12. The safety outputs (R182–R184), the guard pair and its proof (R185, R188, R189). -/

namespace Sys2Proof.Machine

/-! ### Safety outputs -/

theorem sOut_raiseSio (f : Fld) (ch : Nat) (s : State) (x : Nat) : sOut (raiseSio f ch s) x = sOut s x := by
  rw [sOut, raiseSio, raiseData_saf]
  rfl

theorem does_soOvercurrent (s : State) (x : Fin 4) (ma us : Nat) (ha : (sOut s x).act = true) (hv : s.pwr.vsAbsent = false) (hm : 750 < ma)
    (ht : 10 ≤ us) : Does (.soOvercurrent x ma us) s (fun t => (sOut t x).act = false ∧ (sOut t x).oc = true ∧ rget t F.SIO_FLAGS_SOOC = 1) := by
  refine ⟨_, congrArg Host.Outcome.next (if_pos ⟨ha, hv, hm, ht⟩), ?_⟩
  have hout : sOut (raiseSio F.SIO_FLAGS_SOOC x (onSOut x (fun o => { o with act := false, oc := true, ocSeen0 := false }) s)) x
      = { sOut s x with act := false, oc := true, ocSeen0 := false } := by
    rw [sOut_raiseSio, sOut_onSOut_self _ _ _ x.isLt]
  refine ⟨?_, ?_, rget_raiseSio_self (by decide) (by decide) (by decide) _ _⟩ <;> rw [hout]

/-- The instant of a dark-test pulse of one switch noted. -/
def darkNoted (side : Side) (now : Nat) (o : SOut) : SOut :=
  match side with
  | .high => { o with darkHi := some now }
  | .low => { o with darkLo := some now }

theorem exec_darkTest {s : State} {x : Fin 4} {side : Side} (mv vs : Int) (hd : darkDue s x side = true) :
    exec (.darkTest x side mv vs) s = .next (if darkPass side mv vs then onSOut x (darkNoted side s.tmp.now) s
      else soFault 0x0B x (onSOut x (darkNoted side s.tmp.now) s)) :=
  congrArg Host.Outcome.next (if_pos hd)

theorem does_darkTest_pass (s : State) (x : Fin 4) (side : Side) (mv vs : Int) (hd : darkDue s x side = true) (hp : darkPass side mv vs = true) :
    Does (.darkTest x side mv vs) s (fun t => (sOut t x).act = (sOut s x).act ∧ (sOut t x).latch = (sOut s x).latch
      ∧ t.saf.cur = s.saf.cur) := by
  refine ⟨_, (exec_darkTest mv vs hd).trans (congrArg Host.Outcome.next (if_pos hp)), ?_, ?_, rfl⟩ <;>
    rw [sOut_onSOut_self _ _ _ x.isLt] <;> cases side <;> rfl

theorem rget_soFault (code x : Nat) (s : State) : rget (soFault code x s) F.SIO_FLAGS_SOFAULT = 1 := by
  rw [soFault, rget_safCause_ne _ _ _ _ _ (by decide) (by decide) (by decide) (by decide)]
  exact rget_raiseSio_self (by decide) (by decide) (by decide) _ _

theorem does_darkTest_fail (s : State) (x : Fin 4) (side : Side) (mv vs : Int) (hd : darkDue s x side = true) (hp : darkPass side mv vs = false) :
    Does (.darkTest x side mv vs) s (fun t => (sOut t x).act = false ∧ (sOut t x).latch = true
      ∧ (0x0B, x.val) ∈ t.saf.cur ∧ rget t F.SIO_FLAGS_SOFAULT = 1) := by
  refine ⟨_, (exec_darkTest mv vs hd).trans (congrArg Host.Outcome.next (if_neg (Bool.eq_false_iff.mp hp))), ?_, ?_, ?_, rget_soFault ..⟩
  · rw [sOut_soFault_self _ _ x.isLt]
  · rw [sOut_soFault_self _ _ x.isLt]
  · exact (safCause_demands 0x0B x false _).1

/-! ### The guard's proof (R188, R189) -/

/-- GUARD_OK by the proof in force and the high-water mark. -/
def guardOkNow (s : State) : Bool := proofNames s && decide (s.bil.dyn.hwm < s.saf.proofTime + sProofDays s * dayNs)

/-- DUE by the proof in force and the high-water mark. -/
def dueNow (s : State) : Bool :=
  s.loaded && (!proofNames s || decide (s.saf.proofTime + (sProofDays s - sDueDays s) * dayNs ≤ s.bil.dyn.hwm))

/-- The guard evaluated, with GUARDLOST where GUARD_OK fell. -/
def guardLooked (s : State) : State :=
  let t := { s with saf.guardOk := guardOkNow s, saf.due := dueNow s }
  if s.saf.guardOk && !guardOkNow s then raiseSaf F.SAF_FLAGS_GUARDLOST t else t

theorem guardEval_eq (s : State) :
    guardEval s = if dueNow s && !s.saf.due then raiseSaf F.SAF_FLAGS_GUARDDUE (guardLooked s) else guardLooked s := rfl

theorem raiseSaf_saf (f : Fld) (s : State) : (raiseSaf f s).saf = { s.saf with evq := (raiseSaf f s).saf.evq } := raiseData_saf _ _ _ _

theorem guardEval_saf (s : State) :
    (guardEval s).saf = { s.saf with guardOk := guardOkNow s, due := dueNow s, evq := (guardEval s).saf.evq } := by
  have hlook : (guardLooked s).saf = { s.saf with guardOk := guardOkNow s, due := dueNow s, evq := (guardLooked s).saf.evq } := by
    unfold guardLooked
    dsimp only
    split
    · rw [raiseSaf_saf]
    · rfl
  rw [guardEval_eq]
  split
  · rw [raiseSaf_saf, hlook]
  · exact hlook

/-- A register outside the two flags of the guard's proof and the event counts stands. -/
theorem rget_guardEval_ne {g : Fld} (hl : fkey g ≠ fkey F.SAF_FLAGS_GUARDLOST) (hd : fkey g ≠ fkey F.SAF_FLAGS_GUARDDUE)
    (hc : fkey g ≠ fkey F.SAF_EVCNT_COUNT) (hq : fkey g ≠ fkey F.SAF_EVQOVF_COUNT) (s : State) : rget (guardEval s) g = rget s g := by
  have hlook : rget (guardLooked s) g = rget s g := by
    unfold guardLooked
    dsimp only
    split
    · exact rget_raiseData_ne _ _ _ _ _ hl hc hq
    · rfl
  rw [guardEval_eq]
  split
  · exact (rget_raiseData_ne _ _ _ _ _ hd hc hq).trans hlook
  · exact hlook

theorem does_guardProofExpiry (s : State) (hok : s.saf.guardOk = true) (hx : s.saf.proofTime + sProofDays s * dayNs ≤ s.bil.dyn.hwm) :
    Does .guardProofExpiry s (fun t => t.saf.guardOk = false ∧ rget t F.SAF_FLAGS_GUARDLOST = 1) := by
  have hnow : guardOkNow s = false := by
    rw [guardOkNow, decide_eq_false (Nat.not_lt.mpr hx), Bool.and_false]
  have hlost : rget (guardLooked s) F.SAF_FLAGS_GUARDLOST = 1 := by
    rw [guardLooked, hok, hnow]
    exact rget_raiseData_flag 0 _ _ _ (by decide) (by decide) (by decide)
  refine ⟨_, rfl, by rw [guardEval_saf, hnow], ?_⟩
  rw [guardEval_eq]
  split
  · exact (rget_raiseData_ne _ _ _ _ _ (by decide) (by decide) (by decide)).trans hlost
  · exact hlost

theorem does_guardDue (s : State) (hl : s.loaded = true) (hd : s.saf.due = false)
    (hx : s.saf.proofTime + (sProofDays s - sDueDays s) * dayNs ≤ s.bil.dyn.hwm) :
    Does .guardDue s (fun t => t.saf.due = true ∧ rget t F.SAF_FLAGS_GUARDDUE = 1) := by
  have hnow : dueNow s = true := by
    rw [dueNow, hl, decide_eq_true hx, Bool.or_true, Bool.and_true]
  refine ⟨_, rfl, by rw [guardEval_saf, hnow], ?_⟩
  rw [guardEval_eq, hnow, hd]
  exact rget_raiseData_flag 0 _ _ _ (by decide) (by decide) (by decide)

/-! ### The guard pair (R185) -/

theorem guardTest_pair (old : GuardPair) (s : State) : (guardTest old s).saf.pair = s.saf.pair := by
  simp only [guardTest, guardComplete, apply_ite State.saf, apply_ite SafState.pair, ite_self]

theorem guardTest_regs (old : GuardPair) (s : State) : (guardTest old s).regs = s.regs := by
  simp only [guardTest, guardComplete, apply_ite State.regs, ite_self]

/-- The tempo since which the guard inputs read equal, noted. -/
def eqNoted (s : State) : State :=
  { s with saf.eqSince := if s.fz.si.testBit (sGuardA s) == s.fz.si.testBit (sGuardB s) then s.saf.eqSince <|> some s.tmp.now else none }

/-- The pair decided, with GUARDDISC where a disagreement is new. -/
def pairDecided (s : State) : State :=
  if pairNext s == .discrepant && s.saf.pair != .discrepant then raiseSio F.SIO_FLAGS_GUARDDISC 0 { s with saf.pair := pairNext s }
  else { s with saf.pair := pairNext s }

theorem edgeGuard_loaded {s : State} (hl : s.loaded = true) :
    edgeGuard s = guardEval (guardTest s.saf.pair (pairDecided (eqNoted s))) := if_neg (by simp [hl])

/-- Guard inputs that have read equal for longer than GUARD_DISC are a disagreement. -/
theorem pairNext_eqNoted {s : State} {since : Nat} (heq : s.fz.si.testBit (sGuardA s) = s.fz.si.testBit (sGuardB s))
    (hsince : s.saf.eqSince = some since) (ht : sGuardDisc s < sinceT s since) : pairNext (eqNoted s) = .discrepant := by
  have hnote : eqNoted s = { s with saf.eqSince := some since } := by
    rw [eqNoted, heq, beq_self_eq_true, if_pos rfl, hsince]
    rfl
  have heq' : (eqNoted s).fz.si.testBit (sGuardA (eqNoted s)) = (eqNoted s).fz.si.testBit (sGuardB (eqNoted s)) := heq
  have hsince' : (eqNoted s).saf.eqSince = some since := by rw [hnote]
  unfold pairNext
  dsimp only
  rw [heq', hsince']
  cases (eqNoted s).fz.si.testBit (sGuardB (eqNoted s)) <;> exact if_pos ht

/-- A disagreement that is new decides the pair, and shows in GUARDDISC. -/
theorem pairDecided_discrepant {s : State} (hn : pairNext s = .discrepant) (hp : s.saf.pair ≠ .discrepant) :
    (pairDecided s).saf.pair = .discrepant ∧ rget (pairDecided s) F.SIO_FLAGS_GUARDDISC = 1 := by
  rw [pairDecided, if_pos (by simpa [hn] using hp)]
  refine ⟨?_, rget_raiseSio_self (by decide) (by decide) (by decide) _ _⟩
  rw [raiseSio, raiseData_saf]
  exact hn

theorem does_guardDiscrepant (s : State) (since : Nat) (hl : s.loaded = true)
    (heq : s.fz.si.testBit (sGuardA s) = s.fz.si.testBit (sGuardB s)) (hsince : s.saf.eqSince = some since)
    (ht : sGuardDisc s < sinceT s since) (hp : s.saf.pair ≠ .discrepant) :
    Does .guardDiscrepant s (fun t => t.saf.pair = .discrepant ∧ rget t F.SIO_FLAGS_GUARDDISC = 1) := by
  obtain ⟨hpair, hflag⟩ := pairDecided_discrepant (s := eqNoted s) (pairNext_eqNoted heq hsince ht) hp
  refine ⟨_, congrArg Host.Outcome.next (edgeGuard_loaded hl), ?_, ?_⟩
  · rw [guardEval_saf]
    exact (guardTest_pair _ _).trans hpair
  · rw [rget_guardEval_ne (by decide) (by decide) (by decide) (by decide), rget_congr _ (guardTest_regs _ _), hflag]

/-- Settles O12: the outputs, the guard pair and the guard's proof. -/
theorem safetyOutputAndGuardCommands : Obligations.SafetyOutputAndGuardCommands := fun s =>
  ⟨does_soOvercurrent s, does_darkTest_pass s, does_darkTest_fail s, does_guardDiscrepant s, does_guardProofExpiry s, does_guardDue s⟩

end Sys2Proof.Machine

end

section

/-! SUPPORT and O13. The insulation monitor (R190–R192) and the residual-current function (R195, R196, R198). -/

namespace Sys2Proof.Machine

/-! ### The insulation monitor -/

theorem isoMon_outCoil (n k : Nat) (b : Bool) (s : State) (m : Nat) : isoMon (outCoil n k b s) m = isoMon s m := by
  rw [isoMon, outCoil, coilCmd_saf, isoMon]

theorem coil_onIso (n : Nat) (f : IsoMon → IsoMon) (s : State) (c : Nat) : coil (onIso n f s) c = coil s c := rfl

section

variable (s : State) (n : Fin 4)

theorem does_isoCycleStart (hr : (isoMon s n).run = true) (hi : (isoMon s n).phase = .idle) (hx : crossesAt s 1000000000 0 = true) :
    Does (.isoCycleStart n) s (fun t => (isoMon t n).phase = .p ∧ (isoMon t n).confAt = none) := by
  refine ⟨_, congrArg Host.Outcome.next (if_pos ?_), ?_, ?_⟩
  · rw [hr, hi, hx]
    rfl
  all_goals rw [isoMon_onIso_self _ _ _ n.isLt]

/-- The dwell of the phase in hand. -/
def isoDwellNow (m : IsoMon) : Nat := if m.phase == .p then m.dwellP else m.dwellN

/-- A monitor after the fit, in a phase of dwell d. -/
def tauFitted (tau d : Nat) (m : IsoMon) : IsoMon :=
  { m with tau := tau, extrap := m.extrap || decide (1000 * d < 5 * tau), phx := decide (1000 * d < 5 * tau), bad := m.bad || decide (450000 < tau),
           nextP := if m.phase == .p then isoDwell tau else m.nextP, nextN := if m.phase == .n then isoDwell tau else m.nextN }

/-- The fit 20 ms into a phase of either kind. -/
theorem does_isoTauFit {t0 : Nat} (tau : Nat) (hp : (isoMon s n).phase = .p ∨ (isoMon s n).phase = .n) (hc : (isoMon s n).confAt = some t0)
    (ht : 400 ≤ sinceT s t0) : Does (.isoTauFit n tau) s (fun t => isoMon t n = tauFitted tau (isoDwellNow (isoMon s n)) (isoMon s n)
      ∧ rget t (F.SAF_ISO_TAU n) = min 0xFF (tau / 2000)) := by
  refine ⟨rput (F.SAF_ISO_TAU n) (min 0xFF (tau / 2000)) (onIso n (tauFitted tau (isoDwellNow (isoMon s n))) s),
    congrArg Host.Outcome.next (if_pos ?_), isoMon_onIso_self _ _ _ n.isLt, ?_⟩
  · rw [hc]
    rcases hp with hp | hp <;> simp [hp, ht]
  · rw [rget_rput_self]
    exact Nat.mod_eq_of_lt (Nat.lt_of_le_of_lt (Nat.min_le_left _ _) (by decide : 0xFF < 2 ^ 8))

theorem does_isoTauFit_p (t0 tau : Nat) (hp : (isoMon s n).phase = .p) (hc : (isoMon s n).confAt = some t0) (ht : 400 ≤ sinceT s t0) :
    Does (.isoTauFit n tau) s (fun t => (isoMon t n).nextP = isoDwell tau ∧ (isoMon t n).nextN = (isoMon s n).nextN
      ∧ (isoMon t n).phx = decide (1000 * (isoMon s n).dwellP < 5 * tau) ∧ rget t (F.SAF_ISO_TAU n) = min 0xFF (tau / 2000)) := by
  obtain ⟨t, he, hm, hreg⟩ := does_isoTauFit s n tau (.inl hp) hc ht
  exact ⟨t, he, by rw [hm]; simp [tauFitted, hp], by rw [hm]; simp [tauFitted, hp], by rw [hm]; simp [tauFitted, isoDwellNow, hp], hreg⟩

theorem does_isoTauFit_n (t0 tau : Nat) (hp : (isoMon s n).phase = .n) (hc : (isoMon s n).confAt = some t0) (ht : 400 ≤ sinceT s t0) :
    Does (.isoTauFit n tau) s (fun t => (isoMon t n).nextN = isoDwell tau ∧ (isoMon t n).nextP = (isoMon s n).nextP
      ∧ (isoMon t n).phx = decide (1000 * (isoMon s n).dwellN < 5 * tau) ∧ rget t (F.SAF_ISO_TAU n) = min 0xFF (tau / 2000)) := by
  obtain ⟨t, he, hm, hreg⟩ := does_isoTauFit s n tau (.inr hp) hc ht
  exact ⟨t, he, by rw [hm]; simp [tauFitted, hp], by rw [hm]; simp [tauFitted, hp], by rw [hm]; simp [tauFitted, isoDwellNow, hp], hreg⟩

/-- The value the frozen sample of MISO is settling to (R190–R192; log entry 178). -/
def isoSettled (s : State) (n : Nat) (start : Int) (decay : Nat) : Int :=
  (4294967296 * fzVal s (sIsoMiso s n) - (decay : Int) * start) / (4294967296 - (decay : Int))

theorem isoPos_eq (start : Int) (decay : Nat) (x : Bool) :
    isoPos s n x start decay = if x then isoSettled s n start decay else fzVal s (sIsoMiso s n) := rfl

theorem does_isoPhasePEnd (t0 : Nat) (start : Int) (decay : Nat) (hp : (isoMon s n).phase = .p) (hc : (isoMon s n).confAt = some t0)
    (ht : 20 * (isoMon s n).dwellP ≤ sinceT s t0) : Does (.isoPhasePEnd n start decay) s (fun t => (isoMon t n).phase = .n
      ∧ (isoMon t n).confAt = none
      ∧ (isoMon t n).pPos = (if (isoMon s n).phx then isoSettled s n start decay else fzVal s (sIsoMiso s n))
      ∧ (isoMon t n).pNeg = oVmv s n - (isoMon t n).pPos ∧ (isoMon t n).dwellP = (isoMon s n).nextP
      ∧ (oCoil s n 2 < 64 → oCoil s n 2 ≠ oCoil s n 3 → (coil t (oCoil s n 2)).cmd = false)) := by
  refine ⟨_, congrArg Host.Outcome.next (if_pos ?due), ?_, ?_, ?_, ?_, ?_, ?brp⟩
  case due =>
    rw [hp, hc]
    exact decide_eq_true ht
  case brp =>
    intro h64 hne
    rw [coil_onIso, outCoil, coil_coilCmd_ne (by rwa [outCoil, oCoil_coilCmd])]
    exact (coil_coilCmd_self h64 false s).1
  all_goals rw [isoMon_onIso_self _ _ _ n.isLt, isoMon_outCoil, isoMon_outCoil]
  rfl

/-- How long the phase has dwelt since its relay confirmed closed, in tempos. -/
def isoHeldFor (s : State) (n : Nat) : Nat := match (isoMon s n).confAt with | some t => sinceT s t | none => 0

/-- Phase N has had its whole dwell. -/
def isoFull (s : State) (n : Nat) : Bool := (isoMon s n).confAt.isSome && decide (20 * (isoMon s n).dwellN ≤ isoHeldFor s n)

/-- The measurement of a cycle that ends now is invalid. -/
def isoSpoilt (s : State) (n : Nat) : Bool :=
  (isoMon s n).bad || decide (oVmv s n < 50000) || (!isoFull s n && decide (isoHeldFor s n < 400))

/-- The result of a cycle that ends with u on MISO. -/
def isoResult (s : State) (n : Nat) (u : Int) : Option Nat :=
  isoOhmv (isoMon s n).pPos (isoMon s n).pNeg u (oVmv s n - u) (sIsoRb s n) (sIsoRm s n) (oVrated s n)

/-- Phase N ends with its dwell, or cut short before the second. -/
theorem does_isoPhaseNEnd (start : Int) (decay : Nat) (hp : (isoMon s n).phase = .n) (hend : isoFull s n = true ∨ toSecond s ≤ 400) :
    Does (.isoPhaseNEnd n start decay) s (fun t => (isoMon t n).phase = .idle ∧ (isoMon t n).dwellN = (isoMon s n).nextN
      ∧ (isoMon t n).extrap = ((isoMon s n).extrap || !isoFull s n)
      ∧ (isoMon t n).result = some (if isoSpoilt s n then none
          else isoResult s n (isoPos s n ((isoMon s n).phx || !isoFull s n) start decay))) := by
  have hover : ((isoMon s n).phase == .n && (isoFull s n || decide (toSecond s ≤ 400))) = true := by
    rcases hend with h | h <;> simp [hp, h]
  refine ⟨_, congrArg Host.Outcome.next (if_pos hover), ?_, ?_, ?_, ?_⟩ <;> rw [isoMon_onIso_self _ _ _ n.isLt, isoMon_outCoil] <;> rfl

theorem isoHeldFor_some {t0 : Nat} (hc : (isoMon s n).confAt = some t0) : isoHeldFor s n = sinceT s t0 := by rw [isoHeldFor, hc]

theorem isoFull_some {t0 : Nat} (hc : (isoMon s n).confAt = some t0) : isoFull s n = decide (20 * (isoMon s n).dwellN ≤ sinceT s t0) := by
  rw [isoFull, isoHeldFor_some s n hc, hc]
  rfl

theorem does_isoPhaseNEnd_full (t0 : Nat) (start : Int) (decay : Nat) (hp : (isoMon s n).phase = .n) (hc : (isoMon s n).confAt = some t0)
    (ht : 20 * (isoMon s n).dwellN ≤ sinceT s t0) (hb : (isoMon s n).bad = false) (hv : 50000 ≤ oVmv s n) :
    Does (.isoPhaseNEnd n start decay) s (fun t => (isoMon t n).phase = .idle ∧ (isoMon t n).dwellN = (isoMon s n).nextN
      ∧ (isoMon t n).result = some (isoResult s n (if (isoMon s n).phx then isoSettled s n start decay else fzVal s (sIsoMiso s n)))) := by
  have hfull : isoFull s n = true := by rw [isoFull_some s n hc, decide_eq_true ht]
  have hgood : isoSpoilt s n = false := by simp [isoSpoilt, hfull, hb, hv]
  obtain ⟨t, he, hphase, hdwell, -, hres⟩ := does_isoPhaseNEnd s n start decay hp (.inl hfull)
  refine ⟨t, he, hphase, hdwell, ?_⟩
  rw [hres, hgood, hfull, Bool.not_true, Bool.or_false, isoPos_eq]
  rfl

theorem does_isoPhaseNEnd_cut (t0 : Nat) (start : Int) (decay : Nat) (hp : (isoMon s n).phase = .n) (hc : (isoMon s n).confAt = some t0)
    (ht : sinceT s t0 < 20 * (isoMon s n).dwellN) (hcut : toSecond s ≤ 400) (hmin : 400 ≤ sinceT s t0) (hb : (isoMon s n).bad = false)
    (hv : 50000 ≤ oVmv s n) : Does (.isoPhaseNEnd n start decay) s (fun t => (isoMon t n).phase = .idle ∧ (isoMon t n).extrap = true
      ∧ (isoMon t n).result = some (isoResult s n (isoSettled s n start decay))) := by
  have hfull : isoFull s n = false := by rw [isoFull_some s n hc, decide_eq_false (Nat.not_le.mpr ht)]
  have hgood : isoSpoilt s n = false := by simp [isoSpoilt, isoHeldFor_some s n hc, hmin, hb, hv]
  obtain ⟨t, he, hphase, -, hext, hres⟩ := does_isoPhaseNEnd s n start decay hp (.inr hcut)
  refine ⟨t, he, hphase, by rw [hext, hfull, Bool.not_false, Bool.or_true], ?_⟩
  rw [hres, hgood, hfull, Bool.not_false, Bool.or_true, isoPos_eq]
  rfl

theorem does_isoPhaseNEnd_invalid (start : Int) (decay : Nat) (hp : (isoMon s n).phase = .n) (hcut : toSecond s ≤ 400)
    (h : (isoMon s n).bad = true ∨ oVmv s n < 50000 ∨ (isoMon s n).confAt = none) :
    Does (.isoPhaseNEnd n start decay) s (fun t => (isoMon t n).phase = .idle ∧ (isoMon t n).result = some none) := by
  have hspoilt : isoSpoilt s n = true := by
    rcases h with hb | hv | hc
    · simp [isoSpoilt, hb]
    · simp [isoSpoilt, hv]
    · simp [isoSpoilt, isoFull, isoHeldFor, hc]
  obtain ⟨t, he, hphase, -, -, hres⟩ := does_isoPhaseNEnd s n start decay hp (.inr hcut)
  exact ⟨t, he, hphase, by rw [hres, hspoilt, if_pos rfl]⟩

end

/-! ### A trip of the residual-current function (R195, R196) -/

/-- An outlet that a trip stops (R196). -/
def Outlet.tripped (o : Outlet) : Outlet := { o with isoOk := false, isoHeld := true, rcTrip := true }

/-- The trip of one outlet: ISO_OK falls, and KP of an AC3 outlet opens as a hard break. -/
def rcTripped (n : Nat) (t : State) : State :=
  if oType t n = tyAc3 then onCoil (oCoil t n 0) (fun k => { k with hard := k.drive }) (outCoil n 0 false (onOutlet n Outlet.tripped t))
  else onOutlet n Outlet.tripped t

/-- KP of an outlet is commanded closed. -/
def kpClosed (n : Nat) (t : State) : Bool := decide (oCoil t n 0 < 64) && (coil t (oCoil t n 0)).cmd

/-- A trip looks at one outlet. -/
def rcTripTurn (all : Bool) (n : Nat) (t : State) : State :=
  if oActive t n && sRcMask t n && (all || kpClosed n t) then rcTripped n t else t

theorem rcTripOutlets_eq (all : Bool) (s : State) :
    rcTripOutlets all s = raiseSaf F.SAF_FLAGS_RCTRIP (rput F.SAF_RC_TRIP 1 (eachUpTo 4 (rcTripTurn all) s)) := rfl

/-- The trip of one outlet keeps what neither that outlet nor KP is part of. -/
theorem rcTripped_keeps {α : Type} (p : State → α) (n : Nat) (t : State) (hout : p (onOutlet n Outlet.tripped t) = p t)
    (hcoil : ∀ f u, p (onCoil (oCoil t n 0) f u) = p u) : p (rcTripped n t) = p t := by
  unfold rcTripped
  split
  · rw [hcoil, outCoil]
    exact (coilCmd_keeps p (oCoil t n 0) false _ hcoil).trans hout
  · exact hout

theorem rcTripTurn_keeps {α : Type} (p : State → α) (all : Bool) (n : Nat) (t : State) (hout : p (onOutlet n Outlet.tripped t) = p t)
    (hcoil : ∀ f u, p (onCoil (oCoil t n 0) f u) = p u) : p (rcTripTurn all n t) = p t := by
  unfold rcTripTurn
  split
  · exact rcTripped_keeps p n t hout hcoil
  · rfl

theorem isoOk_rcTripped {n : Nat} (hn : n < 4) (t : State) : (outlet (rcTripped n t) n).isoOk = false := by
  have hcoil : ∀ c f u, outlet (onCoil c f u) n = outlet u n := fun _ _ _ => rfl
  unfold rcTripped
  split
  · rw [hcoil, outCoil, outlet_coilCmd, outlet_onOutlet_self _ _ _ hn, Outlet.tripped]
  · rw [outlet_onOutlet_self _ _ _ hn, Outlet.tripped]

/-- The layout stands as in the first state, and KP of outlet n is commanded closed. -/
def KpStillClosed (s : State) (n : Nat) (t : State) : Prop := t.sec = s.sec ∧ t.loaded = s.loaded ∧ (coil t (oCoil s n 0)).cmd = true

/-- What a trip looks for at an outlet, read under the same layout. -/
theorem tripped_congr {s t : State} (hsec : t.sec = s.sec) (hload : t.loaded = s.loaded) (n : Nat) :
    oActive t n = oActive s n ∧ sRcMask t n = sRcMask s n ∧ oCoil t n 0 = oCoil s n 0 := by
  simp only [oActive, isPost, oType, sRcMask, oCoil, oU8, sec, hsec, hload, and_self]

/-- A trip takes ISO_OK from a masked outlet whose KP is closed and its own (R196). -/
theorem isoOk_rcTripOutlets {s : State} (n : Fin 4) (ha : oActive s n = true) (hm : sRcMask s n = true) (h64 : oCoil s n 0 < 64)
    (hc : (coil s (oCoil s n 0)).cmd = true) (hown : ∀ m : Fin 4, m ≠ n → oCoil s m 0 ≠ oCoil s n 0) :
    (outlet (rcTripOutlets false s) n).isoOk = false := by
  have houtlet : ∀ f u, outlet (raiseSaf f u) n = outlet u n := fun f u => by rw [outlet, raiseSaf_outs, outlet]
  have hput : ∀ f v u, outlet (rput f v u) n = outlet u n := fun _ _ _ => rfl
  rw [rcTripOutlets_eq, houtlet, hput]
  refine eachUpTo_brings n.isLt (rcTripTurn false) (Q := KpStillClosed s n) (P := fun t => (outlet t n).isoOk = false) ⟨rfl, rfl, hc⟩
    (fun m t hmn ht => ?before) (fun t ht => ?turn) (fun m t hmn ht => ?after)
  case before =>
    obtain ⟨hsec, hload, hcmd⟩ := ht
    obtain ⟨-, -, hcoil⟩ := tripped_congr hsec hload m
    have hne : oCoil s n 0 ≠ oCoil t m 0 := by
      rw [hcoil]
      exact (hown ⟨m, hmn.trans n.isLt⟩ fun h => absurd (congrArg Fin.val h) hmn.ne).symm
    refine ⟨?_, ?_, ?_⟩
    · exact (rcTripTurn_keeps State.sec false m t rfl fun _ _ => rfl).trans hsec
    · exact (rcTripTurn_keeps State.loaded false m t rfl fun _ _ => rfl).trans hload
    · rw [rcTripTurn_keeps (coil · (oCoil s n 0)) false m t rfl fun f u => coil_onCoil_ne _ _ f u hne, hcmd]
  case turn =>
    obtain ⟨hsec, hload, hcmd⟩ := ht
    obtain ⟨hact, hmask, hcoil⟩ := tripped_congr hsec hload n
    rw [rcTripTurn, kpClosed, hact, hmask, hcoil, ha, hm, hcmd, decide_eq_true h64, if_pos (by rfl)]
    exact isoOk_rcTripped n.isLt t
  case after =>
    rw [rcTripTurn_keeps (outlet · n) false m t (outlet_onOutlet_ne _ _ _ _ hmn.ne) fun _ _ => rfl, ht]

/-- A register outside SAF_RC's TRIP, RCTRIP and the event counts stands. -/
theorem rget_rcTripOutlets_ne {g : Fld} (ht : fkey g ≠ fkey F.SAF_RC_TRIP) (hf : fkey g ≠ fkey F.SAF_FLAGS_RCTRIP)
    (hc : fkey g ≠ fkey F.SAF_EVCNT_COUNT) (hq : fkey g ≠ fkey F.SAF_EVQOVF_COUNT) (all : Bool) (s : State) :
    rget (rcTripOutlets all s) g = rget s g := by
  rw [rcTripOutlets_eq, raiseSaf, raise, rget_raiseData_ne _ _ _ _ _ hf hc hq, rget_rput_ne _ _ _ _ ht]
  exact rget_congr g (eachUpTo_frame State.regs _ _ _ fun n t _ => rcTripTurn_keeps State.regs all n t rfl fun _ _ => rfl)

theorem rget_rcTripOutlets_trip (all : Bool) (s : State) : rget (rcTripOutlets all s) F.SAF_RC_TRIP = 1 := by
  rw [rcTripOutlets_eq, raiseSaf, raise, rget_raiseData_ne _ _ _ _ _ (by decide) (by decide) (by decide), rget_rput_self]
  rfl

theorem rget_rcTripOutlets_rctrip (all : Bool) (s : State) : rget (rcTripOutlets all s) F.SAF_FLAGS_RCTRIP = 1 := by
  rw [rcTripOutlets_eq]
  exact rget_raiseData_flag 0 _ _ _ (by decide) (by decide) (by decide)

theorem does_rcTrip (s : State) (n : Fin 4) (k : Fin 3) (t0 : Nat) (hu : Tab.get none s.saf.rcUp k = some t0) (ht : rcTime k ≤ sinceT s t0)
    (ha : rcThreshold k ≤ s.saf.rcAvg) (hany : sRcAny s = true) (hno : rbit s F.SAF_RC_TRIP = false) :
    Does (.rcTrip k) s (fun t => rget t F.SAF_RC_TRIP = 1 ∧ rget t F.SAF_FLAGS_RCTRIP = 1
      ∧ (oActive s n = true → sRcMask s n = true → oCoil s n 0 < 64 → (coil s (oCoil s n 0)).cmd = true →
          (∀ m : Fin 4, m ≠ n → oCoil s m 0 ≠ oCoil s n 0) → (outlet t n).isoOk = false)) := by
  have htrip : rcCheck k s = rcTripOutlets false s := by
    unfold rcCheck
    rw [hu]
    exact if_pos ⟨hany, ht, ha, by rw [hno]; rfl⟩
  exact ⟨_, congrArg Host.Outcome.next htrip, rget_rcTripOutlets_trip false s, rget_rcTripOutlets_rctrip false s, isoOk_rcTripOutlets n⟩

/-! ### The test of the fluxgate (R198) -/

/-- The test of an outlet over. -/
def fgtEnded (n : Nat) (s : State) : State := { s with saf.fgt := Tab.upd s.saf.fgt n (fun _ => none) }

theorem fgt_fgtEnded {n : Nat} (hn : n < 4) (s : State) : Tab.get none (fgtEnded n s).saf.fgt n = none := Tab.get_upd_self _ _ _ _ hn

theorem exec_fluxgateTest {s : State} {n : Fin 4} {t0 : Nat} (exc : Bool) (hf : Tab.get none s.saf.fgt n = some t0) (ht : 2000 ≤ sinceT s t0) :
    exec (.fluxgateTest n exc) s = .next (if exc ∧ 8000 ≤ fzVal s 52 ∧ fzVal s 52 ≤ 12000
      then onOutlet n (fun o => { o with rcTested := true }) (fgtEnded n s) else rcSensorFault (fgtEnded n s)) := by
  refine congrArg Host.Outcome.next ?_
  rw [hf]
  exact if_pos ht

theorem does_fluxgateTest_pass (s : State) (n : Fin 4) (t0 : Nat) (hf : Tab.get none s.saf.fgt n = some t0) (ht : 2000 ≤ sinceT s t0)
    (hlo : 8000 ≤ fzVal s 52) (hhi : fzVal s 52 ≤ 12000) : Does (.fluxgateTest n true) s (fun t => (outlet t n).rcTested = true
      ∧ Tab.get none t.saf.fgt n = none ∧ rget t F.SAF_RC_SENS = rget s F.SAF_RC_SENS) := by
  refine ⟨_, (exec_fluxgateTest true hf ht).trans (congrArg Host.Outcome.next (if_pos ⟨rfl, hlo, hhi⟩)), ?_, fgt_fgtEnded n.isLt s, rfl⟩
  rw [outlet_onOutlet_self _ _ _ n.isLt]

theorem rget_rcSensorFault_rcsens (s : State) : rget (rcSensorFault s) F.SAF_FLAGS_RCSENS = 1 := by
  have hflag : ∀ u : State, rget (raiseSaf F.SAF_FLAGS_RCSENS u) F.SAF_FLAGS_RCSENS = 1 :=
    fun u => rget_raiseData_flag 0 _ _ _ (by decide) (by decide) (by decide)
  unfold rcSensorFault
  split
  · rw [rget_rcTripOutlets_ne (by decide) (by decide) (by decide) (by decide)]
    exact hflag _
  · exact hflag _

theorem does_fluxgateTest_fail (s : State) (n : Fin 4) (t0 : Nat) (exc : Bool) (hf : Tab.get none s.saf.fgt n = some t0)
    (ht : 2000 ≤ sinceT s t0) (hbad : exc = false ∨ fzVal s 52 < 8000 ∨ 12000 < fzVal s 52) : Does (.fluxgateTest n exc) s (fun t =>
      rget t F.SAF_RC_SENS = 1 ∧ rget t F.SAF_FLAGS_RCSENS = 1 ∧ Tab.get none t.saf.fgt n = none) := by
  have hfail : ¬(exc = true ∧ 8000 ≤ fzVal s 52 ∧ fzVal s 52 ≤ 12000) := by
    rintro ⟨hx, hlo, hhi⟩
    rcases hbad with h | h | h
    · exact Bool.false_ne_true (h.symm.trans hx)
    · omega
    · omega
  refine ⟨_, (exec_fluxgateTest exc hf ht).trans (congrArg Host.Outcome.next (if_neg hfail)), rget_rcSensorFault_sens _,
    rget_rcSensorFault_rcsens _, ?_⟩
  rw [rcSensorFault_saf]
  exact fgt_fgtEnded n.isLt s

/-- Settles O13: a cycle of the monitor from its start to its result, the tiers' trip and the fluxgate's test. -/
theorem isolationAndResidualCommands : Obligations.IsolationAndResidualCommands := fun s n =>
  ⟨does_isoCycleStart s n, does_isoTauFit_p s n, does_isoTauFit_n s n, does_isoPhasePEnd s n, does_isoPhaseNEnd_full s n,
    does_isoPhaseNEnd_cut s n, does_isoPhaseNEnd_invalid s n, does_rcTrip s n, does_fluxgateTest_pass s n, does_fluxgateTest_fail s n⟩

end Sys2Proof.Machine

end

section

/-! SUPPORT. What the operations of the metering engine leave alone: the registers its flags reach (R38, R39), and the parts of the state
outside its channels. -/

namespace Sys2Proof.Machine

/-! ### Flags of MTR_FLAGS -/

/-- The flags of MTR_FLAGS. -/
def mtrFlags : List Fld :=
  [F.MTR_FLAGS_TRANGE, F.MTR_FLAGS_POBACKLOG, F.MTR_FLAGS_CAPLOSS, F.MTR_FLAGS_CLKDEG, F.MTR_FLAGS_SEQREV, F.MTR_FLAGS_MISSN,
   F.MTR_FLAGS_GRIDEV, F.MTR_FLAGS_PILOUT, F.MTR_FLAGS_DEAD, F.MTR_FLAGS_OVR, F.MTR_FLAGS_MCLEAR, F.MTR_FLAGS_MFAULT]

/-- The address of the register a field lies in. -/
def fldWord (f : Fld) : Nat := fkey f / 32

/-- A field of MTR_FLAGS or of its event counter. -/
abbrev InMtrFlags (f : Fld) : Prop := fldWord f = 0x10090004 ∨ fldWord f = 0x10090008

theorem fkey_ne_of_fldWord {f g : Fld} (h : fldWord f ≠ fldWord g) : fkey f ≠ fkey g := fun e => h (congrArg (· / 32) e)

theorem mtrFlags_facts : ∀ f ∈ mtrFlags, fldWord f = 0x10090004 ∧ 0 < f.width ∧ fkey f ≠ fkey F.MTR_EVCNT_COUNT
    ∧ fkey f ≠ fkey F.SAF_EVQOVF_COUNT ∧ flagSource f.addr = none := by decide

theorem mtrFlags_apart : ∀ f ∈ mtrFlags, ∀ g ∈ mtrFlags, g = f ∨ fkey f ≠ fkey g := by decide

/-- From s to t flags of the metering engine may have come up, with their counter; every other register reads as before. -/
structure FlagsRise (s t : State) : Prop where
  other : ∀ f, ¬InMtrFlags f → rget t f = rget s f
  stay : ∀ f ∈ mtrFlags, rget s f = 1 → rget t f = 1

theorem FlagsRise.of_regs {s t : State} (h : t.regs = s.regs) : FlagsRise s t :=
  ⟨fun f _ => rget_congr f h, fun f _ hf => (rget_congr f h).trans hf⟩

theorem FlagsRise.refl (s : State) : FlagsRise s s := .of_regs rfl

theorem FlagsRise.trans {s t u : State} (h : FlagsRise s t) (k : FlagsRise t u) : FlagsRise s u :=
  ⟨fun f hf => (k.other f hf).trans (h.other f hf), fun f hf h1 => k.stay f hf (h.stay f hf h1)⟩

theorem rget_raiseMtr {f : Fld} (hf : f ∈ mtrFlags) (s : State) : rget (raiseMtr f s) f = 1 := by
  obtain ⟨-, hw, hc, hq, -⟩ := mtrFlags_facts f hf
  exact rget_raiseData_flag 0 F.MTR_EVCNT_COUNT f s hw hc hq

theorem raiseMtr_eq {f : Fld} (hf : f ∈ mtrFlags) (s : State) : raiseMtr f s = { s with regs := (raiseMtr f s).regs } := by
  obtain ⟨-, -, -, -, hsrc⟩ := mtrFlags_facts f hf
  simp only [raiseMtr, raise, raiseData, List.foldl_cons, List.foldl_nil, flagSet, hsrc]
  rfl

theorem flagsRise_raiseMtr {f : Fld} (hf : f ∈ mtrFlags) (s : State) : FlagsRise s (raiseMtr f s) := by
  obtain ⟨hword, -, -, -, hsrc⟩ := mtrFlags_facts f hf
  have hset : flagSet 0 f s = rput f 1 s := by simp only [flagSet, hsrc]
  refine ⟨fun g hg => ?_, fun g hg h1 => ?_⟩
  · have hne : fkey g ≠ fkey f := fkey_ne_of_fldWord fun e => hg (.inl (e.trans hword))
    have hcnt : fkey g ≠ fkey F.MTR_EVCNT_COUNT := fkey_ne_of_fldWord fun e => hg (.inr (e.trans rfl))
    simp only [raiseMtr, raise, raiseData, List.foldl_cons, List.foldl_nil, hset]
    rw [rget_rsat_ne _ _ _ _ hcnt, rget_rput_ne _ _ _ _ hne]
  · obtain ⟨-, hw, hc, hq, -⟩ := mtrFlags_facts g hg
    exact rget_raise_one hw hc hq (by simpa [eq_comm] using mtrFlags_apart g hg f hf) h1

/-! ### What an operation on the channels leaves alone -/

/-- A loop whose every turn is related to the state before it, by a relation that composes. -/
theorem eachUpTo_related {R : State → State → Prop} (hrefl : ∀ s, R s s) (htrans : ∀ {s t u}, R s t → R t u → R s u) {f : Nat → State → State}
    (h : ∀ i t, R t (f i t)) (n : Nat) (s : State) : R s (eachUpTo n f s) := by
  induction n with
  | zero => exact hrefl s
  | succ n ih =>
    rw [eachUpTo_succ]
    exact htrans ih (h n _)

/-- The state with other registers and another fault of the metering engine seen last. -/
def faultsPut (regs : Tbl Nat) (seen code : Nat) (s : State) : State :=
  { s with regs := regs, mtr.faultSeen := seen, mtr.faultCode := code }

/-- The state with other channels of the metering engine, other measurement streams and another count of free values besides. -/
def channelsPut (regs : Tbl Nat) (seen code ctr got : Nat) (strm : Vector Stream 64) (chan : Vector Chan 16) (s : State) : State :=
  { faultsPut regs seen code s with freeCtr := ctr, strm := strm, mtr.chan := chan, mtr.got := got }

/-- From s to t the metering engine's channels, the fault it saw last and the measurement streams may have changed, free values may have
been drawn, and its flags may have come up. -/
structure OnlyChannels (s t : State) : Prop where
  rest : ∃ regs seen code ctr got strm chan, t = channelsPut regs seen code ctr got strm chan s
  flags : FlagsRise s t

namespace OnlyChannels

variable {s t u : State}

theorem refl (s : State) : OnlyChannels s s :=
  ⟨⟨s.regs, s.mtr.faultSeen, s.mtr.faultCode, s.freeCtr, s.mtr.got, s.strm, s.mtr.chan, rfl⟩, .refl s⟩

theorem trans (h : OnlyChannels s t) (k : OnlyChannels t u) : OnlyChannels s u := by
  obtain ⟨⟨_, _, _, _, _, _, _, rfl⟩, hf⟩ := h
  obtain ⟨⟨_, _, _, _, _, _, _, rfl⟩, kf⟩ := k
  exact ⟨⟨_, _, _, _, _, _, _, rfl⟩, hf.trans kf⟩

/-- What looks at none of the parts that may change is the same. -/
theorem same (h : OnlyChannels s t) {α : Type} (p : State → α)
    (hp : ∀ u regs seen code ctr got strm chan, p (channelsPut regs seen code ctr got strm chan u) = p u
      := by exact fun _ _ _ _ _ _ _ _ => rfl) : p t = p s := by
  obtain ⟨⟨regs, seen, code, ctr, got, strm, chan, rfl⟩, -⟩ := h
  exact hp s regs seen code ctr got strm chan

theorem eachUpTo {n : Nat} {f : Nat → State → State} (h : ∀ i t, OnlyChannels t (f i t)) (s : State) : OnlyChannels s (eachUpTo n f s) :=
  eachUpTo_related refl trans h n s

end OnlyChannels

theorem onlyChannels_onChan (c : Nat) (f : Chan → Chan) (s : State) : OnlyChannels s (onChan c f s) :=
  ⟨⟨_, _, _, _, _, _, _, rfl⟩, .of_regs rfl⟩

theorem onlyChannels_faultsPut {regs : Tbl Nat} {seen code : Nat} {s : State} (h : FlagsRise s (faultsPut regs seen code s)) :
    OnlyChannels s (faultsPut regs seen code s) := ⟨⟨regs, seen, code, s.freeCtr, s.mtr.got, s.strm, s.mtr.chan, rfl⟩, h⟩

theorem raiseMtr_eq_faultsPut {f : Fld} (hf : f ∈ mtrFlags) (s : State) :
    raiseMtr f s = faultsPut (raiseMtr f s).regs s.mtr.faultSeen s.mtr.faultCode s := raiseMtr_eq hf s

theorem onlyChannels_raiseMtr {f : Fld} (hf : f ∈ mtrFlags) (s : State) : OnlyChannels s (raiseMtr f s) := by
  have h := flagsRise_raiseMtr hf s
  rw [raiseMtr_eq_faultsPut hf s] at h ⊢
  exact onlyChannels_faultsPut h

theorem onlyChannels_strmPut (k : Nat) (v : Int) (s : State) : OnlyChannels s (strmPut k v s) :=
  ⟨⟨_, _, _, _, _, _, _, rfl⟩, .of_regs rfl⟩

theorem onlyChannels_freeNat (s : State) : OnlyChannels s (freeNat s).2 := ⟨⟨_, _, _, _, _, _, _, rfl⟩, .of_regs rfl⟩

/-! ### A change of the metering faults (R236, R238) -/

/-- The faults of channel c that s lacks and t has. -/
def newFaults (c : Nat) (s t : State) : List Nat := (chanFaults t c).filter (fun x => !(chanFaults s c).contains x)

/-- New faults raised, and the last of them kept. -/
def faultsUp (c : Nat) (s t : State) : State :=
  if (newFaults c s t).isEmpty then t else
    { raiseMtr F.MTR_FLAGS_MFAULT t with
        mtr.faultCode := (newFaults c s t).headD 0
        mtr.faultSeen := t.mtr.faultSeen ||| bitsOf 8 (fun n => (eChans t n).contains c) }

theorem withFaults_eq (c : Nat) (f : State → State) (s : State) : withFaults c f s =
    if (chanFaults s c).any (fun x => !(chanFaults (f s) c).contains x) then raiseMtr F.MTR_FLAGS_MCLEAR (faultsUp c s (f s))
    else faultsUp c s (f s) := rfl

theorem faultsUp_eq (c : Nat) (s t : State) (h : newFaults c s t ≠ []) : ∃ seen code, faultsUp c s t =
    faultsPut (raiseMtr F.MTR_FLAGS_MFAULT t).regs seen code t := by
  rw [faultsUp, if_neg (by simpa using h), raiseMtr_eq (by decide)]
  exact ⟨_, _, rfl⟩

theorem faultsUp_of_nil (c : Nat) (s t : State) (h : newFaults c s t = []) : faultsUp c s t = t := by rw [faultsUp, h]; rfl

theorem onlyChannels_faultsUp (c : Nat) (s t : State) : OnlyChannels t (faultsUp c s t) := by
  by_cases h : newFaults c s t = []
  · rw [faultsUp_of_nil c s t h]
    exact .refl t
  · obtain ⟨seen, code, e⟩ := faultsUp_eq c s t h
    have hr := flagsRise_raiseMtr (f := F.MTR_FLAGS_MFAULT) (by decide) t
    rw [e]
    exact onlyChannels_faultsPut (hr.trans (.of_regs rfl))

theorem onlyChannels_withFaults (c : Nat) {f : State → State} {s : State} (h : OnlyChannels s (f s)) : OnlyChannels s (withFaults c f s) := by
  rw [withFaults_eq]
  have hup := h.trans (onlyChannels_faultsUp c s (f s))
  split
  · exact hup.trans (onlyChannels_raiseMtr (by decide) _)
  · exact hup

/-- What looks at neither the registers nor the fault seen last is as the change left it. -/
theorem withFaults_same {α : Type} (p : State → α) (c : Nat) (f : State → State) (s : State)
    (hp : ∀ u regs seen code, p (faultsPut regs seen code u) = p u := by exact fun _ _ _ _ => rfl) : p (withFaults c f s) = p (f s) := by
  have hup : p (faultsUp c s (f s)) = p (f s) := by
    by_cases h : newFaults c s (f s) = []
    · rw [faultsUp_of_nil c s _ h]
    · obtain ⟨seen, code, e⟩ := faultsUp_eq c s (f s) h
      rw [e]
      exact hp _ _ _ _
  rw [withFaults_eq]
  split
  · rw [raiseMtr_eq_faultsPut (by decide)]
    exact (hp _ _ _ _).trans hup
  · exact hup

theorem rget_withFaults_mfault {c x : Nat} {f : State → State} {s : State} (hnew : x ∈ chanFaults (f s) c) (hold : x ∉ chanFaults s c) :
    rget (withFaults c f s) F.MTR_FLAGS_MFAULT = 1 := by
  have hmem : x ∈ newFaults c s (f s) := List.mem_filter.mpr ⟨hnew, by simpa using hold⟩
  have hup : rget (faultsUp c s (f s)) F.MTR_FLAGS_MFAULT = 1 := by
    rw [faultsUp, if_neg (by simpa using List.ne_nil_of_mem hmem)]
    exact rget_raiseMtr (f := F.MTR_FLAGS_MFAULT) (by decide) (f s)
  rw [withFaults_eq]
  split
  · exact (flagsRise_raiseMtr (by decide) _).stay _ (by decide) hup
  · exact hup

/-! ### Channels -/

theorem chan_onChan_self {c : Nat} (hc : c < 16) (f : Chan → Chan) (s : State) : chan (onChan c f s) c = f (chan s c) :=
  Tab.get_upd_self _ _ _ _ hc

theorem chan_onChan_ne {c i : Nat} (h : c ≠ i) (f : Chan → Chan) (s : State) : chan (onChan i f s) c = chan s c :=
  Tab.get_upd_ne _ _ _ _ _ h

theorem chan_raiseMtr (f : Fld) (s : State) (c : Nat) : chan (raiseMtr f s) c = chan s c := by
  rw [chan, raiseMtr, raise_mtr, chan]

theorem chan_withFaults (c : Nat) (f : State → State) (s : State) (i : Nat) : chan (withFaults c f s) i = chan (f s) i :=
  withFaults_same (chan · i) c f s

end Sys2Proof.Machine

end

section

/-! SUPPORT. The channels of the meter that fall silent (R208), their temperatures (R216–R218), and the chips of the pilots (R221). -/

namespace Sys2Proof.Machine

theorem does_next {c : Instr} {s t : State} {P : State → Prop} (he : exec c s = .next t) (hp : P t) : Does c s P := ⟨t, he, hp⟩

/-! ### DEAD channels (R208) -/

section

variable {s : State} {c : Nat}

theorem chanDead_of_unused (h : cUse s c = 0 ∨ (chan s c).dead = true) : chanDead c s = s := if_pos h

theorem chanDead_of_live (hu : cUse s c ≠ 0) (hd : (chan s c).dead = false) : chanDead c s = raiseMtr F.MTR_FLAGS_DEAD
    (withFaults c (onChan c (fun k => { k with dead := true, run := 0, pil := { k.pil with bad := true } })) s) :=
  if_neg (by simp [hu, hd])

theorem live_or_skipped (s : State) (c : Nat) : (cUse s c = 0 ∨ (chan s c).dead = true) ∨ (cUse s c ≠ 0 ∧ (chan s c).dead = false) := by
  by_cases hu : cUse s c = 0
  · exact .inl (.inl hu)
  · cases hd : (chan s c).dead
    · exact .inr ⟨hu, rfl⟩
    · exact .inl (.inr rfl)

theorem onlyChannels_chanDead (c : Nat) (s : State) : OnlyChannels s (chanDead c s) := by
  rcases live_or_skipped s c with h | ⟨hu, hd⟩
  · rw [chanDead_of_unused h]
    exact .refl s
  · rw [chanDead_of_live hu hd]
    exact (onlyChannels_withFaults c (onlyChannels_onChan c _ s)).trans (onlyChannels_raiseMtr (by decide) _)

theorem chan_chanDead_ne {i : Nat} (h : i ≠ c) : chan (chanDead c s) i = chan s i := by
  rcases live_or_skipped s c with h' | ⟨hu, hd⟩
  · rw [chanDead_of_unused h']
  · rw [chanDead_of_live hu hd, chan_raiseMtr, chan_withFaults, chan_onChan_ne h]

theorem chan_chanDead_self (hc : c < 16) (hu : cUse s c ≠ 0) : (chan (chanDead c s) c).dead = true := by
  cases hd : (chan s c).dead
  · rw [chanDead_of_live hu hd, chan_raiseMtr, chan_withFaults, chan_onChan_self hc]
  · rw [chanDead_of_unused (.inr hd), hd]

theorem rget_chanDead_flag (hu : cUse s c ≠ 0) (hd : (chan s c).dead = false) : rget (chanDead c s) F.MTR_FLAGS_DEAD = 1 := by
  rw [chanDead_of_live hu hd]
  exact rget_raiseMtr (by decide) _

/-- Every channel of a group falls silent with its MCLK. -/
def groupDead (g : Nat) (s : State) : State := eachUpTo 4 (fun i => chanDead (4 * g + i)) s

theorem onlyChannels_groupTurns (g n : Nat) (s : State) : OnlyChannels s (eachUpTo n (fun i => chanDead (4 * g + i)) s) :=
  .eachUpTo (fun _ t => onlyChannels_chanDead _ t) s

theorem chan_groupDead {g i : Nat} (hg : g < 4) (hi : i < 4) (hu : cUse s (4 * g + i) ≠ 0) :
    (chan (groupDead g s) (4 * g + i)).dead = true := by
  rw [groupDead, eachUpTo_at (chan · (4 * g + i)) hi _ s fun j t _ hj => chan_chanDead_ne (by omega)]
  exact chan_chanDead_self (by omega) (by rwa [(onlyChannels_groupTurns g i s).same (cUse · (4 * g + i))])

theorem rget_groupDead_flag {g i : Nat} (hi : i < 4) (hu : cUse s (4 * g + i) ≠ 0) (hd : (chan s (4 * g + i)).dead = false) :
    rget (groupDead g s) F.MTR_FLAGS_DEAD = 1 :=
  eachUpTo_brings hi _ (Q := fun t => OnlyChannels s t ∧ chan t (4 * g + i) = chan s (4 * g + i))
    (P := fun t => rget t F.MTR_FLAGS_DEAD = 1) ⟨.refl s, rfl⟩
    (fun j t hj ht => ⟨ht.1.trans (onlyChannels_chanDead _ t), (chan_chanDead_ne (by omega)).trans ht.2⟩)
    (fun t ht => rget_chanDead_flag (by rwa [ht.1.same (cUse · (4 * g + i))]) (by rw [ht.2, hd]))
    (fun j t _ ht => (onlyChannels_chanDead _ t).flags.stay _ (by decide) ht)

end

section

variable {s : State} (hm : mtrOn s = true) (c : Fin 16)

include hm

theorem exec_channelDead (equal mis : Nat) : exec (.channelDead c equal mis) s = .next (if 8 ≤ mis then groupDead (c.val / 4) s
    else if 1000 ≤ equal then chanDead c s else s) := congrArg Host.Outcome.next (if_neg (by simp [hm]))

theorem does_channelDead (equal mis : Nat) (hu : cUse s c ≠ 0) (h : 1000 ≤ equal ∨ 8 ≤ mis) : Does (.channelDead c equal mis) s (fun t =>
    (chan t c).dead = true ∧ ((chan s c).dead = false → rget t F.MTR_FLAGS_DEAD = 1)
      ∧ (8 ≤ mis → ∀ i ∈ List.range 4, cUse s (4 * (c.val / 4) + i) ≠ 0 → (chan t (4 * (c.val / 4) + i)).dead = true)) := by
  refine does_next (exec_channelDead hm c equal mis) ?_
  by_cases h8 : 8 ≤ mis
  · have hg : c.val / 4 < 4 := by omega
    have hc : 4 * (c.val / 4) + c.val % 4 = c.val := Nat.div_add_mod _ _
    have hown : c.val % 4 < 4 := Nat.mod_lt _ (by decide)
    rw [if_pos h8]
    refine ⟨?_, fun hd => ?_, fun _ i hi hui => chan_groupDead hg (List.mem_range.mp hi) hui⟩
    · have hdead := chan_groupDead hg hown (by rwa [hc])
      rwa [hc] at hdead
    · exact rget_groupDead_flag hown (by rwa [hc]) (by rwa [hc])
  · rw [if_neg h8, if_pos (h.resolve_right h8)]
    exact ⟨chan_chanDead_self c.isLt hu, rget_chanDead_flag hu, fun h => absurd h h8⟩

theorem does_channelDead_none (equal mis : Nat) (he : equal < 1000) (hmis : mis < 8) : Does (.channelDead c equal mis) s (fun t => t = s) :=
  does_next (exec_channelDead hm c equal mis) (by rw [if_neg (by omega), if_neg (by omega)])

theorem does_channelRecovered (hd : (chan s c).dead = true) (hr : 20 ≤ (chan s c).run) :
    Does (.channelRecovered c) s (fun t => (chan t c).dead = false) :=
  does_next (congrArg Host.Outcome.next (if_pos ⟨hm, hd, hr⟩)) (by rw [chan_withFaults, chan_onChan_self c.isLt])

omit hm in
theorem does_channelRecovered_none (h : (chan s c).dead = false ∨ (chan s c).run < 20) : Does (.channelRecovered c) s (fun t => t = s) := by
  refine does_next (congrArg Host.Outcome.next (if_neg ?_)) rfl
  rintro ⟨-, hd, hr⟩
  rcases h with h | h
  · exact Bool.false_ne_true (h.symm.trans hd)
  · omega

end

/-! ### Temperatures (R216–R218) -/

/-- The second record is the first with another temperature reading. -/
def OnlyTemp (k k' : Chan) : Prop := ∃ temp at_ stale range back,
  k' = { k with temp := temp, tempAt := at_, tstale := stale, trange := range, back := back }

theorem OnlyTemp.refl (k : Chan) : OnlyTemp k k := ⟨k.temp, k.tempAt, k.tstale, k.trange, k.back, rfl⟩

theorem OnlyTemp.trans {k k' k'' : Chan} (h : OnlyTemp k k') (h' : OnlyTemp k' k'') : OnlyTemp k k'' := by
  obtain ⟨_, _, _, _, _, rfl⟩ := h
  obtain ⟨_, _, _, _, _, rfl⟩ := h'
  exact ⟨_, _, _, _, _, rfl⟩

theorem OnlyTemp.same {k k' : Chan} (h : OnlyTemp k k') {α : Type} (p : Chan → α) (hp : ∀ k temp at_ stale range back,
    p { k with temp := temp, tempAt := at_, tstale := stale, trange := range, back := back } = p k
      := by exact fun _ _ _ _ _ _ => rfl) : p k' = p k := by
  obtain ⟨temp, at_, stale, range, back, rfl⟩ := h
  exact hp k temp at_ stale range back

/-- A channel's record with the reading t, which arrived at tempo a and was taken at tempo now. -/
def withReading (t : Int) (a now : Nat) (k : Chan) : Chan :=
  { k with temp := t, tempAt := some a, tstale := false, trange := k.trange || !tempInRange t,
           back := if tempInRange t then k.back <|> some now else none }

/-- The state with the reading of channel c taken. -/
def readingTaken (c : Nat) (t : Int) (a : Nat) (s : State) : State := withFaults c (onChan c (withReading t a s.tmp.now)) s

theorem tempTake_cases (c : Nat) (s : State) : tempTake c s = s
    ∨ ∃ t a, tempTake c s = readingTaken c t a s ∨ tempTake c s = raiseMtr F.MTR_FLAGS_TRANGE (readingTaken c t a s) := by
  unfold tempTake
  split
  · exact .inl rfl
  case h_2 t a _ =>
    by_cases hold : (chan s c).tempAt = some a
    · exact .inl (if_pos hold)
    · refine .inr ⟨t, a, ?_⟩
      rw [if_neg hold]
      exact (ite_eq_or_eq ..).symm

theorem onlyChannels_readingTaken (c : Nat) (t : Int) (a : Nat) (s : State) : OnlyChannels s (readingTaken c t a s) :=
  onlyChannels_withFaults c (onlyChannels_onChan c _ s)

theorem onlyChannels_tempTake (c : Nat) (s : State) : OnlyChannels s (tempTake c s) := by
  rcases tempTake_cases c s with h | ⟨t, a, h | h⟩ <;> rw [h]
  · exact .refl s
  · exact onlyChannels_readingTaken c t a s
  · exact (onlyChannels_readingTaken c t a s).trans (onlyChannels_raiseMtr (by decide) _)

theorem chan_readingTaken_ne {c i : Nat} (h : i ≠ c) (t : Int) (a : Nat) (s : State) : chan (readingTaken c t a s) i = chan s i := by
  rw [readingTaken, chan_withFaults, chan_onChan_ne h]

theorem chan_tempTake_ne {c i : Nat} (h : i ≠ c) (s : State) : chan (tempTake c s) i = chan s i := by
  rcases tempTake_cases c s with e | ⟨t, a, e | e⟩ <;> rw [e]
  · exact chan_readingTaken_ne h t a s
  · rw [chan_raiseMtr, chan_readingTaken_ne h]

theorem onlyTemp_readingTaken {c : Nat} (hc : c < 16) (t : Int) (a : Nat) (s : State) :
    OnlyTemp (chan s c) (chan (readingTaken c t a s) c) := by
  rw [readingTaken, chan_withFaults, chan_onChan_self hc]
  exact ⟨_, _, _, _, _, rfl⟩

theorem onlyTemp_tempTake {i : Nat} (hi : i < 16) (c : Nat) (s : State) : OnlyTemp (chan s i) (chan (tempTake c s) i) := by
  by_cases hic : i = c
  · subst hic
    rcases tempTake_cases i s with e | ⟨t, a, e | e⟩ <;> rw [e]
    · exact .refl _
    · exact onlyTemp_readingTaken hi t a s
    · rw [chan_raiseMtr]
      exact onlyTemp_readingTaken hi t a s
  · rw [chan_tempTake_ne hic]
    exact .refl _

/-- The temperature a channel's record gives, of source src. -/
def tempInUse (src : Nat) (k : Chan) : Int := if src = 0xFF ∨ k.tempAt.isNone then 2500 else k.temp

theorem chan_tempApply_self {c : Nat} (hc : c < 16) (s : State) : chan (tempApply c s) c =
    { chan s c with gT := interp (cGt s c) (tempInUse (cTsrc s c) (chan s c)), dT := interp (cDt s c) (tempInUse (cTsrc s c) (chan s c)),
                    tempUse := tempInUse (cTsrc s c) (chan s c), pil := { (chan s c).pil with gP := (chan s c).pil.gNew } } :=
  chan_onChan_self hc _ s

/-- The turn of channel c in the table update. -/
def tableTurn (c : Nat) (t : State) : State := if cUse t c = 0 then t else tempApply c (tempTake c t)

theorem onlyChannels_tableTurn (c : Nat) (t : State) : OnlyChannels t (tableTurn c t) := by
  unfold tableTurn
  split
  · exact .refl t
  · exact (onlyChannels_tempTake c t).trans (onlyChannels_onChan c _ _)

theorem chan_tableTurn_ne {c i : Nat} (h : i ≠ c) (t : State) : chan (tableTurn c t) i = chan t i := by
  unfold tableTurn
  split
  · rfl
  · exact (chan_onChan_ne h _ _).trans (chan_tempTake_ne h t)

/-- The state in which the table update marks its second. -/
def tableMarked (s : State) : State := { s with mtr.tabSec := some (secondOf s) }

theorem tempUpdate_eq (s : State) : tempUpdate s =
    if s.mtr.tabSec = some (secondOf s) ∨ !(secTempo s || s.tmp.first) then s else eachUpTo 16 tableTurn (tableMarked s) := rfl

section

variable {s : State} (hm : mtrOn s = true) (c : Fin 16)

include hm

theorem does_tempTableUpdate (hr : s.tmp.running = true) (ht : s.mtr.tabSec ≠ some (secondOf s)) (hs : secTempo s = true ∨ s.tmp.first = true)
    (hu : cUse s c ≠ 0) : Does .tempTableUpdate s (fun t => (chan t c).gT = interp (cGt s c) (chan t c).tempUse
      ∧ (chan t c).dT = interp (cDt s c) (chan t c).tempUse ∧ (chan t c).pil.gP = (chan s c).pil.gNew
      ∧ (chan t c).tempUse = if cTsrc s c = 0xFF ∨ (chan t c).tempAt = none then 2500 else (chan t c).temp) := by
  have hrun : tempUpdate s = eachUpTo 16 tableTurn (tableMarked s) := by
    rw [tempUpdate_eq, if_neg]
    rintro (h | h)
    · exact ht h
    · rcases hs with e | e <;> simp [e] at h
  have hat := eachUpTo_at (chan · c) c.isLt tableTurn (tableMarked s) fun i t _ h => chan_tableTurn_ne (Ne.symm h) t
  let u := eachUpTo c tableTurn (tableMarked s)
  have hou : OnlyChannels (tableMarked s) u := .eachUpTo onlyChannels_tableTurn _
  have htake := hou.trans (onlyChannels_tempTake c u)
  have hchan : chan u c = chan s c := eachUpTo_frame (chan · c) c tableTurn (tableMarked s) fun i t hi => chan_tableTurn_ne (by omega) t
  have hturn : tableTurn c u = tempApply c (tempTake c u) := if_neg (by rwa [hou.same (cUse · c)])
  have hnew : (chan (tempTake c u) c).pil.gNew = (chan s c).pil.gNew := by
    rw [← hchan]
    exact (onlyTemp_tempTake c.isLt c u).same (·.pil.gNew)
  refine does_next (congrArg Host.Outcome.next ((if_pos (by rw [hm, hr]; rfl)).trans hrun)) ?_
  rw [hat, hturn, chan_tempApply_self c.isLt, htake.same (cGt · c), htake.same (cDt · c), htake.same (cTsrc · c)]
  exact ⟨rfl, rfl, hnew, by simp only [tempInUse, Option.isNone_iff_eq_none]; rfl⟩

omit hm in
theorem does_tempTableUpdate_none (h : s.tmp.running = false ∨ s.mtr.tabSec = some (secondOf s) ∨ (secTempo s = false ∧ s.tmp.first = false)) :
    Does .tempTableUpdate s (fun t => t = s) := by
  refine does_next rfl ?_
  rcases h with hr | h
  · rw [if_neg (by simp [hr])]
  · have hskip : tempUpdate s = s := (tempUpdate_eq s).trans (if_pos (h.imp_right fun ⟨hs, hf⟩ => by simp [hs, hf]))
    rw [hskip, ite_self]

end

theorem tstale_mem_chanFaults (s : State) (c : Nat) : 5 ∈ chanFaults s c ↔ (chan s c).tstale = true ∧ cLegal s c = true := by
  simp [chanFaults]

section

variable {s : State} (hm : mtrOn s = true) (c : Fin 16)

include hm

theorem does_tstale (hu : cUse s c ≠ 0) (ht : cTsrc s c ≠ 0xFF) (h : 200000 ≤ s.tmp.now - (chan s c).tempAt.getD 0) :
    Does (.tstale c) s (fun t => (chan t c).tstale = true ∧ (chan t c).temp = (chan s c).temp
      ∧ (cLegal s c = true → (chan s c).tstale = false → rget t F.MTR_FLAGS_MFAULT = 1)) := by
  have hset : chan (onChan c (fun k => { k with tstale := true }) s) c = { chan s c with tstale := true } := chan_onChan_self c.isLt _ s
  refine does_next (congrArg Host.Outcome.next (if_pos ⟨hm, hu, ht, h⟩)) ⟨?_, ?_, fun hl hf => ?_⟩
  · rw [chan_withFaults, hset]
  · rw [chan_withFaults, hset]
  · refine rget_withFaults_mfault (x := 5) ((tstale_mem_chanFaults _ c).mpr ⟨by rw [hset], hl⟩) fun hold => ?_
    obtain ⟨hstale, -⟩ := (tstale_mem_chanFaults s c).mp hold
    exact Bool.false_ne_true (hf.symm.trans hstale)

omit hm in
theorem does_tstale_none (h : cUse s c = 0 ∨ cTsrc s c = 0xFF ∨ s.tmp.now - (chan s c).tempAt.getD 0 < 200000) :
    Does (.tstale c) s (fun t => t = s) := by
  refine does_next (congrArg Host.Outcome.next (if_neg ?_)) rfl
  rintro ⟨-, hu, ht, hage⟩
  rcases h with h | h | h
  · exact hu h
  · exact ht h
  · exact absurd hage (Nat.not_le.mpr h)

theorem does_trangeClear {u : Nat} (hr : (chan s c).trange = true) (hb : (chan s c).back = some u) (h : 200000 ≤ sinceT s u) :
    Does (.trangeClear c) s (fun t => (chan t c).trange = false) := by
  refine does_next (congrArg Host.Outcome.next (if_pos ?_)) ?_
  · simp [hm, hr, hb, h]
  · rw [chan_withFaults, chan_onChan_self c.isLt]

omit hm in
theorem does_trangeClear_none (h : (chan s c).trange = false ∨ (chan s c).back = none) : Does (.trangeClear c) s (fun t => t = s) := by
  refine does_next (congrArg Host.Outcome.next (if_neg ?_)) rfl
  rcases h with h | h
  · cases hb : (chan s c).back <;> simp [h]
  · simp [h]

end

/-! ### Pilot lines (R219, R221) -/

/-- The second state is the first with other pilot lines, and free values may have been drawn. -/
def OnlyLines (s t : State) : Prop := ∃ ctr pil, t = { s with freeCtr := ctr, mtr.pil := pil }

theorem OnlyLines.refl (s : State) : OnlyLines s s := ⟨s.freeCtr, s.mtr.pil, rfl⟩

theorem OnlyLines.trans {s t u : State} (h : OnlyLines s t) (k : OnlyLines t u) : OnlyLines s u := by
  obtain ⟨_, _, rfl⟩ := h
  obtain ⟨_, _, rfl⟩ := k
  exact ⟨_, _, rfl⟩

theorem OnlyLines.same {s t : State} (h : OnlyLines s t) {α : Type} (p : State → α)
    (hp : ∀ u ctr pil, p { u with freeCtr := ctr, mtr.pil := pil } = p u := by exact fun _ _ _ => rfl) : p t = p s := by
  obtain ⟨ctr, pil, rfl⟩ := h
  exact hp s ctr pil

theorem onlyLines_eachUpTo {f : Nat → State → State} (h : ∀ i t, OnlyLines t (f i t)) (n : Nat) (s : State) :
    OnlyLines s (eachUpTo n f s) := eachUpTo_related OnlyLines.refl OnlyLines.trans h n s

theorem onlyLines_onLine (k : Nat) (f : PilLine → PilLine) (s : State) : OnlyLines s (onLine k f s) := ⟨s.freeCtr, _, rfl⟩

theorem pilLine_onLine_self {k : Nat} (hk : k < 4) (f : PilLine → PilLine) (s : State) : pilLine (onLine k f s) k = f (pilLine s k) :=
  Tab.get_upd_self _ _ _ _ hk

theorem pilLine_onLine_ne {k i : Nat} (h : k ≠ i) (f : PilLine → PilLine) (s : State) : pilLine (onLine i f s) k = pilLine s k :=
  Tab.get_upd_ne _ _ _ _ _ h

/-- The chips of each sign that a pilot line sends in a second. -/
def chipQuarter (s : State) (k : Nat) : Nat := if s.key.rngFail then 0 else quarterNc (pilChip s k)

/-- The chips of the second laid out for one line. -/
def drawTurn (k : Nat) (t : State) : State :=
  if (pilChan t k).isNone then t
  else onLine k (fun p => { p with plus := chipQuarter t k, minus := chipQuarter t k, zero := 2 * chipQuarter t k, hold := 0 }) t

theorem onlyLines_drawTurn (k : Nat) (t : State) : OnlyLines t (drawTurn k t) := by
  unfold drawTurn
  split
  · exact .refl t
  · exact onlyLines_onLine k _ t

theorem pilLine_drawTurn_ne {k i : Nat} (h : k ≠ i) (t : State) : pilLine (drawTurn i t) k = pilLine t k := by
  unfold drawTurn
  split
  · rfl
  · exact pilLine_onLine_ne h _ t

section

variable {s : State}

theorem does_pilotSequenceDraw (hm : mtrOn s = true) (k : Fin 4) (hk : pilChan s k ≠ none) (hd : s.mtr.drawSec ≠ some (secondOf s)) :
    Does .pilotSequenceDraw s (fun t =>
      (pilLine t k).plus = chipQuarter s k ∧ (pilLine t k).minus = chipQuarter s k ∧ (pilLine t k).zero = 2 * chipQuarter s k
        ∧ (pilLine t k).hold = 0 ∧ t.mtr.drawSec = some (secondOf s)) := by
  let marked : State := { s with mtr.drawSec := some (secondOf s) }
  have hall : OnlyLines marked (eachUpTo 4 drawTurn marked) := onlyLines_eachUpTo onlyLines_drawTurn 4 _
  have hbefore : OnlyLines marked (eachUpTo k drawTurn marked) := onlyLines_eachUpTo onlyLines_drawTurn k _
  have hat := eachUpTo_at (pilLine · k) k.isLt drawTurn marked fun i t _ h => pilLine_drawTurn_ne (Ne.symm h) t
  have hchan : pilChan (eachUpTo k drawTurn marked) k = pilChan s k := hbefore.same (pilChan · k)
  have hq : chipQuarter (eachUpTo k drawTurn marked) k = chipQuarter s k := hbefore.same (chipQuarter · k)
  refine does_next (t := eachUpTo 4 drawTurn marked) (congrArg Host.Outcome.next (if_neg (by simp [hm, hd]))) ?_
  rw [hat, drawTurn, if_neg (by rwa [hchan, Option.isNone_iff_eq_none]), pilLine_onLine_self k.isLt, hq]
  exact ⟨rfl, rfl, rfl, rfl, hall.same (·.mtr.drawSec)⟩

theorem does_pilotSequenceDraw_none (hd : s.mtr.drawSec = some (secondOf s)) : Does .pilotSequenceDraw s (fun t => t = s) :=
  does_next (congrArg Host.Outcome.next (if_pos (.inr hd))) rfl

end

end Sys2Proof.Machine

end

section

/-! SUPPORT. The end of a pilot block (R222–R224). That the first block is taken without a test is the model's reading (log entry 140). -/

namespace Sys2Proof.Machine

theorem Does.imp {c : Instr} {s : State} {P Q : State → Prop} (h : Does c s P) (hPQ : ∀ t, P t → Q t) : Does c s Q := by
  obtain ⟨t, he, hP⟩ := h
  exact ⟨t, he, hPQ t hP⟩

/-! ### The tracking record of a channel -/

theorem chan_onPil_self {c : Nat} (hc : c < 16) (f : PilTrack → PilTrack) (s : State) :
    chan (onPil c f s) c = { chan s c with pil := f (chan s c).pil } := chan_onChan_self hc _ s

theorem chan_onPil_ne {c i : Nat} (h : c ≠ i) (f : PilTrack → PilTrack) (s : State) : chan (onPil i f s) c = chan s c :=
  chan_onChan_ne h _ s

theorem onlyChannels_onPil (c : Nat) (f : PilTrack → PilTrack) (s : State) : OnlyChannels s (onPil c f s) := onlyChannels_onChan c _ s

/-! ### The estimate (R222) -/

/-- The gain that the sums of a block give, at the pilot's amplitude a. -/
def blockGain (a : Rat) (p : PilTrack) : Rat :=
  detrended p.n p.sy p.sr p.sky p.skr p.syr / (a * detrended p.n p.sr p.sr p.skr p.skr p.srr)

/-- Where the reference has energy the estimate is determined, and draws no free value. -/
theorem pilEstimate_eq {c : Nat} {s : State} (ha : cPilAmp s c ≠ 0)
    (hr : detrended (chan s c).pil.n (chan s c).pil.sr (chan s c).pil.sr (chan s c).pil.skr (chan s c).pil.skr (chan s c).pil.srr ≠ 0) :
    ∃ var, pilEstimate c s = ((blockGain (cPilAmp s c) (chan s c).pil, var), s) := by
  refine ⟨_, if_neg ?_⟩
  rintro (h | h)
  · exact hr h
  · exact ha (Nat.cast_eq_zero.mp h)

theorem onlyChannels_pilEstimate (c : Nat) (s : State) : OnlyChannels s (pilEstimate c s).2 := by
  unfold pilEstimate
  simp only
  split
  · exact (onlyChannels_freeNat s).trans (onlyChannels_freeNat _)
  · exact .refl s

theorem chan_pilEstimate (c : Nat) (s : State) (i : Nat) : chan (pilEstimate c s).2 i = chan s i := by
  unfold pilEstimate
  simp only
  split <;> rfl

/-! ### A block accepted, and one discarded (R223, R224) -/

section

variable {c : Nat} (g var : Rat) (s : State)

theorem onlyChannels_pilCorr : OnlyChannels s (pilCorr g s).2 := by
  unfold pilCorr
  split
  · exact onlyChannels_freeNat s
  · exact .refl s

theorem chan_pilCorr (i : Nat) : chan (pilCorr g s).2 i = chan s i := by
  unfold pilCorr
  split <;> rfl

/-- The gain after block k + 1 is accepted with the estimate g. -/
def gainNext (g : Rat) (p : PilTrack) : Rat := if p.k + 1 = 1 then g else p.g + pilAlpha (p.k + 1) * (g - p.g)

theorem pilAccept_eq (c : Nat) : ∃ f : PilTrack → PilTrack,
    pilAccept c g var s = withFaults c (onPil c f) (pilCorr (gainNext g (chan s c).pil) s).2
      ∧ ∀ p, (f p).g = gainNext g (chan s c).pil ∧ (f p).k = (chan s c).pil.k + 1 :=
  ⟨_, rfl, fun _ => ⟨rfl, rfl⟩⟩

theorem onlyChannels_pilAccept (c : Nat) : OnlyChannels s (pilAccept c g var s) := by
  obtain ⟨f, e, -⟩ := pilAccept_eq g var s c
  rw [e]
  exact (onlyChannels_pilCorr _ s).trans (onlyChannels_withFaults c (onlyChannels_onPil c f _))

theorem chan_pilAccept_ne {i : Nat} (h : i ≠ c) : chan (pilAccept c g var s) i = chan s i := by
  obtain ⟨f, e, -⟩ := pilAccept_eq g var s c
  rw [e, chan_withFaults, chan_onPil_ne h, chan_pilCorr]

theorem chan_pilAccept_self (hc : c < 16) : (chan (pilAccept c g var s) c).pil.g = gainNext g (chan s c).pil
    ∧ (chan (pilAccept c g var s) c).pil.k = (chan s c).pil.k + 1 := by
  obtain ⟨f, e, hf⟩ := pilAccept_eq g var s c
  rw [e, chan_withFaults, chan_onPil_self hc]
  exact hf _

theorem onlyChannels_pilDiscard (c : Nat) (b : Bool) : OnlyChannels s (pilDiscard c b s) := by
  cases b
  · exact .refl s
  · exact (onlyChannels_withFaults c (onlyChannels_onPil c _ s)).trans (onlyChannels_raiseMtr (by decide) _)

theorem chan_pilDiscard_ne {i : Nat} (h : i ≠ c) (b : Bool) : chan (pilDiscard c b s) i = chan s i := by
  cases b
  · rfl
  · rw [pilDiscard, if_pos rfl, chan_raiseMtr, chan_withFaults, chan_onPil_ne h]

theorem chan_pilDiscard_self (hc : c < 16) (b : Bool) : (chan (pilDiscard c b s) c).pil.g = (chan s c).pil.g
    ∧ (chan (pilDiscard c b s) c).pil.k = (chan s c).pil.k
    ∧ (chan (pilDiscard c b s) c).pil.discard = (chan s c).pil.discard + b2n b := by
  cases b
  · exact ⟨rfl, rfl, rfl⟩
  · rw [pilDiscard, if_pos rfl, chan_raiseMtr, chan_withFaults, chan_onPil_self hc]
    exact ⟨rfl, rfl, rfl⟩

theorem rget_pilDiscard (c : Nat) : rget (pilDiscard c true s) F.MTR_FLAGS_PILOUT = 1 := rget_raiseMtr (by decide) _

end

/-! ### The turn of a channel -/

/-- The estimate e of a block lies more than 0.5 % from the tracked gain g (R223). -/
theorem outlier_iff (e g : Rat) :
    ((if g < 0 then -g else g) / 200 < if e < g then g - e else e - g) ↔ |g| < 200 * |e - g| := by
  have hg : (if g < 0 then -g else g) = |g| := by
    split
    case isTrue h => exact (abs_of_neg h).symm
    case isFalse h => exact (abs_of_nonneg (not_lt.mp h)).symm
  have he : (if e < g then g - e else e - g) = |e - g| := by
    split
    case isTrue h => rw [abs_of_neg (sub_neg.mpr h), neg_sub]
    case isFalse h => exact (abs_of_nonneg (sub_nonneg.mpr (not_lt.mp h))).symm
  rw [hg, he, div_lt_iff₀ (by norm_num), mul_comm]

/-- The judgement of a good block: an outlier is discarded, any other accepted. -/
def goodBlock (c : Nat) (e : (Rat × Rat) × State) (p : PilTrack) : State :=
  if p.k ≠ 0 ∧ |p.g| < 200 * |e.1.1 - p.g| then pilDiscard c true e.2 else pilAccept c e.1.1 e.1.2 e.2

/-- The judgement of a channel's block. -/
def judged (c : Nat) (s : State) : State :=
  if s.key.rngFail then pilDiscard c true s
  else if (chan s c).pil.bad || (chan s c).pil.n != 20000 then pilDiscard c false s
  else goodBlock c (pilEstimate c s) (chan s c).pil

theorem pilBlock_eq (c : Nat) (s : State) : pilBlock c s = pilClear c (judged c s) := by
  simp only [judged, goodBlock, ← outlier_iff]
  rfl

theorem onlyChannels_judged (c : Nat) (s : State) : OnlyChannels s (judged c s) := by
  unfold judged goodBlock
  split
  · exact onlyChannels_pilDiscard s c true
  · split
    · exact onlyChannels_pilDiscard s c false
    · have hest := onlyChannels_pilEstimate c s
      split
      · exact hest.trans (onlyChannels_pilDiscard _ c true)
      · exact hest.trans (onlyChannels_pilAccept _ _ _ c)

theorem chan_judged_ne {c i : Nat} (h : i ≠ c) (s : State) : chan (judged c s) i = chan s i := by
  unfold judged goodBlock
  split
  · exact chan_pilDiscard_ne s h true
  · split
    · rfl
    · split
      · rw [chan_pilDiscard_ne _ h, chan_pilEstimate]
      · rw [chan_pilAccept_ne _ _ _ h, chan_pilEstimate]

/-- The turn of channel c at the end of the blocks. -/
def blockTurn (c : Nat) (t : State) : State := if cPilot t c then pilBlock c t else t

theorem onlyChannels_blockTurn (c : Nat) (t : State) : OnlyChannels t (blockTurn c t) := by
  unfold blockTurn
  split
  · rw [pilBlock_eq]
    exact (onlyChannels_judged c t).trans (onlyChannels_onPil c _ _)
  · exact .refl t

theorem chan_blockTurn_ne {c i : Nat} (h : i ≠ c) (t : State) : chan (blockTurn c t) i = chan t i := by
  unfold blockTurn
  split
  · rw [pilBlock_eq, pilClear, chan_onPil_ne h, chan_judged_ne h]
  · rfl

/-- What the clearing of the sums leaves of a channel's tracking. -/
theorem pil_pilClear {c : Nat} (hc : c < 16) (s : State) : (chan (pilClear c s) c).pil.n = 0 ∧ (chan (pilClear c s) c).pil.g = (chan s c).pil.g
    ∧ (chan (pilClear c s) c).pil.k = (chan s c).pil.k ∧ (chan (pilClear c s) c).pil.discard = (chan s c).pil.discard := by
  rw [pilClear, chan_onPil_self hc]
  exact ⟨rfl, rfl, rfl, rfl⟩

/-! ### The command -/

section

variable {s : State} (hm : mtrOn s = true) (c : Fin 16)

/-- The state in which the blocks of a second are marked as ended. -/
def blocksMarked (s : State) : State := { s with mtr.blkSec := some (secondOf s) }

include hm

/-- The blocks end in this tempo: what channel c's judgement comes to, from any state that leaves its record alone. -/
theorem does_pilotBlock (hp : cPilot s c = true) (hsec : secTempo s = true) (ho : s.mtr.outs = 0) (hb : s.mtr.blkSec ≠ some (secondOf s))
    {P : PilTrack → Prop} {out : Prop} (hP : ∀ u, OnlyChannels (blocksMarked s) u → chan u c = chan s c →
      P (chan (pilClear c (judged c u)) c).pil ∧ (out → rget (judged c u) F.MTR_FLAGS_PILOUT = 1)) :
    Does .pilotBlock s (fun t => P (chan t c).pil ∧ (out → rget t F.MTR_FLAGS_PILOUT = 1)) := by
  refine does_next (t := eachUpTo 16 blockTurn (blocksMarked s)) (congrArg Host.Outcome.next (if_pos ⟨hm, hsec, ho, hb⟩)) ?_
  refine eachUpTo_brings c.isLt blockTurn (Q := fun t => OnlyChannels (blocksMarked s) t ∧ chan t c = chan s c)
    (P := fun t => P (chan t c).pil ∧ (out → rget t F.MTR_FLAGS_PILOUT = 1)) ⟨.refl _, rfl⟩ ?_ ?_ ?_
  · exact fun i t hi ht => ⟨ht.1.trans (onlyChannels_blockTurn i t), (chan_blockTurn_ne (by omega) t).trans ht.2⟩
  · rintro t ⟨hot, hct⟩
    obtain ⟨hpil, hflag⟩ := hP t hot hct
    have hpt : cPilot t c = true := (hot.same (cPilot · c)).trans hp
    rw [blockTurn, if_pos hpt, pilBlock_eq]
    exact ⟨hpil, fun h => (onlyChannels_onPil c _ _).flags.stay _ (by decide) (hflag h)⟩
  · rintro i t hi ⟨hpil, hflag⟩
    rw [chan_blockTurn_ne (by omega)]
    exact ⟨hpil, fun h => (onlyChannels_blockTurn i t).flags.stay _ (by decide) (hflag h)⟩

theorem does_pilotBlock_good (hp : cPilot s c = true) (hsec : secTempo s = true) (ho : s.mtr.outs = 0) (hb : s.mtr.blkSec ≠ some (secondOf s))
    (hr : s.key.rngFail = false) (hbad : (chan s c).pil.bad = false) (hn : (chan s c).pil.n = 20000) (ha : cPilAmp s c ≠ 0)
    (hrr : detrended 20000 (chan s c).pil.sr (chan s c).pil.sr (chan s c).pil.skr (chan s c).pil.skr (chan s c).pil.srr ≠ 0) :
    let p := (chan s c).pil
    let e := (pilEstimate c s).1.1
    Does .pilotBlock s (fun t => (chan t c).pil.n = 0
      ∧ (p.k = 0 → (chan t c).pil.g = e ∧ (chan t c).pil.k = 1)
      ∧ (p.k ≠ 0 → 200 * |e - p.g| ≤ |p.g| → (chan t c).pil.k = p.k + 1
        ∧ (chan t c).pil.g = p.g + (if p.k + 1 ≤ 16 then 1 / ((p.k + 1 : Nat) : Rat) else 1 / 16) * (e - p.g))
      ∧ (p.k ≠ 0 → |p.g| < 200 * |e - p.g| → (chan t c).pil.g = p.g ∧ (chan t c).pil.k = p.k
        ∧ (chan t c).pil.discard = p.discard + 1 ∧ rget t F.MTR_FLAGS_PILOUT = 1)) := by
  intro p e
  rw [← hn] at hrr
  have he : e = blockGain (cPilAmp s c) p := by
    obtain ⟨var, h⟩ := pilEstimate_eq ha hrr
    exact congrArg (·.1.1) h
  have hjudged : ∀ u, OnlyChannels (blocksMarked s) u → chan u c = chan s c → ∃ var, judged c u = goodBlock c ((e, var), u) p := by
    intro u hou hcu
    have hamp : cPilAmp u c = cPilAmp s c := hou.same (cPilAmp · c)
    have hrng : u.key.rngFail = false := (hou.same (·.key.rngFail)).trans hr
    obtain ⟨var, h⟩ := pilEstimate_eq (c := c) (s := u) (by rwa [hamp]) (by rwa [hcu])
    refine ⟨var, ?_⟩
    rw [judged, if_neg (by simp [hrng]), hcu, if_neg (by simp [hbad, hn]), h, hamp, hcu, he]
  refine (does_pilotBlock hm c hp hsec ho hb (out := p.k ≠ 0 ∧ |p.g| < 200 * |e - p.g|) (P := fun q => q.n = 0
    ∧ (¬(p.k ≠ 0 ∧ |p.g| < 200 * |e - p.g|) → q.g = gainNext e p ∧ q.k = p.k + 1)
    ∧ (p.k ≠ 0 ∧ |p.g| < 200 * |e - p.g| → q.g = p.g ∧ q.k = p.k ∧ q.discard = p.discard + 1)) ?_).imp ?_
  · intro u hou hcu
    obtain ⟨var, hj⟩ := hjudged u hou hcu
    obtain ⟨hzero, hg, hk, hdis⟩ := pil_pilClear c.isLt (judged c u)
    rw [hzero, hg, hk, hdis, hj, goodBlock]
    by_cases hout : p.k ≠ 0 ∧ |p.g| < 200 * |e - p.g|
    · obtain ⟨hdg, hdk, hdd⟩ := chan_pilDiscard_self u c.isLt true
      rw [if_pos hout, hdg, hdk, hdd, hcu]
      exact ⟨⟨rfl, fun h => absurd hout h, fun _ => ⟨rfl, rfl, rfl⟩⟩, fun _ => rget_pilDiscard u c⟩
    · obtain ⟨hag, hak⟩ := chan_pilAccept_self e var u c.isLt
      rw [if_neg hout, hag, hak, hcu]
      exact ⟨⟨rfl, fun _ => ⟨rfl, rfl⟩, fun h => absurd h hout⟩, fun h => absurd h hout⟩
  · rintro t ⟨⟨hzero, hacc, hdisc⟩, hflag⟩
    refine ⟨hzero, fun hk => ?_, fun hk hle => ?_, fun hk hlt => ?_⟩
    · obtain ⟨hg, hk'⟩ := hacc fun h => h.1 hk
      exact ⟨by rw [hg, gainNext, if_pos (by rw [hk])], by rw [hk', hk]⟩
    · obtain ⟨hg, hk'⟩ := hacc fun h => absurd h.2 (not_lt.mpr hle)
      exact ⟨hk', by rw [hg, gainNext, if_neg (by omega)]; rfl⟩
    · obtain ⟨hg, hk', hd⟩ := hdisc ⟨hk, hlt⟩
      exact ⟨hg, hk', hd, hflag ⟨hk, hlt⟩⟩

theorem does_pilotBlock_spoilt (hp : cPilot s c = true) (hsec : secTempo s = true) (ho : s.mtr.outs = 0)
    (hb : s.mtr.blkSec ≠ some (secondOf s)) (h : s.key.rngFail = true ∨ (chan s c).pil.bad = true ∨ (chan s c).pil.n ≠ 20000) :
    Does .pilotBlock s (fun t => (chan t c).pil.g = (chan s c).pil.g ∧ (chan t c).pil.k = (chan s c).pil.k ∧ (chan t c).pil.n = 0
      ∧ (chan t c).pil.discard = (chan s c).pil.discard + b2n s.key.rngFail
      ∧ (s.key.rngFail = true → rget t F.MTR_FLAGS_PILOUT = 1)) := by
  have hjudged : ∀ u, OnlyChannels (blocksMarked s) u → chan u c = chan s c → judged c u = pilDiscard c s.key.rngFail u := by
    intro u hou hcu
    have hrng : u.key.rngFail = s.key.rngFail := hou.same (·.key.rngFail)
    rw [judged, hrng, hcu]
    cases hr : s.key.rngFail
    · rw [if_neg Bool.false_ne_true, if_pos]
      simpa [hr] using h
    · exact if_pos rfl
  refine (does_pilotBlock hm c hp hsec ho hb (out := s.key.rngFail = true) (P := fun q => q.n = 0 ∧ q.g = (chan s c).pil.g
    ∧ q.k = (chan s c).pil.k ∧ q.discard = (chan s c).pil.discard + b2n s.key.rngFail) ?_).imp ?_
  · intro u hou hcu
    obtain ⟨hzero, hg, hk, hdis⟩ := pil_pilClear c.isLt (judged c u)
    obtain ⟨hdg, hdk, hdd⟩ := chan_pilDiscard_self u c.isLt s.key.rngFail
    rw [hzero, hg, hk, hdis, hjudged u hou hcu, hdg, hdk, hdd, hcu]
    exact ⟨⟨rfl, rfl, rfl, rfl⟩, fun hr => by rw [hr]; exact rget_pilDiscard u c⟩
  · rintro t ⟨⟨hzero, hg, hk, hd⟩, hflag⟩
    exact ⟨hg, hk, hzero, hd, hflag⟩

omit hm in
theorem does_pilotBlock_none (h : secTempo s = false ∨ 0 < s.mtr.outs ∨ s.mtr.blkSec = some (secondOf s)) :
    Does .pilotBlock s (fun t => t = s) := by
  refine does_next (congrArg Host.Outcome.next (if_neg ?_)) rfl
  rintro ⟨-, hsec, ho, hb⟩
  rcases h with h | h | h
  · exact Bool.false_ne_true (h.symm.trans hsec)
  · omega
  · exact hb h

end

end Sys2Proof.Machine

end

section

/-! SUPPORT. One output of the decimation chain on one channel (R209–R215): the chip sees it through its phase stage, its correction and
its stream; and the sensors that come with it (R22; one reading in a second is the model's, log entry 153). -/

namespace Sys2Proof.Machine

/-! ### The sensors (R22) -/

/-- The state with other I²C sensors. -/
def sensorsPut (v : Vector Stream 8) (mask : Nat) (s : State) : State := { s with mtr.i2c := v, mtr.i2cMask := mask }

/-- The second state is the first with other I²C sensors. -/
def OnlySensors (s t : State) : Prop := ∃ v mask, t = sensorsPut v mask s

/-- One sensor's reading looked at. -/
def sensorTake (t : State) (p : Fin 8 × Int) : State :=
  if t.mtr.i2cMask.testBit p.1.val then t
  else { t with mtr.i2c := Tab.upd t.mtr.i2c p.1.val (fun _ => ⟨p.2, some t.tmp.now⟩)
                mtr.i2cMask := setBit t.mtr.i2cMask p.1.val true }

theorem i2cTake_nil (s : State) : i2cTake [] s = s := rfl

theorem i2cTake_cons (p : Fin 8 × Int) (l : List (Fin 8 × Int)) (s : State) : i2cTake (p :: l) s = i2cTake l (sensorTake s p) := rfl

theorem onlySensors_i2cTake (l : List (Fin 8 × Int)) (s : State) : OnlySensors s (i2cTake l s) := by
  induction l generalizing s with
  | nil => exact ⟨s.mtr.i2c, s.mtr.i2cMask, rfl⟩
  | cons p l ih =>
    obtain ⟨v, mask, e⟩ := ih (sensorTake s p)
    rw [i2cTake_cons, e]
    unfold sensorTake
    split <;> exact ⟨v, mask, rfl⟩

theorem i2c_sensorTake (s : State) (k : Fin 8) (v : Int) : Tab.get ⟨0, none⟩ (sensorTake s (k, v)).mtr.i2c k =
    if s.mtr.i2cMask.testBit k then Tab.get ⟨0, none⟩ s.mtr.i2c k else ⟨v, some s.tmp.now⟩ := by
  unfold sensorTake
  split
  · rfl
  · exact Tab.get_upd_self _ _ _ _ k.isLt

/-! ### What leaves the DEAD mark of a channel (R208) -/

/-- A change that sets no DEAD mark leaves those of every channel. -/
theorem dead_onChan {f : Chan → Chan} (h : ∀ k, (f k).dead = k.dead) (i c : Nat) (s : State) :
    (chan (onChan i f s) c).dead = (chan s c).dead := by
  by_cases hc : c = i
  · subst hc
    by_cases h16 : c < 16
    · rw [chan_onChan_self h16, h]
    · simp only [chan, onChan, Tab.get, h16, dite_false]
  · rw [chan_onChan_ne hc]

theorem dead_tempTake (i c : Nat) (s : State) : (chan (tempTake i s) c).dead = (chan s c).dead := by
  have htaken : ∀ t a, (chan (readingTaken i t a s) c).dead = (chan s c).dead := fun t a => by
    rw [readingTaken, chan_withFaults, dead_onChan (f := withReading t a s.tmp.now) fun _ => rfl]
  rcases tempTake_cases i s with e | ⟨t, a, e | e⟩ <;> rw [e]
  · exact htaken t a
  · rw [chan_raiseMtr]
    exact htaken t a

/-- Whether an energy point has a DEAD channel lies in the layout and in the marks. -/
theorem epDead_congr {s t : State} (hsec : t.sec = s.sec) (h : ∀ c, (chan t c).dead = (chan s c).dead) (n : Nat) : epDead t n = epDead s n := by
  have hch : eChans t n = eChans s n := by
    unfold eChans eKind eCh tU8 Machine.sec
    rw [hsec]
  simp only [epDead, hch, h]

/-! ### The output of one channel (R209, R210, R215) -/

section

variable (o : Decim) (c : Nat) (s : State)

/-- The channel's record with the output of FIR2 shifted in. -/
def withInput (k : Chan) : Chan :=
  { k with run := if o.trans.getLsbD c then k.run + 1 else 0, fir := (toSigned 32 (o.d.getD c 0).toNat :: k.fir).take 6 }

/-- The output of FIR2 shifted in. -/
def fed : State := onChan c (withInput o c) s

/-- D, from the phase stage. -/
def phaseOut : Int := phaseStage (chan (fed o c s) c).dT (chan (fed o c s) c).fir

/-- The reference of a pilot channel, from the same phase stage. -/
def phaseRef : Int := if cPilot s c then phaseStage (chan (fed o c s) c).dT (pilLine s (cPil s c)).mdl else 0

/-- y_t and y. -/
def corrected : Rat × Rat := correct (fed o c s) c (phaseOut o c s) (phaseRef o c s)

/-- The corrected value as MTR_VALc holds it. -/
def valOut : Int := sat32 (nearest ((corrected o c s).2 * 256))

/-- D lies at 0.92 of full scale or beyond (R209). -/
def overRange : Bool := decide (92 * 1073741824 ≤ 100 * (phaseOut o c s).natAbs)

/-- The channel's record with the corrected value. -/
def withValue (k : Chan) : Chan :=
  { k with y := (corrected o c s).2, val := valOut o c s, hist := (valOut o c s :: k.hist).take (keepVals (cUse s c))
           pil := if cPilot s c then { pilSum (corrected o c s).1 ((phaseRef o c s : Rat) / 1073741824) k.pil with
                                         bad := k.pil.bad || overRange o c s } else k.pil }

/-- Channel c marked as one that delivered a value in the tempo. -/
def gotMarked (c : Nat) (s : State) : State := { s with mtr.got := setBit s.mtr.got c true }

/-- The corrected value in its channel and on its stream. -/
def booked : State := gotMarked c (strmPut c (nearest (corrected o c s).2) (onChan c (withValue o c s) (fed o c s)))

/-- A channel's record with OVR. -/
def withOver (k : Chan) : Chan := { k with ovr := true }

/-- OVR on the channel. -/
def overMarked (c : Nat) (s : State) : State := withFaults c (onChan c withOver) s

theorem chanOutput_eq : chanOutput o c s = if cUse s c = 0 then s else if (chan (fed o c s) c).dead then fed o c s
    else if overRange o c s then raiseMtr F.MTR_FLAGS_OVR (overMarked c (booked o c s)) else booked o c s := rfl

variable {o c s}

theorem dead_fed (i : Nat) : (chan (fed o c s) i).dead = (chan s i).dead :=
  dead_onChan (f := withInput o c) (fun _ => rfl) c i s

theorem chanOutput_unused (hu : cUse s c = 0) : chanOutput o c s = s := if_pos hu

theorem chanOutput_dead (hu : cUse s c ≠ 0) (hd : (chan s c).dead = true) : chanOutput o c s = fed o c s := by
  rw [chanOutput_eq, if_neg hu, if_pos ((dead_fed c).trans hd)]

theorem chanOutput_live (hu : cUse s c ≠ 0) (hd : (chan s c).dead = false) : chanOutput o c s =
    if overRange o c s then raiseMtr F.MTR_FLAGS_OVR (overMarked c (booked o c s)) else booked o c s := by
  rw [chanOutput_eq, if_neg hu, if_neg (by rw [dead_fed, hd]; exact Bool.false_ne_true)]

/-- What an output can make of the state, from channel c. -/
theorem chanOutput_cases (o : Decim) (c : Nat) (s : State) : chanOutput o c s = s ∨ chanOutput o c s = fed o c s
    ∨ chanOutput o c s = booked o c s ∨ chanOutput o c s = raiseMtr F.MTR_FLAGS_OVR (overMarked c (booked o c s)) := by
  by_cases hu : cUse s c = 0
  · exact .inl (chanOutput_unused hu)
  · cases hd : (chan s c).dead
    · rw [chanOutput_live hu hd]
      exact .inr (.inr (ite_eq_or_eq ..).symm)
    · exact .inr (.inl (chanOutput_dead hu hd))

theorem onlyChannels_gotMarked (c : Nat) (s : State) : OnlyChannels s (gotMarked c s) :=
  ⟨⟨s.regs, s.mtr.faultSeen, s.mtr.faultCode, s.freeCtr, _, s.strm, s.mtr.chan, rfl⟩, .of_regs rfl⟩

theorem onlyChannels_booked : OnlyChannels s (booked o c s) :=
  (((onlyChannels_onChan c _ s).trans (onlyChannels_onChan c _ _)).trans (onlyChannels_strmPut c _ _)).trans (onlyChannels_gotMarked c _)

theorem onlyChannels_overMarked (c : Nat) (s : State) : OnlyChannels s (overMarked c s) :=
  onlyChannels_withFaults c (onlyChannels_onChan c _ s)

theorem onlyChannels_chanOutput (o : Decim) (c : Nat) (s : State) : OnlyChannels s (chanOutput o c s) := by
  rcases chanOutput_cases o c s with e | e | e | e <;> rw [e]
  · exact .refl s
  · exact onlyChannels_onChan c _ s
  · exact onlyChannels_booked
  · exact (onlyChannels_booked.trans (onlyChannels_overMarked c _)).trans (onlyChannels_raiseMtr (by decide) _)

theorem chan_booked (i : Nat) : chan (booked o c s) i = chan (onChan c (withValue o c s) (fed o c s)) i := rfl

/-- Nothing of another channel changes. -/
theorem chan_chanOutput_ne {i : Nat} (h : i ≠ c) (o : Decim) (s : State) : chan (chanOutput o c s) i = chan s i := by
  have hfed : chan (fed o c s) i = chan s i := chan_onChan_ne h _ s
  have hbooked : chan (booked o c s) i = chan s i := by rw [chan_booked, chan_onChan_ne h, hfed]
  rcases chanOutput_cases o c s with e | e | e | e <;> rw [e]
  · exact hfed
  · exact hbooked
  · rw [chan_raiseMtr, overMarked, chan_withFaults, chan_onChan_ne h, hbooked]

theorem dead_chanOutput (o : Decim) (c : Nat) (s : State) (i : Nat) : (chan (chanOutput o c s) i).dead = (chan s i).dead := by
  have hbooked : (chan (booked o c s) i).dead = (chan s i).dead := by
    rw [chan_booked, dead_onChan (f := withValue o c s) fun _ => rfl, dead_fed]
  rcases chanOutput_cases o c s with e | e | e | e <;> rw [e]
  · exact dead_fed i
  · exact hbooked
  · rw [chan_raiseMtr, overMarked, chan_withFaults, dead_onChan (f := withOver) fun _ => rfl, hbooked]

/-- The stream of another channel keeps its value. -/
theorem strm_chanOutput_ne {i : Nat} (h : i ≠ c) (o : Decim) (s : State) :
    Tab.get ⟨0, none⟩ (chanOutput o c s).strm i = Tab.get ⟨0, none⟩ s.strm i := by
  have hbooked : Tab.get ⟨0, none⟩ (booked o c s).strm i = Tab.get ⟨0, none⟩ s.strm i := strm_strmPut_ne _ _ _ _ _ h
  have hmarked : (overMarked c (booked o c s)).strm = (booked o c s).strm := withFaults_same (·.strm) c _ _
  rcases chanOutput_cases o c s with e | e | e | e <;> rw [e]
  · rfl
  · exact hbooked
  · rw [raiseMtr, raise_strm, hmarked, hbooked]

/-! ### What a live channel's output leaves -/

/-- Channel c shows the corrected value y of D = d, which is output n + 1 of its block if it has a pilot. -/
structure Shows (c : Nat) (y : Rat) (d : Int) (pilot : Bool) (n : Nat) (t : State) : Prop where
  val : (chan t c).val = sat32 (nearest (y * 256))
  strm : (Tab.get ⟨0, none⟩ t.strm c).val = nearest y
  ovr : 92 * 1073741824 ≤ 100 * d.natAbs → (chan t c).ovr = true ∧ rget t F.MTR_FLAGS_OVR = 1
  count : pilot = true → (chan t c).pil.n = n + 1

/-- What leaves the channel and its stream alone leaves what it shows. -/
theorem Shows.keep {y : Rat} {d : Int} {pilot : Bool} {n : Nat} {t u : State} (h : Shows c y d pilot n t) (hc : chan u c = chan t c)
    (hs : Tab.get ⟨0, none⟩ u.strm c = Tab.get ⟨0, none⟩ t.strm c) (hf : FlagsRise t u) : Shows c y d pilot n u :=
  ⟨by rw [hc, h.val], by rw [hs, h.strm], fun ho => ⟨by rw [hc, (h.ovr ho).1], hf.stay _ (by decide) (h.ovr ho).2⟩,
    fun hp => by rw [hc, h.count hp]⟩

theorem shows_chanOutput (hc : c < 16) (hu : cUse s c ≠ 0) (hd : (chan s c).dead = false) :
    Shows c (corrected o c s).2 (phaseOut o c s) (cPilot s c) (chan s c).pil.n (chanOutput o c s) := by
  have hfed : chan (fed o c s) c = withInput o c (chan s c) := chan_onChan_self hc _ s
  have hbooked : chan (booked o c s) c = withValue o c s (chan (fed o c s) c) := chan_onChan_self hc _ _
  have hcount : cPilot s c = true → (withValue o c s (chan (fed o c s) c)).pil.n = (chan s c).pil.n + 1 := fun hp => by
    rw [hfed, withValue, if_pos hp]
    rfl
  have hstrm : Tab.get ⟨0, none⟩ (booked o c s).strm c = ⟨nearest (corrected o c s).2, some s.tmp.now⟩ :=
    strm_strmPut_self _ _ _ _ (by omega)
  rw [chanOutput_live hu hd]
  by_cases hov : overRange o c s = true
  · have hmarked : (overMarked c (booked o c s)).strm = (booked o c s).strm := withFaults_same (·.strm) c _ _
    have hchan : chan (raiseMtr F.MTR_FLAGS_OVR (overMarked c (booked o c s))) c =
        withOver (withValue o c s (chan (fed o c s) c)) := by
      rw [chan_raiseMtr, overMarked, chan_withFaults, chan_onChan_self hc, hbooked]
    rw [if_pos hov]
    refine ⟨by rw [hchan]; rfl, ?_, fun _ => ⟨by rw [hchan]; rfl, rget_raiseMtr (by decide) _⟩, fun hp => by rw [hchan]; exact hcount hp⟩
    rw [raiseMtr, raise_strm, hmarked, hstrm]
  · rw [if_neg hov]
    exact ⟨by rw [hbooked]; rfl, by rw [hstrm], fun h => absurd (decide_eq_true h) hov, fun hp => by rw [hbooked]; exact hcount hp⟩

end

end Sys2Proof.Machine

end

section

/-! SUPPORT. What follows the channels in an output: power and energy (R228–R230), the neutral sums (R245), the residual current (R213) and
the next chips (R219, R221; their order within the second is the model's, log entry 184). -/

namespace Sys2Proof.Machine

/-! ### What the figures of an output leave alone -/

/-- The state with other figures of the energy points, other measurement streams and other registers. -/
def figuresPut (regs : Tbl Nat) (strm : Vector Stream 64) (power : Vector Int 8) (creep deg : Vector Bool 8) (frac : Vector Nat 16)
    (pend : List Inc) (sum : Vector SumSt 8) (s : State) : State :=
  { s with regs := regs, strm := strm, mtr.power := power, mtr.creep := creep, mtr.deg := deg, mtr.frac := frac, mtr.pend := pend, mtr.sum := sum }

/-- From s to t the figures of the energy points may have changed, streams from 52 on, and flags of the meter may have come up. -/
structure OnlyFigures (s t : State) : Prop where
  rest : ∃ regs strm power creep deg frac pend sum, t = figuresPut regs strm power creep deg frac pend sum s
  strm : ∀ k < 52, Tab.get ⟨0, none⟩ t.strm k = Tab.get ⟨0, none⟩ s.strm k
  flags : FlagsRise s t

namespace OnlyFigures

variable {s t u : State}

theorem refl (s : State) : OnlyFigures s s :=
  ⟨⟨s.regs, s.strm, s.mtr.power, s.mtr.creep, s.mtr.deg, s.mtr.frac, s.mtr.pend, s.mtr.sum, rfl⟩, fun _ _ => rfl, .refl s⟩

theorem trans (h : OnlyFigures s t) (k : OnlyFigures t u) : OnlyFigures s u := by
  obtain ⟨⟨_, _, _, _, _, _, _, _, rfl⟩, hs, hf⟩ := h
  obtain ⟨⟨_, _, _, _, _, _, _, _, rfl⟩, ks, kf⟩ := k
  exact ⟨⟨_, _, _, _, _, _, _, _, rfl⟩, fun i hi => (ks i hi).trans (hs i hi), hf.trans kf⟩

/-- What looks at none of the parts that may change is the same. -/
theorem same (h : OnlyFigures s t) {α : Type} (p : State → α)
    (hp : ∀ u regs strm power creep deg frac pend sum, p (figuresPut regs strm power creep deg frac pend sum u) = p u
      := by exact fun _ _ _ _ _ _ _ _ _ => rfl) : p t = p s := by
  obtain ⟨⟨regs, strm, power, creep, deg, frac, pend, sum, rfl⟩, -, -⟩ := h
  exact hp s regs strm power creep deg frac pend sum

theorem eachUpTo {n : Nat} {f : Nat → State → State} (h : ∀ i t, OnlyFigures t (f i t)) (s : State) : OnlyFigures s (eachUpTo n f s) :=
  eachUpTo_related refl trans h n s

end OnlyFigures

theorem onlyFigures_strmPut {k : Nat} (hk : 52 ≤ k) (v : Int) (s : State) : OnlyFigures s (strmPut k v s) :=
  ⟨⟨s.regs, _, s.mtr.power, s.mtr.creep, s.mtr.deg, s.mtr.frac, s.mtr.pend, s.mtr.sum, rfl⟩,
    fun i hi => strm_strmPut_ne _ _ _ _ _ (by omega), .of_regs rfl⟩

theorem onlyFigures_raiseMtr {f : Fld} (hf : f ∈ mtrFlags) (s : State) : OnlyFigures s (raiseMtr f s) := by
  have hfl := flagsRise_raiseMtr hf s
  refine ⟨?_, fun k _ => by rw [raiseMtr, raise_strm], hfl⟩
  rw [raiseMtr_eq hf s]
  exact ⟨_, s.strm, s.mtr.power, s.mtr.creep, s.mtr.deg, s.mtr.frac, s.mtr.pend, s.mtr.sum, rfl⟩

/-! ### Power and energy (R228–R230) -/

section

variable (n : Nat) (s : State)

/-- The figures of an energy point set: power, creep, and the clock mark of its tempo. -/
def powerPut (w : Int) (creep deg : Vector Bool 8) : State :=
  { s with mtr.power := Tab.upd s.mtr.power n (fun _ => w), mtr.creep := creep, mtr.deg := deg }

/-- The energy point's power on its outlet's stream. -/
def powerShown (w : Int) (s : State) : State := if eOutlet s n < 4 then strmPut (58 + eOutlet s n) w s else s

/-- The entry of the carried fraction that a power of an energy point books into (R229). -/
def fracIndex (p : Rat) : Nat := 2 * n + b2n (decide (p < 0))

/-- The energy of 50 µs with the fraction carried, in 2⁻³² µWh (R229, R230). -/
def energyOf (p : Rat) : Nat := (absR p * 4294967296 / 72 + 1 / 2).floor.toNat + Tab.get 0 s.mtr.frac (fracIndex n p)

/-- The increment an output hands over. -/
def incOf (p : Rat) : Inc := ⟨s.tmp.chain, nextEdge s, n, decide (p < 0), s.mtr.irc, energyOf n s p / 4294967296⟩

/-- The fraction carried on. -/
def fracPut (p : Rat) : State :=
  { s with mtr.frac := Tab.upd s.mtr.frac (fracIndex n p) (fun _ => energyOf n s p % 4294967296) }

theorem accumulate_eq (p : Rat) : accumulate n p s = if p = 0 ∨ energyOf n s p / 4294967296 = 0 then fracPut n s p
    else { fracPut n s p with mtr.pend := s.mtr.pend ++ [incOf n s p] } := rfl

theorem onlyFigures_accumulate (p : Rat) : OnlyFigures s (accumulate n p s) := by
  rw [accumulate_eq]
  split
  · exact ⟨⟨s.regs, s.strm, s.mtr.power, s.mtr.creep, s.mtr.deg, _, s.mtr.pend, s.mtr.sum, rfl⟩, fun _ _ => rfl, .of_regs rfl⟩
  · exact ⟨⟨s.regs, s.strm, s.mtr.power, s.mtr.creep, s.mtr.deg, _, _, s.mtr.sum, rfl⟩, fun _ _ => rfl, .of_regs rfl⟩

theorem accumulate_power (p : Rat) : (accumulate n p s).mtr.power = s.mtr.power := by
  rw [accumulate_eq]
  split <;> rfl

theorem accumulate_frac (p : Rat) : (accumulate n p s).mtr.frac =
    Tab.upd s.mtr.frac (fracIndex n p) (fun _ => energyOf n s p % 4294967296) := by
  rw [accumulate_eq]
  split <;> rfl

theorem accumulate_pend (p : Rat) : (accumulate n p s).mtr.pend =
    if p = 0 ∨ energyOf n s p / 4294967296 = 0 then s.mtr.pend else s.mtr.pend ++ [incOf n s p] := by
  rw [accumulate_eq]
  split <;> rfl

theorem onlyFigures_powerPut (w : Int) (creep deg : Vector Bool 8) : OnlyFigures s (powerPut n s w creep deg) :=
  ⟨⟨s.regs, s.strm, _, _, _, s.mtr.frac, s.mtr.pend, s.mtr.sum, rfl⟩, fun _ _ => rfl, .of_regs rfl⟩

theorem onlyFigures_powerShown (w : Int) : OnlyFigures s (powerShown n w s) := by
  unfold powerShown
  split
  · exact onlyFigures_strmPut (by omega) w s
  · exact .refl s

theorem powerShown_mtr (w : Int) : (powerShown n w s).mtr = s.mtr := by
  unfold powerShown
  split <;> rfl

/-- The state in which the energy of an output is booked. -/
def powerSet : State :=
  powerShown n (nearest (epPower s n).1) (powerPut n s (nearest (epPower s n).1) (Tab.upd s.mtr.creep n (fun _ => (epPower s n).2))
    (Tab.upd s.mtr.deg n (fun _ => s.mtr.irc)))

theorem epOutput_eq : epOutput n s = if eKind s n = 0 then s
    else if epDead s n then powerPut n s 0 s.mtr.creep (Tab.upd s.mtr.deg n (fun _ => s.mtr.irc))
    else accumulate n (epPower s n).1 (powerSet n s) := rfl

theorem epOutput_cases : epOutput n s = s ∨ (∃ deg, epOutput n s = powerPut n s 0 s.mtr.creep deg)
    ∨ epOutput n s = accumulate n (epPower s n).1 (powerSet n s) := by
  rw [epOutput_eq]
  split
  · exact .inl rfl
  · split
    · exact .inr (.inl ⟨_, rfl⟩)
    · exact .inr (.inr rfl)

theorem onlyFigures_powerSet : OnlyFigures s (powerSet n s) := (onlyFigures_powerPut ..).trans (onlyFigures_powerShown ..)

theorem onlyFigures_epOutput : OnlyFigures s (epOutput n s) := by
  rcases epOutput_cases n s with e | ⟨deg, e⟩ | e <;> rw [e]
  · exact .refl s
  · exact onlyFigures_powerPut ..
  · exact (onlyFigures_powerSet n s).trans (onlyFigures_accumulate ..)

/-- The figures of the energy points that a clause speaks of: power, the fractions carried, and the increments pending. -/
def energyView (s : State) : Vector Int 8 × Vector Nat 16 × List Inc := (s.mtr.power, s.mtr.frac, s.mtr.pend)

variable {n s}

theorem powerSet_power : (powerSet n s).mtr.power = Tab.upd s.mtr.power n (fun _ => nearest (epPower s n).1) := by
  rw [powerSet, powerShown_mtr]
  rfl

theorem powerSet_frac : (powerSet n s).mtr.frac = s.mtr.frac := by
  rw [powerSet, powerShown_mtr]
  rfl

theorem powerSet_pend : (powerSet n s).mtr.pend = s.mtr.pend := by
  rw [powerSet, powerShown_mtr]
  rfl

theorem fracIndex_div_two (p : Rat) : fracIndex n p / 2 = n := by
  unfold fracIndex b2n
  split <;> omega

/-- Another energy point's turn leaves the power and the fractions of this one. -/
theorem epOutput_ne {i : Nat} (h : n ≠ i) : Tab.get 0 (epOutput i s).mtr.power n = Tab.get 0 s.mtr.power n
    ∧ ∀ j, j / 2 = n → Tab.get 0 (epOutput i s).mtr.frac j = Tab.get 0 s.mtr.frac j := by
  rcases epOutput_cases i s with e | ⟨deg, e⟩ | e <;> rw [e]
  · exact ⟨rfl, fun _ _ => rfl⟩
  · exact ⟨Tab.get_upd_ne _ _ _ _ _ h, fun _ _ => rfl⟩
  · refine ⟨?_, fun j hj => ?_⟩
    · rw [accumulate_power, powerSet_power, Tab.get_upd_ne _ _ _ _ _ h]
    · have hne : j ≠ fracIndex i (epPower s i).1 := fun e => h (by rw [← hj, e, fracIndex_div_two])
      rw [accumulate_frac, Tab.get_upd_ne _ _ _ _ _ hne, powerSet_frac]

/-- No turn takes a pending increment away. -/
theorem mem_pend_epOutput {x : Inc} (h : x ∈ s.mtr.pend) (i : Nat) : x ∈ (epOutput i s).mtr.pend := by
  rcases epOutput_cases i s with e | ⟨deg, e⟩ | e <;> rw [e]
  · exact h
  · exact h
  · rw [accumulate_pend, powerSet_pend]
    split
    · exact h
    · exact List.mem_append_left _ h

/-- The energy that a turn of n books, whatever the turns before it left. -/
theorem energyOf_congr {t : State} {p : Rat} (h : Tab.get 0 t.mtr.frac (fracIndex n p) = Tab.get 0 s.mtr.frac (fracIndex n p)) :
    energyOf n t p = energyOf n s p := by rw [energyOf, energyOf, h]

theorem nextEdge_congr {t : State} (ht : t.tmp = s.tmp) (hr : rget t F.TMP_INCR_INCR = rget s F.TMP_INCR_INCR) : nextEdge t = nextEdge s := by
  rw [nextEdge, nextEdge, tempoSpan, tempoSpan, ht, hr]

theorem OnlyFigures.nextEdge {t : State} (h : OnlyFigures s t) : nextEdge t = nextEdge s :=
  nextEdge_congr (h.same (·.tmp)) (h.flags.other _ (by decide))

theorem OnlyChannels.nextEdge {t : State} (h : OnlyChannels s t) : Machine.nextEdge t = Machine.nextEdge s :=
  nextEdge_congr (h.same (·.tmp)) (h.flags.other _ (by decide))

/-- The turn of a live energy point. -/
theorem epOutput_live (hn : n < 8) (hk : eKind s n ≠ 0) (hd : epDead s n = false) :
    Tab.get 0 (epOutput n s).mtr.power n = nearest (epPower s n).1
      ∧ Tab.get 0 (epOutput n s).mtr.frac (fracIndex n (epPower s n).1) = energyOf n s (epPower s n).1 % 4294967296
      ∧ (energyOf n s (epPower s n).1 / 4294967296 ≠ 0 → (epPower s n).1 ≠ 0 → incOf n s (epPower s n).1 ∈ (epOutput n s).mtr.pend) := by
  have hrun : epOutput n s = accumulate n (epPower s n).1 (powerSet n s) := by
    rw [epOutput_eq, if_neg hk, if_neg (by simp [hd])]
  have hset := onlyFigures_powerSet n s
  have he : energyOf n (powerSet n s) (epPower s n).1 = energyOf n s (epPower s n).1 := energyOf_congr (by rw [powerSet_frac])
  have hj : fracIndex n (epPower s n).1 < 16 := by
    have := fracIndex_div_two (n := n) (epPower s n).1
    omega
  rw [hrun]
  refine ⟨?_, ?_, fun hwhole hp => ?_⟩
  · rw [accumulate_power, powerSet_power, Tab.get_upd_self _ _ _ _ hn]
  · rw [accumulate_frac, Tab.get_upd_self _ _ _ _ hj, he]
  · have hinc : incOf n (powerSet n s) (epPower s n).1 = incOf n s (epPower s n).1 := by
      rw [incOf, incOf, he, hset.nextEdge, hset.same (·.tmp.chain), hset.same (·.mtr.irc)]
    rw [accumulate_pend, he, if_neg (by simp [hwhole, hp]), hinc]
    exact List.mem_append_right _ (List.mem_singleton_self _)

theorem epOutput_dead (hn : n < 8) (hk : eKind s n ≠ 0) (hd : epDead s n = true) :
    Tab.get 0 (epOutput n s).mtr.power n = 0 ∧ (epOutput n s).mtr.frac = s.mtr.frac := by
  rw [epOutput_eq, if_neg hk, if_pos hd]
  exact ⟨Tab.get_upd_self _ _ _ _ hn, rfl⟩

end

section

variable {n : Nat} {u : State}

/-- A live energy point after every turn: its own books the energy, and the others leave it. -/
theorem energyLoop_live (hn : n < 8) (hk : eKind u n ≠ 0) (hd : epDead u n = false) :
    Tab.get 0 (eachUpTo 8 epOutput u).mtr.power n = nearest (epPower u n).1
      ∧ Tab.get 0 (eachUpTo 8 epOutput u).mtr.frac (fracIndex n (epPower u n).1) = energyOf n u (epPower u n).1 % 4294967296
      ∧ (energyOf n u (epPower u n).1 / 4294967296 ≠ 0 → (epPower u n).1 ≠ 0 →
          incOf n u (epPower u n).1 ∈ (eachUpTo 8 epOutput u).mtr.pend) := by
  refine eachUpTo_brings hn epOutput (Q := fun t => OnlyFigures u t ∧ ∀ j, j / 2 = n → Tab.get 0 t.mtr.frac j = Tab.get 0 u.mtr.frac j)
    (P := fun t => Tab.get 0 t.mtr.power n = nearest (epPower u n).1
      ∧ Tab.get 0 t.mtr.frac (fracIndex n (epPower u n).1) = energyOf n u (epPower u n).1 % 4294967296
      ∧ (energyOf n u (epPower u n).1 / 4294967296 ≠ 0 → (epPower u n).1 ≠ 0 → incOf n u (epPower u n).1 ∈ t.mtr.pend))
    ⟨.refl u, fun _ _ => rfl⟩ ?_ ?_ ?_
  · rintro i t hi ⟨hut, hfrac⟩
    obtain ⟨-, hkeep⟩ := epOutput_ne (n := n) (i := i) (s := t) (by omega)
    exact ⟨hut.trans (onlyFigures_epOutput i t), fun j hj => (hkeep j hj).trans (hfrac j hj)⟩
  · rintro t ⟨hut, hfrac⟩
    have hp : epPower t n = epPower u n := hut.same (epPower · n)
    have he : energyOf n t (epPower u n).1 = energyOf n u (epPower u n).1 := energyOf_congr (hfrac _ (fracIndex_div_two _))
    have hinc : incOf n t (epPower u n).1 = incOf n u (epPower u n).1 := by
      rw [incOf, incOf, he, hut.nextEdge, hut.same (·.tmp.chain), hut.same (·.mtr.irc)]
    have hturn := epOutput_live (n := n) (s := t) hn (by rwa [hut.same (eKind · n)]) (by rwa [hut.same (epDead · n)])
    rwa [hp, he, hinc] at hturn
  · rintro i t hi ⟨hpow, hfr, hpend⟩
    obtain ⟨hpower, hkeep⟩ := epOutput_ne (n := n) (i := i) (s := t) (by omega)
    exact ⟨hpower.trans hpow, (hkeep _ (fracIndex_div_two _)).trans hfr, fun hw hne => mem_pend_epOutput (hpend hw hne) i⟩

theorem energyLoop_dead (hn : n < 8) (hk : eKind u n ≠ 0) (hd : epDead u n = true) :
    Tab.get 0 (eachUpTo 8 epOutput u).mtr.power n = 0
      ∧ ∀ j, j / 2 = n → Tab.get 0 (eachUpTo 8 epOutput u).mtr.frac j = Tab.get 0 u.mtr.frac j := by
  refine eachUpTo_brings hn epOutput (Q := fun t => OnlyFigures u t ∧ ∀ j, j / 2 = n → Tab.get 0 t.mtr.frac j = Tab.get 0 u.mtr.frac j)
    (P := fun t => Tab.get 0 t.mtr.power n = 0 ∧ ∀ j, j / 2 = n → Tab.get 0 t.mtr.frac j = Tab.get 0 u.mtr.frac j)
    ⟨.refl u, fun _ _ => rfl⟩ ?_ ?_ ?_
  · rintro i t hi ⟨hut, hfrac⟩
    obtain ⟨-, hkeep⟩ := epOutput_ne (n := n) (i := i) (s := t) (by omega)
    exact ⟨hut.trans (onlyFigures_epOutput i t), fun j hj => (hkeep j hj).trans (hfrac j hj)⟩
  · rintro t ⟨hut, hfrac⟩
    obtain ⟨hpow, hfr⟩ := epOutput_dead (n := n) (s := t) hn (by rwa [hut.same (eKind · n)]) (by rwa [hut.same (epDead · n)])
    exact ⟨hpow, fun j hj => by rw [hfr, hfrac j hj]⟩
  · rintro i t hi ⟨hpow, hfr⟩
    obtain ⟨hpower, hkeep⟩ := epOutput_ne (n := n) (i := i) (s := t) (by omega)
    exact ⟨hpower.trans hpow, fun j hj => (hkeep j hj).trans (hfr j hj)⟩

end

/-! ### The neutral sums and the residual current (R213, R245) -/

theorem onlyFigures_sumOutput (n : Nat) (s : State) : OnlyFigures s (sumOutput n s) := by
  unfold sumOutput
  split
  · exact .refl s
  · exact ⟨⟨s.regs, s.strm, s.mtr.power, s.mtr.creep, s.mtr.deg, s.mtr.frac, s.mtr.pend, _, rfl⟩, fun _ _ => rfl, .of_regs rfl⟩

theorem energyView_sumOutput (n : Nat) (s : State) : energyView (sumOutput n s) = energyView s := by
  unfold sumOutput
  split <;> rfl

theorem rcOutput_some {s : State} {c : Nat} (h : rcChannel s = some c) (hd : (chan s c).dead = false) :
    rcOutput s = strmPut 52 (Config.demodulate (chan s c).hist) s := by
  unfold rcOutput
  simp only [h]
  exact if_neg (by simp [hd])

theorem onlyFigures_rcOutput (s : State) : OnlyFigures s (rcOutput s) := by
  unfold rcOutput
  split
  · split
    · exact .refl s
    · exact onlyFigures_strmPut (le_refl _) _ s
  · exact .refl s

theorem rcOutput_mtr (s : State) : (rcOutput s).mtr = s.mtr := by
  unfold rcOutput
  split
  · split <;> rfl
  · rfl

/-! ### The next chips (R219, R221) -/

/-- The next chip of a line, and how long it lasts. -/
def chipNext (k : Nat) (s : State) : State :=
  if 0 < (pilLine s k).hold then onLine k (fun p => { p with hold := p.hold - 1 }) s
  else if (pilLine s k).plus + (pilLine s k).minus + (pilLine s k).zero = 0 then onLine k (fun p => { p with cur := 0 }) s
  else onLine k (fun p => { chipDraw (freeNat s).1 p with hold := pilChip s k - 1 }) (freeNat s).2

/-- The chip on the line passed to the chain model. -/
def chipModelled (p : PilLine) : PilLine :=
  { p with hist := (p.cur :: p.hist).take 64, mdl := (Config.chainModel ((p.cur :: p.hist).take 64) :: p.mdl).take 6 }

theorem pilStep_eq (k : Nat) (s : State) : pilStep k s = if (pilChan s k).isNone then s else onLine k chipModelled (chipNext k s) := rfl

theorem onlyLines_freeNat (s : State) : OnlyLines s (freeNat s).2 := ⟨_, s.mtr.pil, rfl⟩

theorem onlyLines_chipNext (k : Nat) (s : State) : OnlyLines s (chipNext k s) := by
  unfold chipNext
  split
  · exact onlyLines_onLine k _ s
  · split
    · exact onlyLines_onLine k _ s
    · exact (onlyLines_freeNat s).trans (onlyLines_onLine k _ _)

theorem onlyLines_pilStep (k : Nat) (s : State) : OnlyLines s (pilStep k s) := by
  rw [pilStep_eq]
  split
  · exact .refl s
  · exact (onlyLines_chipNext k s).trans (onlyLines_onLine k _ _)

theorem pilLine_pilStep_ne {k i : Nat} (h : k ≠ i) (s : State) : pilLine (pilStep i s) k = pilLine s k := by
  have hnext : pilLine (chipNext i s) k = pilLine s k := by
    unfold chipNext
    split
    · exact pilLine_onLine_ne h _ s
    · split
      · exact pilLine_onLine_ne h _ s
      · exact pilLine_onLine_ne h _ _
  rw [pilStep_eq]
  split
  · rfl
  · rw [pilLine_onLine_ne h, hnext]

/-- A draw takes one of the chips still to come. -/
theorem chipDraw_spec (v : Nat) {p : PilLine} (h : 0 < p.plus + p.minus + p.zero) : let q := chipDraw v p
    (q.cur = 1 ∧ q.plus + 1 = p.plus ∧ q.minus = p.minus ∧ q.zero = p.zero)
      ∨ (q.cur = -1 ∧ q.plus = p.plus ∧ q.minus + 1 = p.minus ∧ q.zero = p.zero)
      ∨ (q.cur = 0 ∧ q.plus = p.plus ∧ q.minus = p.minus ∧ q.zero + 1 = p.zero) := by
  have hx : v % (p.plus + p.minus + p.zero) < p.plus + p.minus + p.zero := Nat.mod_lt _ h
  unfold chipDraw
  dsimp only
  by_cases h1 : v % (p.plus + p.minus + p.zero) < p.plus
  · rw [if_pos h1]
    exact .inl ⟨rfl, by dsimp only; omega, rfl, rfl⟩
  · by_cases h2 : v % (p.plus + p.minus + p.zero) < p.plus + p.minus
    · rw [if_neg h1, if_pos h2]
      exact .inr (.inl ⟨rfl, rfl, by dsimp only; omega, rfl⟩)
    · rw [if_neg h1, if_neg h2]
      exact .inr (.inr ⟨rfl, rfl, rfl, by dsimp only; omega⟩)

/-- What becomes of a line p whose chips last `chip` outputs: its chip goes on, or the next goes out, or the land is released. -/
structure ChipTurn (chip : Nat) (p q : PilLine) : Prop where
  goesOn : 0 < p.hold → q.cur = p.cur ∧ q.hold = p.hold - 1 ∧ q.plus = p.plus ∧ q.minus = p.minus ∧ q.zero = p.zero
  released : p.hold = 0 → p.plus + p.minus + p.zero = 0 → q.cur = 0
  next : p.hold = 0 → 0 < p.plus + p.minus + p.zero → q.hold = chip - 1
    ∧ ((q.cur = 1 ∧ q.plus + 1 = p.plus ∧ q.minus = p.minus ∧ q.zero = p.zero)
      ∨ (q.cur = -1 ∧ q.plus = p.plus ∧ q.minus + 1 = p.minus ∧ q.zero = p.zero)
      ∨ (q.cur = 0 ∧ q.plus = p.plus ∧ q.minus = p.minus ∧ q.zero + 1 = p.zero))

theorem chipTurn_pilStep {k : Nat} {s : State} (hk : k < 4) (hp : pilChan s k ≠ none) :
    ChipTurn (pilChip s k) (pilLine s k) (pilLine (pilStep k s) k) := by
  rw [pilStep_eq, if_neg (by rwa [Option.isNone_iff_eq_none]), pilLine_onLine_self hk, chipNext]
  rcases Nat.eq_zero_or_pos (pilLine s k).hold with h0 | hpos
  · rw [if_neg (by omega)]
    rcases Nat.eq_zero_or_pos ((pilLine s k).plus + (pilLine s k).minus + (pilLine s k).zero) with hnone | hsome
    · rw [if_pos hnone, pilLine_onLine_self hk]
      exact ⟨fun h => by omega, fun _ _ => rfl, fun _ h => by omega⟩
    · rw [if_neg (by omega), pilLine_onLine_self hk]
      exact ⟨fun h => by omega, fun _ h => by omega, fun _ _ => ⟨rfl, chipDraw_spec _ hsome⟩⟩
  · rw [if_pos hpos, pilLine_onLine_self hk]
    exact ⟨fun _ => ⟨rfl, rfl, rfl, rfl, rfl⟩, fun h => by omega, fun h => by omega⟩

end Sys2Proof.Machine

end

section

/-! SUPPORT and O22. A decimator output as a whole, and the commands of the metering channels (R208–R224). -/

namespace Sys2Proof.Machine

/-! ### The stages of an output -/

section

variable (o : Decim) (s : State)

/-- The turn of a channel in taking a new temperature. -/
def tempTurn (c : Nat) (t : State) : State := if cUse t c = 0 then t else tempTake c t

/-- Sensors and temperatures taken. -/
def tempsTaken : State := eachUpTo 16 tempTurn (i2cTake o.i2c s)

/-- The output counted. -/
def outCounted (s : State) : State := { s with mtr.outs := s.mtr.outs + 1 }

/-- Every channel's output. -/
def channelsDone : State := eachUpTo 16 (chanOutput o) (outCounted (tempsTaken o s))

/-- Power and energy of every energy point. -/
def energyDone : State := eachUpTo 8 epOutput (channelsDone o s)

/-- The neutral sums. -/
def sumsDone : State := eachUpTo 8 sumOutput (energyDone o s)

/-- CLKDEG where the clock ran from IRC (R232). -/
def clockMarked (s : State) : State := if s.mtr.irc then raiseMtr F.MTR_FLAGS_CLKDEG s else s

theorem tempTurn_eq : (fun c t => if cUse t c = 0 then t else tempTake c t) = tempTurn := rfl

theorem decimOutput_eq : decimOutput o s = eachUpTo 4 pilStep (rcOutput (clockMarked (sumsDone o s))) := by
  unfold decimOutput
  rw [tempTurn_eq]
  unfold clockMarked sumsDone energyDone channelsDone tempsTaken outCounted
  with_reducible rfl

/-! ### What the stages leave alone -/

theorem onlyChannels_tempTurn (c : Nat) (t : State) : OnlyChannels t (tempTurn c t) := by
  unfold tempTurn
  split
  · exact .refl t
  · exact onlyChannels_tempTake c t

theorem onlyChannels_tempsTaken : OnlyChannels (i2cTake o.i2c s) (tempsTaken o s) := by
  rw [tempsTaken]
  exact .eachUpTo onlyChannels_tempTurn _

theorem onlyChannels_channelsDone : OnlyChannels (outCounted (tempsTaken o s)) (channelsDone o s) := by
  rw [channelsDone]
  exact .eachUpTo (fun c t => onlyChannels_chanOutput o c t) _

theorem onlyFigures_energyDone : OnlyFigures (channelsDone o s) (energyDone o s) := by
  rw [energyDone]
  exact .eachUpTo onlyFigures_epOutput _

theorem onlyFigures_sumsDone : OnlyFigures (energyDone o s) (sumsDone o s) := by
  rw [sumsDone]
  exact .eachUpTo onlyFigures_sumOutput _

theorem onlyFigures_clockMarked (s : State) : OnlyFigures s (clockMarked s) := by
  unfold clockMarked
  split
  · exact onlyFigures_raiseMtr (by decide) s
  · exact .refl s

theorem clockMarked_mtr (s : State) : (clockMarked s).mtr = s.mtr := by
  unfold clockMarked
  split
  · rw [raiseMtr, raise_mtr]
  · rfl

theorem onlyLines_decimOutput : OnlyLines (rcOutput (clockMarked (sumsDone o s))) (decimOutput o s) := by
  rw [decimOutput_eq]
  exact onlyLines_eachUpTo onlyLines_pilStep 4 _

theorem onlyFigures_rcDone : OnlyFigures (channelsDone o s) (rcOutput (clockMarked (sumsDone o s))) :=
  (((onlyFigures_energyDone o s).trans (onlyFigures_sumsDone o s)).trans (onlyFigures_clockMarked _)).trans (onlyFigures_rcOutput _)

variable {o s}

/-- p looks at neither the sensors nor the channels nor the count of outputs. -/
structure Apart {α : Type} (p : State → α) : Prop where
  sensors : ∀ v mask u, p (sensorsPut v mask u) = p u
  channels : ∀ u regs seen code ctr got strm chan, p (channelsPut regs seen code ctr got strm chan u) = p u
  count : ∀ u, p (outCounted u) = p u

/-- What looks at none of these is the same before the channels' outputs. -/
theorem same_before {α : Type} (p : State → α) (hp : Apart p := by exact ⟨fun _ _ _ => rfl, fun _ _ _ _ _ _ _ _ => rfl, fun _ => rfl⟩) :
    p (outCounted (tempsTaken o s)) = p s := by
  obtain ⟨v, mask, e⟩ := onlySensors_i2cTake o.i2c s
  rw [hp.count, (onlyChannels_tempsTaken o s).same p hp.channels, e, hp.sensors]

/-- Nor is it changed by the channels' outputs. -/
theorem same_channels {α : Type} (p : State → α) (hp : Apart p := by exact ⟨fun _ _ _ => rfl, fun _ _ _ _ _ _ _ _ => rfl, fun _ => rfl⟩) :
    p (channelsDone o s) = p s := ((onlyChannels_channelsDone o s).same p hp.channels).trans (same_before p hp)

theorem chan_i2cTake (c : Nat) : chan (i2cTake o.i2c s) c = chan s c := by
  obtain ⟨v, mask, e⟩ := onlySensors_i2cTake o.i2c s
  rw [e]
  rfl

theorem chan_outCounted (u : State) (c : Nat) : chan (outCounted u) c = chan u c := rfl

theorem onlyTemp_tempTurn {c : Nat} (hc : c < 16) (i : Nat) (t : State) : OnlyTemp (chan t c) (chan (tempTurn i t) c) := by
  unfold tempTurn
  split
  · exact .refl _
  · exact onlyTemp_tempTake hc i t

theorem onlyTemp_tempTurns {c : Nat} (hc : c < 16) (n : Nat) (u : State) : OnlyTemp (chan u c) (chan (eachUpTo n tempTurn u) c) := by
  induction n with
  | zero => exact .refl _
  | succ n ih =>
    rw [eachUpTo_succ]
    exact ih.trans (onlyTemp_tempTurn hc n _)

theorem onlyTemp_before {c : Nat} (hc : c < 16) : OnlyTemp (chan s c) (chan (outCounted (tempsTaken o s)) c) := by
  rw [chan_outCounted, tempsTaken, ← chan_i2cTake (o := o)]
  exact onlyTemp_tempTurns hc 16 _

theorem dead_tempTurn (i c : Nat) (t : State) : (chan (tempTurn i t) c).dead = (chan t c).dead := by
  unfold tempTurn
  split
  · rfl
  · exact dead_tempTake i c t

theorem dead_before (c : Nat) : (chan (outCounted (tempsTaken o s)) c).dead = (chan s c).dead := by
  rw [chan_outCounted, tempsTaken, eachUpTo_frame (fun t => (chan t c).dead) 16 tempTurn _ fun i t _ => dead_tempTurn i c t, chan_i2cTake]

theorem dead_channelsDone (c : Nat) : (chan (channelsDone o s) c).dead = (chan s c).dead := by
  rw [channelsDone, eachUpTo_frame (fun t => (chan t c).dead) 16 (chanOutput o) _ fun i t _ => dead_chanOutput o i t c, dead_before]

/-- The channels at the end of the output stand as their own outputs left them. -/
theorem chan_decimOutput (c : Nat) : chan (decimOutput o s) c = chan (channelsDone o s) c :=
  ((onlyLines_decimOutput o s).same (chan · c)).trans ((onlyFigures_rcDone o s).same (chan · c))

theorem flagsRise_decimOutput : FlagsRise (channelsDone o s) (decimOutput o s) :=
  (onlyFigures_rcDone o s).flags.trans (.of_regs ((onlyLines_decimOutput o s).same (·.regs)))

theorem energyView_decimOutput : energyView (decimOutput o s) = energyView (energyDone o s) := by
  have hrc : energyView (rcOutput (clockMarked (sumsDone o s))) = energyView (sumsDone o s) := by
    rw [energyView, rcOutput_mtr, clockMarked_mtr]
    rfl
  rw [(onlyLines_decimOutput o s).same energyView, hrc, sumsDone, eachUpTo_frame energyView 8 sumOutput _ fun i t _ => energyView_sumOutput i t]

end

/-! ### What the clauses read from the stages -/

section

variable {o : Decim} {s : State}

theorem nextEdge_outCounted (u : State) : nextEdge (outCounted u) = nextEdge u := rfl

theorem nextEdge_i2cTake (l : List (Fin 8 × Int)) : nextEdge (i2cTake l s) = nextEdge s := by
  obtain ⟨v, mask, e⟩ := onlySensors_i2cTake l s
  rw [e]
  rfl

theorem nextEdge_channelsDone : nextEdge (channelsDone o s) = nextEdge s := by
  rw [(onlyChannels_channelsDone o s).nextEdge, nextEdge_outCounted, (onlyChannels_tempsTaken o s).nextEdge, nextEdge_i2cTake]

theorem epPower_decimOutput (n : Nat) : epPower (decimOutput o s) n = epPower (channelsDone o s) n :=
  ((onlyLines_decimOutput o s).same (epPower · n)).trans ((onlyFigures_rcDone o s).same (epPower · n))

theorem energyView_eq : (decimOutput o s).mtr.power = (eachUpTo 8 epOutput (channelsDone o s)).mtr.power
    ∧ (decimOutput o s).mtr.frac = (eachUpTo 8 epOutput (channelsDone o s)).mtr.frac
    ∧ (decimOutput o s).mtr.pend = (eachUpTo 8 epOutput (channelsDone o s)).mtr.pend := by
  have h := energyView_decimOutput (o := o) (s := s)
  rwa [energyDone, energyView, energyView, Prod.mk.injEq, Prod.mk.injEq] at h

/-- A channel's output is its own turn, at which its record stands as before the channels' outputs. -/
theorem chan_channelsDone_of_turn {c : Nat} (hc : c < 16) {k : Chan} (h : ∀ t, OnlyChannels (outCounted (tempsTaken o s)) t →
    chan t c = chan (outCounted (tempsTaken o s)) c → chan (chanOutput o c t) c = k) : chan (channelsDone o s) c = k := by
  rw [channelsDone]
  refine eachUpTo_brings hc (chanOutput o) (Q := fun t => OnlyChannels (outCounted (tempsTaken o s)) t
    ∧ chan t c = chan (outCounted (tempsTaken o s)) c) (P := fun t => chan t c = k) ⟨.refl _, rfl⟩ ?_ (fun t ht => h t ht.1 ht.2) ?_
  · exact fun i t hi ht => ⟨ht.1.trans (onlyChannels_chanOutput o i t), (chan_chanOutput_ne (by omega) o t).trans ht.2⟩
  · exact fun i t hi ht => (chan_chanOutput_ne (by omega) o t).trans ht

theorem chan_channelsDone_dead {c : Nat} (hc : c < 16) (hu : cUse s c ≠ 0) (hd : (chan s c).dead = true) :
    chan (channelsDone o s) c = withInput o c (chan (outCounted (tempsTaken o s)) c) := by
  refine chan_channelsDone_of_turn hc fun t hot hct => ?_
  have huse : cUse t c = cUse s c := (hot.same (cUse · c)).trans (same_before (cUse · c))
  rw [chanOutput_dead (by rwa [huse]) (by rw [hct, dead_before, hd]), fed, chan_onChan_self hc, hct]

end

/-! ### A live channel (R209, R210, R215) -/

section

variable {o : Decim} {s t : State} {c : Nat}

/-- D of a channel's output as a function of the record before it. -/
def phaseOf (o : Decim) (c : Nat) (k : Chan) : Int := phaseStage k.dT ((toSigned 32 (o.d.getD c 0).toNat :: k.fir).take 6)

/-- The reference of a pilot channel in that record's phase stage. -/
def refOf (s : State) (c : Nat) : Int := if cPilot s c then phaseStage (chan s c).dT (pilLine s (cPil s c)).mdl else 0

theorem phaseOut_eq (hc : c < 16) : phaseOut o c s = phaseOf o c (chan s c) := by
  rw [phaseOut, fed, chan_onChan_self hc]
  rfl

theorem phaseRef_eq (hc : c < 16) : phaseRef o c s = refOf s c := by
  rw [phaseRef, fed, chan_onChan_self hc]
  rfl

theorem cPilot_congr (hsec : t.sec = s.sec) (c : Nat) : cPilot t c = cPilot s c := by
  unfold cPilot cUse cPil tU8 Machine.sec
  rw [hsec]

/-- The correction reads the layout, G_T and G_P. -/
theorem correct_congr (hsec : t.sec = s.sec) (hg : (chan t c).gT = (chan s c).gT) (hp : (chan t c).pil.gP = (chan s c).pil.gP) (d r : Int) :
    correct t c d r = correct s c d r := by
  have hpilot : cPilot t c = cPilot s c := cPilot_congr hsec c
  have hfs : cFs t c = cFs s c := by simp only [cFs, sec, hsec]
  have hoff : cOffset t c = cOffset s c := by simp only [cOffset, sec, hsec]
  have hamp : cPilAmp t c = cPilAmp s c := by simp only [cPilAmp, sec, hsec]
  rw [correct, correct, hpilot, hfs, hoff, hamp, hg, hp]

theorem corrected_eq (hc : c < 16) : corrected o c s = correct s c (phaseOf o c (chan s c)) (refOf s c) := by
  rw [corrected, phaseOut_eq hc, phaseRef_eq hc]
  have hfed : chan (fed o c s) c = withInput o c (chan s c) := chan_onChan_self hc _ s
  exact correct_congr (s := s) (t := fed o c s) rfl (by rw [hfed]; rfl) (by rw [hfed]; rfl) _ _

/-- What a channel's output is made of stands at its turn as before the output. -/
theorem corrected_congr (hc : c < 16) (hk : OnlyTemp (chan s c) (chan t c)) (hsec : t.sec = s.sec) (hpil : t.mtr.pil = s.mtr.pil) :
    phaseOut o c t = phaseOf o c (chan s c) ∧ corrected o c t = correct s c (phaseOf o c (chan s c)) (refOf s c) := by
  have hphase : phaseOf o c (chan t c) = phaseOf o c (chan s c) := hk.same (phaseOf o c ·)
  have hdT : (chan t c).dT = (chan s c).dT := hk.same (·.dT)
  have hpilot : cPilot t c = cPilot s c := cPilot_congr hsec c
  have hline : pilLine t (cPil t c) = pilLine s (cPil s c) := by simp only [pilLine, cPil, tU8, sec, hsec, hpil]
  have href : refOf t c = refOf s c := by rw [refOf, refOf, hpilot, hdT, hline]
  refine ⟨(phaseOut_eq hc).trans hphase, (corrected_eq hc).trans ?_⟩
  rw [hphase, href]
  exact correct_congr hsec (hk.same (·.gT)) (hk.same (·.pil.gP)) _ _

theorem shows_channelsDone (hc : c < 16) (hu : cUse s c ≠ 0) (hd : (chan s c).dead = false) :
    Shows c (correct s c (phaseOf o c (chan s c)) (refOf s c)).2 (phaseOf o c (chan s c)) (cPilot s c) (chan s c).pil.n
      (channelsDone o s) := by
  have hbegun : ∀ t, OnlyChannels (outCounted (tempsTaken o s)) t → chan t c = chan (outCounted (tempsTaken o s)) c →
      Shows c (correct s c (phaseOf o c (chan s c)) (refOf s c)).2 (phaseOf o c (chan s c)) (cPilot s c) (chan s c).pil.n
        (chanOutput o c t) := by
    intro t hot hct
    have htemp : OnlyTemp (chan s c) (chan t c) := by
      rw [hct]
      exact onlyTemp_before hc
    have hsec : t.sec = s.sec := (hot.same (·.sec)).trans (same_before (·.sec))
    have hpil : t.mtr.pil = s.mtr.pil := (hot.same (·.mtr.pil)).trans (same_before (·.mtr.pil))
    have huse : cUse t c = cUse s c := (hot.same (cUse · c)).trans (same_before (cUse · c))
    have hpilot : cPilot t c = cPilot s c := (hot.same (cPilot · c)).trans (same_before (cPilot · c))
    obtain ⟨hphase, hcorr⟩ := corrected_congr (o := o) hc htemp hsec hpil
    have h := shows_chanOutput (o := o) (s := t) hc (by rwa [huse]) ((htemp.same (·.dead)).trans hd)
    rwa [hphase, hcorr, hpilot, htemp.same (·.pil.n)] at h
  rw [channelsDone]
  refine eachUpTo_brings hc (chanOutput o) (Q := fun t => OnlyChannels (outCounted (tempsTaken o s)) t
    ∧ chan t c = chan (outCounted (tempsTaken o s)) c) ⟨.refl _, rfl⟩ ?_ (fun t ht => hbegun t ht.1 ht.2) ?_
  · exact fun i t hi ht => ⟨ht.1.trans (onlyChannels_chanOutput o i t), (chan_chanOutput_ne (by omega) o t).trans ht.2⟩
  · exact fun i t hi ht => ht.keep (chan_chanOutput_ne (by omega) o t) (strm_chanOutput_ne (by omega) o t) (onlyChannels_chanOutput o i t).flags

theorem shows_decimOutput (hc : c < 16) (hu : cUse s c ≠ 0) (hd : (chan s c).dead = false) :
    Shows c (correct s c (phaseOf o c (chan s c)) (refOf s c)).2 (phaseOf o c (chan s c)) (cPilot s c) (chan s c).pil.n
      (decimOutput o s) := by
  refine (shows_channelsDone hc hu hd).keep (chan_decimOutput c) ?_ flagsRise_decimOutput
  rw [(onlyLines_decimOutput o s).same (·.strm), (onlyFigures_rcDone o s).strm c (by omega)]

theorem outs_decimOutput : (decimOutput o s).mtr.outs = s.mtr.outs + 1 := by
  have htemps : (tempsTaken o s).mtr.outs = s.mtr.outs := by
    obtain ⟨v, mask, e⟩ := onlySensors_i2cTake o.i2c s
    rw [(onlyChannels_tempsTaken o s).same (·.mtr.outs), e, sensorsPut]
  rw [(onlyLines_decimOutput o s).same (·.mtr.outs), (onlyFigures_rcDone o s).same (·.mtr.outs),
    (onlyChannels_channelsDone o s).same (·.mtr.outs), outCounted, htemps]

end

/-! ### The command's clauses -/

section

variable {s : State} (hm : mtrOn s = true) (o : Decim) (ho : s.mtr.outs < outputsMax s)

include hm ho

theorem exec_decimatorOutput : exec (.decimatorOutput o) s = .next (decimOutput o s) := congrArg Host.Outcome.next (if_pos ⟨hm, ho⟩)

theorem does_decimatorOutput_live (c : Fin 16) (hu : cUse s c ≠ 0) (hd : (chan s c).dead = false) :
    let d := phaseStage (chan s c).dT (((toSigned 32 (o.d.getD c 0).toNat) :: (chan s c).fir).take 6)
    let r := if cPilot s c then phaseStage (chan s c).dT (pilLine s (cPil s c)).mdl else 0
    let yt : Rat := (((d * cFs s c : Int) : Rat) / 1073741824 - (cOffset s c : Rat) / 256) * (1 + ((chan s c).gT : Rat) / 256000000)
    let y : Rat := if cPilot s c then yt * (1 + (chan s c).pil.gP / 1000000) - (cPilAmp s c : Rat) * ((r : Rat) / 1073741824) else yt
    Does (.decimatorOutput o) s (fun t =>
      (chan t c).val = sat32 (nearest (y * 256)) ∧ (Tab.get ⟨0, none⟩ t.strm c).val = nearest y
      ∧ (92 * 1073741824 ≤ 100 * d.natAbs → (chan t c).ovr = true ∧ rget t F.MTR_FLAGS_OVR = 1)
      ∧ (cPilot s c = true → (chan t c).pil.n = (chan s c).pil.n + 1) ∧ t.mtr.outs = s.mtr.outs + 1) := by
  intro d r yt y
  have hy : (correct s c d r).2 = y := by
    by_cases hp : cPilot s c = true
    · rw [correct, if_pos hp]
      exact (if_pos hp).symm
    · rw [correct, if_neg hp]
      exact (if_neg hp).symm
  obtain ⟨hval, hstrm, hovr, hcount⟩ := shows_decimOutput (o := o) c.isLt hu hd
  exact does_next (exec_decimatorOutput hm o ho) ⟨hy ▸ hval, hy ▸ hstrm, hovr, hcount, outs_decimOutput⟩

theorem does_decimatorOutput_energy (n : Fin 8) (hk : eKind s n ≠ 0) : Does (.decimatorOutput o) s (fun t =>
    (epDead s n = true → Tab.get 0 t.mtr.power n = 0 ∧ Tab.get 0 t.mtr.frac (2 * n) = Tab.get 0 s.mtr.frac (2 * n))
    ∧ (epDead s n = false →
      let p := (epPower t n).1
      let j := 2 * n.val + b2n (decide (p < 0))
      let e := ((if p < 0 then -p else p) * 4294967296 / 72 + 1 / 2).floor.toNat + Tab.get 0 s.mtr.frac j
      Tab.get 0 t.mtr.power n = nearest p ∧ Tab.get 0 t.mtr.frac j = e % 4294967296
        ∧ (e / 4294967296 ≠ 0 → p ≠ 0 →
            (⟨s.tmp.chain, nextEdge s, n, decide (p < 0), s.mtr.irc, e / 4294967296⟩ : Inc) ∈ t.mtr.pend))) := by
  have hkind : eKind (channelsDone o s) n ≠ 0 := by rwa [same_channels (eKind · n)]
  have hdead : epDead (channelsDone o s) n = epDead s n := epDead_congr (same_channels (·.sec)) dead_channelsDone n
  have hfrac : (channelsDone o s).mtr.frac = s.mtr.frac := same_channels (·.mtr.frac)
  obtain ⟨hpower, hfr, hpend⟩ := energyView_eq (o := o) (s := s)
  refine does_next (exec_decimatorOutput hm o ho) ⟨fun hd => ?_, fun hd => ?_⟩
  · obtain ⟨hzero, hkeep⟩ := energyLoop_dead n.isLt hkind (hdead.trans hd)
    rw [hpower, hfr, hzero, hkeep _ (by omega), hfrac]
    exact ⟨rfl, rfl⟩
  · obtain ⟨hpow, hcarry, hinc⟩ := energyLoop_live n.isLt hkind (hdead.trans hd)
    have he : ∀ p, energyOf n (channelsDone o s) p = energyOf n s p := fun p => energyOf_congr (by rw [hfrac])
    have hincs : ∀ p, incOf n (channelsDone o s) p = incOf n s p := fun p => by
      rw [incOf, incOf, he, nextEdge_channelsDone, same_channels (·.tmp.chain), same_channels (·.mtr.irc)]
    rw [he] at hcarry
    rw [he, hincs] at hinc
    rw [epPower_decimOutput, hpower, hfr, hpend]
    exact ⟨hpow, hcarry, hinc⟩

theorem does_decimatorOutput_chips (k : Fin 4) (hk : pilChan s k ≠ none) : Does (.decimatorOutput o) s (fun t =>
    ChipTurn (pilChip s k) (pilLine s k) (pilLine t k)) := by
  refine does_next (exec_decimatorOutput hm o ho) ?_
  have hfig := onlyFigures_rcDone o s
  have hbefore : OnlyLines (rcOutput (clockMarked (sumsDone o s))) (eachUpTo k pilStep (rcOutput (clockMarked (sumsDone o s)))) :=
    onlyLines_eachUpTo onlyLines_pilStep k _
  have hline : pilLine (eachUpTo k pilStep (rcOutput (clockMarked (sumsDone o s)))) k = pilLine s k :=
    (eachUpTo_frame (pilLine · k) k pilStep _ fun i t hi => pilLine_pilStep_ne (by omega) t).trans
      ((hfig.same (pilLine · k)).trans (same_channels (pilLine · k)))
  have hchan : ∀ j, pilChan (eachUpTo k pilStep (rcOutput (clockMarked (sumsDone o s)))) j = pilChan s j := fun j =>
    (hbefore.same (pilChan · j)).trans ((hfig.same (pilChan · j)).trans (same_channels (pilChan · j)))
  have hchip : pilChip (eachUpTo k pilStep (rcOutput (clockMarked (sumsDone o s)))) k = pilChip s k :=
    (hbefore.same (pilChip · k)).trans ((hfig.same (pilChip · k)).trans (same_channels (pilChip · k)))
  have hturn := chipTurn_pilStep (s := eachUpTo k pilStep (rcOutput (clockMarked (sumsDone o s)))) k.isLt (by rwa [hchan])
  rw [hchip, hline] at hturn
  rwa [decimOutput_eq, eachUpTo_at (pilLine · k) k.isLt pilStep _ fun i t _ h => pilLine_pilStep_ne (Ne.symm h) t]

theorem does_decimatorOutput_dead (c : Fin 16) (hu : cUse s c ≠ 0) (hd : (chan s c).dead = true) : Does (.decimatorOutput o) s (fun t =>
    (chan t c).val = (chan s c).val ∧ (chan t c).dead = true
      ∧ (chan t c).run = if o.trans.getLsbD c then (chan s c).run + 1 else 0) := by
  refine does_next (exec_decimatorOutput hm o ho) ?_
  have htemp := onlyTemp_before (o := o) (s := s) c.isLt
  rw [chan_decimOutput, chan_channelsDone_dead c.isLt hu hd]
  exact ⟨htemp.same (·.val), (htemp.same (·.dead)).trans hd, by rw [withInput, htemp.same (·.run)]⟩

theorem does_decimatorOutput_residual {c : Nat} (hc : rcChannel s = some c) (hd : (chan s c).dead = false) :
    Does (.decimatorOutput o) s (fun t => (Tab.get ⟨0, none⟩ t.strm 52).val = Config.demodulate (chan t c).hist) := by
  refine does_next (exec_decimatorOutput hm o ho) ?_
  have hfig := ((onlyFigures_energyDone o s).trans (onlyFigures_sumsDone o s)).trans (onlyFigures_clockMarked _)
  have hchan : chan (clockMarked (sumsDone o s)) c = chan (channelsDone o s) c := hfig.same (chan · c)
  have hrun : rcOutput (clockMarked (sumsDone o s)) =
      strmPut 52 (Config.demodulate (chan (channelsDone o s) c).hist) (clockMarked (sumsDone o s)) := by
    rw [← hchan]
    refine rcOutput_some (((hfig.same rcChannel).trans (same_channels rcChannel)).trans hc) ?_
    rw [hchan, dead_channelsDone, hd]
  rw [chan_decimOutput, (onlyLines_decimOutput o s).same (·.strm), hrun, strm_strmPut_self _ _ _ _ (by decide)]

theorem does_decimatorOutput_sensor (k : Fin 8) (v : Int) (hi : o.i2c = [(k, v)]) : Does (.decimatorOutput o) s (fun t =>
    (Tab.get ⟨0, none⟩ t.mtr.i2c k) = if s.mtr.i2cMask.testBit k then Tab.get ⟨0, none⟩ s.mtr.i2c k else ⟨v, some s.tmp.now⟩) := by
  refine does_next (exec_decimatorOutput hm o ho) ?_
  rw [← i2c_sensorTake, (onlyLines_decimOutput o s).same (·.mtr.i2c), (onlyFigures_rcDone o s).same (·.mtr.i2c),
    (onlyChannels_channelsDone o s).same (·.mtr.i2c), outCounted, (onlyChannels_tempsTaken o s).same (·.mtr.i2c), hi, i2cTake_cons, i2cTake_nil]

omit hm ho in
theorem does_decimatorOutput_none (h : outputsMax s ≤ s.mtr.outs) : Does (.decimatorOutput o) s (fun t => t = s) :=
  does_next (congrArg Host.Outcome.next (if_neg fun hrun => by omega)) rfl

end

/-- Settles O22, clause by clause: the output of the decimation chain stage by stage, then silence, temperatures, chips and pilot blocks. Rounding
and demodulation are the model's own (log entries 40 and 183). -/
theorem meterChannels : Obligations.MeterChannels := fun _ c hm =>
  ⟨fun o ho hu hd => does_decimatorOutput_live hm o ho c hu hd,
    fun o n ho hk => does_decimatorOutput_energy hm o ho n hk,
    fun o k ho hk => (does_decimatorOutput_chips hm o ho k hk).imp fun _ h => ⟨h.goesOn, h.released, h.next⟩,
    fun o ho hu hd => does_decimatorOutput_dead hm o ho c hu hd,
    fun o ho hc hd => does_decimatorOutput_residual hm o ho hc hd,
    fun o k v ho hi => does_decimatorOutput_sensor hm o ho k v hi,
    fun o h => does_decimatorOutput_none o h,
    fun equal mis hu h => does_channelDead hm c equal mis hu h,
    fun equal mis he hmis => does_channelDead_none hm c equal mis he hmis,
    fun hd hr => does_channelRecovered hm c hd hr,
    fun h => does_channelRecovered_none c h,
    fun hr ht hs hu => does_tempTableUpdate hm c hr ht hs hu,
    fun h => does_tempTableUpdate_none h,
    fun hu ht h => does_tstale hm c hu ht h,
    fun h => does_tstale_none c h,
    fun _ hr hb h => does_trangeClear hm c hr hb h,
    fun h => does_trangeClear_none c h,
    fun k hk hd => does_pilotSequenceDraw hm k hk hd,
    fun hd => does_pilotSequenceDraw_none hd,
    fun hp hsec ho hb hr hbad hn ha hrr => does_pilotBlock_good hm c hp hsec ho hb hr hbad hn ha hrr,
    fun hp hsec ho hb h => does_pilotBlock_spoilt hm c hp hsec ho hb h,
    fun h => does_pilotBlock_none h⟩

end Sys2Proof.Machine

end

section

/-! SUPPORT. The registers and records of the AC intake (R239, R243, R244), and the summation error of an energy point (R245). -/

namespace Sys2Proof.Machine

/-! ### The records of grid events (R244) -/

/-- The addresses of the registers that a grid event reaches: its record, and the flags with their counter. -/
def gridWords : List Nat := [0x10090004, 0x10090008, 0x10090050, 0x10090054, 0x10090058, 0x1009005C]

/-- The state with other registers, other grid events under way and other records handed over. -/
def gridsPut (regs : Tbl Nat) (grid : Vector (Option GridEv) 4) (recs : List (Nat × Nat × Nat × Nat × Nat)) (s : State) : State :=
  { s with regs := regs, mtr.grid := grid, bil.gridIn := recs }

/-- From s to t only grid events, their records and the registers that show them may have changed. -/
structure OnlyGrid (s t : State) : Prop where
  rest : ∃ regs grid recs, t = gridsPut regs grid recs s
  regs : ∀ f, fldWord f ∉ gridWords → rget t f = rget s f

namespace OnlyGrid

variable {s t u : State}

theorem refl (s : State) : OnlyGrid s s := ⟨⟨s.regs, s.mtr.grid, s.bil.gridIn, rfl⟩, fun _ _ => rfl⟩

theorem trans (h : OnlyGrid s t) (k : OnlyGrid t u) : OnlyGrid s u := by
  obtain ⟨⟨_, _, _, rfl⟩, hr⟩ := h
  obtain ⟨⟨_, _, _, rfl⟩, kr⟩ := k
  exact ⟨⟨_, _, _, rfl⟩, fun f hf => (kr f hf).trans (hr f hf)⟩

/-- What looks at none of the parts that may change is the same. -/
theorem same (h : OnlyGrid s t) {α : Type} (p : State → α)
    (hp : ∀ u regs grid recs, p (gridsPut regs grid recs u) = p u := by exact fun _ _ _ _ => rfl) : p t = p s := by
  obtain ⟨⟨regs, grid, recs, rfl⟩, -⟩ := h
  exact hp s regs grid recs

theorem foldl {f : State → Nat → State} (h : ∀ t k, OnlyGrid t (f t k)) (l : List Nat) (s : State) : OnlyGrid s (l.foldl f s) := by
  induction l generalizing s with
  | nil => exact .refl s
  | cons k l ih => exact (h s k).trans (ih _)

end OnlyGrid

theorem onlyGrid_rput {f : Fld} (hf : fldWord f ∈ gridWords) (v : Nat) (s : State) : OnlyGrid s (rput f v s) :=
  ⟨⟨_, s.mtr.grid, s.bil.gridIn, rfl⟩, fun g hg => rget_rput_ne f g v s (fkey_ne_of_fldWord fun e => hg (e ▸ hf))⟩

theorem onlyGrid_raiseMtr {f : Fld} (hf : f ∈ mtrFlags) (s : State) : OnlyGrid s (raiseMtr f s) := by
  have hr := (flagsRise_raiseMtr hf s).other
  refine ⟨?_, fun g hg => hr g fun h => hg ?_⟩
  · rw [raiseMtr_eq hf s]
    exact ⟨_, s.mtr.grid, s.bil.gridIn, rfl⟩
  · rcases h with h | h <;> rw [h] <;> decide

theorem onlyGrid_gridPut (k : Nat) (e : Option GridEv) (s : State) : OnlyGrid s (gridPut k e s) :=
  ⟨⟨s.regs, _, s.bil.gridIn, rfl⟩, fun _ _ => rfl⟩

theorem onlyGrid_gridHand (typ ph start ext dur : Nat) (s : State) : OnlyGrid s (gridHand typ ph start ext dur s) :=
  ⟨⟨s.regs, s.mtr.grid, _, rfl⟩, fun _ _ => rfl⟩

section

variable (typ ph start ext dur : Nat) (s : State)

theorem onlyGrid_gridShow : OnlyGrid s (gridShow typ ph start ext dur s) :=
  (onlyGrid_rput (by decide) _ s).trans <| (onlyGrid_rput (by decide) _ _).trans <| (onlyGrid_rput (by decide) _ _).trans <|
    (onlyGrid_rput (by decide) _ _).trans <| (onlyGrid_rput (by decide) _ _).trans (onlyGrid_rput (by decide) _ _)

theorem gridShow_mtr : (gridShow typ ph start ext dur s).mtr = s.mtr := rfl

theorem gridShow_bil : (gridShow typ ph start ext dur s).bil = s.bil := rfl

theorem rget_gridShow_dur : rget (gridShow typ ph start ext dur s) F.MTR_GRIDEV3_DUR = dur % 2 ^ 32 := rget_rput_self ..

theorem rget_gridShow_type : rget (gridShow typ ph start ext dur s) F.MTR_GRIDEV0_TYPE = typ % 2 ^ 4 := by
  unfold gridShow
  rw [rget_rput_ne _ _ _ _ (by decide), rget_rput_ne _ _ _ _ (by decide), rget_rput_ne _ _ _ _ (by decide),
    rget_rput_ne _ _ _ _ (by decide), rget_rput_ne _ _ _ _ (by decide), rget_rput_self]
  rfl

end

/-! ### Events that start, go on and end (R243, R244) -/

theorem onlyGrid_gridStart (k typ pm : Nat) (s : State) : OnlyGrid s (gridStart k typ pm s) :=
  (onlyGrid_gridPut k _ s).trans (onlyGrid_gridShow ..)

theorem onlyGrid_gridRenew (k : Nat) (e : GridEv) (s : State) : OnlyGrid s (gridRenew k e s) := by
  have hput := onlyGrid_gridPut k (some e) s
  unfold gridRenew
  dsimp only
  split
  · exact hput.trans (onlyGrid_gridShow ..)
  · exact hput

theorem onlyGrid_gridEnd (k : Nat) (e : GridEv) (s : State) : OnlyGrid s (gridEnd k e s) :=
  (((onlyGrid_gridPut k none s).trans (onlyGrid_gridShow ..)).trans (onlyGrid_gridHand ..)).trans (onlyGrid_raiseMtr (by decide) _)

theorem onlyGrid_gridPhase (k pm : Nat) (s : State) : OnlyGrid s (gridPhase k pm s) := by
  unfold gridPhase
  split
  · split
    · exact .refl s
    · exact onlyGrid_gridStart ..
  · split
    · exact onlyGrid_gridRenew ..
    · split
      · dsimp only
        split
        · exact onlyGrid_gridEnd ..
        · exact (onlyGrid_gridEnd ..).trans (onlyGrid_gridStart ..)
      · exact onlyGrid_gridRenew ..

theorem onlyGrid_gridSplit (e : GridEv) (s : State) : OnlyGrid s (gridSplit e s) :=
  (onlyGrid_gridPut 3 none s).trans (.foldl (fun t k => onlyGrid_gridPut k _ t) _ _)

theorem onlyGrid_gridPhases (p : Nat → Nat) (s : State) : OnlyGrid s ((List.range 3).foldl (fun u k => gridPhase k (p k) u) s) :=
  .foldl (fun u k => onlyGrid_gridPhase k (p k) u) _ s

theorem onlyGrid_gridEval (s : State) : OnlyGrid s (gridEval s) := by
  unfold gridEval
  dsimp only
  split
  · exact .refl s
  · split
    · exact .refl s
    · split
      · exact onlyGrid_gridPhase ..
      · split
        · split
          · exact onlyGrid_gridRenew ..
          · split
            · exact (onlyGrid_gridSplit _ s).trans (onlyGrid_gridPhases _ _)
            · split
              · exact onlyGrid_gridEnd ..
              · exact onlyGrid_gridRenew ..
        · split
          · exact onlyGrid_gridStart ..
          · exact onlyGrid_gridPhases _ s

theorem gridAt_gridPut {k : Nat} (hk : k < 4) (e : Option GridEv) (s : State) : gridAt (gridPut k e s) k = e := Tab.get_upd_self _ _ _ _ hk

theorem gridType_lt (s : State) (k : Nat) : gridType s k < 4 := by
  unfold gridType
  split
  · decide
  · split
    · decide
    · split <;> decide

/-- An event that starts is under way, and the registers show it as one without an end. -/
theorem gridStart_spec {k : Nat} (hk : k < 4) {typ : Nat} (ht : typ < 4) (pm : Nat) (s : State) :
    gridAt (gridStart k typ pm s) k = some ⟨typ, s.tmp.chain, pm⟩ ∧ rget (gridStart k typ pm s) F.MTR_GRIDEV0_TYPE = typ
      ∧ rget (gridStart k typ pm s) F.MTR_GRIDEV3_DUR = 0 := by
  refine ⟨?_, ?_, rget_gridShow_dur ..⟩
  · rw [gridStart, gridAt, gridShow_mtr]
    exact gridAt_gridPut hk _ s
  · rw [gridStart, rget_gridShow_type]
    exact Nat.mod_eq_of_lt (by omega)

/-- An event that ends is no longer under way, and its record is handed over. -/
theorem gridEnd_spec {k : Nat} (hk : k < 4) (e : GridEv) (s : State) :
    gridAt (gridEnd k e s) k = none ∧ rget (gridEnd k e s) F.MTR_FLAGS_GRIDEV = 1
      ∧ (gridEnd k e s).bil.gridIn = s.bil.gridIn ++ [(e.typ, k, e.ext, e.start, (s.tmp.chain - e.start) / 1000000)] := by
  refine ⟨?_, rget_raiseMtr (by decide) _, ?_⟩
  · rw [gridEnd, gridAt, raiseMtr, raise_mtr, gridHand, gridShow_mtr]
    exact gridAt_gridPut hk none s
  · rw [gridEnd, raiseMtr_eq (by decide), gridHand, gridShow_bil]
    rfl

theorem gridPhase_of_none {s : State} {k : Nat} (h : gridAt s k = none) (ht : gridType s k ≠ 0) (pm : Nat) :
    gridPhase k pm s = gridStart k (gridType s k) pm s := by
  unfold gridPhase
  simp only [h]
  exact if_neg ht

theorem gridPhase_of_back {s : State} {k : Nat} {e : GridEv} (h : gridAt s k = some e) (ht : gridType s k = 0)
    (hb : gridBack s e.typ k = true) (pm : Nat) : gridPhase k pm s = gridEnd k e s := by
  unfold gridPhase
  simp [h, ht, hb]

/-! ### A record without an end of its own (R241, R242, R244) -/

theorem gridAlert_eq (typ : Nat) (s : State) : gridAlert typ s =
    gridHand typ 3 s.tmp.chain ((freeNat s).1 % 65536) 0 (gridShow typ 3 s.tmp.chain ((freeNat s).1 % 65536) 0 (freeNat s).2) := rfl

theorem rget_gridAlert {f : Fld} (hf : fldWord f ∉ gridWords) (typ : Nat) (s : State) : rget (gridAlert typ s) f = rget s f := by
  rw [gridAlert_eq]
  exact ((onlyGrid_gridShow ..).trans (onlyGrid_gridHand ..)).regs f hf

theorem gridAlert_mtr (typ : Nat) (s : State) : (gridAlert typ s).mtr = s.mtr := by
  rw [gridAlert_eq, gridHand, gridShow_mtr]
  rfl

theorem length_gridAlert (typ : Nat) (s : State) : (gridAlert typ s).bil.gridIn.length = s.bil.gridIn.length + 1 := by
  rw [gridAlert_eq, gridHand, gridShow_bil]
  exact List.length_append

/-- A record without an end leaves the flags. -/
theorem raiseMtr_gridAlert {f : Fld} (hf : f ∈ mtrFlags) (typ : Nat) (s : State) : rget (raiseMtr f (gridAlert typ s)) f = 1
    ∧ (raiseMtr f (gridAlert typ s)).bil.gridIn.length = s.bil.gridIn.length + 1 ∧ (raiseMtr f (gridAlert typ s)).mtr = s.mtr
    ∧ ∀ g, fldWord g ∉ gridWords → rget (raiseMtr f (gridAlert typ s)) g = rget s g := by
  refine ⟨rget_raiseMtr hf _, ?_, ?_, fun g hg => ((onlyGrid_raiseMtr hf _).regs g hg).trans (rget_gridAlert hg typ s)⟩
  · rw [raiseMtr_eq hf]
    exact length_gridAlert typ s
  · rw [raiseMtr, raise_mtr, gridAlert_mtr]

/-! ### The refresh of the RMS (R239) -/

/-- The mean square of an AC channel over the last n values. -/
def msTurn (n c : Nat) (t : State) : State := if acUse (cUse t c) then onChan c (fun k => { k with ms := meanSq k.hist n }) t else t

/-- The mean squares refreshed. -/
def msRefreshed (s : State) : State := eachUpTo 16 (msTurn (cycleLen s)) s

theorem rmsUpdate_eq (s : State) : rmsUpdate s = rmsWatch (gridEval (rmsPut (msRefreshed s))) := rfl

theorem onlyChannels_msTurn (n c : Nat) (t : State) : OnlyChannels t (msTurn n c t) := by
  unfold msTurn
  split
  · exact onlyChannels_onChan c _ t
  · exact .refl t

theorem onlyChannels_msRefreshed (s : State) : OnlyChannels s (msRefreshed s) := .eachUpTo (onlyChannels_msTurn _) s

theorem chan_msTurn_ne {c i : Nat} (h : c ≠ i) (n : Nat) (t : State) : chan (msTurn n i t) c = chan t c := by
  unfold msTurn
  split
  · exact chan_onChan_ne h _ t
  · rfl

theorem ms_msRefreshed {s : State} {c : Nat} (hc : c < 16) (hu : acUse (cUse s c) = true) :
    (chan (msRefreshed s) c).ms = meanSq (chan s c).hist (cycleLen s) := by
  have hbefore : OnlyChannels s (eachUpTo c (msTurn (cycleLen s)) s) := .eachUpTo (onlyChannels_msTurn _) s
  have hsame : chan (eachUpTo c (msTurn (cycleLen s)) s) c = chan s c :=
    eachUpTo_frame (chan · c) c (msTurn (cycleLen s)) s fun i t hi => chan_msTurn_ne (by omega) _ t
  rw [msRefreshed, eachUpTo_at (chan · c) hc _ s fun i t _ h => chan_msTurn_ne (Ne.symm h) _ t, msTurn,
    if_pos (by rwa [hbefore.same (cUse · c)]), chan_onChan_self hc, hsame]

theorem Tab.upd_of_eq {α : Type} {n : Nat} {d : α} {v : Vector α n} {i : Nat} {f : α → α} (h : f (Tab.get d v i) = Tab.get d v i) :
    Tab.upd v i f = v := by
  unfold Tab.upd
  split
  case isTrue hi =>
    simp only [Tab.get, hi, dite_true] at h
    rw [h, Vector.set_getElem_self]
  case isFalse => rfl

/-- Mean squares that are those of the last cycle already stay as they are. -/
theorem msRefreshed_of_fresh {s : State}
    (h : ∀ c ∈ List.range 16, acUse (cUse s c) = true → (chan s c).ms = meanSq (chan s c).hist (cycleLen s)) : msRefreshed s = s := by
  have hturn : ∀ c < 16, msTurn (cycleLen s) c s = s := fun c hc => by
    unfold msTurn
    split
    case isTrue hu =>
      have hk : { chan s c with ms := meanSq (chan s c).hist (cycleLen s) } = chan s c := by rw [← h c (List.mem_range.mpr hc) hu]
      rw [onChan, Tab.upd_of_eq (d := Chan.reset) hk]
    case isFalse => rfl
  have hloop : ∀ n ≤ 16, eachUpTo n (msTurn (cycleLen s)) s = s := fun n => by
    induction n with
    | zero => exact fun _ => rfl
    | succ n ih =>
      intro hn
      rw [eachUpTo_succ, ih (by omega), hturn n (by omega)]
  exact hloop 16 le_rfl

/-- The RMS of one channel of energy point n in its register; p pairs the place of the channel in the point's record with the register. -/
def rmsOne (f : Nat → Fld) (d n : Nat) (t : State) (p : Nat × Nat) : State := rput (f p.2) (isqrt ((chan t (eCh t n p.1)).ms / d)) t

/-- The RMS of the channels of an energy point put into their registers. -/
def rmsShow (f : Nat → Fld) (d n : Nat) (l : List (Nat × Nat)) (s : State) : State := l.foldl (rmsOne f d n) s

theorem rmsShow_cons (f : Nat → Fld) (d n : Nat) (p : Nat × Nat) (l : List (Nat × Nat)) (s : State) :
    rmsShow f d n (p :: l) s = rmsShow f d n l (rmsOne f d n s p) := by
  rw [rmsShow, List.foldl_cons, rmsShow]

theorem rput_only_regs (f : Fld) (v : Nat) (s : State) : ∃ regs, rput f v s = { s with regs := regs } := ⟨_, rfl⟩

theorem rmsPut_none {s : State} (h : epAc s = none) : rmsPut s = s := by
  unfold rmsPut
  simp only [h]

theorem rmsPut_some {s : State} {n : Nat} (h : epAc s = some n) : rmsPut s =
    rmsShow F.MTR_IRMS_RMS 655360000 n ((if eKind s n = 2 then [3, 4, 5, 6] else [1]).zip (List.range 4))
      (rmsShow F.MTR_VRMS_RMS 6553600 n ((if eKind s n = 2 then [0, 1, 2] else [0]).zip (List.range 3)) s) := by
  unfold rmsPut
  simp only [h]
  rfl

theorem rmsShow_regs (f : Nat → Fld) (d n : Nat) (l : List (Nat × Nat)) (s : State) : ∃ regs, rmsShow f d n l s = { s with regs := regs } := by
  induction l generalizing s with
  | nil => exact ⟨s.regs, rfl⟩
  | cons p l ih =>
    rw [rmsShow_cons, rmsOne]
    obtain ⟨regs, e⟩ := rput_only_regs (f p.2) (isqrt ((chan s (eCh s n p.1)).ms / d)) s
    rw [e]
    exact ih { s with regs := regs }

theorem rmsPut_regs (s : State) : ∃ regs, rmsPut s = { s with regs := regs } := by
  cases h : epAc s with
  | none => exact ⟨s.regs, rmsPut_none h⟩
  | some n =>
    rw [rmsPut_some h]
    obtain ⟨r1, e1⟩ := rmsShow_regs F.MTR_VRMS_RMS 6553600 n ((if eKind s n = 2 then [0, 1, 2] else [0]).zip (List.range 3)) s
    obtain ⟨r2, e2⟩ := rmsShow_regs F.MTR_IRMS_RMS 655360000 n ((if eKind s n = 2 then [3, 4, 5, 6] else [1]).zip (List.range 4))
      { s with regs := r1 }
    rw [e1, e2]
    exact ⟨r2, rfl⟩

theorem rget_rmsShow_ne {f : Nat → Fld} {g : Fld} {l : List (Nat × Nat)} (h : ∀ p ∈ l, fkey g ≠ fkey (f p.2)) (d n : Nat) (s : State) :
    rget (rmsShow f d n l s) g = rget s g := by
  induction l generalizing s with
  | nil => rfl
  | cons p l ih =>
    obtain ⟨hp, hl⟩ := List.forall_mem_cons.mp h
    rw [rmsShow_cons, ih hl]
    exact rget_rput_ne _ _ _ _ hp

theorem rget_rmsPut_vrms {s : State} {n : Nat} (h : epAc s = some n) :
    rget (rmsPut s) (F.MTR_VRMS_RMS 0) = isqrt ((chan s (eCh s n 0)).ms / 6553600) % 2 ^ 32 := by
  have hphases : ∃ l, (if eKind s n = 2 then [0, 1, 2] else [0]).zip (List.range 3) = (0, 0) :: l
      ∧ ∀ p ∈ l, fkey (F.MTR_VRMS_RMS 0) ≠ fkey (F.MTR_VRMS_RMS p.2) := by
    split
    · exact ⟨[(1, 1), (2, 2)], rfl, by decide⟩
    · exact ⟨[], rfl, by decide⟩
  have hcurrents : ∀ p ∈ (if eKind s n = 2 then [3, 4, 5, 6] else [1]).zip (List.range 4),
      fkey (F.MTR_VRMS_RMS 0) ≠ fkey (F.MTR_IRMS_RMS p.2) := by
    split <;> decide
  obtain ⟨l, hl, hne⟩ := hphases
  rw [rmsPut_some h, rget_rmsShow_ne hcurrents, hl, rmsShow_cons, rget_rmsShow_ne hne]
  exact rget_rput_self ..

/-- What the watch over the RMS leaves alone: the channels, the registers, the grid events and their records. -/
theorem rmsWatch_keeps (s : State) : (∀ c, chan (rmsWatch s) c = chan s c) ∧ (∀ f, rget (rmsWatch s) f = rget s f)
    ∧ (∀ k, gridAt (rmsWatch s) k = gridAt s k) ∧ (rmsWatch s).bil = s.bil :=
  ⟨fun _ => rfl, fun _ => rfl, fun _ => rfl, rfl⟩

/-! ### The neutral sum (R245) -/

section

variable (n : Nat) (b : Bool) (s : State)

theorem sumErrPut_same {α : Type} (p : State → α) (hp : ∀ u regs seen code, p (faultsPut regs seen code u) = p u := by exact fun _ _ _ _ => rfl)
    (hs : ∀ u sum, p { u with mtr.sum := sum } = p u := by exact fun _ _ => rfl) : p (sumErrPut n b s) = p s :=
  (withFaults_same p _ _ s hp).trans (hs _ _)

theorem sumSt_sumErrPut_self (hn : n < 8) : sumSt (sumErrPut n b s) n = { sumSt s n with err := b } :=
  (withFaults_same (sumSt · n) _ _ s).trans (Tab.get_upd_self _ _ _ _ hn)

theorem sumSt_sumErrPut_ne {i : Nat} (h : i ≠ n) : sumSt (sumErrPut n b s) i = sumSt s i :=
  (withFaults_same (sumSt · i) _ _ s).trans (Tab.get_upd_ne _ _ _ _ _ h)

end

/-- SUMERR of point n becomes b where the condition holds. -/
def sumTurn (cond : Nat → State → Bool) (b : Bool) (n : Nat) (t : State) : State := if cond n t then sumErrPut n b t else t

/-- A loop over the points in which each point's turn looks at its own sum, the layout and the time: SUMERR of point n afterwards. -/
theorem err_sumTurns {cond : Nat → State → Bool} {b : Bool} {s : State} {n : Nat} (hn : n < 8)
    (h : ∀ t, t.sec = s.sec → t.tmp = s.tmp → sumSt t n = sumSt s n → cond n t = cond n s) :
    (sumSt (eachUpTo 8 (sumTurn cond b) s) n).err = if cond n s then b else (sumSt s n).err := by
  have hother : ∀ i t, i ≠ n → sumSt (sumTurn cond b i t) n = sumSt t n := fun i t hi => by
    unfold sumTurn
    split
    · exact sumSt_sumErrPut_ne i b t (Ne.symm hi)
    · rfl
  refine eachUpTo_brings hn (sumTurn cond b) (Q := fun t => t.sec = s.sec ∧ t.tmp = s.tmp ∧ sumSt t n = sumSt s n)
    (P := fun t => (sumSt t n).err = if cond n s then b else (sumSt s n).err) ⟨rfl, rfl, rfl⟩ ?_ ?_ ?_
  · rintro i t hi ⟨hsec, htmp, hsum⟩
    refine ⟨?_, ?_, (hother i t (by omega)).trans hsum⟩ <;> unfold sumTurn <;> split
    · exact (sumErrPut_same i b t (·.sec)).trans hsec
    · exact hsec
    · exact (sumErrPut_same i b t (·.tmp)).trans htmp
    · exact htmp
  · rintro t ⟨hsec, htmp, hsum⟩
    rw [sumTurn, h t hsec htmp hsum, ← hsum]
    split
    · rw [sumSt_sumErrPut_self n b t hn]
    · rfl
  · intro i t hi ht
    rwa [hother i t (by omega)]

end Sys2Proof.Machine

end

section

/-! SUPPORT and O23. The AC intake, the summation error and the pulses (R239–R247). -/

namespace Sys2Proof.Machine

/-! ### RMS and grid events (R239, R243, R244) -/

section

variable {s : State}

theorem exec_rmsUpdate (hm : mtrOn s = true) (he : epAc s ≠ none) : exec .rmsUpdate s = .next (rmsUpdate s) :=
  congrArg Host.Outcome.next (if_pos (by rw [hm, Option.isSome_iff_ne_none.mpr he]; rfl))

theorem chan_regs (regs : Tbl Nat) (t : State) (c : Nat) : chan { t with regs := regs } c = chan t c := rfl

theorem chan_rmsUpdate (c : Nat) : chan (rmsUpdate s) c = chan (msRefreshed s) c := by
  obtain ⟨hchan, -, -, -⟩ := rmsWatch_keeps (gridEval (rmsPut (msRefreshed s)))
  obtain ⟨regs, e⟩ := rmsPut_regs (msRefreshed s)
  rw [rmsUpdate_eq, hchan, (onlyGrid_gridEval _).same (chan · c), e, chan_regs]

theorem rget_rmsUpdate_vrms {n : Nat} (h : epAc s = some n) :
    rget (rmsUpdate s) (F.MTR_VRMS_RMS 0) = isqrt ((chan (rmsUpdate s) (eCh s n 0)).ms / 6553600) % 2 ^ 32 := by
  obtain ⟨-, hreg, -, -⟩ := rmsWatch_keeps (gridEval (rmsPut (msRefreshed s)))
  have href := onlyChannels_msRefreshed s
  rw [chan_rmsUpdate, rmsUpdate_eq, hreg, (onlyGrid_gridEval _).regs _ (by decide), rget_rmsPut_vrms ((href.same epAc).trans h),
    href.same (eCh · n 0)]

theorem does_rmsUpdate (hm : mtrOn s = true) (c : Fin 16) (he : epAc s ≠ none) (hu : acUse (cUse s c) = true) :
    Does .rmsUpdate s (fun t => (chan t c).ms = meanSq (chan s c).hist (cycleLen s)
      ∧ ∀ n ∈ (epAc s).toList, eCh s n 0 = c.val → rget t (F.MTR_VRMS_RMS 0) = isqrt ((chan t c).ms / 6553600) % 2 ^ 32) := by
  refine does_next (exec_rmsUpdate hm he) ⟨?_, fun n hn hc => ?_⟩
  · rw [chan_rmsUpdate, ms_msRefreshed c.isLt hu]
  · rw [rget_rmsUpdate_vrms (Option.mem_toList.mp hn), hc]

theorem does_rmsUpdate_none (he : epAc s = none) : Does .rmsUpdate s (fun t => t = s) :=
  does_next (congrArg Host.Outcome.next (if_neg (by simp [he]))) rfl

/-- Where the mean squares are fresh, a single-phase intake has its phase evaluated, with the RMS shown besides. -/
theorem rmsUpdate_single {n : Nat} (he : epAc s = some n) (hk : eKind s n ≠ 2) (hu : tUnom s ≠ 0)
    (hms : ∀ c ∈ List.range 16, acUse (cUse s c) = true → (chan s c).ms = meanSq (chan s c).hist (cycleLen s)) :
    ∃ regs, rmsUpdate s = rmsWatch (gridPhase 0 (phasePm s 0) { s with regs := regs }) := by
  obtain ⟨regs, e⟩ := rmsPut_regs s
  refine ⟨regs, ?_⟩
  have hep : epAc { s with regs := regs } = some n := he
  have hunom : tUnom { s with regs := regs } ≠ 0 := hu
  have hkind : (eKind { s with regs := regs } n != 2) = true := bne_iff_ne.mpr hk
  have hgrid : gridEval { s with regs := regs } = gridPhase 0 (phasePm s 0) { s with regs := regs } := by
    unfold gridEval
    simp only [hep]
    rw [if_neg hunom, if_pos hkind]
    rfl
  rw [rmsUpdate_eq, msRefreshed_of_fresh hms, e, hgrid]

theorem does_rmsUpdate_grid (hm : mtrOn s = true) (n : Nat) (he : epAc s = some n) (hk : eKind s n ≠ 2) (hu : tUnom s ≠ 0)
    (hms : ∀ c ∈ List.range 16, acUse (cUse s c) = true → (chan s c).ms = meanSq (chan s c).hist (cycleLen s)) :
    Does .rmsUpdate s (fun t =>
      (gridAt s 0 = none → gridType s 0 ≠ 0 → gridAt t 0 = some ⟨gridType s 0, s.tmp.chain, phasePm s 0⟩
        ∧ rget t F.MTR_GRIDEV0_TYPE = gridType s 0 ∧ rget t F.MTR_GRIDEV3_DUR = 0)
      ∧ (∀ e ∈ (gridAt s 0).toList, gridType s 0 = 0 → gridBack s e.typ 0 = true → gridAt t 0 = none
        ∧ rget t F.MTR_FLAGS_GRIDEV = 1
        ∧ t.bil.gridIn = s.bil.gridIn ++ [(e.typ, 0, e.ext, e.start, (s.tmp.chain - e.start) / 1000000)])) := by
  obtain ⟨regs, hrun⟩ := rmsUpdate_single he hk hu hms
  refine does_next (exec_rmsUpdate hm (by simp [he])) ?_
  rw [hrun]
  constructor
  · intro hnone ht
    obtain ⟨-, hreg, hat, -⟩ := rmsWatch_keeps (gridPhase 0 (phasePm s 0) { s with regs := regs })
    rw [hreg, hreg, hat, gridPhase_of_none (s := { s with regs := regs }) (k := 0) hnone ht]
    exact gridStart_spec (by decide) (gridType_lt s 0) _ { s with regs := regs }
  · intro e hmem ht hb
    obtain ⟨-, hreg, hat, hbil⟩ := rmsWatch_keeps (gridPhase 0 (phasePm s 0) { s with regs := regs })
    rw [hreg, hat, hbil, gridPhase_of_back (s := { s with regs := regs }) (k := 0) (Option.mem_toList.mp hmem) ht hb]
    exact gridEnd_spec (by decide) e { s with regs := regs }

end

/-! ### Crossings and frequency (R240) -/

section

variable {s : State}

/-- A crossing kept with those before it and shown, where there is one. -/
def crossingShown (s : State) : Option Nat → State
  | some x => rput F.MTR_ZCHI_TIME (x / 4294967296) (rput F.MTR_ZCLO_TIME (x % 4294967296) { s with mtr.zc := (x :: s.mtr.zc).take 11 })
  | none => s

theorem crossingShown_some (s : State) (x : Nat) : (crossingShown s (some x)).mtr.zc = (x :: s.mtr.zc).take 11
    ∧ rget (crossingShown s (some x)) F.MTR_ZCLO_TIME = x % 2 ^ 32 ∧ rget (crossingShown s (some x)) F.MTR_ZCHI_TIME = x / 2 ^ 32 % 2 ^ 32 := by
  refine ⟨rfl, ?_, rget_rput_self ..⟩
  rw [crossingShown, rget_rput_ne _ _ _ _ (by decide), rget_rput_self]
  exact Nat.mod_mod _ _

theorem exec_zeroCrossing (hm : mtrOn s = true) (t0 : Nat) {c : Nat} (hv : vaChan s = some c) (hp : phaseBelow s 0 200 = false) :
    exec (.zeroCrossing t0) s = .next (crossingShown s (crossingAt t0 (chan s c).hist)) := by
  have hexec : exec (.zeroCrossing t0) s = execZeroCrossing t0 s := rfl
  have hrun : mtrOn s = true ∧ (!phaseBelow s 0 200) = true := ⟨hm, by rw [hp]; rfl⟩
  rw [hexec, execZeroCrossing]
  simp only [hv]
  rw [if_pos hrun]
  cases crossingAt t0 (chan s c).hist <;> rfl

theorem does_zeroCrossing (hm : mtrOn s = true) (c t0 : Nat) (hv : vaChan s = some c) (hp : phaseBelow s 0 200 = false) :
    Does (.zeroCrossing t0) s (fun t =>
      let b := Config.fundamental (chan s c).hist
      let a := Config.fundamental ((chan s c).hist.drop 1)
      let x := (((t0 : Int) - 50000 * b / (b - a) - 718050 - Config.fundDelay + 5) / 10 * 10).toNat
      (a < 0 → 0 ≤ b → t.mtr.zc = (x :: s.mtr.zc).take 11 ∧ rget t F.MTR_ZCLO_TIME = x % 2 ^ 32
        ∧ rget t F.MTR_ZCHI_TIME = x / 2 ^ 32 % 2 ^ 32)
      ∧ (0 ≤ a ∨ b < 0 → t = s)) := by
  refine does_next (exec_zeroCrossing hm t0 hv hp) ⟨fun ha hb => ?_, fun h => ?_⟩
  · have hx : crossingAt t0 (chan s c).hist = some _ := if_pos ⟨ha, hb⟩
    rw [hx]
    exact crossingShown_some s _
  · have hx : crossingAt t0 (chan s c).hist = none := if_neg fun hc => by omega
    rw [hx]
    rfl

theorem does_zeroCrossing_none (t0 : Nat) (h : vaChan s = none ∨ phaseBelow s 0 200 = true) : Does (.zeroCrossing t0) s (fun t => t = s) := by
  refine does_next rfl ?_
  rcases h with h | h
  · simp only [h]
  · split
    · exact if_neg (by simp [h])
    · rfl

theorem does_freqUpdate (hm : mtrOn s = true) (a b : Nat) (ha : s.mtr.zc[0]? = some a) (hb : s.mtr.zc[10]? = some b) (hlt : b < a)
    (hp : phaseBelow s 0 200 = false) (hd : freqDue s = true) : Does .freqUpdate s (fun t =>
      (Tab.get ⟨0, none⟩ t.strm 62).val = ((10000000000000 + (a - b) / 2) / (a - b) : Nat)
        ∧ rget t F.MTR_FREQ_FREQ = (10000000000000 + (a - b) / 2) / (a - b) % 2 ^ 16 ∧ t.mtr.freqAt = some s.tmp.now) := by
  have hrun : mtrOn s = true ∧ (!phaseBelow s 0 200) = true ∧ b < a ∧ freqDue s = true := ⟨hm, by rw [hp]; rfl, hlt, hd⟩
  refine ⟨_, rfl, ?_⟩
  simp only [ha, hb]
  rw [if_pos hrun]
  refine ⟨?_, rget_rput_self .., rfl⟩
  exact congrArg Stream.val (strm_strmPut_self 62 _ s ⟨0, none⟩ (by decide))

theorem does_freqUpdate_none (h : s.mtr.zc.length ≤ 10 ∨ phaseBelow s 0 200 = true ∨ freqDue s = false) :
    Does .freqUpdate s (fun t => t = s) := by
  refine does_next rfl ?_
  split
  case h_1 a b _ hb =>
    refine if_neg ?_
    rintro ⟨-, hp, -, hd⟩
    obtain ⟨hlen, -⟩ := List.getElem?_eq_some_iff.mp hb
    rcases h with h | h | h
    · omega
    · simp [h] at hp
    · exact Bool.false_ne_true (h.symm.trans hd)
  case h_2 => rfl

end

/-! ### Phase sequence (R241) -/

section

variable {s : State}

/-- Five cycles, decided in time. -/
abbrev fiveCycles (cyc : List (Int × Int)) (s : State) (u : Nat) : Prop := cyc.length = 5 ∧ sinceT s u ≤ 2000

/-- The sequence that the cycles decide: 1 forward, 2 reverse, 0 unknown. -/
def seqOf (cyc : List (Int × Int)) (s : State) (u : Nat) : Nat :=
  if fiveCycles cyc s u ∧ ∀ p ∈ cyc, 90 ≤ p.1 ∧ p.1 ≤ 150 ∧ 90 ≤ p.2 ∧ p.2 ≤ 150 then 1
  else if fiveCycles cyc s u ∧ ∀ p ∈ cyc, 210 ≤ p.1 ∧ p.1 ≤ 270 ∧ 210 ≤ p.2 ∧ p.2 ≤ 270 then 2 else 0

/-- The sequence put into its register, and an alert for a reverse one. -/
def seqPut (q : Nat) (s : State) : State :=
  if q = 2 then raiseMtr F.MTR_FLAGS_SEQREV (gridAlert 5 (rput F.MTR_STATUS_SEQ q s)) else rput F.MTR_STATUS_SEQ q s

/-- Every angle lies within 30 degrees of a. -/
def anglesNear (cyc : List (Int × Int)) (a : Int) : Bool :=
  cyc.all (fun p => (decide (a - 30 ≤ p.1) && decide (p.1 ≤ a + 30)) && (decide (a - 30 ≤ p.2) && decide (p.2 ≤ a + 30)))

theorem near_iff (cyc : List (Int × Int)) (s : State) (u : Nat) {a lo hi : Int} (hlo : a - 30 = lo) (hhi : a + 30 = hi) :
    (fiveCycles cyc s u ∧ ∀ p ∈ cyc, lo ≤ p.1 ∧ p.1 ≤ hi ∧ lo ≤ p.2 ∧ p.2 ≤ hi)
      ↔ ((decide (cyc.length = 5) && decide (sinceT s u ≤ 2000)) && anglesNear cyc a) = true := by
  simp only [fiveCycles, anglesNear, hlo, hhi, Bool.and_eq_true, decide_eq_true_eq, List.all_eq_true, and_assoc]

theorem seqOf_eq (cyc : List (Int × Int)) (s : State) (u : Nat) : seqOf cyc s u =
    if (decide (cyc.length = 5) && decide (sinceT s u ≤ 2000)) && anglesNear cyc 120 then 1
    else if (decide (cyc.length = 5) && decide (sinceT s u ≤ 2000)) && anglesNear cyc 240 then 2 else 0 :=
  if_congr (near_iff cyc s u rfl rfl) rfl (if_congr (near_iff cyc s u rfl rfl) rfl rfl)

theorem exec_phaseSequenceDecided (hm : mtrOn s = true) (cyc : List (Int × Int)) {u : Nat} (hu : s.mtr.seqFrom = some u) :
    exec (.phaseSequenceDecided cyc) s = .next (seqPut (seqOf cyc s u) s) := by
  have hexec : exec (.phaseSequenceDecided cyc) s = execPhaseSequenceDecided cyc s := rfl
  rw [hexec, execPhaseSequenceDecided, seqOf_eq]
  simp only [hu]
  rw [if_pos ⟨hm, rfl⟩]
  rfl

theorem rget_seqPut {q : Nat} (hq : q < 4) (s : State) : rget (seqPut q s) F.MTR_STATUS_SEQ = q := by
  have hput : rget (rput F.MTR_STATUS_SEQ q s) F.MTR_STATUS_SEQ = q := (rget_rput_self ..).trans (Nat.mod_eq_of_lt hq)
  unfold seqPut
  split
  · obtain ⟨-, -, -, hother⟩ := raiseMtr_gridAlert (f := F.MTR_FLAGS_SEQREV) (by decide) 5 (rput F.MTR_STATUS_SEQ q s)
    rw [hother _ (by decide), hput]
  · exact hput

theorem does_phaseSequenceDecided (hm : mtrOn s = true) (cyc : List (Int × Int)) (u : Nat) (hu : s.mtr.seqFrom = some u) :
    Does (.phaseSequenceDecided cyc) s (fun t =>
      let five := cyc.length = 5 ∧ sinceT s u ≤ 2000
      let fwd := five ∧ ∀ p ∈ cyc, 90 ≤ p.1 ∧ p.1 ≤ 150 ∧ 90 ≤ p.2 ∧ p.2 ≤ 150
      let rev := five ∧ ∀ p ∈ cyc, 210 ≤ p.1 ∧ p.1 ≤ 270 ∧ 210 ≤ p.2 ∧ p.2 ≤ 270
      (fwd → rget t F.MTR_STATUS_SEQ = 1)
      ∧ (rev → rget t F.MTR_STATUS_SEQ = 2 ∧ rget t F.MTR_FLAGS_SEQREV = 1 ∧ t.bil.gridIn.length = s.bil.gridIn.length + 1)
      ∧ (¬fwd ∧ ¬rev → rget t F.MTR_STATUS_SEQ = 0)) := by
  refine does_next (exec_phaseSequenceDecided hm cyc hu) ⟨fun hfwd => ?_, fun hrev => ?_, fun ⟨hfwd, hrev⟩ => ?_⟩
  · rw [seqOf, if_pos hfwd, rget_seqPut (by decide)]
  · have hnot : ¬(fiveCycles cyc s u ∧ ∀ p ∈ cyc, 90 ≤ p.1 ∧ p.1 ≤ 150 ∧ 90 ≤ p.2 ∧ p.2 ≤ 150) := by
      rintro ⟨⟨hlen, -⟩, hnear⟩
      obtain ⟨p, hp⟩ : ∃ p, p ∈ cyc := List.exists_mem_of_length_pos (by omega)
      obtain ⟨-, hle, -⟩ := hnear p hp
      obtain ⟨hge, -⟩ := hrev.2 p hp
      omega
    obtain ⟨hflag, hlen, -, -⟩ := raiseMtr_gridAlert (f := F.MTR_FLAGS_SEQREV) (by decide) 5 (rput F.MTR_STATUS_SEQ 2 s)
    rw [seqOf, if_neg hnot, if_pos hrev, rget_seqPut (by decide), seqPut, if_pos rfl]
    exact ⟨rfl, hflag, hlen⟩
  · rw [seqOf, if_neg hfwd, if_neg hrev, rget_seqPut (by decide)]

theorem does_phaseSequenceDecided_none (cyc : List (Int × Int)) (h : s.mtr.seqFrom = none) :
    Does (.phaseSequenceDecided cyc) s (fun t => t = s) :=
  does_next (congrArg Host.Outcome.next (if_neg (by simp [h]))) rfl

end

/-! ### Missing neutral (R242) -/

section

variable {s : State} (ep : Fin 8) (u : Nat)

theorem ranFor_some {t : Option Nat} {u n : Nat} (ht : t = some u) : ranFor s t n = decide (n ≤ sinceT s u) := by rw [ht]; rfl

theorem does_missingNeutral (hm : mtrOn s = true) (he : epAc s = some ep.val) (hu : s.mtr.missAt = some u) (h : 4001 ≤ sinceT s u)
    (hn : rget s F.MTR_STATUS_MISSN = 0) : Does (.missingNeutral ep) s (fun t =>
      rget t F.MTR_STATUS_MISSN = 1 ∧ rget t F.MTR_FLAGS_MISSN = 1
        ∧ t.bil.gridIn.length = s.bil.gridIn.length + 1 ∧ t.mtr.missStart = s.tmp.chain) := by
  have hrun : (mtrOn s && epAc s == some ep.val && ranFor s s.mtr.missAt 4001 && !rbit s F.MTR_STATUS_MISSN) = true := by
    simp [hm, he, ranFor_some hu, h, rbit, hn]
  obtain ⟨hflag, hlen, hmtr, hother⟩ := raiseMtr_gridAlert (f := F.MTR_FLAGS_MISSN) (by decide) 4
    { rput F.MTR_STATUS_MISSN 1 s with mtr.missStart := s.tmp.chain }
  refine does_next (congrArg Host.Outcome.next (if_pos hrun)) ⟨?_, hflag, hlen, by rw [hmtr]⟩
  rw [hother _ (by decide)]
  exact (rget_congr (s := rput F.MTR_STATUS_MISSN 1 s) _ rfl).trans (rget_rput_self ..)

theorem does_missingNeutral_none (h : epAc s ≠ some ep.val ∨ s.mtr.missAt = none ∨ (s.mtr.missAt = some u ∧ sinceT s u ≤ 4000)
    ∨ rget s F.MTR_STATUS_MISSN = 1) : Does (.missingNeutral ep) s (fun t => t = s) := by
  refine does_next (congrArg Host.Outcome.next (if_neg ?_)) rfl
  rcases h with h | h | ⟨h, hage⟩ | h
  · simp [h]
  · simp [h, ranFor]
  · simp [ranFor_some h, Nat.not_le.mpr (Nat.lt_succ_of_le hage)]
  · simp [rbit, h]

theorem rget_missEnd (t : State) (f : Fld) (hf : fkey f ≠ fkey F.MTR_GRIDEV3_DUR) : rget (missEnd t) f = rget t f := by
  unfold missEnd
  split
  · exact rget_rput_ne _ _ _ _ hf
  · rfl

theorem does_missingNeutralClear (hm : mtrOn s = true) (he : epAc s = some ep.val) (hu : s.mtr.missOff = some u) (h : 4000 ≤ sinceT s u)
    (hn : rget s F.MTR_STATUS_MISSN = 1) : Does (.missingNeutralClear ep) s (fun t =>
      rget t F.MTR_STATUS_MISSN = 0
        ∧ (rget s F.MTR_GRIDEV0_TYPE = 4 → rget s F.MTR_GRIDEV3_DUR = 0 →
            rget t F.MTR_GRIDEV3_DUR = (s.tmp.chain - s.mtr.missStart) / 1000000 % 2 ^ 32)) := by
  have hrun : mtrOn s = true ∧ epAc s = some ep.val ∧ ranFor s s.mtr.missOff 4000 = true ∧ rbit s F.MTR_STATUS_MISSN = true :=
    ⟨hm, he, by rw [ranFor_some hu]; exact decide_eq_true h, by rw [rbit, hn]; rfl⟩
  refine does_next (congrArg Host.Outcome.next (if_pos hrun)) ⟨?_, fun ht hd => ?_⟩
  · rw [rget_missEnd _ _ (by decide)]
    exact rget_rput_self ..
  · have hshown : rget (rput F.MTR_STATUS_MISSN 0 s) F.MTR_GRIDEV0_TYPE = 4 ∧ rget (rput F.MTR_STATUS_MISSN 0 s) F.MTR_GRIDEV3_DUR = 0 := by
      rw [rget_rput_ne _ _ _ _ (by decide), rget_rput_ne _ _ _ _ (by decide)]
      exact ⟨ht, hd⟩
    rw [missEnd, if_pos hshown]
    exact rget_rput_self ..

theorem does_missingNeutralClear_none (h : epAc s ≠ some ep.val ∨ s.mtr.missOff = none ∨ (s.mtr.missOff = some u ∧ sinceT s u < 4000)
    ∨ rget s F.MTR_STATUS_MISSN = 0) : Does (.missingNeutralClear ep) s (fun t => t = s) := by
  refine does_next (congrArg Host.Outcome.next (if_neg ?_)) rfl
  rintro ⟨-, he, hran, hbit⟩
  rcases h with h | h | ⟨h, hage⟩ | h
  · exact h he
  · simp [h, ranFor] at hran
  · rw [ranFor_some h, decide_eq_true_eq] at hran
    omega
  · simp [rbit, h] at hbit

end

/-! ### SUMERR (R245) -/

section

variable {s : State} (hm : mtrOn s = true) (n : Fin 8)

/-- A point of four channels has a neutral sum beyond its limit. -/
def sumOver (n : Nat) (t : State) : Bool := decide (eKind t n = 2 ∧ sumLimit t n < (sumSt t n).ms)

/-- A point of four channels has had SUMERR and a sum within its limit for 10 s. -/
def sumBack (n : Nat) (t : State) : Bool := decide (eKind t n = 2 ∧ (sumSt t n).err = true ∧ ranFor t (sumSt t n).ok 200000 = true)

theorem eKind_congr {t : State} (hsec : t.sec = s.sec) (n : Nat) : eKind t n = eKind s n := by rw [eKind, tU8, Machine.sec, hsec]; rfl

theorem sumLimit_congr {t : State} (hsec : t.sec = s.sec) (n : Nat) : sumLimit t n = sumLimit s n := by
  unfold sumLimit eIconf tSumPct tU8 Machine.sec
  rw [hsec]

theorem sumOver_congr {t : State} (hsec : t.sec = s.sec) {n : Nat} (hsum : sumSt t n = sumSt s n) : sumOver n t = sumOver n s := by
  simp only [sumOver, eKind_congr hsec, sumLimit_congr hsec, hsum]

theorem sumBack_congr {t : State} (hsec : t.sec = s.sec) (htmp : t.tmp = s.tmp) {n : Nat} (hsum : sumSt t n = sumSt s n) :
    sumBack n t = sumBack n s := by
  have hran : ∀ o m, ranFor t o m = ranFor s o m := fun o m => by
    unfold ranFor sinceT
    rw [htmp]
  simp only [sumBack, eKind_congr hsec, hsum, hran]

theorem sumTurn_over : (fun n t => if eKind t n = 2 ∧ sumLimit t n < (sumSt t n).ms then sumErrPut n true t else t) = sumTurn sumOver true := by
  funext n t
  simp only [sumTurn, sumOver, decide_eq_true_eq]

theorem sumTurn_back : (fun n t => if eKind t n = 2 ∧ (sumSt t n).err ∧ ranFor t (sumSt t n).ok 200000 then sumErrPut n false t else t)
    = sumTurn sumBack false := by
  funext n t
  simp only [sumTurn, sumBack, decide_eq_true_eq]

include hm

theorem exec_sumerr : exec .sumerr s = .next (eachUpTo 8 (sumTurn sumOver true) s) := by
  rw [← sumTurn_over]
  exact congrArg Host.Outcome.next (if_pos hm)

theorem exec_sumerrClear : exec .sumerrClear s = .next (eachUpTo 8 (sumTurn sumBack false) s) := by
  rw [← sumTurn_back]
  exact congrArg Host.Outcome.next (if_pos hm)

theorem does_sumerr : Does .sumerr s (fun t => (sumSt t n).err
    = ((sumSt s n).err || decide (eKind s n = 2 ∧ (eIconf s n * tSumPct s * 256) ^ 2 < (sumSt s n).ms))) := by
  refine does_next (exec_sumerr hm) ?_
  have hlimit : (eIconf s n * tSumPct s * 256) ^ 2 = sumLimit s n := sq _
  rw [err_sumTurns n.isLt fun t hsec _ hsum => sumOver_congr hsec hsum, hlimit]
  change (if sumOver n s = true then true else (sumSt s n).err) = ((sumSt s n).err || sumOver n s)
  cases sumOver n s <;> simp

theorem does_sumerrClear : Does .sumerrClear s (fun t => (sumSt t n).err
    = ((sumSt s n).err && !(decide (eKind s n = 2) && ranFor s (sumSt s n).ok 200000))) := by
  refine does_next (exec_sumerrClear hm) ?_
  rw [err_sumTurns n.isLt fun t hsec htmp hsum => sumBack_congr hsec htmp hsum]
  have hback : sumBack n s = ((sumSt s n).err && (decide (eKind s n = 2) && ranFor s (sumSt s n).ok 200000)) := by
    simp [sumBack, Bool.and_left_comm]
  rw [hback]
  cases (sumSt s n).err <;> cases decide (eKind s n = 2) && ranFor s (sumSt s n).ok 200000 <;> rfl

end

/-! ### Pulses (R246, R247) -/

section

variable {s : State}

theorem does_pulseOutput (hm : mtrOn s = true) (hd : 0 < s.mtr.poDue) (ha : s.mtr.poAt ≠ some s.tmp.now) :
    Does .pulseOutput s (fun t => t.mtr.poDue = s.mtr.poDue - 1 ∧ t.mtr.poRem = s.mtr.poHigh ∧ t.mtr.poAt = some s.tmp.now
      ∧ (0 < s.mtr.poHigh → po0Level t = (tU8 s 0x11 == 1)) ∧ rget t F.PER_POCNT_COUNT = (rget s F.PER_POCNT_COUNT + 1) % 2 ^ 32) := by
  refine does_next (congrArg Host.Outcome.next (if_pos ⟨hm, hd, ha⟩)) ⟨rfl, rfl, rfl, fun hh => ?_, ?_⟩
  · have hlevel : (decide (0 < s.mtr.poHigh) == (tU8 s 0x11 == 1)) = (tU8 s 0x11 == 1) := by
      rw [decide_eq_true hh, Bool.true_beq]
    exact hlevel
  · rw [rget_rput_ne _ _ _ _ (by decide)]
    exact rget_rput_self ..

theorem does_pulseOutput_none (h : s.mtr.poDue = 0 ∨ s.mtr.poAt = some s.tmp.now) : Does .pulseOutput s (fun t => t = s) := by
  refine does_next (congrArg Host.Outcome.next (if_neg ?_)) rfl
  rintro ⟨-, hd, ha⟩
  rcases h with h | h
  · omega
  · exact ha h

theorem does_pulseInput (hm : mtrOn s = true) (k : Fin 4) (hi lo : Nat) : Does (.pulseInput k hi lo) s (fun t =>
    rget t (F.PER_PICNT_COUNT k) =
      if rbit s (F.PER_PICFG_EN k) = true ∧ max 10 (rget s (F.PER_PICFG_MINW k)) ≤ min hi lo
      then (rget s (F.PER_PICNT_COUNT k) + 1) % 2 ^ 32 else rget s (F.PER_PICNT_COUNT k)) := by
  have hon : s.pwr.safeOn = true := (Bool.and_eq_true_iff.mp hm).2
  have hcond : (s.pwr.safeOn = true ∧ rbit s (F.PER_PICFG_EN k) = true ∧ max 10 (rget s (F.PER_PICFG_MINW k)) ≤ hi
      ∧ max 10 (rget s (F.PER_PICFG_MINW k)) ≤ lo)
      ↔ rbit s (F.PER_PICFG_EN k) = true ∧ max 10 (rget s (F.PER_PICFG_MINW k)) ≤ min hi lo := by
    rw [le_min_iff]
    exact and_iff_right hon
  by_cases h : rbit s (F.PER_PICFG_EN k) = true ∧ max 10 (rget s (F.PER_PICFG_MINW k)) ≤ min hi lo
  · refine does_next (congrArg Host.Outcome.next (if_pos (hcond.mpr h))) ?_
    rw [if_pos h]
    exact rget_rput_self ..
  · refine does_next (congrArg Host.Outcome.next (if_neg (mt hcond.mp h))) ?_
    rw [if_neg h]

theorem does_picntWrite (k : Fin 4) (v : Word) (pulse : Bool) : Does (.picntWrite k v pulse) s (fun t =>
    rget t (F.PER_PICNT_COUNT k) = (v.toNat + b2n pulse) % 2 ^ 32) := does_next rfl (rget_rput_self ..)

end

/-- Settles O23, clause by clause: the intake's RMS and its events, crossings and frequency, the phase sequence, missing neutral, SUMERR and
the pulses. -/
theorem meterGridAndPulses : Obligations.MeterGridAndPulses := fun _ hm =>
  ⟨fun c he hu => does_rmsUpdate hm c he hu,
    fun he => does_rmsUpdate_none he,
    fun n he hk hu hms => does_rmsUpdate_grid hm n he hk hu hms,
    fun c t0 hv hp => does_zeroCrossing hm c t0 hv hp,
    fun t0 h => does_zeroCrossing_none t0 h,
    fun a b ha hb hlt hp hd => does_freqUpdate hm a b ha hb hlt hp hd,
    fun h => does_freqUpdate_none h,
    fun cyc u hu => does_phaseSequenceDecided hm cyc u hu,
    fun cyc h => does_phaseSequenceDecided_none cyc h,
    fun ep u he hu h hn => does_missingNeutral ep u hm he hu h hn,
    fun ep u h => does_missingNeutral_none ep u h,
    fun ep u he hu h hn => does_missingNeutralClear ep u hm he hu h hn,
    fun ep u h => does_missingNeutralClear_none ep u h,
    fun n => does_sumerr hm n,
    fun n => does_sumerrClear hm n,
    fun hd ha => does_pulseOutput hm hd ha,
    fun h => does_pulseOutput_none h,
    fun k hi lo => does_pulseInput hm k hi lo,
    fun k v pulse => does_picntWrite k v pulse⟩

end Sys2Proof.Machine

end
